-- ==== Sys2Proof/Word.lean ====
section
/-!
DEFINITION. The word types of the TOR9640: every register is one 32-bit word (R2), TIME and every
stamp are 64 bits (R175), flash and SRAM are kept byte by byte.
-/
namespace Sys2Proof

/-- One register word (R2). -/
abbrev Word := BitVec 32

/-- One byte of flash, SRAM, TCM or a frame. -/
abbrev Byte := BitVec 8

/-- A TIME value or a stamp: whole seconds in [63:32], binary fraction in [31:0] (R175). -/
abbrev Stamp := BitVec 64

end Sys2Proof
end

