-- ==== Sys2Proof/Syntax.lean ====
section
/-!
DEFINITION. The commands: one constructor of `Instr` for each row of the opcode table. A register
command names the master and the word written; an operation command names its slot; an event command
names what it happens to and carries what the outside world supplies (a sample, a reply, a frame). A
Gleaner instruction command names the thread: its fields are those of the program-store word at the
thread's program counter.
-/
namespace Sys2Proof

/-- The five masters (chapter 02, Masters and the owner). -/
inductive Master where
  | core | hspi | htw | radio | debug
  deriving DecidableEq, Repr

/-- The nine islands, in the bit order of RST_REC.ISLANDS (R93). -/
inductive Island where
  | aon | sense | granary | flash | core | field | radio | host | crib
  deriving DecidableEq, Repr

/-- A byte a UART takes in, and whether it came while DE was asserted (R119). -/
structure HeardByte where
  byte : Byte
  driven : Bool := false
  deriving DecidableEq, Repr

/-- Who pushes into a queue: a master, a Gleaner thread, or a block of the device (R242). -/
inductive Producer where
  | master (m : Master)
  | thread (t : Fin 16)
  | block
  deriving DecidableEq, Repr

/-- What a converter takes in: bits of a sigma-delta modulator with whether the input lies beyond full
scale, or the input voltage of a SAR sample in nV (R108, R156). -/
inductive Reading where
  | bits (l : List Bool) (ovr : Bool)
  | volts (nanovolts : Int)
  deriving DecidableEq, Repr


/-- What a supervision pass measures at an antenna port (R316): the driver current in mA, whether the driver's
current limit tripped, and the averaged reception's amplitude, phase in steps, and I/Q word. -/
structure AntMeas where
  itx : Nat
  trip : Bool
  amp : BitVec 16
  phase : BitVec 8
  iq : Word
  deriving DecidableEq, Repr

/-- What a tuning sweep finds at an antenna port (R330): the best TUNE, its distance in phase steps, and the
amplitude and phase there. -/
structure TuneMeas where
  tune : BitVec 5
  off : Nat
  amp : BitVec 16
  phase : BitVec 8
  deriving DecidableEq, Repr

/-- What an ATS or ATQB offers (R333, R334, R339): CID allowed, FSCI, FWI, and as masks of 212, 424 and 848 kbit/s the rates
DS and DR beside 106. -/
structure CardL4 where
  cid : Bool
  fsci : BitVec 4
  fwi : BitVec 4
  ds : BitVec 3
  dr : BitVec 3
  deriving DecidableEq, Repr

/-- A Type A card in the field: UID, ATQA, SAK, its ATS if it offers ISO/IEC 14443-4, and whether it is HALTed and answers
WUPA only. -/
structure CardA where
  uid : List (BitVec 8)
  atqa : BitVec 16
  sak : BitVec 8
  l4 : Option CardL4
  halted : Bool
  deriving DecidableEq, Repr

/-- A Type B slot: empty, garbled, or an ATQB with its PUPI, application data and offers. -/
inductive SlotB where
  | empty
  | garbled
  | atqb (pupi : List (BitVec 8)) (data : Word) (l4 : CardL4)
  deriving DecidableEq, Repr

/-- What an activation meets: silence, Type A cards, the slots of one or two Type B rounds, or errors that
repeats do not mend; with the strongest antenna and the reply's level where there is one. -/
inductive CardReply where
  | silence
  | cards (l : List CardA) (ant : Fin 8) (rssi : BitVec 8)
  | slots (first second : List SlotB) (ant : Fin 8) (rssi : BitVec 8)
  | broken
  deriving DecidableEq, Repr

/-- A frame of a card or tag without its CRC: a response as it is, or a block of ISO/IEC 14443-4 (R341): an I-block with
its chaining and number, R(ACK), an S(WTX) request, an S(DESELECT) response. -/
inductive CardFrame where
  | raw (l : List (BitVec 8))
  | iBlock (chain num : Bool) (inf : List (BitVec 8))
  | rAck (num : Bool)
  | wtx (m : BitVec 6)
  | deselect
  deriving DecidableEq, Repr

/-- What the reader hears after one of its frames: nothing within the window, a CRC, coding or framing error, or a
frame. -/
inductive Heard where
  | silence
  | garbled
  | frame (f : CardFrame)
  deriving DecidableEq, Repr

/-- What an exchange hears, frame by frame and silence from then on, with the antenna that hears best and its level. -/
structure ExchReply where
  heard : List Heard
  ant : Fin 8
  rssi : BitVec 8
  deriving DecidableEq, Repr

/-- A tag that answers an inventory: UID, DSFID, its level at each of the eight receivers in 0.5 dB below full scale, the
end of the reply it is first decoded from, and the antennas whose field reaches it. -/
structure TagSeen where
  uid : BitVec 64
  dsfid : BitVec 8
  levels : List (BitVec 8)
  stamp : BitVec 64
  reached : BitVec 8
  deriving DecidableEq, Repr

/-- What joint demodulation measures where certain tags reply in one slot (R347): the three largest eigenvalues of the
receivers' covariance, the correlation of the two strongest coupling vectors in 1/65,536, and the tags whose recovered
reply passes its CRC, the strongest first. -/
structure JointSlot where
  tags : List Nat
  l1 : Nat
  l2 : Nat
  l3 : Nat
  corr : Nat
  good : List Nat
  deriving DecidableEq, Repr

/-- The waveforms a sync word can be found in (R367, R379, R380). -/
inductive AirWave where
  | ofdm | nb | tor4200
  deriving DecidableEq, Repr

/-- What the sync search has received of a new frame (R375, R376, R379, R380): its waveform, the values of its sync (an
OFDM SYNC symbol's 104 used subcarriers in ascending k; the 32 symbols of an NB sync; the last preamble symbol and the 16
sync symbols of a TOR4200 frame), and its frequency offset in mHz. -/
structure SyncHeard where
  wave : AirWave
  v : List (Int × Int)
  offset : Int
  deriving DecidableEq, Repr

/-- What the frame in progress has shown so far (R378): the power at RF_RX of each sample of its LTS, in 10^-18 W, none
before the LTS has ended or in NB mode; its SRC, if its header has passed; and, where no frame is in progress, whether the
link engine is in a backoff (R400). -/
structure FrameSoFar where
  lts : List Nat
  src : Option (BitVec 16)
  backoff : Bool
  deriving DecidableEq, Repr

/-- A frame as the receiver's antenna gives it (R377, R381): of an OFDM frame the two long training symbols and the header
and payload symbols, each as the values of the 104 used subcarriers in ascending k; of an NB or TOR4200 frame the samples at
half-symbol spacing, from the first preamble symbol. -/
inductive FrameHeard where
  | ofdm (y1 : List (Int × Int)) (y2 : List (Int × Int)) (symbols : List (List (Int × Int)))
  | nb (samples : List (Int × Int))
  deriving DecidableEq, Repr

/-- What the pre-distorter's training has captured of each frame (R384): the samples at the pre-distorter's input, and
those of the PA's output, 4,096 of which are used. -/
structure DpdCapture where
  frames : List (List (Int × Int) × List (Int × Int))
  deriving DecidableEq, Repr

/-- The channel's power that the receiver reads while the link engine listens, in 0.25 dBm, and whether the engine was in its
backoff or still in its listen (R400). -/
structure ChannelHeard where
  backoff : Bool
  power : BitVec 16
  deriving DecidableEq, Repr
/-- One part of a two-wire transaction in which the device is the target: bytes written to it, or the number of
bytes read from it (R498). -/
inductive TwoWirePart where
  | wrote (l : List (BitVec 8))
  | reads (n : Nat)
  deriving DecidableEq, Repr

/-- The commands of the opcode table, one constructor per row, in the table's order. -/
inductive Instr where
  /-- REGISTER_WRITE (R37): master m writes v to the register at word offset word of page. -/
  | registerWrite (m : Master) (page : BitVec 8) (word : BitVec 10) (v : Word)
  /-- AON_PROXY_ACCESS (R570): a read (no v) or a write of v that reaches an island that cannot take it. -/
  | aonProxyAccess (m : Master) (page : BitVec 8) (word : BitVec 10) (v : Option Word)
  /-- LOW_WORD_READ (R34): a read of the low word of a 64-bit pair. -/
  | lowWordRead (m : Master) (page : BitVec 8) (word : BitVec 10)
  /-- HIGH_WORD_READ (R34): a read of the high word of a 64-bit pair. -/
  | highWordRead (m : Master) (page : BitVec 8) (word : BitVec 10)
  /-- LOW_WORD_WRITE (R34): a write of the low word of a writable 64-bit pair. -/
  | lowWordWrite (m : Master) (page : BitVec 8) (word : BitVec 10) (v : Word)
  /-- HIGH_WORD_WRITE (R34): a write of the high word of a writable 64-bit pair. -/
  | highWordWrite (m : Master) (page : BitVec 8) (word : BitVec 10) (v : Word)
  /-- SRST (R569): a write of 1 to the page's CTL.SRST that leaves CTL.EN as it is. -/
  | srst (m : Master) (page : BitVec 8)
  /-- ERRC_CLR (R23): a write of 1 to the page's CTL.ERRC_CLR that leaves CTL.EN as it is. -/
  | errcClr (m : Master) (page : BitVec 8)
  /-- EVFLG_CLEAR (R35): a write of v to the page's EVFLG. -/
  | evflgClear (m : Master) (page : BitVec 8) (v : Word)
  /-- ACCESS_WRITE (R29): a write of v to the page's ACCESS. -/
  | accessWrite (m : Master) (page : BitVec 8) (v : Word)
  /-- BLOCK_READY (R82): the block of page finishes starting. -/
  | blockReady (page : BitVec 8)
  /-- BLOCK_START_FAIL (R82): the block of page passes its maximum start time. -/
  | blockStartFail (page : BitVec 8)
  /-- CLAIM (R41): master m writes v to OWN.CLAIM. -/
  | claim (m : Master) (v : Word)
  /-- CLAIM_WINDOW_CLOSE (R40): the open claim window closes. -/
  | claimWindowClose
  /-- LEASE (R42): master m writes v to OWN.LEASE. -/
  | lease (m : Master) (v : Word)
  /-- LEASE_LAPSE (R44): the lease runs out. -/
  | leaseLapse
  /-- HANDOVER (R46): master m writes v to OWN.HANDOVER. -/
  | handover (m : Master) (v : Word)
  /-- HO_EXPIRED (R47): the pending handover's 10 ms run out. -/
  | hoExpired
  /-- ACCEPT (R47): master m writes v to OWN.ACCEPT. -/
  | accept (m : Master) (v : Word)
  /-- OWN_RELEASE (R48): master m writes v to OWN.RELEASE. -/
  | ownRelease (m : Master) (v : Word)
  /-- AUDIT_FLUSH (R302): buffered audit entries are programmed. -/
  | auditFlush
  /-- OUT_POST (R55): master m writes v to MBOX box OUT_POST. -/
  | outPost (m : Master) (box : Fin 5) (v : Word)
  /-- OUT_TAKE (R55): master m writes v to MBOX box OUT_TAKE. -/
  | outTake (m : Master) (box : Fin 5) (v : Word)
  /-- IN_POST (R55): master m writes v to MBOX box IN_POST. -/
  | inPost (m : Master) (box : Fin 5) (v : Word)
  /-- IN_TAKE (R55): master m writes v to MBOX box IN_TAKE. -/
  | inTake (m : Master) (box : Fin 5) (v : Word)
  /-- DOORBELL (R63): master m writes v to OPS.DOORBELL. -/
  | doorbell (m : Master) (v : Word)
  /-- CANCEL (R68): master m writes v to OPS.CANCEL. -/
  | cancel (m : Master) (v : Word)
  /-- OPERATION_START (R65): the QUEUED operation of slot tag reaches its block. -/
  | operationStart (tag : Fin 128)
  /-- OPERATION_END (R67): the end of slot tag's operation reaches AON. -/
  | operationEnd (tag : Fin 128)
  /-- RECORD_PUSH (R58): the HELD slot with the earliest completion stamp places its record in Q0. -/
  | recordPush
  /-- POR (R76): the AON rail falls below its threshold. -/
  | por
  /-- POR_RELEASE (R76): the AON rail rises above its threshold. -/
  | porRelease
  /-- RESET_N_LOW (R87): RESET_N is driven low for a recognised pulse. -/
  | resetNLow
  /-- RESET_N_HIGH (R87): RESET_N rises. -/
  | resetNHigh
  /-- SYS_RST (R93): master m writes v to PMU.SYS_RST. -/
  | sysRst (m : Master) (v : Word)
  /-- SYSTEM_RELEASE (R87): the SYSTEM reset releases its islands. -/
  | systemRelease
  /-- ISL_RST (R88): master m writes v to PMU.ISL_RST. -/
  | islRst (m : Master) (v : Word)
  /-- ISLAND_RELEASE (R88): the oldest island reset in progress releases its islands. -/
  | islandRelease
  /-- OPTION_LOAD (R85): the option area's copies are read and the shadow is loaded. -/
  | optionLoad
  /-- CONFIG_IMAGE_LOAD (R519): the loader of the station configuration image takes its next step. -/
  | configImageLoad
  /-- VIN_LOW (R95): VIN falls below VIN_LOW. -/
  | vinLow
  /-- VIN_OK (R95): VIN rises above VIN_OK. -/
  | vinOk
  /-- VIN_CUT (R96): VIN falls below VIN_CUT. -/
  | vinCut
  /-- CRYSTAL_START (R78): the 32.768 kHz crystal starts. -/
  | crystalStart
  /-- TCXO_STABLE (R78): the TCXO becomes stable. -/
  | tcxoStable
  /-- PCFG_WRITE (R102): master m writes v to PCFG of port p. -/
  | pcfgWrite (m : Master) (p : Fin 64) (v : Word)
  /-- AUX_WRITE (R101): master m writes v to AUX of port p. -/
  | auxWrite (m : Master) (p : Fin 64) (v : Word)
  /-- XBAR_WRITE (R105): master m writes v to XBAR of converter cv (0 to 15 SD, 16 to 19 SAR). -/
  | xbarWrite (m : Master) (cv : Fin 20) (v : Word)
  /-- CONVERTER_SAMPLE (R108): converter cv delivers r to its lane. -/
  | converterSample (cv : Fin 20) (r : Reading)
  /-- LANE_OUTPUT (R157): the lane's inputs reach an output, which is delivered. -/
  | laneOutput (lane : Fin 24)
  /-- PULSE_EDGE (R113): an edge passes the glitch filter of PULSE port p. -/
  | pulseEdge (p : Fin 64) (rising : Bool)
  /-- PULSE_CAPTURE_TIMEOUT (R113): the PERIOD or WIDTH measurement of port p sees no edge for 2^24 ticks. -/
  | pulseCaptureTimeout (p : Fin 64) (width : Bool)
  /-- DIN_CHANGE (R114): the input of DIN port p changes to level. -/
  | dinChange (p : Fin 64) (level : Bool)
  /-- DEBOUNCE_EXPIRY (R114): the input of DIN port p has held its level for the debounce time. -/
  | debounceExpiry (p : Fin 64)
  /-- EXC_COMPLIANCE (R110): excitation source n exceeds its compliance, or no longer does. -/
  | excCompliance (n : Fin 4) (ovr : Bool)
  /-- REF_OVERLOAD (R111): reference output n exceeds 5 mA, or no longer does. -/
  | refOverload (n : Fin 2) (ovr : Bool)
  /-- CLAMP_TRIP (R120): the clamp current of port p exceeds TRIP_HI for 1 µs (hi) or TRIP_LO for LO_TIME. -/
  | clampTrip (p : Fin 64) (hi : Bool) (microamps : Nat)
  /-- SETTLE_EXPIRY (R121): the clamp current of port p has stayed below TRIP_LO for SETTLE. -/
  | settleExpiry (p : Fin 64)
  /-- SELF_TEST_END (R121): the self-test of port p passes (reason 0) or fails with a QREASON. -/
  | selfTestEnd (p : Fin 64) (reason : BitVec 4)
  /-- RETRY_INTERVAL_EXPIRY (R121): INTERVAL has passed since the failed self-test of port p. -/
  | retryIntervalExpiry (p : Fin 64)
  /-- CAL (R122): the CAL operation of slot tag calibrates its converters. -/
  | cal (tag : Fin 128)
  /-- PORT_TEST (R122): the PORT_TEST operation of slot tag ends its test with a QREASON, 0 for a pass. -/
  | portTest (tag : Fin 128) (reason : BitVec 4)
  /-- SPC_XFER (R122): the transfer at SPC unit u shifts its bytes and receives rx. -/
  | spcXfer (u : Fin 4) (rx : List Byte)
  /-- UART_XACT (R119): the transaction at UART unit u sends its bytes. -/
  | uartXact (u : Fin 4)
  /-- UART_EOF (R119): EOF of silence ends the reply at UART unit u (bad for a framing or parity error); reply is every byte its receiver took in. -/
  | uartEof (u : Fin 4) (reply : List HeardByte) (bad : Bool)
  /-- UART_REPLY_TIMEOUT (R119): no first reply byte came within TIMING.REPLY. -/
  | uartReplyTimeout (u : Fin 4)
  /-- TWC_XFER (R494): the transfer at TWC unit u runs: stuck tells that SDA was found low and whether clearing freed it, acked that every byte was acknowledged, rx what was read. -/
  | twcXfer (u : Fin 4) (stuck : Option Bool) (acked : Bool) (rx : List (BitVec 8))
  /-- RXD_READ (R125): master m reads RXD of unit u (0 to 3 TWC, 4 to 7 SPC, 8 to 11 UART). -/
  | rxdRead (m : Master) (u : Fin 12)
  /-- ILLEGAL (R136): thread t fetches an illegal word. -/
  | illegal (t : Fin 16)
  /-- NOP (R137): thread t issues NOP. -/
  | nop (t : Fin 16)
  /-- END (R130): thread t issues END. -/
  | endAct (t : Fin 16)
  /-- LDI (R137): thread t issues LDI. -/
  | ldi (t : Fin 16)
  /-- LUI (R137): thread t issues LUI. -/
  | lui (t : Fin 16)
  /-- RC (R137): thread t issues RC. -/
  | rc (t : Fin 16)
  /-- ADD (R137): thread t issues ADD. -/
  | add (t : Fin 16)
  /-- SUB (R137): thread t issues SUB. -/
  | sub (t : Fin 16)
  /-- AND (R137): thread t issues AND. -/
  | and (t : Fin 16)
  /-- OR (R137): thread t issues OR. -/
  | or (t : Fin 16)
  /-- XOR (R137): thread t issues XOR. -/
  | xor (t : Fin 16)
  /-- SHL (R137): thread t issues SHL. -/
  | shl (t : Fin 16)
  /-- SHR (R137): thread t issues SHR. -/
  | shr (t : Fin 16)
  /-- SRA (R137): thread t issues SRA. -/
  | sra (t : Fin 16)
  /-- MUL (R137): thread t issues MUL. -/
  | mul (t : Fin 16)
  /-- ADDI (R137): thread t issues ADDI. -/
  | addi (t : Fin 16)
  /-- ANDI (R137): thread t issues ANDI. -/
  | andi (t : Fin 16)
  /-- ORI (R137): thread t issues ORI. -/
  | ori (t : Fin 16)
  /-- SHLI (R137): thread t issues SHLI. -/
  | shli (t : Fin 16)
  /-- SHRI (R137): thread t issues SHRI. -/
  | shri (t : Fin 16)
  /-- SRAI (R137): thread t issues SRAI. -/
  | srai (t : Fin 16)
  /-- BEQ (R137): thread t issues BEQ. -/
  | beq (t : Fin 16)
  /-- BNE (R137): thread t issues BNE. -/
  | bne (t : Fin 16)
  /-- BLT (R137): thread t issues BLT. -/
  | blt (t : Fin 16)
  /-- BGE (R137): thread t issues BGE. -/
  | bge (t : Fin 16)
  /-- BLTU (R137): thread t issues BLTU. -/
  | bltu (t : Fin 16)
  /-- BGEU (R137): thread t issues BGEU. -/
  | bgeu (t : Fin 16)
  /-- JMP (R137): thread t issues JMP. -/
  | jmp (t : Fin 16)
  /-- JAL (R137): thread t issues JAL. -/
  | jal (t : Fin 16)
  /-- JR (R137): thread t issues JR. -/
  | jr (t : Fin 16)
  /-- WAIT (R137): thread t issues WAIT. -/
  | wait (t : Fin 16)
  /-- WAIT_EXPIRY (R137): the WAIT of thread t ends. -/
  | waitExpiry (t : Fin 16)
  /-- WEV (R137): thread t issues WEV. -/
  | wev (t : Fin 16)
  /-- WEV_TIMEOUT (R137): the WEV of thread t runs out. -/
  | wevTimeout (t : Fin 16)
  /-- STMP (R137): thread t issues STMP. -/
  | stmp (t : Fin 16)
  /-- CONV (R139): thread t issues CONV. -/
  | conv (t : Fin 16)
  /-- IN (R140): thread t issues IN. -/
  | inPort (t : Fin 16)
  /-- OUT (R140): thread t issues OUT. -/
  | outPort (t : Fin 16)
  /-- TAGRD (R141): thread t issues TAGRD. -/
  | tagrd (t : Fin 16)
  /-- BUS (R142): thread t issues BUS. -/
  | bus (t : Fin 16)
  /-- FEED (R145): thread t issues FEED. -/
  | feed (t : Fin 16)
  /-- PUSH (R144): thread t issues PUSH. -/
  | push (t : Fin 16)
  /-- PUSHR (R144): thread t issues PUSHR. -/
  | pushr (t : Fin 16)
  /-- LD (R137): thread t issues LD. -/
  | ld (t : Fin 16)
  /-- ST (R147): thread t issues ST. -/
  | st (t : Fin 16)
  /-- EVT (R146): thread t issues EVT. -/
  | evt (t : Fin 16)
  /-- BLOCKED_RESULT (R143): the result of the blocked instruction of thread t arrives. -/
  | blockedResult (t : Fin 16)
  /-- PERIODIC_DUE (R131): the periodic due time of thread t arrives. -/
  | periodicDue (t : Fin 16)
  /-- GLEANER_LOAD (R152): the LOAD operation of slot tag quiesces its threads. -/
  | gleanerLoad (tag : Fin 128)
  /-- LOAD_COPY (R152): every held thread is STOPPED and the program words are copied. -/
  | loadCopy
  /-- GLEANER_START (R151): the START operation of slot tag. -/
  | gleanerStart (tag : Fin 128)
  /-- GLEANER_STOP (R153): the STOP operation of slot tag. -/
  | gleanerStop (tag : Fin 128)
  /-- PDATA_READ (R155): master m reads GLEANER.PDATA. -/
  | pdataRead (m : Master)
  /-- ADMIT (R171): the ADMIT operation of slot tag. -/
  | admission (tag : Fin 128)
  /-- LANE_CHANGEOVER (R172): the lane changes over to its new configuration. -/
  | laneChangeover (lane : Fin 24)
  /-- COEF_DATA_WRITE (R164): master m writes v to COEF_DATA. -/
  | coefDataWrite (m : Master) (v : Word)
  /-- COEF_DATA_READ (R164): master m reads COEF_DATA. -/
  | coefDataRead (m : Master)
  /-- EPOCH_SET (R193): the EPOCH_SET operation of slot tag. -/
  | epochSet (tag : Fin 128)
  /-- SNAP (R183): the SNAP operation of slot tag, or the trigger held in the SNAP task input. -/
  | snap (tag : Option (Fin 128))
  /-- SNAP_READOUT_DONE (R184): the snapshot packet's readout ends. -/
  | snapReadoutDone
  /-- ALARM_FIRE (R186): TIME reaches alarm n. -/
  | alarmFire (n : Fin 4)
  /-- DISCIPLINE_START (R187): the conditions of discipline come to hold. -/
  | disciplineStart
  /-- DISCIPLINE_SAMPLE (R189): the beacon exchange last received from the parent is acted on. -/
  | disciplineSample
  /-- HOLDOVER_ENTRY (R189): a superframe without a sample ends, or the device is in GUARD. -/
  | holdoverEntry
  /-- WINNOW_INPUT (R207): Winnow takes the oldest input of its buffer. -/
  | winnowInput
  /-- WINNOW_TICK (R196): the next Winnow tick comes. -/
  | winnowTick
  /-- WINNOW_LOAD (R220): the LOAD operation of slot tag. -/
  | winnowLoad (tag : Fin 128)
  /-- WINNOW_EN_WRITE (R217): master m writes v to EN k. -/
  | winnowEnWrite (m : Master) (k : Fin 4) (v : Word)
  /-- SOURCE_PULSE (R224): event source src pulses. -/
  | sourcePulse (src : BitVec 8)
  /-- TASK_TRIGGER_TAKEN (R225): the block behind task input task takes its trigger. -/
  | taskTriggerTaken (task : BitVec 8)
  /-- WAVE_QUIET_EXPIRY (R229): wave tag tag has been quiet for QUIET. -/
  | waveQuietExpiry (tag : Fin 16)
  /-- SWGEN (R231): master m writes v to EVENT.SWGEN. -/
  | swgen (m : Master) (v : Word)
  /-- CH_CFG_WRITE (R232): master m writes v to CH CFG (reg 0), TASKA (1) or TASKB (2) of channel ch. -/
  | chCfgWrite (m : Master) (ch : Fin 64) (reg : Fin 3) (v : Word)
  /-- TAP_WRITE (R234): master m writes v to TAP k. -/
  | tapWrite (m : Master) (k : Fin 32) (v : Word)
  /-- WHOLE_PUSH (R241): producer who places a complete packet of payloads in queue q. -/
  | wholePush (q : Fin 32) (who : Producer) (payloads : List (BitVec 24))
  /-- ITEM_PUSH (R242): producer who pushes one item of a packet into queue q. -/
  | itemPush (q : Fin 32) (who : Producer) (pos : BitVec 2) (payload : BitVec 24)
  /-- QWIN_PUSH (R256): master m writes v to QWIN q PUSH. -/
  | qwinPush (m : Master) (q : Fin 32) (v : Word)
  /-- QUEUE_POP (R247): master m reads QWIN q POP. -/
  | queuePop (m : Master) (q : Fin 32)
  /-- QCFG_WRITE (R253): master m writes v to Q q CFG. -/
  | qcfgWrite (m : Master) (q : Fin 32) (v : Word)
  /-- DECLARE (R276): the DECLARE operation of slot tag. -/
  | declare (tag : Fin 128)
  /-- REGION_RELEASE (R276): the RELEASE operation of slot tag. -/
  | regionRelease (tag : Fin 128)
  /-- RESIZE (R276): the RESIZE operation of slot tag. -/
  | resize (tag : Fin 128)
  /-- PIN (R276): the PIN operation of slot tag. -/
  | pin (tag : Fin 128)
  /-- MIGRATE (R276): the MIGRATE operation of slot tag. -/
  | migrate (tag : Fin 128)
  /-- HDECLARE (R276): the HDECLARE operation of slot tag. -/
  | hdeclare (tag : Fin 128)
  /-- HPIN (R276): the HPIN operation of slot tag. -/
  | hpin (tag : Fin 128)
  /-- BANK_RETURN (R276): the BANK_RETURN operation of slot tag, whose bank test passes or fails. -/
  | bankReturn (tag : Fin 128) (pass : Bool)
  /-- MEMTEST_PASS (R277): the PASS operation of slot tag starts a whole pass. -/
  | memtestPass (tag : Fin 128)
  /-- MEMTEST_BANK (R277): the BANK operation of slot tag, whose bank test passes or fails. -/
  | memtestBank (tag : Fin 128) (pass : Bool)
  /-- FRAME_COPY_DONE (R266): the migration copy in progress finishes. -/
  | frameCopyDone
  /-- LOFT_SCORING (R267): a whole second of TIME ends and the frames are scored. -/
  | loftScoring
  /-- REGION_TEST_START (R272): the pace interval passes and the next region test begins. -/
  | regionTestStart
  /-- REGION_TEST_END (R272): the region test ends, with the fault found if any. -/
  | regionTestEnd (kind : Option (BitVec 4))
  /-- BANK_TEST (R273): after a pass the next bank is tested, and passes or fails. -/
  | bankTest (pass : Bool)
  /-- MEMORY_WINDOW_READ (R261): master m reads a word of window page 0x80 + page, whose array word has taken errors bit errors since it was last read (2: uncorrectable). -/
  | memoryWindowRead (m : Master) (page : BitVec 7) (word : BitVec 10) (errors : Fin 3)
  /-- MEMORY_WINDOW_WRITE (R265): master m writes v to a word of window page 0x80 + page. -/
  | memoryWindowWrite (m : Master) (page : BitVec 7) (word : BitVec 10) (v : Word)
  /-- HRAISE_CLEAR (R269): master m writes v to GRANARY.HRAISE. -/
  | hraiseClear (m : Master) (v : Word)
  /-- CTX_RES_WRITE (R263): master m writes v to GRANARY.CTX_RES. -/
  | ctxResWrite (m : Master) (v : Word)
  /-- PROGRAM (R303): the PROGRAM operation of slot tag ends its writing. -/
  | program (tag : Fin 128)
  /-- ERASE (R303): the ERASE operation of slot tag ends its erase or remap. -/
  | erase (tag : Fin 128)
  /-- COPY (R303): the COPY operation of slot tag. -/
  | copy (tag : Fin 128)
  /-- UNLOCK (R298): the UNLOCK operation of slot tag. -/
  | unlock (tag : Fin 128)
  /-- RELOCK (R303): the RELOCK operation of slot tag. -/
  | relock (tag : Fin 128)
  /-- REFRESH (R303): the REFRESH operation of slot tag. -/
  | refresh (tag : Fin 128)
  /-- GROUP_WRITE (R301): the GROUP_WRITE operation of slot tag ends its writing. -/
  | groupWrite (tag : Fin 128)
  /-- FETCH_BANK_CHANGE (R287): the core's instruction fetch moves to a bank, or to TCM. -/
  | fetchBankChange (bank : Option (Fin 3))
  /-- LOG_APPEND (R290): the log writer pops the next packet and appends it. -/
  | logAppend
  /-- LOG_COMMIT (R291): the commit that is due is placed in the stream. -/
  | logCommit
  /-- COMMIT_TIMEOUT (R291): COMMIT_T has passed since the first packet after the last commit. -/
  | commitTimeout
  /-- FLUSH (R291): master m writes v to FLASH.LOGCTL. -/
  | flush (m : Master) (v : Word)
  /-- LOG_SECTOR_ERASE (R294): the writer submits the erase of the next ring sector. -/
  | logSectorErase
  /-- LOG_RESUME (R294): the writer finds the newest commit and its place after it. -/
  | logResume
  /-- LOGCFG_WRITE (R294): master m writes v to FLASH.LOGCFG. -/
  | logcfgWrite (m : Master) (v : Word)
  /-- WEAK_REFRESH (R295): the device submits the refresh of the oldest weak-list entry's sector. -/
  | weakRefresh
  /-- DIRTY_SPARE_ERASE (R296): a dirty spare or pool sector is erased. -/
  | dirtySpareErase
  /-- CONFIRMATION_RECORD_WRITE (R428): FLASH finishes writing the confirmation record. -/
  | confirmationRecordWrite
  /-- ANT_CFG_WRITE (R309): master m writes v to ANT_CFG n. -/
  | antCfgWrite (m : Master) (n : Fin 8) (v : Word)
  /-- SHAPE_WRITE (R313): master m writes v to FIELD.SHAPE k. -/
  | shapeWrite (m : Master) (k : Fin 8) (v : Word)
  /-- SUPERVISION_PASS (R316): a periodic or start-up supervision pass measures l, one entry per port. -/
  | supervisionPass (l : List AntMeas)
  /-- SUPERVISE (R330): the SUPERVISE operation of slot tag measures l. -/
  | supervise (tag : Fin 128) (l : List AntMeas)
  /-- MATCH (R330): the MATCH operation of slot tag finds l, one entry per port. -/
  | matchOp (tag : Fin 128) (l : List TuneMeas)
  /-- TEACH (R321): the TEACH operation of slot tag hears answers tags and, as each antenna drives alone, the reply at each receiver, real and imaginary part. -/
  | teach (tag : Fin 128) (answers : Nat) (replies : List (List (Int × Int)))
  /-- SOLVE (R322): the SOLVE operation of slot tag. -/
  | solve (tag : Fin 128)
  /-- LPCD_ROUND (R319): a detection round measures I and Q of each port's burst. -/
  | lpcdRound (l : List (Int × Int))
  /-- COEX_WINDOW_START (R325): RADIO notifies a reception, scheduled with its start and end TIME, ahead or as it begins, or unscheduled; an exchange in progress is sending or awaiting its reply. -/
  | coexWindowStart (scheduled : Option (BitVec 64 × BitVec 64)) (sending : Bool)
  /-- COEX_WINDOW_END (R325): the notified reception ends. -/
  | coexWindowEnd
  /-- THERMAL_READ (R326): the junction sensor reads tj, signed degrees Celsius. -/
  | thermalRead (tj : BitVec 8)
  /-- VFLD_OUT (R327): VFLD leaves its operating range. -/
  | vfldOut
  /-- VFLD_RETURN (R327): VFLD returns to its operating range. -/
  | vfldReturn
  /-- ACTIVATE (R354): the ACTIVATE operation of slot tag finds r. -/
  | activate (tag : Fin 128) (r : CardReply)
  /-- EXCHANGE (R354): the EXCHANGE operation of slot tag hears r. -/
  | exchange (tag : Fin 128) (r : ExchReply)
  /-- INVENTORY (R345): the INVENTORY operation of slot tag meets the tags l; joint says what joint demodulation measures in slots they share. -/
  | inventory (tag : Fin 128) (l : List TagSeen) (joint : List JointSlot)
  /-- CLOSE (R354): the CLOSE operation of slot tag. -/
  | close (tag : Fin 128)
  /-- MAPLOAD (R355): the MAPLOAD operation of slot tag. -/
  | mapload (tag : Fin 128)
  /-- TAGPORT_READ (R350): the tag-port READ operation of slot tag hears r. -/
  | tagportRead (tag : Fin 128) (r : ExchReply)
  /-- GROUP_READ (R355): the GROUP_READ operation of slot tag reads its next ports in order, with the replies l. -/
  | groupRead (tag : Fin 128) (l : List ExchReply)
  /-- SESSION_IDLE_EXPIRY (R336): session h has had no exchange for CFG.IDLE seconds. -/
  | sessionIdleExpiry (h : Fin 128)
  /-- FREQ_WRITE (R358): master m writes v to RFXCVR.FREQ. -/
  | freqWrite (m : Master) (v : Word)
  /-- TX_REQUEST (R359): the frame the link engine has handed over is requested of the transceiver. -/
  | txRequest
  /-- SYNC_ACCEPT (R376): the receiver hears the sync of a new frame at an estimated power in 0.25 dBm; soFar is what the frame in progress has shown. -/
  | syncAccept (heard : SyncHeard) (power : BitVec 16) (soFar : FrameSoFar)
  /-- FRAME_DELIVERY (R377): the frame being received ends, heard as f; q is the power at RF_RX of each sample over its LTS, or over its sync in NB, in 10^-18 W. -/
  | frameDelivery (f : FrameHeard) (q : List Nat)
  /-- DPD_TRAIN (R390): the DPD_TRAIN operation of slot tag fits what it has captured, or its 60 s run out. -/
  | dpdTrain (tag : Fin 128) (f : DpdCapture)
  /-- DPD_AUTO_RETRAIN (R384): the PA has changed by that much since the last fit, and the device fits what it has captured. -/
  | dpdAutoRetrain (celsius : Nat) (millivolts : Nat) (f : DpdCapture)
  /-- MEASURE (R388): the MEASURE operation of slot tag ends. -/
  | measure (tag : Fin 128)
  /-- VPA_OUT (R389): VPA leaves its operating range. -/
  | vpaOut
  /-- SUPERFRAME (R393): the next superframe begins. -/
  | superframe
  /-- BEACON_TX (R394): the station sends its beacon in its slot. -/
  | beaconTx
  /-- BEACON_RX (R396): the link engine takes the beacon delivered first. -/
  | beaconRx
  /-- LBT_BACKOFF_DONE (R400): listen and backoff end idle, and the pending frame is handed over. -/
  | lbtBackoffDone
  /-- DATA_RX (R404): the link engine takes the DATA frame delivered first. -/
  | dataRx
  /-- ACK_TX (R405): the acknowledgement that is due is handed over. -/
  | ackTx
  /-- ACK_RX (R405): the link engine takes the ACK delivered first. -/
  | ackRx
  /-- ACK_WINDOW_EXPIRY (R406): the ACK window closes. -/
  | ackWindowExpiry
  /-- REASSEMBLY_TIMEOUT (R408): the oldest incomplete message passes REASM_T. -/
  | reassemblyTimeout
  /-- RELAY_LIFE_EXPIRY (R399): the oldest relayed fragment passes SEND_LIFE. -/
  | relayLifeExpiry
  /-- SEND_LIFE_EXPIRY (R400): the oldest own message passes SEND_LIFE. -/
  | sendLifeExpiry
  /-- DOWN_ENTRY_LAPSE (R398): the oldest down-table entry passes 600 s. -/
  | downEntryLapse
  /-- MAPSET_RX (R412): the link engine takes the MAPSET frame delivered first. -/
  | mapsetRx
  /-- SEND (R420): the SEND operation of slot tag cuts its message and looks for its hop. -/
  | send (tag : Fin 128)
  /-- PEER_ADMIT (R420): the ADMIT operation of slot tag. -/
  | peerAdmit (tag : Fin 128)
  /-- PEER_REMOVE (R420): the REMOVE operation of slot tag. -/
  | peerRemove (tag : Fin 128)
  /-- NEGOTIATE (R412): the NEGOTIATE operation of slot tag hands its MAPSET to the engine. -/
  | negotiate (tag : Fin 128)
  /-- AUTOMAP_PERIOD (R413): MAP_PERIOD has passed, or FALLBACK was set. -/
  | automapPeriod
  /-- QB_SEND (R419): binding k sends what its queue holds. -/
  | qbSend (k : Fin 4)
  /-- RXFREE (R408): master m writes v to LINK.RXFREE. -/
  | rxfree (m : Master) (v : Word)
  /-- RXCFG_WRITE (R409): master m writes v to LINK.RXCFG. -/
  | rxcfgWrite (m : Master) (v : Word)
  /-- LINK_CTL_WRITE (R421): master m writes v to LINK.CTL. -/
  | linkCtlWrite (m : Master) (v : Word)
  /-- MGMT_ENVELOPE (R415): the management agent takes the message received first. -/
  | mgmtEnvelope
  /-- MGMT_SESSION_LAPSE (R415): the management session lapses. -/
  | mgmtSessionLapse
  /-- LEGACY_FRAME_RX (R414): the link engine takes the TOR4200 frame delivered first. -/
  | legacyFrameRx
  /-- NEIGH_LOST (R410): a peer has not been heard for three superframes. -/
  | neighLost
  /-- CORE_BOOT (R427): the boot ROM chooses, verifies and starts an image. -/
  | coreBoot
  /-- CONFIRM (R428): master m writes v to CORE.BOOTCTL. -/
  | confirm (m : Master) (v : Word)
  /-- WFI (R441): the core executes WFI in M mode. -/
  | wfi
  /-- WFI_WAKE (R441): the wake condition of WFI holds. -/
  | wfiWake
  /-- EXTERNAL_INTERRUPT (R435): deliverable source src has the core take a machine external interrupt. -/
  | externalInterrupt (src : BitVec 8)
  /-- INTC_CLAIM (R437): master m writes v to INTC.CLAIM. -/
  | intcClaim (m : Master) (v : Word)
  /-- INTC_COMPLETE (R438): master m writes v to INTC.COMPLETE. -/
  | intcComplete (m : Master) (v : Word)
  /-- UNFREEZE (R438): master m writes v to INTC.UNFREEZE. -/
  | unfreeze (m : Master) (v : Word)
  /-- SRCCFG_WRITE (R445): master m writes v to SRCCFG n. -/
  | srccfgWrite (m : Master) (n : Fin 192) (v : Word)
  /-- MOD_INTERVAL_EXPIRY (R440): moderation group g reaches its INTERVAL. -/
  | modIntervalExpiry (g : Fin 16)
  /-- CHECKPOINT_INTERVAL (R430): CKPT_CFG.INTERVAL passes without a checkpoint. -/
  | checkpointInterval
  /-- LOCKSTEP_RESYNC (R431): the comparator of the lockstep pair finds a mismatch. -/
  | lockstepResync
  /-- TCM_UE (R433): the core fetches or loads TCM word word and finds it uncorrectable. -/
  | tcmUe (word : Fin 131072) (fetch : Bool)
  /-- SLEEP (R450): master m writes v to PMU.SLEEP. -/
  | sleep (m : Master) (v : Word)
  /-- SLEEP_ENTRY (R451): the request's conditions hold and the target state is entered. -/
  | sleepEntry
  /-- SLEEP_TMO (R450): SLEEP_TMO runs out before the request's conditions hold. -/
  | sleepTmo
  /-- SLEEP_ABORTED (R455): wake source source fires during the request or its entry. -/
  | sleepAborted (source : BitVec 8)
  /-- WAKE (R454): wake source source fires in STANDBY or GUARD. -/
  | wake (source : BitVec 8)
  /-- EXIT_COMPLETE (R456): the exit sequence ends in RUN. -/
  | exitComplete
  /-- TCXO_LATE (R456): the TCXO is not stable at START_US of a GUARD exit. -/
  | tcxoLate
  /-- PMU_WAKE_N (R452): PMU_WAKE_N falls and is held low for 1 ms. -/
  | pmuWakeN
  /-- VCORE_WRITE (R457): master m writes v to PMU.VCORE. -/
  | vcoreWrite (m : Master) (v : Word)
  /-- VOLTAGE_SETTLED (R457): the core voltage step settles. -/
  | voltageSettled
  /-- CORE_OPP_WRITE (R457): master m writes v to CLOCK.CORE_OPP. -/
  | coreOppWrite (m : Master) (v : Word)
  /-- TCXO_LOSS (R463): the TCXO stops while in use. -/
  | tcxoLoss
  /-- TCXO_RETURN (R463): the TCXO runs again. -/
  | tcxoReturn
  /-- HSPI_READ (R472): a READ frame of that many bits with that address. -/
  | hspiRead (addr : BitVec 24) (bits : Nat)
  /-- HSPI_WRITE (R474): a WRITE frame of that many bits with that address and those data words. -/
  | hspiWrite (addr : BitVec 24) (data : List Word) (bits : Nat)
  /-- HSPI_POP (R475): a POP frame of that many bits with that address. -/
  | hspiPop (addr : BitVec 24) (bits : Nat)
  /-- HSPI_STATUS (R469): a STATUS frame of that many bits (cmd 0x40), or one whose command byte is no command. -/
  | hspiStatus (cmd : BitVec 8) (bits : Nat)
  /-- HSPI_FRAME_END (R471): select rises at the end of the frame. -/
  | hspiFrameEnd
  /-- HSPI_CTRL_WRITE (R477): master m writes v to HSPI.CTRL. -/
  | hspiCtrlWrite (m : Master) (v : Word)
  /-- DRIVE_BURST (R479): a device-clocked burst, with the sink busy or not at its start, and holding it that many times. -/
  | driveBurst (busy : Bool) (holds : Nat)
  /-- DAISY_FRAME (R483): select rises after a chain frame that shifted data in; early when the next frame begins before the response is loaded. -/
  | daisyFrame (data : List (BitVec 8)) (early : Bool)
  /-- HTW_WRITE (R490): an HTW write transaction brings data, address bytes first, and ends with STOP or stays open. -/
  | htwWrite (data : List (BitVec 8)) (stop : Bool)
  /-- HTW_READ (R492): an HTW read transaction shifts out n bytes, the last acknowledged by the host or not, and ends with STOP or stays open. -/
  | htwRead (n : Nat) (lastAck : Bool) (stop : Bool)
  /-- HTW_IDLE_TIMEOUT (R493): SCL stays unchanged for IDLE_TO during a transaction. -/
  | htwIdleTimeout
  /-- PROTOCOL_ERROR (R499): a START is seen where an acknowledge was due, on HTW or on TWC unit u. -/
  | protocolError (u : Option (Fin 4))
  /-- ARBITRATION_LOST (R497): TWC unit u loses arbitration, inside an address byte of that address or later. -/
  | arbitrationLost (u : Fin 4) (addr : Option (BitVec 7))
  /-- TARGET_TRANSACTION (R498): another controller addresses TWC unit u as target and the parts follow, up to STOP. -/
  | targetTransaction (u : Fin 4) (addr : BitVec 7) (parts : List TwoWirePart)
  /-- STRETCH_TIMEOUT (R496): SCL is held low beyond STRETCH at TWC unit u. -/
  | stretchTimeout (u : Fin 4)
  /-- KEY_GEN (R511): the KEY_GEN operation of slot tag. -/
  | keyGen (tag : Fin 128)
  /-- KEY_IMPORT (R511): the KEY_IMPORT operation of slot tag. -/
  | keyImport (tag : Fin 128)
  /-- KEY_PUB (R511): the KEY_PUB operation of slot tag. -/
  | keyPub (tag : Fin 128)
  /-- KEY_DELETE (R507): the KEY_DELETE operation of slot tag. -/
  | keyDelete (tag : Fin 128)
  /-- CIPHER (R511): the CIPHER operation of slot tag. -/
  | cipher (tag : Fin 128)
  /-- MAC (R511): the MAC operation of slot tag. -/
  | mac (tag : Fin 128)
  /-- HASH (R511): the HASH operation of slot tag. -/
  | hash (tag : Fin 128)
  /-- SIGN (R511): the SIGN operation of slot tag. -/
  | sign (tag : Fin 128)
  /-- VERIFY (R511): the VERIFY operation of slot tag. -/
  | verify (tag : Fin 128)
  /-- ECDH (R511): the ECDH operation of slot tag. -/
  | ecdh (tag : Fin 128)
  /-- RANDOM (R510): the RANDOM operation of slot tag. -/
  | random (tag : Fin 128)
  /-- LIFECYCLE (R514): the LIFECYCLE operation of slot tag. -/
  | lifecycle (tag : Fin 128)
  /-- ROOT_SET (R515): the ROOT_SET operation of slot tag. -/
  | rootSet (tag : Fin 128)
  /-- DEBUG_CLOSE (R516): the DEBUG_CLOSE operation of slot tag. -/
  | debugClose (tag : Fin 128)
  /-- SELFTEST (R522): the SELFTEST operation of slot tag, with the number of the failed test if one fails. -/
  | selftest (tag : Fin 128) (failed : Option (BitVec 8))
  /-- ZEROISE (R520): the ZEROISE operation of slot tag. -/
  | zeroise (tag : Fin 128)
  /-- RESEED (R510): the RESEED operation of slot tag. -/
  | reseed (tag : Fin 128)
  /-- HEALTH_TEST_FAIL (R509): the repetition count test, or the adaptive proportion test (apt), of the entropy source fails. -/
  | healthTestFail (apt : Bool)
  /-- TAMPER_TRIP (R521): tamper sensor sensor trips (0 VOLT, 1 CLOCK, 2 TEMP, 3 EXT). -/
  | tamperTrip (sensor : Fin 4)
  /-- TAMPER_CFG_WRITE (R529): master m writes v to CRIB.TAMPER_CFG. -/
  | tamperCfgWrite (m : Master) (v : Word)
  /-- WDT_KICK (R534): master m writes v to SERVICE.WDT_KICK. -/
  | wdtKick (m : Master) (v : Word)
  /-- WDT_EXPIRY (R535): the normal or the unconfirmed watchdog runs out. -/
  | wdtExpiry (unconf : Bool)
  /-- WDT_CFG_WRITE (R540): master m writes v to SERVICE.WDT_CFG. -/
  | wdtCfgWrite (m : Master) (v : Word)
  /-- HEARTBEAT (R536): the 1 ms heartbeat goes out, and the acknowledgements of the last one are in. -/
  | heartbeat
  /-- HEARTBEAT_MISS (R536): the island of bit island does not acknowledge within HB_TO. -/
  | heartbeatMiss (island : Fin 9)
  /-- TAP_IR_UPDATE (R549): the boundary-scan instruction code is updated. -/
  | tapIrUpdate (code : BitVec 5)
  /-- VPA_RETURN (R389): VPA returns to its operating range. -/
  | vpaReturn
  /-- VIO_SUPPLY_LOSS (R545): the supply of bank VIO_A, or VIO_B (b), leaves its range. -/
  | vioSupplyLoss (b : Bool)
  /-- VIO_SUPPLY_RETURN (R545): the supply of bank VIO_A, or VIO_B (b), returns to its range. -/
  | vioSupplyReturn (b : Bool)
  /-- TX_END (R359): the last sample of the frame being sent leaves the antenna. -/
  | txEnd
  /-- LBT_BUSY (R400): the receiver reads power c on the channel during the backoff, or during the listen. -/
  | lbtBusy (c : ChannelHeard)
  /-- DATA_PERIOD_START (R393): the data period of the superframe begins. -/
  | dataPeriodStart
  /-- WDT_WARN (R534): the normal-mode count reaches its warning point. -/
  | wdtWarn
  /-- OPTION_COPY_REWRITE (R85): the option copy that was invalid or older is rewritten from the copy in use. -/
  | optionCopyRewrite
  /-- REGISTER_READ (R27): master m reads that register. -/
  | registerRead (m : Master) (page : BitVec 8) (word : BitVec 10)
  /-- CORE_FLASH_READ (R282): the core fetches from or loads a codeword (flash address / 32) in which errors bits are wrong (4: four or more). -/
  | coreFlashRead (codeword : BitVec 19) (fetch : Bool) (errors : Fin 5)
  /-- DEBUG_RESET_REQUEST (R86): the debug port requests a SYSTEM reset. -/
  | debugResetRequest
  /-- DEBUG_HALT (R447): the debug module halts the core. -/
  | debugHalt
  /-- DEBUG_RESUME (R447): the debug module resumes the core. -/
  | debugResume
  deriving DecidableEq, Repr

end Sys2Proof
end

