-- ==== Sys2Proof/Decode.lean ====
section
/-!
DEFINITION. The table gives no row any bits: a command comes from outside with its operands, and no word spells one.
(The Gleaner's own instruction words are decoded in Machine/GleanerIsa.lean: the words stand in its program store,
and its rows name the thread.)
-/
namespace Sys2Proof

/-- The command a word spells by the table's bits: none, since the table gives no row any. -/
def decodeTableWord (_nbits _w : Nat) : Option Instr := none

end Sys2Proof
end

