-- ==== Sys2Proof/Machine/Bits.lean ====
section
/-!
DEFINITION. Bit fields of register words, and the saturating, wrapping and signed arithmetic the
register tables use.
-/
namespace Sys2Proof.Machine

/-- The unsigned value of bits [hi:lo]. -/
def field (w : Word) (hi lo : Nat) : Nat := (w.toNat >>> lo) % 2 ^ (hi + 1 - lo)

/-- Bit i. -/
def flag (w : Word) (i : Nat) : Bool := w.getLsbD i

/-- A Bool as the bit it is. -/
def bit (b : Bool) : Nat := if b then 1 else 0

/-- The word with bits [hi:lo] replaced by v, taken modulo the field's width. -/
def setField (w : Word) (hi lo v : Nat) : Word :=
  let m : Word := BitVec.ofNat 32 ((2 ^ (hi + 1 - lo) - 1) <<< lo)
  (w &&& ~~~m) ||| (BitVec.ofNat 32 ((v % 2 ^ (hi + 1 - lo)) <<< lo))

/-- The word with bit i set to b. -/
def setFlag (w : Word) (i : Nat) (b : Bool) : Word := setField w i i (bit b)

/-- A word put together from (lowest bit, width, value) parts. -/
def pack : List (Nat × Nat × Nat) → Word
  | [] => 0
  | (lo, width, v) :: rest => BitVec.ofNat 32 ((v % 2 ^ width) <<< lo) ||| pack rest

/-- The word with the saturating counter in [hi:lo] raised by n. -/
def satField (w : Word) (hi lo n : Nat) : Word :=
  setField w hi lo (min (field w hi lo + n) (2 ^ (hi + 1 - lo) - 1))

/-- The word with the wrapping counter in [hi:lo] raised by n. -/
def wrapField (w : Word) (hi lo n : Nat) : Word := setField w hi lo (field w hi lo + n)

/-- The signed value of the low n bits. -/
def signedOf (n v : Nat) : Int :=
  let m := v % 2 ^ n
  if 2 * m < 2 ^ n then (m : Int) else (m : Int) - (2 ^ n : Nat)

/-- The n-bit two's complement pattern of an integer. -/
def unsignedOf (n : Nat) (i : Int) : Nat := (i % ((2 ^ n : Nat) : Int)).toNat

/-- An integer held to the n-bit signed range. -/
def clampSigned (n : Nat) (i : Int) : Int :=
  let top : Int := ((2 ^ (n - 1) : Nat) : Int)
  if i ≥ top then top - 1 else if i < -top then -top else i

/-- The low word of a 64-bit value. -/
def loWord (t : Stamp) : Word := t.truncate 32

/-- The high word of a 64-bit value. -/
def hiWord (t : Stamp) : Word := (t >>> 32).truncate 32

/-- A 64-bit value from its high and low word. -/
def joinWords (hi lo : Word) : Stamp := hi ++ lo

/-- Bits [hi:lo] of a stamp. -/
def stampField (t : Stamp) (hi lo : Nat) : Nat := (t.toNat >>> lo) % 2 ^ (hi + 1 - lo)

/-- n ms as a TIME length, rounded up to the first TIME value not before it. -/
def msTime (n : Nat) : Nat := (n * 2 ^ 32 + 999) / 1000

/-- n µs as a TIME length, rounded up. -/
def usTime (n : Nat) : Nat := (n * 2 ^ 32 + 999999) / 1000000

/-- n ns as a TIME length, rounded up. -/
def nsTime (n : Nat) : Nat := (n * 2 ^ 32 + 999999999) / 1000000000

/-- n s as a TIME length. -/
def secTime (n : Nat) : Nat := n * 2 ^ 32

/-- n bytes of a value, least significant first. -/
def bytesLE (n v : Nat) : List Byte :=
  match n with
  | 0 => []
  | k + 1 => BitVec.ofNat 8 v :: bytesLE k (v / 256)

/-- The value of bytes, least significant first. -/
def natLE : List Byte → Nat
  | [] => 0
  | b :: rest => b.toNat + 256 * natLE rest

/-- The value of bytes, most significant first. -/
def natBE (l : List Byte) : Nat := l.foldl (fun acc b => acc * 256 + b.toNat) 0

/-- n bytes of a value, most significant first. -/
def bytesBE (n v : Nat) : List Byte := (bytesLE n v).reverse

/-- The list with its element k replaced, unchanged where there is none. -/
def setAt {α : Type} (l : List α) (k : Nat) (v : α) : List α := l.set k v

/-- The first index below n, counting up from start modulo n, that satisfies p. -/
def firstFrom (n start : Nat) (p : Nat → Bool) : Option Nat :=
  ((List.range n).map (fun i => (start + i) % n)).find? p

end Sys2Proof.Machine
end

