-- ==== Sys2Proof/Machine/Crc.lean ====
section
/-!
DEFINITION. Cyclic redundancy checks over bytes: the CRC-32 of the log and the option copies, and the
configurable CRCs of the sensor buses and the host links.
-/
namespace Sys2Proof.Machine

/-- The bits of a byte, most significant first, or least significant first. -/
def byteBits (lsbFirst : Bool) (b : Byte) : List Bool :=
  let l := (List.range 8).map b.getLsbD
  if lsbFirst then l else l.reverse

/-- One bit shifted into a CRC register of `width` bits. -/
def crcBit (width poly : Nat) (r : Nat) (b : Bool) : Nat :=
  let top := r / 2 ^ (width - 1) % 2 == 1
  let shifted := 2 * r % 2 ^ width
  if top != b then Nat.xor shifted poly else shifted

/-- The low n bits of a value in reverse order. -/
def reverseBits (n v : Nat) : Nat :=
  (List.range n).foldl (fun acc i => 2 * acc + v / 2 ^ i % 2) 0

/-- A CRC register after more bytes. -/
def crcRun (width poly : Nat) (lsbFirst : Bool) (r : Nat) (l : List Byte) : Nat :=
  (l.flatMap (byteBits lsbFirst)).foldl (crcBit width poly) r

/-- The CRC-32 (IEEE 802.3) register after more bytes, and its final value. -/
def crc32Run (r : Nat) (l : List Byte) : Nat := crcRun 32 0x04C11DB7 true r l
def crc32End (r : Nat) : Nat := Nat.xor (reverseBits 32 r) 0xFFFFFFFF

/-- The product of two polynomials over GF(2) of degree below 32, bit i the coefficient of x^i, modulo CRC-32's. -/
def crc32Mul (a b : Nat) : Nat :=
  (List.range 32).foldr (fun i acc => Nat.xor (crcBit 32 0x04C11DB7 acc false) (if b.testBit i then a else 0)) 0

/-- x^(2^k), squared k times from x; and x^n by the bits of n. -/
def crc32Pow (n : Nat) : Nat :=
  ((List.range 20).foldl
    (fun (p : Nat × Nat) k => (if n.testBit k then crc32Mul p.1 p.2 else p.1, crc32Mul p.2 p.2)) (1, 2)).1

/-- The CRC-32 register after n bytes of zero, up to 131,071: multiplied by x^(8n). -/
def crc32Zeros (n r : Nat) : Nat := crc32Mul r (crc32Pow (8 * n))

/-- CRC-32 of bytes. -/
def crc32 (l : List Byte) : Nat := crc32End (crc32Run 0xFFFFFFFF l)

/-- The bytes of words, each least significant byte first. -/
def wordsBytes (l : List Word) : List Byte := l.flatMap (fun w => bytesLE 4 w.toNat)

/-- The words of bytes, least significant byte first; a last partial word is padded with zeros. -/
def bytesWords : List Byte → List Word
  | a :: b :: c :: d :: rest => BitVec.ofNat 32 (natLE [a, b, c, d]) :: bytesWords rest
  | [] => []
  | l => [BitVec.ofNat 32 (natLE l)]

end Sys2Proof.Machine
end

