-- ==== Sys2Proof/Machine/Crypto.lean ====
section
/-!
DEFINITION. The algorithms the Crib names by standard (R508): SHA-256 and SHA-384 (FIPS 180-4), HMAC (FIPS
198-1), AES (FIPS 197) with ECB, CBC, CTR, GCM, CCM and CMAC (SP 800-38), ECDSA and ECDH over P-256 and P-384
(FIPS 186-5, SP 800-56A), and the one-step KDF of SP 800-56C. The spec names the standards and does not
restate them: PRESUMED, log entry 40.
-/
namespace Sys2Proof.Machine

/-! ### SHA-2 -/

/-- The parameters of a SHA-2 function: word size, rotation amounts, round constants, initial value. -/
structure Sha where
  w : Nat
  big0 : Nat × Nat × Nat
  big1 : Nat × Nat × Nat
  small0 : Nat × Nat × Nat
  small1 : Nat × Nat × Nat
  k : List Nat
  init : List Nat

/-- SHA-256. -/
def sha256P : Sha where
  w := 32
  big0 := (2, 13, 22)
  big1 := (6, 11, 25)
  small0 := (7, 18, 3)
  small1 := (17, 19, 10)
  k := [
    0x428A2F98, 0x71374491, 0xB5C0FBCF, 0xE9B5DBA5, 0x3956C25B, 0x59F111F1, 0x923F82A4, 0xAB1C5ED5,
    0xD807AA98, 0x12835B01, 0x243185BE, 0x550C7DC3, 0x72BE5D74, 0x80DEB1FE, 0x9BDC06A7, 0xC19BF174,
    0xE49B69C1, 0xEFBE4786, 0x0FC19DC6, 0x240CA1CC, 0x2DE92C6F, 0x4A7484AA, 0x5CB0A9DC, 0x76F988DA,
    0x983E5152, 0xA831C66D, 0xB00327C8, 0xBF597FC7, 0xC6E00BF3, 0xD5A79147, 0x06CA6351, 0x14292967 ] ++ [
    0x27B70A85, 0x2E1B2138, 0x4D2C6DFC, 0x53380D13, 0x650A7354, 0x766A0ABB, 0x81C2C92E, 0x92722C85,
    0xA2BFE8A1, 0xA81A664B, 0xC24B8B70, 0xC76C51A3, 0xD192E819, 0xD6990624, 0xF40E3585, 0x106AA070,
    0x19A4C116, 0x1E376C08, 0x2748774C, 0x34B0BCB5, 0x391C0CB3, 0x4ED8AA4A, 0x5B9CCA4F, 0x682E6FF3,
    0x748F82EE, 0x78A5636F, 0x84C87814, 0x8CC70208, 0x90BEFFFA, 0xA4506CEB, 0xBEF9A3F7, 0xC67178F2 ]
  init := [ 0x6A09E667, 0xBB67AE85, 0x3C6EF372, 0xA54FF53A, 0x510E527F, 0x9B05688C, 0x1F83D9AB, 0x5BE0CD19 ]

/-- SHA-384. -/
def sha384P : Sha where
  w := 64
  big0 := (28, 34, 39)
  big1 := (14, 18, 41)
  small0 := (1, 8, 7)
  small1 := (19, 61, 6)
  k := [
    0x428A2F98D728AE22, 0x7137449123EF65CD, 0xB5C0FBCFEC4D3B2F, 0xE9B5DBA58189DBBC,
    0x3956C25BF348B538, 0x59F111F1B605D019, 0x923F82A4AF194F9B, 0xAB1C5ED5DA6D8118,
    0xD807AA98A3030242, 0x12835B0145706FBE, 0x243185BE4EE4B28C, 0x550C7DC3D5FFB4E2,
    0x72BE5D74F27B896F, 0x80DEB1FE3B1696B1, 0x9BDC06A725C71235, 0xC19BF174CF692694,
    0xE49B69C19EF14AD2, 0xEFBE4786384F25E3, 0x0FC19DC68B8CD5B5, 0x240CA1CC77AC9C65,
    0x2DE92C6F592B0275, 0x4A7484AA6EA6E483, 0x5CB0A9DCBD41FBD4, 0x76F988DA831153B5,
    0x983E5152EE66DFAB, 0xA831C66D2DB43210, 0xB00327C898FB213F, 0xBF597FC7BEEF0EE4,
    0xC6E00BF33DA88FC2, 0xD5A79147930AA725, 0x06CA6351E003826F, 0x142929670A0E6E70,
    0x27B70A8546D22FFC, 0x2E1B21385C26C926, 0x4D2C6DFC5AC42AED, 0x53380D139D95B3DF,
    0x650A73548BAF63DE, 0x766A0ABB3C77B2A8, 0x81C2C92E47EDAEE6, 0x92722C851482353B ] ++ [
    0xA2BFE8A14CF10364, 0xA81A664BBC423001, 0xC24B8B70D0F89791, 0xC76C51A30654BE30,
    0xD192E819D6EF5218, 0xD69906245565A910, 0xF40E35855771202A, 0x106AA07032BBD1B8,
    0x19A4C116B8D2D0C8, 0x1E376C085141AB53, 0x2748774CDF8EEB99, 0x34B0BCB5E19B48A8,
    0x391C0CB3C5C95A63, 0x4ED8AA4AE3418ACB, 0x5B9CCA4F7763E373, 0x682E6FF3D6B2B8A3,
    0x748F82EE5DEFB2FC, 0x78A5636F43172F60, 0x84C87814A1F0AB72, 0x8CC702081A6439EC,
    0x90BEFFFA23631E28, 0xA4506CEBDE82BDE9, 0xBEF9A3F7B2C67915, 0xC67178F2E372532B,
    0xCA273ECEEA26619C, 0xD186B8C721C0C207, 0xEADA7DD6CDE0EB1E, 0xF57D4F7FEE6ED178,
    0x06F067AA72176FBA, 0x0A637DC5A2C898A6, 0x113F9804BEF90DAE, 0x1B710B35131C471B,
    0x28DB77F523047D84, 0x32CAAB7B40C72493, 0x3C9EBE0A15C9BEBC, 0x431D67C49C100D4C,
    0x4CC5D4BECB3E42B6, 0x597F299CFC657E2A, 0x5FCB6FAB3AD6FAEC, 0x6C44198C4A475817 ]
  init := [
    0xCBBB9D5DC1059ED8, 0x629A292A367CD507, 0x9159015A3070DD17, 0x152FECD8F70E5939,
    0x67332667FFC00B31, 0x8EB44A8768581511, 0xDB0C2E0D64F98FA7, 0x47B5481DBEFA4FA4 ]

/-- A w-bit right rotation. -/
def rotr (w x n : Nat) : Nat := x / 2 ^ n + x % 2 ^ n * 2 ^ (w - n)

/-- The two-rotation, one-shift and the three-rotation mixes. -/
def smallMix (w : Nat) (r : Nat × Nat × Nat) (x : Nat) : Nat :=
  Nat.xor (Nat.xor (rotr w x r.1) (rotr w x r.2.1)) (x / 2 ^ r.2.2)
def bigMix (w : Nat) (r : Nat × Nat × Nat) (x : Nat) : Nat :=
  Nat.xor (Nat.xor (rotr w x r.1) (rotr w x r.2.1)) (rotr w x r.2.2)

/-- The message schedule, newest word first, extended by n words. -/
def Sha.extend (p : Sha) : Nat → List Nat → List Nat
  | 0, l => l
  | n + 1, l =>
    let v := smallMix p.w p.small1 (l.getD 1 0) + l.getD 6 0 + smallMix p.w p.small0 (l.getD 14 0) + l.getD 15 0
    p.extend n (v % 2 ^ p.w :: l)

/-- One round. -/
def Sha.round (p : Sha) (st : List Nat) (kw : Nat × Nat) : List Nat :=
  match st with
  | [a, b, c, d, e, f, g, h] =>
    let m := 2 ^ p.w
    let ch := Nat.xor (Nat.land e f) (Nat.land (m - 1 - e) g)
    let maj := Nat.xor (Nat.xor (Nat.land a b) (Nat.land a c)) (Nat.land b c)
    let t1 := h + bigMix p.w p.big1 e + ch + kw.1 + kw.2
    let t2 := bigMix p.w p.big0 a + maj
    [(t1 + t2) % m, a, b, c, (d + t1) % m, e, f, g]
  | l => l

/-- One block, as sixteen words. -/
def Sha.block (p : Sha) (st : List Nat) (ws : List Nat) : List Nat :=
  let sched := (p.extend (p.k.length - 16) ws.reverse).reverse
  let out := (p.k.zip sched).foldl p.round st
  List.zipWith (fun a b => (a + b) % 2 ^ p.w) st out

/-- The words of a block's bytes, most significant byte first. -/
def beWords (n : Nat) : Nat → List Byte → List Nat
  | 0, _ => []
  | k + 1, l => natBE (l.take n) :: beWords n k (l.drop n)

/-- All blocks of a padded message. -/
def Sha.blocks (p : Sha) (n : Nat) : Nat → List Nat → List Byte → List Nat
  | 0, st, _ => st
  | k + 1, st, l => p.blocks n k (p.block st (beWords n 16 l)) (l.drop (16 * n))

/-- A message hashed, as the bytes of the whole state. -/
def Sha.hash (p : Sha) (l : List Byte) : List Byte :=
  let n := p.w / 8
  let used := l.length + 1 + 2 * n
  let zeros := (16 * n - used % (16 * n)) % (16 * n)
  let padded := l ++ [0x80] ++ List.replicate zeros 0 ++ bytesBE (2 * n) (8 * l.length)
  (p.blocks n (padded.length / (16 * n)) p.init padded).flatMap (bytesBE n)

/-- SHA-256, or SHA-384. -/
def sha (big : Bool) (l : List Byte) : List Byte := if big then (sha384P.hash l).take 48 else sha256P.hash l

/-- Two byte strings combined bit by bit. -/
def xorBytes (a b : List Byte) : List Byte := List.zipWith (· ^^^ ·) a b

/-- HMAC with SHA-256 or SHA-384. -/
def hmac (big : Bool) (key l : List Byte) : List Byte :=
  let n := if big then 128 else 64
  let k := if key.length > n then sha big key else key
  let k := k ++ List.replicate (n - k.length) 0
  sha big (k.map (· ^^^ 0x5C) ++ sha big (k.map (· ^^^ 0x36) ++ l))

/-! ### AES -/

/-- The S-box. -/
def sbox : List Byte := [
    0x63, 0x7C, 0x77, 0x7B, 0xF2, 0x6B, 0x6F, 0xC5, 0x30, 0x01, 0x67, 0x2B, 0xFE, 0xD7, 0xAB, 0x76,
    0xCA, 0x82, 0xC9, 0x7D, 0xFA, 0x59, 0x47, 0xF0, 0xAD, 0xD4, 0xA2, 0xAF, 0x9C, 0xA4, 0x72, 0xC0,
    0xB7, 0xFD, 0x93, 0x26, 0x36, 0x3F, 0xF7, 0xCC, 0x34, 0xA5, 0xE5, 0xF1, 0x71, 0xD8, 0x31, 0x15,
    0x04, 0xC7, 0x23, 0xC3, 0x18, 0x96, 0x05, 0x9A, 0x07, 0x12, 0x80, 0xE2, 0xEB, 0x27, 0xB2, 0x75 ] ++ [
    0x09, 0x83, 0x2C, 0x1A, 0x1B, 0x6E, 0x5A, 0xA0, 0x52, 0x3B, 0xD6, 0xB3, 0x29, 0xE3, 0x2F, 0x84,
    0x53, 0xD1, 0x00, 0xED, 0x20, 0xFC, 0xB1, 0x5B, 0x6A, 0xCB, 0xBE, 0x39, 0x4A, 0x4C, 0x58, 0xCF,
    0xD0, 0xEF, 0xAA, 0xFB, 0x43, 0x4D, 0x33, 0x85, 0x45, 0xF9, 0x02, 0x7F, 0x50, 0x3C, 0x9F, 0xA8,
    0x51, 0xA3, 0x40, 0x8F, 0x92, 0x9D, 0x38, 0xF5, 0xBC, 0xB6, 0xDA, 0x21, 0x10, 0xFF, 0xF3, 0xD2 ] ++ [
    0xCD, 0x0C, 0x13, 0xEC, 0x5F, 0x97, 0x44, 0x17, 0xC4, 0xA7, 0x7E, 0x3D, 0x64, 0x5D, 0x19, 0x73,
    0x60, 0x81, 0x4F, 0xDC, 0x22, 0x2A, 0x90, 0x88, 0x46, 0xEE, 0xB8, 0x14, 0xDE, 0x5E, 0x0B, 0xDB,
    0xE0, 0x32, 0x3A, 0x0A, 0x49, 0x06, 0x24, 0x5C, 0xC2, 0xD3, 0xAC, 0x62, 0x91, 0x95, 0xE4, 0x79,
    0xE7, 0xC8, 0x37, 0x6D, 0x8D, 0xD5, 0x4E, 0xA9, 0x6C, 0x56, 0xF4, 0xEA, 0x65, 0x7A, 0xAE, 0x08 ] ++ [
    0xBA, 0x78, 0x25, 0x2E, 0x1C, 0xA6, 0xB4, 0xC6, 0xE8, 0xDD, 0x74, 0x1F, 0x4B, 0xBD, 0x8B, 0x8A,
    0x70, 0x3E, 0xB5, 0x66, 0x48, 0x03, 0xF6, 0x0E, 0x61, 0x35, 0x57, 0xB9, 0x86, 0xC1, 0x1D, 0x9E,
    0xE1, 0xF8, 0x98, 0x11, 0x69, 0xD9, 0x8E, 0x94, 0x9B, 0x1E, 0x87, 0xE9, 0xCE, 0x55, 0x28, 0xDF,
    0x8C, 0xA1, 0x89, 0x0D, 0xBF, 0xE6, 0x42, 0x68, 0x41, 0x99, 0x2D, 0x0F, 0xB0, 0x54, 0xBB, 0x16 ]

def subByte (b : Byte) : Byte := sbox.getD b.toNat 0

/-- The inverse S-box. -/
def invByte (b : Byte) : Byte := BitVec.ofNat 8 (sbox.findIdx (· == b))

/-- Doubling in GF(2^8), and a product with a small constant. -/
def xtime (b : Byte) : Byte := (b <<< 1) ^^^ (if b.getLsbD 7 then 0x1B else 0)
def gmul (n : Nat) (b : Byte) : Byte :=
  let b2 := xtime b
  let b4 := xtime b2
  let b8 := xtime b4
  (if n.testBit 0 then b else 0) ^^^ (if n.testBit 1 then b2 else 0) ^^^ (if n.testBit 2 then b4 else 0)
    ^^^ (if n.testBit 3 then b8 else 0)

/-- The key schedule's words, newest first, extended by n words; i is the next word's number. -/
def expandKey (nk : Nat) : Nat → Nat → Byte → List (List Byte) → List (List Byte)
  | 0, _, _, l => l
  | n + 1, i, rcon, l =>
    let t := l.headD []
    let t' :=
      if i % nk == 0 then
        match (t.drop 1 ++ t.take 1).map subByte with
        | a :: r => (a ^^^ rcon) :: r
        | [] => []
      else if nk == 8 && i % 8 == 4 then t.map subByte else t
    expandKey nk n (i + 1) (if i % nk == 0 then xtime rcon else rcon) (xorBytes (l.getD (nk - 1) []) t' :: l)

/-- Groups of n bytes. -/
def chunks (n : Nat) : Nat → List Byte → List (List Byte)
  | 0, _ => []
  | k + 1, l => if l.isEmpty then [] else l.take n :: chunks n k (l.drop n)

/-- The round keys of an AES-128 or AES-256 key. -/
def roundKeys (key : List Byte) : List (List Byte) :=
  let nk := key.length / 4
  let total := 4 * (nk + 7)
  let ws := (expandKey nk (total - nk) nk 1 (chunks 4 nk key).reverse).reverse
  chunks 16 (nk + 7) (ws.flatten)

/-- ShiftRows and its inverse, over a state in column order. -/
def shiftRows (l : List Byte) : List Byte := (List.range 16).map (fun i => l.getD ((5 * i) % 16) 0)
def invShiftRows (l : List Byte) : List Byte := (List.range 16).map (fun i => l.getD ((13 * i) % 16) 0)

/-- MixColumns with the given first row. -/
def mixColumns (r : List Nat) (l : List Byte) : List Byte :=
  (List.range 16).map (fun i =>
    (List.range 4).foldl (fun acc j => acc ^^^ gmul (r.getD ((j + 4 - i % 4) % 4) 0) (l.getD (i / 4 * 4 + j) 0)) 0)

/-- The middle rounds and the last one of encryption. -/
def encRounds : List (List Byte) → List Byte → List Byte
  | [], st => st
  | [k], st => xorBytes (shiftRows (st.map subByte)) k
  | k :: rest, st => encRounds rest (xorBytes (mixColumns [2, 3, 1, 1] (shiftRows (st.map subByte))) k)

/-- AES encryption of one block. -/
def aesEnc (key blk : List Byte) : List Byte :=
  match roundKeys key with
  | k0 :: rest => encRounds rest (xorBytes blk k0)
  | [] => blk

/-- The rounds of decryption, round keys in reverse. -/
def decRounds : List (List Byte) → List Byte → List Byte
  | [], st => st
  | [k], st => xorBytes ((invShiftRows st).map invByte) k
  | k :: rest, st => decRounds rest (mixColumns [14, 11, 13, 9] (xorBytes ((invShiftRows st).map invByte) k))

/-- AES decryption of one block. -/
def aesDec (key blk : List Byte) : List Byte :=
  match (roundKeys key).reverse with
  | k0 :: rest => decRounds rest (xorBytes blk k0)
  | [] => blk

/-! ### Modes -/

/-- The blocks of a message; the last may be short. -/
def blocksOf (l : List Byte) : List (List Byte) := chunks 16 (l.length / 16 + 1) l

/-- ECB over whole blocks. -/
def aesEcb (dec : Bool) (key l : List Byte) : List Byte :=
  (blocksOf l).flatMap (if dec then aesDec key else aesEnc key)

/-- CBC over whole blocks. -/
def aesCbc (dec : Bool) (key : List Byte) : List Byte → List (List Byte) → List Byte
  | _, [] => []
  | iv, b :: rest =>
    if dec then xorBytes (aesDec key b) iv ++ aesCbc dec key b rest
    else
      let c := aesEnc key (xorBytes b iv)
      c ++ aesCbc dec key c rest

/-- A counter block raised by one in its low n bytes. -/
def incBlock (n : Nat) (b : List Byte) : List Byte :=
  b.take (16 - n) ++ bytesBE n (natBE (b.drop (16 - n)) + 1)

/-- CTR from a counter block, whose low n bytes count. -/
def aesCtr (n : Nat) (key : List Byte) : List Byte → List (List Byte) → List Byte
  | _, [] => []
  | c, b :: rest => xorBytes b (aesEnc key c) ++ aesCtr n key (incBlock n c) rest

/-- Zeros up to a whole block. -/
def padBlock (l : List Byte) : List Byte := l ++ List.replicate ((16 - l.length % 16) % 16) 0

/-- A product in GF(2^128) of GCM: x by y, over y's bits. -/
def ghashMul (x y : Nat) : Nat :=
  ((List.range 128).foldl
    (fun (acc : Nat × Nat) i =>
      let z := if x.testBit (127 - i) then Nat.xor acc.1 acc.2 else acc.1
      let v := if acc.2.testBit 0 then Nat.xor (acc.2 / 2) (0xE1 * 2 ^ 120) else acc.2 / 2
      (z, v)) (0, y)).1

/-- GHASH of whole blocks. -/
def ghash (h : Nat) (l : List Byte) : Nat :=
  (blocksOf l).foldl (fun acc b => ghashMul (Nat.xor acc (natBE b)) h) 0

/-- AES-GCM with a 12-byte IV: the data through the counter, and the tag over the ciphertext. -/
def gcmCtr (key iv l : List Byte) : List Byte := aesCtr 4 key (iv ++ bytesBE 4 2) (blocksOf l)
def gcmTag (key iv aad ct : List Byte) : List Byte :=
  let h := natBE (aesEnc key (List.replicate 16 0))
  let s := ghash h (padBlock aad ++ padBlock ct ++ bytesBE 8 (8 * aad.length) ++ bytesBE 8 (8 * ct.length))
  xorBytes (bytesBE 16 s) (aesEnc key (iv ++ bytesBE 4 1))

/-- CBC-MAC of whole blocks. -/
def cbcMac (key : List Byte) (l : List (List Byte)) : List Byte :=
  l.foldl (fun acc b => aesEnc key (xorBytes acc b)) (List.replicate 16 0)

/-- AES-CCM: the data through the counter, and the tag over the plaintext. -/
def ccmCtr (key nonce l : List Byte) : List Byte :=
  let q := 15 - nonce.length
  aesCtr q key (bytesBE 1 (q - 1) ++ nonce ++ bytesBE q 1) (blocksOf l)
def ccmTag (n : Nat) (key nonce aad pt : List Byte) : List Byte :=
  let q := 15 - nonce.length
  let flags := (if aad.isEmpty then 0 else 64) + 8 * ((n - 2) / 2) + (q - 1)
  let b0 := bytesBE 1 flags ++ nonce ++ bytesBE q pt.length
  let a := if aad.isEmpty then [] else
    padBlock ((if aad.length < 65280 then bytesBE 2 aad.length else [0xFF, 0xFE] ++ bytesBE 4 aad.length) ++ aad)
  let mac := cbcMac key (blocksOf (b0 ++ a ++ padBlock pt))
  (xorBytes mac (aesEnc key (bytesBE 1 (q - 1) ++ nonce ++ bytesBE q 0))).take n

/-- Doubling of a CMAC subkey. -/
def cmacDouble (l : List Byte) : List Byte :=
  let v := natBE l
  bytesBE 16 (Nat.xor (2 * v % 2 ^ 128) (if v.testBit 127 then 0x87 else 0))

/-- AES-CMAC. -/
def aesCmac (key l : List Byte) : List Byte :=
  let k1 := cmacDouble (aesEnc key (List.replicate 16 0))
  let whole := !l.isEmpty && l.length % 16 == 0
  let k := if whole then k1 else cmacDouble k1
  let n := if whole then l.length - 16 else l.length / 16 * 16
  let last := if whole then l.drop n else
    let t := l.drop n ++ [0x80]
    t ++ List.replicate (16 - t.length) 0
  cbcMac key (blocksOf (l.take n) ++ [xorBytes last k])

/-! ### Elliptic curves -/

/-- A curve y² = x³ − 3x + b over a prime field: field, b, base point, order, bytes of a coordinate. -/
structure Curve where
  p : Nat
  b : Nat
  gx : Nat
  gy : Nat
  n : Nat
  len : Nat

/-- P-256 and P-384. -/
def p256 : Curve where
  p := 0xFFFFFFFF00000001000000000000000000000000FFFFFFFFFFFFFFFFFFFFFFFF
  b := 0x5AC635D8AA3A93E7B3EBBD55769886BC651D06B0CC53B0F63BCE3C3E27D2604B
  gx := 0x6B17D1F2E12C4247F8BCE6E563A440F277037D812DEB33A0F4A13945D898C296
  gy := 0x4FE342E2FE1A7F9B8EE7EB4A7C0F9E162BCE33576B315ECECBB6406837BF51F5
  n := 0xFFFFFFFF00000000FFFFFFFFFFFFFFFFBCE6FAADA7179E84F3B9CAC2FC632551
  len := 32

def p384 : Curve where
  p := 0xFFFFFFFFFFFFFFFFFFFFFFFFFFFFFFFFFFFFFFFFFFFFFFFFFFFFFFFFFFFFFFFEFFFFFFFF0000000000000000FFFFFFFF
  b := 0xB3312FA7E23EE7E4988E056BE3F82D19181D9C6EFE8141120314088F5013875AC656398D8A2ED19D2A85C8EDD3EC2AEF
  gx := 0xAA87CA22BE8B05378EB1C71EF320AD746E1D3B628BA79B9859F741E082542A385502F25DBF55296C3A545E3872760AB7
  gy := 0x3617DE4A96262C6F5D9E98BF9292DC29F8F41DBD289A147CE9DA3113B5F0B8C00A60B1CE1D7E819D7A431D7C90EA0E5F
  n := 0xFFFFFFFFFFFFFFFFFFFFFFFFFFFFFFFFFFFFFFFFFFFFFFFFC7634D81F4372DDF581A0DB248B0A77AECEC196ACCC52973
  len := 48

def curveOf (big : Bool) : Curve := if big then p384 else p256

/-- A power modulo m, over n bits of the exponent. -/
def powMod (m b e : Nat) : Nat → Nat
  | 0 => 1 % m
  | n + 1 =>
    let h := powMod m b (e / 2) n
    let h2 := h * h % m
    if e % 2 = 1 then h2 * b % m else h2

/-- The inverse modulo a prime. -/
def invMod (m a : Nat) : Nat := powMod m a (m - 2) 384

/-- A point in Jacobian coordinates; z = 0 for the point at infinity. -/
abbrev JPoint := Nat × Nat × Nat

/-- Subtraction modulo m of reduced values. -/
def subMod (m a b : Nat) : Nat := (a + m - b % m) % m

/-- A point doubled. -/
def Curve.dbl (c : Curve) (q : JPoint) : JPoint :=
  let (x, y, z) := q
  if z = 0 then q
  else
    let p := c.p
    let d := z * z % p
    let g := y * y % p
    let b := x * g % p
    let a := 3 * (subMod p x d) * ((x + d) % p) % p
    let x3 := subMod p (a * a) (8 * b)
    let z3 := subMod p (subMod p ((y + z) * (y + z)) g) d
    let y3 := subMod p (a * subMod p (4 * b) x3) (8 * g * g)
    (x3, y3, z3)

/-- Two points added. -/
def Curve.add (c : Curve) (q r : JPoint) : JPoint :=
  let (x1, y1, z1) := q
  let (x2, y2, z2) := r
  if z1 = 0 then r
  else if z2 = 0 then q
  else
    let p := c.p
    let zz1 := z1 * z1 % p
    let zz2 := z2 * z2 % p
    let u1 := x1 * zz2 % p
    let u2 := x2 * zz1 % p
    let s1 := y1 * z2 * zz2 % p
    let s2 := y2 * z1 * zz1 % p
    if u1 = u2 then (if s1 = s2 then c.dbl q else (1, 1, 0))
    else
      let h := subMod p u2 u1
      let hh := h * h % p
      let hhh := h * hh % p
      let d := subMod p s2 s1
      let v := u1 * hh % p
      let x3 := subMod p (subMod p (d * d) hhh) (2 * v)
      (x3, subMod p (d * subMod p v x3) (s1 * hhh), h * z1 * z2 % p)

/-- A multiple of a point, over n bits of the factor. -/
def Curve.mul (c : Curve) (k : Nat) (q : JPoint) : Nat → JPoint
  | 0 => (1, 1, 0)
  | n + 1 =>
    let h := c.dbl (c.mul (k / 2) q n)
    if k % 2 = 1 then c.add h q else h

/-- Affine coordinates; none for the point at infinity. -/
def Curve.affine (c : Curve) (q : JPoint) : Option (Nat × Nat) :=
  let (x, y, z) := q
  if z = 0 then none
  else
    let i := invMod c.p z
    let ii := i * i % c.p
    some (x * ii % c.p, y * ii * i % c.p)

/-- A public key Qx‖Qy as a point, if it lies on the curve. -/
def Curve.point (c : Curve) (l : List Byte) : Option (Nat × Nat) :=
  let x := natBE (l.take c.len)
  let y := natBE ((l.drop c.len).take c.len)
  if x < c.p && y < c.p && y * y % c.p == subMod c.p (x * x * x + c.b) (3 * x) then some (x, y) else none

/-- The public key of a private value, as Qx‖Qy. -/
def Curve.pub (c : Curve) (d : Nat) : List Byte :=
  match c.affine (c.mul d (c.gx, c.gy, 1) 384) with
  | some (x, y) => bytesBE c.len x ++ bytesBE c.len y
  | none => []

/-- ECDSA signing of a digest with a nonce, as r‖s. -/
def Curve.sign (c : Curve) (d k : Nat) (digest : List Byte) : List Byte :=
  let r := match c.affine (c.mul k (c.gx, c.gy, 1) 384) with | some (x, _) => x % c.n | none => 0
  let e := natBE (digest.take c.len)
  let s := invMod c.n k * ((e + r * d) % c.n) % c.n
  bytesBE c.len r ++ bytesBE c.len s

/-- ECDSA verification of r‖s over a digest under Qx‖Qy. -/
def Curve.verify (c : Curve) (pub digest sig : List Byte) : Bool :=
  let r := natBE (sig.take c.len)
  let s := natBE ((sig.drop c.len).take c.len)
  match c.point pub with
  | none => false
  | some (x, y) =>
    if r = 0 || s = 0 || r ≥ c.n || s ≥ c.n then false
    else
      let w := invMod c.n s
      let e := natBE (digest.take c.len)
      let q := c.add (c.mul (e * w % c.n) (c.gx, c.gy, 1) 384) (c.mul (r * w % c.n) (x, y, 1) 384)
      match c.affine q with
      | some (v, _) => v % c.n == r
      | none => false

/-- The shared secret Z of ECDH: the x coordinate; none for an invalid peer point. -/
def Curve.ecdh (c : Curve) (d : Nat) (peer : List Byte) : Option (List Byte) :=
  match c.point peer with
  | none => none
  | some (x, y) => (c.affine (c.mul d (x, y, 1) 384)).map (fun q => bytesBE c.len q.1)

/-- The one-step KDF with HMAC-SHA-384 and an all-zero salt, n bytes (R511). -/
def kdf (z info : List Byte) (n : Nat) : List Byte :=
  let salt := List.replicate 128 (0 : Byte)
  (hmac true salt (bytesBE 4 1 ++ z ++ info) ++ hmac true salt (bytesBE 4 2 ++ z ++ info)).take n

end Sys2Proof.Machine
end

