-- ==== Sys2Proof/Config.lean ====
section
/-!
DEFINITION. What the spec leaves open: free values and functions, constants without a body, so that
nothing proved about the machine can rest on what they are.
-/
namespace Sys2Proof

/-- A free value; each draw has its own number (the state counts them). -/
opaque Config.freeWord : Nat → Word

/-- The 128-bit unique device number, from fuses (R52). -/
opaque Config.uid : BitVec 128

/-- The device storage key, held in fuses and never readable (R513). -/
opaque Config.storageKey : BitVec 256

/-- The voltage the board puts on the VREF_IN ball, as its distance from the low end of its range (R111, R557). -/
opaque Config.vrefIn : Word

/-- The power at RF_RX at which the receiver clips with a gain of 0 dB, in dBm (R375, R391). -/
opaque Config.rxClip : Int

end Sys2Proof
end

