-- ==== Sys2Proof/Machine/RegMap.lean ====
section
/-!
DEFINITION. The register map: for every page its registers with their offsets, access, reset value,
writable bits and the encodings the field tables allow (chapters 02 to 23, one list per page). It is
plain data; what a register's own behaviour is stands in the family files.
-/
namespace Sys2Proof.Machine

/-- How a register answers a write (R3). `mixed` registers hold fields of several kinds, and `act`
registers act on a write and keep nothing of it. -/
inductive Acc where
  | ro | rw | w1c | act | mixed
  deriving DecidableEq, Repr

/-- One register, or a run of equal registers. -/
structure RegDef where
  off : Nat
  acc : Acc
  rst : Nat := 0
  /-- The bits a write can set, clear or act on; all others are read-only or Reserved (R4). -/
  mask : Nat := 0xFFFFFFFF
  /-- (hi, lo, min, max): the encodings of [hi:lo] that are not reserved (R5). -/
  lim : List (Nat × Nat × Nat × Nat) := []
  count : Nat := 1
  stride : Nat := 4
  /-- Banked per master (R37). -/
  bank : Bool := false
  /-- 1 the low word of a 64-bit value, 2 its high word (R34). -/
  pair : Nat := 0
  deriving DecidableEq, Repr

/-- A read-only register. -/
def ro (off : Nat) (rst : Nat := 0) (count : Nat := 1) (stride : Nat := 4) : RegDef :=
  { off := off, acc := .ro, rst := rst, mask := 0, count := count, stride := stride }

/-- A read-only 64-bit pair. -/
def roPair (off : Nat) : List RegDef :=
  [{ off := off, acc := .ro, mask := 0, pair := 1 }, { off := off + 4, acc := .ro, mask := 0, pair := 2 }]

/-- A register of read-write fields. -/
def rw (off rst mask : Nat) (lim : List (Nat × Nat × Nat × Nat) := []) (count : Nat := 1)
    (stride : Nat := 4) : RegDef :=
  { off := off, acc := .rw, rst := rst, mask := mask, lim := lim, count := count, stride := stride }

/-- A register banked per master. -/
def banked (off mask : Nat) (lim : List (Nat × Nat × Nat × Nat) := []) : RegDef :=
  { off := off, acc := .rw, mask := mask, lim := lim, bank := true }

/-- A register of flags cleared by writing 1. -/
def w1c (off mask : Nat) : RegDef := { off := off, acc := .w1c, mask := mask }

/-- A register whose write acts and which reads 0. -/
def act (off : Nat) (mask : Nat := 0xFFFFFFFF) : RegDef := { off := off, acc := .act, mask := mask }

/-- A register of mixed fields. -/
def mixed (off rst mask : Nat) (lim : List (Nat × Nat × Nat × Nat) := []) (count : Nat := 1)
    (stride : Nat := 4) : RegDef :=
  { off := off, acc := .mixed, rst := rst, mask := mask, lim := lim, count := count, stride := stride }

/-- OWN (R51). -/
def regsOwn : List RegDef :=
  [ ro 0x040 0x8, ro 0x044, ro 0x048, act 0x04C 0xFF00FFFF, act 0x050, ro 0x054,
    mixed 0x058 0 0xFF000007, act 0x05C 0xFF00FFFF, act 0x060, ro 0x064, ro 0x068 0xFF0 ]
  ++ roPair 0x06C

/-- DEVICE (R52). -/
def regsDevice : List RegDef :=
  [ ro 0x040 0x9640, ro 0x044 0x4201, ro 0x048 0 4, ro 0x058 0 6 ]

/-- MBOX0 to MBOX4 (R54). -/
def regsMbox : List RegDef :=
  [ rw 0x040 0 0xFFFFFFFF [] 16, ro 0x080, act 0x084 0x1F, act 0x088 0x1, act 0x08C 0x1F, act 0x090 0x1,
    rw 0x0C0 0 0xFFFFFFFF [] 16 ]

/-- OPS (R73). -/
def regsOps : List RegDef :=
  [ rw 0x040 0 0xFFFFFFFF [] 8, act 0x060 0x010FFFFF, ro 0x064, act 0x068 0x7F, ro 0x06C 0x80,
    rw 0x070 0x20 0x7F [(6, 0, 0, 64)], banked 0x074 0x7F, ro 0x078 ]
  ++ roPair 0x07C ++ [ ro 0x084 0 4 ]

/-- TIME (R194). -/
def regsTime : List RegDef :=
  roPair 0x040 ++
  [ ro 0x048, rw 0x04C 0x0003E801 0x000FFF03 [(19, 8, 100, 4000)],
    rw 0x050 0x640003E8 0xFF0FFFFF [(19, 0, 1, 1000000), (31, 24, 1, 200)],
    ro 0x054, ro 0x058, ro 0x05C 0xFFFFFFFF, ro 0x060, ro 0x064 ]
  ++ roPair 0x068 ++ roPair 0x070 ++
  [ ro 0x078,
    { off := 0x080, acc := .rw, count := 4, stride := 8, pair := 1 },
    { off := 0x084, acc := .rw, count := 4, stride := 8, pair := 2 },
    mixed 0x0A0 0 0xFF, rw 0x0C0 0 0x3F, ro 0x0C4 ]
  ++ roPair 0x0C8

/-- EVENT (R237). -/
def regsEvent : List RegDef :=
  [ w1c 0x040 0xFFFFFFFF, w1c 0x044 0xFFFFFFFF, mixed 0x048 0 0x3, rw 0x04C 0x148 0x3FF [(9, 0, 1, 1023)],
    ro 0x050, act 0x054 0xFF, banked 0x058 0xFF, ro 0x05C, rw 0x080 0 0x80001FFF [] 32,
    rw 0x100 0 0xFF0007FF [] 64 16, rw 0x104 0 0xFFFFFFFF [] 64 16, rw 0x108 0 0xFFFFFFFF [] 64 16,
    ro 0x10C 0 64 16 ]

/-- SHEAF (R255); the reset values of Q0 and Q1 stand in `resetOf`. -/
def regsSheaf : List RegDef :=
  [ ro 0x040 0x80000, ro 0x044 0x7F000, ro 0x048, w1c 0x04C 0xFFFFFFFF,
    rw 0x100 0x00010060 0x07FF07F7 [(7, 4, 6, 15), (23, 16, 1, 255)] 32 16, ro 0x104 0 32 16,
    ro 0x108 0 32 16, ro 0x10C 0 32 16 ]

/-- QWIN0 to QWIN31 (R256). -/
def regsQwin : List RegDef := [ ro 0x040, ro 0x044, act 0x048 0xE0FFFFFF, ro 0x04C ]

/-- CORE (R444). -/
def regsCore : List RegDef :=
  [ ro 0x040, mixed 0x044 0 0x301, ro 0x048 0 2, ro 0x050 0xFA01, ro 0x054, ro 0x058 ]
  ++ roPair 0x05C ++
  [ rw 0x064 0xA 0x1F [(4, 0, 1, 20)], ro 0x068, ro 0x06C, rw 0x070 0x100 0xFFFFFFFC, ro 0x074 0x2 ]

/-- INTC (R445). -/
def regsIntc : List RegDef :=
  [ ro 0x040, rw 0x044 0 0xF, act 0x048 0xFF, act 0x04C 0xFF, act 0x050 0xFF000001, ro 0x054 ]
  ++ roPair 0x058 ++
  [ ro 0x060, rw 0x064 0 0xFFFF, ro 0x080 0 6, rw 0x0A0 0 0xFFFFFFFF [] 6, ro 0x0C0 0 6, ro 0x0E0 0 6,
    ro 0x100 0 15, mixed 0x140 0 0x00FFFFFF [] 16, rw 0x200 0 0x00001F3F [(5, 4, 0, 2)] 192 ]

/-- PMU (R93, R461). VSTAT resets to 750 mV at VPOINT 1 (its field table). -/
def regsPmu : List RegDef :=
  [ ro 0x040, act 0x044 0xFF000003, mixed 0x048 0 0x8, rw 0x04C 0x64 0xFFFF [(15, 0, 1, 60000)],
    rw 0x050 0 0xFFFFFFFF, rw 0x054 0 0xFFF, w1c 0x058 0xFFFFFFFF, w1c 0x05C 0xFFF,
    rw 0x060 0x1 0x3 [(1, 0, 0, 2)], ro 0x064 0x2EE01, ro 0x068 0x3FFFF, ro 0x06C, ro 0x070,
    ro 0x100 0x010F1FF1 ]
  ++ roPair 0x104 ++ [ ro 0x10C 0x4400 ] ++ roPair 0x110 ++
  [ act 0x118 0xFF0001FF, act 0x11C 0xFF000000, ro 0x120 ]

/-- CLOCK (R462). -/
def regsClock : List RegDef :=
  [ rw 0x040 0x1 0x3 [(1, 0, 0, 2)], ro 0x044, rw 0x048 0x9C4 0xFFFF [(15, 0, 500, 10000)], ro 0x04C ]

/-- SERVICE (R540). -/
def regsService : List RegDef :=
  [ ro 0x040, mixed 0x044 0x3E8 0x81FFFFFF [(15, 0, 1, 65535)], act 0x048 0xFFFF, ro 0x04C,
    rw 0x050 0xA 0x3FF [(9, 0, 1, 600)], rw 0x054 0x01FC000A 0x01FE00FF [(7, 0, 1, 255)],
    mixed 0x058 0 0x1FF, ro 0x05C, banked 0x060 0x1F, ro 0x064 ]
  ++ roPair 0x068 ++ [ ro 0x070 0 2, ro 0x078 ]

/-- The four TWC blocks of SENSBUS (R502). -/
def regsTwc : List RegDef :=
  [ rw 0x040 0x00031900 0x00077F03 [(1, 0, 0, 2), (14, 8, 1, 100)] 4 0x20, rw 0x044 0 0x1FFF [] 4 0x20,
    ro 0x048 0 4 0x20, ro 0x04C 0 4 0x20, rw 0x050 0 0xFFFFFFFF [] 4 0x20, ro 0x054 0 4 0x20 ]

/-- PORTG0 to PORTG7 (R123): eight blocks of eight registers. AUX is checked against the mode (R101). -/
def regsPortg : List RegDef :=
  [ rw 0x040 0x200 0x3FF [(3, 0, 0, 7), (5, 4, 0, 2), (8, 6, 0, 4)] 8 0x20,
    rw 0x044 0 0x00003FFF [] 8 0x20, ro 0x048 0 8 0x20, ro 0x04C 0 8 0x20, ro 0x050 0 8 0x20,
    ro 0x054 0 8 0x20,
    { off := 0x058, acc := .ro, mask := 0, count := 8, stride := 0x20, pair := 1 },
    { off := 0x05C, acc := .ro, mask := 0, count := 8, stride := 0x20, pair := 2 } ]

/-- CONV (R124). -/
def regsConv : List RegDef :=
  [ rw 0x040 0 0xBF [] 16 16, rw 0x044 0x20 0xFF [(7, 6, 0, 2)] 16 16, ro 0x048 0 16 16,
    rw 0x140 0 0xBF [] 4 16, rw 0x144 0x6000 0x3FFFF [(15, 0, 25, 65535), (17, 16, 0, 2)] 4 16,
    ro 0x148 0 4 16, mixed 0x180 0 0x7 [(2, 0, 0, 6)] 4, mixed 0x190 0 0x3,
    rw 0x194 0x0A0A0A32 0xFFFFFFFF [(7, 0, 10, 200), (15, 8, 1, 40), (23, 16, 1, 255), (31, 24, 1, 255)],
    rw 0x198 0x0A03 0xFF0F [(15, 8, 1, 255)] ]

/-- SENSBUS (R125, R501): four TWC, four SPC and four UART blocks. -/
def regsSensbus : List RegDef :=
  regsTwc ++
  [ rw 0x0C0 0 0xF [] 4 0x20, rw 0x0C4 0x3E8 0x3FFF [(13, 0, 10, 12288)] 4 0x20, ro 0x0C8 0 4 0x20,
    ro 0x0CC 0 4 0x20,
    rw 0x140 0x761 0xFFFF [(1, 0, 0, 1), (3, 2, 0, 2), (15, 8, 2, 255)] 4 0x20,
    rw 0x144 0x2580 0xFFFFFF [(23, 0, 300, 1000000)] 4 0x20, rw 0x148 0xFFFF8005 0xFFFFFFFF [] 4 0x20,
    rw 0x14C 0x1 0xFFFF0003 [] 4 0x20, rw 0x150 0x010103E8 0xFFFFFFFF [(15, 0, 1, 65535)] 4 0x20,
    ro 0x154 0 4 0x20, ro 0x158 0 4 0x20 ]

/-- GLEANER (R155). -/
def regsGleaner : List RegDef :=
  [ ro 0x040 0 4, rw 0x050 0 0xFFF, ro 0x054, ro 0x058,
    rw 0x100 0x4000 0xFF0F [(3, 2, 0, 2), (15, 8, 1, 255)] 16 0x40, rw 0x104 0 0x1FF [] 16 0x40,
    rw 0x108 0x8000 0x01FFFFFF [(23, 0, 1, 0xFFFFFF)] 16 0x40, rw 0x10C 0 0x0FFF0FFF [] 16 0x40,
    ro 0x110 0 16 0x40, ro 0x114 0 16 0x40, ro 0x118 0 16 0x40, ro 0x11C 0 16 0x40,
    rw 0x120 0 0xFFFFFFFF [] 16 0x40, rw 0x124 0 0xFFFFFFFF [] 16 0x40, rw 0x128 0 0xFFFFFFFF [] 16 0x40,
    rw 0x12C 0 0xFFFFFFFF [] 16 0x40, rw 0x130 0 0xFFFFFFFF [] 16 0x40, rw 0x134 0 0xFFFFFFFF [] 16 0x40,
    rw 0x138 0 0xFFFFFFFF [] 16 0x40, rw 0x13C 0 0xFFFFFFFF [] 16 0x40,
    rw 0x800 0 0xFFFFFFFF [] 256 ]

/-- THRESHER (R174). -/
def regsThresher : List RegDef :=
  [ ro 0x040 0x2EE00000, ro 0x044 0x03D09000, ro 0x048 0 2, rw 0x050 0 0xFFF, rw 0x054 0 0xFFFFFF,
    ro 0x058 0x1000, ro 0x05C, rw 0x100 0 0x00FF1F7F [] 24 0x20,
    rw 0x104 0x4001 0x1F01FF07 [(2, 0, 0, 5)] 24 0x20,
    rw 0x108 0 0x0FFFFB7F [(6, 0, 0, 64)] 24 0x20, rw 0x10C 0 0x0FFFFB7F [(6, 0, 0, 64)] 24 0x20,
    rw 0x110 0 0x0FFF0FFF [(1, 0, 0, 2)] 24 0x20, rw 0x114 0 0x00FFFFFF [] 24 0x20,
    mixed 0x118 0 0x7F [] 24 0x20, ro 0x11C 0 24 0x20, ro 0x400 0 24 ]

/-- WINNOW (R221); the rule window shows the rule named by RSEL. -/
def regsWinnow : List RegDef :=
  [ rw 0x040 0x20 0xFFFF [(15, 0, 1, 65535)], ro 0x044 0x02EE0000, ro 0x048 0x007A1200, ro 0x04C 0 4,
    rw 0x060 0 0xFFFFFFFF [] 4, ro 0x070 0 4, rw 0x080 0 0x7F,
    rw 0x100 0 0xFFFFFF7F [(5, 4, 1, 3)], rw 0x104 0 0x00003F3F [(4, 0, 0, 23)], ro 0x108, ro 0x10C,
    rw 0x110 0 0x03FFFFFF [(8, 6, 0, 3), (17, 15, 0, 3), (20, 18, 0, 5), (22, 21, 0, 2)] 4 16,
    rw 0x114 0 0xFFFFFFFF [] 4 16, rw 0x118 0 0xFFFFFFFF [] 4 16,
    rw 0x11C 0 0x03FFFFFF [(25, 24, 0, 2)] 4 16 ]

/-- GRANARY (R278). -/
def regsGranary : List RegDef :=
  [ ro 0x040 0x600, ro 0x044 0x510, ro 0x048 0xFFFFFFFF, ro 0x04C 0xFFFF, ro 0x050 0 2,
    rw 0x058 0x000E1010 0x00FFFFFF [(7, 0, 1, 255), (23, 8, 60, 65535)], ro 0x05C, banked 0x060 0x3F,
    ro 0x064 0 2, rw 0x06C 0x108040 0x00FFFFFF, ro 0x070, ro 0x074 0x900, banked 0x078 0x1F, ro 0x07C 0 2,
    w1c 0x084 0xFFFFFFFF, rw 0x088 0x4001 0xFF01, ro 0x08C, banked 0x090 0x3F, ro 0x094 0 2,
    { off := 0x09C, acc := .ro, mask := 0, pair := 1 }, { off := 0x0A0, acc := .ro, mask := 0, pair := 2 },
    rw 0x0C0 0 0x01FF00FF [] 4 ]

/-- MEMTEST (R279). -/
def regsMemtest : List RegDef :=
  [ rw 0x040 0x01650101 0x01FFFF01 [(15, 8, 1, 255), (23, 16, 1, 255)], ro 0x044 0 5 ] ++ roPair 0x058

/-- FLASH (R305). -/
def regsFlash : List RegDef :=
  [ ro 0x040, ro 0x044, rw 0x048 0x306 0x307 [(1, 0, 0, 2)],
    rw 0x04C 0x002001E0 0x03FF01FF, rw 0x050 0x0100003C 0xFFFFFFFF [(15, 0, 1, 65535), (31, 16, 1, 65535)],
    mixed 0x054 1 0x3, ro 0x058, ro 0x05C, ro 0x060, ro 0x064, ro 0x068, ro 0x06C, banked 0x070 0xF, ro 0x074,
    banked 0x078 0x1F, ro 0x07C, ro 0x080, ro 0x084 0 4, ro 0x094,
    { off := 0x098, acc := .ro, mask := 0, bank := true }, ro 0x09C ]

/-- OPTION (R306). -/
def regsOption : List RegDef :=
  [ ro 0x040 0 24, ro 0x0A0, ro 0x0A4, ro 0x0A8, ro 0x0AC, banked 0x0B0 0x3F, ro 0x0B4,
    { off := 0x0B8, acc := .ro, mask := 0, pair := 1 }, { off := 0x0BC, acc := .ro, mask := 0, pair := 2 } ]

/-- FIELD (R331); the reset values of SHAPE0 to SHAPE7 stand in `resetSpecial`. -/
def regsField : List RegDef :=
  [ rw 0x040 0x00140A01 0x003FFF01 [(15, 8, 1, 255)],
    rw 0x044 0x0E1E6414 0xFFFFFFFF [(7, 0, 1, 255), (15, 8, 1, 255), (23, 16, 1, 255), (31, 24, 1, 255)],
    ro 0x048 0x7D0, ro 0x04C, rw 0x050 0x0001F461 0x000FFFFF [(1, 0, 0, 2)], ro 0x054,
    rw 0x058 0x00140300 0x003F07FF [(10, 8, 0, 5)],
    rw 0x05C 0x405 0xFFFF [(7, 0, 1, 255), (15, 8, 1, 255)], mixed 0x060 0 0xFF,
    rw 0x080 0x6194 0x3FFFF [(11, 6, 1, 63), (17, 12, 1, 63)] 8 ]

/-- ANTENNA (R332). -/
def regsAntenna : List RegDef :=
  [ rw 0x040 0 0x00FF03F7 [] 8 0x20, mixed 0x044 0 0x0000C000 [] 8 0x20, mixed 0x048 0x10 0x1F [] 8 0x20,
    ro 0x04C 0 8 0x20, rw 0x050 0x1F40 0x1FFF [(12, 0, 1, 8000)] 8 0x20, rw 0x200 0 0xBFFF [] 64,
    ro 0x300 0 8, ro 0x340 0 32, ro 0x3C0 0 4 ]

/-- READER (R356). -/
def regsReader : List RegDef :=
  [ rw 0x040 0x000A1403 0x00FFFF0F [(15, 8, 1, 255)],
    rw 0x044 0x000C14E6 0x00FFFFFF [(7, 0, 1, 255), (15, 8, 1, 40), (23, 16, 3, 30)],
    ro 0x048, ro 0x04C, ro 0x050, ro 0x054, banked 0x058 0x7F, ro 0x05C, ro 0x060 0 3, ro 0x06C, ro 0x070 ]
  ++ roPair 0x074 ++
  [ ro 0x07C, rw 0x080 0 0x07FFFFFF [] 4 8, rw 0x084 0 0x7F1F [(14, 8, 0, 0)] 4 8,
    rw 0x0A0 0 0x007FFF3F [(1, 0, 0, 2), (22, 20, 0, 4)] 4, rw 0x0B0 0 0xFFFFFFFF ]

/-- TAGPORT (R357). An MSEL of 192 to 255 shows an entry that is not there: 0 (DESIGN CHOICE, log entry 1501). -/
def regsTagport : List RegDef :=
  [ ro 0x040, banked 0x044 0xFF [(7, 0, 0, 191)], ro 0x048, ro 0x04C ] ++ roPair 0x050 ++
  [ banked 0x058 0xFF, ro 0x060 0 8 ]

/-- RFXCVR (R391). REGION and the band edges follow option group B. -/
def regsRfxcvr : List RegDef :=
  [ rw 0x040 0 0x3FFFFFFF, rw 0x044 0x40 0x7F [(2, 0, 0, 5), (5, 4, 0, 2)], rw 0x048 0 0xFFFF [(15, 8, 0, 100)],
    ro 0x04C 0x8, ro 0x050, ro 0x054, ro 0x058, ro 0x05C, ro 0x060,
    rw 0x064 0x2355 0xFF7F [(2, 0, 1, 7), (5, 3, 0, 4)], ro 0x068, rw 0x070 0x25150A02 0xFFFFFFFF,
    rw 0x074 0x80674F39 0xFFFFFFFF, rw 0x078 0xDAC6B098 0xFFFFFFFF, rw 0x07C 0xFFFDF5EA 0xFFFFFFFF,
    rw 0x080 0xD 0xFF [(7, 0, 1, 255)], rw 0x200 0x4000 0xFFFFFFFF, rw 0x204 0 0xFFFFFFFF [] 34 ]

/-- MODEM (R392). -/
def regsModem : List RegDef :=
  [ rw 0x040 0x0C67A8B8 0x1FFFFFFF
      [(2, 1, 0, 2), (6, 4, 0, 6), (12, 8, 0, 20), (19, 16, 4, 12), (23, 20, 4, 10), (28, 24, 1, 31)],
    ro 0x044, rw 0x048 0 0xFFFFFFFF, ro 0x050 0 3, ro 0x05C ] ++ roPair 0x060 ++
  [ ro 0x068, ro 0x06C, ro 0x070 0 3, ro 0x080, ro 0x084, ro 0x088, ro 0x08C, ro 0x090, ro 0x094 ]

/-- LINK (R421). -/
def regsLink : List RegDef :=
  [ rw 0x040 0x00087843 0x000F7FFF [(7, 4, 1, 8), (19, 16, 1, 8)], rw 0x044 0 0x3FFFFFFF,
    rw 0x048 0x40190101 0xFFFF0F77 [(2, 0, 0, 5), (6, 4, 0, 3), (11, 8, 0, 4), (23, 16, 1, 255), (31, 24, 4, 120)],
    rw 0x04C 0 0x3FFFFFFF, ro 0x050 0xF,
    rw 0x054 0x003C1E1E 0xFFFFFFFF [(7, 0, 1, 255), (15, 8, 1, 255), (31, 16, 1, 65535)],
    rw 0x058 0x0C22003C 0x7F37FFFF [(15, 0, 1, 65535), (18, 16, 1, 7), (30, 24, 0, 80)],
    rw 0x05C 0x800 0xF3F [(11, 8, 1, 15)], act 0x060 0x3F, ro 0x064, ro 0x068, rw 0x06C 0 0x3F3F,
    rw 0x070 0xA00 0xFFFFFF3F [(15, 8, 1, 255)] 4, ro 0x080 0 5, banked 0x0A0 0xF, ro 0x0A4 0 4 ]

/-- PEERS (R422). -/
def regsPeers : List RegDef :=
  [ ro 0x040 0 8, banked 0x060 0xFFFF, ro 0x064, banked 0x068 0xFF, ro 0x06C 0 7,
    { off := 0x088, acc := .ro, mask := 0, pair := 1 }, { off := 0x08C, acc := .ro, mask := 0, pair := 2 },
    rw 0x090 0 0x80FFFFFF [] 8, ro 0x100 0 9, ro 0x140 0 9, ro 0x180 0 9 ]

/-- HSPI (R486). -/
def regsHspi : List RegDef :=
  [ mixed 0x040 0 0x7, rw 0x044 0x2710 0x7FFF [(14, 0, 1000, 25000)],
    rw 0x048 0x4000 0xFFFFFF1F [(15, 8, 1, 255)], ro 0x04C, ro 0x050, ro 0x054, ro 0x058, ro 0x05C ]

/-- HTW (R501). -/
def regsHtw : List RegDef :=
  [ rw 0x040 0x19 0xFF [(7, 0, 1, 100)], ro 0x044, ro 0x048, ro 0x04C, ro 0x050, ro 0x054 ]

/-- CRIB (R529). -/
def regsCrib : List RegDef :=
  [ ro 0x040 0x00B10204, ro 0x044, { off := 0x048, acc := .ro, mask := 0, bank := true }, banked 0x04C 0x3F,
    ro 0x050, ro 0x054 0 2,
    mixed 0x05C 0x15 0x800000FF [(1, 0, 0, 2), (3, 2, 0, 2), (5, 4, 0, 2), (7, 6, 0, 2)],
    mixed 0x060 0 0xF, ro 0x064, ro 0x068, ro 0x06C, ro 0x070, banked 0x074 0x1F, ro 0x078,
    { off := 0x07C, acc := .ro, mask := 0, pair := 1 }, { off := 0x080, acc := .ro, mask := 0, pair := 2 } ]

/-- FUSE (R530). -/
def regsFuse : List RegDef := [ ro 0x040, ro 0x044, ro 0x048, ro 0x060 0 24 ]

/-- The first page of a page's kind (R22). -/
def pageKind (page : Nat) : Nat :=
  if 0x10 ≤ page ∧ page ≤ 0x17 then 0x10
  else if 0x40 ≤ page ∧ page ≤ 0x44 then 0x40
  else if 0x50 ≤ page ∧ page ≤ 0x6F then 0x50
  else page

/-- The block registers of a page, by the first page of its kind. -/
def blockRegs (kind : Nat) : List RegDef :=
  match kind with
  | 0x00 => regsDevice
  | 0x01 => regsOwn
  | 0x02 => regsOps
  | 0x10 => regsPortg
  | 0x18 => regsConv
  | 0x32 => regsSensbus
  | 0x0A => regsGleaner
  | 0x19 => regsThresher
  | 0x1A => regsWinnow
  | 0x1C => regsGranary
  | 0x1D => regsMemtest
  | 0x1E => regsFlash
  | 0x03 => regsOption
  | 0x20 => regsField
  | 0x21 => regsAntenna
  | 0x22 => regsReader
  | 0x23 => regsTagport
  | 0x3A => regsCrib
  | 0x04 => regsFuse
  | 0x28 => regsRfxcvr
  | 0x29 => regsModem
  | 0x2A => regsLink
  | 0x2B => regsPeers
  | 0x30 => regsHspi
  | 0x31 => regsHtw
  | 0x05 => regsPmu
  | 0x06 => regsClock
  | 0x07 => regsTime
  | 0x08 => regsEvent
  | 0x09 => regsIntc
  | 0x1B => regsSheaf
  | 0x38 => regsCore
  | 0x3C => regsService
  | 0x40 => regsMbox
  | 0x50 => regsQwin
  | _ => []

/-- The EVRAW lines of a page (R26), one bit each. -/
def evMask (kind : Nat) : Nat :=
  match kind with
  | 0x01 => 0x1F
  | 0x02 => 0x3
  | 0x10 => 0xFFFFFFFF
  | 0x18 => 0x03FFFFFF
  | 0x32 => 0xFFF
  | 0x0A => 0xFFFFFFFF
  | 0x19 => 0x03FFFFFF
  | 0x1A => 0x0FFFFFFF
  | 0x1C => 0x1F
  | 0x1D => 0x7
  | 0x1E => 0x3F
  | 0x03 => 0x7
  | 0x20 => 0xFFF
  | 0x21 => 0xFFFF
  | 0x22 => 0x1F
  | 0x23 => 0x3
  | 0x3A => 0x7F
  | 0x28 => 0x1F
  | 0x29 => 0x1F
  | 0x2A => 0x7F
  | 0x2B => 0x7
  | 0x30 => 0x7
  | 0x31 => 0x7
  | 0x05 => 0x1F
  | 0x06 => 0x3
  | 0x07 => 0xF1F
  | 0x08 => 0xF
  | 0x09 => 0x1
  | 0x1B => 0xFFFFFFFF
  | 0x38 => 0x7
  | 0x3C => 0xF
  | 0x40 => 0x3
  | 0x50 => 0xF
  | _ => 0

/-- Whether a page is assigned (R20), DEBUG_CLOSE aside: the page map of chapter 02. -/
def pageAssigned (page : Nat) : Bool :=
  (page ≤ 0x0A) || (0x10 ≤ page && page ≤ 0x1E) || (0x20 ≤ page && page ≤ 0x23) ||
  (0x28 ≤ page && page ≤ 0x2B) || (0x30 ≤ page && page ≤ 0x32) || page == 0x38 || page == 0x3A ||
  page == 0x3C || page == 0x3F || (0x40 ≤ page && page ≤ 0x44) || (0x50 ≤ page && page ≤ 0x6F) ||
  (0x80 ≤ page && page ≤ 0xFF)

/-- Pages whose CTL.EN reads 1 and whose CTL.SRST reads 0, with neither writable (R25). -/
def fixedCtl (page : Nat) : Bool :=
  page ≤ 0x08 || page == 0x3A || page == 0x3C || (0x40 ≤ page && page ≤ 0x44) ||
  (0x50 ≤ page && page ≤ 0x6F)

/-- The common header of a page (R23). -/
def headerRegs (kind : Nat) : List RegDef :=
  [ ro 0x000, ro 0x004, mixed 0x008 (if kind == 0x2A then 0 else 1) 0x7, ro 0x00C,
    w1c 0x010 (evMask kind), rw 0x014 0 (evMask kind), ro 0x018,
    mixed 0x01C (if kind == 0x04 || kind == 0x3A then 2 else 0) 0x80000003 ]
  ++ roPair 0x020

/-- Whether a definition covers an offset. -/
def RegDef.covers (d : RegDef) (off : Nat) : Bool :=
  decide (d.off ≤ off) && (off - d.off) % d.stride == 0 && decide ((off - d.off) / d.stride < d.count)

/-- The definition of the register at an offset of a page, if the page has one there. -/
def regAt (page off : Nat) : Option RegDef :=
  let kind := pageKind page
  if off < 0x040 then (headerRegs kind).find? (·.covers off)
  else (blockRegs kind).find? (·.covers off)

/-- Reset values that differ within a run of registers. -/
def resetSpecial (page off : Nat) : Option Nat :=
  match pageKind page, off with
  | 0x1B, 0x100 => some 0x00010791
  | 0x20, 0x084 => some 0x2094
  | 0x20, 0x088 => some 0x8217
  | 0x20, 0x08C => some 0x4114
  | 0x20, 0x090 => some 0x61A9
  | 0x1B, 0x110 => some 0x00010195
  | _, _ => none

/-- The value a register holds after power-on reset, by its address. -/
def resetOf (a : Nat) : Word :=
  let page := a / 0x1000
  let off := a % 0x1000
  match resetSpecial page off with
  | some v => BitVec.ofNat 32 v
  | none =>
    match regAt page off with
    | some d => BitVec.ofNat 32 d.rst
    | none => 0

end Sys2Proof.Machine
end

