-- ==== Sys2Proof/Machine/Tab.lean ====
section
/-!
DEFINITION. Sparse data by key: a list of (key, value) pairs in one canonical form, keys strictly
rising and no entry equal to what an unlisted key reads as. Memory (bytes by address), the register
file, and every numbered resource of the device are kept this way, so equal contents are equal data.
-/
namespace Sys2Proof.Machine

/-- A sparse table; an unlisted key k reads as the table's default at k. -/
abbrev Tab (α : Type) := List (Nat × α)

/-- What key k reads as, with d the default of unlisted keys. -/
def Tab.get {α : Type} (d : Nat → α) : Tab α → Nat → α
  | [], k => d k
  | (j, v) :: t, k => if k = j then v else Tab.get d t k

/-- The table with every entry of key k removed. -/
def Tab.erase {α : Type} : Tab α → Nat → Tab α
  | [], _ => []
  | (j, v) :: t, k => if k = j then Tab.erase t k else (j, v) :: Tab.erase t k

/-- The table with (k, v) placed before the first larger key, replacing an entry of k. -/
def Tab.put {α : Type} : Tab α → Nat → α → Tab α
  | [], k, v => [(k, v)]
  | (j, u) :: t, k, v =>
    if k = j then (k, v) :: t
    else if k < j then (k, v) :: (j, u) :: t
    else (j, u) :: Tab.put t k v

/-- The table with key k reading v: writing the default removes the entry. -/
def Tab.set {α : Type} [DecidableEq α] (d : Nat → α) (t : Tab α) (k : Nat) (v : α) : Tab α :=
  if v = d k then Tab.erase t k else Tab.put t k v

/-- The canonical form: keys strictly rising from lo up, and no entry at its default. -/
def Tab.wfFrom {α : Type} [DecidableEq α] (d : Nat → α) : Nat → Tab α → Bool
  | _, [] => true
  | lo, (j, v) :: t => decide (lo ≤ j) && decide (v ≠ d j) && Tab.wfFrom d (j + 1) t

/-- The table is in canonical form. -/
def Tab.wf {α : Type} [DecidableEq α] (d : Nat → α) (t : Tab α) : Bool := Tab.wfFrom d 0 t

/-- The table with only the entries whose key satisfies p. -/
def Tab.keep {α : Type} (p : Nat → Bool) : Tab α → Tab α
  | [] => []
  | (j, v) :: t => if p j then (j, v) :: Tab.keep p t else Tab.keep p t

end Sys2Proof.Machine
end

