-- ==== Sys2Proof/Machine/State.lean ====
section
/-!
DEFINITION. The state of the TOR9640 as plain data: every register, queue, buffer, counter, mode and
pin the spec gives it, and the queue of waiting commands. A field's initial value is its value right
after power-on reset is released (the register file's own reset values stand in RegMap.lean).
-/
namespace Sys2Proof.Machine

/-- The sixteen completion codes (R75). -/
inductive Code where
  | done | state | arg | notOwner | notReady | busy | timeout | medium | integrity | security
  | sameBank | progTwice | quota | aborted | loop | incomplete
  deriving DecidableEq, Repr

/-- Why the machine stops. No command of the spec stops the device: the one fault is a command that
no sender can form. -/
inductive Fault where
  /-- Raised by a command whose operands are outside the format the spec gives it
  (`WellFormed` is false). Safe: the hardware never meets such a command. -/
  | illFormed
  deriving DecidableEq, Repr

/-- Why the machine refuses a command. -/
inductive Refusal where
  /-- The command's meaning is not modelled yet. Safe. -/
  | notModelled (mnemonic : String)
  deriving DecidableEq, Repr

/-- A master's shadow in a page (R34): the offset of the low word of the value it belongs to, the high word, and
after a read of a sensor port's VAL the low word of its stamp as well (R109). -/
structure Shadow where
  off : Nat := 0
  low : Option Word := none
  high : Word := 0
  deriving DecidableEq, Repr

/-- A master's last completed access, as the master sees it (R13, R38): the value read and the code. -/
structure Resp where
  value : Word := 0
  code : Code := .done
  deriving DecidableEq, Repr

/-! ### Ownership (R37 to R50) and operation slots (R58 to R71) -/

/-- Ownership, held in AON. -/
structure Own where
  owner : Option Master := none
  epoch : BitVec 16 := 0
  /-- The time at which the open claim window closes (R40). -/
  window : Option Stamp := none
  /-- The claims lodged in the window, one per master, each with its period in ms. -/
  claims : List (Master × Nat) := []
  /-- The lease period in ms. -/
  period : Nat := 0
  /-- When the lease runs out, while it counts (R43). -/
  due : Stamp := 0
  /-- The remaining count while the lease holds it in STANDBY, GUARD or below VIN_CUT (R43, R96). -/
  held : Option Nat := none
  /-- The pending handover: target and expiry (R46). -/
  handover : Option (Master × Stamp) := none
  deriving DecidableEq, Repr

/-- A slot's state (R58). -/
inductive SlotState where
  | free | queued | running | held
  deriving DecidableEq, Repr

/-- One of the 128 operation slots. -/
structure Slot where
  st : SlotState := .free
  /-- SLOT_INFO.SRC: 0 to 4 the owner's master, 5 to 9 the agents (R73). -/
  src : BitVec 4 := 0
  page : BitVec 8 := 0
  op : BitVec 8 := 0
  args : List Word := []
  fence : Bool := false
  /-- The order in which slots were accepted (R65). -/
  order : Nat := 0
  /-- Whether the doorbell was a secure transaction (R28). -/
  secure : Bool := false
  /-- The code the target block has reached, RUNNING until its end has reached AON. -/
  result : Option Code := none
  /-- TIME as the target block reached that code; until then TIME of its start (R67). -/
  ended : Stamp := 0
  /-- A scheduled window has held it back and it has been counted (R325). -/
  deferred : Bool := false
  /-- Code and stamp of the last completion, kept while FREE (R71). -/
  code : Code := .done
  stamp : Stamp := 0
  deriving DecidableEq, Repr

/-- The operation slots. -/
structure Ops where
  slots : Tab Slot := []
  /-- The slot allocated last (R60). -/
  last : Option (BitVec 7) := none
  /-- Slots accepted so far. -/
  accepted : Nat := 0
  deriving DecidableEq, Repr

/-! ### Time (R175 to R193) -/

/-- What steps TIME (R176). -/
inductive TimeSrc where
  | rc | crystal | tcxo
  deriving DecidableEq, Repr

/-- The discipline state (R189). -/
inductive DState where
  | free | acquire | locked | holdover
  deriving DecidableEq, Repr

/-- A snapshot packet being read out (R184). -/
structure SnapRun where
  /-- The payloads of the packet, first item first. -/
  items : List Word := []
  /-- The slot of the SNAP operation that made the latch, none for a fabric trigger. -/
  slot : Option (BitVec 7) := none
  /-- The wave and depth a fabric trigger carried (R227). -/
  wave : Option (Nat × Nat) := none
  deriving DecidableEq, Repr

/-- One beacon exchange with the parent (R188). -/
structure Exchange where
  t1 : Stamp := 0
  t2 : Stamp := 0
  t3 : Stamp := 0
  t4 : Option Stamp := none
  /-- Depth D of this station, from the parent's beacon. -/
  depth : Nat := 0
  /-- The parent's context, and whether the beacon is the first since a change of parent. -/
  parent : Nat := 0
  changed : Bool := false
  deriving DecidableEq, Repr

/-- TIME, its source and its discipline. -/
structure TimeState where
  now : Stamp := 0
  src : TimeSrc := .rc
  /-- Ticks since the last reference event: of the time clock, or in GUARD of the RC from `base`, the whole 2^17-unit
  step that TIME stood in at that event (R176). -/
  ticks : Nat := 0
  base : Stamp := 0
  /-- The TIME units still to be slewed away, positive while TIME is ahead (R188). -/
  slew : Int := 0
  /-- The sum of all steps, for UPTIME (R540). -/
  steps : Stamp := 0
  dstate : DState := .free
  depth : Nat := 0
  agree : Nat := 0
  /-- Superframes since the last sample (R189). -/
  missed : Nat := 0
  /-- When EST_ERR was last brought up to date (R192). -/
  estAt : Stamp := 0
  snap : Option SnapRun := none
  /-- The beacon exchange last received from the parent and not yet acted on (R188). -/
  sample : Option Exchange := none
  deriving DecidableEq, Repr

/-! ### Power, supplies and resets (R76 to R97, R446 to R463) -/

/-- The power state; RUN and IDLE differ only by the core's clock and are told apart by the core's own
state (R447). -/
inductive Depth where
  | awake | standby | guard | off
  deriving DecidableEq, Repr

/-- A sleep request accepted and not yet entered (R450). -/
structure SleepReq where
  /-- 0 STANDBY, 1 GUARD, 2 OFF. -/
  target : Nat := 0
  /-- When SLEEP_TMO runs out. -/
  due : Stamp := 0
  /-- The state at the request: 0 RUN, 1 IDLE. -/
  origin : Nat := 0
  deriving DecidableEq, Repr

/-- A reset in progress: the islands it holds, the time of release, its kind in RST_REC, and the power state at its
onset (R94). -/
structure ResetRun where
  islands : BitVec 9 := 0
  due : Stamp := 0
  kind : Nat := 0
  origin : Nat := 0
  deriving DecidableEq, Repr

/-- Supplies, power state and resets in progress, held in AON. -/
structure Power where
  /-- POR is asserted: the AON rail is below its threshold. -/
  por : Bool := false
  depth : Depth := .awake
  vin : Bool := true
  vfld : Bool := true
  vpa : Bool := true
  vioA : Bool := true
  vioB : Bool := true
  /-- VIN has passed below VIN_CUT: every island but AON is without power (R96). -/
  cut : Bool := false
  /-- The level of the RESET_N ball. -/
  resetN : Bool := true
  /-- The 32.768 kHz crystal has started; the TCXO is stable; the TCXO stopped while in use. -/
  xtal : Bool := false
  tcxo : Bool := false
  lost : Bool := false
  /-- Islands held in reset, bit order of PMU.ISL_RST (R93). -/
  inReset : BitVec 9 := 0
  resets : List ResetRun := []
  sleep : Option SleepReq := none
  /-- An exit in progress: the state left and when it began (R456). -/
  exit : Option (Depth × Stamp) := none
  /-- When the VCORE step settles, and the point it settles at (R457). -/
  settle : Option (Stamp × Nat) := none
  /-- When each page's start began, for its limit of R82 and R87. -/
  began : Tab Stamp := []
  /-- Pages whose start is a soft reset or a start after a reset, not a POR start (R87, R569). -/
  short : List Nat := []
  deriving DecidableEq, Repr

/-! ### The event fabric (R222 to R234) -/

/-- One channel's own state: the wave tags it has propagated and when it last accepted a pulse. -/
structure Chan where
  waves : BitVec 16 := 0
  accepted : Option Stamp := none
  deriving DecidableEq, Repr

/-- One task input: the latch, what it holds, and its counters (R225). -/
structure Task where
  held : Bool := false
  wave : BitVec 4 := 0
  depth : Nat := 0
  merged : BitVec 16 := 0
  lost : BitVec 8 := 0
  deriving DecidableEq, Repr

/-- One wave tag (R229). -/
structure Wave where
  live : Bool := false
  last : Stamp := 0
  deriving DecidableEq, Repr

/-- A source pulse on its way to the channels: the source, and the wave and depth it carries, none for
a pulse that starts a new wave (R227). -/
structure Pulse where
  src : Nat := 0
  wave : Option (Nat × Nat) := none
  /-- When it was raised, for the 25 ns of R224. -/
  raised : Stamp := 0
  deriving DecidableEq, Repr

/-- The event fabric. -/
structure Fabric where
  chans : Tab Chan := []
  tasks : Tab Task := []
  waves : Tab Wave := []
  /-- The tag allocated last. -/
  last : Nat := 0
  reclaims : BitVec 8 := 0
  /-- Source pulses raised and not yet examined by the channels, oldest first. -/
  pulses : List Pulse := []
  deriving DecidableEq, Repr

/-! ### Sheaf queues (R238 to R253) -/

/-- A stored item, and whether it fails its ECC check uncorrectably (R240). -/
structure QItem where
  word : Word := 0
  bad : Bool := false
  deriving DecidableEq, Repr

/-- One queue. -/
structure Queue where
  /-- Visible items, head first. -/
  items : List QItem := []
  /-- Items of the open packet the consumer cannot see yet: payload and position, no SEQ. -/
  hidden : List Word := []
  /-- The producer of the open packet: 0 to 4 a master, 16 to 31 a Gleaner thread (R255). -/
  opened : Option Nat := none
  /-- Items the open packet has taken, and how many of them became visible. -/
  total : Nat := 0
  shown : Nat := 0
  seq : BitVec 5 := 0
  /-- A pair of the duplicated pointers disagrees (R250). -/
  ptrBad : Bool := false
  deriving DecidableEq, Repr

/-! ### The control core and the interrupt controller (R423 to R445) -/

/-- The architectural state a checkpoint holds (R430). -/
structure Checkpoint where
  x : Tab Word := []
  pc : Word := 0
  csr : Tab Word := []
  machine : Bool := true
  deriving DecidableEq, Repr

/-- The lockstep pair, seen as one hart. -/
structure CoreState where
  /-- Released by the boot ROM and running firmware. -/
  released : Bool := false
  machine : Bool := true
  wfi : Bool := false
  halted : Bool := false
  pc : Word := 0
  /-- General registers x1 to x31; x0 is not stored and reads 0. -/
  x : Tab Word := []
  /-- CSRs by number. -/
  csr : Tab Word := []
  /-- TCM words: 0 to 0xFFFF instruction TCM, 0x10000 to 0x1FFFF data TCM. -/
  tcm : Tab Word := []
  /-- TCM words that are uncorrectable (R433). -/
  tcmBad : List Nat := []
  ckpt : Checkpoint := {}
  ckptAt : Stamp := 0
  /-- The undo log, newest first: word and old value (R430). -/
  undo : List (Nat × Word) := []
  /-- Stamps of the latest re-synchronisations, newest first, and whether a checkpoint followed. -/
  resyncs : List Stamp := []
  resyncOpen : Bool := false
  /-- Where the core fetches from: a flash bank 0 to 2, none for TCM (R287). -/
  fetch : Option Nat := none
  /-- A flash read that waits for a busy bank: its codeword, and whether it is a fetch (R284, R425). -/
  stall : Option (Nat × Bool) := none
  /-- The bank the core was running from at its last start, and whether it was unconfirmed (R427). -/
  ran : Option Nat := none
  ranUnconfirmed : Bool := false
  deriving DecidableEq, Repr

/-- One moderation group (R440). -/
structure ModGroup where
  holding : Bool := false
  since : Stamp := 0
  edges : Nat := 0
  /-- A member's PEND has been 1 since the group was last released. -/
  had : Bool := false
  deriving DecidableEq, Repr

/-- The interrupt controller. -/
structure Intc where
  active : BitVec 192 := 0
  /-- Claimed sources and their PRIO, top first. -/
  stack : List (Nat × Nat) := []
  frozen : Bool := false
  mods : Tab ModGroup := []
  /-- Host-target sources that became pending and whose Q1 record is not yet placed, with the stamp of
  the rise, oldest first (R252). -/
  due : List (Nat × Stamp) := []
  deriving DecidableEq, Repr

/-! ### Continuous service (R533 to R540) -/

/-- One entry of the fault record ring (R538). -/
structure FltEntry where
  fcode : BitVec 8 := 0
  page : BitVec 8 := 0
  detail : BitVec 8 := 0
  count : BitVec 8 := 0
  stamp : Stamp := 0
  deriving DecidableEq, Repr

/-- A watchdog count: what remained at a moment, and whether it counts since then. -/
structure Wdt where
  /-- The mode runs: enabled with CORE as owner, or UNCONFIRMED (R533). -/
  running : Bool := false
  left : Nat := 0
  since : Stamp := 0
  counting : Bool := false
  warned : Bool := false
  deriving DecidableEq, Repr

/-- Watchdogs, heartbeat and the fault ring, held in AON. -/
structure Service where
  /-- Newest first, at most 32. -/
  ring : List FltEntry := []
  normal : Wdt := {}
  unconf : Wdt := {}
  /-- Islands whose heartbeat is unacknowledged, with the time it was sent. -/
  beats : List (Nat × Stamp) := []
  deriving DecidableEq, Repr

/-! ### Sensor ports and converters (R100 to R125) -/

/-- Where a quarantined port stands (R120, R121). -/
inductive QStage where
  /-- In service. -/
  | service
  /-- Waiting for the clamp current to stay below TRIP_LO for SETTLE. -/
  | settling (due : Stamp)
  /-- The automatic self-test runs. -/
  | testing (due : Stamp)
  /-- Waiting for the next INTERVAL. -/
  | waiting (due : Stamp)
  /-- The automatic retries are spent. -/
  | stuck
  /-- The self-test of a PORT_TEST operation runs. -/
  | opTest (quar : Bool)
  deriving DecidableEq, Repr

/-- One pulse measurement: PERIOD or WIDTH (R113). -/
structure Capture where
  ticks : Nat := 0
  ovf : Bool := false
  valid : Bool := false
  deriving DecidableEq, Repr

/-- A sensor port beside its PCFG and AUX registers. -/
structure Port where
  /-- The configuration in effect; PCFG and AUX read back what was written last (R102). -/
  pcfg : Word := 0x200
  aux : Word := 0
  /-- VAL and its stamp. -/
  val : BitVec 24 := 0
  stamp : Stamp := 0
  /-- The level a DOUT port drives, and the level the pad ring holds after a reset (R89, R100). -/
  drive : Option Bool := none
  held : Option Bool := none
  stage : QStage := .service
  reason : BitVec 4 := 0
  /-- The self-tests since the last entry, and the cause of that entry. -/
  tries : Nat := 0
  cause : BitVec 4 := 0
  peak : BitVec 8 := 0
  /-- The clamp current, µA. -/
  clamp : Nat := 0
  /-- Consecutive LOOP samples below 1.00 mA, above 23.00 mA and inside (R112), and the flags. -/
  low : Nat := 0
  high : Nat := 0
  inside : Nat := 0
  loopOpen : Bool := false
  loopShort : Bool := false
  ovr : Bool := false
  /-- The level at the ball of a digital port, the stamp of its last transition, and since when the debounce time runs,
  which a step of TIME moves. -/
  level : Bool := false
  edge : Stamp := 0
  since : Stamp := 0
  /-- A DIN port is inside its debounce time. -/
  settling : Bool := false
  /-- The continuously running SAR converters whose sample in progress a written PCFG or AUX still waits for (R102). -/
  waits : List Nat := []
  /-- PULSE: the edges a measurement runs from, and the measurements. -/
  periodFrom : Option Stamp := none
  widthFrom : Option Stamp := none
  period : Capture := {}
  width : Capture := {}
  deriving DecidableEq, Repr

/-- Who asked for a conversion: nobody (continuous), a Gleaner thread, a fabric task. -/
inductive ConvBy where
  | free
  | thread (t : BitVec 4)
  | task
  deriving DecidableEq, Repr

/-- A CONV request waiting for a converter: thread, none once it has been stopped, switch, port (R139, R153). -/
structure ConvWait where
  thread : Option (BitVec 4) := none
  sw : Bool := false
  port : Nat := 0
  deriving DecidableEq, Repr

/-- A converter beside its XBAR and CFG registers: SD0 to SD15, then SAR0 to SAR3. -/
structure Conv where
  /-- A triggered conversion in progress: who asked, and the port it started on. -/
  run : Option (ConvBy × Nat) := none
  /-- A continuously running SAR is still converting this port, which XBAR named when the conversion began (R105). -/
  late : Option Nat := none
  waits : List ConvWait := []
  /-- The next input is the first after a switch (R105). -/
  mark : Bool := false
  ovr : Bool := false
  /-- The calibration last applied: 0 none, otherwise the number of the free value drawn (R160). -/
  cal : Nat := 0
  deriving DecidableEq, Repr

/-- Who asked for a sensor-bus transfer. -/
inductive BusUser where
  | slot (tag : BitVec 7)
  | thread (t : BitVec 4)
  /-- A thread that has been stopped meanwhile: the result is discarded (R153). -/
  | nobody
  deriving DecidableEq, Repr

/-- A transfer at a sensor-bus unit: its operation and arguments (R117, R122). -/
structure Xfer where
  user : BusUser := .slot 0
  op : Nat := 0
  args : List Word := []
  /-- A UART transaction has sent its bytes and waits for the reply until then (R119). -/
  sent : Option Stamp := none
  deriving DecidableEq, Repr

/-- A sensor-bus unit: TWC0 to TWC3, SPC0 to SPC3, UART0 to UART3. -/
structure BusUnit where
  /-- Transfers in the order they reached the unit; the first is in progress. -/
  queue : List Xfer := []
  /-- The receive buffer, at most 32 bytes. -/
  rxd : List Byte := []
  /-- TWC: arbitration losses of the transfer in progress, the target role, and BUS_STUCK
  (R495 to R498). -/
  losses : Nat := 0
  target : Bool := false
  stuck : Bool := false
  /-- The bytes the unit last shifted out, and the chip select it keeps asserted (R122). -/
  sent : List Byte := []
  /-- UART: for how many bit times DE was asserted for those bytes, DE_LEAD and DE_LAG included (R119). -/
  de : Nat := 0
  keep : Option Nat := none
  deriving DecidableEq, Repr

/-- The sensing side of SENSE. -/
structure Sense where
  ports : Tab Port := []
  convs : Tab Conv := []
  units : Tab BusUnit := []
  deriving DecidableEq, Repr

/-! ### The Gleaner (R126 to R155) -/

/-- A thread's state; a thread that is STOPPING is in an activation with `stopping` set (R128). -/
inductive TState where
  | stopped | wait | ready | blocked | fault
  deriving DecidableEq, Repr

/-- What a blocked thread waits for. -/
inductive Block where
  | none
  /-- WAIT until a time; WEV with an optional end. -/
  | time (due : Stamp)
  | event (due : Option Stamp) (tol : Bool)
  /-- A CONV, IN or TAGRD into rd; OUT, FEED, PUSH or PUSHR with no result register; a BUS transfer. -/
  | result (rd : Option (BitVec 3)) (tol : Bool)
  | bus (rd : BitVec 3) (tol : Bool) (skip : Nat)
  /-- A fresh tag transaction, with its slot once it has one. -/
  | tag (rd : BitVec 3) (tol : Bool) (port : Nat) (slot : Option (BitVec 7))
  deriving DecidableEq, Repr

/-- The result of a blocked instruction as it arrives: the code, the value, what it sets the stamp latch
to (source and stamp), and STALE for a tag. -/
structure BlockRes where
  code : Code := .done
  value : Word := 0
  latch : Option (Nat × Stamp) := none
  stale : Option Bool := none
  deriving DecidableEq, Repr

/-- A Gleaner thread beside its registers in the register file (R126). -/
structure Thread where
  st : TState := .stopped
  stopping : Bool := false
  /-- Held quiesced by a LOAD (R152). -/
  held : Bool := false
  pc : BitVec 12 := 0
  /-- Instructions issued in this activation or VECTOR path (R135). -/
  issued : Nat := 0
  code : BitVec 8 := 0
  stale : Bool := false
  /-- The stamp latch, and whether its stamp is a tag-port value's, taken in FIELD. -/
  stamp : Stamp := 0
  src : BitVec 8 := 0
  tag : Bool := false
  pending : Bool := false
  /-- The wave of the pending cause and of the activation, none when not from the fabric. -/
  pendWave : Option (Nat × Nat) := none
  wave : Option (Nat × Nat) := none
  vectored : Bool := false
  block : Block := .none
  res : Option BlockRes := none
  /-- The shadow of a STMP sel 2 read. -/
  shadow : Option Word := none
  /-- The next periodic due time. -/
  due : Option Stamp := none
  deriving DecidableEq, Repr

/-- A LOAD waiting for its held threads (R152). -/
structure LoadRun where
  slot : BitVec 7 := 0
  flash : Bool := false
  addr : Nat := 0
  dest : Nat := 0
  count : Nat := 0
  deriving DecidableEq, Repr

/-- What UTIL is formed from: the second being counted, instructions issued in it, its TIME spent at the
fast clock, and since when the present clock runs (R155). -/
structure Util where
  second : Word := 0
  issued : Nat := 0
  fastTime : Nat := 0
  slowTime : Nat := 0
  since : Stamp := 0
  deriving DecidableEq, Repr

/-- The Gleaner. -/
structure Gleaner where
  threads : Tab Thread := []
  store : Tab Word := []
  /-- Program-store words whose parity bit disagrees with the word (R126). -/
  parity : List Nat := []
  /-- The last thread to issue at each PRI (R134), and the thread whose last instruction takes a second cycle
  (R138), so that another may issue before it. -/
  last : Tab Nat := []
  late : Option Nat := none
  load : Option LoadRun := none
  /-- STOP operations waiting for their threads: slot and mask (R153). -/
  stops : List (BitVec 7 × BitVec 16) := []
  util : Util := {}
  deriving DecidableEq, Repr

/-! ### The Thresher (R156 to R174) -/

/-- A lane configuration: LCFG, CIC, FIR1, FIR2, BQ and RATE as admitted, and on lanes 16 to 19 the DIV it was
admitted at. -/
structure LaneCfg where
  lcfg : Word := 0
  cic : Word := 0x4001
  fir1 : Word := 0
  fir2 : Word := 0
  bq : Word := 0
  rate : Word := 0
  div : Nat := 25
  deriving DecidableEq, Repr

/-- One input of a lane: its value, stamp, switch mark, overrange state, and the thread whose CONV it
belongs to. -/
structure LaneIn where
  value : Int := 0
  stamp : Stamp := 0
  /-- The stamp was taken in FIELD: a tag-port value's (R180, R201). -/
  tag : Bool := false
  mark : Bool := false
  ovr : Bool := false
  by_ : ConvBy := .free
  port : Option Nat := none
  deriving DecidableEq, Repr

/-- One biquad's history: x[n−1], x[n−2], y[n−1], y[n−2] (R162). -/
structure Biquad where
  x1 : Int := 0
  x2 : Int := 0
  y1 : Int := 0
  y2 : Int := 0
  deriving DecidableEq, Repr

/-- A lane's arithmetic state. -/
structure LaneArith where
  /-- Integrators and comb delays, 64-bit registers (R160). -/
  integ : List (BitVec 64) := []
  comb : List (BitVec 64) := []
  /-- Inputs since the last CIC output, and the position in each FIR's decimation. -/
  phase0 : Nat := 0
  phase1 : Nat := 0
  phase2 : Nat := 0
  /-- Delay lines, newest first. -/
  line1 : List Int := []
  line2 : List Int := []
  bq1 : Biquad := {}
  bq2 : Biquad := {}
  deriving DecidableEq, Repr

/-- An output a lane has computed and not yet delivered. -/
structure LaneOut where
  value : Int := 0
  stamp : Stamp := 0
  tag : Bool := false
  ovr : Bool := false
  by_ : ConvBy := .free
  port : Option Nat := none
  deriving DecidableEq, Repr

/-- A Thresher lane beside its staging registers. -/
structure Lane where
  cfg : Option LaneCfg := none
  /-- The configuration of the ADMIT in progress; none inside names a release. -/
  next : Option (Option LaneCfg) := none
  arith : LaneArith := {}
  /-- Inputs delivered and not yet processed, oldest first. -/
  inputs : List LaneIn := []
  /-- Outputs still to be suppressed (R166). -/
  suppress : Nat := 0
  /-- Overrange seen since the last output. -/
  ovr : Bool := false
  last : BitVec 24 := 0
  stamp : Stamp := 0
  /-- STAT[6:0] and QDROP. -/
  flags : BitVec 7 := 0
  qdrop : BitVec 8 := 0
  cost : Nat := 0
  guardCost : Nat := 0
  /-- The previous accepted FEED (R158). -/
  fed : Option Stamp := none
  /-- The lane's next input carries a switch mark (R165). -/
  mark : Bool := false
  deriving DecidableEq, Repr

/-- The Thresher. -/
structure Thresher where
  lanes : Tab Lane := []
  coef : Tab (BitVec 24) := []
  /-- The slot of the ADMIT in progress, and when it started. -/
  admitting : Option (BitVec 7) := none
  admitAt : Stamp := 0
  /-- The staged configurations that ADMIT names, as they stood when it started (R171). -/
  copied : List (Nat × LaneCfg) := []
  deriving DecidableEq, Repr

/-! ### Winnow (R195 to R221) -/

/-- One condition's state and references (R198 to R203). -/
structure Cond where
  s : Bool := false
  /-- The last x after DELTA, and the previous raw x (R197). -/
  x : Int := 0
  prev : Option Int := none
  prev2 : Option Int := none
  /-- The previous evaluated x of source 1 and of source 2, for crossings. -/
  cross1 : Option Int := none
  cross2 : Option Int := none
  /-- RATE: references and the samples since the last boundary (R199). -/
  rNew : Option Int := none
  rOld : Option Int := none
  count : Nat := 0
  /-- COUNT: the bucket number of the latest time, and the counts of it and the 15 before, newest first. -/
  bucket : Option Nat := none
  counts : List Nat := []
  /-- SEQ: the latest crossings (R201). -/
  s1 : Option Stamp := none
  s2 : Option Stamp := none
  /-- Whether each of them was taken in FIELD. -/
  tag1 : Bool := false
  tag2 : Bool := false
  /-- STUCK: reference value and stamp (R202). -/
  vRef : Option Int := none
  tRef : Option Stamp := none
  /-- DEBOUNCE: raw state and when it last changed (R203). -/
  q : Bool := false
  tq : Option Stamp := none
  /-- The source that completed the last change: 0 to 63 port, 64 to 87 lane (R208). -/
  src : Nat := 0
  deriving DecidableEq, Repr

/-- One rule: its twenty words, conditions, output and counters. -/
structure Rule where
  /-- The rule window's words by their index: 0 RCFG, 1 ROUT, 4 + 4k CSRCk, CAk, CBk, CTk. -/
  words : Tab Word := []
  conds : Tab Cond := []
  out : Bool := false
  perr : Bool := false
  /-- The words whose parity disagrees, by index (R218). -/
  bad : List Nat := []
  suppr : BitVec 8 := 0
  fires : BitVec 16 := 0
  /-- The stamp of the last edge that fired (R209). -/
  fired : Option Stamp := none
  deriving DecidableEq, Repr

/-- An input waiting in Winnow's buffer: source code (0 to 63 port, 64 to 87 lane), value and stamp; or a tick, with its
TIME (R207). -/
structure WinIn where
  src : Nat := 0
  value : Int := 0
  stamp : Stamp := 0
  tag : Bool := false
  tick : Bool := false
  /-- What a tick sampled as it entered, by kind and index of the source: value, stamp and whether it is a PULSE count. -/
  samples : List ((Nat × Nat) × (Int × Stamp × Bool)) := []
  deriving DecidableEq, Repr

/-- Winnow. -/
structure Winnow where
  rules : Tab Rule := []
  inputs : List WinIn := []
  /-- The number of the last tick taken. -/
  tick : Nat := 0
  deriving DecidableEq, Repr

/-! ### Granary (R257 to R279) -/

/-- A region: purpose, its frames in order, and its pin (R262, R268). -/
structure Region where
  purpose : Nat := 0
  frames : List Nat := []
  /-- 0 unpinned, 1 in place, 2 Loft, 3 bank. -/
  pin : Nat := 0
  bank : Nat := 0
  deriving DecidableEq, Repr

/-- A handler declaration and its counts (R269, R276, R278). -/
structure Handler where
  channel : Nat := 0
  thread : Nat := 0
  gform : Bool := false
  cform : Bool := false
  /-- 0 none, 1 Gleaner, 2 core. -/
  pin : Nat := 0
  gruns : BitVec 12 := 0
  cruns : BitVec 12 := 0
  merged : BitVec 4 := 0
  lost : BitVec 4 := 0
  deriving DecidableEq, Repr

/-- One placement record (R271). -/
structure PlaceRec where
  w0 : Word := 0
  w1 : Word := 0
  stamp : Stamp := 0
  deriving DecidableEq, Repr

/-- A migration copy in progress (R266). -/
structure CopyRun where
  source : Nat := 0
  dest : Nat := 0
  reason : Nat := 0
  deriving DecidableEq, Repr

/-- An operation or cause that moves frames: the frames still to move, or the region that is to stand in the banks
allowed, with the reason, and the slot to end when it does. -/
structure MoveJob where
  frames : List Nat := []
  /-- The region a PIN or MIGRATE operation moves. -/
  region : Option Nat := none
  reason : Nat := 0
  /-- The banks allowed as destination; none for any. -/
  banks : Option (List Nat) := none
  slot : Option (BitVec 7) := none
  /-- The pin to set when the last frame has moved: region, WHERE, BANK. -/
  pin : Option (Nat × Nat × Nat) := none
  deriving DecidableEq, Repr

/-- GRANARY: banks, regions, contexts, handlers, placement ring and background test. -/
structure Granary where
  /-- SRAM bytes by frame × 4096 + offset; an unlisted byte reads 0. -/
  sram : List Host.Cell := []
  /-- Uncorrectable words, by word address; words with a single-bit error, corrected by the next access (R258). -/
  bad : List Nat := []
  soft : List Nat := []
  /-- Uncorrectable words of the context store, context × 64 + word (R258). -/
  ctxBad : List Nat := []
  /-- Regions by handle; handles 0 to 3 exist after POR (R262). -/
  regions : Tab (Option Region) := []
  /-- Retired frames, and each bank's corrected errors in the window, newest first. -/
  retired : List Nat := []
  errors : Tab (List Stamp) := []
  /-- Contexts 0 to 255 by class: 0 free, 1 READER, 2 LINK, 3 HOST; contexts withdrawn; spare rows left. -/
  ctx : Tab Nat := []
  withdrawn : List Nat := []
  spares : Nat := 4
  handlers : Tab (Option Handler) := []
  /-- The placement ring, newest first, at most 64. -/
  ring : List PlaceRec := []
  copy : Option CopyRun := none
  jobs : List MoveJob := []
  /-- Accesses of each frame in the present second: near side, far side; and the pairs of a candidate and a Loft frame
  it outscored by 25 % in the last second (R267). -/
  near : Tab Nat := []
  far : Tab Nat := []
  streak : List (Nat × Nat) := []
  /-- The number of the region under test, and when the last region test started (R272). -/
  test : Option Nat := none
  testAt : Stamp := 0
  /-- A pass has ended and its bank test is still to come (R273). -/
  bankDue : Bool := false
  /-- The slot of a PASS operation, and whether a region failed in the pass. -/
  pass : Option (BitVec 7) := none
  passFailed : Bool := false
  deriving DecidableEq, Repr

/-! ### The flash array (R280 to R298) -/

/-- A program or erase in progress: its slot, its target, and the data it programs. -/
structure WriteRun where
  tag : BitVec 7 := 0
  erase : Bool := false
  /-- An erase of a dirty spare or pool sector; and an ERASE of a window slot that erases a dirty sector first. -/
  spare : Bool := false
  wipes : Bool := false
  /-- The first codeword, physical for a spare's, and how many: 512 for an erase. -/
  codeword : Nat := 0
  count : Nat := 0
  data : List Word := []
  since : Stamp := 0
  deriving DecidableEq, Repr

/-- A journal entry: KIND 1 ERASE_CUT, 2 PROG_CUT; the page within its bank (R288); the physical sector where the erase of
a dirty spare or pool sector was cut off, whose page is a free value. -/
structure JournalEntry where
  kind : Nat := 0
  bank : Nat := 0
  page : Nat := 0
  phys : Option Nat := none
  deriving DecidableEq, Repr

/-- A line of the prefetch buffer or the branch cache: a codeword and its bytes (R283). -/
structure FlashLine where
  codeword : Nat := 0
  bytes : List Byte := []
  deriving DecidableEq, Repr

/-- A refresh in progress: the sector, the clean sector it is copied to, the next page, and whether the device began it
(R295). -/
structure RefreshRun where
  sector : Nat := 0
  target : Nat := 0
  page : Nat := 0
  device : Bool := false
  deriving DecidableEq, Repr

/-- A weak-list entry (R295). -/
structure WeakEntry where
  codeword : Nat := 0
  cbits : Nat := 0
  ue : Bool := false
  deriving DecidableEq, Repr

/-- A codeword the log writer is to program: its place (page of the data bank, codeword), its words, and
whether it is a commit. -/
structure LogWord where
  page : Nat := 0
  cw : Nat := 0
  words : List Word := []
  commit : Bool := false
  deriving DecidableEq, Repr

/-- The log writer (R290 to R294). -/
structure LogWriter where
  /-- Stream words appended and not yet in a full codeword. -/
  buf : List Word := []
  /-- Codewords still to be programmed, in order, and the program operation that carries the first ones. -/
  todo : List LogWord := []
  slot : Option (BitVec 7 × Nat) := none
  /-- CRC-32 register over the stream words since the last commit, and their count. -/
  crc : Word := 0xFFFFFFFF
  count : Nat := 0
  /-- When the first packet since the last commit was appended. -/
  first : Option Stamp := none
  due : Bool := false
  /-- The ring sector the stream has entered last, the one to be erased next, and the erase operation that does it. -/
  entered : Option Nat := none
  sector : Option Nat := none
  erasing : Option (BitVec 7) := none
  halted : Bool := false
  resumed : Bool := false
  deriving DecidableEq, Repr

/-- The flash array and its controller. Physical sectors: 0 to 1,023 the addressed ones, 1,024 + 4 × bank + k
the spares. -/
structure FlashState where
  /-- Array bytes by physical sector × 16,384 + offset; an erased byte reads 0xFF. -/
  cells : List Host.Cell := []
  /-- Programmed markers, by physical codeword (R281). -/
  marks : Tab Bool := []
  /-- The bit errors of a codeword, by physical codeword: 0 to 2 correctable, 3 uncorrectable, 4 what four or
  more errors or a cut-off program left, 5 at risk beside a cut-off program (R281, R288). -/
  health : Tab Nat := []
  /-- The physical sector of an addressed sector (R295, R297). -/
  map : Tab Nat := []
  /-- Dirty spares and pool sectors. -/
  dirty : List Nat := []
  /-- The pool sector taken last, in rotation (R297). -/
  pool : Nat := 0
  weak : List WeakEntry := []
  journal : List JournalEntry := []
  run : Option WriteRun := none
  log : LogWriter := {}
  /-- The refresh the device has submitted (R295). -/
  refreshing : Option (BitVec 7) := none
  refreshes : List RefreshRun := []
  /-- The erase of a dirty sector the device has submitted: its slot and the physical sector (R296). -/
  spare : Option (BitVec 7 × Nat) := none
  /-- The prefetch buffer and the branch cache, newest line first, and the codeword the core fetched last (R283). -/
  prefetch : List FlashLine := []
  branch : List FlashLine := []
  lastFetch : Option Nat := none
  /-- The confirmation record, none while empty: bank and SEQ (R428), and a write of it in progress. -/
  confirmed : Option (Nat × Word) := none
  confirming : Option (Nat × Word) := none
  deriving DecidableEq, Repr

/-! ### The option area (R85, R299 to R306) -/

/-- One option copy in the array: header word, sequence number and CRC-32, the 24 group words, and the calibration data
(R299). At shipping the header and the CRC are right. -/
structure OptionCopy where
  header : Word := 0x96400F0A
  seq : Word := 0
  crc : Word := 0x20CF31E7
  /-- Words 0 to 7 group A, 8 to 15 group B, 16 to 23 group C; unlisted words at their factory value. -/
  words : Tab Word := []
  /-- The words of codewords 4 to 127; unlisted ones are 0 (DESIGN CHOICE, log entry 1310). -/
  calib : List Word := []
  deriving DecidableEq, Repr

/-- One entry of the audit ring (R302). -/
structure AuditEntry where
  group : BitVec 4 := 0
  master : BitVec 4 := 0
  remain : BitVec 8 := 0
  stamp : Stamp := 0
  number : BitVec 16 := 0
  deriving DecidableEq, Repr

/-- The option area, its shadow and the audit ring. -/
structure OptionState where
  copy0 : OptionCopy := {}
  copy1 : OptionCopy := {}
  /-- Which copy was loaded last, and what the load found (LOADSTAT). -/
  used : Bool := false
  found : BitVec 2 := 3
  /-- The load has run since the last start (R85). -/
  loaded : Bool := false
  defaults : Bool := false
  rewrite : Bool := false
  /-- The shadow, and the words of A1, A3 and group B as they took effect at the last start (R300). -/
  shadow : Tab Word := []
  live : Tab Word := []
  /-- The audit ring in flash, newest first, and the AON buffer, oldest first. -/
  ring : List AuditEntry := []
  buffer : List AuditEntry := []
  number : BitVec 16 := 0
  lost : BitVec 8 := 0
  /-- A successful UNLOCK since the last reset (R304). -/
  unlocked : Bool := false
  /-- The fuse counts left of groups A, B, C (R301, R306). -/
  remainA : Nat := 32
  remainB : Nat := 16
  remainC : Nat := 8
  /-- A GROUP_WRITE in progress: slot, group, and the group's eight new words (R301). -/
  writing : Option (BitVec 7 × Nat × List Word) := none
  deriving DecidableEq, Repr

/-! ### The field front end (R307 to R332) and the reader (R333 to R357) -/

/-- An antenna port beside its registers. -/
structure Ant where
  /-- A baseline has been taken (R318). -/
  based : Bool := false
  /-- Consecutive OK or DETUNE passes of a FAULTED port (R317). -/
  good : Nat := 0
  /-- The detection reference, I and Q scaled by 65,536 (R319). -/
  ref : Option (Int × Int) := none
  deriving DecidableEq, Repr

/-- A reception of the radio that FIELD has been told of: scheduled, with its end, or an open window (R324). -/
structure CoexWin where
  scheduled : Bool := false
  protect : Bool := false
  start : Stamp := 0
  stop : Option Stamp := none
  deriving DecidableEq, Repr

/-- A frame the reader sends (R333, R339 to R342): the commands of ISO/IEC 14443-3 and -4 by name, with the bits an
ANTICOLLISION names; ISO/IEC 14443-4 blocks with chaining and block number; raw bytes; an ISO/IEC 15693 request with its
CRC, or an EOF; a frame sent again whole after a break (R344). -/
inductive ReaderFrame where
  | reqa
  | wupa
  | anticollision (level : Nat) (known : List Bool)
  | select (level : Nat) (bits : List Bool)
  | hlta
  | reqb (slots : Nat)
  | wupb (slots : Nat)
  | slotMarker (slot : Nat)
  | attrib (pupi : List Byte) (ds dr : BitVec 2) (cid : Option (BitVec 4))
  | hltb (pupi : List Byte)
  | rats (fsdi : Nat) (cid : Option (BitVec 4))
  | pps (ds dr : BitVec 2)
  | iBlock (chain num : Bool) (inf : List Byte)
  | rAck (num : Bool)
  | rNak (num : Bool)
  | wtx (m : BitVec 6)
  | deselect
  | raw (l : List Byte)
  | vicc (l : List Byte)
  | eof
  | again
  deriving DecidableEq, Repr

/-- A frame as it went out: the shaping profile's word at its start, the rate of ISO/IEC 14443, 1-of-256 coding, CID
(R313, R333). -/
structure Sent where
  frame : ReaderFrame := .eof
  shape : Word := 0
  rate : BitVec 2 := 0
  c256 : Bool := false
  cid : Option (BitVec 4) := none
  deriving DecidableEq, Repr

/-- A card or tag session (R335). -/
structure Session where
  proto : BitVec 2 := 0
  uid : List Byte := []
  /-- SATQ as it reads. -/
  atq : Word := 0
  l4 : Bool := false
  cid : Option (BitVec 4) := none
  fsci : BitVec 4 := 0
  fwi : BitVec 4 := 0
  ds : BitVec 2 := 0
  dr : BitVec 2 := 0
  /-- The block number of the next I-block (R341). -/
  block : Bool := false
  ants : BitVec 8 := 0
  profile : BitVec 3 := 0
  useProfile : Bool := false
  sres : Word := 0
  stamp : Stamp := 0
  /-- SRSSI as it reads. -/
  rssi : Word := 0
  /-- The context it occupies. -/
  ctx : Nat := 0
  /-- The last exchange, for CFG.IDLE. -/
  last : Stamp := 0
  deriving DecidableEq, Repr

/-- The reader operation in progress: its slot, the antennas chosen, and the breaks its exchange has had (R337, R344). -/
structure ReaderRun where
  tag : BitVec 7 := 0
  ants : BitVec 8 := 0
  profile : BitVec 3 := 0
  useProfile : Bool := false
  breaks : Nat := 0
  /-- What is sent once the window that broke the exchange ends (R344). -/
  owed : Option ReaderFrame := none
  /-- An INVENTORY that drives its antennas one after another (R346). -/
  sweep : Bool := false
  /-- A GROUP_READ: the ports still to be read, the first one now, whether every read before it ended DONE, and whether the
  first one's read has failed at a break (R344, R355). -/
  rest : List Nat := []
  ok : Bool := true
  lost : Bool := false
  /-- The context of a tag-port read's transient session (R335). -/
  ctx : Option Nat := none
  deriving DecidableEq, Repr

/-- The home table's entry of a UID: its home antenna and the next strongest (R338). -/
structure HomeEntry where
  uid : BitVec 64 := 0
  home : Nat := 0
  next : Nat := 0
  deriving DecidableEq, Repr

/-- A tag port's held value, in AON (R350). -/
structure TagHeld where
  value : BitVec 24 := 0
  stamp : Stamp := 0
  has : Bool := false
  failed : Bool := false
  code : BitVec 8 := 0
  reads : BitVec 16 := 0
  deriving DecidableEq, Repr

/-- The field front end and the reader engine. -/
structure FieldState where
  ants : Tab Ant := []
  /-- The thermal band (R326). -/
  band : Nat := 0
  coex : Option CoexWin := none
  /-- A scheduled reception that FIELD has notice of and that has not begun (R324). -/
  coming : Option CoexWin := none
  /-- A supervision pass has been completed since the last start (R318). -/
  supervised : Bool := false
  /-- When the last periodic pass began (R316). -/
  passAt : Stamp := 0
  /-- The ports that were BUSY at that pass and are tested after their transactions, within 1 s (R316). -/
  passWait : BitVec 8 := 0
  /-- Ports whose receiver has taken samples since ANT_IQ was last read: what it and OVL hold is not known (R315). -/
  sampled : BitVec 8 := 0
  sessions : Tab (Option Session) := []
  run : Option ReaderRun := none
  /-- An INVENTORY that has given way to a tag-port READ (R337). -/
  paused : Option ReaderRun := none
  /-- The frames sent by the operation in progress, or by the last one. -/
  aired : List Sent := []
  /-- The UIDs seen most recently, newest first, at most 256. -/
  home : List HomeEntry := []
  /-- The map entries' words, by port × 8 + word (R349). -/
  map : Tab Word := []
  held : Tab TagHeld := []
  deriving DecidableEq, Repr

/-! ### The radio (R358 to R422) -/

/-- What a transmitted frame is for. -/
inductive TxFor where
  | beacon
  | ack
  /-- A fragment, MAPSET or TOR4200 frame of a message of the engine. -/
  | msg (id : Nat)
  deriving DecidableEq, Repr

/-- A frame handed to the transceiver, or being sent. -/
structure TxFrame where
  why : TxFor := .beacon
  hdr : BitVec 96 := 0
  payload : List Byte := []
  /-- A TOR4200 frame has no header of R370. -/
  legacy : Bool := false
  /-- NB mode, 8PSK, and the width code of an OFDM channel. -/
  nb : Bool := false
  psk8 : Bool := false
  rate9600 : Bool := true
  width : Nat := 0
  /-- The bits per data subcarrier, d = 0 to 95. -/
  bits : List Nat := []
  /-- The power sent, in 0.5 dB (R362). -/
  power : Int := 0
  since : Stamp := 0
  deriving DecidableEq, Repr

/-- A reception in progress (R376, R378). -/
structure Reception where
  stamp : Stamp := 0
  /-- The estimated power at its sync, 0.25 dB. -/
  power : Int := 0
  captured : Bool := false
  syncErr : Nat := 0
  nb : Bool := false
  width : Nat := 0
  legacy : Bool := false
  /-- The frequency offset found at its sync, in mHz, and the taps its equaliser starts from, none for the fixed ones
  (R375, R381). -/
  offset : Int := 0
  taps : List Word := []
  deriving DecidableEq, Repr

/-- A MEASURE operation in progress (R388): frames still wanted, and the sums of each subcarrier's ratio. -/
structure Measure where
  tag : BitVec 7 := 0
  peer : Nat := 0
  frames : Nat := 0
  sums : List Nat := []
  since : Stamp := 0
  deriving DecidableEq, Repr

/-- A DPD_TRAIN operation in progress: frames captured and when it began (R384, R390). -/
structure Training where
  tag : BitVec 7 := 0
  frames : Nat := 0
  since : Stamp := 0
  deriving DecidableEq, Repr

/-- The transceiver and the modem beside their registers. -/
structure Phy where
  request : Option TxFrame := none
  tx : Option TxFrame := none
  rx : Option Reception := none
  /-- FREQ, CFG and RXCFG as they stood before writes during the frame in progress: their FREQ, WIDTH, MODE, NBTYPE and
  NBRATE stay in force until it ends (R359). -/
  inForce : Option (Word × Word × Word) := none
  /-- The receiver has been on since RSSI_NOW was last read (R391). -/
  rssiOpen : Bool := false
  measure : Option Measure := none
  train : Option Training := none
  /-- TIME spent transmitting since the last fit (R384). -/
  sentFor : Nat := 0
  /-- When RF_PAEN falls behind the last frame (R362). -/
  paOff : Option Stamp := none
  /-- The stamp of the frame sent last (R180, R376). -/
  stamped : Option Stamp := none
  deriving DecidableEq, Repr

/-- A bit map of a peer's context: generation, rate, and the 96 codes (R374). -/
structure BitMap where
  gen : Nat := 0
  rate : Nat := 0
  codes : List (BitVec 3) := []
  deriving DecidableEq, Repr

/-- A peer (R410). -/
structure Peer where
  station : BitVec 16 := 0
  legacy : Bool := false
  mgmt : Bool := false
  aes256 : Bool := false
  key : Nat := 0
  txctr : Word := 0
  rxctr : Word := 0
  /-- ORIG, MSGSEQ and FRAG of the last accepted frame (R404). -/
  lastFrag : Option (Nat × Nat × Nat) := none
  /-- How that frame was acknowledged, HOLD and NOROUTE, if it was: a duplicate is acknowledged so again (R404). -/
  lastAck : Option (Bool × Bool) := none
  /-- LQI of the last accepted frames, newest first, at most 8 (R397). -/
  lqis : List Nat := []
  seen : Stamp := 0
  /-- NEIGH, and superframes since a frame was last accepted. -/
  neigh : Bool := false
  age : Nat := 0
  /-- Its last accepted beacon: t1, depth, DSTATE, ROUTER, COST; and its acceptance in the last three superframes,
  newest first, the first the present one. -/
  t1 : Option Stamp := none
  depth : Nat := 15
  dstate : Nat := 0
  router : Bool := false
  cost : Nat := 0
  beacons : List Bool := []
  beaconAt : Stamp := 0
  /-- The stamp of its last accepted beacon at the start of the present superframe (R395). -/
  beaconBefore : Stamp := 0
  /-- Superframes in a row in which it was at least 2 cheaper than the parent (R397). -/
  streak : Nat := 0
  /-- Has this station as parent. -/
  child : Bool := false
  map0 : Option BitMap := none
  map1 : Option BitMap := none
  prop : Option BitMap := none
  fallback : Bool := false
  negotiating : Bool := false
  caploss : BitVec 8 := 0
  ackfail : BitVec 8 := 0
  mapmiss : BitVec 8 := 0
  replay : BitVec 8 := 0
  /-- The path delays of the last exchanges, in units of 2^-33 s, newest first, at most 8 (R188). -/
  paths : List Int := []
  /-- The equaliser's taps saved for it (R381). -/
  taps : List Word := []
  deriving DecidableEq, Repr

/-- How a delivered header is marked (R377). -/
inductive RxMark where
  | ok | bad | mapMiss
  deriving DecidableEq, Repr

/-- A frame delivered to the link engine. -/
structure Delivered where
  mark : RxMark := .ok
  hdr : BitVec 96 := 0
  payload : List Byte := []
  legacy : Bool := false
  /-- Its stamp, the end of its last symbol, EVM, LQI, STAMP_POOR and RSSI (R377). -/
  stamp : Stamp := 0
  ended : Stamp := 0
  evm : Nat := 0
  lqi : Nat := 0
  stampPoor : Bool := false
  rssi : BitVec 16 := 0
  /-- The sender's mode, for the acknowledgement: width code, NB. -/
  width : Nat := 0
  nb : Bool := false
  deriving DecidableEq, Repr

/-- A stranger table entry (R411). -/
structure Stranger where
  station : BitVec 16 := 0
  count : BitVec 8 := 0
  reason : Nat := 0
  rssi : BitVec 16 := 0
  lqi : Nat := 0
  first : Stamp := 0
  latest : Stamp := 0
  deriving DecidableEq, Repr

/-- A down-table entry (R398). -/
structure DownEntry where
  orig : Nat := 0
  via : Nat := 0
  learned : Stamp := 0
  deriving DecidableEq, Repr

/-- A message being put together (R408): its fragments by number. -/
structure Reasm where
  orig : Nat := 0
  seq : Nat := 0
  nfrag : Nat := 1
  mgmt : Bool := false
  frags : Tab (List Byte) := []
  first : Stamp := 0
  deriving DecidableEq, Repr

/-- What a message the engine sends is. -/
inductive MsgKind where
  /-- A SEND or NEGOTIATE operation's, with its slot. -/
  | own (tag : BitVec 7)
  | mapset (tag : BitVec 7)
  | relay
  deriving DecidableEq, Repr

/-- A message of the engine on its way to its next hop (R398 to R407). -/
structure Msg where
  id : Nat := 0
  kind : MsgKind := .relay
  orig : Nat := 0
  final : Nat := 0
  seq : Nat := 0
  mgmt : Bool := false
  hops : Nat := 0
  /-- The fragments: number of the first held, count of the whole, and the bodies still to be sent. -/
  frag : Nat := 0
  nfrag : Nat := 1
  bodies : List (List Byte) := []
  hop : Nat := 0
  /-- The hop before, once the first has failed (R406). -/
  before : Option Nat := none
  attempts : Nat := 0
  /-- Consecutive failed attempts under a peer map. -/
  mapFails : Nat := 0
  /-- The counter of the frame outstanding, and the waveform its fragment is sent with: MAP, MAPGEN, RATE and bits per
  subcarrier (R403, R412). -/
  ctr : Option Word := none
  wave : Option (Nat × Nat × Nat × List Nat) := none
  noroute : Bool := false
  /-- Held back until the next data period (R406). -/
  hold : Bool := false
  since : Stamp := 0
  deriving DecidableEq, Repr

/-- An acknowledgement to be sent (R405). -/
structure AckDue where
  peer : Nat := 0
  seq : Nat := 0
  frag : Nat := 0
  hold : Bool := false
  noroute : Bool := false
  ctr : Word := 0
  due : Stamp := 0
  width : Nat := 0
  nb : Bool := false
  deriving DecidableEq, Repr

/-- The acknowledgement awaited: the message, the peer, the counter, when the window closes, and whether the frame
went under a peer map. -/
structure AckWait where
  id : Nat := 0
  peer : Nat := 0
  ctr : Word := 0
  due : Stamp := 0
  mapped : Bool := false
  deriving DecidableEq, Repr

/-- A management session (R415). -/
structure MgmtSession where
  peer : Nat := 0
  dnonce : Word := 0
  mctr : Word := 0
  last : Stamp := 0
  deriving DecidableEq, Repr

/-- A complete management message: ORIG and body. -/
structure MgmtMsg where
  orig : Nat := 0
  body : List Byte := []
  deriving DecidableEq, Repr

/-- The link engine beside its registers. -/
structure Link where
  peers : Tab (Option Peer) := []
  parent : Option Nat := none
  /-- Superframes in a row without the parent's beacon; no beacon of it yet since it became parent. -/
  missed : Nat := 0
  newParent : Bool := false
  /-- The start of the present superframe, and where it lies within a second when not taken from TIME (R393). -/
  frame : Stamp := 0
  offset : BitVec 32 := 0
  heard : Bool := false
  /-- The data period of the present superframe has begun. -/
  dataPeriod : Bool := false
  /-- The stamp of the own last beacon, t3 (R188), and the child listed last (R395). -/
  beaconAt : Option Stamp := none
  /-- The same at the start of the present superframe, to which a parent's t4 belongs (R188). -/
  beaconBefore : Option Stamp := none
  listed : Nat := 0
  inbox : List Delivered := []
  strangers : Tab (Option Stranger) := []
  down : List DownEntry := []
  /-- The hop the fragments of a relayed message follow: ORIG, MSGSEQ, hop (R398). -/
  routes : List (Nat × Nat × Nat) := []
  reasm : List Reasm := []
  /-- ORIG and MSGSEQ of the last 32 messages delivered, newest first. -/
  done : List (Nat × Nat) := []
  /-- Delivery buffers held, and packets that wait for their queue (R408). -/
  bufs : List Nat := []
  packets : List (List Word) := []
  msgs : List Msg := []
  nextId : Nat := 0
  seq : BitVec 8 := 0
  acks : List AckDue := []
  wait : Option AckWait := none
  /-- The backoff drawn, in units (R400). -/
  backoff : Option Nat := none
  /-- Bodies of agent SENDs, by slot: the body and MGMT (R416, R419). -/
  agent : Tab (Option (List Byte × Bool)) := []
  mgmtIn : List MgmtMsg := []
  mgmt : Option MgmtSession := none
  /-- MEASURE operations of AUTOMAP: slot and peer (R413); when its period last began. -/
  auto : List (BitVec 7 × Nat) := []
  autoAt : Stamp := 0
  autoNow : Bool := false
  /-- MEASURE, or NEGOTIATE where set, of these peers waits for a slot (R61, R413). -/
  autoWait : List (Nat × Bool) := []
  deriving DecidableEq, Repr

/-! ### Host ports, the debug port and the test access port -/

/-- What a word fetched and not taken gives back (R473): a queue item, a received byte of a sensor-bus unit, an
address register that the read advanced with its value before, a shadow with what it held before. -/
inductive Undo where
  | item (q : Nat) (e : QItem)
  | rxd (unit : Nat) (b : Byte)
  | addr (a : Nat) (old : Word)
  | shadow (key : Nat) (old : Option Shadow)
  deriving DecidableEq, Repr

/-- A frame in progress on the host serial port. -/
structure HFrame where
  cmd : Nat := 0
  addr : Nat := 0
  /-- Bits shifted. -/
  bits : Nat := 0
  /-- The frame is discarded in GUARD, or refused whole. -/
  refused : Bool := false
  /-- The first code other than DONE, with the index of its data word. -/
  first : Option (Code × Nat) := none
  /-- The burst passed the page's last implemented register (R31). -/
  passed : Bool := false
  undo : List Undo := []
  /-- Writes of HSPI.CTL and HSPI.CTRL that take effect at the rise of select (R474): offset and word. -/
  late : List (Nat × Word) := []
  deriving DecidableEq, Repr

/-- The host serial port's link state (R464 to R485). -/
structure Hspi where
  /-- LASTERR of the next status byte (R38), and END. -/
  lastErr : Bool := false
  endFlag : Bool := false
  frame : Option HFrame := none
  /-- The bytes shifted out in the latest frame or device-clocked burst. -/
  out : List Byte := []
  /-- The daisy-chain register, oldest byte first (R481). -/
  chain : List Byte := []
  /-- DAISY in effect since the last start (R466). -/
  daisy : Bool := false
  /-- When the last device-clocked burst ended (R479). -/
  burstAt : Option Stamp := none
  deriving DecidableEq, Repr

/-- The host two-wire port beside its registers (R489 to R493). -/
structure Htw where
  /-- A transaction addressed to the device is in progress, and its direction. -/
  busy : Bool := false
  rd : Bool := false
  /-- The bytes of the unfinished word written, and the index of the present data word. -/
  part : List Byte := []
  word : Nat := 0
  /-- A byte was not acknowledged: further bytes are ignored until the next START (R491). -/
  deaf : Bool := false
  /-- The first refusal of the transaction is recorded. -/
  coded : Bool := false
  /-- What the word fetched and not yet taken gives back. -/
  undo : List Undo := []
  /-- The bytes shifted out in the latest read transaction. -/
  out : List Byte := []
  deriving DecidableEq, Repr

/-- The debug port's sticky error bit (R16, R38). -/
structure Dbg where
  sticky : Bool := false
  deriving DecidableEq, Repr

/-- The test access port's instruction in force (R548); reset selects IDCODE. -/
structure Tap where
  ir : BitVec 5 := 1
  deriving DecidableEq, Repr

/-- The fuses (R514 to R516, R530): lifecycle P, F, D, DEBUG_CLOSE, the root hashes and their revocations. -/
structure Fuses where
  p : Bool := false
  f : Bool := false
  d : Bool := false
  debugClosed : Bool := false
  root0 : Option (List Byte) := none
  root1 : Option (List Byte) := none
  revoked0 : Bool := false
  revoked1 : Bool := false
  deriving DecidableEq, Repr

/-- A key slot (R505): TYPE, USAGE, PERSIST, ORIGIN, its secret part and its public part. -/
structure KeySlot where
  typ : Nat := 0
  usage : BitVec 8 := 0
  persist : Bool := false
  origin : Nat := 0
  secret : List Byte := []
  pub : List Byte := []
  deriving DecidableEq, Repr

/-- A security log entry (R526). -/
structure SecEntry where
  w0 : Word := 0
  stamp : Stamp := 0
  deriving DecidableEq, Repr

/-- The loader of the station configuration image (R519): the image's flash address, the offset of the next
record in its body, the body's length, and the slot it waits for. -/
structure Loader where
  base : Nat := 0
  next : Nat := 0
  stop : Nat := 0
  record : Nat := 0
  slot : Option (BitVec 7) := none
  /-- The code its last operation ended with. -/
  code : Option Code := none
  deriving DecidableEq, Repr

/-- The Crib. -/
structure CribState where
  keys : Tab KeySlot := []
  zeroised : Bool := false
  /-- A key-store erase, or a tamper reset, left for the next start of CRIB: 0 none, 1 reset, 2 zeroise
  (R521). -/
  pend : Nat := 0
  pendLog : List Nat := []
  drbg : Bool := false
  /-- The security log, newest first, and the number of its newest entry. -/
  log : List SecEntry := []
  number : BitVec 12 := 0
  /-- The verdict on the configuration image, reached during the Crib's start: none before it, or the loader
  at its first record; and the loader at work. -/
  loader : Option Loader := none
  deriving DecidableEq, Repr

/-! ### The whole machine -/

/-- The state of the device. -/
structure State where
  /-- Every register that keeps a value of its own, by address page × 0x1000 + offset (R2); an unlisted
  register holds its reset value. -/
  regs : Tab Word := []
  /-- Registers banked per master (R37), by master × 0x100000 + address. -/
  bank : Tab Word := []
  /-- Each master's shadow of a high word in each page, by master × 0x100000 + page × 0x1000 (R34, R109). -/
  shadow : Tab (Option Shadow) := []
  /-- Held low words, by master × 0x100000 + address of the low word (R34). -/
  lows : Tab (Option Word) := []
  /-- The model's own: each master's last completed access, by master. -/
  resp : Tab Resp := []
  own : Own := {}
  ops : Ops := {}
  opt : OptionState := {}
  time : TimeState := {}
  pwr : Power := {}
  fab : Fabric := {}
  queues : Tab Queue := []
  core : CoreState := {}
  intc : Intc := {}
  svc : Service := {}
  hspi : Hspi := {}
  htw : Htw := {}
  dbg : Dbg := {}
  tap : Tap := {}
  link : Link := {}
  phy : Phy := {}
  fuse : Fuses := {}
  sense : Sense := {}
  gle : Gleaner := {}
  thr : Thresher := {}
  win : Winnow := {}
  gran : Granary := {}
  flash : FlashState := {}
  fld : FieldState := {}
  crib : CribState := {}
  /-- The model's own: free values drawn so far. -/
  fresh : Nat := 0
  /-- The commands that are waiting, first in, first out. -/
  pending : List Instr := []
  deriving DecidableEq, Repr

/-- The machine right after power-on reset is released: every block not READY, the device ownerless,
TIME 0, nothing waiting. -/
def State.reset : State := {}

end Sys2Proof.Machine
end

