-- ==== Sys2Proof/Machine/Operands.lean ====
section
/-!
DEFINITION. The numbers that commands' operands and registers use: masters, islands, completion codes, addresses.
-/
namespace Sys2Proof.Machine

/-! ### Names and numbers -/

/-- A master's ID (chapter 02, Masters and the owner). -/
def Master.id : Master → Nat
  | .core => 0 | .hspi => 1 | .htw => 2 | .radio => 3 | .debug => 4

/-- The master of an ID. -/
def masterOf : Nat → Option Master
  | 0 => some .core | 1 => some .hspi | 2 => some .htw | 3 => some .radio | 4 => some .debug
  | _ => none

/-- An island's bit in PMU.ISL_RST (R93). -/
def Island.bit : Island → Nat
  | .aon => 0 | .sense => 1 | .granary => 2 | .flash => 3 | .core => 4 | .field => 5 | .radio => 6
  | .host => 7 | .crib => 8

/-- All islands, in the bit order of PMU.ISL_RST. -/
def islands : List Island := [.aon, .sense, .granary, .flash, .core, .field, .radio, .host, .crib]

/-- A completion code's number (R75). -/
def Code.num : Code → Nat
  | .done => 0 | .state => 1 | .arg => 2 | .notOwner => 3 | .notReady => 4 | .busy => 5 | .timeout => 6
  | .medium => 7 | .integrity => 8 | .security => 9 | .sameBank => 10 | .progTwice => 11 | .quota => 12
  | .aborted => 13 | .loop => 14 | .incomplete => 15

/-- The island a page belongs to (R14). -/
def islandOf (page : Nat) : Island :=
  if page == 0x04 || page == 0x3A then .crib
  else if page ≤ 0x08 || page == 0x0A || page == 0x3C || page == 0x3F then .aon
  else if page == 0x09 || page == 0x38 then .core
  else if page ≤ 0x1A || page == 0x32 then .sense
  else if page == 0x1E then .flash
  else if page ≤ 0x1D then .granary
  else if page ≤ 0x23 then .field
  else if page ≤ 0x2B then .radio
  else if page ≤ 0x31 then .host
  else .granary

/-! ### Addresses -/

/-- The address of a register (R2). -/
def ra (page off : Nat) : Nat := page * 0x1000 + off

/-- The key of a master's own copy of the register at an address (R37). -/
def bankKey (m : Master) (a : Nat) : Nat := Master.id m * 0x100000 + a

end Sys2Proof.Machine
end

