-- ==== Sys2Proof/Machine/Ops.lean ====
section
/-!
DEFINITION. The named operations every family shares: the register file, readiness, islands and clocks, masters,
how an access completes, free values.
-/
namespace Sys2Proof.Machine

/-! ### The register file -/

/-- The value the register file holds at an address. -/
def State.reg (s : State) (a : Nat) : Word := Tab.get resetOf s.regs a

/-- The register at an address given a value. -/
def State.setReg (s : State) (a : Nat) (w : Word) : State :=
  { s with regs := Tab.set resetOf s.regs a w }

/-- The register at an offset of a page. -/
def State.rg (s : State) (page off : Nat) : Word := s.reg (ra page off)

/-- The register at an offset of a page given a value. -/
def State.setRg (s : State) (page off : Nat) (w : Word) : State := s.setReg (ra page off) w

/-- The register at an offset of a page changed by a function. -/
def State.updRg (s : State) (page off : Nat) (f : Word → Word) : State :=
  s.setRg page off (f (s.rg page off))

/-- A 64-bit pair of registers given a value. -/
def State.setPair (s : State) (page off : Nat) (t : Stamp) : State :=
  (s.setRg page off (loWord t)).setRg page (off + 4) (hiWord t)

/-- The value of a 64-bit pair of registers. -/
def State.pairAt (s : State) (page off : Nat) : Stamp :=
  joinWords (s.rg page (off + 4)) (s.rg page off)

/-- A master's own copy of a banked register. -/
def State.own1 (s : State) (m : Master) (page off : Nat) : Word :=
  Tab.get (fun _ => 0) s.bank (bankKey m (ra page off))

/-- A master's own copy of a banked register given a value. -/
def State.setOwn1 (s : State) (m : Master) (page off : Nat) (w : Word) : State :=
  { s with bank := Tab.set (fun _ => 0) s.bank (bankKey m (ra page off)) w }

/-! ### Time -/

/-- TIME. -/
def State.now (s : State) : Stamp := s.time.now

/-- RATE, signed ppb. -/
def State.ratePpb (s : State) : Int := (s.rg 0x07 0x060).toInt

/-- TIME units in a tick of the 160 MHz time clock trimmed by RATE ppb, as a numerator over `tickDen` (R176). -/
def tickNum (ppb : Int) : Nat := max 1 (2 ^ 32 * (1000000000 + ppb)).toNat
def tickDen : Nat := 160000000 * 1000000000

/-- The TIME units of k ticks of the time clock (R176). -/
def tcxoUnits (ppb : Int) (k : Nat) : Nat := k * tickNum ppb / tickDen

/-- The first tick at which at least u units have passed since tick k. -/
def tcxoTick (ppb : Int) (k u : Nat) : Nat :=
  ((tcxoUnits ppb k + u) * tickDen + tickNum ppb - 1) / tickNum ppb

/-- TIME at the first tick from tick k of a second at which it has reached t, and the ticks since the carry before it:
a carry leaves its fraction as F0, and with the same F0 every later second has the same ticks (R176). -/
def tcxoReach (ppb : Int) (now : Stamp) (k : Nat) (t : Stamp) : Stamp × Nat :=
  let to_ (at_ : Stamp) (k u : Nat) : Stamp × Nat :=
    let n := tcxoTick ppb k u
    (at_ + BitVec.ofNat 64 (tcxoUnits ppb n - tcxoUnits ppb k), n)
  let r := to_ now k (t - now).toNat
  if hiWord r.1 = hiWord now then r
  else
    let c := (to_ now k (2 ^ 32 - (loWord now).toNat)).1
    if t ≤ c then (c, 0)
    else
      let b := joinWords (hiWord c + hiWord (t - c)) (loWord c)
      let e := to_ b 0 (t - b).toNat
      if hiWord e.1 = hiWord b then e else (e.1, 0)

/-- The units from `base` that the j-th crystal edge after it stands for: whole 2^17-unit steps, corrected by XTAL_PPB
(R176, R192). -/
def edgeUnits (ppb : Int) (j : Nat) : Nat := j * (2 ^ 17 * 1000000000) / max 1 (1000000000 + ppb).toNat

/-- The first RC tick at or past the j-th crystal edge, the RC at its nominal 8 MHz (DESIGN CHOICE, log entry 801). -/
def edgeTick (j : Nat) : Nat := (j * 1000000 + 4095) / 4096

/-- The units from `base` at RC tick n: 537 a tick, never past the value due at the next crystal edge (R176). -/
def crystalUnits (ppb : Int) (n : Nat) : Nat :=
  let j := n * 4096 / 1000000
  min (edgeUnits ppb j + 537 * (n - edgeTick j)) (edgeUnits ppb (j + 1))

/-- The first RC tick at which at least u units have passed since `base`. -/
def crystalTick (ppb : Int) (u : Nat) : Nat :=
  let j := u * max 1 (1000000000 + ppb).toNat / (2 ^ 17 * 1000000000)
  min (edgeTick j + (u - edgeUnits ppb j + 536) / 537) (edgeTick (j + 1))

/-- TIME.XTAL_PPB, signed. -/
def State.xtalPpb (s : State) : Int := (s.rg 0x07 0x064).toInt

/-- A reference event: what TIME is counted from starts at its present value (R176, R177). -/
def TimeState.anchor (t : TimeState) (src : TimeSrc) : TimeState :=
  let base : Stamp := BitVec.ofNat 64 (t.now.toNat / 2 ^ 17 * 2 ^ 17)
  { t with src := src, base := base, ticks := match src with | .crystal => (t.now - base).toNat / 537 | _ => 0 }

/-- The device at the first tick of its time clock at which TIME is t or later: a wait whose end is t has passed (the
model's own clock of waiting commands; between steps TIME never runs back, R176, R177). -/
def State.reach (s : State) (t : Stamp) : State :=
  { s with time :=
      if s.time.now < t then
        match s.time.src with
        | .rc => { s.time with now := s.time.now + BitVec.ofNat 64 (((t - s.time.now).toNat + 536) / 537 * 537) }
        | .tcxo =>
          let r := tcxoReach s.ratePpb s.time.now s.time.ticks t
          { s.time with now := r.1, ticks := r.2 }
        | .crystal =>
          let n := max s.time.ticks (crystalTick s.xtalPpb (t - s.time.base).toNat)
          { s.time with now := s.time.base + BitVec.ofNat 64 (crystalUnits s.xtalPpb n), ticks := n }
      else s.time }

/-- TIME n units from now. -/
def State.after (s : State) (n : Nat) : Stamp := s.now + BitVec.ofNat 64 n

/-! ### Readiness -/

/-- READY.READY of a page. -/
def State.ready (s : State) (page : Nat) : Bool := flag (s.rg page 0x004) 0

/-- READY[2:0] of a page changed; a change is stamped (R24). -/
def State.setReadyBits (s : State) (page : Nat) (f : Word → Word) : State :=
  let old := s.rg page 0x004
  let new := f old
  if field new 2 0 = field old 2 0 then s else (s.setRg page 0x004 new).setPair page 0x020 s.now

/-- READY.DEGRADED of a page. -/
def State.setDegraded (s : State) (page : Nat) (b : Bool) : State :=
  s.setReadyBits page (fun w => setFlag w 1 b)

/-- The pages of a READY_MAP group (R53). -/
def groupPages (g : Nat) : List Nat :=
  match g with
  | 0 => [0x00, 0x01, 0x02, 0x05, 0x06, 0x3C]
  | 1 => [0x03]
  | 2 => [0x0A]
  | 3 => [0x07]
  | 4 => [0x08]
  | 5 => [0x10, 0x11, 0x12, 0x13, 0x14, 0x15, 0x16, 0x17, 0x18, 0x32]
  | 6 => [0x19]
  | 7 => [0x1A]
  | 8 => [0x1B, 0x1C, 0x1D] ++ (List.range 5).map (0x40 + ·) ++ (List.range 32).map (0x50 + ·)
  | 9 => [0x1E]
  | 10 => [0x38, 0x09]
  | 11 => [0x20, 0x21]
  | 12 => [0x22, 0x23]
  | 13 => [0x28, 0x29]
  | 14 => [0x2A, 0x2B]
  | 15 => [0x30]
  | 16 => [0x31]
  | 17 => [0x3A, 0x04]
  | _ => []

/-- READY of a whole group: 1 when READY is 1 in every page of it (R53). -/
def State.groupReady (s : State) (g : Nat) : Bool := (groupPages g).all s.ready

/-- The group a page belongs to, if it has one. -/
def groupOf (page : Nat) : Option Nat := (List.range 18).find? (fun g => (groupPages g).contains page)

/-- The starts of some pages begin now, as starts after a reset (R82, R87, R88). -/
def State.beginStarts (s : State) (pages : List Nat) (short : Bool) : State :=
  { s with pwr := { s.pwr with
      began := pages.foldl (fun t p => Tab.set (fun _ => 0) t p s.now) s.pwr.began
      short := if short then s.pwr.short ++ pages.filter (fun p => !s.pwr.short.contains p) else s.pwr.short } }

/-- A supply that some groups wait for has come: the wait is not part of their start (R77, R82). -/
def State.supplyBack (s : State) (groups : List Nat) : State :=
  s.beginStarts ((groups.flatMap groupPages).filter (fun p => !s.ready p)) false

/-! ### Power states, clocks and availability -/

/-- A power state as PMU.STATE.PSTATE shows it, and OFF (R446). -/
inductive PState where
  | run | idle | standby | guard | off
  deriving DecidableEq, Repr

/-- Whether the core's clock is gated: WFI, halted by debug, or CORE not READY (R447). -/
def State.coreStopped (s : State) : Bool := s.core.wfi || s.core.halted || !s.ready 0x38

/-- The power state. -/
def State.pstate (s : State) : PState :=
  match s.pwr.depth with
  | .awake => if s.coreStopped then .idle else .run
  | .standby => .standby
  | .guard => .guard
  | .off => .off

/-- PSTATE's number; the state left in WAKE_REC.FROM uses the same numbers (R93, R461). -/
def PState.num : PState → Nat
  | .run => 0 | .idle => 1 | .standby => 2 | .guard => 3 | .off => 4

/-- How an island is clocked (R10). -/
inductive Clocked where
  | full | gated | demand | off
  deriving DecidableEq, Repr

/-- An island's clock in a power state (the table of R10). -/
def clockIn (p : PState) (i : Island) : Clocked :=
  match p, i with
  | .off, _ => .off
  | .run, _ => .full
  | .idle, .core => .gated
  | .idle, _ => .full
  | .standby, .core => .off
  | .standby, .flash => .demand
  | .standby, .field => .demand
  | .standby, .radio => .demand
  | .standby, _ => .full
  | .guard, .aon => .full
  | .guard, .sense => .full
  | .guard, .granary => .demand
  | .guard, .host => .off
  | .guard, _ => .off

/-- An island's clock now. -/
def State.clock (s : State) (i : Island) : Clocked := clockIn s.pstate i

/-- Whether an island is held in reset. -/
def State.inReset (s : State) (i : Island) : Bool := s.pwr.inReset.getLsbD (Island.bit i)

/-- Whether an island cannot take an access: in reset, without power, clamped, or its clock off; AON
answers in its place (R570). HOST keeps its link clocks in GUARD, where R16 holds instead. -/
def State.unavailable (s : State) (i : Island) : Bool :=
  s.inReset i || (s.pwr.cut && i != .aon) || s.clock i == .off

/-- Whether the lines that leave an island are clamped: in reset, or its domain in RET or OFF; HOST stays powered in GUARD
(R449). -/
def State.clamped (s : State) (i : Island) : Bool :=
  s.inReset i || (s.pwr.cut && i != .aon) || (s.clock i == .off && i != .host)

/-- Whether the device is without its AON rail or in OFF, so that nothing answers. -/
def State.dead (s : State) : Bool := s.pwr.por || s.pwr.depth == .off

/-! ### Masters -/

/-- The lifecycle state: 0 BLANK, 1 PROVISION, 2 FIELD, 3 DECOMMISSIONED (R514). -/
def State.lifecycle (s : State) : Nat := if s.fuse.d then 3 else if s.fuse.f then 2 else if s.fuse.p then 1 else 0

/-- Whether a master's transaction is secure (R28). -/
def State.secure (s : State) (m : Master) : Bool :=
  match m with
  | .core => s.core.machine
  | .radio => s.link.mgmt.isSome
  | .debug => s.lifecycle ≤ 1
  | _ => false

/-- Whether the lease has run out and its lapse is not yet recorded (R44). -/
def State.leaseOver (s : State) : Bool :=
  s.own.owner.isSome && s.own.held.isNone && decide (s.own.due ≤ s.time.now)

/-- Whether OWN names a master as owner. -/
def State.holds (s : State) (m : Master) : Bool := s.own.owner == some m

/-- Whether a master is the owner for what reaches AON now: from the cycle of the lapse on nobody is (R44). -/
def State.isOwner (s : State) (m : Master) : Bool := s.holds m && !s.leaseOver

/-! ### Rejections -/

/-- A rejection logged in a page's ERRC: its code, and byte offset [11:4] of the register (R27). -/
def State.logErr (s : State) (page word : Nat) (c : Code) : State :=
  s.updRg page 0x018 (fun w => satField (setField (setField w 7 0 (Code.num c)) 15 8 word) 31 16 1)

/-- A code recorded in a master's own MY_RESULT (R27). -/
def State.logMine (s : State) (m : Master) (page off : Nat) (c : Code) : State :=
  s.setOwn1 m 0x01 0x048 (pack [(0, 8, Code.num c), (8, 8, page), (16, 10, off / 4)])

/-- What a refused access leaves at the master's port: HSPI's LASTERR, the debug port's sticky error
(R38). -/
def State.portErr (s : State) (m : Master) : State :=
  match m with
  | .hspi => { s with hspi := { s.hspi with lastErr := true } }
  | .debug => { s with dbg := { s.dbg with sticky := true } }
  | _ => s

/-- The lockstep pair's checkpoint: general registers, program counter and every CSR except mcycle; the undo log
starts anew (R430). -/
def CoreState.checkpoint (c : CoreState) (now : Stamp) : CoreState :=
  { c with
    ckpt := { x := c.x, pc := c.pc, csr := Tab.keep (fun k => k != 0xB00 && k != 0xB80) c.csr, machine := c.machine }
    ckptAt := now, undo := [], resyncOpen := false }

/-- An access of a master: every access of the core outside the TCMs is a checkpoint (R430). -/
def CoreState.accessed (c : CoreState) (m : Master) (now : Stamp) : CoreState :=
  match m with
  | .core => if c.released then c.checkpoint now else c
  | _ => c

/-- The access completes at the master with a value and a code. -/
def State.answer (s : State) (m : Master) (v : Word) (c : Code) : State :=
  { s with
    resp := Tab.set (fun _ => {}) s.resp (Master.id m) { value := v, code := c }
    core := s.core.accessed m s.time.now }

/-- An access completes otherwise than DONE: MY_RESULT and the port always, ERRC unless AON answered for
the island (R27). -/
def State.reject (s : State) (m : Master) (page off : Nat) (c : Code) : State :=
  (((s.logErr page (off / 16) c).logMine m page off c).portErr m).answer m 0 c

/-- An access completes with a value and a code. -/
def State.complete (s : State) (m : Master) (page off : Nat) (v : Word) (c : Code) : State :=
  if c = .done then s.answer m v .done
  else ((((s.logErr page (off / 16) c).logMine m page off c).portErr m)).answer m v c

/-- A free value: the model draws the next one and nothing constrains it. -/
def State.draw (s : State) : Word × State :=
  (Config.freeWord s.fresh, { s with fresh := s.fresh + 1 })

end Sys2Proof.Machine
end

