-- ==== Sys2Proof/Machine/Flags.lean ====
section
/-!
DEFINITION. Event lines and their flags, interrupt sources, source pulses, fault records and wake sources: what a
change inside a block raises outside it.
-/
namespace Sys2Proof.Machine

/-! ### Interrupt sources -/

/-- Whether a source number is a source line: assigned register pages, mailboxes, queue windows,
handlers and software sources (R434). -/
def sourceValid (n : Nat) : Bool :=
  (n < 0x40 && pageAssigned n) || (0x40 ≤ n && n ≤ 0x44) || (0x50 ≤ n && n ≤ 0x9F)

/-- PEND of a source: the live level of its line (R26, R434). -/
def State.pend (s : State) (n : Nat) : Bool :=
  if 0x70 ≤ n ∧ n ≤ 0x8F then flag (s.rg 0x1C 0x084) (n - 0x70)
  else if 0x90 ≤ n ∧ n ≤ 0x9F then flag (s.rg 0x09 0x064) (n - 0x90)
  else if sourceValid n then (s.rg n 0x010 &&& s.rg n 0x014) != 0
  else false

/-- SRCCFG of a source. -/
def State.srccfg (s : State) (n : Nat) : Word := s.rg 0x09 (0x200 + 4 * n)

/-- PRIO, TARGET and EN of a source. -/
def State.srcPrio (s : State) (n : Nat) : Nat := field (s.srccfg n) 3 0
def State.srcTarget (s : State) (n : Nat) : Nat := field (s.srccfg n) 5 4
def State.srcEn (s : State) (n : Nat) : Bool := flag (s.rg 0x09 (0x0A0 + 4 * (n / 32))) (n % 32)

/-- A moderation group's own state. -/
def State.modGroup (s : State) (g : Nat) : ModGroup := Tab.get (fun _ => {}) s.intc.mods g

/-- A moderation group given a state. -/
def State.setMod (s : State) (g : Nat) (m : ModGroup) : State :=
  { s with intc := { s.intc with mods := Tab.set (fun _ => {}) s.intc.mods g m } }

/-- Whether a source is a member of a group (SRCCFG.MOD and GROUP). -/
def State.member (s : State) (g n : Nat) : Bool :=
  flag (s.srccfg n) 12 && field (s.srccfg n) 11 8 == g

/-- Whether a group moderates at all: INTERVAL or COUNT is not 0 (R440). -/
def State.modOn (s : State) (g : Nat) : Bool := field (s.rg 0x09 (0x140 + 4 * g)) 23 0 != 0

/-- Whether a group holds its members back. -/
def State.modHolds (s : State) (g : Nat) : Bool := s.modOn g && (s.modGroup g).holding

/-- A source's line rises: an edge counts in its holding group, and a host-target source is due a Q1
record outside STANDBY and GUARD (R252, R440, R442). -/
def State.lineRise (s : State) (n : Nat) : State :=
  let g := field (s.srccfg n) 11 8
  let s1 :=
    if flag (s.srccfg n) 12 && s.modOn g then
      let m := s.modGroup g
      let count := field (s.rg 0x09 (0x140 + 4 * g)) 23 16
      if m.holding then
        if count != 0 && m.edges + 1 ≥ count then s.setMod g { m with holding := false, had := true }
        else s.setMod g { m with edges := m.edges + 1 }
      else s.setMod g { m with had := true }
    else s
  let t := s.srcTarget n
  if (t == 1 || t == 2) && s.srcEn n && s.srcPrio n ≥ 1 && s.pwr.depth == .awake then
    { s1 with intc := { s1.intc with due := s1.intc.due ++ [(n, s1.now)] } }
  else s1

/-- A source's line falls: a released group whose members have all fallen begins to hold (R440). -/
def State.lineFall (s : State) (n : Nat) : State :=
  let g := field (s.srccfg n) 11 8
  let m := s.modGroup g
  if flag (s.srccfg n) 12 && s.modOn g && !m.holding && m.had
      && (List.range 192).all (fun k => !(s.member g k && s.pend k)) then
    s.setMod g { holding := true, since := s.now, edges := 0, had := false }
  else s

/-- The effect on interrupt delivery of a change that may have moved source n's line. -/
def State.settle (after before : State) (n : Nat) : State :=
  match before.pend n, after.pend n with
  | false, true => after.lineRise n
  | true, false => after.lineFall n
  | _, _ => after

/-! ### Event fabric sources -/

/-- Whether an enabled channel selects a source. -/
def State.selected (s : State) (src : Nat) : Bool :=
  (List.range 64).any (fun n =>
    let c := s.rg 0x08 (0x100 + 0x10 * n)
    flag c 8 && field c 7 0 == src)

/-- The page whose block raises a source (R235). -/
def State.sourcePage (s : State) (n : Nat) : Nat :=
  if n ≤ 0x17 then 0x1A
  else if n ≤ 0x27 then 0x0A
  else if n ≤ 0x2F then 0x08
  else if n ≤ 0x36 then 0x07
  else if n == 0x37 then 0x08
  else if n ≤ 0x7F then 0x10 + (n - 0x40) / 8
  else if n ≤ 0x97 then 0x19
  else if n ≤ 0xAA then 0x20
  else if n ≤ 0xAF then 0x22
  else if n ≤ 0xBF then 0x2A
  else if n ≤ 0xDF then field (s.rg 0x08 (0x080 + 4 * (n - 0xC0))) 7 0
  else 0x3A

/-- Whether a source line can rise: a channel selects it, its block is READY and its domain is not clamped; a pulse that
no enabled channel selects consumes nothing (R226, R227, R449). -/
def State.canPulse (s : State) (src : Nat) : Bool :=
  s.selected src && s.ready (s.sourcePage src) && !s.clamped (islandOf (s.sourcePage src))

/-- A source pulse of a time, to be examined by the channels that select it. -/
def State.pulseAt (s : State) (src : Nat) (wave : Option (Nat × Nat)) (at_ : Stamp) : State :=
  if s.canPulse src then
    { s with fab := { s.fab with pulses := s.fab.pulses ++ [{ src := src, wave := wave, raised := at_ }] } }
  else s

/-- A source pulse raised now. -/
def State.pulse (s : State) (src : Nat) (wave : Option (Nat × Nat) := none) : State := s.pulseAt src wave s.now

/-- The taps that follow bit b of a page's EVRAW pulse their sources (R234). -/
def State.tapPulses (s : State) (page b : Nat) : State :=
  (List.range 32).foldl
    (fun acc k =>
      let w := s.rg 0x08 (0x080 + 4 * k)
      if flag w 31 && field w 7 0 == page && field w 12 8 == b && page != 0x08 then acc.pulse (0xC0 + k)
      else acc) s

/-- The rising edge of an EVRAW line: its EVFLG bit is set, the page's source follows, and the taps on
it pulse (R26). A block that is not READY produces no events (R226). -/
def State.evEdge (s : State) (page b : Nat) : State :=
  if s.ready page then
    let s1 := s.updRg page 0x010 (fun w => setFlag w b true)
    (s1.settle s page).tapPulses page b
  else s

/-- A single-cycle pulse of an EVRAW line. -/
def State.evPulse (s : State) (page b : Nat) : State := s.evEdge page b

/-- A level line of EVRAW takes a value. -/
def State.evLevel (s : State) (page b : Nat) (v : Bool) : State :=
  let old := flag (s.rg page 0x00C) b
  if old = v then s
  else
    let s1 := s.updRg page 0x00C (fun w => setFlag w b v)
    if v then s1.evEdge page b else s1

/-- A level of a page that also pulses a fabric source as it rises. -/
def State.levelSource (s : State) (page b : Nat) (v : Bool) (src : Nat) : State :=
  let old := flag (s.rg page 0x00C) b
  let s1 := s.evLevel page b v
  if v && !old && s.ready page then s1.pulse src else s1

/-- Several pulses of one page. -/
def State.evPulses (s : State) (page : Nat) (bs : List Nat) : State :=
  bs.foldl (fun acc b => acc.evPulse page b) s

/-! ### Fault records -/

/-- A catalogued fault: a new entry of the ring, or one more of the newest entry when code, page and
detail agree within 1 s (R538). -/
def State.faultRec (s : State) (fcode page detail : Nat) : State :=
  let fresh : FltEntry :=
    { fcode := BitVec.ofNat 8 fcode, page := BitVec.ofNat 8 page, detail := BitVec.ofNat 8 detail
      count := 1, stamp := s.now }
  let merged : Option (List FltEntry) :=
    match s.svc.ring with
    | e :: rest =>
      if e.fcode = fresh.fcode ∧ e.page = fresh.page ∧ e.detail = fresh.detail
          ∧ (s.now - e.stamp).toNat ≤ secTime 1 then
        some ({ e with count := if e.count = 255 then 255 else e.count + 1 } :: rest)
      else none
    | [] => none
  let s1 :=
    match merged with
    | some ring => { s with svc := { s.svc with ring := ring } }
    | none =>
      let ovr := decide (s.svc.ring.length ≥ 32)
      let s2 := { s with svc := { s.svc with ring := (fresh :: s.svc.ring).take 32 } }
      let s3 := s2.updRg 0x3C 0x05C (fun w => wrapField w 15 0 1)
      if ovr then s3.updRg 0x3C 0x05C (fun w => satField w 23 16 1) else s3
  s1.evPulse 0x3C 0

/-! ### Wake sources -/

/-- The power states a wake source can wake from: STANDBY, GUARD (R453). -/
def wakesFrom (source : Nat) : Bool × Bool :=
  if source == 0x11 || source == 0x12 then (false, true)
  else if 0x1C ≤ source ∧ source ≤ 0x23 then (true, false)
  else if 0x10 ≤ source ∧ source ≤ 0x3B then (true, true)
  else (false, false)

/-- Whether a wake source is enabled. -/
def State.wakeEnabled (s : State) (source : Nat) : Bool :=
  if 0x10 ≤ source ∧ source < 0x30 then flag (s.rg 0x05 0x050) (source - 0x10)
  else if 0x30 ≤ source ∧ source ≤ 0x3B then flag (s.rg 0x05 0x054) (source - 0x30)
  else false

/-- WAKE_REC and WAKE_STAMP (R93, R94, R454, R455). -/
def State.recordWake (s : State) (source left : Nat) (aborted start : Bool) : State :=
  (s.setRg 0x05 0x10C (pack [(0, 8, source), (8, 3, left), (12, 1, bit aborted), (14, 1, bit start)])).setPair
    0x05 0x110 s.now

/-- A sleep request is over: PENDING clears. -/
def State.dropSleep (s : State) : State :=
  ({ s with pwr := { s.pwr with sleep := none } } : State).updRg 0x05 0x048 (fun w => setFlag w 2 false)

/-- The bit of a wake source in WAKE_PEND is set (R453). -/
def State.pendWake (s : State) (source : Nat) : State :=
  if source < 0x30 then s.updRg 0x05 0x058 (fun w => setFlag w (source - 0x10) true)
  else s.updRg 0x05 0x05C (fun w => setFlag w (source - 0x30) true)

/-- A wake source fires: an enabled one sets its bit in WAKE_PEND whatever the state, and abandons a pending sleep
request, or starts the exit from STANDBY or GUARD where it may (R453 to R455). -/
def State.fireWake (s : State) (source : Nat) : State :=
  if s.dead || !s.wakeEnabled source then s
  else
    let s1 := s.pendWake source
    match s1.pwr.sleep with
    | some r => ((s1.dropSleep).recordWake source r.origin true false).evPulse 0x05 2
    | none =>
      let may := match s1.pwr.depth with
        | .standby => (wakesFrom source).1
        | .guard => (wakesFrom source).2
        | _ => false
      if may && s1.pwr.exit.isNone then
        let s2 : State := { s1 with pwr := { s1.pwr with exit := some (s1.pwr.depth, s1.now) } }
        (s2.recordWake source s1.pstate.num false false).evPulse 0x05 1
      else s1

end Sys2Proof.Machine
end

