-- ==== Sys2Proof/Machine/Access.lean ====
section
/-!
DEFINITION. One register access: how it is judged before it reaches the register (R13 to R38, R79,
R570), how it completes at the master, and how the common header reads.
-/
namespace Sys2Proof.Machine

/-- How an access is judged before the register's own rules. -/
inductive Gate where
  /-- Nothing answers: the device is without power, or the access is discarded in GUARD (R16). -/
  | lost | guarded
  /-- The page is unassigned (R20). -/
  | unassigned
  /-- AON answers for an island that cannot take the access (R570). -/
  | proxy
  /-- The access is refused with a code. -/
  | refuse (c : Code)
  /-- A read of a block that is not READY, or of an offset that holds no register, or any access past the page's
  registers that R31 answers: 0 and DONE, a write discarded (R30, R79, R155). -/
  | zero
  /-- The access reaches the register. -/
  | pass
  deriving DecidableEq, Repr

/-- Whether a page is assigned now: the TEST page is not once DEBUG_CLOSE is blown (R20). -/
def State.assigned (s : State) (page : Nat) : Bool :=
  pageAssigned page && !(page == 0x3F && s.fuse.debugClosed)

/-- Whether a mailbox register is the page master's to write (R54). -/
def mboxPageMaster (off : Nat) : Bool := (0x040 ≤ off && off ≤ 0x07F) || off == 0x084 || off == 0x090

/-- Whether a master may write a register whoever owns the device (R37). -/
def writeExempt (m : Master) (page off : Nat) : Bool :=
  page == 0x01
  || (page == 0x40 + Master.id m && mboxPageMaster off)
  || (match regAt page off with | some d => d.bank | none => false)

/-- Whether a written word holds no encoding its field tables list as reserved (R5). -/
def legalWord (d : RegDef) (v : Word) : Bool :=
  d.lim.all (fun (hi, lo, mn, mx) => decide (mn ≤ field v hi lo) && decide (field v hi lo ≤ mx))

/-- Whether a register of EVENT belongs to a secure channel (R233). -/
def State.secureChannel (s : State) (off : Nat) : Bool :=
  decide (0x100 ≤ off) && decide (off < 0x500) && flag (s.rg 0x08 (off / 0x10 * 0x10)) 9

/-- Whether a master's transaction is refused as not secure: on a page with ACCESS.SECURE, and at a secure channel's
registers as on such a page (R28, R233). -/
def State.insecure (s : State) (m : Master) (page off : Nat) : Bool :=
  (flag (s.rg page 0x01C) 1 || (page == 0x08 && s.secureChannel off)) && !s.secure m

/-- The judgement common to reads and writes: power, GUARD, assignment and availability. -/
def State.reachGate (s : State) (m : Master) (page : Nat) : Gate :=
  if s.dead then .lost
  else if s.pwr.depth == .guard && (m == .hspi || m == .htw || m == .debug) then .guarded
  else if !s.assigned page then .unassigned
  else if s.unavailable (islandOf page) then .proxy
  else .pass

/-- Offsets past a page's registers that every access, single-word ones included, treats as R31 treats a burst
(R155). -/
def burstTail (page off : Nat) : Bool := page == 0x0A && decide (0xC00 ≤ off)

/-- The judgement of a register write, up to the register's own rules: readiness (R79), ACCESS
(R28, R29), ownership (R37, R38, R54), holes (R30) and reserved encodings (R5), in that order (DESIGN CHOICE, log
entry 206). -/
def State.writeGate (s : State) (m : Master) (page off : Nat) (v : Word) : Gate :=
  match s.reachGate m page with
  | .pass =>
    if page ≥ 0x80 then .pass
    else if burstTail page off then .zero
    else if !s.ready page then .refuse .notReady
    else if s.insecure m page off then .refuse .security
    else if off == 0x01C then
      if !(s.isOwner m && s.secure m) then .refuse .security
      else if flag (s.rg page 0x01C) 31 then .refuse .state
      else .pass
    else if pageKind page == 0x40 && mboxPageMaster off && page != 0x40 + Master.id m then
      .refuse .notOwner
    else if !s.isOwner m && !writeExempt m page off then .refuse .notOwner
    else
      match regAt page off with
      | none => .refuse .arg
      | some d => if legalWord d v then .pass else .refuse .arg
  | g => g

/-- The judgement of a register read. The header stays readable when the block is not READY and by
non-owners (R27, R79). -/
def State.readGate (s : State) (m : Master) (page off : Nat) : Gate :=
  match s.reachGate m page with
  | .pass =>
    if page ≥ 0x80 then .pass
    else if burstTail page off then .zero
    else if s.insecure m page off then .refuse .security
    else if off < 0x040 then
      match regAt page off with
      | none => .zero
      | some _ => .pass
    else if !s.ready page then .zero
    else if flag (s.rg page 0x01C) 0 && !s.isOwner m then .refuse .notOwner
    else
      match regAt page off with
      | none => .zero
      | some _ => .pass
  | g => g

/-- READY as it reads: READY[2:0] kept, STATE from reset, clock and fault, BUSY from the slots (R23). Of an island that
cannot take the access STATE is RESET, START or HELD (R570); a block stopped on a fault whose clock is off shows HELD
(DESIGN CHOICE, log entry 209). -/
def State.readyView (s : State) (page : Nat) : Word :=
  let w := s.rg page 0x004
  let isl := islandOf page
  let st :=
    if s.inReset isl || (s.pwr.cut && isl != .aon) then 0
    else if flag w 2 then (if s.clock isl == .off then 3 else 4)
    else if !flag w 0 then 1
    else if s.clock isl == .full then 2
    else 3
  let busy := s.ops.slots.any (fun e => e.2.st == .running && e.2.page.toNat == page)
  pack [(0, 3, field w 2 0), (4, 4, st), (31, 1, bit busy)]

/-- PID (R22). -/
def pidOf (page : Nat) : Word :=
  let first := if 0x80 ≤ page then page else pageKind page
  pack [(0, 8, 1), (8, 8, page - first), (16, 16, 0x9600 + first)]

/-- ACCESS as it reads: SECURE reads 1 in the FUSE and CRIB pages (R29). -/
def State.headerView (s : State) (page off : Nat) : Word :=
  if off == 0x000 then pidOf page
  else if off == 0x004 then s.readyView page
  else s.rg page off

/-! ### 64-bit values (R34) -/

/-- A master's shadow in a page. -/
def State.shadowOf (s : State) (m : Master) (page : Nat) : Option Shadow :=
  Tab.get (fun _ => none) s.shadow (bankKey m (ra page 0))

/-- A master's shadow in a page filled or emptied. -/
def State.setShadow (s : State) (m : Master) (page : Nat) (w : Option Shadow) : State :=
  { s with shadow := Tab.set (fun _ => none) s.shadow (bankKey m (ra page 0)) w }

/-- Reading the low word of a value fills the master's shadow in the page with the high word; after a read of the
port's VAL it takes the low word kept with the stamp (R34, R109). -/
def State.lowRead (s : State) (m : Master) (page off : Nat) (lo hi : Word) : State × Word :=
  let fill := (s.setShadow m page (some { off := off, low := none, high := hi }), lo)
  match s.shadowOf m page with
  | some x =>
    match x.low with
    | some w => if x.off = off then (s.setShadow m page (some { x with low := none }), w) else fill
    | none => fill
  | none => fill

/-- Reading the high word of a value takes the shadow when it belongs to that value, or else the live word (R34; log
entry 5). -/
def State.highRead (s : State) (m : Master) (page off : Nat) (hi : Word) : State × Word :=
  match s.shadowOf m page with
  | some x => if x.off + 4 = off then (s.setShadow m page none, x.high) else (s, hi)
  | none => (s, hi)

/-- What a GUARD access of a host link leaves: LASTERR at HSPI; the sticky error and NOT_READY in
MY_RESULT at the debug port; nothing at HTW (R16). -/
def State.guardDrop (s : State) (m : Master) (page off : Nat) : State :=
  match m with
  | .debug => ((s.logMine m page off .notReady).portErr m).answer m 0 .notReady
  | .hspi => s.portErr m
  | _ => s

/-- An access to an unassigned page: a write is refused with ARG, logged in DEVICE.ERRC with the page
number (R20). -/
def State.rejectUnassigned (s : State) (m : Master) (page off : Nat) : State :=
  (((s.logErr 0x00 page .arg).logMine m page off .arg).portErr m).answer m 0 .arg

/-- AON refuses a write for an island that cannot take it: NOT_READY in MY_RESULT, not in ERRC (R570). -/
def State.proxyWrite (s : State) (m : Master) (page off : Nat) : State :=
  ((s.logMine m page off .notReady).portErr m).answer m 0 .notReady

/-- AON answers a read for an island that cannot take it: its copies of PID, READY and STAMP, the stamp by the
master's shadow in the page as ever (R34), otherwise 0 (R570). -/
def State.proxyRead (s : State) (m : Master) (page off : Nat) : State :=
  if page < 0x80 && (off == 0x000 || off == 0x004) then s.answer m (s.headerView page off) .done
  else if page < 0x80 && off == 0x020 then
    let (s1, v) := s.lowRead m page off (s.rg page 0x020) (s.rg page 0x024)
    s1.answer m v .done
  else if page < 0x80 && off == 0x024 then
    let (s1, v) := s.highRead m page off (s.rg page 0x024)
    s1.answer m v .done
  else s.answer m 0 .done

/-- A register write: judged, then carried out by the register's own effect, and completed at the
master with its code. -/
def State.write (s : State) (m : Master) (page off : Nat) (v : Word)
    (eff : State → State × Code) : State :=
  match s.writeGate m page off v with
  | .lost => s
  | .guarded => s.guardDrop m page off
  | .unassigned => s.rejectUnassigned m page off
  | .proxy => s.proxyWrite m page off
  | .refuse c => s.reject m page off c
  | .zero => s.answer m 0 .done
  | .pass =>
    let (s1, c) := eff s
    s1.complete m page off 0 c

/-- A register read: judged, then answered by the register's own effect. -/
def State.read (s : State) (m : Master) (page off : Nat)
    (eff : State → State × Word × Code) : State :=
  match s.readGate m page off with
  | .lost => s
  | .guarded => s.guardDrop m page off
  | .unassigned => s.answer m 0 .done
  | .proxy => s.proxyRead m page off
  | .refuse c => s.reject m page off c
  | .zero => s.answer m 0 .done
  | .pass =>
    let (s1, v, c) := eff s
    s1.complete m page off v c

/-- A read-write register takes the written value in its writable bits (R3, R4). -/
def storeBits (d : RegDef) (old v : Word) : Word :=
  let m : Word := BitVec.ofNat 32 d.mask
  match d.acc with
  | .rw => v &&& m
  | .w1c => old &&& ~~~(v &&& m)
  | .mixed => (old &&& ~~~m) ||| (v &&& m)
  | .ro => old
  | .act => old

/-- A register without behaviour of its own takes a written value; a banked one only in the writing
master's copy (R37). -/
def State.plainWrite (s : State) (m : Master) (page off : Nat) (v : Word) : State × Code :=
  match regAt page off with
  | none => (s, .arg)
  | some d =>
    match d.acc with
    | .ro => (s, .done)
    | .act => (s, .done)
    | _ =>
      if d.bank then (s.setOwn1 m page off (storeBits d 0 v), .done)
      else (s.setRg page off (storeBits d (s.rg page off) v), .done)

end Sys2Proof.Machine
end

