-- ==== Sys2Proof/Machine/Sheaf.lean ====
section
/-!
DEFINITION. Sheaf queues (chapter 11): items, whole and item pushes, rewinds, pops, pointer faults,
and the queue configuration.
-/
namespace Sys2Proof.Machine

/-! ### Queue state -/

/-- A queue. -/
def State.queue (s : State) (n : Nat) : Queue := Tab.get (fun _ => {}) s.queues n

/-- A queue given a state. -/
def State.putQueue (s : State) (n : Nat) (q : Queue) : State :=
  { s with queues := Tab.set (fun _ => {}) s.queues n q }

/-- QnCFG. -/
def State.qcfg (s : State) (n : Nat) : Word := s.rg 0x1B (0x100 + 0x10 * n)

/-- Fields of QnCFG (R255). -/
def qEn (c : Word) : Bool := flag c 0
def qCut (c : Word) : Bool := flag c 1
def qCap (c : Word) : Nat := 2 ^ field c 7 4
def qCons (c : Word) : Nat := field c 10 8
def qCutN (c : Word) : Nat := field c 23 16
def qWm (c : Word) : Nat := field c 26 24

/-- The number QnSTAT.OWNER shows for a producer: masters 0 to 4, threads 16 to 31 (R255). -/
def Producer.num : Producer → Nat
  | .master m => Master.id m
  | .thread t => 16 + t.val
  | .block => 8

/-- An item as stored: VALID, POS, SEQ and PAYLOAD (R238). -/
def itemWord (pos seq payload : Nat) : Word :=
  pack [(0, 24, payload), (24, 5, seq), (29, 2, pos), (31, 1, 1)]

/-- A pushed item before it has a SEQ: POS and PAYLOAD. -/
def rawItem (pos payload : Nat) : Word := pack [(0, 24, payload), (29, 2, pos)]

/-- The queue with raw items made visible, each taking the next SEQ (R239). -/
def Queue.show (q : Queue) : List Word → Queue
  | [] => q
  | w :: rest =>
    Queue.show
      { q with
        items := q.items ++ [{ word := itemWord (field w 30 29) q.seq.toNat (field w 23 0) }]
        seq := q.seq + 1 } rest

/-- The raw items of a complete packet: one single, or first, middles and last (R238). -/
def packetItems : List Word → List Word
  | [] => []
  | [w] => [rawItem 0 w.toNat]
  | w :: rest =>
    let n := rest.length
    rawItem 1 w.toNat ::
      (rest.zipIdx.map (fun (v, i) => rawItem (if i + 1 == n then 3 else 2) v.toNat))

/-- The QWIN levels follow the queue: NONEMPTY, and WATERMARK at WM × 2^SIZE / 8 items (R256). -/
def State.refreshQueue (s : State) (n : Nat) : State :=
  let c := s.qcfg n
  let count := (s.queue n).items.length
  let s1 := s.evLevel (0x50 + n) 0 (count != 0)
  s1.evLevel (0x50 + n) 1 (qWm c != 0 && decide (count ≥ qWm c * qCap c / 8))

/-- A counter of QnCNT goes up. -/
def State.qCount (s : State) (n hi lo : Nat) : State :=
  s.updRg 0x1B (0x108 + 0x10 * n) (fun w => satField w hi lo 1)

/-- A mismatch of the duplicated pointers: the queue is emptied, SEQ kept, and the fault recorded
(R250). -/
def State.pointerFault (s : State) (n : Nat) : State :=
  let s1 := s.putQueue n { seq := (s.queue n).seq }
  let s2 := (s1.qCount n 27 20).updRg 0x1B 0x04C (fun w => setFlag w n true)
  let s3 := ((s2.evPulse 0x1B n).evPulse (0x50 + n) 2).faultRec 0x0B 0x1B n
  s3.refreshQueue n

/-- The open packet's items that have not been popped are removed (R244). -/
def Queue.rewind (q : Queue) : Queue :=
  { q with
    items := q.items.take (q.items.length - min q.shown q.items.length)
    hidden := [], opened := none, total := 0, shown := 0 }

/-- An open packet is rewound; with none open nothing happens (R244, R246). -/
def State.rewindQueue (s : State) (n : Nat) : State :=
  match (s.queue n).opened with
  | none => s
  | some _ =>
    let s1 := (s.putQueue n (s.queue n).rewind).qCount n 19 12
    (s1.evPulse (0x50 + n) 3).refreshQueue n

/-- Every queue whose open packet is of a producer that satisfies p is rewound (R246). -/
def State.rewindOf (s : State) (p : Nat → Bool) : State :=
  (List.range 32).foldl
    (fun acc n =>
      match (acc.queue n).opened with
      | some k => if p k then acc.rewindQueue n else acc
      | none => acc) s

/-! ### Pushes -/

/-- Whether GRANARY can take a push: READY and not unavailable (R18, R243). -/
def State.granaryUp (s : State) : Bool := s.ready 0x1B && !s.unavailable .granary

/-- A whole push of raw items: room for all, or nothing placed (R241, R245). -/
def State.pushRaw (s : State) (n who : Nat) (raw : List Word) : State × Code :=
  let c := s.qcfg n
  let q := s.queue n
  if !s.granaryUp then (s, .notReady)
  else if !qEn c then (s, .state)
  else if q.ptrBad then (s.pointerFault n, .integrity)
  else if qCut c && q.opened.isSome then
    (s, if q.opened == some who then .arg else .busy)
  else if q.items.length + raw.length > qCap c then
    (((s.qCount n 11 0).evPulse (0x50 + n) 3), .busy)
  else ((s.putQueue n (q.show raw)).refreshQueue n, .done)

/-- A whole push of a packet's payloads by a producer of a number. -/
def State.pushPacket (s : State) (n who : Nat) (payloads : List Word) : State × Code :=
  s.pushRaw n who (packetItems payloads)

/-- The open packet of queue n takes one item (R244). -/
def State.appendItem (s : State) (n : Nat) (w : Word) (last : Bool) : State × Code :=
  let c := s.qcfg n
  let q := s.queue n
  if qCut c then
    if q.items.length + q.hidden.length + 1 > qCap c then (s.rewindQueue n, .busy)
    else
      let raw := q.hidden ++ [w]
      let total := q.total + 1
      if last then
        ((s.putQueue n { q.show raw with hidden := [], opened := none, total := 0, shown := 0 }).refreshQueue n,
          .done)
      else if decide (q.shown > 0) || decide (total ≥ qCutN c) then
        ((s.putQueue n
            { q.show raw with hidden := [], total := total, shown := q.shown + raw.length }).refreshQueue n,
          .done)
      else (s.putQueue n { q with hidden := raw, total := total }, .done)
  else if q.hidden.length ≥ 64 then (s.rewindQueue n, .busy)
  else
    let raw := q.hidden ++ [w]
    if last then
      if q.items.length + raw.length > qCap c then (s.rewindQueue n, .busy)
      else
        ((s.putQueue n { q.show raw with hidden := [], opened := none, total := 0, shown := 0 }).refreshQueue n,
          .done)
    else (s.putQueue n { q with hidden := raw, total := q.total + 1 }, .done)

/-- An item push by position: 0 single, 1 first, 2 middle, 3 last (R242). -/
def State.pushItem (s : State) (n who pos payload : Nat) : State × Code :=
  let c := s.qcfg n
  let q := s.queue n
  if pos == 0 then s.pushRaw n who [rawItem 0 payload]
  else if !s.granaryUp then (s, .notReady)
  else if !qEn c then (s, .state)
  else if q.ptrBad then (s.pointerFault n, .integrity)
  else if pos == 1 then
    match q.opened with
    | none =>
      (s.putQueue n { q with opened := some who, total := 0, shown := 0 }).appendItem n (rawItem 1 payload)
        false
    | some k =>
      if k == who then
        let s1 := s.rewindQueue n
        (s1.putQueue n { s1.queue n with opened := some who, total := 0, shown := 0 }).appendItem n
          (rawItem 1 payload) false
      else (s, .busy)
  else if q.opened == some who then s.appendItem n (rawItem pos payload) (pos == 3)
  else (s, .arg)

/-- A push by a producer that is not a master: a code other than DONE is logged in QWINn.ERRC (R243). -/
def State.logPush (s : State) (n : Nat) (c : Code) : State :=
  if c = .done then s else s.logErr (0x50 + n) (0x048 / 16) c

/-- A block of the device pushes a packet, and its code is logged (R241, R243). -/
def State.blockPush (s : State) (n : Nat) (payloads : List Word) : State × Code :=
  let (s1, c) := s.pushPacket n 8 payloads
  (s1.logPush n c, c)

/-! ### Where queue storage stands (R253, R262) -/

/-- The regions that exist after POR and BROWNOUT (R262), with the frames the model places them in. -/
def defaultRegion (h : Nat) : Option Region :=
  match h with
  | 0 => some { purpose := 0, frames := List.range 128 }
  | 1 => some { purpose := 1, frames := (List.range 16).map (128 + ·) }
  | 2 => some { purpose := 2, frames := (List.range 64).map (144 + ·) }
  | 3 => some { purpose := 3, frames := (List.range 32).map (208 + ·) }
  | _ => none

/-- A region by its handle. -/
def State.region (s : State) (h : Nat) : Option Region := Tab.get defaultRegion s.gran.regions h

/-- The frames of a region, none where there is no region. -/
def State.framesOf (s : State) (h : Nat) : List Nat :=
  match s.region h with | some r => r.frames | none => []

/-- Which of a list's elements the engine picks: its own choice, a free value (R571). -/
def State.pickFrom (s : State) (l : List Nat) : State × Option Nat :=
  let (w, s1) := s.draw
  match l with
  | [] => (s, none)
  | _ => (s1, l[w.toNat % l.length]?)

/-- An uncorrectable read sets UE_ADDR and pulses EVRAW.UE (R261). -/
def State.ueRead (s : State) (w : Nat) : State :=
  ((s.setRg 0x1C 0x05C (pack [(0, 15, w % 32768), (15, 6, w / 32768), (31, 1, 1)])).evPulse 0x1C 0).faultRec 0x09 0x1C (w / 32768)

/-- An uncorrectable item of a queue: its word is one of the QUEUE region's, and which one the manual does not define,
a free value (R261, R265). -/
def State.itemLost (s : State) : State :=
  let (s1, f) := s.pickFrom (s.framesOf 0)
  let (w, s2) := s1.draw
  s2.ueRead ((f.getD 0) * 1024 + w.toNat % 1024)

/-! ### Pops -/

/-- The head item is removed: 0 when empty, 0x7F00_0000 for an item that fails its ECC (R240, R250, R261). -/
def State.popItem (s : State) (n : Nat) : State × Word × Code :=
  let q := s.queue n
  if q.ptrBad then (s.pointerFault n, 0, .integrity)
  else
    match q.items with
    | [] => (s, 0, .done)
    | e :: rest =>
      let s1 := (s.putQueue n { q with items := rest }).refreshQueue n
      if e.bad then ((s1.qCount n 31 28).itemLost, 0x7F000000, .integrity) else (s1, e.word, .done)

/-- The head item as a consumer of the device takes it, with no master to complete to: a code other than DONE is
logged in QWINn.ERRC (R240, R250). -/
def State.popLogged (s : State) (n : Nat) : State × Word :=
  let (s1, w, c) := s.popItem n
  (s1.logPush n c, w)

/-- Whether a master is a queue's consumer (R247); Q0's is fixed at 7 (R251). -/
def State.consumes (s : State) (m : Master) (n : Nat) : Bool :=
  let k := if n == 0 then 7 else qCons (s.qcfg n)
  if k == 7 then s.isOwner m else k == Master.id m

/-- What PEEK returns (R247). -/
def State.peekWord (s : State) (n : Nat) : Word :=
  match (s.queue n).items with
  | [] => 0
  | e :: _ => if e.bad then 0x7F000000 else e.word

/-- A read of QWINn.PEEK: the pointers are compared as at every access, and an uncorrectable head item completes the
read with INTEGRITY (R247, R250, R261); the word it then returns is that of a pop (DESIGN CHOICE, log entry 1101). -/
def peekEffect (n : Nat) (s : State) : State × Word × Code :=
  if (s.queue n).ptrBad then (s.pointerFault n, 0, .integrity)
  else
    match (s.queue n).items with
    | e :: _ => if e.bad then (s.itemLost, s.peekWord n, .integrity) else (s, s.peekWord n, .done)
    | [] => (s, 0, .done)

/-- QnSTAT as it reads (R255). -/
def State.qstat (s : State) (n : Nat) : Word :=
  let q := s.queue n
  let c := s.qcfg n
  let used := q.items.length + (if qCut c then q.hidden.length else 0)
  let openCount := if qCut c then q.hidden.length + min q.shown q.items.length else q.hidden.length
  pack [(0, 17, q.items.length), (17, 7, min openCount 127), (24, 1, bit q.opened.isSome),
    (25, 5, q.opened.getD 0), (30, 1, bit (qEn c && decide (used ≥ qCap c)))]

/-- HOSTMAP as it reads: queues with HOSTEN and a visible item (R255). -/
def State.hostmap (s : State) : Word :=
  pack ((List.range 32).map (fun n =>
    (n, 1, bit (flag (s.qcfg n) 2 && qEn (s.qcfg n) && !(s.queue n).items.isEmpty))))

/-- A read of QWINn.POP that has reached the register (R247). -/
def popEffect (m : Master) (n : Nat) (s : State) : State × Word × Code :=
  if s.consumes m n then s.popItem n else (s, 0, .notOwner)

/-- A write of QWINn.PUSH that has reached the register (R250, R251, R256). -/
def pushEffect (m : Master) (n : Nat) (v : Word) (s : State) : State × Code :=
  if n ≤ 1 then (s, .arg)
  else if flag v 31 then
    if (s.queue n).ptrBad then (s.pointerFault n, .integrity)
    else if (s.queue n).opened == some (Master.id m) then (s.rewindQueue n, .done) else (s, .arg)
  else s.pushItem n (Master.id m) (field v 30 29) (field v 23 0)

/-! ### Configuration -/

/-- POOL_FREE changes by the storage of one queue, four bytes an item (R253). -/
def State.poolTake (s : State) (c : Word) : State :=
  s.updRg 0x1B 0x044 (fun w => w - BitVec.ofNat 32 (4 * qCap c))

def State.poolGive (s : State) (c : Word) : State :=
  s.updRg 0x1B 0x044 (fun w => w + BitVec.ofNat 32 (4 * qCap c))

/-- A write of QnCFG that has reached the register (R251, R253). -/
def qcfgEffect (n : Nat) (v : Word) (s : State) : State × Code :=
  let old := s.qcfg n
  let new := v &&& 0x07FF07F7
  let shape (w : Word) : Nat × Nat × Nat := (field w 1 1, field w 7 4, field w 23 16)
  let put (t : State) : State := (t.setRg 0x1B (0x100 + 0x10 * n) new).refreshQueue n
  if n ≤ 1 && (qEn new != qEn old || shape new != shape old) then (s, .arg)
  else if n == 0 && qCons new != qCons old then (s, .arg)
  else if qEn old && shape new != shape old then (s, .state)
  else if qEn old && qEn new then (put s, .done)
  else if qEn new then
    if (s.rg 0x1B 0x044).toNat < 4 * qCap new then (s, .busy)
    else (put ((s.poolTake new).putQueue n {}), .done)
  else if qEn old then
    let s1 := s.rewindQueue n
    (put ((s1.poolGive old).putQueue n { seq := (s1.queue n).seq }), .done)
  else (put s, .done)

/-- CTL.SRST of the SHEAF page: every queue emptied and every configuration at its reset value, storage
returned to the pool of the size it has, SEQ at 0 (R246, R254, R262). Q0 and Q1 hold 0x1000 bytes of it (R251). -/
def State.sheafReset (s : State) : State :=
  let s1 := s.rewindOf (fun _ => true)
  let keep (a : Nat) : Bool := a < ra 0x1B 0x048 || a ≥ ra 0x1C 0x000
  let s2 : State := { s1 with queues := [], regs := Tab.keep keep s1.regs }
  let s3 := s2.setRg 0x1B 0x044 (s2.rg 0x1B 0x040 - 0x1000)
  (List.range 32).foldl (fun acc n => acc.refreshQueue n) s3

/-- A push of a producer into a queue by other means than QWINn.PUSH: a master may not push into Q0 or Q1 (R251). -/
def Producer.barred (who : Producer) (q : Nat) : Bool :=
  match who with
  | .master _ => decide (q ≤ 1)
  | _ => false

/-- WHOLE_PUSH (R241): a producer places a complete packet in a queue, or it is dropped for want of room.
A producer other than a master has its code logged in QWINn.ERRC. -/
def execWholePush (q : Fin 32) (who : Producer) (payloads : List (BitVec 24)) (s : State) :
    Host.Outcome State Fault Refusal :=
  if payloads = [] then .fault .illFormed
  else
    let (s1, c) :=
      if Producer.barred who q.val then (s, .arg)
      else s.pushPacket q.val (Producer.num who) (payloads.map (·.zeroExtend 32))
    .next (s1.logPush q.val c)

/-- ITEM_PUSH (R242): a producer pushes one item of a packet it builds item by item. -/
def execItemPush (q : Fin 32) (who : Producer) (pos : BitVec 2) (payload : BitVec 24) (s : State) :
    Host.Outcome State Fault Refusal :=
  let (s1, c) :=
    if Producer.barred who q.val then (s, .arg) else s.pushItem q.val (Producer.num who) pos.toNat payload.toNat
  .next (s1.logPush q.val c)

/-- QWIN_PUSH (R256): a master writes QWINn.PUSH. -/
def execQwinPush (m : Master) (q : Fin 32) (v : Word) (s : State) : Host.Outcome State Fault Refusal :=
  .next (s.write m (0x50 + q.val) 0x048 v (pushEffect m q.val v))

/-- QUEUE_POP (R247): a master reads QWINn.POP. -/
def execQueuePop (m : Master) (q : Fin 32) (s : State) : Host.Outcome State Fault Refusal :=
  .next (s.read m (0x50 + q.val) 0x040 (popEffect m q.val))

/-- QCFG_WRITE (R253): a master writes QnCFG. -/
def execQcfgWrite (m : Master) (q : Fin 32) (v : Word) (s : State) : Host.Outcome State Fault Refusal :=
  .next (s.write m 0x1B (0x100 + 0x10 * q.val) v (qcfgEffect q.val v))

end Sys2Proof.Machine
end

