-- ==== Sys2Proof/Machine/Slots.lean ====
section
/-!
DEFINITION. Operation slots (chapter 03): allocation, doorbells, starting and ending operations,
completion records; and the shared way an operation's meaning runs in its slot.
-/
namespace Sys2Proof.Machine

/-- A slot. -/
def State.slot (s : State) (tag : Nat) : Slot := Tab.get (fun _ => {}) s.ops.slots tag

/-- How many slots satisfy a predicate. -/
def State.slotCount (s : State) (p : Slot → Bool) : Nat :=
  ((List.range 128).filter (fun k => p (s.slot k))).length

/-- Slots held by agents (R61). -/
def agentSlot (k : Slot) : Bool := k.st != .free && decide (5 ≤ k.src.toNat)

/-- The OPS levels: POOL_EMPTY while no slot is FREE, RECORD_HELD while any is HELD (R73). -/
def State.refreshOps (s : State) : State :=
  let s1 := s.evLevel 0x02 0 (decide (s.slotCount (fun k => k.st == .free) = 0))
  s1.evLevel 0x02 1 (decide (s.slotCount (fun k => k.st == .held) > 0))

/-- A slot given a state. -/
def State.putSlot (s : State) (tag : Nat) (k : Slot) : State :=
  State.refreshOps { s with ops := { s.ops with slots := Tab.set (fun _ => {}) s.ops.slots tag k } }

/-- The first FREE slot after the one allocated last; slot 0 at first (R60). -/
def State.nextFree (s : State) : Option Nat :=
  let start := match s.ops.last with | none => 0 | some t => t.toNat + 1
  firstFrom 128 start (fun k => (s.slot k).st == .free)

/-- A slot allocated and QUEUED for an operation. -/
def State.allocSlot (s : State) (src page op : Nat) (args : List Word) (fence secure : Bool) :
    Option (Nat × State) :=
  match s.nextFree with
  | none => none
  | some tag =>
    let old := s.slot tag
    let k : Slot :=
      { st := .queued, src := BitVec.ofNat 4 src, page := BitVec.ofNat 8 page, op := BitVec.ofNat 8 op
        args := args, fence := fence, order := s.ops.accepted, secure := secure, result := none
        code := old.code, stamp := old.stamp }
    let s1 := s.putSlot tag k
    some (tag, { s1 with ops := { s1.ops with last := some (BitVec.ofNat 7 tag), accepted := s1.ops.accepted + 1 } })

/-- Whether an agent may take a slot (R61). -/
def State.agentRoom (s : State) : Bool :=
  decide (s.slotCount agentSlot < 128 - field (s.rg 0x02 0x070) 6 0)

/-- An agent starts an operation: its slot is RUNNING at once; an agent that finds no slot waits. -/
def State.agentStart (s : State) (src page op : Nat) (args : List Word) : Option (Nat × State) :=
  if s.agentRoom then
    match s.allocSlot src page op args false true with
    | none => none
    | some (tag, s1) => some (tag, s1.putSlot tag { s1.slot tag with st := .running })
  else none

/-- An agent submits an operation that starts in its turn. -/
def State.agentQueue (s : State) (src page op : Nat) (args : List Word) : Option (Nat × State) :=
  if s.agentRoom then s.allocSlot src page op args false true else none

/-- A tag-port transaction that a Gleaner thread started ends: the code and the port's held value are on their way to
the thread (R141, R143). -/
def State.tagEnded (s : State) (tag : Nat) (c : Code) : State :=
  let give (h : Thread) : Thread :=
    match h.block, h.res with
    | .tag _ _ p (some k), none =>
      if k.toNat = tag && h.st == .blocked then
        let v := Tab.get (fun _ => {}) s.fld.held p
        let r : BlockRes :=
          { code := c, value := BitVec.ofNat 32 v.value.toNat, latch := some (64 + p, v.stamp)
            stale := if c = .done then some false else none }
        { h with res := some r }
      else h
    | _, _ => h
  { s with gle := { s.gle with threads := s.gle.threads.map (fun e => (e.1, give e.2)) } }

/-- An operation of the configuration image's loader ends: its code is kept for the loader (R519). -/
def State.loaderEnded (s : State) (tag : Nat) (c : Code) : State :=
  { s with crib := { s.crib with loader := s.crib.loader.map (fun l =>
      if l.slot == some (BitVec.ofNat 7 tag) then { l with slot := none, code := some c } else l) } }

/-- An operation ends: its slot is HELD with code and stamp, and the block logs a code other than DONE
(R64, R67), with offset 0, since no register is concerned (DESIGN CHOICE, log entry 304). -/
def State.endSlotAt (s : State) (tag : Nat) (c : Code) (t : Stamp) : State :=
  let k := s.slot tag
  let s0 := s.putSlot tag { k with st := .held, code := c, stamp := t, result := none }
  let s1 := if k.src == 5 then s0.tagEnded tag c else if k.src == 9 then s0.loaderEnded tag c else s0
  if c = .done then s1 else s1.logErr k.page.toNat 0 c

/-- An operation ends in AON, stamped now: a slot not yet started, or one that a reset ends (R68, R69). -/
def State.endSlot (s : State) (tag : Nat) (c : Code) : State := s.endSlotAt tag c s.now

/-- Every slot that satisfies p ends with a code. -/
def State.endSlots (s : State) (p : Slot → Bool) (c : Code) : State :=
  (List.range 128).foldl (fun acc tag => if p (acc.slot tag) then acc.endSlot tag c else acc) s

/-- The pages that accept operations (R74). -/
def opPages : List Nat :=
  [0x03, 0x07, 0x0A, 0x18, 0x19, 0x1A, 0x1C, 0x1D, 0x1E, 0x20, 0x21, 0x22, 0x23, 0x28, 0x29, 0x2A, 0x2B,
   0x32, 0x3A]

/-- The operation codes each page accepts (the operation tables of the chapters). -/
def opCodes (page : Nat) : List Nat :=
  match page with
  | 0x03 => [1]
  | 0x07 => [1, 2]
  | 0x0A => [1, 2, 3]
  | 0x18 => [1, 2]
  | 0x19 => [1]
  | 0x1A => [1]
  | 0x1C => [1, 2, 3, 4, 5, 6, 7, 8]
  | 0x1D => [1, 2]
  | 0x1E => [1, 2, 3, 4, 5, 6]
  | 0x20 => [1]
  | 0x21 => [1, 2, 3]
  | 0x22 => [1, 2, 3, 4]
  | 0x23 => [1, 2, 3]
  | 0x28 => [1]
  | 0x29 => [1]
  | 0x2A => [1]
  | 0x2B => [1, 2, 3]
  | 0x32 => [1, 2, 3]
  | 0x3A => (List.range 17).map (· + 1)
  | _ => []

/-- Pages whose chapter lets several operations run at once (R65): the sensor-bus units (R117). -/
def opParallel (page : Nat) : Bool := page == 0x32

/-- Whether two slots share an engine that runs one operation at a time: their page, or READER and TAGPORT together
(R65, R337). -/
def sameEngine (j k : Slot) : Bool :=
  j.page == k.page || ((j.page == 0x22 || j.page == 0x23) && (k.page == 0x22 || k.page == 0x23))

/-- Whether one of two slots is a GROUP_WRITE and the other an operation of FLASH: the array runs one of them at a time, in
no order between the pages (R65, R285, R301). -/
def sameArray (j k : Slot) : Bool := (j.page == 0x03 && k.page == 0x1E) || (j.page == 0x1E && k.page == 0x03)

/-- Whether an INVENTORY in progress gives way to a TAGPORT READ (R337). -/
def givesWay (j k : Slot) : Bool := j.page == 0x22 && j.op == 3 && k.page == 0x23 && k.op == 2

/-- ARG0 to ARG(n-1), and zero for the rest (R62). -/
def State.opsArgs (s : State) (n : Nat) : List Word :=
  (List.range 8).map (fun i => if i < n then s.rg 0x02 (0x040 + 4 * i) else 0)

/-- A doorbell write that has reached OPS (R59, R62, R63). TAG.TAG of a refused one is 0 (DESIGN CHOICE, log entry
303). -/
def doorbellEffect (m : Master) (v : Word) (s : State) : State × Code :=
  let page := field v 15 8
  let narg := field v 19 16
  let tagWord (tag valid : Nat) (c : Code) : Word :=
    pack [(0, 7, tag), (7, 1, valid), (8, 8, Code.num c), (16, 16, s.own.epoch.toNat)]
  if !opPages.contains page || narg > 8 then (s.setRg 0x02 0x064 (tagWord 0 0 .arg), .arg)
  else
    match s.allocSlot (Master.id m) page (field v 7 0) (s.opsArgs narg) (flag v 24) (s.secure m) with
    | none => (s.setRg 0x02 0x064 (tagWord 0 0 .busy), .busy)
    | some (tag, s1) => (s1.setRg 0x02 0x064 (tagWord tag 1 .done), .done)

/-- A CANCEL write that has reached OPS (R68). -/
def cancelEffect (v : Word) (s : State) : State × Code :=
  let tag := field v 6 0
  if (s.slot tag).st == .queued then (s.endSlot tag .aborted, .done) else (s, .state)

/-- Whether slot j starts before slot k on their page: in order of acceptance, but in ride-through the log
writer's programs ahead of all other flash work (R65, R95). -/
def State.startsBefore (s : State) (j k : Slot) : Bool :=
  let rank (i : Slot) : Nat :=
    if flag (s.rg 0x05 0x120) 0 && i.page == 0x1E && !(i.src == 6 && i.op == 1) then 1 else 0
  decide (rank j < rank k) || (rank j == rank k && decide (j.order < k.order))

/-- Whether a QUEUED slot may start: order at its engine, its fence, and its island's clock; a sector
erase waits out ride-through; a GROUP_WRITE and the operations of FLASH wait for each other; a TAGPORT READ does not wait
for an INVENTORY (R65, R66, R95, R301, R337). -/
def State.mayStart (s : State) (tag : Nat) : Bool :=
  let k := s.slot tag
  let others := (List.range 128).map s.slot
  let run := others.filter (fun j => j.st == .running && (sameEngine j k || sameArray j k))
  let passes := run.any (fun j => givesWay j k)
  k.st == .queued
  && others.all (fun j =>
        !(j.st == .queued && sameEngine j k && s.startsBefore j k && !(passes && j.page != k.page)))
  && (opParallel k.page.toNat || run.all (fun j => givesWay j k))
  && (!k.fence || others.all (fun j =>
        !((j.st == .queued || j.st == .running) && decide (j.order < k.order))))
  && s.clock (islandOf k.page.toNat) == .full
  && !(flag (s.rg 0x05 0x120) 0 && k.page == 0x1E && k.op == 2)

/-- A QUEUED operation starts; a code its block does not know has reached its result at once (R64). -/
def State.startSlot (s : State) (tag : Nat) : State :=
  let k := s.slot tag
  let known := (opCodes k.page.toNat).contains k.op.toNat
  s.putSlot tag { k with st := .running, result := if known then none else some .arg, ended := s.now }

/-- The code an operation reached, and TIME as its block finished, are kept until its end has reached AON (R67). -/
def State.setResult (s : State) (tag : Nat) (c : Code) : State :=
  s.putSlot tag { s.slot tag with result := some c, ended := s.now }

/-- Whether a slot runs an operation of a page that has not reached its result. -/
def State.running (s : State) (tag page op : Nat) : Bool :=
  let k := s.slot tag
  k.st == .running && k.page == BitVec.ofNat 8 page && k.op == BitVec.ofNat 8 op && k.result == none

/-- An operation at its block, checked in the order of R64: arguments, then readiness, then the block's
own effect, which answers a code, or none while it still runs. -/
def State.runOp (s : State) (tag page op : Nat) (argsOk : Slot → Bool)
    (eff : Slot → State → State × Option Code) : State :=
  if s.running tag page op then
    if !argsOk (s.slot tag) then s.setResult tag .arg
    else if !s.ready page then s.setResult tag .notReady
    else
      match eff (s.slot tag) s with
      | (s1, some c) => s1.setResult tag c
      | (s1, none) => s1
  else s

/-- Argument word i of a slot. -/
def Slot.arg (k : Slot) (i : Nat) : Word := k.args.getD i 0

/-- The two payloads of a completion record (R72). -/
def recordPayloads (tag : Nat) (k : Slot) : List Word :=
  [ pack [(0, 7, tag), (7, 1, bit (decide (5 ≤ k.src.toNat))), (8, 8, Code.num k.code),
      (16, 8, stampField k.stamp 47 40)],
    BitVec.ofNat 32 (stampField k.stamp 39 16) ]

/-- The HELD slot with the earliest completion stamp, the lowest tag among equals (R67). -/
def State.oldestHeld (s : State) : Option Nat :=
  (List.range 128).foldl
    (fun best tag =>
      if (s.slot tag).st == .held then
        match best with
        | none => some tag
        | some b => if (s.slot tag).stamp < (s.slot b).stamp then some tag else some b
      else best) none

/-- Whether Q0 has room for a record. -/
def State.recordRoom (s : State) : Bool :=
  s.granaryUp && decide ((s.queue 0).items.length + 2 ≤ qCap (s.qcfg 0))

/-- DOORBELL (R63): the owner submits an operation. -/
def execDoorbell (m : Master) (v : Word) (s : State) : Host.Outcome State Fault Refusal :=
  .next (s.write m 0x02 0x060 v (doorbellEffect m v))

/-- CANCEL (R68). -/
def execCancel (m : Master) (v : Word) (s : State) : Host.Outcome State Fault Refusal :=
  .next (s.write m 0x02 0x068 v (cancelEffect v))

end Sys2Proof.Machine
end

