-- ==== Sys2Proof/Machine/Own.lean ====
section
/-!
DEFINITION. Ownership (R37 to R50): election, lease, handover, release, what a change of owner does,
and the audit buffer; the watchdogs' counts follow the states they count in (R533).
-/
namespace Sys2Proof.Machine

/-! ### Option words -/

/-- The option words at shipping: index 0 to 7 group A, 8 to 15 B, 16 to 23 C (R300). -/
def factoryWord (k : Nat) : Word :=
  match k with
  | 0 => 0x000A2468
  | 1 => 0x000001AC
  | 2 => 0xFFFFFFFF
  | _ => 0

/-- A word of the option shadow; before the first load after POR the factory word (DESIGN CHOICE, log entry 202). -/
def State.optWord (s : State) (k : Nat) : Word := Tab.get factoryWord s.opt.shadow k

/-- A word of the option area as it took effect at the last start (A1, A3 and group B, R300). -/
def State.optLive (s : State) (k : Nat) : Word := Tab.get factoryWord s.opt.live k

/-- A master's claim priority (R39). -/
def State.prio (s : State) (m : Master) : Nat := field (s.optWord 0) (4 * Master.id m + 3) (4 * Master.id m)

/-! ### Watchdog counts -/

/-- What remains of a watchdog count. -/
def Wdt.remaining (w : Wdt) (now : Stamp) : Nat :=
  if w.counting then w.left - (now - w.since).toNat else w.left

/-- A watchdog's count under a new running and counting condition: it starts full when it begins to run
and holds where it does not count (R533). -/
def Wdt.follow (w : Wdt) (now : Stamp) (full : Nat) (running counting : Bool) : Wdt :=
  if running && !w.running then
    { running := true, left := full, since := now, counting := counting, warned := false }
  else if !running then { running := false, left := w.remaining now, since := now, counting := false, warned := w.warned }
  else if counting = w.counting then w
  else { w with left := w.remaining now, since := now, counting := counting }

/-- BOOTSTAT.UNCONFIRMED. -/
def State.unconfirmed (s : State) : Bool := flag (s.rg 0x38 0x040) 4

/-- Both watchdogs follow the power state, the owner and BOOTSTAT (R533); after an expiry the unconfirmed mode waits for a
boot (R535). -/
def State.syncWdt (s : State) : State :=
  let cfg := s.rg 0x3C 0x044
  let n := s.svc.normal.follow s.now (msTime (field cfg 15 0)) (flag cfg 24 && s.holds .core)
    (flag cfg 24 && s.holds .core && s.pstate == .run)
  let on := s.unconfirmed && (s.core.released || s.svc.unconf.running)
  let u := s.svc.unconf.follow s.now (secTime (field (s.rg 0x3C 0x050) 9 0)) on (on && s.pwr.depth == .awake)
  { s with svc := { s.svc with normal := n, unconf := u } }

/-! ### Lease -/

/-- Whether the lease counts: RUN and IDLE, with VIN above VIN_CUT (R43, R96). -/
def State.leaseCounts (s : State) : Bool := s.pwr.depth == .awake && !s.pwr.cut

/-- The lease starts, or restarts, with a period in ms (R42). -/
def State.startLease (s : State) (period : Nat) : State :=
  { s with own := { s.own with
      period := period
      due := s.after (msTime period)
      held := if s.leaseCounts then none else some (msTime period) } }

/-- The lease holds its count on leaving RUN and IDLE (R43). -/
def State.holdLease (s : State) : State :=
  match s.own.owner, s.own.held with
  | some _, none =>
    { s with own := { s.own with held := some (s.own.due.toNat - s.now.toNat) } }
  | _, _ => s

/-- On return to RUN or IDLE the lease, and a pending handover, restart in full, but not while VIN is below VIN_CUT
(R43, R46, R96). -/
def State.resumeLease (s : State) : State :=
  match s.own.held, s.pwr.cut with
  | none, _ => s
  | _, true => s
  | some _, false =>
    { s with own := { s.own with
        held := none
        due := s.after (msTime s.own.period)
        handover := s.own.handover.map (fun h => (h.1, s.after (msTime 10))) } }

/-! ### A change of owner -/

/-- An ownership audit entry waits in the AON buffer of 8; past that it is lost (R302). -/
def State.auditOwn (s : State) (kind master remain : Nat) : State :=
  if s.opt.buffer.length < 8 then
    { s with opt := { s.opt with
        buffer := s.opt.buffer ++
          [{ group := BitVec.ofNat 4 kind, master := BitVec.ofNat 4 master
             remain := BitVec.ofNat 8 remain, stamp := s.now }] } }
  else
    { s with opt := { s.opt with lost := if s.opt.lost = 255 then 255 else s.opt.lost + 1 } }

/-- A master's number in LAST_CHANGE and the audit ring, 0xF for none. -/
def ownerNum (o : Option Master) : Nat := match o with | none => 0xF | some m => Master.id m

/-- A change of owner (R49): epoch, event, record, audit entry; the owner's slots not yet started end
ABORTED; the ARG registers are cleared (R62); the former owner's open packets are rewound (R246). -/
def State.changeOwner (s : State) (kind : Nat) (heir : Option Master) (auditor : Nat) : State :=
  let from_ := s.own.owner
  let s1 : State := { s with own := { s.own with
      owner := heir, epoch := s.own.epoch + 1, window := none, claims := [], handover := none, held := none } }
  let s2 := (s1.setRg 0x01 0x068 (pack [(0, 4, kind), (4, 4, ownerNum from_), (8, 4, ownerNum heir)])).setPair
    0x01 0x06C s.now
  let s3 := s2.auditOwn kind auditor (ownerNum heir)
  let s4 := s3.endSlots (fun k => k.st == .queued && decide (k.src.toNat ≤ 4)) .aborted
  let s5 := (List.range 8).foldl (fun acc i => acc.setRg 0x02 (0x040 + 4 * i) 0) s4
  let s6 := match from_ with
    | none => s5
    | some m => s5.rewindOf (fun k => k == Master.id m)
  let s7 := (s6.evLevel 0x01 2 false).evLevel 0x01 3 false
  (s7.evPulse 0x01 0).syncWdt

/-! ### Election -/

/-- A claim lodged in the window, replacing the same master's earlier one (R40). -/
def lodge (l : List (Master × Nat)) (m : Master) (period : Nat) : List (Master × Nat) :=
  l.filter (fun c => c.1 != m) ++ [(m, period)]

/-- The winning claim: the highest priority, the lower ID among equals (R40). -/
def State.winner (s : State) : Option (Master × Nat) :=
  s.own.claims.foldl
    (fun best c =>
      match best with
      | none => some c
      | some b =>
        if s.prio c.1 > s.prio b.1 || (s.prio c.1 == s.prio b.1 && Master.id c.1 < Master.id b.1) then some c
        else some b) none

/-- The lease lapses: the device is ownerless and any handover is cancelled (R44, R47). -/
def State.lapse (s : State) : State :=
  match s.own.owner, s.own.held with
  | some _, none =>
    let s1 := s.reach s.own.due
    (s1.evPulse 0x01 1).changeOwner 0x9 none 0xF
  | _, _ => s

/-- A CLAIM write that has reached AON (R40, R41): a lease that has run out has lapsed before it. The window closes
exactly 100.0 µs after it opens (DESIGN CHOICE, log entry 201: the spec allows up to 100.2 µs). -/
def claimEffect (m : Master) (v : Word) (s0 : State) : State × Code :=
  let s := if s0.leaseOver then s0.lapse else s0
  let period := field v 15 0
  if field v 31 24 != 0xC7 || period == 0 || period > 60000 then (s, .arg)
  else if s.prio m == 0 then (s, .security)
  else if s.own.owner.isSome then (s, .state)
  else
    match s.own.window with
    | some t =>
      if t ≤ s.now then (s, .state)
      else ({ s with own := { s.own with claims := lodge s.own.claims m period } }, .done)
    | none =>
      let s1 : State := { s with own := { s.own with
        window := some (s.after (usTime 100)), claims := [(m, period)] } }
      (s1.evLevel 0x01 2 true, .done)

/-- The claim window closes and the winner becomes owner with the period it claimed (R40). -/
def State.closeWindow (s : State) : State :=
  match s.own.window with
  | none => s
  | some t =>
    let s1 := s.reach t
    match s1.winner with
    | none => s1
    | some (m, period) => (s1.changeOwner 0x8 (some m) (Master.id m)).startLease period

/-! ### Lease, handover, acceptance, release -/

/-- A LEASE write that has reached AON (R42, R44). -/
def leaseEffect (m : Master) (v : Word) (s : State) : State × Code :=
  let period := field v 31 16
  if !s.isOwner m then (s, .notOwner)
  else if field v 15 0 != s.own.epoch.toNat || period > 60000 then (s, .arg)
  else (s.startLease (if period == 0 then s.own.period else period), .done)

/-- A HANDOVER write that has reached AON (R46). -/
def handoverEffect (m : Master) (v : Word) (s : State) : State × Code :=
  if !s.isOwner m then (s, .notOwner)
  else
    match masterOf (field v 2 0) with
    | none => (s, .arg)
    | some t =>
      if field v 31 24 != 0x4B then (s, .arg)
      else if s.prio t == 0 then (s, .security)
      else if (t == .debug && s.fuse.debugClosed) || (t == .radio && s.link.mgmt.isNone) then (s, .state)
      else if t == m then
        (({ s with own := { s.own with handover := none } } : State).evLevel 0x01 3 false, .done)
      else
        (({ s with own := { s.own with handover := some (t, s.after (msTime 10)) } } : State).evLevel 0x01 3
          true, .done)

/-- A pending handover expires (R47); its 10 ms hold where the lease holds (R46). -/
def State.expireHandover (s : State) : State :=
  match s.own.handover, s.own.held with
  | none, _ => s
  | some _, some _ => s
  | some (_, due), none =>
    let s1 := s.reach due
    (({ s1 with own := { s1.own with handover := none } } : State).evLevel 0x01 3 false).evPulse 0x01 4

/-- An ACCEPT write that has reached AON (R47). Priority 0 forbids it (R39); that refusal's code and its place after the
others are the model's choice (log entry 208). -/
def acceptEffect (m : Master) (v : Word) (s : State) : State × Code :=
  let period := field v 15 0
  if field v 31 24 != 0x4B || period == 0 || period > 60000 then (s, .arg)
  else
    match s.own.handover with
    | none => (s, .state)
    | some (t, due) =>
      if t != m || (s.own.held.isNone && due ≤ s.now) || s.leaseOver then (s, .state)
      else if s.prio m == 0 then (s, .security)
      else ((s.changeOwner 0xA (some m) (Master.id m)).startLease period, .done)

/-- A RELEASE write that has reached AON (R48). -/
def releaseEffect (m : Master) (v : Word) (s : State) : State × Code :=
  if !s.isOwner m then (s, .notOwner)
  else if v != BitVec.ofNat 32 s.own.epoch.toNat then (s, .arg)
  else (s.changeOwner 0xB none (Master.id m), .done)

/-! ### The audit ring -/

/-- Entries programmed into the ring, each with the next number; the newest 64 are kept (R302). -/
def OptionState.program (o : OptionState) : List AuditEntry → OptionState
  | [] => o
  | e :: rest =>
    OptionState.program
      { o with number := o.number + 1, ring := ({ e with number := o.number + 1 } :: o.ring).take 64 } rest

/-- Whether FLASH is READY and clocked (R302). -/
def State.flashUp (s : State) : Bool :=
  s.ready 0x1E && !s.unavailable .flash

/-- CLAIM (R41). -/
def execClaim (m : Master) (v : Word) (s : State) : Host.Outcome State Fault Refusal :=
  .next (s.write m 0x01 0x04C v (claimEffect m v))

/-- CLAIM_WINDOW_CLOSE (R40). -/
def execClaimWindowClose (s : State) : Host.Outcome State Fault Refusal := .next s.closeWindow

/-- LEASE (R42). -/
def execLease (m : Master) (v : Word) (s : State) : Host.Outcome State Fault Refusal :=
  .next (s.write m 0x01 0x050 v (leaseEffect m v))

/-- LEASE_LAPSE (R44). -/
def execLeaseLapse (s : State) : Host.Outcome State Fault Refusal := .next s.lapse

/-- HANDOVER (R46). -/
def execHandover (m : Master) (v : Word) (s : State) : Host.Outcome State Fault Refusal :=
  .next (s.write m 0x01 0x058 v (handoverEffect m v))

/-- HO_EXPIRED (R47). -/
def execHoExpired (s : State) : Host.Outcome State Fault Refusal := .next s.expireHandover

/-- ACCEPT (R47). -/
def execAccept (m : Master) (v : Word) (s : State) : Host.Outcome State Fault Refusal :=
  .next (s.write m 0x01 0x05C v (acceptEffect m v))

/-- OWN_RELEASE (R48). -/
def execOwnRelease (m : Master) (v : Word) (s : State) : Host.Outcome State Fault Refusal :=
  .next (s.write m 0x01 0x060 v (releaseEffect m v))

/-- AUDIT_FLUSH (R302): the buffered entries are programmed once FLASH is READY and clocked. -/
def execAuditFlush (s : State) : Host.Outcome State Fault Refusal :=
  .next
    (if s.flashUp then { s with opt := { (s.opt.program s.opt.buffer) with buffer := [] } } else s)

end Sys2Proof.Machine
end

