-- ==== Sys2Proof/Machine/Migrate.lean ====
section
/-!
DEFINITION. GRANARY's arrays and the copies between them (R257 to R259, R262 to R264, R266, R271): banks, frames and words
with their ECC state, regions, placement records, migration, and banks taken out of service.
-/
namespace Sys2Proof.Machine

/-! ### SRAM -/

/-- What an SRAM byte nothing has written reads as: the SRAM is initialised, and a new frame reads zero
(R262, R275). -/
def sramDefault (_ : Nat) : Byte := 0

/-- One SRAM byte, by frame × 4096 + offset. -/
def State.sramByte (s : State) (a : Nat) : Byte := Tab.get sramDefault s.gran.sram a

/-- One SRAM byte given a value. -/
def State.setSramByte (s : State) (a : Nat) (b : Byte) : State :=
  { s with gran := { s.gran with sram := Tab.set sramDefault s.gran.sram a b } }

/-- n SRAM bytes from an address up. -/
def State.sramBytes (s : State) (a n : Nat) : List Byte := (List.range n).map (fun i => s.sramByte (a + i))

/-- SRAM bytes written from an address up. -/
def State.setSramBytes (s : State) (a : Nat) (l : List Byte) : State :=
  l.zipIdx.foldl (fun acc (b, i) => acc.setSramByte (a + i) b) s

/-- A word of SRAM, little-endian, by word address frame × 1024 + word. -/
def State.sramWord (s : State) (w : Nat) : Word := BitVec.ofNat 32 (natLE (s.sramBytes (4 * w) 4))

/-- The errors of the words that do not stay in the list are gone, as when they are written (R258). -/
def State.mendWords (s : State) (stay : Nat → Bool) : State :=
  { s with gran := { s.gran with bad := s.gran.bad.filter stay, soft := s.gran.soft.filter stay } }

/-- A word of SRAM written: a word with an error is whole again (R258). -/
def State.setSramWord (s : State) (w : Nat) (v : Word) : State :=
  (s.mendWords (· != w)).setSramBytes (4 * w) (bytesLE 4 v.toNat)

/-- A frame's bytes and error marks cleared, as when it returns to the free pool (R264). -/
def State.zeroFrame (s : State) (f : Nat) : State :=
  let s1 := s.mendWords (fun w => w / 1024 != f)
  { s1 with gran := { s1.gran with sram := Tab.keep (fun a => a / 4096 != f) s1.gran.sram } }

/-- A frame's content copied to another, uncorrectable words among it (R258, R266). -/
def State.copyFrame (s : State) (src dst : Nat) : State :=
  let s1 := s.zeroFrame dst
  let moved := (s1.gran.sram.filter (fun e => e.1 / 4096 == src)).map
    (fun e => (e.1 % 4096 + dst * 4096, e.2))
  let bad := (s1.gran.bad.filter (fun w => w / 1024 == src)).map (fun w => w % 1024 + dst * 1024)
  let s2 := moved.foldl (fun acc e => acc.setSramByte e.1 e.2) s1
  { s2 with gran := { s2.gran with bad := s2.gran.bad ++ bad } }

/-! ### Regions -/

/-- A region given a value, or released. -/
def State.setRegion (s : State) (h : Nat) (r : Option Region) : State :=
  { s with gran := { s.gran with regions := Tab.set defaultRegion s.gran.regions h r } }

/-- The region a frame belongs to. -/
def State.regionOf (s : State) (f : Nat) : Option Nat :=
  (List.range 64).find? (fun h => (s.framesOf h).contains f)

/-- Whether a bank is in service and not SUSPECT (R259, R274). -/
def State.bankGood (s : State) (b : Nat) : Bool :=
  if b < 32 then !flag (s.rg 0x1C 0x050) b else b < 48 && !flag (s.rg 0x1C 0x054) (b - 32)

/-- Whether a frame is in service. -/
def State.frameGood (s : State) (f : Nat) : Bool :=
  decide (f < 1536) && s.bankGood (f / 32) && !s.gran.retired.contains f

/-- Every frame some region holds, or a copy is being made into. -/
def State.takenFrames (s : State) : List Nat :=
  (List.range 64).flatMap s.framesOf ++ (match s.gran.copy with | some c => [c.dest] | none => [])

/-- Whether a frame is free. -/
def State.frameFree (s : State) (f : Nat) : Bool := s.frameGood f && !s.takenFrames.contains f

/-- The free frames among the first n, against a list of taken ones. -/
def State.freeList (s : State) (n : Nat) : List Nat :=
  let taken := s.takenFrames
  (List.range n).filter (fun f => s.frameGood f && !taken.contains f)

/-- How many frames are free (FREE), the Loft's among them. -/
def State.freeFrames (s : State) : Nat := (s.freeList 1536).length

/-- How many frames are in service (CAPACITY). -/
def State.capacity (s : State) : Nat := ((List.range 1536).filter s.frameGood).length

/-! ### Placement records -/

/-- A placement record written to the ring of 64 (R271). -/
def State.place (s : State) (kind reason subject choice from_ : Nat) (detail : Word) : State :=
  let r : PlaceRec :=
    { w0 := pack [(0, 4, kind), (4, 4, reason), (8, 8, subject), (16, 8, choice), (24, 8, from_)]
      w1 := detail, stamp := s.now }
  let s1 := { s with gran := { s.gran with ring := (r :: s.gran.ring).take 64 } }
  (s1.updRg 0x1C 0x08C (fun w => wrapField w 15 0 1)).evPulse 0x1C 3

/-- NOLOG: high while no LOG region exists (R262). -/
def State.refreshNolog (s : State) : State := s.evLevel 0x1C 2 (s.region 1).isNone

/-- READY.DEGRADED of GRANARY: a bank is SUSPECT or retired, or a test has failed (R259, R274). -/
def State.refreshGranary (s : State) : State :=
  s.setDegraded 0x1C (s.rg 0x1C 0x050 != 0 || s.rg 0x1C 0x054 != 0 || field (s.rg 0x1D 0x050) 15 0 != 0)

/-! ### Migration -/

/-- Whether a frame belongs to a pinned region (R268). -/
def State.framePinned (s : State) (f : Nat) : Bool :=
  match s.regionOf f with
  | none => false
  | some h => match s.region h with | some r => r.pin != 0 | none => false

/-- The free frames a move may go to: any bank outside the Loft, or the banks named. -/
def State.moveTargets (s : State) (banks : Option (List Nat)) : List Nat :=
  match banks with
  | none => s.freeList 1472
  | some l => (s.freeList 1536).filter (fun f => l.contains (f / 32))

/-- A frame that cannot move stays, and a PIN_BLOCK record names it (R259). -/
def State.pinBlock (s : State) (f : Nat) : State :=
  (s.place 11 0 ((s.regionOf f).getD 0xFF) 0xFF (f / 32) (BitVec.ofNat 32 f)).evPulse 0x1C 4

/-- A region is pinned where it stands: a copy in progress of one of its frames is abandoned, since a pinned region is
never migrated, and one of a SUSPECT bank then stays on it with a PIN_BLOCK record (R259, R266, R268). -/
def State.setPin (s : State) (h w b : Nat) : State :=
  match s.region h with
  | none => s
  | some r =>
    let s1 := s.setRegion h (some { r with pin := w, bank := b })
    match s1.gran.copy with
    | some c =>
      if w != 0 && r.frames.contains c.source then
        let s2 : State := { s1 with gran := { s1.gran with copy := none } }
        if c.reason = 3 then s2.pinBlock c.source else s2
      else s1
    | none => s1

/-- A job's region stands where it was to: its pin is set and its slot ends with DONE (R276). -/
def State.finishJob (s : State) (j : MoveJob) : State :=
  let s1 :=
    match j.pin with
    | none => s
    | some (h, w, b) => s.setPin h w b
  match j.slot with
  | some t => s1.setResult t.toNat .done
  | none => s1

/-- FRAME_RETIRE: a retired frame, and the bank its content goes to, 0xFF where it goes to none (R271, R274). -/
def State.frameRetire (s : State) (f choice : Nat) : State :=
  s.place 6 5 ((s.regionOf f).getD 0xFF) choice (f / 32) (BitVec.ofNat 32 f)

/-- A copy of frame src to frame dst begins, and is recorded: MIGRATE, LOFT_IN or LOFT_OUT, and FRAME_RETIRE for the
frame of a failed region (R266, R271, R274). -/
def State.beginCopy (s : State) (src dst reason : Nat) : State :=
  let kind := if reason != 1 then 2 else if dst ≥ 1472 then 3 else 4
  let s1 := s.place kind reason ((s.regionOf src).getD 0xFF) (dst / 32) (src / 32) (BitVec.ofNat 32 src)
  let s2 := if reason = 5 then s1.frameRetire src (dst / 32) else s1
  { s2 with gran := { s2.gran with copy := some { source := src, dest := dst, reason := reason } } }

/-- A frame whose move finds no free frame, or that is pinned, stays where it is, with the record its cause gives:
PIN_BLOCK on a SUSPECT bank, FRAME_RETIRE for a failed region (R259, R268, R274). -/
def State.frameStays (s : State) (f reason : Nat) : State :=
  if reason = 3 then s.pinBlock f else if reason = 5 then s.frameRetire f 0xFF else s

/-- The next frame of a job: the first of its list, or the first of its region outside the banks it is to stand in. -/
def State.jobFrame (s : State) (j : MoveJob) : Option Nat :=
  match j.region with
  | none => j.frames.head?
  | some h => (s.framesOf h).find? (fun f => !(j.banks.getD []).contains (f / 32))

/-- The next copy starts, if none runs, GRANARY is not in GUARD, and a job has a frame left to move; one of a region
under test waits for the test. Finished jobs end on the way, and an operation whose region no longer fits where it was
to go ends with BUSY (R266, R268, R275). -/
def State.nextCopy (s : State) (fuel : Nat) : State :=
  match fuel with
  | 0 => s
  | fuel + 1 =>
    if s.gran.copy.isSome || s.pwr.depth == .guard || s.unavailable .granary || !s.ready 0x1C then s
    else
      match s.gran.jobs with
      | [] => s
      | j :: rest =>
        let without : State := { s with gran := { s.gran with jobs := rest } }
        match s.jobFrame j with
        | none => (without.finishJob j).nextCopy fuel
        | some f =>
          let s1 : State := { s with gran := { s.gran with jobs := { j with frames := j.frames.drop 1 } :: rest } }
          if s.gran.test.any (fun r => r / 16 == f) then s
          else if (s1.regionOf f).isNone then s1.nextCopy fuel
          else if j.slot.isNone && s1.framePinned f then (s1.frameStays f j.reason).nextCopy fuel
          else
            match s1.pickFrom (s1.moveTargets j.banks), j.slot with
            | (s2, some d), _ => s2.beginCopy f d j.reason
            | (_, none), some t => (without.setResult t.toNat .busy).nextCopy fuel
            | (s2, none), none => (s2.frameStays f j.reason).nextCopy fuel

/-- A job joins the engine's work. -/
def State.addJob (s : State) (j : MoveJob) : State :=
  ({ s with gran := { s.gran with jobs := s.gran.jobs ++ [j] } } : State).nextCopy 2048

/-- A frame of a region replaced by another in its place. -/
def State.swapFrame (s : State) (src dst : Nat) : State :=
  match s.regionOf src with
  | none => s
  | some h =>
    match s.region h with
    | none => s
    | some r => s.setRegion h (some { r with frames := r.frames.map (fun f => if f = src then dst else f) })

/-- A frame's content moves to another frame, which takes its place in its region (R266). -/
def State.moveFrame (s : State) (src dst : Nat) : State :=
  ((s.copyFrame src dst).swapFrame src dst).zeroFrame src

/-- The frames of a bank that a region holds. -/
def State.bankFrames (s : State) (b : Nat) : List Nat :=
  ((List.range 64).flatMap s.framesOf).filter (fun f => f / 32 == b)

/-- A copy whose destination has gone out of service is abandoned and begun again to another frame: new frames are no
longer allocated there (R259, R274). -/
def State.redirectCopy (s : State) : State :=
  match s.gran.copy with
  | none => s
  | some c =>
    if s.frameGood c.dest then s
    else
      let jobs :=
        match s.gran.jobs with
        | j :: rest => (if j.region.isNone then { j with frames := c.source :: j.frames } else j) :: rest
        | [] => [{ frames := [c.source], reason := c.reason }]
      ({ s with gran := { s.gran with copy := none, jobs := jobs } } : State).nextCopy 2048

/-- A bank is SUSPECT or retired: out of service, recorded, and its frames migrated off (R259, R274). -/
def State.suspectBank (s : State) (b : Nat) : State :=
  let off := if b < 32 then 0 else 4
  let i := b % 32
  let s1 := (s.updRg 0x1C (0x048 + off) (fun w => setFlag w i false)).updRg 0x1C (0x050 + off)
    (fun w => setFlag w i true)
  let s2 := ((s1.place 5 3 b b 0xFF 0).evPulse 0x1C 1).faultRec 0x08 0x1C b
  (s2.refreshGranary.redirectCopy).addJob { frames := s2.bankFrames b, reason := 3 }

/-- GRANARY is READY again: what a reset left on SUSPECT banks and in retired frames is still to be moved off
(R259, R274). -/
def State.moveOff (s : State) : State :=
  let s1 := (List.range 48).foldl
    (fun acc b =>
      if acc.bankGood b || (acc.bankFrames b).isEmpty then acc
      else acc.addJob { frames := acc.bankFrames b, reason := 3 }) s
  let left := s1.gran.retired.filter (fun f => s1.bankGood (f / 32) && (s1.regionOf f).isSome)
  if left.isEmpty then s1 else s1.addJob { frames := left, reason := 5 }

/-- A corrected error in a bank is counted; above CE_LIMIT within CE_WINDOW seconds the bank becomes
SUSPECT (R258, R259). -/
def State.corrected (s : State) (b : Nat) : State :=
  let c := s.rg 0x1C 0x058
  let old := Tab.get (fun _ => []) s.gran.errors b
  let kept := (s.now :: old).filter (fun t => (s.now - t).toNat ≤ secTime (field c 23 8))
  let s1 : State := { s with gran := { s.gran with errors := Tab.set (fun _ => []) s.gran.errors b kept } }
  if kept.length > field c 7 0 && s1.bankGood b then s1.suspectBank b else s1

/-- The single-bit errors of the words a copy or a test reads are corrected and counted (R258). -/
def State.correctWords (s : State) (of : Nat → Bool) : State :=
  (s.gran.soft.filter of).foldl (fun acc w => acc.corrected (w / 32768)) { s with gran := { s.gran with
    soft := s.gran.soft.filter (fun w => !of w) } }

/-- The copy in progress finishes, the frame map switches and the next copy starts; a frame its region has given
up meanwhile is not copied (R258, R266). -/
def State.copyDone (s : State) : State :=
  match s.gran.copy with
  | none => s
  | some c =>
    let s1 : State := { s with gran := { s.gran with copy := none } }
    (if (s1.regionOf c.source).isSome then
      (s1.correctWords (fun w => w / 1024 == c.source)).moveFrame c.source c.dest
    else s1).nextCopy 2048

end Sys2Proof.Machine
end

