-- ==== Sys2Proof/Machine/Memory.lean ====
section
/-!
DEFINITION. GRANARY memory (R257 to R265, R271): banks, frames and words with their ECC state, regions
and the memory window, the context store's contexts, and placement records.
-/
namespace Sys2Proof.Machine

/-- n bytes of free values. -/
def State.freeBytes (s : State) : Nat → State × List Byte
  | 0 => (s, [])
  | n + 1 =>
    let (w, s1) := s.draw
    let (s2, l) := s1.freeBytes n
    (s2, w.truncate 8 :: l)

/-- A word of SRAM read: none when it is uncorrectable; a single-bit error is corrected, written back and counted
(R258, R261). -/
def State.readWord (s : State) (w : Nat) : State × Option Word :=
  if s.gran.bad.contains w then (s.ueRead w, none)
  else if s.gran.soft.contains w then (s.correctWords (· == w), some (s.sramWord w))
  else (s, some (s.sramWord w))

/-! ### The memory window -/

/-- What an address of the window reaches (R265). -/
inductive WinRef where
  /-- Beyond the region, or through a closed aperture. -/
  | outside
  /-- A word of the QUEUE region: queue storage, whose layout the manual does not define. -/
  | queue (w : Nat)
  /-- A word of SRAM. -/
  | word (w : Nat)
  deriving DecidableEq, Repr

/-- What byte b of aperture n reaches. -/
def State.apRef (s : State) (n b : Nat) : WinRef :=
  let c := s.rg 0x1C (0x0C0 + 4 * n)
  if !flag c 6 then .outside
  else
    match s.region (field c 5 0) with
    | none => .outside
    | some r =>
      match r.frames[field c 24 16 + b / 4096]? with
      | none => .outside
      | some f => 
        let w := f * 1024 + b % 4096 / 4
        if r.purpose = 0 then .queue w else .word w

/-- What a register-space address of the window reaches; outside for any other address (R265). -/
def State.winRef (s : State) (a : Nat) : WinRef :=
  if 0x80000 ≤ a ∧ a < 0x100000 then s.apRef ((a - 0x80000) / 0x20000) ((a - 0x80000) % 0x20000) else .outside

/-- An access of a frame counted for its score: near or far side (R260, R267). -/
def State.countAccess (s : State) (near : Bool) (w : Nat) : State :=
  let f := w / 1024
  let up (t : Tab Nat) : Tab Nat := Tab.set (fun _ => 0) t f (Tab.get (fun _ => 0) t f + 1)
  if near then { s with gran := { s.gran with near := up s.gran.near } }
  else { s with gran := { s.gran with far := up s.gran.far } }

/-- How a window word read for an operation ends. -/
inductive WinGot where
  | outside | bad | got (v : Word)
  deriving DecidableEq, Repr

/-- A window word read for an operation or an agent (R261, R265). -/
def State.winRead (s : State) (near : Bool) (a : Nat) : State × WinGot :=
  match s.winRef a with
  | .outside => (s, .outside)
  | .queue w =>
    if s.gran.bad.contains w then (s.ueRead w, .bad)
    else
      let (v, s1) := (s.correctWords (· == w)).draw
      (s1, .got v)
  | .word w =>
    match (s.countAccess near w).readWord w with
    | (s1, some v) => (s1, .got v)
    | (s1, none) => (s1, .bad)

/-- n window words from an address up, for an operation: the words, or the code it ends with. -/
def State.winReads (s : State) (near : Bool) : Nat → Nat → State × Except Code (List Word)
  | _, 0 => (s, .ok [])
  | a, n + 1 =>
    match s.winRead near a with
    | (s1, .outside) => (s1, .error .arg)
    | (s1, .bad) => (s1, .error .integrity)
    | (s1, .got v) =>
      match s1.winReads near (a + 4) n with
      | (s2, .ok l) => (s2, .ok (v :: l))
      | (s2, .error c) => (s2, .error c)

/-- Whether n window words from an address up lie inside a region an operation may use. -/
def State.winInside (s : State) (a n : Nat) : Bool :=
  a % 4 == 0 && (List.range n).all (fun i => s.winRef (a + 4 * i) != .outside)

/-- Whether n window words from an address up can be written: inside a region other than QUEUE. -/
def State.winWritable (s : State) (a n : Nat) : Bool :=
  a % 4 == 0 && (List.range n).all (fun i =>
    match s.winRef (a + 4 * i) with | .word _ => true | _ => false)

/-- A window word written by an operation; nothing where no writable word is. -/
def State.winWrite (s : State) (a : Nat) (v : Word) : State :=
  match s.winRef a with
  | .word w => (s.countAccess false w).setSramWord w v
  | _ => s

/-- Window words written from an address up. -/
def State.winWrites (s : State) (a : Nat) (l : List Word) : State :=
  l.zipIdx.foldl (fun acc (v, i) => acc.winWrite (a + 4 * i) v) s

/-- The word that holds a window byte, changed in that byte. -/
def State.winPutByte (s : State) (a : Nat) (b : Byte) : State :=
  match s.winRef a with
  | .word w => (s.mendWords (· != w)).setSramByte (4 * w + a % 4) b
  | _ => s

/-- Window bytes written from an address up, one access of the far side to each word (R260, R267). -/
def State.winPutBytes (s : State) (a : Nat) (l : List Byte) : State :=
  let s1 := l.zipIdx.foldl (fun acc (b, i) => acc.winPutByte (a + i) b) s
  (List.range (if l.isEmpty then 0 else (a % 4 + l.length + 3) / 4)).foldl
    (fun acc i => match acc.winRef (a + 4 * i) with | .word w => acc.countAccess false w | _ => acc) s1

/-- n window bytes from an address up, for an operation: the bytes, or the code it ends with. -/
def State.winBytes (s : State) (a n : Nat) : State × Except Code (List Byte) :=
  let first := a / 4 * 4
  match s.winReads false first ((a % 4 + n + 3) / 4) with
  | (s1, .ok l) => (s1, .ok (((l.flatMap (fun w => bytesLE 4 w.toNat)).drop (a % 4)).take n))
  | (s1, .error c) => (s1, .error c)

/-- Whether n window bytes from an address up lie inside a region an operation may use. -/
def State.bytesInside (s : State) (a n : Nat) : Bool :=
  (List.range ((a % 4 + n + 3) / 4)).all (fun i => s.winRef (a / 4 * 4 + 4 * i) != .outside)

/-- Whether n window bytes from an address up can be written. -/
def State.bytesWritable (s : State) (a n : Nat) : Bool :=
  (List.range ((a % 4 + n + 3) / 4)).all (fun i =>
    match s.winRef (a / 4 * 4 + 4 * i) with | .word _ => true | _ => false)

/-! ### Contexts -/

/-- How many contexts a class holds: 1 READER, 2 LINK, 3 HOST. -/
def State.ctxHeld (s : State) (c : Nat) : Nat := (s.gran.ctx.filter (fun e => e.2 == c)).length

/-- A class's reservation in CTX_RES (R263). -/
def State.ctxReserved (s : State) (c : Nat) : Nat := field (s.rg 0x1C 0x06C) (8 * c - 1) (8 * c - 8)

/-- Contexts in service. -/
def State.ctxService (s : State) : Nat := 256 - s.gran.withdrawn.length

/-- Whether a class may take one more context: within its reservation, or one that no class has reserved;
and one in service is free (R263). -/
def State.ctxRoom (s : State) (c : Nat) : Bool :=
  let held := [1, 2, 3].map s.ctxHeld
  let extra := ([1, 2, 3].map (fun k => s.ctxHeld k - s.ctxReserved k)).sum
  let reserved := ([1, 2, 3].map s.ctxReserved).sum
  decide (held.sum < s.ctxService)
  && (decide (s.ctxHeld c < s.ctxReserved c) || decide (extra < s.ctxService - reserved))

/-- A context allocated to a class, and written whole: its number, or none when there is no room (R258, R263). -/
def State.ctxAlloc (s : State) (c : Nat) : Option (Nat × State) :=
  if s.ctxRoom c then
    match (List.range 256).find? (fun k =>
        Tab.get (fun _ => 0) s.gran.ctx k == 0 && !s.gran.withdrawn.contains k) with
    | none => none
    | some k => some (k, { s with gran := { s.gran with
        ctx := Tab.set (fun _ => 0) s.gran.ctx k c, ctxBad := s.gran.ctxBad.filter (fun w => w / 64 != k) } })
  else none

/-- An operation reads a context: whether it is whole, or an uncorrectable word of it sets UE_ADDR, with 48 for the
context store (R258, R261). -/
def State.ctxRead (s : State) (k : Nat) : State × Bool :=
  match s.gran.ctxBad.find? (fun w => w / 64 == k) with
  | some w => (s.ueRead (48 * 32768 + w), false)
  | none => (s, true)

/-- A context freed. -/
def State.ctxFree (s : State) (k : Nat) : State :=
  { s with gran := { s.gran with ctx := Tab.set (fun _ => 0) s.gran.ctx k 0 } }

end Sys2Proof.Machine
end

