-- ==== Sys2Proof/Machine/CribStore.lean ====
section
/-!
DEFINITION. Inside the Crib boundary (chapter 22): key slots, random numbers, the security log, the error
state, zeroisation, and the requests the other blocks make of it (R503 to R513, R520 to R526).
-/
namespace Sys2Proof.Machine

/-- A key slot. -/
def State.key (s : State) (n : Nat) : KeySlot := Tab.get (fun _ => {}) s.crib.keys n

/-- A change of the Crib's state. -/
def State.updCrib (s : State) (f : CribState → CribState) : State := { s with crib := f s.crib }

/-- An EVRAW pulse of CRIB and the fabric source that follows it (R527). -/
def State.cribEv (s : State) (b : Nat) : State := (s.evPulse 0x3A b).pulse (0xE0 + b)

/-- The security log's new entry (R526). -/
def State.secLog (s : State) (kind detail slot master : Nat) : State :=
  let n := s.crib.number + 1
  let e : SecEntry :=
    { w0 := pack [(0, 4, kind), (4, 4, detail), (8, 6, slot), (16, 3, master), (20, 12, n.toNat)], stamp := s.now }
  s.updCrib (fun c => { c with log := (e :: c.log).take 32, number := n })

/-- The master a log entry names: the submitting master, or 7 for the device itself. -/
def logMaster (k : Slot) : Nat := if k.src.toNat ≤ 4 then k.src.toNat else 7

/-- Whether the Crib answers: started, and not in its error state (R523). -/
def State.cribUp (s : State) : Bool := s.ready 0x3A && !s.unavailable .crib

/-- Whether SELFTEST is under way; internal requests then wait (R522). -/
def State.selfTesting (s : State) : Bool :=
  (List.range 128).any (fun n => s.running n 0x3A 0x0F)

/-- Whether the Crib serves an internal request now: it answers, and no SELFTEST is under way (R513, R522). -/
def State.cribFree (s : State) : Bool := s.cribUp && !s.selfTesting

/-- A key slot written: logged, signalled, and STAT.ZEROISED ends (R506, R520, R526). -/
def State.writeKey (s : State) (n : Nat) (k : KeySlot) (master : Nat) : State :=
  let s1 := s.updCrib (fun c => { c with keys := Tab.set (fun _ => {}) c.keys n k, zeroised := false })
  (s1.secLog 7 0 n master).cribEv 4

/-- Whether any root hash is set (R515, R524). -/
def State.rootSet (s : State) : Bool := s.fuse.root0.isSome || s.fuse.root1.isSome

/-- STAT.APPROVED_MODE (R524). -/
def State.approvedMode (s : State) : Bool :=
  let t := s.rg 0x3A 0x05C
  s.lifecycle == 2 && s.fuse.debugClosed && s.rootSet && flag (s.optWord 16) 0 && flag (s.optWord 16) 1
  && field t 5 0 == 0x2A && flag t 31 && !flag (s.rg 0x3A 0x004) 2

/-- The DRBG reseeds: by itself after 2^20 requests, by the RESEED operation or task, or for PR (R510). -/
def State.reseedDrbg (s : State) : State :=
  (s.updRg 0x3A 0x06C (fun w => satField (setField w 23 0 0) 31 24 1)).cribEv 6

/-- One request of the DRBG: n bytes, which are free values (R510). -/
def State.drbgBytes (s : State) (n : Nat) : State × List Byte :=
  let s1 := s.updRg 0x3A 0x06C (fun w => wrapField w 23 0 1)
  let s2 := if field (s1.rg 0x3A 0x06C) 23 0 > 0x100000 then s1.reseedDrbg else s1
  s2.freeBytes n

/-- A failed test: the Crib's error state (R523). -/
def State.cribError (s : State) (test : Nat) : State :=
  let s1 := (s.levelSource 0x3A 2 true 0xE2).setReadyBits 0x3A (fun w => setFlag (setFlag w 0 false) 2 true)
  let s2 := (s1.updRg 0x3A 0x064 (fun w => setField (setFlag w 0 false) 15 8 test)).secLog 3 0 0 7
  s2.faultRec 0x1A 0x3A test

/-- Every key slot, the DRBG and the working memory overwritten (R520). -/
def State.zeroiseCrib (s : State) (master : Nat) : State :=
  let s1 := s.updCrib (fun c => { c with keys := [], zeroised := true, drbg := false })
  ((s1.secLog 2 0 0 master).cribEv 1).cribEv 4

/-- The key material of an AES slot that has a USAGE bit; none for any other slot (R505, R506). -/
def State.aesKey (s : State) (n bitNo : Nat) : Option (List Byte) :=
  let k := s.key n
  if (k.typ = 1 || k.typ = 2) && k.usage.getLsbD bitNo then some k.secret else none

/-- The key an internal request of the link engine uses: AES with INTERNAL (R506, R513). -/
def State.linkKey (s : State) (n : Nat) : Option (List Byte) := if s.cribUp then s.aesKey n 7 else none

/-- What is kept of a password: the first 128 bits of its HMAC under the device storage key, as four words,
least significant first (R513). -/
def storedPassword (l : List Word) : List Word :=
  bytesWords' ((hmac false (bytesBE 32 Config.storageKey.toNat) (l.flatMap (fun w => bytesLE 4 w.toNat))).take 16)
where
  /-- Words of bytes, least significant byte first. -/
  bytesWords' : List Byte → List Word
    | a :: b :: c :: d :: rest => BitVec.ofNat 32 (natLE [a, b, c, d]) :: bytesWords' rest
    | _ => []

/-- A request that failed to authenticate: 0 password, 1 VERIFY, 2 CMAC (R526, R529). -/
def State.authFail (s : State) (what slot master : Nat) : State := (s.secLog 9 what slot master).cribEv 5

end Sys2Proof.Machine
end

