-- ==== Sys2Proof/Machine/Flash.lean ====
section
/-!
DEFINITION. The flash array and the option area (chapter 13): reads, programs, erases and the journal,
the log writer, refresh, the rotating window, protection, and the option groups.
-/
namespace Sys2Proof.Machine

/-! ### The option copies (R299) -/

/-- The words a copy's CRC covers up to the last listed calibration word: groups A, B and C, then the calibration data. -/
def OptionCopy.areaWords (c : OptionCopy) : List Word := (List.range 24).map (Tab.get factoryWord c.words) ++ c.calib

/-- The CRC-32 of a copy's codewords 1 to 127, 1,016 words; calibration words past the listed ones are 0 (R299). -/
def OptionCopy.areaCrc (c : OptionCopy) : Word :=
  let l := c.areaWords.take 1016
  BitVec.ofNat 32 (crc32End (crc32Zeros (4 * (1016 - l.length)) (crc32Run 0xFFFFFFFF (wordsBytes l))))

/-- A copy is valid when its header word and its CRC are both correct (R299). -/
def OptionCopy.valid (c : OptionCopy) : Bool := c.header == 0x96400F0A && c.crc == c.areaCrc

/-! ### Addressing -/

/-- The bank of an addressed sector, 0 to 1,023 (R280). -/
def sectorBank (n : Nat) : Nat := if n < 256 then 0 else if n < 512 then 1 else 2

/-- The bank of a codeword. -/
def cwBank (cw : Nat) : Nat := sectorBank (cw / 512)

/-- The first sector of a bank. -/
def bankFirst (b : Nat) : Nat := 256 * b

/-- The page of a codeword within its bank (R280). -/
def cwPage (cw : Nat) : Nat := cw / 16 - bankFirst (cwBank cw) * 32

/-- The window size in effect, 0 for no window (R297). -/
def State.rotW (s : State) : Nat := field (s.rg 0x1E 0x068) 4 0

/-- Whether a sector is an unmapped window slot (R297). -/
def State.unmapped (s : State) (n : Nat) : Bool :=
  s.rotW != 0 && decide (512 + s.rotW ≤ n) && decide (n < 992)

/-- Whether a sector is a window slot in use. -/
def State.windowSlot (s : State) (n : Nat) : Bool := decide (512 ≤ n) && decide (n < 512 + s.rotW)

/-- The physical sector an addressed sector is mapped to. -/
def State.physSector (s : State) (n : Nat) : Nat := Tab.get (fun k => k) s.flash.map n

/-- The physical codeword of a codeword. -/
def State.physCw (s : State) (cw : Nat) : Nat := s.physSector (cw / 512) * 512 + cw % 512

/-- Whether a codeword carries its programmed marker (R281). -/
def State.marked (s : State) (cw : Nat) : Bool :=
  !s.unmapped (cw / 512) && Tab.get (fun _ => false) s.flash.marks (s.physCw cw)

/-- What an erased byte of flash reads as (R281). -/
def flashDefault (_ : Nat) : Byte := 0xFF

/-- The memories are held in canonical form: SRAM and the flash array. -/
def Memory.wf (s : State) : Bool := Tab.wf sramDefault s.gran.sram && Tab.wf flashDefault s.flash.cells

/-- The journal entry of a codeword's sector, and whether it is ERASE_CUT. -/
def State.eraseCut (s : State) (cw : Nat) : Bool :=
  s.flash.journal.any (fun e =>
    e.phys.isNone && e.kind == 1 && e.bank == cwBank cw && e.page / 32 == cwPage cw / 32)

/-- Whether a sector has a journal entry (R288). -/
def State.journalled (s : State) (n : Nat) : Bool :=
  s.flash.journal.any (fun e =>
    e.phys.isNone && e.bank == sectorBank n && e.page / 32 == n - bankFirst (sectorBank n))

/-! ### Registers that follow the state -/

/-- Clean spares of a bank: four less the dirty ones and those a sector is mapped to, plus the sectors
that maps have left clean (R295, R296). -/
def State.spareList (s : State) (b : Nat) : List Nat :=
  let used := s.flash.map.map (·.2) ++ s.flash.refreshes.map (·.target)
  let own := (List.range 4).map (1024 + 4 * b + ·)
  let left := (s.flash.map.filter (fun e => sectorBank e.1 == b && !(s.windowSlot e.1))).map (·.1)
  (own ++ left).filter (fun p => !used.contains p && !s.flash.dirty.contains p)

/-- Clean pool sectors of the window (R297). -/
def State.poolList (s : State) : List Nat :=
  if s.rotW = 0 then []
  else
    let used := (List.range s.rotW).map (fun k => s.physSector (512 + k)) ++ s.flash.refreshes.map (·.target)
    ((List.range 480).map (512 + ·)).filter (fun p => !used.contains p && !s.flash.dirty.contains p)

/-- READY.DEGRADED of FLASH and its levels (R288, R296, R305). -/
def State.refreshFlash (s : State) : State :=
  let s1 := ((s.evLevel 0x1E 2 (!s.flash.journal.isEmpty)).evLevel 0x1E 3 (flag (s.rg 0x1E 0x094) 4)).evLevel 0x1E 5
    s.flash.log.halted
  s1.setDegraded 0x1E
    (!s1.flash.journal.isEmpty || s1.flash.log.halted || decide (s1.flash.weak.length ≥ 16)
      || [0, 1, 2].any (fun b => (s1.spareList b).isEmpty))

/-- A change of the flash state. -/
def State.updFlash (s : State) (f : FlashState → FlashState) : State := { s with flash := f s.flash }

/-- A change of the log writer's state. -/
def State.updLog (s : State) (f : LogWriter → LogWriter) : State :=
  s.updFlash (fun x => { x with log := f x.log })

/-! ### Reading -/

/-- A read with CBITS at or above WEAK_TH, or an uncorrectable one, enters the weak list, unless it is listed
or the list is full; an uncorrectable read marks a listed codeword (R295, R296, R538). -/
def State.noteWeak (s : State) (cw cbits : Nat) (ue : Bool) : State :=
  let th := field (s.rg 0x1E 0x048) 1 0
  if s.flash.weak.any (fun e => e.codeword == cw) then
    s.updFlash (fun x => { x with weak := x.weak.map (fun e =>
      if e.codeword = cw then { e with ue := e.ue || ue } else e) })
  else if th = 0 || (!ue && cbits < th) then s
  else if s.flash.weak.length ≥ 16 then s.updRg 0x1E 0x06C (fun w => satField w 15 8 1)
  else
    (((s.updFlash (fun x => { x with weak := x.weak ++ [{ codeword := cw, cbits := cbits, ue := ue }] })).updRg
      0x1E 0x06C (fun w => satField w 4 0 1)).evPulse 0x1E 0).refreshFlash

/-- A read recorded: LAST_RD of the reading master, CBCNT, the weak list (R282, R295). -/
def State.noteRead (s : State) (who : Option Master) (cw cbits : Nat) (ue : Bool) : State :=
  let s1 :=
    match who with
    | some m => s.setOwn1 m 0x1E 0x098 (pack [(0, 19, cw), (19, 2, cbits), (21, 1, bit ue), (31, 1, 1)])
    | none => s
  let s2 := if ue then ((s1.updRg 0x1E 0x09C (fun w => satField w 31 16 1)).evPulse 0x1E 1).faultRec 0x0C 0x1E (cwBank cw)
    else if cbits ≥ 1 then s1.updRg 0x1E 0x09C (fun w => satField w 15 0 1) else s1
  s2.noteWeak cw cbits ue

/-- The array's bytes of a codeword. -/
def State.cwBytes (s : State) (cw : Nat) : List Byte :=
  if s.unmapped (cw / 512) then List.replicate 32 0xFF
  else (List.range 32).map (fun i => Tab.get flashDefault s.flash.cells (s.physCw cw * 32 + i))

/-- A physical codeword programmed: its bytes, its marker, and no bit errors (R281). -/
def FlashState.putPhys (x : FlashState) (p : Nat) (l : List Byte) : FlashState :=
  { x with
    cells := l.zipIdx.foldl (fun t (b, i) => Tab.set flashDefault t (p * 32 + i) b) x.cells
    marks := Tab.set (fun _ => false) x.marks p true
    health := Tab.set (fun _ => 0) x.health p 0 }

/-- A codeword programmed. -/
def State.putCw (s : State) (cw : Nat) (l : List Word) : State :=
  s.updFlash (fun x => x.putPhys (s.physCw cw) (wordsBytes l))

/-- Codewords programmed one after another. -/
def State.putCws (s : State) : Nat → List Word → Nat → State
  | _, _, 0 => s
  | cw, l, n + 1 => (s.putCw cw (l.take 8)).putCws (cw + 1) (l.drop 8) n

/-- How many codewords a program has programmed a time after it began, at 12 µs each; one whose programming has begun
counts where `begun` (R285). -/
def WriteRun.written (r : WriteRun) (at_ : Stamp) (begun : Bool) : Nat :=
  let t := (at_ - r.since).toNat
  min r.count (if begun then (t + usTime 12 - 1) / usTime 12 else t / usTime 12)

/-- A read of the bank a program runs on is served between codewords: those it has programmed by then, the one under way
among them, are in the array (R285; DEDUCED, log entry 1302). -/
def State.betweenCws (s : State) : State :=
  match s.flash.run with
  | some r => if r.erase then s else s.putCws r.codeword r.data (r.written s.now true)
  | none => s

/-- One codeword read (R282): its bytes, none when it is uncorrectable. Where a program was cut off, or
four or more bits are wrong, what the read finds is a free value (R281, R288). -/
def State.flashRead (s0 : State) (who : Option Master) (cw : Nat) : State × Option (List Byte) :=
  let s := s0.betweenCws
  if s.unmapped (cw / 512) then (s.noteRead who cw 0 false, some (List.replicate 32 0xFF))
  else
    let h := if s.eraseCut cw then 3 else Tab.get (fun _ => 0) s.flash.health (s.physCw cw)
    if h ≤ 2 then (s.noteRead who cw h false, some (s.cwBytes cw))
    else if h = 3 then (s.noteRead who cw 0 true, none)
    else
      let (w, s1) := s.draw
      let found := field w 1 0
      if found = 3 then (s1.noteRead who cw 0 true, none)
      else if h = 5 then (s1.noteRead who cw found false, some (s1.cwBytes cw))
      else
        let (s2, l) := s1.freeBytes 32
        (s2.noteRead who cw found false, some l)

/-- The word at a flash address. -/
def State.flashWord (s : State) (who : Option Master) (a : Nat) : State × Option Word :=
  match s.flashRead who (a / 32) with
  | (s1, none) => (s1, none)
  | (s1, some l) => (s1, some (BitVec.ofNat 32 (natLE ((l.drop (a % 32)).take 4))))

/-- n codewords read one after another, each once: the bytes up to the first uncorrectable one, and whether all were
read (R282). -/
def State.flashCws (s : State) (who : Option Master) : Nat → Nat → State × List Byte × Bool
  | _, 0 => (s, [], true)
  | cw, n + 1 =>
    match s.flashRead who cw with
    | (s1, none) => (s1, [], false)
    | (s1, some b) =>
      let (s2, l, ok) := s1.flashCws who (cw + 1) n
      (s2, b ++ l, ok)

/-- n words from a flash address up, each codeword of them read once; up to the first uncorrectable codeword the words
before it (R282). -/
def State.flashWords (s : State) (who : Option Master) (a n : Nat) : State × List Word × Bool :=
  let (s1, l, ok) := s.flashCws who (a / 32) ((a % 32 + 4 * n + 31) / 32)
  (s1, (bytesWords (l.drop (a % 32))).take n, ok)

/-- n bytes from a flash address up; none at an uncorrectable codeword. -/
def State.flashBytes (s : State) (who : Option Master) (a n : Nat) : State × Option (List Byte) :=
  let first := a / 4 * 4
  match s.flashWords who first ((a % 4 + n + 3) / 4) with
  | (s1, l, true) => (s1, some (((wordsBytes l).drop (a % 4)).take n))
  | (s1, _, false) => (s1, none)

/-! ### Busy banks (R284, R285) -/

/-- The bank of a physical sector. -/
def physBank (p : Nat) : Nat := if p < 1024 then sectorBank p else (p - 1024) / 4

/-- The bank of a program or erase. -/
def WriteRun.bank (r : WriteRun) : Nat := if r.spare then physBank (r.codeword / 512) else cwBank r.codeword

/-- The bank an erase runs on, if one does. -/
def State.busyBank (s : State) : Option Nat := (s.flash.run.filter (·.erase)).map (·.bank)

/-- Whether a read of n bytes from a flash address up meets a bank on which an erase runs: it waits until that ends. A
bank that is programmed serves it between codewords (R284, R285; DEDUCED, log entry 1302). -/
def State.flashBusy (s : State) (a n : Nat) : Bool :=
  match s.busyBank with
  | some b => n != 0 && decide (sectorBank (a / 16384) ≤ b) && decide (b ≤ sectorBank ((a + n - 1) / 16384))
  | none => false

/-! ### Sources of the LOAD operations -/

/-- Whether n words from an address up may be a LOAD's source: word-aligned, inside the array or a region. -/
def State.sourceOk (s : State) (flash : Bool) (a n : Nat) : Bool :=
  if flash then a % 4 == 0 && decide (a + 4 * n ≤ 0x1000000) else s.winInside a n

/-- n words of a LOAD's source: the words up to the first uncorrectable one, and whether all were read. -/
def State.sourceWords (s : State) (flash near : Bool) (a n : Nat) : State × List Word × Bool :=
  if flash then s.flashWords none a n
  else
    match n with
    | 0 => (s, [], true)
    | k + 1 =>
      match s.winRead near a with
      | (s1, .got v) =>
        let (s2, l, ok) := s1.sourceWords false near (a + 4) k
        (s2, v :: l, ok)
      | (s1, _) => (s1, [], false)

/-! ### Writing cells -/

/-- A physical sector erased: bytes, markers and bit errors. -/
def FlashState.wipe (x : FlashState) (p : Nat) : FlashState :=
  { x with
    cells := Tab.keep (fun a => a / 16384 != p) x.cells
    marks := Tab.keep (fun c => c / 512 != p) x.marks
    health := Tab.keep (fun c => c / 512 != p) x.health }

/-- A refresh of a sector is given up: the spare it was copied to becomes dirty, the sector stays mapped as it was
(R295). -/
def FlashState.abandonRefresh (x : FlashState) (n : Nat) : FlashState :=
  { x with
    dirty := x.dirty ++ (x.refreshes.filter (fun r => r.sector == n)).map (·.target)
    refreshes := x.refreshes.filter (fun r => r.sector != n) }

/-- Lines of the prefetch buffer and the branch cache in a range of codewords are invalidated (R283). -/
def FlashState.dropLines (x : FlashState) (cw n : Nat) : FlashState :=
  let out (e : FlashLine) : Bool := !(decide (cw ≤ e.codeword) && decide (e.codeword < cw + n))
  { x with prefetch := x.prefetch.filter out, branch := x.branch.filter out }

/-- A program or erase starts: its journal record opens, the lines in its range are invalidated, and a refresh of its
sector is given up (R283, R288, R295). -/
def FlashState.openRun (x : FlashState) (r : WriteRun) : FlashState :=
  if r.spare then { x with run := some r }
  else { (x.dropLines r.codeword r.count).abandonRefresh (r.codeword / 512) with run := some r }

/-- What a reset that reaches FLASH, or the loss of its power, ends: the writer and the device's own work, refreshes
under way, both line stores (R283, R294, R295, R305). -/
def FlashState.cutWork (x : FlashState) : FlashState :=
  { x with
    dirty := x.dirty ++ x.refreshes.map (·.target), refreshes := [], refreshing := none, spare := none
    weak := [], log := {}, confirming := none, prefetch := [], branch := [], lastFetch := none }

/-- The journal entries of a sector removed once an erase of it completes (R288). -/
def FlashState.dropJournal (x : FlashState) (n : Nat) : FlashState :=
  { x with journal := x.journal.filter (fun e =>
      !(e.phys.isNone && e.bank == sectorBank n && e.page / 32 == n - bankFirst (sectorBank n))) }

/-- The journal entry of a dirty sector removed once it is erased (R288). -/
def FlashState.dropPhys (x : FlashState) (p : Nat) : FlashState :=
  { x with journal := x.journal.filter (fun e => e.phys != some p) }

/-! ### Checks of a program or erase -/

/-- A region whose PROT bit is set and that is not unlocked refuses a write (R298). -/
def State.protects (s : State) (a : Nat) : Bool :=
  let r := a / 0x40000
  let prot := if r < 32 then flag (s.optWord 17) r else flag (s.optWord 18) (r - 32)
  let open_ := if r < 32 then flag (s.rg 0x1E 0x08C) r else flag (s.rg 0x1E 0x090) (r - 32)
  prot && !open_

/-- Whether a bank is the one the core fetches from (R287). -/
def State.fetchesFrom (s : State) (b : Nat) : Bool := s.core.fetch == some b

/-- The checks a program of n codewords passes before any is written, in the order of the operation's table; every
program to an ERASE_CUT sector is INCOMPLETE, whatever markers its codewords had (R286 to R288, R298, R303). -/
def State.programCheck (s : State) (cw n : Nat) : Option Code :=
  let cws := (List.range n).map (cw + ·)
  if s.protects (32 * cw) then some .security
  else if cws.any s.eraseCut then some .incomplete
  else if cws.any s.marked then some .progTwice
  else if s.fetchesFrom (cwBank cw) then some .sameBank
  else if s.flash.journal.length ≥ 32 && !s.journalled (cw / 512) then some .busy
  else none

/-- The checks of an erase of sector n. -/
def State.eraseCheck (s : State) (n : Nat) : Option Code :=
  if s.protects (16384 * n) then some .security
  else if s.fetchesFrom (sectorBank n) then some .sameBank
  else if s.flash.journal.length ≥ 32 && !s.journalled n then some .busy
  else none

/-! ### Operations of the FLASH page at their start (R287, R288) -/

/-- The data an accepted writer operation programs: the words of the first `n` codewords it still has. -/
def LogWriter.front (l : LogWriter) (n : Nat) : List Word := (l.todo.take n).flatMap (·.words)

/-- PROGRAM reaches FLASH: checked, and a journal record opened. -/
def State.programBegin (s : State) (tag : Nat) : State :=
  let k := s.slot tag
  let a := (k.arg 0).toNat
  let n := field (k.arg 2) 4 0
  let logs := match s.flash.log.slot with | some (t, _) => t.toNat == tag | none => false
  if a % 32 != 0 || n = 0 || n > 16 || a / 512 != (a + 32 * n - 1) / 512 || a ≥ 0x1000000
      || s.unmapped (a / 16384) || (!logs && !s.winInside (k.arg 1).toNat (8 * n)) then s.setResult tag .arg
  else if !s.ready 0x1E then s.setResult tag .notReady
  else
    match s.programCheck (a / 32) n with
    | some c => s.setResult tag c
    | none =>
      let (s1, got) : State × Except Code (List Word) :=
        if logs then (s, .ok (s.flash.log.front n)) else s.winReads false (k.arg 1).toNat (8 * n)
      match got with
      | .error c => s1.setResult tag c
      | .ok l =>
        let r : WriteRun :=
          { tag := BitVec.ofNat 7 tag, codeword := a / 32, count := n, data := l, since := s1.now }
        s1.updFlash (fun x => x.openRun r)

/-- The device's erase of a dirty sector reaches FLASH; one refused is submitted again later (R287, R288, R296). -/
def State.spareBegin (s : State) (tag p : Nat) : State :=
  let refuse (c : Code) : State := (s.updFlash (fun x => { x with spare := none })).setResult tag c
  if !s.ready 0x1E then refuse .notReady
  else if s.fetchesFrom (physBank p) then refuse .sameBank
  else if s.flash.journal.length ≥ 32 && !s.flash.journal.any (fun e => e.phys == some p) then refuse .busy
  else
    let r : WriteRun :=
      { tag := BitVec.ofNat 7 tag, erase := true, spare := true, codeword := 512 * p, count := 512, since := s.now }
    s.updFlash (fun x => x.openRun r)

/-- ERASE reaches FLASH. -/
def State.eraseBegin (s : State) (tag : Nat) : State :=
  let a := ((s.slot tag).arg 0).toNat
  match s.flash.spare.filter (fun e => e.1.toNat == tag) with
  | some e => s.spareBegin tag e.2
  | none =>
    if a % 16384 != 0 || a ≥ 0x1000000 || s.unmapped (a / 16384) then s.setResult tag .arg
    else if !s.ready 0x1E then s.setResult tag .notReady
    else
      match s.eraseCheck (a / 16384) with
      | some c => s.setResult tag c
      | none =>
        let r : WriteRun :=
          { tag := BitVec.ofNat 7 tag, erase := true, codeword := a / 32, count := 512, since := s.now
            wipes := s.windowSlot (a / 16384) && s.poolList.isEmpty }
        s.updFlash (fun x => x.openRun r)

/-- An operation of the FLASH page reaches its block. -/
def State.flashBegin (s : State) (tag : Nat) : State :=
  match (s.slot tag).op.toNat with
  | 1 => s.programBegin tag
  | 2 => s.eraseBegin tag
  | _ => s

/-! ### The log writer (R290 to R294) -/

/-- LOGCFG: the first ring sector and the number of sectors. -/
def State.logFirst (s : State) : Nat := field (s.rg 0x1E 0x04C) 8 0
def State.logCount (s : State) : Nat := field (s.rg 0x1E 0x04C) 25 16

/-- The next page and codeword of the stream (LOGPOS). -/
def State.logPage (s : State) : Nat := field (s.rg 0x1E 0x058) 13 0
def State.logCw (s : State) : Nat := field (s.rg 0x1E 0x058) 19 16

/-- The stream's position moved. -/
def State.setLogPos (s : State) (page cw : Nat) : State :=
  s.setRg 0x1E 0x058 (pack [(0, 14, page), (16, 4, cw)])

/-- The page after a page of the ring, wrapping from the last sector to FIRST. -/
def State.ringNext (s : State) (page : Nat) : Nat :=
  if page + 1 ≥ (s.logFirst + s.logCount) * 32 then s.logFirst * 32 else page + 1

/-- A LOG_PAGE record (R292). -/
def State.logRecord (s : State) (reason page cw : Nat) : State :=
  s.place 8 reason 0 2 0 (pack [(0, 14, page), (16, 4, cw)])

/-- The ring sector after a sector, wrapping from the last to FIRST. -/
def State.sectorNext (s : State) (n : Nat) : Nat :=
  if n + 1 ≥ s.logFirst + s.logCount then s.logFirst else n + 1

/-- A codeword assigned to the stream's position: a page's first one opens the page, and the first in a sector
makes the next ring sector due for erase (R292, R294). -/
def State.assign (s : State) (words : List Word) (commit : Bool) : State :=
  let page := s.logPage
  let cw := s.logCw
  let s1 := if cw = 0 && !commit then s.logRecord 1 page cw else s
  let s2 :=
    if s1.flash.log.entered != some (page / 32) then
      s1.updLog (fun l => { l with entered := some (page / 32), sector := some (s1.sectorNext (page / 32)) })
    else s1
  let s3 := s2.updLog (fun l => { l with
    todo := l.todo ++ [{ page := page, cw := cw, words := words, commit := commit }] })
  if cw + 1 < 16 then s3.setLogPos page (cw + 1) else s3.setLogPos (s3.ringNext page) 0

/-- The full codewords of the buffer assigned to the stream. -/
def State.assignFull (s : State) : Nat → State
  | 0 => s
  | n + 1 =>
    if s.flash.log.buf.length < 8 then s
    else
      let w := s.flash.log.buf.take 8
      ((s.updLog (fun l => { l with buf := l.buf.drop 8 })).assign w false).assignFull n

/-- How many of the writer's first codewords one program can carry: consecutive ones of one page. -/
def runLength : List LogWord → Nat
  | [] => 0
  | e :: rest =>
    match rest with
    | [] => 1
    | f :: _ => if f.page == e.page && f.cw == e.cw + 1 && !e.commit then 1 + runLength rest else 1

/-- The writer submits its next program as an agent operation, SRC 6, unless it waits: for its last one,
for an erase, for a slot, or halted (R290, R294). -/
def State.logPump (s : State) : State :=
  let l := s.flash.log
  match l.todo with
  | [] => s
  | e :: _ =>
    let sector := e.page / 32
    if l.slot.isSome || l.halted || l.sector == some sector
        || (match l.erasing with | some t => ((s.slot t.toNat).arg 0).toNat / 16384 == 512 + sector | none => false)
    then s
    else
      let n := runLength l.todo
      let a := 0x800000 + e.page * 512 + e.cw * 32
      match s.agentQueue 6 0x1E 1 [BitVec.ofNat 32 a, 0, BitVec.ofNat 32 n] with
      | none => s
      | some (tag, s1) => s1.updLog (fun l => { l with slot := some (BitVec.ofNat 7 tag, n) })

/-- The writer's program has ended: its codewords are in flash, a commit is counted, and the next program
goes out; after SECURITY the writer halts (R291, R294). -/
def State.logEnd (s : State) (n : Nat) (c : Code) : State :=
  let s1 := s.updLog (fun l => { l with slot := none })
  if c = .done then
    let done := s1.flash.log.todo.take n
    let s2 := s1.updLog (fun l => { l with todo := l.todo.drop n })
    let s3 := if done.any (·.commit) then (s2.updRg 0x1E 0x05C (fun w => w + 1)).evPulse 0x1E 4 else s2
    s3.logPump
  else if c = .security then (s1.updLog (fun l => { l with halted := true })).refreshFlash
  else s1

/-- A program finishes: all its codewords written, no line of the stores holds what one of them read before, the record
closed (R283, R285, R288). -/
def State.programEnd (s : State) (tag : Nat) (r : WriteRun) : State :=
  let s1 := ((s.putCws r.codeword r.data r.count).updFlash (fun x =>
    { (x.dropLines r.codeword r.count) with run := none })).setResult tag .done
  match s1.flash.log.slot with
  | some (t, n) => if t.toNat = tag then s1.logEnd n .done else s1
  | none => s1

/-- The erase of a dirty sector finishes: it is clean again (R296). -/
def State.spareEnd (s : State) (tag : Nat) (r : WriteRun) : State :=
  let p := r.codeword / 512
  ((s.updFlash (fun x =>
    { ((x.wipe p).dropPhys p) with run := none, spare := none, dirty := x.dirty.filter (· != p) })).setResult tag .done).refreshFlash

/-- The pool sector a window slot takes at its ERASE: the next clean one in rotation, else the next dirty one, which is
erased first. One that a refresh fills is neither (R295, R297). -/
def State.poolNext (s : State) : Option Nat :=
  let used := (List.range s.rotW).map (fun k => s.physSector (512 + k)) ++ s.flash.refreshes.map (·.target)
  let free (p : Nat) : Bool := !used.contains (512 + p)
  let start := (s.flash.pool + 1) % 480
  match firstFrom 480 start (fun p => free p && !s.flash.dirty.contains (512 + p)) with
  | some p => some p
  | none => firstFrom 480 start free

/-- An erase finishes; a window slot takes its next pool sector, and the sector it leaves becomes dirty (R285, R288,
R297). -/
def State.eraseEnd (s : State) (tag : Nat) (r : WriteRun) : State :=
  let n := r.codeword / 512
  let s1 :=
    if s.windowSlot n then
      match s.poolNext with
      | none => s
      | some p =>
        let old := s.physSector n
        s.updFlash (fun x =>
          { ((x.wipe (512 + p)).dropPhys (512 + p)) with
            map := Tab.set (fun k => k) x.map n (512 + p)
            dirty := x.dirty.filter (· != 512 + p) ++ [old]
            pool := p })
    else s.updFlash (fun x => x.wipe (s.physSector n))
  let s2 := s1.updFlash (fun x =>
    { (x.dropJournal n) with
      run := none
      log := if x.log.erasing == some (BitVec.ofNat 7 tag) then { x.log with erasing := none } else x.log })
  (s2.refreshFlash.setResult tag .done).logPump

/-- The code an agent operation of the writer ended with other than DONE is acted on; a ring sector whose erase was
refused stays due (R294). -/
def State.logFailed (s : State) (tag : Nat) (c : Code) : State :=
  if s.flash.log.erasing == some (BitVec.ofNat 7 tag) then
    s.updLog (fun l => { l with erasing := none, sector := some (((s.slot tag).arg 0).toNat / 16384 - 512) })
  else
    match s.flash.log.slot with
    | some (t, n) => if t.toNat = tag then s.logEnd n c else s
    | none => s

/-- Whether a queue's head packet is whole: up to its single or last item (R238, R290). -/
def packetLen : List QItem → Option Nat
  | [] => none
  | e :: rest =>
    if field e.word 30 29 = 0 || field e.word 30 29 = 3 then some 1
    else match packetLen rest with | some n => some (n + 1) | none => none

/-- The lowest-numbered enabled queue with CONS 5 that holds a whole packet. -/
def State.logSource (s : State) : Option Nat :=
  (List.range 32).find? (fun n =>
    n != 0 && qEn (s.qcfg n) && qCons (s.qcfg n) == 5 && (packetLen (s.queue n).items).isSome)

/-- n items popped from a queue, as a consumer of the device pops them. -/
def State.popItems (s : State) (q : Nat) : Nat → State × List Word
  | 0 => (s, [])
  | n + 1 =>
    let (s1, w) := s.popLogged q
    let (s2, l) := s1.popItems q n
    (s2, w :: l)

/-- Whether the writer works: FLASH up, enabled, at its place after the start, not halted, LOG region present. -/
def State.logRuns (s : State) : Bool :=
  s.flashUp && flag (s.rg 0x1E 0x054) 0 && s.flash.log.resumed && !s.flash.log.halted && (s.region 1).isSome

/-- A packet is popped whole and appended behind its header word; while FLASH's clock is gated the packets wait in their
queue (R18, R290). -/
def State.logAppend (s : State) : State :=
  if !s.logRuns || s.clock .flash != .full || s.flash.log.due || !s.granaryUp then s
  else if !s.flash.log.todo.isEmpty then s.logPump
  else
    match s.logSource with
    | none => s
    | some q =>
      let n := (packetLen (s.queue q).items).getD 0
      let (s1, items) := s.popItems q n
      let words := pack [(0, 16, n), (23, 5, q), (28, 4, 0xA)] :: items
      let pend := min (field (s1.rg 0x1E 0x060) 15 0 + 1) 65535
      let s2 := (s1.updLog (fun l => { l with
        buf := l.buf ++ words
        crc := BitVec.ofNat 32 (crc32Run l.crc.toNat (wordsBytes words))
        count := l.count + words.length
        first := match l.first with | none => some s1.now | some t => some t
        due := l.due || decide (pend ≥ field (s1.rg 0x1E 0x050) 31 16) })).setRg 0x1E 0x060
          (BitVec.ofNat 32 pend)
      (s2.assignFull (words.length + 8)).logPump

/-- A commit is placed: the partial codeword padded, then the commit codeword in an odd page, and the
stream resumes at the next wordline (R291, R292). -/
def State.logCommit (s : State) : State :=
  if !s.logRuns || !s.flash.log.due then s
  else if !s.flash.log.todo.isEmpty then s.logPump
  else
    let buf := s.flash.log.buf
    let s1 := if buf.isEmpty then s
      else (s.updLog (fun l => { l with buf := [] })).assign
        (buf ++ List.replicate (8 - buf.length) 0xFFFFFFFF) false
    let l := s1.flash.log
    let words : List Word :=
      [ 0xC3000000, s1.rg 0x1E 0x05C + 1, BitVec.ofNat 32 l.count, BitVec.ofNat 32 (crc32End l.crc.toNat),
        loWord s1.now, hiWord s1.now, 0xFFFFFFFF, 0xFFFFFFFF ]
    let s2 :=
      if s1.logPage % 2 = 0 then (s1.logRecord 3 s1.logPage s1.logCw).setLogPos (s1.logPage + 1) 0 else s1
    let page := s2.logPage
    let s3 := (s2.logRecord 2 page s2.logCw).assign words true
    let s4 := (s3.setLogPos (s3.ringNext page) 0).setRg 0x1E 0x060 0
    (s4.updLog (fun l => { l with crc := 0xFFFFFFFF, count := 0, first := none, due := false })).logPump

/-- Whether a page's wordline is clean: no codeword of it programmed, and no journal entry, which names an erased
sector or a page with its pair (R288, R294). -/
def State.wordlineClean (s : State) (page : Nat) : Bool :=
  let first := 0x800000 / 32 + page / 2 * 32
  (List.range 32).all (fun i => !s.marked (first + i))
  && !s.flash.journal.any (fun e =>
    e.phys.isNone && e.bank == 2 && (if e.kind == 1 then e.page / 32 == page / 32 else e.page / 2 == page / 2))

/-- Whether a data-bank sector is erased (R294). -/
def State.sectorErased (s : State) (n : Nat) : Bool :=
  (List.range 16).all (fun k => s.wordlineClean (32 * n + 2 * k))

/-- Whether a codeword can be read whole by the search for commits: one that a cut-off program or four or more bit
errors left is no commit (DESIGN CHOICE, log entry 1301). -/
def State.cwSound (s : State) (cw : Nat) : Bool :=
  let h := Tab.get (fun _ => 0) s.flash.health (s.physCw cw)
  s.marked cw && !s.eraseCut cw && h != 3 && h != 4

/-- The newest commit codeword of the ring: page and sequence (R294). -/
def State.newestCommit (s : State) : Option (Nat × Word) :=
  let first := s.logFirst * 32
  let pages := (List.range (s.logCount * 32)).map (first + ·)
  pages.foldl
    (fun best page =>
      (List.range 16).foldl
        (fun best i =>
          let cw := 0x800000 / 32 + page * 16 + i
          if !s.cwSound cw then best
          else
            let w := bytesWords (s.cwBytes cw)
            if w.getD 0 0 = 0xC3000000 && w.getD 6 0 = 0xFFFFFFFF && w.getD 7 0 = 0xFFFFFFFF then
              match best with
              | none => some (page, w.getD 1 0)
              | some (_, q) => if (w.getD 1 0).toNat ≥ q.toNat then some (page, w.getD 1 0) else best
            else best) best) none

/-- At a start the writer finds the newest commit and the first clean wordline after it (R294). The next ring sector is
due for erase again where its erase had not completed; with no clean wordline in the ring, the one after the newest
commit's is erased first (DEDUCED, log entry 1301). -/
def State.logResume (s : State) : State :=
  if !s.flashUp || !flag (s.rg 0x1E 0x054) 0 || s.flash.log.resumed then s
  else
    let lines := s.logCount * 16
    let first := s.logFirst * 16
    let (start, seq) : Nat × Word :=
      match s.newestCommit with
      | some (p, q) => (p / 2 + 1 - first, q)
      | none => (0, 0)
    match firstFrom lines (start % lines) (fun k => s.wordlineClean (2 * (first + k))) with
    | none =>
      let at_ := match s.newestCommit with | some (p, _) => p / 32 | none => s.logFirst
      if s.flash.log.erasing.isSome then s else s.updLog (fun l => { l with sector := some (s.sectorNext at_) })
    | some k =>
      let page := 2 * (first + k)
      let n := page / 32
      let enters := page % 32 == 0
      ((s.setLogPos page 0).setRg 0x1E 0x05C seq).updLog (fun l => { l with
        resumed := true, entered := if enters then none else some n
        sector := if enters || s.sectorErased (s.sectorNext n) then l.sector else some (s.sectorNext n) })

/-- The next ring sector's erase goes out as an agent operation (R294). -/
def State.logErase (s : State) : State :=
  match s.flash.log.sector with
  | none => s
  | some n =>
    if s.flash.log.erasing.isSome || !s.flashUp then s
    else
      match s.agentQueue 6 0x1E 2 [BitVec.ofNat 32 (0x800000 + n * 16384)] with
      | none => s
      | some (tag, s1) =>
        s1.updLog (fun l => { l with sector := none, erasing := some (BitVec.ofNat 7 tag) })

/-- A write of LOGCTL: EN, which also lifts a halt, and FLUSH (R291, R294, R305). -/
def logctlEffect (v : Word) (s : State) : State × Code :=
  let s1 := (s.setRg 0x1E 0x054 (v &&& 1)).updLog (fun l => { l with
    halted := false, due := l.due || flag v 1 })
  (s1.refreshFlash.logPump, .done)

/-- A write of LOGCFG (R294). -/
def logcfgEffect (v : Word) (s : State) : State × Code :=
  let first := field v 8 0
  let count := field v 25 16
  if flag (s.rg 0x1E 0x054) 0 then (s, .state)
  else if count < 2 || first + count > 512 then (s, .arg)
  else if s.rotW != 0 && first < 480 then (s, .arg)
  else ((s.setRg 0x1E 0x04C (v &&& 0x03FF01FF)).updLog (fun l => { l with resumed := false }), .done)

/-! ### Refresh -/

/-- The programmed codewords of a page of an addressed sector. -/
def State.programmed (s : State) (n page : Nat) : List Nat :=
  ((List.range 16).map (n * 512 + page * 16 + ·)).filter s.marked

/-- Reads every codeword of a list, corrected; none where one is uncorrectable. -/
def State.readAll (s : State) : List Nat → State × Option (List (Nat × List Byte))
  | [] => (s, some [])
  | cw :: rest =>
    match s.flashRead none cw with
    | (s1, none) => (s1, none)
    | (s1, some l) =>
      match s1.readAll rest with
      | (s2, some r) => (s2, some ((cw, l) :: r))
      | (s2, none) => (s2, none)

/-- Where a sector's refresh goes: a clean spare of its bank, or a clean pool sector for the window. -/
def State.refreshTarget (s : State) (n : Nat) : Option Nat :=
  if s.windowSlot n then s.poolList.head? else (s.spareList (sectorBank n)).head?

/-- The refresh of a sector: the one under way, or a new one where a clean spare is. -/
def State.refreshRun (s : State) (n : Nat) (device : Bool) : Option RefreshRun :=
  match s.flash.refreshes.find? (fun r => r.sector == n) with
  | some r => some r
  | none => (s.refreshTarget n).map (fun p => { sector := n, target := p, device := device })

/-- Programmed codewords of a sector copied to its refresh's target. -/
def FlashState.copyWords (x : FlashState) (r : RefreshRun) (l : List (Nat × List Byte)) : FlashState :=
  l.foldl (fun y e => y.putPhys (r.target * 512 + e.1 % 512) e.2) x

/-- The last step of a refresh: the sector's addresses are mapped to the spare, the old sector becomes a dirty spare,
and the sector's weak-list entries go (R295). -/
def State.refreshMap (s : State) (r : RefreshRun) : State :=
  let old := s.physSector r.sector
  let s1 := s.updFlash (fun x =>
    { x with
      map := Tab.set (fun k => k) x.map r.sector r.target
      dirty := x.dirty ++ [old]
      weak := x.weak.filter (fun e => e.codeword / 512 != r.sector)
      refreshes := x.refreshes.filter (fun e => e.sector != r.sector) })
  (s1.updRg 0x1E 0x06C (fun w => satField (setField w 4 0 s1.flash.weak.length) 31 16 1)).refreshFlash

/-- Whether an owner's REFRESH of a sector has copied a page: its bank was compared as it started (R287). -/
def State.refreshOwned (s : State) (k : Slot) (n : Nat) : Bool :=
  k.src != 6 && s.flash.refreshes.any (fun r => r.sector == n && !r.device)

/-- REFRESH (R287, R295, R296, R303): the next page of the sector is copied. An operation of the device's ends with its
page, the owner's with the remap. -/
def refreshEffect (k : Slot) (s : State) : State × Option Code :=
  let n := (k.arg 0).toNat / 16384
  if s.fetchesFrom (sectorBank n) && !s.refreshOwned k n then (s, some .sameBank)
  else if s.journalled n then (s, some .state)
  else
    match s.refreshRun n (k.src == 6) with
    | none => (s.refreshFlash, some .state)
    | some r =>
      match s.readAll (s.programmed n r.page) with
      | (s1, none) => ((s1.updFlash (fun x => x.abandonRefresh n)).refreshFlash, some .state)
      | (s1, some l) =>
        let s2 := s1.updFlash (fun x => x.copyWords r l)
        if r.page ≥ 31 then (s2.refreshMap r, some .done)
        else
          ((s2.updFlash (fun x => { x with
            refreshes := { r with page := r.page + 1, device := k.src == 6 } ::
              x.refreshes.filter (fun e => e.sector != n) })).refreshFlash,
            if k.src == 6 then some .done else none)

/-- Whether a sector with weak codewords may be refreshed: no uncorrectable codeword and no journal entry (R296). -/
def State.refreshable (s : State) (n : Nat) : Bool :=
  !s.journalled n && !s.flash.weak.any (fun e => e.ue && e.codeword / 512 == n)

/-- The next page of the refresh under way, or the first of the oldest weak entry's sector that may be refreshed, goes
out as an agent operation; a bank with no clean spare defers it (R295, R296). -/
def State.weakRefresh (s : State) : State :=
  if !s.flashUp || !flag (s.rg 0x1E 0x048) 2 || s.flash.refreshing.isSome then s
  else
    let next : Option (Nat × Nat) :=
      match s.flash.refreshes.find? (·.device) with
      | some r => some (r.sector, r.page)
      | none =>
        match s.flash.weak.find? (fun e => s.refreshable (e.codeword / 512)) with
        | none => none
        | some e => if (s.refreshTarget (e.codeword / 512)).isSome then some (e.codeword / 512, 0) else none
    match next with
    | none => s
    | some (n, page) =>
      match s.agentQueue 6 0x1E 6 [BitVec.ofNat 32 (16384 * n + 512 * page)] with
      | none => s
      | some (tag, s1) => s1.updFlash (fun x => { x with refreshing := some (BitVec.ofNat 7 tag) })

/-- A dirty spare or pool sector's erase goes out as an agent operation, while its bank is not the core's fetch bank
(R296, R297). Its argument is the physical sector's number times 16 KiB. -/
def State.spareErase (s : State) : State :=
  if !s.flashUp || s.flash.spare.isSome then s
  else
    match s.flash.dirty.find? (fun p => !s.fetchesFrom (physBank p)) with
    | none => s
    | some p =>
      match s.agentQueue 6 0x1E 2 [BitVec.ofNat 32 (16384 * p)] with
      | none => s
      | some (tag, s1) => s1.updFlash (fun x => { x with spare := some (BitVec.ofNat 7 tag, p) })

/-! ### Other operations -/

/-- The master a slot reads flash for, none for an agent (R305, LAST_RD). -/
def slotMaster (k : Slot) : Option Master := masterOf k.src.toNat

/-- COPY (R303). -/
def copyEffect (k : Slot) (s : State) : State × Option Code :=
  let (s1, l, ok) := s.flashWords (slotMaster k) (k.arg 0).toNat (field (k.arg 2) 14 0)
  (s1.winWrites (k.arg 1).toNat l, some (if ok then .done else .integrity))

/-- COPY's arguments: aligned, 1 to 16,384 words, inside the array, no unmapped window slot, and a writable window range
(R297, R303). -/
def State.copyArgs (s : State) (k : Slot) : Bool :=
  let n := field (k.arg 2) 14 0
  (k.arg 0).toNat % 4 == 0 && decide (1 ≤ n) && decide (n ≤ 16384)
  && decide ((k.arg 0).toNat + 4 * n ≤ 0x1000000)
  && !(List.range ((4 * n + 16383) / 16384 + 1)).any (fun i =>
    let sector := (k.arg 0).toNat / 16384 + i
    decide (16384 * sector < (k.arg 0).toNat + 4 * n) && s.unmapped sector)
  && s.winWritable (k.arg 1).toNat n

/-- UNLOCK (R298, R303); the comparison is a request of the Crib, which waits for a SELFTEST to end (R513, R522). -/
def unlockEffect (k : Slot) (s : State) : State × Option Code :=
  let stat := s.rg 0x1E 0x094
  if !s.ready 0x3A then (s, some .notReady)
  else if flag stat 4 || !flag (s.optWord 16) 3 then (s, some .state)
  else if s.selfTesting then (s, none)
  else if storedPassword ((List.range 4).map k.arg) == (List.range 4).map (fun i => s.optWord (20 + i)) then
    let s1 := (s.updRg 0x1E 0x08C (· ||| k.arg 4)).updRg 0x1E 0x090 (· ||| k.arg 5)
    ({ s1 with opt := { s1.opt with unlocked := true } }, some .done)
  else
    let n := min (field stat 3 0 + 1) 10
    let s1 := (s.setRg 0x1E 0x094 (pack [(0, 4, n), (4, 1, bit (decide (n ≥ 10)))])).authFail 0 0 (logMaster k)
    (s1.evLevel 0x1E 3 (decide (n ≥ 10)), some .security)

/-- RELOCK (R303). -/
def relockEffect (k : Slot) (s : State) : State × Option Code :=
  ((s.updRg 0x1E 0x08C (· &&& ~~~(k.arg 0))).updRg 0x1E 0x090 (· &&& ~~~(k.arg 1)), some .done)

/-! ### The option groups -/

/-- A group's fuse count. -/
def State.remain (s : State) (g : Nat) : Nat :=
  if g = 0 then s.opt.remainA else if g = 1 then s.opt.remainB else s.opt.remainC

/-- OPTION's levels: FROZEN while any count is 0, DEFAULTS (R306). -/
def State.refreshOption (s : State) : State :=
  ((s.evLevel 0x03 1 (s.opt.remainA == 0 || s.opt.remainB == 0 || s.opt.remainC == 0)).evLevel 0x03 2
    s.opt.defaults).setDegraded 0x03 s.opt.defaults

/-- The bits of an option word that are not Reserved (R4, R300). -/
def groupBits (k : Nat) : Word :=
  match k with
  | 0 => 0x000FFFFF
  | 1 => 0x000003FF
  | 2 | 8 | 10 | 17 | 18 | 20 | 21 | 22 | 23 => 0xFFFFFFFF
  | 3 => 0x0000001F
  | 9 => 0x000000FF
  | 11 => 0x0000FFFF
  | 16 => 0x0000000F
  | _ => 0

/-- The group's words after a write of the masked words, Reserved bits 0; of a password only its stored form is kept
(R4, R300, R513). -/
def State.groupAfter (s : State) (g mask : Nat) (img : List Word) : List Word :=
  let stored := storedPassword (img.drop 4)
  (List.range 8).map (fun w =>
    if !mask.testBit w then s.optWord (8 * g + w)
    else if g = 2 && 4 ≤ w then stored.getD (w - 4) 0
    else img.getD w 0 &&& groupBits (8 * g + w))

/-- Whether the group's words hold no reserved field value: ROT_W 17 to 31, REGION above 4 (R5, R300, R304, R361). -/
def groupLegal (g : Nat) (words : List Word) : Bool :=
  !(g == 0 && decide (field (words.getD 3 0) 4 0 > 16)) && !(g == 1 && decide (field (words.getD 1 0) 7 0 > 4))

/-- GROUP_WRITE reaches OPTION: its arguments, reserved field values of the image among them, are checked before
readiness (R64), the Crib's where it is to store a password (R513, R523), the rest in the order of R304; then the fuse
is blown (R301). -/
def State.groupBegin (s : State) (tag : Nat) : State :=
  let k := s.slot tag
  let g := field (k.arg 0) 1 0
  let mask := field (k.arg 0) 15 8
  if g = 3 || !s.winInside (k.arg 1).toNat 8 then s.setResult tag .arg
  else
    let password := (List.range 4).any (fun i => mask.testBit (4 + i))
    let down := !s.ready 0x03 || !s.flashUp || (g = 2 && password && !s.cribUp)
    match s.winReads false (k.arg 1).toNat 8 with
    | (s1, .error c) => s1.setResult tag (if down then .notReady else c)
    | (s1, .ok img) =>
      let words := s1.groupAfter g mask img
      let w (i : Nat) : Word := words.getD i 0
      let clears := ((s1.optWord 17 &&& ~~~(w 1)) != 0 || (s1.optWord 18 &&& ~~~(w 2)) != 0)
      if !groupLegal g words then s1.setResult tag .arg
      else if down then s1.setResult tag .notReady
      else if g = 2 && !k.secure then s1.setResult tag .security
      else if g = 2 && (clears || password) && flag (s1.optWord 16) 3 && !s1.opt.unlocked then
        s1.setResult tag .security
      else if s1.lifecycle = 3 || (g = 2 && s1.lifecycle = 2 && flag (s1.optWord 16) 0 && !flag (w 0) 0) then
        s1.setResult tag .state
      else if s1.opt.defaults && mask != 0xFF then s1.setResult tag .integrity
      else if s1.remain g = 0 then s1.setResult tag .quota
      else
        State.refreshOption { (s1.updRg 0x04 0x048 (fun w => satField w 15 8 1)) with opt := { s1.opt with
          remainA := if g = 0 then s1.opt.remainA - 1 else s1.opt.remainA
          remainB := if g = 1 then s1.opt.remainB - 1 else s1.opt.remainB
          remainC := if g = 2 then s1.opt.remainC - 1 else s1.opt.remainC
          writing := some (BitVec.ofNat 7 tag, g, words) } }

/-- A copy as it is rewritten: new group words and sequence number, the calibration data carried, header and CRC
(R299, R301). -/
def OptionCopy.withGroup (c : OptionCopy) (seq : Word) (words : Tab Word) : OptionCopy :=
  let d : OptionCopy := { header := 0x96400F0A, seq := seq, words := words, calib := c.calib }
  { d with crc := d.areaCrc }

/-- A copy whose rewriting was cut off has no header: that is in the codeword programmed last (DESIGN CHOICE, log entry
1310). -/
def OptionCopy.cut (c : OptionCopy) : OptionCopy := { c with header := 0xFFFFFFFF }

/-- The shadow with a group's eight words. -/
def withWords (t : Tab Word) (g : Nat) (l : List Word) : Tab Word :=
  l.zipIdx.foldl (fun acc (v, i) => Tab.set factoryWord acc (8 * g + i) v) t

/-- The copy in use. -/
def OptionState.current (o : OptionState) : OptionCopy := if o.used then o.copy1 else o.copy0

/-- A GROUP_WRITE carried through (R301): both copies, the shadow, the audit entry. -/
def State.groupEnd (s : State) (tag g : Nat) (words : List Word) : State :=
  let o := s.opt
  let seq := o.current.seq + 1
  let t := withWords o.shadow g words
  let o1 : OptionState := { o with
    copy0 := o.current.withGroup seq t, copy1 := o.current.withGroup seq t
    shadow := t, defaults := false, rewrite := false, found := 3, writing := none }
  let o2 := o1.program
    [{ group := BitVec.ofNat 4 g, master := (s.slot tag).src
       remain := BitVec.ofNat 8 (s.remain g), stamp := s.now }]
  ((({ s with opt := o2 } : State).refreshOption).evPulse 0x03 0).setResult tag .done

/-- A GROUP_WRITE cut off by a reset (R301): how far it had come is a free value. -/
def State.groupCut (s : State) : State :=
  match s.opt.writing with
  | none => s
  | some (_, g, words) =>
    let (w, s1) := s.draw
    let o := s1.opt
    let seq := o.current.seq + 1
    let t := withWords o.shadow g words
    let inUse := o.current
    let other := if o.used then o.copy0 else o.copy1
    let keep (other inUse : OptionCopy) : OptionState :=
      if o.used then { o with writing := none, copy0 := other, copy1 := inUse }
      else { o with writing := none, copy0 := inUse, copy1 := other }
    match field w 1 0 with
    | 0 => { s1 with opt := keep other.cut inUse }
    | 1 => { s1 with opt := keep (inUse.withGroup seq t) inUse.cut }
    | _ => { s1 with opt := keep (inUse.withGroup seq t) (inUse.withGroup seq t) }

/-- COPY (R303). -/
def execCopy (tag : Fin 128) (s : State) : Host.Outcome State Fault Refusal :=
  .next (s.runOp tag.val 0x1E 3 s.copyArgs copyEffect)

/-- UNLOCK (R298). -/
def execUnlock (tag : Fin 128) (s : State) : Host.Outcome State Fault Refusal :=
  .next (s.runOp tag.val 0x1E 4 (fun _ => true) unlockEffect)

/-- RELOCK (R303). -/
def execRelock (tag : Fin 128) (s : State) : Host.Outcome State Fault Refusal :=
  .next (s.runOp tag.val 0x1E 5 (fun _ => true) relockEffect)

/-- REFRESH (R303). -/
def execRefresh (tag : Fin 128) (s : State) : Host.Outcome State Fault Refusal :=
  .next (s.runOp tag.val 0x1E 6
    (fun k => decide ((k.arg 0).toNat < 0x1000000) && !s.unmapped ((k.arg 0).toNat / 16384))
    (fun k t =>
      let t1 := if t.flash.refreshing == some (BitVec.ofNat 7 tag.val) then
        t.updFlash (fun x => { x with refreshing := none }) else t
      refreshEffect k t1))

/-- GROUP_WRITE (R301). -/
def execGroupWrite (tag : Fin 128) (s : State) : Host.Outcome State Fault Refusal :=
  .next
    (match s.opt.writing with
     | some (t, g, words) =>
       let password := g = 2 && field ((s.slot tag.val).arg 0) 15 12 != 0
       if s.running tag.val 0x03 1 && t.toNat = tag.val && !(password && s.selfTesting) then s.groupEnd tag.val g words
       else s
     | none => s)

/-- FETCH_BANK_CHANGE (R287). -/
def execFetchBankChange (bank : Option (Fin 3)) (s : State) : Host.Outcome State Fault Refusal :=
  .next
    (let s1 : State := { s with core := { s.core with fetch := bank.map (·.val) } }
     s1.setRg 0x1E 0x044
       (match bank with | some b => pack [(0, 2, b.val), (2, 1, 1)] | none => 0))

/-- LOG_APPEND (R290). -/
def execLogAppend (s : State) : Host.Outcome State Fault Refusal := .next s.logAppend

/-- LOG_COMMIT (R291). -/
def execLogCommit (s : State) : Host.Outcome State Fault Refusal := .next s.logCommit

/-- COMMIT_TIMEOUT (R291). -/
def execCommitTimeout (s : State) : Host.Outcome State Fault Refusal :=
  .next
    (match s.flash.log.first with
     | none => s
     | some t =>
       (s.reach (t + BitVec.ofNat 64 (secTime (field (s.rg 0x1E 0x050) 15 0)))).updLog
         (fun l => { l with due := true }))

/-- FLUSH (R291). -/
def execFlush (m : Master) (v : Word) (s : State) : Host.Outcome State Fault Refusal :=
  .next (s.write m 0x1E 0x054 v (logctlEffect v))

/-- LOG_SECTOR_ERASE (R294). -/
def execLogSectorErase (s : State) : Host.Outcome State Fault Refusal := .next s.logErase

/-- LOG_RESUME (R294). -/
def execLogResume (s : State) : Host.Outcome State Fault Refusal := .next s.logResume

/-- LOGCFG_WRITE (R294). -/
def execLogcfgWrite (m : Master) (v : Word) (s : State) : Host.Outcome State Fault Refusal :=
  .next (s.write m 0x1E 0x04C v (logcfgEffect v))

/-- WEAK_REFRESH (R295). -/
def execWeakRefresh (s : State) : Host.Outcome State Fault Refusal := .next s.weakRefresh

/-- DIRTY_SPARE_ERASE (R296). -/
def execDirtySpareErase (s : State) : Host.Outcome State Fault Refusal := .next s.spareErase

end Sys2Proof.Machine
end

