-- ==== Sys2Proof/Machine/Hart.lean ====
section
/-!
DEFINITION. The control core seen as one hart and the interrupt controller (chapter 18): checkpoints, traps, WFI,
debug halt, claims, completions, moderation, and the core's flash reads and TCM errors.
-/
namespace Sys2Proof.Machine

/-! ### The hart -/

/-- What a CSR holds before anything has written it: the identification CSRs of R423, else 0. -/
def csrReset (n : Nat) : Word :=
  match n with
  | 0x301 => 0x40101104
  | 0xF13 => 0x00004201
  | _ => 0

/-- A CSR. -/
def CoreState.csrOf (c : CoreState) (n : Nat) : Word := Tab.get csrReset c.csr n

/-- A CSR given a value. -/
def CoreState.setCsr (c : CoreState) (n : Nat) (w : Word) : CoreState := { c with csr := Tab.set csrReset c.csr n w }

/-- A general register, x0 reading 0. -/
def CoreState.reg (c : CoreState) (n : Nat) : Word := if n = 0 then 0 else Tab.get (fun _ => 0) c.x n

/-- A general register given a value; x0 discards it. -/
def CoreState.setX (c : CoreState) (n : Nat) (w : Word) : CoreState :=
  if n = 0 then c else { c with x := Tab.set (fun _ => 0) c.x n w }

/-- A TCM word. -/
def CoreState.tcmWord (c : CoreState) (n : Nat) : Word := Tab.get (fun _ => 0) c.tcm n

/-- A TCM word given a value. -/
def CoreState.setTcm (c : CoreState) (n : Nat) (w : Word) : CoreState :=
  { c with tcm := Tab.set (fun _ => 0) c.tcm n w }

/-- The TCM word index and byte of a core address inside a TCM (R424). -/
def tcmPlace (a : Nat) : Option (Nat × Nat) :=
  if a < 0x40000 then some (a / 4, a % 4)
  else if 0x10000000 ≤ a && a < 0x10040000 then some (0x10000 + (a - 0x10000000) / 4, a % 4)
  else none

/-- Bytes written to a TCM from a core address up. -/
def CoreState.putTcm (c : CoreState) : Nat → List Byte → CoreState
  | _, [] => c
  | a, b :: rest =>
    match tcmPlace a with
    | none => CoreState.putTcm c (a + 1) rest
    | some (w, i) => CoreState.putTcm (c.setTcm w (setField (c.tcmWord w) (8 * i + 7) (8 * i) b.toNat)) (a + 1) rest

/-- Whether a core address lies in a fetchable range of R424. -/
def fetchable (a : Nat) : Bool :=
  decide (a < 0x40000) || (decide (0x20000000 ≤ a) && decide (a < 0x20800000))
  || (decide (0x21000000 ≤ a) && decide (a < 0x21800000))

/-- The core's state changed. -/
def State.updCore (s : State) (f : CoreState → CoreState) : State := { s with core := f s.core }

/-- Whether the hart executes: released, in a clocked island, neither in WFI nor halted, nor waiting for a busy flash
bank (R425). -/
def State.hartRuns (s : State) : Bool :=
  s.core.released && !s.core.wfi && !s.core.halted && s.core.stall.isNone && s.pwr.depth == .awake && !s.unavailable .core

/-- Trap entry into machine mode at an address: mepc, mcause and mtval are written, mstatus holds the old MIE and
mode, MIE becomes 0; the entry is a checkpoint (R423, R430). -/
def CoreState.trapTo (c : CoreState) (cause tval pc : Word) (now : Stamp) : CoreState :=
  let st := c.csrOf 0x300
  let st1 := setField (setFlag (setFlag st 7 (flag st 3)) 3 false) 12 11 (if c.machine then 3 else 0)
  let c1 := (((c.setCsr 0x341 c.pc).setCsr 0x342 cause).setCsr 0x343 tval).setCsr 0x300 st1
  CoreState.checkpoint { c1 with machine := true, pc := pc } now

/-- Where a trap of a cause goes: mtvec's base, or four bytes a cause on for a vectored interrupt (R423). -/
def CoreState.trapVector (c : CoreState) (cause : Word) : Word :=
  let v := c.csrOf 0x305
  let base := v &&& 0xFFFFFFFC
  if flag cause 31 && field v 1 0 == 1 then base + BitVec.ofNat 32 (4 * field cause 30 0) else base

/-- The core takes a trap. -/
def State.trap (s : State) (cause tval : Word) : State :=
  s.updCore (fun c => c.trapTo cause tval (c.trapVector cause) s.now)

/-- WFI ends and the hart resumes at the next instruction (R441). -/
def State.endWfi (s : State) : State :=
  if s.core.wfi then (s.updCore (fun c => { c with wfi := false, pc := c.pc + 4 })).syncWdt else s

/-! ### Interrupt delivery -/

/-- PRIO of the top entry of the priority stack, and EFFECTIVE (R435). -/
def State.topPrio (s : State) : Nat := match s.intc.stack with | [] => 0 | e :: _ => e.2
def State.effective (s : State) : Nat := max s.topPrio (field (s.rg 0x09 0x044) 3 0)

/-- ACTIVE of a source. -/
def State.srcActive (s : State) (n : Nat) : Bool := s.intc.active.getLsbD n

/-- Whether a source's group is released for delivery to the core: always while the core is in WFI (R440). -/
def State.coreReleased (s : State) (n : Nat) : Bool :=
  s.core.wfi || !(flag (s.srccfg n) 12 && s.modHolds (field (s.srccfg n) 11 8))

/-- Whether a source is deliverable (R434, R435): PEND is read as it stands, so that a handler that waits from a reset of
CORE is served once the INTC is configured (R443, R532). -/
def State.deliverable (s : State) (n : Nat) : Bool :=
  s.srcTarget n == 0 && decide (s.srcPrio n > s.effective) && s.srcEn n && s.pend n && !s.srcActive n
  && s.coreReleased n && !s.intc.frozen

/-- The condition that ends WFI, whatever masks delivery (R441). -/
def State.wakeCond (s : State) : Bool :=
  (List.range 192).any (fun n =>
    s.srcTarget n == 0 && decide (s.srcPrio n ≥ 1) && s.srcEn n && s.pend n && !s.srcActive n)

/-- Whether a host interrupt ball is low: t is 1 for HIRQ_N0, 2 for HIRQ_N1; moderation is bypassed in STANDBY
and GUARD (R442). -/
def State.hirqLow (s : State) (t : Nat) : Bool :=
  !s.inReset .core && (List.range 192).any (fun n =>
    s.srcTarget n == t && decide (s.srcPrio n ≥ 1) && s.srcEn n && s.pend n
    && (s.pwr.depth != .awake || !(flag (s.srccfg n) 12 && s.modHolds (field (s.srccfg n) 11 8))))

/-- The level of a host interrupt ball: low, or released, as it is while VIO_A's supply is absent (R77, R442, R544). -/
def State.hirqBall (s : State) (t : Nat) : Bool := s.hirqLow t && s.pwr.vioA

/-- Whether the core takes machine external interrupts now: MEIE, and MIE or U mode (R435). -/
def State.takesInterrupts (s : State) : Bool :=
  s.hartRuns && flag (s.core.csrOf 0x304) 11 && (flag (s.core.csrOf 0x300) 3 || !s.core.machine)

/-- The two payloads of a Q1 record: the source, and the time of its rise (R252). -/
def hostRecord (n : Nat) (t : Stamp) : List Word :=
  [pack [(0, 8, n), (16, 8, stampField t 47 40)], BitVec.ofNat 32 (stampField t 39 16)]

/-- The Q1 record of a host-target source that became pending; a full Q1 drops it (R252). -/
def State.pushHostRecord (s : State) (n : Nat) (t : Stamp) : State := (s.blockPush 1 (hostRecord n t)).1

/-- A group is released: a member that is pending counts as having been 1 (R440). -/
def State.releaseGroup (s : State) (g : Nat) : State :=
  s.setMod g { holding := false, since := s.now, edges := 0
               had := (List.range 192).any (fun k => s.member g k && s.pend k) }

/-- A group begins to hold (R440). -/
def State.holdGroup (s : State) (g : Nat) : State :=
  if s.modOn g && !(s.modGroup g).holding then s.setMod g { holding := true, since := s.now, edges := 0, had := false }
  else s

/-! ### Claims and completions -/

/-- The interrupt controller's state changed. -/
def State.updIntc (s : State) (f : Intc → Intc) : State := { s with intc := f s.intc }

/-- The ACTIVE bit of a source given a value. -/
def Intc.setActive (i : Intc) (n : Nat) (b : Bool) : Intc :=
  let one : BitVec 192 := BitVec.ofNat 192 (2 ^ n)
  { i with active := if b then i.active ||| one else i.active &&& ~~~one }

/-- A CLAIM write (R437). -/
def intcClaimEffect (m : Master) (v : Word) (s : State) : State × Code :=
  let n := field v 7 0
  if m != .core then (s, .state)
  else if !sourceValid n then (s, .arg)
  else if s.srcTarget n != 0 || s.srcPrio n == 0 || s.srcActive n || decide (s.srcPrio n ≤ s.effective)
      || s.intc.frozen then (s, .state)
  else
    let s1 := s.updIntc (fun i => { (i.setActive n true) with stack := (n, s.srcPrio n) :: i.stack })
    (if flag (s.srccfg n) 12 then s1.holdGroup (field (s.srccfg n) 11 8) else s1, .done)

/-- An out-of-order completion: recorded, the stack frozen, and a non-maskable trap to NMI_VEC (R438). -/
def State.misorder (s : State) (n : Nat) : State :=
  let top := match s.intc.stack with | [] => 0xFF | e :: _ => e.1
  let s1 := (s.setRg 0x09 0x054 (pack [(0, 8, n), (8, 8, top), (16, 4, s.intc.stack.length), (31, 1, 1)])).setPair
    0x09 0x058 s.now
  let s2 := ((s1.updIntc (fun i => { i with frozen := true })).evLevel 0x09 0 true).faultRec 0x13 0x09 0
  if s2.core.released then
    let s3 := s2.endWfi
    s3.updCore (fun c => c.trapTo 0x80000018 0 (s3.rg 0x38 0x070) s3.now)
  else s2

/-- A COMPLETE write (R438, R442). -/
def intcCompleteEffect (v : Word) (s : State) : State × Code :=
  let n := field v 7 0
  if s.intc.frozen then (s, .state)
  else if n ≥ 192 then (s, .arg)
  else if s.srcTarget n != 0 then (s, .state)
  else
    match s.intc.stack with
    | (k, p) :: rest =>
      if k = n then
        (s.updIntc (fun i => { (i.setActive n false) with stack := rest }), .done)
      else ((s.updIntc (fun i => { i with stack := (k, p) :: rest })).misorder n, .state)
    | [] => (s.misorder n, .state)

/-- An UNFREEZE write: the stack and every ACTIVE bit are cleared (R438). -/
def unfreezeEffect (v : Word) (s : State) : State × Code :=
  if field v 31 24 != 0x3C then (s, .arg)
  else if !flag v 0 then (s, .done)
  else ((s.updIntc (fun i => { i with stack := [], active := 0, frozen := false })).evLevel 0x09 0 false, .done)

/-- A SRCCFG write (R434, R445). -/
def srccfgEffect (n : Nat) (v : Word) (s : State) : State × Code :=
  if !sourceValid n then (s, .arg)
  else if s.srcActive n then (s, .state)
  else (s.setRg 0x09 (0x200 + 4 * n) (v &&& 0x1F3F), .done)

/-- An EN write: a reserved source named is ARG (R434). -/
def intcEnEffect (k : Nat) (v : Word) (s : State) : State × Code :=
  if (List.range 32).any (fun i => flag v i && !sourceValid (32 * k + i)) then (s, .arg)
  else (s.setRg 0x09 (0x0A0 + 4 * k) v, .done)

/-- A MODg write: a group that no longer moderates is RELEASED (R440). -/
def modEffect (g : Nat) (v : Word) (s : State) : State × Code :=
  let s1 := s.setRg 0x09 (0x140 + 4 * g) (v &&& 0x00FFFFFF)
  (if s1.modOn g then s1 else s1.setMod g {}, .done)

/-- A SWI write: the lines of the sixteen software sources follow (R434). -/
def swiEffect (v : Word) (s : State) : State × Code :=
  let s1 := s.setRg 0x09 0x064 (v &&& 0xFFFF)
  ((List.range 16).foldl (fun acc i => acc.settle s (0x90 + i)) s1, .done)

/-- An NMI_VEC write (R444). -/
def nmiVecEffect (v : Word) (s : State) : State × Code :=
  if fetchable (v &&& 0xFFFFFFFC).toNat then (s.setRg 0x38 0x070 (v &&& 0xFFFFFFFC), .done) else (s, .arg)

/-! ### The confirmation record (R428) -/

/-- The running image: its bank and the SEQ of its header. -/
def State.runningImage (s : State) : Nat × Word :=
  let b := field (s.rg 0x38 0x040) 1 0
  (b, s.rg 0x38 (0x048 + 4 * b))

/-- BOOTSTAT.UNCONFIRMED given a value, with its level and watchdog (R428, R533). -/
def State.setUnconfirmed (s : State) (b : Bool) : State :=
  ((s.updRg 0x38 0x040 (fun w => setFlag w 4 b)).evLevel 0x38 2 b).syncWdt

/-- A BOOTCTL write: the override of the next boot, and the request for the confirmation record (R428, R444). -/
def confirmEffect (v : Word) (s : State) : State × Code :=
  let s1 := s.setRg 0x38 0x044 (v &&& 0x300)
  if flag v 0 && s1.unconfirmed then
    ({ s1 with flash := { s1.flash with confirming := some s1.runningImage } }, .done)
  else (s1, .done)

/-- FLASH finishes writing the confirmation record (R428). -/
def State.confirmWritten (s : State) : State :=
  match s.flash.confirming with
  | none => s
  | some r =>
    if s.flashUp then
      let s1 : State := { s with flash := { s.flash with confirmed := some r, confirming := none } }
      if s1.unconfirmed && s1.runningImage == r then s1.setUnconfirmed false else s1
    else s

/-! ### Flash and TCM reads of the core -/

/-- A line put first among at most n (DESIGN CHOICE of the order, log entry 1303). -/
def keepLine (n cw : Nat) (l : List Byte) (lines : List FlashLine) : List FlashLine :=
  ({ codeword := cw, bytes := l } :: lines.filter (fun e => e.codeword != cw)).take n

/-- Whether CFG has the prefetch buffer, and the branch cache, on (R305). -/
def State.pfOn (s : State) : Bool := flag (s.rg 0x1E 0x048) 8
def State.bcOn (s : State) : Bool := flag (s.rg 0x1E 0x048) 9

/-- A codeword's line in the stores that are on (R283). -/
def State.lineOf (s : State) (cw : Nat) : Option (List Byte) :=
  ((if s.pfOn then s.flash.prefetch else []) ++ (if s.bcOn then s.flash.branch else [])).find?
    (fun e => e.codeword == cw) |>.map (·.bytes)

/-- The prefetch buffer fetches the next sequential codeword of the bank ahead of the core, unless it is held or its bank
is busy (R283). -/
def State.fetchAhead (s : State) (cw : Nat) : State :=
  let next := cw + 1
  if !s.pfOn || cwBank next != cwBank cw || (s.lineOf next).isSome || s.flashBusy (32 * next) 32 then s
  else
    match s.flashRead none next with
    | (s1, some l) => s1.updFlash (fun x => { x with prefetch := keepLine 4 next l x.prefetch })
    | (s1, none) => s1

/-- The core has fetched a line: the target of a taken branch, a codeword that does not follow the one fetched last,
goes to the branch cache, any other to the prefetch buffer; then the next codeword is fetched ahead (R283). -/
def State.fetched (s : State) (cw : Nat) (l : List Byte) : State :=
  let taken := match s.flash.lastFetch with | some k => cw != k && cw != k + 1 | none => false
  let s1 := s.updFlash (fun x =>
    { x with
      lastFetch := some cw
      branch := if taken && s.bcOn then keepLine 32 cw l x.branch else x.branch
      prefetch := if s.pfOn && !(taken && s.bcOn) then keepLine 4 cw l x.prefetch else x.prefetch })
  s1.fetchAhead cw

/-- A flash read of the core: a fetch that hits a store is served, any other read of a busy bank waits, and an
uncorrectable codeword raises an access fault, whose address within the codeword is a free value (R282 to R284, R425). -/
def State.coreRead (s : State) (cw : Nat) (fetch : Bool) : State :=
  match (if fetch then s.lineOf cw else none) with
  | some l => s.fetched cw l
  | none =>
    if s.flashBusy (32 * cw) 32 then s.updCore (fun c => { c with stall := some (cw, fetch) })
    else
      let (at_, s1) := s.draw
      match s1.flashRead (some .core) cw with
      | (s2, some l) => if fetch then s2.fetched cw l else s2
      | (s2, none) => s2.trap (if fetch then 1 else 5) at_

/-- A read that waited for a busy bank is carried out once the operation has ended and FLASH is up (R284). -/
def State.endStall (s : State) : State :=
  match s.core.stall with
  | none => s
  | some (cw, fetch) =>
    if s.flashUp then (s.updCore (fun c => { c with stall := none })).coreRead cw fetch else s

/-- The core fetches from or loads a codeword in which a number of bits are wrong (R282, R424, R425). A load is
a checkpoint (R430). -/
def State.coreFlashRead (s : State) (cw : Nat) (fetch : Bool) (errors : Nat) : State :=
  if s.hartRuns && s.flashUp then
    if fetch && cw ≥ 0x40000 then
      let (at_, s1) := s.draw
      s1.trap 1 at_
    else
      let s0 := if fetch then s else s.updCore (fun c => c.checkpoint s.now)
      let p := s0.physCw cw
      let old := Tab.get (fun _ => 0) s0.flash.health p
      (s0.updFlash (fun x => { x with health := Tab.set (fun _ => 0) x.health p (max old errors) })).coreRead cw fetch
  else s

/-- The core finds a TCM word uncorrectable (R433, R538); the data TCM cannot be fetched from (R424). -/
def State.tcmError (s : State) (word : Nat) (fetch : Bool) : State :=
  if s.hartRuns then
    let dtcm := decide (word ≥ 0x10000)
    let addr : Word := BitVec.ofNat 32 (if dtcm then 0x10000000 + 4 * (word - 0x10000) else 4 * word)
    if fetch && dtcm then s.trap 1 addr
    else
      let s1 := s.updCore (fun c => if c.tcmBad.contains word then c else { c with tcmBad := word :: c.tcmBad })
      let s2 := (s1.updRg 0x38 0x068 (fun w => satField w 23 16 1)).setRg 0x38 0x06C
        (pack [(0, 16, word % 0x10000), (16, 1, bit dtcm), (31, 1, 1)])
      ((s2.evPulse 0x38 1).faultRec 0x05 0x38 (bit dtcm)).trap (if fetch then 1 else 5) addr
  else s

/-! ### The rows -/

/-- CONFIRM (R428). -/
def execConfirm (m : Master) (v : Word) (s : State) : Host.Outcome State Fault Refusal :=
  .next (s.write m 0x38 0x044 v (confirmEffect v))

/-- CONFIRMATION_RECORD_WRITE (R428). -/
def execConfirmationRecordWrite (s : State) : Host.Outcome State Fault Refusal := .next s.confirmWritten

/-- PROGRAM (R285, R303). -/
def execProgram (tag : Fin 128) (s : State) : Host.Outcome State Fault Refusal :=
  .next
    (match s.flash.run with
     | some r =>
       if s.running tag.val 0x1E 1 && r.tag == BitVec.ofNat 7 tag.val && !r.erase then
         (s.programEnd tag.val r).endStall
       else s
     | none => s)

/-- ERASE (R285, R296, R297, R303). -/
def execErase (tag : Fin 128) (s : State) : Host.Outcome State Fault Refusal :=
  .next
    (match s.flash.run with
     | some r =>
       if s.running tag.val 0x1E 2 && r.tag == BitVec.ofNat 7 tag.val && r.erase then
         (if r.spare then s.spareEnd tag.val r else s.eraseEnd tag.val r).endStall
       else s
     | none => s)

/-- CORE_FLASH_READ (R282). -/
def execCoreFlashRead (codeword : BitVec 19) (fetch : Bool) (errors : Fin 5) (s : State) :
    Host.Outcome State Fault Refusal := .next (s.coreFlashRead codeword.toNat fetch errors.val)

/-- WFI (R441): in M mode issue stops and the clock is gated; in U mode it is an illegal instruction (R423),
whose mtval is the instruction or 0, a free choice. -/
def execWfi (s : State) : Host.Outcome State Fault Refusal :=
  .next
    (if s.hartRuns then
      if s.core.machine then (s.updCore (fun c => { c with wfi := true })).syncWdt
      else
        let (w, s1) := s.draw
        s1.trap 2 (if flag w 0 then 0x10500073 else 0)
    else s)

/-- WFI_WAKE (R441). -/
def execWfiWake (s : State) : Host.Outcome State Fault Refusal :=
  .next (if s.core.wfi && s.wakeCond && s.pwr.depth == .awake && !s.unavailable .core then s.endWfi else s)

/-- EXTERNAL_INTERRUPT (R252, R435): a host-target source's Q1 record is placed; a deliverable source has the core
take a machine external interrupt. -/
def execExternalInterrupt (src : BitVec 8) (s : State) : Host.Outcome State Fault Refusal :=
  .next
    (match s.intc.due.find? (fun e => e.1 == src.toNat) with
    | some (n, t) => (s.updIntc (fun i => { i with due := i.due.erase (n, t) })).pushHostRecord n t
    | none =>
      if s.takesInterrupts && s.deliverable src.toNat then s.trap 0x8000000B 0 else s)

/-- INTC_CLAIM (R437). -/
def execIntcClaim (m : Master) (v : Word) (s : State) : Host.Outcome State Fault Refusal :=
  .next (s.write m 0x09 0x048 v (intcClaimEffect m v))

/-- INTC_COMPLETE (R438). -/
def execIntcComplete (m : Master) (v : Word) (s : State) : Host.Outcome State Fault Refusal :=
  .next (s.write m 0x09 0x04C v (intcCompleteEffect v))

/-- UNFREEZE (R438). -/
def execUnfreeze (m : Master) (v : Word) (s : State) : Host.Outcome State Fault Refusal :=
  .next (s.write m 0x09 0x050 v (unfreezeEffect v))

/-- SRCCFG_WRITE (R445). -/
def execSrccfgWrite (m : Master) (n : Fin 192) (v : Word) (s : State) : Host.Outcome State Fault Refusal :=
  .next (s.write m 0x09 (0x200 + 4 * n.val) v (srccfgEffect n.val v))

/-- MOD_INTERVAL_EXPIRY (R440). -/
def execModIntervalExpiry (g : Fin 16) (s : State) : Host.Outcome State Fault Refusal :=
  let us := field (s.rg 0x09 (0x140 + 4 * g.val)) 15 0
  let m := s.modGroup g.val
  .next
    (if m.holding && us != 0 then
      (s.reach (m.since + BitVec.ofNat 64 (usTime us))).releaseGroup g.val
    else s)

/-- CHECKPOINT_INTERVAL (R430). -/
def execCheckpointInterval (s : State) : Host.Outcome State Fault Refusal :=
  .next
    (if s.core.released && s.pwr.depth == .awake && !s.unavailable .core then
      let s1 := s.reach (s.core.ckptAt + BitVec.ofNat 64 (usTime (field (s.rg 0x38 0x064) 4 0)))
      s1.updCore (fun c => c.checkpoint s1.now)
    else s)

/-- TCM_UE (R433). -/
def execTcmUe (word : Fin 131072) (fetch : Bool) (s : State) : Host.Outcome State Fault Refusal :=
  .next (s.tcmError word.val fetch)

/-- DEBUG_HALT (R447): until DEBUG_CLOSE the debug module halts the core; a WFI under way ends (R444, R516). -/
def execDebugHalt (s : State) : Host.Outcome State Fault Refusal :=
  .next
    (if s.core.released && !s.fuse.debugClosed && s.pwr.depth == .awake && !s.unavailable .core then
      (s.endWfi.updCore (fun c => { c with halted := true })).syncWdt
    else s)

/-- DEBUG_RESUME (R447). -/
def execDebugResume (s : State) : Host.Outcome State Fault Refusal :=
  .next
    (if s.core.halted && !s.fuse.debugClosed && s.pwr.depth == .awake && !s.unavailable .core then
      (s.updCore (fun c => { c with halted := false })).syncWdt
    else s)

end Sys2Proof.Machine
end

