-- ==== Sys2Proof/Machine/Header.lean ====
section
/-!
DEFINITION. The common header's own behaviour (R23 to R29), block readiness (R79 to R82), and the
mailboxes (R54 to R57).
-/
namespace Sys2Proof.Machine

/-! ### Header registers -/

/-- A write of 1 to CTL.ERRC_CLR (R23). -/
def errcClrEffect (page : Nat) (s : State) : State × Code := (s.setRg page 0x018 0, .done)

/-- A W1C write of EVFLG; the page's interrupt source follows (R26, R35). -/
def evflgEffect (page : Nat) (v : Word) (s : State) : State × Code :=
  let s1 := s.updRg page 0x010 (fun w => w &&& ~~~v)
  (s1.settle s page, .done)

/-- A write of EVEN; the page's interrupt source follows (R26). -/
def evenEffect (page : Nat) (v : Word) (s : State) : State × Code :=
  let s1 := s.setRg page 0x014 (v &&& BitVec.ofNat 32 (evMask (pageKind page)))
  (s1.settle s page, .done)

/-- A write of ACCESS that its gate has let pass: RD_OWNER and SECURE, which cannot be cleared in the
FUSE and CRIB pages, and LOCK, which can only be set (R28, R29). -/
def accessEffect (page : Nat) (v : Word) (s : State) : State × Code :=
  let sec := flag v 1 || page == 0x04 || page == 0x3A
  (s.setRg page 0x01C (pack [(0, 1, bit (flag v 0)), (1, 1, bit sec), (31, 1, bit (flag v 31))]), .done)

/-! ### Readiness -/

/-- The groups each group waits for (R82). -/
def groupNeeds (g : Nat) : List Nat :=
  match g with
  | 1 => [0]
  | 2 => [0]
  | 3 => [0]
  | 5 => [3]
  | 6 => [3]
  | 7 => [3]
  | 8 => [0]
  | 9 => [1]
  | 10 => [9, 17, 8]
  | 11 => [8, 17]
  | 12 => [8, 17]
  | 13 => [8, 17, 3]
  | 14 => [8, 17, 3]
  | 15 => [1]
  | 16 => [1]
  | 17 => [1]
  | _ => []

/-- The supply or clock a group waits for beside other groups (R77, R82). -/
def State.groupSupply (s : State) (g : Nat) : Bool :=
  if g ≤ 1 || g == 4 then true
  else if g == 2 || g == 3 then s.pwr.tcxo
  else if g == 11 || g == 12 then s.pwr.vin && s.pwr.vfld
  else if g == 13 || g == 14 then s.pwr.vin && s.pwr.vpa
  else s.pwr.vin

/-- A group's own part of starting: the option load, the boot, the first supervision pass (R82). -/
def State.groupBegun (s : State) (g : Nat) : Bool :=
  if g == 1 then s.opt.loaded
  else if g == 10 then s.core.released
  else if g == 11 || g == 12 then s.fld.supervised
  else true

/-- A group's limit from POR release, in µs (R82). -/
def groupMax (g : Nat) : Nat :=
  match g with
  | 0 => 3000 | 4 => 3000 | 1 => 3800 | 15 => 4000 | 16 => 4000 | 2 => 5000 | 3 => 5000 | 8 => 5500
  | 9 => 6000 | 5 => 8000 | 6 => 8000 | 7 => 8000 | 17 => 16000 | 10 => 40000 | 11 => 45000 | 12 => 45000
  | 13 => 60000 | 14 => 60000 | _ => 0

/-- The group a page starts with: TEST, which no READY_MAP group names, starts with AON (DEDUCED, log entry 207). -/
def startGroup (page : Nat) : Option Nat := if page = 0x3F then some 0 else groupOf page

/-- A page's limit: from POR release, or from a later start less 2.0 ms (R82, R87, R569). -/
def State.startLimit (s : State) (page : Nat) : Stamp :=
  let began := Tab.get (fun _ => 0) s.pwr.began page
  let us := match startGroup page with | some g => groupMax g | none => 0
  let us := if s.pwr.short.contains page then us - 2000 else us
  began + BitVec.ofNat 64 (usTime us)

/-- Whether a page's block may raise READY now: out of reset with its clock, not stopped on a fault, what
it waits for READY, its supplies present, its own part of starting done. After a soft reset nothing that is READY or
present already is waited for again, and the rest is (R77, R81, R82, R569). -/
def State.mayReady (s : State) (page : Nat) : Bool :=
  match startGroup page with
  | none => false
  | some g =>
    !s.dead && s.assigned page && !s.ready page && !flag (s.rg page 0x004) 2 && !s.unavailable (islandOf page)
    && (groupNeeds g).all s.groupReady && s.groupSupply g && s.groupBegun g

/-- Each enabled queue's pointers are compared once before GRANARY raises READY (R250). -/
def State.checkPointers (s : State) : State :=
  (List.range 32).foldl
    (fun acc n => if qEn (acc.qcfg n) && (acc.queue n).ptrBad then (acc.pointerFault n).logPush n .integrity else acc) s

/-- A block has not started by its limit: FAULT and HALT (R82). A block that waits for its supply shows
no fault (R77); a TCXO that has not become stable is no supply. -/
def State.failStart (s : State) (page : Nat) : State :=
  match startGroup page with
  | none => s
  | some g =>
    if s.dead || !s.assigned page || s.ready page || flag (s.rg page 0x004) 2 || s.unavailable (islandOf page)
        || (5 ≤ g && !s.groupSupply g) then s
    else
      let s1 := s.reach (s.startLimit page)
      (s1.setReadyBits page (fun w => setFlag (setFlag w 2 true) 0 false)).faultRec 0x0F page g

/-! ### Mailboxes -/

/-- STAT of a mailbox and its levels after a change (R56). -/
def State.setMbox (s : State) (box : Nat) (w : Word) : State :=
  let s1 := s.setRg (0x40 + box) 0x080 w
  (s1.evLevel (0x40 + box) 0 (flag w 0)).evLevel (0x40 + box) 1 (flag w 1)

/-- A POST: full bit i, length at bit lo (R55). A bad length is judged before BUSY (DESIGN CHOICE, log entry 203). -/
def postEffect (box i lo : Nat) (v : Word) (s : State) : State × Code :=
  let len := field v 4 0
  let st := s.rg (0x40 + box) 0x080
  if len == 0 || len > 16 then (s, .arg)
  else if flag st i then (s, .busy)
  else (s.setMbox box (setField (setFlag st i true) (lo + 4) lo len), .done)

/-- A TAKE: full bit i (R55). -/
def takeEffect (box i : Nat) (v : Word) (s : State) : State × Code :=
  let st := s.rg (0x40 + box) 0x080
  if !flag v 0 then (s, .done)
  else if !flag st i then (s, .state)
  else (s.setMbox box (setFlag st i false), .done)

/-- A write of a message word: BUSY while its direction is full (R55). -/
def mboxWordEffect (box off : Nat) (v : Word) (s : State) : State × Code :=
  let i := if off < 0x080 then 0 else 1
  if flag (s.rg (0x40 + box) 0x080) i then (s, .busy) else (s.setRg (0x40 + box) off v, .done)

/-- ERRC_CLR (R23). -/
def execErrcClr (m : Master) (page : BitVec 8) (s : State) : Host.Outcome State Fault Refusal :=
  if page.toNat ≥ 0x80 then .fault .illFormed
  else .next (s.write m page.toNat 0x008 0x4 (errcClrEffect page.toNat))

/-- EVFLG_CLEAR (R35). -/
def execEvflgClear (m : Master) (page : BitVec 8) (v : Word) (s : State) :
    Host.Outcome State Fault Refusal :=
  if page.toNat ≥ 0x80 then .fault .illFormed
  else .next (s.write m page.toNat 0x010 v (evflgEffect page.toNat v))

/-- ACCESS_WRITE (R29). -/
def execAccessWrite (m : Master) (page : BitVec 8) (v : Word) (s : State) :
    Host.Outcome State Fault Refusal :=
  if page.toNat ≥ 0x80 then .fault .illFormed
  else .next (s.write m page.toNat 0x01C v (accessEffect page.toNat v))

/-- BLOCK_START_FAIL (R82). -/
def execBlockStartFail (page : BitVec 8) (s : State) : Host.Outcome State Fault Refusal :=
  .next (s.failStart page.toNat)

/-- OUT_POST (R55). -/
def execOutPost (m : Master) (box : Fin 5) (v : Word) (s : State) : Host.Outcome State Fault Refusal :=
  .next (s.write m (0x40 + box.val) 0x084 v (postEffect box.val 0 16 v))

/-- OUT_TAKE (R55). -/
def execOutTake (m : Master) (box : Fin 5) (v : Word) (s : State) : Host.Outcome State Fault Refusal :=
  .next (s.write m (0x40 + box.val) 0x088 v (takeEffect box.val 0 v))

/-- IN_POST (R55). -/
def execInPost (m : Master) (box : Fin 5) (v : Word) (s : State) : Host.Outcome State Fault Refusal :=
  .next (s.write m (0x40 + box.val) 0x08C v (postEffect box.val 1 24 v))

/-- IN_TAKE (R55). -/
def execInTake (m : Master) (box : Fin 5) (v : Word) (s : State) : Host.Outcome State Fault Refusal :=
  .next (s.write m (0x40 + box.val) 0x090 v (takeEffect box.val 1 v))

end Sys2Proof.Machine
end

