-- ==== Sys2Proof/Machine/Boot.lean ====
section
/-!
DEFINITION. Signed images (R517, R518) and the boot of the core (R427, R428).
-/
namespace Sys2Proof.Machine

/-! ### Image headers -/

/-- The n-byte field of a header at an offset, least significant byte first. -/
def hdrField (h : List Byte) (off n : Nat) : Nat := natLE ((h.drop off).take n)

/-- A section descriptor: body offset, TCM core address, length (R517). -/
def hdrSection (h : List Byte) (k : Nat) : Nat × Nat × Nat :=
  (hdrField h (0x018 + 12 * k) 4, hdrField h (0x01C + 12 * k) 4, hdrField h (0x020 + 12 * k) 4)

/-- Whether a section in use lies in the body and in one TCM (R517). -/
def sectionOk (len : Nat) (x : Nat × Nat × Nat) : Bool :=
  let (off, a, n) := x
  n == 0 || (decide (off + n ≤ len)
    && (decide (a + n ≤ 0x40000) || (decide (0x10000000 ≤ a) && decide (a + n ≤ 0x10040000))))

/-- Whether a header of a KIND is well-formed, with room the bytes from its first byte to the end of its bank,
or of the flash (R517). -/
def imageOk (kind room : Nat) (h : List Byte) : Bool :=
  let len := hdrField h 0x00C 4
  h.length == 512 && hdrField h 0 4 == 0x9640C0DE && hdrField h 4 4 == kind && decide (512 + len ≤ room)
  && (List.range 4).all (fun k => sectionOk len (hdrSection h k))
  && (kind != 1 || fetchable (hdrField h 0x010 4))
  && ((h.drop 0x138).take 0xC8).all (· == 0)

/-- Whether a header's signature verifies: a root set and not revoked, the hash of PUBKEY, the signature over the
first 0xD8 bytes (R518). -/
def State.headerSigned (s : State) (h : List Byte) : Bool :=
  let pub := (h.drop 0x078).take 96
  let (root, revoked) := if hdrField h 0x014 4 % 2 = 0 then (s.fuse.root0, s.fuse.revoked0)
    else (s.fuse.root1, s.fuse.revoked1)
  match root with
  | none => false
  | some r => !revoked && sha true pub == r && p384.verify pub (sha true (h.take 0xD8)) ((h.drop 0x0D8).take 96)

/-- A header read from flash, none where it cannot be read. -/
def State.imageHeader (s : State) (base : Nat) : State × Option (List Byte) := s.flashBytes none base 512

/-- Whether an image's body has the digest of its header; an unreadable body has not. -/
def State.digestOk (s : State) (base : Nat) (h : List Byte) : State × Bool :=
  match s.flashBytes none (base + 512) (hdrField h 0x00C 4) with
  | (s1, some body) => (s1, sha true body == (h.drop 0x048).take 48)
  | (s1, none) => (s1, false)

/-! ### Boot -/

/-- Why an image fails, in WHY's codes for the other bank (R427, R444). -/
inductive BootFail where
  | header | journal | digest | signature
  deriving DecidableEq, Repr

/-- The WHY code of a failure of the other bank. -/
def BootFail.why : BootFail → Nat
  | .header => 2 | .digest => 3 | .signature => 4 | .journal => 5

/-- The first byte of code bank b. -/
def bankBase (b : Nat) : Nat := if b = 0 then 0x000000 else 0x400000

/-- A code bank's well-formed header, none without one (R427). -/
def State.bankHeader (s : State) (b : Nat) : State × Option (List Byte) :=
  match s.imageHeader (bankBase b) with
  | (s1, some h) => (s1, if imageOk 1 0x400000 h then some h else none)
  | (s1, none) => (s1, none)

/-- Whether a core image must carry a signature that verifies (R427). -/
def State.signatureNeeded (s : State) : Bool := flag (s.optWord 16) 0 || s.lifecycle == 2

/-- Whether a sector of an image has a journal entry (R99, R427). -/
def State.imageJournalled (s : State) (base len : Nat) : Bool :=
  (List.range ((512 + len + 16383) / 16384)).any (fun k => s.journalled (base / 16384 + k))

/-- A bank's image checked: whether it is signed, or why it fails (R427). -/
def State.checkBank (s : State) (b : Nat) (h : Option (List Byte)) : State × Except BootFail Bool :=
  match h with
  | none => (s, .error .header)
  | some h =>
    if s.imageJournalled (bankBase b) (hdrField h 0x00C 4) then (s, .error .journal)
    else
      match s.digestOk (bankBase b) h with
      | (s1, false) => (s1, .error .digest)
      | (s1, true) =>
        let signed := s1.rootSet && s1.headerSigned h
        if s1.signatureNeeded && !signed then (s1, .error .signature) else (s1, .ok signed)

/-- The candidate bank and why: the override, else the higher SEQ, bank A among equals; a bank without a
well-formed header ranks last (R427). -/
def State.bootCandidate (s : State) (a b : Option (List Byte)) : Nat × Nat :=
  let ctl := s.rg 0x38 0x044
  if flag ctl 8 then (bit (flag ctl 9), 1)
  else
    match a, b with
    | some ha, some hb => if hdrField hb 8 4 > hdrField ha 8 4 then (1, 0) else (0, 0)
    | none, some _ => (1, 2)
    | _, none => (0, 2)

/-- The bank tried first and why: the candidate is passed over once where the core ran it unconfirmed (R427). -/
def State.bootFirst (s : State) (a b : Option (List Byte)) : Nat × Nat :=
  let (c, why) := s.bootCandidate a b
  if s.core.ran == some c && s.core.ranUnconfirmed then (1 - c, 6) else (c, why)

/-- The sections of an image copied into the TCMs. -/
def State.copySections (s : State) (base : Nat) (h : List Byte) : State :=
  (List.range 4).foldl
    (fun acc k =>
      let (off, a, n) := hdrSection h k
      match acc.flashBytes none (base + 512 + off) n with
      | (acc1, some l) => acc1.updCore (fun c => c.putTcm a l)
      | (acc1, none) => acc1) s

/-- The chosen image starts: the boot record, the confirmation record's verdict, the sections, and the release of
the core at the entry (R427, R428). -/
def State.startImage (s : State) (b why : Nat) (signed : Bool) (h : List Byte) : State :=
  let s1 := (s.updRg 0x38 0x044 (fun w => setFlag w 8 false)).copySections (bankBase b) h
  let boots := min 0xFFFF (field (s1.rg 0x38 0x040) 31 16 + 1)
  let image := (b, BitVec.ofNat 32 (hdrField h 8 4))
  let empty := s1.flash.confirmed == none
  let unconf := !empty && s1.flash.confirmed != some image
  let stat := pack [(0, 2, b), (3, 1, bit signed), (4, 1, bit unconf), (8, 4, why), (16, 16, boots)]
  let s2 := s1.setRg 0x38 0x040 stat
  let s3 : State := if empty then { s2 with flash := { s2.flash with confirming := some image } } else s2
  let entry := hdrField h 0x010 4
  let bank := if entry < 0x40000 then none else some (if entry < 0x21000000 then (entry - 0x20000000) / 0x400000
    else if entry < 0x21400000 then b else 1 - b)
  let fetch : Word := match bank with | some k => pack [(0, 2, k), (2, 1, 1)] | none => 0
  let s4 := (s3.setRg 0x1E 0x044 fetch).updCore (fun c =>
    ((({ c with released := true, machine := true, wfi := false, halted := false, pc := BitVec.ofNat 32 entry
                fetch := bank, ran := some b, ranUnconfirmed := unconf } : CoreState).setX 10
      (BitVec.ofNat 32 b)).setX 11 stat).checkpoint s3.now)
  State.syncWdt { s4 with svc := { s4.svc with unconf := {} } }

/-- The boot ROM chooses and verifies an image and releases the core, once FLASH, CRIB and GRANARY are READY; with
no image that passes CORE sets FAULT and HALT (R99, R427, R538). -/
def State.coreBoot (s : State) : State :=
  if s.core.released || s.dead || s.unavailable .core || flag (s.rg 0x38 0x004) 2
      || !((groupNeeds 10).all s.groupReady) || s.flashBusy 0 0x800000 then s
  else
    let (s1, ha) := s.bankHeader 0
    let (s2, hb) := s1.bankHeader 1
    let seqOf (h : Option (List Byte)) : Word := match h with | some l => BitVec.ofNat 32 (hdrField l 8 4) | none => 0
    let hdr (b : Nat) : Option (List Byte) := if b = 0 then ha else hb
    let s3 := (s2.setRg 0x38 0x048 (seqOf ha)).setRg 0x38 0x04C (seqOf hb)
    let (b, why) := s3.bootFirst ha hb
    match s3.checkBank b (hdr b), hdr b with
    | (s4, .ok signed), some h => s4.startImage b why signed h
    | (s4, .error e), _ =>
      match s4.checkBank (1 - b) (hdr (1 - b)), hdr (1 - b) with
      | (s5, .ok signed), some h => s5.startImage (1 - b) e.why signed h
      | (s5, _), _ =>
        (s5.setReadyBits 0x38 (fun w => setFlag (setFlag w 2 true) 0 false)).faultRec 0x10 0x38 0
    | (s4, _), none => s4

/-- CORE_BOOT (R427). -/
def execCoreBoot (s : State) : Host.Outcome State Fault Refusal := .next s.coreBoot

end Sys2Proof.Machine
end

