-- ==== Sys2Proof/Machine/Crib.lean ====
section
/-!
DEFINITION. The operations of the Crib (R504 to R525): keys, ciphers, signatures, random numbers, lifecycle,
roots, self-test and zeroisation; and TAMPER_CFG.
-/
namespace Sys2Proof.Machine

/-- What an operation's meaning answers: its code, and whether the service was an approved one (R525). -/
abbrev CribOut := State × Code × Bool

/-- An operation's end: its result, and what LAST shows of it to the submitting master (R525, R529). -/
def State.cribEnd (s : State) (tag op : Nat) (k : Slot) (c : Code) (approved : Bool) : State :=
  match slotMaster k with
  | some m =>
    (s.setResult tag c).setOwn1 m 0x3A 0x048 (pack [(0, 8, op), (8, 8, Code.num c), (16, 1, bit approved)])
  | none => s.setResult tag c

/-- A CRIB operation: checked as R64 says, then its security (R504) and lifecycle (R511), then its own meaning. -/
def State.cribOp (s : State) (tag op : Nat) (argsOk : State → Slot → Bool)
    (eff : Slot → State → CribOut) : State :=
  if !s.running tag 0x3A op then s
  else
    let k := s.slot tag
    let approved := s.approvedMode
    let (s1, c, ok) : CribOut :=
      if !argsOk s k then (s, .arg, true)
      else if !s.cribUp then (s, .notReady, true)
      else if !k.secure && op != 0x07 && op != 0x0B then (s, .security, true)
      else if s.lifecycle = 3 && ! [0x07, 0x0B, 0x0C, 0x0F].contains op then (s, .state, true)
      else eff k s
    s1.cribEnd tag op k c (approved && ok)

/-- USAGE bits a TYPE allows (R505). -/
def usageMask (typ : Nat) : Nat :=
  match typ with
  | 1 => 0xC7 | 2 => 0xC7 | 3 => 0x04 | 4 => 0x28 | 5 => 0x28 | 6 => 0x10 | 7 => 0x10 | _ => 0

/-- Whether TYPE and USAGE are allowed together. -/
def usageOk (typ usage : Nat) : Bool := decide (1 ≤ typ) && decide (typ ≤ 7) && Nat.land usage (255 - usageMask typ) == 0

/-- The fields of ARG0 of KEY_GEN and KEY_IMPORT. -/
def keySlotOf (a : Word) : Nat := field a 5 0
def keyTypeOf (a : Word) : Nat := field a 11 8
def keyUsageOf (a : Word) : Nat := field a 23 16

/-- A new ECC key pair from a private value; none when the pairwise consistency test fails (R522). -/
def eccPair (big : Bool) (d : Nat) : Option (List Byte × List Byte) :=
  let c := curveOf big
  if d = 0 || d ≥ c.n then none
  else
    let pub := c.pub d
    let digest := sha true pub
    if c.verify pub digest (c.sign d 1 digest) then some (bytesBE c.len d, pub) else none

/-- A slot's contents for generated or imported secret bytes. -/
def makeKey (typ usage : Nat) (persist : Bool) (origin : Nat) (l : List Byte) : Option KeySlot :=
  if typ = 4 || typ = 5 then
    (eccPair (typ == 5) (natBE l)).map (fun p =>
      { typ := typ, usage := BitVec.ofNat 8 usage, persist := persist, origin := origin, secret := p.1, pub := p.2 })
  else if typ ≥ 6 then
    some { typ := typ, usage := BitVec.ofNat 8 usage, persist := persist, origin := origin, pub := l }
  else some { typ := typ, usage := BitVec.ofNat 8 usage, persist := persist, origin := origin, secret := l }

/-- The bytes of a random private value or key of a TYPE: a private value lies in 1 to n − 1. -/
def State.newSecret (s : State) (typ : Nat) : State × List Byte :=
  let n := match typ with | 1 => 16 | 2 => 32 | 4 => 32 | _ => 48
  let (s1, l) := s.drbgBytes n
  if typ = 4 || typ = 5 then
    let c := curveOf (typ == 5)
    (s1, bytesBE c.len (natBE l % (c.n - 1) + 1))
  else (s1, l)

/-- KEY_GEN (R511, R520): slot 0 only in FIELD while it is empty. -/
def keyGenEffect (k : Slot) (s : State) : CribOut :=
  let a := k.arg 0
  let n := keySlotOf a
  if (s.key n).typ != 0 || (n = 0 && s.lifecycle != 2) then (s, .state, true)
  else
    let (s1, l) := s.newSecret (keyTypeOf a)
    match makeKey (keyTypeOf a) (keyUsageOf a) (flag a 24) 0 l with
    | none => let (w, s2) := s1.draw; (s2.cribError (field w 7 0), .notReady, true)
    | some x => (s1.writeKey n x (logMaster k), .done, true)

/-- The lengths in bytes a TYPE's plain form may have. -/
def keyLen (typ n : Nat) : Bool :=
  match typ with
  | 1 => n == 16 | 2 => n == 32 | 3 => decide (14 ≤ n ∧ n ≤ 64) | 4 => n == 32 | 5 => n == 48 | 6 => n == 64
  | 7 => n == 96 | _ => false

/-- KEY_IMPORT (R511, R512, R525). A plain import outside PROVISION is no approved service, so APPROVED_ONLY refuses it in
BLANK too (DEDUCED, log entry 2201). -/
def keyImportEffect (k : Slot) (s : State) : CribOut :=
  let a := k.arg 0
  let n := keySlotOf a
  let typ := keyTypeOf a
  let kek := field (k.arg 1) 5 0
  let plain := kek == 0
  let approved := !(plain && typ ≤ 5 && s.lifecycle != 1)
  if n = 0 || (s.key n).typ != 0 then (s, .state, approved)
  else if plain && typ ≤ 5 && s.lifecycle != 1 && flag (s.optWord 16) 1 then (s, .security, approved)
  else
    match s.winBytes (k.arg 2).toNat (field (k.arg 3) 9 0) with
    | (s1, .error c) => (s1, c, approved)
    | (s1, .ok l) =>
      let got : Option (List Byte) :=
        if plain then some l
        else
          match s1.aesKey kek 6 with
          | none => none
          | some w =>
            let iv := l.take 12
            let ct := (l.drop 12).take (l.length - 28)
            if gcmTag w iv (bytesLE 4 a.toNat) ct == l.drop (l.length - 16) then some (gcmCtr w iv ct) else none
      match got with
      | none => (s1, .security, approved)
      | some m =>
        match makeKey typ (keyUsageOf a) (flag a 24) 1 m with
        | none => let (w, s2) := s1.draw; (s2.cribError (field w 7 0), .notReady, approved)
        | some x => (s1.writeKey n x (logMaster k), .done, approved)

/-- KEY_PUB (R511). -/
def keyPubEffect (k : Slot) (s : State) : CribOut :=
  let x := s.key (field (k.arg 0) 5 0)
  if x.pub.isEmpty then (s, .state, true)
  else if !s.bytesWritable (k.arg 1).toNat x.pub.length then (s, .arg, true)
  else (s.winPutBytes (k.arg 1).toNat x.pub, .done, true)

/-- KEY_DELETE (R507, R511). -/
def keyDeleteEffect (k : Slot) (s : State) : CribOut :=
  let n := field (k.arg 0) 5 0
  if n = 0 && s.lifecycle > 1 then (s, .state, true)
  else
    let s1 := s.updCrib (fun c => { c with keys := Tab.set (fun _ => {}) c.keys n {} })
    (((s1.secLog 8 0 n (logMaster k)).cribEv 4), .done, true)

/-- CIPHER's data through its mode, and its tag where it has one. -/
def cipherRun (mode : Nat) (dec : Bool) (key iv aad data : List Byte) (tagLen : Nat) : List Byte × List Byte :=
  match mode with
  | 0 => (aesEcb dec key data, [])
  | 1 => (aesCbc dec key iv (blocksOf data), [])
  | 2 => (aesCtr 16 key iv (blocksOf data), [])
  | 3 =>
    let out := gcmCtr key iv data
    (out, (gcmTag key iv aad (if dec then data else out)).take tagLen)
  | _ =>
    let out := ccmCtr key iv data
    (out, ccmTag tagLen key iv aad (if dec then out else data))

/-- The lengths CIPHER works with: tag, IV or nonce, additional data. -/
def cipherLens (k : Slot) : Nat × Nat × Nat :=
  let a := k.arg 0
  let mode := field a 10 8
  let aead := decide (3 ≤ mode)
  (if aead then 2 * field a 15 12 else 0,
    if mode = 0 then 0 else if mode ≤ 2 then 16 else if mode = 3 then 12 else field a 19 16,
    if aead then field (k.arg 6) 15 0 else 0)

/-- CIPHER's arguments (R511). -/
def cipherArgs (s : State) (k : Slot) : Bool :=
  let a := k.arg 0
  let mode := field a 10 8
  let n := field (k.arg 3) 16 0
  let (t, iv, aad) := cipherLens k
  let dec := flag a 11
  decide (mode ≤ 4) && decide (n ≤ 65536)
  && (decide (mode ≥ 2) || n % 16 == 0)
  && (decide (mode < 3) || (decide (2 ≤ field a 15 12) && decide (field a 15 12 ≤ 8)))
  && (mode != 4 || (decide (7 ≤ field a 19 16) && decide (field a 19 16 ≤ 13)))
  && s.bytesInside (k.arg 1).toNat (if dec then n + t else n)
  && s.bytesWritable (k.arg 2).toNat (if dec then n else n + t)
  && s.bytesInside (k.arg 4).toNat iv && s.bytesInside (k.arg 5).toNat aad

/-- CIPHER (R511): a tag mismatch zeroes the destination. -/
def cipherEffect (k : Slot) (s : State) : CribOut :=
  let a := k.arg 0
  let n := field (k.arg 3) 16 0
  let dec := flag a 11
  let (t, ivn, aadn) := cipherLens k
  match s.aesKey (field a 5 0) (if dec then 1 else 0) with
  | none => (s, .security, true)
  | some key =>
    match s.winBytes (k.arg 1).toNat (if dec then n + t else n) with
    | (s1, .error c) => (s1, c, true)
    | (s1, .ok src) =>
      match s1.winBytes (k.arg 4).toNat ivn with
      | (s2, .error c) => (s2, c, true)
      | (s2, .ok iv) =>
        match s2.winBytes (k.arg 5).toNat aadn with
        | (s3, .error c) => (s3, c, true)
        | (s3, .ok aad) =>
          let (out, tag) := cipherRun (field a 10 8) dec key iv aad (src.take n) t
          if dec && t > 0 && tag != src.drop n then
            (s3.winPutBytes (k.arg 2).toNat (List.replicate n 0), .security, true)
          else (s3.winPutBytes (k.arg 2).toNat (if dec then out else out ++ tag), .done, true)

/-- A MAC of a slot: 0 CMAC, 1 HMAC-SHA-256, 2 HMAC-SHA-384; none for a slot of the wrong TYPE or USAGE. -/
def State.macOf (s : State) (n how : Nat) (l : List Byte) : Option (List Byte) :=
  let k := s.key n
  if how = 0 then (s.aesKey n 2).map (fun key => aesCmac key l)
  else if k.typ = 3 && k.usage.getLsbD 2 then some (hmac (how == 2) k.secret l)
  else none

/-- MAC's arguments. -/
def macArgs (s : State) (k : Slot) : Bool :=
  let a := k.arg 0
  let how := field a 9 8
  let n := field a 21 16
  let top := if how = 0 then 16 else if how = 1 then 32 else 48
  decide (how ≤ 2) && decide (4 ≤ n) && decide (n ≤ top)
  && s.bytesInside (k.arg 1).toNat (field (k.arg 2) 16 0)
  && (if flag a 11 then s.bytesInside (k.arg 3).toNat n else s.bytesWritable (k.arg 3).toNat n)

/-- MAC (R511). -/
def macEffect (k : Slot) (s : State) : CribOut :=
  let a := k.arg 0
  let n := field a 21 16
  match s.winBytes (k.arg 1).toNat (field (k.arg 2) 16 0) with
  | (s1, .error c) => (s1, c, true)
  | (s1, .ok l) =>
    match s1.macOf (field a 5 0) (field a 9 8) l with
    | none => (s1, .security, true)
    | some m =>
      if flag a 11 then
        match s1.winBytes (k.arg 3).toNat n with
        | (s2, .error c) => (s2, c, true)
        | (s2, .ok want) =>
          if m.take n == want then (s2, .done, true)
          else (s2.authFail 2 (field a 5 0) (logMaster k), .security, true)
      else (s1.winPutBytes (k.arg 3).toNat (m.take n), .done, true)

/-- HASH's arguments. -/
def hashArgs (s : State) (k : Slot) : Bool :=
  let a := k.arg 0
  let n := field (k.arg 2) 23 0
  decide (n ≤ 8388608)
  && (if flag a 8 then decide ((k.arg 1).toNat + n ≤ 0x1000000) else s.bytesInside (k.arg 1).toNat n)
  && s.bytesWritable (k.arg 3).toNat (if flag a 0 then 48 else 32)

/-- HASH (R511). -/
def hashEffect (k : Slot) (s : State) : CribOut :=
  let a := k.arg 0
  let n := field (k.arg 2) 23 0
  let (s1, got) : State × Except Code (List Byte) :=
    if flag a 8 then
      match s.flashBytes (slotMaster k) (k.arg 1).toNat n with
      | (t, some l) => (t, .ok l)
      | (t, none) => (t, .error .integrity)
    else s.winBytes (k.arg 1).toNat n
  match got with
  | .error c => (s1, c, true)
  | .ok l => (s1.winPutBytes (k.arg 3).toNat (sha (flag a 0) l), .done, true)

/-- SIGN (R511): the nonce is the DRBG's. -/
def signEffect (k : Slot) (s : State) : CribOut :=
  let x := s.key (field (k.arg 0) 5 0)
  if (x.typ != 4 && x.typ != 5) || !x.usage.getLsbD 3 then (s, .security, true)
  else
    let c := curveOf (x.typ == 5)
    if !s.bytesInside (k.arg 1).toNat c.len || !s.bytesWritable (k.arg 2).toNat (2 * c.len) then (s, .arg, true)
    else
      match s.winBytes (k.arg 1).toNat c.len with
      | (s1, .error e) => (s1, e, true)
      | (s1, .ok digest) =>
        let (s2, l) := s1.drbgBytes c.len
        let sig := c.sign (natBE x.secret) (natBE l % (c.n - 1) + 1) digest
        (s2.winPutBytes (k.arg 2).toNat sig, .done, true)

/-- The curve of a VERIFY: that of the key given with it, or of its slot. -/
def State.verifyCurve (s : State) (k : Slot) : Curve :=
  curveOf (if flag (k.arg 0) 8 then flag (k.arg 0) 9 else (s.key (field (k.arg 0) 5 0)).typ == 7)

/-- VERIFY's arguments: digest, signature and a key given with them lie in regions (R64, R511). -/
def verifyArgs (s : State) (k : Slot) : Bool :=
  let c := s.verifyCurve k
  s.bytesInside (k.arg 1).toNat c.len && s.bytesInside (k.arg 2).toNat (2 * c.len)
  && (!flag (k.arg 0) 8 || s.bytesInside (k.arg 3).toNat (2 * c.len))

/-- VERIFY (R511). -/
def verifyEffect (k : Slot) (s : State) : CribOut :=
  let a := k.arg 0
  let x := s.key (field a 5 0)
  let given := flag a 8
  if !given && ((x.typ != 6 && x.typ != 7) || !x.usage.getLsbD 4) then (s, .security, true)
  else
    let c := s.verifyCurve k
    match s.winBytes (k.arg 1).toNat c.len with
    | (s1, .error e) => (s1, e, true)
    | (s1, .ok digest) =>
      match s1.winBytes (k.arg 2).toNat (2 * c.len) with
      | (s2, .error e) => (s2, e, true)
      | (s2, .ok sig) =>
        let (s3, pub) : State × Except Code (List Byte) :=
          if given then s2.winBytes (k.arg 3).toNat (2 * c.len) else (s2, .ok x.pub)
        match pub with
        | .error e => (s3, e, true)
        | .ok q =>
          if c.verify q digest sig then (s3, .done, true)
          else (s3.authFail 1 (if given then 0 else field a 5 0) (logMaster k), .security, true)

/-- ECDH's arguments. -/
def ecdhArgs (s : State) (k : Slot) : Bool :=
  let a := k.arg 0
  let typ := field a 19 16
  decide (1 ≤ typ) && decide (typ ≤ 3) && usageOk typ (field a 31 24)
  && s.bytesInside (k.arg 2).toNat (field (k.arg 3) 7 0)

/-- ECDH (R511): the key for DEST is derived from Z by the one-step KDF. -/
def ecdhEffect (k : Slot) (s : State) : CribOut :=
  let a := k.arg 0
  let x := s.key (field a 5 0)
  let dest := field a 13 8
  let typ := field a 19 16
  if (x.typ != 4 && x.typ != 5) || !x.usage.getLsbD 5 then (s, .security, true)
  else if dest = 0 || (s.key dest).typ != 0 then (s, .state, true)
  else
    let c := curveOf (x.typ == 5)
    if !s.bytesInside (k.arg 1).toNat (2 * c.len) then (s, .arg, true)
    else
      match s.winBytes (k.arg 1).toNat (2 * c.len) with
      | (s1, .error e) => (s1, e, true)
      | (s1, .ok peer) =>
        match s1.winBytes (k.arg 2).toNat (field (k.arg 3) 7 0) with
        | (s2, .error e) => (s2, e, true)
        | (s2, .ok info) =>
          match c.ecdh (natBE x.secret) peer with
          | none => (s2, .security, true)
          | some z =>
            let key := kdf z info (if typ = 1 then 16 else if typ = 2 then 32 else 48)
            let slot : KeySlot :=
              { typ := typ, usage := BitVec.ofNat 8 (field a 31 24), persist := flag (k.arg 3) 8, origin := 2
                secret := key }
            (s2.writeKey dest slot (logMaster k), .done, true)

/-- RANDOM (R510, R511). -/
def randomEffect (k : Slot) (s : State) : CribOut :=
  let s1 := if flag (k.arg 2) 0 then s.reseedDrbg else s
  let (s2, l) := s1.drbgBytes (field (k.arg 1) 16 0)
  (s2.winPutBytes (k.arg 0).toNat l, .done, true)

/-- Fuses blown are counted (R530). -/
def State.blow (s : State) (n : Nat) : State := s.updRg 0x04 0x048 (fun w => satField w 15 8 n)

/-- A lifecycle step taken: logged and signalled (R514, R526). -/
def State.lifeStep (s : State) (new : Nat) (k : Slot) : State :=
  ((s.blow 1).secLog 4 new 0 (logMaster k)).cribEv 3

/-- LIFECYCLE (R514). -/
def lifecycleEffect (k : Slot) (s : State) : CribOut :=
  let target := field (k.arg 0) 1 0
  let rootGood := (s.fuse.root0.isSome && !s.fuse.revoked0) || (s.fuse.root1.isSome && !s.fuse.revoked1)
  if target = 1 && s.lifecycle = 0 then
    let s1 := State.lifeStep { s with fuse := { s.fuse with p := true } } 1 k
    let (s2, l) := s1.newSecret 5
    match makeKey 5 0x28 true 0 l with
    | none => let (w, s3) := s2.draw; (s3.cribError (field w 7 0), .notReady, true)
    | some x => (s2.writeKey 0 x (logMaster k), .done, true)
  else if target = 2 && s.lifecycle = 1 && rootGood && (s.key 0).typ != 0 then
    (State.lifeStep { s with fuse := { s.fuse with f := true } } 2 k, .done, true)
  else if target = 3 && s.lifecycle != 3 then
    let s1 := s.zeroiseCrib (logMaster k)
    (State.lifeStep { s1 with fuse := { s1.fuse with d := true } } 3 k, .done, true)
  else (s, .state, true)

/-- ROOT_SET (R515). -/
def rootSetEffect (k : Slot) (s : State) : CribOut :=
  let i := field (k.arg 0) 0 0
  let u := s.fuse
  let good0 := u.root0.isSome && !u.revoked0
  let good1 := u.root1.isSome && !u.revoked1
  if flag (k.arg 0) 8 then
    if (i = 0 && good0 && !good1) || (i = 1 && good1 && !good0) then (s, .state, true)
    else
      let s1 : State := { s with fuse := if i = 0 then { u with revoked0 := true } else { u with revoked1 := true } }
      (((s1.blow 1).secLog 5 (i + 8) 0 (logMaster k)), .done, true)
  else if s.lifecycle > 1 || (if i = 0 then u.root0.isSome else u.root1.isSome) then (s, .state, true)
  else
    match s.winBytes (k.arg 1).toNat 48 with
    | (s1, .error c) => (s1, c, true)
    | (s1, .ok l) =>
      let s2 : State := { s1 with fuse := if i = 0 then { u with root0 := some l } else { u with root1 := some l } }
      (((s2.blow 384).secLog 5 i 0 (logMaster k)), .done, true)

/-- DEBUG_CLOSE (R516): DEBUG as owner lapses, and the debug module's TAP instructions act as BYPASS (R548). -/
def debugCloseEffect (k : Slot) (s : State) : CribOut :=
  let s1 : State := { s with
    fuse := { s.fuse with debugClosed := true }
    tap := if s.tap.ir == 0x10 || s.tap.ir == 0x11 then { ir := 0x1F } else s.tap }
  let s2 := (s1.blow 1).secLog 6 0 0 (logMaster k)
  let s3 := { s2 with core := { s2.core with halted := false } }
  (if s3.holds .debug then (s3.evPulse 0x01 1).changeOwner 0x9 none 0xF else s3, .done, true)

/-- SELFTEST (R522, R523): the power-up tests run, and pass or lead to the error state. -/
def selftestEffect (failed : Option Byte) (_ : Slot) (s : State) : CribOut :=
  let s1 := s.updRg 0x3A 0x064 (fun w => satField (setFlag w 0 failed.isNone) 31 16 1)
  match failed with
  | none => (s1, .done, true)
  | some t => (s1.cribError t.toNat, .notReady, true)

/-- ZEROISE (R520). -/
def zeroiseEffect (k : Slot) (s : State) : CribOut := (s.zeroiseCrib (logMaster k), .done, true)

/-- RESEED (R510). -/
def reseedEffect (_ : Slot) (s : State) : CribOut := (s.reseedDrbg, .done, true)

/-- A TAMPER_CFG write (R529). -/
def tamperCfgEffect (v : Word) (s : State) : State × Code :=
  if flag (s.rg 0x3A 0x05C) 31 then (s, .state) else (s.setRg 0x3A 0x05C (v &&& 0x800000FF), .done)

/-- KEY_GEN (R511). -/
def execKeyGen (tag : Fin 128) (s : State) : Host.Outcome State Fault Refusal :=
  .next (s.cribOp tag.val 0x01
    (fun _ k => [1, 2, 4, 5].contains (keyTypeOf (k.arg 0)) && usageOk (keyTypeOf (k.arg 0)) (keyUsageOf (k.arg 0)))
    keyGenEffect)

/-- KEY_IMPORT (R511). -/
def execKeyImport (tag : Fin 128) (s : State) : Host.Outcome State Fault Refusal :=
  .next (s.cribOp tag.val 0x02
    (fun t k =>
      let n := field (k.arg 3) 9 0
      usageOk (keyTypeOf (k.arg 0)) (keyUsageOf (k.arg 0))
      && (if field (k.arg 1) 5 0 = 0 then keyLen (keyTypeOf (k.arg 0)) n
          else decide (28 ≤ n) && keyLen (keyTypeOf (k.arg 0)) (n - 28))
      && t.bytesInside (k.arg 2).toNat n) keyImportEffect)

/-- KEY_PUB (R511). -/
def execKeyPub (tag : Fin 128) (s : State) : Host.Outcome State Fault Refusal :=
  .next (s.cribOp tag.val 0x03 (fun _ _ => true) keyPubEffect)

/-- KEY_DELETE (R507). -/
def execKeyDelete (tag : Fin 128) (s : State) : Host.Outcome State Fault Refusal :=
  .next (s.cribOp tag.val 0x04 (fun _ _ => true) keyDeleteEffect)

/-- CIPHER (R511). -/
def execCipher (tag : Fin 128) (s : State) : Host.Outcome State Fault Refusal :=
  .next (s.cribOp tag.val 0x05 cipherArgs cipherEffect)

/-- MAC (R511). -/
def execMac (tag : Fin 128) (s : State) : Host.Outcome State Fault Refusal :=
  .next (s.cribOp tag.val 0x06 macArgs macEffect)

/-- HASH (R511); a flash source on a busy bank is waited for (R284). -/
def execHash (tag : Fin 128) (s : State) : Host.Outcome State Fault Refusal :=
  let k := s.slot tag.val
  .next
    (if flag (k.arg 0) 8 && s.cribUp && hashArgs s k && s.flashBusy (k.arg 1).toNat (field (k.arg 2) 23 0) then s
     else s.cribOp tag.val 0x07 hashArgs hashEffect)

/-- SIGN (R511). -/
def execSign (tag : Fin 128) (s : State) : Host.Outcome State Fault Refusal :=
  .next (s.cribOp tag.val 0x08 (fun _ _ => true) signEffect)

/-- VERIFY (R511). -/
def execVerify (tag : Fin 128) (s : State) : Host.Outcome State Fault Refusal :=
  .next (s.cribOp tag.val 0x09 verifyArgs verifyEffect)

/-- ECDH (R511). -/
def execEcdh (tag : Fin 128) (s : State) : Host.Outcome State Fault Refusal :=
  .next (s.cribOp tag.val 0x0A ecdhArgs ecdhEffect)

/-- RANDOM (R510). -/
def execRandom (tag : Fin 128) (s : State) : Host.Outcome State Fault Refusal :=
  .next (s.cribOp tag.val 0x0B
    (fun t k =>
      let n := field (k.arg 1) 16 0
      decide (1 ≤ n) && decide (n ≤ 65536) && t.bytesWritable (k.arg 0).toNat n) randomEffect)

/-- LIFECYCLE (R514). -/
def execLifecycle (tag : Fin 128) (s : State) : Host.Outcome State Fault Refusal :=
  .next (s.cribOp tag.val 0x0C (fun _ k => field (k.arg 0) 31 24 == 0xE1) lifecycleEffect)

/-- ROOT_SET (R515). -/
def execRootSet (tag : Fin 128) (s : State) : Host.Outcome State Fault Refusal :=
  .next (s.cribOp tag.val 0x0D (fun t k => flag (k.arg 0) 8 || t.bytesInside (k.arg 1).toNat 48) rootSetEffect)

/-- DEBUG_CLOSE (R516). -/
def execDebugClose (tag : Fin 128) (s : State) : Host.Outcome State Fault Refusal :=
  .next (s.cribOp tag.val 0x0E (fun _ k => field (k.arg 0) 31 24 == 0xDC) debugCloseEffect)

/-- SELFTEST (R522). -/
def execSelftest (tag : Fin 128) (failed : Option (BitVec 8)) (s : State) : Host.Outcome State Fault Refusal :=
  .next (s.cribOp tag.val 0x0F (fun _ _ => true) (selftestEffect failed))

/-- ZEROISE (R520). -/
def execZeroise (tag : Fin 128) (s : State) : Host.Outcome State Fault Refusal :=
  .next (s.cribOp tag.val 0x10 (fun _ k => field (k.arg 0) 31 24 == 0x0E) zeroiseEffect)

/-- RESEED (R510). -/
def execReseed (tag : Fin 128) (s : State) : Host.Outcome State Fault Refusal :=
  .next (s.cribOp tag.val 0x11 (fun _ _ => true) reseedEffect)

/-- HEALTH_TEST_FAIL (R509): counted, and the Crib's error state. -/
def execHealthTestFail (apt : Bool) (s : State) : Host.Outcome State Fault Refusal :=
  .next
    (if s.unavailable .crib || s.dead then s
     else
       let s1 := s.updRg 0x3A 0x068 (fun w => if apt then satField w 31 16 1 else satField w 15 0 1)
       let (w, s2) := s1.draw
       s2.cribError (field w 7 0))

/-- TAMPER_CFG_WRITE (R529). -/
def execTamperCfgWrite (m : Master) (v : Word) (s : State) : Host.Outcome State Fault Refusal :=
  .next (s.write m 0x3A 0x05C v (tamperCfgEffect v))

end Sys2Proof.Machine
end

