-- ==== Sys2Proof/Machine/Granary.lean ====
section
/-!
DEFINITION. GRANARY's placement engine (R259 to R279): regions, migration, pins, the Loft, handler
declarations, background and bank tests, the memory window's commands.
-/
namespace Sys2Proof.Machine

/-! ### Regions: DECLARE, RELEASE, RESIZE -/

/-- The sizes a purpose allows (R262). -/
def sizeAllowed (purpose n : Nat) : Bool :=
  match purpose with
  | 0 => decide (16 ≤ n ∧ n ≤ 512)
  | 1 => decide (4 ≤ n ∧ n ≤ 128)
  | 2 => decide (8 ≤ n ∧ n ≤ 512)
  | 3 => decide (4 ≤ n ∧ n ≤ 256)
  | 4 => decide (1 ≤ n ∧ n ≤ 512)
  | _ => false

/-- Whether a handle may hold a purpose (R262). -/
def handleAllowed (purpose h : Nat) : Bool := if purpose = 4 then decide (4 ≤ h) else h == purpose

/-- n frames chosen by the engine among the free ones outside the Loft (R571): its own choice. -/
def State.takeFrames (s : State) : Nat → List Nat → State × List Nat
  | 0, _ => (s, [])
  | n + 1, free =>
    match s.pickFrom free with
    | (s1, none) => (s1, [])
    | (s1, some f) =>
      let (s2, rest) := s1.takeFrames n (free.filter (· != f))
      (s2, f :: rest)

/-- The runs of a list of frames: consecutive frames of one bank, as (first, count) (R571). -/
def frameRuns : List Nat → List (Nat × Nat)
  | [] => []
  | f :: rest =>
    match frameRuns rest with
    | (g, n) :: more => if g == f + 1 && g / 32 == f / 32 then (f, n + 1) :: more else (f, 1) :: (g, n) :: more
    | [] => [(f, 1)]

/-- The PLACE records of newly allocated frames: reason 1 DECLARE, 2 RESIZE (R571). -/
def State.placeRuns (s : State) (reason h : Nat) (frames : List Nat) : State :=
  (frameRuns frames.mergeSort).foldl
    (fun acc (f, n) => acc.place 1 reason h (f / 32) 0xFF (pack [(0, 11, f), (16, 5, n - 1)])) s

/-- POOL_SIZE and POOL_FREE follow the QUEUE region's size (R253, R262). -/
def State.resizePool (s : State) (old new : Nat) : State :=
  let s1 := s.setRg 0x1B 0x040 (BitVec.ofNat 32 (4096 * new))
  s1.updRg 0x1B 0x044 (fun w => w + BitVec.ofNat 32 (4096 * new) - BitVec.ofNat 32 (4096 * old))

/-- Queue storage in use, in bytes. -/
def State.poolUsed (s : State) : Nat := (s.rg 0x1B 0x040).toNat - (s.rg 0x1B 0x044).toNat

/-- A region grows by n frames, or BUSY when the reserve of 32 free frames would not be left (R264). -/
def State.grow (s : State) (reason h n : Nat) (r : Region) : State × Code :=
  let free := s.freeList 1472
  if s.freeFrames < n + 32 || free.length < n then (s, .busy)
  else
    let (s1, got) := s.takeFrames n free
    let s2 := (s1.setRegion h (some { r with frames := r.frames ++ got })).placeRuns reason h got
    (s2.refreshNolog, .done)

/-- DECLARE (R276). -/
def declareEffect (k : Slot) (s : State) : State × Option Code :=
  let h := field (k.arg 0) 5 0
  let purpose := field (k.arg 0) 10 8
  let n := field (k.arg 1) 9 0
  match s.region h with
  | some _ => (s, some .state)
  | none =>
    let (s1, c) := s.grow 1 h n { purpose := purpose }
    (s1, some c)

/-- Whether a queue with CONS 5 is enabled. -/
def State.logQueues (s : State) : Bool :=
  (List.range 32).any (fun n => qEn (s.qcfg n) && qCons (s.qcfg n) == 5 && n != 0)

/-- Whether the block that uses a RADIO or FIELD region is enabled: LINK or READER (R264). -/
def State.regionInUse (s : State) (h : Nat) : Bool :=
  if h = 2 then flag (s.rg 0x2A 0x008) 0 else if h = 3 then flag (s.rg 0x22 0x008) 0 else false

/-- Frames returned to the free pool, zeroed (R264). -/
def State.freeFramesOf (s : State) (l : List Nat) : State := l.foldl (fun acc f => acc.zeroFrame f) s

/-- What leaves with the FIELD region: steering, points, the map, the home table and every held value's
HAS_VALUE (R323, R352). -/
def State.dropFieldData (s : State) : State :=
  let keep (a : Nat) : Bool := a < ra 0x21 0x200 || a ≥ ra 0x22 0x000
  { s with
    regs := Tab.keep keep s.regs
    fld := { s.fld with
      map := [], home := []
      held := (s.fld.held.map (fun e => (e.1, { e.2 with has := false }))).filter (fun e => e.2 != {}) } }

/-- What leaves with the RADIO region: the pre-distorter's coefficients, proposals, saved taps, the down table,
relayed fragments, messages being put together, delivery buffers (R374, R381, R383, R398, R408). -/
def State.dropRadioData (s : State) : State :=
  let keep (a : Nat) : Bool := a < ra 0x28 0x200 || a ≥ ra 0x29 0x000
  { s with
    regs := Tab.keep keep s.regs
    link := { s.link with
      peers := s.link.peers.map (fun e => (e.1, e.2.map (fun p => { p with prop := none, taps := [] })))
      down := [], routes := [], reasm := [], bufs := [], packets := []
      msgs := s.link.msgs.filter (fun m => m.kind != .relay) } }

/-- RELEASE (R264, R276). -/
def regionReleaseEffect (k : Slot) (s : State) : State × Option Code :=
  let h := field (k.arg 0) 5 0
  match s.region h with
  | none => (s, some .state)
  | some r =>
    if h = 1 && s.logQueues then (s, some .state)
    else if s.regionInUse h then (s, some .state)
    else
      let s1 := ((s.setRegion h none).freeFramesOf r.frames).refreshNolog
      (if h = 3 then s1.dropFieldData else if h = 2 then s1.dropRadioData else s1, some .done)

/-- RESIZE's arguments: a size the region's purpose allows (R64, R262). -/
def State.resizeArgs (s : State) (k : Slot) : Bool :=
  let n := field (k.arg 1) 9 0
  match s.region (field (k.arg 0) 5 0) with
  | none => decide (1 ≤ n) && decide (n ≤ 512)
  | some r => sizeAllowed r.purpose n

/-- RESIZE (R264, R276). -/
def resizeEffect (k : Slot) (s : State) : State × Option Code :=
  let h := field (k.arg 0) 5 0
  let n := field (k.arg 1) 9 0
  match s.region h with
  | none => (s, some .state)
  | some r =>
    let old := r.frames.length
    if h = 0 && 4096 * n < s.poolUsed then (s, some .state)
    else if h = 2 && flag (s.rg 0x2A 0x05C) 5 && n < field (s.rg 0x2A 0x05C) 11 8 + 4 then (s, some .state)
    else if n ≤ old then
      let s1 := (s.setRegion h (some { r with frames := r.frames.take n })).freeFramesOf (r.frames.drop n)
      (if h = 0 then s1.resizePool old n else s1, some .done)
    else
      let (s1, c) := s.grow 2 h (n - old) r
      (if h = 0 && c = .done then s1.resizePool old n else s1, some c)

/-! ### Pins -/

/-- Frames that must move for a region to stand in the Loft (2) or a bank (3), and the banks allowed. -/
def placeFrames (frames : List Nat) (loc bank : Nat) : List Nat × List Nat :=
  let banks := if loc = 2 then [46, 47] else [bank]
  (frames.filter (fun f => !banks.contains (f / 32)), banks)

/-- PIN, or MIGRATE without pinning (R268, R276); one whose frames are on their way is left to them. -/
def pinEffect (pinning : Bool) (tag : Nat) (k : Slot) (s : State) : State × Option Code :=
  let h := field (k.arg 0) 5 0
  let w := field (k.arg 0) 9 8
  let b := field (k.arg 0) 21 16
  if s.gran.jobs.any (fun j => j.slot == some (BitVec.ofNat 7 tag)) then (s, none)
  else
  match s.region h with
  | none => (s, some .state)
  | some r =>
    if !pinning && r.pin != 0 then (s, some .state)
    else if w ≤ 1 then ((s.setPin h w 0).nextCopy 2048, some .done)
    else if w = 3 && !s.bankGood b then (s, some .state)
    else
      let (move, banks) := placeFrames r.frames w b
      let bank := if w = 3 then b else 0
      if (s.moveTargets (some banks)).length < move.length then (s, some .busy)
      else if move = [] then
        (if pinning then (s.setPin h w bank).nextCopy 2048 else s, some .done)
      else
        (s.addJob
          { region := some h, reason := 4, banks := some banks, slot := some (BitVec.ofNat 7 tag)
            pin := if pinning then some (h, w, bank) else none }, none)

/-! ### The Loft -/

/-- A frame's score: the smaller of its two counts; a QUEUE frame's is a free value, since the manual
does not define where items lie within the region (R265, R267). -/
def State.scoreOf (s : State) (f : Nat) : State × Nat :=
  if (s.framesOf 0).contains f then
    let (w, s1) := s.draw
    (s1, w.toNat)
  else (s, min (Tab.get (fun _ => 0) s.gran.near f) (Tab.get (fun _ => 0) s.gran.far f))

/-- The scores of a list of frames. -/
def State.scores (s : State) : List Nat → State × List (Nat × Nat)
  | [] => (s, [])
  | f :: rest =>
    let (s1, n) := s.scoreOf f
    let (s2, l) := s1.scores rest
    (s2, (n, f) :: l)

/-- A frame is to enter or leave the Loft, by a copy of its own (REASON 1). -/
def State.loftMove (s : State) (f : Nat) (into : Bool) : State :=
  s.addJob { frames := [f], reason := 1, banks := if into then some [46, 47] else none }

/-- Whether a candidate outscores a Loft frame by at least 25 %; each is its score and its frame (R267). -/
def outscores (c l : Nat × Nat) : Bool := decide (4 * c.1 ≥ 5 * l.1) && decide (c.1 > l.1)

/-- Each candidate, best first, displaces the weakest Loft frame it has outscored in this second and in the one before;
`before` holds the pairs of that one, each a candidate and a Loft frame (R267). -/
def State.loftPairs (s : State) (before : List (Nat × Nat)) : List (Nat × Nat) → List (Nat × Nat) → State
  | [], _ => s
  | c :: rest, loft =>
    match loft.find? (fun l => outscores c l && before.contains (c.2, l.2)) with
    | none => s.loftPairs before rest loft
    | some l =>
      ((s.loftMove l.2 false).loftMove c.2 true).loftPairs before rest (loft.filter (fun x => x.2 != l.2))

/-- The end of a whole second: frames scored, the Loft rearranged while AUTO is 1 and the device is not
in GUARD, the counts cleared (R267, R275). -/
def State.scoreLoft (s : State) : State :=
  let cfg := s.rg 0x1C 0x088
  let frames := (List.range 64).flatMap s.framesOf
  let movable := frames.filter (fun f => !s.framePinned f)
  let (s1, all) := s.scores movable
  let cand := ((all.filter (fun e => e.2 < 1472 && e.1 ≥ field cfg 15 8)).mergeSort
    (fun a b => decide (a.1 ≥ b.1)))
  let loft := ((all.filter (fun e => e.2 ≥ 1472)).mergeSort (fun a b => decide (a.1 ≤ b.1)))
  let room := (s1.moveTargets (some [46, 47])).length
  let now := cand.flatMap (fun c => (loft.filter (outscores c)).map (fun l => (c.2, l.2)))
  let s2 : State := { s1 with gran := { s1.gran with near := [], far := [], streak := now } }
  if flag cfg 0 && s2.pwr.depth != .guard then
    let s3 := (cand.take room).foldl (fun acc e => acc.loftMove e.2 true) s2
    s3.loftPairs s1.gran.streak (cand.drop room) loft
  else s2

/-! ### Handlers -/

/-- A handler. -/
def State.handler (s : State) (n : Nat) : Option Handler := Tab.get (fun _ => none) s.gran.handlers n

/-- A handler given a declaration. -/
def State.setHandler (s : State) (n : Nat) (h : Option Handler) : State :=
  { s with gran := { s.gran with handlers := Tab.set (fun _ => none) s.gran.handlers n h } }

/-- A bit of HRAISE takes a value; the handler's INTC source follows (R269). -/
def State.setHraise (s : State) (n : Nat) (b : Bool) : State :=
  (s.updRg 0x1C 0x084 (fun w => setFlag w n b)).settle s (0x70 + n)

/-- HDECLARE (R276). -/
def hdeclareEffect (k : Slot) (s : State) : State × Option Code :=
  let a := k.arg 0
  let n := field a 4 0
  if flag a 22 then
    match s.handler n with
    | none => (s, some .done)
    | some _ => ((s.setHandler n none).setHraise n false, some .done)
  else
    let h : Handler :=
      { channel := field a 13 8, thread := field a 19 16, gform := flag a 20, cform := flag a 21 }
    let s1 := s.setHandler n (some h)
    (if h.cform then s1 else s1.setHraise n false, some .done)

/-- HPIN (R276). -/
def hpinEffect (k : Slot) (s : State) : State × Option Code :=
  let n := field (k.arg 0) 4 0
  let w := field (k.arg 0) 9 8
  match s.handler n with
  | none => (s, some .state)
  | some h =>
    if (w = 1 && !h.gform) || (w = 2 && !h.cform) then (s, some .state)
    else (s.setHandler n (some { h with pin := w }), some .done)

/-- A W1C write of HRAISE (R269). -/
def hraiseEffect (v : Word) (s : State) : State × Code :=
  ((List.range 32).foldl (fun acc n => if flag v n then acc.setHraise n false else acc) s, .done)

/-- A CTX_RES write: ARG when the reservations sum to more than the contexts in service (R263). -/
def ctxResEffect (v : Word) (s : State) : State × Code :=
  if field v 7 0 + field v 15 8 + field v 23 16 > s.ctxService then (s, .arg)
  else (s.setRg 0x1C 0x06C (v &&& 0x00FFFFFF), .done)

/-! ### Background and bank tests -/

/-- Every frame of a bank moved to free frames of other banks at once, with its records (R273). -/
def State.clearBank (s : State) (b : Nat) : State :=
  (((List.range 64).flatMap s.framesOf).filter (fun f => f / 32 == b)).foldl
    (fun acc f =>
      match acc.pickFrom ((acc.freeList 1472).filter (fun g => g / 32 != b)) with
      | (a1, none) => a1
      | (a1, some d) => (a1.place 2 2 ((a1.regionOf f).getD 0xFF) (d / 32) b (BitVec.ofNat 32 f)).moveFrame f d)
    s

/-- Whether a bank test skips a bank: it holds pinned frames, or 32 free frames cannot be found (R273). -/
def State.skipBank (s : State) (b : Nat) : Bool :=
  (((List.range 64).flatMap s.framesOf).any (fun f => f / 32 == b && s.framePinned f))
  || decide (((s.freeList 1472).filter (fun g => g / 32 != b)).length < 32)

/-- A test failure of kind `fault` in a bank's region: FREC, FSTAMP, FAILS, EVRAW.FAIL, DEGRADED (R274). -/
def State.testFail (s : State) (bank region fault : Nat) : State :=
  let s1 := (s.setRg 0x1D 0x054 (pack [(0, 6, bank), (6, 9, region), (15, 4, fault), (31, 1, 1)])).setPair
    0x1D 0x058 s.now
  ((((s1.updRg 0x1D 0x050 (fun w => satField w 15 0 1)).evPulse 0x1D 1).faultRec 0x0A 0x1D bank).refreshGranary).setDegraded 0x1D true

/-- A bank retired by a test (R274); one that is out of service already stays so, and is not counted again
(DESIGN CHOICE, log entry 1203). -/
def State.retireBank (s : State) (b : Nat) : State :=
  if s.bankGood b then (s.updRg 0x1D 0x050 (fun w => satField w 31 24 1)).suspectBank b else s

/-- Whether a bank test must wait: GRANARY in GUARD, a copy in progress, or a region of the bank under test (R266,
R273, R275). -/
def State.bankWaits (s : State) (b : Nat) : Bool :=
  s.pwr.depth == .guard || s.gran.copy.isSome || s.gran.test.any (fun r => r < 24576 && r / 512 == b)

/-- A bank test fails: the region and the fault it names are what the test found, free values (R274). -/
def State.bankFails (s : State) (b : Nat) : State :=
  let (w, s1) := s.draw
  (s1.testFail b (field w 8 0) (1 + field w 10 9)).retireBank b

/-- One bank test: the bank cleared, tested, and returned or retired; the answer is none when it is
skipped (R273, R274). -/
def State.testBank (s : State) (b : Nat) (pass : Bool) : State × Option Bool :=
  let next := if b ≥ 47 then 0 else b + 1
  let stat (t : State) (fail skip : Bool) : State :=
    (t.updRg 0x1D 0x04C (fun w =>
      setField (setFlag (setFlag (setField w 5 0 b) 6 fail) 7 skip) 13 8 next)).evPulse 0x1D 2
  if s.skipBank b then (stat s false true, none)
  else
    let s1 := (stat (s.clearBank b) (!pass) false).updRg 0x1D 0x04C (fun w => satField w 31 16 1)
    if pass then (s1, some true) else (s1.bankFails b, some false)

/-- A bank returned to service by BANK_RETURN (R259, R276). -/
def State.returnBank (s : State) (b : Nat) : State :=
  let off := if b < 32 then 0 else 4
  let i := b % 32
  let s1 := (s.updRg 0x1C (0x048 + off) (fun w => setFlag w i true)).updRg 0x1C (0x050 + off)
    (fun w => setFlag w i false)
  ({ s1 with gran := { s1.gran with
      errors := Tab.set (fun _ => []) s1.gran.errors b []
      retired := s1.gran.retired.filter (fun f => f / 32 != b) } } : State).refreshGranary

/-- The region under test fails: its frame, bank or context row is retired, once (R274). An unpinned frame in use is to
be moved when copies run; a pinned one stays (R268, R275). -/
def State.regionFails (s : State) (r fault : Nat) : State :=
  if r < 24576 then
    let f := r / 16
    let b := f / 32
    let s1 := s.testFail b (r % 512) fault
    if s1.gran.retired.contains f then s1
    else
      let s2 : State := { s1.updRg 0x1D 0x050 (fun w => satField w 23 16 1) with
        gran := { s1.gran with retired := s1.gran.retired ++ [f] } }
      let s3 :=
        if (s2.regionOf f).isSome && !s2.framePinned f then s2.addJob { frames := [f], reason := 5 }
        else (s2.frameRetire f 0xFF).redirectCopy
      if (s3.gran.retired.filter (fun g => g / 32 == b)).length ≥ 4 then s3.retireBank b else s3
  else
    let c := r - 24576
    let s1 := s.testFail 48 c fault
    if s1.gran.spares > 0 then { s1 with gran := { s1.gran with spares := s1.gran.spares - 1 } }
    else if s1.gran.withdrawn.contains c then s1
    else { s1 with gran := { s1.gran with withdrawn := s1.gran.withdrawn ++ [c] } }

/-- A region test ends; after the last region the pass is complete, and a PASS operation ends (R272, R277). -/
def State.endRegionTest (s : State) (fault : Option Nat) : State :=
  match s.gran.test with
  | none => s
  | some r =>
    let s1 : State := { s with gran := { s.gran with test := none } }
    let s2 :=
      match fault with
      | none => s1
      | some k => ({ s1 with gran := { s1.gran with passFailed := true } } : State).regionFails r k
    if r + 1 < 24832 then s2.setRg 0x1D 0x044 (BitVec.ofNat 32 (r + 1))
    else
      let s3 := ((s2.setRg 0x1D 0x044 0).updRg 0x1D 0x048 (fun w => w + 1)).evPulse 0x1D 0
      let s4 :=
        match s3.gran.pass with
        | some t => s3.setResult t.toNat (if s3.gran.passFailed then .integrity else .done)
        | none => s3
      { s4 with gran := { s4.gran with
          pass := none, passFailed := false, bankDue := flag (s4.rg 0x1D 0x040) 24 } }

/-! ### Commands -/

/-- DECLARE (R276). -/
def execDeclare (tag : Fin 128) (s : State) : Host.Outcome State Fault Refusal :=
  .next (s.runOp tag.val 0x1C 1
    (fun k => handleAllowed (field (k.arg 0) 10 8) (field (k.arg 0) 5 0)
      && sizeAllowed (field (k.arg 0) 10 8) (field (k.arg 1) 9 0))
    declareEffect)

/-- RELEASE (R276). -/
def execRegionRelease (tag : Fin 128) (s : State) : Host.Outcome State Fault Refusal :=
  .next (s.runOp tag.val 0x1C 2 (fun k => field (k.arg 0) 5 0 != 0) regionReleaseEffect)

/-- RESIZE (R276). -/
def execResize (tag : Fin 128) (s : State) : Host.Outcome State Fault Refusal :=
  .next (s.runOp tag.val 0x1C 3 s.resizeArgs resizeEffect)

/-- PIN (R268, R276). -/
def execPin (tag : Fin 128) (s : State) : Host.Outcome State Fault Refusal :=
  .next (s.runOp tag.val 0x1C 4
    (fun k => field (k.arg 0) 9 8 != 3 || decide (field (k.arg 0) 21 16 < 48)) (pinEffect true tag.val))

/-- MIGRATE (R276). -/
def execMigrate (tag : Fin 128) (s : State) : Host.Outcome State Fault Refusal :=
  .next (s.runOp tag.val 0x1C 5
    (fun k => field (k.arg 0) 9 8 == 2 || (field (k.arg 0) 9 8 == 3 && decide (field (k.arg 0) 21 16 < 48)))
    (pinEffect false tag.val))

/-- HDECLARE (R276). -/
def execHdeclare (tag : Fin 128) (s : State) : Host.Outcome State Fault Refusal :=
  .next (s.runOp tag.val 0x1C 6
    (fun k => flag (k.arg 0) 20 || flag (k.arg 0) 21 || flag (k.arg 0) 22) hdeclareEffect)

/-- HPIN (R276). -/
def execHpin (tag : Fin 128) (s : State) : Host.Outcome State Fault Refusal :=
  .next (s.runOp tag.val 0x1C 7 (fun k => field (k.arg 0) 9 8 != 3) hpinEffect)

/-- BANK_RETURN (R273, R276): STATE where the test skips the bank, as for BANK (DESIGN CHOICE, log entry 1202). -/
def execBankReturn (tag : Fin 128) (pass : Bool) (s : State) : Host.Outcome State Fault Refusal :=
  .next (s.runOp tag.val 0x1C 8 (fun k => decide (field (k.arg 0) 5 0 < 48))
    (fun k t =>
      let b := field (k.arg 0) 5 0
      if t.bankWaits b then (t, none)
      else
        match t.testBank b pass with
        | (t1, none) => (t1, some .state)
        | (t1, some true) => (t1.returnBank b, some .done)
        | (t1, some false) => (t1, some .integrity)))

/-- PASS (R277): the pass starts again at region 0. -/
def execMemtestPass (tag : Fin 128) (s : State) : Host.Outcome State Fault Refusal :=
  .next (s.runOp tag.val 0x1D 1 (fun _ => true)
    (fun _ t =>
      if t.gran.pass == some (BitVec.ofNat 7 tag.val) then (t, none)
      else
        ((({ t with gran := { t.gran with
            test := none, pass := some (BitVec.ofNat 7 tag.val), passFailed := false } } : State).setRg 0x1D 0x044
          0), none)))

/-- BANK (R273, R277). -/
def execMemtestBank (tag : Fin 128) (pass : Bool) (s : State) : Host.Outcome State Fault Refusal :=
  .next (s.runOp tag.val 0x1D 2 (fun k => flag (k.arg 0) 6 || decide (field (k.arg 0) 5 0 < 48))
    (fun k t =>
      let b := if flag (k.arg 0) 6 then field (t.rg 0x1D 0x04C) 13 8 else field (k.arg 0) 5 0
      if t.bankWaits b then (t, none)
      else
      match t.testBank b pass with
      | (t1, none) => (t1, some .state)
      | (t1, some ok) => (t1, some (if ok then .done else .integrity))))

/-- FRAME_COPY_DONE (R266). -/
def execFrameCopyDone (s : State) : Host.Outcome State Fault Refusal := .next s.copyDone

/-- LOFT_SCORING (R267), at the end of a whole second of TIME. -/
def execLoftScoring (s : State) : Host.Outcome State Fault Refusal :=
  .next (if s.granaryUp then (s.reach (BitVec.ofNat 64 ((s.now.toNat / 2 ^ 32 + 1) * 2 ^ 32))).scoreLoft else s)

/-- Whether a PASS operation with FAST runs the tests back to back (R277). -/
def State.fastPass (s : State) : Bool :=
  match s.gran.pass with | some t => flag ((s.slot t.toNat).arg 0) 0 | none => false

/-- The time between two region tests, in units of 2^-10 s (R272). -/
def State.testPace (s : State) : Nat :=
  if s.pwr.depth == .guard then field (s.rg 0x1D 0x040) 23 16 else field (s.rg 0x1D 0x040) 15 8

/-- REGION_TEST_START (R272). -/
def execRegionTestStart (s : State) : Host.Outcome State Fault Refusal :=
  .next
    (let r := field (s.rg 0x1D 0x044) 14 0
     let busy := match s.gran.copy with | some c => c.source == r / 16 || c.dest == r / 16 | none => false
     if s.ready 0x1D && !s.unavailable .granary && s.gran.test.isNone && !busy
         && (flag (s.rg 0x1D 0x040) 0 || s.gran.pass.isSome) then
       let s1 := if s.fastPass then s else s.reach (s.gran.testAt + BitVec.ofNat 64 (s.testPace * 2 ^ 22))
       { s1 with gran := { s1.gran with test := some r, testAt := s1.now } }
     else s)

/-- REGION_TEST_END (R272, R274). -/
def execRegionTestEnd (kind : Option (BitVec 4)) (s : State) : Host.Outcome State Fault Refusal :=
  .next ((s.endRegionTest (kind.map (·.toNat))).nextCopy 2048)

/-- BANK_TEST (R273): after a pass, not in GUARD. -/
def execBankTest (pass : Bool) (s : State) : Host.Outcome State Fault Refusal :=
  .next
    (if s.gran.bankDue && s.granaryUp && !s.bankWaits (field (s.rg 0x1D 0x04C) 13 8) then
       ({ s with gran := { s.gran with bankDue := false } } : State).testBank (field (s.rg 0x1D 0x04C) 13 8) pass
         |>.1
     else s)

/-- A refusal of a window access, logged in GRANARY.ERRC with the page number (R265). -/
def State.windowReject (s : State) (m : Master) (page off : Nat) (c : Code) : State :=
  (((s.logErr 0x1C page c).logMine m page off c).portErr m).answer m 0 c

/-- What an access finds in a word's check bits: 1 a single-bit error, which the access corrects and counts, 2 an
uncorrectable word, which stays so until it is written (R258). Which word of the QUEUE region a push writes is not defined, so a word found
uncorrectable there stays so until its frame moves or leaves the region (DESIGN CHOICE, log entry 1201). -/
def State.foundErrors (s : State) (w errors : Nat) : State :=
  if errors = 1 then
    if s.gran.soft.contains w || s.gran.bad.contains w then s else { s with gran := { s.gran with soft := w :: s.gran.soft } }
  else if errors = 2 && !s.gran.bad.contains w then { s with gran := { s.gran with bad := w :: s.gran.bad } }
  else s

/-- A read of the memory window (R261, R265). -/
def State.windowRead (s : State) (m : Master) (page off errors : Nat) : State :=
  match s.readGate m page off with
  | .lost => s
  | .guarded => s.guardDrop m page off
  | .unassigned => s.answer m 0 .done
  | .proxy => s.proxyRead m page off
  | .refuse c => s.windowReject m page off c
  | .zero => s.answer m 0 .done
  | .pass =>
    let a := page * 0x1000 + off
    let n := (a - 0x80000) / 0x20000
    if !s.ready 0x1C then s.answer m 0 .done
    else if s.insecure m 0x1C off then s.windowReject m page off .security
    else if flag (s.rg 0x1C (0x0C0 + 4 * n)) 7 && !s.isOwner m then s.windowReject m page off .notOwner
    else
      match s.winRef a with
      | .outside => s.answer m 0 .done
      | .queue w =>
        let s1 := s.foundErrors w errors
        if s1.gran.bad.contains w then (s1.ueRead w).windowReject m page off .integrity
        else
          let (v, s2) := (s1.correctWords (· == w)).draw
          s2.answer m v .done
      | .word w =>
        match ((s.countAccess false w).foundErrors w errors).readWord w with
        | (s4, some v) => s4.answer m v .done
        | (s4, none) => s4.windowReject m page off .integrity

/-- A write of the memory window (R261, R265). -/
def State.windowWrite (s : State) (m : Master) (page off : Nat) (v : Word) : State :=
  match s.writeGate m page off v with
  | .lost => s
  | .guarded => s.guardDrop m page off
  | .unassigned => s.rejectUnassigned m page off
  | .proxy => s.proxyWrite m page off
  | .refuse c => s.windowReject m page off c
  | .zero => s
  | .pass =>
    let a := page * 0x1000 + off
    if !s.ready 0x1C then s.windowReject m page off .notReady
    else if s.insecure m 0x1C off then s.windowReject m page off .security
    else if !s.isOwner m then s.windowReject m page off .notOwner
    else
      match s.winRef a with
      | .outside => s.windowReject m page off .arg
      | .queue _ => s.windowReject m page off .state
      | .word w => ((s.countAccess false w).setSramWord w v).answer m 0 .done

/-- MEMORY_WINDOW_READ (R261). -/
def execMemoryWindowRead (m : Master) (page : BitVec 7) (word : BitVec 10) (errors : Fin 3) (s : State) :
    Host.Outcome State Fault Refusal :=
  .next (s.windowRead m (0x80 + page.toNat) (4 * word.toNat) errors.val)

/-- MEMORY_WINDOW_WRITE (R265). -/
def execMemoryWindowWrite (m : Master) (page : BitVec 7) (word : BitVec 10) (v : Word) (s : State) :
    Host.Outcome State Fault Refusal :=
  .next (s.windowWrite m (0x80 + page.toNat) (4 * word.toNat) v)

/-- HRAISE_CLEAR (R269). -/
def execHraiseClear (m : Master) (v : Word) (s : State) : Host.Outcome State Fault Refusal :=
  .next (s.write m 0x1C 0x084 v (hraiseEffect v))

/-- CTX_RES_WRITE (R263). -/
def execCtxResWrite (m : Master) (v : Word) (s : State) : Host.Outcome State Fault Refusal :=
  .next (s.write m 0x1C 0x06C v (ctxResEffect v))

end Sys2Proof.Machine
end

