-- ==== Sys2Proof/Machine/Trig.lean ====
section
/-!
DEFINITION. The mathematical tables the field front end is described with: powers of ten in half-decibel
steps and a turn in 256 phase steps (R308, R311), and whole decibel ratios.
-/
namespace Sys2Proof.Machine

/-- 1,000 mW × 10^(−ATT/20), rounded up to whole milliwatts, for ATT 0 to 63 (R308, R309). -/
def powerTable : List Nat :=
  [ 1000, 892, 795, 708, 631, 563, 502, 447, 399, 355, 317, 282, 252, 224, 200, 178,
    159, 142, 126, 113, 100, 90, 80, 71, 64, 57, 51, 45, 40, 36, 32, 29,
    26, 23, 20, 18, 16, 15, 13, 12, 10, 9, 8, 8, 7, 6, 6, 5,
    4, 4, 4, 3, 3, 3, 2, 2, 2, 2, 2, 2, 1, 1, 1, 1 ]

/-- A port's nominal power at an attenuation, in mW. -/
def nominalMw (att : Nat) : Nat := powerTable.getD (min att 63) 1

/-- 10^(−ATT/40) scaled by 2^48, for ATT 0 to 63. -/
def ampTable : List Nat :=
  [ 281474976710656, 265729513166022, 250864837054546, 236831677899040, 223583521369634, 211076455107309,
    199269023171932, 188122088632334, 177598703842980, 167663987977248, 158285011411393, 149430686575967,
    141071664912915, 133180239596800, 125730253697725, 118697013481525, 112057206559891, 105788824619083,
    99871090471150, 94284389185824, 89010203074852, 84031050313233, 79330426993937, 74892752424033,
    70703317480897, 66748235857338, 63014398034018, 59489427826625, 56161641363751, 53020008359519,
    50054115552574, 47254132190280, 44610777443687, 42115289645283, 39759397247562, 37535291406133,
    35435600096522, 33453363678840, 31582011829357, 29815341762495, 28147497671066, 26572951316602,
    25086483705455, 23683167789904, 22358352136963, 21107645510731, 19926902317193, 18812208863233,
    17759870384298, 16766398797725, 15828501141139, 14943068657597, 14107166491291, 13318023959680,
    12573025369772, 11869701348153, 11205720655989, 10578882461908, 9987109047115, 9428438918582,
    8901020307485, 8403105031323, 7933042699394, 7489275242403 ]

/-- The cosine of the first quarter turn in 64 steps, scaled by 2^48. -/
def cosTable : List Nat :=
  [ 281474976710656, 281390201710184, 281135927774060, 280712308067394, 280119597762857, 279358153886975,
    278428435105065, 277331001444957, 276066513959654, 274635734329132, 273039524401543, 271278845674059,
    269354758713711, 267268422518537, 265021093819447, 262614126323218, 260048969897066, 257327169695306,
    254450365228604, 251420289376400, 248238767343086, 244907715558569, 241429140523890, 237805137602576,
    234037889758477, 230129666240828, 226082821217338, 221899792356128, 217583099357370, 213135342435515,
    208559200753021, 203857430806525, 199032864766430, 194088408770919, 189027041175397, 183851810758447,
    178565834885359, 173172297630342, 167674447858562, 162075597269143, 156379118400326, 150588442597977,
    144707057948671, 138738507178603, 132686385519577, 126554338543377, 120346059965811, 114065289421750,
    107715810212518, 101301447026966, 94826063637631, 88293560573336, 81707872769660, 75072967198682,
    68392840479422, 61671516470431, 54913043845964, 48121493657216, 41300956880066, 34455541950835,
    27589372291508, 20706583825946, 13811322488556, 6907741726938, 0 ]

/-- The cosine of k phase steps, scaled by 2^48. -/
def cosStep (k : Nat) : Int :=
  let j := k % 256
  if j ≤ 64 then (cosTable.getD j 0 : Int)
  else if j ≤ 128 then -(cosTable.getD (128 - j) 0 : Int)
  else if j ≤ 192 then -(cosTable.getD (j - 128) 0 : Int)
  else (cosTable.getD (256 - j) 0 : Int)

/-- The sine of k phase steps, scaled by 2^48. -/
def sinStep (k : Nat) : Int := cosStep (k + 192)

/-- Whether two amplitudes differ by more than t tenths of a decibel: 20 log10 of their ratio. -/
def ampBeyond (a b t : Nat) : Bool :=
  let hi := max a b
  let lo := min a b
  decide (hi ^ 200 > lo ^ 200 * 10 ^ t)

/-- Whether two squared amplitudes differ by at least t tenths of a decibel. -/
def powAtLeast (a b t : Nat) : Bool :=
  let hi := max a b
  let lo := min a b
  decide (hi ^ 100 ≥ lo ^ 100 * 10 ^ t)

/-- The distance of two phases in steps, the shorter way round. -/
def phaseDist (a b : Nat) : Nat :=
  let d := (a + 256 - b) % 256
  min d (256 - d)

/-- Whether the angle between two vectors is at least k phase steps, 1 to 128: the cosine of the angle, from
the scalar product, is at most the cosine of k steps. -/
def angleAtLeast (a b : Int × Int) (k : Nat) : Bool :=
  let dot := a.1 * b.1 + a.2 * b.2
  let sq := (a.1 * a.1 + a.2 * a.2) * (b.1 * b.1 + b.2 * b.2)
  let c := cosStep (min k 128)
  if k > 128 then false
  else if c ≥ 0 then decide (dot < 0) || decide (dot * dot * 2 ^ 96 ≤ c * c * sq)
  else decide (dot < 0) && decide (dot * dot * 2 ^ 96 ≥ c * c * sq)

/-- The whole part of the square root, by bisection over n bits. -/
def isqrt (n : Nat) (v : Nat) : Nat :=
  match n with
  | 0 => 0
  | k + 1 =>
    let r := isqrt k (v / 4)
    let r1 := 2 * r + 1
    if r1 * r1 ≤ v then r1 else 2 * r

/-! ### Complex numbers over the integers, for the weights of R322 -/

/-- The product of two complex numbers. -/
def cmul (a b : Int × Int) : Int × Int := (a.1 * b.1 - a.2 * b.2, a.1 * b.2 + a.2 * b.1)

/-- The sum of two vectors, and a vector times a number. -/
def vadd (a b : List (Int × Int)) : List (Int × Int) := (a.zip b).map (fun (x, y) => (x.1 + y.1, x.2 + y.2))
def vscale (c : Int × Int) (v : List (Int × Int)) : List (Int × Int) := v.map (cmul c)

/-- The conjugate of a vector. -/
def vconj (v : List (Int × Int)) : List (Int × Int) := v.map (fun x => (x.1, -x.2))

/-- The scalar product Σ a_j · conj b_j. -/
def vdot (a b : List (Int × Int)) : Int × Int :=
  ((a.zip b).map (fun (x, y) => cmul x (y.1, -y.2))).foldl (fun acc x => (acc.1 + x.1, acc.2 + x.2)) (0, 0)

/-- A vector made orthogonal to others that are so to each other, scaled by their squared norms. -/
def vclear (v : List (Int × Int)) (basis : List (List (Int × Int))) : List (Int × Int) :=
  basis.foldl
    (fun u n =>
      let c := vdot u n
      vadd (vscale (vdot n n) u) (vscale (-c.1, -c.2) n)) v

/-- Vectors orthogonal to each other that span what the given ones do. -/
def orthogonal (l : List (List (Int × Int))) : List (List (Int × Int)) :=
  l.foldl
    (fun basis v =>
      let u := vclear v basis
      if u.all (fun x => x == (0, 0)) then basis else basis ++ [u]) []

/-- The squared magnitude of a complex number. -/
def csq (a : Int × Int) : Nat := (a.1 * a.1 + a.2 * a.2).toNat

/-- Every choice of n phase steps. -/
def phaseLists : Nat → List (List Nat)
  | 0 => [[]]
  | n + 1 => (List.range 256).flatMap (fun k => (phaseLists n).map (k :: ·))

/-- The weights of one norm that send Σ w_j h_j to zero at each null row and make the sum of its magnitudes over the wanted
rows greatest: the wanted rows' conjugates, cleared of the null rows' and added in the phases that make the longest sum, up
to scale; the phases are taken in steps of 1/256 turn (R322). -/
def bestWeights (n : Nat) (want null : List (List (Int × Int))) : List (Int × Int) :=
  let basis := orthogonal (null.map vconj)
  let add (phases : List Nat) : List (Int × Int) :=
    ((want.map (fun h => vclear (vconj h) basis)).zip (0 :: phases)).foldl
      (fun acc (u, k) => vadd acc (vscale (cosStep k, sinStep k) u)) (List.replicate n (0, 0))
  let norm (w : List (Int × Int)) : Int := (vdot w w).1
  (phaseLists (want.length - 1)).foldl
    (fun best ph => if norm (add ph) > norm best then add ph else best) (List.replicate n (0, 0))

/-- The nearest of the 256 phase steps to a complex number's angle. -/
def phaseStep (z : Int × Int) : Nat :=
  let along (k : Nat) : Int := z.1 * cosStep k + z.2 * sinStep k
  (List.range 256).foldl (fun best k => if along k > along best then k else best) 0

/-- The nearest ATT step, 0.5 dB, of a weight below the strongest, from their squared magnitudes. -/
def attStep (top w : Nat) : Nat :=
  ((List.range 63).filter (fun m => decide (top ^ 40 ≥ w ^ 40 * 10 ^ (2 * m + 1)))).length

/-- Weights quantised against the strongest, which stands at ATT 0 and phase 0; those more than 31.5 dB below it are left
out (R322). Each answer is antenna, ATT, PHASE. -/
def quantised (ports : List Nat) (ws : List (Int × Int)) : List (Nat × Nat × Nat) :=
  let best := ws.foldl (fun b w => if csq w > csq b then w else b) (0, 0)
  (ports.zip ws).filterMap (fun (j, w) =>
    if csq best ^ 20 > csq w ^ 20 * 10 ^ 63 then none
    else some (j, attStep (csq best) (csq w), phaseStep (cmul w (best.1, -best.2))))

/-- 20 log10 (a / b) in whole decibels rounded down, from 0 to `top`. -/
def wholeDb (top a b : Nat) : Nat :=
  match top with
  | 0 => 0
  | k + 1 => if a ^ 20 ≥ b ^ 20 * 10 ^ (k + 1) then k + 1 else wholeDb k a b

end Sys2Proof.Machine
end

