-- ==== Sys2Proof/Machine/Field.lean ====
section
/-!
DEFINITION. The contactless field front end (chapter 14): drive and budget, supervision, card detection,
steering, coexistence with the radio, the thermal governor; and the sessions whose carriers it holds.
-/
namespace Sys2Proof.Machine

/-! ### Ports -/

/-- An antenna port's state beside its registers. -/
def State.ant (s : State) (n : Nat) : Ant := Tab.get (fun _ => {}) s.fld.ants n

/-- A change of the field state. -/
def State.updFld (s : State) (f : FieldState → FieldState) : State := { s with fld := f s.fld }

/-- An antenna port given a state. -/
def State.putAnt (s : State) (n : Nat) (a : Ant) : State :=
  s.updFld (fun x => { x with ants := Tab.set (fun _ => {}) x.ants n a })

/-- ANT_CFGn, ANT_STATn, ANT_TUNEn. -/
def State.antCfg (s : State) (n : Nat) : Word := s.rg 0x21 (0x040 + 0x20 * n)
def State.antStat (s : State) (n : Nat) : Word := s.rg 0x21 (0x044 + 0x20 * n)
def State.antTune (s : State) (n : Nat) : Word := s.rg 0x21 (0x048 + 0x20 * n)

/-- ANT_STATn changed. -/
def State.updStat (s : State) (n : Nat) (f : Word → Word) : State := s.updRg 0x21 (0x044 + 0x20 * n) f

/-- FAULTED, and in service: enabled and not FAULTED (R317, R338). -/
def State.faulted (s : State) (n : Nat) : Bool := flag (s.antStat n) 3
def State.inService (s : State) (n : Nat) : Bool := flag (s.antCfg n) 0 && !s.faulted n

/-- The ports of a mask. -/
def portsOf (mask : Nat) : List Nat := (List.range 8).filter mask.testBit

/-- The mask of the ports in service. -/
def State.serviceMask (s : State) : Nat :=
  ((List.range 8).filter s.inService).foldl (fun acc n => acc + 2 ^ n) 0

/-! ### Sessions -/

/-- A session by its handle. -/
def State.session (s : State) (h : Nat) : Option Session := Tab.get (fun _ => none) s.fld.sessions h

/-- A session given a state, or closed. -/
def State.putSession (s : State) (h : Nat) (x : Option Session) : State :=
  s.updFld (fun f => { f with sessions := Tab.set (fun _ => none) f.sessions h x })

/-- The open ISO/IEC 14443 session that holds a port, and its profile (R336). -/
def State.holder (s : State) (n : Nat) : Option Session :=
  (s.fld.sessions.find? (fun e =>
    match e.2 with | some x => decide (x.proto.toNat < 2) && x.ants.getLsbD n | none => false)).bind (·.2)

/-- Whether the transaction in progress uses a port. -/
def State.inRun (s : State) (n : Nat) : Bool :=
  match s.fld.run with | some r => r.ants.getLsbD n | none => false

/-- The steering profile applied to a port now, if any (R310, R346). -/
def State.portProfile (s : State) (n : Nat) : Option Nat :=
  match s.fld.run.filter (fun r => r.ants.getLsbD n), s.holder n with
  | some r, _ => if r.useProfile then some r.profile.toNat else none
  | none, some x => if x.useProfile then some x.profile.toNat else none
  | none, none => none

/-- STEERk_Aj (R332). -/
def State.steer (s : State) (k j : Nat) : Word := s.rg 0x21 (0x200 + 0x20 * k + 4 * j)

/-- The carrier phase of a port in steps of 360° / 256: its profile's or its own (R311). -/
def State.portPhase (s : State) (n : Nat) : Nat :=
  match s.portProfile n with
  | some k => field (s.steer k n) 7 0
  | none => field (s.antCfg n) 23 16

/-- The attenuation configured for a port: its profile's or its own (R311). -/
def State.portAtt (s : State) (n : Nat) : Nat :=
  match s.portProfile n with
  | some k => field (s.steer k n) 13 8
  | none => field (s.antCfg n) 9 4

/-! ### Carriers (R309 to R312, R325 to R328) -/

/-- The mode of the protected window in force, 0 for none (R325). -/
def State.coexMode (s : State) : Nat :=
  match s.fld.coex with
  | some c => if c.protect then field (s.rg 0x20 0x050) 1 0 else 0
  | none => 0

/-- Whether a port's carrier may not be on: FIELD down, the port FAULTED, VFLD out or the TCXO lost, ride-through, a low-power
state, band 2 for an internal port, or a GATE window (R317, R325 to R328, R463). -/
def State.carrierBlocked (s : State) (n : Nat) : Bool :=
  !s.ready 0x20 || s.unavailable .field || s.faulted n || !s.pwr.vfld || s.pwr.lost
  || flag (s.rg 0x05 0x120) 0 || s.pwr.depth != .awake
  || (s.fld.band == 2 && !flag (s.antCfg n) 1) || s.coexMode == 2

/-- Whether the transaction in progress drives a port now: with SWEEP one antenna of the set at a time, the lowest one while
the row that ends it has not come (R346; DEDUCED, log entry 1508). -/
def State.runDrives (s : State) (n : Nat) : Bool :=
  match s.fld.run with
  | some r => r.ants.getLsbD n && (!r.sweep || (List.range n).all (fun i => !r.ants.getLsbD i))
  | none => false

/-- Whether the profile applied to a port, if any, enables it (R322, R332). -/
def State.profileDrives (s : State) (n : Nat) : Bool :=
  match s.portProfile n with | some k => flag (s.steer k n) 15 | none => true

/-- Whether a port's carrier is wanted: by a session or the transaction in progress, which control a port that is BUSY, or
CW (R312, R336). -/
def State.carrierWanted (s : State) (n : Nat) : Bool :=
  flag (s.antCfg n) 0
  && (if s.inRun n || (s.holder n).isSome then ((s.holder n).isSome || s.runDrives n) && s.profileDrives n
      else flag (s.antCfg n) 2)

/-- Whether a port's carrier is on. -/
def State.carrierOn (s : State) (n : Nat) : Bool := s.carrierWanted n && !s.carrierBlocked n

/-- The nominal power of the internal ports whose carrier is wanted, each at its attenuation plus k (R309,
R336). -/
def State.usedMw (s : State) (p : Nat → Bool) (k : Nat) : Nat :=
  (((List.range 8).filter (fun n => p n && !flag (s.antCfg n) 1)).map
    (fun n => nominalMw (s.portAtt n + k))).sum

/-- CAP_MW. -/
def State.capMw (s : State) : Nat := field (s.rg 0x20 0x048) 11 0

/-- The smallest common k that brings the carriers that are on within CAP_MW, at most 63 (R310). -/
def State.limitSteps (s : State) : Nat :=
  ((List.range 64).find? (fun k => decide (s.usedMw s.carrierOn k ≤ s.capMw))).getD 63

/-- The attenuation in force at a port (R310, R325). -/
def State.attApplied (s : State) (k n : Nat) : Nat :=
  let a := if flag (s.antCfg n) 1 || !s.carrierOn n then s.portAtt n else min 63 (s.portAtt n + k)
  if s.coexMode == 1 && s.carrierOn n then min 63 (a + field (s.rg 0x20 0x050) 7 2) else a

/-- The amplifier enable of a port, ANTn_PAEN: high with the carrier of an external port, high-impedance, none, while
VIO_B's supply is absent (R308, R544). -/
def State.paEnable (s : State) (n : Nat) : Option Bool :=
  if s.pwr.vioB then some (flag (s.antCfg n) 1 && s.carrierOn n) else none

/-- The amplifier drive level of a port, ANTn_LVL, in microvolts: 1.50 V × 10^(−ATT/40) at an external port, carrier or
not; 0 V at an internal port and while PD_FIELD is clamped (R308, R328, R449, R544). -/
def State.lvlMicrovolts (s : State) (n : Nat) : Nat :=
  if flag (s.antCfg n) 1 && s.ready 0x21 && !s.clamped .field then
    1500000 * ampTable.getD (s.attApplied s.limitSteps n) 0 / 2 ^ 48
  else 0

/-- What an antenna port's transmit pair carries: driven low, no carrier, or the carrier in a phase, at an attenuation
where the internal drivers deliver it and at +6 dBm, none, where an amplifier follows (R308, R311, R544). -/
inductive TxPair where
  | low
  | idle
  | carrier (phase : Nat) (att : Option Nat)
  deriving DecidableEq, Repr

/-- ANTn_TXP and ANTn_TXN: driven low until FIELD is READY and at the clamp value, while a reset reaches FIELD or PD_FIELD is
clamped (R308, R311, R328, R449, R544). -/
def State.txPair (s : State) (n : Nat) : TxPair :=
  if !s.ready 0x20 || s.clamped .field then .low
  else if !s.carrierOn n then .idle
  else .carrier (s.portPhase n) (if flag (s.antCfg n) 1 then none else some (s.attApplied s.limitSteps n))

/-- READY.DEGRADED and the levels of FIELD and ANTENNA (R317, R326, R327, R331, R332). -/
def State.fieldLevels (s : State) : State :=
  let anyFault := (List.range 8).any s.faulted
  let s1 := (s.levelSource 0x20 8 anyFault 0xA8).levelSource 0x20 9 (s.fld.band != 0) 0xA9
  let s2 := (s1.evLevel 0x20 10 s1.fld.coex.isSome).evLevel 0x20 11 (!s1.pwr.vfld)
  let s3 := (List.range 8).foldl
    (fun acc n => (acc.evLevel 0x21 n (flag (acc.antStat n) 2)).evLevel 0x21 (8 + n) (acc.faulted n)) s2
  s3.setDegraded 0x20 (anyFault || s3.fld.band != 0 || !s3.pwr.vfld || s3.pwr.lost)

/-- The transaction in progress is over: its ports and its transient context are given back, and an INVENTORY
that gave way resumes (R312, R335, R337). -/
def State.endRun (s : State) : State :=
  let s1 := match s.fld.run.bind (·.ctx) with | some c => s.ctxFree c | none => s
  s1.updFld (fun f => { f with run := f.paused, paused := none })

/-- A tag port's held value. -/
def State.held (s : State) (t : Nat) : TagHeld := Tab.get (fun _ => {}) s.fld.held t

/-- A tag port's held value changed. -/
def State.putHeld (s : State) (t : Nat) (h : TagHeld) : State :=
  s.updFld (fun f => { f with held := Tab.set (fun _ => {}) f.held t h })

/-- A tag-port read has failed: the held value stays (R350). -/
def State.tagFailed (s : State) (t : Nat) (c : Code) : State :=
  let h := s.held t
  s.putHeld t { h with failed := true, code := BitVec.ofNat 8 (Code.num c), reads := h.reads + 1 }

/-- A tag-port read ends: the held value, TSTAT and the pulse (R350). -/
def State.tagResult (s : State) (t : Nat) (c : Code) (v : Option (BitVec 24)) : State :=
  let h := s.held t
  let reads := h.reads + 1
  match v with
  | some v =>
    ((s.putHeld t { value := v, stamp := s.now, has := true, failed := false, code := 0, reads := reads }).evPulse
      0x23 0).pulse 0xAE
  | none => ((s.tagFailed t c).evPulse 0x23 1).pulse 0xAF

/-- A reader operation is broken off: its code, and what its end signals (R345, R350, R356). -/
def State.breakSlot (s : State) (tag : Nat) (c : Code) : State :=
  let k := s.slot tag
  let s1 := s.setResult tag c
  if k.page == 0x22 && k.op == 2 then s1.evPulse 0x22 3
  else if k.page == 0x22 && k.op == 3 then (s1.evPulse 0x22 2).pulse 0xAD
  else if k.page == 0x23 && k.op == 2 then s1.tagResult (field (k.arg 0) 7 0) c none
  else if k.page == 0x23 && k.op == 3 then
    match s1.fld.run.bind (·.rest.head?) with
    | some t => s1.tagResult t c none
    | none => s1
  else s1

/-- The transaction in progress completes with a code. -/
def State.breakRun (s : State) (c : Code) : State :=
  match s.fld.run with
  | none => s
  | some r => (s.breakSlot r.tag.toNat c).endRun

/-- A session is lost: its context freed, counted and signalled, and an exchange in progress on it completes
with MEDIUM (R336). -/
def State.loseSession (s : State) (h : Nat) : State :=
  match s.session h with
  | none => s
  | some x =>
    let s1 := (s.ctxFree x.ctx).putSession h none
    let s2 := ((s1.updRg 0x22 0x04C (fun w => satField w 31 24 1)).evPulse 0x22 1).pulse 0xAC
    match s2.fld.run with
    | some r =>
      let k := s2.slot r.tag.toNat
      if k.page == 0x22 && k.op == 2 && field (k.arg 0) 6 0 == h then s2.breakRun .medium else s2
    | none => s2

/-- Every ISO/IEC 14443 session one of whose carriers may not be on is lost (R336). -/
def State.loseStopped (s : State) : State :=
  (List.range 128).foldl
    (fun acc h =>
      match acc.session h with
      | some x =>
        if x.proto.toNat < 2 && (portsOf x.ants.toNat).any acc.carrierBlocked then acc.loseSession h else acc
      | none => acc) s

/-- The field after any change: sessions whose carrier stops are lost, and BUSY, CARRIER, ATT_APPL, LIMITED,
PWR and the levels follow (R309, R310, R312, R331, R332). -/
def State.refreshField (s : State) : State :=
  let s1 := s.loseStopped
  let k := s1.limitSteps
  let s2 := (List.range 8).foldl
    (fun acc n =>
      let att := s1.attApplied k n
      acc.updStat n (fun w =>
        setField (setFlag (setFlag (setFlag w 4 (s1.inRun n || (s1.holder n).isSome)) 5
          (decide (att > s1.portAtt n))) 12 (s1.carrierOn n)) 11 6 att)) s1
  let s3 := if (List.range 8).any s1.carrierOn then s2.updFld (fun f => { f with sampled := 0xFF }) else s2
  (s3.updRg 0x20 0x048 (fun w => setField w 27 16 (s1.usedMw s1.carrierWanted 0))).fieldLevels

/-- ANT_STATn or ANT_IQn is about to be read: the receivers sample while any carrier is on, so what ANT_IQ and OVL then
hold is a free value, and once the carriers are off it stays (R315). -/
def State.sampleAnt (s : State) (n : Nat) : State :=
  if s.fld.sampled.getLsbD n then
    let (w, s1) := s.draw
    let (v, s2) := s1.draw
    let s3 := (s2.setRg 0x21 (0x04C + 0x20 * n) w).updStat n (fun x => setFlag x 13 (flag v 0))
    let still : BitVec 8 := if (List.range 8).any s.carrierOn then 0 else BitVec.ofNat 8 (2 ^ n)
    s3.updFld (fun f => { f with sampled := f.sampled &&& ~~~still })
  else s

/-- Transactions on ports that satisfy p complete with MEDIUM, an INVENTORY that gave way among them (R317, R326,
R327). -/
def State.failPorts (s : State) (p : Nat → Bool) : State :=
  let s1 :=
    match s.fld.paused with
    | some r =>
      if (portsOf r.ants.toNat).any p then
        (s.breakSlot r.tag.toNat .medium).updFld (fun f => { f with paused := none })
      else s
    | none => s
  match s1.fld.run with
  | some r => if (portsOf r.ants.toNat).any p then s1.breakRun .medium else s1
  | none => s1

/-- An ANT_CFGn write that has reached the register (R309, R312). -/
def antCfgEffect (n : Nat) (v : Word) (s : State) : State × Code :=
  let new := v &&& 0x00FF03F7
  if flag (s.antStat n) 4 then (s, .state)
  else if flag new 2 && s.faulted n then (s, .state)
  else
    let s1 := s.setRg 0x21 (0x040 + 0x20 * n) new
    let budget (t : State) : Nat := t.usedMw t.carrierWanted 0
    if budget s1 > s.capMw && budget s1 > budget s then (s, .busy) else (s1.refreshField, .done)

/-- An ANT_TUNEn write: STATE while the port is BUSY; a changed TUNE empties the baseline (R312, R318). -/
def antTuneEffect (n : Nat) (v : Word) (s : State) : State × Code :=
  if flag (s.antStat n) 4 then (s, .state)
  else
    let old := s.antTune n
    if field v 4 0 == field old 4 0 then (s, .done)
    else
      ((s.setRg 0x21 (0x048 + 0x20 * n) (pack [(0, 5, field v 4 0)])).putAnt n
        { s.ant n with based := false }, .done)

/-- A SHAPEk write: MODE 1 needs IDX 8 to 30 (R313). -/
def shapeEffect (k : Nat) (v : Word) (s : State) : State × Code :=
  if flag v 0 && (field v 5 1 < 8 || field v 5 1 > 30) then (s, .arg)
  else (s.setRg 0x20 (0x080 + 4 * k) (v &&& 0x3FFFF), .done)

/-! ### Supervision (R316 to R318) -/

/-- One port judged and its registers brought up to date. -/
def State.judgePort (s : State) (n : Nat) (m : AntMeas) : State :=
  let th := s.rg 0x20 0x044
  let ext := flag (s.antCfg n) 1
  let tune := s.antTune n
  let base := field tune 31 16
  let based := (s.ant n).based
  let short := !ext && (m.trip || decide (m.itx > 4 * field th 15 8))
  let open_ :=
    if ext then based && decide (m.amp.toNat * 10 < base) else !short && decide (m.itx < field th 7 0)
  let detune := based && !short && !open_
    && (ampBeyond m.amp.toNat base (field th 23 16)
        || decide (phaseDist m.phase.toNat (field tune 15 8) > field th 31 24))
  let bad := short || open_
  let was := s.faulted n
  let good := if bad then 0 else (s.ant n).good + 1
  let faulted := bad || (was && decide (good < 2))
  let s1 := s.updStat n (fun w =>
    setField (setFlag (setFlag (setField w 1 0 (if short then 3 else if open_ then 2 else 1)) 2 detune) 3 faulted)
      23 16 (min 255 (m.itx / 4)))
  let s2 := s1.setRg 0x21 (0x04C + 0x20 * n) m.iq
  let s3 :=
    if based then s2
    else s2.setRg 0x21 (0x048 + 0x20 * n)
      (pack [(0, 5, field tune 4 0), (8, 8, m.phase.toNat), (16, 16, m.amp.toNat)])
  let s4 := (s3.putAnt n { s3.ant n with based := true, good := good }).updFld (fun f =>
    { f with sampled := f.sampled &&& ~~~(BitVec.ofNat 8 (2 ^ n)) })
  if bad && !was then (s4.faultRec 0x14 0x21 n).failPorts (· == n) else s4

/-- A supervision pass over the ports of a mask: each enabled port that no transaction holds is tested (R316). -/
def State.superviseMask (s : State) (mask : Nat) (l : List AntMeas) : State :=
  let s1 := (portsOf mask).foldl
    (fun acc n =>
      match l[n]? with
      | some m => if flag (acc.antCfg n) 0 && !flag (acc.antStat n) 4 then acc.judgePort n m else acc
      | none => acc) s
  (s1.updFld (fun f => { f with supervised := true })).refreshField

/-- Whether a supervision pass may run by itself: the pass FIELD completes before READY, or SUP_EN in RUN or
IDLE, with no protected window in force (R316, R318, R325). -/
def State.mayPass (s : State) : Bool :=
  !s.unavailable .field && s.coexMode == 0
  && (!s.ready 0x20 || (flag (s.rg 0x20 0x040) 0 && s.pwr.depth == .awake))

/-! ### Tuning and steering (R321 to R323, R330) -/

/-- Whether the FIELD region exists (R262, R323). -/
def State.hasField (s : State) : Bool := (s.region 3).isSome

/-- MATCH (R330); it waits for a protected window to end, as a pass does (R325; DEDUCED, log entry 1402). -/
def matchEffect (l : List TuneMeas) (k : Slot) (s : State) : State × Option Code :=
  let ports := portsOf (field (k.arg 0) 7 0)
  if ports.any (fun n => flag (s.antStat n) 4 || s.carrierOn n || flag (s.antCfg n) 1) then (s, some .state)
  else if s.coexMode != 0 then (s, none)
  else
    let th := field (s.rg 0x20 0x044) 31 24
    let s1 := ports.foldl
      (fun acc n =>
        match l[n]? with
        | none => acc
        | some m =>
          ((acc.setRg 0x21 (0x048 + 0x20 * n)
              (pack [(0, 5, m.tune.toNat), (8, 8, m.phase.toNat), (16, 16, m.amp.toNat)])).updStat n
            (fun w => if m.off > th then setFlag w 2 true else w)).putAnt n { acc.ant n with based := true }) s
    let worst := ports.any (fun n => match l[n]? with | some m => decide (m.off > th) | none => false)
    (s1.fieldLevels, some (if worst then .medium else .done))

/-- The receiver a taught point is measured on: the antenna of the mask whose own reply is strongest, the lowest among
equals. `replies` holds, by the antenna that drives, the reply at each receiver (R321). -/
def ownStrongest (mask : Nat) (replies : List (List (Int × Int))) : Nat :=
  let own (j : Nat) : Nat := csq ((replies.getD j []).getD j (0, 0))
  (portsOf mask).foldl (fun best j => if own j > own best then j else best) ((portsOf mask).headD 0)

/-- n / d rounded to the nearest and held within 16 bits, signed. -/
def toQ14 (n : Int) (d : Nat) : BitVec 16 :=
  BitVec.ofInt 16 (max (-32768) (min 32767 ((2 * n + d) / (2 * d : Nat))))

/-- h_j = reply(j, r) / √reply(r, r), turned so that the phase of antenna r is 0: reply(j, r) · conj reply(r, r) /
|reply(r, r)|^1.5. Replies and h are in units of 1/0x4000; rounding is to the nearest (R321, R332; DESIGN CHOICE, log entry
1407). -/
def taughtValue (reply own : Int × Int) : Word :=
  let z := cmul reply (own.1, -own.2)
  let d := max 1 (isqrt 200 (isqrt 400 (csq own ^ 3 * 2 ^ 100)))
  toQ14 (z.2 * 2 ^ 32) d ++ toQ14 (z.1 * 2 ^ 32) d

/-- TEACH (R321): it waits while the reader engine is busy, and starts no modulation in a protected window (R325). -/
def teachEffect (answers : Nat) (replies : List (List (Int × Int))) (k : Slot) (s : State) : State × Option Code :=
  let p := field (k.arg 0) 1 0
  let mask := field (k.arg 0) 15 8
  if !s.ready 0x22 then (s, some .notReady)
  else if !s.hasField then (s, some .busy)
  else if s.fld.run.isSome || s.coexMode != 0 then (s, none)
  else if answers != 1 then (s, some .medium)
  else
    let r := ownStrongest mask replies
    let reply (j : Nat) : Int × Int := (replies.getD j []).getD r (0, 0)
    let s1 := (List.range 8).foldl
      (fun acc j =>
        acc.setRg 0x21 (0x340 + 0x20 * p + 4 * j) (if mask.testBit j then taughtValue (reply j) (reply r) else 0)) s
    (s1.setRg 0x21 (0x3C0 + 4 * p)
      (pack [(0, 1, 1), (1, 1, field (k.arg 0) 2 2), (8, 8, mask), (16, 3, field (k.arg 0) 18 16)]), some .done)

/-- PTp_CFG (R332). -/
def State.pointCfg (s : State) (p : Nat) : Word := s.rg 0x21 (0x3C0 + 4 * p)

/-- The field a profile's drives (antenna, ATT, PHASE) make at a taught point: real and imaginary part. -/
def State.pointField (s : State) (p : Nat) (l : List (Nat × Nat × Nat)) : Int × Int :=
  l.foldl
    (fun (re, im) (j, att, ph) =>
      let h := s.rg 0x21 (0x340 + 0x20 * p + 4 * j)
      let hr := signedOf 16 (field h 15 0)
      let hi := signedOf 16 (field h 31 16)
      let a : Int := (ampTable.getD att 0 : Nat)
      (re + a * (cosStep ph * hr - sinStep ph * hi), im + a * (cosStep ph * hi + sinStep ph * hr))) (0, 0)

/-- The sum of a profile's field magnitudes over points. -/
def State.fieldSum (s : State) (ps : List Nat) (l : List (Nat × Nat × Nat)) : Nat :=
  (ps.map (fun p => let f := s.pointField p l; isqrt 130 (f.1 * f.1 + f.2 * f.2).toNat)).sum

/-- Weights where every choice gives the WANT points the same field, none: free values (R322). -/
def State.drawWeights (s : State) : List Nat → State × List (Nat × Nat × Nat)
  | [] => (s, [])
  | j :: rest =>
    let (w, s1) := s.draw
    let (s2, l) := s1.drawWeights rest
    (s2, (j, field w 15 8, field w 7 0) :: l)

/-- Weights with the strongest at ATT 0 and phase 0, those more than 31.5 dB below it left out (R322). -/
def normalise (l : List (Nat × Nat × Nat)) : List (Nat × Nat × Nat) :=
  match l with
  | [] => []
  | w :: rest =>
    let best := rest.foldl (fun b x => if x.2.1 < b.2.1 then x else b) w
    (l.map (fun x => (x.1, x.2.1 - best.2.1, (x.2.2 + 256 - best.2.2) % 256))).filter (fun x => x.2.1 ≤ 63)

/-- The taught values of a point, one complex number per antenna of a list. -/
def State.pointRow (s : State) (ports : List Nat) (p : Nat) : List (Int × Int) :=
  ports.map (fun j =>
    let h := s.rg 0x21 (0x340 + 0x20 * p + 4 * j)
    (signedOf 16 (field h 15 0), signedOf 16 (field h 31 16)))

/-- The weights of a solution, quantised: those that maximise the WANT points' fields among the weights of one norm that
every NULL point sends to zero (R322; the norm: DESIGN CHOICE, log entry 1408). -/
def State.solveWeights (s : State) (ports want null : List Nat) : State × List (Nat × Nat × Nat) :=
  let ws := bestWeights ports.length (want.map (s.pointRow ports)) (null.map (s.pointRow ports))
  if ws.any (fun w => w != (0, 0)) then (s, quantised ports ws)
  else
    let (s1, raw) := s.drawWeights ports
    (s1, normalise raw)

/-- SOLVE's arguments: at least one WANT point, points taught with this mask, fewer NULL points than antennas, MAX_MW in
range (R64, R322). -/
def State.solveArgs (s : State) (k : Slot) : Bool :=
  let mask := field (k.arg 0) 15 8
  let pts := (List.range 4).filter (field (k.arg 0) 19 16).testBit
  let null := pts.filter (fun p => flag (s.pointCfg p) 1)
  let maxMw := field (k.arg 1) 27 16
  mask != 0 && pts.any (fun p => !flag (s.pointCfg p) 1)
  && pts.all (fun p => flag (s.pointCfg p) 0 && field (s.pointCfg p) 15 8 == mask)
  && decide (null.length < (portsOf mask).length) && decide (1 ≤ maxMw) && decide (maxMw ≤ 2000)

/-- SOLVE (R322). -/
def solveEffect (k : Slot) (s : State) : State × Option Code :=
  let prof := field (k.arg 0) 2 0
  let mask := field (k.arg 0) 15 8
  let pts := (List.range 4).filter (field (k.arg 0) 19 16).testBit
  let want := pts.filter (fun p => !flag (s.pointCfg p) 1)
  let null := pts.filter (fun p => flag (s.pointCfg p) 1)
  let minDb := field (k.arg 1) 7 0
  let maxMw := field (k.arg 1) 27 16
  if !s.hasField then (s, some .busy)
  else
    let (s1, ws) := s.solveWeights (portsOf mask) want null
    let db := if null.isEmpty then 255 else wholeDb 255 (s1.fieldSum want ws) (s1.fieldSum null ws)
    let internal := ws.filter (fun x => !flag (s1.antCfg x.1) 1)
    let total (n : Nat) : Nat := (internal.map (fun x => nominalMw (x.2.1 + n))).sum
    let n := ((List.range 64).find? (fun n => decide (total n ≤ maxMw))).getD 63
    if db < minDb then (s1, some .medium)
    else
      let s2 := (List.range 8).foldl
        (fun acc j =>
          acc.setRg 0x21 (0x200 + 0x20 * prof + 4 * j)
            (match ws.find? (fun x => x.1 == j) with
             | some x => pack [(0, 8, x.2.2), (8, 6, min 63 (x.2.1 + n)), (15, 1, 1)]
             | none => 0)) s1
      (s2.setRg 0x21 (0x300 + 4 * prof) (pack [(0, 8, db), (8, 1, 1), (16, 12, total n)]), some .done)

/-! ### Low-power card detection (R319, R320) -/

/-- One port's burst compared with its detection reference. -/
def State.lpcdPort (s : State) (n : Nat) (m : Int × Int) : State :=
  let a := s.ant n
  let scaled : Int × Int := (m.1 * 65536, m.2 * 65536)
  let th := s.rg 0x20 0x05C
  match a.ref with
  | none => s.putAnt n { a with ref := some scaled }
  | some r =>
    let pow (x : Int × Int) : Nat := (x.1 * x.1 + x.2 * x.2).toNat
    if powAtLeast (pow scaled) (pow r) (field th 7 0) || angleAtLeast scaled r (field th 15 8) then
      let s1 := s.updRg 0x20 0x060 (fun w => satField (setFlag w n true) 31 24 1)
      ((s1.evPulse 0x20 n).pulse (0xA0 + n)).fireWake (0x1C + n)
    else s.putAnt n { a with ref := some (r.1 + (scaled.1 - r.1) / 16, r.2 + (scaled.2 - r.2) / 16) }

/-- A detection round at the next TIME multiple of its period, 2 s / 2^RATE: skipped and counted where R320 says so. In
a window it is skipped and does not wait, which R325 says of it too (DESIGN CHOICE, log entry 1401). -/
def State.lpcdRound (s0 : State) (l : List (Int × Int)) : State :=
  let mask := field (s0.rg 0x20 0x058) 7 0
  let p := 2 ^ (33 - field (s0.rg 0x20 0x058) 10 8)
  let s := if mask = 0 then s0 else s0.reach (BitVec.ofNat 64 ((s0.now.toNat / p + 1) * p))
  if mask = 0 then s
  else if (List.range 8).any s.carrierOn || s.fld.coex.isSome || flag (s.rg 0x05 0x120) 0
      || s.pwr.depth == .guard then
    s.updRg 0x20 0x060 (fun w => satField w 23 16 1)
  else if !s.ready 0x20 || s.unavailable .field then s
  else
    (portsOf mask).foldl
      (fun acc n =>
        match l[n]? with
        | some m => if flag (s.rg 0x20 0x060) n then acc else acc.lpcdPort n m
        | none => acc) s

/-- A port whose burst only sets the reference next (R319). -/
def State.dropRef (s : State) (n : Nat) : State := s.putAnt n { s.ant n with ref := none }

/-- An LPCD_CFG write: a port newly masked starts from a new reference (R319). -/
def lpcdCfgEffect (v : Word) (s : State) : State × Code :=
  let old := field (s.rg 0x20 0x058) 7 0
  let s1 := s.setRg 0x20 0x058 (v &&& 0x003F07FF)
  ((portsOf (field v 7 0)).foldl (fun acc n => if old.testBit n then acc else acc.dropRef n) s1, .done)

/-- An LPCD_STAT write clears DET bits; such a port starts from a new reference (R319). -/
def lpcdStatEffect (v : Word) (s : State) : State × Code :=
  ((portsOf (field v 7 0)).foldl
    (fun acc n => (acc.updRg 0x20 0x060 (fun w => setFlag w n false)).dropRef n) s, .done)

/-! ### Coexistence, heat and supply -/

/-- The radio's channel centre and width in Hz, as in force (R324, R358, R359, R363). -/
def State.rxChannel (s : State) : Nat × Nat :=
  let (freq, cfg, rxcfg) := s.phy.inForce.getD (s.rg 0x28 0x040, s.rg 0x28 0x044, s.rg 0x29 0x040)
  (field freq 29 0, if flag rxcfg 0 then 12500 else 12500 * 2 ^ field cfg 2 0)

/-- The harmonic nearest a channel, and whether a reception there is protected (R324). -/
def State.coexJudge (s : State) : Nat × Bool :=
  let (fc, b) := s.rxChannel
  let n := (fc + 6780000) / 13560000
  let h := n * 13560000
  let off := if fc ≥ h then fc - h else h - fc
  (n, decide (2 * off ≤ b + 2000 * field (s.rg 0x20 0x050) 19 8))

/-- Whether an ISO/IEC 15693 command may have acted when its reply is lost: write-class, custom or proprietary
(R334, R344). -/
def mayHaveActed (cmd : Nat) : Bool :=
  [0x21, 0x22, 0x24, 0x27, 0x28, 0x29, 0x2A].contains cmd || decide (0xA0 ≤ cmd)

/-- The command code of a map entry (R349). -/
def State.mapCommand (s : State) (t : Nat) : Nat := field (Tab.get (fun _ => 0) s.fld.map (8 * t + 2)) 7 0

/-- The command code of the ISO/IEC 15693 request in progress, if one is. -/
def State.runCommand (s : State) : Option Nat :=
  match s.fld.run with
  | none => none
  | some r =>
    let k := s.slot r.tag.toNat
    if k.page == 0x23 && k.op == 2 then some (s.mapCommand (field (k.arg 0) 7 0))
    else if k.page == 0x23 && k.op == 3 then r.rest.head?.map s.mapCommand
    else if k.page == 0x22 && k.op == 2 then
      match s.session (field (k.arg 0) 6 0) with
      | some x =>
        if x.proto = 2 then
          match s.winRef (((k.arg 1).toNat + 1) / 4 * 4) with
          | .word w => some (((s.sramByte (4 * w + ((k.arg 1).toNat + 1) % 4))).toNat)
          | _ => none
        else none
      | none => none
    else none

/-- The shaping profile of a protocol and a rate: Type A at 106 and above, Type B, ISO/IEC 15693 (R313; for the last 100 %
ASK, which no field chooses: DESIGN CHOICE, log entry 1506). -/
def shapeIndex (proto rate : Nat) : Nat :=
  if proto = 0 then (if rate = 0 then 0 else 1) else if proto = 1 then 2 else 3

/-- A frame as it goes out, in the shape its profile has at its start (R313). -/
def State.sentAs (s : State) (proto : Nat) (rate : BitVec 2) (cid : Option (BitVec 4)) (f : ReaderFrame) : Sent :=
  { frame := f, shape := s.rg 0x20 (0x080 + 4 * shapeIndex proto rate.toNat), rate := rate, cid := cid }

/-- Frames go out. -/
def State.air (s : State) (l : List Sent) : State := s.updFld (fun f => { f with aired := f.aired ++ l })

/-- The protocol of the operation in progress, and its session where it has one. -/
def State.runProto (s : State) (k : Slot) : Nat × Option Session :=
  if k.page == 0x22 && k.op == 1 then (field (k.arg 0) 1 0, none)
  else if k.page == 0x22 && k.op == 2 then
    match s.session (field (k.arg 0) 6 0) with
    | some x => (x.proto.toNat, some x)
    | none => (2, none)
  else (2, none)

/-- Whether the operation in progress exchanges frames: an ACTIVATE of a card, EXCHANGE, INVENTORY, a tag-port read
(R325, R344). -/
def State.exchanging (s : State) (r : ReaderRun) : Bool :=
  let k := s.slot r.tag.toNat
  (k.page == 0x22 && ((k.op == 1 && field (k.arg 0) 1 0 != 2) || k.op == 2 || k.op == 3))
  || (k.page == 0x23 && (k.op == 2 || (k.op == 3 && !r.rest.isEmpty && !r.lost)))

/-- How a broken exchange is recovered (R344): an ISO-DEP reply with R(NAK), any other frame whole. -/
def State.recovery (s : State) (k : Slot) (sending : Bool) : ReaderFrame :=
  match s.runProto k with
  | (_, some x) => if !sending && x.l4 && !flag (k.arg 0) 8 then .rNak x.block else .again
  | _ => .again

/-- An exchange in progress is broken off by an unscheduled window (R325, R344): recovered at most twice, and not at all
where the tag may have acted; GROUP_READ goes on with its next port. An ACTIVATE or INVENTORY is many exchanges: whether
a further break meets the same one is a free value. -/
def State.breakExchange (s : State) (sending : Bool) : State :=
  match s.fld.run with
  | none => s
  | some r =>
    let k := s.slot r.tag.toNat
    if !s.exchanging r then s
    else
      let s1 := ((s.updRg 0x20 0x054 (fun w => satField w 19 12 1)).updRg 0x22 0x04C
        (fun w => satField w 23 16 1)).evPulse 0x22 4
      let acted := !sending && (match s1.runCommand with | some c => mayHaveActed c | none => false)
      let (same, s2) : Bool × State :=
        if k.page == 0x22 && k.op != 2 && r.breaks != 0 then
          let (w, t) := s1.draw
          (flag w 0, t)
        else (true, s1)
      let n := if same then r.breaks + 1 else 1
      if acted || n ≥ 3 then
        if k.page == 0x23 && k.op == 3 then
          (s2.tagResult (r.rest.headD 0) .medium none).updFld (fun f =>
            { f with run := some { r with ok := false, lost := true } })
        else s2.breakRun .medium
      else
        s2.updFld (fun f => { f with run := some { r with breaks := n, owed := some (s2.recovery k sending) } })

/-- The window has ended: what recovers the broken exchange is sent (R344). -/
def State.sendOwed (s : State) : State :=
  match s.fld.run with
  | none => s
  | some r =>
    match r.owed with
    | none => s
    | some f =>
      let (p, x) := s.runProto (s.slot r.tag.toNat)
      let rate : BitVec 2 := match x with | some x => x.dr | none => 0
      (s.air [s.sentAs p rate (x.bind (·.cid)) f]).updFld (fun y => { y with run := some { r with owed := none } })

/-- A reception's window comes into force (R324, R325). An exchange that an open window finds in progress is broken off,
unless another window holds it already. -/
def State.coexBegin (s : State) (w : CoexWin) (sending : Bool) : State :=
  let held := s.coexMode != 0
  let s1 := (s.updFld (fun f => { f with coex := some w, coming := none })).updRg
    0x20 0x054 (fun v => setField (setFlag (setFlag v 0 true) 1 w.protect) 8 2 s.coexJudge.1)
  let s2 := if w.protect then s1.pulse 0xAA else s1
  let s3 := if w.protect && s2.coexMode != 0 && !w.scheduled && !held then s2.breakExchange sending else s2
  s3.refreshField

/-- RADIO notifies a reception: a scheduled one 200 µs or more ahead, with its start and end TIME, and again as it begins;
unscheduled listening as an open window from here (R324; the two commands of a scheduled one: DESIGN CHOICE, log entry
1409). -/
def State.coexStart (s : State) (scheduled : Option (Stamp × Stamp)) (sending : Bool) : State :=
  if s.rxChannel.1 = 0 || s.inReset .field then s
  else
    let prot := s.coexJudge.2
    match scheduled with
    | none => s.coexBegin { protect := prot, start := s.now } sending
    | some (a, b) =>
      let w : CoexWin := { scheduled := true, protect := prot, start := a, stop := some b }
      if s.fld.coming != some w && decide (s.now.toNat + usTime 200 ≤ a.toNat) then
        s.updFld (fun f => { f with coming := some w })
      else (s.reach a).coexBegin w sending

/-- The window ends, a scheduled one at its end TIME; a frame that it broke off is recovered, and carriers resume (R325,
R344). -/
def State.coexEnd (s0 : State) : State :=
  let s := (match s0.fld.coex.bind (·.stop) with | some t => s0.reach t | none => s0).sendOwed
  ((s.updFld (fun f => { f with coex := none })).updRg 0x20 0x054
    (fun w => setFlag (setFlag w 0 false) 1 false)).refreshField

/-- The governor's band for a junction temperature: a band is left for the one below (R326). -/
def bandFor (old : Nat) (tj : Int) : Nat :=
  if tj ≥ 124 then 2
  else if old = 2 then (if tj ≥ 109 then 2 else 1)
  else if tj ≥ 122 then 1
  else if old ≥ 1 && tj ≥ 107 then 1
  else 0

/-- The junction sensor read: the field's band, and the core's cap, whose point is lowered as band 2 is entered (R326,
R460). -/
def State.thermal (s : State) (tj : Byte) : State :=
  let old := s.fld.band
  let new := bandFor old (signedOf 8 tj.toNat)
  let s1 := s.updRg 0x20 0x04C (fun w =>
    let w1 := setField (setField w 7 0 tj.toNat) 9 8 new
    if new = old then w1 else satField w1 31 16 1)
  let s1 := s1.updRg 0x05 0x06C (fun w => setFlag (setField (setField w 7 0 tj.toNat) 9 8 new) 10 (new == 2))
  if new = old then s1
  else
    let s1 := s1.evLevel 0x05 4 (new == 2)
    let s1 := if new = 2 then s1.updRg 0x06 0x040 (fun w => setField w 1 0 (min 1 (field w 1 0))) else s1
    let s2 := (s1.updFld (fun f => { f with band := new })).updRg 0x20 0x048
      (fun w => setField w 11 0 (if new = 0 then 2000 else if new = 1 then 1000 else 0))
    let s3 := if new > old then s2.faultRec 0x15 0x20 new else s2
    (if new = 2 then s3.failPorts (fun n => !flag (s3.antCfg n) 1) else s3).refreshField

/-- VFLD leaves its range (R327). -/
def State.vfldDown (s : State) : State :=
  let s1 := { s with pwr := { s.pwr with vfld := false } }
  ((s1.faultRec 0x16 0x20 0).failPorts (fun _ => true)).refreshField

/-- VFLD returns, and carriers restart 1 ms later (R327). -/
def State.vfldUp (s : State) : State :=
  if s.pwr.vfld then s
  else State.refreshField (({ s with pwr := { s.pwr with vfld := true } } : State).supplyBack [11, 12])

/-! ### Commands -/

/-- ANT_CFG_WRITE (R309, R312). -/
def execAntCfgWrite (m : Master) (n : Fin 8) (v : Word) (s : State) : Host.Outcome State Fault Refusal :=
  .next (s.write m 0x21 (0x040 + 0x20 * n.val) v (antCfgEffect n.val v))

/-- SHAPE_WRITE (R313). -/
def execShapeWrite (m : Master) (k : Fin 8) (v : Word) (s : State) : Host.Outcome State Fault Refusal :=
  .next (s.write m 0x20 (0x080 + 4 * k.val) v (shapeEffect k.val v))

/-- The enabled ports that a transaction holds. -/
def State.busyPorts (s : State) : BitVec 8 :=
  BitVec.ofNat 8 (((List.range 8).filter (fun n => flag (s.antCfg n) 0 && flag (s.antStat n) 4)).foldl
    (fun acc n => acc + 2 ^ n) 0)

/-- A pass that runs by itself: the one before READY at once, the periodic ones SUP_PERIOD seconds apart; the ports that
are BUSY wait for their transactions (R316, R318). -/
def State.newPass (s : State) (l : List AntMeas) : State :=
  let s1 := if s.ready 0x20 then s.reach (s.fld.passAt + BitVec.ofNat 64 (secTime (field (s.rg 0x20 0x040) 15 8))) else s
  (s1.updFld (fun f => { f with passAt := s1.now, passWait := s1.busyPorts })).superviseMask 0xFF l

/-- The last pass goes on: ports that waited and are BUSY no longer are tested; where all are BUSY still, the second they
were given runs out and they are skipped (R316). -/
def State.latePass (s : State) (l : List AntMeas) : State :=
  let still := s.fld.passWait &&& s.busyPorts
  if still = s.fld.passWait then
    (s.reach (s.fld.passAt + BitVec.ofNat 64 (secTime 1))).updFld (fun f => { f with passWait := 0 })
  else (s.updFld (fun f => { f with passWait := still })).superviseMask (s.fld.passWait &&& ~~~still).toNat l

/-- The rest of the last pass, while ports wait for it and its second is not over, or else a new one. -/
def State.periodicPass (s : State) (l : List AntMeas) : State :=
  if s.fld.passWait != 0 && decide ((s.now - s.fld.passAt).toNat < secTime 1) then s.latePass l else s.newPass l

/-- SUPERVISION_PASS (R316): a pass, or the tests of ports that were BUSY as it ran (log entry 1403). -/
def execSupervisionPass (l : List AntMeas) (s : State) : Host.Outcome State Fault Refusal :=
  .next (if s.mayPass then s.periodicPass l else s)

/-- SUPERVISE (R330); it waits for a protected window to end (R325), and up to 1 s for the transaction of a named port
that is BUSY (R316). -/
def execSupervise (tag : Fin 128) (l : List AntMeas) (s : State) : Host.Outcome State Fault Refusal :=
  .next (s.runOp tag.val 0x20 1 (fun _ => true)
    (fun k t =>
      let busy := (portsOf (field (k.arg 0) 7 0)).any (fun n => flag (t.antCfg n) 0 && flag (t.antStat n) 4)
      if t.coexMode != 0 || (busy && decide ((t.now - k.ended).toNat < secTime 1)) then (t, none)
      else (t.superviseMask (field (k.arg 0) 7 0) l, some .done)))

/-- MATCH (R330). -/
def execMatchOp (tag : Fin 128) (l : List TuneMeas) (s : State) : Host.Outcome State Fault Refusal :=
  .next (s.runOp tag.val 0x21 1 (fun _ => true) (matchEffect l))

/-- TEACH (R321). -/
def execTeach (tag : Fin 128) (answers : Nat) (replies : List (List (Int × Int))) (s : State) :
    Host.Outcome State Fault Refusal :=
  .next (s.runOp tag.val 0x21 2 (fun k => decide (field (k.arg 0) 18 16 ≤ 2)) (teachEffect answers replies))

/-- SOLVE (R322). -/
def execSolve (tag : Fin 128) (s : State) : Host.Outcome State Fault Refusal :=
  .next (s.runOp tag.val 0x21 3 s.solveArgs solveEffect)

/-- LPCD_ROUND (R319). -/
def execLpcdRound (l : List (Int × Int)) (s : State) : Host.Outcome State Fault Refusal :=
  .next (s.lpcdRound l)

/-- COEX_WINDOW_START (R325). -/
def execCoexWindowStart (scheduled : Option (BitVec 64 × BitVec 64)) (sending : Bool) (s : State) : Host.Outcome State Fault Refusal :=
  .next (s.coexStart scheduled sending)

/-- COEX_WINDOW_END (R325). -/
def execCoexWindowEnd (s : State) : Host.Outcome State Fault Refusal := .next s.coexEnd

/-- THERMAL_READ (R326). -/
def execThermalRead (tj : BitVec 8) (s : State) : Host.Outcome State Fault Refusal :=
  .next (if s.unavailable .field then s else s.thermal tj)

/-- VFLD_OUT (R327). -/
def execVfldOut (s : State) : Host.Outcome State Fault Refusal := .next s.vfldDown

/-- VFLD_RETURN (R327). -/
def execVfldReturn (s : State) : Host.Outcome State Fault Refusal := .next s.vfldUp

end Sys2Proof.Machine
end

