-- ==== Sys2Proof/Machine/Reader.lean ====
section
/-!
DEFINITION. The reader engine (chapter 15): how an operation begins (checks, antenna choice), ISO/IEC 14443
activation, exchanges, inventory, the tag-port map and tag-port reads.
-/
namespace Sys2Proof.Machine

/-! ### Antennas (R338) -/

/-- The antennas chosen for an operation: mask, profile and whether it is used, REASON and home antenna. -/
structure AntPick where
  ants : Nat := 0
  profile : Nat := 0
  useProfile : Bool := false
  reason : Nat := 0
  home : Nat := 0xFF
  deriving DecidableEq, Repr

/-- The antennas a profile enables. -/
def State.profileMask (s : State) (k : Nat) : Nat :=
  ((List.range 8).filter (fun j => flag (s.steer k j) 15)).foldl (fun acc j => acc + 2 ^ j) 0

/-- The home table's entry of a UID. -/
def State.homeOf (s : State) (uid : Option (BitVec 64)) : Option HomeEntry :=
  uid.bind (fun u => s.fld.home.find? (fun e => e.uid == u))

/-- The antennas for an exchange, in the order of R338; none when no antenna in service is left. -/
def State.pickAnts (s : State) (mask prof : Nat) (useProf : Bool) (uid : Option (BitVec 64)) :
    Option AntPick :=
  let serv := s.serviceMask
  let all : AntPick := { ants := serv, profile := prof, useProfile := useProf, reason := 2 }
  let pick : AntPick :=
    if mask ≠ 0 then
      { ants := Nat.land mask serv, profile := prof, useProfile := useProf, reason := 3
        home := match s.homeOf uid with | some e => e.home | none => 0xFF }
    else
      match s.homeOf uid with
      | none => all
      | some e =>
        let nib := field (s.rg 0x22 0x0B0) (4 * e.home + 3) (4 * e.home)
        let ofProfile := Nat.land (s.profileMask (nib % 8)) serv
        if nib ≥ 8 && ofProfile != 0 then
          { ants := ofProfile, profile := nib % 8, useProfile := true, reason := 5, home := e.home }
        else if serv.testBit e.home then
          { ants := 2 ^ e.home, profile := prof, useProfile := useProf, reason := 1, home := e.home }
        else if serv.testBit e.next then
          { ants := 2 ^ e.next, profile := prof, useProfile := useProf, reason := 4, home := e.home }
        else { all with home := e.home }
  if pick.ants = 0 then none else some pick

/-- The ANTENNA placement record (R271, R338). -/
def State.antRecord (s : State) (subject tag : Nat) (p : AntPick) : State :=
  s.place 9 p.reason subject p.ants p.home
    (pack [(0, 3, p.profile), (3, 1, bit p.useProfile), (8, 8, tag)])

/-- Whether the carriers of a choice may all be on. -/
def State.antsUp (s : State) (ants : Nat) : Bool := (portsOf ants).all (fun n => !s.carrierBlocked n)

/-- The engine takes an operation up: its transaction holds its antennas. -/
def State.beginRun (s : State) (tag : Nat) (p : AntPick) (ctx : Option Nat) : State :=
  let k := s.slot tag
  State.refreshField (s.updFld (fun f =>
    { f with
      paused := f.run, aired := []
      run := some { tag := BitVec.ofNat 7 tag, ants := BitVec.ofNat 8 p.ants, profile := BitVec.ofNat 3 p.profile
                    useProfile := p.useProfile, ctx := ctx
                    sweep := k.page == 0x22 && k.op == 3 && flag (k.arg 0) 22 } }))

/-! ### The start of an operation -/

/-- Whether the engine can work: its own block and FIELD are READY, and GRANARY, without which the reader stops, is
available (R18, R81). -/
def State.engineUp (s : State) (page : Nat) : Bool := s.ready page && s.ready 0x20 && s.granaryUp

/-- A UID of a 15693 session as a number. -/
def Session.uid64 (x : Session) : Option (BitVec 64) :=
  if x.proto = 2 then some (BitVec.ofNat 64 (natLE x.uid)) else none

/-- The handle an ACTIVATE names. -/
def actHandle (k : Slot) : Nat := field (k.arg 0) 30 24

/-- Whether ACTIVATE's arguments are in range (R354): handles 120 to 123 are the presets'. -/
def activateArgs (k : Slot) : Bool :=
  let a := k.arg 0
  field a 1 0 != 3 && decide (field a 22 20 ≤ 4)
  && (if k.src == 8 then decide (120 ≤ actHandle k) && decide (actHandle k ≤ 123) else decide (actHandle k ≤ 119))
  && (field a 1 0 != 2 || k.arg 1 != 0 || k.arg 2 != 0)

/-- What an operation meets as the engine takes it up: a code that ends it, or its antennas with the subject of
their record, none for an operation that chooses no antenna of its own now. -/
abbrev Begin := Except Code (Option (AntPick × Nat))

/-- The choice checked against the carriers. -/
def State.beginWith (s : State) (subject : Nat) (p : Option AntPick) : Begin :=
  match p with
  | none => .error .medium
  | some p => if s.antsUp p.ants then .ok (some (p, subject)) else .error .medium

/-- ACTIVATE's start. -/
def State.activateStart (s : State) (k : Slot) : Begin :=
  let a := k.arg 0
  if !activateArgs k then .error .arg
  else if !s.engineUp 0x22 then .error .notReady
  else if (s.session (actHandle k)).isSome then .error .state
  else if !s.hasField || !s.ctxRoom 1 then .error .busy
  else if field a 1 0 = 2 then
    if field a 15 8 = 0 then .ok none
    else if Nat.land (field a 15 8) s.serviceMask = 0 then .error .medium
    else .ok none
  else s.beginWith (actHandle k) (s.pickAnts (field a 15 8) (field a 18 16) (flag a 19) none)

/-- Whether EXCHANGE's arguments are in range (R343, R354). -/
def State.exchangeArgs (s : State) (k : Slot) : Bool :=
  let a := k.arg 0
  let clen := field (k.arg 2) 12 0
  let rmax := field (k.arg 4) 12 0
  decide (field a 6 0 ≤ 123) && !(flag a 8 && flag a 9) && (!flag a 9 || field a 21 16 != 0)
  && decide (1 ≤ clen) && decide (clen ≤ 4096) && decide (1 ≤ rmax) && decide (rmax ≤ 4096)
  && s.bytesInside (k.arg 1).toNat clen && s.bytesWritable (k.arg 3).toNat rmax

/-- EXCHANGE's start. -/
def State.exchangeStart (s : State) (k : Slot) : Begin :=
  let a := k.arg 0
  let h := field a 6 0
  if !s.exchangeArgs k then .error .arg
  else if !s.engineUp 0x22 then .error .notReady
  else
    match s.session h with
    | none => .error .state
    | some x =>
      if x.proto = 2 then
        if flag a 9 then .error .arg
        else if !s.hasField then .error .busy
        else s.beginWith h (s.pickAnts x.ants.toNat x.profile.toNat x.useProfile x.uid64)
      else if !x.l4 && !flag a 8 then .error .state
      else if !s.hasField then .error .busy
      else if flag a 9 && !s.cribUp then .error .notReady
      else
        .ok (some ({ ants := x.ants.toNat, profile := x.profile.toNat, useProfile := x.useProfile, reason := 0 }, h))

/-- Whether INVENTORY's arguments are in range (R348, R356): its queue in commit mode, its mask length. -/
def State.inventoryArgs (s : State) (k : Slot) : Bool :=
  let one := flag (k.arg 0) 17
  !qCut (s.qcfg (field (k.arg 1) 4 0)) && decide (field (k.arg 1) 14 8 ≤ (if one then 63 else 60))

/-- INVENTORY's start. -/
def State.inventoryStart (s : State) (k : Slot) : Begin :=
  let a := k.arg 0
  if !s.inventoryArgs k then .error .arg
  else if !s.engineUp 0x22 then .error .notReady
  else if !s.hasField then .error .busy
  else s.beginWith 0xFF (s.pickAnts (field a 7 0) (field a 25 23) (flag a 26) none)

/-- A map entry's word (R349). -/
def State.mapWord (s : State) (t i : Nat) : Word := Tab.get (fun _ => 0) s.fld.map (8 * t + i)

/-- The UID a map entry names. -/
def State.mapUid (s : State) (t : Nat) : BitVec 64 := s.mapWord t 1 ++ s.mapWord t 0

/-- The antennas of a tag-port read. -/
def State.tagPick (s : State) (t : Nat) : Option AntPick :=
  let w6 := s.mapWord t 6
  s.pickAnts (field (s.mapWord t 5) 31 24) (field w6 4 2) (flag w6 5) (some (s.mapUid t))

/-- What a tag-port read meets before its exchange: STATE for an entry not in use, BUSY without a context, MEDIUM
without an antenna (R343, R350). -/
def State.tagStart (s : State) (t : Nat) : Begin :=
  if !flag (s.mapWord t 7) 0 then .error .state
  else if !s.hasField || !s.ctxRoom 1 then .error .busy
  else s.beginWith 0xFF (s.tagPick t)

/-- Whether MAPLOAD's arguments are in range (R355). -/
def mapLoadArgs (k : Slot) : Bool :=
  let first := field (k.arg 2) 7 0
  let count := field (k.arg 2) 15 8
  decide (1 ≤ count) && decide (first + count ≤ 192) && (k.arg 1).toNat % 4 == 0
  && (!flag (k.arg 0) 0 || decide ((k.arg 1).toNat + 32 * count ≤ 0x1000000))

/-- CLOSE's start: Stay Quiet is an exchange, which needs antennas; where none is in service the session is closed without
it (R338, R354). -/
def State.closeStart (s : State) (k : Slot) : Begin :=
  if field (k.arg 0) 6 0 > 123 then .error .arg
  else
    match s.session (field (k.arg 0) 6 0) with
    | some x =>
      if x.proto = 2 && flag (k.arg 0) 8 && s.engineUp 0x22 then
        match s.pickAnts x.ants.toNat x.profile.toNat x.useProfile x.uid64 with
        | some p => if s.antsUp p.ants then .ok (some (p, field (k.arg 0) 6 0)) else .ok none
        | none => .ok none
      else .ok none
    | none => .ok none

/-- How a reader operation begins, by page and code. -/
def State.readerStart (s : State) (k : Slot) : Begin :=
  if k.page == 0x22 then
    if k.op == 1 then s.activateStart k
    else if k.op == 2 then s.exchangeStart k
    else if k.op == 3 then s.inventoryStart k
    else s.closeStart k
  else if k.op == 2 then
    let t := field (k.arg 0) 7 0
    if t ≥ 192 then .error .arg
    else if !s.engineUp 0x23 then .error .notReady
    else s.tagStart t
  else if k.op == 1 && !mapLoadArgs k then .error .arg
  else .ok none

/-! ### Waiting on the field (R334) -/

/-- Whether an ISO/IEC 15693 command is write-class (R334). -/
def writeClass (code : Nat) : Bool := [0x21, 0x22, 0x24, 0x27, 0x28, 0x29, 0x2A].contains code

/-- n carrier cycles in ns, rounded up. -/
def cyclesNs (n : Nat) : Nat := (n * 100000 + 1355) / 1356

/-- FWT in ns (R334). -/
def fwtNs (fwi : Nat) : Nat := cyclesNs (4096 * 2 ^ fwi + 49152)

/-- The reply wait of an ISO/IEC 15693 command in ns: t1 and 2 ms read-class, 20 ms write-class, WRITE_WAIT and t1 with its
option flag, and XWAIT more for a custom command (R334). -/
def State.viccWaitNs (s : State) (flags code xwait : Nat) : Nat :=
  let t1 := cyclesNs 4352
  (if !writeClass code then t1 + 2000000
   else if flags.testBit 6 then field (s.rg 0x22 0x040) 15 8 * 1000000 + t1 else 20000000)
  + (if 0xA0 ≤ code then 1000 * xwait else 0)

/-- The least time an exchange is reckoned to take in ns: carrier on to first command where it starts the carrier, and the
longest wait for its reply (R334). -/
def State.exchangeNs (s : State) (k : Slot) : Nat :=
  if k.page == 0x23 && k.op == 2 then
    let t := field (k.arg 0) 7 0
    1100000 + s.viccWaitNs (if flag (s.mapWord t 2) 16 then 64 else 0) (s.mapCommand t) (field (s.mapWord t 6) 31 16)
  else if k.page == 0x22 && k.op == 1 then 5100000 + cyclesNs 71680
  else
    match s.runProto k with
    | (_, some x) => if x.proto = 2 then 1100000 + s.viccWaitNs 0 0 0 + 1000 * field (k.arg 5) 15 0 else fwtNs x.fwi.toNat
    | _ => 1100000 + cyclesNs 4352 + 2000000

/-- Whether a reader exchange would overlap a protected window that FIELD has notice of (R325; how long an exchange is
reckoned to take: DESIGN CHOICE, log entry 1409). -/
def State.wouldOverlap (s : State) (k : Slot) : Bool :=
  match s.fld.coming with
  | some w =>
    let mode := field (s.rg 0x20 0x050) 1 0
    w.protect && (mode == 1 || mode == 2) && decide (w.start.toNat < s.now.toNat + nsTime (s.exchangeNs k))
  | none => false

/-! ### The end of an exchange -/

/-- READER.ERRCNT goes up in a field. -/
def State.readerCount (s : State) (hi lo : Nat) : State := s.updRg 0x22 0x04C (fun w => satField w hi lo 1)

/-- The transaction of a slot ends: its result, its ports given back. -/
def State.readerEnd (s : State) (tag : Nat) (c : Code) : State :=
  let s1 := if (s.fld.run.map (·.tag)) == some (BitVec.ofNat 7 tag) then s.endRun else s
  (s1.setResult tag c).refreshField

/-- A session opens in its context (R335, R353). -/
def State.openSession (s : State) (tag h : Nat) (x : Session) : State :=
  match s.ctxAlloc 1 with
  | none => s.readerEnd tag .busy
  | some (n, s1) =>
    (((s1.putSession h (some { x with ctx := n, last := s1.now })).evPulse 0x22 0).pulse 0xAB).readerEnd tag .done

/-! ### Activation (R339, R340) -/

/-- The four bytes a UID of 4, 7 or 10 bytes sends at a cascade level, 0 to 2, the cascade tag before each level but the
last; none past the last (R333, R339). -/
def cascade (uid : List Byte) (level : Nat) : List Byte :=
  let last := if uid.length = 10 then 2 else if uid.length = 7 then 1 else 0
  if level < last then 0x88 :: (uid.drop (3 * level)).take 3 else if level = last then uid.drop (3 * level) else []

/-- Whether all bits of a list agree. -/
def agree (l : List Bool) : Bool := l.all (· == l.headD false)

/-- Anticollision at one level over the bits of the cards that answer, from the bits named so far: each ANTICOLLISION's
bits, and the bits selected. At a collided bit the device chooses 1 (R339). -/
def anticollide (cards : List (List Bool)) : Nat → List Bool → List (List Bool) × List Bool
  | 0, known => ([known], known)
  | fuel + 1, known =>
    let here := cards.filter (fun c => c.take known.length == known)
    let bits := here.headD []
    match (List.range bits.length).find? (fun i => !agree (here.map (fun c => c.getD i false))) with
    | none => ([known], bits)
    | some i =>
      let (sent, all) := anticollide cards fuel (bits.take i ++ [true])
      (known :: sent, all)

/-- The cascade over the cards that answer, from a level up: the frames sent, and the cards selected, one where no two
share a UID (R339). -/
def cascadeRun : Nat → Nat → List CardA → List ReaderFrame × List CardA
  | 0, _, cards => ([], cards)
  | fuel + 1, level, cards =>
    let bits (c : CardA) : List Bool := (cascade c.uid level).flatMap (byteBits true)
    if cards.all (fun c => (bits c).isEmpty) then ([], cards)
    else
      let (sent, all) := anticollide (cards.map bits) 32 []
      let (frames, l) := cascadeRun fuel (level + 1) (cards.filter (fun c => bits c == all))
      (sent.map (.anticollision (level + 1)) ++ [.select (level + 1) all] ++ frames, l)

/-- The lowest CID no level-4 session on one of the antennas holds; 14 cards an antenna set (R333, R339). -/
def State.freeCid (s : State) (ants : Nat) : Option (BitVec 4) :=
  ((List.range 14).find? (fun c =>
    !s.fld.sessions.any (fun e =>
      match e.2 with
      | some x => x.cid == some (BitVec.ofNat 4 c) && Nat.land x.ants.toNat ants != 0
      | none => false))).map (BitVec.ofNat 4)

/-- FWI 15 is read as 4 (R334). -/
def fwiOf (w : BitVec 4) : BitVec 4 := if w = 15 then 4 else w

/-- The highest of the rates 106, 212, 424 and 848 that is offered and not above RATE; 106 always is (R339, R340). -/
def bestRate (offered : BitVec 3) (rate : Nat) : BitVec 2 :=
  BitVec.ofNat 2 (((List.range 4).filter (fun v => decide (v ≤ rate) && (v == 0 || offered.getLsbD (v - 1)))).getLastD 0)

/-- A session with the parameters of a card that speaks ISO-DEP (R339). -/
def State.withL4 (s : State) (x : Session) (rate : Nat) (c : CardL4) : Session :=
  { x with l4 := true, fsci := c.fsci, fwi := fwiOf c.fwi, ds := bestRate c.ds rate, dr := bestRate c.dr rate
           cid := if c.cid then s.freeCid x.ants.toNat else none }

/-- The first slot that holds a valid ATQB, with its number. -/
def firstAtqb (l : List SlotB) : Option (Nat × List Byte × Word × CardL4) :=
  l.zipIdx.findSome? (fun e => match e.1 with | .atqb p d c => some (e.2, p, d, c) | _ => none)

/-- A Type B round of N slots: REQB or WUPB, then Slot-MARKERs up to the slot taken, or through all (R340). -/
def roundFrames (wup : Bool) (n : Nat) (l : List SlotB) : List ReaderFrame :=
  let last := match firstAtqb (l.take n) with | some (i, _) => i + 1 | none => n
  (if wup then .wupb n else .reqb n) :: ((List.range last).drop 1).map (fun i => .slotMarker (i + 1))

/-- The first slot that holds a valid ATQB in a round of N, then in one of twice as many after a garbled slot:
none for no answer at all, an error for answers that were all garbled (R340); and the frames sent. -/
def roundB (wup : Bool) (n : Nat) (first second : List SlotB) :
    List ReaderFrame × Except Code (List Byte × Word × CardL4) :=
  let sent := roundFrames wup n first
  match firstAtqb (first.take n) with
  | some (_, x) => (sent, .ok x)
  | none =>
    if (first.take n).contains .garbled then
      let m := min 16 (2 * n)
      let all := sent ++ roundFrames wup m second
      match firstAtqb (second.take m) with
      | some (_, x) => (all, .ok x)
      | none => (all, .error .medium)
    else (sent, .error .timeout)

/-- CFG.RETRY (R341, R343). -/
def State.retries (s : State) : Nat := field (s.rg 0x22 0x040) 3 1

/-- Frames of an activation go out at 106 kbit/s. -/
def State.airAct (s : State) (proto : Nat) (l : List ReaderFrame) : State := s.air (l.map (s.sentAs proto 0 none))

/-- An activation that fails: counted and ended. -/
def State.activateFails (s : State) (tag : Nat) (c : Code) : State :=
  (match c with
   | .timeout => s.readerCount 15 8
   | .medium => s.readerCount 7 0
   | _ => s).readerEnd tag c

/-- A Type A activation: what it sends, and the session it opens or the code it ends with. Without a reply REQA or WUPA is
sent CFG.RETRY times more, and RATS so without an ATS. A card that does not offer ISO/IEC 14443-4 is left HALTed where L4 is
asked for. PPS goes out where a rate above 106 is taken (R339, R343). -/
def State.activateA (s : State) (k : Slot) (l : List CardA) (session : CardA → Session) :
    List ReaderFrame × Except (Code × Bool) Session :=
  let a := k.arg 0
  let req : ReaderFrame := if flag a 2 then .wupa else .reqa
  let here := l.filter (fun c => flag a 2 || !c.halted)
  let (frames, cards) := cascadeRun 3 0 here
  match cards with
  | [] => (List.replicate (s.retries + 1) req, .error (.timeout, true))
  | c :: _ =>
    let sent := req :: frames
    if !flag a 3 then (sent, .ok (session c))
    else if !c.sak.getLsbD 5 then (sent ++ [.hlta], .error (.medium, false))
    else
      match c.l4 with
      | none => (sent ++ List.replicate (s.retries + 1) (.rats 8 none), .error (.timeout, true))
      | some l4 =>
        let x := s.withL4 (session c) (field a 5 4) l4
        (sent ++ [.rats 8 x.cid] ++ (if x.ds = 0 && x.dr = 0 then [] else [.pps x.ds x.dr]), .ok x)

/-- ACTIVATE at its end (R339, R340, R354). -/
def State.activateEnd (s : State) (tag : Nat) (k : Slot) (r : CardReply) : State :=
  let a := k.arg 0
  let h := actHandle k
  let proto := field a 1 0
  let base (run : ReaderRun) (ant : Fin 8) (rssi : Byte) (uid : List Byte) (atq : Word) : Session :=
    { proto := BitVec.ofNat 2 proto, uid := uid, atq := atq, ants := run.ants, profile := run.profile
      useProfile := run.useProfile, stamp := s.now, rssi := pack [(0, 8, rssi.toNat), (8, 3, ant.val)] }
  let req : ReaderFrame :=
    if proto = 0 then (if flag a 2 then .wupa else .reqa)
    else if flag a 2 then .wupb (2 ^ field a 22 20) else .reqb (2 ^ field a 22 20)
  if proto = 2 then
    s.openSession tag h
      { proto := 2, uid := wordsBytes [k.arg 1, k.arg 2], ants := BitVec.ofNat 8 (field a 15 8)
        profile := BitVec.ofNat 3 (field a 18 16), useProfile := flag a 19 }
  else
    match s.fld.run with
    | none => s
    | some run =>
      match proto, r with
      | 0, .cards l ant rssi =>
        let (sent, out) := s.activateA k l (fun c =>
          base run ant rssi c.uid (pack [(0, 16, c.atqa.toNat), (16, 8, c.sak.toNat)]))
        let s1 := s.airAct 0 sent
        match out with
        | .ok x => s1.openSession tag h x
        | .error (c, counted) => if counted then s1.activateFails tag c else s1.readerEnd tag c
      | 1, .slots first second ant rssi =>
        let (sent, out) := roundB (flag a 2) (2 ^ field a 22 20) first second
        let s1 := s.airAct 1 sent
        match out with
        | .error c => s1.activateFails tag c
        | .ok (pupi, data, l4) =>
          let y := s1.withL4 (base run ant rssi pupi data) (field a 5 4) l4
          (s1.airAct 1 [.attrib pupi y.ds y.dr y.cid]).openSession tag h
            (if flag a 3 then y else { y with l4 := false, cid := none })
      | _, .broken => (s.airAct proto (List.replicate (s.retries + 1) req)).activateFails tag .medium
      | _, _ => (s.airAct proto (List.replicate (s.retries + 1) req)).activateFails tag .timeout

/-! ### Exchanges (R341 to R344) -/

/-- SRES of a response (R356). -/
def sresOf (proto : Nat) (raw : Bool) (stored : Nat) (l : List Byte) : Word :=
  let sw := natBE (l.drop (l.length - 2))
  let up :=
    if proto = 2 then
      (l.getD 0 0).toNat + 256 * (if (l.getD 0 0).getLsbD 0 then (l.getD 1 0).toNat else 0)
    else if raw then 0
    else sw
  pack [(0, 13, stored), (16, 16, up)]

/-- A frame and its repeats, with what is heard after each: how many were sent, and the response or the code after the last
(R343). -/
def rawTries : Nat → List Heard → Nat × Except Code (List Byte)
  | n, h =>
    match h.headD .silence with
    | .frame (.raw l) => (1, .ok l)
    | x =>
      match n with
      | 0 => (1, .error (if x = .silence then .timeout else .medium))
      | m + 1 =>
        let (sent, out) := rawTries m h.tail
        (sent + 1, out)

/-- The CRC of ISO/IEC 15693 over a frame's bytes, as sent, low byte first (PRESUMED, log entry 1507). -/
def viccCrc (l : List Byte) : List Byte :=
  bytesLE 2 (Nat.xor (reverseBits 16 (crcRun 16 0x1021 true 0xFFFF l)) 0xFFFF)

/-- The bytes of an ISO/IEC 15693 request from those a command gives: with the address flag 1 and the inventory flag 0 the
UID goes in after the command code, or after the manufacturer code of a custom command; then the CRC (R342). -/
def viccRequest (uid cmd : List Byte) : List Byte :=
  let body :=
    match cmd with
    | flags :: code :: rest =>
      if !(flags.getLsbD 5 && !flags.getLsbD 2) then cmd
      else if 0xA0 ≤ code.toNat && code.toNat ≤ 0xDF then flags :: code :: rest.take 1 ++ uid ++ rest.drop 1
      else flags :: code :: uid ++ rest
    | _ => cmd
  body ++ viccCrc body

/-- The frames of an ISO/IEC 15693 request sent n times: a write-class one with the option flag is followed by an EOF
(R334, R342). -/
def State.airVicc (s : State) (n : Nat) (uid cmd : List Byte) : State :=
  let eof : List ReaderFrame := if writeClass (cmd.getD 1 0).toNat && (cmd.getD 0 0).getLsbD 6 then [.eof] else []
  s.air (((List.replicate n (.vicc (viccRequest uid cmd) :: eof)).flatten).map (s.sentAs 2 0 none))

/-- A command in pieces of n bytes, the last one not empty. -/
def chainPieces (n : Nat) : Nat → List Byte → List (List Byte)
  | 0, _ => []
  | fuel + 1, l => if l.length ≤ n then [l] else l.take n :: chainPieces n fuel (l.drop n)

/-- The longest frame a card takes, by its FSCI; above 256 bytes is treated as 256 (R333, R335). -/
def frameSize (fsci : Nat) : Nat := [16, 24, 32, 40, 48, 64, 96, 128, 256].getD fsci 256

/-- A block transport of R341 in progress: the next block number, the command's pieces from the one being sent on, the
response so far, whether the card is chaining, the repeats of the present block, and the frames sent. -/
structure IsoDep where
  num : Bool := false
  todo : List (List Byte) := []
  got : List Byte := []
  receiving : Bool := false
  tries : Nat := 0
  sent : List ReaderFrame := []
  deriving DecidableEq, Repr

/-- The I-block of the present piece. -/
def IsoDep.block (x : IsoDep) : ReaderFrame := .iBlock (decide (1 < x.todo.length)) x.num (x.todo.headD [])

/-- An invalid block or none: R(NAK), or R(ACK) while the card chains. -/
def IsoDep.again (x : IsoDep) : IsoDep :=
  { x with tries := x.tries + 1, sent := x.sent ++ [if x.receiving then .rAck x.num else .rNak x.num] }

/-- What a valid block does: the transport goes on, or the response is whole; none for a block that is not valid here. An
R(ACK) with the other block number has the last I-block sent again. -/
def IsoDep.take (x : IsoDep) (retry : Nat) : CardFrame → Option (IsoDep × Bool)
  | .iBlock chain n inf =>
    if n = x.num && x.todo.length ≤ 1 then
      let y := { x with got := x.got ++ inf, num := !x.num, tries := 0, receiving := chain }
      some (if chain then ({ y with sent := y.sent ++ [.rAck y.num] }, false) else (y, true))
    else none
  | .rAck n =>
    if x.receiving then none
    else if n = x.num then
      if 1 < x.todo.length then
        let y := { x with num := !x.num, todo := x.todo.tail, tries := 0 }
        some ({ y with sent := y.sent ++ [y.block] }, false)
      else none
    else if x.tries < retry then some ({ x with tries := x.tries + 1, sent := x.sent ++ [x.block] }, false)
    else none
  | .wtx m =>
    if 1 ≤ m.toNat && m.toNat ≤ 59 then some ({ x with tries := 0, sent := x.sent ++ [.wtx m] }, false) else none
  | _ => none

/-- The transport through what is heard: its end, and none where the response is whole, or else whether the card
acknowledged the S(DESELECT) that follows the last repeat (R341). -/
def IsoDep.run (retry : Nat) : Nat → List Heard → IsoDep → IsoDep × Option Bool
  | 0, _, x => (x, some false)
  | fuel + 1, heard, x =>
    match (match heard.headD .silence with | .frame f => x.take retry f | _ => none) with
    | some (y, true) => (y, none)
    | some (y, false) => IsoDep.run retry fuel heard.tail y
    | none =>
      if x.tries < retry then IsoDep.run retry fuel heard.tail x.again
      else ({ x with sent := x.sent ++ [.deselect] }, some (heard.tail.headD .silence == .frame .deselect))

/-- An EXCHANGE on a level-4 session: the command in I-blocks chained at the card's FSC, less prologue, CID and CRC
(R341). -/
def isoExchange (retry : Nat) (x : Session) (cmd : List Byte) (heard : List Heard) : IsoDep × Option Bool :=
  let n := frameSize x.fsci.toNat - (if x.cid.isSome then 4 else 3)
  let y : IsoDep := { num := x.block, todo := chainPieces n cmd.length cmd }
  IsoDep.run retry (heard.length + retry + 2) heard { y with sent := [y.block] }

/-- A session after an exchange. -/
def State.touchSession (s : State) (h : Nat) (f : Session → Session) : State :=
  match s.session h with
  | none => s
  | some x => s.putSession h (some { f x with last := s.now })

/-- An exchange ends: EXCH_ERR unless DONE. -/
def State.exchangeDone (s : State) (tag : Nat) (c : Code) : State :=
  (if c = .done then s else s.evPulse 0x22 3).readerEnd tag c

/-- The VERIFY of a response: the Crib's CMAC over command and data against the eight MAC bytes (R354). -/
def State.verifyMac (s : State) (slot : Nat) (cmd l : List Byte) : Bool :=
  match (if (s.key slot).usage.getLsbD 7 then s.aesKey slot 2 else none) with
  | none => false
  | some key =>
    decide (10 ≤ l.length)
    && (aesCmac key (cmd ++ l.take (l.length - 10))).take 8 == (l.drop (l.length - 10)).take 8

/-- What an exchange sends and hears on its session: the response, or the code it ends with; none where an ISO-DEP failure
loses the session (R341 to R343). -/
def State.exchangeRun (s : State) (h : Nat) (x : Session) (raw : Bool) (cmd : List Byte) (r : ExchReply) :
    State × Option (Except Code (List Byte)) :=
  if x.proto = 2 then
    let (n, out) := rawTries (if mayHaveActed (cmd.getD 1 0).toNat then 0 else s.retries) r.heard
    (s.airVicc n x.uid cmd, some out)
  else if raw || !x.l4 then
    let (n, out) := rawTries s.retries r.heard
    (s.air (List.replicate n (s.sentAs x.proto.toNat x.dr none (.raw cmd))), some out)
  else
    let (y, fail) := isoExchange s.retries x cmd r.heard
    let s1 := (s.air (y.sent.map (s.sentAs x.proto.toNat x.dr x.cid))).putSession h (some { x with block := y.num })
    match fail with
    | none => (s1, some (.ok y.got))
    | some acked => (s1, if acked then some (.error .medium) else none)

/-- A response arrives: its first RMAX bytes stored, the session's record of it, VERIFY (R341 to R343, R354). -/
def State.exchangeReply (s : State) (tag : Nat) (k : Slot) (cmd l : List Byte) (r : ExchReply) : State :=
  let a := k.arg 0
  let rmax := field (k.arg 4) 12 0
  let proto := match s.session (field a 6 0) with | some x => x.proto.toNat | none => 0
  let stored := l.take rmax
  let s1 := (s.winPutBytes (k.arg 3).toNat stored).touchSession (field a 6 0) (fun x =>
    { x with sres := sresOf proto (flag a 8) stored.length l, stamp := s.now
             rssi := pack [(0, 8, r.rssi.toNat), (8, 3, r.ant.val)] })
  if l.length > rmax then s1.exchangeDone tag .busy
  else if flag a 9 && proto != 2 && !s1.verifyMac (field a 21 16) cmd l then
    (s1.authFail 2 (field a 21 16) (logMaster k)).exchangeDone tag .security
  else s1.exchangeDone tag .done

/-- EXCHANGE at its end. -/
def State.exchangeEnd (s : State) (tag : Nat) (k : Slot) (r : ExchReply) : State :=
  let a := k.arg 0
  let h := field a 6 0
  match s.winBytes (k.arg 1).toNat (field (k.arg 2) 12 0) with
  | (s1, .error c) => s1.exchangeDone tag c
  | (s1, .ok cmd) =>
    match s1.session h with
    | none => s1.exchangeDone tag .state
    | some x =>
      match s1.exchangeRun h x (flag a 8) cmd r with
      | (s2, some (.ok l)) => s2.exchangeReply tag k cmd l r
      | (s2, some (.error .timeout)) => ((s2.readerCount 15 8).touchSession h id).exchangeDone tag .timeout
      | (s2, some (.error c)) =>
        ((if x.l4 && !flag a 8 then s2 else s2.readerCount 7 0).touchSession h id).exchangeDone tag c
      | (s2, none) => (s2.loseSession h).refreshField

/-! ### Inventory (R345 to R348) -/

/-- One reply an inventory decodes: the tag's place in the list, whether it was separated, and its slot. -/
structure Decoded where
  tag : Nat := 0
  sep : Bool := false
  slot : Nat := 0
  deriving DecidableEq, Repr

/-- What a tree of rounds has found so far. -/
structure Tree where
  found : List Decoded := []
  slots : Nat := 0
  collided : Nat := 0
  /-- A collision lay too deep to descend. -/
  deep : Bool := false
  stack : List (Nat × Nat) := []
  /-- The rounds run, mask length and mask, in order. -/
  rounds : List (Nat × Nat) := []
  deriving DecidableEq, Repr

/-- The thresholds of JD_CFG while joint demodulation is on: SEP_TH, DR_MAX, MAXCORR (R347). -/
structure JointTh where
  sep : Nat
  dr : Nat
  corr : Nat
  deriving DecidableEq, Repr

/-- How the replies in a slot come out: those decoded, each with whether it was separated, and whether the slot collided.
Without joint demodulation more than one reply is a collision. With it the eigenvalues judge: one reply, two where the second
is within DR_MAX, the third far below it and the correlation small enough, else a collision. A reply is accepted only if
its CRC passes; a slot one of whose replies fails is descended (R347). -/
def slotReplies (th : Option JointTh) (joint : List JointSlot) (l : List Nat) : List (Nat × Bool) × Bool :=
  match th.bind (fun x => (joint.find? (fun j => j.tags == l)).map (x, ·)) with
  | none =>
    match l with
    | [] => ([], false)
    | [i] => ([(i, false)], false)
    | _ => ([], true)
  | some (x, j) =>
    if j.l1 ^ 10 > j.l2 ^ 10 * 10 ^ x.sep then
      match j.good.head? with
      | some i => ([(i, false)], false)
      | none => ([], true)
    else if j.l1 ^ 10 ≤ j.l2 ^ 10 * 10 ^ x.dr && j.l2 ^ 10 > j.l3 ^ 10 * 10 ^ x.sep && j.corr ≤ 256 * x.corr then
      ((j.good.take 2).map (·, true), decide (j.good.length < 2))
    else ([], true)

/-- One slot of a round: mask of length len, slot of width bits. -/
def Tree.slot (t : Tree) (th : Option JointTh) (joint : List JointSlot) (tags : List (Nat × Nat))
    (width len mask n : Nat) : Tree :=
  let here := (tags.filter (fun x => x.2 % 2 ^ (len + width) == mask + n * 2 ^ len)).map (·.1)
  let (good, bad) := slotReplies th joint here
  let fresh := good.filter (fun g => !t.found.any (fun d => d.tag == g.1))
  let t1 : Tree :=
    { t with slots := t.slots + 1
             found := t.found ++ fresh.map (fun g => { tag := g.1, sep := g.2, slot := n }) }
  if !bad then t1
  else
    let step := if width = 0 then 1 else width
    let top := if width = 0 then 63 else 60
    let t2 := { t1 with collided := t1.collided + 1 }
    if len + step > top then { t2 with deep := true }
    else if width = 0 then { t2 with stack := (len + 1, mask + 2 ^ len) :: (len + 1, mask) :: t2.stack }
    else { t2 with stack := (len + width, mask + n * 2 ^ len) :: t2.stack }

/-- Rounds until the stack is empty. -/
def Tree.run (th : Option JointTh) (joint : List JointSlot) (tags : List (Nat × Nat)) (width : Nat) :
    Nat → Tree → Tree
  | 0, t => t
  | fuel + 1, t =>
    match t.stack with
    | [] => t
    | (len, mask) :: rest =>
      Tree.run th joint tags width fuel
        ((List.range (2 ^ width)).foldl (fun acc n => acc.slot th joint tags width len mask n)
          { t with stack := rest, rounds := t.rounds ++ [(len, mask)] })

/-- The tags that a set of antennas reaches, with their UIDs. -/
def reachedTags (l : List TagSeen) (ants : Nat) : List (Nat × Nat) :=
  (l.zipIdx.filter (fun e => Nat.land e.1.reached.toNat ants != 0)).map (fun e => (e.2, e.1.uid.toNat))

/-- A tag's home antenna, the receiver with the largest reply amplitude, the lowest among equals, and the next strongest
(R338, R346). -/
def tagLevel (x : TagSeen) (n : Nat) : Nat := (x.levels.getD n 0xFF).toNat
def tagHome (x : TagSeen) : Nat :=
  (List.range 8).foldl (fun best n => if tagLevel x n < tagLevel x best then n else best) 0
def tagNext (x : TagSeen) : Nat :=
  let rest := (List.range 8).filter (· != tagHome x)
  rest.foldl (fun best n => if tagLevel x n < tagLevel x best then n else best) (rest.headD 0)

/-- The six items of a tag's packet: the level at its home antenna, the end of its own reply frame (R346, R348). -/
def tagPacket (x : TagSeen) (sep : Bool) (slot : Nat) : List Word :=
  let u := x.uid.toNat
  [ pack [(0, 8, tagLevel x (tagHome x)), (8, 3, tagHome x), (11, 1, bit sep), (16, 8, x.dsfid.toNat)]
  , BitVec.ofNat 32 (u % 2 ^ 24), BitVec.ofNat 32 (u / 2 ^ 24 % 2 ^ 24)
  , pack [(0, 16, u / 2 ^ 48), (16, 8, slot)]
  , BitVec.ofNat 32 (stampField x.stamp 47 24), BitVec.ofNat 32 (stampField x.stamp 23 0) ]

/-- The home table remembers a tag, the newest first, 256 at most (R338). -/
def State.remember (s : State) (x : TagSeen) : State :=
  s.updFld (fun f =>
    { f with home := ({ uid := x.uid, home := tagHome x, next := tagNext x }
        :: f.home.filter (fun e => e.uid != x.uid)).take 256 })

/-- A round's Inventory request, each of whose slots an EOF closes: flags with TWOSUB, the data rate, AFI and one slot, the
command code, AFI, the mask (R345, R356; the places of the flags PRESUMED, log entry 1507). -/
def inventoryRequest (a : Word) (len mask : Nat) : List Byte :=
  let flags := pack [ (0, 1, bit (flag a 19)), (1, 1, bit (!flag a 18)), (2, 1, 1), (4, 1, bit (flag a 16))
                    , (5, 1, bit (flag a 17)) ]
  let body := [BitVec.ofNat 8 flags.toNat, 0x01] ++ (if flag a 16 then [BitVec.ofNat 8 (field a 15 8)] else [])
    ++ [BitVec.ofNat 8 len] ++ bytesLE ((len + 7) / 8) mask
  body ++ viccCrc body

/-- INVENTORY at its end. -/
def State.inventoryEnd (s : State) (tag : Nat) (k : Slot) (run : ReaderRun) (l : List TagSeen)
    (joint : List JointSlot) : State :=
  let a := k.arg 0
  let jd := s.rg 0x22 0x044
  let th : Option JointTh := if flag a 21 && flag (s.rg 0x22 0x040) 0 then
      some { sep := field jd 23 16, dr := field jd 15 8, corr := field jd 7 0 } else none
  let width := if flag a 17 then 0 else 4
  let len := field (k.arg 1) 14 8
  let mask := (joinWords (k.arg 3) (k.arg 2)).toNat % 2 ^ len
  let sets := if flag a 22 then (portsOf run.ants.toNat).map (2 ^ ·) else [run.ants.toNat]
  let t := sets.foldl
    (fun acc set =>
      Tree.run th joint (reachedTags l set) width (64 * l.length + 2) { acc with stack := [(len, mask)] })
    ({} : Tree)
  let sent := t.rounds.map (fun r => { s.sentAs 2 0 none (.vicc (inventoryRequest a r.1 r.2)) with c256 := flag a 20 })
  let q := field (k.arg 1) 4 0
  let s1 := t.found.foldl
    (fun acc d =>
      match l[d.tag]? with
      | none => acc
      | some x => ((acc.blockPush q (tagPacket x d.sep d.slot)).1).remember x) (s.air sent)
  let seps := (t.found.filter (·.sep)).length
  let s2 := (s1.setRg 0x22 0x050 (pack [(0, 16, t.found.length), (16, 16, seps)])).setRg 0x22 0x054
    (pack [(0, 16, t.slots), (16, 16, t.collided)])
  ((s2.evPulse 0x22 2).pulse 0xAD).readerEnd tag (if t.deep then .medium else .done)

/-! ### Tag ports (R349 to R351) -/

/-- The value bytes of a response, extracted as the entry says; none for an error or a short response. -/
def State.tagValue (s : State) (t : Nat) (l : List Byte) : Option (BitVec 24) :=
  let w5 := s.mapWord t 5
  let off := field w5 7 0
  let n := field w5 9 8 + 1
  if (l.getD 0 0).getLsbD 0 || l.length < 1 + off + n then none
  else
    let bytes := (l.drop (1 + off)).take n
    let v := if flag w5 10 then natBE bytes else natLE bytes
    some (if flag w5 11 then BitVec.ofInt 24 (signedOf (8 * n) v) else BitVec.ofNat 24 v)

/-- A map entry's request as a command gives it: always addressed, its rate, subcarrier and option flag, command code, the
manufacturer code of a custom command, the parameter bytes (R349; the places of the flags PRESUMED, log entry 1507). -/
def State.mapRequest (s : State) (t : Nat) : List Byte :=
  let w2 := s.mapWord t 2
  let code := field w2 7 0
  let flags := pack [ (0, 1, bit (flag w2 18)), (1, 1, bit (!flag w2 17)), (5, 1, 1), (6, 1, bit (flag w2 16)) ]
  [BitVec.ofNat 8 flags.toNat, BitVec.ofNat 8 code]
    ++ (if 0xA0 ≤ code && code ≤ 0xDF then [BitVec.ofNat 8 (field w2 15 8)] else [])
    ++ (wordsBytes [s.mapWord t 3, s.mapWord t 4]).take (field w2 23 20)

/-- A tag-port read: the entry's request with up to its RETRY repeats, and what the reply makes of it (R350). -/
def State.tagReply (s : State) (t : Nat) (r : ExchReply) : State × Code :=
  let (n, out) := rawTries (field (s.mapWord t 5) 19 16) r.heard
  let s1 := s.airVicc n (bytesLE 8 (s.mapUid t).toNat) (s.mapRequest t)
  match out with
  | .ok l =>
    match s1.tagValue t l with
    | some v => (s1.tagResult t .done (some v), .done)
    | none => (s1.tagResult t .medium none, .medium)
  | .error .timeout => ((s1.readerCount 15 8).tagResult t .timeout none, .timeout)
  | .error c => ((s1.readerCount 7 0).tagResult t c none, c)

/-- GROUP_READ comes to its next port: one that meets a code has failed with it, the first other opens a transient session
on the antennas chosen for it (R335, R338, R355). -/
def State.groupTake (s : State) (tag : Nat) (ok : Bool) : List Nat → State
  | [] => s.updFld (fun f => { f with run := f.run.map (fun r => { r with ants := 0, ctx := none, rest := [], ok := ok, lost := false }) })
  | t :: rest =>
    let fail (c : Code) : State := (s.tagResult t c none).groupTake tag false rest
    match s.tagStart t with
    | .error c => fail c
    | .ok none => fail .medium
    | .ok (some (p, subject)) =>
      match (s.antRecord subject tag p).ctxAlloc 1 with
      | none => fail .busy
      | some (n, s1) =>
        s1.updFld (fun f => { f with run := f.run.map (fun r =>
          { r with ants := BitVec.ofNat 8 p.ants, profile := BitVec.ofNat 3 p.profile, useProfile := p.useProfile
                   ctx := some n, rest := t :: rest, ok := ok, lost := false, breaks := 0, owed := none }) })

/-- GROUP_READ's present port has been read, or its read has failed at a break, which takes no reply (R344, R355). -/
def State.groupNext (s : State) (tag : Nat) (run : ReaderRun) (r : ExchReply) : State :=
  let (s1, ok) : State × Bool :=
    if run.lost then (s, false)
    else
      let (s1, c) := s.tagReply (run.rest.headD 0) r
      (s1, run.ok && decide (c = .done))
  (match run.ctx with | some n => s1.ctxFree n | none => s1).groupTake tag ok run.rest.tail

/-- GROUP_READ reads its next ports, as many as there are replies; with none left it ends (R355). -/
def State.groupReads (s : State) (tag : Nat) : List ExchReply → State
  | [] =>
    match s.fld.run with
    | none => s
    | some run => if run.rest.isEmpty then s.readerEnd tag (if run.ok then .done else .medium) else s.refreshField
  | r :: more =>
    match s.fld.run with
    | none => s
    | some run =>
      if run.rest.isEmpty then s.readerEnd tag (if run.ok then .done else .medium)
      else (s.groupNext tag run r).groupReads tag more

/-- The valid entries of a mask of groups. -/
def State.groupPorts (s : State) (mask : Nat) : List Nat :=
  (List.range 192).filter (fun t => flag (s.mapWord t 7) 0 && mask.testBit (field (s.mapWord t 6) 1 0))

/-- Whether a map entry's words are in range (R349). -/
def entryOk (l : List Word) : Bool :=
  decide (field (l.getD 2 0) 23 20 ≤ 8) && decide (field (l.getD 5 0) 9 8 ≤ 2)
  && decide (field (l.getD 5 0) 19 16 ≤ 7)

/-- The bits of an entry's words that are kept (R349). -/
def entryMask (i : Nat) : Word :=
  match i with
  | 2 => 0x00F7FFFF | 5 => 0xFF0F0FFF | 6 => 0xFFFF003F | 7 => 1 | _ => 0xFFFFFFFF

/-- A map entry replaced; a held value of another UID or command is cleared (R351). -/
def State.loadEntry (s : State) (t : Nat) (l : List Word) : State :=
  let w (i : Nat) : Word := l.getD i 0 &&& entryMask i
  let same := w 0 == s.mapWord t 0 && w 1 == s.mapWord t 1
    && field (w 2) 7 0 == field (s.mapWord t 2) 7 0
  let s1 := s.updFld (fun f =>
    { f with map := (List.range 8).foldl (fun m i => Tab.set (fun _ => 0) m (8 * t + i) (w i)) f.map })
  if same then s1 else s1.putHeld t { s1.held t with has := false, value := 0, stamp := 0 }

/-- The source words of a MAPLOAD: memory window or flash; or the code it ends with. -/
def State.mapSource (s : State) (k : Slot) (n : Nat) : State × Except Code (List Word) :=
  let a := (k.arg 1).toNat
  if flag (k.arg 0) 0 then
    if s.pwr.depth != .awake then (s, .error .state)
    else if !s.flashUp then (s, .error .notReady)
    else
      match s.flashWords (slotMaster k) a n with
      | (s1, l, true) => (s1, .ok l)
      | (s1, _, false) => (s1, .error .integrity)
  else s.winReads false a n

/-- MAPLOAD (R355). -/
def mapLoadEffect (k : Slot) (s : State) : State × Option Code :=
  let first := field (k.arg 2) 7 0
  let count := field (k.arg 2) 15 8
  if !s.hasField then (s, some .busy)
  else if flag (k.arg 0) 0 && s.pwr.depth == .awake && s.flashUp && s.flashBusy (k.arg 1).toNat (32 * count) then (s, none)
  else
    match s.mapSource k (8 * count) with
    | (s1, .error c) => (s1, some c)
    | (s1, .ok l) =>
      let entries := (List.range count).map (fun i => (first + i, (l.drop (8 * i)).take 8))
      if entries.all (fun e => entryOk e.2) then
        (entries.foldl (fun acc e => acc.loadEntry e.1 e.2) s1, some .done)
      else (s1, some .arg)

/-! ### How the engine takes operations up -/

/-- A reader operation reaches the engine: a code that ends it at once, or its transaction (R337, R338). -/
def State.readerBegin (s : State) (tag : Nat) : State :=
  let k := s.slot tag
  let done (t : State) (c : Code) : State :=
    let t1 := t.setResult tag c
    if k.page == 0x22 && k.op == 2 then t1.evPulse 0x22 3
    else if k.page == 0x23 && k.op == 2 && c != .arg && c != .notReady then
      t1.tagResult (field (k.arg 0) 7 0) c none
    else t1
  match s.readerStart k with
  | .error c => done s c
  | .ok none =>
    let s1 := s.beginRun tag {} none
    if k.page == 0x23 && k.op == 3 && s.engineUp 0x23 then
      (s1.groupTake tag true (s1.groupPorts (field (k.arg 0) 3 0))).refreshField
    else s1
  | .ok (some (p, subject)) =>
    let s1 := if p.reason = 0 then s else s.antRecord subject tag p
    if k.page == 0x23 then
      match s1.ctxAlloc 1 with
      | none => done s1 .busy
      | some (c, s2) => s2.beginRun tag p (some c)
    else s1.beginRun tag p none

/-- The engine's transaction, if it is a slot's. -/
def State.runOf (s : State) (tag : Nat) : Option ReaderRun :=
  match s.fld.run with
  | some r => if r.tag == BitVec.ofNat 7 tag then some r else none
  | none => none

/-- A step of a reader operation that the engine is running. Where GRANARY has become unavailable the transaction
cannot go on: the reader stops, and it completes with NOT_READY (R18, R81). -/
def State.readerStep (s : State) (tag page op : Nat) (eff : ReaderRun → Slot → State → State) : State :=
  if s.running tag page op then
    match s.runOf tag with
    | some r => if s.granaryUp then eff r (s.slot tag) s else (s.breakRun .notReady).refreshField
    | none => s
  else s

/-- ACTIVATE (R354). -/
def execActivate (tag : Fin 128) (r : CardReply) (s : State) : Host.Outcome State Fault Refusal :=
  .next (s.readerStep tag.val 0x22 1 (fun _ k t => t.activateEnd tag.val k r))

/-- EXCHANGE (R354). One with VERIFY that has begun and finds the Crib unavailable waits for it: this row is then without
effect (R18). -/
def execExchange (tag : Fin 128) (r : ExchReply) (s : State) : Host.Outcome State Fault Refusal :=
  .next (s.readerStep tag.val 0x22 2 (fun _ k t =>
    if flag (k.arg 0) 9 && !t.cribFree then t else t.exchangeEnd tag.val k r))

/-- INVENTORY (R345). -/
def execInventory (tag : Fin 128) (l : List TagSeen) (joint : List JointSlot) (s : State) :
    Host.Outcome State Fault Refusal :=
  .next (s.readerStep tag.val 0x22 3 (fun run k t => t.inventoryEnd tag.val k run l joint))

/-- What CLOSE with HALT sends: S(DESELECT) to a card that speaks ISO-DEP, then HLTA or HLTB; Stay Quiet to a tag, while it
has antennas (R354). -/
def State.airHalt (s : State) (x : Session) : State :=
  if x.proto = 2 then
    if (s.fld.run.map (·.ants)).getD 0 = 0 then s else s.airVicc 1 x.uid [0x22, 0x02]
  else
    let halt : ReaderFrame := if x.proto = 0 then .hlta else .hltb x.uid
    s.air (((if x.l4 then [ReaderFrame.deselect] else []) ++ [halt]).map (s.sentAs x.proto.toNat x.dr x.cid))

/-- CLOSE (R354): the session ends, halted where HALT asks for it, and its context is freed. -/
def execClose (tag : Fin 128) (s : State) : Host.Outcome State Fault Refusal :=
  .next (s.readerStep tag.val 0x22 4 (fun _ k t =>
    let h := field (k.arg 0) 6 0
    if h > 123 then t.readerEnd tag.val .arg
    else if !t.ready 0x22 then t.readerEnd tag.val .notReady
    else
      match t.session h with
      | none => t.readerEnd tag.val .state
      | some x =>
        (((if flag (k.arg 0) 8 then t.airHalt x else t).ctxFree x.ctx).putSession h none).readerEnd tag.val .done))

/-- MAPLOAD (R355). -/
def execMapload (tag : Fin 128) (s : State) : Host.Outcome State Fault Refusal :=
  .next (s.readerStep tag.val 0x23 1 (fun _ k t =>
    if !mapLoadArgs k then t.readerEnd tag.val .arg
    else if !t.ready 0x23 then t.readerEnd tag.val .notReady
    else
      match mapLoadEffect k t with
      | (t1, some c) => t1.readerEnd tag.val c
      | (t1, none) => t1))

/-- TAGPORT_READ (R350). -/
def execTagportRead (tag : Fin 128) (r : ExchReply) (s : State) : Host.Outcome State Fault Refusal :=
  .next (s.readerStep tag.val 0x23 2 (fun _ k t =>
    let (t1, c) := t.tagReply (field (k.arg 0) 7 0) r
    t1.readerEnd tag.val c))

/-- GROUP_READ (R355). -/
def execGroupRead (tag : Fin 128) (l : List ExchReply) (s : State) : Host.Outcome State Fault Refusal :=
  .next (s.readerStep tag.val 0x23 3 (fun _ _ t =>
    if !t.engineUp 0x23 then t.readerEnd tag.val .notReady
    else t.groupReads tag.val l))

/-- SESSION_IDLE_EXPIRY (R336): a card idle for CFG.IDLE seconds is sent a DESELECT and its session is lost. -/
def execSessionIdleExpiry (h : Fin 128) (s : State) : Host.Outcome State Fault Refusal :=
  let idle := field (s.rg 0x22 0x040) 23 16
  .next
    (match s.session h.val with
     | none => s
     | some x =>
       let busy :=
         match s.fld.run with
         | some r =>
           let k := s.slot r.tag.toNat
           k.page == 0x22 && k.op == 2 && field (k.arg 0) 6 0 == h.val
         | none => false
       if x.proto = 2 || idle = 0 || busy then s
       else
         let s1 := s.reach (x.last + BitVec.ofNat 64 (secTime idle))
         let s2 := if x.l4 then s1.air [s1.sentAs x.proto.toNat x.dr x.cid ReaderFrame.deselect] else s1
         (s2.loseSession h.val).refreshField)

end Sys2Proof.Machine
end

