-- ==== Sys2Proof/Machine/GleanerIsa.lean ====
section
/-!
DEFINITION. The Gleaner's instruction words (R136, R137): the instructions, their layout, and reading and writing a
word.
-/
namespace Sys2Proof.Machine

/-- The two-operand operations 0x08 to 0x10. -/
inductive AluOp where
  | add | sub | and | or | xor | shl | shr | sra | mul
  deriving DecidableEq, Repr

/-- The shifts by a constant, 0x15 to 0x17. -/
inductive ShiftOp where
  | shl | shr | sra
  deriving DecidableEq, Repr

/-- The branch conditions, 0x18 to 0x1D. -/
inductive BranchOp where
  | eq | ne | lt | ge | ltu | geu
  deriving DecidableEq, Repr

/-- A Gleaner instruction with its fields. -/
inductive GInstr where
  | nop
  | endAct
  | ldi (rd : BitVec 3) (imm : BitVec 23)
  | lui (rd : BitVec 3) (imm : BitVec 16)
  | rc (rd : BitVec 3)
  | alu (op : AluOp) (rd ra rb : BitVec 3)
  | addi (rd ra : BitVec 3) (imm : BitVec 17)
  | andi (rd ra : BitVec 3) (imm : BitVec 17)
  | ori (rd ra : BitVec 3) (imm : BitVec 17)
  | shift (op : ShiftOp) (rd ra : BitVec 3) (sh : BitVec 5)
  | branch (op : BranchOp) (ra rb : BitVec 3) (off : BitVec 12)
  | jmp (target : BitVec 12)
  | jal (rd : BitVec 3) (target : BitVec 12)
  | jr (ra : BitVec 3)
  | wait (t : BitVec 20)
  | wev (tol : BitVec 1) (t : BitVec 20)
  | stmp (rd : BitVec 3) (sel : BitVec 2)
  | conv (rd : BitVec 3) (cv : BitVec 5) (tol sw : BitVec 1) (port : BitVec 6)
  | inPort (rd : BitVec 3) (tol : BitVec 1) (port : BitVec 6) (what : BitVec 2)
  | outPort (ra : BitVec 3) (tol : BitVec 1) (port : BitVec 6) (m : BitVec 2)
  | tagrd (rd : BitVec 3) (tol fresh : BitVec 1) (tag : BitVec 8)
  | bus (rd : BitVec 3) (tol : BitVec 1) (desc : BitVec 12)
  | feed (ra : BitVec 3) (tol : BitVec 1) (lane : BitVec 2)
  | push (ra : BitVec 3) (tol : BitVec 1) (pos : BitVec 2) (q : BitVec 5)
  | pushr (ra : BitVec 3) (tol : BitVec 1) (kind : BitVec 8) (q : BitVec 5)
  | ld (rd ra : BitVec 3) (imm : BitVec 8)
  | st (ra rb : BitVec 3) (imm : BitVec 8)
  | evt (n : BitVec 4)
  deriving DecidableEq, Repr

/-- The field values the layout allows: t of WAIT at least 1, CV below 20, PORT 0 with SW at 0, TAG below 192 (R137,
R139, R141). -/
def GInstr.legal : GInstr → Bool
  | .wait t => t != 0
  | .conv _ cv _ sw port => decide (cv.toNat < 20) && (sw == 1 || port == 0)
  | .tagrd _ _ _ tag => decide (tag.toNat < 192)
  | _ => true

/-- Opcodes of the grouped instructions. -/
def AluOp.code : AluOp → BitVec 6
  | .add => 0x08 | .sub => 0x09 | .and => 0x0A | .or => 0x0B | .xor => 0x0C | .shl => 0x0D | .shr => 0x0E
  | .sra => 0x0F | .mul => 0x10
def ShiftOp.code : ShiftOp → BitVec 6
  | .shl => 0x15 | .shr => 0x16 | .sra => 0x17
def BranchOp.code : BranchOp → BitVec 6
  | .eq => 0x18 | .ne => 0x19 | .lt => 0x1A | .ge => 0x1B | .ltu => 0x1C | .geu => 0x1D

/-- The word of an instruction (R137): its fields from [31:26] down, 0 where the layout assigns nothing. -/
def GInstr.encode : GInstr → Word
  | .nop => (0x01 : BitVec 6) ++ (0 : BitVec 26)
  | .endAct => (0x02 : BitVec 6) ++ (0 : BitVec 26)
  | .ldi rd imm => (0x03 : BitVec 6) ++ rd ++ imm
  | .lui rd imm => (0x04 : BitVec 6) ++ rd ++ (0 : BitVec 7) ++ imm
  | .rc rd => (0x05 : BitVec 6) ++ rd ++ (0 : BitVec 23)
  | .alu op rd ra rb => op.code ++ rd ++ ra ++ rb ++ (0 : BitVec 17)
  | .addi rd ra imm => (0x12 : BitVec 6) ++ rd ++ ra ++ (0 : BitVec 3) ++ imm
  | .andi rd ra imm => (0x13 : BitVec 6) ++ rd ++ ra ++ (0 : BitVec 3) ++ imm
  | .ori rd ra imm => (0x14 : BitVec 6) ++ rd ++ ra ++ (0 : BitVec 3) ++ imm
  | .shift op rd ra sh => op.code ++ rd ++ ra ++ (0 : BitVec 15) ++ sh
  | .branch op ra rb off => op.code ++ (0 : BitVec 3) ++ ra ++ rb ++ (0 : BitVec 5) ++ off
  | .jmp target => (0x1E : BitVec 6) ++ (0 : BitVec 14) ++ target
  | .jal rd target => (0x1F : BitVec 6) ++ rd ++ (0 : BitVec 11) ++ target
  | .jr ra => (0x20 : BitVec 6) ++ (0 : BitVec 3) ++ ra ++ (0 : BitVec 20)
  | .wait t => (0x21 : BitVec 6) ++ (0 : BitVec 6) ++ t
  | .wev tol t =>
    (0x22 : BitVec 6) ++ (0 : BitVec 5) ++ t.extractLsb' 16 4 ++ tol ++ t.extractLsb' 0 16
  | .stmp rd sel => (0x23 : BitVec 6) ++ rd ++ (0 : BitVec 21) ++ sel
  | .conv rd cv tol sw port =>
    (0x24 : BitVec 6) ++ rd ++ (0 : BitVec 1) ++ cv ++ tol ++ sw ++ (0 : BitVec 1) ++ port ++ (0 : BitVec 8)
  | .inPort rd tol port what =>
    (0x25 : BitVec 6) ++ rd ++ (0 : BitVec 6) ++ tol ++ (0 : BitVec 2) ++ port ++ (0 : BitVec 6) ++ what
  | .outPort ra tol port m =>
    (0x26 : BitVec 6) ++ (0 : BitVec 3) ++ ra ++ (0 : BitVec 3) ++ tol ++ (0 : BitVec 2) ++ port ++ (0 : BitVec 6) ++ m
  | .tagrd rd tol fresh tag =>
    (0x27 : BitVec 6) ++ rd ++ (0 : BitVec 6) ++ tol ++ fresh ++ (0 : BitVec 7) ++ tag
  | .bus rd tol desc => (0x28 : BitVec 6) ++ rd ++ (0 : BitVec 6) ++ tol ++ (0 : BitVec 4) ++ desc
  | .feed ra tol lane =>
    (0x29 : BitVec 6) ++ (0 : BitVec 3) ++ ra ++ (0 : BitVec 3) ++ tol ++ (0 : BitVec 14) ++ lane
  | .push ra tol pos q =>
    (0x2A : BitVec 6) ++ (0 : BitVec 3) ++ ra ++ (0 : BitVec 3) ++ tol ++ (0 : BitVec 1) ++ pos ++ (0 : BitVec 8) ++ q
  | .pushr ra tol kind q =>
    (0x2B : BitVec 6) ++ (0 : BitVec 3) ++ ra ++ (0 : BitVec 3) ++ tol ++ kind ++ (0 : BitVec 3) ++ q
  | .ld rd ra imm => (0x2C : BitVec 6) ++ rd ++ ra ++ (0 : BitVec 12) ++ imm
  | .st ra rb imm => (0x2D : BitVec 6) ++ (0 : BitVec 3) ++ ra ++ rb ++ (0 : BitVec 9) ++ imm
  | .evt n => (0x2E : BitVec 6) ++ (0 : BitVec 22) ++ n

/-- The fields used by more than one instruction (R136). -/
def gRd (w : Word) : BitVec 3 := w.extractLsb' 23 3
def gRa (w : Word) : BitVec 3 := w.extractLsb' 20 3
def gRb (w : Word) : BitVec 3 := w.extractLsb' 17 3
def gTol (w : Word) : BitVec 1 := w.extractLsb' 16 1

/-- What the opcode and the fields of a word name, whatever its unassigned bits hold. -/
def GInstr.fields (w : Word) : Option GInstr :=
  let rd := gRd w
  let ra := gRa w
  let rb := gRb w
  let tol := gTol w
  let imm17 : BitVec 17 := w.extractLsb' 0 17
  let low12 : BitVec 12 := w.extractLsb' 0 12
  let port : BitVec 6 := w.extractLsb' 8 6
  match (w.extractLsb' 26 6 : BitVec 6) with
  | 0x01 => some .nop
  | 0x02 => some .endAct
  | 0x03 => some (.ldi rd (w.extractLsb' 0 23))
  | 0x04 => some (.lui rd (w.extractLsb' 0 16))
  | 0x05 => some (.rc rd)
  | 0x08 => some (.alu .add rd ra rb)
  | 0x09 => some (.alu .sub rd ra rb)
  | 0x0A => some (.alu .and rd ra rb)
  | 0x0B => some (.alu .or rd ra rb)
  | 0x0C => some (.alu .xor rd ra rb)
  | 0x0D => some (.alu .shl rd ra rb)
  | 0x0E => some (.alu .shr rd ra rb)
  | 0x0F => some (.alu .sra rd ra rb)
  | 0x10 => some (.alu .mul rd ra rb)
  | 0x12 => some (.addi rd ra imm17)
  | 0x13 => some (.andi rd ra imm17)
  | 0x14 => some (.ori rd ra imm17)
  | 0x15 => some (.shift .shl rd ra (w.extractLsb' 0 5))
  | 0x16 => some (.shift .shr rd ra (w.extractLsb' 0 5))
  | 0x17 => some (.shift .sra rd ra (w.extractLsb' 0 5))
  | 0x18 => some (.branch .eq ra rb low12)
  | 0x19 => some (.branch .ne ra rb low12)
  | 0x1A => some (.branch .lt ra rb low12)
  | 0x1B => some (.branch .ge ra rb low12)
  | 0x1C => some (.branch .ltu ra rb low12)
  | 0x1D => some (.branch .geu ra rb low12)
  | 0x1E => some (.jmp low12)
  | 0x1F => some (.jal rd low12)
  | 0x20 => some (.jr ra)
  | 0x21 => some (.wait (w.extractLsb' 0 20))
  | 0x22 => some (.wev tol ((w.extractLsb' 17 4 : BitVec 4) ++ (w.extractLsb' 0 16 : BitVec 16)))
  | 0x23 => some (.stmp rd (w.extractLsb' 0 2))
  | 0x24 => some (.conv rd (w.extractLsb' 17 5) tol (w.extractLsb' 15 1) port)
  | 0x25 => some (.inPort rd tol port (w.extractLsb' 0 2))
  | 0x26 => some (.outPort ra tol port (w.extractLsb' 0 2))
  | 0x27 => some (.tagrd rd tol (w.extractLsb' 15 1) (w.extractLsb' 0 8))
  | 0x28 => some (.bus rd tol low12)
  | 0x29 => some (.feed ra tol (w.extractLsb' 0 2))
  | 0x2A => some (.push ra tol (w.extractLsb' 13 2) (w.extractLsb' 0 5))
  | 0x2B => some (.pushr ra tol (w.extractLsb' 8 8) (w.extractLsb' 0 5))
  | 0x2C => some (.ld rd ra (w.extractLsb' 0 8))
  | 0x2D => some (.st ra rb (w.extractLsb' 0 8))
  | 0x2E => some (.evt (w.extractLsb' 0 4))
  | _ => none

/-- The instruction a word spells: none for a reserved opcode, a non-zero unassigned bit or a reserved field value
(R136). -/
def GInstr.decode (w : Word) : Option GInstr :=
  match GInstr.fields w with
  | none => none
  | some i => if i.encode = w && i.legal then some i else none

end Sys2Proof.Machine
end

