-- ==== Sys2Proof/Machine/Threads.lean ====
section
/-!
DEFINITION. The Gleaner's threads as a schedule (chapter 06): states, activation causes, activations and their
end, faults, the results of blocked instructions, and the utilisation count.
-/
namespace Sys2Proof.Machine

/-! ### Threads -/

/-- A thread. -/
def State.thread (s : State) (t : Nat) : Thread := Tab.get (fun _ => {}) s.gle.threads t

/-- Whether every thread of a mask is STOPPED. -/
def State.allStopped (s : State) (mask : BitVec 16) : Bool :=
  (List.range 16).all (fun t => !mask.getLsbD t || (s.thread t).st == .stopped)

/-- The STOP operations under way: a thread they name that has halted in FAULT becomes STOPPED, and those whose threads
are all STOPPED complete (R149, R153). -/
def State.settleStops (s : State) : State :=
  let named (t : Nat) : Bool := s.gle.stops.any (fun e => e.2.getLsbD t)
  let halted := (List.range 16).filter (fun t => (s.thread t).st == .fault && named t)
  let s0 : State := { s with gle := { s.gle with
    threads := halted.foldl
      (fun acc t => Tab.set (fun _ => {}) acc t { s.thread t with st := .stopped }) s.gle.threads } }
  let ovr := s0.gle.stops.filter (fun e => s0.allStopped e.2)
  let s1 : State := { s0 with gle := { s0.gle with stops := s0.gle.stops.filter (fun e => !s0.allStopped e.2) } }
  ovr.foldl (fun acc e => if acc.running e.1.toNat 0x0A 3 then acc.setResult e.1.toNat .done else acc) s1

/-- A thread given a state; DEGRADED is 1 while any thread is in FAULT (R149). -/
def State.putThread (s : State) (t : Nat) (h : Thread) : State :=
  let s0 : State := { s with gle := { s.gle with threads := Tab.set (fun _ => {}) s.gle.threads t h } }
  let s1 := if s0.gle.stops.isEmpty then s0 else s0.settleStops
  s1.setDegraded 0x0A (s1.gle.threads.any (fun e => e.2.st == .fault))

/-- A thread changed by a function. -/
def State.updThread (s : State) (t : Nat) (f : Thread → Thread) : State := s.putThread t (f (s.thread t))

/-- A register of a thread's block: offset 0x00 CFG, 0x04 SCHED, 0x08 PERIOD, 0x0C ENTRY, 0x14 FAULT, 0x18 COUNT,
0x20 + 4k general register k (R155). -/
def State.thrReg (s : State) (t off : Nat) : Word := s.rg 0x0A (0x100 + 0x40 * t + off)

/-- A register of a thread's block given a value. -/
def State.setThrReg (s : State) (t off : Nat) (w : Word) : State := s.setRg 0x0A (0x100 + 0x40 * t + off) w

/-- General register k of a thread. -/
def State.greg (s : State) (t k : Nat) : Word := s.thrReg t (0x20 + 4 * k)

/-- General register k of a thread given a value. -/
def State.setGreg (s : State) (t k : Nat) (w : Word) : State := s.setThrReg t (0x20 + 4 * k) w

/-- Whether a thread is in an activation. -/
def Thread.active (h : Thread) : Bool := h.st == .ready || h.st == .blocked

/-- THRn_STAT.STATE (R128). -/
def Thread.num (h : Thread) : Nat :=
  match h.st with
  | .stopped => 0
  | .wait => 1
  | .ready => if h.stopping then 5 else 2
  | .blocked => if h.stopping then 5 else 3
  | .fault => 4

/-- Whether the present power state holds back a thread's activations (R132). -/
def State.guardHeld (s : State) (t : Nat) : Bool := s.pwr.depth == .guard && !flag (s.thrReg t 0x04) 8

/-- Whether activations may begin now: CTL.EN, and not held back in GUARD (R132, R154). -/
def State.mayBegin (s : State) (t : Nat) : Bool := flag (s.rg 0x0A 0x008) 0 && !s.guardHeld t

/-! ### Activations and causes -/

/-- An activation begins at ENTRY with the budget counter at zero (R129). -/
def State.beginAct (s : State) (t : Nat) (wave : Option (Nat × Nat)) : State :=
  let s1 := s.updThread t (fun h =>
    { h with
      st := .ready, pc := BitVec.ofNat 12 (field (s.thrReg t 0x0C) 11 0), issued := 0, wave := wave, vectored := false
      block := .none, res := none })
  s1.setThrReg t 0x18 (wrapField (s1.thrReg t 0x18) 15 0 1)

/-- A cause is held pending, or merges into the one that is (R130). -/
def State.pendCause (s : State) (t : Nat) (wave : Option (Nat × Nat)) : State :=
  if (s.thread t).pending then s.setThrReg t 0x18 (satField (s.thrReg t 0x18) 23 16 1)
  else s.updThread t (fun h => { h with pending := true, pendWave := wave })

/-- A cause arrives at a thread (R128, R130, R132, R154). -/
def State.cause (s : State) (t : Nat) (wave : Option (Nat × Nat)) : State :=
  let h := s.thread t
  match h.st with
  | .wait => if s.mayBegin t && !h.pending then s.beginAct t wave else s.pendCause t wave
  | .ready => s.pendCause t wave
  | .blocked => s.pendCause t wave
  | .stopped => if h.held then s.pendCause t wave else s
  | .fault => s

/-- A pending activation of a waiting thread begins where one may (R130). -/
def State.takePending (s : State) (t : Nat) : State :=
  let h := s.thread t
  if h.st == .wait && h.pending && s.mayBegin t then
    (s.putThread t { h with pending := false, pendWave := none }).beginAct t h.pendWave
  else s

/-- Pending activations of every waiting thread begin where they may: on leaving GUARD, and when CTL.EN returns
(R132, R154). -/
def State.takeAllPending (s : State) : State := (List.range 16).foldl (fun acc t => acc.takePending t) s

/-- The first multiple of a period after a TIME value, in units of 2^-15 s (R131). -/
def nextMultiple (period : Nat) (now : Stamp) : Stamp :=
  let p := period * 2 ^ 17
  BitVec.ofNat 64 ((now.toNat / p + 1) * p)

/-- A thread enters WAIT from START: its first periodic due time is set (R131). -/
def State.armPeriod (s : State) (t : Nat) : State :=
  let p := s.thrReg t 0x08
  let due :=
    if flag (s.thrReg t 0x04) 1 then
      some (if flag p 24 then nextMultiple (field p 23 0) s.now else s.after (field p 23 0 * 2 ^ 17))
    else none
  s.updThread t (fun h => { h with due := due })

/-- A held thread's schedule after a write of its SCHED or PERIOD: with PER at 0 nothing falls due; with ALIGN at 1 the
next whole multiple does; with ALIGN at 0 the standing due time remains, or the first is one period from the write
(R131, R152; DESIGN CHOICE, log entry 601). -/
def State.rearmPeriod (s : State) (t : Nat) : State :=
  let h := s.thread t
  if flag (s.thrReg t 0x04) 1 && !flag (s.thrReg t 0x08) 24 && h.due.isSome then s else s.armPeriod t

/-- An activation ends, by END or as if by it: the packets it opened are rewound; a stopping thread stops, a
pending activation begins (R130, R149, R152, R153, R246; DESIGN CHOICE, log entry 612). -/
def State.endActivation (s : State) (t : Nat) : State :=
  let s1 := s.rewindOf (fun k => k == 16 + t)
  let h := s1.thread t
  let h1 : Thread := { h with block := .none, res := none, wave := none, vectored := false }
  if h.stopping then
    s1.putThread t { h1 with
      st := .stopped, stopping := false, due := if h.held then h.due else none
      pending := h.held && h.pending, pendWave := if h.held then h.pendWave else none }
  else (s1.putThread t { h1 with st := .wait }).takePending t

/-! ### Faults -/

/-- A thread faults: recorded, then handled as FMODE sets; a second fault of a VECTOR path halts (R148, R149). -/
def State.threadFault (s : State) (t kind : Nat) (c : Code) (fpc : Nat) : State :=
  let s1 := s.setThrReg t 0x14 (pack [(0, 12, fpc), (16, 8, Code.num c), (24, 4, kind)])
  let s2 := s1.setThrReg t 0x18 (satField (s1.thrReg t 0x18) 31 24 1)
  let s3 := (s2.updThread t (fun h =>
    { h with code := BitVec.ofNat 8 (Code.num c), block := .none, res := none })).faultRec 0x11 0x0A t
  let mode := field (s.thrReg t 0x00) 3 2
  if mode == 1 then (s3.evPulse 0x0A t).endActivation t
  else if mode == 2 && !(s.thread t).vectored then
    (s3.updThread t (fun h =>
      { h with
        st := .ready, pc := BitVec.ofNat 12 (field (s.thrReg t 0x0C) 27 16), issued := 0, vectored := true })).evPulse
      0x0A t
  else
    let s4 := s3.rewindOf (fun k => k == 16 + t)
    (s4.updThread t (fun h =>
      { h with
        st := .fault, stopping := false, held := false, pending := false, pendWave := none, wave := none
        vectored := false, due := none })).evLevel 0x0A t true

/-! ### Results of blocked instructions -/

/-- The result of a blocked instruction is on its way to its thread; without a thread that waits for it, it is
discarded (R153). -/
def State.giveRes (s : State) (t : Nat) (r : BlockRes) : State :=
  let h := s.thread t
  match h.st, h.block, h.res with
  | .blocked, .result _ _, none => s.putThread t { h with res := some r }
  | .blocked, .bus _ _ _, none => s.putThread t { h with res := some r }
  | .blocked, .tag _ _ _ _, none => s.putThread t { h with res := some r }
  | _, _, _ => s

/-- A code reaches the thread: CODE, and what follows a code other than DONE (R143). The instruction stands before
the program counter. -/
def State.takeCode (s : State) (t : Nat) (c : Code) (tol : Bool) (onDone onTol : Thread → Thread) : State :=
  let h := s.thread t
  let coded : Thread := { h with code := BitVec.ofNat 8 (Code.num c), st := .ready, block := .none, res := none }
  if c = .done then s.putThread t (onDone coded)
  else if tol then s.putThread t (onTol coded)
  else s.threadFault t 3 c (h.pc - 1).toNat

/-- The result of a blocked instruction arrives: rd, CODE, STALE and the stamp latch (R141, R143; DESIGN CHOICE, log
entry 609). -/
def State.takeRes (s : State) (t : Nat) (rd : Option (BitVec 3)) (tol : Bool) (r : BlockRes) : State :=
  let latch (now : Option Stamp) (h : Thread) : Thread :=
    match r.latch with
    | none => h
    | some (src, at_) =>
      { h with stamp := now.getD at_, src := BitVec.ofNat 8 src, tag := now.isNone && decide (64 ≤ src) }
  let stale (h : Thread) : Thread := match r.stale with | none => h | some b => { h with stale := b }
  let s1 := s.takeCode t r.code tol (fun h => stale (latch none h)) (fun h => stale (latch (some s.now) h))
  match rd, r.code with
  | some k, .done => s1.setGreg t k.toNat r.value
  | _, _ => s1

/-! ### Utilisation (R155) -/

/-- Whether the AON fast clock runs at 49.152 MHz. -/
def State.fastClock (s : State) : Bool := s.pwr.depth != .guard

/-- The share of a second's issue cycles that instructions used, in units of 2^-16, from the time it held at each
clock. -/
def utilShare (issued fastTime slowTime : Nat) : Nat :=
  let cycles := (fastTime * 49152000 + slowTime * 8000000) / 2 ^ 32
  min (issued * 2 ^ 16 / cycles) 0xFFFF

/-- A length of time counted at the clock in force. -/
def Util.spend (u : Util) (fast : Bool) (d : Nat) : Util :=
  if fast then { u with fastTime := u.fastTime + d } else { u with slowTime := u.slowTime + d }

/-- UTIL takes the share of the second that has ended at TIME t, and the next one's count begins. -/
def State.closeUtil (s : State) (u : Util) (whole : Bool) (t : Stamp) : State :=
  let share := if whole then utilShare u.issued u.fastTime u.slowTime else 0
  let s1 := s.setRg 0x0A 0x04C (BitVec.ofNat 32 share)
  { s1 with gle := { s1.gle with util := { second := hiWord t, since := t } } }

/-- The utilisation count brought up to the present second: UTIL is that of the last whole second. -/
def State.rollUtil (s : State) : State :=
  let u := s.gle.util
  let sec := hiWord s.now
  if sec = u.second then s
  else
    s.closeUtil (u.spend s.fastClock (2 ^ 32 - stampField u.since 31 0)) (sec == u.second + 1) (joinWords sec 0)

/-- The AON fast clock is about to change: the time at the present clock is counted. -/
def State.splitUtil (s : State) : State :=
  let s1 := s.rollUtil
  let u := s1.gle.util.spend s1.fastClock (s1.now - s1.gle.util.since).toNat
  { s1 with gle := { s1.gle with util := { u with since := s1.now } } }

/-- TIME is about to step to a value: the cycles the second has held so far are kept, and a second that the step leaves
has ended with them (R155; DEDUCED, log entry 610). -/
def State.stepUtil (s : State) (new : Stamp) : State :=
  let s1 := s.splitUtil
  let u := s1.gle.util
  if hiWord new = u.second then { s1 with gle := { s1.gle with util := { u with since := new } } }
  else s1.closeUtil u true new

/-- An instruction issues. -/
def State.countIssue (s : State) : State :=
  let s1 := s.rollUtil.updRg 0x0A 0x058 (fun w => w + 1)
  { s1 with gle := { s1.gle with util := { s1.gle.util with issued := s1.gle.util.issued + 1 } } }

/-! ### Stopping (R153) -/

/-- The conversions and transfers of a thread go on for nobody: their results are discarded (R153). -/
def State.disown (s : State) (t : Nat) : State :=
  let conv (c : Conv) : Conv :=
    { c with
      run := c.run.map (fun r => (if r.1 = .thread (BitVec.ofNat 4 t) then ConvBy.task else r.1, r.2))
      waits := c.waits.map (fun w => if w.thread = some (BitVec.ofNat 4 t) then { w with thread := none } else w) }
  let unit (u : BusUnit) : BusUnit :=
    { u with queue := u.queue.map (fun x =>
        if x.user = .thread (BitVec.ofNat 4 t) then { x with user := BusUser.nobody } else x) }
  { s with sense := { s.sense with
      convs := s.sense.convs.map (fun e => (e.1, conv e.2)), units := s.sense.units.map (fun e => (e.1, unit e.2)) } }

/-- A thread is stopped at once: a WAIT or WEV ends, the result of anything in progress is discarded, its open
packets are rewound. FAULTn stays high until a START (R149). -/
def State.stopNow (s : State) (t : Nat) : State :=
  let s1 := (s.rewindOf (fun k => k == 16 + t)).disown t
  s1.updThread t (fun h =>
    { h with
      st := .stopped, stopping := false, held := false, pending := false, pendWave := none, wave := none
      vectored := false, block := .none, res := none, due := none })

/-- A thread is asked to stop after its activation, or stops where it is in none. -/
def State.stopSoft (s : State) (t : Nat) : State :=
  let h := s.thread t
  if h.active then s.putThread t { h with stopping := true }
  else s.stopNow t

/-! ### Activation rows -/

/-- PERIODIC_DUE (R131, R132): the due time of thread t arrives, and the next one is set from it. -/
def execPeriodicDue (t : Fin 16) (s : State) : Host.Outcome State Fault Refusal :=
  .next
    (match (s.thread t.val).due with
     | none => s
     | some due =>
       if s.dead then s
       else
         let s1 := s.reach due
         let p := s1.thrReg t.val 0x08
         let next := if flag p 24 then nextMultiple (field p 23 0) s1.now else due + BitVec.ofNat 64 (field p 23 0 * 2 ^ 17)
         let s2 := s1.updThread t.val (fun h => { h with due := some next })
         if s2.guardHeld t.val then s2 else s2.cause t.val none)

/-- WAIT_EXPIRY (R137): the WAIT of thread t ends. -/
def execWaitExpiry (t : Fin 16) (s : State) : Host.Outcome State Fault Refusal :=
  .next
    (match (s.thread t.val).st, (s.thread t.val).block with
     | .blocked, .time due => (s.reach due).updThread t.val (fun h => { h with st := .ready, block := .none })
     | _, _ => s)

/-- WEV_TIMEOUT (R137, R143): the WEV of thread t runs out with TIMEOUT. -/
def execWevTimeout (t : Fin 16) (s : State) : Host.Outcome State Fault Refusal :=
  .next
    (match (s.thread t.val).st, (s.thread t.val).block with
     | .blocked, .event (some due) tol => (s.reach due).takeCode t.val .timeout tol id id
     | _, _ => s)

/-- BLOCKED_RESULT (R143): the result of the blocked instruction of thread t arrives. -/
def execBlockedResult (t : Fin 16) (s : State) : Host.Outcome State Fault Refusal :=
  .next
    (match (s.thread t.val).st, (s.thread t.val).block, (s.thread t.val).res with
     | .blocked, .result rd tol, some r => s.takeRes t.val rd tol r
     | .blocked, .bus rd tol _, some r => s.takeRes t.val (some rd) tol r
     | .blocked, .tag rd tol _ _, some r => s.takeRes t.val (some rd) tol r
     | _, _, _ => s)

end Sys2Proof.Machine
end

