-- ==== Sys2Proof/Machine/SensBase.lean ====
section
/-!
DEFINITION. The sensing side by name: ports, converters, lanes and rules, what their status registers show, the
rates of lanes, and which samples a port and a lane give Winnow (chapters 05, 07 and 09).
-/
namespace Sys2Proof.Machine

/-! ### Ports -/

/-- A port beside its registers. -/
def State.port (s : State) (p : Nat) : Port := Tab.get (fun _ => {}) s.sense.ports p

/-- A port given a state. -/
def State.putPort (s : State) (p : Nat) (x : Port) : State :=
  { s with sense := { s.sense with ports := Tab.set (fun _ => {}) s.sense.ports p x } }

/-- A port changed by a function. -/
def State.updPort (s : State) (p : Nat) (f : Port → Port) : State := s.putPort p (f (s.port p))

/-- The page and the offset of a port's register. -/
def portPage (p : Nat) : Nat := 0x10 + p / 8
def portOff (p off : Nat) : Nat := 0x040 + 0x20 * (p % 8) + off

/-- PCFG and AUX as written last. -/
def State.pcfgReg (s : State) (p : Nat) : Word := s.rg (portPage p) (portOff p 0)
def State.auxReg (s : State) (p : Nat) : Word := s.rg (portPage p) (portOff p 4)

/-- The mode as written last, and the mode in effect (R100, R102). -/
def State.modeReg (s : State) (p : Nat) : Nat := field (s.pcfgReg p) 3 0
def Port.mode (x : Port) : Nat := field x.pcfg 3 0

/-- Whether a mode is AIN, DIFF or LOOP. -/
def analogMode (m : Nat) : Bool := m == 1 || m == 2 || m == 3

/-- Whether a port is quarantined (R120, R121). -/
def Port.quarantined (x : Port) : Bool :=
  match x.stage with
  | .service => false
  | .opTest q => q
  | _ => true

/-- Whether a self-test runs at a port. -/
def Port.testing (x : Port) : Bool :=
  match x.stage with
  | .testing _ => true
  | .opTest _ => true
  | _ => false

/-- The other port of a DIFF pair. -/
def partner (p : Nat) : Nat := if p % 2 == 0 then p + 1 else p - 1

/-- PSTAT.PAIR_WAIT (R103). -/
def State.pairWait (s : State) (p : Nat) : Bool := (s.port p).mode == 2 && (s.port (partner p)).mode != 2

/-- PSTAT.ACTIVE. -/
def State.portActive (s : State) (p : Nat) : Bool :=
  let x := s.port p
  x.mode != 0 && !x.quarantined && !s.pairWait p

/-- Whether a port is the odd port of a DIFF pair. -/
def State.oddDiff (s : State) (p : Nat) : Bool := p % 2 == 1 && (s.port p).mode == 2

/-- PSTAT (R123). -/
def State.pstatView (s : State) (p : Nat) : Word :=
  let x := s.port p
  pack [(0, 1, bit (s.portActive p)), (1, 1, bit x.quarantined), (2, 1, bit (s.pairWait p)),
    (3, 1, bit x.loopOpen), (4, 1, bit x.loopShort), (5, 1, bit (x.ovr && analogMode x.mode && !s.oddDiff p)),
    (6, 1, bit x.testing), (8, 4, x.reason.toNat), (12, 4, min x.tries 15), (16, 8, x.peak.toNat),
    (24, 8, min (x.clamp / 200) 255)]

/-- VAL: the last sample or count, or the level of a digital port (R123). -/
def State.portVal (s : State) (p : Nat) : BitVec 24 :=
  let x := s.port p
  if s.oddDiff p then 0
  else if x.mode == 6 then BitVec.ofNat 24 (bit (flag x.aux 0))
  else if x.mode == 7 then BitVec.ofNat 24 (bit x.level)
  else x.val

/-- PERIOD and WIDTH as they read. -/
def Capture.view (c : Capture) : Word := pack [(0, 24, c.ticks), (30, 1, bit c.ovf), (31, 1, bit c.valid)]

/-- A port's value as an integer: signed in AIN, DIFF and LOOP (R140). -/
def State.portInt (s : State) (p : Nat) : Int :=
  if analogMode (s.port p).mode then signedOf 24 (s.portVal p).toNat else ((s.portVal p).toNat : Int)

/-- SERVICE's QUAR level and READY.DEGRADED (R540). -/
def State.refreshService (s : State) : State :=
  let s1 := s.evLevel 0x3C 3 (s.sense.ports.any (fun e => e.2.quarantined))
  s1.setDegraded 0x3C (flag (s1.rg 0x3C 0x00C) 3 || field (s1.rg 0x3C 0x058) 8 0 != 0)

/-- READY.DEGRADED of a PORTG page: any of its ports is quarantined (R120); SERVICE follows. -/
def State.refreshPortg (s : State) (p : Nat) : State :=
  let page := portPage p
  s.refreshService.setDegraded page ((List.range 8).any (fun k => (s.port (8 * (p / 8) + k)).quarantined))

/-- The EVRAW lines of a port: QUAR, LOOPF, DIN and CLAMP (R123); a DIN line's rise pulses its source (R235). -/
def State.portLines (s : State) (p : Nat) : State :=
  let x := s.port p
  let page := portPage p
  let k := p % 8
  let s1 := (s.evLevel page k x.quarantined).evLevel page (8 + k) (x.loopOpen || x.loopShort)
  let s2 := s1.levelSource page (16 + k) (x.mode == 5 && x.val.getLsbD 0) (0x40 + p)
  (s2.evLevel page (24 + k) (decide (x.clamp > 500 * field (s.rg 0x18 0x194) 15 8))).refreshPortg p

/-! ### Converters -/

/-- A converter beside its registers. -/
def State.conv (s : State) (cv : Nat) : Conv := Tab.get (fun _ => {}) s.sense.convs cv

/-- A converter given a state. -/
def State.putConv (s : State) (cv : Nat) (x : Conv) : State :=
  { s with sense := { s.sense with convs := Tab.set (fun _ => {}) s.sense.convs cv x } }

/-- A converter changed by a function. -/
def State.updConv (s : State) (cv : Nat) (f : Conv → Conv) : State := s.putConv cv (f (s.conv cv))

/-- The offset of a converter's XBAR register; CFG and STAT follow it. -/
def convOff (cv : Nat) : Nat := if cv < 16 then 0x040 + 0x10 * cv else 0x140 + 0x10 * (cv - 16)

/-- XBAR and CFG of a converter. -/
def State.xbar (s : State) (cv : Nat) : Word := s.rg 0x18 (convOff cv)
def State.convCfg (s : State) (cv : Nat) : Word := s.rg 0x18 (convOff cv + 4)

/-- The port XBAR names, and whether it is connected. -/
def State.xbarPort (s : State) (cv : Nat) : Nat := field (s.xbar cv) 5 0
def State.xbarEn (s : State) (cv : Nat) : Bool := flag (s.xbar cv) 7

/-- TRIG: 0 continuous, 1 Gleaner, 2 fabric task. -/
def State.trig (s : State) (cv : Nat) : Nat :=
  if cv < 16 then field (s.convCfg cv) 7 6 else field (s.convCfg cv) 17 16

/-- DIV of a SAR converter. -/
def State.divOf (s : State) (cv : Nat) : Nat := field (s.convCfg cv) 15 0

/-- Whether a port can be converted now: analog mode in effect, in service, its pair active and both its ports in
service (R103, R104, R120; the partner's part DEDUCED, log entry 502). -/
def State.convertible (s : State) (p : Nat) : Bool :=
  analogMode (s.port p).mode && s.portActive p && !s.oddDiff p
  && !((s.port p).mode == 2 && (s.port (partner p)).quarantined)

/-- Whether a converter's connection is in effect. -/
def State.connected (s : State) (cv : Nat) : Bool := s.xbarEn cv && s.convertible (s.xbarPort cv)

/-- STAT.CAL: a CAL operation that names the converter runs (R122). -/
def State.calibrating (s : State) (cv : Nat) : Bool :=
  s.ops.slots.any (fun e =>
    e.2.st == .running && e.2.page == 0x18 && e.2.op == 1 && e.2.result == none && flag (e.2.args.getD 0 0) cv
    && (List.range 20).all (fun k => !(flag (e.2.args.getD 0 0) k && s.xbarEn k)))

/-! ### Lanes -/

/-- A lane beside its staging registers. -/
def State.lane (s : State) (n : Nat) : Lane := Tab.get (fun _ => {}) s.thr.lanes n

/-- A lane given a state. -/
def State.putLane (s : State) (n : Nat) (x : Lane) : State :=
  { s with thr := { s.thr with lanes := Tab.set (fun _ => {}) s.thr.lanes n x } }

/-- A lane changed by a function. -/
def State.updLane (s : State) (n : Nat) (f : Lane → Lane) : State := s.putLane n (f (s.lane n))

/-- Fields of a lane configuration (R174). -/
def LaneCfg.en (c : LaneCfg) : Bool := flag c.lcfg 0
def LaneCfg.guard (c : LaneCfg) : Bool := flag c.lcfg 1
def LaneCfg.scs (c : LaneCfg) : Bool := flag c.lcfg 2
def LaneCfg.clear (c : LaneCfg) : Bool := flag c.lcfg 3
def LaneCfg.rnd (c : LaneCfg) : Bool := flag c.lcfg 4
def LaneCfg.qen (c : LaneCfg) : Bool := flag c.lcfg 5
def LaneCfg.order (c : LaneCfg) : Nat := field c.cic 2 0
/-- DEC, 1 when the CIC is bypassed. -/
def LaneCfg.dec (c : LaneCfg) : Nat := if c.order = 0 then 1 else field c.cic 16 8
def firTaps (w : Word) : Nat := field w 6 0
/-- D of a FIR stage, 1 when it is bypassed (R159). -/
def firD (w : Word) : Nat := if firTaps w = 0 then 1 else 2 ^ field w 9 8
def LaneCfg.d1 (c : LaneCfg) : Nat := firD c.fir1
def LaneCfg.d2 (c : LaneCfg) : Nat := firD c.fir2
def LaneCfg.nbq (c : LaneCfg) : Nat := field c.bq 1 0

/-- The staged configuration of a lane (R171). -/
def State.staged (s : State) (n : Nat) : LaneCfg :=
  let r (off : Nat) : Word := s.rg 0x19 (0x100 + 0x20 * n + off)
  { lcfg := r 0, cic := r 4, fir1 := r 8, fir2 := r 0xC, bq := r 0x10, rate := r 0x14
    div := if 16 ≤ n ∧ n < 20 then s.divOf n else 25 }

/-- A lane's input rate as a fraction, in RUN and in GUARD (R156). -/
def inRate (n : Nat) (c : LaneCfg) (guard : Bool) : Nat × Nat :=
  if n < 16 then (if guard then 500000 else 3072000, 1)
  else if n < 20 then (if guard then (8000000, max c.div 64) else (49152000, c.div))
  else (c.rate.toNat, 1)

/-- A lane's output rate f_2 as a fraction (R159). -/
def outRate (n : Nat) (c : LaneCfg) (guard : Bool) : Nat × Nat :=
  let (a, b) := inRate n c guard
  (a, b * c.dec * c.d1 * c.d2)

/-- A lane's output period in TIME units, rounded up, at the rate R168 costs it at. -/
def outPeriod (n : Nat) (c : LaneCfg) (guard : Bool) : Nat :=
  let (a, b) := outRate n c guard
  if a = 0 then 0 else (b * 2 ^ 32 + a - 1) / a

/-- A lane is held: CTL.EN at 0, or in GUARD with LCFG.GUARD at 0 (R170, R173). -/
def State.laneHeld (s : State) (n : Nat) : Bool :=
  !flag (s.rg 0x19 0x008) 0
  || (s.pwr.depth == .guard && match (s.lane n).cfg with | some c => !c.guard | none => false)

/-- STAT.HELD of a converter: continuous, and stopped in GUARD (R107). -/
def State.convHeld (s : State) (cv : Nat) : Bool := s.trig cv == 0 && s.pwr.depth == .guard

/-- Whether a converter runs: continuous and connected, or a conversion in progress that ends first (R105). -/
def State.converting (s : State) (cv : Nat) : Bool :=
  if s.trig cv == 0 then
    (s.connected cv && !s.convHeld cv && !s.calibrating cv && s.ready 0x18) || (s.conv cv).late.isSome
  else (s.conv cv).run.isSome

/-- The port a converter is converting, if any: the one a conversion in progress began on, or the one XBAR names. -/
def State.portOn (s : State) (cv : Nat) : Option Nat :=
  match (s.conv cv).run, (s.conv cv).late with
  | some (_, p), _ => some p
  | none, some p => some p
  | none, none => if s.trig cv == 0 && s.converting cv then some (s.xbarPort cv) else none

/-- Whether converting port q is converting port p: q is p, or p is its partner in a pair. -/
def State.sameInput (s : State) (q p : Nat) : Bool := q == p || ((s.port q).mode == 2 && partner q == p)

/-- Whether a triggered conversion of a port is in progress (R102). -/
def State.triggeredOn (s : State) (p : Nat) : Bool :=
  (List.range 20).any (fun cv => match (s.conv cv).run with | some (_, q) => s.sameInput q p | none => false)

/-- The continuously running SAR converters that convert a port. -/
def State.sarsOn (s : State) (p : Nat) : List Nat :=
  [16, 17, 18, 19].filter (fun cv =>
    s.trig cv == 0 && match s.portOn cv with | some q => s.sameInput q p | none => false)

/-- Whether a conversion of a port is in progress that a write to the port waits for: a triggered one, or the sample of
a continuously running SAR (R102). -/
def State.convertingPort (s : State) (p : Nat) : Bool := s.triggeredOn p || !(s.sarsOn p).isEmpty

/-- A converter's STAT.OVR and its CONV EVRAW line (R108). -/
def State.convOver (s : State) (cv : Nat) (b : Bool) : State :=
  (s.updConv cv (fun c => { c with ovr := b })).evLevel 0x18 cv b

/-- STAT.OVR of converters that convert nothing any more falls (R108). -/
def State.dropOver (s : State) : State :=
  (List.range 20).foldl (fun acc cv => if (acc.conv cv).ovr && !acc.converting cv then acc.convOver cv false else acc) s

/-- SDn_STAT and SARn_STAT (R124). -/
def State.convStat (s : State) (cv : Nat) : Word :=
  pack [(0, 1, bit (s.converting cv)), (1, 1, bit (s.conv cv).ovr), (2, 1, bit (s.calibrating cv)),
    (3, 1, bit (s.xbarEn cv && (s.port (s.xbarPort cv)).quarantined)), (4, 1, bit (s.convHeld cv))]

/-! ### Rules -/

/-- A rule. -/
def State.rule (s : State) (r : Nat) : Rule := Tab.get (fun _ => {}) s.win.rules r

/-- A rule given a state. -/
def State.putRule (s : State) (r : Nat) (x : Rule) : State :=
  { s with win := { s.win with rules := Tab.set (fun _ => {}) s.win.rules r x } }

/-- A rule's word by its index in the rule window. -/
def Rule.word (x : Rule) (i : Nat) : Word := Tab.get (fun _ => 0) x.words i

/-- A rule's condition. -/
def Rule.cond (x : Rule) (k : Nat) : Cond := Tab.get (fun _ => {}) x.conds k

/-- A rule's condition given a state. -/
def Rule.putCond (x : Rule) (k : Nat) (c : Cond) : Rule :=
  { x with conds := Tab.set (fun _ => {}) x.conds k c }

/-- Whether a rule is enabled. -/
def State.ruleEn (s : State) (r : Nat) : Bool := flag (s.rg 0x1A (0x060 + 4 * (r / 32))) (r % 32)

/-- The enabled rules, ascending. -/
def State.enabledRules (s : State) : List Nat := (List.range 128).filter s.ruleEn

/-- NCOND of a rule, and its GUARD bit. -/
def Rule.ncond (x : Rule) : Nat := field (x.word 0) 3 2 + 1
def Rule.guard (x : Rule) : Bool := flag (x.word 0) 6

/-- A condition's words, decoded (R221). -/
structure CondCfg where
  index : Nat
  skind : Nat
  index2 : Nat
  skind2 : Nat
  kind : Nat
  dir : Nat
  inv : Bool
  delta : Bool
  silent : Bool
  a : Int
  b : Int
  value : Nat
  unit : Nat
  deriving DecidableEq, Repr

/-- Condition k of a rule's words. -/
def Rule.cfg (x : Rule) (k : Nat) : CondCfg :=
  let w := x.word (4 + 4 * k)
  let t := x.word (7 + 4 * k)
  { index := field w 5 0, skind := field w 8 6, index2 := field w 14 9, skind2 := field w 17 15
    kind := field w 20 18, dir := field w 22 21, inv := flag w 23, delta := flag w 24, silent := flag w 25
    a := signedOf 32 (x.word (5 + 4 * k)).toNat, b := signedOf 32 (x.word (6 + 4 * k)).toNat
    value := field t 23 0, unit := field t 25 24 }

/-- The code of a source in WinIn and records: 0 to 63 a port, 64 to 87 a lane (R208). -/
def srcCode (skind index : Nat) : Nat := if skind == 1 then 64 + index else index

/-- Whether a port's value is sampled at the Winnow tick for a source kind (R195). -/
def State.ticked (s : State) (skind index : Nat) : Bool :=
  if skind == 0 then
    let m := (s.port index).mode
    4 ≤ m && m ≤ 7
  else skind == 2 || skind == 3

/-- Whether a condition observes a source whose samples arrive as inputs. -/
def State.observes (s : State) (c : CondCfg) (which src : Nat) : Bool :=
  let sk := if which == 1 then c.skind else c.skind2
  let ix := if which == 1 then c.index else c.index2
  sk ≤ 1 && !s.ticked sk ix && srcCode sk ix == src

/-- An input reaches Winnow: it waits in the buffer of 64 where a condition of an enabled rule that is not held is
evaluated on it, and is dropped where the buffer is full (R207, R212, R216). -/
def State.winEnter (s : State) (hits : CondCfg → Bool) (i : WinIn) : State :=
  let seen := s.enabledRules.any (fun r =>
    let x := s.rule r
    (x.guard || s.pwr.depth != .guard) && (List.range x.ncond).any (fun k => hits (x.cfg k)))
  if s.ready 0x1A && flag (s.rg 0x1A 0x008) 0 && seen then
    if s.win.inputs.length ≥ 64 then (s.updRg 0x1A 0x058 (fun w => satField w 15 0 1)).evPulse 0x1A 24
    else { s with win := { s.win with inputs := s.win.inputs ++ [i] } }
  else s

/-- A sample or a lane output reaches Winnow. -/
def State.winInput (s : State) (src : Nat) (value : Int) (stamp : Stamp) (tag : Bool) : State :=
  s.winEnter (fun c => s.observes c 1 src || (c.kind == 3 && s.observes c 2 src))
    { src := src, value := value, stamp := stamp, tag := tag }

/-! ### Winnow's load (R213) -/

/-- The sum of fractions, as a fraction. -/
def fracSum (l : List (Nat × Nat)) : Nat × Nat :=
  l.foldl (fun (a, b) (c, d) => (a * d + c * b, b * d)) (0, 1)

/-- A lane's rate for Winnow: none unless it is admitted, and in GUARD unless it runs there. -/
def State.laneRate (s : State) (n : Nat) (guard : Bool) : List (Nat × Nat) :=
  match (s.lane n).cfg with
  | some c => if guard && !c.guard then [] else [outRate n c guard]
  | none => []

/-- The tick rate. -/
def State.tickRate (s : State) : Nat × Nat := (2 ^ 15, max 1 (field (s.rg 0x1A 0x040) 15 0))

/-- The rates one source adds to a condition's load. -/
def State.sourceRate (s : State) (skind index : Nat) (guard : Bool) : List (Nat × Nat) :=
  if skind == 1 then s.laneRate index guard
  else if s.ticked skind index then [s.tickRate]
  else if analogMode (s.port index).mode then
    (List.range 20).flatMap (fun cv =>
      if s.xbarEn cv && s.xbarPort cv == index then s.laneRate cv guard else [])
  else []

/-- The load of a condition in evaluations a second, rounded up. -/
def State.condLoad (s : State) (c : CondCfg) (guard : Bool) : Nat :=
  let second := c.kind == 3
  let ticked := s.ticked c.skind c.index || (second && s.ticked c.skind2 c.index2)
  let own := c.kind == 2 || c.kind == 5 || (c.kind == 4 && c.silent)
  let (a, b) := fracSum
    (s.sourceRate c.skind c.index guard ++ (if second then s.sourceRate c.skind2 c.index2 guard else [])
      ++ (if own && !ticked then [s.tickRate] else []))
  (a + b - 1) / b

/-- The load of a rule in RUN, and in GUARD. -/
def State.ruleLoad (s : State) (x : Rule) (guard : Bool) : Nat :=
  if guard && !x.guard then 0 else ((List.range x.ncond).map (fun k => s.condLoad (x.cfg k) guard)).sum

/-- LOAD_RUN or LOAD_GUARD over rules. -/
def State.loadOf (s : State) (rules : List Rule) (guard : Bool) : Nat :=
  (rules.map (fun x => s.ruleLoad x guard)).sum

/-- The levels of Winnow: PERR while any rule has it, OVERLOAD while a load exceeds its capacity; DEGRADED with
either (R214, R218); LOAD_RUN and LOAD_GUARD. -/
def State.refreshWinnow (s : State) : State :=
  let rules := s.enabledRules.map s.rule
  let run := s.loadOf rules false
  let grd := s.loadOf rules true
  let ovr := decide (run > 49152000) || decide (grd > 8000000)
  let perr := s.win.rules.any (fun e => e.2.perr)
  let s1 := (s.setRg 0x1A 0x04C (BitVec.ofNat 32 run)).setRg 0x1A 0x050 (BitVec.ofNat 32 grd)
  (((s1.evLevel 0x1A 26 perr).evLevel 0x1A 27 ovr)).setDegraded 0x1A (perr || ovr)

/-- What a condition holds after a restart (R198, R202, R215). -/
def freshCond (c : CondCfg) (now : Stamp) : Cond := if c.kind == 4 && c.silent then { tRef := some now } else {}

/-- A condition's state after NOT (R205). -/
def Rule.shown (x : Rule) (k : Nat) : Bool := (x.cond k).s != (x.cfg k).inv

/-- A rule's combination of its conditions (R206). -/
def Rule.combine (x : Rule) : Bool :=
  let c := x.shown
  let ks := List.range x.ncond
  match field (x.word 0) 1 0 with
  | 0 => ks.all c
  | 1 => ks.any c
  | 2 => (c 0 && c 1) || (c 2 && c 3)
  | _ => (c 0 || c 1) && (c 2 || c 3)

/-- A rule restarts: every condition, and OUT without an edge (R215). -/
def State.restartRule (s : State) (r : Nat) : State :=
  let x := s.rule r
  let x1 := (List.range x.ncond).foldl (fun acc k => acc.putCond k (freshCond (x.cfg k) s.now)) x
  s.putRule r { x1 with out := x1.combine }

/-- The single conditions that observe a source restart, and OUT is recomputed without an edge (R215). -/
def State.restartSource (s : State) (hit : CondCfg → Bool) : State :=
  s.enabledRules.foldl
    (fun acc r =>
      let x := acc.rule r
      let ks := (List.range x.ncond).filter (fun k => hit (x.cfg k))
      if ks.isEmpty then acc
      else
        let x1 := ks.foldl (fun y k => y.putCond k (freshCond (x.cfg k) acc.now)) x
        acc.putRule r { x1 with out := x1.combine }) s

/-- The conditions on a port restart. -/
def State.restartPort (s : State) (p : Nat) : State :=
  s.restartSource (fun c =>
    (c.skind != 1 && c.index == p) || (c.kind == 3 && c.skind2 != 1 && c.index2 == p))

/-- The conditions on a lane restart. -/
def State.restartLane (s : State) (n : Nat) : State :=
  s.restartSource (fun c =>
    (c.skind == 1 && c.index == n) || (c.kind == 3 && c.skind2 == 1 && c.index2 == n))

/-- The rules held in GUARD restart as the device leaves it (R215). -/
def State.restartHeld (s : State) : State :=
  s.enabledRules.foldl (fun acc r => if (acc.rule r).guard then acc else acc.restartRule r) s

/-- Every enabled rule restarts, as CTL.EN returns to 1. -/
def State.restartAll (s : State) : State := s.enabledRules.foldl State.restartRule s

end Sys2Proof.Machine
end

