-- ==== Sys2Proof/Machine/Winnow.lean ====
section
/-!
DEFINITION. Winnow (chapter 09): the evaluation of conditions, rules and their outputs, ticks, rule configuration
and loads.
-/
namespace Sys2Proof.Machine

/-! ### Conditions -/

/-- A 32-bit two's complement result (R197). -/
def wrap32 (i : Int) : Int := signedOf 32 (unsignedOf 32 i)

/-- b − a as a signed time. -/
def elapsed (a b : Stamp) : Int := signedOf 64 (b - a).toNat

/-- T as a TIME length (R204). -/
def CondCfg.time (c : CondCfg) : Nat :=
  c.value * (match c.unit with | 0 => 2 ^ 12 | 1 => 2 ^ 22 | _ => 2 ^ 32)

/-- A condition's state takes a value; a change carries its stamp and the source that made it (R208). -/
def Cond.become (c : Cond) (v : Bool) (at_ : Stamp) (src : Nat) : Cond × Option Stamp :=
  if c.s = v then (c, none) else ({ c with s := v, src := src }, some at_)

/-- The THRESH test on A and B, from its present state (R198). -/
def CondCfg.thresh (c : CondCfg) (q : Bool) (x : Int) : Bool :=
  if c.dir == 1 then
    if x ≤ c.a then true else if x > wrap32 (c.a + c.b) then false else q
  else
    if x ≥ c.a then true else if x < wrap32 (c.a - c.b) then false else q

/-- Whether two values in a row cross a level in the condition's direction (R198). -/
def CondCfg.crosses (c : CondCfg) (level : Int) (prev : Option Int) (x : Int) : Bool :=
  match prev with
  | none => false
  | some p => if c.dir == 1 then decide (x ≤ level) && decide (p > level) else decide (x ≥ level) && decide (p < level)

/-- The RATE test of Δ (R198). -/
def CondCfg.rateTest (c : CondCfg) (q : Bool) (d : Int) : Bool :=
  let off := wrap32 (c.a - c.b)
  match c.dir with
  | 0 => if d ≥ c.a then true else if d < off then false else q
  | 1 => if d ≤ -c.a then true else if d > -off then false else q
  | _ => if d.natAbs ≥ c.a.natAbs then true else if (d.natAbs : Int) < off then false else q

/-- The length of a COUNT bucket (R200). -/
def CondCfg.bucketLen (c : CondCfg) : Nat := max 1 (c.time / 16)

/-- COUNT: the current bucket moves on to bucket b. -/
def Cond.advance (c : Cond) (b : Nat) : Cond :=
  match c.bucket with
  | none => { c with bucket := some b, counts := List.replicate 16 0 }
  | some k =>
    if b ≤ k then c
    else { c with bucket := some b, counts := (List.replicate (min (b - k) 16) 0 ++ c.counts).take 16 }

/-- COUNT: a crossing counted in bucket b, if it is one of the sixteen kept. -/
def Cond.countAt (c : Cond) (b : Nat) : Cond :=
  match c.bucket with
  | none => c
  | some k =>
    if b ≤ k ∧ k - b ≤ 15 then { c with counts := c.counts.set (k - b) (min 255 (c.counts.getD (k - b) 0 + 1)) }
    else c

/-- The uncertainty of a stamp in units of 0.1 ns: taken in FIELD, else in SENSE or AON, whose figures agree (R181). A
FIELD stamp has none of its own in GUARD and keeps that of the states it was taken in (DESIGN CHOICE, log entry 901). -/
def stampU (guard tag : Bool) : Int := if tag then 109 else if guard then 2500 else 266

/-- SEQ: the uncertainties of the two stamps together are exceeded by S2 − S1 (R181, R201). -/
def seqOrdered (guard tag1 tag2 : Bool) (d : Int) : Bool :=
  decide (d * 10 ^ 10 > (stampU guard tag1 + stampU guard tag2) * 2 ^ 32)

/-- COUNT: the boundary at which the count has fallen below B as the current bucket moves on to bucket b, if it has
(R200, R204). -/
def Cond.fallsAt (c : Cond) (g : CondCfg) (b : Nat) : Option Stamp :=
  match c.bucket with
  | none => none
  | some k =>
    ((List.range (min (b - k) 16)).find? (fun i => decide (((c.counts.take (15 - i)).sum : Int) < g.b))).map
      (fun i => BitVec.ofNat 64 ((k + i + 1) * g.bucketLen))

/-- A sample of source 1 or 2 evaluated: the value after DELTA, then the condition's kind (R197 to R203). -/
def Cond.sample (c : Cond) (g : CondCfg) (guard : Bool) (which src : Nat) (pulse24 : Bool) (x0 : Int)
    (stamp : Stamp) (tag : Bool) : Cond × Option Stamp :=
  let prev := if which == 1 then c.prev else c.prev2
  let c0 : Cond := if which == 1 then { c with prev := some x0 } else { c with prev2 := some x0 }
  let eval (c1 : Cond) (x : Int) : Cond × Option Stamp :=
    match g.kind with
    | 0 => ({ c1 with x := x }).become (g.thresh c.s x) stamp src
    | 1 =>
      let c2 : Cond :=
        match c1.rNew with
        | none => { c1 with x := x, rNew := some x, count := 0 }
        | some r =>
          if c1.count + 1 ≥ g.value then { c1 with x := x, rOld := some r, rNew := some x, count := 0 }
          else { c1 with x := x, count := c1.count + 1 }
      match c2.rOld with
      | none => (c2, none)
      | some r => c2.become (g.rateTest c.s (wrap32 (x - r))) stamp src
    | 2 =>
      let b := stamp.toNat / g.bucketLen
      let c2 : Cond := ({ c1 with x := x, cross1 := some x }).advance b
      let c3 := if g.crosses g.a c.cross1 x then c2.countAt b else c2
      let full := decide ((c3.counts.sum : Int) ≥ g.b)
      c3.become full (if full then stamp else (c1.fallsAt g b).getD stamp) src
    | 3 =>
      let crossed := if which == 1 then g.crosses g.a c.cross1 x else g.crosses g.b c.cross2 x
      let c2 : Cond := if which == 1 then { c1 with x := x, cross1 := some x } else { c1 with x := x, cross2 := some x }
      if !crossed then (c2, none)
      else
        let c3 : Cond :=
          if which == 1 then { c2 with s1 := some stamp, tag1 := tag } else { c2 with s2 := some stamp, tag2 := tag }
        match c3.s1, c3.s2 with
        | some a, some b =>
          let d := elapsed a b
          if seqOrdered guard c3.tag1 c3.tag2 d && decide (d ≤ (g.time : Int)) then
            ({ c3 with s1 := none, s2 := none }).become true stamp src
          else (c3, none)
        | _, _ => (c3, none)
    | 4 =>
      let c2 : Cond := { c1 with x := x }
      match c1.vRef, c1.tRef with
      | some v, some t =>
        if (x - v).natAbs > g.a.natAbs then ({ c2 with vRef := some x, tRef := some stamp }).become false stamp src
        else if elapsed t stamp ≥ (g.time : Int) then c2.become true (t + BitVec.ofNat 64 g.time) src
        else (c2, none)
      | _, _ => ({ c2 with vRef := some x, tRef := some stamp }).become false stamp src
    | _ =>
      let q := g.thresh c.q x
      let c2 : Cond := if q = c.q then { c1 with x := x } else { c1 with x := x, q := q, tq := some stamp }
      match c2.tq with
      | none => (c2, none)
      | some t =>
        if elapsed t stamp ≥ (g.time : Int) then c2.become c2.q (t + BitVec.ofNat 64 g.time) src else (c2, none)
  if g.delta then
    match prev with
    | none => (c0, none)
    | some p => eval c0 (if pulse24 then (x0 - p) % (2 ^ 24 : Nat) else wrap32 (x0 - p))
  else eval c0 x0

/-- A tick at TIME now: the changes that fall due at a time (R200, R202 to R204). -/
def Cond.timed (c : Cond) (g : CondCfg) (src : Nat) (now : Stamp) : Cond × Option Stamp :=
  match g.kind with
  | 2 =>
    let b := now.toNat / g.bucketLen
    let c1 := c.advance b
    c1.become (decide ((c1.counts.sum : Int) ≥ g.b)) ((c.fallsAt g b).getD now) src
  | 4 =>
    match g.silent, c.tRef with
    | true, some t =>
      if elapsed t now ≥ (g.time : Int) then c.become true (t + BitVec.ofNat 64 g.time) src else (c, none)
    | _, _ => (c, none)
  | 5 =>
    match c.tq with
    | some t => if elapsed t now ≥ (g.time : Int) then c.become c.q (t + BitVec.ofNat 64 g.time) src else (c, none)
    | none => (c, none)
  | _ => (c, none)

/-! ### Rules -/

/-- The uncorrected edge of a rule: rising or not, its stamp, the condition that caused it (R208). -/
structure Edge where
  rule : Nat
  rising : Bool
  stamp : Stamp
  src : Nat
  value : Int
  deriving DecidableEq, Repr

/-- A rule's record pushed into its queue; what it cannot take is counted in QDROP (R211). -/
def State.ruleRecord (s : State) (e : Edge) : State :=
  let x := s.rule e.rule
  let items : List Word :=
    [ pack [(0, 8, field (x.word 0) 15 8), (8, 8, e.src), (16, 7, e.rule), (23, 1, bit e.rising)],
      BitVec.ofNat 32 (unsignedOf 24 e.value), BitVec.ofNat 32 (stampField e.stamp 47 24),
      BitVec.ofNat 32 (stampField e.stamp 23 0) ]
  let (s1, c) := s.blockPush (field (x.word 1) 12 8) items
  if c = .done then s1 else (s1.updRg 0x1A 0x058 (fun w => satField w 23 16 1)).evPulse 0x1A 25

/-- A rule fires, or its edge falls within HOLDOFF (R206, R209 to R211). `lines` are the WEV lines already pulsed
for this input. -/
def State.fireEdge (s : State) (lines : List Nat) (e : Edge) : State × List Nat :=
  let x := s.rule e.rule
  let fire := field (x.word 0) 5 4
  let hold := field (x.word 0) 31 16
  if !(if e.rising then fire % 2 == 1 else decide (fire ≥ 2)) then (s, lines)
  else
    let within : Bool :=
      match x.fired with
      | some t => hold != 0 && decide (elapsed t e.stamp < (msTime hold : Int))
      | none => false
    if within then (s.putRule e.rule { x with suppr := if x.suppr = 255 then 255 else x.suppr + 1 }, lines)
    else
      let s1 := s.putRule e.rule
        { x with fires := if x.fires = 65535 then 65535 else x.fires + 1, fired := some e.stamp }
      let ev := field (x.word 1) 4 0
      let (s2, lines2) :=
        if !flag (x.word 1) 5 then (s1, lines)
        else if lines.contains ev then (s1.updRg 0x1A 0x058 (fun w => satField w 31 24 1), lines)
        else (((s1.evPulse 0x1A ev).pulse ev).fireWake (0x24 + ev), ev :: lines)
      (if flag (x.word 1) 13 then s2.ruleRecord e else s2, lines2)

/-- Whether any port or lane a condition observes is quarantined (R216). -/
def State.condQuarantined (s : State) (c : CondCfg) : Bool :=
  (c.skind != 1 && (s.port c.index).quarantined)
  || (c.kind == 3 && c.skind2 != 1 && (s.port c.index2).quarantined)

/-- One rule on one input: its parity, its conditions in order, its OUT, its edge; a SEQ pulse ends silently (R207,
R208, R218). -/
def State.evalRule (s : State) (r : Nat) (hits : CondCfg → Bool)
    (ev : CondCfg → Cond → Cond × Option Stamp) (lines : List Nat) : State × List Nat :=
  let x := s.rule r
  let ks := (List.range x.ncond).filter (fun k => hits (x.cfg k) && !s.condQuarantined (x.cfg k))
  if ks.isEmpty then (s, lines)
  else if !x.bad.isEmpty then
    let s1 := s.putRule r { x with perr := true }
    (((s1.updRg 0x1A (0x060 + 4 * (r / 32)) (fun w => setFlag w (r % 32) false)).faultRec 0x12 0x1A r).refreshWinnow, lines)
  else
    let (x1, last) := ks.foldl
      (fun (acc : Rule × Option (Nat × Stamp)) k =>
        let (c, ch) := ev (x.cfg k) (acc.1.cond k)
        (acc.1.putCond k c, match ch with | some t => some (k, t) | none => acc.2)) (x, none)
    let out := x1.combine
    let x2 := (List.range x.ncond).foldl
      (fun acc k => if (x.cfg k).kind == 3 then acc.putCond k { acc.cond k with s := false } else acc) x1
    let s1 := s.putRule r { x2 with out := x2.combine }
    match last with
    | none => (s1, lines)
    | some (k, t) =>
      if out = x.out then (s1, lines)
      else
        let c := x1.cond k
        s1.fireEdge lines { rule := r, rising := out, stamp := t, src := c.src, value := c.x }

/-- Every enabled rule that is not held, on one input. -/
def State.evalRules (s : State) (hits : CondCfg → Bool) (ev : CondCfg → Cond → Cond × Option Stamp) : State :=
  (s.enabledRules.foldl
    (fun (acc : State × List Nat) r =>
      if (acc.1.rule r).guard || acc.1.pwr.depth != .guard then acc.1.evalRule r hits ev acc.2 else acc)
    (s, [])).1

/-- Winnow runs: READY with CTL.EN at 1. -/
def State.winRuns (s : State) : Bool := s.ready 0x1A && flag (s.rg 0x1A 0x008) 0 && !s.unavailable .sense

/-- The value a tick samples of a source, its stamp and whether it is a PULSE count; none where the source is not
tick-sampled, or its measurement is not valid (R195, R196). -/
def State.tickValue (s : State) (skind index : Nat) : Option (Int × Stamp × Bool) :=
  if !s.ticked skind index then none
  else
    let x := s.port index
    match skind with
    | 2 => if x.period.valid then some (x.period.ticks, x.stamp, false) else none
    | 3 => if x.width.valid then some (x.width.ticks, x.stamp, false) else none
    | _ => some (((s.portVal index).toNat : Int), x.stamp, x.mode == 4)

/-- What a tick samples: every tick-sampled source that an enabled rule observes (R195, R196). -/
def State.tickSamples (s : State) : List ((Nat × Nat) × (Int × Stamp × Bool)) :=
  let sources := s.enabledRules.flatMap (fun r =>
    let x := s.rule r
    (List.range x.ncond).flatMap (fun k =>
      let g := x.cfg k
      (g.skind, g.index) :: if g.kind == 3 then [(g.skind2, g.index2)] else []))
  sources.eraseDups.filterMap (fun k => (s.tickValue k.1 k.2).map (fun v => (k, v)))

/-- A tick on a condition: what it sampled of the condition's sources, then what falls due (R195, R204, R207). -/
def State.tickCond (s : State) (i : WinIn) (g : CondCfg) (c : Cond) : Cond × Option Stamp :=
  let guard := s.pwr.depth == .guard
  let src1 := srcCode g.skind g.index
  let step (acc : Cond × Option Stamp) (f : Cond → Cond × Option Stamp) : Cond × Option Stamp :=
    let (c1, ch) := f acc.1
    (c1, ch.orElse (fun _ => acc.2))
  let a0 : Cond × Option Stamp := (c, none)
  let a1 :=
    match i.samples.lookup (g.skind, g.index) with
    | some (x, t, p) => step a0 (fun d => d.sample g guard 1 src1 p x t false)
    | none => a0
  let a2 :=
    if g.kind == 3 then
      match i.samples.lookup (g.skind2, g.index2) with
      | some (x, t, p) => step a1 (fun d => d.sample g guard 2 (srcCode g.skind2 g.index2) p x t false)
      | none => a1
    else a1
  step a2 (fun d => d.timed g src1 i.stamp)

/-- Whether a condition is evaluated at a tick at all. -/
def State.tickHits (s : State) (c : CondCfg) : Bool :=
  s.ticked c.skind c.index || (c.kind == 3 && s.ticked c.skind2 c.index2) || c.kind == 2 || c.kind == 5
  || (c.kind == 4 && c.silent)

/-- The tick's length as a TIME length (R196). -/
def State.tickLen (s : State) : Nat := max 1 (field (s.rg 0x1A 0x040) 15 0) * 2 ^ 17

/-- Winnow takes the oldest input of its buffer: a sample, a lane output or a tick (R207). -/
def State.takeInput (s : State) : State :=
  match s.win.inputs with
  | [] => s
  | i :: rest =>
    let s1 := { s with win := { s.win with inputs := rest } }
    if i.tick then s1.evalRules s1.tickHits (fun g c => s1.tickCond i g c)
    else
      let guard := s.pwr.depth == .guard
      s1.evalRules (fun c => s1.observes c 1 i.src || (c.kind == 3 && s1.observes c 2 i.src))
        (fun g c =>
          c.sample g guard (if s1.observes g 1 i.src then 1 else 2) i.src false i.value i.stamp i.tag)

/-- The next Winnow tick samples its sources and reaches the buffer; where nothing waits before it, it is taken at once
(R196, R207, R212). -/
def State.winTick (s : State) : State :=
  let len := s.tickLen
  let due := s.now.toNat / len
  let n := if due = s.win.tick then due + 1 else due
  let s1 := s.reach (BitVec.ofNat 64 (n * len))
  let s2 := { s1 with win := { s1.win with tick := n } }
  if s2.winRuns then
    let s3 := s2.winEnter s2.tickHits { tick := true, stamp := BitVec.ofNat 64 (n * len), samples := s2.tickSamples }
    if s2.win.inputs.isEmpty then s3.takeInput else s3
  else s2

/-! ### Configuration -/

/-- Whether a source may be observed: no reserved kind, no lane above 23, not the odd port of a DIFF pair (R195). -/
def State.sourceLegal (s : State) (skind index : Nat) : Bool :=
  decide (skind ≤ 3) && (if skind == 1 then decide (index < 24) else !(s.modeReg index == 2 && index % 2 == 1))

/-- A condition is consistent (R198, R200, R204, R217). -/
def State.condLegal (s : State) (c : CondCfg) : Bool :=
  s.sourceLegal c.skind c.index && decide (c.kind ≤ 5) && decide (c.dir ≤ 2) && decide (c.unit ≤ 2)
  && (c.dir != 2 || c.kind == 1)
  && (match c.kind with
      | 0 => decide (c.b ≥ 0)
      | 1 => decide (c.a ≥ 1) && decide (0 ≤ c.b) && decide (c.b < c.a) && decide (1 ≤ c.value)
             && decide (c.value ≤ 65535) && c.unit == 0
      | 2 => decide (1 ≤ c.b) && decide (c.b ≤ 4080) && c.value != 0 && (c.unit != 0 || c.value % 16 == 0)
      | 3 => s.sourceLegal c.skind2 c.index2 && !(c.skind == c.skind2 && c.index == c.index2)
      | 4 => decide (c.a ≥ 0)
      | _ => decide (c.b ≥ 0))

/-- A rule is consistent, as checked when it is enabled (R206, R217); field encodings are checked at the write. -/
def State.ruleLegal (s : State) (x : Rule) : Bool :=
  (decide (field (x.word 0) 1 0 ≤ 1) || x.ncond == 4)
  && (List.range x.ncond).all (fun k => s.condLegal (x.cfg k))

/-- Whether rules fit Winnow's capacity (R214). -/
def State.fits (s : State) (rules : List Rule) : Bool :=
  decide (s.loadOf rules false ≤ 49152000) && decide (s.loadOf rules true ≤ 8000000)

/-- A refused change leaves the RUN load that would have resulted in DEMAND (R214). -/
def State.demand (s : State) (rules : List Rule) : State :=
  s.setRg 0x1A 0x054 (BitVec.ofNat 32 (s.loadOf rules false))

/-- A write of EN k that has reached the register (R214, R217). -/
def winEnEffect (k : Nat) (v : Word) (s : State) : State × Code :=
  let old := s.rg 0x1A (0x060 + 4 * k)
  let new := (List.range 32).filter (fun i => flag v i && !flag old i)
  let rules := (List.range 128).filter (fun r => if r / 32 == k then flag v (r % 32) else s.ruleEn r)
  if new.any (fun i => !s.ruleLegal (s.rule (32 * k + i))) then (s, .arg)
  else if new.any (fun i => (s.rule (32 * k + i)).perr) then (s, .state)
  else if !new.isEmpty && !s.fits (rules.map s.rule) then (s.demand (rules.map s.rule), .busy)
  else
    let s1 := s.setRg 0x1A (0x060 + 4 * k) v
    ((new.foldl (fun acc i => acc.restartRule (32 * k + i)) s1).refreshWinnow, .done)

/-- The bits a rule window word keeps, by its index. -/
def ruleMask (i : Nat) : Nat :=
  match i with
  | 0 => 0xFFFFFF7F
  | 1 => 0x00003F3F
  | 2 => 0
  | 3 => 0
  | _ => if i % 4 == 0 then 0x03FFFFFF else if i % 4 == 3 then 0x03FFFFFF else 0xFFFFFFFF

/-- A write of a rule window word that has reached the register: the rule named by RSEL, whose word takes a new parity;
RSTAT and 0x10C are read-only (R217, R218, R221). -/
def ruleWordEffect (i : Nat) (v : Word) (s : State) : State × Code :=
  let r := field (s.rg 0x1A 0x080) 6 0
  let x := s.rule r
  if i = 2 || i = 3 then (s, .done)
  else if s.ruleEn r then (s, .state)
  else
    ((s.putRule r { x with
      words := Tab.set (fun _ => 0) x.words i (v &&& BitVec.ofNat 32 (ruleMask i)), perr := false
      bad := x.bad.filter (· != i) }).refreshWinnow, .done)

/-- RSTAT of the rule named by RSEL. -/
def State.rstatView (s : State) : Word :=
  let r := field (s.rg 0x1A 0x080) 6 0
  let x := s.rule r
  let held := s.ruleEn r && ((s.pwr.depth == .guard && !x.guard)
    || (List.range x.ncond).any (fun k => s.condQuarantined (x.cfg k)))
  pack [(0, 1, bit x.out), (1, 1, bit (x.shown 0)), (2, 1, bit (decide (x.ncond > 1) && x.shown 1)),
    (3, 1, bit (decide (x.ncond > 2) && x.shown 2)), (4, 1, bit (decide (x.ncond > 3) && x.shown 3)),
    (5, 1, bit held), (6, 1, bit x.perr), (8, 8, x.suppr.toNat), (16, 16, x.fires.toNat)]

/-- OUTk as it reads. -/
def State.outView (s : State) (k : Nat) : Word :=
  pack ((List.range 32).map (fun i => (i, 1, bit (s.rule (32 * k + i)).out)))

/-- Whether the 20 words of a record hold no reserved encoding and zeros where the window is read-only (R220). -/
def recordLegal (l : List Word) : Bool :=
  let w (i : Nat) : Word := l.getD i 0
  let lims (i off : Nat) : Bool :=
    match regsWinnow.find? (·.covers off) with
    | some d => d.lim.all (fun (hi, lo, mn, mx) => decide (mn ≤ field (w i) hi lo) && decide (field (w i) hi lo ≤ mx))
    | none => true
  w 2 == 0 && w 3 == 0 && lims 0 0x100 && lims 1 0x104
  && (List.range 4).all (fun k => lims (4 + 4 * k) (0x110 + 16 * k) && lims (7 + 4 * k) (0x11C + 16 * k))

/-- A rule made of a record's words. -/
def ruleOf (l : List Word) : Rule :=
  { words := (List.range 20).foldl
      (fun acc i => Tab.set (fun _ => 0) acc i (l.getD i 0 &&& BitVec.ofNat 32 (ruleMask i))) [] }

/-- The n-th group of k elements. -/
def chunk (l : List Word) (k n : Nat) : List Word := (l.drop (k * n)).take k

/-- Whether LOAD's arguments are in range (R220). -/
def State.winLoadArgs (s : State) (k : Slot) : Bool :=
  let first := field (k.arg 2) 6 0
  let count := field (k.arg 2) 15 8
  decide (1 ≤ count) && decide (count ≤ 128) && decide (first + count ≤ 128)
  && s.sourceOk (flag (k.arg 0) 0) (k.arg 1).toNat (20 * count)

/-- LOAD (R214, R217, R220). -/
def winLoadEffect (k : Slot) (s : State) : State × Option Code :=
  let flash := flag (k.arg 0) 0
  let first := field (k.arg 2) 6 0
  let count := field (k.arg 2) 15 8
  let enable := flag (k.arg 3) 0
  if flash && s.pwr.depth != .awake then (s, some .state)
  else if flash && s.flashBusy (k.arg 1).toNat (80 * count) then (s, none)
  else
    match s.sourceWords flash true (k.arg 1).toNat (20 * count) with
    | (s1, _, false) => (s1, some .integrity)
    | (s1, l, true) =>
      let recs := (List.range count).map (chunk l 20)
      let rules := recs.map ruleOf
      let kept := (s1.enabledRules.filter (fun r => r < first || first + count ≤ r)).map s1.rule
      if recs.any (fun x => !recordLegal x) || (enable && rules.any (fun x => !s1.ruleLegal x)) then (s1, some .arg)
      else if enable && !s1.fits (kept ++ rules) then (s1.demand (kept ++ rules), some .busy)
      else
        let s2 := rules.zipIdx.foldl
          (fun acc (x, i) =>
            let r := first + i
            let a := acc.putRule r x
            (a.updRg 0x1A (0x060 + 4 * (r / 32)) (fun w => setFlag w (r % 32) enable)).restartRule r) s1
        (s2.refreshWinnow, some .done)

/-- CTL.SRST, or a reset that reaches SENSE: the rule store, EN, OUT and every counter cleared (R219). -/
def State.winClear (s : State) : State := { s with win := {} }

/-! ### Rows -/

/-- WINNOW_INPUT (R207). -/
def execWinnowInput (s : State) : Host.Outcome State Fault Refusal := .next (if s.winRuns then s.takeInput else s)

/-- WINNOW_TICK (R196). -/
def execWinnowTick (s : State) : Host.Outcome State Fault Refusal := .next (if s.dead then s else s.winTick)

/-- WINNOW_LOAD (R220). -/
def execWinnowLoad (tag : Fin 128) (s : State) : Host.Outcome State Fault Refusal :=
  .next (s.runOp tag.val 0x1A 1 s.winLoadArgs winLoadEffect)

/-- WINNOW_EN_WRITE (R214, R217). -/
def execWinnowEnWrite (m : Master) (k : Fin 4) (v : Word) (s : State) : Host.Outcome State Fault Refusal :=
  .next (s.write m 0x1A (0x060 + 4 * k.val) v (winEnEffect k.val v))

end Sys2Proof.Machine
end

