-- ==== Sys2Proof/Machine/Ports.lean ====
section
/-!
DEFINITION. Sensor ports and converters (chapter 05): port configuration, the crossbar, triggered conversions,
LOOP, PULSE, DIN and DOUT ports, excitation and references, quarantine and self-tests.
-/
namespace Sys2Proof.Machine

/-! ### Outputs -/

/-- Whether the supply of a port's bank is present. -/
def State.bankUp (s : State) (p : Nat) : Bool := if p < 32 then s.pwr.vioA else s.pwr.vioB

/-- What a port drives: AUX.LEVEL in DOUT, low only when open-drain; the level held across a reset; nothing, held or
not, in quarantine or without its bank's supply (R89, R115, R120, R545). -/
def State.drivePort (s : State) (p : Nat) : State :=
  let x := s.port p
  let level := flag x.aux 0
  let d : Option Bool :=
    if !s.bankUp p || x.quarantined then none
    else
      match x.held with
      | some b => some b
      | none => if x.mode == 6 && !(flag x.aux 1 && level) then some level else none
  s.putPort p { x with drive := d }

/-! ### Triggered conversions -/

/-- The result a converter gives the thread that asked (R139, R143). -/
def State.convAnswer (s : State) (by_ : ConvBy) (port : Nat) (c : Code) (value : BitVec 24) (stamp : Stamp) : State :=
  match by_ with
  | .thread t =>
    s.giveRes t.toNat
      { code := c, value := BitVec.ofNat 32 (unsignedOf 32 (signedOf 24 value.toNat)), latch := some (port, stamp) }
  | _ => s

/-- A switch mark waits for the converter's next input (R105). -/
def State.markConv (s : State) (cv : Nat) : State := s.updConv cv (fun c => { c with mark := true })

/-- XBAR is set to a port with EN at 1; a change is a switch (R105). -/
def State.switchTo (s : State) (cv port : Nat) : State :=
  let w := pack [(0, 6, port), (7, 1, 1)]
  if s.xbar cv = w then s
  else ((s.setRg 0x18 (convOff cv) w).markConv cv).refreshWinnow

/-- The code a CONV on a converter completes with before it starts, if it does not (R103, R104, R139). -/
def State.convRefused (s : State) (cv port : Nat) (sw : Bool) : Option Code :=
  let p := if sw then port else s.xbarPort cv
  if !s.ready 0x18 || s.unavailable .sense then some .notReady
  else if s.trig cv != 1 || s.calibrating cv then some .state
  else if !s.convertible p || (!sw && !s.xbarEn cv) then some .state
  else if cv < 16 && ((s.lane cv).cfg.isNone || s.laneHeld cv) then some .state
  else none

/-- A lane in SCS mode begins a conversion with its CIC cleared (R167). -/
def State.scsBegin (s : State) (cv : Nat) : State :=
  s.updLane cv (fun l =>
    { l with inputs := [], arith := { l.arith with integ := [], comb := [], phase0 := 0, phase1 := 0, phase2 := 0 } })

/-- A triggered conversion begins on a port: a lane that is not in SCS mode takes a mark, one in SCS mode starts from
a cleared CIC (R107, R165, R167). -/
def State.convBegin (s : State) (cv : Nat) (by_ : ConvBy) (port : Nat) : State :=
  let s1 := s.updConv cv (fun c => { c with run := some (by_, port) })
  if cv < 16 then
    match (s1.lane cv).cfg with
    | some c => if c.scs then s1.scsBegin cv else s1.markConv cv
    | none => s1
  else s1

/-- A CONV request carried out: it starts, or its code goes back to its thread (R139). -/
def State.convStart (s : State) (cv : Nat) (w : ConvWait) : State :=
  let p := if w.sw then w.port else s.xbarPort cv
  let by_ : ConvBy := match w.thread with | some t => .thread t | none => .task
  match s.convRefused cv w.port w.sw with
  | some c => s.convAnswer by_ p c 0 s.now
  | none => ((if w.sw then s.switchTo cv w.port else s).convBegin cv by_ p)

/-- The converter takes up the requests that wait for it, until one has started. -/
def State.convNext (s : State) (cv : Nat) : Nat → State
  | 0 => s
  | n + 1 =>
    match (s.conv cv).run, (s.conv cv).waits with
    | none, w :: rest => ((s.updConv cv (fun c => { c with waits := rest })).convStart cv w).convNext cv n
    | _, _ => s

/-- A CONV request reaches SENSE (R139). -/
def State.convRequest (s : State) (cv : Nat) (w : ConvWait) : State :=
  let s1 := s.updConv cv (fun c => { c with waits := c.waits ++ [w] })
  s1.convNext cv ((s1.conv cv).waits.length)

/-! ### Port configuration -/

/-- A port enters a mode (R102, R114): references start afresh. -/
def Port.enter (x : Port) (now : Stamp) (pcfg aux : Word) : Port :=
  let m := field pcfg 3 0
  let y : Port := { x with
    pcfg := pcfg, aux := aux, low := 0, high := 0, inside := 0, loopOpen := false, loopShort := false
    settling := false, periodFrom := none, widthFrom := none, waits := [] }
  if m == 4 then { y with val := 0, ovr := false, period := {}, width := {} }
  else if m == 5 then
    if field aux 3 0 = 0 && x.level then { y with val := 1, ovr := false, stamp := now, edge := now, since := now }
    else { y with val := 0, ovr := false, stamp := now, edge := now, since := now, settling := x.level }
  else if m == 6 then { y with stamp := now }
  else y

/-- PCFG and AUX as written take effect at a port: the crossbar connections to a port that leaves AIN, DIFF and LOOP
are dropped; conditions on a port that enters a mode restart; marks go to converters that begin to deliver (R102,
R103, R165, R215). A new EDGE, CAP or PRESCALE abandons the measurements in progress (R113; DESIGN CHOICE, log entry
503). -/
def State.applyPort (s : State) (p : Nat) : State :=
  let x := s.port p
  let pcfg := s.pcfgReg p
  let aux := s.auxReg p
  let new := field pcfg 3 0
  if new = x.mode then
    let moved := new == 6 && flag aux 0 != flag x.aux 0
    let retime := new == 5 && x.settling && field aux 3 0 == 0
    let recap := new == 4 && field aux 6 0 != field x.aux 6 0
    let y : Port := { x with
      pcfg := pcfg, aux := aux, waits := [], stamp := if moved then s.now else x.stamp
      periodFrom := if recap then none else x.periodFrom, widthFrom := if recap then none else x.widthFrom }
    let z : Port := if retime then { y with val := BitVec.ofNat 24 (bit x.level), stamp := x.edge, settling := false } else y
    ((s.putPort p z).drivePort p).portLines p
  else
    let was := (List.range 20).filter s.connected
    let s1 := s.putPort p (x.enter s.now pcfg aux)
    let s2 :=
      if analogMode x.mode && !analogMode new then
        (List.range 20).foldl
          (fun acc cv =>
            if acc.xbarEn cv && acc.xbarPort cv == p then
              acc.updRg 0x18 (convOff cv) (fun w => setFlag w 7 false)
            else acc) s1
      else s1
    let s3 := (List.range 20).foldl
      (fun acc cv => if acc.connected cv && !was.contains cv then acc.markConv cv else acc) s2
    ((((s3.restartPort p).refreshWinnow).drivePort p).portLines p).dropOver

/-- PCFG and AUX take effect unless a conversion of the port is in progress, or it is quarantined (R102, R120); the
samples that continuously running SARs have in progress are noted. -/
def State.syncPort (s : State) (p : Nat) : State :=
  if (s.port p).quarantined then s
  else if s.convertingPort p then s.updPort p (fun x => { x with waits := s.sarsOn p })
  else s.applyPort p

/-- Whether a port holds a PCFG or AUX that has not taken effect yet. -/
def State.portWritten (s : State) (p : Nat) : Bool := s.pcfgReg p != (s.port p).pcfg || s.auxReg p != (s.port p).aux

/-- A conversion of a port has ended: what was written to the port meanwhile takes effect, once no triggered conversion
of it is left, nor a sample that was in progress at the write (R102). -/
def State.syncWritten (s : State) (p : Nat) : State :=
  if s.portWritten p && !(s.port p).quarantined && !s.triggeredOn p
      && !(s.port p).waits.any (fun cv => (s.sarsOn p).contains cv) then s.applyPort p
  else s

/-- A continuously running SAR has delivered the sample it had in progress: no write to the port waits for it. -/
def State.sampleOver (s : State) (cv p : Nat) : State :=
  let drop (x : Port) : Port := { x with waits := x.waits.filter (· != cv) }
  (s.updPort p drop).updPort (partner p) drop

/-- The same for both ports of a pair. -/
def State.syncPair (s : State) (p : Nat) : State := (s.syncWritten p).syncWritten (partner p)

/-- The same for every port, as converters stop. -/
def State.syncAll (s : State) : State := ((List.range 64).foldl State.syncWritten s).dropOver

/-- A converter's triggered conversion is over: a connection made meanwhile takes effect as a switch, what was
written to the port takes effect, and the next request is taken up (R102, R105, R139). -/
def State.convOverNow (s : State) (cv : Nat) : State :=
  match (s.conv cv).run with
  | none => s
  | some (_, p) =>
    let s1 := s.updConv cv (fun c => { c with run := none })
    let s2 := if cv < 16 then s1.updLane cv (fun l => { l with inputs := [] }) else s1
    let s3 := if s2.xbarEn cv && s2.xbarPort cv != p then s2.markConv cv else s2
    let s4 := s3.syncPair p
    (s4.convNext cv ((s4.conv cv).waits.length)).dropOver

/-- A triggered conversion ends without a sample (R120, R173). -/
def State.convAbandon (s : State) (cv : Nat) (c : Code) : State :=
  match (s.conv cv).run with
  | none => s
  | some (by_, p) => (s.convAnswer by_ p c 0 s.now).convOverNow cv

/-- Whether AUX is in range for a mode (R101, R123). -/
def auxLegal (mode : Nat) (aux : Word) : Bool :=
  match mode with
  | 3 => decide (1000 ≤ field aux 13 0) && decide (field aux 13 0 ≤ 10500)
  | 4 => field aux 1 0 != 3
  | 5 => decide (field aux 3 0 ≤ 12)
  | 7 => (match field aux 7 6 with
      | 0 => decide (field aux 3 0 ≤ 1)
      | 1 => decide (field aux 3 0 ≤ 6)
      | 2 => decide (field aux 3 0 ≤ 2)
      | _ => false)
  | _ => true

/-- Whether another port carries the signal AUX names (R116). -/
def State.signalTaken (s : State) (p : Nat) (aux : Word) : Bool :=
  (List.range 64).any (fun q => q != p && s.modeReg q == 7 && field (s.auxReg q) 7 0 == field aux 7 0)

/-- The hold on a DOUT level ends at the first write of the port (R89, R100). -/
def State.releaseHold (s : State) (p : Nat) : State := (s.updPort p (fun x => { x with held := none })).drivePort p

/-- The bits of AUX that are kept in a mode: those that are not Reserved (R4, R123). In OFF, AIN and DIFF, where every
bit is Reserved and reads 0, what is written is stored for the mode to come (R101; log entry 501). -/
def auxMask (mode : Nat) : Word :=
  match mode with
  | 4 => 0x0F77
  | 5 => 0xF
  | 6 => 0xF
  | 7 => 0xFF
  | _ => 0x3FFF

/-- The CONV EVRAW COMPL line of an excitation source (R110). -/
def State.setCompl (s : State) (n : Nat) (b : Bool) : State :=
  (s.updRg 0x18 (0x180 + 4 * n) (fun w => setFlag w 4 b)).evLevel 0x18 (20 + n) b

/-- A write of PCFG that has reached the register (R100 to R103, R110, R116). -/
def pcfgEffect (p : Nat) (v : Word) (s : State) : State × Code :=
  let mode := field v 3 0
  let exc := field v 8 6
  if !auxLegal mode (s.auxReg p) then (s, .arg)
  else if exc != 0 && !(mode == 1 || (mode == 2 && p % 2 == 0)) then (s, .state)
  else if exc != 0 && (List.range 64).any (fun q => q != p && field (s.pcfgReg q) 8 6 == exc) then (s, .state)
  else if mode == 7 && s.signalTaken p (s.auxReg p) then (s, .state)
  else
    let s1 := (s.setRg (portPage p) (portOff p 0) (v &&& 0x3FF)).updRg (portPage p) (portOff p 4) (· &&& auxMask mode)
    ((s1.releaseHold p).syncPort p, .done)

/-- A write of AUX that has reached the register (R101, R102, R115, R116). -/
def auxEffect (p : Nat) (v : Word) (s : State) : State × Code :=
  let mode := s.modeReg p
  if !auxLegal mode v then (s, .arg)
  else if mode == 7 && s.signalTaken p v then (s, .state)
  else (((s.setRg (portPage p) (portOff p 4) (v &&& auxMask mode)).releaseHold p).syncPort p, .done)

/-- A write of XBAR that has reached the register (R104, R105): a continuously running SAR ends its sample on the port
it is on. -/
def xbarEffect (cv : Nat) (v : Word) (s : State) : State × Code :=
  let port := field v 5 0
  if flag v 7 && (!analogMode (s.modeReg port) || (s.modeReg port == 2 && port % 2 == 1)) then (s, .state)
  else
    let new := v &&& 0xBF
    let late := if 16 ≤ cv && new != s.xbar cv && s.trig cv == 0 then s.portOn cv else (s.conv cv).late
    let s1 := (s.setRg 0x18 (convOff cv) new).updConv cv (fun c => { c with late := late })
    let s2 := if new != s.xbar cv && flag new 7 && (s.conv cv).run.isNone then s1.markConv cv else s1
    (s2.dropOver.refreshWinnow, .done)

/-- A write of SDn_CFG or SARn_CFG that has reached the register: a SAR's DIV may not raise the rate its lane was
admitted at (R170). -/
def convCfgEffect (cv : Nat) (v : Word) (s : State) : State × Code :=
  let refused : Bool :=
    match (s.lane cv).cfg with
    | some c => decide (16 ≤ cv) && decide (field v 15 0 < c.div)
    | none => false
  if refused then (s, .state)
  else
    let was := s.trig cv
    let s1 := s.setRg 0x18 (convOff cv + 4) (v &&& (if cv < 16 then 0xFF else 0x3FFFF))
    (if was != s1.trig cv then ((s1.updConv cv (fun c => { c with late := none })).markConv cv).syncAll else s1, .done)

/-! ### Samples of a port -/

/-- LOOP detection on one sample (R112): `i` is the current × 2^23 × gain × shunt in the unit in which `m` is one milliampere. -/
def Port.loopSample (x : Port) (i m : Int) : Port :=
  let y : Port :=
    if i < m then { x with low := x.low + 1, high := 0, inside := 0 }
    else if i > 23 * m then { x with low := 0, high := x.high + 1, inside := 0 }
    else { x with low := 0, high := 0, inside := x.inside + 1 }
  { y with
    loopOpen := if y.low ≥ 8 then true else if y.inside ≥ 8 then false else y.loopOpen
    loopShort := if y.high ≥ 8 then true else if y.inside ≥ 8 then false else y.loopShort }

/-- The gain of a converter (R108). -/
def State.gainOf (s : State) (cv : Nat) : Nat := if cv < 16 then 2 ^ field (s.convCfg cv) 2 0 else 1

/-- A converter's reference in 10 µV: 2.5 V, or what the board puts on VREF_IN, somewhere in the range of R557 (R111). -/
def State.refOf (s : State) (cv : Nat) : Nat :=
  if cv < 16 && flag (s.convCfg cv) 4 then 240000 + Config.vrefIn.toNat % 20001 else 250000

/-- A sample is delivered to its port: VAL, STAMP, OVR, LOOP detection, and Winnow (R108, R109, R112, R157). -/
def State.deliverPort (s : State) (p cv : Nat) (value : BitVec 24) (stamp : Stamp) (ovr : Bool) : State :=
  if s.convertible p then
    let s1 := s.updPort p (fun x =>
      let y : Port := { x with val := value, stamp := stamp, ovr := ovr }
      if x.mode == 3 then
        y.loopSample (signedOf 24 value.toNat * s.refOf cv) (2 ^ 23 * s.gainOf cv * field x.aux 13 0 : Nat)
      else y)
    (s1.portLines p).winInput p (signedOf 24 value.toNat) stamp false
  else s

/-! ### PULSE, DIN and DOUT -/

/-- The sense clock's frequency. -/
def State.senseHz (s : State) : Nat := if s.pwr.depth == .guard then 8000000 else 49152000

/-- n sense-clock periods as a TIME length. -/
def State.senseTime (s : State) (n : Nat) : Nat := n * 2 ^ 32 / s.senseHz

/-- Ticks of 4^PRESCALE sense clocks in a TIME length (R113). -/
def State.captureTicks (s : State) (aux : Word) (d : Nat) : Nat :=
  d * s.senseHz / (4 ^ field aux 6 4 * 2 ^ 32)

/-- A measurement that ends at an edge, or that no edge ended in time (R113). -/
def captureOf (ticks : Nat) : Capture :=
  if ticks < 2 ^ 24 then { ticks := ticks, valid := true } else { ticks := 0xFFFFFF, ovf := true }

/-- An edge at a PULSE port: the count and its stamp, PERIOD and WIDTH (R113, R180). -/
def State.pulseEdge (s : State) (p : Nat) (rising : Bool) : State :=
  let x := s.port p
  if x.mode == 4 && !x.quarantined then
    let kind := field x.aux 1 0
    let start := rising == (kind != 1)
    let stamp := s.now - BitVec.ofNat 64 (s.senseTime (field x.aux 11 8))
    let active := kind == 2 || start
    let y : Port := { x with level := rising }
    let y1 : Port := if active then { y with val := y.val + 1, stamp := stamp } else y
    let since (t : Stamp) : Nat := s.captureTicks x.aux (s.now - t).toNat
    let y2 : Port :=
      if !flag x.aux 2 then y1
      else if start then
        { y1 with
          period := match x.periodFrom with | some t => captureOf (since t) | none => y1.period
          periodFrom := some s.now, widthFrom := some s.now }
      else
        { y1 with
          width := match x.widthFrom with | some t => captureOf (since t) | none => y1.width
          widthFrom := none }
    s.putPort p y2
  else s

/-- A measurement that spans a change of sense clock is discarded (R113). -/
def State.dropCaptures (s : State) : State :=
  (List.range 64).foldl
    (fun acc p =>
      let x := acc.port p
      if x.mode == 4 && flag x.aux 2 then
        acc.putPort p { x with
          period := if x.periodFrom.isSome then { x.period with valid := false } else x.period
          width := if x.widthFrom.isSome then { x.width with valid := false } else x.width
          periodFrom := none, widthFrom := none }
      else acc) s

/-- The debounce time as a TIME length (R114). -/
def debounceTime (deb : Nat) : Nat := if deb = 0 then 0 else usTime (125 * 2 ^ (deb - 1))

/-- The level at a port's ball changes: a DIN port debounces it (R114, R180). -/
def State.dinChange (s : State) (p : Nat) (level : Bool) : State :=
  let x := s.port p
  if level = x.level then s
  else
    let y : Port := { x with level := level }
    if x.mode == 5 && !x.quarantined then
      let z : Port :=
        if field x.aux 3 0 = 0 then
          { y with val := BitVec.ofNat 24 (bit level), stamp := s.now, edge := s.now, since := s.now, settling := false }
        else { y with edge := s.now, since := s.now, settling := true }
      (s.putPort p z).portLines p
    else s.putPort p y

/-- A DIN port's input has held its level for the debounce time (R114, R180). -/
def State.debounced (s : State) (p : Nat) : State :=
  let x := s.port p
  if x.mode == 5 && !x.quarantined && x.settling then
    let s1 := s.reach (x.since + BitVec.ofNat 64 (debounceTime (field x.aux 3 0)))
    let new : BitVec 24 := BitVec.ofNat 24 (bit x.level)
    (s1.putPort p { x with
      settling := false, val := new, stamp := if new = x.val then x.stamp else x.edge }).portLines p
  else s

/-- The level of a DOUT port set by the Gleaner (R115, R140). -/
def State.outPort (s : State) (p : Nat) (level : Bool) : State :=
  let s1 := s.updRg (portPage p) (portOff p 4) (fun w => setFlag w 0 level)
  ((s1.updPort p (fun x => { x with aux := setFlag x.aux 0 level, stamp := s1.now, held := none })).drivePort p).portLines p

/-! ### Quarantine (R120, R121) -/

/-- Whether a signal of a sensor-bus unit is on a port: the unit's number, 0 to 3 TWC, 4 to 7 SPC, 8 to 11 UART. -/
def Port.unitOf (x : Port) : Option Nat :=
  if x.mode == 7 then some (4 * field x.aux 7 6 + field x.aux 5 4) else none

/-- The transfer in progress at a unit, if any. -/
def State.unit (s : State) (u : Nat) : BusUnit := Tab.get (fun _ => {}) s.sense.units u

/-- A unit given a state; its SENSBUS line is high while it is busy, or a target (R125, R502). -/
def State.putUnit (s : State) (u : Nat) (x : BusUnit) : State :=
  let s1 := { s with sense := { s.sense with units := Tab.set (fun _ => {}) s.sense.units u x } }
  s1.evLevel 0x32 u (!x.queue.isEmpty || x.target)

/-- The first transfer of a unit ends with a code; `reply` are the bytes a Gleaner request takes rd from (R117,
R142). -/
def State.endXfer (s : State) (u : Nat) (c : Code) (reply : List Byte) : State :=
  let x := s.unit u
  match x.queue with
  | [] => s
  | f :: rest =>
    let s1 := s.putUnit u { x with queue := rest, losses := 0 }
    match f.user with
    | .slot tag => if s1.running tag.toNat 0x32 f.op then s1.setResult tag.toNat c else s1
    | .nobody => s1
    | .thread t =>
      match (s1.thread t.toNat).block with
      | .bus _ _ skip =>
        s1.giveRes t.toNat
          { code := c, value := BitVec.ofNat 32 (natBE ((List.range 4).map (fun i => reply.getD (skip + i) 0))) }
      | _ => s1

/-- A port is disconnected: what a port in each mode loses (R120). -/
def State.disconnect (s : State) (p : Nat) : State :=
  let x := s.port p
  let s1 := (List.range 20).foldl
    (fun acc cv =>
      match (acc.conv cv).run with
      | some (_, q) =>
        if q == p || (x.mode == 2 && !s.pairWait p && q == partner p) then acc.convAbandon cv .state else acc
      | none => if acc.portOn cv == some p then acc.updConv cv (fun c => { c with late := none }) else acc) s
  let s2 := match x.unitOf with | some u => s1.endXfer u .medium [] | none => s1
  ((s2.drivePort p).portLines p).dropOver.refreshWinnow

/-- The wait for SETTLE. -/
def State.settleTime (s : State) : Nat := msTime (10 * field (s.rg 0x18 0x194) 31 24)

/-- A port enters QUARANTINE with a QREASON; both ports of a DIFF pair enter together, the other one to wait for SETTLE
(R120); each entry is counted (R537). -/
def State.quarantine (s : State) (p : Nat) (reason : BitVec 4) (microamps : Nat) (stage : QStage) : State :=
  let one (t : State) (q : Nat) (st : QStage) : State :=
    ((t.updRg 0x3C 0x078 (fun w => satField w 15 0 1)).updPort q (fun x => { x with
      stage := st, reason := reason, cause := reason, tries := 0, peak := BitVec.ofNat 8 (min 255 (microamps / 1000))
      settling := false, periodFrom := none, widthFrom := none })).disconnect q
  let x := s.port p
  let s1 := one s p stage
  let s2 := s1.faultRec 0x01 (portPage p) p
  if x.mode == 2 && !s.pairWait p && !(s.port (partner p)).quarantined then
    one s2 (partner p) (.settling (s.after s.settleTime)) else s2

/-- The thresholds of QCFG and QRETRY. -/
def State.tripHi (s : State) : Nat := 1000 * field (s.rg 0x18 0x194) 7 0
def State.tripLo (s : State) : Nat := 500 * field (s.rg 0x18 0x194) 15 8

/-- The PORT_TEST operation that tests a port ends, if one does. -/
def State.endPortTest (s : State) (p : Nat) (c : Code) : State :=
  (List.range 128).foldl
    (fun acc tag =>
      if acc.running tag 0x18 2 && field ((acc.slot tag).arg 0) 5 0 == p then acc.setResult tag c else acc) s

/-- The clamp current of a port as its meter finds it, held there for the trip's time: QUARANTINE, or the wait for
SETTLE again (R120, R121; DESIGN CHOICE, log entry 516). -/
def State.clampTrip (s : State) (p : Nat) (hi : Bool) (microamps : Nat) : State :=
  let s1 := (s.updPort p (fun x => { x with clamp := microamps })).portLines p
  let x := s1.port p
  let trips := if hi then decide (microamps > s.tripHi) else decide (microamps > s.tripLo)
  let settle : QStage := .settling (s1.after s1.settleTime)
  if !trips then s1
  else
    match x.stage with
    | .service =>
      if flag x.pcfg 9 then s1.quarantine p (if hi then 1 else 2) microamps settle else s1
    | .opTest _ =>
      let s2 := s1.updPort p (fun y => { y with stage := settle, reason := y.cause })
      let s3 := if x.quarantined then s2
        else if flag x.pcfg 9 then s1.quarantine p (if hi then 1 else 2) microamps settle
        else s1.updPort p (fun y => { y with stage := .service })
      (s3.endPortTest p .medium).portLines p
    | .stuck => s1
    | _ => (s1.updPort p (fun y => { y with stage := settle })).portLines p

/-- A DIN port that returns follows its input from now on, as if the input had changed to its level now (R114; DEDUCED,
log entry 504). -/
def Port.debounceAnew (x : Port) (now : Stamp) : Port :=
  if x.mode == 5 && x.level != x.val.getLsbD 0 then
    if field x.aux 3 0 = 0 then
      { x with val := BitVec.ofNat 24 (bit x.level), stamp := now, edge := now, since := now, settling := false }
    else { x with edge := now, since := now, settling := true }
  else x

/-- A port returns to service in the configuration written (R121): marks for its converters, its conditions restart
(R165, R215). -/
def State.returnPort (s : State) (p : Nat) : State :=
  let s0 := if (s.port p).quarantined then s.updRg 0x3C 0x078 (fun w => satField w 31 16 1) else s
  let s1 := s0.updPort p (fun x => { x with stage := .service, reason := x.cause })
  let s2 := (s1.applyPort p).updPort p (fun x => x.debounceAnew s1.now)
  let s3 := (List.range 20).foldl
    (fun acc cv => if acc.xbarEn cv && acc.xbarPort cv == p then acc.markConv cv else acc) s2
  let s4 := (((s3.restartPort p).drivePort p).portLines p).refreshWinnow
  s4

/-- A failed self-test: QREASON, and the next try after INTERVAL while tries remain (R121). -/
def State.failTest (s : State) (p : Nat) (reason : BitVec 4) : State :=
  let q := s.rg 0x18 0x198
  let s1 := s.updPort p (fun x =>
    { x with
      reason := reason
      stage := if x.tries ≤ field q 3 0 then .waiting (s.after (secTime (field q 15 8))) else .stuck })
  (s1.faultRec 0x02 (portPage p) p).portLines p

/-- Whether a QREASON can end a self-test: 0 a pass, otherwise one of the failures (R121). -/
def testReason (r : BitVec 4) : Bool := r == 0 || r == 3 || r == 4 || r == 5 || r == 6 || r == 8

/-- A PORT_TEST operation reaches its port (R121, R122). -/
def State.portTestBegin (s : State) (tag : Nat) : State :=
  let a := (s.slot tag).arg 0
  let p := field a 5 0
  let x := s.port p
  if !s.ready 0x18 then s.setResult tag .notReady
  else if x.quarantined then (s.updPort p (fun y => { y with stage := .opTest true })).portLines p
  else if flag a 8 then s.quarantine p 7 x.clamp (.opTest true)
  else if x.mode == 0 then (s.updPort p (fun y => { y with stage := .opTest false })).portLines p
  else s.setResult tag .state

/-- The test of a PORT_TEST operation ends (R121, R122). -/
def State.portTestEnd (s : State) (tag : Nat) (reason : BitVec 4) : State :=
  let p := field ((s.slot tag).arg 0) 5 0
  match (s.port p).stage with
  | .opTest quar =>
    let s1 := s.updPort p (fun x => { x with tries := x.tries + 1 })
    if reason = 0 then (s1.returnPort p).setResult tag .done
    else if quar then (s1.failTest p reason).setResult tag .medium
    else
      (((s1.updPort p (fun x => { x with stage := .service, reason := reason })).faultRec 0x02 (portPage p)
        p).portLines p).setResult tag .medium
  | _ => s

/-- CAL (R122): each named converter is calibrated; the corrections it finds are free values (R160). -/
def calEffect (k : Slot) (s : State) : State × Option Code :=
  let cvs := (List.range 20).filter (fun cv => flag (k.arg 0) cv)
  if cvs.any s.xbarEn then (s, some .state)
  else
    (cvs.foldl
      (fun acc cv =>
        let (_, s1) := acc.draw
        let (_, s2) := s1.draw
        (s2.updConv cv (fun c => { c with cal := acc.fresh + 1 })).markConv cv) s, some .done)

/-! ### Rows -/

/-- PCFG_WRITE (R100 to R103). -/
def execPcfgWrite (m : Master) (p : Fin 64) (v : Word) (s : State) : Host.Outcome State Fault Refusal :=
  .next (s.write m (portPage p.val) (portOff p.val 0) v (pcfgEffect p.val v))

/-- AUX_WRITE (R101, R102, R115). -/
def execAuxWrite (m : Master) (p : Fin 64) (v : Word) (s : State) : Host.Outcome State Fault Refusal :=
  .next (s.write m (portPage p.val) (portOff p.val 4) v (auxEffect p.val v))

/-- XBAR_WRITE (R104, R105). -/
def execXbarWrite (m : Master) (cv : Fin 20) (v : Word) (s : State) : Host.Outcome State Fault Refusal :=
  .next (s.write m 0x18 (convOff cv.val) v (xbarEffect cv.val v))

/-- PULSE_EDGE (R113). -/
def execPulseEdge (p : Fin 64) (rising : Bool) (s : State) : Host.Outcome State Fault Refusal :=
  .next (if s.unavailable .sense then s else s.pulseEdge p.val rising)

/-- PULSE_CAPTURE_TIMEOUT (R113). -/
def execPulseCaptureTimeout (p : Fin 64) (width : Bool) (s : State) : Host.Outcome State Fault Refusal :=
  let x := s.port p.val
  let due (t : Stamp) : Stamp :=
    t + BitVec.ofNat 64 ((2 ^ 24 * 4 ^ field x.aux 6 4 * 2 ^ 32 + s.senseHz - 1) / s.senseHz)
  .next
    (if x.mode == 4 && !x.quarantined && flag x.aux 2 then
       match width, x.widthFrom, x.periodFrom with
       | true, some t, _ => (s.reach (due t)).putPort p.val { x with width := captureOf (2 ^ 24), widthFrom := none }
       | false, _, some t => (s.reach (due t)).putPort p.val { x with period := captureOf (2 ^ 24), periodFrom := none }
       | _, _, _ => s
     else s)

/-- DIN_CHANGE (R114). -/
def execDinChange (p : Fin 64) (level : Bool) (s : State) : Host.Outcome State Fault Refusal :=
  .next (s.dinChange p.val level)

/-- DEBOUNCE_EXPIRY (R114). -/
def execDebounceExpiry (p : Fin 64) (s : State) : Host.Outcome State Fault Refusal := .next (s.debounced p.val)

/-- EXC_COMPLIANCE (R110). -/
def execExcCompliance (n : Fin 4) (ovr : Bool) (s : State) : Host.Outcome State Fault Refusal :=
  .next
    (if s.ready 0x18 && (!ovr || field (s.rg 0x18 (0x180 + 4 * n.val)) 2 0 != 0) then s.setCompl n.val ovr else s)

/-- REF_OVERLOAD (R111). -/
def execRefOverload (n : Fin 2) (ovr : Bool) (s : State) : Host.Outcome State Fault Refusal :=
  .next
    (if s.ready 0x18 && (!ovr || flag (s.rg 0x18 0x190) n.val) then
       (s.updRg 0x18 0x190 (fun w => setFlag w (2 + n.val) ovr)).evLevel 0x18 (24 + n.val) ovr
     else s)

/-- CLAMP_TRIP (R120). -/
def execClampTrip (p : Fin 64) (hi : Bool) (microamps : Nat) (s : State) : Host.Outcome State Fault Refusal :=
  .next (if s.unavailable .sense then s else s.clampTrip p.val hi microamps)

/-- SETTLE_EXPIRY (R121): the clamp current has stayed below TRIP_LO for SETTLE, and the port is tested. A current
not read below TRIP_LO before is a free value below it. -/
def execSettleExpiry (p : Fin 64) (s : State) : Host.Outcome State Fault Refusal :=
  .next
    (match (s.port p.val).stage with
     | .settling due =>
       let s1 := s.reach due
       let (w, s2) := if (s1.port p.val).clamp > s1.tripLo then s1.draw else (BitVec.ofNat 32 (s1.port p.val).clamp, s1)
       (s2.updPort p.val (fun x =>
         { x with clamp := w.toNat % (s1.tripLo + 1), stage := .testing (s2.after (msTime 2)) })).portLines p.val
     | _ => s)

/-- SELF_TEST_END (R121). -/
def execSelfTestEnd (p : Fin 64) (reason : BitVec 4) (s : State) : Host.Outcome State Fault Refusal :=
  if !testReason reason then .fault .illFormed
  else
    .next
      (match (s.port p.val).stage with
       | .testing due =>
         let s1 := (s.reach due).updPort p.val (fun x => { x with tries := x.tries + 1 })
         if reason = 0 then s1.returnPort p.val else s1.failTest p.val reason
       | _ => s)

/-- RETRY_INTERVAL_EXPIRY (R121). -/
def execRetryIntervalExpiry (p : Fin 64) (s : State) : Host.Outcome State Fault Refusal :=
  .next
    (match (s.port p.val).stage with
     | .waiting due =>
       let s1 := s.reach due
       (s1.updPort p.val (fun x => { x with stage := .testing (s1.after (msTime 2)) })).portLines p.val
     | _ => s)

/-- CAL (R122). -/
def execCal (tag : Fin 128) (s : State) : Host.Outcome State Fault Refusal :=
  .next (s.runOp tag.val 0x18 1 (fun _ => true) calEffect)

/-- PORT_TEST (R121, R122). -/
def execPortTest (tag : Fin 128) (reason : BitVec 4) (s : State) : Host.Outcome State Fault Refusal :=
  if !testReason reason then .fault .illFormed
  else .next (if s.running tag.val 0x18 2 then s.portTestEnd tag.val reason else s)

end Sys2Proof.Machine
end

