-- ==== Sys2Proof/Machine/Thresher.lean ====
section
/-!
DEFINITION. The Thresher (chapter 07): the five stages of a lane, switch marks, outputs and where they go, FEED,
admission against the MAC budget, and the coefficient store.
-/
namespace Sys2Proof.Machine

/-! ### Stage arithmetic (R159 to R163) -/

/-- A stage's shift and saturation, and whether the saturation changed the value (R163). -/
def shiftSat (rnd : Bool) (shift : Nat) (v : Int) : Int × Bool :=
  let r : Int := if rnd && shift != 0 then ((2 ^ (shift - 1) : Nat) : Int) else 0
  let w := (v + r) / ((2 ^ shift : Nat) : Int)
  let c := clampSigned 24 w
  (c, c != w)

/-- A coefficient store word (R164). -/
def State.coefWord (s : State) (a : Nat) : BitVec 24 := Tab.get (fun _ => 0) s.thr.coef (a % 4096)

/-- A coefficient as the integer it is. -/
def State.coefInt (s : State) (a : Nat) : Int := signedOf 24 (s.coefWord a).toNat

/-- The integrators take an input: each adds the one before it, modulo 2^64 (R160). -/
def integrate (x : BitVec 64) : List (BitVec 64) → List (BitVec 64)
  | [] => []
  | r :: rest => (r + x) :: integrate (r + x) rest

/-- The comb sections differentiate a value: the result and the new delays (R160). -/
def differentiate (x : BitVec 64) : List (BitVec 64) → BitVec 64 × List (BitVec 64)
  | [] => (x, [])
  | d :: rest =>
    let (y, ds) := differentiate (x - d) rest
    (y, x :: ds)

/-- The registers of a CIC of an order, cleared where none are held. -/
def cicRegs (order : Nat) (l : List (BitVec 64)) : List (BitVec 64) :=
  (List.range order).map (fun i => l.getD i 0)

/-- The CIC takes an input: a comb output at every DEC-th one (R160). -/
def LaneArith.cic (a : LaneArith) (c : LaneCfg) (x : Int) : LaneArith × Option Int :=
  let integ := integrate (BitVec.ofInt 64 x) (cicRegs c.order a.integ)
  if a.phase0 + 1 < c.dec then ({ a with integ := integ, phase0 := a.phase0 + 1 }, none)
  else
    let (y, comb) := differentiate (integ.getLastD 0) (cicRegs c.order a.comb)
    if c.scs then ({ a with integ := [], comb := [], phase0 := 0 }, some y.toInt)
    else ({ a with integ := integ, comb := comb, phase0 := 0 }, some y.toInt)

/-- The comb output normalised to a DC gain of 1, as a numerator and a denominator; on lanes 0 to 15 in units of
2^-23 and with the converter's calibration (R160): gain 1 + g / 2^31 and offset o / 2^8, both free. -/
def State.normalised (s : State) (n : Nat) (c : LaneCfg) (y : Int) : Int × Int :=
  let den : Int := ((c.dec ^ c.order : Nat) : Int)
  if n < 16 then
    let num := y * 2 ^ 23
    match (s.conv n).cal with
    | 0 => (num, den)
    | k + 1 =>
      let g := (Config.freeWord k).toInt
      let o := (Config.freeWord (k + 1)).toInt
      (num * (2 ^ 31 + g) + o * den * 2 ^ 23, den * 2 ^ 31)
  else (y, den)

/-- An integer within 1 of a fraction: which one is free (R160). -/
def nearExact (num den : Int) (w : Word) : Int :=
  let f := num / den
  if num % den = 0 then f - 1 + ((w.toNat % 3 : Nat) : Int) else f + ((w.toNat % 2 : Nat) : Int)

/-- A FIR stage takes an input: its delay line and phase, and an output at every D-th input (R161). -/
def State.fir (s : State) (w : Word) (line : List Int) (phase : Nat) (x : Int) : List Int × Nat × Option Int :=
  let taps := firTaps w
  if taps = 0 then (line, 0, some x)
  else
    let l := (x :: line).take taps
    if phase + 1 < firD w then (l, phase + 1, none)
    else (l, 0, some (l.zipIdx.map (fun (v, k) => s.coefInt (field w 27 16 + k) * v)).sum)

/-- A biquad takes an input: its history, its output before the shift, and whether y saturated (R162). -/
def State.biquad (s : State) (base : Nat) (q : Biquad) (x : Int) : Biquad × Int × Bool :=
  let c := fun k => s.coefInt (base + k)
  let acc := (c 0 * x + c 1 * q.x1 + c 2 * q.x2) * 2 ^ 12 - c 3 * q.y1 - c 4 * q.y2
  let v := acc / 2 ^ 22
  let y := clampSigned 36 v
  ({ x1 := x, x2 := q.x1, y1 := y, y2 := q.y1 }, y, y != v)

/-- The STAT flags with bit k set where b. -/
def flagIf (f : BitVec 7) (k : Nat) (b : Bool) : BitVec 7 := if b then f ||| BitVec.ofNat 7 (2 ^ k) else f

/-- The number of outputs suppressed after a mark (R166, R167). -/
def LaneCfg.settleCount (c : LaneCfg) : Nat :=
  if c.scs then 0
  else
    let n' := if c.order = 0 then 1 else c.order
    let t (w : Word) : Nat := if firTaps w = 0 then 1 else firTaps w
    ((n' - 1) + (t c.fir1 - 1) + (t c.fir2 - 1) * c.d1) / (c.d1 * c.d2) + field c.lcfg 23 16

/-- What a lane does at a switch mark (R166). -/
def Lane.atMark (l : Lane) (c : LaneCfg) (clear : Bool) : Lane :=
  let a := l.arith
  { l with
    arith :=
      if clear then {}
      else { a with integ := [], comb := [], phase0 := 0, phase1 := 0, phase2 := 0 }
    suppress := c.settleCount, ovr := false, mark := false }

/-- One stage after the CIC: the lane, its value, and the biquads left out of it when they are bypassed. -/
def State.biquads (s : State) (c : LaneCfg) (l : Lane) (x : Int) : Lane × Int :=
  let base := field c.bq 27 16
  if c.nbq = 0 then (l, x)
  else
    let (q1, y1, i1) := s.biquad base l.arith.bq1 x
    let (v1, s1) := shiftSat c.rnd (12 + field c.bq 6 2) y1
    let l1 : Lane := { l with
      arith := { l.arith with bq1 := q1 }, flags := flagIf (flagIf l.flags 3 s1) 5 i1 }
    if c.nbq = 1 then (l1, v1)
    else
      let (q2, y2, i2) := s.biquad (base + 5) l1.arith.bq2 v1
      let (v2, s2) := shiftSat c.rnd (12 + field c.bq 11 7) y2
      ({ l1 with arith := { l1.arith with bq2 := q2 }, flags := flagIf (flagIf l1.flags 4 s2) 5 i2 }, v2)

/-- The FIR stages and the biquads take a value of the CIC stage. -/
def State.laterStages (s : State) (c : LaneCfg) (l : Lane) (x : Int) : Lane × Option Int :=
  let a := l.arith
  let (line1, p1, o1) := s.fir c.fir1 a.line1 a.phase1 x
  let l1 : Lane := { l with arith := { a with line1 := line1, phase1 := p1 } }
  match o1 with
  | none => (l1, none)
  | some y =>
    let (v1, t1) := if firTaps c.fir1 = 0 then (y, false) else shiftSat c.rnd (field c.fir1 15 11) y
    let (line2, p2, o2) := s.fir c.fir2 l1.arith.line2 l1.arith.phase2 v1
    let l2 : Lane := { l1 with
      arith := { l1.arith with line2 := line2, phase2 := p2 }, flags := flagIf l1.flags 1 t1 }
    match o2 with
    | none => (l2, none)
    | some z =>
      let (v2, t2) := if firTaps c.fir2 = 0 then (z, false) else shiftSat c.rnd (field c.fir2 15 11) z
      let (l3, v3) := s.biquads c { l2 with flags := flagIf l2.flags 2 t2 } v2
      (l3, some v3)

/-- A lane takes an input: its state, and the value of an output, suppressed or not. -/
def State.laneTake (s : State) (n : Nat) (c : LaneCfg) (x : LaneIn) : State × Option Int :=
  let l0 := s.lane n
  let l1 := if x.mark then l0.atMark c c.clear else l0
  let s0 := if x.mark then s.restartLane n else s
  let l2 : Lane := { l1 with ovr := l1.ovr || x.ovr }
  if c.order = 0 then
    let (l3, o) := s0.laterStages c l2 x.value
    (s0.putLane n l3, o)
  else
    let (a, y) := l2.arith.cic c x.value
    let l3 : Lane := { l2 with arith := a }
    match y with
    | none => (s0.putLane n l3, none)
    | some v =>
      let (num, den) := s0.normalised n c v
      let (w, s1) := s0.draw
      let (u, sat) := shiftSat c.rnd (field c.cic 28 24) (nearExact num den w)
      let (l4, o) := s1.laterStages c { l3 with flags := flagIf l3.flags 0 sat } u
      (s1.putLane n l4, o)

/-- LSATn and OVERRUN follow the lanes' flags (R174). -/
def State.laneLevels (s : State) (n : Nat) : State :=
  (s.evLevel 0x19 n ((s.lane n).flags.toNat % 64 != 0)).evLevel 0x19 24
    ((List.range 24).any (fun k => (s.lane k).flags.getLsbD 6))

/-- The lane's inputs are taken until one of them makes an output that is not suppressed. -/
def State.laneRun (s : State) (n : Nat) (c : LaneCfg) : Nat → State × Option LaneOut
  | 0 => (s, none)
  | k + 1 =>
    match (s.lane n).inputs with
    | [] => (s, none)
    | x :: rest =>
      let (s1, o) := (s.updLane n (fun l => { l with inputs := rest })).laneTake n c x
      match o with
      | none => s1.laneRun n c k
      | some v =>
        let l := s1.lane n
        if l.suppress > 0 then
          (s1.putLane n { l with suppress := l.suppress - 1, ovr := false }).laneRun n c k
        else
          (s1.putLane n { l with ovr := false },
            some { value := v, stamp := x.stamp, tag := x.tag, ovr := l.ovr, by_ := x.by_, port := x.port })

/-! ### Outputs (R157) -/

/-- A lane's output placed in its queue; one that finds no room is counted in QDROP (R157). -/
def State.laneQueue (s : State) (n : Nat) (c : LaneCfg) (o : LaneOut) : State :=
  if c.qen then
    let v : Word := BitVec.ofNat 32 (unsignedOf 24 o.value)
    let words : List Word :=
      if flag c.lcfg 6 then
        [v, BitVec.ofNat 32 (stampField o.stamp 47 24), BitVec.ofNat 32 (stampField o.stamp 23 0)]
      else [v]
    let (s1, code) := s.blockPush (field c.lcfg 12 8) words
    if code = .done then s1
    else
      (s1.updLane n (fun l => { l with qdrop := if l.qdrop = 255 then 255 else l.qdrop + 1 })).evPulse 0x19 25
  else s

/-- A lane's output goes to its destinations (R157). -/
def State.laneDeliver (s : State) (n : Nat) (c : LaneCfg) (o : LaneOut) : State :=
  let v : BitVec 24 := BitVec.ofNat 24 (unsignedOf 24 o.value)
  let s1 := (s.updLane n (fun l => { l with last := v, stamp := o.stamp })).pulse (0x80 + n)
  let s2 :=
    match o.port with
    | some p => if n < 20 then s1.deliverPort p n v o.stamp o.ovr else s1
    | none => s1
  let s3 := s2.winInput (64 + n) o.value o.stamp o.tag
  let s4 := s3.laneQueue n c o
  if n < 16 then
    match (s4.conv n).run, o.by_ with
    | some (by_, p), .thread _ => (s4.convAnswer by_ p .done v o.stamp).convOverNow n
    | some _, .task => s4.convOverNow n
    | _, _ => s4
  else s4

/-- A lane output (R157 to R167). -/
def State.laneOutput (s : State) (n : Nat) : State :=
  match (s.lane n).cfg with
  | some c =>
    if s.ready 0x19 && !s.laneHeld n then
      let (s1, o) := s.laneRun n c (s.lane n).inputs.length
      let s2 := s1.laneLevels n
      match o with
      | none => s2
      | some o => s2.laneDeliver n c o
    else s
  | none => s

/-! ### Inputs -/

/-- Inputs reach a lane; one that is not admitted or is held discards them (R157, R173). -/
def State.laneInputs (s : State) (n : Nat) (l : List LaneIn) : State :=
  if (s.lane n).cfg.isSome && !s.laneHeld n && s.ready 0x19 then
    match l with
    | [] => s
    | x :: rest =>
      s.updLane n (fun y =>
        { y with inputs := y.inputs ++ ({ x with mark := x.mark || y.mark } :: rest), mark := false })
  else s

/-- A modulator clock period, in TIME units. -/
def State.modPeriod (s : State) (k : Nat) : Nat :=
  k * 2 ^ 32 / (if s.pwr.depth == .guard then 500000 else 3072000)

/-- The bits of a sigma-delta converter as lane inputs, the last of them now (R156, R180). -/
def State.bitInputs (s : State) (l : List Bool) (ovr mark : Bool) (by_ : ConvBy) (port : Nat) : List LaneIn :=
  l.zipIdx.map (fun (b, i) =>
    { value := if b then 1 else -1, stamp := s.now - BitVec.ofNat 64 (s.modPeriod (l.length - 1 - i))
      mark := mark && i == 0, ovr := ovr, by_ := by_, port := some port })

/-- The 16-bit code of a SAR input voltage, placed in [23:8] (R108). -/
def sarCode (nanovolts : Int) : Int :=
  clampSigned 16 ((nanovolts * 2 ^ 15 * 2 + 2500000000) / (2 * 2500000000)) * 256

/-- A lane delivers every output its waiting inputs make. -/
def State.laneDrain (s : State) (n : Nat) : State :=
  (List.range (s.lane n).inputs.length).foldl (fun acc _ => acc.laneOutput n) s

/-- A converter delivers what it took in (R105, R107, R108, R156). As a SAR conversion ends, its sample goes through the
lane under the configuration it was made with, before what was written meanwhile takes effect (R102); a switch mark
waits for the first input from the new port. -/
def State.converterTakes (s : State) (cv : Nat) (r : Reading) : State :=
  if r != .bits [] false && r != .bits [] true && s.ready 0x18 && s.converting cv && !s.unavailable .sense then
    let (by_, port) : ConvBy × Nat := match (s.conv cv).run with
      | some x => x
      | none => (.free, match (s.conv cv).late with | some p => p | none => s.xbarPort cv)
    let old := (s.conv cv).late.isSome
    let mark := (s.conv cv).mark && !old
    let s0 := s.updConv cv (fun c => { c with mark := c.mark && old, late := none })
    match r with
    | .bits l ovr =>
      (s0.convOver cv ovr).laneInputs cv (s.bitInputs l ovr mark by_ port)
    | .volts v =>
      let ovr := decide (v > 2500000000) || decide (v < -2500000000)
      let code := sarCode v
      let s1 := (s0.convOver cv ovr).laneInputs cv
        [{ value := code, stamp := s.now, mark := mark, ovr := ovr, by_ := by_, port := some port }]
      match by_ with
      | .free =>
        if s1.portWritten port || s1.portWritten (partner port) then
          ((s1.laneDrain cv).sampleOver cv port).syncPair port
        else s1.dropOver
      | _ => ((s1.laneDrain cv).convAnswer by_ port .done (BitVec.ofNat 24 (unsignedOf 24 code)) s1.now).convOverNow cv
  else s

/-- A FEED reaches its lane (R145, R158). -/
def State.feedLane (s : State) (n : Nat) (value : BitVec 24) (stamp : Stamp) (tag : Bool) : State × Code :=
  if !s.ready 0x19 || s.unavailable .sense then (s, .notReady)
  else
    match (s.lane n).cfg with
    | none => (s, .state)
    | some c =>
      if s.laneHeld n then (s, .state)
      else
        let soon : Bool :=
          match (s.lane n).fed with
          | some t => decide ((s.now - t).toNat * c.rate.toNat < 2 ^ 32)
          | none => false
        if soon then
          ((s.updLane n (fun l => { l with flags := flagIf l.flags 6 true })).laneLevels n, .busy)
        else
          ((s.updLane n (fun l => { l with fed := some s.now })).laneInputs n
            [{ value := signedOf 24 value.toNat, stamp := stamp, tag := tag }], .done)

/-! ### Admission (R167 to R172) -/

/-- A lane configuration's cost in MAC/s, rounded up, at RUN or GUARD rates (R168). -/
def laneCost (n : Nat) (c : LaneCfg) (guard : Bool) : Nat :=
  let (a, b) := inRate n c guard
  let oc := if c.order = 0 then 0 else 1
  let num := a * (oc * c.d1 * c.d2 + firTaps c.fir1 * c.d2 + firTaps c.fir2 + 5 * c.nbq)
  let den := b * c.dec * c.d1 * c.d2
  (num + den - 1) / den

/-- Whether the array can compute a stage of T taps with output rate a / b (R169): P at least 5 and k at most 8. -/
def stageFits (cycles taps a b : Nat) : Bool :=
  decide (5 * a ≤ cycles * b) && decide (taps * a ≤ 8 * (cycles * b - 4 * a))

/-- Whether the array can compute every stage of a configuration in a power state (R169). -/
def stagesFit (n : Nat) (c : LaneCfg) (guard : Bool) : Bool :=
  let cycles := if guard then 8000000 else 98304000
  let (a, b) := inRate n c guard
  let b0 := b * c.dec
  let b1 := b0 * c.d1
  let b2 := b1 * c.d2
  (c.order == 0 || stageFits cycles 1 a b0)
  && (firTaps c.fir1 == 0 || stageFits cycles (firTaps c.fir1) a b1)
  && (firTaps c.fir2 == 0 || stageFits cycles (firTaps c.fir2) a b2)
  && (c.nbq == 0 || stageFits cycles 5 a b2)

/-- Whether a staged configuration is without an ARG fault (R167, R169, R171, R174); only RATE 0 is no fault of a lane
whose staged EN is 0. -/
def laneLegal (n : Nat) (c : LaneCfg) : Bool :=
  let fits (base len : Nat) : Bool := len == 0 || base + len ≤ 4096
  (n < 20 || (c.rate.toNat ≤ 2000000 && (!c.en || c.rate != 0)))
  && (n ≥ 16 || c.order != 0)
  && fits (field c.fir1 27 16) (firTaps c.fir1)
  && fits (field c.fir2 27 16) (firTaps c.fir2)
  && fits (field c.bq 27 16) (5 * c.nbq)
  && (!c.scs || (n < 16 && c.order == 1 && firTaps c.fir1 == 0 && firTaps c.fir2 == 0 && c.nbq == 0))
  && stagesFit n c false && (!c.guard || stagesFit n c true)

/-- The lanes an ADMIT names (R171). -/
def namedLanes (k : Slot) : List Nat := (List.range 24).filter (fun n => flag (k.arg 0) n)

/-- The staged configuration of a lane that an ADMIT which has started takes: the copy made at its start (R171). -/
def State.admitCfg (s : State) (n : Nat) : LaneCfg :=
  match s.thr.copied.find? (fun e => e.1 == n) with
  | some e => e.2
  | none => s.staged n

/-- An ADMIT starts: the staged configurations of the lanes it names are copied (R171). -/
def State.admitBegin (s : State) (tag : Nat) : State :=
  { s with thr := { s.thr with
      copied := (namedLanes (s.slot tag)).map (fun n => (n, s.staged n)), admitAt := s.now } }

/-- The copies of an ADMIT that is over are dropped. -/
def State.dropCopies (s : State) : State := { s with thr := { s.thr with copied := [] } }

/-- The configurations in force after an ADMIT of lanes. -/
def State.wouldRun (s : State) (named : List Nat) : List (Nat × LaneCfg) :=
  (List.range 24).filterMap (fun n =>
    if named.contains n then
      if (s.admitCfg n).en then some (n, s.admitCfg n) else none
    else (s.lane n).cfg.map (fun c => (n, c)))

/-- Whether a change between two configurations is structural (R172). -/
def structural (a b : LaneCfg) : Bool :=
  a.order != b.order || a.dec != b.dec || firTaps a.fir1 != firTaps b.fir1 || firTaps a.fir2 != firTaps b.fir2
  || a.d1 != b.d1 || a.d2 != b.d2 || a.nbq != b.nbq || a.scs != b.scs || a.guard != b.guard

/-- USED_RUN, USED_GUARD and COEF_FREE (R174). -/
def State.usedRun (s : State) : Nat := ((List.range 24).map (fun n => (s.lane n).cost)).sum
def State.usedGuard (s : State) : Nat := ((List.range 24).map (fun n => (s.lane n).guardCost)).sum

/-- A lane is released (R172, R173). -/
def State.releaseLane (s : State) (n : Nat) : State :=
  let s1 := s.updLane n (fun l =>
    { l with cfg := none, next := none, inputs := [], arith := {}, suppress := 0, ovr := false, cost := 0
             guardCost := 0, qdrop := 0, fed := none, mark := false })
  (if n < 16 then s1.convAbandon n .state else s1).refreshWinnow

/-- A lane changes over to the configuration of the ADMIT in progress; the inputs it holds have been taken before, under
the old one (R166, R172). -/
def State.changeOver (s0 : State) (n : Nat) : State :=
  let s := s0.laneDrain n
  match (s.lane n).next with
  | none => s
  | some none => s.releaseLane n
  | some (some c) =>
    let fresh : Bool := match (s.lane n).cfg with | some old => structural old c | none => true
    let s1 := s.updLane n (fun l =>
      let l1 : Lane := { l with
        cfg := some c, next := none, qdrop := 0, cost := laneCost n c false
        guardCost := if c.guard then laneCost n c true else 0 }
      if fresh then { l1.atMark c true with mark := true } else l1)
    (if fresh then s1.restartLane n else s1).refreshWinnow

/-- The ADMIT in progress completes once no named lane is left to change over (R172). -/
def State.admitDone (s : State) : State :=
  match s.thr.admitting with
  | none => s
  | some tag =>
    if (List.range 24).any (fun n => (s.lane n).next.isSome) then s
    else ({ s with thr := { s.thr with admitting := none, copied := [] } }).setResult tag.toNat .done

/-- ADMIT (R168 to R172). -/
def laneAdmitEffect (tag : Nat) (k : Slot) (s : State) : State × Option Code :=
  let named := namedLanes k
  if s.thr.admitting.isSome then (s, none)
  else if named.isEmpty then (s, some .done)
  else if !named.all (fun n => laneLegal n (s.admitCfg n)) then (s.dropCopies, some .arg)
  else if !flag (s.rg 0x19 0x008) 0 || named.any (fun n => n < 16 && s.calibrating n) then (s.dropCopies, some .state)
  else
    let after := s.wouldRun named
    let run := (after.map (fun (n, c) => laneCost n c false)).sum
    let grd := (after.map (fun (n, c) => if c.guard then laneCost n c true else 0)).sum
    if run > 786432000 || grd > 64000000 then
      (s.dropCopies.setRg 0x19 0x05C (BitVec.ofNat 32 run), some .busy)
    else
      let s1 : State := { s with thr := { s.thr with admitting := some (BitVec.ofNat 7 tag) } }
      let s2 := named.foldl
        (fun acc n =>
          let c := s.admitCfg n
          let acc1 := acc.updLane n (fun l => { l with next := some (if c.en then some c else none) })
          if (acc1.lane n).cfg.isNone || acc1.laneHeld n then acc1.changeOver n else acc1) s1
      (s2.admitDone, none)

/-- A running lane reaches its output boundary, or the end of the period it has to; the inputs it holds came before
(R172). The period is that of the RUN rate, in GUARD too (DESIGN CHOICE, log entry 706). -/
def State.laneChangeover (s0 : State) (n : Nat) : State :=
  let s := s0.laneDrain n
  let l := s.lane n
  match l.next, l.cfg with
  | some _, some c =>
    let a := l.arith
    let s1 :=
      if a.phase0 = 0 && a.phase1 = 0 && a.phase2 = 0 then s
      else s.reach (s.thr.admitAt + BitVec.ofNat 64 (outPeriod n c false))
    (s1.changeOver n).admitDone
  | some _, none => (s.changeOver n).admitDone
  | none, _ => s

/-! ### Coefficient store (R164) -/

/-- Whether a configuration uses a store word. -/
def LaneCfg.uses (c : LaneCfg) (a : Nat) : Bool :=
  let inside (base len : Nat) : Bool := decide (base ≤ a) && decide (a < base + len)
  inside (field c.fir1 27 16) (firTaps c.fir1) || inside (field c.fir2 27 16) (firTaps c.fir2)
  || inside (field c.bq 27 16) (5 * c.nbq)

/-- Whether a store word is in use (R164). -/
def State.coefUsed (s : State) (a : Nat) : Bool :=
  (List.range 24).any (fun n =>
    let l := s.lane n
    (match l.cfg with | some c => c.uses a | none => false)
    || (match l.next with | some (some c) => c.uses a | _ => false))
  || s.thr.copied.any (fun e => e.2.uses a)

/-- COEF_FREE: the words not in use (R174). -/
def State.coefFree (s : State) : Nat := ((List.range 4096).filter (fun a => !s.coefUsed a)).length

/-- COEF_ADDR advances, wrapping at 0xFFF (R164). -/
def State.coefStep (s : State) : State := s.updRg 0x19 0x050 (fun w => BitVec.ofNat 32 ((w.toNat + 1) % 4096))

/-- A COEF_DATA write that has reached the register (R164). -/
def coefWriteEffect (v : Word) (s : State) : State × Code :=
  let a := field (s.rg 0x19 0x050) 11 0
  if s.coefUsed a then (s.coefStep, .state)
  else
    (({ s with thr := { s.thr with coef := Tab.set (fun _ => 0) s.thr.coef a (v.truncate 24) } }).coefStep, .done)

/-- A COEF_DATA read that has reached the register (R164, R174). -/
def coefReadEffect (s : State) : State × Word × Code :=
  (s.coefStep, BitVec.ofNat 32 (unsignedOf 32 (s.coefInt (field (s.rg 0x19 0x050) 11 0))), .done)

/-! ### Registers and edges of the block -/

/-- LANEn_STAT (R174). -/
def State.laneStat (s : State) (n : Nat) : Word :=
  let l := s.lane n
  let staged : Bool :=
    match l.cfg with
    | none => (s.staged n).en
    | some c => { s.staged n with div := c.div } != c
  pack [(0, 7, l.flags.toNat), (8, 1, bit l.cfg.isSome), (9, 1, bit staged),
    (10, 1, bit (l.suppress != 0)), (11, 1, bit (l.cfg.isSome && s.laneHeld n)), (16, 8, l.qdrop.toNat)]

/-- A write of LANEn_STAT: its flags are cleared by 1 (R163, R174). -/
def laneStatEffect (n : Nat) (v : Word) (s : State) : State × Code :=
  ((s.updLane n (fun l => { l with flags := l.flags &&& ~~~(v.truncate 7) })).laneLevels n, .done)

/-- A write of LANEn_CIC: DEC is 4 to 256, and ignored while ORDER is 0 (R174); one out of range is refused at the write
(DESIGN CHOICE, log entry 705). -/
def laneCicEffect (off : Nat) (v : Word) (s : State) : State × Code :=
  let dec := field v 16 8
  if field v 2 0 != 0 && !(4 ≤ dec && dec ≤ 256) then (s, .arg)
  else (s.setRg 0x19 off (v &&& 0x1F01FF07), .done)

/-- A write of LANEn_RATE (R174). -/
def laneRateEffect (n : Nat) (v : Word) (s : State) : State × Code :=
  if n < 20 then (s, if v = 0 then .done else .arg)
  else (s.setRg 0x19 (0x114 + 0x20 * n) (v &&& 0xFFFFFF), .done)

/-- The lanes take a mark at their next input. -/
def State.markLanes (s : State) (p : Nat → LaneCfg → Bool) : State :=
  (List.range 24).foldl
    (fun acc n =>
      acc.updLane n (fun l =>
        match l.cfg with
        | some c => if p n c then { l with mark := true } else l
        | none => l)) s

/-- THRESHER CTL.EN (R173): at 0 waiting inputs are discarded and conversions waiting on a lane end with STATE; at 1
lanes restart with a mark. -/
def State.thresherEn (s : State) (on : Bool) : State :=
  if on then s.markLanes (fun _ _ => true)
  else
    let s1 := (List.range 24).foldl (fun acc n => acc.updLane n (fun l => { l with inputs := [] })) s
    let s2 := (List.range 16).foldl (fun acc n => acc.convAbandon n .state) s1
    ((List.range 24).foldl (fun acc n => if (acc.lane n).cfg.isSome then acc.changeOver n else acc) s2).admitDone

/-- The lanes take the inputs they hold, before the sense clock changes. -/
def State.drainLanes (s : State) : State := (List.range 24).foldl State.laneDrain s

/-- A triggered conversion in progress starts again under a new sense clock (R133). -/
def State.restartConv (s : State) (cv : Nat) : State :=
  match (s.conv cv).run with
  | none => s
  | some _ => (s.updLane cv (fun l => if cv < 16 then { l with inputs := [] } else l)).markConv cv

/-- The sense clock has changed between RUN and GUARD rates (R107, R113, R133, R165, R170): triggered conversions
restart, or end with STATE where their lane is held now; converters and lanes take their marks; pulse measurements in
progress are discarded. Into GUARD, continuous converters stop, and what was written behind their samples takes effect
(R102, R108). -/
def State.senseClockChanged (s : State) (guard : Bool) : State :=
  let s1 := (List.range 20).foldl
    (fun acc cv =>
      let acc1 := acc.markConv cv
      if cv < 16 && acc1.laneHeld cv then acc1.convAbandon cv .state else acc1.restartConv cv) s
  let s2 :=
    if guard then
      ((List.range 20).foldl (fun acc cv => acc.updConv cv (fun c => { c with late := none }))
        (s1.markLanes (fun n c => n ≥ 20 && !c.guard))).syncAll
    else s1
  s2.dropCaptures.refreshWinnow

/-! ### Rows -/

/-- CONVERTER_SAMPLE (R108, R156). A reading of the other kind of converter is no command. -/
def execConverterSample (cv : Fin 20) (r : Reading) (s : State) : Host.Outcome State Fault Refusal :=
  match r with
  | .bits _ _ => if cv.val < 16 then .next (s.converterTakes cv.val r) else .fault .illFormed
  | .volts _ => if cv.val < 16 then .fault .illFormed else .next (s.converterTakes cv.val r)

/-- LANE_OUTPUT (R157). -/
def execLaneOutput (lane : Fin 24) (s : State) : Host.Outcome State Fault Refusal :=
  .next (s.laneOutput lane.val)

/-- ADMIT (R171). -/
def execAdmission (tag : Fin 128) (s : State) : Host.Outcome State Fault Refusal :=
  .next (s.runOp tag.val 0x19 1 (fun _ => true) (laneAdmitEffect tag.val))

/-- LANE_CHANGEOVER (R172). -/
def execLaneChangeover (lane : Fin 24) (s : State) : Host.Outcome State Fault Refusal :=
  .next (s.laneChangeover lane.val)

/-- COEF_DATA_WRITE (R164). -/
def execCoefDataWrite (m : Master) (v : Word) (s : State) : Host.Outcome State Fault Refusal :=
  .next (s.write m 0x19 0x054 v (coefWriteEffect v))

/-- COEF_DATA_READ (R164). -/
def execCoefDataRead (m : Master) (s : State) : Host.Outcome State Fault Refusal :=
  .next (s.read m 0x19 0x054 coefReadEffect)

end Sys2Proof.Machine
end

