-- ==== Sys2Proof/Machine/Buses.lean ====
section
/-!
DEFINITION. The sensor buses (R116 to R119, R487 to R499): SPC, UART and TWC transfers, the UART's check helper, and
the TWC units as targets.
-/
namespace Sys2Proof.Machine

/-! ### Arguments and signals -/

/-- Argument word i of a transfer. -/
def Xfer.arg (x : Xfer) (i : Nat) : Word := x.args.getD i 0

/-- The unit a transfer is for: 0 to 3 TWC, 4 to 7 SPC, 8 to 11 UART. -/
def xferUnit (op : Nat) (args : List Word) : Nat :=
  let u := field (args.getD 0 0) 1 0
  if op == 1 then 4 + u else if op == 2 then 8 + u else u

/-- QUEUE of a transfer (R122, R494). -/
def Xfer.queue (x : Xfer) : Nat := if x.op == 1 then field (x.arg 0) 21 16 else field (x.arg 0) 29 24

/-- Whether a queue field is in range: a queue, the buffer, or from the Gleaner the discard (R122, R142). -/
def queueLegal (q : Nat) (gleaner : Bool) : Bool := q < 32 || q == 0x3F || (gleaner && q == 0x3E)

/-- Whether a transfer's arguments are in range (R122, R494). -/
def Xfer.legal (x : Xfer) : Bool :=
  let gleaner : Bool := match x.user with | .slot _ => false | _ => true
  let a0 := x.arg 0
  let small (n : Nat) : Bool := x.queue != 0x3F || n ≤ 32
  queueLegal x.queue gleaner
  && (if x.op == 1 then decide (field a0 4 2 ≤ 3) && decide (1 ≤ field a0 15 8) && decide (field a0 15 8 ≤ 16)
      else if x.op == 2 then decide (field a0 12 8 ≤ 24) && small (field a0 23 16)
      else decide (field a0 20 16 ≤ 16) && small (field (x.arg 1) 7 0))

/-- Transmit bytes from an argument word on, [31:24] first. -/
def Xfer.bytes (x : Xfer) (from_ n : Nat) : List Byte :=
  (((x.args.drop from_).flatMap (fun w : Word => bytesBE 4 w.toNat)) ++ List.replicate 28 0).take n

/-- The port that carries a signal, if one does (R116). -/
def State.signalPort (s : State) (u sig : Nat) : Option Nat :=
  (List.range 64).find? (fun p => (s.port p).unitOf == some u && field (s.port p).aux 3 0 == sig)

/-- The signals a transfer needs (R116). -/
def State.signalsOf (s : State) (u : Nat) (x : Xfer) : List Nat :=
  if u < 4 then [0, 1]
  else if u < 8 then [0, 1, 2, 3 + field (x.arg 0) 4 2]
  else if flag (s.rg 0x32 (0x140 + 0x20 * (u - 8))) 5 then [0, 1, 2] else [0, 1]

/-- The code a transfer ends with for want of a signal: STATE where one is not assigned, and where one is quarantined
STATE for a Gleaner request and MEDIUM for an operation (R116, R120, R122). -/
def State.signalFault (s : State) (u : Nat) (user : BusUser) (l : List Nat) : Option Code :=
  if l.any (fun sig => (s.signalPort u sig).isNone) then some .state
  else if l.any (fun sig => match s.signalPort u sig with | some p => (s.port p).quarantined | none => false) then
    match user with
    | .slot _ => some .medium
    | _ => some .state
  else none

/-- The divisor of an SPC unit's clock: the smallest even number from 4 on that keeps the rate at or below KHZ (R118). -/
def State.spcDiv (s : State) (u : Nat) : Nat :=
  let khz := field (s.rg 0x32 (0x0C4 + 0x20 * (u - 4))) 13 0
  max 4 (2 * ((s.senseHz + 2000 * khz - 1) / (2000 * khz)))

/-- Whether a unit's rate is one GUARD does not allow (R118, R488). -/
def State.fastRate (s : State) (u : Nat) : Bool :=
  if u < 4 then field (s.rg 0x32 (0x040 + 0x20 * u)) 1 0 == 2
  else if u < 8 then decide (s.senseHz > 1000000 * s.spcDiv u)
  else decide (field (s.rg 0x32 (0x144 + 0x20 * (u - 8))) 23 0 > 115200)

/-- A unit has a transfer at a rate GUARD does not allow, which holds back GUARD (R118). -/
def State.fastXfer (s : State) : Bool :=
  (List.range 12).any (fun u => !(s.unit u).queue.isEmpty && s.fastRate u)

/-! ### Requests and received bytes -/

/-- A transfer reaches its unit: refused at once, or placed behind those before it (R117, R118, R122). -/
def State.xferRequest (s : State) (x : Xfer) : State × Option Code :=
  let u := xferUnit x.op x.args
  if !x.legal then (s, some .arg)
  else if !s.ready 0x32 || s.unavailable .sense then (s, some .notReady)
  else if s.pwr.depth == .guard && s.fastRate u then (s, some .state)
  else (s.putUnit u { s.unit u with queue := (s.unit u).queue ++ [x] }, none)

/-- A SENSBUS operation starts (R117). -/
def State.xferBegin (s : State) (tag : Nat) : State :=
  let k := s.slot tag
  match s.xferRequest { user := .slot (BitVec.ofNat 7 tag), op := k.op.toNat, args := k.args } with
  | (s1, some c) => s1.setResult tag c
  | (s1, none) => s1

/-- Bytes as packet payloads, three an item, the first in [23:16] (R122). -/
def tripleItems : List Byte → List Word
  | a :: b :: c :: rest => BitVec.ofNat 32 (natBE [a, b, c]) :: tripleItems rest
  | [a, b] => [BitVec.ofNat 32 (natBE [a, b, 0])]
  | [a] => [BitVec.ofNat 32 (natBE [a, 0, 0])]
  | [] => []

/-- Received bytes go where QUEUE sends them (R122, R142). -/
def State.placeBytes (s : State) (u q : Nat) (l : List Byte) : State :=
  if l.isEmpty || q == 0x3E then s
  else if q == 0x3F then s.putUnit u { s.unit u with rxd := ((s.unit u).rxd ++ l).take 32 }
  else (s.blockPush q (tripleItems l)).1

/-- The transfer in progress ends with DONE and its received bytes. -/
def State.finishXfer (s : State) (u : Nat) (x : Xfer) (l : List Byte) : State :=
  (s.placeBytes u x.queue l).endXfer u .done l

/-- The first n bytes received, 0xFF where the line brought none. -/
def padBytes (n : Nat) (l : List Byte) : List Byte := (l ++ List.replicate n 0xFF).take n

/-! ### SPC (R122) -/

/-- The transfer at an SPC unit shifts its bytes. -/
def State.spcRun (s : State) (u : Nat) (rx : List Byte) : State :=
  match (s.unit u).queue with
  | [] => s
  | x :: _ =>
    match s.signalFault u x.user (s.signalsOf u x) with
    | some c => s.endXfer u c []
    | none =>
      let a0 := x.arg 0
      let n := field a0 15 8
      let s1 := s.putUnit u { s.unit u with
        sent := x.bytes 1 n, keep := if flag a0 5 then some (field a0 4 2) else none }
      s1.finishXfer u x (padBytes n rx)

/-! ### UART (R119) -/

/-- The two check bytes of the CRC helper over bytes (R119, R125). -/
def State.uartCheck (s : State) (u : Nat) (l : List Byte) : List Byte :=
  let poly := s.rg 0x32 (0x148 + 0x20 * (u - 8))
  let mode := s.rg 0x32 (0x14C + 0x20 * (u - 8))
  let r := crcRun 16 (field poly 15 0) (flag mode 0) (field poly 31 16) l
  let v := Nat.xor (if flag mode 0 then reverseBits 16 r else r) (field mode 31 16)
  if flag mode 1 then bytesBE 2 v else bytesLE 2 v

/-- For how many bit times DE is asserted to send n bytes: DE_LEAD, the characters, DE_LAG (R119, R125). -/
def State.uartDe (s : State) (u n : Nat) : Nat :=
  let cfg := s.rg 0x32 (0x140 + 0x20 * (u - 8))
  let timing := s.rg 0x32 (0x150 + 0x20 * (u - 8))
  let char := 1 + (7 + field cfg 1 0) + bit (field cfg 3 2 != 0) + (1 + bit (flag cfg 4))
  if flag cfg 5 then field timing 23 16 + n * char + field timing 31 24 else 0

/-- Whether bytes received while DE is asserted are discarded (R119). -/
def State.echoDiscard (s : State) (u : Nat) : Bool :=
  let cfg := s.rg 0x32 (0x140 + 0x20 * (u - 8))
  flag cfg 5 && flag cfg 7

/-- The transaction at a UART unit sends its bytes; with no reply wanted it is then over (R119). -/
def State.uartSend (s : State) (u : Nat) : State :=
  match (s.unit u).queue with
  | [] => s
  | x :: rest =>
    if x.sent.isSome then s
    else
      match s.signalFault u x.user (s.signalsOf u x) with
      | some c => s.endXfer u c []
      | none =>
        let a0 := x.arg 0
        let data := x.bytes 1 (field a0 12 8)
        let all := if flag a0 2 then data ++ s.uartCheck u data else data
        let s1 := s.putUnit u { s.unit u with
          sent := all, de := s.uartDe u all.length, queue := { x with sent := some s.now } :: rest }
        if field a0 23 16 = 0 then s1.endXfer u .done [] else s1

/-- The bytes of a reply: all a UART unit took in, but with ECHO_DISCARD those that came while DE was asserted (R119). -/
def State.uartHeard (s : State) (u : Nat) (came : List HeardByte) : List Byte :=
  (if s.echoDiscard u then came.filter (fun b => !b.driven) else came).map HeardByte.byte

/-- The reply at a UART unit ends; what was discarded whole is no reply (R119). -/
def State.uartReply (s : State) (u : Nat) (came : List HeardByte) (bad : Bool) : State :=
  match (s.unit u).queue with
  | x :: _ =>
    let reply := s.uartHeard u came
    if x.sent.isNone || reply.isEmpty then s
    else
      let crc := flag (x.arg 0) 2
      let data := if crc then reply.take (reply.length - 2) else reply
      let good := !bad && (!crc || (reply.length ≥ 2 && s.uartCheck u data == reply.drop (reply.length - 2)))
      if good && data.length ≤ field (x.arg 0) 23 16 then s.finishXfer u x data
      else
        (s.updRg 0x32 (0x154 + 0x20 * (u - 8)) (fun w => satField w 15 8 1)).endXfer u .medium []
  | [] => s

/-- No first reply byte came in time (R119). -/
def State.uartTimeout (s : State) (u : Nat) : State :=
  match (s.unit u).queue with
  | x :: _ =>
    match x.sent with
    | some t =>
      (s.reach (t + BitVec.ofNat 64 (msTime (field (s.rg 0x32 (0x150 + 0x20 * (u - 8))) 15 0)))).endXfer u .timeout []
    | none => s
  | [] => s

/-! ### TWC (R494 to R499) -/

/-- TWCn_CFG, TWCn_TCFG and one of the counters of TWCn_CNT. -/
def State.twcCfg (s : State) (u : Nat) : Word := s.rg 0x32 (0x040 + 0x20 * u)
def State.twcTcfg (s : State) (u : Nat) : Word := s.rg 0x32 (0x044 + 0x20 * u)
def State.twcCount (s : State) (u hi lo : Nat) : State :=
  s.updRg 0x32 (0x054 + 0x20 * u) (fun w => satField w hi lo 1)

/-- The bytes a TWC transfer sends: the address with W and the written bytes, the address with R (R494). -/
def Xfer.twcSent (x : Xfer) : List Byte :=
  let a0 := x.arg 0
  let addr := field a0 14 8
  let w := x.bytes 2 (field a0 20 16)
  let rlen := field (x.arg 1) 7 0
  (if w.isEmpty && rlen != 0 then [] else BitVec.ofNat 8 (2 * addr) :: w)
    ++ (if rlen = 0 then [] else [BitVec.ofNat 8 (2 * addr + 1)])

/-- The transfer at a TWC unit runs (R494, R495): SDA found low is cleared first, and whether that freed it is
`stuck`. -/
def State.twcRun (s : State) (u : Nat) (stuck : Option Bool) (acked : Bool) (rx : List Byte) : State :=
  match (s.unit u).queue with
  | [] => s
  | x :: _ =>
    if (s.unit u).target then s
    else
      match s.signalFault u x.user [0, 1] with
      | some c => s.endXfer u c []
      | none =>
        let s1 := if stuck.isSome then s.twcCount u 31 24 else s
        if stuck == some false then (s1.putUnit u { s1.unit u with stuck := true }).endXfer u .medium []
        else
          let s2 := s1.putUnit u { s1.unit u with stuck := false, sent := x.twcSent }
          if !acked then (s2.twcCount u 7 0).endXfer u .medium []
          else s2.finishXfer u x (padBytes (field (x.arg 1) 7 0) rx)

/-- Whether an address calls a unit as target (R497, R498). -/
def State.calls (s : State) (u : Nat) (addr : BitVec 7) : Bool :=
  flag (s.twcTcfg u) 7 && field (s.twcTcfg u) 6 0 == addr.toNat

/-- A unit loses arbitration (R497): the transfer is tried again up to ARB_RETRY times; an address byte that names
the unit puts it in the target role. -/
def State.arbLost (s : State) (u : Nat) (addr : Option (BitVec 7)) : State :=
  let x := s.unit u
  if x.queue.isEmpty || x.target then s
  else
    let s1 := s.twcCount u 15 8
    let target := match addr with | some a => s1.calls u a | none => false
    let s2 := s1.putUnit u { x with losses := x.losses + 1, target := target }
    if x.losses + 1 > field (s.twcCfg u) 18 16 then s2.endXfer u .medium [] else s2

/-- Bytes read from a target: TDATA, [31:24] first, then 0xFF (R498). -/
def State.targetBytes (s : State) (u n : Nat) : List Byte :=
  padBytes n (bytesBE 4 (s.rg 0x32 (0x050 + 0x20 * u)).toNat)

/-- One part of a transaction served as target (R498). -/
def State.targetPart (s : State) (u : Nat) (part : TwoWirePart) : State :=
  match part with
  | .wrote l =>
    if l.isEmpty then s
    else (s.blockPush (field (s.twcTcfg u) 12 8) (BitVec.ofNat 32 (l.length % 256) :: tripleItems l)).1
  | .reads n => s.putUnit u { s.unit u with sent := s.targetBytes u n }

/-- Another controller addresses a unit and the parts follow, up to STOP (R498). -/
def State.targetServe (s : State) (u : Nat) (addr : BitVec 7) (parts : List TwoWirePart) : State :=
  if s.ready 0x32 && !s.unavailable .sense && (s.signalFault u .nobody [0, 1]).isNone && s.calls u addr then
    let s1 := parts.foldl (fun acc p => acc.targetPart u p) (s.putUnit u { s.unit u with target := true })
    s1.putUnit u { s1.unit u with target := false }
  else s

/-- SCL is held low beyond STRETCH (R496). -/
def State.twcStretch (s : State) (u : Nat) : State :=
  let x := s.unit u
  if x.target then (s.twcCount u 19 16).putUnit u { x with target := false }
  else if x.queue.isEmpty then s
  else (s.twcCount u 19 16).endXfer u .timeout []

/-- A START is seen where an acknowledge was due at a TWC unit (R499). -/
def State.twcProtocol (s : State) (u : Nat) : State :=
  let x := s.unit u
  if x.target then (s.twcCount u 23 20).putUnit u { x with target := false }
  else if x.queue.isEmpty then s
  else (s.twcCount u 23 20).endXfer u .medium []

/-! ### Registers -/

/-- TWCn_STAT; both lines are high but for a bus found stuck (R495, R502). -/
def State.twcStat (s : State) (u : Nat) : Word :=
  let x := s.unit u
  pack [(0, 1, bit (!x.queue.isEmpty)), (1, 1, bit x.target), (2, 1, bit x.stuck), (3, 1, bit x.stuck),
    (5, 6, x.rxd.length)]

/-- SPCn_STAT and UARTn_STAT (R125; 32 reads as 31: DESIGN CHOICE, log entry 517). -/
def State.spcStat (s : State) (u : Nat) : Word :=
  pack [(0, 1, bit (!(s.unit u).queue.isEmpty)), (1, 5, min (s.unit u).rxd.length 31)]
def State.uartStat (s : State) (u : Nat) : Word :=
  setField (setFlag (s.rg 0x32 (0x154 + 0x20 * (u - 8))) 0 (!(s.unit u).queue.isEmpty)) 6 1 (s.unit u).rxd.length

/-- A write of TWCn_CFG or TWCn_TCFG (R502). -/
def twcCfgEffect (u off : Nat) (v : Word) (s : State) : State × Code :=
  if !(s.unit u).queue.isEmpty || (s.unit u).target then (s, .state) else s.plainWrite .core 0x32 off v

/-- The offset of a unit's RXD register (R125, R502). -/
def rxdOff (u : Nat) : Nat :=
  if u < 4 then 0x04C + 0x20 * u else if u < 8 then 0x0CC + 0x20 * (u - 4) else 0x158 + 0x20 * (u - 8)

/-- A read of RXD that has reached the register (R125). -/
def rxdEffect (u : Nat) (s : State) : State × Word × Code :=
  match (s.unit u).rxd with
  | [] => (s, 0, .done)
  | b :: rest => (s.putUnit u { s.unit u with rxd := rest }, pack [(0, 8, b.toNat), (8, 1, 1)], .done)

/-! ### Rows -/

/-- SPC_XFER (R122). -/
def execSpcXfer (u : Fin 4) (rx : List Byte) (s : State) : Host.Outcome State Fault Refusal :=
  .next (s.spcRun (4 + u.val) rx)

/-- UART_XACT (R119). -/
def execUartXact (u : Fin 4) (s : State) : Host.Outcome State Fault Refusal :=
  .next (s.uartSend (8 + u.val))

/-- UART_EOF (R119). A reply without a byte is no reply. -/
def execUartEof (u : Fin 4) (reply : List HeardByte) (bad : Bool) (s : State) : Host.Outcome State Fault Refusal :=
  if reply = [] then .fault .illFormed else .next (s.uartReply (8 + u.val) reply bad)

/-- UART_REPLY_TIMEOUT (R119). -/
def execUartReplyTimeout (u : Fin 4) (s : State) : Host.Outcome State Fault Refusal :=
  .next (s.uartTimeout (8 + u.val))

/-- RXD_READ (R125). -/
def execRxdRead (m : Master) (u : Fin 12) (s : State) : Host.Outcome State Fault Refusal :=
  .next (s.read m 0x32 (rxdOff u.val) (rxdEffect u.val))

/-- TWC_XFER (R494). -/
def execTwcXfer (u : Fin 4) (stuck : Option Bool) (acked : Bool) (rx : List Byte) (s : State) :
    Host.Outcome State Fault Refusal :=
  .next (s.twcRun u.val stuck acked rx)

/-- ARBITRATION_LOST (R497). -/
def execArbitrationLost (u : Fin 4) (addr : Option (BitVec 7)) (s : State) : Host.Outcome State Fault Refusal :=
  .next (s.arbLost u.val addr)

/-- TARGET_TRANSACTION (R498). -/
def execTargetTransaction (u : Fin 4) (addr : BitVec 7) (parts : List TwoWirePart) (s : State) :
    Host.Outcome State Fault Refusal :=
  .next (s.targetServe u.val addr parts)

/-- STRETCH_TIMEOUT (R496). -/
def execStretchTimeout (u : Fin 4) (s : State) : Host.Outcome State Fault Refusal := .next (s.twcStretch u.val)

end Sys2Proof.Machine
end

