-- ==== Sys2Proof/Machine/Air.lean ====
section
/-!
DEFINITION. The Synelle waveform, to the bit (R363 to R374, R379, R380): the scrambler, the sync word, the header,
the LDPC codes, and how a frame's bits lie on its symbols and subcarriers.
-/
namespace Sys2Proof.Machine

/-! ### Numerology (R363) -/

/-- Ts of a width code, in ns. -/
def tsNs (width : Nat) : Nat := 9000000 / 2 ^ width

/-- A width code's channel width in Hz. -/
def widthHz (width : Nat) : Nat := 12500 * 2 ^ width

/-- The data subcarriers, d = 0 to 95, in ascending k, held as k + 64 (R364). -/
def dataCarriers : List Nat :=
  ((List.range 105).map (· + 12)).filter (fun k => k != 64 && ! [18, 31, 44, 57, 71, 84, 97, 110].contains k)

/-- The used subcarriers, k = -52 to 52 without 0, as k + 64 (R364). -/
def usedCarriers : List Nat := ((List.range 105).map (· + 12)).filter (fun k => k != 64)

/-- The data subcarriers d of group g, 0 to 11 (R364). -/
def carrierGroup (g : Nat) : List Nat := (List.range 8).map (fun i => 8 * g + i)

/-- The pilots, as k + 64, with the ones whose sign is +1 (R364). -/
def pilotCarriers : List (Nat × Bool) :=
  [(18, true), (31, false), (44, true), (57, false), (71, true), (84, false), (97, true), (110, false)]

/-! ### The sequence generator (R365) -/

/-- One step: the output, and the next registers, r1 in bit 0. -/
def seqStep (r : Nat) : Bool × Nat :=
  let b := r.testBit 3 != r.testBit 6
  (b, (2 * r + bit b) % 128)

/-- n outputs from a seed. -/
def seqBits : Nat → Nat → List Bool
  | 0, _ => []
  | n + 1, r => let (b, r1) := seqStep r; b :: seqBits n r1

/-- The pilot factor's bit of symbol n (R364). -/
def pilotBits (n : Nat) : List Bool := seqBits n 0x7F

/-- The long training symbol's bits, k = -52 to 52 without 0 (R368). -/
def longTraining : List Bool := seqBits 104 0x7F

/-- The signs of the short training symbol, k = -48 to 48 in steps of 8 (R368). -/
def shortTraining : List Bool :=
  [true, false, true, true, false, false, true, false, false, true, true, true]

/-! ### The sync word (R369) -/

/-- How many bits of a word are 1. -/
def popcount (w : Nat) : Nat := ((List.range 32).filter w.testBit).length

/-- SW of a network identity and a seed. -/
def syncWord (netid seed : Word) : Word :=
  let of_ (c : Nat) : Nat := crc32 (bytesLE 4 netid.toNat ++ bytesLE 4 seed.toNat ++ [BitVec.ofNat 8 c])
  match (List.range 256).find? (fun c => decide (12 ≤ popcount (of_ c)) && decide (popcount (of_ c) ≤ 20)) with
  | some c => BitVec.ofNat 32 (of_ c)
  | none => 0x5A5AA5A5

/-- The sync symbol's signs on positions 0 to 103, true for +1 (R369). -/
def syncSigns (sw : Word) : List Bool :=
  (List.range 104).map (fun n =>
    ((List.range (min n 96)).filter (fun i => sw.getLsbD (i % 32))).length % 2 == 0)

/-! ### The header (R370) -/

/-- Bits [hi:lo] of a header. -/
def hfield (h : BitVec 96) (hi lo : Nat) : Nat := (h.toNat >>> lo) % 2 ^ (hi + 1 - lo)

/-- The ten bytes of header bits [79:0]. -/
def headerBytes (h : BitVec 96) : List Byte := bytesLE 10 (h.toNat % 2 ^ 80)

/-- HCRC over header bits [79:0], in the order they go to the air. -/
def headerCrc (h : BitVec 96) : Nat := crcRun 16 0x1021 true 0xFFFF (headerBytes h)

/-- A header from its fields, with its HCRC. -/
def makeHeader (typ rate map mapgen len src dst : Nat) (dbm : Int) : BitVec 96 :=
  let low := 1 + typ % 16 * 2 ^ 4 + rate % 8 * 2 ^ 8 + map % 16 * 2 ^ 12 + mapgen % 16 * 2 ^ 16
    + len % 2048 * 2 ^ 20 + src % 65536 * 2 ^ 32 + dst % 65536 * 2 ^ 48 + unsignedOf 8 dbm * 2 ^ 64
  BitVec.ofNat 96 (low + headerCrc (BitVec.ofNat 96 low) * 2 ^ 80)

/-- Whether a received header passes: HCRC, VER, and no reserved field or value (R370, R377). -/
def headerOk (h : BitVec 96) (nb : Bool) : Bool :=
  let map := hfield h 15 12
  hfield h 95 80 == headerCrc h && hfield h 3 0 == 1 && !h.getLsbD 11 && !h.getLsbD 31 && hfield h 79 72 == 0
  && decide (hfield h 10 8 ≤ 3) && decide (1 ≤ hfield h 30 20)
  && (if nb then map == 1 || map == 6 else decide (map ≤ 4) || map == 8 || map == 9)

/-! ### LDPC codes (R371) -/

/-- The base rows of a rate code. -/
def baseRows (rate : Nat) : Nat := match rate with | 0 => 12 | 1 => 8 | 2 => 6 | _ => 4

/-- Bit vectors of Z bits added. -/
def xorBits (a b : List Bool) : List Bool := List.zipWith (fun x y => x != y) a b

/-- A vector through the identity shifted right by n. -/
def turn {α : Type} (n : Nat) (l : List α) : List α := l.drop n ++ l.take n

/-- The information part of a base row's checks. -/
def rowSum (z i : Nat) (info : List (List Bool)) : List Bool :=
  (info.zipIdx).foldl (fun acc (u, j) => xorBits acc (turn ((7 * i + 13 * j + 5 * i * j) % z) u))
    (List.replicate z false)

/-- A list cut into pieces of n, the last one shorter. -/
def pieces {α : Type} (n : Nat) : Nat → List α → List (List α)
  | 0, _ => []
  | _, [] => []
  | fuel + 1, l => l.take n :: pieces n fuel (l.drop n)

/-- The parity blocks after the first, row by row: row i gives the block of column kb + i + 1. -/
def parityRest (mb : Nat) (p0 : List Bool) : List (List Bool × Nat) → List Bool → List (List Bool)
  | [], _ => []
  | (row, i) :: rest, prev =>
    let extra := if i = 0 then turn 1 p0 else if i = mb / 2 then p0 else List.replicate p0.length false
    let next := xorBits (xorBits row extra) (if i = 0 then List.replicate p0.length false else prev)
    next :: parityRest mb p0 rest next

/-- The parity bits of kb × Z information bits. -/
def ldpcParity (rate z : Nat) (info : List Bool) : List Bool :=
  let mb := baseRows rate
  let blocks := pieces z 24 info
  let rows := (List.range mb).map (fun i => rowSum z i blocks)
  let p0 := rows.foldl xorBits (List.replicate z false)
  p0 ++ (parityRest mb p0 ((rows.take (mb - 1)).zipIdx) []).flatten

/-- The lifting size for K bits (R372). -/
def liftFor (rate k : Nat) : Nat :=
  let kb := 24 - baseRows rate
  if k ≤ 8 * kb then 8 else if k ≤ 16 * kb then 16 else if k ≤ 32 * kb then 32 else 48

/-- The bits of bytes as they go to the air, least significant bit first. -/
def airBits (l : List Byte) : List Bool := l.flatMap (byteBits true)

/-- A block of bits coded: full codewords, then the remainder without its padding (R372). -/
def codeBits (rate z : Nat) (l : List Bool) : List Bool :=
  let n := (24 - baseRows rate) * z
  (pieces n (l.length / n + 1) l).flatMap (fun w =>
    w ++ ldpcParity rate z (w ++ List.replicate (n - w.length) false))

/-! ### Symbols (R372, R373, R379) -/

/-- N_coded of a payload of LEN bytes (R372). -/
def codedLength (rate len : Nat) : Nat :=
  let k := 8 * (len + 4)
  let z := liftFor rate k
  let mb := baseRows rate
  let n := (24 - mb) * z
  k + (k + n - 1) / n * (mb * z)

/-- N_sym of a payload, or the symbols of an NB payload, with bps bits a symbol (R372). -/
def symbolCount (rate len bps : Nat) : Nat := if bps = 0 then 0 else (codedLength rate len + bps - 1) / bps

/-- The bits per subcarrier of a uniform map (R370). -/
def uniformBits (map : Nat) : Nat := match map with | 0 => 1 | 1 => 2 | 2 => 4 | 3 => 6 | _ => 8

/-- The bits a peer-map code carries (R374). -/
def codeBitsOf (c : BitVec 3) : Nat :=
  match c.toNat with | 1 => 1 | 2 => 2 | 3 => 4 | 4 => 6 | 5 => 8 | _ => 0

/-- The scrambler's seed of a header (R372). -/
def scrambleSeed (h : BitVec 96) : Nat :=
  let v := hfield h 86 80
  if v = 0 then 0x7F else v

/-- The payload's bits on the air: payload and CRC-32 scrambled and coded, the last symbol filled from the
scrambler (R372). -/
def payloadBits (h : BitVec 96) (payload : List Byte) (bps : Nat) : List Bool :=
  let rate := hfield h 10 8
  let data := airBits (payload ++ bytesLE 4 (crc32 payload))
  let k := data.length
  let total := symbolCount rate payload.length bps * bps
  let coded := codedLength rate payload.length
  let gen := seqBits (k + (total - coded)) (scrambleSeed h)
  codeBits rate (liftFor rate k) (xorBits data gen) ++ gen.drop k

/-- One symbol's bits given to the data subcarriers in the order d = 37j mod 96: the groups by d (R373). -/
def spread (loads : List Nat) (l : List Bool) : List (List Bool) :=
  let order := (List.range 96).map (fun j => 37 * j % 96)
  let step (acc : List (Nat × List Bool) × List Bool) (d : Nat) : List (Nat × List Bool) × List Bool :=
    let n := loads.getD d 0
    ((d, acc.2.take n) :: acc.1, acc.2.drop n)
  let got := (order.foldl step ([], l)).1
  (List.range 96).map (fun d => match got.find? (fun e => e.1 == d) with | some e => e.2 | none => [])

/-- Binary of a Gray code, first bit most significant (R366). -/
def grayValue (l : List Bool) : Nat :=
  (l.foldl (fun (acc : Nat × Bool) b => let v := acc.2 != b; (2 * acc.1 + bit v, v)) (0, false)).1

/-- A constellation point before its scale: I and Q levels (R366). -/
def pointOf (l : List Bool) : Int × Int :=
  match l with
  | [] => (0, 0)
  | [b] => (if b then -1 else 1, 0)
  | _ =>
    let m := l.length / 2
    let level (x : List Bool) : Int := ((2 ^ m - 1 : Nat) : Int) - 2 * (grayValue x : Int)
    (level (l.take m), level (l.drop m))

/-- A whole OFDM frame's header and payload symbols as the bits of their 96 data subcarriers, by d (R370, R373). -/
def ofdmGroups (h : BitVec 96) (payload : List Byte) (loads : List Nat) : List (List (List Bool)) :=
  let head := codeBits 0 8 (airBits (bytesLE 12 h.toNat))
  let bps := loads.sum
  let body := payloadBits h payload bps
  (pieces 96 2 head).map (spread (List.replicate 96 1)) ++
    (pieces bps (body.length / max bps 1 + 1) body).map (spread loads)

/-- A Synelle NB frame's header and payload symbols, as the bit groups that QPSK or 8PSK carries (R379). -/
def nbSymbols (h : BitVec 96) (payload : List Byte) (psk8 : Bool) : List (List Bool) :=
  let n := if psk8 then 3 else 2
  let head := codeBits 0 8 (airBits (bytesLE 12 h.toNat))
  let body := payloadBits h payload n
  pieces 2 96 head ++ pieces n (body.length / n + 1) body

/-! ### TOR4200 frames (R380) -/

/-- The convolutional code of constraint length 7, generators 171 and 133 octal. -/
def convCode : Nat → List Bool → List Bool
  | _, [] => []
  | reg, b :: rest =>
    let r := (reg / 2 + 64 * bit b) % 128
    let par (g : Nat) : Bool := popcount (Nat.land r g) % 2 == 1
    par 0x79 :: par 0x5B :: convCode r rest

/-- CRC-16 of LENGTH and payload (R380). -/
def legacyCrc (payload : List Byte) : Nat :=
  crcRun 16 0x1021 true 0xFFFF (bytesLE 2 payload.length ++ payload)

/-- A TOR4200 frame's dibits: preamble, sync, coded block (R380). -/
def legacyBits (sync : Word) (payload : List Byte) : List Bool :=
  let block := airBits (bytesLE 2 payload.length ++ payload ++ bytesLE 2 (legacyCrc payload)) ++ List.replicate 6 false
  (List.replicate 12 [false, false, true, true]).flatten ++ (List.range 32).map sync.getLsbD ++ convCode 0 block

/-! ### Lengths -/

/-- An OFDM frame's length in ns (R367). -/
def ofdmNs (width rate len bps : Nat) : Nat := (7 + symbolCount rate len bps) * tsNs width

/-- Symbols of an NB frame as ns (R379). -/
def nbSymbolsNs (fast : Bool) (n : Nat) : Nat := n * 1000000000 / (if fast then 9600 else 4800)

/-- A Synelle NB frame's length in ns. -/
def nbNs (fast psk8 : Bool) (rate len : Nat) : Nat :=
  nbSymbolsNs fast (32 + 32 + 96 + symbolCount rate len (if psk8 then 3 else 2))

/-- A TOR4200 frame's length in ns (R380). -/
def legacyNs (len : Nat) : Nat := nbSymbolsNs true (24 + 16 + 8 * (len + 4) + 6)

end Sys2Proof.Machine
end

