-- ==== Sys2Proof/Machine/Wave.lean ====
section
/-!
DEFINITION. The signal on the air (R363, R364, R366 to R369, R379, R380, R385): the points of every symbol, the frame's
fields put together, and the samples they make. Numbers are fixed-point integers, 1.0 being 2^30, complex ones in pairs.
-/
namespace Sys2Proof.Machine

/-! ### Fixed-point complex numbers -/

/-- 1.0. -/
def one : Nat := 2 ^ 30

/-- The sum, the difference and the conjugate of complex numbers. -/
def cadd (a b : Int × Int) : Int × Int := (a.1 + b.1, a.2 + b.2)
def csub (a b : Int × Int) : Int × Int := (a.1 - b.1, a.2 - b.2)
def cconj (a : Int × Int) : Int × Int := (a.1, -a.2)

/-- A complex number times r / q. -/
def cscale (r q : Int) (a : Int × Int) : Int × Int := (a.1 * r / q, a.2 * r / q)

/-- The product of two fixed-point numbers. -/
def cfix (a b : Int × Int) : Int × Int := cscale 1 one (cmul a b)

/-- The quotient of two complex numbers as a fixed-point number, 0 where there is none. -/
def cquot (a b : Int × Int) : Int × Int :=
  if csq b = 0 then (0, 0) else cscale one (csq b : Int) (cmul a (cconj b))

/-- The sum of a list of complex numbers. -/
def csum (l : List (Int × Int)) : Int × Int := l.foldl cadd (0, 0)

/-- The sum of the squared magnitudes. -/
def energy (l : List (Int × Int)) : Nat := (l.map csq).sum

/-- The number of magnitude 1.0 in a complex number's direction; 1.0 for 0. -/
def cunit (a : Int × Int) : Int × Int :=
  if csq a = 0 then ((one : Int), 0) else cscale ((one : Int) * one) (isqrt 128 (csq a * one * one)) a

/-- e^(2πi·k/256). -/
def cturn (k : Nat) : Int × Int := cscale 1 (2 ^ 18) (cosStep k, sinStep k)

/-- A complex number's angle in 1/2^n of a turn, from 0: its binary digits, the sign of the imaginary part giving each,
and squaring leading to the next. -/
def turnBits : Nat → Int × Int → Nat
  | 0, _ => 0
  | k + 1, z =>
    let u := cunit z
    bit (decide (u.2 < 0) || (u.2 == 0 && decide (u.1 < 0))) * 2 ^ k + turnBits k (cfix u u)

/-! ### Numerology (R363) -/

/-- The sample rate 1.28 W of a width code, in Hz. -/
def sampleHz (width : Nat) : Nat := widthHz width * 128 / 100

/-- The subcarrier spacing Δf = W / 100 of a width code, in Hz. -/
def spacingHz (width : Nat) : Nat := widthHz width / 100

/-- The points of the DFT, the samples of the cyclic prefix and of the window's overlap. -/
def dftPoints : Nat := 128
def prefixSamples : Nat := 16
def overlapSamples : Nat := 4

/-- The 128 samples that subcarriers make, each given as k + 64 with its value: the inverse DFT, scaled so that 104
subcarriers of unit power make unit mean power. -/
def idft (x : List (Nat × Int × Int)) : List (Int × Int) :=
  (List.range dftPoints).map (fun n =>
    cscale (isqrt 64 (one * one / 104)) one (csum (x.map (fun (k, v) => cfix v (cturn (2 * k * n + 128 * n))))))

/-- A block of samples with what the overlap of the next block takes of it. -/
structure SampleBlock where
  body : List (Int × Int)
  tail : List (Int × Int)
  deriving DecidableEq, Repr

/-- n samples of a useful part repeated, from its sample `start`, and the tail that would go on (R363, R367). -/
def repeated (useful : List (Int × Int)) (start n : Nat) : SampleBlock :=
  let at_ (i : Nat) : Int × Int := useful.getD ((start + i) % useful.length) (0, 0)
  { body := (List.range n).map at_, tail := (List.range overlapSamples).map (fun i => at_ (n + i)) }

/-- The raised cosine's weight of sample i of the overlap, of 1.0 (R363). -/
def windowRise (i : Nat) : Int := ((one : Int) - (cturn (16 * (2 * i + 1))).1) / 2

/-- Blocks joined: the first samples of each prefix rise while the block before falls (R363). -/
def joinBlocks : List (Int × Int) → List SampleBlock → List (Int × Int)
  | _, [] => []
  | before, b :: rest =>
    let front := (b.body.take overlapSamples).zipIdx.map (fun (v, i) =>
      cadd (cscale (windowRise i) one v) (cscale ((one : Int) - windowRise i) one (before.getD i (0, 0))))
    front ++ b.body.drop overlapSamples ++ joinBlocks b.tail rest

/-! ### The points of OFDM symbols (R364, R366, R368, R369) -/

/-- The power of a constellation of c bits before its scale: 1, 2, 10, 42 or 170 (R366). -/
def pointPower (c : Nat) : Nat := match c with | 2 => 2 | 4 => 10 | 6 => 42 | 8 => 170 | _ => 1

/-- One level of a constellation of c bits, scaled (R366). -/
def levelOf (c : Nat) : Nat := isqrt 64 (one * one / pointPower c)

/-- The subcarriers of a map that are on, the 8 pilots included: N_on (R366). -/
def carriersOn (loads : List Nat) : Nat := 8 + (loads.filter (· != 0)).length

/-- The scale of the driven subcarriers, min(√(104 / N_on), √2) (R366). -/
def driveOf (loads : List Nat) : Nat := isqrt 64 (min (104 * one * one / carriersOn loads) (2 * one * one))

/-- The point of a subcarrier's bits, driven at g (R366). -/
def pointAt (g : Nat) (l : List Bool) : Int × Int :=
  let a : Int := ((levelOf l.length * g / one : Nat) : Int)
  let p := pointOf l
  (p.1 * a, p.2 * a)

/-- The pilots' signs in header and payload symbol n, P_k × p_n, with the place of each, as k + 64 (R364). -/
def pilotSigns (n : Nat) : List (Nat × Int) :=
  let p : Int := if (pilotBits (n + 1)).getLastD false then -1 else 1
  pilotCarriers.map (fun (k, plus) => (k, if plus then p else -p))

/-- The 104 used subcarriers of header and payload symbol n, in ascending k: the pilots among the data points (R364). -/
def symbolPoints (n g : Nat) (data : List (Int × Int)) : List (Int × Int) :=
  let step (acc : List (Int × Int) × List (Int × Int)) (k : Nat) : List (Int × Int) × List (Int × Int) :=
    match (pilotSigns n).find? (fun e => e.1 == k) with
    | some e => ((e.2 * (g : Int), 0) :: acc.1, acc.2)
    | none => (acc.2.headD (0, 0) :: acc.1, acc.2.drop 1)
  ((usedCarriers.foldl step ([], data)).1).reverse

/-- A sign as a point. -/
def signPoint (b : Bool) : Int × Int := (if b then (one : Int) else -(one : Int), 0)

/-- The long training symbol's 104 points, L_k (R368). -/
def longPoints : List (Int × Int) := longTraining.map (fun b => signPoint (!b))

/-- The sync symbol's 104 points (R369). -/
def syncPoints (sw : Word) : List (Int × Int) := (syncSigns sw).map signPoint

/-- The short training symbol: 2.0817 × (1 + j) times its signs on k = ±8 to ±48, as k + 64 (R368). -/
def shortPoints : List (Nat × Int × Int) :=
  let a : Int := ((20817 * one / 10000 : Nat) : Int)
  let ks := ((List.range 13).map (fun i => 16 + 8 * i)).filter (· != 64)
  ks.zip (shortTraining.map (fun plus => if plus then (a, a) else (-a, -a)))

/-- Header and payload symbols' driven data points, by symbol (R366). -/
def ofdmPoints (h : BitVec 96) (payload : List Byte) (loads : List Nat) : List (List (Int × Int)) :=
  (ofdmGroups h payload loads).zipIdx.map (fun (sym, n) =>
    sym.map (pointAt (if n < 2 then one else driveOf loads)))

/-- A whole OFDM frame's samples: STS, SYNC, LTS, header and payload (R367). -/
def ofdmWave (sw : Word) (h : BitVec 96) (payload : List Byte) (loads : List Nat) : List (Int × Int) :=
  let sts := repeated ((idft shortPoints).take 16) 0 288
  let sync := repeated (idft (usedCarriers.zip (syncPoints sw))) (dftPoints - prefixSamples) 144
  let lts := repeated (idft (usedCarriers.zip longPoints)) (dftPoints - 2 * prefixSamples) 288
  let body := (ofdmPoints h payload loads).zipIdx.map (fun (data, n) =>
    let g := if n < 2 then one else driveOf loads
    repeated (idft (usedCarriers.zip (symbolPoints n g data))) (dftPoints - prefixSamples) 144)
  joinBlocks [] (sts :: sync :: lts :: body)

/-! ### The points of NB symbols (R379, R380) -/

/-- (1 + j)/√2 times a sign. -/
def diagonal (plus : Bool) : Int × Int :=
  let a : Int := (isqrt 64 (one * one / 2) : Nat)
  if plus then (a, a) else (-a, -a)

/-- The preamble and sync symbols of a Synelle NB frame (R379). -/
def nbTraining (sw : Word) : List (Int × Int) :=
  (List.range 32).map (fun i => diagonal (i % 2 == 0)) ++ (List.range 32).map (fun i => diagonal (!sw.getLsbD i))

/-- The point of an NB symbol's bits: QPSK under R366, or 8PSK at phase 2π × G / 8 (R379). -/
def nbPoint (psk8 : Bool) (l : List Bool) : Int × Int :=
  if psk8 then cturn (32 * grayValue l) else pointAt one (l ++ List.replicate (2 - l.length) false)

/-- The header and payload symbols of a Synelle NB frame: the header's QPSK, then the payload's (R379). -/
def nbBody (h : BitVec 96) (payload : List Byte) (psk8 : Bool) : List (Int × Int) :=
  (nbSymbols h payload psk8).zipIdx.map (fun (l, i) => nbPoint (psk8 && decide (96 ≤ i)) l)

/-- The phase step of a dibit, first bit first, in 1/8 turns (R380). -/
def dibitStep (l : List Bool) : Nat :=
  match l with
  | [false, false] => 1
  | [false, true] => 3
  | [true, true] => 5
  | _ => 7

/-- The phases of TOR4200 symbols, in 1/8 turns, one after each step (R380). -/
def dibitPhases : Nat → List (List Bool) → List Nat
  | _, [] => []
  | p, l :: rest => let q := (p + dibitStep l) % 8; q :: dibitPhases q rest

/-- A TOR4200 frame's symbols (R380). -/
def legacyPoints (sync : Word) (payload : List Byte) : List (Int × Int) :=
  let bits := legacyBits sync payload
  (dibitPhases 0 (pieces 2 bits.length bits)).map (fun p => cturn (32 * p))

/-- The root-raised-cosine pulse of α = 0.2 at n half symbols from its middle, of unit energy, to 8 symbols (R379). -/
def rrcTable : List Int :=
  [ 800785392, 476158011, -39897887, -140266337, 35372681, 64450680, -28649026, -28803244, 20772787, 9266661
  , -12890136, 978005, 6023054, -5167796, -886423, 5524344, -2214256 ]

/-- A list of samples at half-symbol spacing through the root-raised-cosine filter (R379). -/
def rrcFilter (x : List (Int × Int)) : List (Int × Int) :=
  let padded := List.replicate 16 (0, 0) ++ x ++ List.replicate 16 (0, 0)
  (List.range x.length).map (fun n =>
    csum (((padded.drop n).take 33).zipIdx.map (fun (v, i) =>
      cscale (rrcTable.getD (if i < 16 then 16 - i else i - 16) 0) one v)))

/-- An NB frame's samples, two a symbol (R379). -/
def nbWave (points : List (Int × Int)) : List (Int × Int) := rrcFilter (points.flatMap (fun p => [p, (0, 0)]))

/-! ### The envelope of RAMP mode (R385) -/

/-- The amplitude, 255 for the full level, at t ns into a frame of some length: up through the 16 steps, each held for
stepUs, and down through them in reverse at its end (R385). -/
def rampAt (steps : List Nat) (stepUs length t : Nat) : Nat :=
  let hold := stepUs * 1000
  min (steps.getD (t / hold) 255) (steps.getD ((length - 1 - t) / hold) 255)

/-- A wave's samples, each lasting some ns, under the ramp. -/
def ramped (steps : List Nat) (stepUs ns : Nat) (x : List (Int × Int)) : List (Int × Int) :=
  x.zipIdx.map (fun (v, i) => cscale (rampAt steps stepUs (ns * x.length) (ns * i) : Nat) 255 v)

end Sys2Proof.Machine
end

