-- ==== Sys2Proof/Machine/Demod.lean ====
section
/-!
DEFINITION. The receiver's arithmetic (R375 to R377, R379 to R381, R386 to R388): the sync decoded, the channel and the
noise estimated, symbols equalised and decided, the decoders of the LDPC and the convolutional code, the decision-feedback
equaliser, and the figures of quality. Pure functions of what the antenna gives.
-/
namespace Sys2Proof.Machine

/-! ### Decibels (R386, R387) -/

/-- p × log10 (a / b), rounded to the nearest whole number, from 0 to `top`. -/
def logRatio (p top a b : Nat) : Nat :=
  if a = 0 then 0
  else
    let x := a ^ (2 * p)
    let y := b ^ (2 * p)
    ((List.range top).filter (fun k => decide (10 ^ (2 * k + 1) * y ≤ x))).length

/-- -EVM in 0.25 dB of an error's energy against a signal's, saturating at 255 (R386). -/
def evmReport (signal err : Nat) : Nat := logRatio 40 255 signal err

/-- LQI: six times the SNR in dB, rounded, at most 255 (R387). -/
def lqiOf (signal err : Nat) : Nat := logRatio 60 255 signal err

/-- RSSI in 0.25 dBm of samples of power in 10^-18 W: their mean (R387), from -160 dBm. -/
def rssiOf (power : List Nat) : Int := (logRatio 40 1023 (10 * power.sum) power.length : Int) - 640

/-! ### The sync word (R376, R379, R380) -/

/-- The word whose bit i is f i. -/
def syncWordOf (f : Nat → Bool) : Word := BitVec.ofNat 32 (((List.range 32).map (fun i => bit (f i) * 2 ^ i)).sum)

/-- The turn from position n - 1 to position n of a list of values. -/
def turnAt (v : List (Int × Int)) (n : Nat) : Int × Int := cmul (v.getD n (0, 0)) (cconj (v.getD (n - 1) (0, 0)))

/-- The 32 bits a sync is decoded to: the three differential copies of each bit added (R376), BPSK symbols on the diagonal
(R379), or the dibits of the phase steps (R380). -/
def syncBits (h : SyncHeard) : Word :=
  match h.wave with
  | .ofdm => syncWordOf (fun i =>
      decide ((csum [turnAt h.v (i + 1), turnAt h.v (i + 33), turnAt h.v (i + 65)]).1 < 0))
  | .nb => syncWordOf (fun i => let y := h.v.getD i (0, 0); decide (y.1 + y.2 < 0))
  | .tor4200 => syncWordOf (fun i =>
      let z := turnAt h.v (i / 2 + 1)
      if i % 2 = 0 then decide (z.2 < 0) else decide (z.1 < 0))

/-- Whether a frequency offset lies where the sync search finds it: ±4Δf for OFDM (R375), ±3 kHz in NB mode (R379). -/
def acquired (h : SyncHeard) (width : Nat) : Bool :=
  match h.wave with
  | .ofdm => decide (h.offset.natAbs ≤ 4000 * spacingHz width)
  | _ => decide (h.offset.natAbs ≤ 3000000)

/-! ### Channel and noise (R377) -/

/-- The residual turn of frequency between the two long training symbols, a number of magnitude 1.0 (R377). -/
def fineTurn (y1 y2 : List (Int × Int)) : Int × Int := cunit (vdot y2 y1)

/-- The second long training symbol after fine frequency correction (R377). -/
def corrected2 (y1 y2 : List (Int × Int)) : List (Int × Int) :=
  let t := cconj (fineTurn y1 y2)
  y2.map (fun y => cfix y t)

/-- An angle in 1/2^n of a turn as a signed number. -/
def signedTurn (n : Nat) (z : Int × Int) : Int :=
  let t := turnBits n z
  if 2 * t < 2 ^ n then (t : Int) else (t : Int) - 2 ^ n

/-- The fine frequency offset in mHz: the turn over the 128 samples from one symbol to the next (R377). -/
def fineOffset (width : Nat) (y1 y2 : List (Int × Int)) : Int :=
  signedTurn 24 (fineTurn y1 y2) * (1000 * spacingHz width : Nat) / 2 ^ 24

/-- H_k of the 104 used subcarriers, times 12 (R377): (Y1_k + Y2_k) / (2L_k). -/
def channelOf (y1 y2 : List (Int × Int)) : List (Int × Int) :=
  (longTraining.zip (y1.zip y2)).map (fun (b, a, c) => cscale (if b then -6 else 6) 1 (cadd a c))

/-- A run of values each averaged with its two neighbours in the run (R377). -/
def smoothRun : Option (Int × Int) → List (Int × Int) → List (Int × Int)
  | _, [] => []
  | before, x :: rest =>
    let l := before.toList ++ [x] ++ rest.head?.toList
    cscale 1 l.length (csum l) :: smoothRun (some x) rest

/-- The channel estimate with RXCFG.SMOOTH: averaged within the runs k = -52 to -1 and 1 to 52 (R377). -/
def smoothed (on : Bool) (h : List (Int × Int)) : List (Int × Int) :=
  if on then smoothRun none (h.take 52) ++ smoothRun none (h.drop 52) else h

/-- Twice the noise estimate, |Y1_k - Y2_k|², of each used subcarrier (R377). -/
def noiseOf (y1 y2 : List (Int × Int)) : List Nat := (y1.zip y2).map (fun (a, c) => csq (csub a c))

/-- The values of the 96 data subcarriers among those of the 104 used (R364). -/
def dataOnly {α : Type} (l : List α) : List α :=
  ((usedCarriers.zip l).filter (fun e => dataCarriers.contains e.1)).map (·.2)

/-- The ratio |H_k|² over the noise estimate of each data subcarrier, in 1/1,024 (R377, R388). -/
def snrOf (h12 : List (Int × Int)) (noise2 : List Nat) : List Nat :=
  dataOnly ((h12.zip noise2).map (fun (h, n) => 2048 * csq h / (144 * max n 1)))

/-- The delay that the phase slope of the channel estimate shows, in units of TIME (R376): the mean turn from a subcarrier to
the next, over the spacing. -/
def slopeDelay (width : Nat) (h12 : List (Int × Int)) : Int :=
  let turns (run : List (Int × Int)) : List (Int × Int) := (run.zip (run.drop 1)).map (fun (a, b) => cmul b (cconj a))
  let z := csum (turns (h12.take 52) ++ turns (h12.drop 52))
  (0 : Int) - signedTurn 24 z * 2 ^ 8 / (spacingHz width : Nat)

/-! ### Symbols equalised and corrected (R377) -/

/-- Header or payload symbol n equalised, its common phase and timing slope removed by its pilots (R377): the 96 data
values. -/
def equalised (h12 : List (Int × Int)) (n : Nat) (y : List (Int × Int)) : List (Int × Int) :=
  let z : List (Nat × Int × Int) :=
    usedCarriers.zip ((y.zip h12).map (fun (v, h) => cquot (cscale 12 1 v) h))
  let pilots := (pilotSigns n).filterMap (fun (k, sign) =>
    (z.find? (fun e => e.1 == k)).map (fun e => ((k : Int) - 64, cscale sign 1 e.2)))
  let common := cconj (cunit (csum (pilots.map (·.2))))
  let turned := pilots.map (fun (k, v) => (k, cfix v common))
  let slope : Int := (turned.map (fun (k, v) => k * v.2)).sum
  let level : Int := (turned.map (fun (k, v) => k * k * v.1)).sum
  let at_ (k : Nat) : Int × Int := if level ≤ 0 then ((one : Int), 0) else cunit (level, -(slope * ((k : Int) - 64)))
  dataOnly (z.map (fun (k, v) => cfix (cfix v common) (at_ k)))

/-! ### Soft decisions (R366, R373) -/

/-- Every list of m bits. -/
def allBits : Nat → List (List Bool)
  | 0 => [[]]
  | m + 1 => (allBits m).flatMap (fun l => [false :: l, true :: l])

/-- The smallest of some numbers, from a largest. -/
def least (top : Nat) (l : List Nat) : Nat := l.foldl min top

/-- The soft bits of an axis that carries m bits with levels of a: for each bit how much nearer the value lies to a point
with 0 than to one with 1. -/
def axisSoft (m : Nat) (a y : Int) : List Int :=
  let near (l : List Bool) : Nat := (y - (((2 ^ m - 1 : Nat) : Int) - 2 * (grayValue l : Int)) * a).natAbs ^ 2
  let all := (allBits m).map (fun l => (l, near l))
  (List.range m).map (fun b =>
    let best (v : Bool) : Nat := least (2 ^ 256) ((all.filter (fun e => e.1.getD b false == v)).map (·.2))
    (best true : Int) - (best false : Int))

/-- The soft bits of a data subcarrier with c bits, driven at g, weighed by its channel's power. -/
def pointSoft (c g : Nat) (weight : Nat) (y : Int × Int) : List Int :=
  let a : Int := ((levelOf c * g / one : Nat) : Int)
  let l := if c = 0 then [] else if c = 1 then axisSoft 1 a y.1 else axisSoft (c / 2) a y.1 ++ axisSoft (c / 2) a y.2
  l.map (· * (weight : Int))

/-- A symbol's soft bits in the order of the air, d = 37j mod 96 (R373). -/
def gathered (soft : List (List Int)) : List Int :=
  (List.range 96).flatMap (fun j => soft.getD (37 * j % 96) [])

/-- The nearest point of a subcarrier with c bits, driven at g (R386). -/
def nearestPoint (c g : Nat) (y : Int × Int) : Int × Int :=
  let a : Int := ((levelOf c * g / one : Nat) : Int)
  let axis (m : Nat) (v : Int) : Int :=
    let levels := (List.range (2 ^ m)).map (fun i => (((2 ^ m - 1 : Nat) : Int) - 2 * (i : Int)) * a)
    levels.foldl (fun best x => if (v - x).natAbs < (v - best).natAbs then x else best) (levels.headD 0)
  if c = 0 then (0, 0) else if c = 1 then (axis 1 y.1, 0) else (axis (c / 2) y.1, axis (c / 2) y.2)

/-! ### The layered min-sum decoder (R371, R377) -/

/-- The entries of base row i: columns with their shifts (R371). -/
def baseRow (rate z i : Nat) : List (Nat × Nat) :=
  let mb := baseRows rate
  let kb := 24 - mb
  (List.range kb).map (fun j => (j, (7 * i + 13 * j + 5 * i * j) % z))
  ++ (if i = 0 || i = mb - 1 then [(kb, 1)] else if i = mb / 2 then [(kb, 0)] else [])
  ++ (if i = 0 then [] else [(kb + i, 0)]) ++ (if i = mb - 1 then [] else [(kb + i + 1, 0)])

/-- Whether the decided bits of a codeword's blocks meet every check. -/
def checksHold (rate z : Nat) (blocks : List (List Int)) : Bool :=
  let hard := blocks.map (fun b => b.map (fun v => decide (v < 0)))
  (List.range (baseRows rate)).all (fun i =>
    ((baseRow rate z i).foldl (fun acc (j, s) => xorBits acc (turn s (hard.getD j []))) (List.replicate z false)).all
      (fun b => !b))

/-- For each value of a check, the product of the others' signs times the least of the others' magnitudes. -/
def others (l : List Int) : List Int :=
  let odd := (l.filter (fun v => decide (v < 0))).length % 2 == 1
  let two := l.foldl (fun (m : Nat × Nat) v =>
    if v.natAbs < m.1 then (v.natAbs, m.1) else (m.1, min m.2 v.natAbs)) (2 ^ 512, 2 ^ 512)
  l.map (fun v =>
    let mag := if v.natAbs = two.1 then two.2 else two.1
    if odd != decide (v < 0) then -(mag : Int) else (mag : Int))

/-- One layer: the messages of base row i renewed, and the blocks with them. -/
def layer (rate z i : Nat) (blocks msgs : List (List Int)) : List (List Int) × List (List Int) :=
  let entries := baseRow rate z i
  let q := (entries.zip msgs).map (fun ((j, s), m) => List.zipWith (· - ·) (turn s (blocks.getD j [])) m)
  let rows := (List.range z).map (fun r => others (q.map (fun c => c.getD r 0)))
  let new := (List.range entries.length).map (fun e => rows.map (fun row => row.getD e 0))
  let put (bs : List (List Int)) (x : (Nat × Nat) × List Int × List Int) : List (List Int) :=
    bs.set x.1.1 (turn (z - x.1.2) (List.zipWith (· + ·) x.2.1 x.2.2))
  ((entries.zip (q.zip new)).foldl put blocks, new)

/-- At most `fuel` iterations, none once every check holds: the blocks and the iterations used (R377). -/
def minSum (rate z : Nat) : Nat → List (List Int) → List (List (List Int)) → List (List Int) × Nat
  | 0, blocks, _ => (blocks, 0)
  | fuel + 1, blocks, msgs =>
    if checksHold rate z blocks then (blocks, 0)
    else
      let (b, m) := ((List.range (baseRows rate)).zip msgs).foldl
        (fun (acc : List (List Int) × List (List (List Int))) (i, old) =>
          let (b, new) := layer rate z i acc.1 old
          (b, acc.2 ++ [new])) (blocks, [])
      let (out, n) := minSum rate z fuel b m
      (out, n + 1)

/-- A codeword's information bits from its soft bits, and the iterations used. -/
def ldpcDecode (iter rate z : Nat) (soft : List Int) : List Bool × Nat :=
  let none_ := (List.range (baseRows rate)).map (fun i => (baseRow rate z i).map (fun _ => List.replicate z (0 : Int)))
  let (blocks, n) := minSum rate z iter (pieces z 24 soft) none_
  (((blocks.take (24 - baseRows rate)).flatten).map (fun v => decide (v < 0)), n)

/-- The K payload bits of a frame's soft bits, codeword by codeword, the padding known to be 0, and the most iterations that
one has used (R372, R377). -/
def wordsDecode (iter rate z : Nat) : Nat → Nat → List Int → List Bool × Nat
  | 0, _, _ => ([], 0)
  | fuel + 1, k, soft =>
    if k = 0 then ([], 0)
    else
      let n := (24 - baseRows rate) * z
      let mine := min k n
      let parity := baseRows rate * z
      let word := (soft.take mine) ++ List.replicate (n - mine) (2 ^ 400 : Int) ++ (soft.drop mine).take parity
      let (bits, used) := ldpcDecode iter rate z word
      let (rest, most) := wordsDecode iter rate z fuel (k - mine) (soft.drop (mine + parity))
      (bits.take mine ++ rest, max used most)

/-- Bytes of bits in the order of the air. -/
def airBytes (l : List Bool) : List Byte :=
  (pieces 8 l.length l).map (fun b => BitVec.ofNat 8 ((b.zipIdx.map (fun (x, i) => bit x * 2 ^ i)).sum))

/-- The header of 192 soft bits, and the iterations used (R370). -/
def headerDecode (iter : Nat) (soft : List Int) : BitVec 96 × Nat :=
  let (bits, n) := ldpcDecode iter 0 8 soft
  (BitVec.ofNat 96 (natLE (airBytes bits)), n)

/-- The payload, its CRC-32 and the iterations used, of the payload's soft bits under a header (R372). -/
def payloadDecode (iter : Nat) (h : BitVec 96) (soft : List Int) : List Byte × Word × Nat :=
  let rate := hfield h 10 8
  let len := hfield h 30 20
  let k := 8 * (len + 4)
  let (bits, n) := wordsDecode iter rate (liftFor rate k) (k + 1) k soft
  let bytes := airBytes (xorBits bits (seqBits k (scrambleSeed h)))
  (bytes.take len, BitVec.ofNat 32 (natLE (bytes.drop len)), n)

/-! ### What a reception comes to -/

/-- A frame as the receiver has decoded it (R370, R372, R380): a Synelle header with the payload bytes and their CRC-32, or
a TOR4200 block. -/
inductive RxFrame where
  | synelle (hdr : BitVec 96) (payload : List Byte) (crc : Word)
  | legacy (len : Nat) (payload : List Byte) (crc : Nat)
  deriving DecidableEq, Repr

/-- What the receiver has measured of a frame (R376, R377, R381, R386 to R388): -EVM and each group's in 0.25 dB, LQI, the
frequency offset found beside that of the sync, decoder iterations, the signal-to-noise ratio of each data subcarrier in
1/1,024, the delay that refines the stamp, the equaliser's final error and taps. -/
structure RxQuality where
  evm : Nat := 0
  groups : List Nat := []
  lqi : Nat := 0
  cfo : Int := 0
  iters : Nat := 0
  snr : List Nat := []
  delay : Int := 0
  mse : Nat := 0
  taps : List Word := []
  deriving DecidableEq, Repr

/-- The receiver's settings for one frame: SMOOTH and ITER (R377), the width code, the bits of a peer map slot named by a
header, the sync words, and the equaliser's settings and start taps (R381). -/
structure RxSetup where
  smooth : Bool := false
  iter : Nat := 0
  width : Nat := 0
  loads : BitVec 96 → Option (List Nat) := fun _ => none
  sw : Word := 0
  legacySync : Word := 0
  rls : Bool := false
  mu : Nat := 4
  lambda : Nat := 4
  taps : List Word := []

/-- The bits per data subcarrier of a header's map: a peer map's, or uniform. -/
def RxSetup.loadsOf (x : RxSetup) (h : BitVec 96) : Option (List Nat) :=
  if 8 ≤ hfield h 15 12 then x.loads h else some (List.replicate 96 (uniformBits (hfield h 15 12)))

/-- The EVM of an OFDM payload, its groups' and LQI: the sums over the values Y and the points S of each symbol (R386,
R387). -/
def ofdmQuality (loads : List Nat) (y s : List (List (Int × Int))) : Nat × List Nat × Nat :=
  let pairs := (y.zip s).map (fun (a, b) => loads.zip (a.zip b))
  let on := (pairs.flatten).filter (fun e => e.1 != 0)
  let signal := (on.map (fun e => csq e.2.2)).sum
  let err := (on.map (fun e => csq (csub e.2.1 e.2.2))).sum
  let group (g : Nat) : Nat :=
    let l := pairs.flatMap (fun p => (carrierGroup g).filterMap (fun d => p[d]?))
    evmReport (l.length * signal) ((l.map (fun e => csq (csub e.2.1 e.2.2))).sum * on.length)
  (evmReport signal err, (List.range 12).map group, lqiOf signal err)

/-- An OFDM frame received: channel, header, payload and quality (R377, R386, R387). -/
def ofdmReceive (x : RxSetup) (y1 y2 : List (Int × Int)) (symbols : List (List (Int × Int))) : RxFrame × RxQuality :=
  let y2c := corrected2 y1 y2
  let h12 := smoothed x.smooth (channelOf y1 y2c)
  let eq := symbols.zipIdx.map (fun (y, n) => equalised h12 n y)
  let weights := (dataOnly h12).map csq
  let soft (loads : List Nat) (g : Nat) (sym : List (Int × Int)) : List Int :=
    gathered ((loads.zip (weights.zip sym)).map (fun (c, w, y) => pointSoft c g w y))
  let (h, used) := headerDecode x.iter ((eq.take 2).flatMap (soft (List.replicate 96 1) one))
  let q : RxQuality :=
    { cfo := fineOffset x.width y1 y2, iters := used, snr := snrOf h12 (noiseOf y1 y2c), delay := slopeDelay x.width h12 }
  match x.loadsOf h with
  | none => (.synelle h [] 0, q)
  | some loads =>
    let n := symbolCount (hfield h 10 8) (hfield h 30 20) loads.sum
    let g := driveOf loads
    let body := (eq.drop 2).take n
    let (payload, crc, iters) := payloadDecode x.iter h (body.flatMap (soft loads g))
    let ideal :=
      if crc32 payload == crc.toNat then (ofdmPoints h payload loads).drop 2
      else body.map (fun sym => (loads.zip sym).map (fun (c, y) => nearestPoint c g y))
    let (evm, groups, lqi) := ofdmQuality loads body ideal
    (.synelle h payload crc, { q with evm := evm, groups := groups, lqi := lqi, iters := max used iters })

/-! ### The decision-feedback equaliser (R381) -/

/-- The equaliser: 12 feed-forward taps at half-symbol spacing, then 6 feedback taps; and the inverse correlation of RLS,
by rows. -/
structure Dfe where
  w : List (Int × Int)
  p : List (List (Int × Int))
  deriving DecidableEq, Repr

/-- A tap from the word it is saved as, 1.0 being 0x4000, and back. -/
def tapOf (w : Word) : Int × Int := cscale one 0x4000 (signedOf 16 (field w 15 0), signedOf 16 (field w 31 16))
def tapWord (z : Int × Int) : Word :=
  let reg (v : Int) : Nat := unsignedOf 16 (clampSigned 16 (v * 0x4000 / (one : Int)))
  pack [(0, 16, reg z.1), (16, 16, reg z.2)]

/-- The equaliser at a frame's start: feed-forward tap 4 at 1 and the others at 0, or the saved taps; RLS from 100 × I
(R381). -/
def Dfe.start (taps : List Word) : Dfe :=
  { w := if taps.isEmpty then (List.range 18).map (fun i => if i = 4 then ((one : Int), 0) else (0, 0))
         else (List.range 18).map (fun i => tapOf (taps.getD i 0))
    p := (List.range 18).map (fun i => (List.range 18).map (fun j => if i = j then (100 * (one : Int), 0) else (0, 0))) }

/-- The equaliser's output for its 18 inputs. -/
def Dfe.out (e : Dfe) (u : List (Int × Int)) : Int × Int := csum (List.zipWith cfix e.w u)

/-- The equaliser adapted by an error: LMS with step 2^-MU, or RLS with forgetting factor 1 - 2^-LAMBDA (R381). -/
def Dfe.adapt (e : Dfe) (rls : Bool) (mu lambda : Nat) (u : List (Int × Int)) (err : Int × Int) : Dfe :=
  let uc := u.map cconj
  if rls then
    let forget : Int := (one : Int) - (one / 2 ^ lambda : Nat)
    let pu := e.p.map (fun row => csum (List.zipWith cfix row uc))
    let up := (List.range 18).map (fun j => csum (List.zipWith (fun a row => cfix a (row.getD j (0, 0))) u e.p))
    let den := cadd (forget, 0) (csum (List.zipWith cfix u pu))
    let gain := pu.map (fun v => cquot v den)
    { w := List.zipWith (fun w k => cadd w (cfix k err)) e.w gain
      p := List.zipWith (fun row k =>
        List.zipWith (fun a b => cscale one forget (csub a (cfix k b))) row up) e.p gain }
  else { e with w := List.zipWith (fun w a => cadd w (cscale 1 (2 ^ mu) (cfix err a))) e.w uc }

/-- What the equaliser's run leaves: itself, its last six decisions, and its outputs with their points, newest first. -/
structure DfeRun where
  eq : Dfe
  past : List (Int × Int)
  outs : List ((Int × Int) × (Int × Int))
  deriving DecidableEq, Repr

/-- The point nearest to a value. -/
def nearestOf (points : List (Int × Int)) (y : Int × Int) : Int × Int :=
  points.foldl (fun best x => if csq (csub y x) < csq (csub y best) then x else best) (points.headD (0, 0))

/-- The equaliser run over symbols, two samples each: on known symbols where there are any, then on its own decisions among
`points` (R381). The samples given begin 7 before the first symbol's middle. -/
def dfeRun (rls : Bool) (mu lambda : Nat) (points : List (Int × Int)) :
    Nat → List (Int × Int) → List (Int × Int) → DfeRun → DfeRun × List (Int × Int)
  | 0, _, x, r => (r, x)
  | n + 1, known, x, r =>
    let u := (x.take 12).reverse ++ r.past
    let y := r.eq.out u
    let d := known.headD (nearestOf points y)
    dfeRun rls mu lambda points n (known.drop 1) (x.drop 2)
      { eq := r.eq.adapt rls mu lambda u (csub d y), past := (d :: r.past).take 6, outs := (y, d) :: r.outs }

/-- The equaliser trained on a frame's known symbols: its samples filtered, their gain and phase taken out by the known
symbols, and the run that training leaves, with the samples that follow (R379, R381). -/
def dfeTrain (x : RxSetup) (known samples : List (Int × Int)) : DfeRun × List (Int × Int) :=
  let filtered := rrcFilter samples
  let middles := (List.range known.length).map (fun n => filtered.getD (2 * n) (0, 0))
  let gain := cquot (vdot middles known) ((energy known : Nat), 0)
  let ready := List.replicate 7 (0, 0) ++ filtered.map (fun v => cquot v gain) ++ List.replicate 16 (0, 0)
  dfeRun x.rls x.mu x.lambda [] known.length known ready { eq := Dfe.start x.taps, past := List.replicate 6 (0, 0), outs := [] }

/-- The quality an equaliser's run shows after training, against ideal points (R381, R386, R387). -/
def dfeQuality (r : DfeRun) (outs : List ((Int × Int) × (Int × Int))) (iters : Nat) : RxQuality :=
  let signal := (outs.map (fun e => csq e.2)).sum
  let err := (outs.map (fun e => csq (csub e.1 e.2))).sum
  let last := r.outs.take 16
  { evm := evmReport signal err, lqi := lqiOf signal err, iters := iters, taps := r.eq.w.map tapWord
    mse := evmReport (last.map (fun e => csq e.2)).sum (last.map (fun e => csq (csub e.1 e.2))).sum }

/-- The soft bits of an NB symbol with n bits: QPSK's two axes, or how much nearer the eight phases with 0 lie (R379). -/
def nbSoft (psk8 : Bool) (y : Int × Int) : List Int :=
  if psk8 then
    let all := (allBits 3).map (fun l => (l, csq (csub y (nbPoint true l))))
    (List.range 3).map (fun b =>
      let best (v : Bool) : Nat := least (2 ^ 256) ((all.filter (fun e => e.1.getD b false == v)).map (·.2))
      (best true : Int) - (best false : Int))
  else [y.1, y.2]

/-- A Synelle NB frame received: the equaliser's outputs, header and payload (R379, R381). -/
def nbReceive (x : RxSetup) (samples : List (Int × Int)) : RxFrame × RxQuality :=
  let (r0, rest0) := dfeTrain x (nbTraining x.sw) samples
  let (r1, rest1) := dfeRun x.rls x.mu x.lambda ((allBits 2).map (nbPoint false)) 96 [] rest0 { r0 with outs := [] }
  let (h, used) := headerDecode x.iter ((r1.outs.reverse).flatMap (fun e => nbSoft false e.1))
  let psk8 := hfield h 15 12 == 6
  let bits := if psk8 then 3 else 2
  let n := symbolCount (hfield h 10 8) (hfield h 30 20) bits
  let (r2, _) := dfeRun x.rls x.mu x.lambda ((allBits bits).map (nbPoint psk8)) n [] rest1 { r1 with outs := [] }
  let (payload, crc, iters) := payloadDecode x.iter h ((r2.outs.reverse).flatMap (fun e => nbSoft psk8 e.1))
  let outs := r1.outs.reverse ++ r2.outs.reverse
  let judged :=
    if crc32 payload == crc.toNat then (outs.zip (nbBody h payload psk8)).map (fun (e, s) => (e.1, s)) else outs
  (.synelle h payload crc, dfeQuality r2 judged (max used iters))

/-! ### TOR4200 frames (R380, R381) -/

/-- The best path into each of the 64 states, by metric, the newest bit first; one step takes the two soft bits of a
dibit. -/
def viterbiStep (paths : List (Int × List Bool)) (a b : Int) : List (Int × List Bool) :=
  let branch (from_ : Nat) (v : Bool) : Int × List Bool :=
    let p := paths.getD from_ (0, [])
    let out := convCode (2 * from_) [v]
    let gain (soft : Int) (o : Bool) : Int := if o then -soft else soft
    (p.1 + gain a (out.getD 0 false) + gain b (out.getD 1 false), v :: p.2)
  (List.range 64).map (fun t =>
    let v := decide (32 ≤ t)
    let one_ := branch (2 * (t % 32)) v
    let two := branch (2 * (t % 32) + 1) v
    if two.1 > one_.1 then two else one_)

/-- The Viterbi decoder: the bits of the path from state 0 to state 0 that the soft bits favour most (R380). -/
def viterbi (soft : List (Int × Int)) : List Bool :=
  let start : List (Int × List Bool) := (List.range 64).map (fun t => (if t = 0 then 0 else -(2 ^ 200), []))
  let paths := soft.foldl (fun acc (a, b) => viterbiStep acc a b) start
  ((paths.headD (0, [])).2).reverse

/-- A TOR4200 frame received: the rotation of 1/8 turn a symbol removed, the equaliser on four phases, the turns from symbol
to symbol decoded (R380, R381). -/
def legacyReceive (x : RxSetup) (samples : List (Int × Int)) : RxFrame × RxQuality :=
  let still := samples.zipIdx.map (fun (v, i) => cfix v (cturn (256 - (16 * (i + 2)) % 256)))
  let known := ((legacyPoints x.legacySync []).take 40).zipIdx.map (fun (v, n) => cfix v (cturn (256 - (32 * (n + 1)) % 256)))
  let (r0, rest) := dfeTrain x known still
  let count := samples.length / 2 - known.length
  let (r1, _) := dfeRun x.rls x.mu x.lambda ((List.range 4).map (fun k => cturn (64 * k))) count [] rest
    { r0 with outs := [] }
  let outs := r1.outs.reverse
  let values := ((r0.outs.head?).map (·.1)).toList ++ outs.map (·.1)
  let turns := (values.zip (values.drop 1)).map (fun (a, b) => cfix (cmul b (cconj a)) (cturn 32))
  let bits := viterbi (turns.map (fun z => (z.2, z.1)))
  let bytes := airBytes (bits.take (bits.length - 6))
  let len := natLE (bytes.take 2)
  (.legacy len ((bytes.drop 2).take len) (natLE (((bytes.drop 2).drop len).take 2)), dfeQuality r1 outs 0)

/-- A frame received, in the waveform its sync was found in. -/
def frameReceive (x : RxSetup) (legacy : Bool) (f : FrameHeard) : RxFrame × RxQuality :=
  match f with
  | .ofdm y1 y2 symbols => ofdmReceive x y1 y2 symbols
  | .nb samples => if legacy then legacyReceive x samples else nbReceive x samples

end Sys2Proof.Machine
end

