-- ==== Sys2Proof/Machine/Distort.lean ====
section
/-!
DEFINITION. The pre-distorter (R383, R384): its memory polynomial, and the fit of its coefficients to what the training has
captured.
-/
namespace Sys2Proof.Machine

/-- The terms of the polynomial at a sample, newest sample first: x(n-m) × |x(n-m)|^(k-1) with the index i = 5(k-1)+m of its
coefficient, for k = 1 to K and m = 0 to M (R383). -/
def distortTerms (order mem : Nat) (hist : List (Int × Int)) : List (Nat × Int × Int) :=
  (List.range order).flatMap (fun k =>
    (List.range (mem + 1)).map (fun m =>
      let x := hist.getD m (0, 0)
      (5 * k + m, cscale ((isqrt 128 (csq x) : Nat) ^ k) ((one : Int) ^ k) x)))

/-- A coefficient register's value, 1.0 being 0x4000 (R383). -/
def coefOf (w : Word) : Int × Int := (signedOf 16 (field w 15 0), signedOf 16 (field w 31 16))

/-- The pre-distorter's output z(n), hist holding the samples before (R383). -/
def distort (coef : Nat → Word) (order mem : Nat) : List (Int × Int) → List (Int × Int) → List (Int × Int)
  | _, [] => []
  | hist, x :: rest =>
    let h := (x :: hist).take (mem + 1)
    csum ((distortTerms order mem h).map (fun (i, v) => cscale 1 0x4000 (cmul (coefOf (coef i)) v)))
      :: distort coef order mem h rest

/-! ### Linear equations over the complex rationals -/

/-- A complex rational's product, difference and inverse. -/
def rmul (a b : Rat × Rat) : Rat × Rat := (a.1 * b.1 - a.2 * b.2, a.1 * b.2 + a.2 * b.1)
def rsub (a b : Rat × Rat) : Rat × Rat := (a.1 - b.1, a.2 - b.2)
def rinv (a : Rat × Rat) : Rat × Rat :=
  let n := a.1 * a.1 + a.2 * a.2
  (a.1 / n, -a.2 / n)

/-- Elimination on n unknowns: each row's unknowns, then its right side; an unknown that no row holds gives an empty row. -/
def eliminate : Nat → List (List (Rat × Rat)) → List (List (Rat × Rat))
  | 0, _ => []
  | n + 1, rows =>
    match rows.find? (fun r => r.headD (0, 0) != (0, 0)) with
    | none => [] :: eliminate n (rows.map (·.drop 1))
    | some p =>
      let lead := (p.map (rmul (rinv (p.headD (0, 0))))).drop 1
      let rest := (rows.erase p).map (fun r => List.zipWith (fun x y => rsub x (rmul (r.headD (0, 0)) y)) (r.drop 1) lead)
      lead :: eliminate n rest

/-- The unknowns from the eliminated rows, 0 for one that no row holds. -/
def backSolve : List (List (Rat × Rat)) → List (Rat × Rat)
  | [] => []
  | row :: rest =>
    let xs := backSolve rest
    if row.isEmpty then (0, 0) :: xs
    else (List.zipWith rmul row xs).foldl rsub (row.getLastD (0, 0)) :: xs

/-! ### The fit (R384) -/

/-- The PA's output aligned with the pre-distorter's input: the delay, 0 to 63 samples, at which the two agree most. -/
def aligned (input output : List (Int × Int)) : List (Int × Int) :=
  let match_ (d : Nat) : Nat := csq (vdot (output.drop d) input)
  output.drop ((List.range 64).foldl (fun best d => if match_ d > match_ best then d else best) 0)

/-- The PA's output normalised: divided by the gain that brings it nearest to the input. -/
def normalised (input output : List (Int × Int)) : List (Int × Int) :=
  let g := vdot output input
  output.map (fun y => if csq g = 0 then (0, 0) else cscale (energy input : Nat) (csq g : Nat) (cmul y (cconj g)))

/-- One frame of a capture made ready: up to 4,096 samples of the input, and the normalised output beside them. -/
def captured (f : List (Int × Int) × List (Int × Int)) : List (Int × Int) × List (Int × Int) :=
  let out := (aligned (f.1.take 4096) (f.2.take 4096))
  let n := min (f.1.take 4096).length out.length
  let input := f.1.take n
  (input, normalised input (out.take n))

/-- The energy of the normalised outputs less their inputs, and of the inputs: their ratio is NMSE (R384). -/
def fitEnergy (c : DpdCapture) : Nat × Nat :=
  let l := c.frames.map captured
  ((l.map (fun f => energy (List.zipWith csub f.2 f.1))).sum, (l.map (fun f => energy f.1)).sum)

/-- The histories a signal's terms are taken from, sample by sample. -/
def histories (mem : Nat) : List (Int × Int) → List (Int × Int) → List (List (Int × Int))
  | _, [] => []
  | hist, x :: rest => let h := (x :: hist).take (mem + 1); h :: histories mem h rest

/-- The coefficients by least squares under indirect learning: those that bring the terms of the normalised output nearest
to what went into the PA (R384). Each answer is a coefficient's index and value. -/
def fitCoefs (order mem : Nat) (into : List (Int × Int) → List (Int × Int)) (c : DpdCapture) : List (Nat × Word) :=
  let index := (distortTerms order mem []).map (·.1)
  let rows : List (List (Int × Int) × (Int × Int)) := c.frames.flatMap (fun f =>
    let (input, out) := captured f
    ((histories mem [] out).map (fun h => (distortTerms order mem h).map (·.2))).zip (into input))
  let column (i : Nat) : List (Int × Int) := rows.map (fun r => r.1.getD i (0, 0))
  let rat (z : Int × Int) : Rat × Rat := ((z.1 : Rat), (z.2 : Rat))
  let n := index.length
  let normal := (List.range n).map (fun i =>
    (List.range n).map (fun j => rat (vdot (column j) (column i))) ++ [rat (vdot (rows.map (·.2)) (column i))])
  let reg (x : Rat) : Nat := unsignedOf 16 (clampSigned 16 (x * 0x4000 + 1 / 2).floor)
  (index.zip (backSolve (eliminate n normal))).map (fun (i, a) => (i, pack [(0, 16, reg a.1), (16, 16, reg a.2)]))

end Sys2Proof.Machine
end

