-- ==== Sys2Proof/Machine/Phy.lean ====
section
/-!
DEFINITION. The transceiver and the modem (chapter 16): channel, region and power, sending and receiving frames,
capture, measurement of bit maps, the pre-distorter; and the peers a frame is counted against.
-/
namespace Sys2Proof.Machine

/-! ### Peers -/

/-- A peer by its context. -/
def State.peer (s : State) (n : Nat) : Option Peer := Tab.get (fun _ => none) s.link.peers n

/-- A change of the link engine's state. -/
def State.updLink (s : State) (f : Link → Link) : State := { s with link := f s.link }

/-- A peer given a state, or removed. -/
def State.putPeer (s : State) (n : Nat) (p : Option Peer) : State :=
  s.updLink (fun l => { l with peers := Tab.set (fun _ => none) l.peers n p })

/-- A peer changed, if the context holds one. -/
def State.updPeer (s : State) (n : Nat) (f : Peer → Peer) : State :=
  match s.peer n with
  | none => s
  | some p => s.putPeer n (some (f p))

/-- The context of a station that is an admitted peer. -/
def State.peerOf (s : State) (station : Nat) : Option Nat :=
  (s.link.peers.find? (fun e => match e.2 with | some p => p.station.toNat == station | none => false)).map (·.1)

/-- A peer's saturating count. -/
def sat8 (b : BitVec 8) : BitVec 8 := if b = 255 then 255 else b + 1

/-- The own STATION number, and NETID (R300). -/
def State.station (s : State) : Nat := field (s.optLive 11) 15 0
def State.netid (s : State) : Word := s.optLive 8

/-! ### Channel, region and power (R358 to R362) -/

/-- A change of the transceiver's state. -/
def State.updPhy (s : State) (f : Phy → Phy) : State := { s with phy := f s.phy }

/-- FREQ, CFG and RXCFG in force: while a frame lasts during which they were written, FREQ, WIDTH, MODE, NBTYPE and NBRATE
are those from before (R359). -/
def State.radioRegs (s : State) : Word × Word × Word :=
  let cfg := s.rg 0x28 0x044
  let rxcfg := s.rg 0x29 0x040
  match s.phy.inForce with
  | none => (s.rg 0x28 0x040, cfg, rxcfg)
  | some (f, c, r) => (f, setField cfg 2 0 (field c 2 0), setField rxcfg 3 0 (field r 3 0))

/-- A region's band, widths and maximum power in dBm; none for reception only (R361). -/
def regionRule (code : Nat) : Option (Nat × Nat × Nat × Nat) :=
  match code with
  | 1 => some (150000000, 174000000, 0x03, 37)
  | 2 => some (406100000, 470000000, 0x07, 37)
  | 3 => some (928000000, 960000000, 0x3F, 30)
  | 4 => some (150000000, 960000000, 0x3F, 37)
  | _ => none

/-- The region code in force. -/
def State.regionCode (s : State) : Nat := field (s.optLive 9) 7 0

/-- Whether RADIO can send and receive: both PHY pages READY, awake, GRANARY available, no ride-through (R18, R95, R389,
R417). -/
def State.radioUp (s : State) : Bool :=
  s.ready 0x28 && s.ready 0x29 && !s.unavailable .radio && s.pwr.depth == .awake && s.granaryUp && !flag (s.rg 0x05 0x120) 0

/-- The receiver is on: RADIO up with a channel and nothing being sent (R358, R359). -/
def State.receiving (s : State) : Bool := s.radioUp && s.rg 0x28 0x040 != 0 && s.phy.tx.isNone

/-- RFXCVR.STAT, its levels and READY.DEGRADED follow (R361, R389, R391, R463). -/
def State.refreshRadio (s : State) : State :=
  let s1 := s.updRg 0x28 0x04C (fun w =>
    setFlag (setFlag (setFlag (setFlag (setFlag w 0 (s.radioUp && s.radioRegs.1 != 0)) 1 s.phy.tx.isSome) 2
      s.phy.rx.isSome) 3 (s.rg 0x28 0x040 == 0)) 5 (!s.pwr.vpa))
  let s2 := (((s1.evLevel 0x28 0 s1.phy.tx.isSome).evLevel 0x28 1 s1.phy.rx.isSome).evLevel 0x28 2
    (flag (s1.rg 0x28 0x04C) 4)).evLevel 0x28 3 (!s1.pwr.vpa)
  let s3 := if s2.receiving then s2.updPhy (fun p => { p with rssiOpen := true }) else s2
  s3.setDegraded 0x28 (decide (s3.regionCode ≥ 5) || !s3.pwr.vpa || s3.pwr.lost)

/-- RSSI_NOW is about to be read: it is renewed each 1 ms while the receiver is on, so what it then holds is a free value,
and once the receiver is off it stays (R391). -/
def State.sampleRssi (s : State) : State :=
  if s.phy.rssiOpen || s.receiving then
    let (w, s1) := s.draw
    (s1.setRg 0x28 0x05C (w &&& 0xFFFF)).updPhy (fun p => { p with rssiOpen := s.receiving })
  else s

/-- A setting that a frame in progress keeps until it ends (R359). -/
def State.keepInForce (s : State) : State :=
  if s.phy.tx.isSome || s.phy.rx.isSome then s.updPhy (fun p => { p with inForce := some s.radioRegs }) else s

/-- The channel centre and the width set: a channel other than before ends REGION_BLOCK (R359, R361). -/
def State.setChannel (s : State) (freq width : Nat) : State :=
  let same := field (s.rg 0x28 0x040) 29 0 = freq ∧ field (s.rg 0x28 0x044) 2 0 = width
  let s1 := (s.keepInForce.setRg 0x28 0x040 (BitVec.ofNat 32 freq)).updRg 0x28 0x044 (fun w => setField w 2 0 width)
  if same then s1 else s1.updRg 0x28 0x04C (fun w => setFlag w 4 false)

/-- The link engine is enabled. -/
def State.linkEn (s : State) : Bool := flag (s.rg 0x2A 0x008) 0

/-- A FREQ write that has reached the register (R358, R359): a new channel ends REGION_BLOCK (R361). -/
def freqEffect (v : Word) (s : State) : State × Code :=
  let hz := field v 29 0
  if hz ≠ 0 && (hz < 150000000 || hz > 960000000) then (s, .arg)
  else if s.linkEn then (s, .state)
  else ((s.setChannel hz (field (s.rg 0x28 0x044) 2 0)).refreshRadio, .done)

/-- An RFXCVR.CFG write (R359, R382). -/
def rfCfgEffect (v : Word) (s : State) : State × Code :=
  if s.phy.tx.isSome then (s, .state)
  else if s.linkEn && field v 2 0 != field (s.rg 0x28 0x044) 2 0 then (s, .state)
  else
    (((s.setChannel (field (s.rg 0x28 0x040) 29 0) (field v 2 0)).setRg 0x28 0x044 (v &&& 0x7F)).refreshRadio, .done)

/-- The highest LEVEL that CFG allows, in 0.5 dB (R362). -/
def State.levelMax (s : State) : Int := if flag (s.rg 0x28 0x044) 3 then 120 else 40

/-- A TXPWR write (R362, R382). -/
def txpwrEffect (v : Word) (s : State) : State × Code :=
  let level := signedOf 8 (field v 7 0)
  if level < -20 || level > s.levelMax then (s, .arg)
  else if s.phy.tx.isSome then (s, .state)
  else (s.setRg 0x28 0x048 (v &&& 0xFFFF), .done)

/-- A write of RAMPk, RAMP_CFG or DPDCi (R382). -/
def shapeRegEffect (off : Nat) (v : Word) (s : State) : State × Code :=
  if s.phy.tx.isSome then (s, .state) else s.plainWrite .core 0x28 off v

/-- A MODEM.RXCFG write (R359, R380). -/
def rxcfgModemEffect (v : Word) (s : State) : State × Code :=
  let old := s.rg 0x29 0x040
  if field v 2 1 = 2 && !flag v 3 then (s, .arg)
  else if s.linkEn && field v 3 0 != field old 3 0 then (s, .state)
  else (s.keepInForce.setRg 0x29 0x040 (v &&& 0x1FFFFFFF), .done)

/-- The power a frame is sent at, in 0.5 dB, and whether it is below LEVEL (R362, R382). -/
def State.txPower (s : State) (nb : Bool) : Int × Bool :=
  let level := signedOf 8 (field (s.rg 0x28 0x048) 7 0)
  let region : Int := match regionRule s.regionCode with | some (_, _, _, p) => 2 * (p : Int) | none => 2 * 37
  let cfg := s.rg 0x28 0x044
  let pamode := field cfg 5 4
  let linear : Int := if nb then 36 else 28
  let cap : Int :=
    if flag cfg 3 then 20 + (field (s.rg 0x28 0x048) 15 8 : Int)
    else if pamode = 0 then (if flag (s.rg 0x28 0x068) 0 then 40 else linear)
    else if pamode = 1 then (if nb then 40 else linear)
    else linear
  let p := min level (min region cap)
  (p, decide (p < level))

/-- A channel's region judgement: reception only, blocked, or allowed (R361). -/
def State.regionAllows (s : State) (nb : Bool) (width : Nat) : Bool :=
  match regionRule s.regionCode with
  | none => false
  | some (lo, hi, widths, _) =>
    let hz := s.radioRegs.1.toNat
    decide (lo ≤ hz) && decide (hz ≤ hi) && widths.testBit (if nb then 0 else width)

/-! ### Sending (R359, R367) -/

/-- A frame's length on the air, in ns. -/
def TxFrame.ns (f : TxFrame) : Nat :=
  let rate := hfield f.hdr 10 8
  let len := f.payload.length
  if f.legacy then legacyNs len
  else if f.nb then nbNs f.rate9600 f.psk8 rate len
  else ofdmNs f.width rate len f.bits.sum

/-- From a frame's first sample to the end of its sync, in ns: STS and SYNC, 64 NB symbols or 40 TOR4200 symbols (R367,
R379, R380). -/
def TxFrame.stampNs (f : TxFrame) : Nat :=
  if f.legacy then nbSymbolsNs true 40 else if f.nb then nbSymbolsNs f.rate9600 64 else 3 * tsNs f.width

/-- The stamp of a sent frame: the end of its sync at RF_TX or RF_DRV (R376). -/
def TxFrame.stamp (f : TxFrame) : Stamp := f.since + BitVec.ofNat 64 (nsTime f.stampNs)

/-- Whether the pre-distorter is applied: PAMODE 0 with valid coefficients (R382). -/
def State.distorting (s : State) : Bool := field (s.rg 0x28 0x044) 5 4 == 0 && flag (s.rg 0x28 0x068) 0

/-- Samples through the pre-distorter as it is set (R383). -/
def State.distorted (s : State) (x : List (Int × Int)) : List (Int × Int) :=
  if s.distorting then
    distort (fun i => s.rg 0x28 (0x200 + 4 * i)) (field (s.rg 0x28 0x064) 2 0) (field (s.rg 0x28 0x064) 5 3) [] x
  else x

/-- The 16 amplitudes of RAMP0 to RAMP3 (R385, R391). -/
def State.rampSteps (s : State) : List Nat :=
  (List.range 16).map (fun i => field (s.rg 0x28 (0x070 + 4 * (i / 4))) (8 * (i % 4) + 7) (8 * (i % 4)))

/-- The sync word of this network, in a frame's symbols (R369). -/
def State.sw (s : State) : Word := syncWord s.netid (s.optLive 10)

/-- The samples of a frame as they leave the transmitter, of unit mean power: its waveform, in RAMP mode under the ramp
where it is NB, and through the pre-distorter where that is applied (R367, R379, R380, R382, R383, R385). -/
def State.txSamples (s : State) (f : TxFrame) : List (Int × Int) :=
  let base :=
    if f.legacy then nbWave (legacyPoints (s.rg 0x29 0x048) f.payload)
    else if f.nb then nbWave (nbTraining s.sw ++ nbBody f.hdr f.payload f.psk8)
    else ofdmWave s.sw f.hdr f.payload f.bits
  let ramp := f.nb && field (s.rg 0x28 0x044) 5 4 == 1
  s.distorted
    (if ramp then ramped s.rampSteps (field (s.rg 0x28 0x080) 7 0) (nbSymbolsNs f.rate9600 1 / 2) base else base)

/-- A level of a ball of VIO_B: high-impedance, none, while the bank's supply is absent (R77, R544). -/
def State.bankB (s : State) (v : Bool) : Option Bool := if s.pwr.vioB then some v else none

/-- RF_TRSW: high while a frame is sent (R360). -/
def State.rfTrsw (s : State) : Option Bool := s.bankB s.phy.tx.isSome

/-- RF_PAEN with an external PA: up from the request of a frame, 20 µs before its first sample, to 10 µs after its last
(R362; that a request comes 20 µs before its frame: DEDUCED, log entry 1604). -/
def State.rfPaen (s : State) : Option Bool :=
  s.bankB (flag (s.rg 0x28 0x044) 3 && (s.phy.request.isSome || s.phy.tx.isSome
    || (match s.phy.paOff with | some t => decide (s.now.toNat < t.toNat) | none => false)))

/-- RF_DRV's level while a frame is sent to an external PA, in 0.5 dB: the power sent less EXT_GAIN (R362). -/
def State.rfDrv (s : State) : Option Int :=
  match s.phy.tx with
  | some f => if flag (s.rg 0x28 0x044) 3 then some (f.power - (field (s.rg 0x28 0x048) 15 8 : Int)) else none
  | none => none

/-- A reception in progress is abandoned (R359). -/
def State.abandonRx (s : State) : State :=
  match s.phy.rx with
  | none => s
  | some _ =>
    (s.updPhy (fun p => { p with rx := none, inForce := if p.tx.isSome then p.inForce else none })).updRg 0x29 0x08C
      (fun w => satField w 15 0 1)

/-- What the transceiver makes of a requested frame: it is sent, the region forbids it, or it cannot be sent now. -/
inductive TxTaken where
  | sent | blocked | down
  deriving DecidableEq, Repr

/-- The transceiver takes a frame up: not without channel, supply or clock; refused by the region's rules; otherwise it
is sent, and a reception in progress is abandoned, so that settings written during it apply (R358, R359, R361, R389). -/
def State.startTx (s : State) (f : TxFrame) : State × TxTaken :=
  let t := s.abandonRx
  if !s.radioUp || s.phy.tx.isSome || t.radioRegs.1 = 0 || !s.pwr.vpa || s.pwr.lost
      || (f.legacy && s.rg 0x29 0x048 == 0) then (s, .down)
  else if (regionRule s.regionCode).isNone then (s, .blocked)
  else if !t.regionAllows f.nb f.width then
    ((s.updRg 0x28 0x04C (fun w => setFlag w 4 true)).refreshRadio, .blocked)
  else
    let (p, low) := t.txPower f.nb
    let s1 := (t.updRg 0x28 0x04C (fun w => setFlag w 6 low)).updPhy (fun x =>
      { x with tx := some { f with power := p, since := s.now } })
    (s1.refreshRadio, .sent)

/-- The frame being sent ends: PAEN falls, and it counts for the pre-distorter (R359, R384). -/
def State.stopTx (s : State) (f : TxFrame) : State :=
  let s1 := s.reach (f.since + BitVec.ofNat 64 (nsTime f.ns))
  (s1.updPhy (fun p =>
    { p with
      tx := none, inForce := none
      paOff := some (s1.now + BitVec.ofNat 64 (usTime 10)), stamped := some f.stamp
      sentFor := p.sentFor + nsTime f.ns
      train := p.train.map (fun t => { t with frames := t.frames + 1 }) })).refreshRadio

/-! ### Receiving (R375 to R378) -/

/-- The receiver's gain in dB for a frame of some power, 0.25 dBm: the signal lies 26 dB below clipping (R375, R391). -/
def rxGain (power : Int) : Nat := min 255 (Config.rxClip - 26 - power / 4).toNat

/-- The peer that the link engine expects a frame of: the one whose acknowledgement it awaits, and in the beacon period the
parent (R381; DEDUCED, log entry 1605). -/
def State.expectedPeer (s : State) : Option Peer :=
  (match s.link.wait with
   | some w => some w.peer
   | none => if s.link.dataPeriod then none else s.link.parent).bind s.peer

/-- The taps the equaliser starts from: those saved for the peer expected, with DFE_WARM; else none, the fixed ones
(R381). -/
def State.startTaps (s : State) : List Word :=
  if flag (s.rg 0x29 0x040) 15 then ((s.expectedPeer).map (·.taps)).getD [] else []

/-- A frame's reception begins: a backoff in progress is drawn anew after it (R400, R401). -/
def State.beginRx (s : State) (h : SyncHeard) (power : Int) (errs : Nat) (captured : Bool) : State :=
  let (_, cfg, _) := s.radioRegs
  let nb := h.wave != .ofdm
  let r : Reception :=
    { stamp := s.now, power := power, captured := captured, syncErr := errs, nb := nb, width := field cfg 2 0
      legacy := h.wave == .tor4200, offset := h.offset, taps := if nb then s.startTaps else [] }
  let s1 := (s.updPhy (fun p => { p with rx := some r })).updRg 0x29 0x080 (fun w => satField w 15 0 1)
  let s2 := (s1.setRg 0x28 0x05C (BitVec.ofNat 32 (unsignedOf 16 power))).updRg 0x28 0x04C
    (fun w => setField w 15 8 (rxGain power))
  ((s2.evPulse 0x29 0).updLink (fun l => { l with backoff := none })).refreshRadio

/-- A stronger frame captures the receiver (R378). -/
def State.capture (s : State) (src : Option Nat) : State :=
  let s1 := (s.updRg 0x29 0x088 (fun w => satField w 15 0 1)).evPulse 0x29 3
  match src with
  | none => s1.updRg 0x29 0x088 (fun w => satField w 31 16 1)
  | some st =>
    match s1.peerOf st with
    | none => s1
    | some n => s1.updPeer n (fun p => { p with caploss := sat8 p.caploss })

/-- Whether TOR4200 frames are searched for: in that mode, or, where CFG.LEGACY_EN is 1, in the link engine's data period
beside the Synelle frames; never while LEGACY_SYNC is 0 (R380, R414; how the receiver is shared is not stated, DESIGN
CHOICE, log entry 1701). -/
def State.seeksLegacy (s : State) : Bool :=
  let rxcfg := s.radioRegs.2.2
  s.rg 0x29 0x048 != 0
  && ((flag rxcfg 0 && field rxcfg 2 1 == 2) || (s.linkEn && flag (s.rg 0x2A 0x040) 3 && s.link.dataPeriod))

/-- The bit errors of a sync word heard, if it is accepted: the waveform is searched for, its offset lies in the acquisition
range, and it matches within SYNC_TOL (R375, R376, R379, R380, R414). -/
def State.syncMatch (s : State) (h : SyncHeard) : Option Nat :=
  let (_, cfg, rxcfg) := s.radioRegs
  let errs := popcount (syncBits h ^^^ (if h.wave = .tor4200 then s.rg 0x29 0x048 else s.sw)).toNat
  let sought := match h.wave with
    | .ofdm => !flag rxcfg 0
    | .nb => flag rxcfg 0 && field rxcfg 2 1 != 2
    | .tor4200 => s.seeksLegacy
  if sought && acquired h (field cfg 2 0) && decide (errs ≤ field rxcfg 6 4) then some errs else none

/-- P_cur: the RSSI over the LTS of the frame in progress, once its LTS has ended; till then, and in NB, where RSSI is that of
the sync, the power at its sync (R378, R387). -/
def Reception.level (r : Reception) (soFar : FrameSoFar) : Int :=
  if soFar.lts.isEmpty then r.power else rssiOf soFar.lts

/-- A sync word heard: accepted within SYNC_TOL, and during a frame only as a capture; one accepted in the link engine's
backoff counts there (R376, R378, R400). -/
def State.syncSeen (s : State) (h : SyncHeard) (power : Int) (soFar : FrameSoFar) : State :=
  let (freq, _, rxcfg) := s.radioRegs
  if !s.radioUp || freq = 0 || s.phy.tx.isSome then s
  else
    match s.syncMatch h, s.phy.rx with
    | none, _ => s
    | some errs, none =>
      let s1 := s.beginRx h power errs false
      if soFar.backoff then s1.updRg 0x2A 0x08C (fun w => satField w 15 0 1) else s1
    | some errs, some r =>
      if flag rxcfg 7 && power ≥ r.level soFar + 4 * (field rxcfg 12 8 : Int) then
        (s.capture (soFar.src.map (·.toNat))).beginRx h power errs true
      else s

/-- The peer's map slot a header names, when its generation agrees (R374). -/
def State.mapFor (s : State) (h : BitVec 96) : Option BitMap :=
  match (s.peerOf (hfield h 47 32)).bind s.peer with
  | none => none
  | some p =>
    let m := if hfield h 15 12 = 8 then p.map0 else p.map1
    match m with
    | some b => if b.gen = hfield h 19 16 then some b else none
    | none => none

/-- The registers that show the last frame whose header passed (R392). -/
def State.showFrame (s : State) (r : Reception) (h : BitVec 96) (q : RxQuality) (rssi : Int) (ok : Bool) : State :=
  let word (i : Nat) : Word := BitVec.ofNat 32 (h.toNat >>> (32 * i))
  let s1 := ((s.setRg 0x29 0x050 (word 0)).setRg 0x29 0x054 (word 1)).setRg 0x29 0x058 (word 2)
  let s2 := (s1.setRg 0x29 0x05C (pack [(0, 8, q.evm), (8, 8, q.lqi), (16, 16, unsignedOf 16 rssi)])).setPair 0x29 0x060
    r.stamp
  let s3 := (s2.setRg 0x29 0x068 (BitVec.ofInt 32 (r.offset + q.cfo))).setRg 0x29 0x06C
    (pack [(0, 1, bit ok), (1, 1, bit r.captured), (2, 1, bit (decide (q.lqi < 120))), (3, 1, bit r.nb),
      (4, 5, q.iters), (9, 3, r.syncErr)])
  if r.nb then s3
  else
    (List.range 3).foldl
      (fun acc k => acc.setRg 0x29 (0x070 + 4 * k)
        (pack ((List.range 4).map (fun j => (8 * j, 8, q.groups.getD (4 * k + j) 0))))) s3

/-- DFE_STAT shows the equaliser's final error of an NB frame (R381, R392). -/
def State.showDfe (s : State) (r : Reception) (q : RxQuality) : State :=
  if r.nb then s.setRg 0x29 0x094 (BitVec.ofNat 32 q.mse) else s

/-- The equaliser's final taps saved for a peer, in the RADIO region (R262, R381). -/
def State.saveTaps (s : State) (station : Nat) (q : RxQuality) : State :=
  match s.peerOf station with
  | some n => if (s.region 2).isSome then s.updPeer n (fun p => { p with taps := q.taps }) else s
  | none => s

/-- A MEASURE in progress takes a frame of its peer (R388). -/
def State.measureFrame (s : State) (src : Nat) (q : RxQuality) : State :=
  match s.phy.measure with
  | none => s
  | some m =>
    if m.frames != 0 && (s.peerOf src) == some m.peer then
      let m1 : Measure :=
        { m with frames := m.frames - 1
                 sums := (List.range 96).map (fun d => m.sums.getD d 0 + q.snr.getD d 0) }
      s.updPhy (fun p => { p with measure := some m1 })
    else s

/-- The reception is over. -/
def State.endRx (s : State) : State :=
  (s.updPhy (fun p => { p with rx := none, inForce := if p.tx.isSome then p.inForce else none })).refreshRadio

/-- A frame goes to the link engine, which takes none while it is disabled, and drops a TYPE it does not know
(R402). -/
def State.deliver (s : State) (d : Delivered) : State :=
  if !s.linkEn || (!d.legacy && decide (hfield d.hdr 7 4 > 3)) then s
  else s.updLink (fun l => { l with inbox := l.inbox ++ [d] })

/-- When a frame's last symbol ended, from its stamp (R367, R376, R379). -/
def frameEnd (r : Reception) (h : BitVec 96) (fast : Bool) (bps : Nat) : Stamp :=
  let rate := hfield h 10 8
  let len := hfield h 30 20
  let ns :=
    if r.nb then nbSymbolsNs fast (96 + symbolCount rate len (if hfield h 15 12 = 6 then 3 else 2))
    else (4 + symbolCount rate len bps) * tsNs r.width
  r.stamp + BitVec.ofNat 64 (nsTime ns)

/-- What a delivered frame carries of its reception: stamp, RSSI, EVM, LQI and STAMP_POOR (R377). -/
def deliveredOf (r : Reception) (q : RxQuality) (rssi : Int) : Delivered :=
  { stamp := r.stamp, evm := q.evm, lqi := q.lqi, stampPoor := decide (q.lqi < 120), rssi := BitVec.ofInt 16 rssi
    width := r.width, nb := r.nb, legacy := r.legacy }

/-- The reception with its stamp refined by the phase slope of the channel estimate (R376). -/
def Reception.refined (r : Reception) (q : RxQuality) : Reception :=
  { r with stamp := r.stamp + BitVec.ofInt 64 q.delay }

/-- A received Synelle frame judged and delivered (R377). -/
def State.judgeSynelle (s : State) (r : Reception) (h : BitVec 96) (payload : List Byte) (crc : Word)
    (q : RxQuality) (rssi : Int) : State :=
  if !headerOk h r.nb then ((s.showDfe r q).updRg 0x29 0x080 (fun w => satField w 31 16 1)).endRx
  else
    let map := hfield h 15 12
    let peerMap := !r.nb && decide (8 ≤ map)
    let slot := s.mapFor h
    let bps := if peerMap then ((slot.map (fun b => (b.codes.map codeBitsOf).sum)).getD 0) else 96 * uniformBits map
    let crcOk := payload.length == hfield h 30 20 && crc32 payload == crc.toNat
    let src := hfield h 47 32
    let fast := flag s.radioRegs.2.2 3
    let d (mark : RxMark) (body : List Byte) : Delivered :=
      { deliveredOf r q rssi with
        mark := mark, hdr := h, payload := body, ended := if mark = .mapMiss then s.now else frameEnd r h fast bps }
    let shown (ok : Bool) : State := (s.showDfe r q).showFrame r h q rssi ok
    if peerMap && slot.isNone then
      let s1 := (shown false).updRg 0x29 0x084 (fun w => satField w 31 16 1)
      let s2 := match s1.peerOf src with
        | some n => s1.updPeer n (fun p => { p with mapmiss := sat8 p.mapmiss })
        | none => s1
      s2.endRx.deliver (d .mapMiss [])
    else if !crcOk then
      (((shown false).updRg 0x29 0x084 (fun w => satField w 15 0 1)).evPulse 0x29 2).endRx.deliver (d .bad [])
    else
      let s1 := (shown true).evPulse 0x29 1
      (if r.nb then s1.saveTaps src q else s1.measureFrame src q).endRx.deliver (d .ok payload)

/-- A received TOR4200 block judged and delivered (R380, R381, R414). -/
def State.judgeLegacy (s : State) (r : Reception) (len : Nat) (payload : List Byte) (crc : Nat) (q : RxQuality)
    (rssi : Int) : State :=
  let s0 := s.showDfe r q
  if len < 1 || len > 512 || payload.length != len || legacyCrc payload != crc then
    ((s0.updRg 0x29 0x084 (fun w => satField w 15 0 1)).evPulse 0x29 2).endRx
  else
    ((s0.evPulse 0x29 1).saveTaps (natLE (payload.take 2)) q).endRx.deliver
      { deliveredOf r q rssi with payload := payload, ended := s.now }

/-- The receiver's settings for the frame being received (R371, R374, R377, R380, R381). -/
def State.rxSetup (s : State) (r : Reception) : RxSetup :=
  let w := s.rg 0x29 0x040
  { smooth := flag w 13, iter := field w 28 24, width := r.width
    loads := fun h => (s.mapFor h).map (fun b => b.codes.map codeBitsOf)
    sw := s.sw, legacySync := s.rg 0x29 0x048, rls := flag w 14, mu := field w 19 16, lambda := field w 23 20
    taps := r.taps }

/-- A frame heard to its end, decoded and measured (R377, R380, R381). -/
def State.received (s : State) (r : Reception) (f : FrameHeard) : RxFrame × RxQuality :=
  frameReceive (s.rxSetup r) r.legacy f

/-- A decoded frame judged and delivered, its stamp refined (R376, R377, R380). -/
def State.judge (s : State) (r : Reception) (x : RxFrame × RxQuality) (rssi : Int) : State :=
  match x.1 with
  | .synelle h payload crc => s.judgeSynelle (r.refined x.2) h payload crc x.2 rssi
  | .legacy len payload crc => s.judgeLegacy r len payload crc x.2 rssi

/-! ### MEASURE (R388, R390) -/

/-- The SNR thresholds of a rate, in 0.25 dB (R388). -/
def snrThresholds (rate : Nat) : List Nat :=
  match rate with
  | 0 => [4, 16, 40, 62, 84]
  | 1 => [10, 22, 46, 70, 92]
  | 2 => [14, 26, 50, 74, 98]
  | _ => [18, 30, 54, 80, 104]

/-- The code of a subcarrier whose ratio has summed to v / 1,024 over n frames (R388). -/
def codeFor (rate margin n v : Nat) : BitVec 3 :=
  let reached := (snrThresholds rate).filter (fun t =>
    decide (v ^ 40 ≥ 10 ^ (t + margin) * (n * 1024) ^ 40))
  BitVec.ofNat 3 reached.length

/-- The next generation of a map (R412). -/
def nextGen (m : Option BitMap) : Nat := match m with | some b => if b.gen ≥ 15 then 1 else b.gen + 1 | none => 1

/-- The map that carries frames from a peer to this station: 0 from the lower STATION to the higher (R412). -/
def State.inMap (s : State) (p : Peer) : Nat := if p.station.toNat < s.station then 0 else 1

/-- A peer's map slot. -/
def Peer.map (p : Peer) (k : Nat) : Option BitMap := if k = 0 then p.map0 else p.map1

/-- A peer's map slot given a map. -/
def Peer.withMap (p : Peer) (k : Nat) (m : BitMap) : Peer :=
  if k = 0 then { p with map0 := some m } else { p with map1 := some m }

/-- Whether MEASURE's arguments are in range (R390). -/
def measureArgs (k : Slot) : Bool :=
  let a := k.arg 0
  decide (1 ≤ field a 11 8) && decide (field a 22 16 ≤ 80) && decide (1 ≤ field (k.arg 1) 9 0)
  && decide (field (k.arg 1) 9 0 ≤ 600)

/-- MEASURE reaches the modem: ended at once, or in progress (R390). FRAMES is 1 to 16, with 0 not in range. -/
def State.measureBegin (s : State) (tag : Nat) : State :=
  let k := s.slot tag
  let a := k.arg 0
  if !measureArgs k then s.setResult tag .arg
  else if !s.ready 0x29 then s.setResult tag .notReady
  else if (s.peer (field a 7 0)).isNone || flag (s.rg 0x29 0x040) 0 then s.setResult tag .state
  else if (s.region 2).isNone then s.setResult tag .busy
  else
    let m : Measure :=
      { tag := BitVec.ofNat 7 tag, peer := field a 7 0, frames := field a 11 8, since := s.now }
    s.updPhy (fun p => { p with measure := some m })

/-- MEASURE ends with its frames in: the map, MEAS_RES and the proposal (R388). -/
def State.measureEnd (s : State) (tag : Nat) (m : Measure) : State :=
  let k := s.slot tag
  let a := k.arg 0
  let rate := field a 13 12
  let codes := (List.range 96).map (fun d => codeFor rate (field a 22 16) (field a 11 8) (m.sums.getD d 0))
  let valid := decide (24 ≤ (codes.filter (fun c => c != 0)).length)
  let s1 := (s.updPhy (fun p => { p with measure := none })).setRg 0x29 0x090
    (pack [(0, 10, (codes.map codeBitsOf).sum), (10, 2, rate), (12, 1, bit valid), (16, 8, m.peer)])
  let s2 :=
    if flag a 24 && valid then
      s1.updPeer m.peer (fun p =>
        { p with prop := some { gen := nextGen (p.map (s.inMap p)), rate := rate, codes := codes } })
    else s1
  (s2.evPulse 0x29 4).setResult tag (if valid then .done else .medium)

/-! ### The pre-distorter (R383, R384, R390) -/

/-- A capture fitted: its NMSE recorded, and the coefficients of ORDER and MEM written when it is at or below -NMSE_TGT and
they are wanted (R384). -/
def State.fitDpd (s : State) (c : DpdCapture) (apply : Bool) : State × Bool :=
  let (err, input) := fitEnergy c
  let cfg := s.rg 0x28 0x064
  let good := decide (0 < input) && decide (10 ^ field cfg 15 8 * err ^ 10 ≤ input ^ 10)
  let s1 := s.updRg 0x28 0x068 (fun w => satField (setField w 15 8 (logRatio 10 255 input err)) 31 16 1)
  let s2 :=
    if good && apply then
      ((fitCoefs (field cfg 2 0) (field cfg 5 3) s.distorted c).foldl
        (fun acc (i, w) => acc.setRg 0x28 (0x200 + 4 * i) w) s1).updRg 0x28 0x068 (fun w => setFlag w 0 true)
    else s1
  (((s2.updPhy (fun p => { p with sentFor := 0 })).evPulse 0x28 4), good)

/-- DPD_TRAIN reaches the transceiver (R390). -/
def State.trainBegin (s : State) (tag : Nat) : State :=
  let k := s.slot tag
  let n := field (k.arg 0) 4 0
  if n < 1 || n > 16 then s.setResult tag .arg
  else if !s.ready 0x28 then s.setResult tag .notReady
  else if field (s.rg 0x28 0x044) 5 4 != 0 then s.setResult tag .state
  else s.updPhy (fun p => { p with train := some { tag := BitVec.ofNat 7 tag, since := s.now } })

/-- DPD_TRAIN's end: its frames captured and fitted, between frames, or 60 s without them (R384, R390). -/
def State.trainEnd (s : State) (tag : Nat) (t : Training) (c : DpdCapture) : State :=
  let k := s.slot tag
  let n := field (k.arg 0) 4 0
  let clear (x : State) : State := x.updPhy (fun p => { p with train := none })
  if t.frames < n then
    (clear (s.reach (t.since + BitVec.ofNat 64 (secTime 60)))).setResult tag .timeout
  else if s.phy.tx.isSome then s
  else
    let (s1, good) := (clear s).fitDpd { frames := c.frames.take n } (flag (k.arg 0) 8)
    s1.setResult tag (if good then .done else .medium)

/-! ### Commands -/

/-- FREQ_WRITE (R358). -/
def execFreqWrite (m : Master) (v : Word) (s : State) : Host.Outcome State Fault Refusal :=
  .next (s.write m 0x28 0x040 v (freqEffect v))

/-- SYNC_ACCEPT (R376). -/
def execSyncAccept (heard : SyncHeard) (power : BitVec 16) (soFar : FrameSoFar) (s : State) :
    Host.Outcome State Fault Refusal :=
  .next (s.syncSeen heard power.toInt soFar)

/-- FRAME_DELIVERY (R377): the frame being received ends, is decoded and judged. -/
def execFrameDelivery (f : FrameHeard) (q : List Nat) (s : State) : Host.Outcome State Fault Refusal :=
  .next
    (match s.phy.rx, f with
     | some r, .ofdm _ _ _ => if r.nb then s else s.judge r (s.received r f) (rssiOf q)
     | some r, .nb _ => if r.nb then s.judge r (s.received r f) (rssiOf q) else s
     | none, _ => s)

/-- DPD_TRAIN (R390). -/
def execDpdTrain (tag : Fin 128) (f : DpdCapture) (s : State) : Host.Outcome State Fault Refusal :=
  .next
    (if s.running tag.val 0x28 1 then
      match s.phy.train with
      | some t => if t.tag.toNat = tag.val then s.trainEnd tag.val t f else s
      | none => s
    else s)

/-- DPD_AUTO_RETRAIN (R384): 600 s of transmitting, or the PA more than 10 °C or 100 mV from the last fit. -/
def execDpdAutoRetrain (celsius millivolts : Nat) (f : DpdCapture) (s : State) : Host.Outcome State Fault Refusal :=
  .next
    (if flag (s.rg 0x28 0x064) 6 && s.ready 0x28 && s.phy.tx.isNone
        && (decide (s.phy.sentFor ≥ secTime 600) || decide (celsius > 10) || decide (millivolts > 100)) then
      (s.fitDpd f true).1
    else s)

/-- VPA_RETURN (R389). -/
def execVpaReturn (s : State) : Host.Outcome State Fault Refusal :=
  .next
    (if s.pwr.vpa then s
    else State.refreshRadio (({ s with pwr := { s.pwr with vpa := true } } : State).supplyBack [13, 14]))

end Sys2Proof.Machine
end

