-- ==== Sys2Proof/Machine/Peers.lean ====
section
/-!
DEFINITION. The link engine's books (R393, R397, R398, R400, R402, R403, R407 to R412): superframe place, peers'
costs, the parent, the next hop, strangers, the RADIO region's room, frames under a peer's key, and how a message
or its hop ends.
-/
namespace Sys2Proof.Machine

/-! ### The station -/

/-- NCFG.MASTER: this station is the network time master. -/
def State.timeMaster (s : State) : Bool := flag (s.rg 0x07 0x04C) 1

/-- EST_ERR now: 100 ns per hop while LOCKED (R191); in HOLDOVER and ACQUIRE the last value grown by 50 ns a second,
2,000 in GUARD (R192). -/
def State.estErr (s : State) : Nat :=
  let base := (s.rg 0x07 0x05C).toNat
  match s.time.dstate with
  | .free => base
  | .locked => 100 * s.time.depth
  | _ =>
    let rate := if s.pwr.depth == .guard then 2000 else 50
    min 0xFFFFFFFF (base + (s.now - s.time.estAt).toNat * rate / 2 ^ 32)

/-- EST_ERR brought up to date, so that a change of state or rate starts from it. -/
def State.syncEst (s : State) : State :=
  let s1 := s.setRg 0x07 0x05C (BitVec.ofNat 32 s.estErr)
  { s1 with time := { s1.time with estAt := s1.now } }

/-- STAT.SLOTSYNC (R393). -/
def State.slotSync (s : State) : Bool := s.time.dstate == .locked || s.timeMaster

/-- Whether the link runs: enabled, READY, RADIO up, which needs GRANARY (R18, R393, R417). -/
def State.linkUp (s : State) : Bool := s.linkEn && s.ready 0x2A && s.ready 0x2B && s.radioUp

/-- Whether the station may send: it is the master, or has a parent and has heard one since the link was enabled; any other
station only listens (R393, R397). -/
def State.mayTalk (s : State) : Bool :=
  s.linkUp && (s.timeMaster || (s.link.parent.isSome && s.link.heard))

/-! ### Costs and parents (R397) -/

/-- The LQI average of a peer's last accepted frames. -/
def Peer.lqi (p : Peer) : Nat := if p.lqis.isEmpty then 0 else p.lqis.sum / p.lqis.length

/-- The link cost c. -/
def Peer.linkCost (p : Peer) : Nat := if p.lqi ≥ 160 then 1 else 1 + (160 - p.lqi + 15) / 16

/-- The cost of the route through a peer, saturating. -/
def Peer.through (p : Peer) : Nat := min 0xFFFF (p.cost + p.linkCost)

/-- NEIGH: a frame of the peer was accepted within the last 3 superframes (R410). -/
def Peer.near (p : Peer) : Bool := p.neigh && decide (p.age < 3)

/-- Whether a peer may be parent. -/
def Peer.candidate (p : Peer) : Bool :=
  p.router && decide (2 ≤ ((p.beacons.take 3).filter id).length) && decide (80 ≤ p.lqi) && decide (p.depth ≤ 7)

/-- Peers with their contexts. -/
def State.peerList (s : State) : List (Nat × Peer) :=
  s.link.peers.filterMap (fun e => e.2.map (fun p => (e.1, p)))

/-- The candidate of lowest cost, then depth, then STATION, among those that satisfy p. -/
def State.bestParent (s : State) (p : Nat → Bool) : Option Nat :=
  ((s.peerList.filter (fun e => e.2.candidate && p e.1)).foldl
    (fun (best : Option (Nat × Peer)) e =>
      match best with
      | none => some e
      | some b =>
        let key (x : Peer) : Nat := x.through * 2 ^ 24 + x.depth * 2 ^ 16 + x.station.toNat
        if key e.2 < key b.2 then some e else some b) none).map (·.1)

/-- The own depth, 15 for none, and COST. -/
def State.depthCost (s : State) : Nat × Nat :=
  if s.timeMaster then (0, 0)
  else
    match s.link.parent.bind s.peer with
    | some p => (p.depth + 1, p.through)
    | none => (15, 0)

/-- The buffers the delivery pool has, those still out after EN fell included (R409). -/
def State.poolFrames (s : State) : Nat :=
  if flag (s.rg 0x2A 0x05C) 5 || !s.link.bufs.isEmpty then field (s.rg 0x2A 0x05C) 11 8 else 0

/-- Frames of the RADIO region the engine itself uses: one for each message it sends, relays or puts together (the
manual leaves the layout open). -/
def State.linkFrames (s : State) : Nat := s.link.msgs.length + s.link.reasm.length

/-- Whether the RADIO region has room for one more. -/
def State.linkRoom (s : State) : Bool := decide (s.linkFrames + s.poolFrames < (s.framesOf 2).length)

/-- LINK.STAT, RXUSE, MGMT and MGMT_OPEN follow (R421). -/
def State.refreshLink (s : State) : State :=
  let (depth, cost) := s.depthCost
  let par := s.link.parent
  let relay := (s.link.msgs.filter (fun m => m.kind == .relay)).length
  let s1 := s.setRg 0x2A 0x050
    (pack [(0, 4, depth), (4, 1, bit s.slotSync), (5, 1, bit par.isSome), (8, 8, par.getD 0), (16, 16, cost)])
  let s2 := s1.setRg 0x2A 0x064
    (pack [(0, 4, s.link.bufs.length), (8, 8, relay), (16, 8, s.link.msgs.length - relay)])
  let s3 := s2.updRg 0x2A 0x068 (fun w =>
    setField (setFlag (setFlag w 0 s.link.mgmt.isSome) 1 (flag (s.optWord 16) 2)) 15 8
      ((s.link.mgmt.map (·.peer)).getD 0))
  s3.evLevel 0x2A 4 s.link.mgmt.isSome

/-- A change of parent (R397). -/
def State.setParent (s : State) (n : Option Nat) : State :=
  if s.link.parent = n then s
  else
    let s1 := s.updLink (fun l =>
      { l with parent := n, missed := 0, newParent := true
               peers := l.peers.map (fun e => (e.1, e.2.map (fun p => { p with streak := 0 }))) })
    ((s1.evPulse 0x2A 1).pulse 0xB1).refreshLink

/-- A peer's frame is accepted (R397, R410, R421). -/
def State.acceptFrame (s : State) (n : Nat) (d : Delivered) : State :=
  (s.updPeer n (fun p =>
    { p with lqis := (d.lqi :: p.lqis).take 8, seen := d.stamp, neigh := true, age := 0 })).updRg 0x2A 0x084
    (fun w => satField w 15 0 1)

/-! ### Strangers (R411) -/

/-- A frame of a stranger entered: reasons 1 UNKNOWN, 2 AUTH, 3 LEGACY. -/
def State.stranger (s : State) (station reason : Nat) (d : Delivered) : State :=
  let get (k : Nat) : Option Stranger := Tab.get (fun _ => none) s.link.strangers k
  let put (k : Nat) (e : Stranger) : State :=
    s.updLink (fun l => { l with strangers := Tab.set (fun _ => none) l.strangers k (some e) })
  let st : BitVec 16 := BitVec.ofNat 16 station
  match (List.range 16).find? (fun k => match get k with | some e => e.station == st | none => false) with
  | some k =>
    match get k with
    | some e =>
      put k { e with count := sat8 e.count, reason := reason, rssi := d.rssi, lqi := d.lqi, latest := d.stamp }
    | none => s
  | none =>
    let slot :=
      match (List.range 16).find? (fun k => (get k).isNone) with
      | some k => k
      | none =>
        (List.range 16).foldl (fun best k =>
          match get k, get best with
          | some e, some b => if e.latest < b.latest then k else best
          | _, _ => best) 0
    (((put slot { station := st, count := 1, reason := reason, rssi := d.rssi, lqi := d.lqi, first := d.stamp
                  latest := d.stamp }).evPulse 0x2A 3).pulse 0xB3)

/-- The stranger entry of a station removed (R410). -/
def State.dropStranger (s : State) (station : BitVec 16) : State :=
  s.updLink (fun l => { l with strangers := l.strangers.filter (fun e =>
    match e.2 with | some x => x.station != station | none => false) })

/-! ### The next hop (R398) -/

/-- The next hop for a FINAL station with its REASON, none when there is no route. -/
def State.nextHop (s : State) (final : Nat) : Option (Nat × Nat) :=
  let pin := (List.range 8).find? (fun k =>
    let w := s.rg 0x2B (0x090 + 4 * k)
    flag w 31 && field w 15 0 == final && (s.peer (field w 23 16)).isSome)
  match pin with
  | some k => some (field (s.rg 0x2B (0x090 + 4 * k)) 23 16, 1)
  | none =>
    let direct := (s.peerOf final).bind (fun n =>
      match s.peer n with | some p => if p.near || p.legacy then some n else none | none => none)
    match direct with
    | some n => some (n, 2)
    | none =>
      match s.link.down.find? (fun e => e.orig == final && (s.peer e.via).isSome) with
      | some e => some (e.via, 3)
      | none => s.link.parent.map (fun n => (n, 4))

/-- A ROUTE placement record (R271, R398). -/
def State.routeRecord (s : State) (m : Msg) (hop reason : Nat) (from_ : Nat) : State :=
  let subject := match m.kind with | .own t => t.toNat | .mapset t => t.toNat | .relay => 0xFF
  s.place 10 reason subject hop from_ (pack [(0, 16, m.final), (16, 4, m.hops)])

/-! ### Messages -/

/-- A message of the engine changed. -/
def State.updMsg (s : State) (id : Nat) (f : Msg → Msg) : State :=
  s.updLink (fun l => { l with msgs := l.msgs.map (fun m => if m.id = id then f m else m) })

/-- A message put in the engine's order. -/
def State.addMsg (s : State) (m : Msg) : State :=
  (s.updLink (fun l =>
    { l with msgs := l.msgs ++ [{ m with id := l.nextId, since := s.now }], nextId := l.nextId + 1 })).refreshLink

/-- An own message that ended otherwise than DONE (R418). -/
def State.sendFail (s : State) (c : Code) : State :=
  if c = .done then s else (s.evPulse 0x2A 5).pulse 0xB5

/-- A message ends: its operation completes, a relayed one that fails is dropped (R399, R406). -/
def State.finishMsg (s : State) (m : Msg) (c : Code) : State :=
  let s1 := s.updLink (fun l =>
    { l with msgs := l.msgs.filter (fun x => x.id != m.id)
             wait := match l.wait with | some w => if w.id = m.id then none else some w | none => none })
  match m.kind with
  | .own t => ((s1.setResult t.toNat c).sendFail c).refreshLink
  | .mapset t => ((s1.setResult t.toNat c).updPeer m.hop (fun p => { p with negotiating := false })).refreshLink
  | .relay =>
    (if c = .done then s1
     else (s1.updRg 0x2A 0x088 (fun w => satField w 31 16 1)).evPulse 0x2A 6).refreshLink

/-- Whether a queued message is another fragment of a relayed one, bound for the same hop. -/
def Msg.sameRelay (m x : Msg) : Bool :=
  m.kind == .relay && x.kind == .relay && x.orig == m.orig && x.seq == m.seq && x.hop == m.hop

/-- A message's hop has failed: it is replaced once by another candidate parent, lowest cost first, which the other
fragments of a relayed message follow too, those queued and those that come (R398, R406). -/
def State.failHop (s : State) (m : Msg) : State :=
  let next := if m.before.isSome then none else s.bestParent (· != m.hop)
  match m.kind, next with
  | .mapset _, _ => s.finishMsg m (if m.noroute then .medium else .timeout)
  | _, some n =>
    let s1 := s.updLink (fun l =>
      { l with routes := if m.kind = .relay then
          l.routes.map (fun r => if r.1 == m.orig && r.2.1 == m.seq then (r.1, r.2.1, n) else r) else l.routes
               msgs := l.msgs.map (fun x => if x.id != m.id && m.sameRelay x then
                 { x with hop := n, before := some m.hop, attempts := 0, mapFails := 0, ctr := none, wave := none }
                 else x) })
    (s1.updMsg m.id (fun x =>
      { x with hop := n, before := some m.hop, attempts := 0, mapFails := 0, ctr := none, wave := none })).routeRecord
      m n 5 m.hop
  | _, none => s.finishMsg m (if m.noroute then .medium else .timeout)

/-- A fragment has been acknowledged: the next one, or the message is done. -/
def State.advanceMsg (s : State) (m : Msg) : State :=
  let s1 := if m.kind = .relay then s.updRg 0x2A 0x088 (fun w => satField w 15 0 1) else s
  if m.bodies.length ≤ 1 then s1.finishMsg m .done
  else
    s1.updMsg m.id (fun x =>
      { x with bodies := x.bodies.drop 1, frag := x.frag + 1, attempts := 0, mapFails := 0, ctr := none, wave := none })

/-! ### Frames under a peer's key (R402, R403, R405) -/

/-- The nonce of a frame: sender, receiver, CTR, TYPE, NETID. -/
def State.frameNonce (s : State) (from_ heir ctr typ : Nat) : List Byte :=
  bytesLE 2 from_ ++ bytesLE 2 heir ++ bytesLE 4 ctr ++ bytesLE 1 typ ++ bytesLE 4 s.netid.toNat

/-- A peer's key, of the length its ADMIT named. -/
def State.peerKey (s : State) (p : Peer) : Option (List Byte) :=
  (s.linkKey p.key).bind (fun k => if k.length = (if p.aes256 then 32 else 16) then some k else none)

/-- The map that carries frames to a peer. -/
def State.outMap (s : State) (p : Peer) : Nat := if s.station < p.station.toNat then 0 else 1

/-- How frames to a peer are sent: MAP, MAPGEN, RATE and bits per subcarrier (R402, R406). -/
def State.waveFor (s : State) (p : Peer) : Nat × Nat × Nat × List Nat :=
  let d := s.rg 0x2A 0x048
  let uniform := (field d 11 8, 0, field d 6 4, List.replicate 96 (uniformBits (field d 11 8)))
  if p.fallback then uniform
  else
    match p.map (s.outMap p) with
    | some b => (8 + s.outMap p, b.gen, b.rate, b.codes.map codeBitsOf)
    | none => uniform

/-- The own power in whole dBm, as a header carries it. -/
def State.ownDbm (s : State) (nb : Bool) : Int := (s.txPower nb).1 / 2

/-- A DATA (1) or MAPSET (3) frame of a message's first fragment to its hop, under the peer's key (R403). -/
def State.dataFrame (s : State) (m : Msg) (p : Peer) (key : List Byte) (ctr : Nat) : TxFrame :=
  let typ := match m.kind with | .mapset _ => 3 | _ => 1
  let body := m.bodies.headD []
  let (map, gen, rate, bits) := if p.fallback then s.waveFor p else m.wave.getD (s.waveFor p)
  let hdr := makeHeader typ rate map gen (body.length + 20) s.station p.station.toNat (s.ownDbm false)
  let link := bytesLE 2 m.orig ++ bytesLE 2 m.final ++
    [BitVec.ofNat 8 m.seq, BitVec.ofNat 8 (m.frag + 16 * (m.nfrag - 1)), BitVec.ofNat 8 (m.hops + 16 * bit m.mgmt), 0]
  let nonce := s.frameNonce s.station p.station.toNat ctr typ
  { why := .msg m.id, hdr := hdr
    payload := link ++ bytesLE 4 ctr ++ ccmCtr key nonce body ++ ccmTag 8 key nonce (headerBytes hdr ++ link) body
    width := field (s.rg 0x2A 0x048) 2 0, bits := bits }

/-- An ACK frame (R405). -/
def State.ackFrame (s : State) (a : AckDue) (p : Peer) (key : List Byte) : TxFrame :=
  let hdr := makeHeader 2 0 1 0 16 s.station p.station.toNat (s.ownDbm a.nb)
  let first := [BitVec.ofNat 8 a.seq, BitVec.ofNat 8 a.frag, BitVec.ofNat 8 (bit a.hold + 2 * bit a.noroute), 0]
    ++ bytesLE 4 a.ctr.toNat
  let mic := ccmTag 8 key (s.frameNonce s.station p.station.toNat a.ctr.toNat 2) (headerBytes hdr ++ first) []
  { why := .ack, hdr := hdr, payload := first ++ mic, nb := a.nb, width := a.width, bits := List.replicate 96 2 }

/-- What a DATA or MAPSET frame carries once its MIC agrees. -/
structure Opened where
  orig : Nat := 0
  final : Nat := 0
  seq : Nat := 0
  frag : Nat := 0
  nfrag : Nat := 1
  hops : Nat := 0
  mgmt : Bool := false
  ctr : Word := 0
  body : List Byte := []
  deriving DecidableEq, Repr

/-- A DATA or MAPSET frame opened under its sender's key; none when its MIC fails (R403, R404). -/
def State.openFrame (s : State) (d : Delivered) (p : Peer) : Option Opened :=
  match s.peerKey p with
  | none => none
  | some key =>
    let l := d.payload
    let link := l.take 8
    let b (i : Nat) : Nat := (l.getD i 0).toNat
    let ctr := natLE ((l.drop 8).take 4)
    let nonce := s.frameNonce p.station.toNat s.station ctr (hfield d.hdr 7 4)
    let enc := (l.drop 12).take (l.length - 20)
    let body := ccmCtr key nonce enc
    if l.length < 20 || ccmTag 8 key nonce (headerBytes d.hdr ++ link) body != l.drop (l.length - 8) then none
    else
      some { orig := b 0 + 256 * b 1, final := b 2 + 256 * b 3, seq := b 4, frag := b 5 % 16, nfrag := b 5 / 16 + 1
             hops := b 6 % 16, mgmt := (l.getD 6 0).getLsbD 4, ctr := BitVec.ofNat 32 ctr, body := body }

/-! ### Fragments (R400, R407) -/

/-- The longest frame, in ns (R400). -/
def State.longestNs (s : State) : Nat :=
  let n := field (s.rg 0x2A 0x048) 23 16 * 10000000
  if s.regionCode = 3 then min n 400000000 else n

/-- The fragment size for a message of n bytes: the smallest count of at most 16 whose fragments and frames are not
too long (R407). -/
def State.fragSize (s : State) (n : Nat) : Option Nat :=
  let d := s.rg 0x2A 0x048
  ((List.range 16).find? (fun i =>
    let size := (n + i) / (i + 1)
    decide (size ≤ 16 * field d 31 24)
    && decide (ofdmNs (field d 2 0) (field d 6 4) (size + 20) (96 * uniformBits (field d 11 8)) ≤ s.longestNs))).map
    (fun i => (n + i) / (i + 1))

end Sys2Proof.Machine
end

