-- ==== Sys2Proof/Machine/Time.lean ====
section
/-!
DEFINITION. TIME (chapter 08): its ticks, steps and what they move, snapshots, alarms, and network discipline; the
task inputs of the event fabric as latches (R225).
-/
namespace Sys2Proof.Machine

/-! ### Task inputs (R225) -/

/-- A task input. -/
def State.task (s : State) (k : Nat) : Task := Tab.get (fun _ => {}) s.fab.tasks k

/-- A task input given a state. -/
def State.putTask (s : State) (k : Nat) (t : Task) : State :=
  { s with fab := { s.fab with tasks := Tab.set (fun _ => {}) s.fab.tasks k t } }

/-- The wave and depth a task's held trigger carries. -/
def Task.carried (t : Task) : Nat × Nat := (t.wave.toNat, t.depth)

/-- A task's trigger is taken by its block. -/
def State.clearTask (s : State) (k : Nat) : State :=
  s.putTask k { s.task k with held := false, wave := 0, depth := 0 }

/-- A task's trigger is discarded and counted in LOST (R226). -/
def State.loseTask (s : State) (k : Nat) : State :=
  let t := s.task k
  s.putTask k { t with held := false, wave := 0, depth := 0, lost := if t.lost = 255 then 255 else t.lost + 1 }

/-! ### Ticks (R176) -/

/-- The units a slew may have removed after k ticks at SLEW_PPM. -/
def slewUnits (ppm k : Nat) : Int := ((k * 2 ^ 32 * ppm / (160000000 * 1000000) : Nat) : Int)

/-- One tick of the time clock (R176, R188). -/
def State.timeTick (s : State) : State :=
  match s.time.src with
  | .tcxo =>
    let k := s.time.ticks
    let base : Int := tcxoUnits s.ratePpb (k + 1) - tcxoUnits s.ratePpb k
    let ppm := field (s.rg 0x07 0x050) 31 24
    let room := slewUnits ppm (k + 1) - slewUnits ppm k
    let part := if s.time.slew ≥ 0 then min s.time.slew room else -(min (-s.time.slew) room)
    let now := s.now + BitVec.ofInt 64 (max 0 (base - part))
    { s with time := { s.time with
        now := now, slew := s.time.slew - part, ticks := if hiWord now = hiWord s.now then k + 1 else 0 } }
  | .crystal =>
    let n := s.time.ticks + 1
    let due := s.time.base + BitVec.ofNat 64 (crystalUnits s.xtalPpb n)
    { s with time := { s.time with now := if 0 < (due - s.now).toInt then due else s.now, ticks := n } }
  | .rc => { s with time := { s.time with now := s.now + 537, ticks := 0 } }

/-- The crystal is measured against the TCXO, in RUN, IDLE and STANDBY: XTAL_PPB is what the measurement gives now, a
free value (R192). -/
def State.measureXtal (s : State) : State :=
  if s.pwr.tcxo && s.pwr.xtal && (s.pwr.depth == .awake || s.pwr.depth == .standby) then
    let (w, s1) := s.draw
    s1.setRg 0x07 0x064 w
  else s

/-! ### Steps (R131, R178) -/

/-- A wait that was set as a length of time moves with a step. -/
def shifted (d : Stamp) (t : Stamp) : Stamp := t + d

/-- The ports' waits move with a step. -/
def Port.shift (d : Stamp) (x : Port) : Port :=
  { x with
    stage := match x.stage with
      | .settling t => .settling (t + d)
      | .testing t => .testing (t + d)
      | .waiting t => .waiting (t + d)
      | q => q
    since := x.since + d, periodFrom := x.periodFrom.map (· + d), widthFrom := x.widthFrom.map (· + d) }

/-- The link's waits, the start of its superframe, and the stamps of the beacon exchanges move with a step (R188, R393;
DESIGN CHOICE, log entry 802). -/
def Link.shift (d : Stamp) (l : Link) : Link :=
  { l with
    frame := l.frame + d, offset := l.offset + loWord d, beaconAt := l.beaconAt.map (· + d)
    beaconBefore := l.beaconBefore.map (· + d)
    peers := l.peers.map (fun e => (e.1, e.2.map (fun p =>
      { p with beaconAt := p.beaconAt + d, beaconBefore := p.beaconBefore + d })))
    down := l.down.map (fun e => { e with learned := e.learned + d })
    reasm := l.reasm.map (fun e => { e with first := e.first + d })
    msgs := l.msgs.map (fun m => { m with since := m.since + d })
    acks := l.acks.map (fun a => { a with due := a.due + d })
    wait := l.wait.map (fun w => { w with due := w.due + d })
    mgmt := l.mgmt.map (fun m => { m with last := m.last + d })
    autoAt := l.autoAt + d }

/-- The waits of the transceiver and the modem move with a step. -/
def Phy.shift (d : Stamp) (p : Phy) : Phy :=
  { p with
    tx := p.tx.map (fun f => { f with since := f.since + d }), paOff := p.paOff.map (· + d)
    measure := p.measure.map (fun m => { m with since := m.since + d })
    train := p.train.map (fun t => { t with since := t.since + d }) }

/-- A count's start moves with a step. -/
def Wdt.shift (d : Stamp) (w : Wdt) : Wdt := { w with since := w.since + d }

/-- Every wait of the device that runs for a length of time, not until a TIME value, moves with a step: the lease, the
claim window and a handover, resets, sleep and exit, watchdogs, heartbeats, moderation, checkpoints, waves, ports and
sensor buses, memory errors, sessions, the log writer, the radio and the link, and the host port. Stamps already taken
stay as they are (R178). -/
def State.shiftWaits (s : State) (d : Stamp) : State :=
  let o := s.own
  let p := s.pwr
  { s with
    own := { o with
      window := o.window.map (· + d), due := o.due + d, handover := o.handover.map (fun h => (h.1, h.2 + d)) }
    pwr := { p with
      resets := p.resets.map (fun r => { r with due := r.due + d })
      sleep := p.sleep.map (fun r => { r with due := r.due + d })
      exit := p.exit.map (fun r => (r.1, r.2 + d)), settle := p.settle.map (fun r => (r.1 + d, r.2))
      began := p.began.map (fun e => (e.1, e.2 + d)) }
    svc := { s.svc with
      normal := s.svc.normal.shift d, unconf := s.svc.unconf.shift d
      beats := s.svc.beats.map (fun b => (b.1, b.2 + d)) }
    intc := { s.intc with mods := s.intc.mods.map (fun e => (e.1, { e.2 with since := e.2.since + d })) }
    core := { s.core with ckptAt := s.core.ckptAt + d, resyncs := s.core.resyncs.map (· + d) }
    fab := { s.fab with
      chans := s.fab.chans.map (fun e => (e.1, { e.2 with accepted := e.2.accepted.map (· + d) }))
      waves := s.fab.waves.map (fun e => (e.1, { e.2 with last := e.2.last + d }))
      pulses := s.fab.pulses.map (fun p => { p with raised := p.raised + d }) }
    sense := { s.sense with
      ports := s.sense.ports.map (fun e => (e.1, e.2.shift d))
      units := s.sense.units.map (fun e =>
        (e.1, { e.2 with queue := e.2.queue.map (fun x => { x with sent := x.sent.map (· + d) }) })) }
    thr := { s.thr with
      admitAt := s.thr.admitAt + d
      lanes := s.thr.lanes.map (fun e => (e.1, { e.2 with fed := e.2.fed.map (· + d) })) }
    ops := { s.ops with slots := s.ops.slots.map (fun e =>
      (e.1, if e.2.st == .running && e.2.result.isNone then { e.2 with ended := e.2.ended + d } else e.2)) }
    gran := { s.gran with
      testAt := s.gran.testAt + d, errors := s.gran.errors.map (fun e => (e.1, e.2.map (· + d))) }
    flash := { s.flash with
      run := s.flash.run.map (fun r => { r with since := r.since + d })
      log := { s.flash.log with first := s.flash.log.first.map (· + d) } }
    phy := s.phy.shift d
    link := s.link.shift d
    hspi := { s.hspi with burstAt := s.hspi.burstAt.map (· + d) }
    fld := { s.fld with
      passAt := s.fld.passAt + d
      sessions := s.fld.sessions.map (fun e => (e.1, e.2.map (fun x => { x with last := x.last + d }))) } }

/-- The next periodic due time of a thread after a step (R131). -/
def State.stepDue (s : State) (t : Nat) (old new d : Stamp) : State :=
  match (s.thread t).due with
  | none => s
  | some due =>
    let p := s.thrReg t 0x08
    let next := nextMultiple (field p 23 0) new
    let due1 : Stamp :=
      if !flag p 24 then due + d
      else if decide (old.toNat ≤ new.toNat) then (if decide (due.toNat ≤ new.toNat) then due else next)
      else next
    s.updThread t (fun h => { h with due := some due1 })

/-- TIME is stepped by a signed number of units (R178). -/
def State.stepTime (s : State) (units : Int) : State :=
  let d : Stamp := BitVec.ofInt 64 units
  let old := s.now
  let new := old + d
  let s1 := (s.stepUtil new).shiftWaits d
  let moved : TimeState := { s1.time with
    now := new, slew := 0, steps := s1.time.steps + d, estAt := s1.time.estAt + d }
  let s2 : State := { s1 with time := moved.anchor s1.time.src }
  let s3 := (List.range 16).foldl (fun acc t => acc.stepDue t old new d) s2
  let s4 := (s3.updRg 0x07 0x048 (fun w => satField w 31 16 1)).setPair 0x07 0x068 d
  (((s4.setPair 0x07 0x070 new).evPulse 0x07 1)).pulse 0x34

/-- EPOCH_SET (R193). -/
def epochEffect (k : Slot) (s : State) : State × Option Code :=
  if s.time.dstate != .free then (s, some .state)
  else
    let v := joinWords (k.arg 1) (k.arg 0)
    let units : Int := if flag (k.arg 2) 0 then v.toInt else (v - s.now).toInt
    (s.stepTime units, some .done)

/-! ### Snapshots (R183 to R185) -/

/-- The sources a SNAP latches, ascending: SRC, value, stamp. -/
def State.snapEntries (s : State) : List (Nat × Nat × Stamp) :=
  let ports := (List.range 64).filterMap (fun p =>
    if s.portActive p then some (p, (s.portVal p).toNat, (s.port p).stamp) else none)
  let lanes := (List.range 24).filterMap (fun n =>
    if (s.lane n).cfg.isSome then some (64 + n, (s.lane n).last.toNat, (s.lane n).stamp) else none)
  ports ++ lanes

/-- The packet of a snapshot (R184). -/
def snapPacket (seq cause : Nat) (at_ : Stamp) (l : List (Nat × Nat × Stamp)) : List Word :=
  let w (v : Nat) : Word := BitVec.ofNat 32 v
  [pack [(0, 8, cause), (8, 8, l.length), (16, 8, seq)], w (stampField at_ 63 40), w (stampField at_ 39 16),
    w (stampField at_ 15 0 * 256)]
  ++ l.flatMap (fun (src, v, t) => [w (src * 65536), w v, w (stampField t 47 24), w (stampField t 23 0)])

/-- Whether SENSE is READY. -/
def State.senseReady (s : State) : Bool := s.groupReady 5 && !s.unavailable .sense

/-- A latch is made (R183): SEQ, SNAP_STAMP and, with QEN, the readout. -/
def State.snapLatch (s : State) (cause : Nat) (slot : Option (BitVec 7)) (wave : Option (Nat × Nat)) : State :=
  let s1 := (s.updRg 0x07 0x0C4 (fun w => wrapField w 7 0 1)).setPair 0x07 0x0C8 s.now
  if flag (s1.rg 0x07 0x0C0) 5 then
    let seq := field (s1.rg 0x07 0x0C4) 7 0
    { s1 with time := { s1.time with
        snap := some { items := snapPacket seq cause s1.now s1.snapEntries, slot := slot, wave := wave } } }
  else s1

/-- A SNAP operation (R183, R185); one whose readout goes on is left to it. -/
def snapEffect (tag : Nat) (_k : Slot) (s : State) : State × Option Code :=
  if s.time.snap.any (fun r => r.slot == some (BitVec.ofNat 7 tag)) then (s, none)
  else if s.time.snap.isSome then (s, some .busy)
  else if !s.senseReady then (s, some .notReady)
  else
    let s1 := s.snapLatch 0 (some (BitVec.ofNat 7 tag)) none
    (s1, if s1.time.snap.isSome then none else some .done)

/-- A trigger of the SNAP task input (R185, R226). -/
def State.snapTrigger (s : State) : State :=
  let t := s.task 0x24
  if !t.held then s
  else
    let s1 := s.clearTask 0x24
    if s1.time.snap.isSome || !s1.senseReady then
      (s1.updRg 0x07 0x0C4 (fun w => satField w 23 16 1)).evPulse 0x07 4
    else s1.snapLatch 1 none (some t.carried)

/-- A snapshot packet is not placed (R184). -/
def State.snapLost (s : State) : State := (s.updRg 0x07 0x0C4 (fun w => satField w 31 24 1)).evPulse 0x07 4

/-- Why a snapshot's packet finds no place in a cut-through queue: the code is logged as of any push (R243, R246). -/
def State.snapRefused (s : State) (q : Nat) : State × Code :=
  let c : Code := if !s.granaryUp then .notReady else if !qEn (s.qcfg q) then .state else .busy
  (s.logPush q c, c)

/-- The readout ends: the packet is placed whole or lost (R184, R193). The queue is the one Q names then (DESIGN CHOICE,
log entry 806). -/
def State.snapDone (s : State) : State :=
  match s.time.snap with
  | none => s
  | some r =>
    let s1 : State := { s with time := { s.time with snap := none } }
    let q := field (s1.rg 0x07 0x0C0) 4 0
    let (s2, c) : State × Code := if qCut (s1.qcfg q) then s1.snapRefused q else s1.blockPush q r.items
    let s3 := if c = .done then s2 else s2.snapLost
    let s4 := match r.slot with
      | some tag => if s3.running tag.toNat 0x07 1 then s3.setResult tag.toNat (if c = Code.done then Code.done else Code.busy) else s3
      | none => s3
    (s4.evPulse 0x07 3).pulse 0x36 r.wave

/-! ### Alarms (R186) -/

/-- Alarm n fires. -/
def State.fireAlarm (s : State) (n : Nat) : State :=
  if flag (s.rg 0x07 0x0A0) n then
    let s1 := s.reach (s.pairAt 0x07 (0x080 + 8 * n))
    let s2 := s1.updRg 0x07 0x0A0 (fun w => setFlag (setFlag w n false) (4 + n) true)
    (((s2.evPulse 0x07 (8 + n)).pulse (0x30 + n)).fireWake (0x18 + n))
  else s

/-- A write of ALARM_CTL that has reached the register. -/
def alarmCtlEffect (v : Word) (s : State) : State × Code :=
  (s.updRg 0x07 0x0A0 (fun w =>
    BitVec.ofNat 32 (field v 3 0 + 16 * (field w 7 4 &&& (15 - field v 7 4)))), .done)

/-! ### Discipline (R187 to R192) -/

/-- DSTATE takes a value: EST_ERR from its last, the LOCKED and HOLDOVER levels, the fabric source of LOCKED. -/
def State.setDstate (s : State) (d : DState) : State :=
  let s1 := s.syncEst
  let s2 : State := { s1 with time := { s1.time with dstate := d } }
  (s2.levelSource 0x07 0 (d == .locked) 0x35).evLevel 0x07 2 (d == .holdover)

/-- Whether discipline can run: DISC, not MASTER, RADIO READY (R187). -/
def State.disciplined (s : State) : Bool :=
  flag (s.rg 0x07 0x04C) 0 && !s.timeMaster && s.groupReady 13 && s.groupReady 14

/-- DISCIPLINE_START: FREE becomes ACQUIRE (R187, R189). -/
def State.startDiscipline (s : State) : State :=
  if s.disciplined && s.pwr.depth == .awake && s.time.dstate == .free then
    let s1 := s.setDstate .acquire
    { s1 with time := { s1.time with agree := 0, missed := 0 } }
  else s

/-- AGREE and the state after a step or an agreeing sample in ACQUIRE: LOCKED once AGREE is D, at most 8. -/
def State.agreeTo (s : State) (n : Nat) : State :=
  let s1 : State := { s with time := { s.time with agree := min n 15 } }
  if s1.time.agree ≥ s1.time.depth && 1 ≤ s1.time.depth && s1.time.depth ≤ 8 then s1.setDstate .locked
  else s1.setDstate .acquire

/-- A slew of e: the units to be removed, and a new RATE, a free value (R188). -/
def State.slewBy (s : State) (units : Int) : State :=
  let (w, s1) := s.draw
  let s2 : State := { s1 with time := { s1.time with slew := units } }
  s2.setRg 0x07 0x060 w

/-- A sample acted on (R187, R189); e in units of 2^-33 s. At a depth above 8 it is acted on as in ACQUIRE. -/
def State.actOn (s : State) (e : Int) (changed : Bool) : State :=
  let ns (k : Nat) : Int := (k : Int) * 2 ^ 33
  let mag := e.natAbs * 1000000000
  let small := decide ((mag : Int) ≤ ns (field (s.rg 0x07 0x04C) 19 8))
  let large := decide ((mag : Int) ≥ ns (1000 * field (s.rg 0x07 0x050) 19 0))
  let units := e / 2
  let stepped (t : State) : State := (t.stepTime (-units)).agreeTo 1
  match (if (changed && !small) || decide (s.time.depth > 8) then DState.acquire else s.time.dstate) with
  | .free => s
  | .acquire => if small then (s.slewBy units).agreeTo (s.time.agree + 1) else stepped s
  | .locked =>
    if small then s.slewBy units
    else if large then stepped s
    else
      let t := (s.slewBy units).setDstate .acquire
      { t with time := { t.time with agree := 0 } }
  | .holdover => if small then (s.slewBy units).setDstate .locked else stepped s

/-- The average of the path delays of a context, in units of 2^-33 s (R188). -/
def pathMean (l : List Int) : Int := if l.isEmpty then 0 else l.sum / (l.length : Int)

/-- DISCIPLINE_SAMPLE: the exchange last received from the parent (R188). -/
def State.takeSample (s : State) : State :=
  match s.time.sample with
  | none => s
  | some x =>
    let s0 : State := { s with time := { s.time with sample := none } }
    if !s0.disciplined || s0.pwr.depth == .guard || s0.pwr.depth == .off || s0.time.dstate == .free then s0
    else
      match s0.peer x.parent with
      | none => s0
      | some p =>
        let old := p.paths
        let paths :=
          match x.t4 with
          | some t4 => (((x.t2 - x.t1).toInt + (t4 - x.t3).toInt) :: old).take 8
          | none => old
        let s1 := (s0.putPeer x.parent (some { p with paths := paths }))
        let s2 : State := { s1 with time := { s1.time with depth := x.depth } }
        let s3 := s2.setRg 0x07 0x058 (BitVec.ofInt 32 (pathMean paths * 1000000000 / 2 ^ 33))
        if old.isEmpty then s3
        else
          let e := 2 * (x.t2 - x.t1).toInt - pathMean paths
          let offset := clampSigned 32 (e * 1000000000 / 2 ^ 33)
          let s4 := s3.setRg 0x07 0x054 (BitVec.ofInt 32 offset)
          let s5 : State := { s4 with
            time := { s4.time with missed := 0 }, link := { s4.link with newParent := false } }
          s5.actOn e x.changed

/-- HOLDOVER_ENTRY (R189): a superframe without a sample, or GUARD. -/
def State.holdoverEntry (s : State) : State :=
  let s1 : State := { s with time := { s.time with missed := s.time.missed + 1 } }
  if s.time.dstate == .locked && (decide (s1.time.missed ≥ 3) || s.pwr.depth == .guard) then s1.setDstate .holdover
  else s1

/-- Entering GUARD makes a LOCKED station enter HOLDOVER (R189). -/
def State.guardHoldover (s : State) : State := if s.time.dstate == .locked then s.setDstate .holdover else s

/-- A write of NCFG that has reached the register: DISC 0 or MASTER 1 leaves DSTATE FREE (R187); the master has no parent
(R397). -/
def ncfgEffect (v : Word) (s : State) : State × Code :=
  let s1 := s.setRg 0x07 0x04C (v &&& 0x000FFF03)
  let s2 := if !flag v 0 || flag v 1 then s1.setDstate .free else s1
  (if flag v 1 then s2.setParent none else s2, .done)

/-- TIME.STATUS (R194). -/
def State.timeStatus (s : State) : Word :=
  let src := match s.time.src with | .rc => 0 | .crystal => 1 | .tcxo => 2
  let d := match s.time.dstate with | .free => 0 | .acquire => 1 | .locked => 2 | .holdover => 3
  pack [(0, 2, src), (4, 2, d), (6, 1, bit s.timeMaster), (8, 4, if s.timeMaster then 0 else s.time.depth),
    (12, 4, s.time.agree), (16, 16, field (s.rg 0x07 0x048) 31 16)]

/-- SNAP_STAT (R194). -/
def State.snapStat (s : State) : Word := setFlag (s.rg 0x07 0x0C4) 8 s.time.snap.isSome

/-! ### Rows -/

/-- EPOCH_SET (R193). -/
def execEpochSet (tag : Fin 128) (s : State) : Host.Outcome State Fault Refusal :=
  .next (s.runOp tag.val 0x07 2 (fun k => decide (field (k.arg 2) 31 1 = 0)) epochEffect)

/-- SNAP (R183): an operation, or the trigger held in the task input. -/
def execSnap (tag : Option (Fin 128)) (s : State) : Host.Outcome State Fault Refusal :=
  .next
    (match tag with
     | some t => s.runOp t.val 0x07 1 (fun _ => true) (snapEffect t.val)
     | none => s.snapTrigger)

/-- SNAP_READOUT_DONE (R184). -/
def execSnapReadoutDone (s : State) : Host.Outcome State Fault Refusal := .next s.snapDone

/-- ALARM_FIRE (R186). -/
def execAlarmFire (n : Fin 4) (s : State) : Host.Outcome State Fault Refusal := .next (s.fireAlarm n.val)

/-- DISCIPLINE_START (R187). -/
def execDisciplineStart (s : State) : Host.Outcome State Fault Refusal := .next s.startDiscipline

/-- DISCIPLINE_SAMPLE (R189). -/
def execDisciplineSample (s : State) : Host.Outcome State Fault Refusal := .next s.takeSample

/-- HOLDOVER_ENTRY (R189). -/
def execHoldoverEntry (s : State) : Host.Outcome State Fault Refusal := .next s.holdoverEntry

end Sys2Proof.Machine
end

