-- ==== Sys2Proof/Machine/GleanerExec.lean ====
section
/-!
DEFINITION. The Gleaner's instructions (R134 to R148): which thread issues, the budget, each instruction's effect and
faults; and the operations LOAD, START and STOP (R151 to R153).
-/
namespace Sys2Proof.Machine

/-! ### Issue (R134, R135) -/

/-- PRI of a thread. -/
def State.pri (s : State) (t : Nat) : Nat := field (s.thrReg t 0x00) 1 0

/-- The thread that issues out of a list of eligible ones: the lowest PRI, rotating among equals (R134). -/
def State.pick (s : State) (l : List Nat) : Option Nat :=
  let best := l.foldl (fun acc t => min acc (s.pri t)) 4
  let same := l.filter (fun t => s.pri t == best)
  let last := Tab.get (fun _ => 15) s.gle.last best
  match same.find? (fun t => decide (t > last)) with
  | some t => some t
  | none => same.head?

/-- Whether thread t may be the next to issue: the choice among the READY threads, or among those of them whose last
instruction does not take a second cycle (R134, R138). -/
def State.chosen (s : State) (t : Nat) : Bool :=
  let ready := (List.range 16).filter (fun k => (s.thread k).st == .ready)
  !s.dead && s.ready 0x0A && flag (s.rg 0x0A 0x008) 0
  && (s.pick ready == some t || s.pick (ready.filter (fun k => s.gle.late != some k)) == some t)

/-- The program-store word at an address. -/
def State.pword (s : State) (a : Nat) : Word := Tab.get (fun _ => 0) s.gle.store (a % 4096)

/-- Whether the word at an address fails its parity. -/
def State.parityBad (s : State) (a : Nat) : Bool := s.gle.parity.contains (a % 4096)

/-- Whether a thread's next instruction would exceed its budget (R135). -/
def State.overBudget (s : State) (t : Nat) : Bool :=
  decide ((s.thread t).issued ≥ 16 * field (s.thrReg t 0x00) 15 8)

/-- An instruction of thread t issues: the rotation, the counts, and the program counter past it. -/
def State.issued (s : State) (t : Nat) : State :=
  let s1 := s.countIssue.updThread t (fun h => { h with issued := h.issued + 1, pc := h.pc + 1 })
  { s1 with gle := { s1.gle with last := Tab.set (fun _ => 15) s1.gle.last (s1.pri t) t, late := none } }

/-- Thread t issues an instruction of the kind f knows, with the effect f gives it, where the thread is the one to
issue and its word spells one; over the budget it faults instead (R134 to R137). -/
def State.issueAs (s : State) (t : Nat) (f : GInstr → Option (State → State)) : State :=
  if s.chosen t then
    let pc := (s.thread t).pc.toNat
    match GInstr.decode (s.pword pc) with
    | none => s
    | some i =>
      match f i with
      | none => s
      | some eff =>
        if s.overBudget t then s.threadFault t 2 .timeout pc
        else if s.parityBad pc then s
        else eff (s.issued t)
  else s

/-- The instruction takes a second cycle (R138). -/
def State.second (s : State) (t : Nat) : State := { s with gle := { s.gle with late := some t } }

/-- The address of the instruction that has just issued. -/
def State.fpc (s : State) (t : Nat) : Nat := ((s.thread t).pc - 1).toNat

/-- A thread continues at an address. -/
def State.goto (s : State) (t a : Nat) : State := (s.updThread t (fun h => { h with pc := BitVec.ofNat 12 a })).second t

/-- An illegal word or target (R148). -/
def State.argFault (s : State) (t : Nat) : State := s.threadFault t 1 .arg (s.fpc t)

/-! ### Arithmetic, branches and data -/

/-- The two-operand operations (R137). -/
def AluOp.eval (op : AluOp) (a b : Word) : Word :=
  match op with
  | .add => a + b
  | .sub => a - b
  | .and => a &&& b
  | .or => a ||| b
  | .xor => a ^^^ b
  | .shl => a <<< (b.toNat % 32)
  | .shr => a >>> (b.toNat % 32)
  | .sra => a.sshiftRight (b.toNat % 32)
  | .mul => a * b

/-- The shifts by a constant. -/
def ShiftOp.eval (op : ShiftOp) (a : Word) (n : Nat) : Word :=
  match op with
  | .shl => a <<< n
  | .shr => a >>> n
  | .sra => a.sshiftRight n

/-- The branch conditions. -/
def BranchOp.eval (op : BranchOp) (a b : Word) : Bool :=
  match op with
  | .eq => a == b
  | .ne => a != b
  | .lt => a.slt b
  | .ge => !a.slt b
  | .ltu => a.ult b
  | .geu => !a.ult b

/-- A two-operand operation; MUL takes a second cycle (R138). -/
def State.doAlu (t : Nat) (op : AluOp) (rd ra rb : BitVec 3) (s : State) : State :=
  let s1 := s.setGreg t rd.toNat (op.eval (s.greg t ra.toNat) (s.greg t rb.toNat))
  if op = .mul then s1.second t else s1

/-- A shift by a constant. -/
def State.doShift (t : Nat) (op : ShiftOp) (rd ra : BitVec 3) (sh : BitVec 5) (s : State) : State :=
  s.setGreg t rd.toNat (op.eval (s.greg t ra.toNat) sh.toNat)

/-- A branch: taken, its target is PC + 1 + off, which must lie in the store (R137). -/
def State.doBranch (t : Nat) (op : BranchOp) (ra rb : BitVec 3) (off : BitVec 12) (s : State) : State :=
  if op.eval (s.greg t ra.toNat) (s.greg t rb.toNat) then
    let target : Int := (s.fpc t : Int) + 1 + off.toInt
    if 0 ≤ target && target ≤ 0xFFF then s.goto t target.toNat else s.argFault t
  else s

/-- The word of DATA at a register's value plus an offset (R137, R147). -/
def State.dataOff (s : State) (t : Nat) (ra : BitVec 3) (imm : BitVec 8) : Nat :=
  0x800 + 4 * ((s.greg t ra.toNat + imm.zeroExtend 32).toNat % 256)

/-! ### Blocking instructions -/

/-- A thread blocks. -/
def State.blockOn (s : State) (t : Nat) (b : Block) : State :=
  s.updThread t (fun h => { h with st := .blocked, block := b, res := none })

/-- The tolerate bit. -/
def tolerant (tol : BitVec 1) : Bool := tol == 1

/-- WEV's block (R137). -/
def State.doWev (t : Nat) (tol : BitVec 1) (n : BitVec 20) (s : State) : State :=
  s.blockOn t (.event (if n = 0 then none else some (s.after (n.toNat * 2 ^ 12))) (tolerant tol))

/-- STMP (R137). -/
def State.doStmp (t : Nat) (rd : BitVec 3) (sel : BitVec 2) (s : State) : State :=
  let h := s.thread t
  match sel.toNat with
  | 0 => s.setGreg t rd.toNat (loWord h.stamp)
  | 1 => s.setGreg t rd.toNat (hiWord h.stamp)
  | 2 => (s.putThread t { h with shadow := some (hiWord s.now) }).setGreg t rd.toNat (loWord s.now)
  | _ => (s.putThread t { h with shadow := none }).setGreg t rd.toNat (h.shadow.getD (hiWord s.now))

/-- CONV (R139). -/
def State.doConv (t : Nat) (rd : BitVec 3) (cv : BitVec 5) (tol sw : BitVec 1) (port : BitVec 6) (s : State) : State :=
  (s.blockOn t (.result (some rd) (tolerant tol))).convRequest cv.toNat
    { thread := some (BitVec.ofNat 4 t), sw := sw == 1, port := port.toNat }

/-- Whether SENSE's ports can be reached. -/
def State.portsUp (s : State) (p : Nat) : Bool := s.ready (portPage p) && !s.unavailable .sense

/-- IN (R140, R143). -/
def State.doIn (t : Nat) (rd : BitVec 3) (tol : BitVec 1) (port : BitVec 6) (what : BitVec 2) (s : State) : State :=
  let p := port.toNat
  let x := s.port p
  let v : Word :=
    match what.toNat with
    | 0 => BitVec.ofNat 32 (unsignedOf 32 (s.portInt p))
    | 1 => x.period.view
    | 2 => x.width.view
    | _ => s.pstatView p
  (s.blockOn t (.result (some rd) (tolerant tol))).giveRes t
    { code := if s.portsUp p then .done else .notReady, value := v, latch := some (p, x.stamp) }

/-- OUT (R140, R143). -/
def State.doOut (t : Nat) (ra : BitVec 3) (tol : BitVec 1) (port : BitVec 6) (m : BitVec 2) (s : State) : State :=
  let p := port.toNat
  let x := s.port p
  let level : Bool :=
    match m.toNat with
    | 0 => flag (s.greg t ra.toNat) 0
    | 1 => false
    | 2 => true
    | _ => !flag x.aux 0
  let s1 := s.blockOn t (.result none (tolerant tol))
  let (s2, c) : State × Code :=
    if !s.portsUp p then (s1, .notReady)
    else if x.mode != 6 || x.quarantined then (s1, .state)
    else (s1.outPort p level, .done)
  s2.giveRes t { code := c, latch := some (p, s2.now) }

/-- A thread's fresh tag transaction takes a slot, or waits for one (R61, R141). -/
def State.tagRequest (s : State) (t : Nat) (rd : BitVec 3) (tol : Bool) (port : Nat) : State :=
  match s.agentQueue 5 0x23 2 [BitVec.ofNat 32 port] with
  | some (tag, s1) => s1.blockOn t (.tag rd tol port (some (BitVec.ofNat 7 tag)))
  | none => s.blockOn t (.tag rd tol port none)

/-- The threads that wait for a slot ask again (R61). -/
def State.retryTags (s : State) : State :=
  (List.range 16).foldl
    (fun acc t =>
      match (acc.thread t).st, (acc.thread t).block with
      | .blocked, .tag rd tol port none => acc.tagRequest t rd tol port
      | _, _ => acc) s

/-- TAGRD (R141, R143, R351). -/
def State.doTagrd (t : Nat) (rd : BitVec 3) (tol fresh : BitVec 1) (tag : BitVec 8) (s : State) : State :=
  if fresh = 1 && s.pwr.depth == .awake then s.tagRequest t rd (tolerant tol) tag.toNat
  else
    let v := s.held tag.toNat
    let s1 := s.updThread t (fun h =>
      { h with
        code := 0, stale := true, stamp := if v.has then v.stamp else s.now
        src := BitVec.ofNat 8 (64 + tag.toNat), tag := v.has })
    (s1.setGreg t rd.toNat (if v.has then BitVec.ofNat 32 v.value.toNat else 0)).second t

/-- BUS (R142; DESIGN CHOICE, log entry 611). -/
def State.doBus (t : Nat) (rd : BitVec 3) (tol : BitVec 1) (desc : BitVec 12) (s : State) : State :=
  let d := desc.toNat
  let head := s.pword d
  let op := field head 7 0
  let n := field head 11 8
  if op == 0 || op > 3 || n == 0 || n > 7 || d + n > 0xFFF then s.argFault t
  else
    let args := (List.range n).map (fun i => s.pword (d + 1 + i))
    let s1 := s.blockOn t (.bus rd (tolerant tol) (field head 23 16))
    match s1.xferRequest { user := .thread (BitVec.ofNat 4 t), op := op, args := args } with
    | (s2, some c) => s2.giveRes t { code := c }
    | (s2, none) => s2

/-- FEED (R145). -/
def State.doFeed (t : Nat) (ra : BitVec 3) (tol : BitVec 1) (lane : BitVec 2) (s : State) : State :=
  let s1 := s.blockOn t (.result none (tolerant tol))
  let (s2, c) := s1.feedLane (20 + lane.toNat) ((s.greg t ra.toNat).truncate 24) (s.thread t).stamp (s.thread t).tag
  s2.giveRes t { code := c }

/-- PUSH (R144). -/
def State.doPush (t : Nat) (ra : BitVec 3) (tol : BitVec 1) (pos : BitVec 2) (q : BitVec 5) (s : State) : State :=
  let s1 := s.blockOn t (.result none (tolerant tol))
  let (s2, c) := s1.pushItem q.toNat (16 + t) pos.toNat (field (s.greg t ra.toNat) 23 0)
  (s2.logPush q.toNat c).giveRes t { code := c }

/-- The record of PUSHR (R144). -/
def State.pushRecord (s : State) (t : Nat) (ra : BitVec 3) (kind : BitVec 8) : List Word :=
  let h := s.thread t
  [ pack [(0, 8, kind.toNat), (11, 1, bit h.stale), (12, 4, t), (16, 8, h.src.toNat)],
    BitVec.ofNat 32 (field (s.greg t ra.toNat) 23 0), BitVec.ofNat 32 (stampField h.stamp 47 24),
    BitVec.ofNat 32 (stampField h.stamp 23 0) ]

/-- PUSHR (R144). -/
def State.doPushr (t : Nat) (ra : BitVec 3) (tol : BitVec 1) (kind : BitVec 8) (q : BitVec 5) (s : State) : State :=
  let s1 := s.blockOn t (.result none (tolerant tol))
  let (s2, c) := s1.pushPacket q.toNat (16 + t) (s.pushRecord t ra kind)
  (s2.logPush q.toNat c).giveRes t { code := c }

/-! ### Instruction rows -/

/-- ILLEGAL (R136, R148): the thread to issue fetches a word that fails its parity or spells no instruction. -/
def execIllegal (t : Fin 16) (s : State) : Host.Outcome State Fault Refusal :=
  .next
    (if s.chosen t.val then
       let pc := (s.thread t.val).pc.toNat
       let bad := s.parityBad pc
       if !bad && (GInstr.decode (s.pword pc)).isSome then s
       else if s.overBudget t.val then s.threadFault t.val 2 .timeout pc
       else if bad then s.threadFault t.val 4 .integrity pc
       else s.threadFault t.val 1 .arg pc
     else s)

/-- NOP. -/
def execNop (t : Fin 16) (s : State) : Host.Outcome State Fault Refusal :=
  .next (s.issueAs t.val (fun i => match i with | .nop => some id | _ => none))

/-- END (R130). -/
def execEndAct (t : Fin 16) (s : State) : Host.Outcome State Fault Refusal :=
  .next (s.issueAs t.val (fun i => match i with | .endAct => some (fun u => u.endActivation t.val) | _ => none))

/-- LDI. -/
def execLdi (t : Fin 16) (s : State) : Host.Outcome State Fault Refusal :=
  .next (s.issueAs t.val (fun i =>
    match i with | .ldi rd imm => some (fun u => u.setGreg t.val rd.toNat (imm.signExtend 32)) | _ => none))

/-- LUI. -/
def execLui (t : Fin 16) (s : State) : Host.Outcome State Fault Refusal :=
  .next (s.issueAs t.val (fun i =>
    match i with
    | .lui rd imm => some (fun u => u.setGreg t.val rd.toNat (setField (u.greg t.val rd.toNat) 31 16 imm.toNat))
    | _ => none))

/-- RC. -/
def execRc (t : Fin 16) (s : State) : Host.Outcome State Fault Refusal :=
  .next (s.issueAs t.val (fun i =>
    match i with
    | .rc rd => some (fun u => u.setGreg t.val rd.toNat ((u.thread t.val).code.zeroExtend 32))
    | _ => none))

/-- A two-operand instruction of thread t with a given operation. -/
def State.issueAlu (s : State) (t : Nat) (op : AluOp) : State :=
  s.issueAs t (fun i =>
    match i with | .alu o rd ra rb => if o = op then some (State.doAlu t op rd ra rb) else none | _ => none)

/-- ADD. -/
def execAdd (t : Fin 16) (s : State) : Host.Outcome State Fault Refusal := .next (s.issueAlu t.val .add)

/-- SUB. -/
def execSub (t : Fin 16) (s : State) : Host.Outcome State Fault Refusal := .next (s.issueAlu t.val .sub)

/-- AND. -/
def execAnd (t : Fin 16) (s : State) : Host.Outcome State Fault Refusal := .next (s.issueAlu t.val .and)

/-- OR. -/
def execOr (t : Fin 16) (s : State) : Host.Outcome State Fault Refusal := .next (s.issueAlu t.val .or)

/-- XOR. -/
def execXor (t : Fin 16) (s : State) : Host.Outcome State Fault Refusal := .next (s.issueAlu t.val .xor)

/-- SHL. -/
def execShl (t : Fin 16) (s : State) : Host.Outcome State Fault Refusal := .next (s.issueAlu t.val .shl)

/-- SHR. -/
def execShr (t : Fin 16) (s : State) : Host.Outcome State Fault Refusal := .next (s.issueAlu t.val .shr)

/-- SRA. -/
def execSra (t : Fin 16) (s : State) : Host.Outcome State Fault Refusal := .next (s.issueAlu t.val .sra)

/-- MUL. -/
def execMul (t : Fin 16) (s : State) : Host.Outcome State Fault Refusal := .next (s.issueAlu t.val .mul)

/-- ADDI. -/
def execAddi (t : Fin 16) (s : State) : Host.Outcome State Fault Refusal :=
  .next (s.issueAs t.val (fun i =>
    match i with
    | .addi rd ra imm => some (fun u => u.setGreg t.val rd.toNat (u.greg t.val ra.toNat + imm.signExtend 32))
    | _ => none))

/-- ANDI. -/
def execAndi (t : Fin 16) (s : State) : Host.Outcome State Fault Refusal :=
  .next (s.issueAs t.val (fun i =>
    match i with
    | .andi rd ra imm => some (fun u => u.setGreg t.val rd.toNat (u.greg t.val ra.toNat &&& imm.zeroExtend 32))
    | _ => none))

/-- ORI. -/
def execOri (t : Fin 16) (s : State) : Host.Outcome State Fault Refusal :=
  .next (s.issueAs t.val (fun i =>
    match i with
    | .ori rd ra imm => some (fun u => u.setGreg t.val rd.toNat (u.greg t.val ra.toNat ||| imm.zeroExtend 32))
    | _ => none))

/-- A shift by a constant of thread t with a given operation. -/
def State.issueShift (s : State) (t : Nat) (op : ShiftOp) : State :=
  s.issueAs t (fun i =>
    match i with | .shift o rd ra sh => if o = op then some (State.doShift t op rd ra sh) else none | _ => none)

/-- SHLI. -/
def execShli (t : Fin 16) (s : State) : Host.Outcome State Fault Refusal := .next (s.issueShift t.val .shl)

/-- SHRI. -/
def execShri (t : Fin 16) (s : State) : Host.Outcome State Fault Refusal := .next (s.issueShift t.val .shr)

/-- SRAI. -/
def execSrai (t : Fin 16) (s : State) : Host.Outcome State Fault Refusal := .next (s.issueShift t.val .sra)

/-- A branch of thread t with a given condition. -/
def State.issueBranch (s : State) (t : Nat) (op : BranchOp) : State :=
  s.issueAs t (fun i =>
    match i with | .branch o ra rb off => if o = op then some (State.doBranch t op ra rb off) else none | _ => none)

/-- BEQ. -/
def execBeq (t : Fin 16) (s : State) : Host.Outcome State Fault Refusal := .next (s.issueBranch t.val .eq)

/-- BNE. -/
def execBne (t : Fin 16) (s : State) : Host.Outcome State Fault Refusal := .next (s.issueBranch t.val .ne)

/-- BLT. -/
def execBlt (t : Fin 16) (s : State) : Host.Outcome State Fault Refusal := .next (s.issueBranch t.val .lt)

/-- BGE. -/
def execBge (t : Fin 16) (s : State) : Host.Outcome State Fault Refusal := .next (s.issueBranch t.val .ge)

/-- BLTU. -/
def execBltu (t : Fin 16) (s : State) : Host.Outcome State Fault Refusal := .next (s.issueBranch t.val .ltu)

/-- BGEU. -/
def execBgeu (t : Fin 16) (s : State) : Host.Outcome State Fault Refusal := .next (s.issueBranch t.val .geu)

/-- JMP. -/
def execJmp (t : Fin 16) (s : State) : Host.Outcome State Fault Refusal :=
  .next (s.issueAs t.val (fun i => match i with | .jmp a => some (fun u => u.goto t.val a.toNat) | _ => none))

/-- JAL. -/
def execJal (t : Fin 16) (s : State) : Host.Outcome State Fault Refusal :=
  .next (s.issueAs t.val (fun i =>
    match i with
    | .jal rd a =>
      some (fun u => (u.setGreg t.val rd.toNat (BitVec.ofNat 32 (u.fpc t.val + 1))).goto t.val a.toNat)
    | _ => none))

/-- JR. -/
def execJr (t : Fin 16) (s : State) : Host.Outcome State Fault Refusal :=
  .next (s.issueAs t.val (fun i =>
    match i with
    | .jr ra =>
      some (fun u =>
        let a := (u.greg t.val ra.toNat).toNat
        if a < 4096 then u.goto t.val a else u.argFault t.val)
    | _ => none))

/-- WAIT. -/
def execWait (t : Fin 16) (s : State) : Host.Outcome State Fault Refusal :=
  .next (s.issueAs t.val (fun i =>
    match i with
    | .wait n => some (fun u => u.blockOn t.val (.time (u.after (n.toNat * 2 ^ 12))))
    | _ => none))

/-- WEV. -/
def execWev (t : Fin 16) (s : State) : Host.Outcome State Fault Refusal :=
  .next (s.issueAs t.val (fun i => match i with | .wev tol n => some (State.doWev t.val tol n) | _ => none))

/-- STMP. -/
def execStmp (t : Fin 16) (s : State) : Host.Outcome State Fault Refusal :=
  .next (s.issueAs t.val (fun i => match i with | .stmp rd sel => some (State.doStmp t.val rd sel) | _ => none))

/-- CONV. -/
def execConv (t : Fin 16) (s : State) : Host.Outcome State Fault Refusal :=
  .next (s.issueAs t.val (fun i =>
    match i with | .conv rd cv tol sw port => some (State.doConv t.val rd cv tol sw port) | _ => none))

/-- IN. -/
def execInPort (t : Fin 16) (s : State) : Host.Outcome State Fault Refusal :=
  .next (s.issueAs t.val (fun i =>
    match i with | .inPort rd tol port what => some (State.doIn t.val rd tol port what) | _ => none))

/-- OUT. -/
def execOutPort (t : Fin 16) (s : State) : Host.Outcome State Fault Refusal :=
  .next (s.issueAs t.val (fun i =>
    match i with | .outPort ra tol port m => some (State.doOut t.val ra tol port m) | _ => none))

/-- TAGRD. -/
def execTagrd (t : Fin 16) (s : State) : Host.Outcome State Fault Refusal :=
  .next (s.issueAs t.val (fun i =>
    match i with | .tagrd rd tol fresh tag => some (State.doTagrd t.val rd tol fresh tag) | _ => none))

/-- BUS. -/
def execBus (t : Fin 16) (s : State) : Host.Outcome State Fault Refusal :=
  .next (s.issueAs t.val (fun i => match i with | .bus rd tol desc => some (State.doBus t.val rd tol desc) | _ => none))

/-- FEED. -/
def execFeed (t : Fin 16) (s : State) : Host.Outcome State Fault Refusal :=
  .next (s.issueAs t.val (fun i => match i with | .feed ra tol lane => some (State.doFeed t.val ra tol lane) | _ => none))

/-- PUSH. -/
def execPush (t : Fin 16) (s : State) : Host.Outcome State Fault Refusal :=
  .next (s.issueAs t.val (fun i =>
    match i with | .push ra tol pos q => some (State.doPush t.val ra tol pos q) | _ => none))

/-- PUSHR. -/
def execPushr (t : Fin 16) (s : State) : Host.Outcome State Fault Refusal :=
  .next (s.issueAs t.val (fun i =>
    match i with | .pushr ra tol kind q => some (State.doPushr t.val ra tol kind q) | _ => none))

/-- LD. -/
def execLd (t : Fin 16) (s : State) : Host.Outcome State Fault Refusal :=
  .next (s.issueAs t.val (fun i =>
    match i with
    | .ld rd ra imm =>
      some (fun u => (u.setGreg t.val rd.toNat (u.rg 0x0A (u.dataOff t.val ra imm))).second t.val)
    | _ => none))

/-- ST. -/
def execSt (t : Fin 16) (s : State) : Host.Outcome State Fault Refusal :=
  .next (s.issueAs t.val (fun i =>
    match i with
    | .st ra rb imm => some (fun u => u.setRg 0x0A (u.dataOff t.val ra imm) (u.greg t.val rb.toNat))
    | _ => none))

/-- EVT (R146, R155): EVRAW.GLEn and the fabric source pulse. -/
def execEvt (t : Fin 16) (s : State) : Host.Outcome State Fault Refusal :=
  .next (s.issueAs t.val (fun i =>
    match i with
    | .evt n => some (fun u => (u.evPulse 0x0A (16 + n.toNat)).pulse (0x18 + n.toNat) (u.thread t.val).wave)
    | _ => none))

/-! ### LOAD, START and STOP (R151 to R153) -/

/-- The threads of a mask. -/
def maskThreads (w : Word) : List Nat := (List.range 16).filter (flag w)

/-- Whether a range of the store is free of a thread's ENTRY, FVEC and program counter. -/
def State.clearOf (s : State) (t dest count : Nat) : Bool :=
  let inside (a : Nat) : Bool := decide (dest ≤ a) && decide (a < dest + count)
  let e := s.thrReg t 0x0C
  !(inside (field e 11 0) || inside (field e 27 16) || inside (s.thread t).pc.toNat)

/-- LOAD's arguments: SRC, source, DEST, COUNT, QUIESCE. -/
def loadArgs (s : State) (k : Slot) : Bool :=
  let dest := field (k.arg 2) 11 0
  let count := field (k.arg 2) 28 16
  decide (1 ≤ count) && decide (count ≤ 4096) && decide (dest + count ≤ 4096)
  && s.sourceOk (flag (k.arg 0) 0) (k.arg 1).toNat count

/-- LOAD quiesces its threads (R152). -/
def loadEffect (tag : Nat) (k : Slot) (s : State) : State × Option Code :=
  let flash := flag (k.arg 0) 0
  let dest := field (k.arg 2) 11 0
  let count := field (k.arg 2) 28 16
  let quiesce := maskThreads (k.arg 3)
  let blocked := (List.range 16).any (fun t =>
    let h := s.thread t
    !quiesce.contains t && h.st != .stopped && h.st != .fault && !s.clearOf t dest count)
  if s.gle.load.isSome then (s, none)
  else if blocked || (flash && s.pwr.depth != .awake) then (s, some .state)
  else
    let s1 := quiesce.foldl
      (fun acc t =>
        let h := acc.thread t
        match h.st with
        | .wait => acc.putThread t { h with st := .stopped, held := true }
        | .ready => acc.putThread t { h with stopping := true, held := true }
        | .blocked => acc.putThread t { h with stopping := true, held := true }
        | _ => acc) s
    let r : LoadRun :=
      { slot := BitVec.ofNat 7 tag, flash := flash, addr := (k.arg 1).toNat, dest := dest, count := count }
    ({ s1 with gle := { s1.gle with load := some r } }, none)

/-- Words copied into the program store. -/
def State.putStore (s : State) (dest : Nat) (l : List Word) : State :=
  { s with gle := { s.gle with
      store := l.zipIdx.foldl (fun t (w, i) => Tab.set (fun _ => 0) t ((dest + i) % 4096) w) s.gle.store
      parity := s.gle.parity.filter (fun a => !(decide (dest ≤ a) && decide (a < dest + l.length))) } }

/-- The copy of a LOAD, once every held thread is STOPPED and its source's bank is not busy (R152, R284). -/
def State.loadCopy (s : State) : State :=
  let held := (List.range 16).filter (fun t => (s.thread t).held)
  match s.gle.load with
  | none => s
  | some r =>
    if held.all (fun t => (s.thread t).st == .stopped) && !(r.flash && s.flashBusy r.addr (4 * r.count)) then
      let s0 : State := { s with gle := { s.gle with load := none } }
      let (s1, l, ok) := s0.sourceWords r.flash true r.addr r.count
      let s2 := s1.putStore r.dest l
      let s3 :=
        if ok then
          held.foldl (fun acc t => (acc.updThread t (fun h => { h with st := .wait, held := false })).takePending t) s2
        else
          held.foldl (fun acc t =>
            acc.updThread t (fun h => { h with held := false, pending := false, pendWave := none, due := none })) s2
      if s3.running r.slot.toNat 0x0A 1 then s3.setResult r.slot.toNat (if ok then Code.done else Code.integrity) else s3
    else s

/-- START (R151; DESIGN CHOICE, log entry 612). -/
def startEffect (k : Slot) (s : State) : State × Option Code :=
  let named := maskThreads (k.arg 0 &&& 0xFFFF)
  if named.any (fun t => (s.thread t).active && (s.thread t).stopping) then (s, some .state)
  else
    (named.foldl
      (fun acc t =>
        let h := acc.thread t
        if (h.st == .stopped && !h.held) || h.st == .fault then
          let s1 := ((acc.putThread t { h with
            st := .wait, pending := false, pendWave := none, vectored := false, stopping := false }).evLevel 0x0A t
              false).armPeriod t
          if flag (s1.thrReg t 0x04) 0 then s1.cause t none else s1
        else acc) s, some .done)

/-- STOP (R153). -/
def stopEffect (tag : Nat) (k : Slot) (s : State) : State × Option Code :=
  let named := maskThreads (k.arg 0 &&& 0xFFFF)
  let s1 := named.foldl (fun acc t => if flag (k.arg 0) 16 then acc.stopNow t else acc.stopSoft t) s
  if s1.allStopped ((k.arg 0).truncate 16) then (s1, some .done)
  else if s1.gle.stops.any (fun e => e.1.toNat = tag) then (s1, none)
  else
    ({ s1 with gle := { s1.gle with stops := s1.gle.stops ++ [(BitVec.ofNat 7 tag, (k.arg 0).truncate 16)] } }, none)

/-- GLEANER_LOAD (R151, R152). -/
def execGleanerLoad (tag : Fin 128) (s : State) : Host.Outcome State Fault Refusal :=
  .next (s.runOp tag.val 0x0A 1 (loadArgs s) (loadEffect tag.val))

/-- LOAD_COPY (R152). -/
def execLoadCopy (s : State) : Host.Outcome State Fault Refusal := .next s.loadCopy

/-- GLEANER_START (R151). -/
def execGleanerStart (tag : Fin 128) (s : State) : Host.Outcome State Fault Refusal :=
  .next (s.runOp tag.val 0x0A 2 (fun _ => true) startEffect)

/-- GLEANER_STOP (R151, R153). -/
def execGleanerStop (tag : Fin 128) (s : State) : Host.Outcome State Fault Refusal :=
  .next (s.runOp tag.val 0x0A 3 (fun _ => true) (stopEffect tag.val))

/-! ### Registers -/

/-- A read of PDATA that has reached the register (R155). -/
def pdataEffect (s : State) : State × Word × Code :=
  let a := field (s.rg 0x0A 0x050) 11 0
  (s.setRg 0x0A 0x050 (BitVec.ofNat 32 ((a + 1) % 4096)), s.pword a, .done)

/-- PDATA_READ (R155). -/
def execPdataRead (m : Master) (s : State) : Host.Outcome State Fault Refusal :=
  .next (s.read m 0x0A 0x054 pdataEffect)

/-- THRn_STAT (R155). -/
def State.thrStat (s : State) (t : Nat) : Word :=
  let h := s.thread t
  pack [(0, 3, h.num), (3, 1, bit h.stale), (4, 12, h.pc.toNat), (16, 8, h.code.toNat), (24, 1, bit h.pending)]

/-- RUNMAP, FAULTMAP and PENDMAP (R155). -/
def State.runMap (s : State) : Word :=
  pack ((List.range 16).map (fun t => (t, 1, bit ((s.thread t).st != .stopped && (s.thread t).st != .fault))))
def State.faultMap (s : State) : Word := pack ((List.range 16).map (fun t => (t, 1, bit ((s.thread t).st == .fault))))
def State.pendMap (s : State) : Word := pack ((List.range 16).map (fun t => (t, 1, bit (s.thread t).pending)))

/-- A write of a thread's own register that has reached it (R131, R154). -/
def thrRegEffect (t off : Nat) (v : Word) (s : State) : State × Code :=
  let st := (s.thread t).st
  if st != .stopped && st != .fault then (s, .state)
  else
    let (s1, c) := s.plainWrite .core 0x0A off v
    let k := (off - 0x100) % 0x40
    (if (s1.thread t).held && (k == 0x04 || k == 0x08) && c = .done then s1.rearmPeriod t else s1, c)

end Sys2Proof.Machine
end

