-- ==== Sys2Proof/Machine/Fabric.lean ====
section
/-!
DEFINITION. The event fabric (chapter 10): source and task numbers, waves and their tags, channels, drops, event
handlers (R269), and the channel and tap configuration rules.
-/
namespace Sys2Proof.Machine

/-! ### Numbers (R235, R236) -/

/-- Whether a source number is assigned (R235, R329, R353, R418, R527). -/
def sourceKnown (n : Nat) : Bool :=
  n ≤ 0x37 || (0x40 ≤ n && n ≤ 0x97) || (0xA0 ≤ n && n ≤ 0xB5) || (0xC0 ≤ n && n ≤ 0xDF) || (0xE0 ≤ n && n ≤ 0xE6)

/-- Whether a task number is assigned (R236, R353, R420, R527). -/
def taskKnown (n : Nat) : Bool :=
  n ≤ 0x24 || (0x28 ≤ n && n ≤ 0x2B) || (0x30 ≤ n && n ≤ 0x3B) || (0x40 ≤ n && n ≤ 0x43) || (0x50 ≤ n && n ≤ 0x52)

/-- Whether a source is secure: the Crib's, and taps on the FUSE and CRIB pages. -/
def State.secureSource (s : State) (n : Nat) : Bool :=
  (0xE0 ≤ n && n ≤ 0xE7)
  || (0xC0 ≤ n && n ≤ 0xDF
      && (let page := field (s.rg 0x08 (0x080 + 4 * (n - 0xC0))) 7 0; page == 0x04 || page == 0x3A))

/-- Whether a task is secure. -/
def secureTask (n : Nat) : Bool := 0x50 ≤ n && n ≤ 0x57

/-! ### Channels -/

/-- A channel. -/
def State.chan (s : State) (n : Nat) : Chan := Tab.get (fun _ => {}) s.fab.chans n

/-- A channel given a state. -/
def State.putChan (s : State) (n : Nat) (c : Chan) : State :=
  { s with fab := { s.fab with chans := Tab.set (fun _ => {}) s.fab.chans n c } }

/-- CHn_CFG, and a change of CHn_STAT. -/
def State.chCfg (s : State) (n : Nat) : Word := s.rg 0x08 (0x100 + 0x10 * n)
def State.updChStat (s : State) (n : Nat) (f : Word → Word) : State := s.updRg 0x08 (0x10C + 0x10 * n) f

/-- The tasks an enabled slot of a channel names (R237). -/
def State.chTasks (s : State) (n : Nat) : List Nat :=
  let a := s.rg 0x08 (0x104 + 0x10 * n)
  let b := s.rg 0x08 (0x108 + 0x10 * n)
  ((List.range 8).filter (fun k => flag (s.chCfg n) (24 + k))).map (fun k =>
    if k < 4 then field a (8 * k + 7) (8 * k) else field b (8 * (k - 4) + 7) (8 * (k - 4)))

/-- The enabled channels that select a source, ascending. -/
def State.chansOf (s : State) (src : Nat) : List Nat :=
  (List.range 64).filter (fun n => flag (s.chCfg n) 8 && field (s.chCfg n) 7 0 == src)

/-! ### Waves (R227, R229) -/

/-- A wave tag. -/
def State.waveTag (s : State) (t : Nat) : Wave := Tab.get (fun _ => {}) s.fab.waves t

/-- A wave tag given a state. -/
def State.putWave (s : State) (t : Nat) (w : Wave) : State :=
  { s with fab := { s.fab with waves := Tab.set (fun _ => {}) s.fab.waves t w } }

/-- A fresh tag: the first free one after the one allocated last, or the live one propagated longest ago, reclaimed
(R229). -/
def State.newWave (s : State) : Nat × State :=
  let order := (List.range 15).map (fun i => (s.fab.last + i) % 15 + 1)
  let (tag, s1) : Nat × State :=
    match order.find? (fun t => !(s.waveTag t).live) with
    | some t => (t, s)
    | none =>
      let oldest := order.foldl (fun b t => if (s.waveTag t).last < (s.waveTag b).last then t else b) (order.headD 1)
      let n := s.fab.reclaims
      (oldest, ({ s with fab := { s.fab with reclaims := if n = 255 then 255 else n + 1 } }).evPulse 0x08 2)
  let chans := s1.fab.chans.map (fun e =>
    (e.1, { e.2 with waves := e.2.waves &&& ~~~(BitVec.ofNat 16 (2 ^ tag)) }))
  let s2 : State := { s1 with fab := { s1.fab with
    last := tag, chans := chans.filter (fun e => decide (e.2 ≠ ({} : Chan))) } }
  (tag, s2.putWave tag { live := true, last := s2.now })

/-- Whether a task latch or a Gleaner activation holds a tag (R229). -/
def State.waveHeld (s : State) (t : Nat) : Bool :=
  let is (w : Option (Nat × Nat)) : Bool := match w with | some (k, _) => k == t | none => false
  s.fab.tasks.any (fun e => e.2.held && e.2.wave.toNat == t)
  || s.gle.threads.any (fun e => is e.2.wave || is e.2.pendWave)

/-! ### Handlers (R150, R269) -/

/-- Whether the engine counts a handler's thread free. -/
def State.threadFree (s : State) (t : Nat) : Bool :=
  let h := s.thread t
  let sched := s.thrReg t 0x04
  let states := match s.pstate with | .run => 4 | .idle => 5 | .standby => 6 | _ => 7
  flag sched 3 && h.st == .wait && !h.pending && flag sched states

/-- Why a handler's thread is not free: 3 STOPPED, STOPPING or FAULT, 2 busy, 4 the power state. -/
def State.notFree (s : State) (t : Nat) : Nat :=
  let h := s.thread t
  if h.st == .stopped || h.st == .fault || h.stopping then 3
  else if h.st == .wait && !h.pending && flag (s.thrReg t 0x04) 3 then 4
  else 2

/-- The agent that runs a handler: 0 Gleaner, 1 core, none, with the reason. -/
def State.handlerChoice (s : State) (h : Handler) : Option Nat × Nat :=
  let th := s.thread h.thread
  let takes := th.held || th.st == .wait || (th.active && !th.stopping)
  if h.cform && (h.pin == 2 || !h.gform) then (some 1, if h.pin == 2 then 5 else 6)
  else if h.gform && s.threadFree h.thread then (some 0, 1)
  else if h.cform && h.pin != 1 then (some 1, s.notFree h.thread)
  else if takes then (some 0, 2)
  else (none, 3)

/-- A handler's decision on an event its channel propagated (R269, R271). HRAISE stands in GRANARY's page and is set
whatever CORE does: a core form raised in a reset of CORE waits with its bit set (R532). -/
def State.handle (s : State) (n ch wave depth : Nat) (h : Handler) : State :=
  let (agent, reason) := s.handlerChoice h
  let s1 := s.place 7 reason n (agent.getD 0xFF) h.thread (pack [(0, 6, ch), (8, 4, wave)])
  let sat12 (c : BitVec 12) : BitVec 12 := if c = 4095 then c else c + 1
  let sat4 (c : BitVec 4) : BitVec 4 := if c = 15 then c else c + 1
  match agent with
  | some 0 => (s1.setHandler n (some { h with gruns := sat12 h.gruns })).cause h.thread (some (wave, depth))
  | some _ =>
    if flag (s1.rg 0x1C 0x084) n then s1.setHandler n (some { h with merged := sat4 h.merged })
    else (s1.setHandler n (some { h with cruns := sat12 h.cruns })).setHraise n true
  | none => s1.setHandler n (some { h with lost := sat4 h.lost })

/-- Every handler of a channel decides. -/
def State.handleAll (s : State) (ch wave depth : Nat) : State :=
  (List.range 32).foldl
    (fun acc n =>
      match acc.handler n with
      | some h => if h.channel = ch then acc.handle n ch wave depth h else acc
      | none => acc) s

/-! ### Propagation (R224 to R230) -/

/-- A trigger reaches a task input (R225). -/
def State.latch (s : State) (task wave depth : Nat) : State :=
  let t := s.task task
  if t.held then s.putTask task { t with merged := if t.merged = 0xFFFF then t.merged else t.merged + 1 }
  else s.putTask task { t with held := true, wave := BitVec.ofNat 4 wave, depth := depth }

/-- A channel drops an event it accepted at a time: LOOP, or DEEP; its 0x37 pulse is of the same time, so that it merges
where the channel selects it (R224, R228). -/
def State.dropEvent (s : State) (ch wave depth : Nat) (deep : Bool) (at_ : Stamp) : State :=
  let s1 := s.updChStat ch (fun w => satField w 23 16 1)
  let s2 := s1.updRg 0x08 0x048 (fun w =>
    let w1 := satField (setFlag w (if deep then 1 else 0) true) 31 16 1
    setField (setField (setField w1 7 2 ch) 11 8 wave) 14 12 depth)
  let s3 := ((s2.evPulse 0x08 (if deep then 1 else 0)).logErr 0x08 ch .loop).faultRec 0x1C 0x08 ch
  s3.pulseAt 0x37 (some (wave, depth)) at_

/-- A channel propagates an event (R223, R227, R230). -/
def State.propagate (s : State) (ch wave depth : Nat) : State :=
  let s1 := s.updChStat ch (fun w => wrapField w 15 0 1)
  let s2 := s1.updRg 0x08 (0x040 + 4 * (ch / 32)) (fun w => setFlag w (ch % 32) true)
  let s3 := if flag (s2.chCfg ch) 10 then s2.evPulse 0x08 3 else s2
  let c := s3.chan ch
  let s4 := (s3.putChan ch { c with waves := c.waves ||| BitVec.ofNat 16 (2 ^ wave) }).putWave wave
    { live := true, last := s3.now }
  let s5 := (s4.chTasks ch).foldl (fun acc t => acc.latch t wave (depth + 1)) s4
  s5.handleAll ch wave (depth + 1)

/-- An event raised at a time reaches a channel (R224, R228). -/
def State.chanTake (s : State) (ch wave depth : Nat) (at_ : Stamp) : State :=
  let c := s.chan ch
  let soon : Bool := match c.accepted with | some t => decide ((at_ - t).toNat < nsTime 25) | none => false
  if soon then s.updChStat ch (fun w => satField w 31 24 1)
  else
    let s1 := s.putChan ch { c with accepted := some at_ }
    if c.waves.getLsbD wave then s1.dropEvent ch wave depth false at_
    else if depth ≥ 4 then s1.dropEvent ch wave depth true at_
    else s1.propagate ch wave depth

/-- A source pulse reaches the channels that select it (R227); one that no enabled channel selects consumes
nothing. -/
def State.fan (s : State) (src : Nat) (carried : Option (Nat × Nat)) (at_ : Stamp) : State :=
  match s.chansOf src with
  | [] => s
  | l =>
    let ((wave, depth), s1) : (Nat × Nat) × State :=
      match carried with
      | some w => (w, s)
      | none => let (t, s1) := s.newWave; ((t, 0), s1)
    l.foldl (fun acc ch => acc.chanTake ch wave depth at_) s1

/-- The first waiting pulse of a source, and the others. -/
def takePulse (src : Nat) : List Pulse → Option (Pulse × List Pulse)
  | [] => none
  | p :: rest =>
    if p.src = src then some (p, rest)
    else match takePulse src rest with | some (q, r) => some (q, p :: r) | none => none

/-- Whether a source can pulse without a pulse of its own waiting: its block is READY and not clamped; 0x37 follows a
drop alone, and a tap an edge of its EVRAW bit alone (R226, R228, R234, R235). -/
def State.freePulse (s : State) (src : Nat) : Bool :=
  sourceKnown src && src != 0x37 && !(0xC0 ≤ src && src ≤ 0xDF)
  && s.ready (s.sourcePage src) && !s.clamped (islandOf (s.sourcePage src))

/-- SOURCE_PULSE (R224 to R228): the oldest pulse of the source that waits, or one raised now. -/
def State.sourcePulse (s : State) (src : Nat) : State :=
  if s.dead then s
  else
    match takePulse src s.fab.pulses with
    | some (p, rest) => ({ s with fab := { s.fab with pulses := rest } }).fan src p.wave p.raised
    | none => if s.freePulse src then s.fan src none s.now else s

/-- WAVE_QUIET_EXPIRY (R229): QUIET passes since the tag was last propagated, and nothing holds it. -/
def State.waveExpire (s : State) (t : Nat) : State :=
  let w := s.waveTag t
  if w.live && !s.waveHeld t then
    let s1 := s.reach (w.last + BitVec.ofNat 64 (field (s.rg 0x08 0x04C) 9 0 * 2 ^ 17))
    s1.putWave t { w with live := false }
  else s

/-! ### Configuration (R231 to R234) -/

/-- A SWGEN write that has reached the register (R231). -/
def swgenEffect (v : Word) (s : State) : State × Code :=
  ((List.range 8).foldl (fun acc n => if flag v n then acc.pulse (0x28 + n) else acc) s, .done)

/-- Whether a list has no element twice. -/
def distinct (l : List Nat) : Bool := l.eraseDups.length == l.length

/-- A write of CHn_CFG, TASKA or TASKB that has reached the register (R232). -/
def chEffect (m : Master) (ch reg : Nat) (v : Word) (s : State) : State × Code :=
  let old := s.chCfg ch
  let new := setField (v &&& 0xFF0007FF) 14 12 (field old 14 12)
  let off := 0x100 + 0x10 * ch + 4 * reg
  if flag old 8 then
    if reg == 0 && new == setFlag old 8 false then
      if (field old 14 12 == Master.id m && s.isOwner m) || (s.secure m && s.isOwner m) then (s.setRg 0x08 off new, .done)
      else (s, .security)
    else (s, .state)
  else if reg != 0 then (s.setRg 0x08 off v, .done)
  else if flag new 8 then
    let s1 := s.setRg 0x08 off (setField new 14 12 (Master.id m))
    let tasks := s1.chTasks ch
    if !sourceKnown (field new 7 0) || !tasks.all taskKnown || !distinct tasks then (s, .arg)
    else if !flag new 9 && (s.secureSource (field new 7 0) || tasks.any secureTask) then (s, .security)
    else (s1, .done)
  else (s.setRg 0x08 off new, .done)

/-- A write of TAPk that has reached the register (R234). -/
def tapEffect (k : Nat) (v : Word) (s : State) : State × Code :=
  let page := field v 7 0
  if !s.assigned page || page > 0x7F || page == 0x08 || !(s.chansOf (0xC0 + k)).isEmpty then (s, .arg)
  else (s.setRg 0x08 (0x080 + 4 * k) (v &&& 0x80001FFF), .done)

/-- The FLAG bits of the secure channels of a half (R233). -/
def State.secureFlags (s : State) (half : Nat) : Word :=
  pack ((List.range 32).map (fun k => (k, 1, bit (flag (s.chCfg (32 * half + k)) 9))))

/-- FLAG_LO and FLAG_HI as a master reads them, and a write of 1 by a master (R233). -/
def State.flagView (s : State) (m : Master) (half : Nat) : Word :=
  let w := s.rg 0x08 (0x040 + 4 * half)
  if s.secure m then w else w &&& ~~~(s.secureFlags half)
def flagEffect (m : Master) (half : Nat) (v : Word) (s : State) : State × Code :=
  let hit := if s.secure m then v else v &&& ~~~(s.secureFlags half)
  (s.updRg 0x08 (0x040 + 4 * half) (fun w => w &&& ~~~hit), .done)

/-- WAVESTAT and TSTAT (R237). -/
def State.waveStat (s : State) : Word :=
  pack ((List.range 15).map (fun k => (k + 1, 1, bit (s.waveTag (k + 1)).live))
    ++ [(16, 4, s.fab.last), (24, 8, s.fab.reclaims.toNat)])
def State.taskStat (s : State) (k : Nat) : Word :=
  let t := s.task k
  pack [(0, 16, t.merged.toNat), (16, 8, t.lost.toNat), (24, 4, t.wave.toNat), (28, 1, bit t.held)]

/-! ### Rows -/

/-- SOURCE_PULSE (R224). -/
def execSourcePulse (src : BitVec 8) (s : State) : Host.Outcome State Fault Refusal := .next (s.sourcePulse src.toNat)

/-- WAVE_QUIET_EXPIRY (R229). -/
def execWaveQuietExpiry (tag : Fin 16) (s : State) : Host.Outcome State Fault Refusal := .next (s.waveExpire tag.val)

/-- SWGEN (R231). -/
def execSwgen (m : Master) (v : Word) (s : State) : Host.Outcome State Fault Refusal :=
  .next (s.write m 0x08 0x054 v (swgenEffect v))

/-- CH_CFG_WRITE (R232). -/
def execChCfgWrite (m : Master) (ch : Fin 64) (reg : Fin 3) (v : Word) (s : State) :
    Host.Outcome State Fault Refusal :=
  .next (s.write m 0x08 (0x100 + 0x10 * ch.val + 4 * reg.val) v (chEffect m ch.val reg.val v))

/-- TAP_WRITE (R234). -/
def execTapWrite (m : Master) (k : Fin 32) (v : Word) (s : State) : Host.Outcome State Fault Refusal :=
  .next (s.write m 0x08 (0x080 + 4 * k.val) v (tapEffect k.val v))

end Sys2Proof.Machine
end

