-- ==== Sys2Proof/Machine/Link.lean ====
section
/-!
DEFINITION. The link engine (chapter 17): superframe, beacons, channel access, DATA, ACK and MAPSET frames, relaying,
delivery, peers, map negotiation, and the operations of LINK and PEERS.
-/
namespace Sys2Proof.Machine

/-! ### The superframe (R393, R394) -/

/-- The radio set for a slot: channel, OFDM width, and MODE, NBTYPE and NBRATE (R359). -/
def State.setRadio (s : State) (freq : Nat) (width : Option Nat) (nb : Bool) (nbtype : Nat) : State :=
  ((s.setChannel freq (width.getD (field (s.rg 0x28 0x044) 2 0))).updRg 0x29 0x040 (fun w =>
    if nb then setField (setField (setFlag w 0 true) 2 1 nbtype) 3 3 1 else setFlag w 0 false)).refreshRadio

/-- DFREQ. -/
def State.dfreq (s : State) : Nat := field (s.rg 0x2A 0x044) 29 0

/-- The radio set for the data channel's OFDM frames. -/
def State.dataRadio (s : State) : State := s.setRadio s.dfreq (some (field (s.rg 0x2A 0x048) 2 0)) false 0

/-- Where the next superframe starts (R393). -/
def State.nextFrame (s : State) : Stamp :=
  let off := if s.slotSync then 0 else s.link.offset.toNat
  let t := s.now.toNat
  let base := if t < off then off else (t - off) / 2 ^ 32 * 2 ^ 32 + off
  let start := if base > s.link.frame.toNat then base else (s.link.frame.toNat - off) / 2 ^ 32 * 2 ^ 32 + off + 2 ^ 32
  BitVec.ofNat 64 start

/-- Which peers were cheaper than the parent by 2 in the superframe that ends (R397). -/
def State.countCheaper (s : State) : State :=
  let parentCost := match s.link.parent.bind s.peer with | some p => some p.through | none => none
  s.peerList.foldl
    (fun acc (n, p) =>
      let cheaper := match parentCost with
        | some c => s.link.parent != some n && p.candidate && decide (p.through + 2 ≤ c)
        | none => false
      acc.putPeer n (some { p with streak := if cheaper then p.streak + 1 else 0 })) s

/-- Each peer's count of superframes goes on: beacons, the last one's stamp, and age (R395, R397, R410). -/
def State.agePeers (s : State) : State :=
  s.peerList.foldl
    (fun acc (n, p) => acc.putPeer n (some
      { p with age := p.age + 1, beacons := (false :: p.beacons).take 4, beaconBefore := p.beaconAt })) s

/-- The parent is kept, replaced or chosen at the start of a superframe (R397). -/
def State.judgeParent (s : State) : State :=
  match s.link.parent with
  | none => if s.timeMaster then s else s.setParent (s.bestParent (fun _ => true))
  | some n =>
    if s.timeMaster then s.setParent none
    else
    let heard := match s.peer n with | some p => p.beacons.headD false | none => false
    let missed := if heard then 0 else s.link.missed + 1
    let s1 := s.updLink (fun l => { l with missed := missed })
    if missed ≥ 3 then s1.setParent (s1.bestParent (· != n))
    else
      match s1.bestParent (fun k => k != n && decide (3 ≤ ((s1.peer k).map (·.streak)).getD 0)) with
      | some k => s1.setParent (some k)
      | none => s1

/-- Delivery packets pushed in order, as far as they fit (R408). -/
def State.pushPackets (s : State) : List (List Word) → State
  | [] => s
  | p :: rest =>
    let (s1, c) := s.blockPush (field (s.rg 0x2A 0x05C) 4 0) p
    if c = .done then
      (((s1.updLink (fun l => { l with packets := rest })).evPulse 0x2A 2).pulse 0xB2).pushPackets rest
    else s1

/-- Delivery packets that waited for their queue are pushed again, oldest first (R408). -/
def State.pushWaiting (s : State) : State := s.pushPackets s.link.packets

/-- The superframe start that TIME has just reached. -/
def State.nextFrameAt (t : State) : Stamp :=
  let off := if t.slotSync then 0 else t.link.offset.toNat
  if t.now.toNat < off then t.now else BitVec.ofNat 64 ((t.now.toNat - off) / 2 ^ 32 * 2 ^ 32 + off)

/-- A superframe begins: the parent is judged by the one that has ended, and the beacon period opens. -/
def State.startFrame (s : State) : State :=
  let s0 := s.reach s.nextFrame
  let s1 := s0.countCheaper.judgeParent.agePeers
  let s2 := s1.updLink (fun l => { l with frame := s1.nextFrameAt, dataPeriod := false, backoff := none, beaconBefore := l.beaconAt })
  (((s2.setRadio s2.dfreq (some 0) true 0).pushWaiting).pulse 0xB4).refreshLink

/-- The start of the data period: NBS × 62.5 ms into the superframe. -/
def State.dataStart (s : State) : Stamp :=
  s.link.frame + BitVec.ofNat 64 (usTime (62500 * field (s.rg 0x2A 0x040) 7 4))

/-- The data period opens: the radio takes the data channel's waveform, held fragments are offered again (R406). -/
def State.openData (s : State) : State :=
  let s1 := s.reach s.dataStart
  let s2 := s1.updLink (fun l =>
    { l with dataPeriod := true, msgs := l.msgs.map (fun m => { m with hold := false }) })
  s2.dataRadio

/-! ### Beacons (R394 to R396) -/

/-- The children to list: at most four whose beacons were accepted in the previous superframe, in turn from the one
after the last listed (R395). -/
def State.childList (s : State) : List (Nat × Peer) :=
  let l := s.peerList.filter (fun e => e.2.child && (e.2.beacons.drop 1).headD false)
  ((l.filter (fun e => decide (e.1 > s.link.listed))) ++ (l.filter (fun e => decide (e.1 ≤ s.link.listed)))).take 4

/-- The own beacon with its t1, and each child's t4, the stamp of its beacon in the previous superframe (R188, R395). -/
def State.beaconFrame (s : State) (t1 : Stamp) (children : List (Nat × Peer)) : TxFrame :=
  let (depth, cost) := s.depthCost
  let n := children.length
  let dst : Nat := match s.time.dstate with | .free => 0 | .acquire => 1 | .locked => 2 | .holdover => 3
  let head := bytesLE 8 t1.toNat ++
    [BitVec.ofNat 8 (depth % 16 + 16 * dst + 64 * bit (flag (s.rg 0x2A 0x040) 0)), BitVec.ofNat 8 n]
    ++ bytesLE 2 cost ++ bytesLE 4 s.estErr
    ++ children.flatMap (fun e => bytesLE 2 e.2.station.toNat ++ bytesLE 4 (loWord e.2.beaconBefore).toNat)
  let hdr := makeHeader 0 0 1 0 (head.length + 4) s.station 0xFFFF (s.ownDbm true)
  let mac :=
    match s.linkKey (field (s.rg 0x2A 0x06C) 5 0) with
    | some key => if flag (s.rg 0x2A 0x040) 1 then (aesCmac key (headerBytes hdr ++ head)).take 4 else [0, 0, 0, 0]
    | none => [0, 0, 0, 0]
  { why := .beacon, hdr := hdr, payload := head ++ mac, nb := true }

/-- Whether the beacon may be sent: enabled, the master or with a parent, once a superframe, in its slot, its CMAC
to be had (R394, R396). -/
def State.mayBeacon (s : State) : Bool :=
  s.mayTalk && flag (s.rg 0x2A 0x040) 11 && !s.link.dataPeriod
  && s.phy.request.isNone && s.phy.tx.isNone
  && (match s.link.beaconAt with | some t => decide (t < s.link.frame) | none => true)
  && (!flag (s.rg 0x2A 0x040) 1 || (s.linkKey (field (s.rg 0x2A 0x06C) 5 0)).isSome)

/-- The own beacon's start: 2 ms into slot BSLOT. -/
def State.beaconStart (s : State) : Stamp :=
  s.link.frame + BitVec.ofNat 64 (usTime (62500 * field (s.rg 0x2A 0x040) 10 8 + 2000))

/-- A frame handed to the transceiver. -/
def State.request (s : State) (f : TxFrame) : State := s.updPhy (fun p => { p with request := some f })

/-- The beacon is handed over; its stamp point is the end of its 64 preamble and sync symbols. -/
def State.sendBeacon (s : State) : State :=
  let s1 := s.reach s.beaconStart
  let t1 := s.beaconStart + BitVec.ofNat 64 (nsTime (nbSymbolsNs true 64))
  if s.beaconStart < s.now then s
  else
    let l := s1.childList
    (s1.request (s1.beaconFrame t1 l)).updLink (fun k =>
      { k with beaconAt := some t1, listed := match l.getLast? with | some e => e.1 | none => k.listed })

/-- A little-endian field of a payload. -/
def payField (l : List Byte) (at_ n : Nat) : Nat := natLE ((l.drop at_).take n)

/-- A beacon's CMAC agrees (R395, R396). -/
def State.beaconMac (s : State) (d : Delivered) : Bool :=
  let n := d.payload.length
  match s.linkKey (field (s.rg 0x2A 0x06C) 5 0) with
  | some key => (aesCmac key (headerBytes d.hdr ++ d.payload.take (n - 4))).take 4 == d.payload.drop (n - 4)
  | none => false

/-- The parent's beacon gives discipline its exchange (R187, R188, R396), and the superframe its place (R393). t3 is the stamp
of the own beacon that t4 is of, the previous superframe's (DEDUCED, log entry 1709). -/
def State.parentBeacon (s : State) (n : Nat) (d : Delivered) (t1 : Stamp) : State :=
  let kids := (d.payload.getD 9 0).toNat
  let entry := (List.range kids).find? (fun i => payField d.payload (16 + 6 * i) 2 == s.station)
  let t4 := entry.map (fun i => joinWords (hiWord t1 - 1) (BitVec.ofNat 32 (payField d.payload (18 + 6 * i) 4)))
  let s1 := ((s.evPulse 0x2A 0).pulse 0xB0).updLink (fun l =>
    { l with offset := loWord (d.stamp - joinWords 0 (loWord t1)), heard := true })
  if d.stampPoor then s1
  else
    let x : Exchange :=
      { t1 := t1, t2 := d.stamp, t3 := (s1.link.beaconBefore).getD 0
        t4 := if s1.link.beaconBefore.isSome then t4 else none
        depth := (d.payload.getD 8 0).toNat % 16 + 1, parent := n, changed := s1.link.newParent }
    { s1 with time := { s1.time with sample := some x } }

/-- A delivered beacon judged (R396): strangers, CMAC, stale t1, acceptance. -/
def State.takeBeacon (s : State) (d : Delivered) : State :=
  let src := hfield d.hdr 47 32
  match s.peerOf src with
  | none => s.stranger src 1 d
  | some n =>
    match s.peer n with
    | none => s
    | some p =>
      let l := d.payload
      let kids := (l.getD 9 0).toNat
      let t1 : Stamp := BitVec.ofNat 64 (payField l 0 8)
      if d.mark != .ok || l.length != 20 + 6 * kids || kids > 4 then s
      else if flag (s.rg 0x2A 0x040) 1 && !s.beaconMac d then
        (s.updRg 0x2A 0x090 (fun w => satField w 31 16 1)).stranger src 2 d
      else if (match p.t1 with | some old => decide (t1 ≤ old) | none => false) then
        (s.updPeer n (fun p => { p with replay := sat8 p.replay })).updRg 0x2A 0x090 (fun w => satField w 15 0 1)
      else
        let b8 := (l.getD 8 0).toNat
        let (w, s0) := s.draw
        let own := s0.depthCost.1
        let s1 := (s0.acceptFrame n d).updPeer n (fun p =>
          { p with
            t1 := some t1, depth := b8 % 16, dstate := b8 / 16 % 4, router := b8 / 64 % 2 == 1
            cost := payField l 10 2, beaconAt := d.stamp, beacons := true :: p.beacons.drop 1
            child := b8 % 16 == own + 1 && flag w 0 })
        let s2 := if s1.link.parent.isNone && !s1.timeMaster then s1.judgeParent else s1
        (if s2.link.parent = some n then s2.parentBeacon n d t1 else s2).refreshLink

/-! ### Taking frames from the receiver -/

/-- The oldest delivered frame, when it is of a TYPE, and the state without it. -/
def State.takeFrame (s : State) (typ : Nat) : Option (Delivered × State) :=
  match s.link.inbox with
  | [] => none
  | d :: rest =>
    if !d.legacy && hfield d.hdr 7 4 = typ then some (d, s.updLink (fun l => { l with inbox := rest })) else none

/-- An acknowledgement is due Ts + 0.5 ms after a frame's end (R405); a duplicate of the frame gets the same. -/
def State.ackFor (s : State) (n : Nat) (d : Delivered) (o : Opened) (hold noroute : Bool) : State :=
  let a : AckDue :=
    { peer := n, seq := o.seq, frag := o.frag, hold := hold, noroute := noroute, ctr := o.ctr
      due := d.ended + BitVec.ofNat 64 (nsTime (tsNs d.width + 500000)), width := d.width, nb := d.nb }
  (s.updPeer n (fun p => { p with lastAck := some (hold, noroute) })).updLink (fun l => { l with acks := l.acks ++ [a] })

/-- A frame that fails to authenticate (R404). -/
def State.authDrop (s : State) (src : Nat) (d : Delivered) : State :=
  (s.updRg 0x2A 0x090 (fun w => satField w 31 16 1)).stranger src 2 d

/-- How R404 judges an opened frame's counter. -/
inductive CtrCase where
  | duplicate | replay | fresh
  deriving DecidableEq, Repr

/-- The counter's case. -/
def ctrCase (p : Peer) (o : Opened) : CtrCase :=
  if o.ctr = p.rxctr && p.lastFrag = some (o.orig, o.seq, o.frag) then .duplicate
  else if o.ctr ≤ p.rxctr then .replay
  else .fresh

/-- A DATA or MAPSET frame from its sender: opened, its counter judged, then acted on (R404). It waits while CRIB is
not READY (R403). -/
def State.secured (s : State) (before : State) (d : Delivered)
    (eff : Nat → Peer → Opened → State → State) : State :=
  let src := hfield d.hdr 47 32
  match s.peerOf src with
  | none => s.stranger src 1 d
  | some n =>
    match s.peer n with
    | none => s
    | some p =>
      if d.mark != .ok || hfield d.hdr 63 48 != s.station then s
      else if !s.cribFree then before
      else
        match s.openFrame d p with
        | none => s.authDrop src d
        | some o =>
          match ctrCase p o with
          | .duplicate =>
            let s1 := s.updRg 0x2A 0x084 (fun w => satField w 31 16 1)
            match p.lastAck with
            | some (hold, noroute) => s1.ackFor n d o hold noroute
            | none => s1
          | .replay =>
            (s.updPeer n (fun p => { p with replay := sat8 p.replay })).updRg 0x2A 0x090
              (fun w => satField w 15 0 1)
          | .fresh =>
            eff n p o ((s.acceptFrame n d).updPeer n (fun p =>
              { p with rxctr := o.ctr, lastFrag := some (o.orig, o.seq, o.frag), lastAck := none }))

/-! ### Relaying and delivery (R398, R399, R408) -/

/-- The down table learns where a station's fragments come from (R398). -/
def State.learn (s : State) (n : Nat) (p : Peer) (orig : Nat) : State :=
  if s.link.parent = some n || orig = p.station.toNat then s
  else
    s.updLink (fun l =>
      { l with down := ({ orig := orig, via := n, learned := s.now }
          :: l.down.filter (fun e => e.orig != orig)).take 64 })

/-- A fragment to be relayed: forwarded, held or refused (R399). -/
def State.relay (s : State) (n : Nat) (d : Delivered) (o : Opened) : State :=
  let cfg := s.rg 0x2A 0x040
  let known := (s.link.routes.find? (fun r => r.1 == o.orig && r.2.1 == o.seq && (s.peer r.2.2).isSome)).map (·.2.2)
  let hop := match known with | some h => some (h, 0) | none => s.nextHop o.final
  match hop with
  | none => (s.ackFor n d o false true).updRg 0x2A 0x088 (fun w => satField w 31 16 1)
  | some (h, reason) =>
    if !flag cfg 0 || o.hops + 1 ≥ field cfg 19 16 then
      (s.ackFor n d o false true).updRg 0x2A 0x088 (fun w => satField w 31 16 1)
    else if !s.linkRoom then s.ackFor n d o true false
    else
      let m : Msg :=
        { kind := .relay, orig := o.orig, final := o.final, seq := o.seq, mgmt := o.mgmt, hops := o.hops + 1
          frag := o.frag, nfrag := o.nfrag, bodies := [o.body], hop := h }
      let s1 := (s.ackFor n d o false false).addMsg m
      if reason = 0 then s1
      else
        (s1.routeRecord m h reason 0xFF).updLink (fun l =>
          { l with routes := ((o.orig, o.seq, h) :: l.routes).take 32 })

/-- The lowest free delivery buffer (R408, R409). -/
def State.freeBuf (s : State) : Option Nat :=
  let c := s.rg 0x2A 0x05C
  if flag c 5 && s.link.bufs.length < field c 11 8 then
    (List.range (field c 11 8)).find? (fun b => !s.link.bufs.contains b)
  else none

/-- A body placed in a delivery buffer, with its packet (R408). -/
def State.placeBody (s : State) (buf orig hops : Nat) (legacy : Bool) (body : List Byte) (stamp : Stamp) : State :=
  let frame := (s.framesOf 2).getD buf 0
  let words := frame * 1024
  let n := (body.length + 3) / 4
  let s0 := s.mendWords (fun w => w < words || w ≥ words + n)
  let s1 := (s0.setSramBytes (frame * 4096) body).updLink (fun l => { l with bufs := l.bufs ++ [buf] })
  let items : List Word :=
    [ pack [(0, 16, orig), (16, 1, bit legacy), (20, 4, hops)], pack [(0, 13, body.length), (16, 6, buf)]
    , BitVec.ofNat 32 (stampField stamp 47 24), BitVec.ofNat 32 (stampField stamp 23 0) ]
  let s2 := s1.updLink (fun l => { l with packets := l.packets ++ [items] })
  (if s1.link.packets.isEmpty then s2.pushWaiting else s2).refreshLink

/-- A fragment for this station: put together, and the whole message delivered (R408). -/
def State.reassemble (s : State) (n : Nat) (d : Delivered) (o : Opened) : State :=
  if s.link.done.contains (o.orig, o.seq) then s.ackFor n d o false false
  else
    let known := s.link.reasm.find? (fun r => r.orig == o.orig && r.seq == o.seq)
    let r0 : Reasm := known.getD { orig := o.orig, seq := o.seq, nfrag := o.nfrag, mgmt := o.mgmt, first := d.stamp }
    let r : Reasm := { r0 with frags := Tab.put r0.frags o.frag o.body }
    let whole := decide (r.frags.length ≥ r.nfrag)
    let same (x : Reasm) : Bool := x.orig == o.orig && x.seq == o.seq
    let others := s.link.reasm.filter (fun x => !same x)
    let kept := if known.isNone then s.link.reasm ++ [r] else s.link.reasm.map (fun x => if same x then r else x)
    if !whole then
      if known.isNone && !s.linkRoom then s.ackFor n d o true false
      else ((s.updLink (fun l => { l with reasm := kept })).ackFor n d o false false).refreshLink
    else
      let body := r.frags.flatMap (·.2)
      let finish (t : State) : State :=
        (t.updLink (fun l => { l with reasm := others, done := ((o.orig, o.seq) :: l.done).take 32 })).ackFor n d o false
          false
      if r.mgmt then
        (finish (s.updLink (fun l => { l with mgmtIn := l.mgmtIn ++ [{ orig := o.orig, body := body }] }))).refreshLink
      else
        match s.freeBuf with
        | none => s.ackFor n d o true false
        | some b => ((finish s).placeBody b o.orig o.hops false body d.stamp)

/-- A DATA frame from a peer (R398, R399, R404, R408). -/
def State.takeData (s before : State) (d : Delivered) : State :=
  s.secured before d (fun n p o t =>
    let t1 := t.learn n p o.orig
    if o.final = t1.station then t1.reassemble n d o else t1.relay n d o)

/-! ### Bit maps (R412, R413) -/

/-- A map installed in a peer's context. -/
def State.installMap (s : State) (n k : Nat) (m : BitMap) : State :=
  (s.updPeer n (fun p => p.withMap k m)).evPulse 0x2B 1

/-- The codes of a stored map's 36 bytes (R374). -/
def mapCodes (l : List Byte) : List (BitVec 3) :=
  let v := natLE l
  (List.range 96).map (fun d => BitVec.ofNat 3 (v / 2 ^ (3 * d)))

/-- A map's 36 bytes. -/
def mapBytes (m : BitMap) : List Byte :=
  bytesLE 36 ((m.codes.zipIdx.map (fun (c, d) => c.toNat * 2 ^ (3 * d))).sum)

/-- Whether a map may be used: no reserved code, at least 24 subcarriers on (R374). -/
def mapValid (codes : List (BitVec 3)) : Bool :=
  codes.all (fun c => decide (c.toNat ≤ 5)) && decide (24 ≤ (codes.filter (fun c => c != 0)).length)

/-- A MAPSET frame from a peer: the map it proposes for frames to it is installed, and acknowledged (R412). -/
def State.takeMapset (s before : State) (d : Delivered) : State :=
  s.secured before d (fun n p o t =>
    let b := o.body
    let k := (b.getD 0 0).toNat
    let m : BitMap :=
      { gen := (b.getD 1 0).toNat % 16, rate := (b.getD 2 0).toNat % 4, codes := mapCodes (b.drop 4) }
    if b.length != 40 || k != t.outMap p || !mapValid m.codes then t
    else ((t.installMap n k m).updPeer n (fun p => { p with fallback := false })).ackFor n d o false false)

/-- The proposal to a peer has been installed by it, so it is installed here, and NEGOTIATE is done (R412). -/
def State.proposalInstalled (s : State) (n : Nat) : State :=
  match s.peer n with
  | some p =>
    match p.prop with
    | some m =>
      let s1 := s.installMap n (s.inMap p) m
      match s1.link.msgs.find? (fun x => (match x.kind with | .mapset _ => true | _ => false) && x.hop == n) with
      | some x => s1.finishMsg x .done
      | none => s1
    | none => s
  | none => s

/-- A frame that named a map slot this station does not hold: the first one naming the proposal installs it (R412). -/
def State.mapMissed (s : State) (d : Delivered) : State :=
  match s.peerOf (hfield d.hdr 47 32) with
  | none => s.stranger (hfield d.hdr 47 32) 1 d
  | some n =>
    match s.peer n with
    | some p =>
      if p.negotiating && hfield d.hdr 15 12 == 8 + s.inMap p
          && (match p.prop with | some m => m.gen == hfield d.hdr 19 16 | none => false) then
        s.proposalInstalled n
      else s
    | none => s

/-! ### Channel access (R400, R401) -/

/-- The frame sent next from those that wait: MAPSET frames, relayed fragments, own fragments, each in the order it
became ready (R401). -/
def State.nextMsg (s : State) : Option Msg :=
  let l := s.link.msgs.filter (fun m => !m.hold)
  let first (p : Msg → Bool) : Option Msg := l.find? p
  match first (fun m => match m.kind with | .mapset _ => true | _ => false) with
  | some m => some m
  | none =>
    match first (fun m => m.kind == .relay) with
    | some m => some m
    | none => first (fun _ => true)

/-- The listen time of the region, in ns (R400). -/
def State.listenNs (s : State) : Nat := if s.regionCode = 3 then 5000000 else 3000000

/-- Whether a channel power, in 0.25 dBm, is at or above the region's busy threshold, -105 or -85 dBm (R400). -/
def State.busyAt (s : State) (power : Int) : Bool := decide ((if s.regionCode = 3 then -340 else -420) ≤ power)

/-- Whether the engine may listen now. -/
def State.mayListen (s : State) : Bool :=
  s.mayTalk && s.link.dataPeriod && s.phy.request.isNone && s.phy.tx.isNone && s.phy.rx.isNone && s.link.wait.isNone

/-- The backoff drawn uniformly from 0 to CW, CW = 7 × 2^r up to 63 (R400). -/
def State.drawBackoff (s : State) (m : Msg) : State × Nat :=
  match s.link.backoff with
  | some b => (s, b)
  | none =>
    let (w, s1) := s.draw
    let b := w.toNat % (min 63 (7 * 2 ^ m.attempts) + 1)
    (s1.updLink (fun l => { l with backoff := some b }), b)

/-- The frame a message sends next, with its counter and its waveform taken, which its retries keep: none without a key, or
once the last counter is used (R403, R406, R412). -/
def State.frameOf (s : State) (m : Msg) (p : Peer) : Except Code (State × TxFrame) :=
  if p.legacy then
    .ok (s, { why := .msg m.id, legacy := true, nb := true
              payload := bytesLE 2 s.station ++ m.bodies.headD [] })
  else
    match s.peerKey p with
    | none => .error .security
    | some key =>
      if p.txctr = 0xFFFFFFFF then .error .security
      else
        match m.ctr with
        | some c => .ok (s, s.dataFrame m p key c.toNat)
        | none =>
          let c := p.txctr + 1
          let wave := s.waveFor p
          let s1 := (s.updPeer m.hop (fun p => { p with txctr := c })).updMsg m.id (fun m =>
            { m with ctr := some c, wave := some wave })
          .ok (s1, s.dataFrame { m with wave := some wave } p key c.toNat)

/-- Listen and backoff end idle: the pending frame is handed over, if it fits before 995 ms (R400). -/
def State.backoffDone (s : State) : State :=
  match s.nextMsg with
  | none => s
  | some m =>
    match s.peer m.hop with
    | none => s
    | some p =>
      if !p.legacy && !s.cribFree then s
      else
        let (s1, b) := s.drawBackoff m
        let ts := tsNs (field (s.rg 0x2A 0x048) 2 0)
        let unit := if p.legacy then 2000000 else ts
        let t := s1.after (nsTime (s1.listenNs + b * unit))
        match s1.frameOf m p with
        | .error c => s1.finishMsg m c
        | .ok (s2, f) =>
          let window := if p.legacy then 0 else 10 * ts + 1500000
          if t + BitVec.ofNat 64 (nsTime (f.ns + window)) > s.link.frame + BitVec.ofNat 64 (msTime 995) then s1
          else
            let s3 := (s2.reach t).updLink (fun l => { l with backoff := none })
            let lf := field (s3.rg 0x2A 0x04C) 29 0
            (if p.legacy then s3.setRadio (if lf = 0 then s3.dfreq else lf) none true 2 else s3).request f

/-! ### Sent frames and their acknowledgements (R405, R406) -/

/-- A frame the region's rules refused: an own message completes with STATE, a relayed one is dropped (R361, R420). -/
def State.refused (s : State) (f : TxFrame) : State :=
  match f.why with
  | .msg id =>
    match s.link.msgs.find? (fun m => m.id == id) with
    | some m => s.finishMsg m .state
    | none => s
  | _ => s

/-- The transmission requested last begins, or is refused (R359). One that cannot be sent now, in ride-through or without
VPA, is no attempt: the link engine offers its message again (R95, R389). -/
def State.takeRequest (s : State) : State :=
  match s.phy.request with
  | none => s
  | some f =>
    match (s.updPhy (fun p => { p with request := none })).startTx f with
    | (s1, .sent) => s1
    | (s1, .blocked) => (if f.legacy then s1.dataRadio else s1).refused f
    | (s1, .down) => if f.legacy then s1.dataRadio else s1

/-- Transmission stops: a frame being sent, or requested, is abandoned, and the link engine sends its message again later
(R95, R389; that it counts as no attempt is DEDUCED, log entry 1703). -/
def State.cutTx (s : State) : State :=
  let legacy := match s.phy.tx with | some f => f.legacy | none => false
  let s1 := s.updPhy (fun p =>
    { p with tx := none, request := none, inForce := if p.rx.isSome then p.inForce else none })
  if legacy then s1.dataRadio else s1.refreshRadio

/-- A sent frame has ended: the ACK window of a fragment opens; a TOR4200 frame is done (R405, R414). -/
def State.afterTx (s : State) (f : TxFrame) : State :=
  let s1 := s.updRg 0x2A 0x080 (fun w => satField w 15 0 1)
  match f.why with
  | .msg id =>
    match s1.link.msgs.find? (fun m => m.id == id) with
    | none => s1
    | some m =>
      if f.legacy then s1.dataRadio.finishMsg m .done
      else
        let w : AckWait :=
          { id := id, peer := m.hop, ctr := m.ctr.getD 0, due := s1.after (nsTime (10 * tsNs f.width + 1500000))
            mapped := decide (8 ≤ hfield f.hdr 15 12) }
        s1.updLink (fun l => { l with wait := some w })
  | _ => s1

/-- An attempt has failed (R406): retried, or the hop has failed. -/
def State.attemptFailed (s : State) (w : AckWait) : State :=
  match s.link.msgs.find? (fun m => m.id == w.id) with
  | none => s
  | some m =>
    let fails := if w.mapped then m.mapFails + 1 else 0
    let s0 := if w.mapped && fails ≥ field (s.rg 0x2A 0x058) 18 16 then
        (s.updPeer m.hop (fun p => { p with fallback := true })).updLink (fun l =>
          { l with autoNow := l.autoNow || flag (s.rg 0x2A 0x040) 2 })
      else s
    let m1 : Msg := { m with attempts := m.attempts + 1, mapFails := fails }
    let s1 := s0.updMsg m.id (fun _ => m1)
    if m1.attempts ≥ 1 + field (s.rg 0x2A 0x040) 14 12 then
      (s1.updPeer m.hop (fun p => { p with ackfail := sat8 p.ackfail })).failHop m1
    else s1.updRg 0x2A 0x080 (fun x => satField x 31 16 1)

/-- An ACK judged (R405): the peer awaited, its MIC, its counter, before the window closes; then its flags (R406). -/
def State.takeAck (s : State) (d : Delivered) : State :=
  let src := hfield d.hdr 47 32
  match s.peerOf src with
  | none => s.stranger src 1 d
  | some n =>
    match s.peer n, s.link.wait with
    | some p, some w =>
      let l := d.payload
      if d.mark != .ok || hfield d.hdr 63 48 != s.station || w.peer != n || l.length != 16
          || payField l 4 4 != w.ctr.toNat || d.ended > w.due then s
      else
        match s.peerKey p with
        | none => s
        | some key =>
          let mic := ccmTag 8 key (s.frameNonce src s.station w.ctr.toNat 2) (headerBytes d.hdr ++ l.take 8) []
          if mic != l.drop 8 then s.stranger src 2 d
          else
            let s1 := (s.acceptFrame n d).updLink (fun x => { x with wait := none })
            match s1.link.msgs.find? (fun m => m.id == w.id) with
            | none => s1
            | some m =>
              let flags := l.getD 2 0
              if flags.getLsbD 1 then
                let m1 : Msg := { m with noroute := true }
                (s1.updMsg m.id (fun _ => m1)).failHop m1
              else if flags.getLsbD 0 then s1.updMsg m.id (fun m => { m with hold := true, ctr := none, wave := none })
              else
                match m.kind with
                | .mapset _ => s1.proposalInstalled n
                | _ => s1.advanceMsg m
    | _, _ => s

/-! ### Operations (R420) -/

/-- The body of a SEND: the window's bytes, or what the engine itself has put together. -/
def State.sendBody (s : State) (tag : Nat) (k : Slot) : State × Except Code (List Byte × Bool) :=
  match Tab.get (fun _ => none) s.link.agent tag with
  | some b => (s, .ok b)
  | none =>
    match s.winBytes (k.arg 1).toNat (field (k.arg 2) 12 0) with
    | (s1, .ok l) => (s1, .ok (l, false))
    | (s1, .error c) => (s1, .error c)

/-- The context of a LEGACY peer that a station number names. -/
def State.legacyPeer (s : State) (station : Nat) : Bool :=
  match (s.peerOf station).bind s.peer with | some p => p.legacy | none => false

/-- Whether SEND's arguments are in range (R407, R414, R420). -/
def State.sendArgs (s : State) (tag : Nat) (k : Slot) : Bool :=
  let final := field (k.arg 0) 15 0
  let n := field (k.arg 2) 12 0
  final != 0 && final != 0xFFFF && final != s.station && decide (1 ≤ n) && decide (n ≤ 4096)
  && (if s.legacyPeer final then decide (n ≤ 510) else (s.fragSize n).isSome)
  && ((Tab.get (fun _ => none) s.link.agent tag).isSome
      || ((k.arg 1).toNat % 4 == 0 && s.bytesInside (k.arg 1).toNat n))

/-- SEND: the message is cut, its hop chosen, and its fragments wait for the channel; it completes later. -/
def sendEffect (tag : Nat) (k : Slot) (s : State) : State × Option Code :=
  let final := field (k.arg 0) 15 0
  if s.link.msgs.any (fun m => m.kind == .own (BitVec.ofNat 7 tag)) then (s, none)
  else if !s.granaryUp then (s.sendFail .notReady, some .notReady)
  else if !s.linkEn || (regionRule s.regionCode).isNone || flag (s.rg 0x28 0x04C) 4 then (s.sendFail .state, some .state)
  else
    match s.nextHop final with
    | none => (s.sendFail .state, some .state)
    | some (hop, reason) =>
      if (s.region 2).isNone || !s.linkRoom then (s.sendFail .busy, some .busy)
      else if (match s.peer hop with | some p => !p.legacy && p.txctr == 0xFFFFFFFF | none => false) then
        (s.sendFail .security, some .security)
      else
        match s.sendBody tag k with
        | (s1, .error c) => (s1.sendFail c, some c)
        | (s1, .ok (body, mgmt)) =>
          let size := if s1.legacyPeer final then body.length else (s1.fragSize body.length).getD body.length
          let bodies := pieces size 16 body
          let seq := s1.link.seq + 1
          let m : Msg :=
            { kind := .own (BitVec.ofNat 7 tag), orig := s1.station, final := final, seq := seq.toNat, mgmt := mgmt
              nfrag := bodies.length, bodies := bodies, hop := hop }
          let s2 := s1.updLink (fun l =>
            { l with seq := seq, agent := Tab.set (fun _ => none) l.agent tag none })
          ((s2.addMsg m).routeRecord m hop reason 0xFF, none)

/-- ADMIT (R18, R410, R420). -/
def admitEffect (k : Slot) (s : State) : State × Option Code :=
  let a := k.arg 0
  let station := field a 15 0
  let want := if flag a 18 then 2 else 1
  if !s.cribUp || !s.granaryUp then (s, some .notReady)
  else if (s.peerOf station).isSome || station = s.station then (s, some .state)
  else if (s.key (field a 29 24)).typ != want then
    if s.ctxRoom 2 then (s, some .security) else (s, some .busy)
  else
    match s.ctxAlloc 2 with
    | none => (s, some .busy)
    | some (n, s1) =>
      let p : Peer :=
        { station := BitVec.ofNat 16 station, legacy := flag a 16, mgmt := flag a 17, aes256 := flag a 18
          key := field a 29 24, txctr := k.arg 1, rxctr := k.arg 2 }
      (((s1.putPeer n (some p)).dropStranger p.station).evPulse 0x2B 0, some .done)

/-- Messages that went through a removed peer are routed again with REASON 5 (R410). -/
def State.reroute (s : State) (n : Nat) : State :=
  (s.link.msgs.filter (fun m => m.hop == n)).foldl
    (fun acc m =>
      match m.kind, acc.nextHop m.final with
      | .mapset _, _ => acc.finishMsg m .timeout
      | _, none => acc.finishMsg m .timeout
      | _, some (h, _) =>
        (acc.updMsg m.id (fun x =>
          { x with hop := h, attempts := 0, mapFails := 0, ctr := none, wave := none })).routeRecord m h 5
          n) s

/-- REMOVE (R18, R410, R420). -/
def removeEffect (k : Slot) (s : State) : State × Option Code :=
  let n := field (k.arg 0) 7 0
  if !s.granaryUp then (s, some .notReady)
  else
  match s.peer n with
  | none => (s, some .state)
  | some _ =>
    let s1 := ((s.putPeer n none).ctxFree n).updLink (fun l =>
      { l with down := l.down.filter (fun e => e.via != n)
               wait := match l.wait with | some w => if w.peer = n then none else some w | none => none
               acks := l.acks.filter (fun a => a.peer != n) })
    let s2 := if s1.link.parent = some n then s1.setParent (s1.bestParent (fun _ => true)) else s1
    ((s2.reroute n).refreshLink, some .done)

/-- NEGOTIATE: the proposal goes out in a MAPSET frame; it completes when installed (R412, R420). -/
def negotiateEffect (tag : Nat) (k : Slot) (s : State) : State × Option Code :=
  let n := field (k.arg 0) 7 0
  if s.link.msgs.any (fun m => m.kind == .mapset (BitVec.ofNat 7 tag)) then (s, none)
  else if !s.granaryUp then (s, some .notReady)
  else
    match s.peer n with
    | none => (s, some .state)
    | some p =>
      match s.ctxRead n, p.prop with
      | (s1, false), _ => (s1, some .integrity)
      | _, none => (s, some .state)
      | _, some m =>
        if p.legacy || p.negotiating || !s.linkEn || (regionRule s.regionCode).isNone
            || flag (s.rg 0x28 0x04C) 4 then (s, some .state)
        else if !s.linkRoom then (s, some .busy)
        else if p.txctr = 0xFFFFFFFF then (s, some .security)
        else
          let seq := s.link.seq + 1
          let gen := nextGen (p.map (s.inMap p))
          let m1 : BitMap := { m with gen := gen }
          let body := [BitVec.ofNat 8 (s.inMap p), BitVec.ofNat 8 gen, BitVec.ofNat 8 m.rate, 0] ++ mapBytes m1
          let msg : Msg :=
            { kind := .mapset (BitVec.ofNat 7 tag), orig := s.station, final := p.station.toNat, seq := seq.toNat
              bodies := [body], hop := n }
          let s1 := (s.updPeer n (fun p => { p with prop := some m1, negotiating := true })).updLink (fun l =>
            { l with seq := seq })
          (s1.addMsg msg, none)

/-- The operations of AUTOMAP that wait are submitted, as far as there are slots: MEASURE, or NEGOTIATE (R61, R413). -/
def State.askAuto (s : State) : List (Nat × Bool) → State
  | [] => s
  | (n, second) :: rest =>
    if !second && !s.link.dataPeriod then s
    else
    let cfg := s.rg 0x2A 0x058
    let a := pack [(0, 8, n), (8, 4, 4), (12, 2, field cfg 21 20), (16, 7, field cfg 30 24), (24, 1, 1)]
    match (if second then s.agentQueue 7 0x2B 3 [BitVec.ofNat 32 n] else s.agentQueue 7 0x29 1 [a, 600]) with
    | none => s
    | some (tag, t) =>
      let mine := if second then [] else [(BitVec.ofNat 7 tag, n)]
      (t.updLink (fun l =>
        { l with autoWait := rest, auto := l.auto.filter (fun e => e.1.toNat != tag) ++ mine })).askAuto rest

/-- The link engine asks again for the slots it waits for (R61), and in the data period for those of MEASURE, which NB mode
refuses (R390, R413). -/
def State.retryAuto (s : State) : State := s.askAuto s.link.autoWait

/-- AUTOMAP: a MEASURE for each NEIGH peer that is not LEGACY, as agent operations (R413). -/
def State.automap (s : State) : State :=
  let l := (s.peerList.filter (fun e => e.2.near && !e.2.legacy)).map (fun e => (e.1, false))
  (s.updLink (fun k =>
    { k with autoAt := s.now, autoNow := false
             autoWait := k.autoWait ++ l.filter (fun e => !k.autoWait.contains e) })).retryAuto

/-- After an agent's MEASURE: NEGOTIATE when the measured map differs from the installed one (R413). -/
def State.afterMeasure (s : State) (tag : Nat) (ok : Bool) : State :=
  match (if (s.slot tag).src == 7 then s.link.auto.find? (fun e => e.1.toNat == tag) else none) with
  | none => s
  | some (_, n) =>
    let s1 := s.updLink (fun l => { l with auto := l.auto.filter (fun e => e.1.toNat != tag) })
    match s1.peer n with
    | none => s1
    | some p =>
      let same := match p.prop, p.map (s1.inMap p) with
        | some a, some b => a.codes == b.codes && a.rate == b.rate
        | _, _ => false
      if !ok || same then s1
      else (s1.updLink (fun l => { l with autoWait := l.autoWait ++ [(n, true)] })).retryAuto

/-! ### Bound queues and delivery (R408, R409, R419) -/

/-- Whole packets of a queue put into a body while it does not pass n bytes (R419). -/
def State.gather (s : State) (q n : Nat) : Nat → List Byte → State × List Byte
  | 0, body => (s, body)
  | fuel + 1, body =>
    match packetLen (s.queue q).items with
    | none => (s, body)
    | some c =>
      if body.length + 2 + 3 * c > n then (s, body)
      else
        let (s1, items) := s.popItems q c
        s1.gather q n fuel (body ++ bytesLE 2 c ++ items.flatMap (fun w => bytesLE 3 (field w 23 0)))

/-- A bound queue's packets go out as a message, an agent SEND; while RADIO is unavailable they wait in their queue (R18,
R419). -/
def State.bindSend (s : State) (k : Nat) : State :=
  let w := s.rg 0x2A (0x070 + 4 * k)
  let q := field w 4 0
  if !flag w 5 || qCons (s.qcfg q) != 6 || !qEn (s.qcfg q) || q = 0 || !s.linkEn || !s.granaryUp || !s.agentRoom
      || !s.ready 0x2A || s.unavailable .radio then s
  else
    let top := min 4096 (field (s.rg 0x2A 0x048) 31 24 * 256)
    match s.gather q top (s.queue q).items.length [] with
    | (_, []) => s
    | (s1, body) =>
      match s1.agentQueue 7 0x2A 1 [BitVec.ofNat 32 (field w 31 16), 0, BitVec.ofNat 32 body.length] with
      | some (tag, t) =>
        t.updLink (fun l => { l with agent := Tab.set (fun _ => none) l.agent tag (some (body, false)) })
      | none => s

/-- An RXFREE write (R408, R409). -/
def rxfreeEffect (v : Word) (s : State) : State × Code :=
  let b := field v 5 0
  if b ≥ 15 || b ≥ field (s.rg 0x2A 0x05C) 11 8 then (s, .arg)
  else if !s.link.bufs.contains b then (s, .state)
  else ((s.updLink (fun l => { l with bufs := l.bufs.filter (· != b) })).refreshLink, .done)

/-- An RXCFG write (R409). -/
def rxcfgEffect (v : Word) (s : State) : State × Code :=
  let old := s.rg 0x2A 0x05C
  let new := v &&& 0xF3F
  let frames := (s.framesOf 2).length
  let most := field new 11 8
  let grows := flag new 5 && (!flag old 5 || most > field old 11 8)
  if grows && (frames < most + 4 || s.linkFrames + most > frames) then (s, .busy)
  else if most < field old 11 8 && s.link.bufs.any (fun b => decide (most ≤ b)) then (s, .state)
  else ((s.setRg 0x2A 0x05C new).refreshLink, .done)

/-- A TOR4200 frame from a LEGACY peer is delivered, from any other address it is a stranger's (R414). -/
def State.takeLegacy (s : State) (d : Delivered) : State :=
  let addr := payField d.payload 0 2
  let body := d.payload.drop 2
  let known := (s.peerOf addr).bind (fun n => match s.peer n with | some p => if p.legacy then some n else none | none => none)
  match known with
  | none => s.stranger addr 3 d
  | some n =>
    let s1 := s.acceptFrame n d
    match s1.freeBuf with
    | none => s1
    | some b => s1.placeBody b addr 0 true body d.stamp

/-! ### Commands -/

/-- TX_REQUEST (R359). -/
def execTxRequest (s : State) : Host.Outcome State Fault Refusal := .next s.takeRequest

/-- VPA_OUT (R389): transmission stops, reception goes on. -/
def execVpaOut (s : State) : Host.Outcome State Fault Refusal :=
  .next
    (if !s.pwr.vpa then s
    else
      let s1 : State := { s with pwr := { s.pwr with vpa := false } }
      ((s1.faultRec 0x16 0x28 1).cutTx).refreshRadio)

/-- TX_END (R359). -/
def execTxEnd (s : State) : Host.Outcome State Fault Refusal :=
  .next (match s.phy.tx with | none => s | some f => (s.stopTx f).afterTx f)

/-- MEASURE (R388): it ends with its frames in, or when TIMEOUT runs out. -/
def execMeasure (tag : Fin 128) (s : State) : Host.Outcome State Fault Refusal :=
  .next
    (if s.running tag.val 0x29 1 then
      match s.phy.measure with
      | none => s
      | some m =>
        if m.tag.toNat != tag.val then s
        else if m.frames = 0 then
          let t := s.measureEnd tag.val m
          t.afterMeasure tag.val (decide ((t.slot tag.val).result = some .done))
        else
          let t := s.reach (m.since + BitVec.ofNat 64 (secTime (field ((s.slot tag.val).arg 1) 9 0)))
          ((t.updPhy (fun p => { p with measure := none })).setResult tag.val .timeout).afterMeasure tag.val false
    else s)

/-- SUPERFRAME (R393). -/
def execSuperframe (s : State) : Host.Outcome State Fault Refusal := .next (if s.linkUp then s.startFrame else s)

/-- DATA_PERIOD_START (R393). -/
def execDataPeriodStart (s : State) : Host.Outcome State Fault Refusal :=
  .next (if s.linkUp && !s.link.dataPeriod then s.openData else s)

/-- BEACON_TX (R394). -/
def execBeaconTx (s : State) : Host.Outcome State Fault Refusal := .next (if s.mayBeacon then s.sendBeacon else s)

/-- BEACON_RX (R396). -/
def execBeaconRx (s : State) : Host.Outcome State Fault Refusal :=
  .next
    (if !s.linkUp then s
    else
      match s.takeFrame 0 with
      | none => s
      | some (d, t) => if flag (s.rg 0x2A 0x040) 1 && !s.cribFree then s else t.takeBeacon d)

/-- LBT_BACKOFF_DONE (R400). -/
def execLbtBackoffDone (s : State) : Host.Outcome State Fault Refusal :=
  .next (if s.mayListen then s.backoffDone else s)

/-- LBT_BUSY (R400): RSSI_NOW at or above the region's threshold restarts the listen with a new draw; in the backoff it
counts. -/
def execLbtBusy (c : ChannelHeard) (s : State) : Host.Outcome State Fault Refusal :=
  .next
    (if s.mayTalk && s.link.dataPeriod && s.nextMsg.isSome && s.receiving && s.busyAt c.power.toInt then
      let s1 := (s.setRg 0x28 0x05C (BitVec.ofNat 32 c.power.toNat)).updLink (fun l => { l with backoff := none })
      if c.backoff then s1.updRg 0x2A 0x08C (fun w => satField w 15 0 1) else s1
    else s)

/-- DATA_RX (R404). -/
def execDataRx (s : State) : Host.Outcome State Fault Refusal :=
  .next
    (if !s.linkUp then s
    else
      match s.takeFrame 1 with
      | none => s
      | some (d, t) => if d.mark = .mapMiss then t.mapMissed d else t.takeData s d)

/-- Whether a frame of some length from a moment would reach into the closing guard, 995 to 1,000 ms (R393). -/
def State.inGuard (s : State) (t : Stamp) (ns : Nat) : Bool :=
  decide (msTime 995 < (t - s.link.frame).toNat % 2 ^ 32 + nsTime ns)

/-- ACK_TX (R405): the acknowledgement that is due goes out without listening; it abandons a reception (R401). One whose
moment has passed, that would reach into the closing guard (R393), or that a station which only listens owes, is not
sent. -/
def execAckTx (s : State) : Host.Outcome State Fault Refusal :=
  .next
    (match s.link.acks with
     | [] => s
     | a :: rest =>
       if !s.linkUp then s
       else if a.due < s.now || !s.mayTalk then s.updLink (fun l => { l with acks := rest })
       else if s.phy.request.isSome || s.phy.tx.isSome || !s.cribFree then s
       else
         let s1 := s.updLink (fun l => { l with acks := rest })
         match s.peer a.peer with
         | none => s1
         | some p =>
           match s.peerKey p with
           | none => s1
           | some key =>
             let f := s1.ackFrame a p key
             if s1.inGuard a.due f.ns then s1 else (s1.reach a.due).request f)

/-- ACK_RX (R405). -/
def execAckRx (s : State) : Host.Outcome State Fault Refusal :=
  .next
    (if !s.linkUp then s
    else
      match s.takeFrame 2 with
      | none => s
      | some (d, t) => if s.cribFree then t.takeAck d else s)

/-- ACK_WINDOW_EXPIRY (R406). -/
def execAckWindowExpiry (s : State) : Host.Outcome State Fault Refusal :=
  .next
    (match s.link.wait with
     | none => s
     | some w => ((s.reach w.due).updLink (fun l => { l with wait := none })).attemptFailed w)

/-- REASSEMBLY_TIMEOUT (R408). -/
def execReassemblyTimeout (s : State) : Host.Outcome State Fault Refusal :=
  .next
    (match s.link.reasm with
     | [] => s
     | r :: rest =>
       let s1 := s.reach (r.first + BitVec.ofNat 64 (secTime (field (s.rg 0x2A 0x054) 7 0)))
       ((s1.updLink (fun l => { l with reasm := rest })).updRg 0x2A 0x088 (fun w => satField w 31 16 1)).refreshLink)

/-- SEND_LIFE from a moment. -/
def State.sendLife (s : State) (t : Stamp) : Stamp :=
  t + BitVec.ofNat 64 (secTime (field (s.rg 0x2A 0x054) 31 16))

/-- RELAY_LIFE_EXPIRY (R399). -/
def execRelayLifeExpiry (s : State) : Host.Outcome State Fault Refusal :=
  .next
    (match s.link.msgs.find? (fun m => m.kind == .relay) with
     | none => s
     | some m => (s.reach (s.sendLife m.since)).finishMsg m .timeout)

/-- SEND_LIFE_EXPIRY (R400): the oldest message of its own has not been sent in time. -/
def execSendLifeExpiry (s : State) : Host.Outcome State Fault Refusal :=
  .next
    (match s.link.msgs.find? (fun m => m.kind != .relay) with
     | none => s
     | some m =>
       ((s.reach (s.sendLife m.since)).updRg 0x2A 0x08C (fun w => satField w 31 16 1)).finishMsg m
         (if m.noroute then .medium else .timeout))

/-- DOWN_ENTRY_LAPSE (R398): the entry learned longest ago. -/
def execDownEntryLapse (s : State) : Host.Outcome State Fault Refusal :=
  .next
    (match s.link.down.getLast? with
     | none => s
     | some e =>
       (s.reach (e.learned + BitVec.ofNat 64 (secTime 600))).updLink (fun l => { l with down := l.down.dropLast }))

/-- MAPSET_RX (R412). -/
def execMapsetRx (s : State) : Host.Outcome State Fault Refusal :=
  .next
    (if !s.linkUp then s
    else
      match s.takeFrame 3 with
      | none => s
      | some (d, t) => if d.mark = .mapMiss then t.mapMissed d else t.takeMapset s d)

/-- SEND (R420). -/
def execSend (tag : Fin 128) (s : State) : Host.Outcome State Fault Refusal :=
  .next (s.runOp tag.val 0x2A 1 (s.sendArgs tag.val) (sendEffect tag.val))

/-- PEER_ADMIT (R420). -/
def execPeerAdmit (tag : Fin 128) (s : State) : Host.Outcome State Fault Refusal :=
  .next (s.runOp tag.val 0x2B 1
    (fun k => field (k.arg 0) 15 0 != 0 && field (k.arg 0) 15 0 != 0xFFFF && field (k.arg 0) 29 24 != 0) admitEffect)

/-- PEER_REMOVE (R420). -/
def execPeerRemove (tag : Fin 128) (s : State) : Host.Outcome State Fault Refusal :=
  .next (s.runOp tag.val 0x2B 2 (fun _ => true) removeEffect)

/-- NEGOTIATE (R412). -/
def execNegotiate (tag : Fin 128) (s : State) : Host.Outcome State Fault Refusal :=
  .next (s.runOp tag.val 0x2B 3 (fun _ => true) (negotiateEffect tag.val))

/-- AUTOMAP_PERIOD (R413). -/
def execAutomapPeriod (s : State) : Host.Outcome State Fault Refusal :=
  .next
    (if s.linkUp && flag (s.rg 0x2A 0x040) 2 then
      let due := s.link.autoAt + BitVec.ofNat 64 (secTime (60 * field (s.rg 0x2A 0x058) 15 0))
      (if s.link.autoNow then s else s.reach due).automap
    else s)

/-- QB_SEND (R419). -/
def execQbSend (k : Fin 4) (s : State) : Host.Outcome State Fault Refusal :=
  .next (if s.pwr.depth == .awake then s.bindSend k.val else s)

/-- RXFREE (R408). -/
def execRxfree (m : Master) (v : Word) (s : State) : Host.Outcome State Fault Refusal :=
  .next (s.write m 0x2A 0x060 v (rxfreeEffect v))

/-- RXCFG_WRITE (R409). -/
def execRxcfgWrite (m : Master) (v : Word) (s : State) : Host.Outcome State Fault Refusal :=
  .next (s.write m 0x2A 0x05C v (rxcfgEffect v))

/-- LEGACY_FRAME_RX (R414). -/
def execLegacyFrameRx (s : State) : Host.Outcome State Fault Refusal :=
  .next
    (match s.link.inbox with
     | [] => s
     | d :: rest =>
       if s.linkUp && d.legacy then
         let t := s.updLink (fun l => { l with inbox := rest })
         if flag (s.rg 0x2A 0x040) 3 then t.takeLegacy d else t
       else s)

/-- NEIGH_LOST (R410): a peer not heard for three superframes. -/
def execNeighLost (s : State) : Host.Outcome State Fault Refusal :=
  .next
    (match s.peerList.find? (fun e => e.2.neigh && !e.2.near) with
     | none => s
     | some (n, _) => (s.updPeer n (fun p => { p with neigh := false })).evPulse 0x2B 2)

end Sys2Proof.Machine
end

