-- ==== Sys2Proof/Machine/Reset.lean ====
section
/-!
DEFINITION. Resets (R86 to R94): what each island loses and keeps, the reset and wake records, power-on reset, and
the release of islands.
-/
namespace Sys2Proof.Machine

/-! ### What a fetched word gives back (R91, R249, R473) -/

/-- What a word fetched and not taken took is put back (R473). -/
def State.giveBack (s : State) (u : Undo) : State :=
  match u with
  | .item q e =>
    let x := s.queue q
    (s.putQueue q { x with items := e :: x.items }).refreshQueue q
  | .rxd u b => let x := s.unit u; s.putUnit u { x with rxd := b :: x.rxd }
  | .addr a old => s.setReg a old
  | .shadow key old => { s with shadow := Tab.set (fun _ => none) s.shadow key old }

/-! ### Register pages -/

/-- Whether an island is named in a mask. -/
def named (mask : BitVec 9) (i : Island) : Bool := mask.getLsbD (Island.bit i)

/-- The register pages of the islands of a mask. -/
def pagesOf (mask : BitVec 9) : List Nat :=
  (List.range 0x70).filter (fun p => pageAssigned p && p != 0x3F && named mask (islandOf p))

/-- Registers that a reset other than POR leaves as they are though it reaches their island: AON copies of CORE and
CRIB, non-volatile FLASH state, and, but for BROWNOUT, what is kept with GRANARY SRAM and the FIELD and RADIO regions
(R89, R254, R275, R305, R323, R328, R383, R443, R528). -/
def keptReg (brown : Bool) (page off : Nat) : Bool :=
  match page with
  | 0x1B => !brown && decide (0x040 ≤ off)
  | 0x1C => !brown && decide (0x040 ≤ off)
  | 0x1D => !brown && decide (0x040 ≤ off)
  | 0x1E => off == 0x068 || off == 0x094
  | 0x21 => (!brown && off % 0x20 == 8 && decide (0x040 ≤ off) && decide (off < 0x140)) || (!brown && decide (0x200 ≤ off))
  | 0x28 => !brown && decide (0x200 ≤ off)
  | 0x38 => off == 0x040 || off == 0x044 || (decide (0x054 ≤ off) && decide (off ≤ 0x060))
  | 0x3A => off == 0x05C || off == 0x060 || off == 0x070
  | _ => false

/-- Whether an address keeps its value across a reset that reaches some pages: ACCESS while LOCK is 1, the stamp of
the readiness, and kept registers (R24, R29). -/
def State.survives (s : State) (brown : Bool) (a : Nat) : Bool :=
  let page := a / 0x1000
  let off := a % 0x1000
  off == 0x020 || off == 0x024 || (off == 0x01C && flag (s.reg a) 31) || keptReg brown page off

/-- The registers of some pages return to their reset values; READY falls, stamped, and the pages' interrupt lines
follow (R6, R24, R86). -/
def State.resetRegs (s : State) (pages : List Nat) (brown : Bool) : State :=
  let hit (a : Nat) : Bool := pages.contains (a / 0x1000)
  let s1 : State := { s with
    regs := Tab.keep (fun a => !hit a || s.survives brown a) s.regs
    bank := Tab.keep (fun k => let a := k % 0x100000; !hit a || (!brown && keptReg false (a / 0x1000) (a % 0x1000))) s.bank
    shadow := Tab.keep (fun k => !hit (k % 0x100000)) s.shadow
    lows := Tab.keep (fun k => !hit (k % 0x100000)) s.lows }
  pages.foldl
    (fun acc p =>
      let acc1 := if field (s.rg p 0x004) 2 0 = 0 then acc else acc.setPair p 0x020 s.now
      acc1.settle s p) s1

/-! ### Slots (R69) -/

/-- QUEUED and RUNNING slots aimed at some pages end: INCOMPLETE for a sector erase under way, else ABORTED. ERASE of a
window slot is a remap, no sector erase, unless a dirty sector is erased first; a tag-port read under way has failed
(R69, R297, R350). -/
def State.abortSlots (s : State) (pages : List Nat) : State :=
  let erase : Option (BitVec 7) :=
    match s.flash.run with
    | some r => if r.erase && (r.spare || r.wipes || !s.windowSlot (r.codeword / 512)) then some r.tag else none
    | none => none
  (List.range 128).foldl
    (fun acc tag =>
      let k := acc.slot tag
      if (k.st == .queued || k.st == .running) && pages.contains k.page.toNat then
        let s1 := acc.endSlot tag (if k.st == .running && erase == some (BitVec.ofNat 7 tag) then .incomplete else .aborted)
        if k.st == .running && k.page == 0x23 && k.op == 2 then s1.tagFailed (field (k.arg 0) 7 0) .aborted else s1
      else acc) s

/-! ### Islands -/

/-- The island a task input belongs to (R236). -/
def taskIsland (k : Nat) : Island :=
  if 0x10 ≤ k ∧ k ≤ 0x24 then .sense
  else if 0x30 ≤ k ∧ k ≤ 0x3B then .field
  else if 0x40 ≤ k ∧ k ≤ 0x43 then .radio
  else if 0x50 ≤ k ∧ k ≤ 0x57 then .crib
  else .aon

/-- Set task latches of an island are discarded and counted (R226). -/
def State.loseTasks (s : State) (i : Island) : State :=
  (List.range 0x60).foldl (fun acc k => if (acc.task k).held && taskIsland k == i then acc.loseTask k else acc) s

/-- What Gleaner threads wait for at the converters ends, the latch naming the port each acted on (R18, R143, R173). -/
def State.endConvWaits (s : State) : State :=
  s.sense.convs.foldl
    (fun acc e =>
      let ts : List (BitVec 4 × Nat) :=
        (match e.2.run with | some (.thread t, p) => [(t, p)] | _ => [])
        ++ e.2.waits.filterMap (fun w => w.thread.map (fun t => (t, if w.sw then w.port else s.xbarPort e.1)))
      ts.foldl (fun b t => b.giveRes t.1.toNat { code := .notReady, latch := some (t.2, s.now) }) acc) s

/-- What Gleaner threads wait for at the sensor buses ends: a running transfer with ABORTED (R18, R69, R500). -/
def State.endBusWaits (s : State) : State :=
  s.sense.units.foldl
    (fun acc e =>
      (e.2.queue.zipIdx).foldl
        (fun b (x : Xfer × Nat) =>
          match x.1.user with
          | .thread t => b.giveRes t.toNat { code := if x.2 = 0 then .aborted else .notReady }
          | _ => b) acc) s

/-- The ports at a reset of SENSE: a DOUT port's level is held by the pad ring, but for BROWNOUT (R89, R545). -/
def State.resetPorts (s : State) (brown : Bool) : State :=
  let one (p : Nat) : Port :=
    let x := s.port p
    let h := if brown || !s.bankUp p then none else x.drive
    { level := x.level, held := h, drive := h }
  { s with sense := { s.sense with
      ports := (List.range 64).foldl (fun acc p => Tab.set (fun _ => {}) acc p (one p)) [] } }

/-- A snapshot readout under way is abandoned: the packet is lost, so its operation ends BUSY (R185, R193). -/
def State.abandonSnap (s : State) : State :=
  match s.time.snap with
  | none => s
  | some r =>
    let s1 := State.snapLost { s with time := { s.time with snap := none } }
    match r.slot with
    | some tag => if s1.running tag.toNat 0x07 1 then s1.setResult tag.toNat .busy else s1
    | none => s1

/-- SENSE is reset (R89, R173, R185, R219, R500). -/
def State.resetSense (s : State) (brown : Bool) : State :=
  let s1 := (s.endConvWaits.endBusWaits.abandonSnap).resetPorts brown
  State.refreshService { s1 with sense := { s1.sense with convs := [], units := [] }, thr := {}, win := {} }

/-- GRANARY is reset: open packets are rewound and its work under way ends; after BROWNOUT everything is as at
power-on (R246, R254, R262, R275). -/
def State.resetGranary (s : State) (brown : Bool) : State :=
  let s1 := s.abandonSnap
  if brown then { s1 with gran := {}, queues := [] }
  else
    let s2 := s1.rewindOf (fun _ => true)
    { s2 with gran := { s2.gran with copy := none, jobs := [], test := none, pass := none, passFailed := false } }

/-- FLASH is reset: an open journal record stays for the scan of the next start (R288, R294, R305), and a record write or
a GROUP_WRITE is cut off (R301, R428). -/
def State.resetFlash (s : State) : State :=
  let s0 := match s.opt.writing with | some (tag, _, _) => s.endSlot tag.toNat .aborted | none => s
  let s1 := s0.groupCut
  { s1 with
    flash := s1.flash.cutWork
    opt := { s1.opt with unlocked := false } }

/-- CORE is reset: both TCMs cleared, the hart stopped, the interrupt controller emptied, "fetching from TCM" at
FLASH; the boot remembers what ran (R89, R427, R433, R443, R449). -/
def State.resetCore (s : State) : State :=
  let ran := if s.core.released then some (s.runningImage.1) else s.core.ran
  let unconf := if s.core.released then s.unconfirmed else s.core.ranUnconfirmed
  State.rewindOf { (s.setRg 0x1E 0x044 0) with core := { ran := ran, ranUnconfirmed := unconf }, intc := {} } (fun k => k == 0)

/-- What stays of the antenna ports across a reset: that their baselines have been taken, with ANT_TUNEn (R318, R328). -/
def keepBaselines (t : Tab Ant) : Tab Ant :=
  (t.map (fun e => (e.1, { based := e.2.based }))).filter (fun e => e.2 != {})

/-- FIELD is reset: sessions and transactions are lost; the map, the home table and the held values stay with the
FIELD region and AON (R328, R350, R352). -/
def State.resetField (s : State) (brown : Bool) : State :=
  let s1 := (match s.fld.run.bind (·.ctx) with | some c => s.ctxFree c | none => s)
  let s2 := (List.range 128).foldl
    (fun acc h => match acc.session h with | some x => acc.ctxFree x.ctx | none => acc) s1
  { s2 with fld := { s2.fld with
      ants := if brown then [] else keepBaselines s2.fld.ants
      coex := none, coming := none, supervised := false, passAt := 0, passWait := 0, sampled := 0, sessions := []
      run := none, paused := none, aired := [], band := 0
      home := if brown then [] else s2.fld.home, map := if brown then [] else s2.fld.map } }

/-- The management session closes: RADIO as owner loses ownership as by a lapse, by a reset that reaches RADIO too (R415 to
R417; DEDUCED, log entry 220). -/
def State.closeMgmt (s : State) : State :=
  match s.link.mgmt with
  | none => s
  | some _ =>
    let s1 := s.updLink (fun l => { l with mgmt := none })
    if s1.holds .radio then (s1.evPulse 0x01 1).changeOwner 0x9 none 0xF else s1

/-- RADIO is reset: the transceiver stops, own messages are dropped; peers, relayed fragments, delivery buffers and
reassembly stay with the RADIO region, but for BROWNOUT (R389, R417). -/
def State.resetRadio (s : State) (brown : Bool) : State :=
  let s1 := s.closeMgmt.rewindOf (fun k => k == 3)
  if brown then { s1 with phy := {}, link := {} }
  else
    { s1 with
      phy := {}
      link := { s1.link with
        heard := false, dataPeriod := false, beaconAt := none, inbox := [], strangers := []
        msgs := s1.link.msgs.filter (fun m => m.kind == .relay)
        peers := s1.link.peers.map (fun e => (e.1, e.2.map (fun p => { p with negotiating := false })))
        acks := [], wait := none, backoff := none, agent := [], mgmtIn := [], auto := [], autoNow := false, autoWait := [] } }

/-- HOST is reset: a frame in progress is discarded and the item of its word put back (R91, R249, R476, R480, R500). -/
def State.resetHost (s : State) : State :=
  let s1 := match s.hspi.frame with | some f => f.undo.foldl State.giveBack s | none => s
  let s2 := s1.htw.undo.foldl State.giveBack s1
  State.rewindOf { s2 with hspi := {}, htw := {} } (fun k => k == 1 || k == 2 || k == 4)

/-- CRIB is reset: volatile slots and the DRBG are cleared, the loader of the configuration image stops (R505, R528). -/
def State.resetCrib (s : State) : State :=
  let s1 := s.updCrib (fun c => { c with keys := c.keys.filter (fun e => e.2.persist), drbg := false, loader := none })
  if s.crib.loader.isSome then s1.updRg 0x3A 0x070 (fun w => setField w 1 0 3) else s1

/-- Everything a reset does to the islands of a mask: slots, task latches, the islands' own state, their registers
(R69, R86, R226). -/
def State.resetIslands (s : State) (mask : BitVec 9) (brown : Bool) : State :=
  let pages := pagesOf mask
  let s1 := s.abortSlots pages
  let s2 := islands.foldl (fun acc i => if named mask i then acc.loseTasks i else acc) s1
  let on (i : Island) (f : State → State) (acc : State) : State := if named mask i then f acc else acc
  let s3 := on .host State.resetHost s2
  let s4 := on .radio (fun t => t.resetRadio brown) s3
  let s5 := on .field (fun t => t.resetField brown) s4
  let s6 := on .core State.resetCore s5
  let s7 := on .crib State.resetCrib s6
  let s8 := on .flash State.resetFlash s7
  let s9 := on .granary (fun t => t.resetGranary brown) s8
  let s10 := on .sense (fun t => t.resetSense brown) s9
  s10.resetRegs pages brown

/-! ### Records (R90, R93, R94) -/

/-- The ranks of KIND, widest first: the smaller the wider, SYSTEM by RESET_N and by register alike (R90). -/
def kindRank (k : Nat) : Nat := if k = 4 then 3 else k

/-- RST_REC and RST_STAMP of a reset; with resets still in progress, the union of the islands and the widest kind
(R90, R93). Of merged resets COUNT counts each, RST_STAMP is the latest onset, and of equal kinds the later names KIND
and SRC (DESIGN CHOICE, log entry 401). -/
def State.recordReset (s : State) (kind src : Nat) (mask : BitVec 9) : State :=
  let old := s.rg 0x05 0x100
  let merge := !s.pwr.resets.isEmpty
  let wider := !merge || decide (kindRank kind ≤ kindRank (field old 3 0))
  let isl := if merge then mask.toNat ||| field old 12 4 else mask.toNat
  let k := if wider then kind else field old 3 0
  let r := if wider then src else field old 19 16
  (s.setRg 0x05 0x100 (pack [(0, 4, k), (4, 9, isl), (16, 4, r), (24, 8, min 255 (field old 31 24 + 1))])).setPair
    0x05 0x104 s.now

/-! ### Onset and release -/

/-- The islands held by the resets in progress. -/
def State.heldIslands (s : State) : BitVec 9 := s.pwr.resets.foldl (fun m r => m ||| r.islands) 0

/-- What follows a change of readiness, clocks or supplies: field, radio, owner's lease and the watchdogs. -/
def State.refreshPower (s : State) : State := (s.refreshField.refreshRadio).syncWdt

/-- A reset is applied: recorded in AON, the islands reached, held until a time from now. SYSTEM and BROWNOUT reload
OPTION (R85, R87, R90). -/
def State.applyReset (s : State) (kind src : Nat) (mask : BitVec 9) (wait : Nat) : State :=
  let run : ResetRun := { islands := mask, due := s.after wait, kind := kind, origin := s.pstate.num }
  let s1 := s.recordReset kind src mask
  let s2 := s1.resetIslands mask (kind == 2)
  let s3 : State := { s2 with pwr := { s2.pwr with resets := s2.pwr.resets ++ [run], inReset := s2.pwr.inReset ||| mask } }
  let s4 : State := if 2 ≤ kind && kind ≤ 4 then
      { (s3.setReadyBits 0x03 (fun w => setFlag w 0 false)) with opt := { s3.opt with loaded := false } }
    else s3
  s4.refreshPower

/-- Every island but AON. -/
def allButAon : BitVec 9 := 0x1FE

/-- A SYSTEM reset: released 180 µs after onset (R87). -/
def State.systemReset (s : State) (kind src : Nat) : State := s.applyReset kind src allButAon (usTime 180)

/-- An ISLAND, WATCHDOG or TAMPER reset: released after 10 µs (R88). -/
def State.islandReset (s : State) (kind src : Nat) (mask : BitVec 9) : State := s.applyReset kind src mask (usTime 10)

/-- A reset in progress comes to its release: what overlaps is one reset, whose islands stay until the latest release
(R90). A reset of 10 µs whose release has passed meanwhile is over with it. -/
def State.release (s : State) (r : ResetRun) : State :=
  let rest := (s.pwr.resets.erase r).filter (fun x => decide (x.kind ≤ 4) || decide (s.now < x.due))
  let s1 : State := { s with pwr := { s.pwr with resets := rest } }
  if rest.isEmpty then
    ({ s1 with pwr := { s1.pwr with inReset := 0 } } : State).beginStarts (pagesOf s.pwr.inReset) true
  else s1

/-- The power state after a POR, BROWNOUT or SYSTEM start: RUN at OPP1, a sleep request or an exit ended (R94, R456,
R458). -/
def State.startPower (s : State) : State :=
  let leaving := s.pwr.depth == .guard
  let s0 := if leaving then s.splitUtil else s
  let s1 : State := { s0 with pwr := { s0.pwr with depth := .awake, sleep := none, exit := none, settle := none } }
  let s2 := ((s1.setRg 0x06 0x040 1).setRg 0x05 0x060 1).setRg 0x05 0x064 (resetOf (ra 0x05 0x064))
  let s3 := s2.updRg 0x05 0x048 (fun w => setFlag w 2 false)
  let s4 := if leaving then s3.takeAllPending else s3
  s4.resumeLease

/-- The SYSTEM reset's islands are released, once RESET_N is high (R87, R94). -/
def State.systemRelease (s : State) : State :=
  match s.pwr.resets.find? (fun r => r.kind == 3 || r.kind == 4) with
  | none => s
  | some r =>
    if !s.pwr.resetN || s.dead then s
    else
      let s1 := (s.reach r.due).release r
      ((s1.beginStarts [0x03] true).startPower.recordWake 0x02 r.origin false true).refreshPower

/-- The earliest island, watchdog or tamper reset releases its islands (R88). -/
def State.islandRelease (s : State) : State :=
  match s.pwr.resets.find? (fun r => decide (5 ≤ r.kind)) with
  | none => s
  | some r => if s.dead then s else ((s.reach r.due).release r).refreshPower

/-! ### Power-on reset -/

/-- The device after a power-on reset: only non-volatile contents, the fuses and the levels outside the device stay
(R50, R78, R86, R94). -/
def State.porStart (s : State) : State :=
  let e : State := {}
  let p := s.pwr
  { e with
    pending := s.pending
    fresh := s.fresh
    fuse := s.fuse
    opt := { e.opt with
      copy0 := s.opt.copy0, copy1 := s.opt.copy1, used := s.opt.used, ring := s.opt.ring, number := s.opt.number
      remainA := s.opt.remainA, remainB := s.opt.remainB, remainC := s.opt.remainC, writing := s.opt.writing }
    flash := s.flash.cutWork
    crib := { e.crib with
      keys := s.crib.keys.filter (fun k => k.2.persist), zeroised := s.crib.zeroised, pend := s.crib.pend
      pendLog := s.crib.pendLog, log := s.crib.log, number := s.crib.number }
    pwr := { e.pwr with
      vin := p.vin, vfld := p.vfld, vpa := p.vpa, vioA := p.vioA, vioB := p.vioB, resetN := p.resetN } }

/-- A power-on start: the option write that was cut off, and the start itself (R301). -/
def State.por (s : State) : State :=
  let s1 := s.groupCut.porStart
  s1.setRg 0x1E 0x068 (s.rg 0x1E 0x068)

/-! ### The rows -/

/-- POR (R76): the AON rail has fallen, so VIN is below VIN_OK; nothing answers until the release. -/
def execPor (s : State) : Host.Outcome State Fault Refusal :=
  .next { s with pwr := { s.pwr with por := true, vin := false } }

/-- POR_RELEASE (R76, R78, R94). -/
def execPorRelease (s : State) : Host.Outcome State Fault Refusal :=
  .next (if s.pwr.por then s.por else s)

/-- RESET_N_LOW (R87). -/
def execResetNLow (s : State) : Host.Outcome State Fault Refusal :=
  let s1 : State := { s with pwr := { s.pwr with resetN := false } }
  .next (if s.dead || !s.pwr.resetN then s1 else s1.systemReset 3 0xF)

/-- RESET_N_HIGH (R87, R549): an instruction that needs RESET_N low gives way to IDCODE. -/
def execResetNHigh (s : State) : Host.Outcome State Fault Refusal :=
  .next { s with
    pwr := { s.pwr with resetN := true }
    tap := if s.tap.ir == 0 || s.tap.ir == 3 then { ir := 1 } else s.tap }

/-- A SYS_RST write (R93). -/
def sysRstEffect (m : Master) (v : Word) (s : State) : State × Code :=
  if field v 31 24 != 0xA5 then (s, .arg) else (s.systemReset 4 (Master.id m), .done)

/-- SYS_RST (R93). -/
def execSysRst (m : Master) (v : Word) (s : State) : Host.Outcome State Fault Refusal :=
  .next (s.write m 0x05 0x11C v (sysRstEffect m v))

/-- DEBUG_RESET_REQUEST (R86): until DEBUG_CLOSE is blown (R516). -/
def execDebugResetRequest (s : State) : Host.Outcome State Fault Refusal :=
  .next (if s.dead || s.fuse.debugClosed then s else s.systemReset 4 4)

/-- SYSTEM_RELEASE (R87). -/
def execSystemRelease (s : State) : Host.Outcome State Fault Refusal := .next s.systemRelease

/-- An ISL_RST write (R88, R93). -/
def islRstEffect (m : Master) (v : Word) (s : State) : State × Code :=
  if field v 31 24 != 0x5A || flag v 0 || field v 8 0 == 0 then (s, .arg)
  else (s.islandReset 5 (Master.id m) (BitVec.ofNat 9 (field v 8 0)), .done)

/-- ISL_RST (R88). -/
def execIslRst (m : Master) (v : Word) (s : State) : Host.Outcome State Fault Refusal :=
  .next (s.write m 0x05 0x118 v (islRstEffect m v))

/-- ISLAND_RELEASE (R88). -/
def execIslandRelease (s : State) : Host.Outcome State Fault Refusal := .next s.islandRelease

/-- A second mismatch before a checkpoint, or four re-synchronisations within 1 s: an ISLAND reset of CORE (R432). -/
def State.escalate (s : State) : State :=
  ((s.updRg 0x38 0x054 (fun w => satField w 23 16 1)).faultRec 0x04 0x38 0).islandReset 5 0xF 0x010

/-- The pair goes back to its checkpoint: the TCM words of the undo log, newest first, then the registers (R431). -/
def CoreState.rollBack (c : CoreState) : CoreState :=
  let c1 := c.undo.foldl (fun acc e => acc.setTcm e.1 e.2) c
  let mcycle := Tab.keep (fun k => k == 0xB00 || k == 0xB80) c.csr
  { c1 with
    x := c.ckpt.x, pc := c.ckpt.pc, machine := c.ckpt.machine, undo := [], resyncOpen := true
    csr := mcycle.foldl (fun t e => Tab.set csrReset t e.1 e.2) c.ckpt.csr }

/-- LOCKSTEP_RESYNC (R431, R432). -/
def execLockstepResync (s : State) : Host.Outcome State Fault Refusal :=
  .next
    (if s.core.released && !s.core.wfi && s.pwr.depth == .awake && !s.unavailable .core then
      if s.core.resyncOpen then s.escalate
      else
        let recent := s.now :: s.core.resyncs.filter (fun t => decide ((s.now - t).toNat ≤ secTime 1))
        let s1 := s.updCore (fun c => { c.rollBack with resyncs := recent })
        let s2 := ((s1.updRg 0x38 0x054 (fun w => satField w 15 0 1)).setRg 0x38 0x058 s1.core.pc).setPair 0x38 0x05C s1.now
        let s3 := (s2.evPulse 0x38 0).faultRec 0x03 0x38 0
        if recent.length ≥ 4 then s3.escalate else s3
    else s)

end Sys2Proof.Machine
end

