-- ==== Sys2Proof/Machine/Power.lean ====
section
/-!
DEFINITION. Power states, ride-through, operating points and supplies (R76 to R78, R95, R96, chapter 19), and the test
access port (R548, R549).
-/
namespace Sys2Proof.Machine

/-! ### Sleep requests (R450 to R452) -/

/-- Whether an enabled source can wake from a target state (R450). -/
def State.canWake (s : State) (guard : Bool) : Bool :=
  (List.range 0x2C).any (fun i =>
    let n := 0x10 + i
    s.wakeEnabled n && (if guard then (wakesFrom n).2 else (wakesFrom n).1))

/-- A SLEEP write (R450). -/
def sleepEffect (v : Word) (s : State) : State × Code :=
  let target := field v 1 0
  if field v 31 24 != 0x6D || target == 3 then (s, .arg)
  else if s.pwr.sleep.isSome then (s, .state)
  else if target == 1 && !s.pwr.xtal then (s, .state)
  else if target ≤ 1 && !s.canWake (target == 1) then (s, .state)
  else
    let req : SleepReq :=
      { target := target, due := s.after (msTime (field (s.rg 0x05 0x04C) 15 0)), origin := s.pstate.num }
    let s1 : State := { s with pwr := { s.pwr with sleep := some req } }
    (s1.updRg 0x05 0x048 (fun w => setFlag (setField w 1 0 target) 2 true), .done)

/-- What a request still waits for: operations, the core's WFI, a sensor-bus transfer, a migration copy (R450). A
RUNNING operation keeps its island clocked whichever it is (R66; DEDUCED, log entry 306). -/
def State.sleepWaits (s : State) (target : Nat) : Bool × Bool × Bool × Bool :=
  let to_ : PState := if target = 0 then .standby else if target = 1 then .guard else .off
  let deep (i : Island) : Bool := clockIn to_ i != .full
  ( s.ops.slots.any (fun e => e.2.st == .running && deep (islandOf e.2.page.toNat)),
    !(s.core.wfi || !s.ready 0x38),
    target != 0 && s.fastXfer,
    target != 0 && s.gran.copy.isSome )

/-- Whether a request's conditions all hold (R450). -/
def State.sleepReady (s : State) (target : Nat) : Bool :=
  let (a, b, c, d) := s.sleepWaits target
  !a && !b && !c && !d

/-- A transmission in progress ends and a reception is abandoned, as the device goes to sleep (R389, R451). -/
def State.quietRadio (s : State) : State :=
  let s1 := match s.phy.tx with | some f => (s.stopTx f).afterTx f | none => s
  s1.abandonRx

/-- The AON and SENSE clocks and the source of TIME change as GUARD is entered, and LOCKED becomes HOLDOVER (R107, R133,
R177, R189). -/
def State.slowClocks (s : State) : State :=
  let s1 := s.drainLanes.measureXtal.guardHoldover.syncEst.splitUtil
  let s2 : State := { s1 with
    pwr := { s1.pwr with depth := .guard, tcxo := false }, time := s1.time.anchor .crystal }
  s2.senseClockChanged true

/-- Entry: the radio falls silent, the state is set, carriers fall, the lease and the watchdogs hold; OFF follows the
GUARD entry (R451, R452). How long the entry took, within the sum of its limits, is a free value. -/
def State.sleepEntry (s : State) : State :=
  match s.pwr.sleep with
  | none => s
  | some r =>
    if !s.sleepReady r.target || (s.wakeEnabled 0x10 && s.wakeCond) || s.pwr.exit.isSome || s.dead then s
    else
      let s1 := s.quietRadio
      let s2 := if r.target == 0 then ({ s1 with pwr := { s1.pwr with depth := .standby } } : State)
        else if s1.pwr.depth == .guard then s1 else s1.slowClocks
      let (w, s3) := s2.draw
      let s4 := (s3.updRg 0x05 0x070 (fun x => setField x 15 0 (field w 15 0 % (if r.target == 0 then 21 else 151)))).updRg
        0x05 0x048 (fun x => satField x 31 16 1)
      let s5 := (s4.dropSleep.holdLease).refreshPower
      if r.target == 2 then { s5 with pwr := { s5.pwr with depth := .off } } else s5

/-- The request is dropped at SLEEP_TMO (R450). -/
def State.sleepTimeout (s : State) : State :=
  match s.pwr.sleep with
  | none => s
  | some r =>
    if s.sleepReady r.target then s
    else
      let s1 := (s.reach r.due).dropSleep
      (s1.updRg 0x05 0x048 (fun w => setFlag w 3 true)).evPulse 0x05 3

/-! ### Waking (R453 to R456) -/

/-- A wake source fires (R453 to R455); the CORE condition only while it is true. -/
def State.wakeFires (s : State) (source : Nat) : State :=
  if source == 0x10 && !s.wakeCond then s else s.fireWake source

/-- The clocks as the device leaves GUARD: the TCXO runs, TIME moves to the time clock, what GUARD held goes on (R107,
R132, R133, R177, R215). -/
def State.fastClocks (s : State) : State :=
  let s1 := s.drainLanes.syncEst.splitUtil
  let s2 : State := { s1 with
    pwr := { s1.pwr with depth := .awake, tcxo := true, lost := false }, time := s1.time.anchor .tcxo }
  ((s2.senseClockChanged false).takeAllPending).restartHeld

/-- A Q1 record is due for each host-target source pending at the return (R442). -/
def State.dueAtReturn (s : State) : State :=
  let l := (List.range 192).filter (fun n =>
    (s.srcTarget n == 1 || s.srcTarget n == 2) && s.srcEn n && decide (s.srcPrio n ≥ 1) && s.pend n)
  s.updIntc (fun i => { i with due := i.due ++ l.map (fun n => (n, s.now)) })

/-- The exit ends in RUN; islands whose clock was off start what they have to start, the core resumes after its WFI, the
lease restarts, migration goes on (R43, R88, R266, R442, R454, R456). -/
def State.exitComplete (s : State) : State :=
  match s.pwr.exit with
  | none => s
  | some (from_, t) =>
    if s.dead then s
    else
      let s1 := if from_ == .guard then s.fastClocks else ({ s with pwr := { s.pwr with depth := .awake } } : State)
      let waking := (List.range 0x70).filter (fun p =>
        pageAssigned p && !s.ready p && clockIn s.pstate (islandOf p) == .off && !s.inReset (islandOf p))
      let s2 := ({ s1 with pwr := { s1.pwr with exit := none } } : State).beginStarts waking false
      let us := min 0xFFFF ((s2.now - t).toNat * 1000000 / 2 ^ 32)
      let s3 := ((s2.updRg 0x05 0x070 (fun w => setField w 31 16 us)).endWfi).resumeLease
      ((s3.dueAtReturn).refreshPower).nextCopy 2048

/-- PMU_WAKE_N falls: from OFF, held low, it releases POR; else it is wake source 0x13 (R452, R453). -/
def State.wakeBall (s : State) : State :=
  if s.pwr.por then s
  else if s.pwr.depth == .off then s.por
  else s.wakeFires 0x13

/-! ### Operating points (R457 to R460) -/

/-- The voltage of a point, mV. -/
def pointMv (p : Nat) : Nat := 650 + 100 * p

/-- A VCORE write (R457). -/
def vcoreEffect (v : Word) (s : State) : State × Code :=
  let p := field v 1 0
  let stat := s.rg 0x05 0x064
  let now := field stat 1 0
  if p == 3 then (s, .arg)
  else if flag stat 2 || decide (p < field (s.rg 0x06 0x040) 1 0) then (s, .state)
  else
    let s1 := s.setRg 0x05 0x060 (BitVec.ofNat 32 p)
    if p = now then (s1, .done)
    else
      let steps := if p > now then p - now else now - p
      let s2 : State := { s1 with pwr := { s1.pwr with settle := some (s1.after (usTime (20 * steps)), p) } }
      (s2.updRg 0x05 0x064 (fun w => setFlag w 2 true), .done)

/-- A voltage step settles (R457). -/
def State.settled (s : State) : State :=
  match s.pwr.settle with
  | none => s
  | some (t, p) =>
    let s1 := s.reach t
    let s2 : State := { s1 with pwr := { s1.pwr with settle := none } }
    s2.setRg 0x05 0x064 (pack [(0, 2, p), (8, 12, pointMv p)])

/-- A CORE_OPP write (R457, R459, R460). -/
def coreOppEffect (v : Word) (s : State) : State × Code :=
  let p := field v 1 0
  let stat := s.rg 0x05 0x064
  if p == 3 then (s, .arg)
  else if decide (p > field stat 1 0) || flag stat 2 then (s, .state)
  else if flag (s.rg 0x05 0x120) 0 && p != 0 then (s, .state)
  else if flag (s.rg 0x05 0x06C) 10 && decide (p > 1) then (s, .state)
  else (s.setRg 0x06 0x040 (BitVec.ofNat 32 p), .done)

/-! ### Ride-through (R95, R96) -/

/-- BOR_STAT.RIDE given a value, with its level. -/
def State.setRide (s : State) (b : Bool) : State :=
  (s.updRg 0x05 0x120 (fun w => setFlag w 0 b)).evLevel 0x05 0 b

/-- VIN falls below VIN_LOW: carriers and radio stop, the core goes to OPP0, erases wait, a commit falls due (R95,
R291, R459). -/
def State.vinLow (s : State) : State :=
  if s.dead then { s with pwr := { s.pwr with vin := false } }
  else if !s.pwr.vin || s.pwr.cut then s
  else
    let s1 : State := { s with pwr := { s.pwr with vin := false } }
    let s2 := ((s1.setRide true).faultRec 0x18 0x05 0).failPorts (fun _ => true)
    let s3 := s2.abandonRx.cutTx
    let s4 := (s3.setRg 0x06 0x040 0).updLog (fun l => { l with due := true })
    s4.refreshPower

/-- How many log records are lost at VIN_CUT: packets that wait for the writer, and of the packets appended since the
last commit and not wholly programmed as many as still lie in GRANARY, a free value (R96). -/
def State.recordsLost (s : State) : State × Nat :=
  let waiting := ((List.range 32).map (fun q =>
    if qEn (s.qcfg q) && qCons (s.qcfg q) == 5 then
      ((s.queue q).items.filter (fun e => field e.word 30 29 == 0 || field e.word 30 29 == 3)).length
    else 0)).sum
  let l := s.flash.log
  if l.buf.isEmpty && l.todo.isEmpty then (s, waiting)
  else
    let (w, s1) := s.draw
    (s1, waiting + w.toNat % (field (s.rg 0x1E 0x060) 15 0 + 1))

/-- VIN falls below VIN_CUT in ride-through: every island but AON is without power (R86, R96). -/
def State.vinCut (s : State) : State :=
  if s.dead || !flag (s.rg 0x05 0x120) 0 then s
  else
    let (s1, n) := s.recordsLost
    let s2 := (s1.setRide false).updRg 0x05 0x120 (fun w => satField (setFlag w 1 true) 31 16 n)
    let s3 := s2.faultRec 0x19 0x05 0
    let s4 := s3.applyReset 2 0xF allButAon 0
    (({ s4 with pwr := { s4.pwr with cut := true } } : State).holdLease).syncWdt

/-- VIN rises above VIN_OK: shedding is lifted, a BROWNOUT start follows VIN_CUT, or islands that waited for VIN start
(R77, R94 to R96). -/
def State.vinOk (s : State) : State :=
  if s.pwr.vin then s
  else
    let s1 : State := { s with pwr := { s.pwr with vin := true } }
    if s.dead then s1
    else if s.pwr.cut then
      let s2 : State := { s1 with pwr := { s1.pwr with cut := false } }
      match s2.pwr.resets.find? (fun r => r.kind == 2) with
      | none => s2
      | some r =>
        let s3 := (s2.release r).beginStarts [0x03] true
        (s3.startPower.recordWake 0x01 r.origin false true).refreshPower
    else if flag (s.rg 0x05 0x120) 0 then
      (((s1.setRide false).updRg 0x05 0x120 (fun w => setFlag w 1 false)).supplyBack (List.range 18)).refreshPower
    else s1.beginStarts (pagesOf allButAon) false

/-! ### Clock sources (R78, R456, R463) -/

/-- The TCXO becomes stable after power-on: TIME moves to the time clock (R78, R176). -/
def State.tcxoStable (s : State) : State :=
  if s.dead || s.pwr.tcxo || s.pwr.lost then s
  else
    let s1 : State := { s with pwr := { s.pwr with tcxo := true } }
    if s1.pwr.depth == .guard then s1
    else
      let s2 := s1.syncEst
      { s2 with time := s2.time.anchor .tcxo }

/-- The TCXO stops while in use (R177, R463). -/
def State.tcxoLoss (s : State) : State :=
  if s.dead || !s.pwr.tcxo then s
  else
    let s0 := s.measureXtal.syncEst
    let s1 : State := { s0 with
      pwr := { s0.pwr with tcxo := false, lost := true }
      time := s0.time.anchor (if s0.pwr.xtal then .crystal else .rc) }
    let s2 := ((s1.updRg 0x06 0x04C (fun w => satField w 15 8 1)).evLevel 0x06 0 true).faultRec 0x17 0x06 0
    (s2.failPorts (fun _ => true)).cutTx.refreshPower

/-- The TCXO runs again (R463). -/
def State.tcxoReturn (s : State) : State :=
  if s.dead || !s.pwr.lost then s
  else
    let s0 := s.syncEst
    let s1 : State := { s0 with
      pwr := { s0.pwr with tcxo := true, lost := false }, time := s0.time.anchor .tcxo }
    (s1.evLevel 0x06 0 false).refreshPower

/-! ### I/O banks and the test access port -/

/-- The balls of the host links go high-impedance: a frame or transaction in progress is discarded, what it popped put
back (R77, R249, R544; DEDUCED, log entry 513). -/
def State.hostBallsLost (s : State) : State :=
  let s1 := match s.hspi.frame with | some f => f.undo.foldl State.giveBack s | none => s
  let s2 := s1.htw.undo.foldl State.giveBack s1
  { s2 with
    hspi := { s2.hspi with frame := none, out := [] }
    htw := { s2.htw with busy := false, undo := [], part := [] } }

/-- A VIO bank's supply comes or goes: its DOUT ports follow; a level held across a reset is lost; a host link of the bank
is cut off (R77, R544, R545). -/
def State.vioChange (s : State) (b up : Bool) : State :=
  let s0 := if b || up then s else s.hostBallsLost
  let s1 : State := { s0 with pwr := if b then { s0.pwr with vioB := up } else { s0.pwr with vioA := up } }
  (List.range 32).foldl
    (fun acc i =>
      let p := if b then 32 + i else i
      (if up then acc else acc.releaseHold p).drivePort p) s1

/-- The instruction in force for a code updated into the register (R516, R548, R549). -/
def State.tapCode (s : State) (code : Nat) : Nat :=
  if code == 0 || code == 3 then (if s.pwr.resetN then 0x1F else code)
  else if code == 1 || code == 2 then code
  else if (code == 0x10 || code == 0x11) && !s.fuse.debugClosed then code
  else 0x1F

/-! ### The rows -/

/-- SLEEP (R450). -/
def execSleep (m : Master) (v : Word) (s : State) : Host.Outcome State Fault Refusal :=
  .next (s.write m 0x05 0x044 v (sleepEffect v))

/-- SLEEP_ENTRY (R451). -/
def execSleepEntry (s : State) : Host.Outcome State Fault Refusal := .next s.sleepEntry

/-- SLEEP_TMO (R450). -/
def execSleepTmo (s : State) : Host.Outcome State Fault Refusal := .next s.sleepTimeout

/-- SLEEP_ABORTED (R455). -/
def execSleepAborted (source : BitVec 8) (s : State) : Host.Outcome State Fault Refusal :=
  .next (if s.pwr.sleep.isSome then s.wakeFires source.toNat else s)

/-- WAKE (R454). -/
def execWake (source : BitVec 8) (s : State) : Host.Outcome State Fault Refusal := .next (s.wakeFires source.toNat)

/-- EXIT_COMPLETE (R456). -/
def execExitComplete (s : State) : Host.Outcome State Fault Refusal := .next s.exitComplete

/-- TCXO_LATE (R456). -/
def execTcxoLate (s : State) : Host.Outcome State Fault Refusal :=
  .next
    (match s.pwr.exit with
     | some (.guard, t) =>
       let s1 := s.reach (t + BitVec.ofNat 64 (usTime (field (s.rg 0x06 0x048) 15 0)))
       (s1.updRg 0x06 0x04C (fun w => satField w 7 0 1)).evPulse 0x06 1
     | _ => s)

/-- PMU_WAKE_N (R452). -/
def execPmuWakeN (s : State) : Host.Outcome State Fault Refusal := .next s.wakeBall

/-- VCORE_WRITE (R457). -/
def execVcoreWrite (m : Master) (v : Word) (s : State) : Host.Outcome State Fault Refusal :=
  .next (s.write m 0x05 0x060 v (vcoreEffect v))

/-- VOLTAGE_SETTLED (R457). -/
def execVoltageSettled (s : State) : Host.Outcome State Fault Refusal := .next s.settled

/-- CORE_OPP_WRITE (R457). -/
def execCoreOppWrite (m : Master) (v : Word) (s : State) : Host.Outcome State Fault Refusal :=
  .next (s.write m 0x06 0x040 v (coreOppEffect v))

/-- VIN_LOW (R95). -/
def execVinLow (s : State) : Host.Outcome State Fault Refusal := .next s.vinLow

/-- VIN_OK (R95). -/
def execVinOk (s : State) : Host.Outcome State Fault Refusal := .next s.vinOk

/-- VIN_CUT (R96). -/
def execVinCut (s : State) : Host.Outcome State Fault Refusal := .next s.vinCut

/-- CRYSTAL_START (R78). -/
def execCrystalStart (s : State) : Host.Outcome State Fault Refusal :=
  .next (if s.dead then s else { s with pwr := { s.pwr with xtal := true } })

/-- TCXO_STABLE (R78). -/
def execTcxoStable (s : State) : Host.Outcome State Fault Refusal := .next s.tcxoStable

/-- TCXO_LOSS (R463). -/
def execTcxoLoss (s : State) : Host.Outcome State Fault Refusal := .next s.tcxoLoss

/-- TCXO_RETURN (R463). -/
def execTcxoReturn (s : State) : Host.Outcome State Fault Refusal := .next s.tcxoReturn

/-- VIO_SUPPLY_LOSS (R545). -/
def execVioSupplyLoss (b : Bool) (s : State) : Host.Outcome State Fault Refusal := .next (s.vioChange b false)

/-- VIO_SUPPLY_RETURN (R545). -/
def execVioSupplyReturn (b : Bool) (s : State) : Host.Outcome State Fault Refusal := .next (s.vioChange b true)

/-- TAP_IR_UPDATE (R549). -/
def execTapIrUpdate (code : BitVec 5) (s : State) : Host.Outcome State Fault Refusal :=
  .next { s with tap := { ir := BitVec.ofNat 5 (s.tapCode code.toNat) } }

end Sys2Proof.Machine
end

