-- ==== Sys2Proof/Machine/Service.lean ====
section
/-!
DEFINITION. Watchdogs and heartbeats (R533 to R536, R540).
-/
namespace Sys2Proof.Machine

/-! ### Watchdogs -/

/-- The service state changed. -/
def State.updSvc (s : State) (f : Service → Service) : State := { s with svc := f s.svc }

/-- The normal mode's full count (R540). -/
def State.wdtFull (s : State) : Nat := msTime (field (s.rg 0x3C 0x044) 15 0)

/-- The normal mode's count starts anew. -/
def State.restartWdt (s : State) : State :=
  s.updSvc (fun x => { x with normal := { x.normal with left := s.wdtFull, since := s.now, warned := false } })

/-- When a count that runs is down to an amount. -/
def Wdt.reaches (w : Wdt) (amount : Nat) : Stamp := w.since + BitVec.ofNat 64 (w.left - amount)

/-- A WDT_KICK write (R534). -/
def wdtKickEffect (m : Master) (v : Word) (s : State) : State × Code :=
  if m != .core then (s, .state)
  else if field v 15 0 != 0xC35A then (s, .arg)
  else if s.svc.normal.running && s.svc.normal.remaining s.now == 0 then (s, .state)
  else (s.restartWdt, .done)

/-- A WDT_CFG write: refused while LOCK is 1; a changed TIMEOUT restarts the count (R540). -/
def wdtCfgEffect (v : Word) (s : State) : State × Code :=
  let old := s.rg 0x3C 0x044
  if flag old 31 then (s, .state)
  else
    let s1 := s.setRg 0x3C 0x044 (v &&& 0x81FFFFFF)
    let s2 := if field old 15 0 = field v 15 0 then s1 else s1.restartWdt
    (s2.syncWdt, .done)

/-- A watchdog expires: a WATCHDOG reset of CORE; both counts restart, the unconfirmed one at a boot (R535). -/
def State.wdtExpire (s : State) (unconf : Bool) : State :=
  let w := if unconf then s.svc.unconf else s.svc.normal
  if s.dead || !w.running || !w.counting then s
  else
    let s1 := s.reach (w.reaches 0)
    let s2 := (s1.updRg 0x3C 0x04C (fun x => satField x 23 16 1)).faultRec 0x06 0x3C (bit unconf)
    let s3 := (s2.updSvc (fun x => { x with unconf := {} })).islandReset 6 0xF 0x010
    s3.restartWdt

/-- The remaining count reaches WARN × TIMEOUT / 256 (R534). -/
def State.wdtWarn (s : State) : State :=
  let cfg := s.rg 0x3C 0x044
  let w := s.svc.normal
  let amount := s.wdtFull * field cfg 23 16 / 256
  if s.dead || field cfg 23 16 = 0 || !w.running || !w.counting || w.warned || decide (w.left < amount) then s
  else
    let s1 := s.reach (w.reaches amount)
    (s1.updSvc (fun x => { x with normal := { x.normal with warned := true } })).evPulse 0x3C 1

/-! ### Heartbeats (R536) -/

/-- Whether an island is sent a heartbeat: not AON, every page READY, clocked in full. -/
def State.beats (s : State) (i : Island) : Bool :=
  i != .aon && !s.unavailable i && s.clock i == .full
  && (pagesOf (BitVec.ofNat 9 (2 ^ Island.bit i))).all s.ready

/-- A heartbeat goes to each such island; one sent more than HB_TO ms ago was acknowledged, or the island is one no
more. -/
def State.heartbeat (s : State) : State :=
  if s.dead then s
  else
    let wait := BitVec.ofNat 64 (msTime (field (s.rg 0x3C 0x054) 7 0))
    let live := islands.filter s.beats
    let open' := s.svc.beats.filter (fun b => (live.map Island.bit).contains b.1 && decide (s.now ≤ b.2 + wait))
    s.updSvc (fun x => { x with beats := open' ++ live.map (fun i => (Island.bit i, s.now)) })

/-- An island has missed the earliest heartbeat it may still acknowledge: recorded, and reset where RESET_EN names it. -/
def State.heartbeatMiss (s : State) (i : Nat) : State :=
  match s.svc.beats.find? (fun b => b.1 == i) with
  | none => s
  | some (_, t) =>
    let cfg := s.rg 0x3C 0x054
    let s1 := s.reach (t + BitVec.ofNat 64 (msTime (field cfg 7 0)))
    let s2 := s1.updSvc (fun x => { x with beats := x.beats.filter (fun b => b.1 != i) })
    let s3 := (((s2.updRg 0x3C 0x058 (fun w => setFlag w i true)).faultRec 0x07 0x3C i).evPulse 0x3C 2).refreshService
    if flag cfg (16 + i) then
      (s3.updRg 0x3C 0x058 (fun w => satField w 31 16 1)).islandReset 5 0xF (BitVec.ofNat 9 (2 ^ i))
    else s3

/-- WDT_KICK (R534). -/
def execWdtKick (m : Master) (v : Word) (s : State) : Host.Outcome State Fault Refusal :=
  .next (s.write m 0x3C 0x048 v (wdtKickEffect m v))

/-- WDT_CFG_WRITE (R540). -/
def execWdtCfgWrite (m : Master) (v : Word) (s : State) : Host.Outcome State Fault Refusal :=
  .next (s.write m 0x3C 0x044 v (wdtCfgEffect v))

/-- WDT_EXPIRY (R535). -/
def execWdtExpiry (unconf : Bool) (s : State) : Host.Outcome State Fault Refusal := .next (s.wdtExpire unconf)

/-- WDT_WARN (R534). -/
def execWdtWarn (s : State) : Host.Outcome State Fault Refusal := .next s.wdtWarn

/-- HEARTBEAT (R536). -/
def execHeartbeat (s : State) : Host.Outcome State Fault Refusal := .next s.heartbeat

/-- HEARTBEAT_MISS (R536). -/
def execHeartbeatMiss (island : Fin 9) (s : State) : Host.Outcome State Fault Refusal := .next (s.heartbeatMiss island.val)

end Sys2Proof.Machine
end

