-- ==== Sys2Proof/Machine/Starts.lean ====
section
/-!
DEFINITION. What blocks do as they start (R82): the option load (R85), the scan of the flash journal (R98), the
Crib's start with what a tamper response left to it (R521, R522), the daisy-chain register (R484); and the tamper
responses themselves.
-/
namespace Sys2Proof.Machine

/-! ### The option load (R85, R297, R300) -/

/-- A change of ROT_W at a start rebuilds the window map: window slot k is pool sector k, erased; other pool sectors
that hold anything are dirty (R297). -/
def FlashState.rewindow (x : FlashState) (w : Nat) : FlashState :=
  let pool (p : Nat) : Bool := decide (512 ≤ p) && decide (p < 992)
  let freed := (x.map.filter (fun e => pool e.1 && decide (1024 ≤ e.2))).map (·.2)
  let map := Tab.keep (fun k => !pool k) x.map
  let dirty := x.dirty.filter (fun p => !pool p) ++ freed
  if w = 0 then { x with map := map, dirty := dirty, pool := 0 }
  else
    let y := ((List.range w).map (512 + ·)).foldl FlashState.wipe x
    let holds (p : Nat) : Bool := y.cells.any (fun e => e.1 / 16384 == p) || y.marks.any (fun e => e.1 / 512 == p)
    { y with map := map, dirty := dirty ++ ((List.range 480).map (512 + ·)).filter holds, pool := w - 1 }

/-- What the load finds: the copy to use, and whether the other is to be rewritten from it (R85). -/
def OptionState.choose (o : OptionState) : OptionState :=
  let v0 := o.copy0.valid
  let v1 := o.copy1.valid
  let found : BitVec 2 := BitVec.ofNat 2 (bit v0 + 2 * bit v1)
  let both := v0 && v1
  let used := if both then decide (o.copy0.seq < o.copy1.seq) else !v0 && v1
  let defaults := !v0 && !v1
  let words := if defaults then [] else if used then o.copy1.words else o.copy0.words
  { o with
    used := used, found := found, defaults := defaults
    rewrite := if both then o.copy0.seq != o.copy1.seq else !defaults
    shadow := words, live := words, loaded := true }

/-- The option area is loaded: the shadow, the settings that take effect at a start, the window (R85, R300). -/
def State.loadOption (s : State) : State :=
  let s1 : State := { s with opt := s.opt.choose }
  let w := field (s1.optLive 3) 4 0
  let s2 := if w = s1.rotW then s1 else (s1.updFlash (fun x => x.rewindow w)).setRg 0x1E 0x068 (BitVec.ofNat 32 w)
  if s2.opt.found = 3 then s2 else s2.faultRec 0x0E 0x03 s2.opt.found.toNat

/-- Whether the load may run: AON READY, and the array out of reset with its supply. -/
def State.mayLoadOption (s : State) : Bool :=
  !s.dead && !s.opt.loaded && s.groupReady 0 && !s.pwr.cut && !s.inReset .flash

/-- The copy not in use is rewritten from the one in use (R85). -/
def State.rewriteCopy (s : State) : State :=
  let o := s.opt
  let c := o.current
  { s with opt := { o with copy0 := c, copy1 := c, rewrite := false, found := 3 } }

/-! ### The flash journal (R98, R288, R289) -/

/-- The other page of a page's wordline: pages 2k and 2k + 1 share one (R289). -/
def pagePair (page : Nat) : Nat := if page % 2 = 0 then page + 1 else page - 1

/-- The codewords a cut-off program named are marked and may read as anything: in its own page it corrupts no other. Any
programmed codeword of the paired page is at risk (R288, R289). -/
def State.cutProgram (s : State) (r : WriteRun) : State :=
  let own := (List.range r.count).map (fun i => s.physCw (r.codeword + i))
  let risk := (((List.range 16).map (16 * pagePair (r.codeword / 16) + ·)).filter s.marked).map s.physCw
  s.updFlash (fun x =>
    let marks := own.foldl (fun t c => Tab.set (fun _ => false) t c true) x.marks
    let h1 := own.foldl (fun t c => Tab.set (fun _ => 0) t c 4) x.health
    let h2 := risk.foldl
      (fun (t : Tab Nat) c => if Tab.get (fun _ => 0) t c ≥ 3 then t else Tab.set (fun _ => 0) t c 5) h1
    { x with marks := marks, health := h2 })

/-- A journal entry added; with 32 held, an ERASE_CUT takes the place of the sector's PROG_CUT entry, and a second
PROG_CUT of a sector is not entered (R288; DESIGN CHOICE, log entry 1304). -/
def FlashState.enter (x : FlashState) (e : JournalEntry) : FlashState :=
  let same (j : JournalEntry) : Bool := j.phys.isNone && e.phys.isNone && j.kind == 2 && j.bank == e.bank && j.page / 32 == e.page / 32
  if x.journal.contains e then x
  else if x.journal.length < 32 then { x with journal := x.journal ++ [e] }
  else if e.kind == 1 then { x with journal := x.journal.filter (fun j => !same j) ++ [e] }
  else x

/-- The journal entry of a record still open. A remap of a window slot erases nothing: cut off, it leaves its mapping and
no entry (R297). Where a dirty spare or pool sector was being erased, the entry is that physical sector's, which no
address names; the page it shows is a free value (R288; DESIGN CHOICE, log entry 1304). -/
def State.cutEntry (s : State) (r : WriteRun) : State × Option JournalEntry :=
  let n := r.codeword / 512
  let bank := sectorBank n
  let dirty (p : Nat) : State × Option JournalEntry :=
    let (w, s1) := s.draw
    (s1, some { kind := 1, bank := physBank p, page := field w 13 0, phys := some p })
  if !r.erase then (s, some { kind := 2, bank := bank, page := cwPage r.codeword })
  else if r.spare then dirty n
  else if !s.windowSlot n then (s, some { kind := 1, bank := bank, page := (n - bankFirst bank) * 32 })
  else
    match (if r.wipes then s.poolNext else none) with
    | some p => dirty (512 + p)
    | none => (s, none)

/-- The scan of a start that reaches FLASH: a record still open becomes a journal entry (R98, R288). A core read that
waited for the bank goes on (R284). -/
def State.scanJournal (s : State) : State :=
  match s.flash.run with
  | none => s.refreshFlash.endStall
  | some r =>
    match (s.updFlash (fun x => { x with run := none })).cutEntry r with
    | (s1, none) => s1.refreshFlash.endStall
    | (s1, some e) =>
      let s2 := if r.erase then s1 else s1.cutProgram r
      ((s2.updFlash (fun x => x.enter e)).faultRec 0x0D 0x1E e.bank).refreshFlash.endStall

/-! ### Tamper (R521) -/

/-- Whether a tamper sensor is armed: 0 VOLT, 1 CLOCK, 2 TEMP, 3 EXT. -/
def State.tamperArmed (s : State) (n : Nat) : Bool :=
  !s.dead && (n != 1 || s.pwr.depth == .awake || s.pwr.depth == .standby)

/-- The log entry and the event of a trip. -/
def State.tamperLog (s : State) (n : Nat) : State := (s.secLog 1 n 0 7).cribEv 0

/-- A sensor trips. While the Crib has its clock the response of TAMPER_CFG is carried out; otherwise AON removes
the volatile keys under ZEROISE, and the rest is left to the Crib's next start. -/
def State.tamper (s : State) (n : Nat) : State :=
  if !s.tamperArmed n then s
  else
    let how := field (s.rg 0x3A 0x05C) (2 * n + 1) (2 * n)
    let s1 := s.updRg 0x3A 0x060 (fun w => satField (setFlag w n true) 15 8 1)
    let s2 := s1.faultRec 0x1B 0x3A n
    if how = 0 then s2.tamperLog n
    else if s2.unavailable .crib then
      let s3 := s2.updCrib (fun c => { c with
        pend := max c.pend how, pendLog := c.pendLog ++ [n]
        keys := if how = 2 then c.keys.filter (fun e => e.2.persist) else c.keys
        drbg := c.drbg && how != 2 })
      s3.islandReset 7 0xF 0x100
    else
      let s3 := s2.tamperLog n
      let s4 := if how = 2 then s3.zeroiseCrib 7 else s3
      s4.islandReset 7 0xF 0x100

/-- The Crib has started: its tests have passed, the DRBG is instantiated, and what a tamper trip left is completed
(R521, R522). -/
def State.cribStart (s : State) : State :=
  let s1 := s.updRg 0x3A 0x064 (fun w => satField (setFlag w 0 true) 31 16 1)
  let s2 := s1.crib.pendLog.foldl State.tamperLog s1
  let s3 := if s2.crib.pend = 2 then s2.zeroiseCrib 7 else s2
  s3.updCrib (fun c => { c with pend := 0, pendLog := [], drbg := true })

/-! ### The host serial port's status byte (R469, R484) -/

/-- HSPI's status byte. -/
def State.hspiByte (s : State) (endBit : Bool) : Byte :=
  if !s.ready 0x30 then 0
  else
    BitVec.ofNat 8
      (pack [ (7, 1, 1), (6, 1, bit (s.isOwner .hspi)), (5, 1, bit (s.hirqLow 1 || s.hirqLow 2))
            , (4, 1, bit s.hspi.lastErr), (3, 1, bit endBit), (2, 1, bit (s.hostmap != 0))
            , (0, 2, field (s.rg 0x30 0x054) 1 0) ]).toNat

/-- HSPI raises READY: its enable and its mode come from option A1, and the daisy-chain register holds a first
response (R466, R484). -/
def State.hspiStart (s : State) : State :=
  let s1 := s.updRg 0x30 0x008 (fun w => setFlag w 0 (flag (s.optLive 1) 8))
  { s1 with hspi := { s1.hspi with daisy := flag (s.optLive 1) 9, chain := s1.hspiByte false :: List.replicate 7 0 } }

/-! ### Readiness (R24, R77, R82) -/

/-- What a page does as it raises READY: SHEAF compares its pointers, a queue window shows its levels, the host
ports take their enables from option A1, and every block shows its levels (R250, R256, R466, R489). -/
def State.onReady (s : State) (page : Nat) : State :=
  if page = 0x1B then s.checkPointers
  else if 0x50 ≤ page && page ≤ 0x6F then s.refreshQueue (page - 0x50)
  else if 0x10 ≤ page && page ≤ 0x17 then
    (List.range 8).foldl (fun acc i => acc.portLines (8 * (page - 0x10) + i)) s
  else if page = 0x30 then s.hspiStart
  else if page = 0x31 then s.updRg 0x31 0x008 (fun w => setFlag w 0 (flag (s.optLive 1) 7))
  else if page = 0x02 then s.refreshOps
  else if page = 0x03 then s.refreshOption
  else if page = 0x1A then s.refreshWinnow
  else if page = 0x1C then s.refreshNolog.refreshGranary.moveOff
  else if page = 0x1E then s.scanJournal
  else if page = 0x20 || page = 0x21 then s.refreshField
  else if page = 0x28 then s.refreshRadio
  else if page = 0x38 then s.evLevel 0x38 2 s.unconfirmed
  else if page = 0x3A then s.cribStart
  else if page = 0x3C then s.refreshService
  else s

/-- The last of the AON pages to raise READY after a power-on reset stamps the wake (R94). -/
def State.stampWake (s : State) (page : Nat) : State :=
  if (groupPages 0).contains page && s.groupReady 0 then s.setPair 0x05 0x110 s.now else s

/-- A block raises READY, stamped, with CTL.SRST back at 0; after a soft reset CTL.EN stays as it is (R24, R82,
R569). -/
def State.raiseReady (s : State) (page : Nat) : State :=
  let ctl := s.rg page 0x008
  let s1 := s.setRg page 0x008 (setFlag ctl 1 false)
  let s2 := (s1.setReadyBits page (fun w => setFlag w 0 true)).onReady page
  let s3 := if flag ctl 1 then s2.updRg page 0x008 (fun w => setFlag w 0 (flag ctl 0)) else s2
  (s3.stampWake page).syncWdt

/-- BLOCK_READY (R82). -/
def execBlockReady (page : BitVec 8) (s : State) : Host.Outcome State Fault Refusal :=
  .next (if s.mayReady page.toNat then s.raiseReady page.toNat else s)

/-- OPTION_LOAD (R85). -/
def execOptionLoad (s : State) : Host.Outcome State Fault Refusal :=
  .next (if s.mayLoadOption then s.loadOption else s)

/-- OPTION_COPY_REWRITE (R85): in the background, once FLASH is READY. -/
def execOptionCopyRewrite (s : State) : Host.Outcome State Fault Refusal :=
  .next (if s.opt.rewrite && s.flashUp then s.rewriteCopy else s)

/-- TAMPER_TRIP (R521). -/
def execTamperTrip (sensor : Fin 4) (s : State) : Host.Outcome State Fault Refusal :=
  .next (s.tamper sensor.val)

end Sys2Proof.Machine
end

