-- ==== Sys2Proof/Machine/TaskIn.lean ====
section
/-!
DEFINITION. A block takes the trigger that a task input of the event fabric holds and acts on it (R17, R225): the
table of task inputs in the chapters of the Gleaner, the converters, TIME, PMU, READER, LINK and CRIB.
-/
namespace Sys2Proof.Machine

/-- A Gleaner thread's task input: it releases the thread's WEV, or is a cause of an activation while SCHED.EVT is 1
(R129, R130, R146). -/
def State.threadTrigger (s : State) (t : Nat) : State :=
  let carried := (s.task t).carried
  let s1 := s.clearTask t
  let h := s.thread t
  match h.st, h.block with
  | .blocked, .event _ tol => s1.takeCode t .done tol id id
  | _, _ => if flag (s.thrReg t 0x04) 2 then s1.cause t (some carried) else s1

/-- Whether a converter can start on a fabric trigger (R103, R107, R226). -/
def State.convTakes (s : State) (cv : Nat) : Bool :=
  s.ready 0x18 && s.trig cv == 2 && !s.calibrating cv && s.connected cv
  && !(s.port (s.xbarPort cv)).quarantined
  && (16 ≤ cv || ((s.lane cv).cfg.isSome && !s.laneHeld cv))

/-- A converter's task input: a conversion, or the trigger is counted in LOST; it waits while a conversion runs
(R107, R225, R226). -/
def State.convTrigger (s : State) (cv : Nat) : State :=
  if !s.convTakes cv then s.loseTask (0x10 + cv)
  else if (s.conv cv).run.isSome then s
  else (s.clearTask (0x10 + cv)).convBegin cv .task (s.xbarPort cv)

/-- A reader task input submits its operation for the reader engine; it waits while there is no slot (R353). -/
def State.readerTrigger (s : State) (task : Nat) : State :=
  let k := task % 4
  let sent : Option (Nat × State) :=
    if task < 0x34 then
      s.agentQueue 8 0x22 3 [s.rg 0x22 (0x080 + 8 * k), s.rg 0x22 (0x084 + 8 * k), 0, 0]
    else if task < 0x38 then s.agentQueue 8 0x23 3 [BitVec.ofNat 32 (2 ^ k)]
    else s.agentQueue 8 0x22 1 [setField (s.rg 0x22 (0x0A0 + 4 * k)) 30 24 (120 + k)]
  match sent with
  | some (_, s1) => s1.clearTask task
  | none => s

/-- The Crib's task inputs: EXT, RESEED and SELFTEST (R521, R527). -/
def State.cribTrigger (s : State) (task : Nat) : State :=
  let s1 := s.clearTask task
  if task = 0x50 then s1.tamper 3
  else if !s1.cribUp then s1
  else if task = 0x51 then s1.reseedDrbg
  else s1.updRg 0x3A 0x064 (fun w => satField (setFlag w 0 true) 31 16 1)

/-- A block takes a task input's trigger. The island's clock must run (R17); but the EXT tamper input acts in every state
but OFF (R521), and a SNAP trigger that finds SENSE not READY is MISSED (R185). -/
def State.takeTrigger (s : State) (task : Nat) : State :=
  if !(s.task task).held || s.dead || (task != 0x50 && task != 0x24 && s.unavailable (taskIsland task)) then s
  else if task < 0x10 then (if s.ready 0x0A then s.threadTrigger task else s)
  else if task < 0x24 then s.convTrigger (task - 0x10)
  else if task = 0x24 then s.snapTrigger
  else if 0x28 ≤ task && task ≤ 0x2B then (s.clearTask task).fireWake (0x14 + (task - 0x28))
  else if 0x30 ≤ task && task ≤ 0x3B then s.readerTrigger task
  else if 0x40 ≤ task && task ≤ 0x43 then (s.clearTask task).bindSend (task - 0x40)
  else if 0x50 ≤ task && task ≤ 0x52 then s.cribTrigger task
  else s

/-- TASK_TRIGGER_TAKEN (R225). -/
def execTaskTriggerTaken (task : BitVec 8) (s : State) : Host.Outcome State Fault Refusal :=
  .next (s.takeTrigger task.toNat)

end Sys2Proof.Machine
end

