-- ==== Sys2Proof/Machine/Start.lean ====
section
/-!
DEFINITION. Operations start in their blocks, end in AON, and their records reach Q0 (R58 to R72).
-/
namespace Sys2Proof.Machine

/-- Whether a slot's operation is a reader exchange that a protected window holds back: one in force, or one coming that it
would overlap (R325). -/
def State.deferred (s : State) (k : Slot) : Bool :=
  (s.coexMode == 1 || s.coexMode == 2 || s.wouldOverlap k)
  && ((k.page == 0x22 && (k.op == 1 || k.op == 2 || k.op == 3)) || (k.page == 0x23 && (k.op == 2 || k.op == 3)))

/-- An exchange that a scheduled window holds back is counted, once (R325). -/
def State.countDefer (s : State) (tag : Nat) : State :=
  match (if s.coexMode != 0 then s.fld.coex else s.fld.coming) with
  | some c =>
    if c.scheduled && !(s.slot tag).deferred then
      (s.updRg 0x20 0x054 (fun w => satField w 31 20 1)).putSlot tag { s.slot tag with deferred := true }
    else s
  | none => s

/-- The log writer hears of the code its own program ended with before it began. -/
def State.flashStart (s : State) (tag : Nat) : State :=
  let s1 := s.flashBegin tag
  match (s1.slot tag).result with
  | some c => s1.logFailed tag c
  | none => s1

/-- A slot's operation reaches its block, where the block takes it up before its own effect: FLASH opens its journal
record, OPTION blows its fuse, the engines and units begin their work. -/
def State.beginOp (s : State) (tag : Nat) : State :=
  let k := s.slot tag
  if k.result.isSome then s
  else
    match k.page.toNat with
    | 0x1E => s.flashStart tag
    | 0x03 => s.groupBegin tag
    | 0x19 => if k.op = 1 then s.admitBegin tag else s
    | 0x18 => if k.op = 2 then s.portTestBegin tag else s
    | 0x22 => s.readerBegin tag
    | 0x23 => s.readerBegin tag
    | 0x29 => s.measureBegin tag
    | 0x28 => s.trainBegin tag
    | 0x32 => s.xferBegin tag
    | _ => s

/-- An operation starts, once it may and no window holds it back. -/
def State.startOp (s : State) (tag : Nat) : State :=
  if !s.mayStart tag then s
  else if s.deferred (s.slot tag) then s.countDefer tag
  else (s.startSlot tag).beginOp tag

/-- The earliest HELD record is placed in Q0; its slot is FREE, with SRC, PAGE and OP as they were (DESIGN CHOICE, log
entry 305), and an agent that waits for a slot may take it
(R58, R61, R67). -/
def State.pushRecords (s : State) : State :=
  match s.oldestHeld with
  | none => s
  | some tag =>
    if s.recordRoom then
      let (s1, c) := s.blockPush 0 (recordPayloads tag (s.slot tag))
      if c = .done then (s1.putSlot tag { s1.slot tag with st := .free }).retryTags.retryAuto else s1
    else s

/-- OPERATION_START (R65): a QUEUED operation starts once order, fence and power state allow. -/
def execOperationStart (tag : Fin 128) (s : State) : Host.Outcome State Fault Refusal :=
  .next (if s.dead then s else s.startOp tag.val)

/-- OPERATION_END (R67): a RUNNING operation that has its result ends. -/
def execOperationEnd (tag : Fin 128) (s : State) : Host.Outcome State Fault Refusal :=
  .next
    (match (s.slot tag.val).st, (s.slot tag.val).result with
     | .running, some c => s.endSlotAt tag.val c (s.slot tag.val).ended
     | _, _ => s)

/-- RECORD_PUSH (R58). -/
def execRecordPush (s : State) : Host.Outcome State Fault Refusal :=
  .next (if s.dead then s else s.pushRecords)

end Sys2Proof.Machine
end

