-- ==== Sys2Proof/Machine/ViewsAon.lean ====
section
/-!
DEFINITION. How the computed registers of AON and CORE pages read: DEVICE, OWN, OPS, TIME, EVENT, PMU, CLOCK,
SERVICE, CORE, INTC and the option shadow. A register that is not listed reads as it is kept.
-/
namespace Sys2Proof.Machine

/-- A word whose low n bits show a predicate of the bit number. -/
def wordOf (n : Nat) (p : Nat → Bool) : Word := pack ((List.range n).map (fun i => (i, 1, bit (p i))))

/-- A master's own selector: a field of its copy of a banked register (R37). -/
def State.sel (s : State) (m : Master) (page off hi : Nat) : Nat := field (s.own1 m page off) hi 0

/-- Whole milliseconds of a TIME length, rounded down. -/
def wholeMs (n : Nat) : Nat := n * 1000 / 2 ^ 32

/-! ### DEVICE, OWN, OPS -/

/-- A bit of READY in any page of a group (R53). -/
def State.groupAny (s : State) (g b : Nat) : Bool := (groupPages g).any (fun p => flag (s.rg p 0x004) b)

/-- DEVICE (R52, R53). -/
def State.viewDevice (s : State) (off : Nat) : Option Word :=
  match off with
  | 0x048 => some (Config.uid.extractLsb' 0 32)
  | 0x04C => some (Config.uid.extractLsb' 32 32)
  | 0x050 => some (Config.uid.extractLsb' 64 32)
  | 0x054 => some (Config.uid.extractLsb' 96 32)
  | 0x058 => some (wordOf 18 s.groupReady)
  | 0x05C => some (wordOf 18 (fun g => s.groupAny g 1))
  | 0x060 => some (wordOf 18 (fun g => s.groupAny g 2))
  | 0x064 => some (wordOf 32 (fun p => field (s.rg p 0x018) 31 16 != 0))
  | 0x068 => some (wordOf 32 (fun p => field (s.rg (0x20 + p) 0x018) 31 16 != 0))
  | 0x06C => some (pack [(0, 2, s.lifecycle), (8, 1, bit s.fuse.debugClosed)])
  | _ => none

/-- What remains of the lease. -/
def State.leaseLeft (s : State) : Nat :=
  match s.own.held with
  | some n => n
  | none => s.own.due.toNat - s.now.toNat

/-- OWN (R51). LEASE_STAT reads 0 while the device is ownerless (DESIGN CHOICE, log entry 205). -/
def State.viewOwn (s : State) (m : Master) (off : Nat) : Option Word :=
  let o := s.own
  let target := match o.handover with | some (t, _) => Master.id t | none => 0
  let ownerId := match o.owner with | some t => Master.id t | none => 0
  match off with
  | 0x040 => some (pack
      [ (0, 3, ownerId), (3, 1, bit o.owner.isNone), (4, 1, bit o.window.isSome), (5, 1, bit o.handover.isSome)
      , (8, 3, target), (16, 16, o.epoch.toNat) ])
  | 0x044 => some (BitVec.ofNat 32 (Master.id m))
  | 0x048 => some (s.own1 m 0x01 0x048)
  | 0x054 => some (if o.owner.isNone then 0 else pack [(0, 16, o.period), (16, 16, min 0xFFFF (wholeMs s.leaseLeft))])
  | 0x058 => some (BitVec.ofNat 32 (if o.handover.isSome then target else ownerId))
  | 0x064 => some (s.optWord 0 &&& 0xFFFFF)
  | _ => none

/-- A slot's state as its number. -/
def SlotState.num : SlotState → Nat
  | .free => 0 | .queued => 1 | .running => 2 | .held => 3

/-- OPS (R73). -/
def State.viewOps (s : State) (m : Master) (off : Nat) : Option Word :=
  let k := s.slot (s.sel m 0x02 0x074 6)
  match off with
  | 0x06C => some (pack
      [ (0, 8, s.slotCount (fun x => x.st == .free)), (8, 8, s.slotCount (fun x => x.st == .held))
      , (16, 8, s.slotCount agentSlot) ])
  | 0x078 => some (pack
      [(0, 2, k.st.num), (4, 4, k.src.toNat), (8, 8, k.page.toNat), (16, 8, k.op.toNat), (24, 8, Code.num k.code)])
  | 0x07C => some (loWord k.stamp)
  | 0x080 => some (hiWord k.stamp)
  | _ =>
    if 0x084 ≤ off && off ≤ 0x090 then
      some (wordOf 32 (fun i => (s.slot (32 * ((off - 0x084) / 4) + i)).st != .free))
    else none

/-! ### TIME and EVENT -/

/-- TIME (R194); XTAL_PPB is a measurement, read in `timeRead`. -/
def State.viewTime (s : State) (off : Nat) : Option Word :=
  match off with
  | 0x040 => some (loWord s.now)
  | 0x044 => some (hiWord s.now)
  | 0x048 => some s.timeStatus
  | 0x05C => some (BitVec.ofNat 32 s.estErr)
  | 0x078 => some (match s.link.parent with | some n => pack [(0, 8, n), (8, 1, 1)] | none => 0)
  | 0x0C4 => some s.snapStat
  | _ => none

/-- EVENT (R237). -/
def State.viewEvent (s : State) (m : Master) (off : Nat) : Option Word :=
  match off with
  | 0x040 => some (s.flagView m 0)
  | 0x044 => some (s.flagView m 1)
  | 0x050 => some s.waveStat
  | 0x05C => some (s.taskStat (s.sel m 0x08 0x058 7))
  | _ => none

/-! ### PMU, CLOCK, SERVICE -/

/-- DOMAINS (R449, R461): AON alone without the other supplies. -/
def State.domains (s : State) : Word :=
  if s.pwr.cut then 0x3
  else
    match s.pstate with
    | .run => 0x3FFFF
    | .idle => 0x3FEFF
    | .standby => 0x3E9BF
    | .guard => 0x1D56F
    | .off => 0

/-- PMU (R461). -/
def State.viewPmu (s : State) (off : Nat) : Option Word :=
  match off with
  | 0x040 => some (pack [(0, 3, s.pstate.num), (4, 1, bit s.pwr.exit.isSome)])
  | 0x048 =>
    let w := s.rg 0x05 0x048
    some (match s.pwr.sleep with
      | none => w
      | some r =>
        let (ops, wfi, bus, mig) := s.sleepWaits r.target
        setFlag (setFlag (setFlag (setFlag w 4 ops) 5 wfi) 6 bus) 7 mig)
  | 0x068 => some s.domains
  | _ => none

/-- CLOCK (R10, R462). -/
def State.viewClock (s : State) (off : Nat) : Option Word :=
  let fast := s.pwr.tcxo && !s.pwr.cut && s.pwr.depth != .guard
  match off with
  | 0x044 => some (pack
      [ (0, 1, bit s.pwr.tcxo), (1, 1, bit s.pwr.xtal), (2, 1, bit fast), (3, 1, bit fast)
      , (4, 1, bit (fast && s.clock .core != .off)), (5, 1, bit (fast && s.clock .field != .off))
      , (6, 1, bit (fast && s.clock .radio != .off)), (7, 1, bit (s.time.src == .tcxo))
      , (8, 1, 1), (9, 1, bit (!s.pwr.cut && s.clock .crib != .off)) ])
  | _ => none

/-- SERVICE (R538, R540). -/
def State.viewService (s : State) (m : Master) (off : Nat) : Option Word :=
  let e := s.svc.ring.getD (s.sel m 0x3C 0x060 4) {}
  match off with
  | 0x040 => some (hiWord (s.now - s.time.steps))
  | 0x04C =>
    let w := s.svc.normal
    some (setFlag (setFlag (setField (s.rg 0x3C 0x04C) 15 0
      (if w.running then min 0xFFFF (wholeMs (w.remaining s.now)) else 0)) 24 w.running) 25 s.svc.unconf.running)
  | 0x064 => some (pack [(0, 8, e.fcode.toNat), (8, 8, e.page.toNat), (16, 8, e.detail.toNat), (24, 8, e.count.toNat)])
  | 0x068 => some (loWord e.stamp)
  | 0x06C => some (hiWord e.stamp)
  | 0x070 => some (wordOf 32 (fun p => (s.port p).quarantined))
  | 0x074 => some (wordOf 32 (fun p => (s.port (32 + p)).quarantined))
  | _ => none

/-! ### CORE and INTC -/

/-- The core's clock at an operating point, MHz (R458). -/
def coreMhz (p : Nat) : Nat := if p = 0 then 100 else if p = 1 then 250 else 400

/-- CORE (R444). -/
def State.viewCore (s : State) (off : Nat) : Option Word :=
  match off with
  | 0x044 => some (setFlag (s.rg 0x38 0x044) 0 (s.core.released && !s.unconfirmed))
  | 0x050 =>
    let p := field (s.rg 0x06 0x040) 1 0
    some (pack [(0, 2, p), (8, 12, coreMhz p)])
  | 0x074 => some (pack [(0, 1, bit s.core.wfi), (1, 1, bit s.core.machine), (2, 1, bit s.core.halted)])
  | _ => none

/-- INTC (R445). -/
def State.viewIntc (s : State) (off : Nat) : Option Word :=
  let bits (base : Nat) (p : Nat → Bool) : Word := wordOf 32 (fun i => p (8 * (off - base) + i))
  if off = 0x040 then
    some (pack [ (0, 4, s.topPrio), (4, 4, s.intc.stack.length), (8, 1, bit s.intc.frozen), (12, 4, s.effective) ])
  else if off = 0x060 then some (pack [(0, 1, bit (s.hirqLow 1)), (1, 1, bit (s.hirqLow 2))])
  else if 0x080 ≤ off && off < 0x098 then some (bits 0x080 s.pend)
  else if 0x0C0 ≤ off && off < 0x0D8 then some (bits 0x0C0 s.srcActive)
  else if 0x0E0 ≤ off && off < 0x0F8 then some (bits 0x0E0 s.deliverable)
  else if 0x100 ≤ off && off < 0x13C then
    some (match s.intc.stack.reverse[(off - 0x100) / 4]? with
      | some (n, p) => pack [(0, 8, n), (8, 4, p)]
      | none => 0)
  else if 0x140 ≤ off && off < 0x180 then
    let g := (off - 0x140) / 4
    some (setFlag (s.rg 0x09 off) 31 (s.modHolds g))
  else none

/-! ### OPTION -/

/-- OPTION (R306): group C words 4 to 7 always read 0. -/
def State.viewOption (s : State) (m : Master) (off : Nat) : Option Word :=
  let o := s.opt
  let e := o.ring.getD (s.sel m 0x03 0x0B0 5) {}
  match off with
  | 0x0A0 => some (pack [(0, 6, o.remainA), (8, 5, o.remainB), (16, 4, o.remainC)])
  | 0x0A4 => some (if !o.loaded then 0 else pack
      [(0, 2, o.found.toNat), (2, 1, bit o.used), (3, 1, bit o.defaults), (4, 1, bit o.rewrite)])
  | 0x0A8 => some (if o.defaults then 0 else o.current.seq)
  | 0x0AC => some (pack [(0, 16, o.number.toNat), (16, 8, o.lost.toNat)])
  | 0x0B4 => some (pack
      [(0, 4, e.group.toNat), (4, 4, e.master.toNat), (8, 8, e.remain.toNat), (16, 16, e.number.toNat)])
  | 0x0B8 => some (loWord e.stamp)
  | 0x0BC => some (hiWord e.stamp)
  | _ =>
    if 0x040 ≤ off && off < 0x0A0 then
      let k := (off - 0x040) / 4
      some (if k ≥ 20 then 0 else s.optWord k)
    else none

end Sys2Proof.Machine
end

