-- ==== Sys2Proof/Machine/ViewsBlock.lean ====
section
/-!
DEFINITION. How the computed registers of the blocks outside AON and CORE read: SENSE, GRANARY, FLASH, FIELD,
RADIO, HOST and CRIB pages. A register that is not listed reads as it is kept.
-/
namespace Sys2Proof.Machine

/-! ### Sensor pages -/

/-- The converter whose STAT stands at an offset of CONV. -/
def convAt (off : Nat) : Nat := if off < 0x140 then (off - 0x040) / 0x10 else 16 + (off - 0x140) / 0x10

/-- PORTG (R123): PSTAT, VAL, the captures and the stamp. -/
def State.viewPortg (s : State) (page off : Nat) : Option Word :=
  let p := 8 * (page - 0x10) + (off - 0x040) / 0x20
  let x := s.port p
  match (off - 0x040) % 0x20 with
  | 0x04 => if s.modeReg p ≤ 2 then some 0 else none
  | 0x08 => some (s.pstatView p)
  | 0x0C => some (BitVec.ofNat 32 (s.portVal p).toNat)
  | 0x10 => some x.period.view
  | 0x14 => some x.width.view
  | 0x18 => some (loWord x.stamp)
  | 0x1C => some (hiWord x.stamp)
  | _ => none

/-- CONV (R124). -/
def State.viewConv (s : State) (off : Nat) : Option Word :=
  if 0x040 ≤ off && off < 0x180 && (off - 0x040) % 0x10 == 8 then some (s.convStat (convAt off)) else none

/-- SENSBUS (R125, R502). -/
def State.viewSensbus (s : State) (off : Nat) : Option Word :=
  if off < 0x0C0 then (if (off - 0x040) % 0x20 == 0x08 then some (s.twcStat ((off - 0x040) / 0x20)) else none)
  else if off < 0x140 then (if (off - 0x0C0) % 0x20 == 0x08 then some (s.spcStat (4 + (off - 0x0C0) / 0x20)) else none)
  else if (off - 0x140) % 0x20 == 0x14 then some (s.uartStat (8 + (off - 0x140) / 0x20))
  else none

/-- UTIL: the share of the cycles of the last whole second that issued (R155). -/
def State.utilNow (s : State) : Word := s.rollUtil.rg 0x0A 0x04C

/-- GLEANER (R155). -/
def State.viewGleaner (s : State) (off : Nat) : Option Word :=
  match off with
  | 0x040 => some s.runMap
  | 0x044 => some s.faultMap
  | 0x048 => some s.pendMap
  | 0x04C => some s.utilNow
  | _ => if 0x110 ≤ off && off < 0x500 && (off - 0x110) % 0x40 == 0 then some (s.thrStat ((off - 0x110) / 0x40)) else none

/-- THRESHER (R174). -/
def State.viewThresher (s : State) (off : Nat) : Option Word :=
  match off with
  | 0x048 => some (BitVec.ofNat 32 s.usedRun)
  | 0x04C => some (BitVec.ofNat 32 s.usedGuard)
  | 0x058 => some (BitVec.ofNat 32 s.coefFree)
  | _ =>
    if 0x400 ≤ off then some ((s.lane ((off - 0x400) / 4)).last.signExtend 32)
    else if 0x118 ≤ off && (off - 0x118) % 0x20 == 0 then some (s.laneStat ((off - 0x118) / 0x20))
    else if 0x11C ≤ off && (off - 0x11C) % 0x20 == 0 then some (BitVec.ofNat 32 (s.lane ((off - 0x11C) / 0x20)).cost)
    else none

/-- The rule RSEL names. -/
def State.ruleSel (s : State) : Nat := field (s.rg 0x1A 0x080) 6 0

/-- WINNOW (R221): the rule window shows the rule RSEL names. -/
def State.viewWinnow (s : State) (off : Nat) : Option Word :=
  if 0x070 ≤ off && off < 0x080 then some (s.outView ((off - 0x070) / 4))
  else if off == 0x108 then some s.rstatView
  else if off == 0x10C then some 0
  else if 0x100 ≤ off && off < 0x150 then some ((s.rule s.ruleSel).word ((off - 0x100) / 4))
  else none

/-! ### SHEAF and GRANARY -/

/-- SHEAF (R255). -/
def State.viewSheaf (s : State) (off : Nat) : Option Word :=
  if off == 0x048 then some s.hostmap
  else if 0x104 ≤ off && (off - 0x104) % 0x10 == 0 then some (s.qstat ((off - 0x104) / 0x10))
  else none

/-- QWINn (R256). -/
def State.viewQwin (s : State) (n off : Nat) : Option Word :=
  match off with
  | 0x044 => some (s.peekWord n)
  | 0x04C => some (s.qstat n)
  | _ => none

/-- GRANARY (R278). -/
def State.viewGranary (s : State) (m : Master) (off : Nat) : Option Word :=
  let e := s.gran.ring.getD (s.sel m 0x1C 0x090 5) {}
  let hn := s.sel m 0x1C 0x078 4
  match off with
  | 0x040 => some (BitVec.ofNat 32 s.capacity)
  | 0x044 => some (BitVec.ofNat 32 s.freeFrames)
  | 0x064 => some (match s.region (s.sel m 0x1C 0x060 5) with
    | none => 0
    | some r => pack
      [ (0, 3, r.purpose), (3, 1, 1), (4, 1, bit (r.pin != 0)), (5, 2, r.pin), (7, 6, if r.pin = 3 then r.bank else 0)
      , (16, 10, r.frames.length) ])
  | 0x068 =>
    let l := s.framesOf (s.sel m 0x1C 0x060 5)
    some (pack
      [ (0, 7, (l.filter (fun f => decide (1472 ≤ f))).length)
      , (16, 10, (l.filter (fun f => !s.bankGood (f / 32))).length) ])
  | 0x070 => some (pack [(0, 9, s.ctxHeld 1), (9, 9, s.ctxHeld 2), (18, 9, s.ctxHeld 3)])
  | 0x074 => some (pack [(0, 9, s.ctxService), (9, 3, s.gran.spares)])
  | 0x07C => some (match s.handler hn with
    | none => 0
    | some h => pack
      [(0, 6, h.channel), (6, 4, h.thread), (10, 1, bit h.gform), (11, 1, bit h.cform), (12, 1, 1), (13, 2, h.pin)])
  | 0x080 => some (match s.handler hn with
    | none => 0
    | some h => pack [(0, 12, h.gruns.toNat), (12, 12, h.cruns.toNat), (24, 4, h.merged.toNat), (28, 4, h.lost.toNat)])
  | 0x094 => some e.w0
  | 0x098 => some e.w1
  | 0x09C => some (loWord e.stamp)
  | 0x0A0 => some (hiWord e.stamp)
  | _ => none

/-! ### FLASH -/

/-- FLASH (R305). -/
def State.viewFlash (s : State) (m : Master) (off : Nat) : Option Word :=
  match off with
  | 0x040 => some (match s.flash.run with
    | none => 0
    | some r => pack
      [ (0, 2, r.bank), (2, 1, 1), (3, 1, bit r.erase), (4, 7, r.tag.toNat)
      , (16, 5, if r.erase then 0 else r.count - r.written s.now false) ])
  | 0x064 => some (pack
      [ (0, 4, (s.spareList 0).length), (4, 4, (s.spareList 1).length), (8, 4, (s.spareList 2).length)
      , (16, 9, s.poolList.length) ])
  | 0x074 => some (match s.flash.weak[s.sel m 0x1E 0x070 3]? with
    | none => 0
    | some w => pack [(0, 19, w.codeword), (19, 2, w.cbits), (21, 1, bit w.ue), (31, 1, 1)])
  | 0x07C => some (match s.flash.journal[s.sel m 0x1E 0x078 4]? with
    | none => 0
    | some j => pack [(0, 2, j.bank), (2, 2, j.kind), (4, 14, j.page), (31, 1, 1)])
  | 0x080 => some (BitVec.ofNat 32 s.flash.journal.length)
  | 0x084 => some (s.optWord 17)
  | 0x088 => some (s.optWord 18)
  | 0x098 => some (s.own1 m 0x1E 0x098)
  | _ => none

/-! ### READER and TAGPORT -/

/-- Whether a running transaction is an operation of the READER. -/
def State.readerRuns (s : State) (r : Option ReaderRun) (op : Nat) : Bool :=
  match r with
  | some x => let k := s.slot x.tag.toNat; k.page == 0x22 && k.op == BitVec.ofNat 8 op
  | none => false

/-- READER.STAT (R356). -/
def State.readerStat (s : State) : Word :=
  let h := match s.fld.run with
    | some r => if s.readerRuns s.fld.run 2 then field ((s.slot r.tag.toNat).arg 0) 6 0 else 0
    | none => 0
  pack
    [ (0, 7, (s.fld.sessions.filter (fun e => e.2.isSome)).length), (7, 1, bit s.fld.run.isSome), (8, 7, h)
    , (15, 1, bit (s.readerRuns s.fld.run 3 || s.readerRuns s.fld.paused 3)) ]

/-- A session as SINFO shows it. -/
def Session.info (x : Session) : Word := pack
  [ (0, 2, x.proto.toNat), (2, 1, 1), (3, 1, bit x.l4), (4, 4, match x.cid with | some c => c.toNat | none => 0xF)
  , (8, 8, x.ants.toNat), (16, 3, x.profile.toNat), (19, 1, bit x.useProfile), (20, 2, x.ds.toNat), (22, 2, x.dr.toNat)
  , (24, 4, x.fsci.toNat), (28, 4, x.fwi.toNat) ]

/-- READER (R356): the session SSEL names; without it the registers read 0. -/
def State.viewReader (s : State) (m : Master) (off : Nat) : Option Word :=
  let of (f : Session → Word) : Option Word :=
    some (match s.session (s.sel m 0x22 0x058 6) with | none => 0 | some x => f x)
  match off with
  | 0x048 => some s.readerStat
  | 0x05C => of Session.info
  | 0x060 => of (fun x => BitVec.ofNat 32 (natLE (x.uid.take 4)))
  | 0x064 => of (fun x => BitVec.ofNat 32 (natLE ((x.uid.drop 4).take 4)))
  | 0x068 => of (fun x => pack [(0, 16, natLE ((x.uid.drop 8).take 2)), (16, 4, x.uid.length)])
  | 0x06C => of (fun x => x.atq)
  | 0x070 => of (fun x => x.sres)
  | 0x074 => of (fun x => loWord x.stamp)
  | 0x078 => of (fun x => hiWord x.stamp)
  | 0x07C => of (fun x => x.rssi)
  | _ => none

/-- TAGPORT (R357). -/
def State.viewTagport (s : State) (m : Master) (off : Nat) : Option Word :=
  let h := s.held (s.sel m 0x23 0x044 7)
  match off with
  | 0x040 => some (BitVec.ofNat 32 ((List.range 192).filter (fun t => flag (s.mapWord t 7) 0)).length)
  | 0x048 => some (h.value.signExtend 32)
  | 0x04C => some (pack [(0, 1, bit h.has), (1, 1, bit h.failed), (8, 8, h.code.toNat), (16, 16, h.reads.toNat)])
  | 0x050 => some (loWord h.stamp)
  | 0x054 => some (hiWord h.stamp)
  | _ =>
    if 0x060 ≤ off && off < 0x080 then some (s.mapWord (s.sel m 0x23 0x058 7) ((off - 0x060) / 4)) else none

/-! ### RADIO -/

/-- RFXCVR (R391): the region's rule, and the trim, which follows TIME.RATE under CFG.FTRACK (R360). -/
def State.viewRfxcvr (s : State) (off : Nat) : Option Word :=
  match off with
  | 0x050 => some (match regionRule s.regionCode with
    | none => pack [(0, 8, s.regionCode)]
    | some (_, _, w, p) => pack [(0, 8, s.regionCode), (8, 8, p), (16, 6, w)])
  | 0x054 => some (match regionRule s.regionCode with | none => 0 | some (lo, _, _, _) => BitVec.ofNat 32 lo)
  | 0x058 => some (match regionRule s.regionCode with | none => 0 | some (_, hi, _, _) => BitVec.ofNat 32 hi)
  | 0x060 => some (if flag (s.rg 0x28 0x044) 6 then s.rg 0x07 0x060 else 0)
  | _ => none

/-- MODEM (R369, R392). -/
def State.viewModem (s : State) (off : Nat) : Option Word := if off == 0x044 then some s.sw else none

/-- TIME[47:16] of a stamp, as records carry it (R72). -/
def midWord (t : Stamp) : Word := (t >>> 16).truncate 32

/-- LINK (R421): the stranger STR_SEL names. -/
def State.viewLink (s : State) (m : Master) (off : Nat) : Option Word :=
  let of (f : Stranger → Word) : Option Word :=
    some (match Tab.get (fun _ => none) s.link.strangers (s.sel m 0x2A 0x0A0 3) with | none => 0 | some e => f e)
  match off with
  | 0x068 => some (setFlag (s.rg 0x2A 0x068) 1 (flag (s.optWord 16) 2))
  | 0x0A4 => of (fun e => pack [(0, 16, e.station.toNat), (16, 8, e.count.toNat), (24, 2, e.reason), (31, 1, 1)])
  | 0x0A8 => of (fun e => pack [(0, 16, e.rssi.toNat), (16, 8, e.lqi)])
  | 0x0AC => of (fun e => midWord e.first)
  | 0x0B0 => of (fun e => midWord e.latest)
  | _ => none

/-- A map as P_MAP shows it: generation, rate, valid. -/
def mapField (m : Option BitMap) : Nat :=
  match m with
  | none => 0
  | some b => b.gen % 16 + 16 * (b.rate % 8) + 128

/-- Word w of a map. -/
def mapWordOf (m : Option BitMap) (w : Nat) : Word :=
  match m with
  | none => 0
  | some b => BitVec.ofNat 32 (natLE (((mapBytes b).drop (4 * w)).take 4))

/-- A peer as P_ID shows it. -/
def Peer.ident (p : Peer) (parent : Bool) : Word := pack
  [ (0, 16, p.station.toNat), (16, 1, bit p.legacy), (17, 1, bit p.mgmt), (18, 1, bit p.near), (19, 1, bit p.child)
  , (20, 1, bit parent), (21, 1, bit p.router), (24, 4, p.depth), (31, 1, 1) ]

/-- PEERS (R422): the context PSEL names. -/
def State.viewPeers (s : State) (m : Master) (off : Nat) : Option Word :=
  let n := s.sel m 0x2B 0x068 7
  let of (none_ : Word) (f : Peer → Word) : Option Word := some (match s.peer n with | none => none_ | some p => f p)
  match off with
  | 0x064 => some (match s.peerOf (s.sel m 0x2B 0x060 15) with | none => 0 | some k => pack [(0, 8, k), (8, 1, 1)])
  | 0x06C => of 0x0F000000 (fun p => p.ident (s.link.parent == some n))
  | 0x070 => of 0 (fun p => pack [(0, 6, p.key), (8, 1, bit p.aes256)])
  | 0x074 => of 0 (fun p => p.txctr)
  | 0x078 => of 0 (fun p => p.rxctr)
  | 0x07C => of 0 (fun p => pack [(0, 8, p.lqi), (8, 8, p.linkCost), (16, 16, p.through)])
  | 0x080 => of 0 (fun p => pack
      [ (0, 8, mapField p.map0), (8, 8, mapField p.map1), (16, 8, mapField p.prop), (24, 1, bit p.fallback)
      , (25, 1, bit p.negotiating) ])
  | 0x084 => of 0 (fun p => pack
      [(0, 8, p.caploss.toNat), (8, 8, p.ackfail.toNat), (16, 8, p.mapmiss.toNat), (24, 8, p.replay.toNat)])
  | 0x088 => of 0 (fun p => loWord p.seen)
  | 0x08C => of 0 (fun p => hiWord p.seen)
  | _ =>
    if off < 0x060 then some (wordOf 32 (fun i => (s.peer (8 * (off - 0x040) + i)).isSome))
    else if 0x100 ≤ off && off < 0x124 then of 0 (fun p => mapWordOf p.map0 ((off - 0x100) / 4))
    else if 0x140 ≤ off && off < 0x164 then of 0 (fun p => mapWordOf p.map1 ((off - 0x140) / 4))
    else if 0x180 ≤ off && off < 0x1A4 then of 0 (fun p => mapWordOf p.prop ((off - 0x180) / 4))
    else none

/-! ### HOST, CRIB and FUSE -/

/-- HSPI (R486): CTRL shows DAISY as in effect; STAT counts frames modulo 4. -/
def State.viewHspi (s : State) (off : Nat) : Option Word :=
  match off with
  | 0x040 => some (setFlag (s.rg 0x30 0x040) 4 s.hspi.daisy)
  | 0x04C =>
    let w := s.rg 0x30 0x04C
    some (pack
      [ (0, 2, field (s.rg 0x30 0x054) 1 0), (2, 1, bit s.hspi.lastErr), (3, 1, bit s.hspi.endFlag)
      , (4, 1, bit s.hspi.frame.isSome), (5, 1, field w 5 5), (6, 1, field w 6 6) ])
  | _ => none

/-- HTW (R501). -/
def State.viewHtw (s : State) (off : Nat) : Option Word :=
  match off with
  | 0x044 => some (pack [(0, 7, field (s.optLive 1) 6 0), (8, 1, bit s.htw.busy), (9, 1, bit s.htw.rd)])
  | _ => none

/-- CRIB (R529). -/
def State.viewCrib (s : State) (m : Master) (off : Nat) : Option Word :=
  let c := s.crib
  let k := s.key (s.sel m 0x3A 0x04C 5)
  let used (n : Nat) : Bool := (s.key n).typ != 0
  match off with
  | 0x044 => some (pack
      [ (0, 2, s.lifecycle), (2, 1, bit s.approvedMode), (3, 1, bit (flag (s.rg 0x3A 0x004) 2)), (4, 1, bit c.zeroised)
      , (5, 1, bit c.drbg), (6, 1, bit (c.pend == 2)), (8, 7, ((List.range 64).filter used).length) ])
  | 0x048 => some (s.own1 m 0x3A 0x048)
  | 0x050 => some (pack [(0, 4, k.typ), (4, 8, k.usage.toNat), (12, 1, bit k.persist), (13, 2, k.origin)])
  | 0x054 => some (wordOf 32 used)
  | 0x058 => some (wordOf 32 (fun i => used (32 + i)))
  | 0x078 => some (c.log.getD (s.sel m 0x3A 0x074 4) {}).w0
  | 0x07C => some (loWord (c.log.getD (s.sel m 0x3A 0x074 4) {}).stamp)
  | 0x080 => some (hiWord (c.log.getD (s.sel m 0x3A 0x074 4) {}).stamp)
  | _ => none

/-- Word w of a root hash, word 0 least significant. -/
def rootWord (h : Option (List Byte)) (w : Nat) : Word :=
  match h with
  | none => 0
  | some l => BitVec.ofNat 32 (natBE l / 2 ^ (32 * w))

/-- FUSE (R530). -/
def State.viewFuse (s : State) (off : Nat) : Option Word :=
  let f := s.fuse
  match off with
  | 0x040 => some (pack
      [ (0, 2, s.lifecycle), (8, 1, bit f.debugClosed), (9, 1, bit f.root0.isSome), (10, 1, bit f.root1.isSome)
      , (11, 1, bit f.revoked0), (12, 1, bit f.revoked1), (16, 1, bit f.p), (17, 1, bit f.f), (18, 1, bit f.d) ])
  | 0x044 => some (pack [(0, 6, 32 - s.opt.remainA), (8, 5, 16 - s.opt.remainB), (16, 4, 8 - s.opt.remainC)])
  | _ =>
    if 0x060 ≤ off && off < 0x090 then some (rootWord f.root0 ((off - 0x060) / 4))
    else if 0x090 ≤ off && off < 0x0C0 then some (rootWord f.root1 ((off - 0x090) / 4))
    else none

/-- The computed value of a register, if it has one. -/
def State.viewOf (s : State) (m : Master) (page off : Nat) : Option Word :=
  match pageKind page with
  | 0x00 => s.viewDevice off
  | 0x01 => s.viewOwn m off
  | 0x02 => s.viewOps m off
  | 0x03 => s.viewOption m off
  | 0x04 => s.viewFuse off
  | 0x05 => s.viewPmu off
  | 0x06 => s.viewClock off
  | 0x07 => s.viewTime off
  | 0x08 => s.viewEvent m off
  | 0x09 => s.viewIntc off
  | 0x0A => s.viewGleaner off
  | 0x10 => s.viewPortg page off
  | 0x18 => s.viewConv off
  | 0x19 => s.viewThresher off
  | 0x1A => s.viewWinnow off
  | 0x1B => s.viewSheaf off
  | 0x1C => s.viewGranary m off
  | 0x1E => s.viewFlash m off
  | 0x22 => s.viewReader m off
  | 0x23 => s.viewTagport m off
  | 0x28 => s.viewRfxcvr off
  | 0x29 => s.viewModem off
  | 0x2A => s.viewLink m off
  | 0x2B => s.viewPeers m off
  | 0x30 => s.viewHspi off
  | 0x31 => s.viewHtw off
  | 0x32 => s.viewSensbus off
  | 0x38 => s.viewCore off
  | 0x3A => s.viewCrib m off
  | 0x3C => s.viewService m off
  | 0x50 => s.viewQwin (page - 0x50) off
  | _ => none

/-- A register as a master sees it: computed, its copy of a banked one, or kept; a register that acts on writes
keeps nothing and reads 0. -/
def State.view (s : State) (m : Master) (page off : Nat) : Word :=
  if off < 0x040 then s.headerView page off
  else
    match s.viewOf m page off with
    | some w => w
    | none =>
      match regAt page off with
      | none => 0
      | some d => if d.acc = .act then 0 else if d.bank then s.own1 m page off else s.rg page off

end Sys2Proof.Machine
end

