-- ==== Sys2Proof/Machine/SoftReset.lean ====
section
/-!
DEFINITION. CTL of a page: enabling a block, and the soft reset of one block (R24, R25, R69, R569).
-/
namespace Sys2Proof.Machine

/-! ### The soft reset of one block (R24, R569) -/

/-- The eight ports of a PORTG block return to their start: conversions and transfers on them end, a DOUT level is
held; a PORT_TEST of one of them ends with ABORTED (R59, R89, R120, R569; log entry 515). -/
def State.softPorts (s : State) (page : Nat) : State :=
  (List.range 8).foldl
    (fun acc i =>
      let p := 8 * (page - 0x10) + i
      let x := acc.port p
      let h := if acc.bankUp p then x.drive else none
      let a1 := (((acc.endPortTest p .aborted).disconnect p).setRg page (portOff p 0) (resetOf (ra page (portOff p 0)))).setRg page (portOff p 4) 0
      let a2 := (a1.putPort p { a1.port p with stage := .service }).applyPort p
      (a2.putPort p { level := x.level, held := h, drive := h }).portLines p) s

/-- CONV starts afresh: conversions end with NOT_READY, a port test leaves its port, which waits for SETTLE again where
it is quarantined (DESIGN CHOICE, log entry 515). -/
def State.softConv (s : State) : State :=
  let s1 := s.endConvWaits
  let s2 : State := { s1 with sense := { s1.sense with convs := [] } }
  (List.range 64).foldl
    (fun acc p =>
      match (acc.port p).stage with
      | .opTest q => acc.putPort p { acc.port p with stage := if q then .settling (s.after s.settleTime) else .service }
      | _ => acc) s2

/-- SENSBUS starts afresh: a running transfer ends with ABORTED (R500). -/
def State.softBuses (s : State) : State :=
  let s1 := s.endBusWaits
  { s1 with sense := { s1.sense with units := [] } }

/-- GLEANER: STOP with NOW on every thread, THRn_STAT back to its reset value, every FAULTn low; the program store is
kept (R154). -/
def State.softGleaner (s : State) : State :=
  let s1 := (List.range 16).foldl State.stopNow s
  let s2 := (List.range 16).foldl
    (fun acc t => (acc.updThread t (fun h => { h with pc := 0, code := 0, stale := false })).evLevel 0x0A t false) s1
  { s2 with gle := { threads := s2.gle.threads, store := s2.gle.store, parity := s2.gle.parity } }

/-- THRESHER: every lane released, the coefficient store cleared (R173). -/
def State.softThresher (s : State) : State :=
  let s1 := (List.range 24).foldl State.releaseLane s
  { s1 with thr := {} }

/-- READER: sessions and the transaction in progress end (R336, R569). -/
def State.softReader (s : State) : State :=
  let s0 := match s.fld.run with
    | some r => if (s.slot r.tag.toNat).page == 0x23 then s.breakRun .aborted else s.endRun
    | none => s
  let s1 := (List.range 128).foldl
    (fun acc h => match acc.session h with | some x => acc.ctxFree x.ctx | none => acc) s0
  s1.updFld (fun f => { f with sessions := [], run := none, paused := none })

/-- TAGPORT: its transaction in progress ends, its carriers and its transient session with it (R335, R569). -/
def State.softTagport (s : State) : State :=
  let ours (r : ReaderRun) : Bool := (s.slot r.tag.toNat).page == 0x23
  let s1 := s.updFld (fun f => { f with paused := f.paused.filter (fun r => !ours r) })
  match s.fld.run with
  | some r => if ours r then s1.endRun.refreshField else s1
  | none => s1

/-- PEERS: the messages of map negotiations are dropped with their slots; the peers stay (R417, R569). -/
def State.softPeers (s : State) : State :=
  let own (m : Msg) : Bool := match m.kind with | .mapset _ => true | _ => false
  (s.updLink (fun l => { l with
    msgs := l.msgs.filter (fun m => !own m)
    wait := l.wait.filter (fun w => !(l.msgs.any (fun m => own m && m.id == w.id)))
    peers := l.peers.map (fun e => (e.1, e.2.map (fun p => { p with negotiating := false }))) })).refreshLink

/-- LINK: its messages are dropped; a map negotiation that goes out in one of them ends with ABORTED (R59, R417, R569). -/
def State.softLink (s : State) : State :=
  let s1 := s.link.msgs.foldl
    (fun acc m => match m.kind with | .mapset t => acc.setResult t.toNat .aborted | _ => acc) s
  (s1.resetRadio false).updPhy (fun _ => s.phy)

/-- The block state of a page returns to its start, but for what its chapter keeps (R89, R173, R219, R254, R275,
R305, R328, R417, R500, R569). -/
def State.softBlock (s : State) (page : Nat) : State :=
  if 0x10 ≤ page && page ≤ 0x17 then s.softPorts page
  else
    match page with
    | 0x09 => { s with intc := {} }
    | 0x0A => s.softGleaner
    | 0x18 => s.softConv
    | 0x19 => s.softThresher
    | 0x1A => s.winClear
    | 0x1B => s.sheafReset
    | 0x1C => { s with gran := { s.gran with copy := none, jobs := [], test := none } }
    | 0x1D => { s with gran := { s.gran with test := none, pass := none, passFailed := false } }
    | 0x1E => s.resetFlash
    | 0x20 => s.updFld (fun f => { f with coex := none, coming := none, supervised := false, passWait := 0, band := 0 })
    | 0x21 => s.updFld (fun f => { f with ants := keepBaselines f.ants, supervised := false, sampled := 0 })
    | 0x22 => s.softReader
    | 0x28 => s.abandonRx.updPhy (fun p => { p with request := none, tx := none, inForce := none, train := none })
    | 0x29 => s.abandonRx.updPhy (fun p => { p with measure := none })
    | 0x23 => s.softTagport
    | 0x2A => s.softLink
    | 0x2B => s.softPeers
    | 0x30 =>
      let s1 := match s.hspi.frame with | some f => f.undo.foldl State.giveBack s | none => s
      { s1 with hspi := {} }
    | 0x31 => { s.htw.undo.foldl State.giveBack s with htw := {} }
    | 0x32 => s.softBuses
    | 0x38 => { s.resetCore with intc := s.intc }
    | _ => s

/-- Whether a register keeps its value across its page's soft reset (R24, R154, R262, R275, R569). -/
def softKeeps (page off : Nat) : Bool :=
  decide (off < 0x040) || (keptReg false page off && page != 0x1B) || (page == 0x0A && decide (0x800 ≤ off))
  || (page == 0x1B && (off == 0x040 || off == 0x044))

/-- CTL.SRST (R24, R569): slots aimed at the block end, READY falls stamped, the block and its registers return to
their start, and the block starts again. -/
def State.softReset (s : State) (page : Nat) : State :=
  let s1 := (s.abortSlots [page]).softBlock page
  let gone (a : Nat) : Bool := a / 0x1000 == page && !softKeeps page (a % 0x1000)
  let s2 : State := { s1 with
    regs := Tab.keep (fun a => !gone a) s1.regs
    bank := Tab.keep (fun k => !gone (k % 0x100000)) s1.bank
    shadow := s1.shadow.filter (fun e =>
      !(e.1 % 0x100000 / 0x1000 == page && (match e.2 with | some x => !softKeeps page x.off | none => true)))
    lows := Tab.keep (fun k => !gone (k % 0x100000)) s1.lows }
  let s3 := (s2.setReadyBits page (fun w => setField w 2 0 0)).setRg page 0x00C 0
  let s4 := (((s3.updRg page 0x008 (fun w => setFlag w 1 true)).settle s page).beginStarts [page] true).refreshPower
  if page = 0x18 then s4.refreshWinnow else s4

/-! ### CTL (R24, R25) -/

/-- Whether LINK may be enabled (R421). -/
def State.linkMayEn (s : State) : Bool :=
  let cfg := s.rg 0x2A 0x040
  s.station != 0 && s.station != 0xFFFF && s.dfreq != 0 && decide (field cfg 10 8 < field cfg 7 4)
  && (!flag cfg 1 || field (s.rg 0x2A 0x06C) 5 0 != 0)

/-- What follows a change of CTL.EN (R154, R173, R215, R489). -/
def State.enChanged (s : State) (page : Nat) (en : Bool) : State :=
  match page with
  | 0x0A => if en then s.takeAllPending else s
  | 0x19 => s.thresherEn en
  | 0x1A => if en then s.restartAll else s
  | 0x2A => if en then s.updLink (fun l => { l with heard := false }) else s
  | 0x31 => if en then s else { s.htw.undo.foldl State.giveBack s with htw := { s.htw with busy := false, undo := [], part := [] } }
  | _ => s

/-- A write of CTL that has reached the register. -/
def ctlEffect (page : Nat) (v : Word) (s : State) : State × Code :=
  if fixedCtl page then
    if flag v 0 || flag v 1 then (s, .arg)
    else (if flag v 2 then s.setRg page 0x018 0 else s, .done)
  else
    let old := flag (s.rg page 0x008) 0
    let en := flag v 0
    if page = 0x2A && en && !old && !s.linkMayEn then (s, .arg)
    else
      let s1 := if flag v 2 then s.setRg page 0x018 0 else s
      let s2 := s1.updRg page 0x008 (fun w => setFlag w 0 en)
      let s3 := if en != old then s2.enChanged page en else s2
      (if flag v 1 then s3.softReset page else s3, .done)

end Sys2Proof.Machine
end

