-- ==== Sys2Proof/Machine/Bus.lean ====
section
/-!
DEFINITION. An access to any register by any master: which effect a write has, what a read answers and does, the
shadows of 64-bit values (R34, R109), and the rows that are plain register accesses.
-/
namespace Sys2Proof.Machine

/-! ### 64-bit values (R34, R109) -/

/-- The low word a master has written and not yet completed. -/
def State.lowOf (s : State) (m : Master) (a : Nat) : Option Word := Tab.get (fun _ => none) s.lows (bankKey m a)

/-- A master's held low word set or taken: each master holds one for each value (DESIGN CHOICE, log entry 204). -/
def State.setLow (s : State) (m : Master) (a : Nat) (w : Option Word) : State :=
  { s with lows := Tab.set (fun _ => none) s.lows (bankKey m a) w }

/-- Which half of a 64-bit value stands at an offset: 1 low, 2 high, 0 neither. -/
def pairOf (page off : Nat) : Nat := match regAt page off with | some d => d.pair | none => 0

/-- Reading the low word copies the high word into the master's shadow in the page (R34). -/
def lowReadEffect (m : Master) (page off : Nat) (s : State) : State × Word × Code :=
  let (s1, v) := s.lowRead m page off (s.view m page off) (s.view m page (off + 4))
  (s1, v, .done)

/-- Reading the high word takes the shadow, or the live word with the shadow empty (R34). -/
def highReadEffect (m : Master) (page off : Nat) (s : State) : State × Word × Code :=
  let (s1, v) := s.highRead m page off (s.view m page off)
  (s1, v, .done)

/-- Whether ALARMn is armed, so that its registers refuse writes (R186). -/
def State.alarmArmed (s : State) (off : Nat) : Bool := flag (s.rg 0x07 0x0A0) ((off - 0x080) / 8)

/-- Writing the low word of a writable 64-bit value holds it (R34). -/
def lowWriteEffect (m : Master) (page off : Nat) (v : Word) (s : State) : State × Code :=
  match regAt page off with
  | some d =>
    if d.acc = .ro then (s, .done)
    else if s.alarmArmed off then (s, .state)
    else (s.setLow m (ra page off) (some v), .done)
  | none => (s, .arg)

/-- Writing the high word updates both halves, or the high word alone with no held low word (R34). -/
def highWriteEffect (m : Master) (page off : Nat) (v : Word) (s : State) : State × Code :=
  match regAt page off with
  | some d =>
    if d.acc = .ro then (s, .done)
    else if s.alarmArmed off then (s, .state)
    else
      match s.lowOf m (ra page (off - 4)) with
      | some lo => (((s.setLow m (ra page (off - 4)) none).setRg page (off - 4) lo).setRg page off v, .done)
      | none => (s.setRg page off v, .done)
  | none => (s, .arg)

/-! ### Writes -/

/-- A plain write followed by what else changes with it. -/
def thenDo (f : State → State) (x : State × Code) : State × Code := if x.2 = .done then (f x.1, .done) else x

/-- A W1C field beside fields a write does not reach. -/
def clearBits (page off mask : Nat) (v : Word) (s : State) : State × Code :=
  (s.updRg page off (fun w => w &&& ~~~(v &&& BitVec.ofNat 32 mask)), .done)

/-- A sensor page's write (R123, R124, R125, R502). -/
def senseWrite (m : Master) (page off : Nat) (v : Word) (s : State) : State × Code :=
  let plain := s.plainWrite m page off v
  if page ≤ 0x17 then
    let p := 8 * (page - 0x10) + (off - 0x040) / 0x20
    match (off - 0x040) % 0x20 with
    | 0 => pcfgEffect p v s
    | 4 => auxEffect p v s
    | _ => plain
  else if page = 0x18 then
    if off < 0x180 then
      match (off - 0x040) % 0x10 with
      | 0 => xbarEffect (convAt off) v s
      | 4 => convCfgEffect (convAt off) v s
      | _ => plain
    else if off < 0x190 then
      let n := (off - 0x180) / 4
      let s1 := s.updRg 0x18 off (fun w => setField w 2 0 (field v 2 0))
      (if field v 2 0 = 0 then s1.setCompl n false else s1, .done)
    else if off = 0x190 then
      let one (n : Nat) (t : State) : State :=
        if flag v n then t else (t.updRg 0x18 0x190 (fun w => setFlag w (2 + n) false)).evLevel 0x18 (24 + n) false
      (one 0 (one 1 (s.updRg 0x18 0x190 (fun w => setField w 1 0 (field v 1 0)))), .done)
    else if off = 0x194 then thenDo (fun t => (List.range 64).foldl State.portLines t) plain
    else plain
  else if off < 0x0C0 && (off - 0x040) % 0x20 < 8 then twcCfgEffect ((off - 0x040) / 0x20) off v s
  else plain

/-- A write to GLEANER, THRESHER, WINNOW (R155, R174, R221). -/
def streamWrite (m : Master) (page off : Nat) (v : Word) (s : State) : State × Code :=
  let plain := s.plainWrite m page off v
  match page with
  | 0x0A =>
    if 0x100 ≤ off && off < 0x500 && !(0x10 ≤ off % 0x40 && off % 0x40 < 0x20) then thrRegEffect ((off - 0x100) / 0x40) off v s else plain
  | 0x19 =>
    if off = 0x054 then coefWriteEffect v s
    else if 0x100 ≤ off && off < 0x400 then
      match off % 0x20 with
      | 0x04 => laneCicEffect off v s
      | 0x14 => laneRateEffect ((off - 0x100) / 0x20) v s
      | 0x18 => laneStatEffect ((off - 0x100) / 0x20) v s
      | _ => plain
    else plain
  | _ =>
    if off = 0x040 then thenDo State.refreshWinnow plain
    else if 0x060 ≤ off && off < 0x070 then winEnEffect ((off - 0x060) / 4) v s
    else if 0x100 ≤ off && off < 0x150 then ruleWordEffect ((off - 0x100) / 4) v s
    else plain

/-- A write to TIME or EVENT (R194, R237). -/
def fabricWrite (m : Master) (page off : Nat) (v : Word) (s : State) : State × Code :=
  let plain := s.plainWrite m page off v
  if page = 0x07 then
    match off with
    | 0x04C => ncfgEffect v s
    | 0x0A0 => alarmCtlEffect v s
    | _ => plain
  else if off = 0x040 then flagEffect m 0 v s
  else if off = 0x044 then flagEffect m 1 v s
  else if off = 0x048 then clearBits 0x08 0x048 0x3 v s
  else if off = 0x054 then swgenEffect v s
  else if 0x080 ≤ off && off < 0x100 then tapEffect ((off - 0x080) / 4) v s
  else if 0x100 ≤ off && off < 0x500 && off % 0x10 < 0xC then
    chEffect m ((off - 0x100) / 0x10) (off % 0x10 / 4) v s
  else plain

/-- A write to FIELD, ANTENNA, RFXCVR, MODEM or LINK (R331, R332, R391, R392, R421). -/
def radioWrite (m : Master) (page off : Nat) (v : Word) (s : State) : State × Code :=
  let plain := s.plainWrite m page off v
  match page with
  | 0x20 =>
    match off with
    | 0x058 => lpcdCfgEffect v s
    | 0x060 => lpcdStatEffect v s
    | _ =>
      if 0x080 ≤ off && off < 0x0A0 then shapeEffect ((off - 0x080) / 4) v s
      else thenDo State.refreshField plain
  | 0x21 =>
    if off < 0x140 then
      let n := (off - 0x040) / 0x20
      match (off - 0x040) % 0x20 with
      | 0 => antCfgEffect n v s
      | 8 => antTuneEffect n v s
      | _ => plain
    else if 0x200 ≤ off && off < 0x300 then
      if s.hasField then thenDo State.refreshField plain else (s, .done)
    else plain
  | 0x28 =>
    match off with
    | 0x040 => freqEffect v s
    | 0x044 => rfCfgEffect v s
    | 0x048 => txpwrEffect v s
    | _ => if (0x070 ≤ off && off ≤ 0x080) || 0x200 ≤ off then shapeRegEffect off v s else plain
  | 0x29 => if off = 0x040 then rxcfgModemEffect v s else plain
  | _ =>
    match off with
    | 0x05C => rxcfgEffect v s
    | 0x060 => rxfreeEffect v s
    | _ => if s.linkEn && (off ≤ 0x04C || off == 0x06C) then (s, .state) else plain

/-- A write to PMU, CLOCK, INTC, CORE or SERVICE (R444, R445, R461, R462, R540). -/
def coreWrite (m : Master) (page off : Nat) (v : Word) (s : State) : State × Code :=
  let plain := s.plainWrite m page off v
  match page with
  | 0x05 =>
    match off with
    | 0x044 => sleepEffect v s
    | 0x048 => clearBits 0x05 0x048 0x8 v s
    | 0x060 => vcoreEffect v s
    | 0x118 => islRstEffect m v s
    | 0x11C => sysRstEffect m v s
    | _ => plain
  | 0x06 => if off = 0x040 then coreOppEffect v s else plain
  | 0x09 =>
    if off = 0x048 then intcClaimEffect m v s
    else if off = 0x04C then intcCompleteEffect v s
    else if off = 0x050 then unfreezeEffect v s
    else if off = 0x064 then swiEffect v s
    else if 0x0A0 ≤ off && off < 0x0B8 then intcEnEffect ((off - 0x0A0) / 4) v s
    else if 0x140 ≤ off && off < 0x180 then modEffect ((off - 0x140) / 4) v s
    else if 0x200 ≤ off then srccfgEffect ((off - 0x200) / 4) v s
    else plain
  | 0x38 =>
    match off with
    | 0x044 => confirmEffect v s
    | 0x070 => nmiVecEffect v s
    | _ => plain
  | _ =>
    match off with
    | 0x044 => wdtCfgEffect v s
    | 0x048 => wdtKickEffect m v s
    | 0x050 => thenDo State.syncWdt plain
    | 0x058 => thenDo State.refreshService (clearBits 0x3C 0x058 0x1FF v s)
    | _ => plain

/-- A write of HSPI.CTRL that has reached the register: CLKDIR is refused in the cases of R477. -/
def hspiCtrlEffect (m : Master) (v : Word) (s : State) : State × Code :=
  let q := field (s.rg 0x30 0x048) 4 0
  if flag v 0 && (s.hspi.daisy || m == .hspi || !qEn (s.qcfg q) || qCons (s.qcfg q) != 1) then (s, .state)
  else s.plainWrite m 0x30 0x040 v

/-- The effect of a write that has reached a block register. -/
def blockWrite (m : Master) (page off : Nat) (v : Word) (s : State) : State × Code :=
  let plain := s.plainWrite m page off v
  match pageKind page with
  | 0x01 =>
    match off with
    | 0x04C => claimEffect m v s
    | 0x050 => leaseEffect m v s
    | 0x058 => handoverEffect m v s
    | 0x05C => acceptEffect m v s
    | 0x060 => releaseEffect m v s
    | _ => plain
  | 0x02 =>
    match off with
    | 0x060 => doorbellEffect m v s
    | 0x068 => cancelEffect v s
    | _ => plain
  | 0x05 => coreWrite m page off v s
  | 0x06 => coreWrite m page off v s
  | 0x07 => fabricWrite m page off v s
  | 0x08 => fabricWrite m page off v s
  | 0x09 => coreWrite m page off v s
  | 0x0A => streamWrite m page off v s
  | 0x10 => senseWrite m page off v s
  | 0x18 => senseWrite m page off v s
  | 0x19 => streamWrite m page off v s
  | 0x1A => streamWrite m page off v s
  | 0x1B => if 0x100 ≤ off && off % 0x10 = 0 then qcfgEffect ((off - 0x100) / 0x10) v s else plain
  | 0x1C =>
    match off with
    | 0x06C => ctxResEffect v s
    | 0x084 => hraiseEffect v s
    | _ => plain
  | 0x1E =>
    match off with
    | 0x048 => thenDo State.refreshFlash plain
    | 0x04C => logcfgEffect v s
    | 0x054 => logctlEffect v s
    | _ => plain
  | 0x20 => radioWrite m page off v s
  | 0x21 => radioWrite m page off v s
  | 0x28 => radioWrite m page off v s
  | 0x29 => radioWrite m page off v s
  | 0x2A => radioWrite m page off v s
  | 0x30 => if off = 0x040 then hspiCtrlEffect m v s else plain
  | 0x32 => senseWrite m page off v s
  | 0x38 => coreWrite m page off v s
  | 0x3A =>
    match off with
    | 0x05C => tamperCfgEffect v s
    | 0x060 => clearBits 0x3A 0x060 0xF v s
    | _ => plain
  | 0x3C => coreWrite m page off v s
  | 0x40 =>
    let box := page - 0x40
    match off with
    | 0x084 => postEffect box 0 16 v s
    | 0x088 => takeEffect box 0 v s
    | 0x08C => postEffect box 1 24 v s
    | 0x090 => takeEffect box 1 v s
    | _ => if off = 0x080 then plain else mboxWordEffect box off v s
  | 0x50 => if off = 0x048 then pushEffect m (page - 0x50) v s else plain
  | _ => plain

/-- The effect of a write that has reached a register: the header, a half of a 64-bit value, or a block register. -/
def regWrite (m : Master) (page off : Nat) (v : Word) (s : State) : State × Code :=
  if off = 0x008 then ctlEffect page v s
  else if off = 0x010 then evflgEffect page v s
  else if off = 0x014 then evenEffect page v s
  else if off = 0x01C then accessEffect page v s
  else if off < 0x040 then s.plainWrite m page off v
  else if pairOf page off = 1 then lowWriteEffect m page off v s
  else if pairOf page off = 2 then highWriteEffect m page off v s
  else blockWrite m page off v s

/-- A write by a master to any address (R2, R13). -/
def State.busWrite (s : State) (m : Master) (page off : Nat) (v : Word) : State :=
  if page ≥ 0x80 then s.windowWrite m page off v else s.write m page off v (regWrite m page off v)

/-! ### Reads -/

/-- The unit whose RXD stands at an offset of SENSBUS, if one does. -/
def rxdAt (off : Nat) : Option Nat := (List.range 12).find? (fun u => rxdOff u == off)

/-- TIME.XTAL_PPB: a read finds what the measurement gives now (R192). -/
def xtalReadEffect (s : State) : State × Word × Code :=
  let s1 := s.measureXtal
  (s1, s1.rg 0x07 0x064, .done)

/-- PORTG VAL: its stamp goes to the reading master's shadow in the page, both words (R109). -/
def valReadEffect (m : Master) (page off : Nat) (s : State) : State × Word × Code :=
  let lo := off + 0xC
  (s.setShadow m page (some { off := lo, low := some (s.view m page lo), high := s.view m page (lo + 4) }),
    s.view m page off, .done)

/-- What a read that has reached a register answers and does. -/
def regRead (m : Master) (page off : Nat) (s : State) : State × Word × Code :=
  let kind := pageKind page
  if pairOf page off = 1 then lowReadEffect m page off s
  else if pairOf page off = 2 then highReadEffect m page off s
  else if kind = 0x50 && off = 0x040 then popEffect m (page - 0x50) s
  else if kind = 0x21 && 0x040 ≤ off && off < 0x140 && (off % 0x20 = 0x4 || off % 0x20 = 0xC) then
    let t := s.sampleAnt ((off - 0x040) / 0x20)
    (t, t.view m page off, .done)
  else if kind = 0x28 && off = 0x05C then (s.sampleRssi, s.sampleRssi.view m page off, .done)
  else if kind = 0x50 && off = 0x044 then peekEffect (page - 0x50) s
  else if kind = 0x0A && off = 0x054 then pdataEffect s
  else if kind = 0x19 && off = 0x054 then coefReadEffect s
  else if kind = 0x07 && off = 0x064 then xtalReadEffect s
  else if kind = 0x10 && 0x040 ≤ off && (off - 0x040) % 0x20 = 0xC then valReadEffect m page off s
  else
    match (if kind = 0x32 then rxdAt off else none) with
    | some u => rxdEffect u s
    | none => (s, s.view m page off, .done)

/-- A read by a master of any address; of the memory window without bit errors (R2, R13, R261). -/
def State.busRead (s : State) (m : Master) (page off : Nat) : State :=
  if page ≥ 0x80 then s.windowRead m page off 0 else s.read m page off (regRead m page off)

/-! ### Rows -/

/-- REGISTER_WRITE (R13). -/
def execRegisterWrite (m : Master) (page : BitVec 8) (word : BitVec 10) (v : Word) (s : State) :
    Host.Outcome State Fault Refusal :=
  .next (s.busWrite m page.toNat (4 * word.toNat) v)

/-- REGISTER_READ (R13). -/
def execRegisterRead (m : Master) (page : BitVec 8) (word : BitVec 10) (s : State) :
    Host.Outcome State Fault Refusal :=
  .next (s.busRead m page.toNat (4 * word.toNat))

/-- AON_PROXY_ACCESS (R570): an access to a page that AON answers for; where the island can take it, the access
itself. -/
def execAonProxyAccess (m : Master) (page : BitVec 8) (word : BitVec 10) (v : Option Word) (s : State) :
    Host.Outcome State Fault Refusal :=
    .next
      (match v with
       | some v => s.busWrite m page.toNat (4 * word.toNat) v
       | none => s.busRead m page.toNat (4 * word.toNat))

/-- LOW_WORD_READ (R34). -/
def execLowWordRead (m : Master) (page : BitVec 8) (word : BitVec 10) (s : State) :
    Host.Outcome State Fault Refusal :=
  .next (s.busRead m page.toNat (4 * word.toNat))

/-- HIGH_WORD_READ (R34). -/
def execHighWordRead (m : Master) (page : BitVec 8) (word : BitVec 10) (s : State) :
    Host.Outcome State Fault Refusal :=
  .next (s.busRead m page.toNat (4 * word.toNat))

/-- LOW_WORD_WRITE (R34). -/
def execLowWordWrite (m : Master) (page : BitVec 8) (word : BitVec 10) (v : Word) (s : State) :
    Host.Outcome State Fault Refusal :=
  .next (s.busWrite m page.toNat (4 * word.toNat) v)

/-- HIGH_WORD_WRITE (R34). -/
def execHighWordWrite (m : Master) (page : BitVec 8) (word : BitVec 10) (v : Word) (s : State) :
    Host.Outcome State Fault Refusal :=
  .next (s.busWrite m page.toNat (4 * word.toNat) v)

/-- SRST (R24, R569): a write of CTL with SRST at 1 and EN as it stands. A memory window page has no CTL. -/
def execSrst (m : Master) (page : BitVec 8) (s : State) : Host.Outcome State Fault Refusal :=
  let p := page.toNat
  if p ≥ 0x80 then .fault .illFormed
  else
    let v : Word := setFlag (if fixedCtl p then 0 else s.rg p 0x008 &&& 1) 1 true
    .next (s.write m p 0x008 v (ctlEffect p v))

/-- LINK_CTL_WRITE (R421). -/
def execLinkCtlWrite (m : Master) (v : Word) (s : State) : Host.Outcome State Fault Refusal :=
  .next (s.write m 0x2A 0x008 v (ctlEffect 0x2A v))

end Sys2Proof.Machine
end

