-- ==== Sys2Proof/Machine/HostPort.lean ====
section
/-!
DEFINITION. The host serial port (frames, device-clocked streaming, the daisy chain) and the host two-wire port
(R464 to R486, R489 to R493, R499).
-/
namespace Sys2Proof.Machine

/-! ### A burst's words (R31, R32) -/

/-- A page's last implemented register. -/
def lastReg (page : Nat) : Nat :=
  (blockRegs (pageKind page)).foldl (fun m d => max m (d.off + (d.count - 1) * d.stride)) 0x03C

/-- Whether an address is a QWINn.POP, at which a burst does not advance. -/
def isPop (a : Nat) : Bool := decide (0x50 ≤ a / 0x1000) && decide (a / 0x1000 ≤ 0x6F) && a % 0x1000 == 0x040

/-- The address of word n of a burst: held at 0xFFC of its page. -/
def burstAddr (a n : Nat) : Nat := if isPop a then a else a / 0x1000 * 0x1000 + min 0xFFC (a % 0x1000 + 4 * n)

/-- Whether word n of a burst from address a lies past its page's last implemented register (R31). One word by itself
is no burst (R30), and an unassigned page has no registers to pass (R20). Such a word is judged before R28 and R570
(DESIGN CHOICE, log entry 219). -/
def State.burstPast (s : State) (many : Bool) (a n : Nat) : Bool :=
  !isPop a && s.assigned (a / 0x1000)
  && (decide (a % 0x1000 + 4 * n > 0xFFC)
      || burstTail (a / 0x1000) (a % 0x1000)
      || (decide (a / 0x1000 < 0x80) && many && decide (a % 0x1000 + 4 * n > lastReg (a / 0x1000))))

/-- A master's last completed access. -/
def State.respOf (s : State) (m : Master) : Resp := Tab.get (fun _ => {}) s.resp (Master.id m)

/-- A read of one address by a host port: the state after, the value, the code. -/
def State.portRead (s : State) (m : Master) (a : Nat) : State × Word × Code :=
  let s1 := s.busRead m (a / 0x1000) (a % 0x1000)
  (s1, (s1.respOf m).value, (s1.respOf m).code)

/-- A write of one address by a host port. -/
def State.portWrite (s : State) (m : Master) (a : Nat) (v : Word) : State × Code :=
  let s1 := s.busWrite m (a / 0x1000) (a % 0x1000) v
  (s1, (s1.respOf m).code)

/-- What a read that has been carried out gives back if its word is not taken (R473). -/
def State.undoOf (s : State) (m : Master) (a : Nat) : List Undo :=
  let page := a / 0x1000
  let off := a % 0x1000
  let shadow : Undo := .shadow (bankKey m (ra page 0)) (s.shadowOf m page)
  if isPop a then
    match (s.queue (page - 0x50)).items with
    | e :: _ => [.item (page - 0x50) e]
    | [] => []
  else if pairOf page off != 0 || (pageKind page = 0x10 && 0x040 ≤ off && (off - 0x040) % 0x20 = 0xC) then [shadow]
  else if (page = 0x0A || page = 0x19) && off = 0x054 then [.addr (ra page 0x050) (s.rg page 0x050)]
  else if page = 0x32 then
    match rxdAt off with
    | some u => match (s.unit u).rxd with | b :: _ => [.rxd u b] | [] => []
    | none => []
  else []

/-- Four bytes of a word, most significant first. -/
def wordBytes (w : Word) : List Byte := bytesBE 4 w.toNat

/-- A fetched word that is not taken: its read's effect, unless it is refused, what gives it back, and its bytes. -/
def State.prefetch (s : State) (m : Master) (a : Nat) : State × List Undo × List Byte :=
  let (s1, v, c) := s.portRead m a
  if c = .done then (s1, s.undoOf m a, wordBytes v) else (s, [], wordBytes v)

/-- A run of words fetched and not taken: what they took, the latest first, and their bytes. -/
def State.prefetchRun (s : State) (m : Master) (many : Bool) (a : Nat) : List Nat → State × List Undo × List Byte
  | [] => (s, [], [])
  | n :: rest =>
    if s.burstPast many a n then
      let (s1, us, l) := s.prefetchRun m many a rest
      (s1, us, [0, 0, 0, 0] ++ l)
    else
      let (s1, u, b) := s.prefetch m (burstAddr a n)
      let (s2, us, l) := s1.prefetchRun m many a rest
      (s2, us ++ u, b ++ l)

/-! ### Frames of the host serial port (R467 to R475) -/

/-- A counter byte of FERR. -/
def State.ferr (s : State) (hi lo : Nat) : State := s.updRg 0x30 0x058 (fun w => satField w hi lo 1)

/-- The first refusal of a frame also stands in master 1's MY_RESULT; later ones leave it (R470). -/
def State.keepFirst (s : State) (before : State) (had : Bool) : State :=
  if had then s.setOwn1 .hspi 0x01 0x048 (before.own1 .hspi 0x01 0x048) else s

/-- A refusal entered in a frame. -/
def HFrame.refuse (f : HFrame) (c : Code) (n : Nat) : HFrame :=
  if f.first.isSome then { f with refused := true } else { f with refused := true, first := some (c, n) }

/-- Whether a frame of so many bits is a burst: a second data word has begun (R31). -/
def HFrame.many (f : HFrame) : Bool := decide (72 < f.bits)

/-- The words of a READ or POP frame that are taken: their bytes, and the frame. -/
def State.frameReads (s : State) (f : HFrame) : List Nat → State × HFrame × List Byte
  | [] => (s, f, [])
  | n :: rest =>
    if s.burstPast f.many f.addr n then
      let (s1, f1, l) := s.frameReads { f with passed := true } rest
      (s1, f1, [0, 0, 0, 0] ++ l)
    else
      let (t, v, c) := s.portRead .hspi (burstAddr f.addr n)
      if c = .done then
        let (s1, f1, l) := t.frameReads f rest
        (s1, f1, wordBytes v ++ l)
      else
        let (s1, f1, l) := (t.keepFirst s f.first.isSome).frameReads (f.refuse c n) rest
        (s1, f1, wordBytes v ++ l)

/-- The words of a WRITE frame whose last bit has been sampled; a word to HSPI.CTL or HSPI.CTRL waits for the rise of
select (R474). A word that resets HOST is the last (R91, R93). -/
def State.frameWrites (s : State) (f : HFrame) : List (Nat × Word) → State × HFrame
  | [] => (s, f)
  | (n, v) :: rest =>
    let a := burstAddr f.addr n
    if s.burstPast f.many f.addr n then s.frameWrites { f with passed := true } rest
    else if a == 0x30008 || a == 0x30040 then s.frameWrites { f with late := f.late ++ [(a, v)] } rest
    else
      let (t, c) := s.portWrite .hspi a v
      if !t.ready 0x30 then (t, f)
      else if c = .done then t.frameWrites f rest
      else (t.keepFirst s f.first.isSome).frameWrites (f.refuse c n) rest

/-- A frame opened, its bytes shifted out so far. -/
def State.openFrameOf (s : State) (f : HFrame) (out : List Byte) : State :=
  { s with hspi := { s.hspi with frame := some f, out := out.take (f.bits / 8) } }

/-- The status byte of the frame that begins. -/
def State.frameByte (s : State) : Byte := s.hspiByte s.hspi.endFlag

/-- Whether the port takes host-driven frames: READY, enabled, its balls supplied, not the clock source itself (R77, R83,
R466, R477, R544). -/
def State.framesOn (s : State) : Bool :=
  !s.dead && s.ready 0x30 && s.pwr.vioA && flag (s.rg 0x30 0x008) 0 && !flag (s.rg 0x30 0x040) 0

/-- A frame begins: without effect when the port takes none, discarded in GUARD, else as its command says (R16, R83,
R466, R476). -/
def State.beginFrame (s : State) (cmd addr bits : Nat) (run : State → State) : State :=
  if !s.dead && !s.ready 0x30 && s.pwr.vioA then { s with hspi := { s.hspi with out := List.replicate (bits / 8) 0 } }
  else if !s.framesOn || s.hspi.daisy || s.hspi.frame.isSome then s
  else if bits < 8 then s.openFrameOf { cmd := cmd, addr := addr, bits := bits } []
  else if s.pwr.depth == .guard then
    let f : HFrame := { cmd := cmd, addr := addr, bits := bits }
    (((s.logMine .hspi 0 0 .notReady).openFrameOf (f.refuse .notReady 0)
      (s.frameByte :: List.replicate (bits / 8) 0))).fireWake 0x11
  else run s

/-- A frame refused whole with ARG (R468). -/
def State.refuseFrame (s : State) (f : HFrame) : State :=
  (s.logMine .hspi (f.addr / 0x1000 % 256) (f.addr % 0x1000) .arg).openFrameOf (f.refuse .arg 0)
    (s.frameByte :: List.replicate (f.bits / 8) 0)

/-- Whether a frame's address is accepted (R468). -/
def addrOk (cmd a : Nat) : Bool := decide (a < 0x100000) && a % 4 == 0 && (cmd != 0x30 || isPop a)

/-- The head of an accepted frame: status, three zero bytes, the echo. -/
def State.frameHead (s : State) (cmd : Nat) : List Byte := [s.frameByte, 0, 0, 0, BitVec.ofNat 8 cmd]

/-- A frame that carries an address: refused once its last address bit has been sampled, or carried out. -/
def State.addressed (s : State) (f : HFrame) (run : State → State) : State :=
  if f.bits < 32 then s.openFrameOf f (s.frameHead f.cmd)
  else if !addrOk f.cmd f.addr then (s.ferr 15 8).refuseFrame f
  else run s

/-- How many words a READ or POP frame takes, and how many it fetches (R472, R473). -/
def wordsTaken (bits : Nat) : Nat := (bits - 40) / 32
def wordsFetched (bits : Nat) : Nat := if bits < 32 then 0 else if bits ≤ 64 then 1 else 2 + (bits - 65) / 32

/-- A READ or POP frame. -/
def State.readFrame (s : State) (cmd addr bits : Nat) : State :=
  s.beginFrame cmd addr bits (fun s =>
    s.addressed { cmd := cmd, addr := addr, bits := bits } (fun s =>
      let head := s.frameHead cmd
      let (s1, f1, l) := s.frameReads { cmd := cmd, addr := addr, bits := bits } (List.range (wordsTaken bits))
      let t := wordsTaken bits
      let (s2, us, b) := s1.prefetchRun .hspi f1.many addr ((List.range (wordsFetched bits - t)).map (· + t))
      s2.openFrameOf { f1 with undo := us } (head ++ l ++ b)))

/-- Whether a WRITE frame cuts a word short: at least one whole byte of it has arrived (R465, R474). -/
def cutShort (bits : Nat) : Bool := decide (48 ≤ bits) && (bits / 8 - 5) % 4 != 0

/-- A word cut short is discarded with ARG (R474). -/
def State.frameCut (s : State) (f : HFrame) : State × HFrame :=
  if cutShort f.bits then
    let n := wordsTaken f.bits
    let a := burstAddr f.addr n
    let s1 := s.ferr 23 16
    ((s1.logMine .hspi (a / 0x1000) (a % 0x1000) .arg).keepFirst s1 f.first.isSome, f.refuse .arg n)
  else (s, f)

/-- A WRITE frame: its whole words, and a word cut short (R474); a frame that resets HOST is discarded (R91). -/
def State.writeFrame (s : State) (addr : Nat) (data : List Word) (bits : Nat) : State :=
  s.beginFrame 0x20 addr bits (fun s =>
    s.addressed { cmd := 0x20, addr := addr, bits := bits } (fun s =>
      let head := s.frameHead 0x20
      let whole := wordsTaken bits
      let (s1, f1) := s.frameWrites { cmd := 0x20, addr := addr, bits := bits }
        ((List.range whole).map (fun n => (n, data.getD n 0)))
      if !s1.ready 0x30 then s1
      else
        let (s2, f2) := s1.frameCut f1
        s2.openFrameOf f2 (head ++ List.replicate (bits / 8) 0)))

/-- A STATUS frame, or one whose command byte is no command (R468, R469). -/
def State.statusFrame (s : State) (cmd bits : Nat) : State :=
  s.beginFrame cmd 0 bits (fun s =>
    if cmd = 0x40 then s.openFrameOf { cmd := cmd, bits := bits } (List.replicate (bits / 8) s.frameByte)
    else (s.ferr 7 0).refuseFrame { cmd := cmd, bits := bits })

/-- Writes of HSPI.CTL and HSPI.CTRL take effect at the rise of select (R474). -/
def State.lateWrites (s : State) (f : HFrame) : List (Nat × Word) → State × HFrame
  | [] => (s, f)
  | (a, v) :: rest =>
    let (t, c) := s.portWrite .hspi a v
    if !t.ready 0x30 then (t, f)
    else if c = .done then t.lateWrites f rest
    else (t.keepFirst s f.first.isSome).lateWrites (f.refuse c ((a - f.addr) / 4)) rest

/-- A frame is entered in the counters: LASTERR and END of the next status byte, LASTRES, the REFUSED pulse (R470,
R471, R486). -/
def State.countFrame (s : State) (cmd page : Nat) (refused : Bool) (first : Option (Code × Nat)) (passed : Bool) :
    State :=
  let s1 : State := { s with hspi := { s.hspi with lastErr := refused, endFlag := passed } }
  let s2 := s1.updRg 0x30 0x054 (fun w => wrapField w 15 0 1)
  let s3 := match first with
    | some (c, n) => s2.setRg 0x30 0x050 (pack [(0, 8, Code.num c), (8, 8, cmd), (16, 8, min 255 n), (24, 8, page)])
    | none => s2
  if refused then (s3.updRg 0x30 0x054 (fun w => satField w 31 16 1)).evPulse 0x30 0 else s3

/-- Select rises: what was fetched and not taken is put back, late writes act, the frame is counted (R470 to R474). -/
def State.endFrame (s : State) : State :=
  match s.hspi.frame with
  | none => s
  | some f =>
    let s1 := f.undo.foldl State.giveBack s
    let s2 : State := { s1 with hspi := { s1.hspi with frame := none } }
    if f.bits < 8 then s2
    else
      let (s3, g) := s2.lateWrites f f.late
      if !s3.ready 0x30 then s3 else
      let short := (f.cmd = 0x10 || f.cmd = 0x20 || f.cmd = 0x30) && decide (f.bits < 40)
      s3.countFrame f.cmd (f.addr / 0x1000 % 256) (g.refused || short) g.first g.passed

/-! ### Device-clocked streaming (R477 to R480) -/

/-- The period of the device's clock in nanoseconds (R478). -/
def State.drivePeriod (s : State) : Nat :=
  let khz := max 1 (field (s.rg 0x30 0x044) 14 0)
  20 * ((50000 + khz - 1) / khz)

/-- Whether device-clocked streaming runs (R477, R480). -/
def State.drives (s : State) : Bool :=
  !s.dead && s.ready 0x30 && flag (s.rg 0x30 0x008) 0 && flag (s.rg 0x30 0x040) 0 && s.pwr.depth != .guard
  && !s.hspi.daisy

/-- The items of a burst, popped as master 1: at most n, and none beyond the visible ones. A lost item is shifted as
0x7F00_0000 and, like a pointer fault, logged (R240, R250, R479). -/
def State.driveItems (s : State) (q : Nat) : Nat → State × List Byte
  | 0 => (s, [])
  | n + 1 =>
    if (s.queue q).items.isEmpty then (s, [])
    else
      let (s1, w, c) := s.popItem q
      let s2 := if c = .done then s1 else ((s1.logPush q c).logMine .hspi (0x50 + q) 0x040 c).portErr .hspi
      let (s3, l) := s2.driveItems q n
      (s3, wordBytes w ++ l)

/-- STAT.FLOW_HOLD and its line. -/
def State.flowHold (s : State) (b : Bool) : State :=
  (s.updRg 0x30 0x04C (fun w => setFlag w 6 b)).evLevel 0x30 2 b

/-- A device-clocked burst (R479): held off while the sink holds HSPI_SDI high, GAP after the last one. -/
def State.driveBurst (s : State) (busy : Bool) (holds : Nat) : State :=
  let cfg := s.rg 0x30 0x048
  let q := field cfg 4 0
  let flow := flag (s.rg 0x30 0x040) 2
  if !s.drives || !qEn (s.qcfg q) || qCons (s.qcfg q) != 1 || !s.granaryUp || (s.queue q).items.isEmpty then s
  else if flow && busy then s.flowHold true
  else
    let s1 := match s.hspi.burstAt with
      | some t => s.reach (t + BitVec.ofNat 64 (usTime (field cfg 31 16)))
      | none => s
    let s2 := s1.flowHold false
    let (s3, out) := s2.driveItems q (field cfg 15 8)
    let words := out.length / 4
    let s4 := if flow && holds != 0 then (s3.flowHold true).flowHold false else s3
    let s5 := s4.updRg 0x30 0x05C (fun w => satField (wrapField w 23 0 words) 31 24 (if flow then holds else 0))
    let s6 := s5.reach (s5.after (nsTime ((32 * words + 2) * s5.drivePeriod)))
    ({ s6 with hspi := { s6.hspi with burstAt := some s6.now, out := out } } : State).evPulse 0x30 1

/-! ### The daisy chain (R481 to R485) -/

/-- A slot carried out: the state after, its code, echo and data. -/
def State.slotAccess (s : State) (cmd a : Nat) (v : Word) : State × Code × Nat × Word :=
  if cmd = 0 || cmd = 0x40 then (s, .done, cmd, 0)
  else if cmd = 0x10 || cmd = 0x20 || cmd = 0x30 then
    if !addrOk cmd a then ((s.ferr 15 8).logMine .hspi (a / 0x1000 % 256) (a % 0x1000) .arg, .arg, 0, 0)
    else if cmd = 0x20 then
      let (s1, c) := s.portWrite .hspi a v
      (s1, c, cmd, 0)
    else
      let (s1, w, c) := s.portRead .hspi a
      (s1, c, cmd, w)
  else ((s.ferr 7 0).logMine .hspi 0 0 .arg, .arg, 0, 0)

/-- The rise of select after a chain frame (R481 to R484); a frame whose slot resets HOST is discarded (R91). -/
def State.daisyFrame (s : State) (data : List Byte) (early : Bool) : State :=
  if !s.dead && !s.ready 0x30 && s.pwr.vioA then { s with hspi := { s.hspi with out := List.replicate data.length 0 } }
  else if s.dead || !s.pwr.vioA || !flag (s.rg 0x30 0x008) 0 || !s.hspi.daisy then s
  else
    let len := data.length
    let all := s.hspi.chain ++ data
    let slot := all.drop len
    let s0 : State := { s with hspi := { s.hspi with out := all.take len } }
    let cmd := (slot.getD 0 0).toNat
    let a := natBE ((slot.drop 1).take 3)
    let v : Word := BitVec.ofNat 32 (natBE ((slot.drop 4).take 4))
    let (s1, c, echo, w) :=
      if s0.pwr.depth == .guard then ((s0.logMine .hspi 0 0 .notReady).fireWake 0x11, Code.notReady, 0, (0 : Word))
      else if len % 8 != 0 || len < 8 then ((s0.ferr 23 16).logMine .hspi 0 0 .arg, Code.arg, 0, (0 : Word))
      else s0.slotAccess cmd a v
    if !s1.ready 0x30 then s1
    else
    let s2 :=
      if len = 0 then { s1 with hspi := { s1.hspi with lastErr := true } }
      else s1.countFrame cmd (a / 0x1000 % 256) (c != .done) (if c = .done then none else some (c, 0)) false
    let s3 := if early then s2.ferr 31 24 else s2
    let reply := if early then List.replicate 8 (0 : Byte)
      else s3.hspiByte false :: BitVec.ofNat 8 (Code.num c) :: BitVec.ofNat 8 echo :: 0 :: wordBytes w
    { s3 with hspi := { s3.hspi with chain := reply } }

/-! ### The host two-wire port (R489 to R493, R499) -/

/-- HTW's own state changed. -/
def State.updHtw (s : State) (f : Htw → Htw) : State := { s with htw := f s.htw }

/-- A counter byte of ERR. -/
def State.htwErr (s : State) (hi lo : Nat) : State := s.updRg 0x31 0x054 (fun w => satField w hi lo 1)

/-- LASTRES takes the first code of a transaction (R491). -/
def State.htwCode (s : State) (c : Code) (word page : Nat) : State :=
  if s.htw.coded then s
  else
    (s.setRg 0x31 0x04C (pack [(0, 8, Code.num c), (16, 8, min 255 word), (24, 8, page)])).updHtw (fun h =>
      { h with coded := true })

/-- The pointer (R490). -/
def State.htwPtr (s : State) : Nat := field (s.rg 0x31 0x048) 23 0
def State.setHtwPtr (s : State) (a : Nat) : State := s.setRg 0x31 0x048 (BitVec.ofNat 32 (a % 2 ^ 24))

/-- An unfinished word ends: a write word is discarded with ARG, a word read and not taken is put back (R491, R492). -/
def State.htwCut (s : State) : State :=
  let s1 := (s.htw.undo.foldl State.giveBack s).updHtw (fun h => { h with undo := [] })
  if s1.htw.part.isEmpty then s1
  else
    let page := s1.htwPtr / 0x1000
    let s2 := if s1.htw.coded then s1 else s1.logMine .htw page (s1.htwPtr % 0x1000) .arg
    ((s2.htwCode .arg s2.htw.word page).htwErr 15 8).updHtw (fun h => { h with part := [] })

/-- The transaction addressed to the device is over. -/
def State.htwEnd (s : State) : State := s.htwCut.updHtw (fun h => { h with busy := false, rd := false, deaf := false })

/-- Whether the port acknowledges its address but for GUARD: READY, enabled, its balls supplied (R77, R489, R544). -/
def State.htwOn (s : State) : Bool := !s.dead && s.ready 0x31 && s.pwr.vioA && flag (s.rg 0x31 0x008) 0

/-- A transaction addressed to the device begins: counted; in GUARD discarded with NOT_READY, and a wake (R16, R489). -/
def State.htwBegin (s : State) (rd : Bool) (run : State → State) : State :=
  if !s.htwOn then s
  else
    let s1 := s.htwEnd.updRg 0x31 0x050 (fun w => wrapField w 15 0 1)
    let s2 := s1.updHtw (fun h => { h with coded := false, word := 0 })
    if s.pwr.depth == .guard then ((s2.htwCode .notReady 0 0).logMine .htw 0 0 .notReady).fireWake 0x12
    else run (s2.updHtw (fun h => { h with busy := true, rd := rd }))

/-- A refused word: counted and signalled, its code the transaction's first, or MY_RESULT as it was (R491). -/
def State.htwRefuse (s : State) (before : State) (c : Code) (word page : Nat) : State :=
  let s1 := if before.htw.coded then s.setOwn1 .htw 0x01 0x048 (before.own1 .htw 0x01 0x048) else s
  ((s1.htwCode c word page).updRg 0x31 0x050 (fun w => satField w 31 16 1)).evPulse 0x31 0

/-- The pointer after word n of a burst that began at a: it holds at POP and at 0xFFC. -/
def nextPtr (a n : Nat) : Nat := burstAddr a (n + 1)

/-- Data bytes of a write transaction that began at pointer a, from word n; a refused word is not acknowledged and
what follows is ignored (R491). A word that resets HOST or HTW is the last, and leaves their registers as reset (R93). -/
def State.htwData (s : State) (many : Bool) (a : Nat) : Nat → List Byte → State
  | n, b0 :: b1 :: b2 :: b3 :: rest =>
    let page := a / 0x1000
    let (t, c) :=
      if s.burstPast many a n then (s, Code.done)
      else s.portWrite .htw (burstAddr a n) (BitVec.ofNat 32 (natBE [b0, b1, b2, b3]))
    let t1 := t.setHtwPtr (nextPtr a n)
    if !t.ready 0x31 then t
    else if c != .done then (t1.htwRefuse s c n page).updHtw (fun h => { h with deaf := true })
    else if !t1.htwOn then t1
    else t1.htwData many a (n + 1) rest
  | n, rest => s.updHtw (fun h => { h with part := rest, word := n })

/-- An HTW write transaction (R490, R491). -/
def State.htwWrite (s : State) (data : List Byte) (stop : Bool) : State :=
  let s1 := s.htwBegin false (fun t =>
    if data.length < 3 then t
    else
      let a := natBE (data.take 3)
      if a ≥ 0x100000 || a % 4 != 0 then
        ((((t.htwCode .arg 0 (a / 0x1000 % 256)).htwErr 7 0).evPulse 0x31 0)).updHtw (fun h => { h with deaf := true })
      else (t.setHtwPtr a).htwData (decide (7 < data.length)) a 0 (data.drop 3))
  if stop then s1.htwEnd else s1

/-- The words of a read transaction from pointer a whose last byte is shifted out (R492). -/
def State.htwWords (s : State) (many : Bool) (a : Nat) : List Nat → State × List Byte
  | [] => (s, [])
  | n :: rest =>
    if s.burstPast many a n then
      let (s1, l) := (s.setHtwPtr (nextPtr a n)).htwWords many a rest
      (s1, [0, 0, 0, 0] ++ l)
    else
      let (t, v, c) := s.portRead .htw (burstAddr a n)
      let t1 := t.setHtwPtr (nextPtr a n)
      let t2 := if c = .done then t1 else t1.htwRefuse s c n (a / 0x1000)
      let (s1, l) := t2.htwWords many a rest
      (s1, wordBytes v ++ l)

/-- An HTW read transaction of n bytes (R490, R492). -/
def State.htwRead (s : State) (n : Nat) (lastAck stop : Bool) : State :=
  let s1 := s.htwBegin true (fun t =>
    let a := t.htwPtr
    let (t1, l) := t.htwWords (decide (4 < n)) a (List.range (n / 4))
    let more := n % 4 != 0 || n = 0 || lastAck
    let (t2, us, part) := if more then t1.prefetchRun .htw (decide (4 < n)) a [n / 4] else (t1, [], [])
    t2.updHtw (fun h => { h with undo := us, word := n / 4, out := (l ++ part).take n }))
  if stop then s1.htwEnd else s1

/-- SCL stays unchanged for IDLE_TO during a transaction addressed to the device (R493). -/
def State.htwIdle (s : State) : State :=
  if s.dead || !s.htw.busy then s else (s.htwEnd.htwErr 31 24).evPulse 0x31 2

/-- A START was seen where an acknowledge was due (R499). -/
def State.htwProtocol (s : State) : State :=
  if s.dead || !s.htw.busy then s else (s.htwEnd.htwErr 23 16).evPulse 0x31 1

/-! ### Rows -/

/-- HSPI_READ (R472). -/
def execHspiRead (addr : BitVec 24) (bits : Nat) (s : State) : Host.Outcome State Fault Refusal :=
  .next (s.readFrame 0x10 addr.toNat bits)

/-- HSPI_WRITE (R474). -/
def execHspiWrite (addr : BitVec 24) (data : List Word) (bits : Nat) (s : State) :
    Host.Outcome State Fault Refusal :=
  .next (s.writeFrame addr.toNat data bits)

/-- HSPI_POP (R475). -/
def execHspiPop (addr : BitVec 24) (bits : Nat) (s : State) : Host.Outcome State Fault Refusal :=
  .next (s.readFrame 0x30 addr.toNat bits)

/-- HSPI_STATUS (R469). -/
def execHspiStatus (cmd : BitVec 8) (bits : Nat) (s : State) : Host.Outcome State Fault Refusal :=
  if cmd = 0x10 ∨ cmd = 0x20 ∨ cmd = 0x30 then .fault .illFormed else .next (s.statusFrame cmd.toNat bits)

/-- HSPI_FRAME_END (R471). -/
def execHspiFrameEnd (s : State) : Host.Outcome State Fault Refusal := .next s.endFrame

/-- HSPI_CTRL_WRITE (R477). -/
def execHspiCtrlWrite (m : Master) (v : Word) (s : State) : Host.Outcome State Fault Refusal :=
  .next (s.write m 0x30 0x040 v (hspiCtrlEffect m v))

/-- DRIVE_BURST (R479). -/
def execDriveBurst (busy : Bool) (holds : Nat) (s : State) : Host.Outcome State Fault Refusal :=
  .next (s.driveBurst busy holds)

/-- DAISY_FRAME (R483). -/
def execDaisyFrame (data : List (BitVec 8)) (early : Bool) (s : State) : Host.Outcome State Fault Refusal :=
  .next (s.daisyFrame data early)

/-- HTW_WRITE (R490). -/
def execHtwWrite (data : List (BitVec 8)) (stop : Bool) (s : State) : Host.Outcome State Fault Refusal :=
  .next (s.htwWrite data stop)

/-- HTW_READ (R492). -/
def execHtwRead (n : Nat) (lastAck stop : Bool) (s : State) : Host.Outcome State Fault Refusal :=
  .next (s.htwRead n lastAck stop)

/-- HTW_IDLE_TIMEOUT (R493). -/
def execHtwIdleTimeout (s : State) : Host.Outcome State Fault Refusal := .next s.htwIdle

/-- PROTOCOL_ERROR (R499). -/
def execProtocolError (u : Option (Fin 4)) (s : State) : Host.Outcome State Fault Refusal :=
  .next (match u with | some u => s.twcProtocol u.val | none => s.htwProtocol)

end Sys2Proof.Machine
end

