-- ==== Sys2Proof/Machine/Manage.lean ====
section
/-!
DEFINITION. Remote management by RADIO (R415, R416) and the loader of the station configuration image (R84, R517 to
R519).
-/
namespace Sys2Proof.Machine

/-! ### Management envelopes (R415) -/

/-- A management envelope taken apart: MTYPE, NENT, MCTR, DNONCE, the first ten bytes, the entries as sent, the MIC. -/
structure Envelope where
  mtype : Nat := 0
  mctr : Nat := 0
  dnonce : Nat := 0
  head : List Byte := []
  entries : List Byte := []
  mic : List Byte := []
  deriving DecidableEq, Repr

/-- The envelope in a message's body, if its length fits. -/
def envelopeOf (l : List Byte) : Option Envelope :=
  let nent := (l.getD 1 0).toNat
  if l.length = 26 + 8 * nent && decide (nent ≤ 64) then
    some
      { mtype := (l.getD 0 0).toNat, mctr := natLE ((l.drop 2).take 4), dnonce := natLE ((l.drop 6).take 4)
        head := l.take 10, entries := (l.drop 10).take (8 * nent), mic := l.drop (10 + 8 * nent) }
  else none

/-- The nonce of an envelope: DNONCE, MCTR, MTYPE, ORIG, FINAL. -/
def mgmtNonce (dnonce mctr mtype orig final : Nat) : List Byte :=
  bytesLE 4 dnonce ++ bytesLE 4 mctr ++ bytesLE 1 mtype ++ bytesLE 2 orig ++ bytesLE 2 final

/-- The management key (R421). -/
def State.mgmtKey (s : State) : Option (List Byte) := s.linkKey (field (s.rg 0x2A 0x06C) 13 8)

/-- An envelope opened: its entries in the clear, if its MIC is right. -/
def State.openEnvelope (s : State) (orig : Nat) (e : Envelope) : Option (List Byte) :=
  s.mgmtKey.bind (fun key =>
    let nonce := mgmtNonce e.dnonce e.mctr e.mtype orig s.station
    let pt := ccmCtr key nonce e.entries
    if ccmTag 16 key nonce e.head pt = e.mic then some pt else none)

/-- A reply handed to the link engine as an agent message (R416). -/
def State.mgmtReply (s : State) (orig mtype mctr dnonce : Nat) (entries : List Byte) : State :=
  match s.mgmtKey with
  | none => s
  | some key =>
    let head := bytesLE 1 mtype ++ bytesLE 1 (entries.length / 8) ++ bytesLE 4 mctr ++ bytesLE 4 dnonce
    let nonce := mgmtNonce dnonce mctr mtype s.station orig
    let body := head ++ ccmCtr key nonce entries ++ ccmTag 16 key nonce head entries
    match s.agentQueue 7 0x2A 1 [BitVec.ofNat 32 orig, 0, BitVec.ofNat 32 body.length] with
    | none => s
    | some (tag, s1) =>
      s1.updLink (fun l => { l with agent := Tab.set (fun _ => none) l.agent tag (some (body, true)) })

/-- An entry of a reply: the code, three zero bytes, and the data. -/
def replyEntry (c : Code) (v : Word) : List Byte := bytesLE 1 (Code.num c) ++ [0, 0, 0] ++ bytesLE 4 v.toNat

/-- One request entry, as a single access of master 3 (R416). -/
def State.mgmtEntry (s : State) (l : List Byte) : State × List Byte :=
  let a := natLE ((l.drop 1).take 3)
  let v : Word := BitVec.ofNat 32 (natLE ((l.drop 4).take 4))
  let op := (l.getD 0 0).toNat
  if a ≥ 0x100000 || a % 4 != 0 then (s, replyEntry .arg 0)
  else if op = 1 then
    let (s1, w, c) := s.portRead .radio a
    (s1, replyEntry c w)
  else if op = 2 then
    let (s1, c) := s.portWrite .radio a v
    (s1, replyEntry c 0)
  else (s, replyEntry .arg 0)

/-- The entries of a request, in order. -/
def State.mgmtEntries (s : State) : List (List Byte) → State × List Byte
  | [] => (s, [])
  | e :: rest =>
    let (s1, r) := s.mgmtEntry e
    let (s2, l) := s1.mgmtEntries rest
    (s2, r ++ l)

/-- An envelope dropped and counted (R415). -/
def State.mgmtDrop (s : State) : State := s.updRg 0x2A 0x090 (fun w => satField w 31 16 1)

/-- An authenticated envelope acted on. -/
def State.mgmtAct (s : State) (n orig : Nat) (e : Envelope) (pt : List Byte) : State :=
  let session := s.link.mgmt
  let fits : Bool := match session with | some x => x.dnonce == BitVec.ofNat 32 e.dnonce | none => false
  if e.mtype = 1 then
    if e.mctr != 0 || e.dnonce != 0 then s.mgmtDrop
    else
      let (s1, l) := s.drbgBytes 4
      let dn := natLE l
      let s2 := s1.updLink (fun k => { k with mgmt := some { peer := n, dnonce := BitVec.ofNat 32 dn, last := s.now } })
      ((s2.updRg 0x2A 0x068 (fun w => satField w 31 16 1)).refreshLink).mgmtReply orig 0x81 0 dn []
  else if e.mtype = 2 then
    match session with
    | some x =>
      if fits && decide (x.mctr.toNat < e.mctr) then
        let s1 := s.updLink (fun k => { k with mgmt := some { x with mctr := BitVec.ofNat 32 e.mctr, last := s.now } })
        let (s2, l) := s1.mgmtEntries (pieces pt.length 8 pt)
        s2.mgmtReply orig 0x82 e.mctr e.dnonce l
      else s.mgmtDrop
    | none => s.mgmtDrop
  else if e.mtype = 3 then
    if fits then (s.closeMgmt.refreshLink).mgmtReply orig 0x83 e.mctr e.dnonce [] else s.mgmtDrop
  else s.mgmtDrop

/-- The oldest management message that has arrived is taken up; it waits while CRIB is not READY, and
while no slot is free for its reply (R18, R61). -/
def State.mgmtTake (s : State) : State :=
  match s.link.mgmtIn with
  | [] => s
  | m :: rest =>
    if s.dead || !s.ready 0x2A || !s.cribFree || !s.agentRoom || s.nextFree.isNone then s
    else
      let s1 := s.updLink (fun l => { l with mgmtIn := rest })
      match s1.peerOf m.orig, envelopeOf m.body with
      | some n, some e =>
        match s1.openEnvelope m.orig e with
        | none => s1.mgmtDrop
        | some pt =>
          let allowed := flag (s1.optWord 16) 2 && (match s1.peer n with | some p => p.mgmt | none => false)
          if allowed then s1.mgmtAct n m.orig e pt
          else s1.mgmtReply m.orig 0x8F e.mctr e.dnonce (replyEntry .security 0)
      | _, _ => s1.mgmtDrop

/-- The session lapses after MGMT_IDLE without an accepted request. -/
def State.mgmtLapse (s : State) : State :=
  match s.link.mgmt with
  | none => s
  | some x =>
    if s.dead then s
    else
      let s1 := s.reach (x.last + BitVec.ofNat 64 (secTime (10 * field (s.rg 0x2A 0x054) 15 8)))
      s1.closeMgmt.refreshLink

/-! ### The station configuration image (R84, R519) -/

/-- The flash address of the image; none when option A2 names none. -/
def State.imageBase (s : State) : Option Nat := if s.optWord 2 = 0xFFFFFFFF then none else some (s.optWord 2).toNat

/-- IMGSTAT. -/
def State.setImg (s : State) (stat code index : Nat) : State :=
  s.setRg 0x3A 0x070 (pack [(0, 2, stat), (8, 8, code), (16, 16, index)])

/-- The load ends: IMGSTAT and the log entry. -/
def State.imageDone (s : State) (stat detail code index : Nat) : State :=
  ((s.setImg stat code index).updCrib (fun c => { c with loader := none })).secLog 10 detail 0 7

/-- The image is verified; the loader stands at its first record, or nothing is loaded. The code of a rejected
image is not stated: a free value. -/
def State.imageVerify (s : State) (base : Nat) : State :=
  let reject (t : State) : State :=
    let (w, t1) := t.draw
    t1.imageDone 3 2 (field w 7 0) 0
  if base % 0x4000 != 0 || base ≥ 0x1000000 then reject s
  else if s.flashBusy base (0x1000000 - base) then s
  else
    match s.imageHeader base with
    | (s1, none) => reject s1
    | (s1, some h) =>
      if !imageOk 2 (0x1000000 - base) h then reject s1
      else
        let (s2, ok) := s1.digestOk base h
        if !ok || (s2.lifecycle == 2 && !s2.headerSigned h) then reject s2
        else
          let l : Loader := { base := base, next := 512, stop := 512 + hdrField h 0x00C 4 }
          (s2.setImg 1 0 0).updCrib (fun c => { c with loader := some l })

/-- A register write of the loader: with the owner's rights, whatever the owner is, and secure. -/
def State.loaderWrite (s : State) (a : Nat) (v : Word) : State × Code :=
  let page := a / 0x1000
  let off := a % 0x1000
  let t : State := { s with own := { s.own with owner := some .core }, core := { s.core with machine := true } }
  let back (u : State) : State :=
    { u with own := { u.own with owner := s.own.owner }, core := { u.core with machine := s.core.machine } }
  if a ≥ 0x100000 || a % 4 != 0 then (s, .arg)
  else if page ≥ 0x80 then
    if !s.granaryUp then (s, .notReady)
    else
      match s.winRef a with
      | .outside => (s.logErr 0x1C page .arg, .arg)
      | .queue _ => (s.logErr 0x1C page .state, .state)
      | .word w => ((s.countAccess false w).setSramWord w v, .done)
  else
    match t.writeGate .core page off v with
    | .pass =>
      let (u, c) := regWrite .core page off v t
      (if c = .done then back u else (back u).logErr page (off / 16) c, c)
    | .refuse c => (s.logErr page (off / 16) c, c)
    | .zero => (s, .done)
    | .unassigned => (s.logErr 0x00 page .arg, .arg)
    | _ => (s, .notReady)

/-- The pairs of a record of writes. -/
def State.loaderWrites (s : State) : List Word → State × Code
  | a :: v :: rest =>
    match s.loaderWrite a.toNat v with
    | (s1, .done) => s1.loaderWrites rest
    | (s1, c) => (s1, c)
  | _ => (s, .done)

/-- The loader's place after a record. -/
def State.loaderPast (s : State) (l : Loader) (words : Nat) : State :=
  s.updCrib (fun c => { c with loader := some { l with next := l.next + 4 * words, record := l.record + 1, code := none } })

/-- The load stops at a record. -/
def State.loaderStop (s : State) (l : Loader) (c : Code) : State := s.imageDone 3 1 (Code.num c) l.record

/-- One record is carried out; an operation is left to run, and the answer says whether the loader goes on. -/
def State.loaderStep (s : State) (l : Loader) : State × Bool :=
  if l.next + 4 > l.stop then (s.loaderStop l .arg, false)
  else if s.flashBusy (l.base + l.next) (l.stop - l.next) then (s, false)
  else
    match s.flashWord none (l.base + l.next) with
    | (s1, none) => (s1.loaderStop l .integrity, false)
    | (s1, some w) =>
      let kind := field w 31 28
      if kind = 0xF then (s1.imageDone 2 0 0 l.record, false)
      else
        let n := if kind = 1 then 2 * field w 15 0 else field w 19 16
        if (kind != 1 && kind != 2) || (kind == 2 && n > 8) || l.next + 4 + 4 * n > l.stop then
          (s1.loaderStop l .arg, false)
        else
          let (s2, args, ok) := s1.flashWords none (l.base + l.next + 4) n
          if !ok then (s2.loaderStop l .integrity, false)
          else if kind = 1 then
            match s2.loaderWrites args with
            | (s3, .done) =>
              let s4 := s3.loaderPast l (1 + n)
              (s4.setImg 1 0 (l.record + 1), true)
            | (s3, c) => (s3.loaderStop l c, false)
          else
            let page := field w 15 8
            let base : Word := BitVec.ofNat 32 l.base
            let given := (List.range 8).map (fun i => args.getD i 0 + (if i = 1 && flag w 20 then base else 0))
            if !opPages.contains page then (s2.loaderStop l .arg, false)
            else
              match s2.agentQueue 9 page (field w 7 0) given with
              | none => (s2, false)
              | some (tag, s3) =>
                let s4 := s3.loaderPast l (1 + n)
                ((s4.setImg 1 0 l.record).updCrib (fun c =>
                  { c with loader := c.loader.map (fun x => { x with slot := some (BitVec.ofNat 7 tag) }) }), false)

/-- The loader carries out records until an operation is left to run or the load ends. -/
def State.loaderRun (s : State) : Nat → State
  | 0 => s
  | fuel + 1 =>
    match s.crib.loader with
    | none => s
    | some l =>
      match l.slot, l.code with
      | some _, _ => s
      | none, some c =>
        if c = .done then
          let s1 := s.updCrib (fun x => { x with loader := some { l with code := none } })
          match s1.loaderStep { l with code := none } with
          | (s2, true) => s2.loaderRun fuel
          | (s2, false) => s2
        else s.loaderStop { l with record := l.record - 1 } c
      | none, none =>
        match s.loaderStep l with
        | (s1, true) => s1.loaderRun fuel
        | (s1, false) => s1

/-- The image is verified once after a power-on reset, and its records are carried out. -/
def State.imageLoad (s : State) : State :=
  if s.dead || !s.ready 0x1E || !s.cribUp || !s.opt.loaded then s
  else
    match s.imageBase, s.crib.loader with
    | _, some l => s.loaderRun (l.stop / 4 + 2)
    | some base, none =>
      if field (s.rg 0x3A 0x070) 1 0 != 0 then s
      else
        let s1 := s.imageVerify base
        s1.loaderRun (match s1.crib.loader with | some l => l.stop / 4 + 2 | none => 0)
    | none, none => s

/-! ### Rows -/

/-- MGMT_ENVELOPE (R415). -/
def execMgmtEnvelope (s : State) : Host.Outcome State Fault Refusal :=
  .next s.mgmtTake

/-- MGMT_SESSION_LAPSE (R415). -/
def execMgmtSessionLapse (s : State) : Host.Outcome State Fault Refusal := .next s.mgmtLapse

/-- CONFIG_IMAGE_LOAD (R519). -/
def execConfigImageLoad (s : State) : Host.Outcome State Fault Refusal := .next s.imageLoad

end Sys2Proof.Machine
end

