-- ==== Sys2Proof/Machine/Dispatch.lean ====
section
/-!
DEFINITION. The command decoder of the block: one arm per row of the opcode table, each one direct call
of that row's meaning.
-/
namespace Sys2Proof.Machine

def exec (i : Instr) (s : State) : Host.Outcome State Fault Refusal :=
  match i with
  | .registerWrite m page word v => Sys2Proof.Machine.execRegisterWrite m page word v s
  | .aonProxyAccess m page word v => Sys2Proof.Machine.execAonProxyAccess m page word v s
  | .lowWordRead m page word => Sys2Proof.Machine.execLowWordRead m page word s
  | .highWordRead m page word => Sys2Proof.Machine.execHighWordRead m page word s
  | .lowWordWrite m page word v => Sys2Proof.Machine.execLowWordWrite m page word v s
  | .highWordWrite m page word v => Sys2Proof.Machine.execHighWordWrite m page word v s
  | .srst m page => Sys2Proof.Machine.execSrst m page s
  | .errcClr m page => Sys2Proof.Machine.execErrcClr m page s
  | .evflgClear m page v => Sys2Proof.Machine.execEvflgClear m page v s
  | .accessWrite m page v => Sys2Proof.Machine.execAccessWrite m page v s
  | .blockReady page => Sys2Proof.Machine.execBlockReady page s
  | .blockStartFail page => Sys2Proof.Machine.execBlockStartFail page s
  | .claim m v => Sys2Proof.Machine.execClaim m v s
  | .claimWindowClose => Sys2Proof.Machine.execClaimWindowClose s
  | .lease m v => Sys2Proof.Machine.execLease m v s
  | .leaseLapse => Sys2Proof.Machine.execLeaseLapse s
  | .handover m v => Sys2Proof.Machine.execHandover m v s
  | .hoExpired => Sys2Proof.Machine.execHoExpired s
  | .accept m v => Sys2Proof.Machine.execAccept m v s
  | .ownRelease m v => Sys2Proof.Machine.execOwnRelease m v s
  | .auditFlush => Sys2Proof.Machine.execAuditFlush s
  | .outPost m box v => Sys2Proof.Machine.execOutPost m box v s
  | .outTake m box v => Sys2Proof.Machine.execOutTake m box v s
  | .inPost m box v => Sys2Proof.Machine.execInPost m box v s
  | .inTake m box v => Sys2Proof.Machine.execInTake m box v s
  | .doorbell m v => Sys2Proof.Machine.execDoorbell m v s
  | .cancel m v => Sys2Proof.Machine.execCancel m v s
  | .operationStart tag => Sys2Proof.Machine.execOperationStart tag s
  | .operationEnd tag => Sys2Proof.Machine.execOperationEnd tag s
  | .recordPush => Sys2Proof.Machine.execRecordPush s
  | .por => Sys2Proof.Machine.execPor s
  | .porRelease => Sys2Proof.Machine.execPorRelease s
  | .resetNLow => Sys2Proof.Machine.execResetNLow s
  | .resetNHigh => Sys2Proof.Machine.execResetNHigh s
  | .sysRst m v => Sys2Proof.Machine.execSysRst m v s
  | .systemRelease => Sys2Proof.Machine.execSystemRelease s
  | .islRst m v => Sys2Proof.Machine.execIslRst m v s
  | .islandRelease => Sys2Proof.Machine.execIslandRelease s
  | .optionLoad => Sys2Proof.Machine.execOptionLoad s
  | .configImageLoad => Sys2Proof.Machine.execConfigImageLoad s
  | .vinLow => Sys2Proof.Machine.execVinLow s
  | .vinOk => Sys2Proof.Machine.execVinOk s
  | .vinCut => Sys2Proof.Machine.execVinCut s
  | .crystalStart => Sys2Proof.Machine.execCrystalStart s
  | .tcxoStable => Sys2Proof.Machine.execTcxoStable s
  | .pcfgWrite m p v => Sys2Proof.Machine.execPcfgWrite m p v s
  | .auxWrite m p v => Sys2Proof.Machine.execAuxWrite m p v s
  | .xbarWrite m cv v => Sys2Proof.Machine.execXbarWrite m cv v s
  | .converterSample cv r => Sys2Proof.Machine.execConverterSample cv r s
  | .laneOutput lane => Sys2Proof.Machine.execLaneOutput lane s
  | .pulseEdge p rising => Sys2Proof.Machine.execPulseEdge p rising s
  | .pulseCaptureTimeout p width => Sys2Proof.Machine.execPulseCaptureTimeout p width s
  | .dinChange p level => Sys2Proof.Machine.execDinChange p level s
  | .debounceExpiry p => Sys2Proof.Machine.execDebounceExpiry p s
  | .excCompliance n ovr => Sys2Proof.Machine.execExcCompliance n ovr s
  | .refOverload n ovr => Sys2Proof.Machine.execRefOverload n ovr s
  | .clampTrip p hi microamps => Sys2Proof.Machine.execClampTrip p hi microamps s
  | .settleExpiry p => Sys2Proof.Machine.execSettleExpiry p s
  | .selfTestEnd p reason => Sys2Proof.Machine.execSelfTestEnd p reason s
  | .retryIntervalExpiry p => Sys2Proof.Machine.execRetryIntervalExpiry p s
  | .cal tag => Sys2Proof.Machine.execCal tag s
  | .portTest tag reason => Sys2Proof.Machine.execPortTest tag reason s
  | .spcXfer u rx => Sys2Proof.Machine.execSpcXfer u rx s
  | .uartXact u => Sys2Proof.Machine.execUartXact u s
  | .uartEof u reply bad => Sys2Proof.Machine.execUartEof u reply bad s
  | .uartReplyTimeout u => Sys2Proof.Machine.execUartReplyTimeout u s
  | .twcXfer u stuck acked rx => Sys2Proof.Machine.execTwcXfer u stuck acked rx s
  | .rxdRead m u => Sys2Proof.Machine.execRxdRead m u s
  | .illegal t => Sys2Proof.Machine.execIllegal t s
  | .nop t => Sys2Proof.Machine.execNop t s
  | .endAct t => Sys2Proof.Machine.execEndAct t s
  | .ldi t => Sys2Proof.Machine.execLdi t s
  | .lui t => Sys2Proof.Machine.execLui t s
  | .rc t => Sys2Proof.Machine.execRc t s
  | .add t => Sys2Proof.Machine.execAdd t s
  | .sub t => Sys2Proof.Machine.execSub t s
  | .and t => Sys2Proof.Machine.execAnd t s
  | .or t => Sys2Proof.Machine.execOr t s
  | .xor t => Sys2Proof.Machine.execXor t s
  | .shl t => Sys2Proof.Machine.execShl t s
  | .shr t => Sys2Proof.Machine.execShr t s
  | .sra t => Sys2Proof.Machine.execSra t s
  | .mul t => Sys2Proof.Machine.execMul t s
  | .addi t => Sys2Proof.Machine.execAddi t s
  | .andi t => Sys2Proof.Machine.execAndi t s
  | .ori t => Sys2Proof.Machine.execOri t s
  | .shli t => Sys2Proof.Machine.execShli t s
  | .shri t => Sys2Proof.Machine.execShri t s
  | .srai t => Sys2Proof.Machine.execSrai t s
  | .beq t => Sys2Proof.Machine.execBeq t s
  | .bne t => Sys2Proof.Machine.execBne t s
  | .blt t => Sys2Proof.Machine.execBlt t s
  | .bge t => Sys2Proof.Machine.execBge t s
  | .bltu t => Sys2Proof.Machine.execBltu t s
  | .bgeu t => Sys2Proof.Machine.execBgeu t s
  | .jmp t => Sys2Proof.Machine.execJmp t s
  | .jal t => Sys2Proof.Machine.execJal t s
  | .jr t => Sys2Proof.Machine.execJr t s
  | .wait t => Sys2Proof.Machine.execWait t s
  | .waitExpiry t => Sys2Proof.Machine.execWaitExpiry t s
  | .wev t => Sys2Proof.Machine.execWev t s
  | .wevTimeout t => Sys2Proof.Machine.execWevTimeout t s
  | .stmp t => Sys2Proof.Machine.execStmp t s
  | .conv t => Sys2Proof.Machine.execConv t s
  | .inPort t => Sys2Proof.Machine.execInPort t s
  | .outPort t => Sys2Proof.Machine.execOutPort t s
  | .tagrd t => Sys2Proof.Machine.execTagrd t s
  | .bus t => Sys2Proof.Machine.execBus t s
  | .feed t => Sys2Proof.Machine.execFeed t s
  | .push t => Sys2Proof.Machine.execPush t s
  | .pushr t => Sys2Proof.Machine.execPushr t s
  | .ld t => Sys2Proof.Machine.execLd t s
  | .st t => Sys2Proof.Machine.execSt t s
  | .evt t => Sys2Proof.Machine.execEvt t s
  | .blockedResult t => Sys2Proof.Machine.execBlockedResult t s
  | .periodicDue t => Sys2Proof.Machine.execPeriodicDue t s
  | .gleanerLoad tag => Sys2Proof.Machine.execGleanerLoad tag s
  | .loadCopy => Sys2Proof.Machine.execLoadCopy s
  | .gleanerStart tag => Sys2Proof.Machine.execGleanerStart tag s
  | .gleanerStop tag => Sys2Proof.Machine.execGleanerStop tag s
  | .pdataRead m => Sys2Proof.Machine.execPdataRead m s
  | .admission tag => Sys2Proof.Machine.execAdmission tag s
  | .laneChangeover lane => Sys2Proof.Machine.execLaneChangeover lane s
  | .coefDataWrite m v => Sys2Proof.Machine.execCoefDataWrite m v s
  | .coefDataRead m => Sys2Proof.Machine.execCoefDataRead m s
  | .epochSet tag => Sys2Proof.Machine.execEpochSet tag s
  | .snap tag => Sys2Proof.Machine.execSnap tag s
  | .snapReadoutDone => Sys2Proof.Machine.execSnapReadoutDone s
  | .alarmFire n => Sys2Proof.Machine.execAlarmFire n s
  | .disciplineStart => Sys2Proof.Machine.execDisciplineStart s
  | .disciplineSample => Sys2Proof.Machine.execDisciplineSample s
  | .holdoverEntry => Sys2Proof.Machine.execHoldoverEntry s
  | .winnowInput => Sys2Proof.Machine.execWinnowInput s
  | .winnowTick => Sys2Proof.Machine.execWinnowTick s
  | .winnowLoad tag => Sys2Proof.Machine.execWinnowLoad tag s
  | .winnowEnWrite m k v => Sys2Proof.Machine.execWinnowEnWrite m k v s
  | .sourcePulse src => Sys2Proof.Machine.execSourcePulse src s
  | .taskTriggerTaken task => Sys2Proof.Machine.execTaskTriggerTaken task s
  | .waveQuietExpiry tag => Sys2Proof.Machine.execWaveQuietExpiry tag s
  | .swgen m v => Sys2Proof.Machine.execSwgen m v s
  | .chCfgWrite m ch reg v => Sys2Proof.Machine.execChCfgWrite m ch reg v s
  | .tapWrite m k v => Sys2Proof.Machine.execTapWrite m k v s
  | .wholePush q who payloads => Sys2Proof.Machine.execWholePush q who payloads s
  | .itemPush q who pos payload => Sys2Proof.Machine.execItemPush q who pos payload s
  | .qwinPush m q v => Sys2Proof.Machine.execQwinPush m q v s
  | .queuePop m q => Sys2Proof.Machine.execQueuePop m q s
  | .qcfgWrite m q v => Sys2Proof.Machine.execQcfgWrite m q v s
  | .declare tag => Sys2Proof.Machine.execDeclare tag s
  | .regionRelease tag => Sys2Proof.Machine.execRegionRelease tag s
  | .resize tag => Sys2Proof.Machine.execResize tag s
  | .pin tag => Sys2Proof.Machine.execPin tag s
  | .migrate tag => Sys2Proof.Machine.execMigrate tag s
  | .hdeclare tag => Sys2Proof.Machine.execHdeclare tag s
  | .hpin tag => Sys2Proof.Machine.execHpin tag s
  | .bankReturn tag pass => Sys2Proof.Machine.execBankReturn tag pass s
  | .memtestPass tag => Sys2Proof.Machine.execMemtestPass tag s
  | .memtestBank tag pass => Sys2Proof.Machine.execMemtestBank tag pass s
  | .frameCopyDone => Sys2Proof.Machine.execFrameCopyDone s
  | .loftScoring => Sys2Proof.Machine.execLoftScoring s
  | .regionTestStart => Sys2Proof.Machine.execRegionTestStart s
  | .regionTestEnd kind => Sys2Proof.Machine.execRegionTestEnd kind s
  | .bankTest pass => Sys2Proof.Machine.execBankTest pass s
  | .memoryWindowRead m page word errors => Sys2Proof.Machine.execMemoryWindowRead m page word errors s
  | .memoryWindowWrite m page word v => Sys2Proof.Machine.execMemoryWindowWrite m page word v s
  | .hraiseClear m v => Sys2Proof.Machine.execHraiseClear m v s
  | .ctxResWrite m v => Sys2Proof.Machine.execCtxResWrite m v s
  | .program tag => Sys2Proof.Machine.execProgram tag s
  | .erase tag => Sys2Proof.Machine.execErase tag s
  | .copy tag => Sys2Proof.Machine.execCopy tag s
  | .unlock tag => Sys2Proof.Machine.execUnlock tag s
  | .relock tag => Sys2Proof.Machine.execRelock tag s
  | .refresh tag => Sys2Proof.Machine.execRefresh tag s
  | .groupWrite tag => Sys2Proof.Machine.execGroupWrite tag s
  | .fetchBankChange bank => Sys2Proof.Machine.execFetchBankChange bank s
  | .logAppend => Sys2Proof.Machine.execLogAppend s
  | .logCommit => Sys2Proof.Machine.execLogCommit s
  | .commitTimeout => Sys2Proof.Machine.execCommitTimeout s
  | .flush m v => Sys2Proof.Machine.execFlush m v s
  | .logSectorErase => Sys2Proof.Machine.execLogSectorErase s
  | .logResume => Sys2Proof.Machine.execLogResume s
  | .logcfgWrite m v => Sys2Proof.Machine.execLogcfgWrite m v s
  | .weakRefresh => Sys2Proof.Machine.execWeakRefresh s
  | .dirtySpareErase => Sys2Proof.Machine.execDirtySpareErase s
  | .confirmationRecordWrite => Sys2Proof.Machine.execConfirmationRecordWrite s
  | .antCfgWrite m n v => Sys2Proof.Machine.execAntCfgWrite m n v s
  | .shapeWrite m k v => Sys2Proof.Machine.execShapeWrite m k v s
  | .supervisionPass l => Sys2Proof.Machine.execSupervisionPass l s
  | .supervise tag l => Sys2Proof.Machine.execSupervise tag l s
  | .matchOp tag l => Sys2Proof.Machine.execMatchOp tag l s
  | .teach tag answers replies => Sys2Proof.Machine.execTeach tag answers replies s
  | .solve tag => Sys2Proof.Machine.execSolve tag s
  | .lpcdRound l => Sys2Proof.Machine.execLpcdRound l s
  | .coexWindowStart scheduled sending => Sys2Proof.Machine.execCoexWindowStart scheduled sending s
  | .coexWindowEnd => Sys2Proof.Machine.execCoexWindowEnd s
  | .thermalRead tj => Sys2Proof.Machine.execThermalRead tj s
  | .vfldOut => Sys2Proof.Machine.execVfldOut s
  | .vfldReturn => Sys2Proof.Machine.execVfldReturn s
  | .activate tag r => Sys2Proof.Machine.execActivate tag r s
  | .exchange tag r => Sys2Proof.Machine.execExchange tag r s
  | .inventory tag l joint => Sys2Proof.Machine.execInventory tag l joint s
  | .close tag => Sys2Proof.Machine.execClose tag s
  | .mapload tag => Sys2Proof.Machine.execMapload tag s
  | .tagportRead tag r => Sys2Proof.Machine.execTagportRead tag r s
  | .groupRead tag l => Sys2Proof.Machine.execGroupRead tag l s
  | .sessionIdleExpiry h => Sys2Proof.Machine.execSessionIdleExpiry h s
  | .freqWrite m v => Sys2Proof.Machine.execFreqWrite m v s
  | .txRequest => Sys2Proof.Machine.execTxRequest s
  | .syncAccept heard power soFar => Sys2Proof.Machine.execSyncAccept heard power soFar s
  | .frameDelivery f q => Sys2Proof.Machine.execFrameDelivery f q s
  | .dpdTrain tag f => Sys2Proof.Machine.execDpdTrain tag f s
  | .dpdAutoRetrain celsius millivolts f => Sys2Proof.Machine.execDpdAutoRetrain celsius millivolts f s
  | .measure tag => Sys2Proof.Machine.execMeasure tag s
  | .vpaOut => Sys2Proof.Machine.execVpaOut s
  | .superframe => Sys2Proof.Machine.execSuperframe s
  | .beaconTx => Sys2Proof.Machine.execBeaconTx s
  | .beaconRx => Sys2Proof.Machine.execBeaconRx s
  | .lbtBackoffDone => Sys2Proof.Machine.execLbtBackoffDone s
  | .dataRx => Sys2Proof.Machine.execDataRx s
  | .ackTx => Sys2Proof.Machine.execAckTx s
  | .ackRx => Sys2Proof.Machine.execAckRx s
  | .ackWindowExpiry => Sys2Proof.Machine.execAckWindowExpiry s
  | .reassemblyTimeout => Sys2Proof.Machine.execReassemblyTimeout s
  | .relayLifeExpiry => Sys2Proof.Machine.execRelayLifeExpiry s
  | .sendLifeExpiry => Sys2Proof.Machine.execSendLifeExpiry s
  | .downEntryLapse => Sys2Proof.Machine.execDownEntryLapse s
  | .mapsetRx => Sys2Proof.Machine.execMapsetRx s
  | .send tag => Sys2Proof.Machine.execSend tag s
  | .peerAdmit tag => Sys2Proof.Machine.execPeerAdmit tag s
  | .peerRemove tag => Sys2Proof.Machine.execPeerRemove tag s
  | .negotiate tag => Sys2Proof.Machine.execNegotiate tag s
  | .automapPeriod => Sys2Proof.Machine.execAutomapPeriod s
  | .qbSend k => Sys2Proof.Machine.execQbSend k s
  | .rxfree m v => Sys2Proof.Machine.execRxfree m v s
  | .rxcfgWrite m v => Sys2Proof.Machine.execRxcfgWrite m v s
  | .linkCtlWrite m v => Sys2Proof.Machine.execLinkCtlWrite m v s
  | .mgmtEnvelope => Sys2Proof.Machine.execMgmtEnvelope s
  | .mgmtSessionLapse => Sys2Proof.Machine.execMgmtSessionLapse s
  | .legacyFrameRx => Sys2Proof.Machine.execLegacyFrameRx s
  | .neighLost => Sys2Proof.Machine.execNeighLost s
  | .coreBoot => Sys2Proof.Machine.execCoreBoot s
  | .confirm m v => Sys2Proof.Machine.execConfirm m v s
  | .wfi => Sys2Proof.Machine.execWfi s
  | .wfiWake => Sys2Proof.Machine.execWfiWake s
  | .externalInterrupt src => Sys2Proof.Machine.execExternalInterrupt src s
  | .intcClaim m v => Sys2Proof.Machine.execIntcClaim m v s
  | .intcComplete m v => Sys2Proof.Machine.execIntcComplete m v s
  | .unfreeze m v => Sys2Proof.Machine.execUnfreeze m v s
  | .srccfgWrite m n v => Sys2Proof.Machine.execSrccfgWrite m n v s
  | .modIntervalExpiry g => Sys2Proof.Machine.execModIntervalExpiry g s
  | .checkpointInterval => Sys2Proof.Machine.execCheckpointInterval s
  | .lockstepResync => Sys2Proof.Machine.execLockstepResync s
  | .tcmUe word fetch => Sys2Proof.Machine.execTcmUe word fetch s
  | .sleep m v => Sys2Proof.Machine.execSleep m v s
  | .sleepEntry => Sys2Proof.Machine.execSleepEntry s
  | .sleepTmo => Sys2Proof.Machine.execSleepTmo s
  | .sleepAborted source => Sys2Proof.Machine.execSleepAborted source s
  | .wake source => Sys2Proof.Machine.execWake source s
  | .exitComplete => Sys2Proof.Machine.execExitComplete s
  | .tcxoLate => Sys2Proof.Machine.execTcxoLate s
  | .pmuWakeN => Sys2Proof.Machine.execPmuWakeN s
  | .vcoreWrite m v => Sys2Proof.Machine.execVcoreWrite m v s
  | .voltageSettled => Sys2Proof.Machine.execVoltageSettled s
  | .coreOppWrite m v => Sys2Proof.Machine.execCoreOppWrite m v s
  | .tcxoLoss => Sys2Proof.Machine.execTcxoLoss s
  | .tcxoReturn => Sys2Proof.Machine.execTcxoReturn s
  | .hspiRead addr bits => Sys2Proof.Machine.execHspiRead addr bits s
  | .hspiWrite addr data bits => Sys2Proof.Machine.execHspiWrite addr data bits s
  | .hspiPop addr bits => Sys2Proof.Machine.execHspiPop addr bits s
  | .hspiStatus cmd bits => Sys2Proof.Machine.execHspiStatus cmd bits s
  | .hspiFrameEnd => Sys2Proof.Machine.execHspiFrameEnd s
  | .hspiCtrlWrite m v => Sys2Proof.Machine.execHspiCtrlWrite m v s
  | .driveBurst busy holds => Sys2Proof.Machine.execDriveBurst busy holds s
  | .daisyFrame data early => Sys2Proof.Machine.execDaisyFrame data early s
  | .htwWrite data stop => Sys2Proof.Machine.execHtwWrite data stop s
  | .htwRead n lastAck stop => Sys2Proof.Machine.execHtwRead n lastAck stop s
  | .htwIdleTimeout => Sys2Proof.Machine.execHtwIdleTimeout s
  | .protocolError u => Sys2Proof.Machine.execProtocolError u s
  | .arbitrationLost u addr => Sys2Proof.Machine.execArbitrationLost u addr s
  | .targetTransaction u addr parts => Sys2Proof.Machine.execTargetTransaction u addr parts s
  | .stretchTimeout u => Sys2Proof.Machine.execStretchTimeout u s
  | .keyGen tag => Sys2Proof.Machine.execKeyGen tag s
  | .keyImport tag => Sys2Proof.Machine.execKeyImport tag s
  | .keyPub tag => Sys2Proof.Machine.execKeyPub tag s
  | .keyDelete tag => Sys2Proof.Machine.execKeyDelete tag s
  | .cipher tag => Sys2Proof.Machine.execCipher tag s
  | .mac tag => Sys2Proof.Machine.execMac tag s
  | .hash tag => Sys2Proof.Machine.execHash tag s
  | .sign tag => Sys2Proof.Machine.execSign tag s
  | .verify tag => Sys2Proof.Machine.execVerify tag s
  | .ecdh tag => Sys2Proof.Machine.execEcdh tag s
  | .random tag => Sys2Proof.Machine.execRandom tag s
  | .lifecycle tag => Sys2Proof.Machine.execLifecycle tag s
  | .rootSet tag => Sys2Proof.Machine.execRootSet tag s
  | .debugClose tag => Sys2Proof.Machine.execDebugClose tag s
  | .selftest tag failed => Sys2Proof.Machine.execSelftest tag failed s
  | .zeroise tag => Sys2Proof.Machine.execZeroise tag s
  | .reseed tag => Sys2Proof.Machine.execReseed tag s
  | .healthTestFail apt => Sys2Proof.Machine.execHealthTestFail apt s
  | .tamperTrip sensor => Sys2Proof.Machine.execTamperTrip sensor s
  | .tamperCfgWrite m v => Sys2Proof.Machine.execTamperCfgWrite m v s
  | .wdtKick m v => Sys2Proof.Machine.execWdtKick m v s
  | .wdtExpiry unconf => Sys2Proof.Machine.execWdtExpiry unconf s
  | .wdtCfgWrite m v => Sys2Proof.Machine.execWdtCfgWrite m v s
  | .heartbeat => Sys2Proof.Machine.execHeartbeat s
  | .heartbeatMiss island => Sys2Proof.Machine.execHeartbeatMiss island s
  | .tapIrUpdate code => Sys2Proof.Machine.execTapIrUpdate code s
  | .vpaReturn => Sys2Proof.Machine.execVpaReturn s
  | .vioSupplyLoss b => Sys2Proof.Machine.execVioSupplyLoss b s
  | .vioSupplyReturn b => Sys2Proof.Machine.execVioSupplyReturn b s
  | .txEnd => Sys2Proof.Machine.execTxEnd s
  | .lbtBusy c => Sys2Proof.Machine.execLbtBusy c s
  | .dataPeriodStart => Sys2Proof.Machine.execDataPeriodStart s
  | .wdtWarn => Sys2Proof.Machine.execWdtWarn s
  | .optionCopyRewrite => Sys2Proof.Machine.execOptionCopyRewrite s
  | .registerRead m page word => Sys2Proof.Machine.execRegisterRead m page word s
  | .coreFlashRead codeword fetch errors => Sys2Proof.Machine.execCoreFlashRead codeword fetch errors s
  | .debugResetRequest => Sys2Proof.Machine.execDebugResetRequest s
  | .debugHalt => Sys2Proof.Machine.execDebugHalt s
  | .debugResume => Sys2Proof.Machine.execDebugResume s

end Sys2Proof.Machine
end

