-- ==== Sys2Proof/Machine/Upset.lean ====
section
/-!
DEFINITION. Soft errors in the device's arrays. What checks a word stands with its reader: the parity of the Gleaner's
store (R126, R148) and of Winnow's rules (R218), the SECDED bits of the SRAM and of the context store (R258, R261), the
pair of pointers of each queue (R250). When an error comes the manual does not say: it is a free value.
-/
namespace Sys2Proof.Machine

/-- A word of the SRAM with a single-bit error, or with one that cannot be corrected (R258). -/
def State.upsetSram (s : State) (w : Nat) (hard : Bool) : State :=
  if s.gran.bad.contains w then s
  else if hard then { s with gran := { s.gran with bad := w :: s.gran.bad, soft := s.gran.soft.filter (· != w) } }
  else if s.gran.soft.contains w then s
  else { s with gran := { s.gran with soft := w :: s.gran.soft } }

/-- A word of a rule whose parity disagrees; words 2 and 3 are no rule words (R218). -/
def State.upsetRule (s : State) (r i : Nat) : State :=
  let x := s.rule r
  if i = 2 || i = 3 || i ≥ 20 || x.bad.contains i then s else s.putRule r { x with bad := i :: x.bad }

/-- An item of a queue that cannot be corrected (R240). -/
def State.upsetItem (s : State) (n i : Nat) : State :=
  let q := s.queue n
  match q.items[i % max 1 q.items.length]? with
  | none => s
  | some e => s.putQueue n { q with items := q.items.set (i % max 1 q.items.length) { e with bad := true } }

/-- Between two commands a soft error may come, anywhere: which, if any, is a free value (DESIGN CHOICE, log entry 15). -/
def State.upset (s : State) : State :=
  let (kind, s1) := s.draw
  let (place, s2) := s1.draw
  let w := place.toNat
  match field kind 2 0 with
  | 1 => s2.upsetSram (w % 1572864) false
  | 2 => s2.upsetSram (w % 1572864) true
  | 3 => { s2 with gran := { s2.gran with ctxBad := w % 16384 :: s2.gran.ctxBad } }
  | 4 => { s2 with gle := { s2.gle with parity := w % 4096 :: s2.gle.parity } }
  | 5 => s2.upsetRule (w % 128) (w / 128 % 32)
  | 6 => s2.putQueue (w % 32) { s2.queue (w % 32) with ptrBad := true }
  | 7 => s2.upsetItem (w % 32) (w / 32)
  | _ => s2

end Sys2Proof.Machine
end

