-- ==== Sys2Proof/Machine/Step.lean ====
section
/-!
DEFINITION. One step: the command at the front of the queue is carried out; on an empty queue the time clock ticks
and a soft error may come (choices of the model, log entries 2 and 15).
-/
namespace Sys2Proof.Machine

/-- What happens at an empty queue: one tick of the time clock (R176), and a soft error if one comes; nothing without
power. -/
def State.idle (s : State) : State := if s.dead then s else s.timeTick.upset

/-- One step. -/
def step (s : State) : Host.Outcome State Fault Refusal :=
  match s.pending with
  | [] => .next s.idle
  | c :: rest => exec c { s with pending := rest }

/-- A state with the command a word spells at the front of its queue; unchanged where the word spells none. -/
def State.withFetchWord (s : State) (nbits w : Nat) : State :=
  match decodeTableWord nbits w with
  | some c => { s with pending := c :: s.pending }
  | none => s

end Sys2Proof.Machine
end

