-- ==== Sys2Proof/Safety.lean ====
section
/-!
DEFINITION. What counts as a safe run: every step answers a next state, and every state is held in canonical form.
-/
namespace Sys2Proof

/-- What a master's last completed access left at it: the value it answered and its code. -/
def Machine.State.lastOf (s : Machine.State) (m : Master) : Machine.Resp :=
  Machine.Tab.get (fun _ => {}) s.resp (Machine.Master.id m)

/-- Whether the machine goes on for k steps from a state, with no fault and no refusal. -/
def Safety.runs (k : Nat) (s : Machine.State) : Bool :=
  match core.run k s with
  | .next _ => true
  | .fault _ => false
  | .refused _ => false

/-- Whether the register file, the banked registers, the shadows and the memories are held in canonical form: keys
rising, no entry at its default. -/
def Safety.canonical (s : Machine.State) : Bool :=
  Machine.Tab.wf Machine.resetOf s.regs && Machine.Tab.wf (fun _ => (0 : Word)) s.bank
  && Machine.Tab.wf (fun _ => (none : Option Machine.Shadow)) s.shadow && Machine.Tab.wf (fun _ => (none : Option Word)) s.lows
  && Machine.Memory.wf s

/-- The invariant every step keeps: the canonical form, and the lifecycle fuses in their order, F only behind P
(R514). -/
def Safety.inv (s : Machine.State) : Bool := Safety.canonical s && (!s.fuse.f || s.fuse.p)

/-- Whether every fuse blown in u is blown in v, and every root hash set in u stands in v (R514 to R516). -/
def Safety.burnt (u v : Machine.Fuses) : Bool :=
  (!u.p || v.p) && (!u.f || v.f) && (!u.d || v.d) && (!u.debugClosed || v.debugClosed)
  && (!u.revoked0 || v.revoked0) && (!u.revoked1 || v.revoked1)
  && (u.root0.isNone || u.root0 == v.root0) && (u.root1.isNone || u.root1 == v.root1)

end Sys2Proof
end

