-- ==== Sys2Proof/WellFormed.lean ====
section
/-!
DEFINITION. Which commands a sender can form: an ill-formed one carries operands outside the format its row gives it.
Every other bound stands in the operands' types.
-/
namespace Sys2Proof

/-- Whether a command is well-formed: a header register belongs to a register page, a whole push holds an item, a
UART reply a byte, a self-test ends with a QREASON of a self-test, a converter is given the reading of its kind, and
the row for STATUS carries no other row's command byte. -/
def Instr.wellFormed : Instr → Bool
  | .srst _ page => decide (page.toNat < 0x80)
  | .errcClr _ page => decide (page.toNat < 0x80)
  | .evflgClear _ page _ => decide (page.toNat < 0x80)
  | .accessWrite _ page _ => decide (page.toNat < 0x80)
  | .wholePush _ _ payloads => payloads != []
  | .uartEof _ reply _ => reply != []
  | .selfTestEnd _ r => r == 0 || r == 3 || r == 4 || r == 5 || r == 6 || r == 8
  | .portTest _ r => r == 0 || r == 3 || r == 4 || r == 5 || r == 6 || r == 8
  | .converterSample cv (.bits _ _) => decide (cv.val < 16)
  | .converterSample cv (.volts _) => decide (16 ≤ cv.val)
  | .hspiStatus cmd _ => cmd != 0x10 && cmd != 0x20 && cmd != 0x30
  | _ => true

end Sys2Proof
end

