-- ==== Sys2Proof/Certificates/Slice0/Obligations.lean ====
section
/-!
DEFINITION. The statements about the machine: how accesses are judged and completed, what each row of the opcode table
does where its own conditions hold, and what it leaves alone.
-/
open Sys2Proof Sys2Proof.Machine

/-- The queue: a step with a command at the front of the queue is that command carried out on the state with the rest
of the queue. -/
def Obligations.StepRunsFront : Prop :=
  ∀ (s : State) (c : Instr), step { s with pending := c :: s.pending } = exec c s

/-- On an empty queue a powered device lets one tick of the time clock pass and answers a next state; a dead one stays
as it is (a choice of the model, log entry 2). -/
def Obligations.StepOnEmptyQueue : Prop :=
  ∀ s : State, s.pending = [] → step s = .next (if s.dead then s else s.timeTick.upset)

/-- Sparse tables in canonical form are equal as soon as they read alike: equal contents are equal data. -/
def Obligations.CanonicalTablesAgree : Prop :=
  ∀ (d : Nat → Byte) (t u : Tab Byte), Tab.wf d t = true → Tab.wf d u = true →
    (∀ k, Tab.get d t k = Tab.get d u k) → t = u

/-- The Gleaner's words: reading back the word written for a legal instruction gives that instruction (R136, R137). -/
def Obligations.GleanerWordsRoundTrip : Prop :=
  ∀ i : GInstr, i.legal = true → GInstr.decode i.encode = some i

/-- A write reaches its register: with power and outside GUARD, on an assigned register page of an island that takes
accesses, the block READY, a secure transaction where ACCESS asks for one, a writer that is the owner or writes what
R37 lets it write, at an offset that holds a register, with no reserved encoding (R5, R28, R30, R37, R38, R79).

A write that reaches a register page and is refused says why: NOT_READY before the block is READY; SECURITY on a
page that asks for secure transactions; NOT_OWNER for a writer that is neither owner nor exempt; ARG at an offset
that holds no register and for a reserved encoding (R5, R28, R30, R38, R79). -/
def Obligations.WritesAreJudged : Prop :=
  (∀ (s : State) (m : Master) (page off : Nat) (v : Word) (d : RegDef),
       page < 0x80 → s.dead = false → s.pwr.depth ≠ .guard → s.assigned page = true →
       s.unavailable (islandOf page) = false → s.ready page = true → s.insecure m page off = false →
       off ≠ 0x01C → burstTail page off = false →
       (pageKind page = 0x40 → mboxPageMaster off = true → page = 0x40 + Master.id m) →
       (s.isOwner m = true ∨ writeExempt m page off = true) →
       regAt page off = some d → legalWord d v = true → s.writeGate m page off v = .pass) ∧
  (∀ (s : State) (m : Master) (page off : Nat) (v : Word),
       page < 0x80 → s.reachGate m page = .pass → burstTail page off = false → off ≠ 0x01C →
       (s.ready page = false → s.writeGate m page off v = .refuse .notReady) ∧
       (s.ready page = true → s.insecure m page off = true → s.writeGate m page off v = .refuse .security) ∧
       (s.ready page = true → s.insecure m page off = false → s.isOwner m = false → writeExempt m page off = false →
         s.writeGate m page off v = .refuse .notOwner) ∧
       (s.ready page = true → s.insecure m page off = false → s.isOwner m = true → pageKind page ≠ 0x40 →
         regAt page off = none → s.writeGate m page off v = .refuse .arg) ∧
       (s.ready page = true → s.insecure m page off = false → s.isOwner m = true → pageKind page ≠ 0x40 →
         ∀ d, regAt page off = some d → legalWord d v = false → s.writeGate m page off v = .refuse .arg))

/-- A refused register write leaves its code in the page's ERRC and in the writer's MY_RESULT and nothing else in any
register, memory, queue, slot or in the ownership; HSPI gets LASTERR and DEBUG the sticky error (R27, R38). -/
def Obligations.RefusedWriteOnlyLogs : Prop :=
  ∀ (s : State) (m : Master) (page : BitVec 8) (word : BitVec 10) (v : Word) (c : Code) (p off : Nat),
    page.toNat = p → 4 * word.toNat = off → p < 0x80 → s.writeGate m p off v = .refuse c →
    ∃ t, exec (.registerWrite m page word v) s = .next t ∧
      t.lastOf m = { value := 0, code := c } ∧
      t.rg p 0x018 = satField (setField (setField (s.rg p 0x018) 7 0 (Code.num c)) 15 8 (off / 16)) 31 16 1 ∧
      t.own1 m 0x01 0x048 = pack [(0, 8, Code.num c), (8, 8, p), (16, 10, word.toNat)] ∧
      (∀ q o, o < 0x1000 → ¬(q = p ∧ o = 0x018) → t.rg q o = s.rg q o) ∧
      (m = .hspi → t.hspi.lastErr = true) ∧ (m = .debug → t.dbg.sticky = true) ∧
      t.own = s.own ∧ t.ops = s.ops ∧ t.queues = s.queues ∧ t.gran = s.gran ∧ t.flash = s.flash ∧
      t.sense = s.sense ∧ t.gle = s.gle ∧ t.crib = s.crib ∧ t.time = s.time ∧ t.core.x = s.core.x ∧
      t.core.pc = s.core.pc ∧ t.core.csr = s.core.csr

/-- REGISTER_WRITE and REGISTER_READ on registers with no behaviour of their own: a write that passes leaves the
written bits in the register and DONE with the writer, and changes nothing else; a read answers the register's value
and DONE. AON answers for an island that cannot take an access: a write leaves NOT_READY in MY_RESULT and no trace in
ERRC, a read returns 0 but for AON's copies of PID, READY and STAMP (R3, R4, R13, R570).

ERRC_CLR clears ERRC; EVFLG_CLEAR clears the flags written as 1 and the page's interrupt source follows;
ACCESS_WRITE by the owner in a secure transaction sets RD_OWNER, SECURE and LOCK; SRST starts a soft reset of the
block; LINK_CTL_WRITE enables LINK where R421 lets it. A memory window page has no header: such a command is
ill-formed (R23, R25, R26, R29, R569, R421). -/
def Obligations.RegisterAndHeaderRows : Prop :=
  (∀ (s : State) (m : Master) (page : BitVec 8) (word : BitVec 10) (p off : Nat) (v : Word),
       page.toNat = p → 4 * word.toNat = off →
       (∀ d : RegDef, (p, off) ∈ (List.range 8).map (fun i => (0x02, 0x040 + 4 * i)) ++
           [(0x02, 0x070), (0x05, 0x04C), (0x05, 0x050), (0x05, 0x054), (0x06, 0x048), (0x0A, 0x050), (0x3C, 0x054)] →
         regAt p off = some d → s.writeGate m p off v = .pass →
         exec (.registerWrite m page word v) s =
           .next ((s.setRg p off (v &&& BitVec.ofNat 32 d.mask)).answer m 0 .done)) ∧
       (p < 0x80 → 0x040 ≤ off →
         pageKind p ∉ [0x50, 0x0A, 0x19, 0x07, 0x10, 0x08, 0x32, 0x21, 0x28] → pairOf p off = 0 →
         s.readGate m p off = .pass →
         exec (.registerRead m page word) s =
           .next (s.answer m (s.view m p off) .done)) ∧
       (p < 0x80 → s.reachGate m p = .proxy →
         exec (.aonProxyAccess m page word (some v)) s =
           .next (((s.logMine m p off .notReady).portErr m).answer m 0 .notReady) ∧
         (off ≠ 0x020 → off ≠ 0x024 →
           exec (.aonProxyAccess m page word none) s =
             .next (s.answer m (if off = 0x000 ∨ off = 0x004 then s.headerView p off else 0) .done)) ∧
         (off = 0x020 → s.shadowOf m p = none →
           exec (.aonProxyAccess m page word none) s =
             .next ((s.setShadow m p (some { off := 0x020, low := none, high := s.rg p 0x024 })).answer m
               (s.rg p 0x020) .done)) ∧
         (off = 0x024 → s.shadowOf m p = none →
           exec (.aonProxyAccess m page word none) s = .next (s.answer m (s.rg p 0x024) .done)))) ∧
  (∀ (s : State) (m : Master) (page : BitVec 8) (v : Word) (p : Nat), page.toNat = p →
       (p < 0x80 → s.writeGate m p 0x008 0x4 = .pass →
         exec (.errcClr m page) s = .next ((s.setRg p 0x018 0).answer m 0 .done)) ∧
       (p < 0x80 → s.writeGate m p 0x010 v = .pass →
         exec (.evflgClear m page v) s =
           .next (((s.setRg p 0x010 (s.rg p 0x010 &&& ~~~v)).settle s p).answer m 0 .done)) ∧
       (p < 0x80 → s.writeGate m p 0x01C v = .pass →
         exec (.accessWrite m page v) s =
           .next ((s.setRg p 0x01C (pack [(0, 1, bit (flag v 0)),
             (1, 1, bit (flag v 1 || p == 0x04 || p == 0x3A)), (31, 1, bit (flag v 31))])).answer m 0 .done)) ∧
       (p < 0x80 → fixedCtl p = false →
         s.writeGate m p 0x008 (setFlag (s.rg p 0x008 &&& 1) 1 true) = .pass →
         exec (.srst m page) s =
           .next (((s.setRg p 0x008 (s.rg p 0x008)).softReset p).answer m 0 .done)) ∧
       (p < 0x80 → fixedCtl p = true → s.writeGate m p 0x008 0x2 = .pass →
         exec (.srst m page) s = .next (s.reject m p 0x008 .arg)) ∧
       (s.writeGate m 0x2A 0x008 v = .pass → flag v 1 = false → flag v 2 = false →
         (flag v 0 = true → flag (s.rg 0x2A 0x008) 0 = false → s.linkMayEn = true) →
         exec (.linkCtlWrite m v) s =
           .next ((let t := s.setRg 0x2A 0x008 (setFlag (s.rg 0x2A 0x008) 0 (flag v 0))
             if flag v 0 = true ∧ flag (s.rg 0x2A 0x008) 0 = false then { t with link := { t.link with heard := false } }
             else t).answer m 0 .done)) ∧
       (0x80 ≤ p →
         exec (.errcClr m page) s = .fault .illFormed ∧
         exec (.evflgClear m page v) s = .fault .illFormed ∧
         exec (.accessWrite m page v) s = .fault .illFormed ∧
         exec (.srst m page) s = .fault .illFormed))

/-- LOW_WORD_READ, HIGH_WORD_READ, LOW_WORD_WRITE and HIGH_WORD_WRITE: reading the low word fills the reader's shadow in
the page with the high word, or takes the low word a read of the port's VAL kept there; reading the high word of the value
the shadow belongs to takes the shadow, and reads the live word otherwise; writing the low word of a writable value holds
it, and writing the high word writes both halves. Nothing else changes (R34, R109). (Whose value a shadow belongs to, and
the held low words, are the model's choice, log entries 5 and 204; words of an armed alarm are refused by R186.) -/
def Obligations.SixtyFourBitValues : Prop :=
  ∀ (s : State) (m : Master) (page : BitVec 8) (word : BitVec 10) (p off : Nat),
    page.toNat = p → 4 * word.toNat = off → p < 0x80 →
    (pairOf p off = 1 → s.readGate m p off = .pass →
      (s.shadowOf m p).all (fun x => x.low.isNone || x.off != off) = true →
      exec (.lowWordRead m page word) s =
        .next ((s.setShadow m p (some { off := off, low := none, high := s.view m p (off + 4) })).answer m
          (s.view m p off) .done)) ∧
    (∀ (x : Shadow) (w : Word), pairOf p off = 1 → s.readGate m p off = .pass → s.shadowOf m p = some x →
      x.low = some w → x.off = off →
      exec (.lowWordRead m page word) s =
        .next ((s.setShadow m p (some { x with low := none })).answer m w .done)) ∧
    (∀ x : Shadow, pairOf p off = 2 → s.readGate m p off = .pass → s.shadowOf m p = some x → x.off + 4 = off →
      exec (.highWordRead m page word) s = .next ((s.setShadow m p none).answer m x.high .done)) ∧
    (pairOf p off = 2 → s.readGate m p off = .pass → (s.shadowOf m p).all (fun x => x.off + 4 != off) = true →
      exec (.highWordRead m page word) s = .next (s.answer m (s.view m p off) .done)) ∧
    (∀ (v : Word) (d : RegDef), regAt p off = some d → d.pair = 1 → d.acc ≠ .ro → 0x040 ≤ off →
      s.writeGate m p off v = .pass → s.alarmArmed off = false →
      exec (.lowWordWrite m page word v) s =
        .next ((s.setLow m (ra p off) (some v)).answer m 0 .done)) ∧
    (∀ (v lo : Word) (d : RegDef), regAt p off = some d → d.pair = 2 → d.acc ≠ .ro → 0x040 ≤ off →
      s.writeGate m p off v = .pass → s.alarmArmed off = false →
      s.lowOf m (ra p (off - 4)) = some lo →
      exec (.highWordWrite m page word v) s =
        .next ((((s.setLow m (ra p (off - 4)) none).setRg p (off - 4) lo).setRg p off v).answer m 0
          .done))



/-- Unassigned pages: the pages the page map does not list, 0x45 to 0x4F, 0x70 to 0x7F, and the TEST page once
DEBUG_CLOSE is blown. A read of one answers 0; a write is discarded, completes with ARG and is logged in DEVICE.ERRC with
the page number (R20). -/
def Obligations.UnassignedPages : Prop :=
  (∀ p : Nat, p < 0x80 → (pageAssigned p = true ↔ (p ≤ 0x0A ∨ (0x10 ≤ p ∧ p ≤ 0x1E) ∨ (0x20 ≤ p ∧ p ≤ 0x23) ∨
    (0x28 ≤ p ∧ p ≤ 0x2B) ∨ (0x30 ≤ p ∧ p ≤ 0x32) ∨ p = 0x38 ∨ p = 0x3A ∨ p = 0x3C ∨ p = 0x3F ∨
    (0x40 ≤ p ∧ p ≤ 0x44) ∨ (0x50 ≤ p ∧ p ≤ 0x6F)))) ∧
  ∀ (s : State) (m : Master) (page : BitVec 8) (word : BitVec 10) (v : Word) (p : Nat), page.toNat = p →
    s.dead = false → s.pwr.depth ≠ .guard → (pageAssigned p = false ∨ (p = 0x3F ∧ s.fuse.debugClosed = true)) →
    exec (.registerRead m page word) s = .next (s.answer m 0 .done) ∧
    ∃ t, exec (.registerWrite m page word v) s = .next t ∧ t.lastOf m = { value := 0, code := .arg } ∧
      t.rg 0x00 0x018 = satField (setField (setField (s.rg 0x00 0x018) 7 0 (Code.num .arg)) 15 8 p) 31 16 1 ∧
      (∀ q o, o < 0x1000 → ¬(q = 0x00 ∧ o = 0x018) → t.rg q o = s.rg q o) ∧
      t.own.owner = s.own.owner ∧ t.ops = s.ops ∧ t.queues = s.queues ∧ t.gran = s.gran ∧ t.flash = s.flash

/-- Offsets that hold no register: a single-word read of one answers 0; a write of the owner is discarded, completes with
ARG and is logged in the page's ERRC (R30). -/
def Obligations.UnusedOffsets : Prop :=
  ∀ (s : State) (m : Master) (page : BitVec 8) (word : BitVec 10) (v : Word) (p off : Nat),
    page.toNat = p → 4 * word.toNat = off → p < 0x80 → regAt p off = none → burstTail p off = false →
    s.reachGate m p = .pass → s.insecure m p off = false →
    ((off < 0x040 ∨ flag (s.rg p 0x01C) 0 = false ∨ s.isOwner m = true) →
      exec (.registerRead m page word) s = .next (s.answer m 0 .done)) ∧
    (s.ready p = true → s.isOwner m = true → off ≠ 0x01C →
      (pageKind p = 0x40 → mboxPageMaster off = true → p = 0x40 + Master.id m) →
      ∃ t, exec (.registerWrite m page word v) s = .next t ∧ t.lastOf m = { value := 0, code := .arg } ∧
        t.rg p 0x018 = satField (setField (setField (s.rg p 0x018) 7 0 (Code.num .arg)) 15 8 (off / 16)) 31 16 1 ∧
        (∀ q o, o < 0x1000 → ¬(q = p ∧ o = 0x018) → t.rg q o = s.rg q o) ∧
        t.own.owner = s.own.owner ∧ t.ops = s.ops ∧ t.queues = s.queues ∧ t.gran = s.gran ∧ t.flash = s.flash)

/-- Electing an owner: a CLAIM with its key and a period, by a master of priority above 0 on an ownerless device, opens
the claim window and is lodged in it, or joins the open window in place of the master's earlier claim; at the close
the winner becomes owner, with a new epoch and the period it claimed (R40, R41, R49). -/
def Obligations.Election : Prop :=
  ∀ (s : State) (m : Master) (v : Word),
    (s.writeGate m 0x01 0x04C v = .pass → field v 31 24 = 0xC7 → 1 ≤ field v 15 0 → field v 15 0 ≤ 60000 →
      s.prio m ≠ 0 → s.own.owner = none → s.own.window = none →
      exec (.claim m v) s =
        .next ((({ s with own := { s.own with window := some (s.after (usTime 100)), claims := [(m, field v 15 0)] } }
          : State).evLevel 0x01 2 true).answer m 0 .done)) ∧
    (∀ t, s.writeGate m 0x01 0x04C v = .pass → field v 31 24 = 0xC7 → 1 ≤ field v 15 0 → field v 15 0 ≤ 60000 →
      s.prio m ≠ 0 → s.own.owner = none → s.own.window = some t → s.now < t →
      exec (.claim m v) s =
        .next (({ s with own := { s.own with
            claims := s.own.claims.filter (fun c => c.1 != m) ++ [(m, field v 15 0)] } } : State).answer m 0 .done)) ∧
    (∀ t w period, s.own.window = some t → s.winner = some (w, period) →
      ∃ u, exec .claimWindowClose s = .next u ∧ u.own.owner = some w ∧ u.own.epoch = s.own.epoch + 1 ∧
        u.own.period = period ∧ u.own.window = none ∧ u.own.claims = [] ∧ u.gran = s.gran ∧ u.flash = s.flash ∧
        u.core = s.core ∧ u.bank = s.bank)

/-- The close of a claim window goes to the highest priority, and among equals to the lower master ID (R40). -/
def Obligations.WinnerHasHighestPriority : Prop :=
  ∀ (s : State) (w : Master × Nat), s.winner = some w →
    w ∈ s.own.claims ∧
    ∀ c ∈ s.own.claims, s.prio c.1 < s.prio w.1 ∨ (s.prio c.1 = s.prio w.1 ∧ Master.id w.1 ≤ Master.id c.1)

/-- Keeping and giving up ownership: LEASE restarts the period; a lapse, a RELEASE and an expired or accepted handover
change owner, epoch and the pending handover as R42 to R49 say; AUDIT_FLUSH moves the buffered audit entries into the
ring once FLASH is READY and clocked (R302). -/
def Obligations.LeaseAndHandover : Prop :=
  ∀ (s : State) (m : Master) (v : Word),
    (s.writeGate m 0x01 0x050 v = .pass → s.own.owner = some m → s.leaseOver = false →
      field v 15 0 = s.own.epoch.toNat → field v 31 16 ≤ 60000 →
      exec (.lease m v) s =
        .next ((s.startLease (if field v 31 16 = 0 then s.own.period else field v 31 16)).answer m 0 .done)) ∧
    (s.own.owner = some m → s.own.held = none →
      ∃ u, exec .leaseLapse s = .next u ∧ u.own.owner = none ∧ u.own.epoch = s.own.epoch + 1 ∧
        u.own.handover = none ∧ u.gran = s.gran ∧ u.flash = s.flash ∧ u.core = s.core) ∧
    (∀ t, s.writeGate m 0x01 0x058 v = .pass → s.own.owner = some m → s.leaseOver = false →
      masterOf (field v 2 0) = some t → t ≠ m →
      field v 31 24 = 0x4B → s.prio t ≠ 0 → (t = .debug → s.fuse.debugClosed = false) →
      (t = .radio → s.link.mgmt.isSome = true) →
      exec (.handover m v) s =
        .next ((({ s with own := { s.own with handover := some (t, s.after (msTime 10)) } } : State).evLevel 0x01 3
          true).answer m 0 .done)) ∧
    (∀ t due, s.own.handover = some (t, due) → s.own.held = none →
      exec .hoExpired s =
        .next ((({ (s.reach due) with own := { s.own with handover := none } } : State).evLevel 0x01 3 false).evPulse
          0x01 4)) ∧
    (∀ due, s.writeGate m 0x01 0x05C v = .pass → field v 31 24 = 0x4B → 1 ≤ field v 15 0 → field v 15 0 ≤ 60000 →
      s.own.handover = some (m, due) → s.now < due → s.leaseOver = false → s.prio m ≠ 0 →
      ∃ u, exec (.accept m v) s = .next u ∧ u.own.owner = some m ∧ u.own.epoch = s.own.epoch + 1 ∧
        u.own.period = field v 15 0 ∧ u.own.handover = none ∧ u.lastOf m = { value := 0, code := .done } ∧
        u.gran = s.gran ∧ u.flash = s.flash) ∧
    (s.writeGate m 0x01 0x060 v = .pass → s.own.owner = some m → s.leaseOver = false → v = BitVec.ofNat 32 s.own.epoch.toNat →
      ∃ u, exec (.ownRelease m v) s = .next u ∧ u.own.owner = none ∧ u.own.epoch = s.own.epoch + 1 ∧
        u.own.handover = none ∧ u.lastOf m = { value := 0, code := .done } ∧ u.gran = s.gran ∧ u.flash = s.flash) ∧
    (s.flashUp = true →
      exec .auditFlush s = .next { s with opt := { s.opt.program s.opt.buffer with buffer := [] } } ∧
      (s.opt.program s.opt.buffer).number = s.opt.number + BitVec.ofNat 16 s.opt.buffer.length)

/-- Readiness: BLOCK_READY raises READY of a block that may start, with SRST back at 0 and READY stamped;
BLOCK_START_FAIL gives FAULT to one that has not started by its limit (R24, R82).

OPTION_LOAD takes the newer valid copy of the option area, or the shipped words where neither is valid, into the
shadow; OPTION_COPY_REWRITE makes the other copy equal to it once FLASH is READY (R85). -/
def Obligations.Starts : Prop :=
  (∀ (s : State) (page : BitVec 8) (p : Nat), page.toNat = p →
       (s.mayReady p = true → exec (.blockReady page) s = .next (s.raiseReady p)) ∧
       (s.mayReady p = true → p ∈ [0x00, 0x01, 0x05, 0x06, 0x07, 0x08, 0x09, 0x0A] → flag (s.rg p 0x008) 1 = false →
         exec (.blockReady page) s =
           .next ((((s.setRg p 0x008 (setFlag (s.rg p 0x008) 1 false)).setReadyBits p (fun w => setFlag w 0 true)).stampWake
             p).syncWdt)) ∧
       (∀ g, startGroup p = some g → s.assigned p = true → s.dead = false → s.ready p = false → flag (s.rg p 0x004) 2 = false →
         s.unavailable (islandOf p) = false → (5 ≤ g → s.groupSupply g = true) →
         exec (.blockStartFail page) s =
           .next (((s.reach (s.startLimit p)).setReadyBits p (fun w => setFlag (setFlag w 2 true) 0 false)).faultRec 0x0F p
             g))) ∧
  (∀ s : State,
       (s.mayLoadOption = true →
         ∃ t, exec .optionLoad s = .next t ∧ t.opt = s.opt.choose ∧ t.opt.loaded = true ∧
           (s.opt.copy0.valid = true → s.opt.copy1.valid = true → s.opt.copy0.seq < s.opt.copy1.seq →
             t.opt.shadow = s.opt.copy1.words) ∧
           (s.opt.copy0.valid = true → s.opt.copy1.valid = true → ¬ s.opt.copy0.seq < s.opt.copy1.seq →
             t.opt.shadow = s.opt.copy0.words) ∧
           (s.opt.copy0.valid = false → s.opt.copy1.valid = true → t.opt.shadow = s.opt.copy1.words) ∧
           (s.opt.copy0.valid = false → s.opt.copy1.valid = false → t.opt.shadow = []) ∧
           t.own = s.own ∧ t.gran = s.gran ∧ t.core = s.core ∧ t.time = s.time) ∧
       (∀ c : OptionCopy, c.valid = true ↔ c.header = 0x96400F0A ∧ c.crc = c.areaCrc) ∧
       (s.opt.rewrite = true → s.flashUp = true →
         exec .optionCopyRewrite s =
           .next { s with opt := { s.opt with
             copy0 := s.opt.current, copy1 := s.opt.current, rewrite := false, found := 3 } }))

/-- Mailboxes: a POST with a length of 1 to 16 fills its direction, and a TAKE of a full direction empties it, each
with DONE; the levels of the page follow (R55, R56).

Operation slots: DOORBELL takes a FREE slot, QUEUED with the page, operation, arguments and order of the
submission; CANCEL ends a QUEUED one ABORTED; an operation that may start and that no window holds back starts; one
that has its result ends HELD with its code and the TIME its block finished; and the oldest HELD record is placed in Q0, its slot FREE again
(R58 to R68). -/
def Obligations.MailboxesAndSlots : Prop :=
  (∀ (s : State) (m : Master) (box : Fin 5) (v : Word) (st : Word), st = s.rg (0x40 + box.val) 0x080 →
       (s.writeGate m (0x40 + box.val) 0x084 v = .pass → 1 ≤ field v 4 0 → field v 4 0 ≤ 16 → flag st 0 = false →
         exec (.outPost m box v) s =
           .next ((s.setMbox box.val (setField (setFlag st 0 true) 20 16 (field v 4 0))).answer m 0 .done)) ∧
       (s.writeGate m (0x40 + box.val) 0x088 v = .pass → flag v 0 = true → flag st 0 = true →
         exec (.outTake m box v) s = .next ((s.setMbox box.val (setFlag st 0 false)).answer m 0 .done)) ∧
       (s.writeGate m (0x40 + box.val) 0x08C v = .pass → 1 ≤ field v 4 0 → field v 4 0 ≤ 16 → flag st 1 = false →
         exec (.inPost m box v) s =
           .next ((s.setMbox box.val (setField (setFlag st 1 true) 28 24 (field v 4 0))).answer m 0 .done)) ∧
       (s.writeGate m (0x40 + box.val) 0x090 v = .pass → flag v 0 = true → flag st 1 = true →
         exec (.inTake m box v) s = .next ((s.setMbox box.val (setFlag st 1 false)).answer m 0 .done))) ∧
  (∀ (s : State) (m : Master) (v : Word) (tag : Fin 128),
       (∀ n s1, s.writeGate m 0x02 0x060 v = .pass → field v 15 8 ∈ opPages → field v 19 16 ≤ 8 →
         s.allocSlot (Master.id m) (field v 15 8) (field v 7 0) (s.opsArgs (field v 19 16)) (flag v 24) (s.secure m) =
           some (n, s1) →
         ∃ u, exec (.doorbell m v) s = .next u ∧ u.lastOf m = { value := 0, code := .done } ∧
           u.rg 0x02 0x064 = pack [(0, 7, n), (7, 1, 1), (8, 8, 0), (16, 16, s.own.epoch.toNat)] ∧
           (u.slot n).st = .queued ∧ (u.slot n).page = BitVec.ofNat 8 (field v 15 8) ∧
           (u.slot n).op = BitVec.ofNat 8 (field v 7 0) ∧ (u.slot n).args = s.opsArgs (field v 19 16) ∧
           (u.slot n).order = s.ops.accepted ∧ (s.slot n).st = .free ∧
           (∀ j, j ≠ n → u.slot j = s.slot j) ∧ u.gran = s.gran ∧ u.flash = s.flash) ∧
       (s.writeGate m 0x02 0x068 v = .pass → (s.slot (field v 6 0)).st = .queued →
         exec (.cancel m v) s = .next ((s.endSlot (field v 6 0) .aborted).answer m 0 .done)) ∧
       (s.dead = false → s.mayStart tag.val = true → s.deferred (s.slot tag.val) = false →
         exec (.operationStart tag) s = .next ((s.startSlot tag.val).beginOp tag.val)) ∧
       (∀ c, (s.slot tag.val).st = .running → (s.slot tag.val).result = some c →
         ∃ u, exec (.operationEnd tag) s = .next u ∧ (u.slot tag.val).st = .held ∧ (u.slot tag.val).code = c ∧
           (u.slot tag.val).stamp = (s.slot tag.val).ended ∧ (∀ j, j ≠ tag.val → u.slot j = s.slot j) ∧ u.gran = s.gran ∧
           u.flash = s.flash ∧ u.own = s.own) ∧
       (∀ n s1, s.dead = false → s.oldestHeld = some n → s.recordRoom = true →
         s.blockPush 0 (recordPayloads n (s.slot n)) = (s1, .done) →
         exec .recordPush s = .next ((s1.putSlot n { s1.slot n with st := .free }).retryTags.retryAuto)))


/-- Right after reset every register holds its reset value, no block is READY, the device is ownerless, TIME is 0, every
slot is FREE, nothing is waiting, and the memories list nothing (R6, R58, R78, R94). Reset values the spec does not
state are the model's (log entry 3). -/
def Obligations.ResetState : Prop :=
  (∀ page off, State.reset.rg page off = resetOf (ra page off)) ∧
  (∀ page, page < 0x100 → State.reset.ready page = false) ∧
  State.reset.own.owner = none ∧ State.reset.own.epoch = 0 ∧ State.reset.now = 0 ∧
  (∀ tag, (State.reset.slot tag).st = .free) ∧ (∀ q, (State.reset.queue q).items = []) ∧
  State.reset.pending = [] ∧ State.reset.gran.sram = [] ∧ State.reset.flash.cells = [] ∧
  Safety.canonical State.reset = true

/-- Power-on reset: POR takes the rail away; POR_RELEASE starts the device with every register at its reset value,
ownerless, TIME 0, no slot in use, SRAM and queues empty; the fuses, the flash array, the persistent keys and what waits
outside stay (R50, R76, R78, R86, R94). A GROUP_WRITE cut off by it is settled first (R301).

SYSTEM and ISLAND resets: RESET_N falling, SYS_RST with its key and the debug port's request start a SYSTEM reset
of every island but AON; ISL_RST with its key resets the islands it names, AON excepted; a wrong key, AON or an empty
mask is refused with ARG. RESET_N rising returns the test port to IDCODE from an instruction that needs RESET_N low
(R86, R87, R88, R93, R549).

The release of a reset: the SYSTEM reset's islands leave reset once RESET_N is high, with a start recorded as a wake
(R87, R94); an ISLAND, WATCHDOG or TAMPER reset's islands leave reset when it is due, and of overlapping resets all at the latest release
(R88, R90). -/
def Obligations.Resets : Prop :=
  (∀ s : State,
       exec .por s = .next { s with pwr := { s.pwr with por := true, vin := false } } ∧
       (s.pwr.por = true →
         ∃ t, exec .porRelease s = .next t ∧ t.pwr.por = false ∧ t.pwr.resets = [] ∧ t.own = {} ∧ t.ops = {} ∧
           t.time = {} ∧ t.core = {} ∧ t.queues = [] ∧ t.gran = {} ∧ t.fuse = s.fuse ∧ t.flash.cells = s.flash.cells ∧
           t.flash.marks = s.flash.marks ∧ t.crib.keys = s.crib.keys.filter (fun k => k.2.persist) ∧
           t.opt.loaded = false ∧ t.opt.writing = none ∧ t.pending = s.pending ∧
           (∀ p o, o < 0x1000 → ¬(p = 0x1E ∧ o = 0x068) → t.rg p o = resetOf (ra p o)))) ∧
  (∀ (s : State) (m : Master) (v : Word),
       (s.dead = false → s.pwr.resetN = true →
         exec .resetNLow s = .next (({ s with pwr := { s.pwr with resetN := false } } : State).applyReset 3 0xF 0x1FE
           (usTime 180))) ∧
       (s.dead = true ∨ s.pwr.resetN = false → exec .resetNLow s = .next { s with pwr := { s.pwr with resetN := false } }) ∧
       (s.tap.ir ≠ 0 → s.tap.ir ≠ 3 → exec .resetNHigh s = .next { s with pwr := { s.pwr with resetN := true } }) ∧
       (s.tap.ir = 0 ∨ s.tap.ir = 3 →
         exec .resetNHigh s = .next { s with pwr := { s.pwr with resetN := true }, tap := { ir := 1 } }) ∧
       (s.writeGate m 0x05 0x11C v = .pass → field v 31 24 = 0xA5 →
         exec (.sysRst m v) s = .next ((s.applyReset 4 (Master.id m) 0x1FE (usTime 180)).answer m 0 .done)) ∧
       (s.writeGate m 0x05 0x11C v = .pass → field v 31 24 ≠ 0xA5 →
         exec (.sysRst m v) s = .next (s.reject m 0x05 0x11C .arg)) ∧
       (s.dead = false → s.fuse.debugClosed = false →
         exec .debugResetRequest s = .next (s.applyReset 4 4 0x1FE (usTime 180))) ∧
       (s.writeGate m 0x05 0x118 v = .pass → field v 31 24 = 0x5A → flag v 0 = false → field v 8 0 ≠ 0 →
         exec (.islRst m v) s =
           .next ((s.applyReset 5 (Master.id m) (BitVec.ofNat 9 (field v 8 0)) (usTime 10)).answer m 0 .done)) ∧
       (s.writeGate m 0x05 0x118 v = .pass → field v 31 24 ≠ 0x5A ∨ flag v 0 = true ∨ field v 8 0 = 0 →
         exec (.islRst m v) s = .next (s.reject m 0x05 0x118 .arg))) ∧
  (∀ (s : State) (r : ResetRun),
       (s.pwr.resets.find? (fun x => x.kind == 3 || x.kind == 4) = some r → s.pwr.resetN = true → s.dead = false →
         exec .systemRelease s =
           .next ((((((s.reach r.due).release r).beginStarts [0x03] true).startPower).recordWake 0x02 r.origin false
             true).refreshPower)) ∧
       (s.pwr.resets.find? (fun x => decide (5 ≤ x.kind)) = some r → s.dead = false →
         exec .islandRelease s = .next (((s.reach r.due).release r).refreshPower)) ∧
       ((s.release r).pwr.resets =
           (s.pwr.resets.erase r).filter (fun x => decide (x.kind ≤ 4) || decide (s.now < x.due)) ∧
         (s.release r).pwr.inReset = (if (s.release r).pwr.resets = [] then 0 else s.pwr.inReset) ∧
         (s.release r).regs = s.regs ∧ (s.release r).own = s.own))


/-- Sleep requests: SLEEP with its key to a state some enabled source can wake from leaves the request pending until
SLEEP_TMO's time; once its conditions hold the device enters STANDBY, GUARD or OFF; at the timeout the request is
dropped and TMO raised; a wake that fires first abandons it (R450 to R452, R455).

Waking: an enabled source sets its bit in WAKE_PEND, and one that may wake from STANDBY or GUARD starts the exit, recorded with the state left; at its
end the device is awake; a TCXO that is late in leaving GUARD is counted; PMU_WAKE_N takes the device out of OFF as a
power-on does (R452 to R456). -/
def Obligations.SleepAndWaking : Prop :=
  (∀ (s : State) (m : Master) (v : Word) (source : BitVec 8),
       (s.writeGate m 0x05 0x044 v = .pass → field v 31 24 = 0x6D → field v 1 0 ≠ 3 → s.pwr.sleep = none →
         (field v 1 0 = 1 → s.pwr.xtal = true) → (field v 1 0 ≤ 1 → s.canWake (field v 1 0 == 1) = true) →
         exec (.sleep m v) s =
           .next ((({ s with pwr := { s.pwr with
               sleep := some (SleepReq.mk (field v 1 0) (s.after (msTime (field (s.rg 0x05 0x04C) 15 0))) s.pstate.num)
               } } : State).setRg 0x05 0x048 (setFlag (setField (s.rg 0x05 0x048) 1 0 (field v 1 0)) 2 true)).answer m 0
             .done)) ∧
       (∀ r, s.pwr.sleep = some r → s.sleepReady r.target = true → (s.wakeEnabled 0x10 && s.wakeCond) = false →
         s.pwr.exit = none → s.dead = false → s.pwr.depth = .awake → r.target < 3 →
         ∃ t, exec .sleepEntry s = .next t ∧ t.pwr.sleep = none ∧
           t.pwr.depth = (if r.target = 0 then .standby else if r.target = 1 then .guard else .off)) ∧
       (∀ r, s.pwr.sleep = some r → s.sleepReady r.target = false →
         exec .sleepTmo s =
           .next ((((s.reach r.due).dropSleep).updRg 0x05 0x048 (fun w => setFlag w 3 true)).evPulse 0x05 3)) ∧
       (∀ r, s.pwr.sleep = some r → s.dead = false → s.wakeEnabled source.toNat = true → source ≠ 0x10 →
         exec (.sleepAborted source) s =
           .next ((((s.pendWake source.toNat).dropSleep).recordWake source.toNat r.origin true false).evPulse 0x05 2))) ∧
  (∀ (s : State) (source : BitVec 8),
       (s.dead = false → s.wakeEnabled source.toNat = true → source ≠ 0x10 → s.pwr.sleep = none → s.pwr.exit = none →
         ((s.pwr.depth = .standby ∧ (wakesFrom source.toNat).1 = true) ∨
           (s.pwr.depth = .guard ∧ (wakesFrom source.toNat).2 = true)) →
         exec (.wake source) s =
           .next ((({ (s.pendWake source.toNat) with pwr := { s.pwr with exit := some (s.pwr.depth, s.now) } }
             : State).recordWake source.toNat s.pstate.num false false).evPulse 0x05 1)) ∧
       (s.dead = false → s.wakeEnabled source.toNat = true → source ≠ 0x10 → s.pwr.sleep = none → s.pwr.depth = .awake →
         exec (.wake source) s = .next (s.pendWake source.toNat)) ∧
       (∀ d t, s.pwr.exit = some (d, t) → s.dead = false → d = .standby ∨ d = .guard →
         ∃ u, exec .exitComplete s = .next u ∧ u.pwr.depth = .awake ∧ u.pwr.exit = none) ∧
       (∀ t, s.pwr.exit = some (.guard, t) →
         exec .tcxoLate s =
           .next (((s.reach (t + BitVec.ofNat 64 (usTime (field (s.rg 0x06 0x048) 15 0)))).updRg 0x06 0x04C
             (fun w => satField w 7 0 1)).evPulse 0x06 1)) ∧
       (s.pwr.por = false → s.pwr.depth = .off →
         ∃ u, exec .pmuWakeN s = .next u ∧ u.pwr.depth = .awake ∧ u.own = {} ∧ u.time = {} ∧ u.gran = {} ∧
           u.fuse = s.fuse ∧ u.flash.cells = s.flash.cells))

/-- Operating points: VCORE starts a step that settles 20 µs a point later; VOLTAGE_SETTLED ends it with VSTAT at the
new point and its voltage; CORE_OPP takes a point the voltage in force carries (R457, R459, R460). -/
def Obligations.OperatingPoints : Prop :=
  ∀ (s : State) (m : Master) (v : Word) (p now : Nat),
    p = field v 1 0 → now = field (s.rg 0x05 0x064) 1 0 →
    (s.writeGate m 0x05 0x060 v = .pass → p ≠ 3 → flag (s.rg 0x05 0x064) 2 = false →
      field (s.rg 0x06 0x040) 1 0 ≤ p → p ≠ now →
      exec (.vcoreWrite m v) s =
        .next (((({ s with pwr := { s.pwr with settle := some (s.after (usTime (20 * ((p - now) + (now - p)))), p) } }
          : State).setRg 0x05 0x060 (BitVec.ofNat 32 p)).setRg 0x05 0x064 (setFlag (s.rg 0x05 0x064) 2 true)).answer m 0
          .done)) ∧
    (s.writeGate m 0x05 0x060 v = .pass → p ≠ 3 → flag (s.rg 0x05 0x064) 2 = false →
      field (s.rg 0x06 0x040) 1 0 ≤ p → p = now →
      exec (.vcoreWrite m v) s = .next ((s.setRg 0x05 0x060 (BitVec.ofNat 32 p)).answer m 0 .done)) ∧
    (∀ t q, s.pwr.settle = some (t, q) →
      ∃ u, exec .voltageSettled s = .next u ∧ u.pwr.settle = none ∧
        u.rg 0x05 0x064 = pack [(0, 2, q), (8, 12, 650 + 100 * q)] ∧ u.own = s.own ∧ u.gran = s.gran ∧
        (∀ a b, b < 0x1000 → ¬(a = 0x05 ∧ b = 0x064) → u.rg a b = s.rg a b)) ∧
    (s.writeGate m 0x06 0x040 v = .pass → p ≠ 3 → p ≤ now → flag (s.rg 0x05 0x064) 2 = false →
      (flag (s.rg 0x05 0x120) 0 = true → p = 0) → (flag (s.rg 0x05 0x06C) 10 = true → p ≤ 1) →
      exec (.coreOppWrite m v) s = .next ((s.setRg 0x06 0x040 (BitVec.ofNat 32 p)).answer m 0 .done))

/-- Supplies and clocks: VIN below VIN_LOW sets RIDE and takes the core to OPP0 with the supply gone; below VIN_CUT in
ride-through every island but AON is reset and without power; VIN above VIN_OK lifts the ride-through, or ends the cut
(R95, R96). The crystal and the TCXO start (R78); the TCXO's loss and return change the source of TIME and CLOCK's level
(R177, R463).

The I/O banks and the test port: a bank's supply goes and comes and its ports follow (R545); TAP_IR_UPDATE puts
the instruction a code names in force, BYPASS for one that is closed or needs RESET_N low (R516, R548, R549). -/
def Obligations.SuppliesAndClocks : Prop :=
  (∀ s : State, s.dead = false → s.pwr.vin = true → s.pwr.cut = false →
    ∃ t, exec .vinLow s = .next t ∧ t.pwr.vin = false ∧ flag (t.rg 0x05 0x120) 0 = true ∧ t.phy.tx = none ∧
      t.rg 0x06 0x040 = 0) ∧
  (∀ s : State, s.dead = false → flag (s.rg 0x05 0x120) 0 = true →
    ∃ t, exec .vinCut s = .next t ∧ t.pwr.cut = true ∧ t.pwr.inReset = s.pwr.inReset ||| 0x1FE) ∧
  (∀ s : State, s.dead = false → s.pwr.vin = false → s.pwr.cut = false → flag (s.rg 0x05 0x120) 0 = true →
    exec .vinOk s =
      .next ((((({ s with pwr := { s.pwr with vin := true } } : State).setRide false).updRg 0x05 0x120
        (fun w => setFlag w 1 false)).supplyBack (List.range 18)).refreshPower)) ∧
  (∀ s : State, s.dead = false → s.pwr.vin = false → s.pwr.cut = true →
    ∃ t, exec .vinOk s = .next t ∧ t.pwr.vin = true ∧ t.pwr.cut = false) ∧
  (∀ s : State, s.dead = false → exec .crystalStart s = .next { s with pwr := { s.pwr with xtal := true } }) ∧
  (∀ s : State, s.dead = false → s.pwr.tcxo = false → s.pwr.lost = false → s.pwr.depth ≠ .guard →
    ∃ t, exec .tcxoStable s = .next t ∧ t.pwr.tcxo = true ∧ t.time.src = .tcxo) ∧
  (∀ s : State, s.dead = false → s.pwr.tcxo = true →
    ∃ t, exec .tcxoLoss s = .next t ∧ t.pwr.tcxo = false ∧ t.pwr.lost = true ∧
      t.time.src = (if s.pwr.xtal then .crystal else .rc)) ∧
  (∀ s : State, s.dead = false → s.pwr.lost = true →
    ∃ t, exec .tcxoReturn s = .next t ∧ t.pwr.tcxo = true ∧ t.pwr.lost = false ∧ t.time.src = .tcxo) ∧
  (∀ (s : State) (b : Bool),
    ∃ t, exec (.vioSupplyLoss b) s = .next t ∧ (if b then t.pwr.vioB else t.pwr.vioA) = false ∧ t.core = s.core ∧
      t.gran = s.gran) ∧
  (∀ (s : State) (b : Bool),
    ∃ t, exec (.vioSupplyReturn b) s = .next t ∧ (if b then t.pwr.vioB else t.pwr.vioA) = true ∧ t.core = s.core ∧
      t.gran = s.gran) ∧
  (∀ (s : State) (code : BitVec 5),
    exec (.tapIrUpdate code) s = .next { s with tap := { ir :=
      if code = 1 ∨ code = 2 then code
      else if code = 0 ∨ code = 3 then (if s.pwr.resetN then 0x1F else code)
      else if code = 0x10 ∨ code = 0x11 then (if s.fuse.debugClosed then 0x1F else code)
      else 0x1F } })

/-- Watchdogs: the core's WDT_KICK with its key restarts the count; WDT_CFG, unless locked, is stored and a changed
TIMEOUT restarts it; at WARN the warning is raised once; at expiry CORE is reset and the fault recorded (R533 to R535,
R540). Heartbeats go to the islands that run, and an island that misses one is recorded, and reset where RESET_EN names
it (R536). -/
def Obligations.WatchdogsAndHeartbeats : Prop :=
  ∀ (s : State) (m : Master) (v : Word) (i : Fin 9),
    (s.writeGate .core 0x3C 0x048 v = .pass → field v 15 0 = 0xC35A →
      (s.svc.normal.running = true → s.svc.normal.remaining s.now ≠ 0) →
      exec (.wdtKick .core v) s = .next (s.restartWdt.answer .core 0 .done)) ∧
    (s.writeGate m 0x3C 0x044 v = .pass → flag (s.rg 0x3C 0x044) 31 = false →
      field (s.rg 0x3C 0x044) 15 0 = field v 15 0 →
      exec (.wdtCfgWrite m v) s = .next ((s.setRg 0x3C 0x044 (v &&& 0x81FFFFFF)).syncWdt.answer m 0 .done)) ∧
    (s.writeGate m 0x3C 0x044 v = .pass → flag (s.rg 0x3C 0x044) 31 = false →
      field (s.rg 0x3C 0x044) 15 0 ≠ field v 15 0 →
      exec (.wdtCfgWrite m v) s =
        .next ((s.setRg 0x3C 0x044 (v &&& 0x81FFFFFF)).restartWdt.syncWdt.answer m 0 .done)) ∧
    (s.dead = false → field (s.rg 0x3C 0x044) 23 16 ≠ 0 → s.svc.normal.running = true →
      s.svc.normal.counting = true → s.svc.normal.warned = false →
      s.wdtFull * field (s.rg 0x3C 0x044) 23 16 / 256 ≤ s.svc.normal.left →
      ∃ t, exec .wdtWarn s = .next t ∧ t.svc.normal.warned = true ∧ t.svc.normal.left = s.svc.normal.left ∧
        t.core = s.core ∧ t.gran = s.gran) ∧
    (∀ unconf : Bool, s.dead = false → (if unconf then s.svc.unconf else s.svc.normal).running = true →
      (if unconf then s.svc.unconf else s.svc.normal).counting = true →
      ∃ t, exec (.wdtExpiry unconf) s = .next t ∧ t.core.released = false ∧ t.core.pc = 0) ∧
    (s.dead = false →
      exec .heartbeat s = .next { s with svc := { s.svc with
        beats := s.svc.beats.filter (fun b => ((islands.filter s.beats).map Island.bit).contains b.1 &&
            decide (s.now ≤ b.2 + BitVec.ofNat 64 (msTime (field (s.rg 0x3C 0x054) 7 0)))) ++
          (islands.filter s.beats).map (fun k => (Island.bit k, s.now)) } }) ∧
    (∀ x, s.svc.beats.find? (fun b => b.1 == i.val) = some x → flag (s.rg 0x3C 0x054) (16 + i.val) = false →
      ∃ t, exec (.heartbeatMiss i) s = .next t ∧ flag (t.rg 0x3C 0x058) i.val = true ∧
        t.svc.beats = s.svc.beats.filter (fun b => b.1 != i.val) ∧ t.core = s.core ∧ t.gran = s.gran)

/-- Configuring ports: a legal PCFG, AUX or XBAR write is stored in the bits its mode defines and takes effect at its port or converter, a
continuously running SAR ending its sample where it is; a reserved
AUX is refused with ARG, and a crossbar connection to a port that is neither AIN, DIFF nor LOOP with STATE (R100 to
R105, R110, R115, R116). -/
def Obligations.PortConfiguration : Prop :=
  ∀ (s : State) (m : Master) (p : Fin 64) (cv : Fin 20) (v : Word),
    (s.writeGate m (portPage p.val) (portOff p.val 0) v = .pass →
      auxLegal (field v 3 0) (s.auxReg p.val) = true →
      (field v 8 6 = 0 ∨ ((field v 3 0 = 1 ∨ (field v 3 0 = 2 ∧ p.val % 2 = 0)) ∧
        ∀ q, q < 64 → q ≠ p.val → field (s.pcfgReg q) 8 6 ≠ field v 8 6)) →
      (field v 3 0 = 7 → s.signalTaken p.val (s.auxReg p.val) = false) →
      exec (.pcfgWrite m p v) s =
        .next (((((s.setRg (portPage p.val) (portOff p.val 0) (v &&& 0x3FF)).setRg (portPage p.val) (portOff p.val 4)
          (s.auxReg p.val &&& auxMask (field v 3 0))).releaseHold p.val).syncPort p.val).answer m 0 .done)) ∧
    (s.writeGate m (portPage p.val) (portOff p.val 4) v = .pass → auxLegal (s.modeReg p.val) v = true →
      (s.modeReg p.val = 7 → s.signalTaken p.val v = false) →
      exec (.auxWrite m p v) s =
        .next ((((s.setRg (portPage p.val) (portOff p.val 4) (v &&& auxMask (s.modeReg p.val))).releaseHold
          p.val).syncPort p.val).answer m 0 .done)) ∧
    (s.writeGate m (portPage p.val) (portOff p.val 4) v = .pass → auxLegal (s.modeReg p.val) v = false →
      exec (.auxWrite m p v) s = .next (s.reject m (portPage p.val) (portOff p.val 4) .arg)) ∧
    (∀ late : Option Nat, s.writeGate m 0x18 (convOff cv.val) v = .pass → flag v 7 = false →
      late = (if decide (16 ≤ cv.val) && (v &&& 0xBF) != s.xbar cv.val && s.trig cv.val == 0 then s.portOn cv.val
        else (s.conv cv.val).late) →
      exec (.xbarWrite m cv v) s =
        .next (((s.setRg 0x18 (convOff cv.val) (v &&& 0xBF)).updConv cv.val (fun c => { c with late := late })).dropOver.refreshWinnow.answer m 0 .done)) ∧
    (∀ late : Option Nat, s.writeGate m 0x18 (convOff cv.val) v = .pass → flag v 7 = true →
      late = (if decide (16 ≤ cv.val) && s.trig cv.val == 0 then s.portOn cv.val else (s.conv cv.val).late) →
      analogMode (s.modeReg (field v 5 0)) = true →
      (s.modeReg (field v 5 0) = 2 → field v 5 0 % 2 = 0) → v &&& 0xBF ≠ s.xbar cv.val →
      (s.conv cv.val).run = none →
      exec (.xbarWrite m cv v) s =
        .next ((((s.setRg 0x18 (convOff cv.val) (v &&& 0xBF)).updConv cv.val (fun c => { c with late := late })).markConv cv.val).dropOver.refreshWinnow.answer m 0 .done)) ∧
    (s.writeGate m 0x18 (convOff cv.val) v = .pass → flag v 7 = true → analogMode (s.modeReg (field v 5 0)) = false →
      exec (.xbarWrite m cv v) s = .next (s.reject m 0x18 (convOff cv.val) .state))

/-- Digital ports: an active edge at a PULSE port counts and is stamped, and ends the measurement in progress; a measurement no edge ends reads 0xFFFFFF with OVF; a DIN
port without debounce follows its ball at once, one with debounce takes the level when it has held for the time; only
the named port changes (R113, R114).

Port protection and self-tests: a clamp current over the threshold takes a protected port in service into
QUARANTINE with its reason, to settle; a port that has settled is tested for 2 ms; a pass returns it to service, a
failure keeps its reason and waits for the next try while tries remain; reasons no self-test has are ill-formed (R120,
R121). -/
def Obligations.DigitalPorts : Prop :=
  (∀ (s : State) (p : Fin 64) (x : Port), x = s.port p.val → x.quarantined = false →
       (∀ (rising start active : Bool), s.unavailable .sense = false → x.mode = 4 →
         start = decide (rising = decide (field x.aux 1 0 ≠ 1)) → active = (decide (field x.aux 1 0 = 2) || start) →
         ∃ y, exec (.pulseEdge p rising) s = .next (s.putPort p.val y) ∧ y.level = rising ∧ y.pcfg = x.pcfg ∧
           y.aux = x.aux ∧ y.val = (if active = true then x.val + 1 else x.val) ∧
           y.stamp = (if active = true then s.now - BitVec.ofNat 64 (s.senseTime (field x.aux 11 8)) else x.stamp) ∧
           (flag x.aux 2 = false → y.period = x.period ∧ y.width = x.width) ∧
           (∀ t, flag x.aux 2 = true → start = true → x.periodFrom = some t →
             y.period = captureOf (s.captureTicks x.aux (s.now - t).toNat) ∧ y.widthFrom = some s.now) ∧
           (∀ t, flag x.aux 2 = true → start = false → x.widthFrom = some t →
             y.width = captureOf (s.captureTicks x.aux (s.now - t).toNat) ∧ y.widthFrom = none)) ∧
       (∀ t, x.mode = 4 → flag x.aux 2 = true → x.widthFrom = some t →
         exec (.pulseCaptureTimeout p true) s =
           .next ((s.reach (t + BitVec.ofNat 64
             ((2 ^ 24 * 4 ^ field x.aux 6 4 * 2 ^ 32 + s.senseHz - 1) / s.senseHz))).putPort p.val { x with
             width := { ticks := 0xFFFFFF, ovf := true }, widthFrom := none })) ∧
       (∀ t, x.mode = 4 → flag x.aux 2 = true → x.periodFrom = some t →
         exec (.pulseCaptureTimeout p false) s =
           .next ((s.reach (t + BitVec.ofNat 64
             ((2 ^ 24 * 4 ^ field x.aux 6 4 * 2 ^ 32 + s.senseHz - 1) / s.senseHz))).putPort p.val { x with
             period := { ticks := 0xFFFFFF, ovf := true }, periodFrom := none })) ∧
       (∀ level : Bool, level ≠ x.level → x.mode = 5 → field x.aux 3 0 = 0 →
         exec (.dinChange p level) s =
           .next ((s.putPort p.val { x with
             level := level, val := BitVec.ofNat 24 (bit level), stamp := s.now, edge := s.now, since := s.now
             settling := false }).portLines p.val)) ∧
       (∀ level : Bool, level ≠ x.level → x.mode = 5 → field x.aux 3 0 ≠ 0 →
         exec (.dinChange p level) s =
           .next ((s.putPort p.val { x with
             level := level, edge := s.now, since := s.now, settling := true }).portLines p.val)) ∧
       (∀ new : BitVec 24, x.mode = 5 → x.settling = true → new = BitVec.ofNat 24 (bit x.level) →
         exec (.debounceExpiry p) s =
           .next (((s.reach (x.since + BitVec.ofNat 64 (debounceTime (field x.aux 3 0)))).putPort p.val { x with
             settling := false, val := new, stamp := if new = x.val then x.stamp else x.edge }).portLines p.val))) ∧
  (∀ (s : State) (p : Fin 64) (x : Port), x = s.port p.val →
       (∀ (hi : Bool) (ua : Nat) (s1 : State), s.unavailable .sense = false → x.stage = .service → flag x.pcfg 9 = true →
         (if hi then s.tripHi else s.tripLo) < ua →
         s1 = (s.putPort p.val { x with clamp := ua }).portLines p.val →
         exec (.clampTrip p hi ua) s =
           .next (s1.quarantine p.val (if hi then 1 else 2) ua (.settling (s1.after s1.settleTime)))) ∧
       (∀ due, x.stage = .settling due → x.clamp ≤ s.tripLo →
         ∃ t, exec (.settleExpiry p) s = .next t ∧ t.port p.val = { x with
             clamp := x.clamp, stage := .testing ((s.reach due).after (msTime 2)) } ∧
           t.gran = s.gran ∧ t.own = s.own ∧ ∀ q, q ≠ p.val → t.port q = s.port q) ∧
       (∀ due, x.stage = .testing due →
         exec (.selfTestEnd p 0) s =
           .next (((s.reach due).putPort p.val { x with tries := x.tries + 1 }).returnPort p.val)) ∧
       (∀ (due : Stamp) (r : BitVec 4), r ∈ [3, 4, 5, 6, 8] → x.stage = .testing due →
         ∃ t, exec (.selfTestEnd p r) s = .next t ∧ t.port p.val = { x with
             tries := x.tries + 1, reason := r
             stage := if x.tries + 1 ≤ field (s.rg 0x18 0x198) 3 0
               then .waiting ((s.reach due).after (secTime (field (s.rg 0x18 0x198) 15 8))) else .stuck } ∧
           t.gran = s.gran ∧ t.own = s.own) ∧
       (∀ r : BitVec 4, r ∉ [0, 3, 4, 5, 6, 8] → exec (.selfTestEnd p r) s = .fault .illFormed) ∧
       (∀ due, x.stage = .waiting due →
         exec (.retryIntervalExpiry p) s =
           .next (((s.reach due).putPort p.val { x with stage := .testing ((s.reach due).after (msTime 2)) }).portLines
             p.val)))

/-- The operations of CONV and its supervisors: CAL of converters no crossbar connection uses ends DONE, of a connected
one STATE; PORT_TEST of a port under its test ends DONE on a pass with the port back in service; EXC_COMPLIANCE and
REF_OVERLOAD show a running source's limit in its register and its event line (R110, R111, R121, R122). -/
def Obligations.ConvOperations : Prop :=
  ∀ (s : State) (tag : Fin 128),
    (s.running tag.val 0x18 1 = true → s.ready 0x18 = true →
      (∀ cv, cv < 20 → flag ((s.slot tag.val).arg 0) cv = true → s.xbarEn cv = false) →
      ∃ t, exec (.cal tag) s = .next t ∧ (t.slot tag.val).result = some .done ∧ t.gran = s.gran ∧ t.own = s.own ∧
        t.flash = s.flash) ∧
    (∀ cv, cv < 20 → s.running tag.val 0x18 1 = true → s.ready 0x18 = true →
      flag ((s.slot tag.val).arg 0) cv = true → s.xbarEn cv = true →
      exec (.cal tag) s = .next (s.setResult tag.val .state)) ∧
    (∀ (p : Nat) (q : Bool), p = field ((s.slot tag.val).arg 0) 5 0 → s.running tag.val 0x18 2 = true →
      (s.port p).stage = .opTest q →
      exec (.portTest tag 0) s =
        .next (((s.putPort p { s.port p with tries := (s.port p).tries + 1 }).returnPort p).setResult tag.val .done)) ∧
    (∀ (n : Fin 4) (ovr : Bool), s.ready 0x18 = true →
      (ovr = true → field (s.rg 0x18 (0x180 + 4 * n.val)) 2 0 ≠ 0) →
      exec (.excCompliance n ovr) s =
        .next ((s.setRg 0x18 (0x180 + 4 * n.val) (setFlag (s.rg 0x18 (0x180 + 4 * n.val)) 4 ovr)).evLevel 0x18
          (20 + n.val) ovr)) ∧
    (∀ (n : Fin 2) (ovr : Bool), s.ready 0x18 = true → (ovr = true → flag (s.rg 0x18 0x190) n.val = true) →
      exec (.refOverload n ovr) s =
        .next ((s.setRg 0x18 0x190 (setFlag (s.rg 0x18 0x190) (2 + n.val) ovr)).evLevel 0x18 (24 + n.val) ovr))

/-- Transfers on the sensor buses. An SPC transfer whose signals are assigned shifts its bytes and ends DONE, a UART
transaction sends its bytes and waits for a reply that ends DONE when it checks, or TIMEOUT when none comes; a TWC
transfer that is acknowledged ends DONE. A transfer that ends leaves its unit's queue and gives its code to the
operation that asked (R116 to R119, R122, R494).

The two-wire units beside a plain transfer, and RXD: a loss of arbitration is counted and the transfer tried again
while ARB_RETRY allows; SCL held low too long ends the transfer with TIMEOUT; a unit called as target serves the parts
and leaves the role at the STOP; a read of RXD takes the oldest received byte with VALID (R125, R496 to R498). -/
def Obligations.SensorBuses : Prop :=
  (∀ (s : State) (n : Fin 4) (u : Nat) (x : Xfer) (rest : List Xfer) (tag : BitVec 7) (rx : List Byte),
       (s.unit u).queue = x :: rest → x.user = .slot tag → s.running tag.toNat 0x32 x.op = true →
       (u = 4 + n.val → s.signalFault u x.user (s.signalsOf u x) = none →
         ∃ t, exec (.spcXfer n rx) s = .next t ∧ (t.unit u).queue = rest ∧
           (t.unit u).sent = x.bytes 1 (field (x.arg 0) 15 8) ∧ (t.slot tag.toNat).result = some .done ∧ t.own = s.own ∧
           t.flash = s.flash) ∧
       (u = 4 + n.val → ∀ c, s.signalFault u x.user (s.signalsOf u x) = some c →
         exec (.spcXfer n rx) s = .next ((s.putUnit u { s.unit u with queue := rest, losses := 0 }).setResult tag.toNat c)) ∧
       (u = 8 + n.val → x.sent = none → s.signalFault u x.user (s.signalsOf u x) = none → field (x.arg 0) 23 16 ≠ 0 →
         ∀ all : List Byte, all = x.bytes 1 (field (x.arg 0) 12 8) ++
               (if flag (x.arg 0) 2 then s.uartCheck u (x.bytes 1 (field (x.arg 0) 12 8)) else []) →
         exec (.uartXact n) s =
           .next (s.putUnit u { s.unit u with
             sent := all, de := s.uartDe u all.length, queue := { x with sent := some s.now } :: rest })) ∧
       (u = 8 + n.val → ∀ came : List HeardByte, x.sent.isSome = true → s.uartHeard u came ≠ [] →
         flag (x.arg 0) 2 = false → (s.uartHeard u came).length ≤ field (x.arg 0) 23 16 →
         ∃ t, exec (.uartEof n came false) s = .next t ∧ (t.unit u).queue = rest ∧
           (t.slot tag.toNat).result = some .done ∧ t.own = s.own ∧ t.flash = s.flash) ∧
       (u = 8 + n.val → exec (.uartEof n [] false) s = .fault .illFormed) ∧
       (u = 8 + n.val → ∀ t0, x.sent = some t0 →
         ∃ t, exec (.uartReplyTimeout n) s = .next t ∧ (t.unit u).queue = rest ∧
           (t.slot tag.toNat).result = some .timeout ∧ t.gran = s.gran ∧ t.flash = s.flash) ∧
       (u = n.val → (s.unit u).target = false → s.signalFault u x.user [0, 1] = none →
         ∃ t, exec (.twcXfer n none true rx) s = .next t ∧ (t.unit u).queue = rest ∧ (t.unit u).sent = x.twcSent ∧
           (t.slot tag.toNat).result = some .done ∧ t.own = s.own ∧ t.flash = s.flash) ∧
       (u = n.val → (s.unit u).target = false → s.signalFault u x.user [0, 1] = none →
         ∃ t, exec (.twcXfer n none false rx) s = .next t ∧ (t.unit u).queue = rest ∧
           (t.slot tag.toNat).result = some .medium ∧ t.own = s.own ∧ t.flash = s.flash)) ∧
  (∀ (s : State) (n : Fin 4) (m : Master) (addr : BitVec 7),
       (∀ x rest, (s.unit n.val).queue = x :: rest → (s.unit n.val).target = false →
         (s.unit n.val).losses + 1 ≤ field (s.twcCfg n.val) 18 16 →
         exec (.arbitrationLost n none) s =
           .next ((s.twcCount n.val 15 8).putUnit n.val { s.unit n.val with
             losses := (s.unit n.val).losses + 1, target := false })) ∧
       (∀ x rest tag, (s.unit n.val).queue = x :: rest → (s.unit n.val).target = false → x.user = .slot tag →
         s.running tag.toNat 0x32 x.op = true →
         ∃ t, exec (.stretchTimeout n) s = .next t ∧ (t.unit n.val).queue = rest ∧
           (t.slot tag.toNat).result = some .timeout ∧ t.gran = s.gran ∧ t.flash = s.flash) ∧
       (∀ k, s.ready 0x32 = true → s.unavailable .sense = false → s.signalFault n.val .nobody [0, 1] = none →
         s.calls n.val addr = true →
         ∃ t, exec (.targetTransaction n addr [.reads k]) s = .next t ∧ (t.unit n.val).target = false ∧
           (t.unit n.val).sent = padBytes k (bytesBE 4 (s.rg 0x32 (0x050 + 0x20 * n.val)).toNat) ∧
           (t.unit n.val).queue = (s.unit n.val).queue ∧ t.gran = s.gran ∧ t.own = s.own) ∧
       (∀ (u : Fin 12) (b : Byte) (rest : List Byte), s.readGate m 0x32 (rxdOff u.val) = .pass →
         (s.unit u.val).rxd = b :: rest →
         exec (.rxdRead m u) s =
           .next ((s.putUnit u.val { s.unit u.val with rxd := rest }).answer m (pack [(0, 8, b.toNat), (8, 1, 1)]) .done)) ∧
       (∀ u : Fin 12, s.readGate m 0x32 (rxdOff u.val) = .pass → (s.unit u.val).rxd = [] →
         exec (.rxdRead m u) s = .next (s.answer m 0 .done)))


/-- Issuing an instruction moves the thread's program counter on and counts it; no other thread, no general register and
no word of DATA changes, and nothing outside the Gleaner but its READY page does (R134, R135). -/
def Obligations.IssueMovesOn : Prop :=
  ∀ (s : State) (t : Nat), s.gle.stops = [] → t < 16 →
    (s.issued t).thread t = { s.thread t with issued := (s.thread t).issued + 1, pc := (s.thread t).pc + 1 } ∧
    (∀ k, k ≠ t → (s.issued t).thread k = s.thread k) ∧
    (∀ j k, j < 16 → k < 8 → (s.issued t).greg j k = s.greg j k) ∧
    (∀ o, 0x800 ≤ o → o < 0xC00 → (s.issued t).rg 0x0A o = s.rg 0x0A o) ∧
    (∀ p o, o < 0x1000 → p ≠ 0x0A → (s.issued t).rg p o = s.rg p o) ∧
    (s.issued t).gle.store = s.gle.store ∧ (s.issued t).sense = s.sense ∧ (s.issued t).gran = s.gran ∧
    (s.issued t).queues = s.queues ∧ (s.issued t).flash = s.flash ∧ (s.issued t).ops = s.ops ∧ (s.issued t).own = s.own

/-- The Gleaner's arithmetic: NOP, LDI, LUI, RC, the two-operand and immediate operations and the constant shifts leave
their result in rd and nothing else beside the issue; MUL takes a second cycle (R136 to R138, R143). -/
def Obligations.GleanerArithmetic : Prop :=
  ∀ (s u : State) (t : Fin 16) (i : GInstr) (rd ra rb : BitVec 3), u = s.issued t.val → s.chosen t.val = true →
    GInstr.decode (s.pword (s.thread t.val).pc.toNat) = some i → s.overBudget t.val = false →
    s.parityBad (s.thread t.val).pc.toNat = false →
    (i = .nop → exec (.nop t) s = .next u) ∧
    (∀ imm, i = .ldi rd imm → exec (.ldi t) s = .next (u.setGreg t.val rd.toNat (imm.signExtend 32))) ∧
    (∀ imm, i = .lui rd imm →
      exec (.lui t) s = .next (u.setGreg t.val rd.toNat (setField (u.greg t.val rd.toNat) 31 16 imm.toNat))) ∧
    (i = .rc rd → exec (.rc t) s = .next (u.setGreg t.val rd.toNat ((u.thread t.val).code.zeroExtend 32))) ∧
    (∀ (a b : Word), a = u.greg t.val ra.toNat → b = u.greg t.val rb.toNat →
      (i = .alu .add rd ra rb → exec (.add t) s = .next (u.setGreg t.val rd.toNat (a + b))) ∧
      (i = .alu .sub rd ra rb → exec (.sub t) s = .next (u.setGreg t.val rd.toNat (a - b))) ∧
      (i = .alu .and rd ra rb → exec (.and t) s = .next (u.setGreg t.val rd.toNat (a &&& b))) ∧
      (i = .alu .or rd ra rb → exec (.or t) s = .next (u.setGreg t.val rd.toNat (a ||| b))) ∧
      (i = .alu .xor rd ra rb → exec (.xor t) s = .next (u.setGreg t.val rd.toNat (a ^^^ b))) ∧
      (i = .alu .shl rd ra rb → exec (.shl t) s = .next (u.setGreg t.val rd.toNat (a <<< (b.toNat % 32)))) ∧
      (i = .alu .shr rd ra rb → exec (.shr t) s = .next (u.setGreg t.val rd.toNat (a >>> (b.toNat % 32)))) ∧
      (i = .alu .sra rd ra rb →
        exec (.sra t) s = .next (u.setGreg t.val rd.toNat (a.sshiftRight (b.toNat % 32)))) ∧
      (i = .alu .mul rd ra rb → exec (.mul t) s = .next ((u.setGreg t.val rd.toNat (a * b)).second t.val)) ∧
      (∀ imm, i = .addi rd ra imm → exec (.addi t) s = .next (u.setGreg t.val rd.toNat (a + imm.signExtend 32))) ∧
      (∀ imm, i = .andi rd ra imm → exec (.andi t) s = .next (u.setGreg t.val rd.toNat (a &&& imm.zeroExtend 32))) ∧
      (∀ imm, i = .ori rd ra imm → exec (.ori t) s = .next (u.setGreg t.val rd.toNat (a ||| imm.zeroExtend 32))) ∧
      (∀ sh, i = .shift .shl rd ra sh → exec (.shli t) s = .next (u.setGreg t.val rd.toNat (a <<< sh.toNat))) ∧
      (∀ sh, i = .shift .shr rd ra sh → exec (.shri t) s = .next (u.setGreg t.val rd.toNat (a >>> sh.toNat))) ∧
      (∀ sh, i = .shift .sra rd ra sh →
        exec (.srai t) s = .next (u.setGreg t.val rd.toNat (a.sshiftRight sh.toNat))))

/-- The Gleaner's branches and jumps: a branch whose condition holds goes to PC + 1 + off, one whose condition does not
hold falls through; JMP, JAL and JR go to their targets, JAL leaving PC + 1 in rd; each taken transfer takes a second
cycle (R136 to R138). -/
def Obligations.GleanerJumps : Prop :=
  ∀ (s u : State) (t : Fin 16) (i : GInstr) (rd ra rb : BitVec 3) (off : BitVec 12) (taken : Bool),
    u = s.issued t.val → s.chosen t.val = true →
    GInstr.decode (s.pword (s.thread t.val).pc.toNat) = some i → s.overBudget t.val = false →
    s.parityBad (s.thread t.val).pc.toNat = false →
    (∀ (a b : Word) (target : Int), a = u.greg t.val ra.toNat → b = u.greg t.val rb.toNat →
      target = (u.fpc t.val : Int) + 1 + off.toInt → 0 ≤ target → target ≤ 0xFFF →
      (i = .branch .eq ra rb off → taken = decide (a = b) →
        exec (.beq t) s = .next (if taken then u.goto t.val target.toNat else u)) ∧
      (i = .branch .ne ra rb off → taken = decide (a ≠ b) →
        exec (.bne t) s = .next (if taken then u.goto t.val target.toNat else u)) ∧
      (i = .branch .lt ra rb off → taken = decide (a.toInt < b.toInt) →
        exec (.blt t) s = .next (if taken then u.goto t.val target.toNat else u)) ∧
      (i = .branch .ge ra rb off → taken = decide (b.toInt ≤ a.toInt) →
        exec (.bge t) s = .next (if taken then u.goto t.val target.toNat else u)) ∧
      (i = .branch .ltu ra rb off → taken = decide (a.toNat < b.toNat) →
        exec (.bltu t) s = .next (if taken then u.goto t.val target.toNat else u)) ∧
      (i = .branch .geu ra rb off → taken = decide (b.toNat ≤ a.toNat) →
        exec (.bgeu t) s = .next (if taken then u.goto t.val target.toNat else u))) ∧
    (∀ a, i = .jmp a → exec (.jmp t) s = .next (u.goto t.val a.toNat)) ∧
    (∀ a, i = .jal rd a →
      exec (.jal t) s =
        .next ((u.setGreg t.val rd.toNat (BitVec.ofNat 32 (u.fpc t.val + 1))).goto t.val a.toNat)) ∧
    (i = .jr ra → (u.greg t.val ra.toNat).toNat < 4096 →
      exec (.jr t) s = .next (u.goto t.val (u.greg t.val ra.toNat).toNat)) ∧
    (i = .jr ra → 4096 ≤ (u.greg t.val ra.toNat).toNat →
      exec (.jr t) s = .next (u.threadFault t.val 1 .arg (u.fpc t.val)))

/-- Activations: END ends one, and a waiting cause begins the next; WAIT and WEV block their thread, and the end of the
wait makes it READY, that of WEV with TIMEOUT in CODE under TOL; a due time begins an activation of a waiting thread; an
illegal word faults its thread with ARG (R128 to R131, R136, R137, R143, R148). -/
def Obligations.GleanerActivations : Prop :=
  ∀ (s u : State) (t : Fin 16) (i : GInstr) (pc : Nat), u = s.issued t.val → s.chosen t.val = true →
    pc = (s.thread t.val).pc.toNat → s.overBudget t.val = false → s.parityBad pc = false →
    (GInstr.decode (s.pword pc) = some i →
      (i = .endAct → exec (.endAct t) s = .next (u.endActivation t.val)) ∧
      (∀ n, i = .wait n →
        exec (.wait t) s = .next (u.updThread t.val (fun h =>
          { h with st := .blocked, block := .time (u.after (n.toNat * 2 ^ 12)), res := none }))) ∧
      (∀ tol n, i = .wev tol n →
        exec (.wev t) s = .next (u.updThread t.val (fun h => { h with
          st := .blocked, res := none
          block := .event (if n = 0 then none else some (u.after (n.toNat * 2 ^ 12))) (tol == 1) })))) ∧
    (GInstr.decode (s.pword pc) = none → exec (.illegal t) s = .next (s.threadFault t.val 1 .arg pc))

/-- The ends of waits and the periodic cause (R131, R137, R143).

PUSH, PUSHR and FEED hand their item, record or sample over, and the code is on its way to the thread (R143 to
R145). -/
def Obligations.GleanerWaitsAndPushes : Prop :=
  (∀ (s : State) (t : Fin 16) (h : Thread), h = s.thread t.val →
       (∀ due, h.st = .blocked → h.block = .time due →
         exec (.waitExpiry t) s = .next ((s.reach due).putThread t.val { h with st := .ready, block := .none })) ∧
       (∀ due, h.st = .blocked → h.block = .event (some due) true →
         exec (.wevTimeout t) s =
           .next ((s.reach due).putThread t.val { h with code := 6, st := .ready, block := .none, res := none })) ∧
       (∀ due, h.st = .blocked → h.block = .event (some due) false →
         exec (.wevTimeout t) s = .next ((s.reach due).threadFault t.val 3 .timeout (h.pc - 1).toNat)) ∧
       (∀ rd r, h.st = .blocked → h.block = .result (some rd) false → h.res = some r → r.code = .done → r.latch = none →
         r.stale = none →
         exec (.blockedResult t) s =
           .next ((s.putThread t.val { h with code := 0, st := .ready, block := .none, res := none }).setGreg t.val rd.toNat
             r.value)) ∧
       (∀ due v, h.due = some due → s.dead = false → s.guardHeld t.val = false → h.st = .wait →
         flag (s.rg 0x0A 0x008) 0 = true → h.pending = false →
         v = (s.reach due).putThread t.val { h with due := some (if flag (s.thrReg t.val 0x08) 24
           then nextMultiple (field (s.thrReg t.val 0x08) 23 0) (s.reach due).now
           else due + BitVec.ofNat 64 (field (s.thrReg t.val 0x08) 23 0 * 2 ^ 17)) } →
         exec (.periodicDue t) s = .next (v.beginAct t.val none))) ∧
  (∀ (s u b v : State) (t : Fin 16) (i : GInstr) (ra : BitVec 3) (tol : BitVec 1) (c : Code), u = s.issued t.val →
       b = u.updThread t.val (fun h => { h with st := .blocked, block := .result none (tol == 1), res := none }) →
       s.chosen t.val = true → GInstr.decode (s.pword (s.thread t.val).pc.toNat) = some i →
       s.overBudget t.val = false → s.parityBad (s.thread t.val).pc.toNat = false →
       (∀ pos q, i = .push ra tol pos q →
         b.pushItem q.toNat (16 + t.val) pos.toNat (field (u.greg t.val ra.toNat) 23 0) = (v, c) →
         exec (.push t) s = .next ((v.logPush q.toNat c).giveRes t.val { code := c })) ∧
       (∀ kind q, i = .pushr ra tol kind q →
         b.pushPacket q.toNat (16 + t.val) (u.pushRecord t.val ra kind) = (v, c) →
         exec (.pushr t) s = .next ((v.logPush q.toNat c).giveRes t.val { code := c })) ∧
       (∀ lane, i = .feed ra tol lane →
         b.feedLane (20 + lane.toNat) ((u.greg t.val ra.toNat).truncate 24) (u.thread t.val).stamp (u.thread t.val).tag =
           (v, c) →
         exec (.feed t) s = .next (v.giveRes t.val { code := c })))

/-- The Gleaner's data and device instructions: LD and ST move words of DATA; STMP reads the stamp latch; EVT raises its
source; PUSH, PUSHR, FEED, IN and OUT leave their result on its way to the thread; CONV, BUS and a fresh TAGRD block it
on theirs; a TAGRD of the held value completes at once, stale (R137 to R147). -/
def Obligations.GleanerDevices : Prop :=
  ∀ (s u : State) (t : Fin 16) (i : GInstr) (rd ra rb : BitVec 3) (tol : BitVec 1), u = s.issued t.val →
    s.chosen t.val = true → GInstr.decode (s.pword (s.thread t.val).pc.toNat) = some i →
    s.overBudget t.val = false → s.parityBad (s.thread t.val).pc.toNat = false →
    (∀ imm, i = .ld rd ra imm →
      exec (.ld t) s =
        .next ((u.setGreg t.val rd.toNat (u.rg 0x0A (0x800 + 4 * ((u.greg t.val ra.toNat + imm.zeroExtend 32).toNat %
          256)))).second t.val)) ∧
    (∀ imm, i = .st ra rb imm →
      exec (.st t) s =
        .next (u.setRg 0x0A (0x800 + 4 * ((u.greg t.val ra.toNat + imm.zeroExtend 32).toNat % 256))
          (u.greg t.val rb.toNat))) ∧
    (∀ n, i = .evt n → exec (.evt t) s = 
      .next ((u.evPulse 0x0A (16 + n.toNat)).pulse (0x18 + n.toNat) (u.thread t.val).wave)) ∧
    (i = .stmp rd 0 → exec (.stmp t) s = .next (u.setGreg t.val rd.toNat (loWord (u.thread t.val).stamp))) ∧
    (i = .stmp rd 1 → exec (.stmp t) s = .next (u.setGreg t.val rd.toNat (hiWord (u.thread t.val).stamp))) ∧
    (i = .stmp rd 2 →
      exec (.stmp t) s =
        .next ((u.putThread t.val { u.thread t.val with shadow := some (hiWord u.now) }).setGreg t.val rd.toNat
          (loWord u.now))) ∧
    (i = .stmp rd 3 →
      exec (.stmp t) s =
        .next ((u.putThread t.val { u.thread t.val with shadow := none }).setGreg t.val rd.toNat
          ((u.thread t.val).shadow.getD (hiWord u.now)))) ∧
    (∀ port, i = .inPort rd tol port 0 →
      ∃ v, exec (.inPort t) s = .next v ∧ (v.thread t.val).st = .blocked ∧ (v.thread t.val).res = some
        { code := if u.portsUp port.toNat then .done else .notReady
          value := BitVec.ofNat 32 (unsignedOf 32 (u.portInt port.toNat))
          latch := some (port.toNat, (u.port port.toNat).stamp) } ∧ v.sense = s.sense ∧ v.gran = s.gran) ∧
    (∀ port, i = .outPort ra tol port 2 → u.portsUp port.toNat = true → (u.port port.toNat).mode = 6 →
      (u.port port.toNat).quarantined = false →
      ∃ v, exec (.outPort t) s = .next v ∧ (v.thread t.val).st = .blocked ∧
        ((v.thread t.val).res.map (·.code)) = some .done ∧ flag (v.port port.toNat).aux 0 = true ∧ v.gran = s.gran) ∧
    (∀ cv sw port, i = .conv rd cv tol sw port →
      ∃ v, exec (.conv t) s = .next v ∧ (v.thread t.val).st = .blocked ∧
        (v.thread t.val).block = .result (some rd) (tol == 1) ∧ v.own = s.own ∧ v.flash = s.flash) ∧
    (∀ fresh tag, i = .tagrd rd tol fresh tag → fresh = 0 ∨ u.pwr.depth ≠ .awake → (u.held tag.toNat).has = true →
      ∃ v, exec (.tagrd t) s = .next v ∧ v.greg t.val rd.toNat = BitVec.ofNat 32 (u.held tag.toNat).value.toNat ∧
        (v.thread t.val).code = 0 ∧ (v.thread t.val).stale = true ∧
        (v.thread t.val).stamp = (u.held tag.toNat).stamp ∧ v.gran = s.gran) ∧
    (∀ fresh tag, i = .tagrd rd tol fresh tag → fresh = 1 → u.pwr.depth = .awake →
      ∃ v, exec (.tagrd t) s = .next v ∧ (v.thread t.val).st = .blocked ∧ v.gran = s.gran ∧ v.fld = s.fld) ∧
    (∀ desc n, i = .bus rd tol desc → n = field (u.pword desc.toNat) 11 8 →
      1 ≤ field (u.pword desc.toNat) 7 0 → field (u.pword desc.toNat) 7 0 ≤ 3 → 1 ≤ n → n ≤ 7 →
      desc.toNat + n ≤ 0xFFF →
      ∃ v, exec (.bus t) s = .next v ∧ (v.thread t.val).st = .blocked ∧
        (v.thread t.val).block = .bus rd (tol == 1) (field (u.pword desc.toNat) 23 16) ∧ v.gran = s.gran)

/-- The Gleaner's operations: LOAD holds the threads it names and takes up its copy; the copy, once they are STOPPED,
puts the words it read into the store; START and STOP of threads in no activation end DONE; PDATA reads the store word
at PADDR and steps PADDR (R151 to R153, R155). -/
def Obligations.GleanerOperations : Prop :=
  ∀ (s : State) (tag : Fin 128) (m : Master) (k : Slot), k = s.slot tag.val →
    (s.running tag.val 0x0A 1 = true → s.ready 0x0A = true → loadArgs s k = true → s.gle.load = none →
      s.gle.stops = [] → (flag (k.arg 0) 0 = true → s.pwr.depth = .awake) →
      (∀ t, t < 16 → flag (k.arg 3) t = false → (s.thread t).st = .stopped ∨ (s.thread t).st = .fault ∨
        s.clearOf t (field (k.arg 2) 11 0) (field (k.arg 2) 28 16) = true) →
      ∃ v, exec (.gleanerLoad tag) s = .next v ∧
        v.gle.load = some (LoadRun.mk (BitVec.ofNat 7 tag.val) (flag (k.arg 0) 0) (k.arg 1).toNat
          (field (k.arg 2) 11 0) (field (k.arg 2) 28 16)) ∧
        (∀ t, t < 16 → flag (k.arg 3) t = true → (s.thread t).st = .wait →
          v.thread t = { s.thread t with st := .stopped, held := true }) ∧
        (∀ t, t < 16 → flag (k.arg 3) t = true → (s.thread t).active = true →
          v.thread t = { s.thread t with stopping := true, held := true }) ∧
        (∀ t, t < 16 → flag (k.arg 3) t = false → v.thread t = s.thread t) ∧
        v.gle.store = s.gle.store ∧ v.gran = s.gran ∧ v.flash = s.flash) ∧
    (∀ (r : LoadRun) (v : State) (l : List Word), s.gle.load = some r → (∀ t, t < 16 → (s.thread t).held = false) →
      (r.flash && s.flashBusy r.addr (4 * r.count)) = false →
      ({ s with gle := { s.gle with load := none } } : State).sourceWords r.flash true r.addr r.count = (v, l, true) →
      v.running r.slot.toNat 0x0A 1 = true →
      exec .loadCopy s = .next ((v.putStore r.dest l).setResult r.slot.toNat .done)) ∧
    (s.running tag.val 0x0A 2 = true → s.ready 0x0A = true → s.gle.stops = [] →
      (∀ t, t < 16 → flag (k.arg 0) t = true → (s.thread t).st = .stopped ∧ (s.thread t).held = false ∧
        flag (s.thrReg t 0x04) 0 = false) →
      ∃ v, exec (.gleanerStart tag) s = .next v ∧ (v.slot tag.val).result = some .done ∧
        (∀ t, t < 16 → flag (k.arg 0) t = true → (v.thread t).st = .wait ∧ (v.thread t).pending = false) ∧
        (∀ t, t < 16 → flag (k.arg 0) t = false → v.thread t = s.thread t) ∧ v.gran = s.gran ∧ v.own = s.own) ∧
    (s.running tag.val 0x0A 3 = true → s.ready 0x0A = true → s.gle.stops = [] → flag (k.arg 0) 16 = true →
      ∃ v, exec (.gleanerStop tag) s = .next v ∧ (v.slot tag.val).result = some .done ∧
        (∀ t, t < 16 → flag (k.arg 0) t = true → (v.thread t).st = .stopped ∧ (v.thread t).pending = false) ∧
        (∀ t, t < 16 → flag (k.arg 0) t = false → v.thread t = s.thread t) ∧ v.gran = s.gran ∧ v.own = s.own) ∧
    (s.readGate m 0x0A 0x054 = .pass →
      exec (.pdataRead m) s =
        .next ((s.setRg 0x0A 0x050 (BitVec.ofNat 32 ((field (s.rg 0x0A 0x050) 11 0 + 1) % 4096))).answer m
          (s.pword (field (s.rg 0x0A 0x050) 11 0)) .done))

/-- The lanes: a SAR reading reaches an admitted lane as its next input, a reading of the other converter kind is
ill-formed; a lane without filters gives each input as its output; ADMIT admits a lane whose configuration is legal and
fits the array and refuses one that is not; a lane at its boundary takes its new configuration or is released; the
coefficient window writes words no lane uses and steps its address (R108, R156, R157, R164, R168 to R172). -/
def Obligations.Lanes : Prop :=
  ∀ (s : State) (n : Fin 24) (c : LaneCfg) (tag : Fin 128) (m : Master) (v : Word),
    (∀ (cv : Fin 20) (x : Int), 16 ≤ cv.val → (s.conv cv.val).run = none → (s.conv cv.val).late = none →
      (s.lane cv.val).cfg = some c → s.portWritten (s.xbarPort cv.val) = false →
      s.portWritten (partner (s.xbarPort cv.val)) = false →
      s.converting cv.val = true → s.ready 0x18 = true → s.ready 0x19 = true → s.unavailable .sense = false →
      s.laneHeld cv.val = false →
      ∃ t, exec (.converterSample cv (.volts x)) s = .next t ∧ (t.lane cv.val).inputs = (s.lane cv.val).inputs ++
        [{ value := sarCode x, stamp := s.now, mark := (s.conv cv.val).mark || (s.lane cv.val).mark
           ovr := decide (x > 2500000000) || decide (x < -2500000000), by_ := .free
           port := some (s.xbarPort cv.val) }] ∧
        (t.lane cv.val).mark = false ∧ (t.lane cv.val).cfg = some c ∧ t.gran = s.gran ∧ t.own = s.own) ∧
    (∀ (cv : Fin 20) (x : Int) (l : List Bool) (ovr : Bool),
      (cv.val < 16 → exec (.converterSample cv (.volts x)) s = .fault .illFormed) ∧
      (16 ≤ cv.val → exec (.converterSample cv (.bits l ovr)) s = .fault .illFormed)) ∧
    (∀ x rest, (s.lane n.val).cfg = some c → s.ready 0x19 = true → s.laneHeld n.val = false →
      (s.lane n.val).inputs = x :: rest → x.mark = false → (s.lane n.val).suppress = 0 → c.order = 0 →
      firTaps c.fir1 = 0 → firTaps c.fir2 = 0 → c.nbq = 0 → (n.val < 16 → (s.conv n.val).run = none) →
      ∃ t, exec (.laneOutput n) s = .next t ∧
        (t.lane n.val).last = BitVec.ofNat 24 (unsignedOf 24 x.value) ∧ (t.lane n.val).stamp = x.stamp ∧
        (t.lane n.val).inputs = rest ∧ t.own = s.own ∧ t.flash = s.flash) ∧
    ((s.lane n.val).cfg = none → exec (.laneOutput n) s = .next s) ∧
    (s.running tag.val 0x19 1 = true → s.ready 0x19 = true → s.thr.admitting = none → (∀ j, j < 24 → (s.lane j).next = none) →
      namedLanes (s.slot tag.val) = [n.val] → (s.lane n.val).cfg = none → s.admitCfg n.val = c → c.en = true →
      (laneLegal n.val c = true → flag (s.rg 0x19 0x008) 0 = true → (n.val < 16 → s.calibrating n.val = false) →
        ∀ after, s.wouldRun [n.val] = after →
        (after.map (fun e => laneCost e.1 e.2 false)).sum ≤ 786432000 →
        (after.map (fun e => if e.2.guard then laneCost e.1 e.2 true else 0)).sum ≤ 64000000 →
        ∃ t, exec (.admission tag) s = .next t ∧ (t.lane n.val).cfg = some c ∧ (t.slot tag.val).result = some .done ∧
          t.gran = s.gran ∧ t.own = s.own) ∧
      (laneLegal n.val c = false → exec (.admission tag) s = .next (s.dropCopies.setResult tag.val .arg))) ∧
    (∀ old new, (s.lane n.val).cfg = some old → (s.lane n.val).next = some (some new) →
      ∃ t, exec (.laneChangeover n) s = .next t ∧ (t.lane n.val).cfg = some new ∧ (t.lane n.val).next = none ∧
        t.own = s.own ∧ t.flash = s.flash) ∧
    (∀ old, (s.lane n.val).cfg = some old → (s.lane n.val).next = some none →
      ∃ t, exec (.laneChangeover n) s = .next t ∧ (t.lane n.val).cfg = none ∧ (t.lane n.val).next = none ∧
        t.own = s.own ∧ t.flash = s.flash) ∧
    (∀ a, a = field (s.rg 0x19 0x050) 11 0 →
      (s.writeGate m 0x19 0x054 v = .pass → s.coefUsed a = false →
        exec (.coefDataWrite m v) s =
          .next ((({ s with thr := { s.thr with coef := Tab.set (fun _ => 0) s.thr.coef a (v.truncate 24) } } :
            State).coefStep).answer m 0 .done)) ∧
      (s.writeGate m 0x19 0x054 v = .pass → s.coefUsed a = true →
        exec (.coefDataWrite m v) s = .next (s.coefStep.reject m 0x19 0x054 .state)) ∧
      (s.readGate m 0x19 0x054 = .pass →
        exec (.coefDataRead m) s =
          .next (s.coefStep.answer m (BitVec.ofNat 32 (unsignedOf 32 (s.coefInt a))) .done)) ∧
      s.coefStep.rg 0x19 0x050 = BitVec.ofNat 32 (((s.rg 0x19 0x050).toNat + 1) % 4096))

/-- TIME: EPOCH_SET steps TIME while it is not disciplined; SNAP latches a snapshot, whose packet the readout places;
an armed alarm fires once; discipline starts, follows the samples of the parent and holds over when they stay away
(R178, R183 to R189, R193). -/
def Obligations.TimeAndSnapshots : Prop :=
  ∀ (s : State) (tag : Fin 128) (k : Slot) (v : Stamp), k = s.slot tag.val → v = joinWords (k.arg 1) (k.arg 0) →
    (s.running tag.val 0x07 2 = true → s.ready 0x07 = true → field (k.arg 2) 31 1 = 0 → s.time.dstate = .free →
      (flag (k.arg 2) 0 = true →
        exec (.epochSet tag) s = .next ((s.stepTime v.toInt).setResult tag.val .done) ∧
        (s.stepTime v.toInt).time.now = s.time.now + v) ∧
      (flag (k.arg 2) 0 = false →
        exec (.epochSet tag) s = .next ((s.stepTime (v - s.now).toInt).setResult tag.val .done) ∧
        (s.stepTime (v - s.now).toInt).time.now = v)) ∧
    (s.running tag.val 0x07 1 = true → s.ready 0x07 = true → s.time.snap = none → s.senseReady = true →
      (flag (s.rg 0x07 0x0C0) 5 = false →
        ∃ t, exec (.snap (some tag)) s = .next t ∧ (t.slot tag.val).result = some .done ∧ t.time = s.time ∧
          t.gran = s.gran) ∧
      (flag (s.rg 0x07 0x0C0) 5 = true →
        ∃ t r, exec (.snap (some tag)) s = .next t ∧ t.time.snap = some r ∧ r.slot = some (BitVec.ofNat 7 tag.val) ∧
          r.items.length = 4 + 4 * s.snapEntries.length ∧ t.gran = s.gran ∧ t.own = s.own)) ∧
    (∀ r, s.running tag.val 0x07 1 = true → s.ready 0x07 = true → s.time.snap = some r →
      r.slot ≠ some (BitVec.ofNat 7 tag.val) → exec (.snap (some tag)) s = .next (s.setResult tag.val .busy)) ∧
    ((s.task 0x24).held = true → s.time.snap.isSome = true →
      exec (.snap none) s =
        .next (((s.clearTask 0x24).updRg 0x07 0x0C4 (fun w => satField w 23 16 1)).evPulse 0x07 4)) ∧
    (∀ r t, s.time.snap = some r → r.slot = none → qCut (s.qcfg (field (s.rg 0x07 0x0C0) 4 0)) = false →
      ({ s with time := { s.time with snap := none } } : State).blockPush (field (s.rg 0x07 0x0C0) 4 0) r.items =
        (t, .done) →
      exec .snapReadoutDone s = .next ((t.evPulse 0x07 3).pulse 0x36 r.wave)) ∧
    (∀ n : Fin 4,
      (flag (s.rg 0x07 0x0A0) n.val = true →
        exec (.alarmFire n) s =
          .next ((((((s.reach (s.pairAt 0x07 (0x080 + 8 * n.val))).updRg 0x07 0x0A0 (fun w =>
            setFlag (setFlag w n.val false) (4 + n.val) true)).evPulse 0x07 (8 + n.val)).pulse (0x30 + n.val)).fireWake
            (0x18 + n.val)))) ∧
      (flag (s.rg 0x07 0x0A0) n.val = false → exec (.alarmFire n) s = .next s)) ∧
    (s.disciplined = true → s.pwr.depth = .awake → s.time.dstate = .free →
      ∃ t, exec .disciplineStart s = .next t ∧ t.time.dstate = .acquire ∧ t.time.agree = 0 ∧ t.time.missed = 0 ∧
        t.time.now = s.time.now ∧ t.gran = s.gran ∧ t.own = s.own) ∧
    (∀ (x : Exchange) (p : Peer) (e : Int), s.time.sample = some x → x.changed = false → s.disciplined = true →
      s.pwr.depth = .awake → s.time.dstate = .locked → x.depth ≤ 8 → s.peer x.parent = some p → p.paths ≠ [] →
      x.t4 = none →
      e = 2 * (x.t2 - x.t1).toInt - pathMean p.paths →
      (e.natAbs : Int) * 1000000000 ≤ (field (s.rg 0x07 0x04C) 19 8 : Int) * 2 ^ 33 →
      ∃ t, exec .disciplineSample s = .next t ∧ t.time.dstate = .locked ∧ t.time.slew = e / 2 ∧
        t.time.sample = none ∧ t.time.depth = x.depth ∧ t.time.missed = 0 ∧ t.time.now = s.time.now ∧
        t.rg 0x07 0x054 = BitVec.ofInt 32 (clampSigned 32 (e * 1000000000 / 2 ^ 33)) ∧ t.gran = s.gran ∧
        t.own = s.own) ∧
    (s.time.sample = none → exec .disciplineSample s = .next s) ∧
    (s.time.dstate = .locked → (2 ≤ s.time.missed ∨ s.pwr.depth = .guard) →
      ∃ t, exec .holdoverEntry s = .next t ∧ t.time.dstate = .holdover ∧ t.time.missed = s.time.missed + 1 ∧
        t.time.now = s.time.now ∧ t.gran = s.gran ∧ t.own = s.own) ∧
    (s.time.dstate ≠ .locked →
      exec .holdoverEntry s = .next { s with time := { s.time with missed := s.time.missed + 1 } })

/-- Winnow: an input is taken from the buffer and moves the THRESH condition that observes its source, and with it the
rule's OUT; a tick reaches its time and takes its place behind the inputs that wait, and is dropped and counted where
the buffer is full; LOAD writes the records it read into the
rule store; a write of EN enables rules that are legal, without a parity error and within the capacity, and refuses
others (R196 to R198, R206, R207, R212, R214, R217, R220). -/
def Obligations.Winnow : Prop :=
  ∀ (s : State) (tag : Fin 128) (m : Master) (w : Word) (k : Fin 4),
    (∀ (i : WinIn) (rest : List WinIn) (r : Nat) (x : Rule) (g : CondCfg), s.winRuns = true → s.win.inputs = i :: rest →
      i.tick = false →
      s.enabledRules = [r] → s.rule r = x → x.cfg 0 = g → x.bad = [] → x.ncond = 1 → field (x.word 0) 1 0 ≤ 1 →
      s.pwr.depth ≠ .guard → s.condQuarantined g = false → s.observes g 1 i.src = true → g.kind = 0 → g.dir = 0 →
      g.delta = false → g.inv = false →
      ∃ t, exec .winnowInput s = .next t ∧ t.win.inputs = rest ∧
        (t.rule r).out = (if i.value ≥ g.a then true else if i.value < wrap32 (g.a - g.b) then false
          else (x.cond 0).s) ∧ t.own = s.own ∧ t.flash = s.flash) ∧
    (s.winRuns = false → exec .winnowInput s = .next s) ∧
    (s.dead = false → s.winRuns = false →
      ∃ n, s.now.toNat / s.tickLen ≤ n ∧ n ≠ s.win.tick ∧
        exec .winnowTick s = .next { (s.reach (BitVec.ofNat 64 (n * s.tickLen))) with win := { s.win with tick := n } }) ∧
    (s.dead = false → s.winRuns = true → s.enabledRules = [] →
      ∃ t, exec .winnowTick s = .next t ∧ t.win.rules = s.win.rules ∧ t.gran = s.gran ∧ t.own = s.own) ∧
    (∀ (r : Nat) (x : Rule), s.dead = false → s.winRuns = true → s.enabledRules = [r] → s.rule r = x → x.ncond = 1 →
      s.tickHits (x.cfg 0) = true → s.pwr.depth ≠ .guard → 64 ≤ s.win.inputs.length →
      ∃ t, exec .winnowTick s = .next t ∧ t.win.inputs = s.win.inputs ∧ t.win.rules = s.win.rules ∧
        t.rg 0x1A 0x058 = satField (s.rg 0x1A 0x058) 15 0 1 ∧ t.gran = s.gran ∧ t.own = s.own) ∧
    (∀ (a : Slot) (u : State) (l : List Word) (first count : Nat), a = s.slot tag.val → first = field (a.arg 2) 6 0 →
      count = field (a.arg 2) 15 8 → s.running tag.val 0x1A 1 = true → s.ready 0x1A = true → s.winLoadArgs a = true →
      s.pwr.depth = .awake → flag (a.arg 3) 0 = false →
      (flag (a.arg 0) 0 && s.flashBusy (a.arg 1).toNat (80 * count)) = false →
      s.sourceWords (flag (a.arg 0) 0) true (a.arg 1).toNat (20 * count) = (u, l, true) →
      (∀ i, i < count → recordLegal (chunk l 20 i) = true) →
      ∃ t, exec (.winnowLoad tag) s = .next t ∧ (t.slot tag.val).result = some .done ∧
        (∀ i, i < count → (t.rule (first + i)).words = (ruleOf (chunk l 20 i)).words ∧ t.ruleEn (first + i) = false) ∧
        (∀ r, r < first ∨ first + count ≤ r → t.rule r = u.rule r)) ∧
    (∀ (new rules : List Nat), new = (List.range 32).filter (fun i => flag w i && !flag (s.rg 0x1A (0x060 + 4 * k.val)) i) →
      rules = (List.range 128).filter (fun r => if r / 32 == k.val then flag w (r % 32) else s.ruleEn r) →
      s.writeGate m 0x1A (0x060 + 4 * k.val) w = .pass →
      ((∀ i, i ∈ new → s.ruleLegal (s.rule (32 * k.val + i)) = true ∧ (s.rule (32 * k.val + i)).perr = false) →
        s.fits (rules.map s.rule) = true →
        exec (.winnowEnWrite m k w) s =
          .next ((new.foldl (fun acc i => acc.restartRule (32 * k.val + i))
            (s.setRg 0x1A (0x060 + 4 * k.val) w)).refreshWinnow.answer m 0 .done)) ∧
      (∀ i, i ∈ new → s.ruleLegal (s.rule (32 * k.val + i)) = false →
        exec (.winnowEnWrite m k w) s = .next (s.reject m 0x1A (0x060 + 4 * k.val) .arg)) ∧
      ((∀ i, i ∈ new → s.ruleLegal (s.rule (32 * k.val + i)) = true ∧ (s.rule (32 * k.val + i)).perr = false) →
        new ≠ [] → s.fits (rules.map s.rule) = false →
        exec (.winnowEnWrite m k w) s =
          .next ((s.demand (rules.map s.rule)).reject m 0x1A (0x060 + 4 * k.val) .busy)))

/-- The event fabric: a pulse no channel selects is consumed; a pulse with a wave reaches the one channel that selects
it, which latches its tasks, or drops the event when the wave has been there; a task input's trigger is taken by its
block; an idle wave tag is freed; SWGEN raises its pulses; channels and taps are configured within their rules (R224 to
R234). -/
def Obligations.EventFabric : Prop :=
  ∀ (s : State) (m : Master) (v : Word),
    (∀ (src : BitVec 8) (p : Pulse) (rest : List Pulse), takePulse src.toNat s.fab.pulses = some (p, rest) →
      s.dead = false → s.chansOf src.toNat = [] →
      exec (.sourcePulse src) s = .next { s with fab := { s.fab with pulses := rest } }) ∧
    (∀ (src : BitVec 8) (p : Pulse) (rest : List Pulse) (ch w d : Nat), takePulse src.toNat s.fab.pulses = some (p, rest) →
      s.dead = false → s.chansOf src.toNat = [ch] → p.wave = some (w, d) → w < 16 → d < 4 → (s.chan ch).accepted = none →
      ((s.chan ch).waves.getLsbD w = false →
        ∃ t, exec (.sourcePulse src) s = .next t ∧ (∀ k, k ∈ s.chTasks ch → (t.task k).held = true) ∧
          (t.chan ch).waves.getLsbD w = true ∧ (t.waveTag w).live = true ∧ t.own = s.own ∧ t.flash = s.flash) ∧
      ((s.chan ch).waves.getLsbD w = true →
        ∃ t, exec (.sourcePulse src) s = .next t ∧ t.fab.tasks = s.fab.tasks ∧ flag (t.rg 0x08 0x048) 0 = true ∧
          t.own = s.own ∧ t.flash = s.flash)) ∧
    (∀ task : BitVec 8, (s.task task.toNat).held = false → exec (.taskTriggerTaken task) s = .next s) ∧
    (∀ k : Fin 4, (s.task (0x28 + k.val)).held = true → s.dead = false →
      s.unavailable (taskIsland (0x28 + k.val)) = false →
      exec (.taskTriggerTaken (BitVec.ofNat 8 (0x28 + k.val))) s =
        .next ((s.clearTask (0x28 + k.val)).fireWake (0x14 + k.val))) ∧
    (∀ t : Fin 16, (s.task t.val).held = true → s.dead = false → s.unavailable .aon = false →
      s.ready 0x0A = true → (s.thread t.val).st = .wait → flag (s.thrReg t.val 0x04) 2 = true →
      exec (.taskTriggerTaken (BitVec.ofNat 8 t.val)) s =
        .next ((s.clearTask t.val).cause t.val (some (s.task t.val).carried))) ∧
    (∀ tag : Fin 16, (s.waveTag tag.val).live = true → s.waveHeld tag.val = false →
      exec (.waveQuietExpiry tag) s =
        .next ((s.reach ((s.waveTag tag.val).last + BitVec.ofNat 64 (field (s.rg 0x08 0x04C) 9 0 * 2 ^ 17))).putWave tag.val
          { s.waveTag tag.val with live := false })) ∧
    (∀ tag : Fin 16, s.waveHeld tag.val = true → exec (.waveQuietExpiry tag) s = .next s) ∧
    (s.writeGate m 0x08 0x054 v = .pass → s.ready 0x08 = true →
      exec (.swgen m v) s =
        .next (({ s with fab := { s.fab with pulses := s.fab.pulses ++
          ((List.range 8).filter (fun n => flag v n && s.selected (0x28 + n))).map (fun n =>
            { src := 0x28 + n, raised := s.now }) } } :
          State).answer m 0 .done)) ∧
    (∀ (ch : Fin 64) (new : Word) (t : State), new = v &&& 0xFF0007FF →
      t = s.setRg 0x08 (0x100 + 0x10 * ch.val) (setField new 14 12 (Master.id m)) →
      s.writeGate m 0x08 (0x100 + 0x10 * ch.val) v = .pass → flag (s.chCfg ch.val) 8 = false →
      flag (s.chCfg ch.val) 9 = false → flag new 8 = true → sourceKnown (field new 7 0) = true →
      (∀ k, k ∈ t.chTasks ch.val → taskKnown k = true) → distinct (t.chTasks ch.val) = true →
      (flag new 9 = true ∨ (s.secureSource (field new 7 0) = false ∧ ∀ k, k ∈ t.chTasks ch.val → secureTask k = false)) →
      exec (.chCfgWrite m ch 0 v) s = .next (t.answer m 0 .done)) ∧
    (∀ (ch : Fin 64) (reg : Fin 3), reg ≠ 0 → s.writeGate m 0x08 (0x100 + 0x10 * ch.val + 4 * reg.val) v = .pass →
      flag (s.chCfg ch.val) 9 = false →
      (flag (s.chCfg ch.val) 8 = false →
        exec (.chCfgWrite m ch reg v) s =
          .next ((s.setRg 0x08 (0x100 + 0x10 * ch.val + 4 * reg.val) v).answer m 0 .done)) ∧
      (flag (s.chCfg ch.val) 8 = true →
        exec (.chCfgWrite m ch reg v) s = .next (s.reject m 0x08 (0x100 + 0x10 * ch.val + 4 * reg.val) .state))) ∧
    (∀ k : Fin 32, s.writeGate m 0x08 (0x080 + 4 * k.val) v = .pass →
      (s.assigned (field v 7 0) = true → field v 7 0 ≤ 0x7F → field v 7 0 ≠ 0x08 → s.chansOf (0xC0 + k.val) = [] →
        exec (.tapWrite m k v) s =
          .next ((s.setRg 0x08 (0x080 + 4 * k.val) (v &&& 0x80001FFF)).answer m 0 .done)) ∧
      ((s.assigned (field v 7 0) = false ∨ field v 7 0 = 0x08 ∨ s.chansOf (0xC0 + k.val) ≠ []) →
        exec (.tapWrite m k v) s = .next (s.reject m 0x08 (0x080 + 4 * k.val) .arg)))

/-- The queues: a whole packet is placed item by item in the next SEQ numbers, or not at all when it does not fit; an
item push opens a packet and its last item shows it; a master pushes and pops through QWIN, its reads of POP removing
the head item; a master's push into Q0 or Q1 is refused; a queue is enabled with storage taken from the pool (R238 to
R247, R251 to R253, R256). -/
def Obligations.Queues : Prop :=
  ∀ (s : State) (q : Fin 32) (who : Producer) (m : Master) (v : Word) (c : Word) (x : Queue), c = s.qcfg q.val →
    x = s.queue q.val →
    (s.granaryUp = true → qEn c = true → x.ptrBad = false → x.opened = none →
      Producer.barred who q.val = false →
      (∀ l : List (BitVec 24), l ≠ [] → x.items.length + l.length ≤ qCap c →
        exec (.wholePush q who l) s =
          .next ((s.putQueue q.val (x.show (packetItems (l.map (·.zeroExtend 32))))).refreshQueue q.val) ∧
        (x.show (packetItems (l.map (·.zeroExtend 32)))).items.length = x.items.length + l.length ∧
        (x.show (packetItems (l.map (·.zeroExtend 32)))).items.take x.items.length = x.items) ∧
      (∀ l : List (BitVec 24), l ≠ [] → qCap c < x.items.length + l.length →
        exec (.wholePush q who l) s =
          .next (((s.qCount q.val 11 0).evPulse (0x50 + q.val) 3).logErr (0x50 + q.val) 4 .busy)) ∧
      (∀ p : BitVec 24, qCut c = false → x.hidden = [] →
        ∃ t, exec (.itemPush q who 1 p) s = .next t ∧
          t.queue q.val = { x with
            opened := some (Producer.num who), total := 1, shown := 0, hidden := [rawItem 1 p.toNat] } ∧
          t.own = s.own ∧ t.flash = s.flash) ∧
      (∀ p : BitVec 24, x.items.length < qCap c →
        exec (.itemPush q who 0 p) s =
          .next ((s.putQueue q.val (x.show [rawItem 0 p.toNat])).refreshQueue q.val)) ∧
      (2 ≤ q.val → s.writeGate m (0x50 + q.val) 0x048 v = .pass → flag v 31 = false → field v 30 29 = 0 →
        x.items.length < qCap c →
        exec (.qwinPush m q v) s =
          .next (((s.putQueue q.val (x.show [rawItem 0 (field v 23 0)])).refreshQueue q.val).answer m 0 .done))) ∧
    (∀ (l : List (BitVec 24)) (pos : BitVec 2) (p : BitVec 24), l ≠ [] → Producer.barred who q.val = true →
      exec (.wholePush q who l) s = .next (s.logErr (0x50 + q.val) 4 .arg) ∧
      exec (.itemPush q who pos p) s = .next (s.logErr (0x50 + q.val) 4 .arg)) ∧
    (∀ p : BitVec 24, s.granaryUp = true → qEn c = true → x.ptrBad = false → qCut c = false →
      Producer.barred who q.val = false → x.opened = some (Producer.num who) → x.hidden.length < 64 → x.items.length + x.hidden.length < qCap c →
      exec (.itemPush q who 3 p) s =
        .next ((s.putQueue q.val { x.show (x.hidden ++ [rawItem 3 p.toNat]) with
          hidden := [], opened := none, total := 0, shown := 0 }).refreshQueue q.val)) ∧
    (exec (.wholePush q who []) s = .fault .illFormed) ∧
    (q.val ≤ 1 → s.writeGate m (0x50 + q.val) 0x048 v = .pass →
      exec (.qwinPush m q v) s = .next (s.reject m (0x50 + q.val) 0x048 .arg)) ∧
    (∀ e rest, s.readGate m (0x50 + q.val) 0x040 = .pass → s.consumes m q.val = true → x.ptrBad = false →
      x.items = e :: rest → e.bad = false →
      exec (.queuePop m q) s =
        .next (((s.putQueue q.val { x with items := rest }).refreshQueue q.val).answer m e.word .done)) ∧
    (s.readGate m (0x50 + q.val) 0x040 = .pass → s.consumes m q.val = true → x.ptrBad = false → x.items = [] →
      exec (.queuePop m q) s = .next (s.answer m 0 .done)) ∧
    (s.readGate m (0x50 + q.val) 0x040 = .pass → s.consumes m q.val = false →
      exec (.queuePop m q) s = .next (s.reject m (0x50 + q.val) 0x040 .notOwner)) ∧
    (∀ new, new = v &&& 0x07FF07F7 → 2 ≤ q.val → s.writeGate m 0x1B (0x100 + 0x10 * q.val) v = .pass → qEn c = false →
      qEn new = true →
      (4 * qCap new ≤ (s.rg 0x1B 0x044).toNat →
        exec (.qcfgWrite m q v) s =
          .next (((((s.poolTake new).putQueue q.val {}).setRg 0x1B (0x100 + 0x10 * q.val) new).refreshQueue q.val).answer m
            0 .done)) ∧
      ((s.rg 0x1B 0x044).toNat < 4 * qCap new →
        exec (.qcfgWrite m q v) s = .next (s.reject m 0x1B (0x100 + 0x10 * q.val) .busy)))

/-- Regions: DECLARE makes a region of free frames it did not hold, or answers BUSY where the reserve would go; RELEASE
returns its frames, zeroed, and touches no other frame; RESIZE drops its last frames; PIN and MIGRATE note or move, and a
pin abandons a copy of the region's frames in progress; a finished copy takes its frame's place; a scoring second clears the counts (R262 to R268, R276). -/
def Obligations.Regions : Prop :=
  ∀ (s : State) (tag : Fin 128) (k : Slot) (h n : Nat) (r : Region), k = s.slot tag.val → h = field (k.arg 0) 5 0 →
    n = field (k.arg 1) 9 0 → s.ready 0x1C = true →
    (∀ j, j ∈ s.gran.jobs → j.slot ≠ some (BitVec.ofNat 7 tag.val)) →
    (s.running tag.val 0x1C 1 = true → handleAllowed (field (k.arg 0) 10 8) h = true →
      sizeAllowed (field (k.arg 0) 10 8) n = true → s.region h = none →
      (n + 32 ≤ s.freeFrames → n ≤ (s.freeList 1472).length →
        ∃ t l, exec (.declare tag) s = .next t ∧ t.region h = some { purpose := field (k.arg 0) 10 8, frames := l } ∧
          l.length = n ∧ l.Nodup ∧ (∀ f, f ∈ l → f ∈ s.freeList 1472) ∧ (∀ g, g ≠ h → t.region g = s.region g) ∧
          (t.slot tag.val).result = some .done ∧ t.own = s.own ∧ t.flash = s.flash) ∧
      (s.freeFrames < n + 32 → exec (.declare tag) s = .next (s.setResult tag.val .busy))) ∧
    (s.running tag.val 0x1C 2 = true → s.region h = some r → h ≠ 0 → (h = 1 → s.logQueues = false) →
      s.regionInUse h = false →
      ∃ t, exec (.regionRelease tag) s = .next t ∧ t.region h = none ∧ (∀ g, g ≠ h → t.region g = s.region g) ∧
        (∀ a, t.sramByte a = if a / 4096 ∈ r.frames then 0 else s.sramByte a) ∧
        (t.slot tag.val).result = some .done ∧ t.own = s.own ∧ t.flash = s.flash) ∧
    (s.running tag.val 0x1C 3 = true → s.region h = some r → sizeAllowed r.purpose n = true → n ≤ r.frames.length →
      4 ≤ h →
      ∃ t, exec (.resize tag) s = .next t ∧ t.region h = some { r with frames := r.frames.take n } ∧
        (∀ a, t.sramByte a = if a / 4096 ∈ r.frames.drop n then 0 else s.sramByte a) ∧
        (t.slot tag.val).result = some .done ∧ t.own = s.own ∧ t.flash = s.flash) ∧
    (s.running tag.val 0x1C 4 = true → s.region h = some r → field (k.arg 0) 9 8 ≤ 1 → s.gran.jobs = [] →
      ((∀ c, s.gran.copy = some c → field (k.arg 0) 9 8 = 0 ∨ c.source ∉ r.frames) →
        exec (.pin tag) s =
          .next ((s.setRegion h (some { r with pin := field (k.arg 0) 9 8, bank := 0 })).setResult tag.val .done)) ∧
      (∀ c, s.gran.copy = some c → field (k.arg 0) 9 8 = 1 → c.source ∈ r.frames →
        ∃ t, exec (.pin tag) s = .next t ∧ t.region h = some { r with pin := 1, bank := 0 } ∧ t.gran.copy = none ∧
          t.gran.sram = s.gran.sram ∧ (t.slot tag.val).result = some .done ∧ t.own = s.own ∧ t.flash = s.flash)) ∧
    (s.running tag.val 0x1C 5 = true → s.region h = some r → r.pin = 0 → field (k.arg 0) 9 8 = 2 →
      ((∀ f, f ∈ r.frames → f / 32 = 46 ∨ f / 32 = 47) → exec (.migrate tag) s = .next (s.setResult tag.val .done)) ∧
      (∀ c l, s.gran.copy = some c → l = (placeFrames r.frames 2 0).1 → l ≠ [] →
        l.length ≤ (s.moveTargets (some [46, 47])).length →
        exec (.migrate tag) s = .next { s with gran := { s.gran with jobs := s.gran.jobs ++
          [{ region := some h, reason := 4, banks := some [46, 47], slot := some (BitVec.ofNat 7 tag.val), pin := none }] } }))
      ∧
    (s.running tag.val 0x1C 5 = true → s.region h = some r → r.pin ≠ 0 → field (k.arg 0) 9 8 = 2 →
      exec (.migrate tag) s = .next (s.setResult tag.val .state)) ∧
    (∀ c, s.gran.copy = some c → s.gran.jobs = [] →
      ((s.regionOf c.source).isSome = true → (∀ w, w ∈ s.gran.soft → w / 1024 ≠ c.source) →
        exec .frameCopyDone s =
          .next (({ s with gran := { s.gran with copy := none } } : State).moveFrame c.source c.dest)) ∧
      ((s.regionOf c.source).isSome = true →
        exec .frameCopyDone s =
          .next (((({ s with gran := { s.gran with copy := none } } : State).correctWords (fun w =>
            w / 1024 == c.source)).moveFrame c.source c.dest).nextCopy 2048)) ∧
      (s.regionOf c.source = none →
        exec .frameCopyDone s = .next { s with gran := { s.gran with copy := none } })) ∧
    (s.granaryUp = true → s.pwr.depth ≠ .guard → flag (s.rg 0x1C 0x088) 0 = false →
      ∃ t, exec .loftScoring s = .next t ∧ t.gran.near = [] ∧ t.gran.far = [] ∧ t.gran.regions = s.gran.regions ∧
        t.gran.sram = s.gran.sram ∧ t.own = s.own ∧ t.flash = s.flash) ∧
    (s.granaryUp = false → exec .loftScoring s = .next s)

/-- Handlers, contexts and the memory tests: HDECLARE and HPIN write the handler, HRAISE's bits are cleared by 1, CTX_RES
is kept within the contexts in service; banks are tested, returned, skipped, and waited for while a copy runs or GRANARY
is in GUARD; a test pass goes region by region to its
end (R263, R269, R272 to R277). -/
def Obligations.HandlersAndTests : Prop :=
  ∀ (s : State) (tag : Fin 128) (m : Master) (v : Word) (k : Slot) (n b : Nat), k = s.slot tag.val →
    n = field (k.arg 0) 4 0 → b = field (k.arg 0) 5 0 →
    (s.ready 0x1C = true → s.running tag.val 0x1C 6 = true → flag (k.arg 0) 22 = false → flag (k.arg 0) 21 = true →
      exec (.hdeclare tag) s =
        .next ((s.setHandler n (some { channel := field (k.arg 0) 13 8, thread := field (k.arg 0) 19 16
                                       gform := flag (k.arg 0) 20, cform := true })).setResult tag.val .done)) ∧
    (∀ h w, s.ready 0x1C = true → s.running tag.val 0x1C 7 = true → s.handler n = some h →
      w = field (k.arg 0) 9 8 → w ≤ 2 → (w = 1 → h.gform = true) → (w = 2 → h.cform = true) →
      exec (.hpin tag) s = .next ((s.setHandler n (some { h with pin := w })).setResult tag.val .done)) ∧
    (s.writeGate m 0x1C 0x084 v = .pass →
      ∃ t, exec (.hraiseClear m v) s = .next t ∧ t.rg 0x1C 0x084 = s.rg 0x1C 0x084 &&& ~~~v ∧
        t.lastOf m = { value := 0, code := .done } ∧ t.gran = s.gran ∧ t.own = s.own) ∧
    (s.writeGate m 0x1C 0x06C v = .pass →
      (field v 7 0 + field v 15 8 + field v 23 16 ≤ s.ctxService →
        exec (.ctxResWrite m v) s = .next ((s.setRg 0x1C 0x06C (v &&& 0x00FFFFFF)).answer m 0 .done)) ∧
      (s.ctxService < field v 7 0 + field v 15 8 + field v 23 16 →
        exec (.ctxResWrite m v) s = .next (s.reject m 0x1C 0x06C .arg))) ∧
    (∀ pass : Bool, s.ready 0x1C = true → s.running tag.val 0x1C 8 = true → b < 48 →
      (s.bankWaits b = false →
        ∃ t, exec (.bankReturn tag pass) s = .next t ∧
          (t.slot tag.val).result =
            some (if s.skipBank b = true then .state else if pass = true then .done else .integrity) ∧
          (s.skipBank b = false → pass = true → t.bankGood b = true) ∧ t.own = s.own ∧ t.flash = s.flash) ∧
      (s.bankWaits b = true → exec (.bankReturn tag pass) s = .next s)) ∧
    (s.ready 0x1D = true → s.running tag.val 0x1D 1 = true → s.gran.pass = none →
      exec (.memtestPass tag) s =
        .next (({ s with gran := { s.gran with
          test := none, pass := some (BitVec.ofNat 7 tag.val), passFailed := false } } : State).setRg 0x1D 0x044 0)) ∧
    (∀ pass : Bool, s.ready 0x1D = true → s.running tag.val 0x1D 2 = true → flag (k.arg 0) 6 = false → b < 48 →
      (s.bankWaits b = false →
        ∃ t, exec (.memtestBank tag pass) s = .next t ∧
          (t.slot tag.val).result =
            some (if s.skipBank b = true then .state else if pass = true then .done else .integrity) ∧
          t.own = s.own ∧ t.flash = s.flash) ∧
      (s.bankWaits b = true → exec (.memtestBank tag pass) s = .next s)) ∧
    (∀ r, r = field (s.rg 0x1D 0x044) 14 0 → s.ready 0x1D = true → s.unavailable .granary = false →
      s.gran.test = none → s.gran.copy = none → flag (s.rg 0x1D 0x040) 0 = true →
      ∃ t, exec .regionTestStart s = .next t ∧ t.gran = { s.gran with test := some r, testAt := t.now } ∧
        t.regs = s.regs ∧ t.own = s.own ∧ t.flash = s.flash) ∧
    (∀ r, s.gran.test = some r → r + 1 < 24832 → s.gran.jobs = [] →
      exec (.regionTestEnd none) s =
        .next (({ s with gran := { s.gran with test := none } } : State).setRg 0x1D 0x044 (BitVec.ofNat 32 (r + 1)))) ∧
    (∀ tg : Fin 128, s.gran.test = some 24831 → s.gran.jobs = [] → s.gran.pass = some (BitVec.ofNat 7 tg.val) →
      ∃ t, exec (.regionTestEnd none) s = .next t ∧ t.gran.test = none ∧ t.gran.pass = none ∧ t.rg 0x1D 0x044 = 0 ∧
        (t.slot tg.val).result = some (if s.gran.passFailed = true then .integrity else .done) ∧ t.own = s.own) ∧
    (∀ pass : Bool, s.gran.bankDue = true → s.granaryUp = true →
      s.bankWaits (field (s.rg 0x1D 0x04C) 13 8) = false →
      ∃ t, exec (.bankTest pass) s = .next t ∧ t.gran.bankDue = false ∧ t.own = s.own ∧ t.flash = s.flash) ∧
    (∀ pass : Bool, s.gran.bankDue = false → exec (.bankTest pass) s = .next s)

/-- The memory window: a read through an open aperture answers the word it reaches, a single-bit error corrected, the owner's write stores one, and an
uncorrectable word is refused with INTEGRITY and its address kept, and an access beyond the region is answered 0 or refused with ARG, a write into queue storage with STATE (R261, R265). -/
def Obligations.MemoryWindow : Prop :=
  ∀ (s : State) (m : Master) (page : BitVec 7) (word : BitVec 10) (v : Word) (p off a : Nat), p = 0x80 + page.toNat →
    off = 4 * word.toNat → a = p * 0x1000 + off → s.ready 0x1C = true → s.insecure m 0x1C off = false →
    (∀ w, s.readGate m p off = .pass →
      (flag (s.rg 0x1C (0x0C0 + 4 * ((a - 0x80000) / 0x20000))) 7 = false ∨ s.isOwner m = true) →
      s.winRef a = .word w → s.gran.bad.contains w = false →
      exec (.memoryWindowRead m page word 0) s =
        .next ((if s.gran.soft.contains w = true then (s.countAccess false w).correctWords (· == w)
          else s.countAccess false w).answer m (s.sramWord w) .done)) ∧
    (s.readGate m p off = .pass →
      (flag (s.rg 0x1C (0x0C0 + 4 * ((a - 0x80000) / 0x20000))) 7 = false ∨ s.isOwner m = true) →
      (∀ w, s.winRef a = .queue w → s.gran.bad.contains w = true →
        exec (.memoryWindowRead m page word 0) s = .next ((s.ueRead w).windowReject m p off .integrity)) ∧
      (s.winRef a = .outside → ∀ e, exec (.memoryWindowRead m page word e) s = .next (s.answer m 0 .done))) ∧
    (∀ w, s.writeGate m p off v = .pass → s.isOwner m = true → s.winRef a = .word w →
      exec (.memoryWindowWrite m page word v) s =
        .next (((s.countAccess false w).setSramWord w v).answer m 0 .done)) ∧
    (s.writeGate m p off v = .pass → s.isOwner m = true →
      (s.winRef a = .outside → exec (.memoryWindowWrite m page word v) s = .next (s.windowReject m p off .arg)) ∧
      (∀ w, s.winRef a = .queue w → exec (.memoryWindowWrite m page word v) s = .next (s.windowReject m p off .state))) ∧
    (s.writeGate m p off v = .pass → s.isOwner m = false →
      exec (.memoryWindowWrite m page word v) s = .next (s.windowReject m p off .notOwner))

/-- A word of SRAM reads back as it was written, and every other word reads as before (R261). -/
def Obligations.SramReadsBack : Prop :=
  ∀ (s : State) (w u : Nat) (v : Word),
    (s.setSramWord w v).sramWord w = v ∧ (u ≠ w → (s.setSramWord w v).sramWord u = s.sramWord u) ∧
    (s.setSramWord w v).gran.regions = s.gran.regions ∧ (s.setSramWord w v).flash = s.flash

/-- The operations of FLASH: PROGRAM writes its codewords, which then read as written; ERASE leaves its sector erased and
every other cell alone, and of a dirty spare makes it clean; REFRESH copies a page at a time and remaps its sector after
the last; COPY, UNLOCK and RELOCK; GROUP_WRITE takes effect in the shadow; the fetch bank; the
agent's refreshes and erases of spares (R281 to R288, R295 to R303). -/
def Obligations.FlashOperations : Prop :=
  ∀ (s : State) (tag : Fin 128) (k : Slot), k = s.slot tag.val →
    (∀ r, s.flash.run = some r → r.tag = BitVec.ofNat 7 tag.val → s.running tag.val 0x1E 1 = true → r.erase = false →
      s.flash.log.slot = none → s.core.stall = none →
      exec (.program tag) s =
        .next (((s.putCws r.codeword r.data r.count).updFlash (fun x =>
          { (x.dropLines r.codeword r.count) with run := none })).setResult tag.val .done)) ∧
    (∀ cw l, l.length = 8 → s.unmapped (cw / 512) = false →
      (s.putCw cw l).cwBytes cw = wordsBytes l ∧ (s.putCw cw l).marked cw = true) ∧
    (∀ r n, s.flash.run = some r → r.tag = BitVec.ofNat 7 tag.val → s.running tag.val 0x1E 2 = true → r.erase = true →
      r.spare = false → n = r.codeword / 512 → s.windowSlot n = false → s.flash.log.todo = [] → s.core.stall = none →
      ∃ t, exec (.erase tag) s = .next t ∧ t.flash.run = none ∧ (t.slot tag.val).result = some .done ∧
        (∀ a, Tab.get flashDefault t.flash.cells a =
          if a / 16384 = s.physSector n then 0xFF else Tab.get flashDefault s.flash.cells a) ∧
        (∀ c, Tab.get (fun _ => false) t.flash.marks c =
          if c / 512 = s.physSector n then false else Tab.get (fun _ => false) s.flash.marks c) ∧
        t.own = s.own ∧ t.gran = s.gran) ∧
    (∀ r p, s.flash.run = some r → r.tag = BitVec.ofNat 7 tag.val → s.running tag.val 0x1E 2 = true → r.erase = true →
      r.spare = true → p = r.codeword / 512 → s.core.stall = none →
      ∃ t, exec (.erase tag) s = .next t ∧ t.flash.run = none ∧ t.flash.spare = none ∧ p ∉ t.flash.dirty ∧
        (t.slot tag.val).result = some .done ∧
        (∀ a, Tab.get flashDefault t.flash.cells a =
          if a / 16384 = p then 0xFF else Tab.get flashDefault s.flash.cells a) ∧
        t.flash.map = s.flash.map ∧ t.flash.journal = s.flash.journal.filter (fun e => e.phys != some p) ∧ t.own = s.own ∧ t.gran = s.gran) ∧
    (∀ u l ok, s.running tag.val 0x1E 3 = true → s.copyArgs k = true → s.ready 0x1E = true →
      s.flashWords (slotMaster k) (k.arg 0).toNat (field (k.arg 2) 14 0) = (u, l, ok) →
      exec (.copy tag) s =
        .next ((u.winWrites (k.arg 1).toNat l).setResult tag.val (if ok = true then .done else .integrity))) ∧
    (s.running tag.val 0x1E 4 = true → s.ready 0x1E = true → s.ready 0x3A = true → flag (s.rg 0x1E 0x094) 4 = false →
      flag (s.optWord 16) 3 = true → s.selfTesting = false →
      (storedPassword ((List.range 4).map k.arg) = (List.range 4).map (fun i => s.optWord (20 + i)) →
        ∃ t, exec (.unlock tag) s = .next t ∧ t.rg 0x1E 0x08C = s.rg 0x1E 0x08C ||| k.arg 4 ∧
          t.rg 0x1E 0x090 = s.rg 0x1E 0x090 ||| k.arg 5 ∧ t.opt.unlocked = true ∧
          (t.slot tag.val).result = some .done ∧ t.flash = s.flash ∧ t.own = s.own) ∧
      (storedPassword ((List.range 4).map k.arg) ≠ (List.range 4).map (fun i => s.optWord (20 + i)) →
        ∃ t, exec (.unlock tag) s = .next t ∧ t.rg 0x1E 0x08C = s.rg 0x1E 0x08C ∧ t.opt = s.opt ∧
          field (t.rg 0x1E 0x094) 3 0 = min (field (s.rg 0x1E 0x094) 3 0 + 1) 10 ∧
          (t.slot tag.val).result = some .security)) ∧
    (s.running tag.val 0x1E 5 = true → s.ready 0x1E = true →
      exec (.relock tag) s =
        .next (((s.updRg 0x1E 0x08C (· &&& ~~~(k.arg 0))).updRg 0x1E 0x090 (· &&& ~~~(k.arg 1))).setResult tag.val
          .done)) ∧
    (∀ n, s.running tag.val 0x1E 6 = true → s.ready 0x1E = true → (k.arg 0).toNat < 0x1000000 →
      n = (k.arg 0).toNat / 16384 → s.flash.refreshing = none → s.unmapped n = false →
      (s.fetchesFrom (sectorBank n) = true → s.refreshOwned k n = false →
        exec (.refresh tag) s = .next (s.setResult tag.val .sameBank)) ∧
      (∀ r u l, s.fetchesFrom (sectorBank n) = false ∨ s.refreshOwned k n = true → s.journalled n = false →
        s.refreshRun n (k.src == 6) = some r → s.readAll (s.programmed n r.page) = (u, some l) →
        (r.page = 31 →
          ∃ t, exec (.refresh tag) s = .next t ∧ t.physSector n = r.target ∧ s.physSector n ∈ t.flash.dirty ∧
            (t.slot tag.val).result = some .done ∧ t.gran = s.gran ∧ t.own = s.own) ∧
        (r.page < 31 →
          ∃ t, exec (.refresh tag) s = .next t ∧ t.physSector n = s.physSector n ∧
            { r with page := r.page + 1, device := k.src == 6 } ∈ t.flash.refreshes ∧
            (t.slot tag.val).result = (if k.src = 6 then some .done else none) ∧ t.gran = s.gran ∧ t.own = s.own))) ∧
    (∀ t g words, s.opt.writing = some (t, g, words) → t.toNat = tag.val → s.running tag.val 0x03 1 = true →
      words.length = 8 → s.selfTesting = false →
      ∃ u, exec (.groupWrite tag) s = .next u ∧ u.opt.writing = none ∧ (u.slot tag.val).result = some .done ∧
        (∀ i, i < 8 → u.optWord (8 * g + i) = words.getD i 0) ∧
        (∀ i, i < 8 * g ∨ 8 * g + 8 ≤ i → u.optWord i = s.optWord i) ∧ u.flash = s.flash ∧ u.own = s.own) ∧
    (∀ b : Fin 3, exec (.fetchBankChange (some b)) s =
      .next (({ s with core := { s.core with fetch := some b.val } } : State).setRg 0x1E 0x044
        (pack [(0, 2, b.val), (2, 1, 1)]))) ∧
    (exec (.fetchBankChange none) s =
      .next (({ s with core := { s.core with fetch := none } } : State).setRg 0x1E 0x044 0)) ∧
    (∀ t u, s.flashUp = true → flag (s.rg 0x1E 0x048) 2 = true → s.flash.refreshing = none →
      (∀ e, s.flash.refreshes = [] → s.flash.weak = [e] → e.ue = false → s.journalled (e.codeword / 512) = false →
        (s.refreshTarget (e.codeword / 512)).isSome = true →
        s.agentQueue 6 0x1E 6 [BitVec.ofNat 32 (16384 * (e.codeword / 512))] = some (t, u) →
        exec .weakRefresh s = .next (u.updFlash (fun x => { x with refreshing := some (BitVec.ofNat 7 t) }))) ∧
      (∀ r, s.flash.refreshes = [r] → r.device = true →
        s.agentQueue 6 0x1E 6 [BitVec.ofNat 32 (16384 * r.sector + 512 * r.page)] = some (t, u) →
        exec .weakRefresh s = .next (u.updFlash (fun x => { x with refreshing := some (BitVec.ofNat 7 t) })))) ∧
    (s.flash.weak = [] → s.flash.refreshes = [] → exec .weakRefresh s = .next s) ∧
    (∀ p rest t u, s.flash.dirty = p :: rest → s.fetchesFrom (physBank p) = false → s.flashUp = true →
      s.flash.spare = none → s.agentQueue 6 0x1E 2 [BitVec.ofNat 32 (16384 * p)] = some (t, u) →
      exec .dirtySpareErase s = .next (u.updFlash (fun x => { x with spare := some (BitVec.ofNat 7 t, p) }))) ∧
    (s.flash.dirty = [] → exec .dirtySpareErase s = .next s)

/-- The log writer: it takes whole packets behind a header word, commits when a commit is due, asks for the erase of the
next ring sector, finds its place after a start, and is configured while it is off (R290 to R294). -/
def Obligations.LogWriter : Prop :=
  ∀ (s : State) (m : Master) (v : Word),
    (∀ q n u items, s.logRuns = true → s.clock .flash = .full → s.flash.log.due = false → s.granaryUp = true → s.flash.log.todo = [] →
      s.logSource = some q → packetLen (s.queue q).items = some n → s.popItems q n = (u, items) →
      s.flash.log.buf.length + n + 1 < 8 →
      ∃ t, exec .logAppend s = .next t ∧
        t.flash.log.buf = s.flash.log.buf ++ pack [(0, 16, n), (23, 5, q), (28, 4, 0xA)] :: items ∧
        t.flash.log.count = s.flash.log.count + n + 1 ∧ t.flash.log.todo = [] ∧ t.queues = u.queues ∧ t.own = s.own) ∧
    (s.logRuns = false → exec .logAppend s = .next s ∧ exec .logCommit s = .next s) ∧
    (s.logRuns = true → s.flash.log.due = true → s.flash.log.todo = [] →
      ∃ t, exec .logCommit s = .next t ∧ t.flash.log.due = false ∧ t.flash.log.count = 0 ∧
        t.flash.log.crc = 0xFFFFFFFF ∧ t.flash.log.first = none ∧ t.flash.log.buf = [] ∧ t.rg 0x1E 0x060 = 0 ∧
        t.flash.log.todo.getLast?.map (·.commit) = some true ∧ t.flash.cells = s.flash.cells ∧ t.own = s.own) ∧
    (∀ t, s.flash.log.first = some t →
      exec .commitTimeout s =
        .next ((s.reach (t + BitVec.ofNat 64 (secTime (field (s.rg 0x1E 0x050) 15 0)))).updLog
          (fun l => { l with due := true }))) ∧
    (s.flash.log.first = none → exec .commitTimeout s = .next s) ∧
    (s.writeGate m 0x1E 0x054 v = .pass → s.flash.log.todo = [] →
      exec (.flush m v) s =
        .next (((s.setRg 0x1E 0x054 (v &&& 1)).updLog (fun l => { l with
          halted := false, due := l.due || flag v 1 })).refreshFlash.answer m 0 .done)) ∧
    (∀ n t u, s.flash.log.sector = some n → s.flash.log.erasing = none → s.flashUp = true →
      s.agentQueue 6 0x1E 2 [BitVec.ofNat 32 (0x800000 + n * 16384)] = some (t, u) →
      exec .logSectorErase s =
        .next (u.updLog (fun l => { l with sector := none, erasing := some (BitVec.ofNat 7 t) }))) ∧
    (s.flash.log.sector = none → exec .logSectorErase s = .next s) ∧
    (s.flashUp = true → flag (s.rg 0x1E 0x054) 0 = true → s.flash.log.resumed = false → s.newestCommit = none →
      1 ≤ s.logCount → s.wordlineClean (32 * s.logFirst) = true →
      exec .logResume s =
        .next (((s.setLogPos (32 * s.logFirst) 0).setRg 0x1E 0x05C 0).updLog (fun l => { l with
          resumed := true, entered := none }))) ∧
    (s.flash.log.resumed = true → exec .logResume s = .next s) ∧
    (s.writeGate m 0x1E 0x04C v = .pass →
      (flag (s.rg 0x1E 0x054) 0 = true → exec (.logcfgWrite m v) s = .next (s.reject m 0x1E 0x04C .state)) ∧
      (flag (s.rg 0x1E 0x054) 0 = false → 2 ≤ field v 25 16 → field v 8 0 + field v 25 16 ≤ 512 →
        (s.rotW = 0 ∨ 480 ≤ field v 8 0) →
        exec (.logcfgWrite m v) s =
          .next (((s.setRg 0x1E 0x04C (v &&& 0x03FF01FF)).updLog (fun l => { l with resumed := false })).answer m 0
            .done)))

/-- Starting the core and confirming its image: with no well-formed header in either bank CORE sets FAULT; the image of
bank A alone, once it checks, is started at its entry in machine mode; CONFIRM asks for the confirmation record, and its
writing ends the unconfirmed run (R427, R428). -/
def Obligations.CoreBoot : Prop :=
  ∀ (s a b : State) (m : Master) (v : Word),
    (s.core.released = true → exec .coreBoot s = .next s) ∧
    (s.core.released = false → s.dead = false → s.unavailable .core = false → flag (s.rg 0x38 0x004) 2 = false →
      (groupNeeds 10).all s.groupReady = true → s.flashBusy 0 0x800000 = false → s.bankHeader 0 = (a, none) →
      a.bankHeader 1 = (b, none) →
      exec .coreBoot s =
        .next (((((b.setRg 0x38 0x048 0).setRg 0x38 0x04C 0).setReadyBits 0x38 (fun w =>
          setFlag (setFlag w 2 true) 0 false))).faultRec 0x10 0x38 0)) ∧
    (∀ h c x signed, s.core.released = false → s.dead = false → s.unavailable .core = false →
      flag (s.rg 0x38 0x004) 2 = false → (groupNeeds 10).all s.groupReady = true → s.flashBusy 0 0x800000 = false →
      s.bankHeader 0 = (a, some h) →
      a.bankHeader 1 = (b, none) →
      c = (b.setRg 0x38 0x048 (BitVec.ofNat 32 (hdrField h 8 4))).setRg 0x38 0x04C 0 → flag (c.rg 0x38 0x044) 8 = false →
      c.core.ran ≠ some 0 → c.checkBank 0 (some h) = (x, .ok signed) →
      exec .coreBoot s = .next (x.startImage 0 2 signed h)) ∧
    (∀ n why signed h, (s.startImage n why signed h).core.released = true ∧
      (s.startImage n why signed h).core.machine = true ∧
      (s.startImage n why signed h).core.pc = BitVec.ofNat 32 (hdrField h 0x010 4) ∧
      (s.startImage n why signed h).core.reg 10 = BitVec.ofNat 32 n) ∧
    (s.writeGate m 0x38 0x044 v = .pass → flag v 0 = true → s.unconfirmed = true →
      exec (.confirm m v) s =
        .next (({ (s.setRg 0x38 0x044 (v &&& 0x300)) with
          flash := { s.flash with confirming := some s.runningImage } } : State).answer m 0 .done)) ∧
    (s.writeGate m 0x38 0x044 v = .pass → flag v 0 = false →
      exec (.confirm m v) s = .next ((s.setRg 0x38 0x044 (v &&& 0x300)).answer m 0 .done)) ∧
    (∀ r, s.flash.confirming = some r → s.flashUp = true → s.unconfirmed = true → s.runningImage = r →
      exec .confirmationRecordWrite s =
        .next (({ s with flash := { s.flash with confirmed := some r, confirming := none } } : State).setUnconfirmed
          false)) ∧
    (s.flash.confirming = none → exec .confirmationRecordWrite s = .next s)

/-- The running core: WFI stops it in machine mode and is an illegal instruction in user mode; a wake condition ends
it; a read of a busy flash bank waits; an uncorrectable codeword or TCM word traps; a trap saves the program counter and enters machine mode at the vector;
checkpoints and debug halts (R282, R284, R423, R424, R430, R433, R441, R447).

A first mismatch of the lockstep pair takes it back to its last checkpoint, general registers, pc and mode, and
records it with pc and stamp; a second one before a new checkpoint resets CORE (R430 to R432). -/
def Obligations.CoreEvents : Prop :=
  (∀ (s : State),
       (∀ cause tval, (s.trap cause tval).core.csrOf 0x341 = s.core.pc ∧ (s.trap cause tval).core.csrOf 0x342 = cause ∧
         (s.trap cause tval).core.csrOf 0x343 = tval ∧ (s.trap cause tval).core.machine = true ∧
         (s.trap cause tval).core.pc = s.core.trapVector cause ∧ (s.trap cause tval).core.x = s.core.x ∧
         (s.trap cause tval).bank = s.bank) ∧
       (s.hartRuns = true → s.core.machine = true →
         exec .wfi s = .next (s.updCore (fun c => { c with wfi := true })).syncWdt) ∧
       (s.hartRuns = true → s.core.machine = false →
         ∃ t, exec .wfi s = .next t ∧ (t = ({ s with fresh := s.fresh + 1 } : State).trap 2 0 ∨
           t = ({ s with fresh := s.fresh + 1 } : State).trap 2 0x10500073)) ∧
       (s.hartRuns = false → exec .wfi s = .next s) ∧
       (s.core.wfi = true → s.wakeCond = true → s.pwr.depth = .awake → s.unavailable .core = false →
         exec .wfiWake s = .next (s.updCore (fun c => { c with wfi := false, pc := c.pc + 4 })).syncWdt) ∧
       (s.core.wfi = false → exec .wfiWake s = .next s) ∧
       (∀ cw : BitVec 19, s.hartRuns = true → s.flashUp = true → 0x40000 ≤ cw.toNat →
         ∃ t, exec (.coreFlashRead cw true 0) s = .next t ∧
           t = ({ s with fresh := s.fresh + 1 } : State).trap 1 (t.core.csrOf 0x343)) ∧
       (∀ (cw : BitVec 19) (e : Fin 5), s.hartRuns = true → s.flashUp = true → cw.toNat < 0x40000 → e.val ≤ 2 →
         s.unmapped (cw.toNat / 512) = false → s.eraseCut cw.toNat = false →
         Tab.get (fun _ => 0) s.flash.health (s.physCw cw.toNat) ≤ 2 → s.flashBusy (32 * cw.toNat) 32 = false →
         ∃ t, exec (.coreFlashRead cw true e) s = .next t ∧ t.core = s.core ∧
           (s.flash.run = none → t.flash.cells = s.flash.cells) ∧ t.gran = s.gran ∧ t.own.owner = s.own.owner) ∧
       (∀ cw : BitVec 19, s.hartRuns = true → s.flashUp = true → cw.toNat < 0x40000 → s.lineOf cw.toNat = none →
         s.flashBusy (32 * cw.toNat) 32 = true →
         ∃ t, exec (.coreFlashRead cw true 0) s = .next t ∧ t.core = { s.core with stall := some (cw.toNat, true) } ∧
           t.flash.cells = s.flash.cells ∧ t.gran = s.gran ∧ t.own = s.own) ∧
       (∀ (w : Fin 131072) (fetch : Bool), s.hartRuns = true → (fetch = true → w.val < 0x10000) →
         ∃ t, exec (.tcmUe w fetch) s = .next t ∧ t.core.csrOf 0x342 = (if fetch = true then 1 else 5) ∧
           t.core.csrOf 0x341 = s.core.pc ∧ w.val ∈ t.core.tcmBad ∧ t.core.machine = true ∧ t.gran = s.gran ∧
           t.flash = s.flash) ∧
       (∀ w : Fin 131072, s.hartRuns = true → 0x10000 ≤ w.val →
         exec (.tcmUe w true) s = .next (s.trap 1 (BitVec.ofNat 32 (0x10000000 + 4 * (w.val - 0x10000))))) ∧
       (∀ u, s.core.released = true → s.pwr.depth = .awake → s.unavailable .core = false →
         u = s.reach (s.core.ckptAt + BitVec.ofNat 64 (usTime (field (s.rg 0x38 0x064) 4 0))) →
         exec .checkpointInterval s = .next (u.updCore (fun c => c.checkpoint u.now))) ∧
       (s.core.released = true → s.fuse.debugClosed = false → s.pwr.depth = .awake → s.unavailable .core = false →
         exec .debugHalt s = .next (s.endWfi.updCore (fun c => { c with halted := true })).syncWdt) ∧
       (s.core.halted = true → s.fuse.debugClosed = false → s.pwr.depth = .awake → s.unavailable .core = false →
         exec .debugResume s = .next (s.updCore (fun c => { c with halted := false })).syncWdt) ∧
       (s.fuse.debugClosed = true → exec .debugHalt s = .next s ∧ exec .debugResume s = .next s)) ∧
  (∀ s : State, s.core.released = true → s.core.wfi = false → s.pwr.depth = .awake → s.unavailable .core = false →
       (s.core.resyncOpen = false → (s.core.resyncs.filter (fun t => decide ((s.now - t).toNat ≤ secTime 1))).length < 3 →
         ∃ t, exec .lockstepResync s = .next t ∧ t.core.pc = s.core.ckpt.pc ∧ t.core.x = s.core.ckpt.x ∧
           t.core.machine = s.core.ckpt.machine ∧ t.core.resyncOpen = true ∧ t.core.undo = [] ∧
           t.rg 0x38 0x058 = s.core.ckpt.pc ∧ t.own = s.own ∧ t.gran = s.gran ∧ t.flash = s.flash ∧ t.ops = s.ops) ∧
       (s.core.resyncOpen = true →
         exec .lockstepResync s =
           .next (((s.setRg 0x38 0x054 (satField (s.rg 0x38 0x054) 23 16 1)).faultRec 0x04 0x38 0).islandReset 5 0xF
             0x010)))

/-- Interrupts: a deliverable source traps the core, a host-target source leaves a record in Q1; the core claims and
completes in order, a completion out of order freezes the stack until UNFREEZE; sources are configured while they are
not active; a moderation interval ends; a handler whose HRAISE bit waits is served once its source is configured (R252,
R434 to R440, R443, R445, R532). -/
def Obligations.Interrupts : Prop :=
  ∀ (s : State) (m : Master) (v : Word),
    (∀ (src : BitVec 8) n t, s.intc.due.find? (fun e => e.1 == src.toNat) = some (n, t) →
      exec (.externalInterrupt src) s =
        .next (({ s with intc := { s.intc with due := s.intc.due.erase (n, t) } } : State).blockPush 1
          (hostRecord n t)).1) ∧
    (∀ src : BitVec 8, s.intc.due.find? (fun e => e.1 == src.toNat) = none →
      (s.takesInterrupts = true → s.deliverable src.toNat = true →
        exec (.externalInterrupt src) s = .next (s.trap 0x8000000B 0)) ∧
      (s.takesInterrupts = false → exec (.externalInterrupt src) s = .next s)) ∧
    (∀ n, n = field v 7 0 → s.writeGate .core 0x09 0x048 v = .pass → sourceValid n = true → s.srcTarget n = 0 →
      s.srcActive n = false → s.effective < s.srcPrio n → s.intc.frozen = false → flag (s.srccfg n) 12 = false →
      exec (.intcClaim .core v) s =
        .next ((s.updIntc (fun i => { (i.setActive n true) with stack := (n, s.srcPrio n) :: i.stack })).answer .core 0
          .done)) ∧
    (m ≠ .core → s.writeGate m 0x09 0x048 v = .pass →
      exec (.intcClaim m v) s = .next (s.reject m 0x09 0x048 .state)) ∧
    (∀ n p rest, n = field v 7 0 → s.writeGate m 0x09 0x04C v = .pass → s.intc.frozen = false → n < 192 →
      s.srcTarget n = 0 → s.intc.stack = (n, p) :: rest →
      exec (.intcComplete m v) s =
        .next ((s.updIntc (fun i => { (i.setActive n false) with stack := rest })).answer m 0 .done)) ∧
    (∀ n k p rest, n = field v 7 0 → s.writeGate m 0x09 0x04C v = .pass → s.intc.frozen = false → n < 192 →
      s.srcTarget n = 0 → s.intc.stack = (k, p) :: rest → k ≠ n →
      ∃ t, exec (.intcComplete m v) s = .next t ∧ t.intc.frozen = true ∧ t.intc.stack = s.intc.stack ∧
        t.lastOf m = { value := 0, code := .state } ∧ t.gran = s.gran ∧ t.flash = s.flash) ∧
    (s.writeGate m 0x09 0x050 v = .pass → field v 31 24 = 0x3C → flag v 0 = true →
      exec (.unfreeze m v) s =
        .next (((s.updIntc (fun i => { i with stack := [], active := 0, frozen := false })).evLevel 0x09 0 false).answer m 0
          .done)) ∧
    (s.writeGate m 0x09 0x050 v = .pass → field v 31 24 ≠ 0x3C →
      exec (.unfreeze m v) s = .next (s.reject m 0x09 0x050 .arg)) ∧
    (∀ n : Fin 192, s.writeGate m 0x09 (0x200 + 4 * n.val) v = .pass → sourceValid n.val = true →
      (s.srcActive n.val = false →
        exec (.srccfgWrite m n v) s =
          .next ((s.setRg 0x09 (0x200 + 4 * n.val) (v &&& 0x1F3F)).answer m 0 .done)) ∧
      (s.srcActive n.val = true →
        exec (.srccfgWrite m n v) s = .next (s.reject m 0x09 (0x200 + 4 * n.val) .state))) ∧
    (∀ g : Fin 16, (s.modGroup g.val).holding = true → field (s.rg 0x09 (0x140 + 4 * g.val)) 15 0 ≠ 0 →
      exec (.modIntervalExpiry g) s =
        .next ((s.reach ((s.modGroup g.val).since +
          BitVec.ofNat 64 (usTime (field (s.rg 0x09 (0x140 + 4 * g.val)) 15 0)))).releaseGroup g.val)) ∧
    (∀ g : Fin 16, (s.modGroup g.val).holding = false → exec (.modIntervalExpiry g) s = .next s) ∧
    (∀ n : Fin 32, flag (s.rg 0x1C 0x084) n.val = true → s.srcTarget (0x70 + n.val) = 0 →
      s.effective < s.srcPrio (0x70 + n.val) → s.srcEn (0x70 + n.val) = true → s.srcActive (0x70 + n.val) = false →
      s.coreReleased (0x70 + n.val) = true → s.intc.frozen = false → s.takesInterrupts = true → s.intc.due = [] →
      exec (.externalInterrupt (BitVec.ofNat 8 (0x70 + n.val))) s = .next (s.trap 0x8000000B 0))

/-- The field front end: antenna and shape registers within their rules; supervision, matching, teaching and solving;
detection rounds, coexistence windows, the thermal band and the field supply (R309 to R313, R316 to R327, R330). -/
def Obligations.FieldFrontEnd : Prop :=
  ∀ (s : State) (m : Master) (v : Word) (tag : Fin 128) (k : Slot), k = s.slot tag.val →
    (∀ (n : Fin 8) (u : State), s.writeGate m 0x21 (0x040 + 0x20 * n.val) v = .pass →
      u = s.setRg 0x21 (0x040 + 0x20 * n.val) (v &&& 0x00FF03F7) →
      (flag (s.antStat n.val) 4 = true →
        exec (.antCfgWrite m n v) s = .next (s.reject m 0x21 (0x040 + 0x20 * n.val) .state)) ∧
      (flag (s.antStat n.val) 4 = false → flag v 2 = true → s.faulted n.val = true →
        exec (.antCfgWrite m n v) s = .next (s.reject m 0x21 (0x040 + 0x20 * n.val) .state)) ∧
      (flag (s.antStat n.val) 4 = false → (flag v 2 = false ∨ s.faulted n.val = false) →
        (u.usedMw u.carrierWanted 0 ≤ s.capMw → exec (.antCfgWrite m n v) s = .next (u.refreshField.answer m 0 .done)) ∧
        (s.capMw < u.usedMw u.carrierWanted 0 → s.usedMw s.carrierWanted 0 < u.usedMw u.carrierWanted 0 →
          exec (.antCfgWrite m n v) s = .next (s.reject m 0x21 (0x040 + 0x20 * n.val) .busy)))) ∧
    (∀ n : Fin 8, s.writeGate m 0x20 (0x080 + 4 * n.val) v = .pass →
      ((flag v 0 = false ∨ (8 ≤ field v 5 1 ∧ field v 5 1 ≤ 30)) →
        exec (.shapeWrite m n v) s =
          .next ((s.setRg 0x20 (0x080 + 4 * n.val) (v &&& 0x3FFFF)).answer m 0 .done)) ∧
      (flag v 0 = true → (field v 5 1 < 8 ∨ 30 < field v 5 1) →
        exec (.shapeWrite m n v) s = .next (s.reject m 0x20 (0x080 + 4 * n.val) .arg))) ∧
    (∀ l, s.mayPass = true → s.fld.passWait = 0 →
      ∃ t, exec (.supervisionPass l) s = .next t ∧ t.fld.supervised = true ∧ t.own = s.own) ∧
    (∀ l, s.mayPass = true → s.fld.passWait = 0 → s.ready 0x20 = false → (∀ n, n < 8 → flag (s.antCfg n) 0 = false) →
      exec (.supervisionPass l) s =
        .next (s.updFld (fun f => { f with supervised := true, passAt := s.now, passWait := 0 })).refreshField) ∧
    (∀ l, s.mayPass = true → s.fld.passWait ≠ 0 → (s.now - s.fld.passAt).toNat < secTime 1 →
      s.fld.passWait &&& s.busyPorts = s.fld.passWait →
      exec (.supervisionPass l) s =
        .next ((s.reach (s.fld.passAt + BitVec.ofNat 64 (secTime 1))).updFld (fun f => { f with passWait := 0 }))) ∧
    (∀ l, s.mayPass = false → exec (.supervisionPass l) s = .next s) ∧
    (∀ l, s.running tag.val 0x20 1 = true → s.ready 0x20 = true →
      (s.coexMode = 0 →
        (∀ n, n < 8 → (field (k.arg 0) 7 0).testBit n = true → flag (s.antStat n) 4 = false) →
        exec (.supervise tag l) s = .next ((s.superviseMask (field (k.arg 0) 7 0) l).setResult tag.val .done)) ∧
      (s.coexMode ≠ 0 → exec (.supervise tag l) s = .next s)) ∧
    (∀ (n : Nat) (l : List AntMeas) (x : AntMeas), n < 8 → l[n]? = some x → flag (s.antCfg n) 0 = true →
      flag (s.antCfg n) 1 = false → flag (s.antStat n) 4 = false → s.faulted n = true → x.trip = true →
      field ((s.superviseMask (2 ^ n) l).antStat n) 1 0 = 3 ∧ (s.superviseMask (2 ^ n) l).faulted n = true) ∧
    (∀ (n : Nat) (l : List TuneMeas) (x : TuneMeas), n < 8 → field (k.arg 0) 7 0 = 2 ^ n → l[n]? = some x →
      s.running tag.val 0x21 1 = true → s.ready 0x21 = true →
      (flag (s.antStat n) 4 = true → exec (.matchOp tag l) s = .next (s.setResult tag.val .state)) ∧
      (flag (s.antStat n) 4 = false → s.carrierOn n = false → flag (s.antCfg n) 1 = false → s.coexMode ≠ 0 →
        exec (.matchOp tag l) s = .next s) ∧
      (flag (s.antStat n) 4 = false → s.carrierOn n = false → flag (s.antCfg n) 1 = false → s.coexMode = 0 →
        ∃ t, exec (.matchOp tag l) s = .next t ∧ field (t.antTune n) 4 0 = x.tune.toNat ∧
          (t.slot tag.val).result = some (if x.off > field (s.rg 0x20 0x044) 31 24 then .medium else .done) ∧
          t.gran = s.gran ∧ t.own = s.own)) ∧
    (∀ (n p r : Nat) (h : List (List (Int × Int))), r = ownStrongest (field (k.arg 0) 15 8) h → p = field (k.arg 0) 1 0 → s.running tag.val 0x21 2 = true → s.ready 0x21 = true →
      field (k.arg 0) 18 16 ≤ 2 → s.ready 0x22 = true → s.hasField = true →
      (s.fld.run = none → s.coexMode = 0 → n = 1 →
        ∃ t, exec (.teach tag n h) s = .next t ∧ (t.slot tag.val).result = some .done ∧
          (∀ j, j < 8 → t.rg 0x21 (0x340 + 0x20 * p + 4 * j) =
            if (field (k.arg 0) 15 8).testBit j = true then
              taughtValue ((h.getD j []).getD r (0, 0)) ((h.getD r []).getD r (0, 0)) else 0) ∧
          flag (t.pointCfg p) 0 = true ∧ field (t.pointCfg p) 15 8 = field (k.arg 0) 15 8 ∧ t.gran = s.gran ∧
          t.own = s.own) ∧
      (s.fld.run = none → s.coexMode = 0 → n ≠ 1 →
        exec (.teach tag n h) s = .next (s.setResult tag.val .medium)) ∧
      ((s.fld.run.isSome = true ∨ s.coexMode ≠ 0) → exec (.teach tag n h) s = .next s)) ∧
    (∀ pts, s.running tag.val 0x21 3 = true → s.ready 0x21 = true →
      pts = (List.range 4).filter (field (k.arg 0) 19 16).testBit →
      (field (k.arg 0) 15 8 = 0 → exec (.solve tag) s = .next (s.setResult tag.val .arg)) ∧
      (s.hasField = true → field (k.arg 0) 15 8 ≠ 0 → 1 ≤ field (k.arg 1) 27 16 → field (k.arg 1) 27 16 ≤ 2000 →
        (∃ p, p ∈ pts ∧ flag (s.pointCfg p) 1 = false) →
        (∀ p, p ∈ pts → flag (s.pointCfg p) 0 = true ∧ field (s.pointCfg p) 15 8 = field (k.arg 0) 15 8) →
        (pts.filter (fun p => flag (s.pointCfg p) 1)).length < (portsOf (field (k.arg 0) 15 8)).length →
        ∃ t c, exec (.solve tag) s = .next t ∧ (t.slot tag.val).result = some c ∧ (c = .done ∨ c = .medium) ∧
          t.gran = s.gran ∧ t.own = s.own ∧ t.fld = s.fld)) ∧
    (∀ (n p : Nat) (l : List (Int × Int)) (x : Int × Int) (u : State),
      field (s.rg 0x20 0x058) 7 0 = 2 ^ n → n < 8 → l[n]? = some x → p = 2 ^ (33 - field (s.rg 0x20 0x058) 10 8) →
      u = s.reach (BitVec.ofNat 64 ((s.now.toNat / p + 1) * p)) →
      (s.fld.coex = none → flag (s.rg 0x05 0x120) 0 = false → s.pwr.depth ≠ .guard →
        (∀ j, j < 8 → s.carrierOn j = false) → s.ready 0x20 = true → s.unavailable .field = false →
        flag (s.rg 0x20 0x060) n = false → (s.ant n).ref = none →
        exec (.lpcdRound l) s = .next (u.putAnt n { s.ant n with ref := some (x.1 * 65536, x.2 * 65536) })) ∧
      (∀ j, j < 8 → (s.carrierOn j = true ∨ s.fld.coex.isSome = true ∨ s.pwr.depth = .guard) →
        exec (.lpcdRound l) s = .next (u.updRg 0x20 0x060 (fun w => satField w 23 16 1)))) ∧
    (∀ (sending : Bool) (a b : Stamp) (w : CoexWin),
      w = { scheduled := true, protect := s.coexJudge.2, start := a, stop := some b } →
      (s.rxChannel.1 ≠ 0 → s.inReset .field = false →
        (∃ t, exec (.coexWindowStart none sending) s = .next t ∧
          t.fld.coex = some { protect := s.coexJudge.2, start := s.now } ∧ t.own = s.own ∧ t.flash = s.flash) ∧
        (s.fld.coming ≠ some w → s.now.toNat + usTime 200 ≤ a.toNat →
          exec (.coexWindowStart (some (a, b)) sending) s = .next (s.updFld (fun f => { f with coming := some w }))) ∧
        (s.fld.coming = some w →
          ∃ t, exec (.coexWindowStart (some (a, b)) sending) s = .next t ∧ t.fld.coex = some w ∧ t.fld.coming = none ∧
            t.own = s.own ∧ t.flash = s.flash)) ∧
      ((s.rxChannel.1 = 0 ∨ s.inReset .field = true) →
        exec (.coexWindowStart none sending) s = .next s ∧ exec (.coexWindowStart (some (a, b)) sending) s = .next s)) ∧
    (∃ t, exec .coexWindowEnd s = .next t ∧ t.fld.coex = none ∧ flag (t.rg 0x20 0x054) 0 = false ∧ t.own = s.own ∧
      t.flash = s.flash) ∧
    (∀ tj : BitVec 8,
      (s.unavailable .field = false →
        ∃ t, exec (.thermalRead tj) s = .next t ∧ t.fld.band = bandFor s.fld.band (signedOf 8 tj.toNat) ∧
          field (t.rg 0x20 0x04C) 7 0 = tj.toNat ∧ t.own = s.own ∧ t.flash = s.flash) ∧
      (s.unavailable .field = true → exec (.thermalRead tj) s = .next s)) ∧
    (∃ t, exec .vfldOut s = .next t ∧ t.pwr.vfld = false ∧ t.own = s.own ∧ t.flash = s.flash) ∧
    (s.pwr.vfld = true → exec .vfldReturn s = .next s) ∧
    (s.pwr.vfld = false →
      exec .vfldReturn s =
        .next (({ s with pwr := { s.pwr with vfld := true } } : State).supplyBack [11, 12]).refreshField)

/-- The reader: an operation the engine does not run leaves everything; ACTIVATE opens a session of a tag it names or
times out with no card; EXCHANGE ends with its reply's code, one with VERIFY waiting for a Crib it finds unavailable; INVENTORY and GROUP_READ end; CLOSE closes; MAPLOAD writes
map entries; a tag-port read holds its value; an idle card's session is lost (R335, R336, R341 to R355). -/
def Obligations.Reader : Prop :=
  ∀ (s : State) (tag : Fin 128) (k : Slot) (run : ReaderRun), k = s.slot tag.val →
    (s.runOf tag.val = none → ∀ (c : CardReply) (r : ExchReply) (l : List TagSeen) (a : List JointSlot)
      (rs : List ExchReply),
      exec (.activate tag c) s = .next s ∧ exec (.exchange tag r) s = .next s ∧ exec (.inventory tag l a) s = .next s ∧
      exec (.close tag) s = .next s ∧ exec (.mapload tag) s = .next s ∧ exec (.tagportRead tag r) s = .next s ∧
      exec (.groupRead tag rs) s = .next s) ∧
    (s.fld.run = some run → run.tag = BitVec.ofNat 7 tag.val → s.fld.paused = none → s.granaryUp = true →
      (∀ n u c, s.running tag.val 0x22 1 = true → field (k.arg 0) 1 0 = 2 → s.ctxAlloc 1 = some (n, u) →
        ∃ t, exec (.activate tag c) s = .next t ∧ (t.slot tag.val).result = some .done ∧ t.fld.run = none ∧
          (t.session (actHandle k)).map (fun x => (x.proto, x.ctx, x.last)) = some (2, n, s.now) ∧ t.own = s.own ∧
          t.flash = s.flash) ∧
      (∀ a r, s.running tag.val 0x22 1 = true → field (k.arg 0) 1 0 = 0 →
        ∃ t, exec (.activate tag (.cards [] a r)) s = .next t ∧ (t.slot tag.val).result = some .timeout ∧
          t.fld.run = none ∧ t.own = s.own ∧ t.flash = s.flash) ∧
      (∀ x u cmd, s.running tag.val 0x22 2 = true → s.winBytes (k.arg 1).toNat (field (k.arg 2) 12 0) = (u, .ok cmd) →
        u.session (field (k.arg 0) 6 0) = some x → (flag (k.arg 0) 9 = false ∨ s.cribFree = true) →
        ((x.proto = 2 ∨ flag (k.arg 0) 8 = true ∨ x.l4 = false) →
          (∀ a r, ∃ t, exec (.exchange tag { heard := [], ant := a, rssi := r }) s = .next t ∧
            (t.slot tag.val).result = some .timeout ∧ t.own = s.own) ∧
          (∀ l more a r, l.length ≤ field (k.arg 4) 12 0 → flag (k.arg 0) 9 = false →
            ∃ t, exec (.exchange tag { heard := .frame (.raw l) :: more, ant := a, rssi := r }) s = .next t ∧
              (t.slot tag.val).result = some .done ∧ t.own = s.own) ∧
          (∀ l more a r, field (k.arg 4) 12 0 < l.length →
            ∃ t, exec (.exchange tag { heard := .frame (.raw l) :: more, ant := a, rssi := r }) s = .next t ∧
              (t.slot tag.val).result = some .busy ∧ t.own = s.own)) ∧
        (x.proto ≠ 2 → flag (k.arg 0) 8 = false → x.l4 = true →
          ∀ (r : ExchReply) (y : IsoDep) (fail : Option Bool), isoExchange u.retries x cmd r.heard = (y, fail) →
            (fail = none → y.got.length ≤ field (k.arg 4) 12 0 → flag (k.arg 0) 9 = false →
              ∃ t, exec (.exchange tag r) s = .next t ∧ (t.slot tag.val).result = some .done ∧ t.own = s.own) ∧
            (fail = some true →
              ∃ t, exec (.exchange tag r) s = .next t ∧ (t.slot tag.val).result = some .medium ∧ t.own = s.own))) ∧
      (∀ r, s.running tag.val 0x22 2 = true → flag (k.arg 0) 9 = true → s.cribFree = false →
        exec (.exchange tag r) s = .next s) ∧
      (∀ a, s.running tag.val 0x22 3 = true →
        (∃ t, exec (.inventory tag [] a) s = .next t ∧ (t.slot tag.val).result = some .done ∧ t.rg 0x22 0x050 = 0 ∧
          t.own = s.own ∧ t.flash = s.flash) ∧
        (∀ l, ∃ t c, exec (.inventory tag l a) s = .next t ∧ (t.slot tag.val).result = some c ∧
          (c = .done ∨ c = .medium) ∧ t.own = s.own ∧ t.flash = s.flash)) ∧
      (∀ x, s.running tag.val 0x22 4 = true → field (k.arg 0) 6 0 ≤ 123 → s.ready 0x22 = true →
        s.session (field (k.arg 0) 6 0) = some x →
        ∃ t, exec (.close tag) s = .next t ∧ (t.slot tag.val).result = some .done ∧
          t.session (field (k.arg 0) 6 0) = none ∧ t.own = s.own ∧ t.flash = s.flash) ∧
      (∀ u l first count, s.running tag.val 0x23 1 = true → mapLoadArgs k = true → s.ready 0x23 = true →
        s.hasField = true → (flag (k.arg 0) 0 = false ∨ s.flashBusy (k.arg 1).toNat (32 * field (k.arg 2) 15 8) = false) →
        first = field (k.arg 2) 7 0 → count = field (k.arg 2) 15 8 →
        s.mapSource k (8 * count) = (u, .ok l) → u.fld = s.fld →
        (∀ i, i < count → entryOk ((l.drop (8 * i)).take 8) = true) →
        ∃ t, exec (.mapload tag) s = .next t ∧ (t.slot tag.val).result = some .done ∧
          (∀ i j, i < count → j < 8 → t.mapWord (first + i) j = l.getD (8 * i + j) 0 &&& entryMask j) ∧
          (∀ p j, (p < first ∨ first + count ≤ p) → j < 8 → t.mapWord p j = s.mapWord p j)) ∧
      (∀ p v l more a r, s.running tag.val 0x23 2 = true → p = field (k.arg 0) 7 0 → s.tagValue p l = some v →
        ∃ t, exec (.tagportRead tag { heard := .frame (.raw l) :: more, ant := a, rssi := r }) s = .next t ∧
          (t.slot tag.val).result = some .done ∧
          t.held p = { value := v, stamp := s.now, has := true, failed := false, code := 0
                       reads := (s.held p).reads + 1 } ∧ t.own = s.own ∧ t.flash = s.flash) ∧
      (s.running tag.val 0x23 3 = true → s.ready 0x23 = true → s.ready 0x20 = true →
        (∀ rs, run.rest = [] →
          ∃ t, exec (.groupRead tag rs) s = .next t ∧ (t.slot tag.val).result = some (if run.ok then .done else .medium) ∧
            t.own = s.own ∧ t.flash = s.flash) ∧
        (∀ p v l more a r, run.rest = [p] → run.lost = false → s.tagValue p l = some v →
          ∃ t, exec (.groupRead tag [{ heard := .frame (.raw l) :: more, ant := a, rssi := r }]) s = .next t ∧
            (t.slot tag.val).result = some (if run.ok then .done else .medium) ∧
            t.held p = { value := v, stamp := s.now, has := true, failed := false, code := 0
                         reads := (s.held p).reads + 1 } ∧ t.own = s.own ∧ t.flash = s.flash))) ∧
    (∀ (h : Fin 128) (x : Session) (u : State), s.session h.val = some x → x.proto ≠ 2 →
      field (s.rg 0x22 0x040) 23 16 ≠ 0 → s.fld.run = none →
      u = s.reach (x.last + BitVec.ofNat 64 (secTime (field (s.rg 0x22 0x040) 23 16))) →
      exec (.sessionIdleExpiry h) s =
        .next (((if x.l4 = true then u.air [u.sentAs x.proto.toNat x.dr x.cid .deselect] else u).loseSession
          h.val).refreshField)) ∧
    (∀ h : Fin 128, s.session h.val = none → exec (.sessionIdleExpiry h) s = .next s)

/-- The transceiver: a channel is set while LINK is off; a requested frame is sent where channel, supply and region allow
it, and its end is counted; a sync word within tolerance starts a reception; a frame that ends is judged and delivered;
training, measuring and the transmitter's supply (R358 to R361, R376, R377, R383 to R389). -/
def Obligations.Transceiver : Prop :=
  ∀ (s : State) (m : Master) (v : Word) (tag : Fin 128) (k : Slot), k = s.slot tag.val →
    (s.writeGate m 0x28 0x040 v = .pass →
      ((field v 29 0 = 0 ∨ (150000000 ≤ field v 29 0 ∧ field v 29 0 ≤ 960000000)) →
        (s.linkEn = true → exec (.freqWrite m v) s = .next (s.reject m 0x28 0x040 .state)) ∧
        (s.linkEn = false →
          ∃ t : State, exec (.freqWrite m v) s = .next (t.refreshRadio.answer m 0 .done) ∧
            t.rg 0x28 0x040 = v &&& 0x3FFFFFFF ∧ t.rg 0x28 0x044 = s.rg 0x28 0x044 ∧
            flag (t.rg 0x28 0x04C) 4 =
              (flag (s.rg 0x28 0x04C) 4 && field (s.rg 0x28 0x040) 29 0 == field v 29 0) ∧
            t.phy.tx = s.phy.tx ∧ t.phy.rx = s.phy.rx ∧ t.own = s.own ∧ t.gran = s.gran ∧ t.flash = s.flash ∧
            (∀ p off, (p, off) ≠ (0x28, 0x040) → (p, off) ≠ (0x28, 0x044) → (p, off) ≠ (0x28, 0x04C) →
              t.rg p off = s.rg p off))) ∧
      ((960000000 < field v 29 0 ∨ (0 < field v 29 0 ∧ field v 29 0 < 150000000)) →
        exec (.freqWrite m v) s = .next (s.reject m 0x28 0x040 .arg))) ∧
    (∀ f a, s.phy.request = some f → f.legacy = false → s.radioUp = true → s.phy.tx = none → a = s.abandonRx →
      a.radioRegs.1 ≠ 0 → s.pwr.vpa = true → s.pwr.lost = false → a.regionAllows f.nb f.width = true →
      ∃ t, exec .txRequest s = .next t ∧ t.phy.request = none ∧ t.phy.rx = none ∧
        t.phy.tx = some { f with power := (a.txPower f.nb).1, since := s.now } ∧ t.own = s.own ∧ t.gran = s.gran) ∧
    (∀ f, s.phy.request = some f → f.legacy = false → (s.radioUp = false ∨ s.pwr.vpa = false) →
      exec .txRequest s = .next (s.updPhy (fun p => { p with request := none }))) ∧
    (s.phy.request = none → exec .txRequest s = .next s) ∧
    (∀ f, s.phy.tx = some f → f.why = .beacon →
      exec .txEnd s = .next ((s.stopTx f).updRg 0x2A 0x080 (fun w => satField w 15 0 1)) ∧ (s.stopTx f).phy.tx = none) ∧
    (s.phy.tx = none → exec .txEnd s = .next s) ∧
    (∀ (x : SyncHeard) (power : BitVec 16) (soFar : FrameSoFar), s.phy.tx = none → x.wave = .ofdm →
      flag s.radioRegs.2.2 0 = false →
      (s.radioUp = true → s.radioRegs.1 ≠ 0 → acquired x (field s.radioRegs.2.1 2 0) = true →
        popcount (syncBits x ^^^ s.sw).toNat ≤ field s.radioRegs.2.2 6 4 →
        (s.phy.rx = none →
          ∃ t r, exec (.syncAccept x power soFar) s = .next t ∧ t.phy.rx = some r ∧ r.stamp = s.now ∧
            r.power = power.toInt ∧ r.captured = false ∧ r.nb = false ∧ t.link.backoff = none ∧ t.own = s.own ∧
            t.gran = s.gran) ∧
        (∀ old, s.phy.rx = some old →
          (flag s.radioRegs.2.2 7 = true → old.level soFar + 4 * (field s.radioRegs.2.2 12 8 : Int) ≤ power.toInt →
            ∃ t r, exec (.syncAccept x power soFar) s = .next t ∧ t.phy.rx = some r ∧ r.captured = true ∧
              r.stamp = s.now ∧ t.own = s.own ∧ t.gran = s.gran) ∧
          (flag s.radioRegs.2.2 7 = false ∨
              power.toInt < old.level soFar + 4 * (field s.radioRegs.2.2 12 8 : Int) →
            exec (.syncAccept x power soFar) s = .next s))) ∧
      ((field s.radioRegs.2.2 6 4 < popcount (syncBits x ^^^ s.sw).toNat ∨
          acquired x (field s.radioRegs.2.1 2 0) = false) →
        exec (.syncAccept x power soFar) s = .next s)) ∧
    (∀ (r : Reception) (y1 y2 : List (Int × Int)) (syms : List (List (Int × Int))) (l : List Nat) (h : BitVec 96)
        (body : List Byte) (crc : Word) (q : RxQuality), s.phy.rx = some r → r.nb = false → r.legacy = false →
      s.received r (.ofdm y1 y2 syms) = (.synelle h body crc, q) →
      (headerOk h false = false →
        exec (.frameDelivery (.ofdm y1 y2 syms) l) s =
          .next (s.updRg 0x29 0x080 (fun w => satField w 31 16 1)).endRx) ∧
      (headerOk h false = true → hfield h 15 12 < 8 → body.length = hfield h 30 20 →
        crc32 body = crc.toNat → s.linkEn = true → hfield h 7 4 ≤ 3 →
        ∃ t d, exec (.frameDelivery (.ofdm y1 y2 syms) l) s = .next t ∧ t.phy.rx = none ∧
          t.link.inbox = s.link.inbox ++ [d] ∧ d.mark = .ok ∧ d.hdr = h ∧ d.payload = body ∧
          d.stamp = r.stamp + BitVec.ofInt 64 q.delay ∧ d.lqi = q.lqi ∧ d.stampPoor = decide (q.lqi < 120) ∧
          d.rssi = BitVec.ofInt 16 (rssiOf l) ∧ t.own = s.own ∧ t.gran = s.gran)) ∧
    (∀ f q, s.phy.rx = none → exec (.frameDelivery f q) s = .next s) ∧
    (∀ (t : Training) (f : DpdCapture), s.phy.train = some t → t.tag.toNat = tag.val → s.running tag.val 0x28 1 = true →
      (t.frames < field (k.arg 0) 4 0 →
        exec (.dpdTrain tag f) s =
          .next (((s.reach (t.since + BitVec.ofNat 64 (secTime 60))).updPhy (fun p => { p with train := none })).setResult
            tag.val .timeout)) ∧
      (field (k.arg 0) 4 0 ≤ t.frames → s.phy.tx.isSome = true → exec (.dpdTrain tag f) s = .next s) ∧
      (∀ u good, field (k.arg 0) 4 0 ≤ t.frames → s.phy.tx = none →
        (s.updPhy (fun p => { p with train := none })).fitDpd { frames := f.frames.take (field (k.arg 0) 4 0) }
          (flag (k.arg 0) 8) = (u, good) →
        exec (.dpdTrain tag f) s = .next (u.setResult tag.val (if good = true then .done else .medium)))) ∧
    (∀ (c mv : Nat) (f : DpdCapture), s.ready 0x28 = true → s.phy.tx = none →
      (flag (s.rg 0x28 0x064) 6 = true → (secTime 600 ≤ s.phy.sentFor ∨ 10 < c ∨ 100 < mv) →
        exec (.dpdAutoRetrain c mv f) s = .next (s.fitDpd f true).1) ∧
      (flag (s.rg 0x28 0x064) 6 = false → exec (.dpdAutoRetrain c mv f) s = .next s)) ∧
    (∀ x : Measure, s.phy.measure = some x → x.tag.toNat = tag.val → s.running tag.val 0x29 1 = true → s.link.auto = [] →
      (x.frames = 0 → exec (.measure tag) s = .next (s.measureEnd tag.val x)) ∧
      (x.frames ≠ 0 →
        exec (.measure tag) s =
          .next (((s.reach (x.since + BitVec.ofNat 64 (secTime (field (k.arg 1) 9 0)))).updPhy (fun p =>
            { p with measure := none })).setResult tag.val .timeout))) ∧
    (s.pwr.vpa = true →
      exec .vpaReturn s = .next s ∧
      ∃ t, exec .vpaOut s = .next t ∧ t.pwr.vpa = false ∧ t.phy.tx = none ∧ t.phy.request = none ∧
        t.phy.rx = s.phy.rx ∧ t.link = s.link ∧ t.own = s.own) ∧
    (s.pwr.vpa = false →
      exec .vpaOut s = .next s ∧
      exec .vpaReturn s =
        .next (({ s with pwr := { s.pwr with vpa := true } } : State).supplyBack [13, 14]).refreshRadio)

/-- The link on the air: superframes and data periods open; beacons go out and are taken; a message waits for a quiet
channel, is acknowledged or retried, and lapses; frames of strangers are entered, of peers taken and acknowledged (R393
to R401, R404 to R408, R410 to R412, R414). -/
def Obligations.LinkOnTheAir : Prop :=
  ∀ (s u : State) (d : Delivered) (rest : List Delivered) (n : Nat) (p : Peer),
    u = s.updLink (fun l => { l with inbox := rest }) →
    (s.linkUp = false → exec .superframe s = .next s ∧ exec .dataPeriodStart s = .next s ∧ exec .beaconRx s = .next s ∧
      exec .dataRx s = .next s ∧ exec .ackRx s = .next s ∧ exec .mapsetRx s = .next s ∧ exec .automapPeriod s = .next s) ∧
    (s.linkUp = true →
      ∃ t, exec .superframe s = .next t ∧ t.link.dataPeriod = false ∧ t.link.backoff = none ∧ t.own = s.own ∧
        t.flash = s.flash) ∧
    (s.linkUp = true → s.link.dataPeriod = false →
      ∃ t, exec .dataPeriodStart s = .next t ∧ t.link.dataPeriod = true ∧ (∀ m, m ∈ t.link.msgs → m.hold = false) ∧
        t.own = s.own ∧ t.gran = s.gran ∧ t.flash = s.flash) ∧
    (s.mayBeacon = true → s.now ≤ s.beaconStart →
      ∃ t f, exec .beaconTx s = .next t ∧ t.phy.request = some f ∧ f.why = .beacon ∧ f.nb = true ∧
        t.link.beaconAt = some (s.beaconStart + BitVec.ofNat 64 (nsTime (nbSymbolsNs true 64))) ∧ t.own = s.own ∧
        t.gran = s.gran) ∧
    (s.mayBeacon = false → exec .beaconTx s = .next s) ∧
    (s.linkUp = true → s.link.inbox = d :: rest → d.legacy = false →
      (hfield d.hdr 7 4 = 0 → flag (s.rg 0x2A 0x040) 1 = false → u.peerOf (hfield d.hdr 47 32) = none →
        exec .beaconRx s = .next (u.stranger (hfield d.hdr 47 32) 1 d)) ∧
      (hfield d.hdr 7 4 = 0 → flag (s.rg 0x2A 0x040) 1 = false → u.peerOf (hfield d.hdr 47 32) = some n →
        u.peer n = some p → p.t1 = none → d.mark = .ok → (d.payload.getD 9 0).toNat ≤ 4 →
        d.payload.length = 20 + 6 * (d.payload.getD 9 0).toNat →
        ∃ t x, exec .beaconRx s = .next t ∧ t.peer n = some x ∧ x.t1 = some (BitVec.ofNat 64 (payField d.payload 0 8)) ∧
          x.depth = (d.payload.getD 8 0).toNat % 16 ∧ x.cost = payField d.payload 10 2 ∧ x.beaconAt = d.stamp ∧
          x.neigh = true ∧ t.link.inbox = rest ∧ t.own = s.own ∧ t.gran = s.gran) ∧
      (hfield d.hdr 7 4 = 1 → d.mark ≠ .mapMiss → u.peerOf (hfield d.hdr 47 32) = none →
        exec .dataRx s = .next (u.stranger (hfield d.hdr 47 32) 1 d)) ∧
      (∀ o, u.peerOf (hfield d.hdr 47 32) = some n → u.peer n = some p → d.mark = .ok →
        hfield d.hdr 63 48 = u.station → u.cribFree = true → u.openFrame d p = some o →
        (∀ hold noroute : Bool, hfield d.hdr 7 4 = 1 → ctrCase p o = .duplicate → p.lastAck = some (hold, noroute) →
          exec .dataRx s =
            .next ((u.updRg 0x2A 0x084 (fun w => satField w 31 16 1)).ackFor n d o hold noroute)) ∧
        (hfield d.hdr 7 4 = 1 → ctrCase p o = .duplicate → p.lastAck = none →
          exec .dataRx s = .next (u.updRg 0x2A 0x084 (fun w => satField w 31 16 1))) ∧
        (hfield d.hdr 7 4 = 1 → ctrCase p o = .fresh → o.final = u.station →
          ∃ t a x, exec .dataRx s = .next t ∧ t.link.acks = s.link.acks ++ [a] ∧ a.peer = n ∧ a.ctr = o.ctr ∧
            t.peer n = some x ∧ x.rxctr = o.ctr ∧ t.own = s.own ∧ t.flash = s.flash) ∧
        (∀ b : BitMap, hfield d.hdr 7 4 = 3 → ctrCase p o = .fresh → o.body.length = 40 →
          (o.body.getD 0 0).toNat = u.outMap p →
          b = { gen := (o.body.getD 1 0).toNat % 16, rate := (o.body.getD 2 0).toNat % 4, codes := mapCodes (o.body.drop 4) } →
          mapValid b.codes = true →
          ∃ t a x, exec .mapsetRx s = .next t ∧ t.link.acks = s.link.acks ++ [a] ∧ a.peer = n ∧ t.peer n = some x ∧
            x.map (u.outMap p) = some b ∧ x.fallback = false ∧ t.own = s.own ∧ t.gran = s.gran)) ∧
      (hfield d.hdr 7 4 = 3 → d.mark ≠ .mapMiss → u.peerOf (hfield d.hdr 47 32) = none →
        exec .mapsetRx s = .next (u.stranger (hfield d.hdr 47 32) 1 d)) ∧
      (hfield d.hdr 7 4 = 2 → s.cribFree = true → u.peerOf (hfield d.hdr 47 32) = none →
        exec .ackRx s = .next (u.stranger (hfield d.hdr 47 32) 1 d)) ∧
      (hfield d.hdr 7 4 = 2 → s.cribFree = false → exec .ackRx s = .next s) ∧
      (∀ w key x, hfield d.hdr 7 4 = 2 → s.cribFree = true → u.peerOf (hfield d.hdr 47 32) = some n → u.peer n = some p →
        s.link.wait = some w → d.mark = .ok → hfield d.hdr 63 48 = u.station → w.peer = n → d.payload.length = 16 →
        payField d.payload 4 4 = w.ctr.toNat → d.ended ≤ w.due → u.peerKey p = some key →
        ccmTag 8 key (u.frameNonce (hfield d.hdr 47 32) u.station w.ctr.toNat 2)
          (headerBytes d.hdr ++ d.payload.take 8) [] = d.payload.drop 8 →
        s.link.msgs.find? (fun m => m.id == w.id) = some x → (d.payload.getD 2 0) &&& 3 = 0 → (∀ tg, x.kind ≠ .mapset tg) →
        exec .ackRx s =
          .next (((u.acceptFrame n d).updLink (fun l => { l with wait := none })).advanceMsg x))) ∧
    (s.linkUp = true → s.link.inbox = d :: rest → d.legacy = true →
      (flag (s.rg 0x2A 0x040) 3 = false → exec .legacyFrameRx s = .next u) ∧
      (flag (s.rg 0x2A 0x040) 3 = true → u.peerOf (payField d.payload 0 2) = none →
        exec .legacyFrameRx s = .next (u.stranger (payField d.payload 0 2) 3 d))) ∧
    (s.link.inbox = [] → exec .legacyFrameRx s = .next s) ∧
    (∀ (m : Msg) (v w : State) (b : Nat) (f : TxFrame) (t : Stamp), s.mayListen = true → s.nextMsg = some m →
      s.peer m.hop = some p → p.legacy = false → s.cribFree = true → s.drawBackoff m = (v, b) →
      v.frameOf m p = .ok (w, f) →
      t = v.after (nsTime (v.listenNs + b * tsNs (field (s.rg 0x2A 0x048) 2 0))) →
      t + BitVec.ofNat 64 (nsTime (f.ns + (10 * tsNs (field (s.rg 0x2A 0x048) 2 0) + 1500000))) ≤
        s.link.frame + BitVec.ofNat 64 (msTime 995) →
      exec .lbtBackoffDone s = .next (((w.reach t).updLink (fun l => { l with backoff := none })).request f)) ∧
    (s.mayListen = false → exec .lbtBackoffDone s = .next s) ∧
    (∀ (c : ChannelHeard) (v : State), s.mayTalk = true → s.link.dataPeriod = true → s.nextMsg.isSome = true →
      s.receiving = true →
      v = (s.setRg 0x28 0x05C (BitVec.ofNat 32 c.power.toNat)).updLink (fun l => { l with backoff := none }) →
      ((if s.regionCode = 3 then (-340 : Int) else -420) ≤ c.power.toInt →
        exec (.lbtBusy c) s =
          .next (if c.backoff = true then v.updRg 0x2A 0x08C (fun w => satField w 15 0 1) else v)) ∧
      (c.power.toInt < (if s.regionCode = 3 then (-340 : Int) else -420) → exec (.lbtBusy c) s = .next s)) ∧
    (∀ a r, s.link.acks = a :: r → s.linkUp = true → a.due < s.now →
      exec .ackTx s = .next (s.updLink (fun l => { l with acks := r }))) ∧
    (∀ a r key, s.link.acks = a :: r → s.mayTalk = true → s.now ≤ a.due → s.phy.request = none → s.phy.tx = none →
      s.cribFree = true → s.peer a.peer = some p → s.peerKey p = some key →
      (s.inGuard a.due (s.ackFrame a p key).ns = true →
        exec .ackTx s = .next (s.updLink (fun l => { l with acks := r }))) ∧
      (s.inGuard a.due (s.ackFrame a p key).ns = false →
      ∃ t f, exec .ackTx s = .next t ∧ t.phy.request = some f ∧ f.why = .ack ∧ t.link.acks = r ∧ t.own = s.own ∧
        t.gran = s.gran)) ∧
    (s.link.acks = [] → exec .ackTx s = .next s) ∧
    (∀ w m, s.link.wait = some w → s.link.msgs.find? (fun x => x.id == w.id) = some m → w.mapped = false →
      m.attempts + 1 < 1 + field (s.rg 0x2A 0x040) 14 12 →
      exec .ackWindowExpiry s =
        .next ((((s.reach w.due).updLink (fun l => { l with wait := none })).updMsg m.id (fun _ =>
          { m with attempts := m.attempts + 1, mapFails := 0 })).updRg 0x2A 0x080 (fun x => satField x 31 16 1))) ∧
    (s.link.wait = none → exec .ackWindowExpiry s = .next s) ∧
    (∀ r l, s.link.reasm = r :: l →
      exec .reassemblyTimeout s =
        .next ((((s.reach (r.first + BitVec.ofNat 64 (secTime (field (s.rg 0x2A 0x054) 7 0)))).updLink (fun x =>
          { x with reasm := l })).updRg 0x2A 0x088 (fun w => satField w 31 16 1)).refreshLink)) ∧
    (∀ m, s.link.msgs.find? (fun x => x.kind == .relay) = some m →
      exec .relayLifeExpiry s = .next ((s.reach (s.sendLife m.since)).finishMsg m .timeout)) ∧
    (∀ m, s.link.msgs.find? (fun x => x.kind != .relay) = some m →
      exec .sendLifeExpiry s =
        .next (((s.reach (s.sendLife m.since)).updRg 0x2A 0x08C (fun w => satField w 31 16 1)).finishMsg m
          (if m.noroute = true then .medium else .timeout))) ∧
    (s.link.msgs = [] → exec .relayLifeExpiry s = .next s ∧ exec .sendLifeExpiry s = .next s) ∧
    (∀ l e, s.link.down = l ++ [e] →
      exec .downEntryLapse s =
        .next ((s.reach (e.learned + BitVec.ofNat 64 (secTime 600))).updLink (fun x => { x with down := l }))) ∧
    (∀ x, s.peerList.find? (fun e => e.2.neigh && decide (3 ≤ e.2.age)) = some (n, x) →
      exec .neighLost s = .next ((s.updPeer n (fun q => { q with neigh := false })).evPulse 0x2B 2))

/-- The link's operations and registers: SEND queues a message for its next hop, ADMIT makes a peer, REMOVE forgets one,
NEGOTIATE proposes a map, AUTOMAP asks for measurements, a bound queue is sent; buffers are freed and the pool sized
(R398, R407 to R413, R419, R420). -/
def Obligations.LinkOperations : Prop :=
  (∀ (s : State) (tag : Fin 128), s.running tag.val 0x2A 1 = true → s.sendArgs tag.val (s.slot tag.val) = true →
    s.ready 0x2A = true → s.granaryUp = true →
    (∀ x, x ∈ s.link.msgs → x.kind ≠ .own (BitVec.ofNat 7 tag.val)) →
    (s.linkEn = false →
      exec (.send tag) s = .next (((s.evPulse 0x2A 5).pulse 0xB5).setResult tag.val .state)) ∧
    (s.linkEn = true → (regionRule s.regionCode).isSome = true → flag (s.rg 0x28 0x04C) 4 = false →
      (s.nextHop (field ((s.slot tag.val).arg 0) 15 0)).isSome = true → (s.region 2).isSome = true →
      s.linkRoom = true → (∀ n p, s.peer n = some p → p.txctr ≠ 0xFFFFFFFF) →
      (Tab.get (fun _ => none) s.link.agent tag.val).isSome = true →
      ∃ t x, exec (.send tag) s = .next t ∧ t.link.msgs = s.link.msgs ++ [x] ∧
        x.kind = .own (BitVec.ofNat 7 tag.val) ∧ x.final = field ((s.slot tag.val).arg 0) 15 0 ∧
        (s.nextHop (field ((s.slot tag.val).arg 0) 15 0)).map (·.1) = some x.hop ∧ (t.slot tag.val).result = none ∧
        t.own = s.own ∧ t.flash = s.flash) ∧
    (∀ u body, s.linkEn = true → (regionRule s.regionCode).isSome = true → flag (s.rg 0x28 0x04C) 4 = false →
      (s.nextHop (field ((s.slot tag.val).arg 0) 15 0)).isSome = true → (s.region 2).isSome = true →
      s.linkRoom = true → (∀ n p, s.peer n = some p → p.txctr ≠ 0xFFFFFFFF) →
      Tab.get (fun _ => none) s.link.agent tag.val = none →
      s.winBytes ((s.slot tag.val).arg 1).toNat (field ((s.slot tag.val).arg 2) 12 0) = (u, .ok body) →
      ∃ t x, exec (.send tag) s = .next t ∧ t.link.msgs = s.link.msgs ++ [x] ∧
        x.kind = .own (BitVec.ofNat 7 tag.val) ∧ x.final = field ((s.slot tag.val).arg 0) 15 0 ∧ x.mgmt = false ∧
        x.bodies.flatten = body ∧ (t.slot tag.val).result = none ∧ t.own = s.own ∧ t.flash = s.flash)) ∧
  (∀ (s : State) (tag : Fin 128), s.running tag.val 0x2B 1 = true → s.ready 0x2B = true →
    field ((s.slot tag.val).arg 0) 15 0 ≠ 0 → field ((s.slot tag.val).arg 0) 15 0 ≠ 0xFFFF →
    field ((s.slot tag.val).arg 0) 29 24 ≠ 0 → s.cribUp = true → s.granaryUp = true →
    (s.peerOf (field ((s.slot tag.val).arg 0) 15 0) = none → field ((s.slot tag.val).arg 0) 15 0 ≠ s.station →
      (s.key (field ((s.slot tag.val).arg 0) 29 24)).typ = (if flag ((s.slot tag.val).arg 0) 18 then 2 else 1) →
      (s.ctxAlloc 2).isSome = true →
      ∃ t, exec (.peerAdmit tag) s = .next t ∧ (t.slot tag.val).result = some .done ∧
        (s.ctxAlloc 2).bind (fun c => t.peer c.1) = some
          { station := BitVec.ofNat 16 (field ((s.slot tag.val).arg 0) 15 0)
            legacy := flag ((s.slot tag.val).arg 0) 16, mgmt := flag ((s.slot tag.val).arg 0) 17
            aes256 := flag ((s.slot tag.val).arg 0) 18, key := field ((s.slot tag.val).arg 0) 29 24
            txctr := (s.slot tag.val).arg 1, rxctr := (s.slot tag.val).arg 2 } ∧
        (∀ j, (s.ctxAlloc 2).map (·.1) ≠ some j → t.peer j = s.peer j) ∧ t.own = s.own ∧ t.flash = s.flash) ∧
    ((s.peerOf (field ((s.slot tag.val).arg 0) 15 0)).isSome = true →
      exec (.peerAdmit tag) s = .next (s.setResult tag.val .state))) ∧
  (∀ (s : State) (tag : Fin 128), s.running tag.val 0x2B 2 = true → s.ready 0x2B = true → s.granaryUp = true →
    ((s.peer (field ((s.slot tag.val).arg 0) 7 0)).isSome = true →
      ∃ t, exec (.peerRemove tag) s = .next t ∧ (t.slot tag.val).result = some .done ∧
        t.peer (field ((s.slot tag.val).arg 0) 7 0) = none ∧ t.own = s.own ∧ t.flash = s.flash) ∧
    (s.peer (field ((s.slot tag.val).arg 0) 7 0) = none →
      exec (.peerRemove tag) s = .next (s.setResult tag.val .state))) ∧
  (∀ (s : State) (tag : Fin 128), s.running tag.val 0x2B 3 = true → s.ready 0x2B = true → s.granaryUp = true →
    (∀ x, x ∈ s.link.msgs → x.kind ≠ .mapset (BitVec.ofNat 7 tag.val)) →
    (s.peer (field ((s.slot tag.val).arg 0) 7 0) = none →
      exec (.negotiate tag) s = .next (s.setResult tag.val .state)) ∧
    (∀ p b, s.peer (field ((s.slot tag.val).arg 0) 7 0) = some p → p.prop = some b → p.legacy = false →
      p.negotiating = false → s.linkEn = true → (∀ w, w ∈ s.gran.ctxBad → w / 64 ≠ field ((s.slot tag.val).arg 0) 7 0) →
      (regionRule s.regionCode).isSome = true →
      flag (s.rg 0x28 0x04C) 4 = false → s.linkRoom = true → p.txctr ≠ 0xFFFFFFFF →
      ∃ t x q, exec (.negotiate tag) s = .next t ∧ t.link.msgs = s.link.msgs ++ [x] ∧
        x.kind = .mapset (BitVec.ofNat 7 tag.val) ∧ x.hop = field ((s.slot tag.val).arg 0) 7 0 ∧
        t.peer (field ((s.slot tag.val).arg 0) 7 0) = some q ∧ q.negotiating = true ∧ t.own = s.own ∧
        t.gran = s.gran) ∧
    (∀ p w, s.peer (field ((s.slot tag.val).arg 0) 7 0) = some p →
      s.gran.ctxBad.find? (fun c => c / 64 == field ((s.slot tag.val).arg 0) 7 0) = some w →
      exec (.negotiate tag) s = .next ((s.ueRead (48 * 32768 + w)).setResult tag.val .integrity))) ∧
  (∀ s : State, s.linkUp = true → flag (s.rg 0x2A 0x040) 2 = true →
    (s.link.autoNow = true → s.link.autoWait = [] → (∀ e, e ∈ s.peerList → e.2.near = false ∨ e.2.legacy = true) →
      exec .automapPeriod s = .next (s.updLink (fun l => { l with autoAt := s.now, autoNow := false }))) ∧
    ∃ t, exec .automapPeriod s = .next t ∧ t.link.autoNow = false ∧
      t.link.autoAt = (if s.link.autoNow = true then s.now else
        (s.reach (s.link.autoAt + BitVec.ofNat 64 (secTime (60 * field (s.rg 0x2A 0x058) 15 0)))).now) ∧
      t.own = s.own ∧ t.flash = s.flash) ∧
  (∀ (s : State) (j : Fin 4), flag (s.rg 0x2A (0x070 + 4 * j.val)) 5 = false → exec (.qbSend j) s = .next s) ∧
  (∀ (s u t : State) (j : Fin 4) (b : Byte) (body : List Byte) (tg : Nat),
    flag (s.rg 0x2A (0x070 + 4 * j.val)) 5 = true →
    qCons (s.qcfg (field (s.rg 0x2A (0x070 + 4 * j.val)) 4 0)) = 6 →
    qEn (s.qcfg (field (s.rg 0x2A (0x070 + 4 * j.val)) 4 0)) = true →
    field (s.rg 0x2A (0x070 + 4 * j.val)) 4 0 ≠ 0 → s.linkEn = true → s.granaryUp = true → s.agentRoom = true →
    s.ready 0x2A = true → s.unavailable .radio = false → s.pwr.depth = .awake →
    s.gather (field (s.rg 0x2A (0x070 + 4 * j.val)) 4 0) (min 4096 (field (s.rg 0x2A 0x048) 31 24 * 256))
      (s.queue (field (s.rg 0x2A (0x070 + 4 * j.val)) 4 0)).items.length [] = (u, b :: body) →
    u.agentQueue 7 0x2A 1 [BitVec.ofNat 32 (field (s.rg 0x2A (0x070 + 4 * j.val)) 31 16), 0,
      BitVec.ofNat 32 (b :: body).length] = some (tg, t) →
    exec (.qbSend j) s =
      .next (t.updLink (fun l =>
        { l with agent := Tab.set (fun _ => none) l.agent tg (some (b :: body, false)) }))) ∧
  (∀ (s : State) (m : Master) (v : Word), s.writeGate m 0x2A 0x060 v = .pass →
    (field v 5 0 < 15 → field v 5 0 < field (s.rg 0x2A 0x05C) 11 8 → s.link.bufs.contains (field v 5 0) = true →
      exec (.rxfree m v) s =
        .next ((s.updLink (fun l => { l with bufs := l.bufs.filter (· != field v 5 0) })).refreshLink.answer m 0
          .done)) ∧
    (field v 5 0 < 15 → field v 5 0 < field (s.rg 0x2A 0x05C) 11 8 → s.link.bufs.contains (field v 5 0) = false →
      exec (.rxfree m v) s = .next (s.reject m 0x2A 0x060 .state)) ∧
    (field (s.rg 0x2A 0x05C) 11 8 ≤ field v 5 0 → exec (.rxfree m v) s = .next (s.reject m 0x2A 0x060 .arg))) ∧
  (∀ (s : State) (m : Master) (v new : Word), new = v &&& 0xF3F → s.writeGate m 0x2A 0x05C v = .pass →
    (field (s.rg 0x2A 0x05C) 11 8 ≤ field new 11 8 → field new 11 8 + 4 ≤ (s.framesOf 2).length →
      s.linkFrames + field new 11 8 ≤ (s.framesOf 2).length →
      exec (.rxcfgWrite m v) s = .next ((s.setRg 0x2A 0x05C new).refreshLink.answer m 0 .done)) ∧
    (flag new 5 = true → flag (s.rg 0x2A 0x05C) 5 = false → (s.framesOf 2).length < field new 11 8 + 4 →
      exec (.rxcfgWrite m v) s = .next (s.reject m 0x2A 0x05C .busy)) ∧
    (field new 11 8 < field (s.rg 0x2A 0x05C) 11 8 → flag new 5 = false → field new 11 8 ∈ s.link.bufs →
      exec (.rxcfgWrite m v) s = .next (s.reject m 0x2A 0x05C .state)))


/-- The host serial port: a frame shorter than a command does nothing; STATUS shifts out the status byte; a READ or POP
frame shifts out status, three zero bytes, the echo and the words; a WRITE frame stores its whole words, a word to CTRL
waiting for the rise of select; a bad address or command is refused with ARG; in GUARD the frame is discarded; the rise of
select counts the frame and puts back what was not taken; without VIO_A's supply nothing is taken; CTRL, device-clocked bursts and the daisy chain (R16, R465 to
R484). -/
def Obligations.HostSerialPort : Prop :=
  ∀ (s : State) (addr : BitVec 24) (a bits : Nat) (data : List Word) (cmd : BitVec 8) (m : Master) (v : Word),
    a = addr.toNat →
    (s.framesOn = true → s.hspi.daisy = false → s.hspi.frame = none →
      (bits < 8 → (cmd = 0x40 ∨ cmd = 0xFF) →
        exec (.hspiRead addr bits) s = .next (s.openFrameOf { cmd := 0x10, addr := a, bits := bits } []) ∧
        exec (.hspiStatus cmd bits) s = .next (s.openFrameOf { cmd := cmd.toNat, bits := bits } [])) ∧
      (s.pwr.depth = .guard → 8 ≤ bits →
        exec (.hspiStatus 0x40 bits) s =
          .next (((s.logMine .hspi 0 0 .notReady).openFrameOf
            { cmd := 0x40, bits := bits, refused := true, first := some (.notReady, 0) }
            (s.frameByte :: List.replicate (bits / 8) 0)).fireWake 0x11)) ∧
      (s.pwr.depth ≠ .guard →
        (8 ≤ bits → exec (.hspiStatus 0x40 bits) s =
          .next (s.openFrameOf { cmd := 0x40, bits := bits } (List.replicate (bits / 8) s.frameByte))) ∧
        (8 ≤ bits → cmd ∉ [0x10, 0x20, 0x30, 0x40] →
          exec (.hspiStatus cmd bits) s = .next ((s.ferr 7 0).refuseFrame { cmd := cmd.toNat, bits := bits })) ∧
        (32 ≤ bits → a % 4 ≠ 0 →
          exec (.hspiRead addr bits) s =
            .next ((s.ferr 15 8).refuseFrame { cmd := 0x10, addr := a, bits := bits })) ∧
        (32 ≤ bits → isPop a = false →
          exec (.hspiPop addr bits) s =
            .next ((s.ferr 15 8).refuseFrame { cmd := 0x30, addr := a, bits := bits })) ∧
        (∀ s1 f1 l s2 us b, 32 ≤ bits → a < 0x100000 → a % 4 = 0 →
          s1.prefetchRun .hspi (decide (72 < bits)) a
            ((List.range (wordsFetched bits - wordsTaken bits)).map (· + wordsTaken bits)) = (s2, us, b) →
          (s.frameReads { cmd := 0x10, addr := a, bits := bits } (List.range (wordsTaken bits)) = (s1, f1, l) →
            exec (.hspiRead addr bits) s =
              .next (s2.openFrameOf { f1 with undo := us } (s.frameHead 0x10 ++ l ++ b))) ∧
          (isPop a = true →
            s.frameReads { cmd := 0x30, addr := a, bits := bits } (List.range (wordsTaken bits)) = (s1, f1, l) →
            exec (.hspiPop addr bits) s =
              .next (s2.openFrameOf { f1 with undo := us } (s.frameHead 0x30 ++ l ++ b)))) ∧
        (∀ u w, a < 0x100000 → a % 4 = 0 → s.burstPast false a 0 = false →
          s.portRead .hspi (burstAddr a 0) = (u, w, .done) →
          ∃ t f, exec (.hspiRead addr 72) s = .next t ∧ t.hspi.out = s.frameHead 0x10 ++ wordBytes w ∧
            t.hspi.frame = some f ∧ f.refused = false ∧ f.first = none) ∧
        (∀ u, a < 0x100000 → a % 4 = 0 → s.burstPast false a 0 = false →
          burstAddr a 0 ≠ 0x30008 → burstAddr a 0 ≠ 0x30040 → s.portWrite .hspi (burstAddr a 0) v = (u, .done) →
          u.ready 0x30 = true →
          exec (.hspiWrite addr [v] 72) s =
            .next (u.openFrameOf { cmd := 0x20, addr := a, bits := 72 } (s.frameHead 0x20 ++ List.replicate 9 0))) ∧
        (a = 0x30040 →
          exec (.hspiWrite addr [v] 72) s =
            .next (s.openFrameOf { cmd := 0x20, addr := a, bits := 72, late := [(0x30040, v)] }
              (s.frameHead 0x20 ++ List.replicate 9 0))))) ∧
    ((cmd = 0x10 ∨ cmd = 0x20 ∨ cmd = 0x30) → exec (.hspiStatus cmd bits) s = .fault .illFormed) ∧
    (s.dead = false → s.ready 0x30 = false → s.pwr.vioA = true →
      exec (.hspiWrite addr data bits) s =
        .next { s with hspi := { s.hspi with out := List.replicate (bits / 8) 0 } }) ∧
    (s.pwr.vioA = false →
      exec (.hspiWrite addr data bits) s = .next s ∧ exec (.hspiRead addr bits) s = .next s ∧
        ∀ l early, exec (.daisyFrame l early) s = .next s) ∧
    (s.hspi.frame = none → exec .hspiFrameEnd s = .next s) ∧
    (∀ (f : HFrame) (g : State), s.hspi.frame = some f → 40 ≤ f.bits → f.late = [] →
      g = f.undo.foldl State.giveBack s → g.ready 0x30 = true →
      exec .hspiFrameEnd s =
        .next (({ g with hspi := { g.hspi with frame := none } } : State).countFrame f.cmd
          (f.addr / 0x1000 % 256) f.refused f.first f.passed)) ∧
    (s.writeGate m 0x30 0x040 v = .pass →
      (flag v 0 = true → (s.hspi.daisy = true ∨ m = .hspi ∨ qEn (s.qcfg (field (s.rg 0x30 0x048) 4 0)) = false ∨
          qCons (s.qcfg (field (s.rg 0x30 0x048) 4 0)) ≠ 1) →
        exec (.hspiCtrlWrite m v) s = .next (s.reject m 0x30 0x040 .state)) ∧
      (∀ u, flag v 0 = false → s.plainWrite m 0x30 0x040 v = (u, .done) →
        exec (.hspiCtrlWrite m v) s = .next (u.answer m 0 .done))) ∧
    (∀ busy holds, s.drives = false → exec (.driveBurst busy holds) s = .next s) ∧
    (∀ q u out holds, q = field (s.rg 0x30 0x048) 4 0 → s.drives = true → qEn (s.qcfg q) = true →
      qCons (s.qcfg q) = 1 → s.granaryUp = true → (s.queue q).items ≠ [] →
      (flag (s.rg 0x30 0x040) 2 = true → exec (.driveBurst true holds) s = .next (s.flowHold true)) ∧
      (flag (s.rg 0x30 0x040) 2 = false → s.hspi.burstAt = none →
        (s.flowHold false).driveItems q (field (s.rg 0x30 0x048) 15 8) = (u, out) →
        ∃ t, exec (.driveBurst false holds) s = .next t ∧ t.hspi.out = out ∧ t.hspi.burstAt = some t.now ∧
          t.queues = u.queues ∧ t.own = u.own)) ∧
    (∀ l early, s.hspi.daisy = false → s.ready 0x30 = true → exec (.daisyFrame l early) s = .next s) ∧
    (∀ (l : List Byte) (s1 u : State) (c : Code) (echo : Nat) (w : Word) (b : Nat), s.dead = false → s.ready 0x30 = true →
      s.pwr.vioA = true → flag (s.rg 0x30 0x008) 0 = true → s.hspi.daisy = true → s.pwr.depth ≠ .guard → l.length = 8 →
      s.hspi.chain.length = 8 → b = natBE ((l.drop 1).take 3) → s1.ready 0x30 = true →
      ({ s with hspi := { s.hspi with out := s.hspi.chain } } : State).slotAccess (l.getD 0 0).toNat b
        (BitVec.ofNat 32 (natBE ((l.drop 4).take 4))) = (s1, c, echo, w) →
      u = s1.countFrame (l.getD 0 0).toNat (b / 0x1000 % 256) (c != .done)
        (if c = .done then none else some (c, 0)) false →
      exec (.daisyFrame l false) s =
        .next { u with hspi := { u.hspi with
          chain := u.hspiByte false :: BitVec.ofNat 8 (Code.num c) :: BitVec.ofNat 8 echo :: 0 :: wordBytes w } })

/-- The host two-wire port: a write loads the pointer and stores whole words; a bad pointer is answered with ARG; a read
answers the words at the pointer; in GUARD the transaction is discarded; an idle line or a misplaced START ends it, on
this port as on a sensor bus (R16, R489 to R493, R499). -/
def Obligations.HostTwoWire : Prop :=
  ∀ (s w r : State) (data : List Byte) (stop : Bool) (a n : Nat),
    w = (s.htwEnd.updRg 0x31 0x050 (fun x => wrapField x 15 0 1)).updHtw
      (fun h => { h with coded := false, word := 0, busy := true, rd := false }) →
    r = (s.htwEnd.updRg 0x31 0x050 (fun x => wrapField x 15 0 1)).updHtw
      (fun h => { h with coded := false, word := 0, busy := true, rd := true }) →
    a = natBE (data.take 3) →
    (s.htwOn = false → exec (.htwWrite data false) s = .next s ∧ exec (.htwRead n false false) s = .next s) ∧
    (s.htwOn = true → s.pwr.depth = .guard → s.htw.undo = [] →
      ∃ t, exec (.htwWrite data false) s = .next t ∧ field (t.rg 0x31 0x04C) 7 0 = Code.num .notReady ∧
        t.own.owner = s.own.owner ∧ t.gran = s.gran ∧ t.queues = s.queues ∧ t.ops = s.ops) ∧
    (s.htwOn = true → s.pwr.depth ≠ .guard →
      (data.length < 3 → exec (.htwWrite data false) s = .next w) ∧
      (3 ≤ data.length → (0x100000 ≤ a ∨ a % 4 ≠ 0) →
        exec (.htwWrite data false) s =
          .next (((((w.htwCode .arg 0 (a / 0x1000 % 256)).htwErr 7 0).evPulse 0x31 0)).updHtw (fun h =>
            { h with deaf := true }))) ∧
      (3 ≤ data.length → a < 0x100000 → a % 4 = 0 →
        exec (.htwWrite data stop) s =
          .next (if stop = true then ((w.setHtwPtr a).htwData (decide (7 < data.length)) a 0 (data.drop 3)).htwEnd
            else (w.setHtwPtr a).htwData (decide (7 < data.length)) a 0 (data.drop 3))) ∧
      (∀ many b0 b1 b2 b3 u, (w.setHtwPtr a).burstPast many a 0 = false →
        (w.setHtwPtr a).portWrite .htw (burstAddr a 0) (BitVec.ofNat 32 (natBE [b0, b1, b2, b3])) = (u, .done) →
        (u.setHtwPtr (nextPtr a 0)).htwOn = true →
        (w.setHtwPtr a).htwData many a 0 [b0, b1, b2, b3] =
          (u.setHtwPtr (nextPtr a 0)).updHtw (fun h => { h with part := [], word := 1 })) ∧
      (∀ t l, n % 4 = 0 → 0 < n →
        r.htwWords (decide (4 < n)) r.htwPtr (List.range (n / 4)) = (t, l) →
        exec (.htwRead n false false) s =
          .next (t.updHtw (fun h => { h with undo := [], word := n / 4, out := l.take n })))) ∧
    (s.dead = false → s.htw.busy = true →
      exec .htwIdleTimeout s = .next ((s.htwEnd.htwErr 31 24).evPulse 0x31 2) ∧
      exec (.protocolError none) s = .next ((s.htwEnd.htwErr 23 16).evPulse 0x31 1)) ∧
    (s.htw.busy = false → exec .htwIdleTimeout s = .next s ∧ exec (.protocolError none) s = .next s) ∧
    (∀ u : Fin 4, (s.unit u.val).target = true →
      exec (.protocolError (some u)) s =
        .next ((s.twcCount u.val 23 20).putUnit u.val { s.unit u.val with target := false })) ∧
    (∀ (u : Fin 4) x rest tag, (s.unit u.val).target = false → (s.unit u.val).queue = x :: rest → x.user = .slot tag →
      s.running tag.toNat 0x32 x.op = true →
      ∃ t, exec (.protocolError (some u)) s = .next t ∧ (t.unit u.val).queue = rest ∧
        (t.slot tag.toNat).result = some .medium ∧ t.gran = s.gran ∧ t.flash = s.flash)

/-- The keys of the Crib: what every operation is checked for first, generation, import, export of the public part,
deletion, zeroisation and derivation by ECDH; LAST shows the operation to its master (R504 to R507, R511, R512, R520,
R525). -/
def Obligations.CribKeys : Prop :=
  (∀ (s : State) (tag : Fin 128) (k : Slot) (op : Nat) (argsOk : State → Slot → Bool) (eff : Slot → State → CribOut),
    k = s.slot tag.val → s.running tag.val 0x3A op = true →
    (argsOk s k = false → s.cribOp tag.val op argsOk eff = s.cribEnd tag.val op k .arg s.approvedMode) ∧
    (argsOk s k = true → s.cribUp = false →
      s.cribOp tag.val op argsOk eff = s.cribEnd tag.val op k .notReady s.approvedMode) ∧
    (argsOk s k = true → s.cribUp = true → k.secure = false → op ≠ 0x07 → op ≠ 0x0B →
      s.cribOp tag.val op argsOk eff = s.cribEnd tag.val op k .security s.approvedMode) ∧
    (argsOk s k = true → s.cribUp = true → k.secure = true → s.lifecycle = 3 → op ∉ [0x07, 0x0B, 0x0C, 0x0F] →
      s.cribOp tag.val op argsOk eff = s.cribEnd tag.val op k .state s.approvedMode)) ∧
  (∀ (s : State) (tag : Fin 128) (k : Slot) (n : Nat), k = s.slot tag.val → n = field (k.arg 0) 5 0 →
    s.cribUp = true → k.secure = true → s.lifecycle ≠ 3 → s.running tag.val 0x3A 0x01 = true →
    keyTypeOf (k.arg 0) ∈ [1, 2, 4, 5] → usageOk (keyTypeOf (k.arg 0)) (keyUsageOf (k.arg 0)) = true →
    ((s.key n).typ ≠ 0 → exec (.keyGen tag) s = .next (s.cribEnd tag.val 0x01 k .state s.approvedMode)) ∧
    ((s.key n).typ = 0 → (n = 0 → s.lifecycle = 2) → keyTypeOf (k.arg 0) ≤ 2 →
      ∃ t, exec (.keyGen tag) s = .next t ∧ (t.slot tag.val).result = some .done ∧
        (t.key n).typ = keyTypeOf (k.arg 0) ∧ (t.key n).usage = BitVec.ofNat 8 (keyUsageOf (k.arg 0)) ∧
        (t.key n).persist = flag (k.arg 0) 24 ∧ (t.key n).origin = 0 ∧ (∀ j, j ≠ n → t.key j = s.key j) ∧
        t.fuse = s.fuse ∧ t.flash = s.flash) ∧
    (∀ u l x, (s.key n).typ = 0 → (n = 0 → s.lifecycle = 2) → s.newSecret (keyTypeOf (k.arg 0)) = (u, l) →
      makeKey (keyTypeOf (k.arg 0)) (keyUsageOf (k.arg 0)) (flag (k.arg 0) 24) 0 l = some x →
      exec (.keyGen tag) s =
        .next ((u.writeKey n x (logMaster k)).cribEnd tag.val 0x01 k .done s.approvedMode))) ∧
  (∀ (s u : State) (tag : Fin 128) (k : Slot) (n typ : Nat) (l : List Byte) (x : KeySlot), k = s.slot tag.val →
    n = field (k.arg 0) 5 0 → typ = keyTypeOf (k.arg 0) →
    s.cribUp = true → k.secure = true → s.lifecycle ≠ 3 → s.running tag.val 0x3A 0x02 = true →
    usageOk typ (keyUsageOf (k.arg 0)) = true → field (k.arg 1) 5 0 = 0 → keyLen typ (field (k.arg 3) 9 0) = true →
    s.bytesInside (k.arg 2).toNat (field (k.arg 3) 9 0) = true → n ≠ 0 → (s.key n).typ = 0 →
    (typ ≤ 5 → s.lifecycle ≠ 1 → flag (s.optWord 16) 1 = true →
      exec (.keyImport tag) s = .next (s.cribEnd tag.val 0x02 k .security false)) ∧
    (¬(typ ≤ 5 ∧ s.lifecycle ≠ 1 ∧ flag (s.optWord 16) 1 = true) →
      s.winBytes (k.arg 2).toNat (field (k.arg 3) 9 0) = (u, .ok l) →
      makeKey typ (keyUsageOf (k.arg 0)) (flag (k.arg 0) 24) 1 l = some x →
      exec (.keyImport tag) s =
        .next ((u.writeKey n x (logMaster k)).cribEnd tag.val 0x02 k .done
          (s.approvedMode && decide (5 < typ ∨ s.lifecycle = 1))))) ∧
  (∀ (s : State) (tag : Fin 128) (k : Slot) (n : Nat), k = s.slot tag.val → n = field (k.arg 0) 5 0 →
    s.cribUp = true → k.secure = true → s.lifecycle ≠ 3 → s.running tag.val 0x3A 0x03 = true →
    ((s.key n).pub = [] → exec (.keyPub tag) s = .next (s.cribEnd tag.val 0x03 k .state s.approvedMode)) ∧
    ((s.key n).pub ≠ [] → s.bytesWritable (k.arg 1).toNat (s.key n).pub.length = true →
      exec (.keyPub tag) s =
        .next ((s.winPutBytes (k.arg 1).toNat (s.key n).pub).cribEnd tag.val 0x03 k .done s.approvedMode))) ∧
  (∀ (s : State) (tag : Fin 128) (k : Slot) (n : Nat), k = s.slot tag.val → n = field (k.arg 0) 5 0 →
    s.cribUp = true → k.secure = true → s.lifecycle ≠ 3 → s.running tag.val 0x3A 0x04 = true →
    ((n = 0 → s.lifecycle ≤ 1) →
      ∃ t, exec (.keyDelete tag) s = .next t ∧ (∀ j, t.key j = if j = n then {} else s.key j) ∧
        (t.slot tag.val).result = some .done ∧ t.fuse = s.fuse ∧ t.own.owner = s.own.owner ∧ t.flash = s.flash) ∧
    (n = 0 → 1 < s.lifecycle →
      exec (.keyDelete tag) s = .next (s.cribEnd tag.val 0x04 k .state s.approvedMode))) ∧
  (∀ (s : State) (tag : Fin 128) (k : Slot), k = s.slot tag.val →
    s.cribUp = true → k.secure = true → s.lifecycle ≠ 3 → s.running tag.val 0x3A 0x10 = true →
    field (k.arg 0) 31 24 = 0x0E →
    ∃ t, exec (.zeroise tag) s = .next t ∧ t.crib.keys = [] ∧ t.crib.zeroised = true ∧
      (t.slot tag.val).result = some .done ∧ t.fuse = s.fuse ∧ t.flash = s.flash) ∧
  (∀ (s u v : State) (tag : Fin 128) (k : Slot) (n dest typ : Nat) (peer info z : List Byte), k = s.slot tag.val →
    n = field (k.arg 0) 5 0 → dest = field (k.arg 0) 13 8 → dest ≠ 0 → typ = field (k.arg 0) 19 16 →
    s.cribUp = true → k.secure = true → s.lifecycle ≠ 3 → s.running tag.val 0x3A 0x0A = true →
    ecdhArgs s k = true → (s.key n).typ = 4 → (s.key n).usage.getLsbD 5 = true →
    ((s.key dest).typ ≠ 0 → exec (.ecdh tag) s = .next (s.cribEnd tag.val 0x0A k .state s.approvedMode)) ∧
    ((s.key dest).typ = 0 → s.bytesInside (k.arg 1).toNat 64 = true →
      s.winBytes (k.arg 1).toNat 64 = (u, .ok peer) →
      u.winBytes (k.arg 2).toNat (field (k.arg 3) 7 0) = (v, .ok info) →
      (curveOf false).ecdh (natBE (s.key n).secret) peer = some z →
      exec (.ecdh tag) s =
        .next ((v.writeKey dest
          { typ := typ, usage := BitVec.ofNat 8 (field (k.arg 0) 31 24), persist := flag (k.arg 3) 8, origin := 2
            secret := kdf z info (if typ = 1 then 16 else if typ = 2 then 32 else 48) } (logMaster k)).cribEnd tag.val
          0x0A k .done s.approvedMode)))

/-- The services of the Crib on data: encryption and the tag it checks, message authentication, hashing, signatures,
random numbers, reseeding and the self-tests (R504, R510, R511, R522, R523). -/
def Obligations.CribServices : Prop :=
  (∀ (s t v w : State) (tag : Fin 128) (k : Slot) (n len : Nat) (key iv aad l : List Byte) (dec : Bool),
    k = s.slot tag.val → n = field (k.arg 0) 5 0 → dec = flag (k.arg 0) 11 → len = field (k.arg 3) 16 0 →
    s.cribUp = true → k.secure = true → s.lifecycle ≠ 3 → s.running tag.val 0x3A 0x05 = true →
    cipherArgs s k = true →
    (s.aesKey n (if dec then 1 else 0) = none →
      exec (.cipher tag) s = .next (s.cribEnd tag.val 0x05 k .security s.approvedMode)) ∧
    (s.aesKey n (if dec then 1 else 0) = some key →
      s.winBytes (k.arg 1).toNat (if dec then len + (cipherLens k).1 else len) = (t, .ok l) →
      t.winBytes (k.arg 4).toNat (cipherLens k).2.1 = (v, .ok iv) →
      v.winBytes (k.arg 5).toNat (cipherLens k).2.2 = (w, .ok aad) →
      (dec = false →
        exec (.cipher tag) s =
          .next ((w.winPutBytes (k.arg 2).toNat
            ((cipherRun (field (k.arg 0) 10 8) false key iv aad (l.take len) (cipherLens k).1).1 ++
              (cipherRun (field (k.arg 0) 10 8) false key iv aad (l.take len) (cipherLens k).1).2)).cribEnd tag.val
            0x05 k .done s.approvedMode)) ∧
      (dec = true → 0 < (cipherLens k).1 →
        (cipherRun (field (k.arg 0) 10 8) true key iv aad (l.take len) (cipherLens k).1).2 ≠ l.drop len →
        exec (.cipher tag) s =
          .next ((w.winPutBytes (k.arg 2).toNat (List.replicate len 0)).cribEnd tag.val 0x05 k .security
            s.approvedMode)) ∧
      (dec = true → (cipherLens k).1 = 0 →
        exec (.cipher tag) s =
          .next ((w.winPutBytes (k.arg 2).toNat
            (cipherRun (field (k.arg 0) 10 8) true key iv aad (l.take len) 0).1).cribEnd tag.val 0x05 k .done
            s.approvedMode)))) ∧
  (∀ (s u : State) (tag : Fin 128) (k : Slot) (n len : Nat) (mac l : List Byte), k = s.slot tag.val →
    n = field (k.arg 0) 5 0 → len = field (k.arg 0) 21 16 → s.cribUp = true → k.secure = true → s.lifecycle ≠ 3 →
    s.running tag.val 0x3A 0x06 = true → macArgs s k = true →
    s.winBytes (k.arg 1).toNat (field (k.arg 2) 16 0) = (u, .ok l) → u.macOf n (field (k.arg 0) 9 8) l = some mac →
    (flag (k.arg 0) 11 = false →
      exec (.mac tag) s =
        .next ((u.winPutBytes (k.arg 3).toNat (mac.take len)).cribEnd tag.val 0x06 k .done s.approvedMode)) ∧
    (∀ v want, flag (k.arg 0) 11 = true → u.winBytes (k.arg 3).toNat len = (v, .ok want) →
      exec (.mac tag) s =
        .next (if mac.take len = want then v.cribEnd tag.val 0x06 k .done s.approvedMode
          else (v.authFail 2 n (logMaster k)).cribEnd tag.val 0x06 k .security s.approvedMode))) ∧
  (∀ (s u v : State) (tag : Fin 128) (k : Slot) (n : Nat) (b l : List Byte), k = s.slot tag.val →
    n = field (k.arg 0) 5 0 → s.cribUp = true → k.secure = true → s.lifecycle ≠ 3 →
    s.running tag.val 0x3A 0x08 = true →
    ((s.key n).typ = 4 → (s.key n).usage.getLsbD 3 = true → s.bytesInside (k.arg 1).toNat 32 = true →
      s.bytesWritable (k.arg 2).toNat 64 = true → s.winBytes (k.arg 1).toNat 32 = (u, .ok l) →
      u.drbgBytes 32 = (v, b) →
      exec (.sign tag) s =
        .next ((v.winPutBytes (k.arg 2).toNat ((curveOf false).sign (natBE (s.key n).secret)
          (natBE b % ((curveOf false).n - 1) + 1) l)).cribEnd tag.val 0x08 k .done s.approvedMode)) ∧
    ((s.key n).typ ≠ 4 → (s.key n).typ ≠ 5 →
      exec (.sign tag) s = .next (s.cribEnd tag.val 0x08 k .security s.approvedMode))) ∧
  (∀ (s u v : State) (tag : Fin 128) (k : Slot) (n : Nat) (sig l : List Byte), k = s.slot tag.val →
    n = field (k.arg 0) 5 0 → s.cribUp = true → k.secure = true → s.lifecycle ≠ 3 →
    s.running tag.val 0x3A 0x09 = true → flag (k.arg 0) 8 = false → (s.key n).typ = 6 →
    (s.key n).usage.getLsbD 4 = true → s.bytesInside (k.arg 1).toNat 32 = true →
    s.bytesInside (k.arg 2).toNat 64 = true → s.winBytes (k.arg 1).toNat 32 = (u, .ok l) →
    u.winBytes (k.arg 2).toNat 64 = (v, .ok sig) →
    exec (.verify tag) s =
      .next (if (curveOf false).verify (s.key n).pub l sig = true then
          v.cribEnd tag.val 0x09 k .done s.approvedMode
        else (v.authFail 1 n (logMaster k)).cribEnd tag.val 0x09 k .security s.approvedMode)) ∧
  (∀ (s : State) (tag : Fin 128) (k : Slot), k = s.slot tag.val → s.cribUp = true → k.secure = true →
    s.lifecycle ≠ 3 → s.running tag.val 0x3A 0x11 = true →
    exec (.reseed tag) s = .next (s.reseedDrbg.cribEnd tag.val 0x11 k .done s.approvedMode)) ∧
  (∀ (s u : State) (tag : Fin 128) (k : Slot) (l : List Byte), k = s.slot tag.val → s.cribUp = true →
    s.running tag.val 0x3A 0x07 = true → hashArgs s k = true → flag (k.arg 0) 8 = false →
    s.winBytes (k.arg 1).toNat (field (k.arg 2) 23 0) = (u, .ok l) →
    exec (.hash tag) s =
      .next ((u.winPutBytes (k.arg 3).toNat (sha (flag (k.arg 0) 0) l)).cribEnd tag.val 0x07 k .done
        s.approvedMode)) ∧
  (∀ (s : State) (tag : Fin 128) (k : Slot) (u : State) (l : List Byte), k = s.slot tag.val → s.cribUp = true →
    s.running tag.val 0x3A 0x0B = true → 1 ≤ field (k.arg 1) 16 0 → field (k.arg 1) 16 0 ≤ 65536 →
    s.bytesWritable (k.arg 0).toNat (field (k.arg 1) 16 0) = true → flag (k.arg 2) 0 = false →
    s.drbgBytes (field (k.arg 1) 16 0) = (u, l) →
    exec (.random tag) s =
      .next ((u.winPutBytes (k.arg 0).toNat l).cribEnd tag.val 0x0B k .done s.approvedMode)) ∧
  (∀ (s : State) (tag : Fin 128) (k : Slot), k = s.slot tag.val → s.cribUp = true → k.secure = true →
    s.running tag.val 0x3A 0x0F = true →
    exec (.selftest tag none) s =
      .next ((s.updRg 0x3A 0x064 (fun w => satField (setFlag w 0 true) 31 16 1)).cribEnd tag.val 0x0F k .done
        s.approvedMode) ∧
    (∀ b : Byte, exec (.selftest tag (some b)) s =
      .next (((s.updRg 0x3A 0x064 (fun w => satField (setFlag w 0 false) 31 16 1)).cribError b.toNat).cribEnd tag.val
        0x0F k .notReady s.approvedMode)))

/-- Lifecycle, roots, debug and tampering: a lifecycle step burns its fuse and is logged; DECOMMISSIONED erases the keys; a root is
set once and revoked unless it is the last; DEBUG_CLOSE; a failed health test is counted and stops the Crib; TAMPER_CFG
locks; a trip is recorded and answered as configured (R509, R514 to R516, R521, R523, R526, R529). -/
def Obligations.LifecycleAndTamper : Prop :=
  (∀ (s : State) (tag : Fin 128) (k : Slot), k = s.slot tag.val →
    s.cribUp = true → k.secure = true → s.running tag.val 0x3A 0x0C = true → field (k.arg 0) 31 24 = 0xE1 →
    (field (k.arg 0) 1 0 = 2 → s.lifecycle = 1 → s.fuse.root0.isSome = true → s.fuse.revoked0 = false →
      (s.key 0).typ ≠ 0 →
      ∃ t, exec (.lifecycle tag) s = .next t ∧ t.fuse = { s.fuse with f := true } ∧
        (t.slot tag.val).result = some .done ∧ t.crib.keys = s.crib.keys ∧ t.flash = s.flash) ∧
    (field (k.arg 0) 1 0 = 3 → s.lifecycle ≠ 3 →
      ∃ t, exec (.lifecycle tag) s = .next t ∧ t.fuse = { s.fuse with d := true } ∧ t.crib.keys = [] ∧
        (t.slot tag.val).result = some .done ∧ t.flash = s.flash) ∧
    (field (k.arg 0) 1 0 = 0 ∨ (field (k.arg 0) 1 0 = 1 ∧ s.lifecycle ≠ 0) ∨
        (field (k.arg 0) 1 0 = 2 ∧ s.lifecycle ≠ 1) ∨ (field (k.arg 0) 1 0 = 3 ∧ s.lifecycle = 3) →
      ∃ t, exec (.lifecycle tag) s = .next t ∧ t.fuse = s.fuse ∧ (t.slot tag.val).result = some .state ∧
        t.crib = s.crib)) ∧
  (∀ (s u : State) (tag : Fin 128) (k : Slot) (l : List Byte), k = s.slot tag.val →
    s.cribUp = true → k.secure = true → s.running tag.val 0x3A 0x0D = true → s.lifecycle ≤ 1 →
    (flag (k.arg 0) 8 = false → field (k.arg 0) 0 0 = 0 → s.bytesInside (k.arg 1).toNat 48 = true →
      s.winBytes (k.arg 1).toNat 48 = (u, .ok l) → s.fuse.root0 = none →
      ∃ t, exec (.rootSet tag) s = .next t ∧ t.fuse = { s.fuse with root0 := some l } ∧
        (t.slot tag.val).result = some .done ∧ t.crib.keys = s.crib.keys) ∧
    (flag (k.arg 0) 8 = false → field (k.arg 0) 0 0 = 0 → s.bytesInside (k.arg 1).toNat 48 = true →
      s.fuse.root0.isSome = true →
      ∃ t, exec (.rootSet tag) s = .next t ∧ t.fuse = s.fuse ∧ (t.slot tag.val).result = some .state) ∧
    (flag (k.arg 0) 8 = true → field (k.arg 0) 0 0 = 0 → s.fuse.root0.isSome = true → s.fuse.revoked0 = false →
      (s.fuse.root1.isSome = true → s.fuse.revoked1 = false →
        ∃ t, exec (.rootSet tag) s = .next t ∧ t.fuse = { s.fuse with revoked0 := true } ∧
          (t.slot tag.val).result = some .done) ∧
      (s.fuse.root1 = none →
        ∃ t, exec (.rootSet tag) s = .next t ∧ t.fuse = s.fuse ∧ (t.slot tag.val).result = some .state))) ∧
  (∀ (s : State) (tag : Fin 128) (k : Slot), k = s.slot tag.val →
    s.cribUp = true → k.secure = true → s.lifecycle ≠ 3 → s.running tag.val 0x3A 0x0E = true →
    field (k.arg 0) 31 24 = 0xDC →
    ∃ t, exec (.debugClose tag) s = .next t ∧ t.fuse = { s.fuse with debugClosed := true } ∧
      t.core.halted = false ∧ t.own.owner ≠ some .debug ∧ (t.slot tag.val).result = some .done ∧
      t.crib.keys = s.crib.keys) ∧
  (∀ (s : State) (apt : Bool), s.unavailable .crib = false → s.dead = false →
    exec (.healthTestFail apt) s =
      .next ((s.updRg 0x3A 0x068 (fun w =>
        if apt = true then satField w 31 16 1 else satField w 15 0 1)).draw.2.cribError
          (field (Config.freeWord s.fresh) 7 0))) ∧
  (∀ (s : State) (apt : Bool), (s.unavailable .crib = true ∨ s.dead = true) →
    exec (.healthTestFail apt) s = .next s) ∧
  (∀ (s : State) (m : Master) (v : Word), s.writeGate m 0x3A 0x05C v = .pass →
    (flag (s.rg 0x3A 0x05C) 31 = true → exec (.tamperCfgWrite m v) s = .next (s.reject m 0x3A 0x05C .state)) ∧
    (flag (s.rg 0x3A 0x05C) 31 = false →
      exec (.tamperCfgWrite m v) s = .next ((s.setRg 0x3A 0x05C (v &&& 0x800000FF)).answer m 0 .done))) ∧
  (∀ (s u : State) (n : Fin 4) (how : Nat), how = field (s.rg 0x3A 0x05C) (2 * n.val + 1) (2 * n.val) →
    u = (s.updRg 0x3A 0x060 (fun w => satField (setFlag w n.val true) 15 8 1)).faultRec 0x1B 0x3A n.val →
    (s.tamperArmed n.val = false → exec (.tamperTrip n) s = .next s) ∧
    (s.tamperArmed n.val = true → how = 0 → exec (.tamperTrip n) s = .next (u.tamperLog n.val)) ∧
    (s.tamperArmed n.val = true → how ≠ 0 → u.unavailable .crib = false →
      exec (.tamperTrip n) s =
        .next ((if how = 2 then (u.tamperLog n.val).zeroiseCrib 7 else u.tamperLog n.val).islandReset 7 0xF 0x100)) ∧
    (s.tamperArmed n.val = true → how ≠ 0 → u.unavailable .crib = true →
      exec (.tamperTrip n) s =
        .next ((u.updCrib (fun c => { c with
          pend := max c.pend how, pendLog := c.pendLog ++ [n.val]
          keys := if how = 2 then c.keys.filter (fun e => e.2.persist) else c.keys
          drbg := c.drbg && how != 2 })).islandReset 7 0xF 0x100)))


/-- Remote management: an envelope is taken in order, dropped when it does not authenticate, answered with SECURITY when
its peer has no right; OPEN starts a session, REQUEST is carried out in a session with a rising counter, CLOSE and the
lapse end it (R415, R416).

The configuration image: nothing is loaded where A2 names none; an image at a place no image can have is rejected; a
verified one starts at its first record; an end record ends the load; while an operation of a record runs, or a bank it
reads is busy, the loader waits (R84, R517 to R519). -/
def Obligations.ManagementAndImage : Prop :=
  (∀ (s u : State) (g : MgmtMsg) (rest : List MgmtMsg) (n : Nat) (e : Envelope) (pt : List Byte),
       u = s.updLink (fun l => { l with mgmtIn := rest }) →
       (s.link.mgmtIn = [] → exec .mgmtEnvelope s = .next s) ∧
       (s.link.mgmtIn = g :: rest → (s.ready 0x2A = false ∨ s.cribFree = false ∨ s.agentRoom = false) →
         exec .mgmtEnvelope s = .next s) ∧
       (s.link.mgmtIn = g :: rest → s.dead = false → s.ready 0x2A = true → s.cribFree = true → s.agentRoom = true →
         s.nextFree.isSome = true →
         ((u.peerOf g.orig = none ∨ envelopeOf g.body = none) → exec .mgmtEnvelope s = .next u.mgmtDrop) ∧
         (u.peerOf g.orig = some n → envelopeOf g.body = some e →
           (u.openEnvelope g.orig e = none → exec .mgmtEnvelope s = .next u.mgmtDrop) ∧
           (u.openEnvelope g.orig e = some pt → flag (u.optWord 16) 2 = false →
             exec .mgmtEnvelope s = .next (u.mgmtReply g.orig 0x8F e.mctr e.dnonce (replyEntry .security 0))) ∧
           (∀ p, u.openEnvelope g.orig e = some pt → flag (u.optWord 16) 2 = true → u.peer n = some p → p.mgmt = true →
             (e.mtype = 1 → e.mctr = 0 → e.dnonce = 0 →
               ∃ t x, exec .mgmtEnvelope s = .next t ∧ t.link.mgmt = some x ∧ x.peer = n ∧ x.mctr = 0 ∧ x.last = s.now ∧
                 t.own = s.own ∧ t.gran = s.gran ∧ t.fuse = s.fuse) ∧
             (∀ x w b, e.mtype = 2 → s.link.mgmt = some x → x.dnonce = BitVec.ofNat 32 e.dnonce →
               x.mctr.toNat < e.mctr →
               (u.updLink (fun k => { k with
                 mgmt := some { x with mctr := BitVec.ofNat 32 e.mctr, last := s.now } })).mgmtEntries
                   (pieces pt.length 8 pt) = (w, b) →
               exec .mgmtEnvelope s = .next (w.mgmtReply g.orig 0x82 e.mctr e.dnonce b)) ∧
             (∀ x, e.mtype = 2 → s.link.mgmt = some x → e.mctr ≤ x.mctr.toNat →
               exec .mgmtEnvelope s = .next u.mgmtDrop) ∧
             (∀ x, e.mtype = 3 → s.link.mgmt = some x → x.dnonce = BitVec.ofNat 32 e.dnonce →
               exec .mgmtEnvelope s =
                 .next ((u.closeMgmt.refreshLink).mgmtReply g.orig 0x83 e.mctr e.dnonce []))))) ∧
       (∀ a : Nat, ∀ x : Word, a < 0x100000 → a % 4 = 0 →
         (∀ w c, s.portWrite .radio a x = (w, c) →
           s.mgmtEntry (2 :: (bytesLE 3 a ++ bytesLE 4 x.toNat)) = (w, replyEntry c 0)) ∧
         (∀ w r c, s.portRead .radio a = (w, r, c) →
           s.mgmtEntry (1 :: (bytesLE 3 a ++ bytesLE 4 x.toNat)) = (w, replyEntry c r))) ∧
       (s.link.mgmt = none → exec .mgmtSessionLapse s = .next s) ∧
       (∀ x, s.link.mgmt = some x → s.dead = false →
         exec .mgmtSessionLapse s =
           .next ((s.reach (x.last + BitVec.ofNat 64 (secTime (10 * field (s.rg 0x2A 0x054) 15 8)))).closeMgmt.refreshLink))) ∧
  (∀ (s u v : State) (l : Loader) (h : List Byte) (w : Word) (base : Nat),
       (s.dead = false → s.ready 0x1E = true → s.cribUp = true → s.opt.loaded = true →
         (s.optWord 2 = 0xFFFFFFFF → s.crib.loader = none → exec .configImageLoad s = .next s) ∧
         (s.optWord 2 ≠ 0xFFFFFFFF → base = (s.optWord 2).toNat → s.crib.loader = none →
           field (s.rg 0x3A 0x070) 1 0 = 0 →
           (base % 0x4000 ≠ 0 ∨ 0x1000000 ≤ base →
             exec .configImageLoad s =
               .next (s.draw.2.imageDone 3 2 (field (Config.freeWord s.fresh) 7 0) 0)) ∧
           (base % 0x4000 = 0 → base < 0x1000000 → s.flashBusy base (0x1000000 - base) = true →
             exec .configImageLoad s = .next s) ∧
           (base % 0x4000 = 0 → base < 0x1000000 → s.flashBusy base (0x1000000 - base) = false → s.imageHeader base = (u, some h) →
             imageOk 2 (0x1000000 - base) h = true → u.digestOk base h = (v, true) →
             (v.lifecycle = 2 → v.headerSigned h = true) →
             exec .configImageLoad s =
               .next (((v.setImg 1 0 0).updCrib (fun c => { c with
                 loader := some { base := base, next := 512, stop := 512 + hdrField h 0x00C 4 } })).loaderRun
                   ((512 + hdrField h 0x00C 4) / 4 + 2)))) ∧
         (field (s.rg 0x3A 0x070) 1 0 ≠ 0 → s.crib.loader = none → exec .configImageLoad s = .next s) ∧
         (s.crib.loader = some l → l.slot.isSome = true → exec .configImageLoad s = .next s) ∧
         (s.crib.loader = some l → l.slot = none → l.code = none → l.next + 4 ≤ l.stop →
           s.flashBusy (l.base + l.next) (l.stop - l.next) = false → s.flashWord none (l.base + l.next) = (u, some w) → field w 31 28 = 0xF →
           exec .configImageLoad s = .next (u.imageDone 2 0 0 l.record)) ∧
         (∀ c, s.crib.loader = some l → l.slot = none → l.code = some c → c ≠ .done →
           exec .configImageLoad s = .next (s.loaderStop { l with record := l.record - 1 } c))) ∧
       (s.cribUp = false → exec .configImageLoad s = .next s))



/-- The invariant holds after reset: every table is in canonical form and the lifecycle fuses stand in their order (R6,
R514). What reset memory reads as is the model's choice (log entry 4). -/
def Obligations.InvariantAtReset : Prop := Safety.inv State.reset = true

/-- Every step, of whatever command or of the clock alone, keeps the invariant: the register file, the banked
registers, the shadows, SRAM and the flash cells stay in canonical form, and F is blown only behind P. It also takes at
most the one command that waited in front, and leaves the commands behind it as they wait. -/
def Obligations.EveryStepKeepsTheInvariant : Prop :=
  ∀ s t : State, Safety.inv s = true → step s = .next t → Safety.inv t = true ∧ t.pending = s.pending.tail

/-- Fuses only burn: whatever step is taken, no lifecycle fuse, debug fuse, revocation or root hash that is blown reads
otherwise after it, not even across a power-on reset; the lifecycle never goes back (R514 to R516, R530). -/
def Obligations.FusesOnlyBurn : Prop :=
  ∀ s t : State, step s = .next t → Safety.burnt s.fuse t.fuse = true ∧ s.lifecycle ≤ t.lifecycle
end

