-- ==== Sys2Proof/Laws/Crypto.lean ====
section
/-!
SUPPORT. Lengths of what the Crib's hashes give: a digest and a stored password are as long whatever is hashed.
-/
namespace Sys2Proof.Machine

theorem bytesLE_length (n v : Nat) : (bytesLE n v).length = n := by
  induction n generalizing v with
  | zero => rfl
  | succ n ih => simp [bytesLE, ih]

theorem Sha.round_length (p : Sha) (st : List Nat) (kw : Nat × Nat) : (p.round st kw).length = st.length := by
  unfold Sha.round
  split <;> rfl

theorem Sha.rounds_length (p : Sha) (l : List (Nat × Nat)) (st : List Nat) :
    (l.foldl p.round st).length = st.length := by
  induction l generalizing st with
  | nil => rfl
  | cons kw l ih => rw [List.foldl_cons, ih, p.round_length]

theorem Sha.block_length (p : Sha) (st ws : List Nat) : (p.block st ws).length = st.length := by
  simp [Sha.block, p.rounds_length]

theorem Sha.blocks_length (p : Sha) (n k : Nat) (st : List Nat) (l : List Byte) :
    (p.blocks n k st l).length = st.length := by
  induction k generalizing st l with
  | zero => rfl
  | succ k ih => rw [Sha.blocks, ih, p.block_length]

/-- A hash is as long as its state: eight words. -/
theorem Sha.hash_length (p : Sha) (l : List Byte) : (p.hash l).length = p.init.length * (p.w / 8) := by
  simp [Sha.hash, List.length_flatMap, bytesBE, bytesLE_length, p.blocks_length]

theorem hmac_length (key l : List Byte) : (hmac false key l).length = 32 := by
  simp [hmac, sha, Sha.hash_length]
  rfl

theorem words_length (n : Nat) (l : List Byte) (h : l.length = 4 * n) :
    (storedPassword.bytesWords' l).length = n := by
  induction n generalizing l with
  | zero => obtain rfl := List.eq_nil_of_length_eq_zero h; rfl
  | succ n ih =>
    match l, h with
    | a :: b :: c :: d :: rest, h =>
      have hr : rest.length = 4 * n := by simp at h; omega
      simp [storedPassword.bytesWords', ih rest hr]
    | [], h => simp at h
    | [_], h => simp at h; omega
    | [_, _], h => simp at h; omega
    | [_, _, _], h => simp at h; omega

/-- A stored password is four words (R299, R301). -/
theorem storedPassword_length (l : List Word) : (storedPassword l).length = 4 :=
  words_length 4 _ (by simp [hmac_length])

end Sys2Proof.Machine
end

