-- ==== Sys2Proof/Laws/Tab.lean ====
section
/-!
SUPPORT. Sparse tables: what a key reads after a write, a removal or a selection, and that each of them keeps the
canonical form.
-/
namespace Sys2Proof.Machine

variable {α : Type} {d : Nat → α} {t : Tab α} {k k' lo : Nat} {v : α}

theorem Tab.get_nil : Tab.get d [] k = d k := rfl

theorem Tab.get_cons {j : Nat} {u : α} : Tab.get d ((j, u) :: t) k = if k = j then u else Tab.get d t k := rfl

theorem Tab.get_erase_self : Tab.get d (Tab.erase t k) k = d k := by
  induction t with
  | nil => rfl
  | cons e t ih =>
    obtain ⟨j, u⟩ := e
    by_cases h : k = j <;> simp [Tab.erase, Tab.get, h]
    · subst h; exact ih
    · exact ih

theorem Tab.get_erase_other (h : k' ≠ k) : Tab.get d (Tab.erase t k) k' = Tab.get d t k' := by
  induction t with
  | nil => rfl
  | cons e t ih =>
    obtain ⟨j, u⟩ := e
    by_cases hj : k = j
    · subst hj; simp [Tab.erase, Tab.get, h, ih]
    · simp [Tab.erase, Tab.get, hj, ih]

theorem Tab.get_put_self : Tab.get d (Tab.put t k v) k = v := by
  induction t with
  | nil => simp [Tab.put, Tab.get]
  | cons e t ih =>
    obtain ⟨j, u⟩ := e
    simp only [Tab.put]
    split
    · simp [Tab.get]
    · rename_i h
      split
      · simp [Tab.get]
      · simp [Tab.get, h, ih]

theorem Tab.get_put_other (h : k' ≠ k) : Tab.get d (Tab.put t k v) k' = Tab.get d t k' := by
  induction t with
  | nil => simp [Tab.put, Tab.get, h]
  | cons e t ih =>
    obtain ⟨j, u⟩ := e
    simp only [Tab.put]
    split
    · rename_i hj; subst hj; simp [Tab.get, h]
    · split
      · simp [Tab.get, h]
      · simp [Tab.get, ih]

/-- A write is read back. -/
@[simp] theorem Tab.get_set_self [DecidableEq α] : Tab.get d (Tab.set d t k v) k = v := by
  unfold Tab.set
  split
  · rename_i h; rw [h]; exact Tab.get_erase_self
  · exact Tab.get_put_self

/-- A write leaves every other key alone. -/
theorem Tab.get_set_other [DecidableEq α] (h : k' ≠ k) : Tab.get d (Tab.set d t k v) k' = Tab.get d t k' := by
  unfold Tab.set
  split
  · exact Tab.get_erase_other h
  · exact Tab.get_put_other h

theorem Tab.get_set [DecidableEq α] :
    Tab.get d (Tab.set d t k v) k' = if k' = k then v else Tab.get d t k' := by
  split
  · rename_i h; subst h; exact Tab.get_set_self
  · rename_i h; exact Tab.get_set_other h

variable [DecidableEq α]

theorem Tab.wfFrom_cons {j : Nat} {u : α} :
    Tab.wfFrom d lo ((j, u) :: t) = true ↔ lo ≤ j ∧ u ≠ d j ∧ Tab.wfFrom d (j + 1) t = true := by
  simp [Tab.wfFrom, and_assoc]

theorem Tab.wfFrom_mono {lo' : Nat} (h : lo' ≤ lo) (w : Tab.wfFrom d lo t = true) : Tab.wfFrom d lo' t = true := by
  cases t with
  | nil => rfl
  | cons e t =>
    obtain ⟨j, u⟩ := e
    rw [Tab.wfFrom_cons] at *
    exact ⟨by omega, w.2⟩

theorem Tab.wfFrom_erase (w : Tab.wfFrom d lo t = true) : Tab.wfFrom d lo (Tab.erase t k) = true := by
  induction t generalizing lo with
  | nil => rfl
  | cons e t ih =>
    obtain ⟨j, u⟩ := e
    rw [Tab.wfFrom_cons] at w
    simp only [Tab.erase]
    split
    · exact Tab.wfFrom_mono (by omega) (ih w.2.2)
    · exact Tab.wfFrom_cons.2 ⟨w.1, w.2.1, ih w.2.2⟩

theorem Tab.wfFrom_put (hk : lo ≤ k) (hv : v ≠ d k) (w : Tab.wfFrom d lo t = true) :
    Tab.wfFrom d lo (Tab.put t k v) = true := by
  induction t generalizing lo with
  | nil => exact Tab.wfFrom_cons.2 ⟨hk, hv, rfl⟩
  | cons e t ih =>
    obtain ⟨j, u⟩ := e
    rw [Tab.wfFrom_cons] at w
    simp only [Tab.put]
    split
    · rename_i h; subst h
      exact Tab.wfFrom_cons.2 ⟨hk, hv, w.2.2⟩
    · split
      · exact Tab.wfFrom_cons.2 ⟨hk, hv, Tab.wfFrom_cons.2 ⟨by omega, w.2.1, w.2.2⟩⟩
      · exact Tab.wfFrom_cons.2 ⟨w.1, w.2.1, ih (by omega) w.2.2⟩

/-- A write keeps the canonical form. -/
theorem Tab.wf_set (w : Tab.wf d t = true) : Tab.wf d (Tab.set d t k v) = true := by
  unfold Tab.set
  split
  · exact Tab.wfFrom_erase w
  · rename_i h; exact Tab.wfFrom_put (Nat.zero_le k) h w

/-- Many writes keep the canonical form. -/
theorem Tab.wf_foldl_set {β : Type} (key : β → Nat) (val : β → α) (l : List β) (w : Tab.wf d t = true) :
    Tab.wf d (l.foldl (fun a e => Tab.set d a (key e) (val e)) t) = true := by
  induction l generalizing t with
  | nil => exact w
  | cons e l ih => exact ih (Tab.wf_set w)

theorem Tab.wfFrom_keep {p : Nat → Bool} (w : Tab.wfFrom d lo t = true) :
    Tab.wfFrom d lo (Tab.keep p t) = true := by
  induction t generalizing lo with
  | nil => rfl
  | cons e t ih =>
    obtain ⟨j, u⟩ := e
    rw [Tab.wfFrom_cons] at w
    simp only [Tab.keep]
    split
    · exact Tab.wfFrom_cons.2 ⟨w.1, w.2.1, ih w.2.2⟩
    · exact Tab.wfFrom_mono (by omega) (ih w.2.2)

/-- A selection by key keeps the canonical form. -/
theorem Tab.wf_keep {p : Nat → Bool} (w : Tab.wf d t = true) : Tab.wf d (Tab.keep p t) = true := Tab.wfFrom_keep w

end Sys2Proof.Machine
end

