-- ==== Sys2Proof/Laws/State.lean ====
section
/-!
SUPPORT. What each named update of State leaves alone, field by field, and what it puts where it writes.
-/
namespace Sys2Proof.Machine

/-! ### setReg -/

@[simp] theorem State.setReg_bank (s : State) (a : Nat) (w : Word) : (s.setReg a w).bank = s.bank := rfl
@[simp] theorem State.setReg_shadow (s : State) (a : Nat) (w : Word) : (s.setReg a w).shadow = s.shadow := rfl
@[simp] theorem State.setReg_lows (s : State) (a : Nat) (w : Word) : (s.setReg a w).lows = s.lows := rfl
@[simp] theorem State.setReg_resp (s : State) (a : Nat) (w : Word) : (s.setReg a w).resp = s.resp := rfl
@[simp] theorem State.setReg_own (s : State) (a : Nat) (w : Word) : (s.setReg a w).own = s.own := rfl
@[simp] theorem State.setReg_ops (s : State) (a : Nat) (w : Word) : (s.setReg a w).ops = s.ops := rfl
@[simp] theorem State.setReg_opt (s : State) (a : Nat) (w : Word) : (s.setReg a w).opt = s.opt := rfl
@[simp] theorem State.setReg_time (s : State) (a : Nat) (w : Word) : (s.setReg a w).time = s.time := rfl
@[simp] theorem State.setReg_pwr (s : State) (a : Nat) (w : Word) : (s.setReg a w).pwr = s.pwr := rfl
@[simp] theorem State.setReg_fab (s : State) (a : Nat) (w : Word) : (s.setReg a w).fab = s.fab := rfl
@[simp] theorem State.setReg_queues (s : State) (a : Nat) (w : Word) : (s.setReg a w).queues = s.queues := rfl
@[simp] theorem State.setReg_core (s : State) (a : Nat) (w : Word) : (s.setReg a w).core = s.core := rfl
@[simp] theorem State.setReg_intc (s : State) (a : Nat) (w : Word) : (s.setReg a w).intc = s.intc := rfl
@[simp] theorem State.setReg_svc (s : State) (a : Nat) (w : Word) : (s.setReg a w).svc = s.svc := rfl
@[simp] theorem State.setReg_hspi (s : State) (a : Nat) (w : Word) : (s.setReg a w).hspi = s.hspi := rfl
@[simp] theorem State.setReg_htw (s : State) (a : Nat) (w : Word) : (s.setReg a w).htw = s.htw := rfl
@[simp] theorem State.setReg_dbg (s : State) (a : Nat) (w : Word) : (s.setReg a w).dbg = s.dbg := rfl
@[simp] theorem State.setReg_tap (s : State) (a : Nat) (w : Word) : (s.setReg a w).tap = s.tap := rfl
@[simp] theorem State.setReg_link (s : State) (a : Nat) (w : Word) : (s.setReg a w).link = s.link := rfl
@[simp] theorem State.setReg_phy (s : State) (a : Nat) (w : Word) : (s.setReg a w).phy = s.phy := rfl
@[simp] theorem State.setReg_fuse (s : State) (a : Nat) (w : Word) : (s.setReg a w).fuse = s.fuse := rfl
@[simp] theorem State.setReg_sense (s : State) (a : Nat) (w : Word) : (s.setReg a w).sense = s.sense := rfl
@[simp] theorem State.setReg_gle (s : State) (a : Nat) (w : Word) : (s.setReg a w).gle = s.gle := rfl
@[simp] theorem State.setReg_thr (s : State) (a : Nat) (w : Word) : (s.setReg a w).thr = s.thr := rfl
@[simp] theorem State.setReg_win (s : State) (a : Nat) (w : Word) : (s.setReg a w).win = s.win := rfl
@[simp] theorem State.setReg_gran (s : State) (a : Nat) (w : Word) : (s.setReg a w).gran = s.gran := rfl
@[simp] theorem State.setReg_flash (s : State) (a : Nat) (w : Word) : (s.setReg a w).flash = s.flash := rfl
@[simp] theorem State.setReg_fld (s : State) (a : Nat) (w : Word) : (s.setReg a w).fld = s.fld := rfl
@[simp] theorem State.setReg_crib (s : State) (a : Nat) (w : Word) : (s.setReg a w).crib = s.crib := rfl
@[simp] theorem State.setReg_fresh (s : State) (a : Nat) (w : Word) : (s.setReg a w).fresh = s.fresh := rfl
@[simp] theorem State.setReg_pending (s : State) (a : Nat) (w : Word) : (s.setReg a w).pending = s.pending := rfl

/-! ### setRg -/

@[simp] theorem State.setRg_bank (s : State) (p o : Nat) (w : Word) : (s.setRg p o w).bank = s.bank := rfl
@[simp] theorem State.setRg_shadow (s : State) (p o : Nat) (w : Word) : (s.setRg p o w).shadow = s.shadow := rfl
@[simp] theorem State.setRg_lows (s : State) (p o : Nat) (w : Word) : (s.setRg p o w).lows = s.lows := rfl
@[simp] theorem State.setRg_resp (s : State) (p o : Nat) (w : Word) : (s.setRg p o w).resp = s.resp := rfl
@[simp] theorem State.setRg_own (s : State) (p o : Nat) (w : Word) : (s.setRg p o w).own = s.own := rfl
@[simp] theorem State.setRg_ops (s : State) (p o : Nat) (w : Word) : (s.setRg p o w).ops = s.ops := rfl
@[simp] theorem State.setRg_opt (s : State) (p o : Nat) (w : Word) : (s.setRg p o w).opt = s.opt := rfl
@[simp] theorem State.setRg_time (s : State) (p o : Nat) (w : Word) : (s.setRg p o w).time = s.time := rfl
@[simp] theorem State.setRg_pwr (s : State) (p o : Nat) (w : Word) : (s.setRg p o w).pwr = s.pwr := rfl
@[simp] theorem State.setRg_fab (s : State) (p o : Nat) (w : Word) : (s.setRg p o w).fab = s.fab := rfl
@[simp] theorem State.setRg_queues (s : State) (p o : Nat) (w : Word) : (s.setRg p o w).queues = s.queues := rfl
@[simp] theorem State.setRg_core (s : State) (p o : Nat) (w : Word) : (s.setRg p o w).core = s.core := rfl
@[simp] theorem State.setRg_intc (s : State) (p o : Nat) (w : Word) : (s.setRg p o w).intc = s.intc := rfl
@[simp] theorem State.setRg_svc (s : State) (p o : Nat) (w : Word) : (s.setRg p o w).svc = s.svc := rfl
@[simp] theorem State.setRg_hspi (s : State) (p o : Nat) (w : Word) : (s.setRg p o w).hspi = s.hspi := rfl
@[simp] theorem State.setRg_htw (s : State) (p o : Nat) (w : Word) : (s.setRg p o w).htw = s.htw := rfl
@[simp] theorem State.setRg_dbg (s : State) (p o : Nat) (w : Word) : (s.setRg p o w).dbg = s.dbg := rfl
@[simp] theorem State.setRg_tap (s : State) (p o : Nat) (w : Word) : (s.setRg p o w).tap = s.tap := rfl
@[simp] theorem State.setRg_link (s : State) (p o : Nat) (w : Word) : (s.setRg p o w).link = s.link := rfl
@[simp] theorem State.setRg_phy (s : State) (p o : Nat) (w : Word) : (s.setRg p o w).phy = s.phy := rfl
@[simp] theorem State.setRg_fuse (s : State) (p o : Nat) (w : Word) : (s.setRg p o w).fuse = s.fuse := rfl
@[simp] theorem State.setRg_sense (s : State) (p o : Nat) (w : Word) : (s.setRg p o w).sense = s.sense := rfl
@[simp] theorem State.setRg_gle (s : State) (p o : Nat) (w : Word) : (s.setRg p o w).gle = s.gle := rfl
@[simp] theorem State.setRg_thr (s : State) (p o : Nat) (w : Word) : (s.setRg p o w).thr = s.thr := rfl
@[simp] theorem State.setRg_win (s : State) (p o : Nat) (w : Word) : (s.setRg p o w).win = s.win := rfl
@[simp] theorem State.setRg_gran (s : State) (p o : Nat) (w : Word) : (s.setRg p o w).gran = s.gran := rfl
@[simp] theorem State.setRg_flash (s : State) (p o : Nat) (w : Word) : (s.setRg p o w).flash = s.flash := rfl
@[simp] theorem State.setRg_fld (s : State) (p o : Nat) (w : Word) : (s.setRg p o w).fld = s.fld := rfl
@[simp] theorem State.setRg_crib (s : State) (p o : Nat) (w : Word) : (s.setRg p o w).crib = s.crib := rfl
@[simp] theorem State.setRg_fresh (s : State) (p o : Nat) (w : Word) : (s.setRg p o w).fresh = s.fresh := rfl
@[simp] theorem State.setRg_pending (s : State) (p o : Nat) (w : Word) : (s.setRg p o w).pending = s.pending := rfl

/-! ### updRg -/

@[simp] theorem State.updRg_bank (s : State) (p o : Nat) (f : Word → Word) : (s.updRg p o f).bank = s.bank := rfl
@[simp] theorem State.updRg_shadow (s : State) (p o : Nat) (f : Word → Word) : (s.updRg p o f).shadow = s.shadow := rfl
@[simp] theorem State.updRg_lows (s : State) (p o : Nat) (f : Word → Word) : (s.updRg p o f).lows = s.lows := rfl
@[simp] theorem State.updRg_resp (s : State) (p o : Nat) (f : Word → Word) : (s.updRg p o f).resp = s.resp := rfl
@[simp] theorem State.updRg_own (s : State) (p o : Nat) (f : Word → Word) : (s.updRg p o f).own = s.own := rfl
@[simp] theorem State.updRg_ops (s : State) (p o : Nat) (f : Word → Word) : (s.updRg p o f).ops = s.ops := rfl
@[simp] theorem State.updRg_opt (s : State) (p o : Nat) (f : Word → Word) : (s.updRg p o f).opt = s.opt := rfl
@[simp] theorem State.updRg_time (s : State) (p o : Nat) (f : Word → Word) : (s.updRg p o f).time = s.time := rfl
@[simp] theorem State.updRg_pwr (s : State) (p o : Nat) (f : Word → Word) : (s.updRg p o f).pwr = s.pwr := rfl
@[simp] theorem State.updRg_fab (s : State) (p o : Nat) (f : Word → Word) : (s.updRg p o f).fab = s.fab := rfl
@[simp] theorem State.updRg_queues (s : State) (p o : Nat) (f : Word → Word) : (s.updRg p o f).queues = s.queues := rfl
@[simp] theorem State.updRg_core (s : State) (p o : Nat) (f : Word → Word) : (s.updRg p o f).core = s.core := rfl
@[simp] theorem State.updRg_intc (s : State) (p o : Nat) (f : Word → Word) : (s.updRg p o f).intc = s.intc := rfl
@[simp] theorem State.updRg_svc (s : State) (p o : Nat) (f : Word → Word) : (s.updRg p o f).svc = s.svc := rfl
@[simp] theorem State.updRg_hspi (s : State) (p o : Nat) (f : Word → Word) : (s.updRg p o f).hspi = s.hspi := rfl
@[simp] theorem State.updRg_htw (s : State) (p o : Nat) (f : Word → Word) : (s.updRg p o f).htw = s.htw := rfl
@[simp] theorem State.updRg_dbg (s : State) (p o : Nat) (f : Word → Word) : (s.updRg p o f).dbg = s.dbg := rfl
@[simp] theorem State.updRg_tap (s : State) (p o : Nat) (f : Word → Word) : (s.updRg p o f).tap = s.tap := rfl
@[simp] theorem State.updRg_link (s : State) (p o : Nat) (f : Word → Word) : (s.updRg p o f).link = s.link := rfl
@[simp] theorem State.updRg_phy (s : State) (p o : Nat) (f : Word → Word) : (s.updRg p o f).phy = s.phy := rfl
@[simp] theorem State.updRg_fuse (s : State) (p o : Nat) (f : Word → Word) : (s.updRg p o f).fuse = s.fuse := rfl
@[simp] theorem State.updRg_sense (s : State) (p o : Nat) (f : Word → Word) : (s.updRg p o f).sense = s.sense := rfl
@[simp] theorem State.updRg_gle (s : State) (p o : Nat) (f : Word → Word) : (s.updRg p o f).gle = s.gle := rfl
@[simp] theorem State.updRg_thr (s : State) (p o : Nat) (f : Word → Word) : (s.updRg p o f).thr = s.thr := rfl
@[simp] theorem State.updRg_win (s : State) (p o : Nat) (f : Word → Word) : (s.updRg p o f).win = s.win := rfl
@[simp] theorem State.updRg_gran (s : State) (p o : Nat) (f : Word → Word) : (s.updRg p o f).gran = s.gran := rfl
@[simp] theorem State.updRg_flash (s : State) (p o : Nat) (f : Word → Word) : (s.updRg p o f).flash = s.flash := rfl
@[simp] theorem State.updRg_fld (s : State) (p o : Nat) (f : Word → Word) : (s.updRg p o f).fld = s.fld := rfl
@[simp] theorem State.updRg_crib (s : State) (p o : Nat) (f : Word → Word) : (s.updRg p o f).crib = s.crib := rfl
@[simp] theorem State.updRg_fresh (s : State) (p o : Nat) (f : Word → Word) : (s.updRg p o f).fresh = s.fresh := rfl
@[simp] theorem State.updRg_pending (s : State) (p o : Nat) (f : Word → Word) : (s.updRg p o f).pending = s.pending := rfl

/-! ### setPair -/

@[simp] theorem State.setPair_bank (s : State) (p o : Nat) (t : Stamp) : (s.setPair p o t).bank = s.bank := rfl
@[simp] theorem State.setPair_shadow (s : State) (p o : Nat) (t : Stamp) : (s.setPair p o t).shadow = s.shadow := rfl
@[simp] theorem State.setPair_lows (s : State) (p o : Nat) (t : Stamp) : (s.setPair p o t).lows = s.lows := rfl
@[simp] theorem State.setPair_resp (s : State) (p o : Nat) (t : Stamp) : (s.setPair p o t).resp = s.resp := rfl
@[simp] theorem State.setPair_own (s : State) (p o : Nat) (t : Stamp) : (s.setPair p o t).own = s.own := rfl
@[simp] theorem State.setPair_ops (s : State) (p o : Nat) (t : Stamp) : (s.setPair p o t).ops = s.ops := rfl
@[simp] theorem State.setPair_opt (s : State) (p o : Nat) (t : Stamp) : (s.setPair p o t).opt = s.opt := rfl
@[simp] theorem State.setPair_time (s : State) (p o : Nat) (t : Stamp) : (s.setPair p o t).time = s.time := rfl
@[simp] theorem State.setPair_pwr (s : State) (p o : Nat) (t : Stamp) : (s.setPair p o t).pwr = s.pwr := rfl
@[simp] theorem State.setPair_fab (s : State) (p o : Nat) (t : Stamp) : (s.setPair p o t).fab = s.fab := rfl
@[simp] theorem State.setPair_queues (s : State) (p o : Nat) (t : Stamp) : (s.setPair p o t).queues = s.queues := rfl
@[simp] theorem State.setPair_core (s : State) (p o : Nat) (t : Stamp) : (s.setPair p o t).core = s.core := rfl
@[simp] theorem State.setPair_intc (s : State) (p o : Nat) (t : Stamp) : (s.setPair p o t).intc = s.intc := rfl
@[simp] theorem State.setPair_svc (s : State) (p o : Nat) (t : Stamp) : (s.setPair p o t).svc = s.svc := rfl
@[simp] theorem State.setPair_hspi (s : State) (p o : Nat) (t : Stamp) : (s.setPair p o t).hspi = s.hspi := rfl
@[simp] theorem State.setPair_htw (s : State) (p o : Nat) (t : Stamp) : (s.setPair p o t).htw = s.htw := rfl
@[simp] theorem State.setPair_dbg (s : State) (p o : Nat) (t : Stamp) : (s.setPair p o t).dbg = s.dbg := rfl
@[simp] theorem State.setPair_tap (s : State) (p o : Nat) (t : Stamp) : (s.setPair p o t).tap = s.tap := rfl
@[simp] theorem State.setPair_link (s : State) (p o : Nat) (t : Stamp) : (s.setPair p o t).link = s.link := rfl
@[simp] theorem State.setPair_phy (s : State) (p o : Nat) (t : Stamp) : (s.setPair p o t).phy = s.phy := rfl
@[simp] theorem State.setPair_fuse (s : State) (p o : Nat) (t : Stamp) : (s.setPair p o t).fuse = s.fuse := rfl
@[simp] theorem State.setPair_sense (s : State) (p o : Nat) (t : Stamp) : (s.setPair p o t).sense = s.sense := rfl
@[simp] theorem State.setPair_gle (s : State) (p o : Nat) (t : Stamp) : (s.setPair p o t).gle = s.gle := rfl
@[simp] theorem State.setPair_thr (s : State) (p o : Nat) (t : Stamp) : (s.setPair p o t).thr = s.thr := rfl
@[simp] theorem State.setPair_win (s : State) (p o : Nat) (t : Stamp) : (s.setPair p o t).win = s.win := rfl
@[simp] theorem State.setPair_gran (s : State) (p o : Nat) (t : Stamp) : (s.setPair p o t).gran = s.gran := rfl
@[simp] theorem State.setPair_flash (s : State) (p o : Nat) (t : Stamp) : (s.setPair p o t).flash = s.flash := rfl
@[simp] theorem State.setPair_fld (s : State) (p o : Nat) (t : Stamp) : (s.setPair p o t).fld = s.fld := rfl
@[simp] theorem State.setPair_crib (s : State) (p o : Nat) (t : Stamp) : (s.setPair p o t).crib = s.crib := rfl
@[simp] theorem State.setPair_fresh (s : State) (p o : Nat) (t : Stamp) : (s.setPair p o t).fresh = s.fresh := rfl
@[simp] theorem State.setPair_pending (s : State) (p o : Nat) (t : Stamp) : (s.setPair p o t).pending = s.pending := rfl

/-! ### setOwn1 -/

@[simp] theorem State.setOwn1_regs (s : State) (m : Master) (p o : Nat) (w : Word) : (s.setOwn1 m p o w).regs = s.regs := rfl
@[simp] theorem State.setOwn1_shadow (s : State) (m : Master) (p o : Nat) (w : Word) : (s.setOwn1 m p o w).shadow = s.shadow := rfl
@[simp] theorem State.setOwn1_lows (s : State) (m : Master) (p o : Nat) (w : Word) : (s.setOwn1 m p o w).lows = s.lows := rfl
@[simp] theorem State.setOwn1_resp (s : State) (m : Master) (p o : Nat) (w : Word) : (s.setOwn1 m p o w).resp = s.resp := rfl
@[simp] theorem State.setOwn1_own (s : State) (m : Master) (p o : Nat) (w : Word) : (s.setOwn1 m p o w).own = s.own := rfl
@[simp] theorem State.setOwn1_ops (s : State) (m : Master) (p o : Nat) (w : Word) : (s.setOwn1 m p o w).ops = s.ops := rfl
@[simp] theorem State.setOwn1_opt (s : State) (m : Master) (p o : Nat) (w : Word) : (s.setOwn1 m p o w).opt = s.opt := rfl
@[simp] theorem State.setOwn1_time (s : State) (m : Master) (p o : Nat) (w : Word) : (s.setOwn1 m p o w).time = s.time := rfl
@[simp] theorem State.setOwn1_pwr (s : State) (m : Master) (p o : Nat) (w : Word) : (s.setOwn1 m p o w).pwr = s.pwr := rfl
@[simp] theorem State.setOwn1_fab (s : State) (m : Master) (p o : Nat) (w : Word) : (s.setOwn1 m p o w).fab = s.fab := rfl
@[simp] theorem State.setOwn1_queues (s : State) (m : Master) (p o : Nat) (w : Word) : (s.setOwn1 m p o w).queues = s.queues := rfl
@[simp] theorem State.setOwn1_core (s : State) (m : Master) (p o : Nat) (w : Word) : (s.setOwn1 m p o w).core = s.core := rfl
@[simp] theorem State.setOwn1_intc (s : State) (m : Master) (p o : Nat) (w : Word) : (s.setOwn1 m p o w).intc = s.intc := rfl
@[simp] theorem State.setOwn1_svc (s : State) (m : Master) (p o : Nat) (w : Word) : (s.setOwn1 m p o w).svc = s.svc := rfl
@[simp] theorem State.setOwn1_hspi (s : State) (m : Master) (p o : Nat) (w : Word) : (s.setOwn1 m p o w).hspi = s.hspi := rfl
@[simp] theorem State.setOwn1_htw (s : State) (m : Master) (p o : Nat) (w : Word) : (s.setOwn1 m p o w).htw = s.htw := rfl
@[simp] theorem State.setOwn1_dbg (s : State) (m : Master) (p o : Nat) (w : Word) : (s.setOwn1 m p o w).dbg = s.dbg := rfl
@[simp] theorem State.setOwn1_tap (s : State) (m : Master) (p o : Nat) (w : Word) : (s.setOwn1 m p o w).tap = s.tap := rfl
@[simp] theorem State.setOwn1_link (s : State) (m : Master) (p o : Nat) (w : Word) : (s.setOwn1 m p o w).link = s.link := rfl
@[simp] theorem State.setOwn1_phy (s : State) (m : Master) (p o : Nat) (w : Word) : (s.setOwn1 m p o w).phy = s.phy := rfl
@[simp] theorem State.setOwn1_fuse (s : State) (m : Master) (p o : Nat) (w : Word) : (s.setOwn1 m p o w).fuse = s.fuse := rfl
@[simp] theorem State.setOwn1_sense (s : State) (m : Master) (p o : Nat) (w : Word) : (s.setOwn1 m p o w).sense = s.sense := rfl
@[simp] theorem State.setOwn1_gle (s : State) (m : Master) (p o : Nat) (w : Word) : (s.setOwn1 m p o w).gle = s.gle := rfl
@[simp] theorem State.setOwn1_thr (s : State) (m : Master) (p o : Nat) (w : Word) : (s.setOwn1 m p o w).thr = s.thr := rfl
@[simp] theorem State.setOwn1_win (s : State) (m : Master) (p o : Nat) (w : Word) : (s.setOwn1 m p o w).win = s.win := rfl
@[simp] theorem State.setOwn1_gran (s : State) (m : Master) (p o : Nat) (w : Word) : (s.setOwn1 m p o w).gran = s.gran := rfl
@[simp] theorem State.setOwn1_flash (s : State) (m : Master) (p o : Nat) (w : Word) : (s.setOwn1 m p o w).flash = s.flash := rfl
@[simp] theorem State.setOwn1_fld (s : State) (m : Master) (p o : Nat) (w : Word) : (s.setOwn1 m p o w).fld = s.fld := rfl
@[simp] theorem State.setOwn1_crib (s : State) (m : Master) (p o : Nat) (w : Word) : (s.setOwn1 m p o w).crib = s.crib := rfl
@[simp] theorem State.setOwn1_fresh (s : State) (m : Master) (p o : Nat) (w : Word) : (s.setOwn1 m p o w).fresh = s.fresh := rfl
@[simp] theorem State.setOwn1_pending (s : State) (m : Master) (p o : Nat) (w : Word) : (s.setOwn1 m p o w).pending = s.pending := rfl

/-! ### logErr -/

@[simp] theorem State.logErr_bank (s : State) (p n : Nat) (c : Code) : (s.logErr p n c).bank = s.bank := rfl
@[simp] theorem State.logErr_shadow (s : State) (p n : Nat) (c : Code) : (s.logErr p n c).shadow = s.shadow := rfl
@[simp] theorem State.logErr_lows (s : State) (p n : Nat) (c : Code) : (s.logErr p n c).lows = s.lows := rfl
@[simp] theorem State.logErr_resp (s : State) (p n : Nat) (c : Code) : (s.logErr p n c).resp = s.resp := rfl
@[simp] theorem State.logErr_own (s : State) (p n : Nat) (c : Code) : (s.logErr p n c).own = s.own := rfl
@[simp] theorem State.logErr_ops (s : State) (p n : Nat) (c : Code) : (s.logErr p n c).ops = s.ops := rfl
@[simp] theorem State.logErr_opt (s : State) (p n : Nat) (c : Code) : (s.logErr p n c).opt = s.opt := rfl
@[simp] theorem State.logErr_time (s : State) (p n : Nat) (c : Code) : (s.logErr p n c).time = s.time := rfl
@[simp] theorem State.logErr_pwr (s : State) (p n : Nat) (c : Code) : (s.logErr p n c).pwr = s.pwr := rfl
@[simp] theorem State.logErr_fab (s : State) (p n : Nat) (c : Code) : (s.logErr p n c).fab = s.fab := rfl
@[simp] theorem State.logErr_queues (s : State) (p n : Nat) (c : Code) : (s.logErr p n c).queues = s.queues := rfl
@[simp] theorem State.logErr_core (s : State) (p n : Nat) (c : Code) : (s.logErr p n c).core = s.core := rfl
@[simp] theorem State.logErr_intc (s : State) (p n : Nat) (c : Code) : (s.logErr p n c).intc = s.intc := rfl
@[simp] theorem State.logErr_svc (s : State) (p n : Nat) (c : Code) : (s.logErr p n c).svc = s.svc := rfl
@[simp] theorem State.logErr_hspi (s : State) (p n : Nat) (c : Code) : (s.logErr p n c).hspi = s.hspi := rfl
@[simp] theorem State.logErr_htw (s : State) (p n : Nat) (c : Code) : (s.logErr p n c).htw = s.htw := rfl
@[simp] theorem State.logErr_dbg (s : State) (p n : Nat) (c : Code) : (s.logErr p n c).dbg = s.dbg := rfl
@[simp] theorem State.logErr_tap (s : State) (p n : Nat) (c : Code) : (s.logErr p n c).tap = s.tap := rfl
@[simp] theorem State.logErr_link (s : State) (p n : Nat) (c : Code) : (s.logErr p n c).link = s.link := rfl
@[simp] theorem State.logErr_phy (s : State) (p n : Nat) (c : Code) : (s.logErr p n c).phy = s.phy := rfl
@[simp] theorem State.logErr_fuse (s : State) (p n : Nat) (c : Code) : (s.logErr p n c).fuse = s.fuse := rfl
@[simp] theorem State.logErr_sense (s : State) (p n : Nat) (c : Code) : (s.logErr p n c).sense = s.sense := rfl
@[simp] theorem State.logErr_gle (s : State) (p n : Nat) (c : Code) : (s.logErr p n c).gle = s.gle := rfl
@[simp] theorem State.logErr_thr (s : State) (p n : Nat) (c : Code) : (s.logErr p n c).thr = s.thr := rfl
@[simp] theorem State.logErr_win (s : State) (p n : Nat) (c : Code) : (s.logErr p n c).win = s.win := rfl
@[simp] theorem State.logErr_gran (s : State) (p n : Nat) (c : Code) : (s.logErr p n c).gran = s.gran := rfl
@[simp] theorem State.logErr_flash (s : State) (p n : Nat) (c : Code) : (s.logErr p n c).flash = s.flash := rfl
@[simp] theorem State.logErr_fld (s : State) (p n : Nat) (c : Code) : (s.logErr p n c).fld = s.fld := rfl
@[simp] theorem State.logErr_crib (s : State) (p n : Nat) (c : Code) : (s.logErr p n c).crib = s.crib := rfl
@[simp] theorem State.logErr_fresh (s : State) (p n : Nat) (c : Code) : (s.logErr p n c).fresh = s.fresh := rfl
@[simp] theorem State.logErr_pending (s : State) (p n : Nat) (c : Code) : (s.logErr p n c).pending = s.pending := rfl

/-! ### logMine -/

@[simp] theorem State.logMine_regs (s : State) (m : Master) (p o : Nat) (c : Code) : (s.logMine m p o c).regs = s.regs := rfl
@[simp] theorem State.logMine_shadow (s : State) (m : Master) (p o : Nat) (c : Code) : (s.logMine m p o c).shadow = s.shadow := rfl
@[simp] theorem State.logMine_lows (s : State) (m : Master) (p o : Nat) (c : Code) : (s.logMine m p o c).lows = s.lows := rfl
@[simp] theorem State.logMine_resp (s : State) (m : Master) (p o : Nat) (c : Code) : (s.logMine m p o c).resp = s.resp := rfl
@[simp] theorem State.logMine_own (s : State) (m : Master) (p o : Nat) (c : Code) : (s.logMine m p o c).own = s.own := rfl
@[simp] theorem State.logMine_ops (s : State) (m : Master) (p o : Nat) (c : Code) : (s.logMine m p o c).ops = s.ops := rfl
@[simp] theorem State.logMine_opt (s : State) (m : Master) (p o : Nat) (c : Code) : (s.logMine m p o c).opt = s.opt := rfl
@[simp] theorem State.logMine_time (s : State) (m : Master) (p o : Nat) (c : Code) : (s.logMine m p o c).time = s.time := rfl
@[simp] theorem State.logMine_pwr (s : State) (m : Master) (p o : Nat) (c : Code) : (s.logMine m p o c).pwr = s.pwr := rfl
@[simp] theorem State.logMine_fab (s : State) (m : Master) (p o : Nat) (c : Code) : (s.logMine m p o c).fab = s.fab := rfl
@[simp] theorem State.logMine_queues (s : State) (m : Master) (p o : Nat) (c : Code) : (s.logMine m p o c).queues = s.queues := rfl
@[simp] theorem State.logMine_core (s : State) (m : Master) (p o : Nat) (c : Code) : (s.logMine m p o c).core = s.core := rfl
@[simp] theorem State.logMine_intc (s : State) (m : Master) (p o : Nat) (c : Code) : (s.logMine m p o c).intc = s.intc := rfl
@[simp] theorem State.logMine_svc (s : State) (m : Master) (p o : Nat) (c : Code) : (s.logMine m p o c).svc = s.svc := rfl
@[simp] theorem State.logMine_hspi (s : State) (m : Master) (p o : Nat) (c : Code) : (s.logMine m p o c).hspi = s.hspi := rfl
@[simp] theorem State.logMine_htw (s : State) (m : Master) (p o : Nat) (c : Code) : (s.logMine m p o c).htw = s.htw := rfl
@[simp] theorem State.logMine_dbg (s : State) (m : Master) (p o : Nat) (c : Code) : (s.logMine m p o c).dbg = s.dbg := rfl
@[simp] theorem State.logMine_tap (s : State) (m : Master) (p o : Nat) (c : Code) : (s.logMine m p o c).tap = s.tap := rfl
@[simp] theorem State.logMine_link (s : State) (m : Master) (p o : Nat) (c : Code) : (s.logMine m p o c).link = s.link := rfl
@[simp] theorem State.logMine_phy (s : State) (m : Master) (p o : Nat) (c : Code) : (s.logMine m p o c).phy = s.phy := rfl
@[simp] theorem State.logMine_fuse (s : State) (m : Master) (p o : Nat) (c : Code) : (s.logMine m p o c).fuse = s.fuse := rfl
@[simp] theorem State.logMine_sense (s : State) (m : Master) (p o : Nat) (c : Code) : (s.logMine m p o c).sense = s.sense := rfl
@[simp] theorem State.logMine_gle (s : State) (m : Master) (p o : Nat) (c : Code) : (s.logMine m p o c).gle = s.gle := rfl
@[simp] theorem State.logMine_thr (s : State) (m : Master) (p o : Nat) (c : Code) : (s.logMine m p o c).thr = s.thr := rfl
@[simp] theorem State.logMine_win (s : State) (m : Master) (p o : Nat) (c : Code) : (s.logMine m p o c).win = s.win := rfl
@[simp] theorem State.logMine_gran (s : State) (m : Master) (p o : Nat) (c : Code) : (s.logMine m p o c).gran = s.gran := rfl
@[simp] theorem State.logMine_flash (s : State) (m : Master) (p o : Nat) (c : Code) : (s.logMine m p o c).flash = s.flash := rfl
@[simp] theorem State.logMine_fld (s : State) (m : Master) (p o : Nat) (c : Code) : (s.logMine m p o c).fld = s.fld := rfl
@[simp] theorem State.logMine_crib (s : State) (m : Master) (p o : Nat) (c : Code) : (s.logMine m p o c).crib = s.crib := rfl
@[simp] theorem State.logMine_fresh (s : State) (m : Master) (p o : Nat) (c : Code) : (s.logMine m p o c).fresh = s.fresh := rfl
@[simp] theorem State.logMine_pending (s : State) (m : Master) (p o : Nat) (c : Code) : (s.logMine m p o c).pending = s.pending := rfl

/-! ### answer -/

@[simp] theorem State.answer_regs (s : State) (m : Master) (v : Word) (c : Code) : (s.answer m v c).regs = s.regs := rfl
@[simp] theorem State.answer_bank (s : State) (m : Master) (v : Word) (c : Code) : (s.answer m v c).bank = s.bank := rfl
@[simp] theorem State.answer_shadow (s : State) (m : Master) (v : Word) (c : Code) : (s.answer m v c).shadow = s.shadow := rfl
@[simp] theorem State.answer_lows (s : State) (m : Master) (v : Word) (c : Code) : (s.answer m v c).lows = s.lows := rfl
@[simp] theorem State.answer_own (s : State) (m : Master) (v : Word) (c : Code) : (s.answer m v c).own = s.own := rfl
@[simp] theorem State.answer_ops (s : State) (m : Master) (v : Word) (c : Code) : (s.answer m v c).ops = s.ops := rfl
@[simp] theorem State.answer_opt (s : State) (m : Master) (v : Word) (c : Code) : (s.answer m v c).opt = s.opt := rfl
@[simp] theorem State.answer_time (s : State) (m : Master) (v : Word) (c : Code) : (s.answer m v c).time = s.time := rfl
@[simp] theorem State.answer_pwr (s : State) (m : Master) (v : Word) (c : Code) : (s.answer m v c).pwr = s.pwr := rfl
@[simp] theorem State.answer_fab (s : State) (m : Master) (v : Word) (c : Code) : (s.answer m v c).fab = s.fab := rfl
@[simp] theorem State.answer_queues (s : State) (m : Master) (v : Word) (c : Code) : (s.answer m v c).queues = s.queues := rfl
@[simp] theorem State.answer_intc (s : State) (m : Master) (v : Word) (c : Code) : (s.answer m v c).intc = s.intc := rfl
@[simp] theorem State.answer_svc (s : State) (m : Master) (v : Word) (c : Code) : (s.answer m v c).svc = s.svc := rfl
@[simp] theorem State.answer_hspi (s : State) (m : Master) (v : Word) (c : Code) : (s.answer m v c).hspi = s.hspi := rfl
@[simp] theorem State.answer_htw (s : State) (m : Master) (v : Word) (c : Code) : (s.answer m v c).htw = s.htw := rfl
@[simp] theorem State.answer_dbg (s : State) (m : Master) (v : Word) (c : Code) : (s.answer m v c).dbg = s.dbg := rfl
@[simp] theorem State.answer_tap (s : State) (m : Master) (v : Word) (c : Code) : (s.answer m v c).tap = s.tap := rfl
@[simp] theorem State.answer_link (s : State) (m : Master) (v : Word) (c : Code) : (s.answer m v c).link = s.link := rfl
@[simp] theorem State.answer_phy (s : State) (m : Master) (v : Word) (c : Code) : (s.answer m v c).phy = s.phy := rfl
@[simp] theorem State.answer_fuse (s : State) (m : Master) (v : Word) (c : Code) : (s.answer m v c).fuse = s.fuse := rfl
@[simp] theorem State.answer_sense (s : State) (m : Master) (v : Word) (c : Code) : (s.answer m v c).sense = s.sense := rfl
@[simp] theorem State.answer_gle (s : State) (m : Master) (v : Word) (c : Code) : (s.answer m v c).gle = s.gle := rfl
@[simp] theorem State.answer_thr (s : State) (m : Master) (v : Word) (c : Code) : (s.answer m v c).thr = s.thr := rfl
@[simp] theorem State.answer_win (s : State) (m : Master) (v : Word) (c : Code) : (s.answer m v c).win = s.win := rfl
@[simp] theorem State.answer_gran (s : State) (m : Master) (v : Word) (c : Code) : (s.answer m v c).gran = s.gran := rfl
@[simp] theorem State.answer_flash (s : State) (m : Master) (v : Word) (c : Code) : (s.answer m v c).flash = s.flash := rfl
@[simp] theorem State.answer_fld (s : State) (m : Master) (v : Word) (c : Code) : (s.answer m v c).fld = s.fld := rfl
@[simp] theorem State.answer_crib (s : State) (m : Master) (v : Word) (c : Code) : (s.answer m v c).crib = s.crib := rfl
@[simp] theorem State.answer_fresh (s : State) (m : Master) (v : Word) (c : Code) : (s.answer m v c).fresh = s.fresh := rfl
@[simp] theorem State.answer_pending (s : State) (m : Master) (v : Word) (c : Code) : (s.answer m v c).pending = s.pending := rfl

/-! ### Registers -/

theorem ra_inj {p q o o' : Nat} (h : o < 0x1000) (h' : o' < 0x1000) : ra p o = ra q o' ↔ p = q ∧ o = o' := by
  unfold ra; omega

@[simp] theorem State.reg_setReg_self (s : State) (a : Nat) (w : Word) : (s.setReg a w).reg a = w :=
  Tab.get_set_self

theorem State.reg_setReg (s : State) (a b : Nat) (w : Word) :
    (s.setReg a w).reg b = if b = a then w else s.reg b := Tab.get_set

@[simp] theorem State.rg_setRg_self (s : State) (p o : Nat) (w : Word) : (s.setRg p o w).rg p o = w :=
  Tab.get_set_self

theorem State.rg_setRg (s : State) (p o q o' : Nat) (w : Word) :
    (s.setRg p o w).rg q o' = if ra q o' = ra p o then w else s.rg q o' := Tab.get_set

@[simp] theorem State.own1_setOwn1_self (s : State) (m : Master) (p o : Nat) (w : Word) :
    (s.setOwn1 m p o w).own1 m p o = w := Tab.get_set_self

/-- The registers a rejection changes: ERRC of the page. -/
theorem State.rg_logErr (s : State) (p n q o : Nat) (c : Code) (h : ra q o ≠ ra p 0x018) :
    (s.logErr p n c).rg q o = s.rg q o := by
  unfold State.logErr State.updRg
  rw [State.rg_setRg, if_neg h]

@[simp] theorem State.rg_answer (s : State) (m : Master) (v : Word) (c : Code) (p o : Nat) :
    (s.answer m v c).rg p o = s.rg p o := rfl

@[simp] theorem State.rg_logMine (s : State) (m : Master) (p o : Nat) (c : Code) (q o' : Nat) :
    (s.logMine m p o c).rg q o' = s.rg q o' := rfl

@[simp] theorem State.portErr_regs (s : State) (m : Master) : (s.portErr m).regs = s.regs := by
  cases m <;> rfl

@[simp] theorem State.rg_portErr (s : State) (m : Master) (p o : Nat) : (s.portErr m).rg p o = s.rg p o := by
  cases m <;> rfl

/-- What a master's last access left at it. -/
@[simp] theorem State.answer_resp_self (s : State) (m : Master) (v : Word) (c : Code) :
    Tab.get (fun _ => {}) (s.answer m v c).resp (Master.id m) = { value := v, code := c } := Tab.get_set_self

/-- An access that completes DONE leaves nothing but its answer. -/
@[simp] theorem State.complete_done (s : State) (m : Master) (p o : Nat) (v : Word) :
    s.complete m p o v .done = s.answer m v .done := by simp [State.complete]

/-! ### Accesses -/

/-- A write that its gate lets pass is its effect, completed. -/
theorem State.write_pass {s : State} {m : Master} {p o : Nat} {v : Word} {eff : State → State × Code}
    (h : s.writeGate m p o v = .pass) : s.write m p o v eff = (eff s).1.complete m p o 0 (eff s).2 := by
  simp [State.write, h]

/-- A write that its gate refuses is a rejection. -/
theorem State.write_refuse {s : State} {m : Master} {p o : Nat} {v : Word} {eff : State → State × Code} {c : Code}
    (h : s.writeGate m p o v = .refuse c) : s.write m p o v eff = s.reject m p o c := by
  simp [State.write, h]

/-- A read that its gate lets pass is its effect, completed. -/
theorem State.read_pass {s : State} {m : Master} {p o : Nat} {eff : State → State × Word × Code}
    (h : s.readGate m p o = .pass) :
    s.read m p o eff = (eff s).1.complete m p o (eff s).2.1 (eff s).2.2 := by
  simp [State.read, h]

end Sys2Proof.Machine
end

