-- ==== Sys2Proof/Laws/Events.lean ====
section
/-!
SUPPORT. What raising an event can change: registers, interrupt delivery and the event fabric, and nothing else; a
fault record changes the fault ring beside them.
-/
namespace Sys2Proof.Machine

/-- t differs from s in registers, interrupt delivery and the event fabric at most. -/
def SameButEvents (s t : State) : Prop := t = { s with regs := t.regs, intc := t.intc, fab := t.fab }

theorem SameButEvents.rfl' (s : State) : SameButEvents s s := rfl

theorem SameButEvents.trans {s t u : State} (h : SameButEvents s t) (g : SameButEvents t u) : SameButEvents s u := by
  unfold SameButEvents at *
  cases t; cases u
  simp_all

theorem SameButEvents.foldl {β : Type} {f : State → β → State} (hf : ∀ s b, SameButEvents s (f s b)) (l : List β)
    (s : State) : SameButEvents s (l.foldl f s) := by
  induction l generalizing s with
  | nil => exact SameButEvents.rfl' s
  | cons b l ih => exact SameButEvents.trans (hf s b) (ih (f s b))

theorem State.setRg_events (s : State) (p o : Nat) (w : Word) : SameButEvents s (s.setRg p o w) := rfl

theorem State.updRg_events (s : State) (p o : Nat) (f : Word → Word) : SameButEvents s (s.updRg p o f) := rfl

theorem State.pulse_events (s : State) (n : Nat) (w : Option (Nat × Nat)) : SameButEvents s (s.pulse n w) := by
  unfold State.pulse State.pulseAt; split <;> rfl

theorem State.setMod_events (s : State) (g : Nat) (m : ModGroup) : SameButEvents s (s.setMod g m) := rfl

theorem State.lineRise_events (s : State) (n : Nat) : SameButEvents s (s.lineRise n) := by
  unfold State.lineRise
  dsimp only
  repeat' split
  all_goals rfl

theorem State.lineFall_events (s : State) (n : Nat) : SameButEvents s (s.lineFall n) := by
  unfold State.lineFall
  dsimp only
  split <;> rfl

theorem State.settle_events (s b : State) (n : Nat) : SameButEvents s (s.settle b n) := by
  unfold State.settle
  split
  · exact State.lineRise_events s n
  · exact State.lineFall_events s n
  · rfl

theorem State.tapPulses_events (s : State) (p b : Nat) : SameButEvents s (s.tapPulses p b) := by
  unfold State.tapPulses
  apply SameButEvents.foldl
  intro a k
  dsimp only
  split
  · exact State.pulse_events a _ _
  · rfl

theorem State.evEdge_events (s : State) (p b : Nat) : SameButEvents s (s.evEdge p b) := by
  unfold State.evEdge
  split
  · exact SameButEvents.trans (SameButEvents.trans (State.updRg_events s p 0x010 _) (State.settle_events _ _ _))
      (State.tapPulses_events _ _ _)
  · rfl

theorem State.evPulse_events (s : State) (p b : Nat) : SameButEvents s (s.evPulse p b) := State.evEdge_events s p b

theorem State.evLevel_events (s : State) (p b : Nat) (v : Bool) : SameButEvents s (s.evLevel p b v) := by
  unfold State.evLevel
  dsimp only
  split
  · rfl
  · split
    · exact SameButEvents.trans (State.updRg_events s p 0x00C _) (State.evEdge_events _ _ _)
    · rfl

theorem State.levelSource_events (s : State) (p b : Nat) (v : Bool) (n : Nat) :
    SameButEvents s (s.levelSource p b v n) := by
  unfold State.levelSource
  dsimp only
  split
  · exact SameButEvents.trans (State.evLevel_events s p b v) (State.pulse_events _ _ _)
  · exact State.evLevel_events s p b v

theorem State.evPulses_events (s : State) (p : Nat) (bs : List Nat) : SameButEvents s (s.evPulses p bs) :=
  SameButEvents.foldl (fun a b => State.evPulse_events a p b) bs s

theorem State.setReadyBits_events (s : State) (p : Nat) (f : Word → Word) : SameButEvents s (s.setReadyBits p f) := by
  unfold State.setReadyBits
  dsimp only
  split <;> rfl

theorem State.setDegraded_events (s : State) (p : Nat) (b : Bool) : SameButEvents s (s.setDegraded p b) :=
  State.setReadyBits_events s p _

theorem State.pendWake_events (s : State) (n : Nat) : SameButEvents s (s.pendWake n) := by
  unfold State.pendWake; split <;> rfl

theorem State.recordWake_events (s : State) (n left : Nat) (a b : Bool) : SameButEvents s (s.recordWake n left a b) := rfl

/-- t differs from s in registers, interrupt delivery, the event fabric and the power state at most. -/
def SameButPower (s t : State) : Prop := t = { s with regs := t.regs, intc := t.intc, fab := t.fab, pwr := t.pwr }

theorem SameButEvents.power {s t : State} (h : SameButEvents s t) : SameButPower s t := by
  unfold SameButEvents at h; unfold SameButPower; rw [h]

theorem SameButPower.trans {s t u : State} (h : SameButPower s t) (g : SameButPower t u) : SameButPower s u := by
  unfold SameButPower at *
  cases t; cases u
  simp_all

theorem State.setPwr_power (s : State) (p : Power) : SameButPower s { s with pwr := p } := rfl

theorem State.dropSleep_power (s : State) : SameButPower s s.dropSleep := rfl

theorem SameButPower.ite {s t u : State} {c : Prop} [Decidable c] (h : SameButPower s t) (g : SameButPower s u) :
    SameButPower s (if c then t else u) := by
  split
  · exact h
  · exact g

/-- A wake source that fires changes registers, interrupt delivery, the event fabric and the power state at most. -/
theorem State.fireWake_power (s : State) (n : Nat) : SameButPower s (s.fireWake n) := by
  unfold State.fireWake
  refine SameButPower.ite rfl ?_
  have p := SameButEvents.power (State.pendWake_events s n)
  generalize s.pendWake n = a at p
  have record (b : State) (left : Nat) (x y : Bool) (line : Nat) :
      SameButPower b ((b.recordWake n left x y).evPulse 0x05 line) :=
    SameButEvents.power ((State.recordWake_events _ _ _ _ _).trans (State.evPulse_events _ _ _))
  dsimp only
  split
  · exact p.trans ((State.dropSleep_power a).trans (record _ _ _ _ _))
  · exact SameButPower.ite (p.trans ((State.setPwr_power a _).trans (record _ _ _ _ _))) p

/-! ### setReadyBits -/

@[simp] theorem State.setReadyBits_bank (s : State) (p : Nat) (f : Word → Word) : (s.setReadyBits p f).bank = s.bank := by
  rw [State.setReadyBits_events s p f]
@[simp] theorem State.setReadyBits_shadow (s : State) (p : Nat) (f : Word → Word) : (s.setReadyBits p f).shadow = s.shadow := by
  rw [State.setReadyBits_events s p f]
@[simp] theorem State.setReadyBits_lows (s : State) (p : Nat) (f : Word → Word) : (s.setReadyBits p f).lows = s.lows := by
  rw [State.setReadyBits_events s p f]
@[simp] theorem State.setReadyBits_resp (s : State) (p : Nat) (f : Word → Word) : (s.setReadyBits p f).resp = s.resp := by
  rw [State.setReadyBits_events s p f]
@[simp] theorem State.setReadyBits_own (s : State) (p : Nat) (f : Word → Word) : (s.setReadyBits p f).own = s.own := by
  rw [State.setReadyBits_events s p f]
@[simp] theorem State.setReadyBits_ops (s : State) (p : Nat) (f : Word → Word) : (s.setReadyBits p f).ops = s.ops := by
  rw [State.setReadyBits_events s p f]
@[simp] theorem State.setReadyBits_opt (s : State) (p : Nat) (f : Word → Word) : (s.setReadyBits p f).opt = s.opt := by
  rw [State.setReadyBits_events s p f]
@[simp] theorem State.setReadyBits_time (s : State) (p : Nat) (f : Word → Word) : (s.setReadyBits p f).time = s.time := by
  rw [State.setReadyBits_events s p f]
@[simp] theorem State.setReadyBits_pwr (s : State) (p : Nat) (f : Word → Word) : (s.setReadyBits p f).pwr = s.pwr := by
  rw [State.setReadyBits_events s p f]
@[simp] theorem State.setReadyBits_queues (s : State) (p : Nat) (f : Word → Word) : (s.setReadyBits p f).queues = s.queues := by
  rw [State.setReadyBits_events s p f]
@[simp] theorem State.setReadyBits_core (s : State) (p : Nat) (f : Word → Word) : (s.setReadyBits p f).core = s.core := by
  rw [State.setReadyBits_events s p f]
@[simp] theorem State.setReadyBits_svc (s : State) (p : Nat) (f : Word → Word) : (s.setReadyBits p f).svc = s.svc := by
  rw [State.setReadyBits_events s p f]
@[simp] theorem State.setReadyBits_hspi (s : State) (p : Nat) (f : Word → Word) : (s.setReadyBits p f).hspi = s.hspi := by
  rw [State.setReadyBits_events s p f]
@[simp] theorem State.setReadyBits_htw (s : State) (p : Nat) (f : Word → Word) : (s.setReadyBits p f).htw = s.htw := by
  rw [State.setReadyBits_events s p f]
@[simp] theorem State.setReadyBits_dbg (s : State) (p : Nat) (f : Word → Word) : (s.setReadyBits p f).dbg = s.dbg := by
  rw [State.setReadyBits_events s p f]
@[simp] theorem State.setReadyBits_tap (s : State) (p : Nat) (f : Word → Word) : (s.setReadyBits p f).tap = s.tap := by
  rw [State.setReadyBits_events s p f]
@[simp] theorem State.setReadyBits_link (s : State) (p : Nat) (f : Word → Word) : (s.setReadyBits p f).link = s.link := by
  rw [State.setReadyBits_events s p f]
@[simp] theorem State.setReadyBits_phy (s : State) (p : Nat) (f : Word → Word) : (s.setReadyBits p f).phy = s.phy := by
  rw [State.setReadyBits_events s p f]
@[simp] theorem State.setReadyBits_fuse (s : State) (p : Nat) (f : Word → Word) : (s.setReadyBits p f).fuse = s.fuse := by
  rw [State.setReadyBits_events s p f]
@[simp] theorem State.setReadyBits_sense (s : State) (p : Nat) (f : Word → Word) : (s.setReadyBits p f).sense = s.sense := by
  rw [State.setReadyBits_events s p f]
@[simp] theorem State.setReadyBits_gle (s : State) (p : Nat) (f : Word → Word) : (s.setReadyBits p f).gle = s.gle := by
  rw [State.setReadyBits_events s p f]
@[simp] theorem State.setReadyBits_thr (s : State) (p : Nat) (f : Word → Word) : (s.setReadyBits p f).thr = s.thr := by
  rw [State.setReadyBits_events s p f]
@[simp] theorem State.setReadyBits_win (s : State) (p : Nat) (f : Word → Word) : (s.setReadyBits p f).win = s.win := by
  rw [State.setReadyBits_events s p f]
@[simp] theorem State.setReadyBits_gran (s : State) (p : Nat) (f : Word → Word) : (s.setReadyBits p f).gran = s.gran := by
  rw [State.setReadyBits_events s p f]
@[simp] theorem State.setReadyBits_flash (s : State) (p : Nat) (f : Word → Word) : (s.setReadyBits p f).flash = s.flash := by
  rw [State.setReadyBits_events s p f]
@[simp] theorem State.setReadyBits_fld (s : State) (p : Nat) (f : Word → Word) : (s.setReadyBits p f).fld = s.fld := by
  rw [State.setReadyBits_events s p f]
@[simp] theorem State.setReadyBits_crib (s : State) (p : Nat) (f : Word → Word) : (s.setReadyBits p f).crib = s.crib := by
  rw [State.setReadyBits_events s p f]
@[simp] theorem State.setReadyBits_fresh (s : State) (p : Nat) (f : Word → Word) : (s.setReadyBits p f).fresh = s.fresh := by
  rw [State.setReadyBits_events s p f]
@[simp] theorem State.setReadyBits_pending (s : State) (p : Nat) (f : Word → Word) : (s.setReadyBits p f).pending = s.pending := by
  rw [State.setReadyBits_events s p f]

/-! ### settle -/

@[simp] theorem State.settle_bank (s b : State) (n : Nat) : (s.settle b n).bank = s.bank := by
  rw [State.settle_events s b n]
@[simp] theorem State.settle_shadow (s b : State) (n : Nat) : (s.settle b n).shadow = s.shadow := by
  rw [State.settle_events s b n]
@[simp] theorem State.settle_lows (s b : State) (n : Nat) : (s.settle b n).lows = s.lows := by
  rw [State.settle_events s b n]
@[simp] theorem State.settle_resp (s b : State) (n : Nat) : (s.settle b n).resp = s.resp := by
  rw [State.settle_events s b n]
@[simp] theorem State.settle_own (s b : State) (n : Nat) : (s.settle b n).own = s.own := by
  rw [State.settle_events s b n]
@[simp] theorem State.settle_ops (s b : State) (n : Nat) : (s.settle b n).ops = s.ops := by
  rw [State.settle_events s b n]
@[simp] theorem State.settle_opt (s b : State) (n : Nat) : (s.settle b n).opt = s.opt := by
  rw [State.settle_events s b n]
@[simp] theorem State.settle_time (s b : State) (n : Nat) : (s.settle b n).time = s.time := by
  rw [State.settle_events s b n]
@[simp] theorem State.settle_pwr (s b : State) (n : Nat) : (s.settle b n).pwr = s.pwr := by
  rw [State.settle_events s b n]
@[simp] theorem State.settle_queues (s b : State) (n : Nat) : (s.settle b n).queues = s.queues := by
  rw [State.settle_events s b n]
@[simp] theorem State.settle_core (s b : State) (n : Nat) : (s.settle b n).core = s.core := by
  rw [State.settle_events s b n]
@[simp] theorem State.settle_svc (s b : State) (n : Nat) : (s.settle b n).svc = s.svc := by
  rw [State.settle_events s b n]
@[simp] theorem State.settle_hspi (s b : State) (n : Nat) : (s.settle b n).hspi = s.hspi := by
  rw [State.settle_events s b n]
@[simp] theorem State.settle_htw (s b : State) (n : Nat) : (s.settle b n).htw = s.htw := by
  rw [State.settle_events s b n]
@[simp] theorem State.settle_dbg (s b : State) (n : Nat) : (s.settle b n).dbg = s.dbg := by
  rw [State.settle_events s b n]
@[simp] theorem State.settle_tap (s b : State) (n : Nat) : (s.settle b n).tap = s.tap := by
  rw [State.settle_events s b n]
@[simp] theorem State.settle_link (s b : State) (n : Nat) : (s.settle b n).link = s.link := by
  rw [State.settle_events s b n]
@[simp] theorem State.settle_phy (s b : State) (n : Nat) : (s.settle b n).phy = s.phy := by
  rw [State.settle_events s b n]
@[simp] theorem State.settle_fuse (s b : State) (n : Nat) : (s.settle b n).fuse = s.fuse := by
  rw [State.settle_events s b n]
@[simp] theorem State.settle_sense (s b : State) (n : Nat) : (s.settle b n).sense = s.sense := by
  rw [State.settle_events s b n]
@[simp] theorem State.settle_gle (s b : State) (n : Nat) : (s.settle b n).gle = s.gle := by
  rw [State.settle_events s b n]
@[simp] theorem State.settle_thr (s b : State) (n : Nat) : (s.settle b n).thr = s.thr := by
  rw [State.settle_events s b n]
@[simp] theorem State.settle_win (s b : State) (n : Nat) : (s.settle b n).win = s.win := by
  rw [State.settle_events s b n]
@[simp] theorem State.settle_gran (s b : State) (n : Nat) : (s.settle b n).gran = s.gran := by
  rw [State.settle_events s b n]
@[simp] theorem State.settle_flash (s b : State) (n : Nat) : (s.settle b n).flash = s.flash := by
  rw [State.settle_events s b n]
@[simp] theorem State.settle_fld (s b : State) (n : Nat) : (s.settle b n).fld = s.fld := by
  rw [State.settle_events s b n]
@[simp] theorem State.settle_crib (s b : State) (n : Nat) : (s.settle b n).crib = s.crib := by
  rw [State.settle_events s b n]
@[simp] theorem State.settle_fresh (s b : State) (n : Nat) : (s.settle b n).fresh = s.fresh := by
  rw [State.settle_events s b n]
@[simp] theorem State.settle_pending (s b : State) (n : Nat) : (s.settle b n).pending = s.pending := by
  rw [State.settle_events s b n]

/-! ### pulse -/

@[simp] theorem State.pulse_bank (s : State) (n : Nat) (w : Option (Nat × Nat)) : (s.pulse n w).bank = s.bank := by
  rw [State.pulse_events s n w]
@[simp] theorem State.pulse_shadow (s : State) (n : Nat) (w : Option (Nat × Nat)) : (s.pulse n w).shadow = s.shadow := by
  rw [State.pulse_events s n w]
@[simp] theorem State.pulse_lows (s : State) (n : Nat) (w : Option (Nat × Nat)) : (s.pulse n w).lows = s.lows := by
  rw [State.pulse_events s n w]
@[simp] theorem State.pulse_resp (s : State) (n : Nat) (w : Option (Nat × Nat)) : (s.pulse n w).resp = s.resp := by
  rw [State.pulse_events s n w]
@[simp] theorem State.pulse_own (s : State) (n : Nat) (w : Option (Nat × Nat)) : (s.pulse n w).own = s.own := by
  rw [State.pulse_events s n w]
@[simp] theorem State.pulse_ops (s : State) (n : Nat) (w : Option (Nat × Nat)) : (s.pulse n w).ops = s.ops := by
  rw [State.pulse_events s n w]
@[simp] theorem State.pulse_opt (s : State) (n : Nat) (w : Option (Nat × Nat)) : (s.pulse n w).opt = s.opt := by
  rw [State.pulse_events s n w]
@[simp] theorem State.pulse_time (s : State) (n : Nat) (w : Option (Nat × Nat)) : (s.pulse n w).time = s.time := by
  rw [State.pulse_events s n w]
@[simp] theorem State.pulse_pwr (s : State) (n : Nat) (w : Option (Nat × Nat)) : (s.pulse n w).pwr = s.pwr := by
  rw [State.pulse_events s n w]
@[simp] theorem State.pulse_queues (s : State) (n : Nat) (w : Option (Nat × Nat)) : (s.pulse n w).queues = s.queues := by
  rw [State.pulse_events s n w]
@[simp] theorem State.pulse_core (s : State) (n : Nat) (w : Option (Nat × Nat)) : (s.pulse n w).core = s.core := by
  rw [State.pulse_events s n w]
@[simp] theorem State.pulse_svc (s : State) (n : Nat) (w : Option (Nat × Nat)) : (s.pulse n w).svc = s.svc := by
  rw [State.pulse_events s n w]
@[simp] theorem State.pulse_hspi (s : State) (n : Nat) (w : Option (Nat × Nat)) : (s.pulse n w).hspi = s.hspi := by
  rw [State.pulse_events s n w]
@[simp] theorem State.pulse_htw (s : State) (n : Nat) (w : Option (Nat × Nat)) : (s.pulse n w).htw = s.htw := by
  rw [State.pulse_events s n w]
@[simp] theorem State.pulse_dbg (s : State) (n : Nat) (w : Option (Nat × Nat)) : (s.pulse n w).dbg = s.dbg := by
  rw [State.pulse_events s n w]
@[simp] theorem State.pulse_tap (s : State) (n : Nat) (w : Option (Nat × Nat)) : (s.pulse n w).tap = s.tap := by
  rw [State.pulse_events s n w]
@[simp] theorem State.pulse_link (s : State) (n : Nat) (w : Option (Nat × Nat)) : (s.pulse n w).link = s.link := by
  rw [State.pulse_events s n w]
@[simp] theorem State.pulse_phy (s : State) (n : Nat) (w : Option (Nat × Nat)) : (s.pulse n w).phy = s.phy := by
  rw [State.pulse_events s n w]
@[simp] theorem State.pulse_fuse (s : State) (n : Nat) (w : Option (Nat × Nat)) : (s.pulse n w).fuse = s.fuse := by
  rw [State.pulse_events s n w]
@[simp] theorem State.pulse_sense (s : State) (n : Nat) (w : Option (Nat × Nat)) : (s.pulse n w).sense = s.sense := by
  rw [State.pulse_events s n w]
@[simp] theorem State.pulse_gle (s : State) (n : Nat) (w : Option (Nat × Nat)) : (s.pulse n w).gle = s.gle := by
  rw [State.pulse_events s n w]
@[simp] theorem State.pulse_thr (s : State) (n : Nat) (w : Option (Nat × Nat)) : (s.pulse n w).thr = s.thr := by
  rw [State.pulse_events s n w]
@[simp] theorem State.pulse_win (s : State) (n : Nat) (w : Option (Nat × Nat)) : (s.pulse n w).win = s.win := by
  rw [State.pulse_events s n w]
@[simp] theorem State.pulse_gran (s : State) (n : Nat) (w : Option (Nat × Nat)) : (s.pulse n w).gran = s.gran := by
  rw [State.pulse_events s n w]
@[simp] theorem State.pulse_flash (s : State) (n : Nat) (w : Option (Nat × Nat)) : (s.pulse n w).flash = s.flash := by
  rw [State.pulse_events s n w]
@[simp] theorem State.pulse_fld (s : State) (n : Nat) (w : Option (Nat × Nat)) : (s.pulse n w).fld = s.fld := by
  rw [State.pulse_events s n w]
@[simp] theorem State.pulse_crib (s : State) (n : Nat) (w : Option (Nat × Nat)) : (s.pulse n w).crib = s.crib := by
  rw [State.pulse_events s n w]
@[simp] theorem State.pulse_fresh (s : State) (n : Nat) (w : Option (Nat × Nat)) : (s.pulse n w).fresh = s.fresh := by
  rw [State.pulse_events s n w]
@[simp] theorem State.pulse_pending (s : State) (n : Nat) (w : Option (Nat × Nat)) : (s.pulse n w).pending = s.pending := by
  rw [State.pulse_events s n w]

/-! ### evEdge -/

@[simp] theorem State.evEdge_bank (s : State) (p b : Nat) : (s.evEdge p b).bank = s.bank := by
  rw [State.evEdge_events s p b]
@[simp] theorem State.evEdge_shadow (s : State) (p b : Nat) : (s.evEdge p b).shadow = s.shadow := by
  rw [State.evEdge_events s p b]
@[simp] theorem State.evEdge_lows (s : State) (p b : Nat) : (s.evEdge p b).lows = s.lows := by
  rw [State.evEdge_events s p b]
@[simp] theorem State.evEdge_resp (s : State) (p b : Nat) : (s.evEdge p b).resp = s.resp := by
  rw [State.evEdge_events s p b]
@[simp] theorem State.evEdge_own (s : State) (p b : Nat) : (s.evEdge p b).own = s.own := by
  rw [State.evEdge_events s p b]
@[simp] theorem State.evEdge_ops (s : State) (p b : Nat) : (s.evEdge p b).ops = s.ops := by
  rw [State.evEdge_events s p b]
@[simp] theorem State.evEdge_opt (s : State) (p b : Nat) : (s.evEdge p b).opt = s.opt := by
  rw [State.evEdge_events s p b]
@[simp] theorem State.evEdge_time (s : State) (p b : Nat) : (s.evEdge p b).time = s.time := by
  rw [State.evEdge_events s p b]
@[simp] theorem State.evEdge_pwr (s : State) (p b : Nat) : (s.evEdge p b).pwr = s.pwr := by
  rw [State.evEdge_events s p b]
@[simp] theorem State.evEdge_queues (s : State) (p b : Nat) : (s.evEdge p b).queues = s.queues := by
  rw [State.evEdge_events s p b]
@[simp] theorem State.evEdge_core (s : State) (p b : Nat) : (s.evEdge p b).core = s.core := by
  rw [State.evEdge_events s p b]
@[simp] theorem State.evEdge_svc (s : State) (p b : Nat) : (s.evEdge p b).svc = s.svc := by
  rw [State.evEdge_events s p b]
@[simp] theorem State.evEdge_hspi (s : State) (p b : Nat) : (s.evEdge p b).hspi = s.hspi := by
  rw [State.evEdge_events s p b]
@[simp] theorem State.evEdge_htw (s : State) (p b : Nat) : (s.evEdge p b).htw = s.htw := by
  rw [State.evEdge_events s p b]
@[simp] theorem State.evEdge_dbg (s : State) (p b : Nat) : (s.evEdge p b).dbg = s.dbg := by
  rw [State.evEdge_events s p b]
@[simp] theorem State.evEdge_tap (s : State) (p b : Nat) : (s.evEdge p b).tap = s.tap := by
  rw [State.evEdge_events s p b]
@[simp] theorem State.evEdge_link (s : State) (p b : Nat) : (s.evEdge p b).link = s.link := by
  rw [State.evEdge_events s p b]
@[simp] theorem State.evEdge_phy (s : State) (p b : Nat) : (s.evEdge p b).phy = s.phy := by
  rw [State.evEdge_events s p b]
@[simp] theorem State.evEdge_fuse (s : State) (p b : Nat) : (s.evEdge p b).fuse = s.fuse := by
  rw [State.evEdge_events s p b]
@[simp] theorem State.evEdge_sense (s : State) (p b : Nat) : (s.evEdge p b).sense = s.sense := by
  rw [State.evEdge_events s p b]
@[simp] theorem State.evEdge_gle (s : State) (p b : Nat) : (s.evEdge p b).gle = s.gle := by
  rw [State.evEdge_events s p b]
@[simp] theorem State.evEdge_thr (s : State) (p b : Nat) : (s.evEdge p b).thr = s.thr := by
  rw [State.evEdge_events s p b]
@[simp] theorem State.evEdge_win (s : State) (p b : Nat) : (s.evEdge p b).win = s.win := by
  rw [State.evEdge_events s p b]
@[simp] theorem State.evEdge_gran (s : State) (p b : Nat) : (s.evEdge p b).gran = s.gran := by
  rw [State.evEdge_events s p b]
@[simp] theorem State.evEdge_flash (s : State) (p b : Nat) : (s.evEdge p b).flash = s.flash := by
  rw [State.evEdge_events s p b]
@[simp] theorem State.evEdge_fld (s : State) (p b : Nat) : (s.evEdge p b).fld = s.fld := by
  rw [State.evEdge_events s p b]
@[simp] theorem State.evEdge_crib (s : State) (p b : Nat) : (s.evEdge p b).crib = s.crib := by
  rw [State.evEdge_events s p b]
@[simp] theorem State.evEdge_fresh (s : State) (p b : Nat) : (s.evEdge p b).fresh = s.fresh := by
  rw [State.evEdge_events s p b]
@[simp] theorem State.evEdge_pending (s : State) (p b : Nat) : (s.evEdge p b).pending = s.pending := by
  rw [State.evEdge_events s p b]

/-! ### evPulse -/

@[simp] theorem State.evPulse_bank (s : State) (p b : Nat) : (s.evPulse p b).bank = s.bank := by
  rw [State.evPulse_events s p b]
@[simp] theorem State.evPulse_shadow (s : State) (p b : Nat) : (s.evPulse p b).shadow = s.shadow := by
  rw [State.evPulse_events s p b]
@[simp] theorem State.evPulse_lows (s : State) (p b : Nat) : (s.evPulse p b).lows = s.lows := by
  rw [State.evPulse_events s p b]
@[simp] theorem State.evPulse_resp (s : State) (p b : Nat) : (s.evPulse p b).resp = s.resp := by
  rw [State.evPulse_events s p b]
@[simp] theorem State.evPulse_own (s : State) (p b : Nat) : (s.evPulse p b).own = s.own := by
  rw [State.evPulse_events s p b]
@[simp] theorem State.evPulse_ops (s : State) (p b : Nat) : (s.evPulse p b).ops = s.ops := by
  rw [State.evPulse_events s p b]
@[simp] theorem State.evPulse_opt (s : State) (p b : Nat) : (s.evPulse p b).opt = s.opt := by
  rw [State.evPulse_events s p b]
@[simp] theorem State.evPulse_time (s : State) (p b : Nat) : (s.evPulse p b).time = s.time := by
  rw [State.evPulse_events s p b]
@[simp] theorem State.evPulse_pwr (s : State) (p b : Nat) : (s.evPulse p b).pwr = s.pwr := by
  rw [State.evPulse_events s p b]
@[simp] theorem State.evPulse_queues (s : State) (p b : Nat) : (s.evPulse p b).queues = s.queues := by
  rw [State.evPulse_events s p b]
@[simp] theorem State.evPulse_core (s : State) (p b : Nat) : (s.evPulse p b).core = s.core := by
  rw [State.evPulse_events s p b]
@[simp] theorem State.evPulse_svc (s : State) (p b : Nat) : (s.evPulse p b).svc = s.svc := by
  rw [State.evPulse_events s p b]
@[simp] theorem State.evPulse_hspi (s : State) (p b : Nat) : (s.evPulse p b).hspi = s.hspi := by
  rw [State.evPulse_events s p b]
@[simp] theorem State.evPulse_htw (s : State) (p b : Nat) : (s.evPulse p b).htw = s.htw := by
  rw [State.evPulse_events s p b]
@[simp] theorem State.evPulse_dbg (s : State) (p b : Nat) : (s.evPulse p b).dbg = s.dbg := by
  rw [State.evPulse_events s p b]
@[simp] theorem State.evPulse_tap (s : State) (p b : Nat) : (s.evPulse p b).tap = s.tap := by
  rw [State.evPulse_events s p b]
@[simp] theorem State.evPulse_link (s : State) (p b : Nat) : (s.evPulse p b).link = s.link := by
  rw [State.evPulse_events s p b]
@[simp] theorem State.evPulse_phy (s : State) (p b : Nat) : (s.evPulse p b).phy = s.phy := by
  rw [State.evPulse_events s p b]
@[simp] theorem State.evPulse_fuse (s : State) (p b : Nat) : (s.evPulse p b).fuse = s.fuse := by
  rw [State.evPulse_events s p b]
@[simp] theorem State.evPulse_sense (s : State) (p b : Nat) : (s.evPulse p b).sense = s.sense := by
  rw [State.evPulse_events s p b]
@[simp] theorem State.evPulse_gle (s : State) (p b : Nat) : (s.evPulse p b).gle = s.gle := by
  rw [State.evPulse_events s p b]
@[simp] theorem State.evPulse_thr (s : State) (p b : Nat) : (s.evPulse p b).thr = s.thr := by
  rw [State.evPulse_events s p b]
@[simp] theorem State.evPulse_win (s : State) (p b : Nat) : (s.evPulse p b).win = s.win := by
  rw [State.evPulse_events s p b]
@[simp] theorem State.evPulse_gran (s : State) (p b : Nat) : (s.evPulse p b).gran = s.gran := by
  rw [State.evPulse_events s p b]
@[simp] theorem State.evPulse_flash (s : State) (p b : Nat) : (s.evPulse p b).flash = s.flash := by
  rw [State.evPulse_events s p b]
@[simp] theorem State.evPulse_fld (s : State) (p b : Nat) : (s.evPulse p b).fld = s.fld := by
  rw [State.evPulse_events s p b]
@[simp] theorem State.evPulse_crib (s : State) (p b : Nat) : (s.evPulse p b).crib = s.crib := by
  rw [State.evPulse_events s p b]
@[simp] theorem State.evPulse_fresh (s : State) (p b : Nat) : (s.evPulse p b).fresh = s.fresh := by
  rw [State.evPulse_events s p b]
@[simp] theorem State.evPulse_pending (s : State) (p b : Nat) : (s.evPulse p b).pending = s.pending := by
  rw [State.evPulse_events s p b]

/-! ### evLevel -/

@[simp] theorem State.evLevel_bank (s : State) (p b : Nat) (v : Bool) : (s.evLevel p b v).bank = s.bank := by
  rw [State.evLevel_events s p b v]
@[simp] theorem State.evLevel_shadow (s : State) (p b : Nat) (v : Bool) : (s.evLevel p b v).shadow = s.shadow := by
  rw [State.evLevel_events s p b v]
@[simp] theorem State.evLevel_lows (s : State) (p b : Nat) (v : Bool) : (s.evLevel p b v).lows = s.lows := by
  rw [State.evLevel_events s p b v]
@[simp] theorem State.evLevel_resp (s : State) (p b : Nat) (v : Bool) : (s.evLevel p b v).resp = s.resp := by
  rw [State.evLevel_events s p b v]
@[simp] theorem State.evLevel_own (s : State) (p b : Nat) (v : Bool) : (s.evLevel p b v).own = s.own := by
  rw [State.evLevel_events s p b v]
@[simp] theorem State.evLevel_ops (s : State) (p b : Nat) (v : Bool) : (s.evLevel p b v).ops = s.ops := by
  rw [State.evLevel_events s p b v]
@[simp] theorem State.evLevel_opt (s : State) (p b : Nat) (v : Bool) : (s.evLevel p b v).opt = s.opt := by
  rw [State.evLevel_events s p b v]
@[simp] theorem State.evLevel_time (s : State) (p b : Nat) (v : Bool) : (s.evLevel p b v).time = s.time := by
  rw [State.evLevel_events s p b v]
@[simp] theorem State.evLevel_pwr (s : State) (p b : Nat) (v : Bool) : (s.evLevel p b v).pwr = s.pwr := by
  rw [State.evLevel_events s p b v]
@[simp] theorem State.evLevel_queues (s : State) (p b : Nat) (v : Bool) : (s.evLevel p b v).queues = s.queues := by
  rw [State.evLevel_events s p b v]
@[simp] theorem State.evLevel_core (s : State) (p b : Nat) (v : Bool) : (s.evLevel p b v).core = s.core := by
  rw [State.evLevel_events s p b v]
@[simp] theorem State.evLevel_svc (s : State) (p b : Nat) (v : Bool) : (s.evLevel p b v).svc = s.svc := by
  rw [State.evLevel_events s p b v]
@[simp] theorem State.evLevel_hspi (s : State) (p b : Nat) (v : Bool) : (s.evLevel p b v).hspi = s.hspi := by
  rw [State.evLevel_events s p b v]
@[simp] theorem State.evLevel_htw (s : State) (p b : Nat) (v : Bool) : (s.evLevel p b v).htw = s.htw := by
  rw [State.evLevel_events s p b v]
@[simp] theorem State.evLevel_dbg (s : State) (p b : Nat) (v : Bool) : (s.evLevel p b v).dbg = s.dbg := by
  rw [State.evLevel_events s p b v]
@[simp] theorem State.evLevel_tap (s : State) (p b : Nat) (v : Bool) : (s.evLevel p b v).tap = s.tap := by
  rw [State.evLevel_events s p b v]
@[simp] theorem State.evLevel_link (s : State) (p b : Nat) (v : Bool) : (s.evLevel p b v).link = s.link := by
  rw [State.evLevel_events s p b v]
@[simp] theorem State.evLevel_phy (s : State) (p b : Nat) (v : Bool) : (s.evLevel p b v).phy = s.phy := by
  rw [State.evLevel_events s p b v]
@[simp] theorem State.evLevel_fuse (s : State) (p b : Nat) (v : Bool) : (s.evLevel p b v).fuse = s.fuse := by
  rw [State.evLevel_events s p b v]
@[simp] theorem State.evLevel_sense (s : State) (p b : Nat) (v : Bool) : (s.evLevel p b v).sense = s.sense := by
  rw [State.evLevel_events s p b v]
@[simp] theorem State.evLevel_gle (s : State) (p b : Nat) (v : Bool) : (s.evLevel p b v).gle = s.gle := by
  rw [State.evLevel_events s p b v]
@[simp] theorem State.evLevel_thr (s : State) (p b : Nat) (v : Bool) : (s.evLevel p b v).thr = s.thr := by
  rw [State.evLevel_events s p b v]
@[simp] theorem State.evLevel_win (s : State) (p b : Nat) (v : Bool) : (s.evLevel p b v).win = s.win := by
  rw [State.evLevel_events s p b v]
@[simp] theorem State.evLevel_gran (s : State) (p b : Nat) (v : Bool) : (s.evLevel p b v).gran = s.gran := by
  rw [State.evLevel_events s p b v]
@[simp] theorem State.evLevel_flash (s : State) (p b : Nat) (v : Bool) : (s.evLevel p b v).flash = s.flash := by
  rw [State.evLevel_events s p b v]
@[simp] theorem State.evLevel_fld (s : State) (p b : Nat) (v : Bool) : (s.evLevel p b v).fld = s.fld := by
  rw [State.evLevel_events s p b v]
@[simp] theorem State.evLevel_crib (s : State) (p b : Nat) (v : Bool) : (s.evLevel p b v).crib = s.crib := by
  rw [State.evLevel_events s p b v]
@[simp] theorem State.evLevel_fresh (s : State) (p b : Nat) (v : Bool) : (s.evLevel p b v).fresh = s.fresh := by
  rw [State.evLevel_events s p b v]
@[simp] theorem State.evLevel_pending (s : State) (p b : Nat) (v : Bool) : (s.evLevel p b v).pending = s.pending := by
  rw [State.evLevel_events s p b v]

/-! ### levelSource -/

@[simp] theorem State.levelSource_bank (s : State) (p b : Nat) (v : Bool) (n : Nat) : (s.levelSource p b v n).bank = s.bank := by
  rw [State.levelSource_events s p b v n]
@[simp] theorem State.levelSource_shadow (s : State) (p b : Nat) (v : Bool) (n : Nat) : (s.levelSource p b v n).shadow = s.shadow := by
  rw [State.levelSource_events s p b v n]
@[simp] theorem State.levelSource_lows (s : State) (p b : Nat) (v : Bool) (n : Nat) : (s.levelSource p b v n).lows = s.lows := by
  rw [State.levelSource_events s p b v n]
@[simp] theorem State.levelSource_resp (s : State) (p b : Nat) (v : Bool) (n : Nat) : (s.levelSource p b v n).resp = s.resp := by
  rw [State.levelSource_events s p b v n]
@[simp] theorem State.levelSource_own (s : State) (p b : Nat) (v : Bool) (n : Nat) : (s.levelSource p b v n).own = s.own := by
  rw [State.levelSource_events s p b v n]
@[simp] theorem State.levelSource_ops (s : State) (p b : Nat) (v : Bool) (n : Nat) : (s.levelSource p b v n).ops = s.ops := by
  rw [State.levelSource_events s p b v n]
@[simp] theorem State.levelSource_opt (s : State) (p b : Nat) (v : Bool) (n : Nat) : (s.levelSource p b v n).opt = s.opt := by
  rw [State.levelSource_events s p b v n]
@[simp] theorem State.levelSource_time (s : State) (p b : Nat) (v : Bool) (n : Nat) : (s.levelSource p b v n).time = s.time := by
  rw [State.levelSource_events s p b v n]
@[simp] theorem State.levelSource_pwr (s : State) (p b : Nat) (v : Bool) (n : Nat) : (s.levelSource p b v n).pwr = s.pwr := by
  rw [State.levelSource_events s p b v n]
@[simp] theorem State.levelSource_queues (s : State) (p b : Nat) (v : Bool) (n : Nat) : (s.levelSource p b v n).queues = s.queues := by
  rw [State.levelSource_events s p b v n]
@[simp] theorem State.levelSource_core (s : State) (p b : Nat) (v : Bool) (n : Nat) : (s.levelSource p b v n).core = s.core := by
  rw [State.levelSource_events s p b v n]
@[simp] theorem State.levelSource_svc (s : State) (p b : Nat) (v : Bool) (n : Nat) : (s.levelSource p b v n).svc = s.svc := by
  rw [State.levelSource_events s p b v n]
@[simp] theorem State.levelSource_hspi (s : State) (p b : Nat) (v : Bool) (n : Nat) : (s.levelSource p b v n).hspi = s.hspi := by
  rw [State.levelSource_events s p b v n]
@[simp] theorem State.levelSource_htw (s : State) (p b : Nat) (v : Bool) (n : Nat) : (s.levelSource p b v n).htw = s.htw := by
  rw [State.levelSource_events s p b v n]
@[simp] theorem State.levelSource_dbg (s : State) (p b : Nat) (v : Bool) (n : Nat) : (s.levelSource p b v n).dbg = s.dbg := by
  rw [State.levelSource_events s p b v n]
@[simp] theorem State.levelSource_tap (s : State) (p b : Nat) (v : Bool) (n : Nat) : (s.levelSource p b v n).tap = s.tap := by
  rw [State.levelSource_events s p b v n]
@[simp] theorem State.levelSource_link (s : State) (p b : Nat) (v : Bool) (n : Nat) : (s.levelSource p b v n).link = s.link := by
  rw [State.levelSource_events s p b v n]
@[simp] theorem State.levelSource_phy (s : State) (p b : Nat) (v : Bool) (n : Nat) : (s.levelSource p b v n).phy = s.phy := by
  rw [State.levelSource_events s p b v n]
@[simp] theorem State.levelSource_fuse (s : State) (p b : Nat) (v : Bool) (n : Nat) : (s.levelSource p b v n).fuse = s.fuse := by
  rw [State.levelSource_events s p b v n]
@[simp] theorem State.levelSource_sense (s : State) (p b : Nat) (v : Bool) (n : Nat) : (s.levelSource p b v n).sense = s.sense := by
  rw [State.levelSource_events s p b v n]
@[simp] theorem State.levelSource_gle (s : State) (p b : Nat) (v : Bool) (n : Nat) : (s.levelSource p b v n).gle = s.gle := by
  rw [State.levelSource_events s p b v n]
@[simp] theorem State.levelSource_thr (s : State) (p b : Nat) (v : Bool) (n : Nat) : (s.levelSource p b v n).thr = s.thr := by
  rw [State.levelSource_events s p b v n]
@[simp] theorem State.levelSource_win (s : State) (p b : Nat) (v : Bool) (n : Nat) : (s.levelSource p b v n).win = s.win := by
  rw [State.levelSource_events s p b v n]
@[simp] theorem State.levelSource_gran (s : State) (p b : Nat) (v : Bool) (n : Nat) : (s.levelSource p b v n).gran = s.gran := by
  rw [State.levelSource_events s p b v n]
@[simp] theorem State.levelSource_flash (s : State) (p b : Nat) (v : Bool) (n : Nat) : (s.levelSource p b v n).flash = s.flash := by
  rw [State.levelSource_events s p b v n]
@[simp] theorem State.levelSource_fld (s : State) (p b : Nat) (v : Bool) (n : Nat) : (s.levelSource p b v n).fld = s.fld := by
  rw [State.levelSource_events s p b v n]
@[simp] theorem State.levelSource_crib (s : State) (p b : Nat) (v : Bool) (n : Nat) : (s.levelSource p b v n).crib = s.crib := by
  rw [State.levelSource_events s p b v n]
@[simp] theorem State.levelSource_fresh (s : State) (p b : Nat) (v : Bool) (n : Nat) : (s.levelSource p b v n).fresh = s.fresh := by
  rw [State.levelSource_events s p b v n]
@[simp] theorem State.levelSource_pending (s : State) (p b : Nat) (v : Bool) (n : Nat) : (s.levelSource p b v n).pending = s.pending := by
  rw [State.levelSource_events s p b v n]

/-! ### fireWake -/

@[simp] theorem State.fireWake_bank (s : State) (n : Nat) : (s.fireWake n).bank = s.bank := by
  rw [State.fireWake_power s n]
@[simp] theorem State.fireWake_shadow (s : State) (n : Nat) : (s.fireWake n).shadow = s.shadow := by
  rw [State.fireWake_power s n]
@[simp] theorem State.fireWake_lows (s : State) (n : Nat) : (s.fireWake n).lows = s.lows := by
  rw [State.fireWake_power s n]
@[simp] theorem State.fireWake_resp (s : State) (n : Nat) : (s.fireWake n).resp = s.resp := by
  rw [State.fireWake_power s n]
@[simp] theorem State.fireWake_own (s : State) (n : Nat) : (s.fireWake n).own = s.own := by
  rw [State.fireWake_power s n]
@[simp] theorem State.fireWake_ops (s : State) (n : Nat) : (s.fireWake n).ops = s.ops := by
  rw [State.fireWake_power s n]
@[simp] theorem State.fireWake_opt (s : State) (n : Nat) : (s.fireWake n).opt = s.opt := by
  rw [State.fireWake_power s n]
@[simp] theorem State.fireWake_time (s : State) (n : Nat) : (s.fireWake n).time = s.time := by
  rw [State.fireWake_power s n]
@[simp] theorem State.fireWake_queues (s : State) (n : Nat) : (s.fireWake n).queues = s.queues := by
  rw [State.fireWake_power s n]
@[simp] theorem State.fireWake_core (s : State) (n : Nat) : (s.fireWake n).core = s.core := by
  rw [State.fireWake_power s n]
@[simp] theorem State.fireWake_svc (s : State) (n : Nat) : (s.fireWake n).svc = s.svc := by
  rw [State.fireWake_power s n]
@[simp] theorem State.fireWake_hspi (s : State) (n : Nat) : (s.fireWake n).hspi = s.hspi := by
  rw [State.fireWake_power s n]
@[simp] theorem State.fireWake_htw (s : State) (n : Nat) : (s.fireWake n).htw = s.htw := by
  rw [State.fireWake_power s n]
@[simp] theorem State.fireWake_dbg (s : State) (n : Nat) : (s.fireWake n).dbg = s.dbg := by
  rw [State.fireWake_power s n]
@[simp] theorem State.fireWake_tap (s : State) (n : Nat) : (s.fireWake n).tap = s.tap := by
  rw [State.fireWake_power s n]
@[simp] theorem State.fireWake_link (s : State) (n : Nat) : (s.fireWake n).link = s.link := by
  rw [State.fireWake_power s n]
@[simp] theorem State.fireWake_phy (s : State) (n : Nat) : (s.fireWake n).phy = s.phy := by
  rw [State.fireWake_power s n]
@[simp] theorem State.fireWake_fuse (s : State) (n : Nat) : (s.fireWake n).fuse = s.fuse := by
  rw [State.fireWake_power s n]
@[simp] theorem State.fireWake_sense (s : State) (n : Nat) : (s.fireWake n).sense = s.sense := by
  rw [State.fireWake_power s n]
@[simp] theorem State.fireWake_gle (s : State) (n : Nat) : (s.fireWake n).gle = s.gle := by
  rw [State.fireWake_power s n]
@[simp] theorem State.fireWake_thr (s : State) (n : Nat) : (s.fireWake n).thr = s.thr := by
  rw [State.fireWake_power s n]
@[simp] theorem State.fireWake_win (s : State) (n : Nat) : (s.fireWake n).win = s.win := by
  rw [State.fireWake_power s n]
@[simp] theorem State.fireWake_gran (s : State) (n : Nat) : (s.fireWake n).gran = s.gran := by
  rw [State.fireWake_power s n]
@[simp] theorem State.fireWake_flash (s : State) (n : Nat) : (s.fireWake n).flash = s.flash := by
  rw [State.fireWake_power s n]
@[simp] theorem State.fireWake_fld (s : State) (n : Nat) : (s.fireWake n).fld = s.fld := by
  rw [State.fireWake_power s n]
@[simp] theorem State.fireWake_crib (s : State) (n : Nat) : (s.fireWake n).crib = s.crib := by
  rw [State.fireWake_power s n]
@[simp] theorem State.fireWake_fresh (s : State) (n : Nat) : (s.fireWake n).fresh = s.fresh := by
  rw [State.fireWake_power s n]
@[simp] theorem State.fireWake_pending (s : State) (n : Nat) : (s.fireWake n).pending = s.pending := by
  rw [State.fireWake_power s n]

/-! ### faultRec -/

@[simp] theorem State.faultRec_bank (s : State) (c p d : Nat) : (s.faultRec c p d).bank = s.bank := by
  unfold State.faultRec
  dsimp only
  rw [State.evPulse_bank]
  repeat' split
  all_goals rfl
@[simp] theorem State.faultRec_shadow (s : State) (c p d : Nat) : (s.faultRec c p d).shadow = s.shadow := by
  unfold State.faultRec
  dsimp only
  rw [State.evPulse_shadow]
  repeat' split
  all_goals rfl
@[simp] theorem State.faultRec_lows (s : State) (c p d : Nat) : (s.faultRec c p d).lows = s.lows := by
  unfold State.faultRec
  dsimp only
  rw [State.evPulse_lows]
  repeat' split
  all_goals rfl
@[simp] theorem State.faultRec_resp (s : State) (c p d : Nat) : (s.faultRec c p d).resp = s.resp := by
  unfold State.faultRec
  dsimp only
  rw [State.evPulse_resp]
  repeat' split
  all_goals rfl
@[simp] theorem State.faultRec_own (s : State) (c p d : Nat) : (s.faultRec c p d).own = s.own := by
  unfold State.faultRec
  dsimp only
  rw [State.evPulse_own]
  repeat' split
  all_goals rfl
@[simp] theorem State.faultRec_ops (s : State) (c p d : Nat) : (s.faultRec c p d).ops = s.ops := by
  unfold State.faultRec
  dsimp only
  rw [State.evPulse_ops]
  repeat' split
  all_goals rfl
@[simp] theorem State.faultRec_opt (s : State) (c p d : Nat) : (s.faultRec c p d).opt = s.opt := by
  unfold State.faultRec
  dsimp only
  rw [State.evPulse_opt]
  repeat' split
  all_goals rfl
@[simp] theorem State.faultRec_time (s : State) (c p d : Nat) : (s.faultRec c p d).time = s.time := by
  unfold State.faultRec
  dsimp only
  rw [State.evPulse_time]
  repeat' split
  all_goals rfl
@[simp] theorem State.faultRec_pwr (s : State) (c p d : Nat) : (s.faultRec c p d).pwr = s.pwr := by
  unfold State.faultRec
  dsimp only
  rw [State.evPulse_pwr]
  repeat' split
  all_goals rfl
@[simp] theorem State.faultRec_queues (s : State) (c p d : Nat) : (s.faultRec c p d).queues = s.queues := by
  unfold State.faultRec
  dsimp only
  rw [State.evPulse_queues]
  repeat' split
  all_goals rfl
@[simp] theorem State.faultRec_core (s : State) (c p d : Nat) : (s.faultRec c p d).core = s.core := by
  unfold State.faultRec
  dsimp only
  rw [State.evPulse_core]
  repeat' split
  all_goals rfl
@[simp] theorem State.faultRec_hspi (s : State) (c p d : Nat) : (s.faultRec c p d).hspi = s.hspi := by
  unfold State.faultRec
  dsimp only
  rw [State.evPulse_hspi]
  repeat' split
  all_goals rfl
@[simp] theorem State.faultRec_htw (s : State) (c p d : Nat) : (s.faultRec c p d).htw = s.htw := by
  unfold State.faultRec
  dsimp only
  rw [State.evPulse_htw]
  repeat' split
  all_goals rfl
@[simp] theorem State.faultRec_dbg (s : State) (c p d : Nat) : (s.faultRec c p d).dbg = s.dbg := by
  unfold State.faultRec
  dsimp only
  rw [State.evPulse_dbg]
  repeat' split
  all_goals rfl
@[simp] theorem State.faultRec_tap (s : State) (c p d : Nat) : (s.faultRec c p d).tap = s.tap := by
  unfold State.faultRec
  dsimp only
  rw [State.evPulse_tap]
  repeat' split
  all_goals rfl
@[simp] theorem State.faultRec_link (s : State) (c p d : Nat) : (s.faultRec c p d).link = s.link := by
  unfold State.faultRec
  dsimp only
  rw [State.evPulse_link]
  repeat' split
  all_goals rfl
@[simp] theorem State.faultRec_phy (s : State) (c p d : Nat) : (s.faultRec c p d).phy = s.phy := by
  unfold State.faultRec
  dsimp only
  rw [State.evPulse_phy]
  repeat' split
  all_goals rfl
@[simp] theorem State.faultRec_fuse (s : State) (c p d : Nat) : (s.faultRec c p d).fuse = s.fuse := by
  unfold State.faultRec
  dsimp only
  rw [State.evPulse_fuse]
  repeat' split
  all_goals rfl
@[simp] theorem State.faultRec_sense (s : State) (c p d : Nat) : (s.faultRec c p d).sense = s.sense := by
  unfold State.faultRec
  dsimp only
  rw [State.evPulse_sense]
  repeat' split
  all_goals rfl
@[simp] theorem State.faultRec_gle (s : State) (c p d : Nat) : (s.faultRec c p d).gle = s.gle := by
  unfold State.faultRec
  dsimp only
  rw [State.evPulse_gle]
  repeat' split
  all_goals rfl
@[simp] theorem State.faultRec_thr (s : State) (c p d : Nat) : (s.faultRec c p d).thr = s.thr := by
  unfold State.faultRec
  dsimp only
  rw [State.evPulse_thr]
  repeat' split
  all_goals rfl
@[simp] theorem State.faultRec_win (s : State) (c p d : Nat) : (s.faultRec c p d).win = s.win := by
  unfold State.faultRec
  dsimp only
  rw [State.evPulse_win]
  repeat' split
  all_goals rfl
@[simp] theorem State.faultRec_gran (s : State) (c p d : Nat) : (s.faultRec c p d).gran = s.gran := by
  unfold State.faultRec
  dsimp only
  rw [State.evPulse_gran]
  repeat' split
  all_goals rfl
@[simp] theorem State.faultRec_flash (s : State) (c p d : Nat) : (s.faultRec c p d).flash = s.flash := by
  unfold State.faultRec
  dsimp only
  rw [State.evPulse_flash]
  repeat' split
  all_goals rfl
@[simp] theorem State.faultRec_fld (s : State) (c p d : Nat) : (s.faultRec c p d).fld = s.fld := by
  unfold State.faultRec
  dsimp only
  rw [State.evPulse_fld]
  repeat' split
  all_goals rfl
@[simp] theorem State.faultRec_crib (s : State) (c p d : Nat) : (s.faultRec c p d).crib = s.crib := by
  unfold State.faultRec
  dsimp only
  rw [State.evPulse_crib]
  repeat' split
  all_goals rfl
@[simp] theorem State.faultRec_fresh (s : State) (c p d : Nat) : (s.faultRec c p d).fresh = s.fresh := by
  unfold State.faultRec
  dsimp only
  rw [State.evPulse_fresh]
  repeat' split
  all_goals rfl
@[simp] theorem State.faultRec_pending (s : State) (c p d : Nat) : (s.faultRec c p d).pending = s.pending := by
  unfold State.faultRec
  dsimp only
  rw [State.evPulse_pending]
  repeat' split
  all_goals rfl

end Sys2Proof.Machine
end

