-- ==== Sys2Proof/Laws/Memory.lean ====
section
/-!
SUPPORT. The memories: what a byte reads after a write, and that every operation that writes SRAM or flash cells
keeps the canonical form.
-/
namespace Sys2Proof.Machine

@[simp] theorem State.sramByte_setSramByte_self (s : State) (a : Nat) (b : Byte) :
    (s.setSramByte a b).sramByte a = b := Tab.get_set_self

theorem State.sramByte_setSramByte_other {s : State} {a a' : Nat} {b : Byte} (h : a' ≠ a) :
    (s.setSramByte a b).sramByte a' = s.sramByte a' := Tab.get_set_other h

theorem State.setSramByte_wf {s : State} {a : Nat} {b : Byte} (w : Tab.wf sramDefault s.gran.sram = true) :
    Tab.wf sramDefault (s.setSramByte a b).gran.sram = true := Tab.wf_set w

theorem State.foldl_setSramByte_wf {β : Type} (key : β → Nat) (val : β → Byte) (l : List β) {s : State}
    (w : Tab.wf sramDefault s.gran.sram = true) :
    Tab.wf sramDefault (l.foldl (fun acc e => acc.setSramByte (key e) (val e)) s).gran.sram = true := by
  induction l generalizing s with
  | nil => exact w
  | cons e l ih => exact ih (State.setSramByte_wf w)

theorem State.setSramBytes_wf {s : State} {a : Nat} {l : List Byte} (w : Tab.wf sramDefault s.gran.sram = true) :
    Tab.wf sramDefault (s.setSramBytes a l).gran.sram = true :=
  State.foldl_setSramByte_wf (fun e : Byte × Nat => a + e.2) (fun e => e.1) l.zipIdx w

theorem State.setSramWord_wf {s : State} {n : Nat} {v : Word} (w : Tab.wf sramDefault s.gran.sram = true) :
    Tab.wf sramDefault (s.setSramWord n v).gran.sram = true := State.setSramBytes_wf w

theorem State.zeroFrame_wf {s : State} {f : Nat} (w : Tab.wf sramDefault s.gran.sram = true) :
    Tab.wf sramDefault (s.zeroFrame f).gran.sram = true := Tab.wf_keep w

theorem State.copyFrame_wf {s : State} {f g : Nat} (w : Tab.wf sramDefault s.gran.sram = true) :
    Tab.wf sramDefault (s.copyFrame f g).gran.sram = true :=
  State.foldl_setSramByte_wf (fun e : Nat × Byte => e.1) (fun e => e.2) _ (State.zeroFrame_wf (f := g) w)

theorem State.winWrite_wf {s : State} {a : Nat} {v : Word} (w : Tab.wf sramDefault s.gran.sram = true) :
    Tab.wf sramDefault (s.winWrite a v).gran.sram = true := by
  unfold State.winWrite
  split
  · exact State.setSramWord_wf w
  · exact w

theorem State.winPutByte_wf {s : State} {a : Nat} {b : Byte} (w : Tab.wf sramDefault s.gran.sram = true) :
    Tab.wf sramDefault (s.winPutByte a b).gran.sram = true := by
  unfold State.winPutByte
  split
  · exact Tab.wf_set w
  · exact w

theorem State.putCw_wf {s : State} {cw : Nat} {l : List Word} (w : Tab.wf flashDefault s.flash.cells = true) :
    Tab.wf flashDefault (s.putCw cw l).flash.cells = true :=
  Tab.wf_foldl_set (fun e : Byte × Nat => s.physCw cw * 32 + e.2) (fun e => e.1) _ w

theorem FlashState.wipe_wf {x : FlashState} {p : Nat} (w : Tab.wf flashDefault x.cells = true) :
    Tab.wf flashDefault (x.wipe p).cells = true := Tab.wf_keep w

theorem FlashState.putPhys_wf {x : FlashState} {p : Nat} {l : List Byte} (w : Tab.wf flashDefault x.cells = true) :
    Tab.wf flashDefault (x.putPhys p l).cells = true :=
  Tab.wf_foldl_set (fun e : Byte × Nat => p * 32 + e.2) (fun e => e.1) _ w

theorem FlashState.copyWords_wf {x : FlashState} {r : RefreshRun} {l : List (Nat × List Byte)}
    (w : Tab.wf flashDefault x.cells = true) : Tab.wf flashDefault (x.copyWords r l).cells = true := by
  unfold FlashState.copyWords
  induction l generalizing x with
  | nil => exact w
  | cons e l ih => exact ih (FlashState.putPhys_wf w)

/-- The memories at reset. -/
theorem Memory.wf_reset : Memory.wf State.reset = true := by decide

end Sys2Proof.Machine
end

