-- ==== Sys2Proof/Laws/Slots.lean ====
section
/-!
SUPPORT. Operation slots: what a slot reads after one was written, what else a slot's change can touch, and what an
operation's run comes to.
-/
namespace Sys2Proof.Machine

theorem State.refreshOps_events (s : State) : SameButEvents s s.refreshOps :=
  SameButEvents.trans (State.evLevel_events s 0x02 0 _) (State.evLevel_events _ 0x02 1 _)

@[simp] theorem State.putSlot_ops (s : State) (tag : Nat) (k : Slot) :
    (s.putSlot tag k).ops = { s.ops with slots := Tab.set (fun _ => {}) s.ops.slots tag k } := by
  unfold State.putSlot
  rw [State.refreshOps_events _]

theorem State.slot_putSlot (s : State) (tag j : Nat) (k : Slot) :
    (s.putSlot tag k).slot j = if j = tag then k else s.slot j := by
  unfold State.slot
  rw [State.putSlot_ops]
  exact Tab.get_set

@[simp] theorem State.slot_putSlot_self (s : State) (tag : Nat) (k : Slot) : (s.putSlot tag k).slot tag = k := by
  rw [State.slot_putSlot, if_pos rfl]

@[simp] theorem State.putSlot_bank (s : State) (tag : Nat) (k : Slot) : (s.putSlot tag k).bank = s.bank := by
  unfold State.putSlot
  rw [State.refreshOps_events _]
@[simp] theorem State.putSlot_shadow (s : State) (tag : Nat) (k : Slot) : (s.putSlot tag k).shadow = s.shadow := by
  unfold State.putSlot
  rw [State.refreshOps_events _]
@[simp] theorem State.putSlot_lows (s : State) (tag : Nat) (k : Slot) : (s.putSlot tag k).lows = s.lows := by
  unfold State.putSlot
  rw [State.refreshOps_events _]
@[simp] theorem State.putSlot_resp (s : State) (tag : Nat) (k : Slot) : (s.putSlot tag k).resp = s.resp := by
  unfold State.putSlot
  rw [State.refreshOps_events _]
@[simp] theorem State.putSlot_own (s : State) (tag : Nat) (k : Slot) : (s.putSlot tag k).own = s.own := by
  unfold State.putSlot
  rw [State.refreshOps_events _]
@[simp] theorem State.putSlot_opt (s : State) (tag : Nat) (k : Slot) : (s.putSlot tag k).opt = s.opt := by
  unfold State.putSlot
  rw [State.refreshOps_events _]
@[simp] theorem State.putSlot_time (s : State) (tag : Nat) (k : Slot) : (s.putSlot tag k).time = s.time := by
  unfold State.putSlot
  rw [State.refreshOps_events _]
@[simp] theorem State.putSlot_pwr (s : State) (tag : Nat) (k : Slot) : (s.putSlot tag k).pwr = s.pwr := by
  unfold State.putSlot
  rw [State.refreshOps_events _]
@[simp] theorem State.putSlot_queues (s : State) (tag : Nat) (k : Slot) : (s.putSlot tag k).queues = s.queues := by
  unfold State.putSlot
  rw [State.refreshOps_events _]
@[simp] theorem State.putSlot_core (s : State) (tag : Nat) (k : Slot) : (s.putSlot tag k).core = s.core := by
  unfold State.putSlot
  rw [State.refreshOps_events _]
@[simp] theorem State.putSlot_svc (s : State) (tag : Nat) (k : Slot) : (s.putSlot tag k).svc = s.svc := by
  unfold State.putSlot
  rw [State.refreshOps_events _]
@[simp] theorem State.putSlot_hspi (s : State) (tag : Nat) (k : Slot) : (s.putSlot tag k).hspi = s.hspi := by
  unfold State.putSlot
  rw [State.refreshOps_events _]
@[simp] theorem State.putSlot_htw (s : State) (tag : Nat) (k : Slot) : (s.putSlot tag k).htw = s.htw := by
  unfold State.putSlot
  rw [State.refreshOps_events _]
@[simp] theorem State.putSlot_dbg (s : State) (tag : Nat) (k : Slot) : (s.putSlot tag k).dbg = s.dbg := by
  unfold State.putSlot
  rw [State.refreshOps_events _]
@[simp] theorem State.putSlot_tap (s : State) (tag : Nat) (k : Slot) : (s.putSlot tag k).tap = s.tap := by
  unfold State.putSlot
  rw [State.refreshOps_events _]
@[simp] theorem State.putSlot_link (s : State) (tag : Nat) (k : Slot) : (s.putSlot tag k).link = s.link := by
  unfold State.putSlot
  rw [State.refreshOps_events _]
@[simp] theorem State.putSlot_phy (s : State) (tag : Nat) (k : Slot) : (s.putSlot tag k).phy = s.phy := by
  unfold State.putSlot
  rw [State.refreshOps_events _]
@[simp] theorem State.putSlot_fuse (s : State) (tag : Nat) (k : Slot) : (s.putSlot tag k).fuse = s.fuse := by
  unfold State.putSlot
  rw [State.refreshOps_events _]
@[simp] theorem State.putSlot_sense (s : State) (tag : Nat) (k : Slot) : (s.putSlot tag k).sense = s.sense := by
  unfold State.putSlot
  rw [State.refreshOps_events _]
@[simp] theorem State.putSlot_gle (s : State) (tag : Nat) (k : Slot) : (s.putSlot tag k).gle = s.gle := by
  unfold State.putSlot
  rw [State.refreshOps_events _]
@[simp] theorem State.putSlot_thr (s : State) (tag : Nat) (k : Slot) : (s.putSlot tag k).thr = s.thr := by
  unfold State.putSlot
  rw [State.refreshOps_events _]
@[simp] theorem State.putSlot_win (s : State) (tag : Nat) (k : Slot) : (s.putSlot tag k).win = s.win := by
  unfold State.putSlot
  rw [State.refreshOps_events _]
@[simp] theorem State.putSlot_gran (s : State) (tag : Nat) (k : Slot) : (s.putSlot tag k).gran = s.gran := by
  unfold State.putSlot
  rw [State.refreshOps_events _]
@[simp] theorem State.putSlot_flash (s : State) (tag : Nat) (k : Slot) : (s.putSlot tag k).flash = s.flash := by
  unfold State.putSlot
  rw [State.refreshOps_events _]
@[simp] theorem State.putSlot_fld (s : State) (tag : Nat) (k : Slot) : (s.putSlot tag k).fld = s.fld := by
  unfold State.putSlot
  rw [State.refreshOps_events _]
@[simp] theorem State.putSlot_crib (s : State) (tag : Nat) (k : Slot) : (s.putSlot tag k).crib = s.crib := by
  unfold State.putSlot
  rw [State.refreshOps_events _]
@[simp] theorem State.putSlot_fresh (s : State) (tag : Nat) (k : Slot) : (s.putSlot tag k).fresh = s.fresh := by
  unfold State.putSlot
  rw [State.refreshOps_events _]
@[simp] theorem State.putSlot_pending (s : State) (tag : Nat) (k : Slot) : (s.putSlot tag k).pending = s.pending := by
  unfold State.putSlot
  rw [State.refreshOps_events _]

@[simp] theorem State.setResult_bank (s : State) (tag : Nat) (c : Code) : (s.setResult tag c).bank = s.bank :=
  State.putSlot_bank s tag _
@[simp] theorem State.setResult_shadow (s : State) (tag : Nat) (c : Code) : (s.setResult tag c).shadow = s.shadow :=
  State.putSlot_shadow s tag _
@[simp] theorem State.setResult_lows (s : State) (tag : Nat) (c : Code) : (s.setResult tag c).lows = s.lows :=
  State.putSlot_lows s tag _
@[simp] theorem State.setResult_resp (s : State) (tag : Nat) (c : Code) : (s.setResult tag c).resp = s.resp :=
  State.putSlot_resp s tag _
@[simp] theorem State.setResult_own (s : State) (tag : Nat) (c : Code) : (s.setResult tag c).own = s.own :=
  State.putSlot_own s tag _
@[simp] theorem State.setResult_opt (s : State) (tag : Nat) (c : Code) : (s.setResult tag c).opt = s.opt :=
  State.putSlot_opt s tag _
@[simp] theorem State.setResult_time (s : State) (tag : Nat) (c : Code) : (s.setResult tag c).time = s.time :=
  State.putSlot_time s tag _
@[simp] theorem State.setResult_pwr (s : State) (tag : Nat) (c : Code) : (s.setResult tag c).pwr = s.pwr :=
  State.putSlot_pwr s tag _
@[simp] theorem State.setResult_queues (s : State) (tag : Nat) (c : Code) : (s.setResult tag c).queues = s.queues :=
  State.putSlot_queues s tag _
@[simp] theorem State.setResult_core (s : State) (tag : Nat) (c : Code) : (s.setResult tag c).core = s.core :=
  State.putSlot_core s tag _
@[simp] theorem State.setResult_svc (s : State) (tag : Nat) (c : Code) : (s.setResult tag c).svc = s.svc :=
  State.putSlot_svc s tag _
@[simp] theorem State.setResult_hspi (s : State) (tag : Nat) (c : Code) : (s.setResult tag c).hspi = s.hspi :=
  State.putSlot_hspi s tag _
@[simp] theorem State.setResult_htw (s : State) (tag : Nat) (c : Code) : (s.setResult tag c).htw = s.htw :=
  State.putSlot_htw s tag _
@[simp] theorem State.setResult_dbg (s : State) (tag : Nat) (c : Code) : (s.setResult tag c).dbg = s.dbg :=
  State.putSlot_dbg s tag _
@[simp] theorem State.setResult_tap (s : State) (tag : Nat) (c : Code) : (s.setResult tag c).tap = s.tap :=
  State.putSlot_tap s tag _
@[simp] theorem State.setResult_link (s : State) (tag : Nat) (c : Code) : (s.setResult tag c).link = s.link :=
  State.putSlot_link s tag _
@[simp] theorem State.setResult_phy (s : State) (tag : Nat) (c : Code) : (s.setResult tag c).phy = s.phy :=
  State.putSlot_phy s tag _
@[simp] theorem State.setResult_fuse (s : State) (tag : Nat) (c : Code) : (s.setResult tag c).fuse = s.fuse :=
  State.putSlot_fuse s tag _
@[simp] theorem State.setResult_sense (s : State) (tag : Nat) (c : Code) : (s.setResult tag c).sense = s.sense :=
  State.putSlot_sense s tag _
@[simp] theorem State.setResult_gle (s : State) (tag : Nat) (c : Code) : (s.setResult tag c).gle = s.gle :=
  State.putSlot_gle s tag _
@[simp] theorem State.setResult_thr (s : State) (tag : Nat) (c : Code) : (s.setResult tag c).thr = s.thr :=
  State.putSlot_thr s tag _
@[simp] theorem State.setResult_win (s : State) (tag : Nat) (c : Code) : (s.setResult tag c).win = s.win :=
  State.putSlot_win s tag _
@[simp] theorem State.setResult_gran (s : State) (tag : Nat) (c : Code) : (s.setResult tag c).gran = s.gran :=
  State.putSlot_gran s tag _
@[simp] theorem State.setResult_flash (s : State) (tag : Nat) (c : Code) : (s.setResult tag c).flash = s.flash :=
  State.putSlot_flash s tag _
@[simp] theorem State.setResult_fld (s : State) (tag : Nat) (c : Code) : (s.setResult tag c).fld = s.fld :=
  State.putSlot_fld s tag _
@[simp] theorem State.setResult_crib (s : State) (tag : Nat) (c : Code) : (s.setResult tag c).crib = s.crib :=
  State.putSlot_crib s tag _
@[simp] theorem State.setResult_fresh (s : State) (tag : Nat) (c : Code) : (s.setResult tag c).fresh = s.fresh :=
  State.putSlot_fresh s tag _
@[simp] theorem State.setResult_pending (s : State) (tag : Nat) (c : Code) : (s.setResult tag c).pending = s.pending :=
  State.putSlot_pending s tag _

theorem State.slot_setResult (s : State) (tag j : Nat) (c : Code) :
    (s.setResult tag c).slot j = if j = tag then { s.slot tag with result := some c, ended := s.now } else s.slot j :=
  State.slot_putSlot s tag j _

@[simp] theorem State.slot_setResult_self (s : State) (tag : Nat) (c : Code) :
    (s.setResult tag c).slot tag = { s.slot tag with result := some c, ended := s.now } := State.slot_putSlot_self s tag _

/-- An operation that runs with arguments its page accepts on a READY block comes to its own effect. -/
theorem State.runOp_effect {s s1 : State} {tag page op : Nat} {ok : Slot → Bool}
    {eff : Slot → State → State × Option Code} {c : Code} (r : s.running tag page op = true)
    (a : ok (s.slot tag) = true) (b : s.ready page = true) (e : eff (s.slot tag) s = (s1, some c)) :
    s.runOp tag page op ok eff = s1.setResult tag c := by
  simp [State.runOp, r, a, b, e]

/-- An operation whose effect goes on answers no code yet. -/
theorem State.runOp_goes_on {s s1 : State} {tag page op : Nat} {ok : Slot → Bool}
    {eff : Slot → State → State × Option Code} (r : s.running tag page op = true)
    (a : ok (s.slot tag) = true) (b : s.ready page = true) (e : eff (s.slot tag) s = (s1, none)) :
    s.runOp tag page op ok eff = s1 := by
  simp [State.runOp, r, a, b, e]

/-- An operation whose arguments its page refuses ends with ARG and no effect. -/
theorem State.runOp_arg {s : State} {tag page op : Nat} {ok : Slot → Bool}
    {eff : Slot → State → State × Option Code} (r : s.running tag page op = true)
    (a : ok (s.slot tag) = false) : s.runOp tag page op ok eff = s.setResult tag .arg := by
  simp [State.runOp, r, a]

/-- A slot that does not run the operation is left alone. -/
theorem State.runOp_idle {s : State} {tag page op : Nat} {ok : Slot → Bool}
    {eff : Slot → State → State × Option Code} (r : s.running tag page op = false) :
    s.runOp tag page op ok eff = s := by
  simp [State.runOp, r]

@[simp] theorem State.endSlot_bank (s : State) (tag : Nat) (c : Code) : (s.endSlot tag c).bank = s.bank := by
  unfold State.endSlot State.endSlotAt
  dsimp only
  repeat' split
  all_goals exact State.putSlot_bank s tag _
@[simp] theorem State.endSlot_shadow (s : State) (tag : Nat) (c : Code) : (s.endSlot tag c).shadow = s.shadow := by
  unfold State.endSlot State.endSlotAt
  dsimp only
  repeat' split
  all_goals exact State.putSlot_shadow s tag _
@[simp] theorem State.endSlot_lows (s : State) (tag : Nat) (c : Code) : (s.endSlot tag c).lows = s.lows := by
  unfold State.endSlot State.endSlotAt
  dsimp only
  repeat' split
  all_goals exact State.putSlot_lows s tag _
@[simp] theorem State.endSlot_resp (s : State) (tag : Nat) (c : Code) : (s.endSlot tag c).resp = s.resp := by
  unfold State.endSlot State.endSlotAt
  dsimp only
  repeat' split
  all_goals exact State.putSlot_resp s tag _
@[simp] theorem State.endSlot_own (s : State) (tag : Nat) (c : Code) : (s.endSlot tag c).own = s.own := by
  unfold State.endSlot State.endSlotAt
  dsimp only
  repeat' split
  all_goals exact State.putSlot_own s tag _
@[simp] theorem State.endSlot_opt (s : State) (tag : Nat) (c : Code) : (s.endSlot tag c).opt = s.opt := by
  unfold State.endSlot State.endSlotAt
  dsimp only
  repeat' split
  all_goals exact State.putSlot_opt s tag _
@[simp] theorem State.endSlot_time (s : State) (tag : Nat) (c : Code) : (s.endSlot tag c).time = s.time := by
  unfold State.endSlot State.endSlotAt
  dsimp only
  repeat' split
  all_goals exact State.putSlot_time s tag _
@[simp] theorem State.endSlot_pwr (s : State) (tag : Nat) (c : Code) : (s.endSlot tag c).pwr = s.pwr := by
  unfold State.endSlot State.endSlotAt
  dsimp only
  repeat' split
  all_goals exact State.putSlot_pwr s tag _
@[simp] theorem State.endSlot_queues (s : State) (tag : Nat) (c : Code) : (s.endSlot tag c).queues = s.queues := by
  unfold State.endSlot State.endSlotAt
  dsimp only
  repeat' split
  all_goals exact State.putSlot_queues s tag _
@[simp] theorem State.endSlot_core (s : State) (tag : Nat) (c : Code) : (s.endSlot tag c).core = s.core := by
  unfold State.endSlot State.endSlotAt
  dsimp only
  repeat' split
  all_goals exact State.putSlot_core s tag _
@[simp] theorem State.endSlot_svc (s : State) (tag : Nat) (c : Code) : (s.endSlot tag c).svc = s.svc := by
  unfold State.endSlot State.endSlotAt
  dsimp only
  repeat' split
  all_goals exact State.putSlot_svc s tag _
@[simp] theorem State.endSlot_hspi (s : State) (tag : Nat) (c : Code) : (s.endSlot tag c).hspi = s.hspi := by
  unfold State.endSlot State.endSlotAt
  dsimp only
  repeat' split
  all_goals exact State.putSlot_hspi s tag _
@[simp] theorem State.endSlot_htw (s : State) (tag : Nat) (c : Code) : (s.endSlot tag c).htw = s.htw := by
  unfold State.endSlot State.endSlotAt
  dsimp only
  repeat' split
  all_goals exact State.putSlot_htw s tag _
@[simp] theorem State.endSlot_dbg (s : State) (tag : Nat) (c : Code) : (s.endSlot tag c).dbg = s.dbg := by
  unfold State.endSlot State.endSlotAt
  dsimp only
  repeat' split
  all_goals exact State.putSlot_dbg s tag _
@[simp] theorem State.endSlot_tap (s : State) (tag : Nat) (c : Code) : (s.endSlot tag c).tap = s.tap := by
  unfold State.endSlot State.endSlotAt
  dsimp only
  repeat' split
  all_goals exact State.putSlot_tap s tag _
@[simp] theorem State.endSlot_link (s : State) (tag : Nat) (c : Code) : (s.endSlot tag c).link = s.link := by
  unfold State.endSlot State.endSlotAt
  dsimp only
  repeat' split
  all_goals exact State.putSlot_link s tag _
@[simp] theorem State.endSlot_phy (s : State) (tag : Nat) (c : Code) : (s.endSlot tag c).phy = s.phy := by
  unfold State.endSlot State.endSlotAt
  dsimp only
  repeat' split
  all_goals exact State.putSlot_phy s tag _
@[simp] theorem State.endSlot_fuse (s : State) (tag : Nat) (c : Code) : (s.endSlot tag c).fuse = s.fuse := by
  unfold State.endSlot State.endSlotAt
  dsimp only
  repeat' split
  all_goals exact State.putSlot_fuse s tag _
@[simp] theorem State.endSlot_sense (s : State) (tag : Nat) (c : Code) : (s.endSlot tag c).sense = s.sense := by
  unfold State.endSlot State.endSlotAt
  dsimp only
  repeat' split
  all_goals exact State.putSlot_sense s tag _
@[simp] theorem State.endSlot_thr (s : State) (tag : Nat) (c : Code) : (s.endSlot tag c).thr = s.thr := by
  unfold State.endSlot State.endSlotAt
  dsimp only
  repeat' split
  all_goals exact State.putSlot_thr s tag _
@[simp] theorem State.endSlot_win (s : State) (tag : Nat) (c : Code) : (s.endSlot tag c).win = s.win := by
  unfold State.endSlot State.endSlotAt
  dsimp only
  repeat' split
  all_goals exact State.putSlot_win s tag _
@[simp] theorem State.endSlot_gran (s : State) (tag : Nat) (c : Code) : (s.endSlot tag c).gran = s.gran := by
  unfold State.endSlot State.endSlotAt
  dsimp only
  repeat' split
  all_goals exact State.putSlot_gran s tag _
@[simp] theorem State.endSlot_flash (s : State) (tag : Nat) (c : Code) : (s.endSlot tag c).flash = s.flash := by
  unfold State.endSlot State.endSlotAt
  dsimp only
  repeat' split
  all_goals exact State.putSlot_flash s tag _
@[simp] theorem State.endSlot_fld (s : State) (tag : Nat) (c : Code) : (s.endSlot tag c).fld = s.fld := by
  unfold State.endSlot State.endSlotAt
  dsimp only
  repeat' split
  all_goals exact State.putSlot_fld s tag _
@[simp] theorem State.endSlot_fresh (s : State) (tag : Nat) (c : Code) : (s.endSlot tag c).fresh = s.fresh := by
  unfold State.endSlot State.endSlotAt
  dsimp only
  repeat' split
  all_goals exact State.putSlot_fresh s tag _
@[simp] theorem State.endSlot_pending (s : State) (tag : Nat) (c : Code) : (s.endSlot tag c).pending = s.pending := by
  unfold State.endSlot State.endSlotAt
  dsimp only
  repeat' split
  all_goals exact State.putSlot_pending s tag _

theorem State.slot_endSlot (s : State) (tag j : Nat) (c : Code) :
    (s.endSlot tag c).slot j =
      if j = tag then { s.slot tag with st := .held, code := c, stamp := s.now, result := none } else s.slot j := by
  have h : (s.endSlot tag c).ops = (s.putSlot tag
      { s.slot tag with st := .held, code := c, stamp := s.now, result := none }).ops := by
    unfold State.endSlot State.endSlotAt
    dsimp only
    repeat' split
    all_goals rfl
  unfold State.slot
  rw [h]
  exact State.slot_putSlot s tag j _

end Sys2Proof.Machine
end

