-- ==== Sys2Proof/Laws/Own.lean ====
section
/-!
SUPPORT. What closing packets, ending slots and changing the owner can touch.
-/
namespace Sys2Proof.Machine

theorem State.refreshQueue_events (s : State) (n : Nat) : SameButEvents s (s.refreshQueue n) :=
  SameButEvents.trans (State.evLevel_events s (0x50 + n) 0 _) (State.evLevel_events _ (0x50 + n) 1 _)

@[simp] theorem State.refreshQueue_bank (s : State) (n : Nat) : (s.refreshQueue n).bank = s.bank := by
  rw [State.refreshQueue_events s n]
@[simp] theorem State.refreshQueue_shadow (s : State) (n : Nat) : (s.refreshQueue n).shadow = s.shadow := by
  rw [State.refreshQueue_events s n]
@[simp] theorem State.refreshQueue_lows (s : State) (n : Nat) : (s.refreshQueue n).lows = s.lows := by
  rw [State.refreshQueue_events s n]
@[simp] theorem State.refreshQueue_resp (s : State) (n : Nat) : (s.refreshQueue n).resp = s.resp := by
  rw [State.refreshQueue_events s n]
@[simp] theorem State.refreshQueue_own (s : State) (n : Nat) : (s.refreshQueue n).own = s.own := by
  rw [State.refreshQueue_events s n]
@[simp] theorem State.refreshQueue_ops (s : State) (n : Nat) : (s.refreshQueue n).ops = s.ops := by
  rw [State.refreshQueue_events s n]
@[simp] theorem State.refreshQueue_opt (s : State) (n : Nat) : (s.refreshQueue n).opt = s.opt := by
  rw [State.refreshQueue_events s n]
@[simp] theorem State.refreshQueue_time (s : State) (n : Nat) : (s.refreshQueue n).time = s.time := by
  rw [State.refreshQueue_events s n]
@[simp] theorem State.refreshQueue_pwr (s : State) (n : Nat) : (s.refreshQueue n).pwr = s.pwr := by
  rw [State.refreshQueue_events s n]
@[simp] theorem State.refreshQueue_queues (s : State) (n : Nat) : (s.refreshQueue n).queues = s.queues := by
  rw [State.refreshQueue_events s n]
@[simp] theorem State.refreshQueue_core (s : State) (n : Nat) : (s.refreshQueue n).core = s.core := by
  rw [State.refreshQueue_events s n]
@[simp] theorem State.refreshQueue_svc (s : State) (n : Nat) : (s.refreshQueue n).svc = s.svc := by
  rw [State.refreshQueue_events s n]
@[simp] theorem State.refreshQueue_hspi (s : State) (n : Nat) : (s.refreshQueue n).hspi = s.hspi := by
  rw [State.refreshQueue_events s n]
@[simp] theorem State.refreshQueue_htw (s : State) (n : Nat) : (s.refreshQueue n).htw = s.htw := by
  rw [State.refreshQueue_events s n]
@[simp] theorem State.refreshQueue_dbg (s : State) (n : Nat) : (s.refreshQueue n).dbg = s.dbg := by
  rw [State.refreshQueue_events s n]
@[simp] theorem State.refreshQueue_tap (s : State) (n : Nat) : (s.refreshQueue n).tap = s.tap := by
  rw [State.refreshQueue_events s n]
@[simp] theorem State.refreshQueue_link (s : State) (n : Nat) : (s.refreshQueue n).link = s.link := by
  rw [State.refreshQueue_events s n]
@[simp] theorem State.refreshQueue_phy (s : State) (n : Nat) : (s.refreshQueue n).phy = s.phy := by
  rw [State.refreshQueue_events s n]
@[simp] theorem State.refreshQueue_fuse (s : State) (n : Nat) : (s.refreshQueue n).fuse = s.fuse := by
  rw [State.refreshQueue_events s n]
@[simp] theorem State.refreshQueue_sense (s : State) (n : Nat) : (s.refreshQueue n).sense = s.sense := by
  rw [State.refreshQueue_events s n]
@[simp] theorem State.refreshQueue_gle (s : State) (n : Nat) : (s.refreshQueue n).gle = s.gle := by
  rw [State.refreshQueue_events s n]
@[simp] theorem State.refreshQueue_thr (s : State) (n : Nat) : (s.refreshQueue n).thr = s.thr := by
  rw [State.refreshQueue_events s n]
@[simp] theorem State.refreshQueue_win (s : State) (n : Nat) : (s.refreshQueue n).win = s.win := by
  rw [State.refreshQueue_events s n]
@[simp] theorem State.refreshQueue_gran (s : State) (n : Nat) : (s.refreshQueue n).gran = s.gran := by
  rw [State.refreshQueue_events s n]
@[simp] theorem State.refreshQueue_flash (s : State) (n : Nat) : (s.refreshQueue n).flash = s.flash := by
  rw [State.refreshQueue_events s n]
@[simp] theorem State.refreshQueue_fld (s : State) (n : Nat) : (s.refreshQueue n).fld = s.fld := by
  rw [State.refreshQueue_events s n]
@[simp] theorem State.refreshQueue_crib (s : State) (n : Nat) : (s.refreshQueue n).crib = s.crib := by
  rw [State.refreshQueue_events s n]
@[simp] theorem State.refreshQueue_fresh (s : State) (n : Nat) : (s.refreshQueue n).fresh = s.fresh := by
  rw [State.refreshQueue_events s n]
@[simp] theorem State.refreshQueue_pending (s : State) (n : Nat) : (s.refreshQueue n).pending = s.pending := by
  rw [State.refreshQueue_events s n]

@[simp] theorem State.qCount_bank (s : State) (n hi lo : Nat) : (s.qCount n hi lo).bank = s.bank := rfl
@[simp] theorem State.qCount_shadow (s : State) (n hi lo : Nat) : (s.qCount n hi lo).shadow = s.shadow := rfl
@[simp] theorem State.qCount_lows (s : State) (n hi lo : Nat) : (s.qCount n hi lo).lows = s.lows := rfl
@[simp] theorem State.qCount_resp (s : State) (n hi lo : Nat) : (s.qCount n hi lo).resp = s.resp := rfl
@[simp] theorem State.qCount_own (s : State) (n hi lo : Nat) : (s.qCount n hi lo).own = s.own := rfl
@[simp] theorem State.qCount_ops (s : State) (n hi lo : Nat) : (s.qCount n hi lo).ops = s.ops := rfl
@[simp] theorem State.qCount_opt (s : State) (n hi lo : Nat) : (s.qCount n hi lo).opt = s.opt := rfl
@[simp] theorem State.qCount_time (s : State) (n hi lo : Nat) : (s.qCount n hi lo).time = s.time := rfl
@[simp] theorem State.qCount_pwr (s : State) (n hi lo : Nat) : (s.qCount n hi lo).pwr = s.pwr := rfl
@[simp] theorem State.qCount_queues (s : State) (n hi lo : Nat) : (s.qCount n hi lo).queues = s.queues := rfl
@[simp] theorem State.qCount_core (s : State) (n hi lo : Nat) : (s.qCount n hi lo).core = s.core := rfl
@[simp] theorem State.qCount_svc (s : State) (n hi lo : Nat) : (s.qCount n hi lo).svc = s.svc := rfl
@[simp] theorem State.qCount_hspi (s : State) (n hi lo : Nat) : (s.qCount n hi lo).hspi = s.hspi := rfl
@[simp] theorem State.qCount_htw (s : State) (n hi lo : Nat) : (s.qCount n hi lo).htw = s.htw := rfl
@[simp] theorem State.qCount_dbg (s : State) (n hi lo : Nat) : (s.qCount n hi lo).dbg = s.dbg := rfl
@[simp] theorem State.qCount_tap (s : State) (n hi lo : Nat) : (s.qCount n hi lo).tap = s.tap := rfl
@[simp] theorem State.qCount_link (s : State) (n hi lo : Nat) : (s.qCount n hi lo).link = s.link := rfl
@[simp] theorem State.qCount_phy (s : State) (n hi lo : Nat) : (s.qCount n hi lo).phy = s.phy := rfl
@[simp] theorem State.qCount_fuse (s : State) (n hi lo : Nat) : (s.qCount n hi lo).fuse = s.fuse := rfl
@[simp] theorem State.qCount_sense (s : State) (n hi lo : Nat) : (s.qCount n hi lo).sense = s.sense := rfl
@[simp] theorem State.qCount_gle (s : State) (n hi lo : Nat) : (s.qCount n hi lo).gle = s.gle := rfl
@[simp] theorem State.qCount_thr (s : State) (n hi lo : Nat) : (s.qCount n hi lo).thr = s.thr := rfl
@[simp] theorem State.qCount_win (s : State) (n hi lo : Nat) : (s.qCount n hi lo).win = s.win := rfl
@[simp] theorem State.qCount_gran (s : State) (n hi lo : Nat) : (s.qCount n hi lo).gran = s.gran := rfl
@[simp] theorem State.qCount_flash (s : State) (n hi lo : Nat) : (s.qCount n hi lo).flash = s.flash := rfl
@[simp] theorem State.qCount_fld (s : State) (n hi lo : Nat) : (s.qCount n hi lo).fld = s.fld := rfl
@[simp] theorem State.qCount_crib (s : State) (n hi lo : Nat) : (s.qCount n hi lo).crib = s.crib := rfl
@[simp] theorem State.qCount_fresh (s : State) (n hi lo : Nat) : (s.qCount n hi lo).fresh = s.fresh := rfl
@[simp] theorem State.qCount_pending (s : State) (n hi lo : Nat) : (s.qCount n hi lo).pending = s.pending := rfl

theorem State.rewindOf_bank (s : State) (p : Nat → Bool) : (s.rewindOf p).bank = s.bank := by
  unfold State.rewindOf
  generalize List.range 32 = l
  induction l generalizing s with
  | nil => rfl
  | cons n l ih =>
    rw [List.foldl_cons, ih]
    split
    · split
      · unfold State.rewindQueue
        split
        · rfl
        · simp [State.putQueue]
      · rfl
    · rfl
theorem State.rewindOf_shadow (s : State) (p : Nat → Bool) : (s.rewindOf p).shadow = s.shadow := by
  unfold State.rewindOf
  generalize List.range 32 = l
  induction l generalizing s with
  | nil => rfl
  | cons n l ih =>
    rw [List.foldl_cons, ih]
    split
    · split
      · unfold State.rewindQueue
        split
        · rfl
        · simp [State.putQueue]
      · rfl
    · rfl
theorem State.rewindOf_lows (s : State) (p : Nat → Bool) : (s.rewindOf p).lows = s.lows := by
  unfold State.rewindOf
  generalize List.range 32 = l
  induction l generalizing s with
  | nil => rfl
  | cons n l ih =>
    rw [List.foldl_cons, ih]
    split
    · split
      · unfold State.rewindQueue
        split
        · rfl
        · simp [State.putQueue]
      · rfl
    · rfl
theorem State.rewindOf_resp (s : State) (p : Nat → Bool) : (s.rewindOf p).resp = s.resp := by
  unfold State.rewindOf
  generalize List.range 32 = l
  induction l generalizing s with
  | nil => rfl
  | cons n l ih =>
    rw [List.foldl_cons, ih]
    split
    · split
      · unfold State.rewindQueue
        split
        · rfl
        · simp [State.putQueue]
      · rfl
    · rfl
theorem State.rewindOf_own (s : State) (p : Nat → Bool) : (s.rewindOf p).own = s.own := by
  unfold State.rewindOf
  generalize List.range 32 = l
  induction l generalizing s with
  | nil => rfl
  | cons n l ih =>
    rw [List.foldl_cons, ih]
    split
    · split
      · unfold State.rewindQueue
        split
        · rfl
        · simp [State.putQueue]
      · rfl
    · rfl
theorem State.rewindOf_ops (s : State) (p : Nat → Bool) : (s.rewindOf p).ops = s.ops := by
  unfold State.rewindOf
  generalize List.range 32 = l
  induction l generalizing s with
  | nil => rfl
  | cons n l ih =>
    rw [List.foldl_cons, ih]
    split
    · split
      · unfold State.rewindQueue
        split
        · rfl
        · simp [State.putQueue]
      · rfl
    · rfl
theorem State.rewindOf_opt (s : State) (p : Nat → Bool) : (s.rewindOf p).opt = s.opt := by
  unfold State.rewindOf
  generalize List.range 32 = l
  induction l generalizing s with
  | nil => rfl
  | cons n l ih =>
    rw [List.foldl_cons, ih]
    split
    · split
      · unfold State.rewindQueue
        split
        · rfl
        · simp [State.putQueue]
      · rfl
    · rfl
theorem State.rewindOf_time (s : State) (p : Nat → Bool) : (s.rewindOf p).time = s.time := by
  unfold State.rewindOf
  generalize List.range 32 = l
  induction l generalizing s with
  | nil => rfl
  | cons n l ih =>
    rw [List.foldl_cons, ih]
    split
    · split
      · unfold State.rewindQueue
        split
        · rfl
        · simp [State.putQueue]
      · rfl
    · rfl
theorem State.rewindOf_pwr (s : State) (p : Nat → Bool) : (s.rewindOf p).pwr = s.pwr := by
  unfold State.rewindOf
  generalize List.range 32 = l
  induction l generalizing s with
  | nil => rfl
  | cons n l ih =>
    rw [List.foldl_cons, ih]
    split
    · split
      · unfold State.rewindQueue
        split
        · rfl
        · simp [State.putQueue]
      · rfl
    · rfl
theorem State.rewindOf_core (s : State) (p : Nat → Bool) : (s.rewindOf p).core = s.core := by
  unfold State.rewindOf
  generalize List.range 32 = l
  induction l generalizing s with
  | nil => rfl
  | cons n l ih =>
    rw [List.foldl_cons, ih]
    split
    · split
      · unfold State.rewindQueue
        split
        · rfl
        · simp [State.putQueue]
      · rfl
    · rfl
theorem State.rewindOf_svc (s : State) (p : Nat → Bool) : (s.rewindOf p).svc = s.svc := by
  unfold State.rewindOf
  generalize List.range 32 = l
  induction l generalizing s with
  | nil => rfl
  | cons n l ih =>
    rw [List.foldl_cons, ih]
    split
    · split
      · unfold State.rewindQueue
        split
        · rfl
        · simp [State.putQueue]
      · rfl
    · rfl
theorem State.rewindOf_hspi (s : State) (p : Nat → Bool) : (s.rewindOf p).hspi = s.hspi := by
  unfold State.rewindOf
  generalize List.range 32 = l
  induction l generalizing s with
  | nil => rfl
  | cons n l ih =>
    rw [List.foldl_cons, ih]
    split
    · split
      · unfold State.rewindQueue
        split
        · rfl
        · simp [State.putQueue]
      · rfl
    · rfl
theorem State.rewindOf_htw (s : State) (p : Nat → Bool) : (s.rewindOf p).htw = s.htw := by
  unfold State.rewindOf
  generalize List.range 32 = l
  induction l generalizing s with
  | nil => rfl
  | cons n l ih =>
    rw [List.foldl_cons, ih]
    split
    · split
      · unfold State.rewindQueue
        split
        · rfl
        · simp [State.putQueue]
      · rfl
    · rfl
theorem State.rewindOf_dbg (s : State) (p : Nat → Bool) : (s.rewindOf p).dbg = s.dbg := by
  unfold State.rewindOf
  generalize List.range 32 = l
  induction l generalizing s with
  | nil => rfl
  | cons n l ih =>
    rw [List.foldl_cons, ih]
    split
    · split
      · unfold State.rewindQueue
        split
        · rfl
        · simp [State.putQueue]
      · rfl
    · rfl
theorem State.rewindOf_tap (s : State) (p : Nat → Bool) : (s.rewindOf p).tap = s.tap := by
  unfold State.rewindOf
  generalize List.range 32 = l
  induction l generalizing s with
  | nil => rfl
  | cons n l ih =>
    rw [List.foldl_cons, ih]
    split
    · split
      · unfold State.rewindQueue
        split
        · rfl
        · simp [State.putQueue]
      · rfl
    · rfl
theorem State.rewindOf_link (s : State) (p : Nat → Bool) : (s.rewindOf p).link = s.link := by
  unfold State.rewindOf
  generalize List.range 32 = l
  induction l generalizing s with
  | nil => rfl
  | cons n l ih =>
    rw [List.foldl_cons, ih]
    split
    · split
      · unfold State.rewindQueue
        split
        · rfl
        · simp [State.putQueue]
      · rfl
    · rfl
theorem State.rewindOf_phy (s : State) (p : Nat → Bool) : (s.rewindOf p).phy = s.phy := by
  unfold State.rewindOf
  generalize List.range 32 = l
  induction l generalizing s with
  | nil => rfl
  | cons n l ih =>
    rw [List.foldl_cons, ih]
    split
    · split
      · unfold State.rewindQueue
        split
        · rfl
        · simp [State.putQueue]
      · rfl
    · rfl
theorem State.rewindOf_fuse (s : State) (p : Nat → Bool) : (s.rewindOf p).fuse = s.fuse := by
  unfold State.rewindOf
  generalize List.range 32 = l
  induction l generalizing s with
  | nil => rfl
  | cons n l ih =>
    rw [List.foldl_cons, ih]
    split
    · split
      · unfold State.rewindQueue
        split
        · rfl
        · simp [State.putQueue]
      · rfl
    · rfl
theorem State.rewindOf_sense (s : State) (p : Nat → Bool) : (s.rewindOf p).sense = s.sense := by
  unfold State.rewindOf
  generalize List.range 32 = l
  induction l generalizing s with
  | nil => rfl
  | cons n l ih =>
    rw [List.foldl_cons, ih]
    split
    · split
      · unfold State.rewindQueue
        split
        · rfl
        · simp [State.putQueue]
      · rfl
    · rfl
theorem State.rewindOf_gle (s : State) (p : Nat → Bool) : (s.rewindOf p).gle = s.gle := by
  unfold State.rewindOf
  generalize List.range 32 = l
  induction l generalizing s with
  | nil => rfl
  | cons n l ih =>
    rw [List.foldl_cons, ih]
    split
    · split
      · unfold State.rewindQueue
        split
        · rfl
        · simp [State.putQueue]
      · rfl
    · rfl
theorem State.rewindOf_thr (s : State) (p : Nat → Bool) : (s.rewindOf p).thr = s.thr := by
  unfold State.rewindOf
  generalize List.range 32 = l
  induction l generalizing s with
  | nil => rfl
  | cons n l ih =>
    rw [List.foldl_cons, ih]
    split
    · split
      · unfold State.rewindQueue
        split
        · rfl
        · simp [State.putQueue]
      · rfl
    · rfl
theorem State.rewindOf_win (s : State) (p : Nat → Bool) : (s.rewindOf p).win = s.win := by
  unfold State.rewindOf
  generalize List.range 32 = l
  induction l generalizing s with
  | nil => rfl
  | cons n l ih =>
    rw [List.foldl_cons, ih]
    split
    · split
      · unfold State.rewindQueue
        split
        · rfl
        · simp [State.putQueue]
      · rfl
    · rfl
theorem State.rewindOf_gran (s : State) (p : Nat → Bool) : (s.rewindOf p).gran = s.gran := by
  unfold State.rewindOf
  generalize List.range 32 = l
  induction l generalizing s with
  | nil => rfl
  | cons n l ih =>
    rw [List.foldl_cons, ih]
    split
    · split
      · unfold State.rewindQueue
        split
        · rfl
        · simp [State.putQueue]
      · rfl
    · rfl
theorem State.rewindOf_flash (s : State) (p : Nat → Bool) : (s.rewindOf p).flash = s.flash := by
  unfold State.rewindOf
  generalize List.range 32 = l
  induction l generalizing s with
  | nil => rfl
  | cons n l ih =>
    rw [List.foldl_cons, ih]
    split
    · split
      · unfold State.rewindQueue
        split
        · rfl
        · simp [State.putQueue]
      · rfl
    · rfl
theorem State.rewindOf_fld (s : State) (p : Nat → Bool) : (s.rewindOf p).fld = s.fld := by
  unfold State.rewindOf
  generalize List.range 32 = l
  induction l generalizing s with
  | nil => rfl
  | cons n l ih =>
    rw [List.foldl_cons, ih]
    split
    · split
      · unfold State.rewindQueue
        split
        · rfl
        · simp [State.putQueue]
      · rfl
    · rfl
theorem State.rewindOf_crib (s : State) (p : Nat → Bool) : (s.rewindOf p).crib = s.crib := by
  unfold State.rewindOf
  generalize List.range 32 = l
  induction l generalizing s with
  | nil => rfl
  | cons n l ih =>
    rw [List.foldl_cons, ih]
    split
    · split
      · unfold State.rewindQueue
        split
        · rfl
        · simp [State.putQueue]
      · rfl
    · rfl
theorem State.rewindOf_fresh (s : State) (p : Nat → Bool) : (s.rewindOf p).fresh = s.fresh := by
  unfold State.rewindOf
  generalize List.range 32 = l
  induction l generalizing s with
  | nil => rfl
  | cons n l ih =>
    rw [List.foldl_cons, ih]
    split
    · split
      · unfold State.rewindQueue
        split
        · rfl
        · simp [State.putQueue]
      · rfl
    · rfl
theorem State.rewindOf_pending (s : State) (p : Nat → Bool) : (s.rewindOf p).pending = s.pending := by
  unfold State.rewindOf
  generalize List.range 32 = l
  induction l generalizing s with
  | nil => rfl
  | cons n l ih =>
    rw [List.foldl_cons, ih]
    split
    · split
      · unfold State.rewindQueue
        split
        · rfl
        · simp [State.putQueue]
      · rfl
    · rfl
theorem State.endSlots_bank (s : State) (p : Slot → Bool) (c : Code) : (s.endSlots p c).bank = s.bank := by
  unfold State.endSlots
  generalize List.range 128 = l
  induction l generalizing s with
  | nil => rfl
  | cons n l ih =>
    rw [List.foldl_cons, ih]
    split
    · simp
    · rfl
theorem State.endSlots_shadow (s : State) (p : Slot → Bool) (c : Code) : (s.endSlots p c).shadow = s.shadow := by
  unfold State.endSlots
  generalize List.range 128 = l
  induction l generalizing s with
  | nil => rfl
  | cons n l ih =>
    rw [List.foldl_cons, ih]
    split
    · simp
    · rfl
theorem State.endSlots_lows (s : State) (p : Slot → Bool) (c : Code) : (s.endSlots p c).lows = s.lows := by
  unfold State.endSlots
  generalize List.range 128 = l
  induction l generalizing s with
  | nil => rfl
  | cons n l ih =>
    rw [List.foldl_cons, ih]
    split
    · simp
    · rfl
theorem State.endSlots_resp (s : State) (p : Slot → Bool) (c : Code) : (s.endSlots p c).resp = s.resp := by
  unfold State.endSlots
  generalize List.range 128 = l
  induction l generalizing s with
  | nil => rfl
  | cons n l ih =>
    rw [List.foldl_cons, ih]
    split
    · simp
    · rfl
theorem State.endSlots_own (s : State) (p : Slot → Bool) (c : Code) : (s.endSlots p c).own = s.own := by
  unfold State.endSlots
  generalize List.range 128 = l
  induction l generalizing s with
  | nil => rfl
  | cons n l ih =>
    rw [List.foldl_cons, ih]
    split
    · simp
    · rfl
theorem State.endSlots_opt (s : State) (p : Slot → Bool) (c : Code) : (s.endSlots p c).opt = s.opt := by
  unfold State.endSlots
  generalize List.range 128 = l
  induction l generalizing s with
  | nil => rfl
  | cons n l ih =>
    rw [List.foldl_cons, ih]
    split
    · simp
    · rfl
theorem State.endSlots_time (s : State) (p : Slot → Bool) (c : Code) : (s.endSlots p c).time = s.time := by
  unfold State.endSlots
  generalize List.range 128 = l
  induction l generalizing s with
  | nil => rfl
  | cons n l ih =>
    rw [List.foldl_cons, ih]
    split
    · simp
    · rfl
theorem State.endSlots_pwr (s : State) (p : Slot → Bool) (c : Code) : (s.endSlots p c).pwr = s.pwr := by
  unfold State.endSlots
  generalize List.range 128 = l
  induction l generalizing s with
  | nil => rfl
  | cons n l ih =>
    rw [List.foldl_cons, ih]
    split
    · simp
    · rfl
theorem State.endSlots_queues (s : State) (p : Slot → Bool) (c : Code) : (s.endSlots p c).queues = s.queues := by
  unfold State.endSlots
  generalize List.range 128 = l
  induction l generalizing s with
  | nil => rfl
  | cons n l ih =>
    rw [List.foldl_cons, ih]
    split
    · simp
    · rfl
theorem State.endSlots_core (s : State) (p : Slot → Bool) (c : Code) : (s.endSlots p c).core = s.core := by
  unfold State.endSlots
  generalize List.range 128 = l
  induction l generalizing s with
  | nil => rfl
  | cons n l ih =>
    rw [List.foldl_cons, ih]
    split
    · simp
    · rfl
theorem State.endSlots_svc (s : State) (p : Slot → Bool) (c : Code) : (s.endSlots p c).svc = s.svc := by
  unfold State.endSlots
  generalize List.range 128 = l
  induction l generalizing s with
  | nil => rfl
  | cons n l ih =>
    rw [List.foldl_cons, ih]
    split
    · simp
    · rfl
theorem State.endSlots_hspi (s : State) (p : Slot → Bool) (c : Code) : (s.endSlots p c).hspi = s.hspi := by
  unfold State.endSlots
  generalize List.range 128 = l
  induction l generalizing s with
  | nil => rfl
  | cons n l ih =>
    rw [List.foldl_cons, ih]
    split
    · simp
    · rfl
theorem State.endSlots_htw (s : State) (p : Slot → Bool) (c : Code) : (s.endSlots p c).htw = s.htw := by
  unfold State.endSlots
  generalize List.range 128 = l
  induction l generalizing s with
  | nil => rfl
  | cons n l ih =>
    rw [List.foldl_cons, ih]
    split
    · simp
    · rfl
theorem State.endSlots_dbg (s : State) (p : Slot → Bool) (c : Code) : (s.endSlots p c).dbg = s.dbg := by
  unfold State.endSlots
  generalize List.range 128 = l
  induction l generalizing s with
  | nil => rfl
  | cons n l ih =>
    rw [List.foldl_cons, ih]
    split
    · simp
    · rfl
theorem State.endSlots_tap (s : State) (p : Slot → Bool) (c : Code) : (s.endSlots p c).tap = s.tap := by
  unfold State.endSlots
  generalize List.range 128 = l
  induction l generalizing s with
  | nil => rfl
  | cons n l ih =>
    rw [List.foldl_cons, ih]
    split
    · simp
    · rfl
theorem State.endSlots_link (s : State) (p : Slot → Bool) (c : Code) : (s.endSlots p c).link = s.link := by
  unfold State.endSlots
  generalize List.range 128 = l
  induction l generalizing s with
  | nil => rfl
  | cons n l ih =>
    rw [List.foldl_cons, ih]
    split
    · simp
    · rfl
theorem State.endSlots_phy (s : State) (p : Slot → Bool) (c : Code) : (s.endSlots p c).phy = s.phy := by
  unfold State.endSlots
  generalize List.range 128 = l
  induction l generalizing s with
  | nil => rfl
  | cons n l ih =>
    rw [List.foldl_cons, ih]
    split
    · simp
    · rfl
theorem State.endSlots_fuse (s : State) (p : Slot → Bool) (c : Code) : (s.endSlots p c).fuse = s.fuse := by
  unfold State.endSlots
  generalize List.range 128 = l
  induction l generalizing s with
  | nil => rfl
  | cons n l ih =>
    rw [List.foldl_cons, ih]
    split
    · simp
    · rfl
theorem State.endSlots_sense (s : State) (p : Slot → Bool) (c : Code) : (s.endSlots p c).sense = s.sense := by
  unfold State.endSlots
  generalize List.range 128 = l
  induction l generalizing s with
  | nil => rfl
  | cons n l ih =>
    rw [List.foldl_cons, ih]
    split
    · simp
    · rfl
theorem State.endSlots_thr (s : State) (p : Slot → Bool) (c : Code) : (s.endSlots p c).thr = s.thr := by
  unfold State.endSlots
  generalize List.range 128 = l
  induction l generalizing s with
  | nil => rfl
  | cons n l ih =>
    rw [List.foldl_cons, ih]
    split
    · simp
    · rfl
theorem State.endSlots_win (s : State) (p : Slot → Bool) (c : Code) : (s.endSlots p c).win = s.win := by
  unfold State.endSlots
  generalize List.range 128 = l
  induction l generalizing s with
  | nil => rfl
  | cons n l ih =>
    rw [List.foldl_cons, ih]
    split
    · simp
    · rfl
theorem State.endSlots_gran (s : State) (p : Slot → Bool) (c : Code) : (s.endSlots p c).gran = s.gran := by
  unfold State.endSlots
  generalize List.range 128 = l
  induction l generalizing s with
  | nil => rfl
  | cons n l ih =>
    rw [List.foldl_cons, ih]
    split
    · simp
    · rfl
theorem State.endSlots_flash (s : State) (p : Slot → Bool) (c : Code) : (s.endSlots p c).flash = s.flash := by
  unfold State.endSlots
  generalize List.range 128 = l
  induction l generalizing s with
  | nil => rfl
  | cons n l ih =>
    rw [List.foldl_cons, ih]
    split
    · simp
    · rfl
theorem State.endSlots_fld (s : State) (p : Slot → Bool) (c : Code) : (s.endSlots p c).fld = s.fld := by
  unfold State.endSlots
  generalize List.range 128 = l
  induction l generalizing s with
  | nil => rfl
  | cons n l ih =>
    rw [List.foldl_cons, ih]
    split
    · simp
    · rfl
theorem State.endSlots_fresh (s : State) (p : Slot → Bool) (c : Code) : (s.endSlots p c).fresh = s.fresh := by
  unfold State.endSlots
  generalize List.range 128 = l
  induction l generalizing s with
  | nil => rfl
  | cons n l ih =>
    rw [List.foldl_cons, ih]
    split
    · simp
    · rfl
theorem State.endSlots_pending (s : State) (p : Slot → Bool) (c : Code) : (s.endSlots p c).pending = s.pending := by
  unfold State.endSlots
  generalize List.range 128 = l
  induction l generalizing s with
  | nil => rfl
  | cons n l ih =>
    rw [List.foldl_cons, ih]
    split
    · simp
    · rfl
theorem State.clearArgs_bank (s : State) (l : List Nat) :
    (l.foldl (fun acc i => acc.setRg 0x02 (0x040 + 4 * i) 0) s).bank = s.bank := by
  induction l generalizing s with
  | nil => rfl
  | cons n l ih => rw [List.foldl_cons, ih]; rfl
theorem State.clearArgs_shadow (s : State) (l : List Nat) :
    (l.foldl (fun acc i => acc.setRg 0x02 (0x040 + 4 * i) 0) s).shadow = s.shadow := by
  induction l generalizing s with
  | nil => rfl
  | cons n l ih => rw [List.foldl_cons, ih]; rfl
theorem State.clearArgs_lows (s : State) (l : List Nat) :
    (l.foldl (fun acc i => acc.setRg 0x02 (0x040 + 4 * i) 0) s).lows = s.lows := by
  induction l generalizing s with
  | nil => rfl
  | cons n l ih => rw [List.foldl_cons, ih]; rfl
theorem State.clearArgs_resp (s : State) (l : List Nat) :
    (l.foldl (fun acc i => acc.setRg 0x02 (0x040 + 4 * i) 0) s).resp = s.resp := by
  induction l generalizing s with
  | nil => rfl
  | cons n l ih => rw [List.foldl_cons, ih]; rfl
theorem State.clearArgs_own (s : State) (l : List Nat) :
    (l.foldl (fun acc i => acc.setRg 0x02 (0x040 + 4 * i) 0) s).own = s.own := by
  induction l generalizing s with
  | nil => rfl
  | cons n l ih => rw [List.foldl_cons, ih]; rfl
theorem State.clearArgs_ops (s : State) (l : List Nat) :
    (l.foldl (fun acc i => acc.setRg 0x02 (0x040 + 4 * i) 0) s).ops = s.ops := by
  induction l generalizing s with
  | nil => rfl
  | cons n l ih => rw [List.foldl_cons, ih]; rfl
theorem State.clearArgs_opt (s : State) (l : List Nat) :
    (l.foldl (fun acc i => acc.setRg 0x02 (0x040 + 4 * i) 0) s).opt = s.opt := by
  induction l generalizing s with
  | nil => rfl
  | cons n l ih => rw [List.foldl_cons, ih]; rfl
theorem State.clearArgs_time (s : State) (l : List Nat) :
    (l.foldl (fun acc i => acc.setRg 0x02 (0x040 + 4 * i) 0) s).time = s.time := by
  induction l generalizing s with
  | nil => rfl
  | cons n l ih => rw [List.foldl_cons, ih]; rfl
theorem State.clearArgs_pwr (s : State) (l : List Nat) :
    (l.foldl (fun acc i => acc.setRg 0x02 (0x040 + 4 * i) 0) s).pwr = s.pwr := by
  induction l generalizing s with
  | nil => rfl
  | cons n l ih => rw [List.foldl_cons, ih]; rfl
theorem State.clearArgs_queues (s : State) (l : List Nat) :
    (l.foldl (fun acc i => acc.setRg 0x02 (0x040 + 4 * i) 0) s).queues = s.queues := by
  induction l generalizing s with
  | nil => rfl
  | cons n l ih => rw [List.foldl_cons, ih]; rfl
theorem State.clearArgs_core (s : State) (l : List Nat) :
    (l.foldl (fun acc i => acc.setRg 0x02 (0x040 + 4 * i) 0) s).core = s.core := by
  induction l generalizing s with
  | nil => rfl
  | cons n l ih => rw [List.foldl_cons, ih]; rfl
theorem State.clearArgs_svc (s : State) (l : List Nat) :
    (l.foldl (fun acc i => acc.setRg 0x02 (0x040 + 4 * i) 0) s).svc = s.svc := by
  induction l generalizing s with
  | nil => rfl
  | cons n l ih => rw [List.foldl_cons, ih]; rfl
theorem State.clearArgs_hspi (s : State) (l : List Nat) :
    (l.foldl (fun acc i => acc.setRg 0x02 (0x040 + 4 * i) 0) s).hspi = s.hspi := by
  induction l generalizing s with
  | nil => rfl
  | cons n l ih => rw [List.foldl_cons, ih]; rfl
theorem State.clearArgs_htw (s : State) (l : List Nat) :
    (l.foldl (fun acc i => acc.setRg 0x02 (0x040 + 4 * i) 0) s).htw = s.htw := by
  induction l generalizing s with
  | nil => rfl
  | cons n l ih => rw [List.foldl_cons, ih]; rfl
theorem State.clearArgs_dbg (s : State) (l : List Nat) :
    (l.foldl (fun acc i => acc.setRg 0x02 (0x040 + 4 * i) 0) s).dbg = s.dbg := by
  induction l generalizing s with
  | nil => rfl
  | cons n l ih => rw [List.foldl_cons, ih]; rfl
theorem State.clearArgs_tap (s : State) (l : List Nat) :
    (l.foldl (fun acc i => acc.setRg 0x02 (0x040 + 4 * i) 0) s).tap = s.tap := by
  induction l generalizing s with
  | nil => rfl
  | cons n l ih => rw [List.foldl_cons, ih]; rfl
theorem State.clearArgs_link (s : State) (l : List Nat) :
    (l.foldl (fun acc i => acc.setRg 0x02 (0x040 + 4 * i) 0) s).link = s.link := by
  induction l generalizing s with
  | nil => rfl
  | cons n l ih => rw [List.foldl_cons, ih]; rfl
theorem State.clearArgs_phy (s : State) (l : List Nat) :
    (l.foldl (fun acc i => acc.setRg 0x02 (0x040 + 4 * i) 0) s).phy = s.phy := by
  induction l generalizing s with
  | nil => rfl
  | cons n l ih => rw [List.foldl_cons, ih]; rfl
theorem State.clearArgs_fuse (s : State) (l : List Nat) :
    (l.foldl (fun acc i => acc.setRg 0x02 (0x040 + 4 * i) 0) s).fuse = s.fuse := by
  induction l generalizing s with
  | nil => rfl
  | cons n l ih => rw [List.foldl_cons, ih]; rfl
theorem State.clearArgs_sense (s : State) (l : List Nat) :
    (l.foldl (fun acc i => acc.setRg 0x02 (0x040 + 4 * i) 0) s).sense = s.sense := by
  induction l generalizing s with
  | nil => rfl
  | cons n l ih => rw [List.foldl_cons, ih]; rfl
theorem State.clearArgs_gle (s : State) (l : List Nat) :
    (l.foldl (fun acc i => acc.setRg 0x02 (0x040 + 4 * i) 0) s).gle = s.gle := by
  induction l generalizing s with
  | nil => rfl
  | cons n l ih => rw [List.foldl_cons, ih]; rfl
theorem State.clearArgs_thr (s : State) (l : List Nat) :
    (l.foldl (fun acc i => acc.setRg 0x02 (0x040 + 4 * i) 0) s).thr = s.thr := by
  induction l generalizing s with
  | nil => rfl
  | cons n l ih => rw [List.foldl_cons, ih]; rfl
theorem State.clearArgs_win (s : State) (l : List Nat) :
    (l.foldl (fun acc i => acc.setRg 0x02 (0x040 + 4 * i) 0) s).win = s.win := by
  induction l generalizing s with
  | nil => rfl
  | cons n l ih => rw [List.foldl_cons, ih]; rfl
theorem State.clearArgs_gran (s : State) (l : List Nat) :
    (l.foldl (fun acc i => acc.setRg 0x02 (0x040 + 4 * i) 0) s).gran = s.gran := by
  induction l generalizing s with
  | nil => rfl
  | cons n l ih => rw [List.foldl_cons, ih]; rfl
theorem State.clearArgs_flash (s : State) (l : List Nat) :
    (l.foldl (fun acc i => acc.setRg 0x02 (0x040 + 4 * i) 0) s).flash = s.flash := by
  induction l generalizing s with
  | nil => rfl
  | cons n l ih => rw [List.foldl_cons, ih]; rfl
theorem State.clearArgs_fld (s : State) (l : List Nat) :
    (l.foldl (fun acc i => acc.setRg 0x02 (0x040 + 4 * i) 0) s).fld = s.fld := by
  induction l generalizing s with
  | nil => rfl
  | cons n l ih => rw [List.foldl_cons, ih]; rfl
theorem State.clearArgs_crib (s : State) (l : List Nat) :
    (l.foldl (fun acc i => acc.setRg 0x02 (0x040 + 4 * i) 0) s).crib = s.crib := by
  induction l generalizing s with
  | nil => rfl
  | cons n l ih => rw [List.foldl_cons, ih]; rfl
theorem State.clearArgs_fresh (s : State) (l : List Nat) :
    (l.foldl (fun acc i => acc.setRg 0x02 (0x040 + 4 * i) 0) s).fresh = s.fresh := by
  induction l generalizing s with
  | nil => rfl
  | cons n l ih => rw [List.foldl_cons, ih]; rfl
theorem State.clearArgs_pending (s : State) (l : List Nat) :
    (l.foldl (fun acc i => acc.setRg 0x02 (0x040 + 4 * i) 0) s).pending = s.pending := by
  induction l generalizing s with
  | nil => rfl
  | cons n l ih => rw [List.foldl_cons, ih]; rfl

/-- What a change of owner makes of the ownership. -/
theorem State.changeOwner_own (s : State) (kind a : Nat) (heir : Option Master) :
    (s.changeOwner kind heir a).own =
      { s.own with owner := heir, epoch := s.own.epoch + 1, window := none, claims := [], handover := none, held := none } := by
  unfold State.changeOwner State.syncWdt State.auditOwn
  dsimp only
  cases s.own.owner <;> dsimp only <;>
    simp only [State.evPulse_own, State.evLevel_own, State.rewindOf_own, State.clearArgs_own, State.endSlots_own] <;>
    split <;> rfl

theorem State.changeOwner_bank (s : State) (kind a : Nat) (heir : Option Master) :
    (s.changeOwner kind heir a).bank = s.bank := by
  unfold State.changeOwner State.syncWdt State.auditOwn
  dsimp only
  cases s.own.owner <;> dsimp only <;>
    simp only [State.evPulse_bank, State.evLevel_bank, State.rewindOf_bank, State.clearArgs_bank, State.endSlots_bank] <;>
    split <;> rfl
theorem State.changeOwner_shadow (s : State) (kind a : Nat) (heir : Option Master) :
    (s.changeOwner kind heir a).shadow = s.shadow := by
  unfold State.changeOwner State.syncWdt State.auditOwn
  dsimp only
  cases s.own.owner <;> dsimp only <;>
    simp only [State.evPulse_shadow, State.evLevel_shadow, State.rewindOf_shadow, State.clearArgs_shadow, State.endSlots_shadow] <;>
    split <;> rfl
theorem State.changeOwner_lows (s : State) (kind a : Nat) (heir : Option Master) :
    (s.changeOwner kind heir a).lows = s.lows := by
  unfold State.changeOwner State.syncWdt State.auditOwn
  dsimp only
  cases s.own.owner <;> dsimp only <;>
    simp only [State.evPulse_lows, State.evLevel_lows, State.rewindOf_lows, State.clearArgs_lows, State.endSlots_lows] <;>
    split <;> rfl
theorem State.changeOwner_resp (s : State) (kind a : Nat) (heir : Option Master) :
    (s.changeOwner kind heir a).resp = s.resp := by
  unfold State.changeOwner State.syncWdt State.auditOwn
  dsimp only
  cases s.own.owner <;> dsimp only <;>
    simp only [State.evPulse_resp, State.evLevel_resp, State.rewindOf_resp, State.clearArgs_resp, State.endSlots_resp] <;>
    split <;> rfl
theorem State.changeOwner_time (s : State) (kind a : Nat) (heir : Option Master) :
    (s.changeOwner kind heir a).time = s.time := by
  unfold State.changeOwner State.syncWdt State.auditOwn
  dsimp only
  cases s.own.owner <;> dsimp only <;>
    simp only [State.evPulse_time, State.evLevel_time, State.rewindOf_time, State.clearArgs_time, State.endSlots_time] <;>
    split <;> rfl
theorem State.changeOwner_pwr (s : State) (kind a : Nat) (heir : Option Master) :
    (s.changeOwner kind heir a).pwr = s.pwr := by
  unfold State.changeOwner State.syncWdt State.auditOwn
  dsimp only
  cases s.own.owner <;> dsimp only <;>
    simp only [State.evPulse_pwr, State.evLevel_pwr, State.rewindOf_pwr, State.clearArgs_pwr, State.endSlots_pwr] <;>
    split <;> rfl
theorem State.changeOwner_core (s : State) (kind a : Nat) (heir : Option Master) :
    (s.changeOwner kind heir a).core = s.core := by
  unfold State.changeOwner State.syncWdt State.auditOwn
  dsimp only
  cases s.own.owner <;> dsimp only <;>
    simp only [State.evPulse_core, State.evLevel_core, State.rewindOf_core, State.clearArgs_core, State.endSlots_core] <;>
    split <;> rfl
theorem State.changeOwner_hspi (s : State) (kind a : Nat) (heir : Option Master) :
    (s.changeOwner kind heir a).hspi = s.hspi := by
  unfold State.changeOwner State.syncWdt State.auditOwn
  dsimp only
  cases s.own.owner <;> dsimp only <;>
    simp only [State.evPulse_hspi, State.evLevel_hspi, State.rewindOf_hspi, State.clearArgs_hspi, State.endSlots_hspi] <;>
    split <;> rfl
theorem State.changeOwner_htw (s : State) (kind a : Nat) (heir : Option Master) :
    (s.changeOwner kind heir a).htw = s.htw := by
  unfold State.changeOwner State.syncWdt State.auditOwn
  dsimp only
  cases s.own.owner <;> dsimp only <;>
    simp only [State.evPulse_htw, State.evLevel_htw, State.rewindOf_htw, State.clearArgs_htw, State.endSlots_htw] <;>
    split <;> rfl
theorem State.changeOwner_dbg (s : State) (kind a : Nat) (heir : Option Master) :
    (s.changeOwner kind heir a).dbg = s.dbg := by
  unfold State.changeOwner State.syncWdt State.auditOwn
  dsimp only
  cases s.own.owner <;> dsimp only <;>
    simp only [State.evPulse_dbg, State.evLevel_dbg, State.rewindOf_dbg, State.clearArgs_dbg, State.endSlots_dbg] <;>
    split <;> rfl
theorem State.changeOwner_tap (s : State) (kind a : Nat) (heir : Option Master) :
    (s.changeOwner kind heir a).tap = s.tap := by
  unfold State.changeOwner State.syncWdt State.auditOwn
  dsimp only
  cases s.own.owner <;> dsimp only <;>
    simp only [State.evPulse_tap, State.evLevel_tap, State.rewindOf_tap, State.clearArgs_tap, State.endSlots_tap] <;>
    split <;> rfl
theorem State.changeOwner_link (s : State) (kind a : Nat) (heir : Option Master) :
    (s.changeOwner kind heir a).link = s.link := by
  unfold State.changeOwner State.syncWdt State.auditOwn
  dsimp only
  cases s.own.owner <;> dsimp only <;>
    simp only [State.evPulse_link, State.evLevel_link, State.rewindOf_link, State.clearArgs_link, State.endSlots_link] <;>
    split <;> rfl
theorem State.changeOwner_phy (s : State) (kind a : Nat) (heir : Option Master) :
    (s.changeOwner kind heir a).phy = s.phy := by
  unfold State.changeOwner State.syncWdt State.auditOwn
  dsimp only
  cases s.own.owner <;> dsimp only <;>
    simp only [State.evPulse_phy, State.evLevel_phy, State.rewindOf_phy, State.clearArgs_phy, State.endSlots_phy] <;>
    split <;> rfl
theorem State.changeOwner_fuse (s : State) (kind a : Nat) (heir : Option Master) :
    (s.changeOwner kind heir a).fuse = s.fuse := by
  unfold State.changeOwner State.syncWdt State.auditOwn
  dsimp only
  cases s.own.owner <;> dsimp only <;>
    simp only [State.evPulse_fuse, State.evLevel_fuse, State.rewindOf_fuse, State.clearArgs_fuse, State.endSlots_fuse] <;>
    split <;> rfl
theorem State.changeOwner_sense (s : State) (kind a : Nat) (heir : Option Master) :
    (s.changeOwner kind heir a).sense = s.sense := by
  unfold State.changeOwner State.syncWdt State.auditOwn
  dsimp only
  cases s.own.owner <;> dsimp only <;>
    simp only [State.evPulse_sense, State.evLevel_sense, State.rewindOf_sense, State.clearArgs_sense, State.endSlots_sense] <;>
    split <;> rfl
theorem State.changeOwner_thr (s : State) (kind a : Nat) (heir : Option Master) :
    (s.changeOwner kind heir a).thr = s.thr := by
  unfold State.changeOwner State.syncWdt State.auditOwn
  dsimp only
  cases s.own.owner <;> dsimp only <;>
    simp only [State.evPulse_thr, State.evLevel_thr, State.rewindOf_thr, State.clearArgs_thr, State.endSlots_thr] <;>
    split <;> rfl
theorem State.changeOwner_win (s : State) (kind a : Nat) (heir : Option Master) :
    (s.changeOwner kind heir a).win = s.win := by
  unfold State.changeOwner State.syncWdt State.auditOwn
  dsimp only
  cases s.own.owner <;> dsimp only <;>
    simp only [State.evPulse_win, State.evLevel_win, State.rewindOf_win, State.clearArgs_win, State.endSlots_win] <;>
    split <;> rfl
theorem State.changeOwner_gran (s : State) (kind a : Nat) (heir : Option Master) :
    (s.changeOwner kind heir a).gran = s.gran := by
  unfold State.changeOwner State.syncWdt State.auditOwn
  dsimp only
  cases s.own.owner <;> dsimp only <;>
    simp only [State.evPulse_gran, State.evLevel_gran, State.rewindOf_gran, State.clearArgs_gran, State.endSlots_gran] <;>
    split <;> rfl
theorem State.changeOwner_flash (s : State) (kind a : Nat) (heir : Option Master) :
    (s.changeOwner kind heir a).flash = s.flash := by
  unfold State.changeOwner State.syncWdt State.auditOwn
  dsimp only
  cases s.own.owner <;> dsimp only <;>
    simp only [State.evPulse_flash, State.evLevel_flash, State.rewindOf_flash, State.clearArgs_flash, State.endSlots_flash] <;>
    split <;> rfl
theorem State.changeOwner_fld (s : State) (kind a : Nat) (heir : Option Master) :
    (s.changeOwner kind heir a).fld = s.fld := by
  unfold State.changeOwner State.syncWdt State.auditOwn
  dsimp only
  cases s.own.owner <;> dsimp only <;>
    simp only [State.evPulse_fld, State.evLevel_fld, State.rewindOf_fld, State.clearArgs_fld, State.endSlots_fld] <;>
    split <;> rfl
theorem State.changeOwner_fresh (s : State) (kind a : Nat) (heir : Option Master) :
    (s.changeOwner kind heir a).fresh = s.fresh := by
  unfold State.changeOwner State.syncWdt State.auditOwn
  dsimp only
  cases s.own.owner <;> dsimp only <;>
    simp only [State.evPulse_fresh, State.evLevel_fresh, State.rewindOf_fresh, State.clearArgs_fresh, State.endSlots_fresh] <;>
    split <;> rfl
theorem State.changeOwner_pending (s : State) (kind a : Nat) (heir : Option Master) :
    (s.changeOwner kind heir a).pending = s.pending := by
  unfold State.changeOwner State.syncWdt State.auditOwn
  dsimp only
  cases s.own.owner <;> dsimp only <;>
    simp only [State.evPulse_pending, State.evLevel_pending, State.rewindOf_pending, State.clearArgs_pending, State.endSlots_pending] <;>
    split <;> rfl

end Sys2Proof.Machine
end

