-- ==== Sys2Proof/Tests/Slice0.lean ====
section
/-!
SUPPORT. Tests: what the checks of WellFormed refuse, and for every statement of the obligations, clause by clause, a
state and operands that meet its hypotheses together. `W.run` is a device in which every block is READY.
-/
set_option Elab.async false
set_option maxRecDepth 20000

namespace Sys2Proof.Tests
open Sys2Proof Sys2Proof.Machine

/-- Every page of the device in READY but TEST. -/
def W.readyRegs : Tab Word :=
  (List.range 11 ++ List.range' 16 15 ++ List.range' 32 4 ++ List.range' 40 4 ++ List.range' 48 3 ++ [56, 58, 60]
    ++ List.range' 64 5 ++ List.range' 80 32).map (fun p => (4096 * p + 4, 1))

/-- A running device: every block READY, CORE the owner in machine mode, crystal and TCXO stable. -/
def W.run : State := {
  regs := W.readyRegs
  own := { owner := some .core, epoch := 1, period := 1000, due := 1000000000000 }
  opt := { loaded := true }
  pwr := { xtal := true, tcxo := true }
  core := { released := true } }

/-- The state with registers given values: page, offset, word. -/
def W.regs (l : List (Nat × Nat × Word)) (s : State) : State :=
  l.foldl (fun s e => s.setRg e.1 e.2.1 e.2.2) s

/-- The state with slot 0 RUNNING an operation, submitted by CORE as a secure transaction. -/
def W.op (page op : Nat) (args : List Word) (s : State) : State :=
  s.putSlot 0 { st := .running, page := BitVec.ofNat 8 page, op := BitVec.ofNat 8 op, args := args, secure := true }

/-- The register's description at an offset of a page. -/
def W.reg (page off : Nat) : RegDef := (regAt page off).getD { off := 0, acc := .ro }


/-! Ill-formed commands: one for each check of WellFormed. -/

/-- A command that WellFormed refuses and the machine stops on. -/
def W.refuses (c : Instr) : Prop := c.wellFormed = false ∧ exec c W.run = .fault .illFormed

theorem test_illformed_srst : W.refuses (.srst .core 0x80) := ⟨by decide +kernel, rfl⟩
theorem test_illformed_errcClr : W.refuses (.errcClr .core 0xFF) := ⟨by decide +kernel, rfl⟩
theorem test_illformed_evflgClear : W.refuses (.evflgClear .core 0x80 1) := ⟨by decide +kernel, rfl⟩
theorem test_illformed_accessWrite : W.refuses (.accessWrite .core 0x80 1) := ⟨by decide +kernel, rfl⟩
theorem test_illformed_wholePush : W.refuses (.wholePush 4 .block []) := ⟨by decide +kernel, rfl⟩
theorem test_illformed_uartEof : W.refuses (.uartEof 0 [] false) := ⟨by decide +kernel, rfl⟩
theorem test_illformed_selfTestEnd : W.refuses (.selfTestEnd 0 1) := ⟨by decide +kernel, rfl⟩
theorem test_illformed_portTest : W.refuses (.portTest 0 7) := ⟨by decide +kernel, rfl⟩
theorem test_illformed_sd_sample : W.refuses (.converterSample 0 (.volts 5)) := ⟨by decide +kernel, rfl⟩
theorem test_illformed_sar_sample : W.refuses (.converterSample 16 (.bits [true] false)) := ⟨by decide +kernel, rfl⟩
theorem test_illformed_hspiStatus : W.refuses (.hspiStatus 0x10 8) := ⟨by decide +kernel, rfl⟩
theorem test_wellformed : (Instr.srst .core 0x7F).wellFormed = true ∧ (Instr.hspiStatus 0x00 8).wellFormed = true := by
  decide +kernel

/-! The Gleaner's words, written out from the layouts of R136 and R137. -/

theorem test_word_nop : GInstr.decode 0b000001_000_000_000_00000000000000000#32 = some .nop := by decide +kernel
theorem test_word_ldi : GInstr.decode 0b000011_101_11111111111111111111110#32 = some (.ldi 5 0x7FFFFE) := by decide +kernel
theorem test_word_sub : GInstr.decode 0b001001_001_010_011_00000000000000000#32 = some (.alu .sub 1 2 3) := by
  decide +kernel
theorem test_word_bgeu : GInstr.decode 0b011101_000_110_111_00000_111111111111#32 = some (.branch .geu 6 7 0xFFF) := by
  decide +kernel
theorem test_word_wev : GInstr.decode 0b100010_00000_1010_1_0000000000000001#32 = some (.wev 1 0xA0001) := by
  decide +kernel
theorem test_word_conv : GInstr.decode 0b100100_010_0_10011_0_1_0_101010_00000000#32 =
    some (.conv 2 19 0 1 42) := by decide +kernel
theorem test_word_conv_bad : GInstr.decode 0b100100_010_0_10100_0_1_0_101010_00000000#32 = none := by decide +kernel
theorem test_word_push : GInstr.decode 0b101010_000_100_000_1_0_10_00000000_11111#32 = some (.push 4 1 2 31) := by
  decide +kernel
theorem test_word_reserved : GInstr.decode 0b000110_00000000000000000000000000#32 = none := by decide +kernel

/-! The algorithms, by published examples: CRC-32 of "123456789"; SHA-256 of "abc" (FIPS 180-4); AES-128 (FIPS 197,
appendix C.1). -/

theorem test_crc32 : crc32 [0x31, 0x32, 0x33, 0x34, 0x35, 0x36, 0x37, 0x38, 0x39] = 0xCBF43926 := by decide +kernel
theorem test_sha256 : (sha false [0x61, 0x62, 0x63]).take 4 = [0xBA, 0x78, 0x16, 0xBF] := by decide +kernel
theorem test_aes128 :
    (aesEnc ((List.range 16).map (BitVec.ofNat 8)) ((List.range 16).map (fun i => BitVec.ofNat 8 (17 * i)))).take 4 =
      [0x69, 0xC4, 0xE0, 0xD8] := by decide +kernel

/-! The signal's arithmetic, there and back: zero bytes skipped in a CRC-32 (R299), sync words (R369, R376, R379), the
convolutional code's decoder (R380), and R387 at an SNR of 20.1 dB. -/

theorem test_crc32_zeros : crc32Zeros 5 0x12345678 = crc32Run 0x12345678 (List.replicate 5 0) := by decide +kernel
theorem test_sync_ofdm : syncBits { wave := .ofdm, v := syncPoints 0xC0FFEE15, offset := 0 } = 0xC0FFEE15 := by
  decide +kernel
theorem test_sync_nb : syncBits { wave := .nb, v := (nbTraining 0xC0FFEE15).drop 32, offset := 0 } = 0xC0FFEE15 := by
  decide +kernel
theorem test_viterbi :
    viterbi ((pieces 2 20 (convCode 0 ([true, false, true, true] ++ List.replicate 6 false))).map
      (fun l => (if l.getD 0 false then (-1 : Int) else 1, if l.getD 1 false then (-1 : Int) else 1))) =
    [true, false, true, true] ++ List.replicate 6 false := by decide +kernel
theorem test_lqi : lqiOf 10233 100 = 121 := by decide +kernel

/-! States and operands that meet the hypotheses of the statements about the queue, tables and words. -/

theorem test_StepOnEmptyQueue : W.run.pending = [] ∧ W.run.dead = false := ⟨rfl, rfl⟩
theorem test_StepOnEmptyQueue_dead : W.run.pending = [] ∧ (({ W.run with pwr := { W.run.pwr with depth := .off } } : State)).pending = [] := ⟨rfl, rfl⟩
theorem test_CanonicalTablesAgree :
    Tab.wf (fun _ => (0 : Byte)) [(3, 7)] = true ∧ Tab.get (fun _ => (0 : Byte)) [(3, 7)] 3 = 7 := by decide +kernel
theorem test_GleanerWordsRoundTrip : (GInstr.tagrd 7 1 1 191).legal = true ∧ (GInstr.tagrd 7 1 1 191).encode = 0x9F8180BF := by
  decide +kernel
theorem test_SramReadsBack : (5 : Nat) ≠ 4 := by decide +kernel


namespace Pages

theorem test_WritePasses :
    ∃ (s : State) (m : Master) (page : Nat) (off : Nat) (v : Word) (d : RegDef), page < 0x80 ∧ s.dead = false ∧
    s.pwr.depth ≠ .guard ∧ s.assigned page = true ∧ s.unavailable (islandOf page) = false ∧ s.ready page = true ∧
    s.insecure m page off = false ∧ off ≠ 0x01C ∧ burstTail page off = false ∧ (pageKind page = 0x40 → mboxPageMaster
    off = true → page = 0x40 + Master.id m) ∧ (s.isOwner m = true ∨ writeExempt m page off = true) ∧ regAt page off =
    some d ∧ legalWord d v = true :=
  ⟨W.run, .core, 0x05, 0x060, 2, W.reg 0x05 0x060, by and_intros <;> decide +kernel⟩

theorem test_WriteNotReady :
    ∃ (s : State) (m : Master) (page : Nat) (off : Nat), page < 0x80 ∧ s.reachGate m page = .pass ∧ burstTail page
    off = false ∧ off ≠ 0x01C ∧ s.ready page = false :=
  ⟨State.reset, .core, 0x05, 0x060, by and_intros <;> decide +kernel⟩

theorem test_WriteInsecure :
    ∃ (s : State) (m : Master) (page : Nat) (off : Nat), page < 0x80 ∧ s.reachGate m page = .pass ∧ burstTail page
    off = false ∧ off ≠ 0x01C ∧ s.ready page = true ∧ s.insecure m page off = true :=
  ⟨W.run, .hspi, 0x3A, 0x040, by and_intros <;> decide +kernel⟩

theorem test_WriteNotOwner :
    ∃ (s : State) (m : Master) (page : Nat) (off : Nat), page < 0x80 ∧ s.reachGate m page = .pass ∧ burstTail page
    off = false ∧ off ≠ 0x01C ∧ s.ready page = true ∧ s.insecure m page off = false ∧ s.isOwner m = false ∧
    writeExempt m page off = false :=
  ⟨W.run, .hspi, 0x05, 0x060, by and_intros <;> decide +kernel⟩

theorem test_WriteHole :
    ∃ (s : State) (m : Master) (page : Nat) (off : Nat), page < 0x80 ∧ s.reachGate m page = .pass ∧ burstTail page
    off = false ∧ off ≠ 0x01C ∧ s.ready page = true ∧ s.insecure m page off = false ∧ s.isOwner m = true ∧ pageKind
    page ≠ 0x40 ∧ regAt page off = none :=
  ⟨W.run, .core, 0x05, 0xFFC, by and_intros <;> decide +kernel⟩

theorem test_WriteReserved :
    ∃ (s : State) (m : Master) (page : Nat) (off : Nat) (v : Word), page < 0x80 ∧ s.reachGate m page = .pass ∧
    burstTail page off = false ∧ off ≠ 0x01C ∧ s.ready page = true ∧ s.insecure m page off = false ∧ s.isOwner m =
    true ∧ pageKind page ≠ 0x40 ∧ ∃ d, regAt page off = some d ∧ legalWord d v = false :=
  ⟨W.run, .core, 0x05, 0x060, 3, by decide +kernel, by decide +kernel, by decide +kernel, by decide +kernel,
  ⟨by decide +kernel, by decide +kernel, by decide +kernel, by decide +kernel, W.reg 0x05 0x060, by decide +kernel,
  by decide +kernel⟩⟩

theorem test_RefusedHspi :
    ∃ (s : State) (m : Master) (page : BitVec 8) (word : BitVec 10) (v : Word) (c : Code) (p : Nat) (off : Nat),
    page.toNat = p ∧ 4 * word.toNat = off ∧ p < 0x80 ∧ s.writeGate m p off v = .refuse c :=
  ⟨W.run, .hspi, 0x05, 0x18, 1, .notOwner, 0x05, 0x060, by and_intros <;> decide +kernel⟩

theorem test_RefusedDebug :
    ∃ (s : State) (m : Master) (page : BitVec 8) (word : BitVec 10) (v : Word) (c : Code) (p : Nat) (off : Nat),
    page.toNat = p ∧ 4 * word.toNat = off ∧ p < 0x80 ∧ s.writeGate m p off v = .refuse c :=
  ⟨W.run, .debug, 0x05, 0x18, 1, .notOwner, 0x05, 0x060, by and_intros <;> decide +kernel⟩

theorem test_PlainWrite :
    ∃ (s : State) (m : Master) (page : BitVec 8) (word : BitVec 10) (p : Nat) (off : Nat) (v : Word), page.toNat = p
    ∧ 4 * word.toNat = off ∧ ∃ (d : RegDef), (p, off) ∈ (List.range 8).map (fun i => (0x02, 0x040 + 4 * i)) ++
    [(0x02, 0x070), (0x05, 0x04C), (0x05, 0x050), (0x05, 0x054), (0x06, 0x048), (0x0A, 0x050), (0x3C, 0x054)] ∧ regAt
    p off = some d ∧ s.writeGate m p off v = .pass :=
  ⟨W.run, .core, 0x02, 0x10, 0x02, 0x040, 7, by decide +kernel, by decide +kernel, W.reg 0x02 0x040,
  by and_intros <;> decide +kernel⟩

theorem test_PlainRead :
    ∃ (s : State) (m : Master) (page : BitVec 8) (word : BitVec 10) (p : Nat) (off : Nat), page.toNat = p ∧ 4 *
    word.toNat = off ∧ p < 0x80 ∧ 0x040 ≤ off ∧ pageKind p ∉ [0x50, 0x0A, 0x19, 0x07, 0x10, 0x08, 0x32, 0x21, 0x28] ∧
    pairOf p off = 0 ∧ s.readGate m p off = .pass :=
  ⟨W.run, .core, 0x05, 0x18, 0x05, 0x060, by and_intros <;> decide +kernel⟩

theorem test_ProxyAccess :
    ∃ (s : State) (m : Master) (page : BitVec 8) (word : BitVec 10) (p : Nat) (off : Nat), page.toNat = p ∧ 4 *
    word.toNat = off ∧ p < 0x80 ∧ s.reachGate m p = .proxy :=
  ⟨{ W.run with pwr := { W.run.pwr with inReset := 0x1FE } }, .core, 0x18, 0x10, 0x18, 0x040,
  by and_intros <;> decide +kernel⟩

theorem test_ProxyStampLo :
    ∃ (s : State) (m : Master) (page : BitVec 8) (word : BitVec 10) (p : Nat) (off : Nat), page.toNat = p ∧ 4 *
    word.toNat = off ∧ p < 0x80 ∧ s.reachGate m p = .proxy ∧ off = 0x020 ∧ s.shadowOf m p = none :=
  ⟨{ W.run with pwr := { W.run.pwr with inReset := 0x1FE } }, .core, 0x18, 8, 0x18, 0x020,
  by and_intros <;> decide +kernel⟩

theorem test_ProxyStampHi :
    ∃ (s : State) (m : Master) (page : BitVec 8) (word : BitVec 10) (p : Nat) (off : Nat), page.toNat = p ∧ 4 *
    word.toNat = off ∧ p < 0x80 ∧ s.reachGate m p = .proxy ∧ off = 0x024 ∧ s.shadowOf m p = none :=
  ⟨{ W.run with pwr := { W.run.pwr with inReset := 0x1FE } }, .core, 0x18, 9, 0x18, 0x024,
  by and_intros <;> decide +kernel⟩

theorem test_ErrcClr :
    ∃ (s : State) (m : Master) (page : BitVec 8) (p : Nat), page.toNat = p ∧ p < 0x80 ∧ s.writeGate m p 0x008 0x4 =
    .pass :=
  ⟨W.run, .core, 0x18, 0x18, by and_intros <;> decide +kernel⟩

theorem test_EvflgClear :
    ∃ (s : State) (m : Master) (page : BitVec 8) (v : Word) (p : Nat), page.toNat = p ∧ p < 0x80 ∧ s.writeGate m p
    0x010 v = .pass :=
  ⟨W.run, .core, 0x18, 3, 0x18, by and_intros <;> decide +kernel⟩

theorem test_AccessWrite :
    ∃ (s : State) (m : Master) (page : BitVec 8) (v : Word) (p : Nat), page.toNat = p ∧ p < 0x80 ∧ s.writeGate m p
    0x01C v = .pass :=
  ⟨W.run, .core, 0x18, 3, 0x18, by and_intros <;> decide +kernel⟩

theorem test_Srst :
    ∃ (s : State) (m : Master) (page : BitVec 8) (p : Nat), page.toNat = p ∧ p < 0x80 ∧ fixedCtl p = false ∧
    s.writeGate m p 0x008 (setFlag (s.rg p 0x008 &&& 1) 1 true) = .pass :=
  ⟨W.run, .core, 0x19, 0x19, by and_intros <;> decide +kernel⟩

theorem test_SrstFixed :
    ∃ (s : State) (m : Master) (page : BitVec 8) (p : Nat), page.toNat = p ∧ p < 0x80 ∧ fixedCtl p = true ∧
    s.writeGate m p 0x008 0x2 = .pass :=
  ⟨W.run, .core, 0x01, 0x01, by and_intros <;> decide +kernel⟩

theorem test_LinkCtl :
    ∃ (s : State) (m : Master) (page : BitVec 8) (v : Word) (p : Nat), page.toNat = p ∧ s.writeGate m 0x2A 0x008 v =
    .pass ∧ flag v 1 = false ∧ flag v 2 = false ∧ (flag v 0 = true → flag (s.rg 0x2A 0x008) 0 = false → s.linkMayEn =
    true) :=
  ⟨W.run, .core, 0x2A, 0, 0x2A, by and_intros <;> decide +kernel⟩

theorem test_WindowHeader :
    ∃ (page : BitVec 8) (p : Nat), page.toNat = p ∧ 0x80 ≤ p :=
  ⟨0x80, 0x80, by decide +kernel, by decide +kernel⟩

theorem test_LowRead :
    ∃ (s : State) (m : Master) (page : BitVec 8) (word : BitVec 10) (p : Nat) (off : Nat), page.toNat = p ∧ 4 *
    word.toNat = off ∧ p < 0x80 ∧ pairOf p off = 1 ∧ s.readGate m p off = .pass ∧ (s.shadowOf m p).all (fun x =>
    x.low.isNone || x.off != off) = true :=
  ⟨W.run, .core, 0x07, 0x10, 0x07, 0x040, by and_intros <;> decide +kernel⟩

theorem test_LowReadKept :
    ∃ (s : State) (m : Master) (page : BitVec 8) (word : BitVec 10) (p : Nat) (off : Nat), page.toNat = p ∧ 4 *
    word.toNat = off ∧ p < 0x80 ∧ ∃ (x : Shadow) (w : Word), pairOf p off = 1 ∧ s.readGate m p off = .pass ∧
    s.shadowOf m p = some x ∧ x.low = some w ∧ x.off = off :=
  ⟨(W.run.setShadow .core 0x10 (some { off := 0x058, low := some 7, high := 1 })), .core, 0x10, 0x16, 0x10, 0x058,
  by decide +kernel, by decide +kernel, by decide +kernel, { off := 0x058, low := some 7, high := 1 }, 7,
  by and_intros <;> decide +kernel⟩

theorem test_HighReadShadow :
    ∃ (s : State) (m : Master) (page : BitVec 8) (word : BitVec 10) (p : Nat) (off : Nat), page.toNat = p ∧ 4 *
    word.toNat = off ∧ p < 0x80 ∧ ∃ (x : Shadow), pairOf p off = 2 ∧ s.readGate m p off = .pass ∧ s.shadowOf m p =
    some x ∧ x.off + 4 = off :=
  ⟨(W.run.setShadow .core 0x07 (some { off := 0x040, high := 5 })), .core, 0x07, 0x11, 0x07, 0x044,
  by decide +kernel, by decide +kernel, by decide +kernel, { off := 0x040, high := 5 },
  by and_intros <;> decide +kernel⟩

theorem test_HighReadAlone :
    ∃ (s : State) (m : Master) (page : BitVec 8) (word : BitVec 10) (p : Nat) (off : Nat), page.toNat = p ∧ 4 *
    word.toNat = off ∧ p < 0x80 ∧ pairOf p off = 2 ∧ s.readGate m p off = .pass ∧ (s.shadowOf m p).all (fun x =>
    x.off + 4 != off) = true :=
  ⟨W.run, .core, 0x07, 0x11, 0x07, 0x044, by and_intros <;> decide +kernel⟩

theorem test_LowWrite :
    ∃ (s : State) (m : Master) (page : BitVec 8) (word : BitVec 10) (p : Nat) (off : Nat), page.toNat = p ∧ 4 *
    word.toNat = off ∧ p < 0x80 ∧ ∃ (v : Word) (d : RegDef), regAt p off = some d ∧ d.pair = 1 ∧ d.acc ≠ .ro ∧ 0x040
    ≤ off ∧ s.writeGate m p off v = .pass ∧ s.alarmArmed off = false :=
  ⟨W.run, .core, 0x07, 0x20, 0x07, 0x080, by decide +kernel, by decide +kernel, by decide +kernel, 5, W.reg 0x07
  0x080, by and_intros <;> decide +kernel⟩

theorem test_HighWrite :
    ∃ (s : State) (m : Master) (page : BitVec 8) (word : BitVec 10) (p : Nat) (off : Nat), page.toNat = p ∧ 4 *
    word.toNat = off ∧ p < 0x80 ∧ ∃ (v : Word) (lo : Word) (d : RegDef), regAt p off = some d ∧ d.pair = 2 ∧ d.acc ≠
    .ro ∧ 0x040 ≤ off ∧ s.writeGate m p off v = .pass ∧ s.alarmArmed off = false ∧ s.lowOf m (ra p (off - 4)) = some
    lo :=
  ⟨(W.run.setLow .core (ra 0x07 0x080) (some 9)), .core, 0x07, 0x21, 0x07, 0x084, by decide +kernel,
  by decide +kernel, by decide +kernel, 5, 9, W.reg 0x07 0x084, by and_intros <;> decide +kernel⟩

theorem test_UnassignedLow :
    ∃ (s : State) (page : BitVec 8) (p : Nat), page.toNat = p ∧ s.dead = false ∧ s.pwr.depth ≠ .guard ∧ (pageAssigned
    p = false ∨ (p = 0x3F ∧ s.fuse.debugClosed = true)) :=
  ⟨W.run, 0x45, 0x45, by and_intros <;> decide +kernel⟩

theorem test_UnassignedHigh :
    ∃ (s : State) (page : BitVec 8) (p : Nat), page.toNat = p ∧ s.dead = false ∧ s.pwr.depth ≠ .guard ∧ (pageAssigned
    p = false ∨ (p = 0x3F ∧ s.fuse.debugClosed = true)) :=
  ⟨W.run, 0x7F, 0x7F, by and_intros <;> decide +kernel⟩

theorem test_TestPageClosed :
    ∃ (s : State) (page : BitVec 8) (p : Nat), page.toNat = p ∧ s.dead = false ∧ s.pwr.depth ≠ .guard ∧ (pageAssigned
    p = false ∨ (p = 0x3F ∧ s.fuse.debugClosed = true)) :=
  ⟨{ W.run with fuse := { debugClosed := true } }, 0x3F, 0x3F, by and_intros <;> decide +kernel⟩

theorem test_HoleRead :
    ∃ (s : State) (m : Master) (page : BitVec 8) (word : BitVec 10) (p : Nat) (off : Nat), page.toNat = p ∧ 4 *
    word.toNat = off ∧ p < 0x80 ∧ regAt p off = none ∧ burstTail p off = false ∧ s.reachGate m p = .pass ∧ s.insecure
    m p off = false ∧ (off < 0x040 ∨ flag (s.rg p 0x01C) 0 = false ∨ s.isOwner m = true) :=
  ⟨W.run, .core, 0x05, 0x3FF, 0x05, 0xFFC, by and_intros <;> decide +kernel⟩

theorem test_HeaderHole :
    ∃ (s : State) (m : Master) (page : BitVec 8) (word : BitVec 10) (p : Nat) (off : Nat), page.toNat = p ∧ 4 *
    word.toNat = off ∧ p < 0x80 ∧ regAt p off = none ∧ burstTail p off = false ∧ s.reachGate m p = .pass ∧ s.insecure
    m p off = false ∧ s.ready p = true ∧ s.isOwner m = true ∧ off ≠ 0x01C ∧ (pageKind p = 0x40 → mboxPageMaster off =
    true → p = 0x40 + Master.id m) :=
  ⟨W.run, .core, 0x05, 0xA, 0x05, 0x028, by and_intros <;> decide +kernel⟩


end Pages


namespace Slots

/-- The running device without an owner. -/
def W.free : State := { W.run with own := { epoch := 1 } }
/-- An open claim window with the claims of HSPI and CORE. -/
def W.window : State :=
  { W.free with own := { W.free.own with window := some 100, claims := [(.hspi, 1), (.core, 60000)] } }
/-- A pending handover to HSPI. -/
def W.offered : State := { W.run with own := { W.run.own with handover := some (.hspi, 100) } }
/-- FLASH up with an audit entry buffered. -/
def W.audited : State := { W.run with opt := { W.run.opt with buffer := [{}] } }
/-- A block that has not started. -/
def W.starting : State := W.run.setRg 0x01 0x004 0
/-- The option area before its load, with two valid copies. -/
def W.option (v0 v1 : Bool) (q0 q1 : Word) : State :=
  let c0 := ({} : OptionCopy).withGroup q0 [(1, 7)]
  let c1 := ({} : OptionCopy).withGroup q1 []
  { W.run with opt := { copy0 := if v0 then c0 else c0.cut, copy1 := if v1 then c1 else c1.cut } }
/-- A mailbox full in both directions. -/
def W.mail : State := W.regs [(0x40, 0x080, 3)] W.run
/-- Slot 0 in a state of its life. -/
def W.slot (x : Slot) : State := W.run.putSlot 0 x

theorem test_ClaimOpens :
    ∃ (s : State) (m : Master) (v : Word), s.writeGate m 0x01 0x04C v = .pass ∧ field v 31 24 = 0xC7 ∧ 1 ≤ field v 15
    0 ∧ field v 15 0 ≤ 60000 ∧ s.prio m ≠ 0 ∧ s.own.owner = none ∧ s.own.window = none :=
  ⟨W.free, .core, 0xC7000001, by and_intros <;> decide +kernel⟩

theorem test_ClaimJoins :
    ∃ (s : State) (m : Master) (v : Word), ∃ t, s.writeGate m 0x01 0x04C v = .pass ∧ field v 31 24 = 0xC7 ∧ 1 ≤ field
    v 15 0 ∧ field v 15 0 ≤ 60000 ∧ s.prio m ≠ 0 ∧ s.own.owner = none ∧ s.own.window = some t ∧ s.now < t :=
  ⟨W.window, .htw, 0xC700EA60, 100, by and_intros <;> decide +kernel⟩

theorem test_WindowCloses :
    ∃ (s : State), ∃ t w period, s.own.window = some t ∧ s.winner = some (w, period) :=
  ⟨W.window, 100, .core, 60000, by decide +kernel, by decide +kernel⟩

theorem test_Winner :
    ∃ (s : State) (w : Master × Nat), s.winner = some w :=
  ⟨W.window, (.core, 60000), by decide +kernel⟩

theorem test_LeaseKeep :
    ∃ (s : State) (m : Master) (v : Word), s.writeGate m 0x01 0x050 v = .pass ∧ s.own.owner = some m ∧ s.leaseOver =
    false ∧ field v 15 0 = s.own.epoch.toNat ∧ field v 31 16 ≤ 60000 :=
  ⟨W.run, .core, 1, by and_intros <;> decide +kernel⟩

theorem test_LeaseNew :
    ∃ (s : State) (m : Master) (v : Word), s.writeGate m 0x01 0x050 v = .pass ∧ s.own.owner = some m ∧ s.leaseOver =
    false ∧ field v 15 0 = s.own.epoch.toNat ∧ field v 31 16 ≤ 60000 :=
  ⟨W.run, .core, 0xEA600001, by and_intros <;> decide +kernel⟩

theorem test_Lapse :
    ∃ (s : State) (m : Master), s.own.owner = some m ∧ s.own.held = none :=
  ⟨W.run, .core, by decide +kernel, by decide +kernel⟩

theorem test_HandoverOffer :
    ∃ (s : State) (m : Master) (v : Word), ∃ t, s.writeGate m 0x01 0x058 v = .pass ∧ s.own.owner = some m ∧
    s.leaseOver = false ∧ masterOf (field v 2 0) = some t ∧ t ≠ m ∧ field v 31 24 = 0x4B ∧ s.prio t ≠ 0 ∧ (t = .debug
    → s.fuse.debugClosed = false) ∧ (t = .radio → s.link.mgmt.isSome = true) :=
  ⟨W.run, .core, 0x4B000001, .hspi, by and_intros <;> decide +kernel⟩

theorem test_HandoverExpires :
    ∃ (s : State), ∃ t due, s.own.handover = some (t, due) ∧ s.own.held = none :=
  ⟨W.offered, .hspi, 100, by decide +kernel, by decide +kernel⟩

theorem test_Accept :
    ∃ (s : State) (m : Master) (v : Word), ∃ due, s.writeGate m 0x01 0x05C v = .pass ∧ field v 31 24 = 0x4B ∧ 1 ≤
    field v 15 0 ∧ field v 15 0 ≤ 60000 ∧ s.own.handover = some (m, due) ∧ s.now < due ∧ s.leaseOver = false ∧ s.prio
    m ≠ 0 :=
  ⟨W.offered, .hspi, 0x4B000001, 100, by and_intros <;> decide +kernel⟩

theorem test_Release :
    ∃ (s : State) (m : Master) (v : Word), s.writeGate m 0x01 0x060 v = .pass ∧ s.own.owner = some m ∧ s.leaseOver =
    false ∧ v = BitVec.ofNat 32 s.own.epoch.toNat :=
  ⟨W.run, .core, 1, by and_intros <;> decide +kernel⟩

theorem test_AuditFlush :
    ∃ (s : State), s.flashUp = true :=
  ⟨W.audited, by decide +kernel⟩

theorem test_StartReady :
    ∃ (s : State) (page : BitVec 8) (p : Nat), page.toNat = p ∧ s.mayReady p = true :=
  ⟨W.starting, 1, 1, by decide +kernel, by decide +kernel⟩

theorem test_StartReadyAon :
    ∃ (s : State) (page : BitVec 8) (p : Nat), page.toNat = p ∧ s.mayReady p = true ∧ p ∈ [0x00, 0x01, 0x05, 0x06,
    0x07, 0x08, 0x09, 0x0A] ∧ flag (s.rg p 0x008) 1 = false :=
  ⟨W.starting, 1, 1, by and_intros <;> decide +kernel⟩

theorem test_StartFails :
    ∃ (s : State) (page : BitVec 8) (p : Nat), page.toNat = p ∧ ∃ g, startGroup p = some g ∧ s.assigned p = true ∧
    s.dead = false ∧ s.ready p = false ∧ flag (s.rg p 0x004) 2 = false ∧ s.unavailable (islandOf p) = false ∧ (5 ≤ g
    → s.groupSupply g = true) :=
  ⟨W.starting, 1, 1, by decide +kernel, 0, by and_intros <;> decide +kernel⟩

theorem test_LoadNewer :
    ∃ (s : State), s.mayLoadOption = true :=
  ⟨W.option true true 1 2, by decide +kernel⟩

theorem test_LoadNone :
    ∃ (s : State), s.mayLoadOption = true :=
  ⟨W.option false false 1 2, by decide +kernel⟩

theorem test_OutPost :
    ∃ (s : State) (m : Master) (box : Fin 5) (v : Word) (st : Word), st = s.rg (0x40 + box.val) 0x080 ∧ s.writeGate m
    (0x40 + box.val) 0x084 v = .pass ∧ 1 ≤ field v 4 0 ∧ field v 4 0 ≤ 16 ∧ flag st 0 = false :=
  ⟨W.run, .core, 0, 16, 0, by and_intros <;> decide +kernel⟩

theorem test_OutTake :
    ∃ (s : State) (m : Master) (box : Fin 5) (v : Word) (st : Word), st = s.rg (0x40 + box.val) 0x080 ∧ s.writeGate m
    (0x40 + box.val) 0x088 v = .pass ∧ flag v 0 = true ∧ flag st 0 = true :=
  ⟨W.mail, .core, 0, 1, W.mail.rg 0x40 0x080, by and_intros <;> decide +kernel⟩

theorem test_InPost :
    ∃ (s : State) (m : Master) (box : Fin 5) (v : Word) (st : Word), st = s.rg (0x40 + box.val) 0x080 ∧ s.writeGate m
    (0x40 + box.val) 0x08C v = .pass ∧ 1 ≤ field v 4 0 ∧ field v 4 0 ≤ 16 ∧ flag st 1 = false :=
  ⟨W.run, .core, 0, 1, 0, by and_intros <;> decide +kernel⟩

theorem test_InTake :
    ∃ (s : State) (m : Master) (box : Fin 5) (v : Word) (st : Word), st = s.rg (0x40 + box.val) 0x080 ∧ s.writeGate m
    (0x40 + box.val) 0x090 v = .pass ∧ flag v 0 = true ∧ flag st 1 = true :=
  ⟨W.mail, .core, 0, 1, W.mail.rg 0x40 0x080, by and_intros <;> decide +kernel⟩

theorem test_Doorbell :
    ∃ (s : State) (m : Master) (v : Word), ∃ n s1, s.writeGate m 0x02 0x060 v = .pass ∧ field v 15 8 ∈ opPages ∧
    field v 19 16 ≤ 8 ∧ s.allocSlot (Master.id m) (field v 15 8) (field v 7 0) (s.opsArgs (field v 19 16)) (flag v
    24) (s.secure m) = some (n, s1) :=
  ⟨W.run, .core, 0x00081801, 0, ((W.run.allocSlot 0 0x18 1 (W.run.opsArgs 8) false true).getD (0, W.run)).2,
  by and_intros <;> decide +kernel⟩

theorem test_Cancel :
    ∃ (s : State) (m : Master) (v : Word), s.writeGate m 0x02 0x068 v = .pass ∧ (s.slot (field v 6 0)).st = .queued :=
  ⟨W.slot { st := .queued, page := 0x18, op := 1 }, .core, 0, by decide +kernel, by decide +kernel⟩

theorem test_OpStart :
    ∃ (s : State) (tag : Fin 128), s.dead = false ∧ s.mayStart tag.val = true ∧ s.deferred (s.slot tag.val) = false :=
  ⟨W.slot { st := .queued, page := 0x18, op := 1 }, 0, by and_intros <;> decide +kernel⟩

theorem test_OpEnd :
    ∃ (s : State) (tag : Fin 128), ∃ c, (s.slot tag.val).st = .running ∧ (s.slot tag.val).result = some c :=
  ⟨W.slot { st := .running, page := 0x18, op := 1, result := some .done }, 0, .done, by decide +kernel,
  by decide +kernel⟩

theorem test_Record :
    ∃ (s : State), ∃ n s1, s.dead = false ∧ s.oldestHeld = some n ∧ s.recordRoom = true ∧ s.blockPush 0
    (recordPayloads n (s.slot n)) = (s1, .done) :=
  ⟨W.slot { st := .held, page := 0x18, op := 1 }, 0, ((W.slot { st := .held, page := 0x18, op := 1 }).blockPush 0
  (recordPayloads 0 { st := .held, page := 0x18, op := 1 })).1, by and_intros <;> decide +kernel⟩


end Slots


namespace Power

/-- Power with changes. -/
def W.pwr (f : Power → Power) (s : State) : State := { s with pwr := f s.pwr }
/-- A SYSTEM reset, or an island reset, in progress. -/
def W.held (kind : Nat) : State :=
  W.pwr (fun p => { p with inReset := 0x1FE, resets := [{ islands := 0x1FE, due := 9, kind := kind }] }) W.run
/-- A sleep request that waits. -/
def W.sleepy (target : Nat) : State :=
  W.pwr (fun p => { p with sleep := some { target := target, due := 9 } }) (W.regs [(0x05, 0x050, 0xFFFFFFFF)] W.run)
/-- The device asleep. -/
def W.asleep (d : Depth) : State := W.pwr (fun p => { p with depth := d }) (W.regs [(0x05, 0x050, 0xFFFFFFFF)] W.run)
/-- An exit in progress. -/
def W.waking (d : Depth) : State := W.pwr (fun p => { p with exit := some (d, 4) }) (W.asleep d)
/-- A watchdog count that runs. -/
def W.wdt : Wdt := { running := true, counting := true, left := 1000000000000 }
/-- Both watchdogs running. -/
def W.dogs : State := { W.regs [(0x3C, 0x044, 0x018003E8)] W.run with svc := { normal := W.wdt, unconf := W.wdt } }

theorem test_PorRelease :
    ∃ (s : State), s.pwr.por = true :=
  ⟨W.pwr (fun p => { p with por := true }) W.run, by decide +kernel⟩

theorem test_ResetNLow :
    ∃ (s : State), s.dead = false ∧ s.pwr.resetN = true :=
  ⟨W.run, by decide +kernel, by decide +kernel⟩

theorem test_ResetNLowDead :
    ∃ (s : State), (s.dead = true ∨ s.pwr.resetN = false) :=
  ⟨W.pwr (fun p => { p with por := true }) W.run, by decide +kernel⟩

theorem test_ResetNLowAgain :
    ∃ (s : State), (s.dead = true ∨ s.pwr.resetN = false) :=
  ⟨W.pwr (fun p => { p with resetN := false }) W.run, by decide +kernel⟩

theorem test_ResetNHigh :
    ∃ (s : State), s.tap.ir ≠ 0 ∧ s.tap.ir ≠ 3 :=
  ⟨W.run, by decide +kernel, by decide +kernel⟩

theorem test_ResetNHighTap :
    ∃ (s : State), (s.tap.ir = 0 ∨ s.tap.ir = 3) :=
  ⟨{ W.run with tap := { ir := 3 } }, by decide +kernel⟩

theorem test_SysRst :
    ∃ (s : State) (m : Master) (v : Word), s.writeGate m 0x05 0x11C v = .pass ∧ field v 31 24 = 0xA5 :=
  ⟨W.run, .core, 0xA5000000, by decide +kernel, by decide +kernel⟩

theorem test_SysRstKey :
    ∃ (s : State) (m : Master) (v : Word), s.writeGate m 0x05 0x11C v = .pass ∧ field v 31 24 ≠ 0xA5 :=
  ⟨W.run, .core, 0, by decide +kernel, by decide +kernel⟩

theorem test_DebugReset :
    ∃ (s : State), s.dead = false ∧ s.fuse.debugClosed = false :=
  ⟨W.run, by decide +kernel, by decide +kernel⟩

theorem test_IslRst :
    ∃ (s : State) (m : Master) (v : Word), s.writeGate m 0x05 0x118 v = .pass ∧ field v 31 24 = 0x5A ∧ flag v 0 =
    false ∧ field v 8 0 ≠ 0 :=
  ⟨W.run, .core, 0x5A0001FE, by and_intros <;> decide +kernel⟩

theorem test_IslRstKey :
    ∃ (s : State) (m : Master) (v : Word), s.writeGate m 0x05 0x118 v = .pass ∧ (field v 31 24 ≠ 0x5A ∨ flag v 0 =
    true ∨ field v 8 0 = 0) :=
  ⟨W.run, .core, 0x5B000002, by decide +kernel, by decide +kernel⟩

theorem test_IslRstAon :
    ∃ (s : State) (m : Master) (v : Word), s.writeGate m 0x05 0x118 v = .pass ∧ (field v 31 24 ≠ 0x5A ∨ flag v 0 =
    true ∨ field v 8 0 = 0) :=
  ⟨W.run, .core, 0x5A000001, by decide +kernel, by decide +kernel⟩

theorem test_IslRstNone :
    ∃ (s : State) (m : Master) (v : Word), s.writeGate m 0x05 0x118 v = .pass ∧ (field v 31 24 ≠ 0x5A ∨ flag v 0 =
    true ∨ field v 8 0 = 0) :=
  ⟨W.run, .core, 0x5A000000, by decide +kernel, by decide +kernel⟩

theorem test_SystemRelease :
    ∃ (s : State) (r : ResetRun), s.pwr.resets.find? (fun x => x.kind == 3 || x.kind == 4) = some r ∧ s.pwr.resetN =
    true ∧ s.dead = false :=
  ⟨W.held 3, { islands := 0x1FE, due := 9, kind := 3 }, by and_intros <;> decide +kernel⟩

theorem test_IslandRelease :
    ∃ (s : State) (r : ResetRun), s.pwr.resets.find? (fun x => decide (5 ≤ x.kind)) = some r ∧ s.dead = false :=
  ⟨W.held 5, { islands := 0x1FE, due := 9, kind := 5 }, by decide +kernel, by decide +kernel⟩

theorem test_SleepStandby :
    ∃ (s : State) (m : Master) (v : Word), s.writeGate m 0x05 0x044 v = .pass ∧ field v 31 24 = 0x6D ∧ field v 1 0 ≠
    3 ∧ s.pwr.sleep = none ∧ (field v 1 0 = 1 → s.pwr.xtal = true) ∧ (field v 1 0 ≤ 1 → s.canWake (field v 1 0 == 1)
    = true) :=
  ⟨W.regs [(0x05, 0x050, 0xFFFFFFFF)] W.run, .core, 0x6D000000, by and_intros <;> decide +kernel⟩

theorem test_SleepGuard :
    ∃ (s : State) (m : Master) (v : Word), s.writeGate m 0x05 0x044 v = .pass ∧ field v 31 24 = 0x6D ∧ field v 1 0 ≠
    3 ∧ s.pwr.sleep = none ∧ (field v 1 0 = 1 → s.pwr.xtal = true) ∧ (field v 1 0 ≤ 1 → s.canWake (field v 1 0 == 1)
    = true) :=
  ⟨W.regs [(0x05, 0x050, 0xFFFFFFFF)] W.run, .core, 0x6D000001, by and_intros <;> decide +kernel⟩

theorem test_SleepOff :
    ∃ (s : State) (m : Master) (v : Word), s.writeGate m 0x05 0x044 v = .pass ∧ field v 31 24 = 0x6D ∧ field v 1 0 ≠
    3 ∧ s.pwr.sleep = none ∧ (field v 1 0 = 1 → s.pwr.xtal = true) ∧ (field v 1 0 ≤ 1 → s.canWake (field v 1 0 == 1)
    = true) :=
  ⟨W.run, .core, 0x6D000002, by and_intros <;> decide +kernel⟩

theorem test_EnterStandby :
    ∃ (s : State), ∃ r, s.pwr.sleep = some r ∧ s.sleepReady r.target = true ∧ (s.wakeEnabled 0x10 && s.wakeCond) =
    false ∧ s.pwr.exit = none ∧ s.dead = false ∧ s.pwr.depth = .awake ∧ r.target < 3 :=
  ⟨(W.sleepy 0).updCore (fun c => { c with wfi := true }), { target := 0, due := 9 },
  by and_intros <;> decide +kernel⟩

theorem test_EnterOff :
    ∃ (s : State), ∃ r, s.pwr.sleep = some r ∧ s.sleepReady r.target = true ∧ (s.wakeEnabled 0x10 && s.wakeCond) =
    false ∧ s.pwr.exit = none ∧ s.dead = false ∧ s.pwr.depth = .awake ∧ r.target < 3 :=
  ⟨(W.sleepy 2).updCore (fun c => { c with wfi := true }), { target := 2, due := 9 },
  by and_intros <;> decide +kernel⟩

theorem test_SleepTimeout :
    ∃ (s : State), ∃ r, s.pwr.sleep = some r ∧ s.sleepReady r.target = false :=
  ⟨W.sleepy 0, { target := 0, due := 9 }, by decide +kernel, by decide +kernel⟩

theorem test_SleepAborted :
    ∃ (s : State) (source : BitVec 8), ∃ r, s.pwr.sleep = some r ∧ s.dead = false ∧ s.wakeEnabled source.toNat = true
    ∧ source ≠ 0x10 :=
  ⟨W.sleepy 0, 0x12, { target := 0, due := 9 }, by and_intros <;> decide +kernel⟩

theorem test_WakeStandby :
    ∃ (s : State) (source : BitVec 8), s.dead = false ∧ s.wakeEnabled source.toNat = true ∧ source ≠ 0x10 ∧
    s.pwr.sleep = none ∧ s.pwr.exit = none ∧ ((s.pwr.depth = .standby ∧ (wakesFrom source.toNat).1 = true) ∨
    (s.pwr.depth = .guard ∧ (wakesFrom source.toNat).2 = true)) :=
  ⟨W.asleep .standby, 0x19, by and_intros <;> decide +kernel⟩

theorem test_WakeGuard :
    ∃ (s : State) (source : BitVec 8), s.dead = false ∧ s.wakeEnabled source.toNat = true ∧ source ≠ 0x10 ∧
    s.pwr.sleep = none ∧ s.pwr.exit = none ∧ ((s.pwr.depth = .standby ∧ (wakesFrom source.toNat).1 = true) ∨
    (s.pwr.depth = .guard ∧ (wakesFrom source.toNat).2 = true)) :=
  ⟨W.asleep .guard, 0x18, by and_intros <;> decide +kernel⟩

theorem test_WakeAwake :
    ∃ (s : State) (source : BitVec 8), s.dead = false ∧ s.wakeEnabled source.toNat = true ∧ source ≠ 0x10 ∧
    s.pwr.sleep = none ∧ s.pwr.depth = .awake :=
  ⟨W.asleep .awake, 0x18, by and_intros <;> decide +kernel⟩

theorem test_ExitComplete :
    ∃ (s : State), ∃ d t, s.pwr.exit = some (d, t) ∧ s.dead = false ∧ (d = .standby ∨ d = .guard) :=
  ⟨W.waking .standby, .standby, 4, by and_intros <;> decide +kernel⟩

theorem test_ExitGuard :
    ∃ (s : State), ∃ d t, s.pwr.exit = some (d, t) ∧ s.dead = false ∧ (d = .standby ∨ d = .guard) :=
  ⟨W.waking .guard, .guard, 4, by and_intros <;> decide +kernel⟩

theorem test_TcxoLate :
    ∃ (s : State), ∃ t, s.pwr.exit = some (.guard, t) :=
  ⟨W.waking .guard, 4, by decide +kernel⟩

theorem test_WakeBall :
    ∃ (s : State), s.pwr.por = false ∧ s.pwr.depth = .off :=
  ⟨W.asleep .off, by decide +kernel, by decide +kernel⟩

theorem test_VcoreStep :
    ∃ (s : State) (m : Master) (v : Word) (p : Nat) (now : Nat), p = field v 1 0 ∧ now = field (s.rg 0x05 0x064) 1 0
    ∧ s.writeGate m 0x05 0x060 v = .pass ∧ p ≠ 3 ∧ flag (s.rg 0x05 0x064) 2 = false ∧ field (s.rg 0x06 0x040) 1 0 ≤ p
    ∧ p ≠ now :=
  ⟨W.run, .core, 2, 2, 1, by and_intros <;> decide +kernel⟩

theorem test_VcoreSame :
    ∃ (s : State) (m : Master) (v : Word) (p : Nat) (now : Nat), p = field v 1 0 ∧ now = field (s.rg 0x05 0x064) 1 0
    ∧ s.writeGate m 0x05 0x060 v = .pass ∧ p ≠ 3 ∧ flag (s.rg 0x05 0x064) 2 = false ∧ field (s.rg 0x06 0x040) 1 0 ≤ p
    ∧ p = now :=
  ⟨W.regs [(0x06, 0x040, 0)] W.run, .core, 1, 1, 1, by and_intros <;> decide +kernel⟩

theorem test_Settled :
    ∃ (s : State) (v : Word) (p : Nat) (now : Nat), p = field v 1 0 ∧ now = field (s.rg 0x05 0x064) 1 0 ∧ ∃ t q,
    s.pwr.settle = some (t, q) :=
  ⟨W.pwr (fun p => { p with settle := some (9, 2) }) W.run, 0, 0, 1, by decide +kernel, by decide +kernel, 9, 2,
  by decide +kernel⟩

theorem test_CoreOpp :
    ∃ (s : State) (m : Master) (v : Word) (p : Nat) (now : Nat), p = field v 1 0 ∧ now = field (s.rg 0x05 0x064) 1 0
    ∧ s.writeGate m 0x06 0x040 v = .pass ∧ p ≠ 3 ∧ p ≤ now ∧ flag (s.rg 0x05 0x064) 2 = false ∧ (flag (s.rg 0x05
    0x120) 0 = true → p = 0) ∧ (flag (s.rg 0x05 0x06C) 10 = true → p ≤ 1) :=
  ⟨W.run, .core, 1, 1, 1, by and_intros <;> decide +kernel⟩

theorem test_VinLow :
    ∃ (s : State), s.dead = false ∧ s.pwr.vin = true ∧ s.pwr.cut = false :=
  ⟨W.run, by and_intros <;> decide +kernel⟩

theorem test_VinCut :
    ∃ (s : State), s.dead = false ∧ flag (s.rg 0x05 0x120) 0 = true :=
  ⟨W.regs [(0x05, 0x120, 1)] W.run, by decide +kernel, by decide +kernel⟩

theorem test_VinOk :
    ∃ (s : State), s.dead = false ∧ s.pwr.vin = false ∧ s.pwr.cut = false ∧ flag (s.rg 0x05 0x120) 0 = true :=
  ⟨W.pwr (fun p => { p with vin := false }) (W.regs [(0x05, 0x120, 1)] W.run), by and_intros <;> decide +kernel⟩

theorem test_VinOkCut :
    ∃ (s : State), s.dead = false ∧ s.pwr.vin = false ∧ s.pwr.cut = true :=
  ⟨W.pwr (fun p => { p with vin := false, cut := true }) (W.held 2), by and_intros <;> decide +kernel⟩

theorem test_CrystalStart :
    ∃ (s : State), s.dead = false :=
  ⟨W.run, by decide +kernel⟩

theorem test_TcxoStable :
    ∃ (s : State), s.dead = false ∧ s.pwr.tcxo = false ∧ s.pwr.lost = false ∧ s.pwr.depth ≠ .guard :=
  ⟨W.pwr (fun p => { p with tcxo := false }) W.run, by and_intros <;> decide +kernel⟩

theorem test_TcxoLoss :
    ∃ (s : State), s.dead = false ∧ s.pwr.tcxo = true :=
  ⟨W.run, by decide +kernel, by decide +kernel⟩

theorem test_TcxoReturn :
    ∃ (s : State), s.dead = false ∧ s.pwr.lost = true :=
  ⟨W.pwr (fun p => { p with lost := true }) W.run, by decide +kernel, by decide +kernel⟩

theorem test_Kick :
    ∃ (s : State) (v : Word), s.writeGate .core 0x3C 0x048 v = .pass ∧ field v 15 0 = 0xC35A ∧ (s.svc.normal.running
    = true → s.svc.normal.remaining s.now ≠ 0) :=
  ⟨W.dogs, 0xC35A, by and_intros <;> decide +kernel⟩

theorem test_WdtSame :
    ∃ (s : State) (m : Master) (v : Word), s.writeGate m 0x3C 0x044 v = .pass ∧ flag (s.rg 0x3C 0x044) 31 = false ∧
    field (s.rg 0x3C 0x044) 15 0 = field v 15 0 :=
  ⟨W.dogs, .core, 0x000003E8, by and_intros <;> decide +kernel⟩

theorem test_WdtNew :
    ∃ (s : State) (m : Master) (v : Word), s.writeGate m 0x3C 0x044 v = .pass ∧ flag (s.rg 0x3C 0x044) 31 = false ∧
    field (s.rg 0x3C 0x044) 15 0 ≠ field v 15 0 :=
  ⟨W.dogs, .core, 0x00000001, by and_intros <;> decide +kernel⟩

theorem test_Warn :
    ∃ (s : State), s.dead = false ∧ field (s.rg 0x3C 0x044) 23 16 ≠ 0 ∧ s.svc.normal.running = true ∧
    s.svc.normal.counting = true ∧ s.svc.normal.warned = false ∧ s.wdtFull * field (s.rg 0x3C 0x044) 23 16 / 256 ≤
    s.svc.normal.left :=
  ⟨W.dogs, by and_intros <;> decide +kernel⟩

theorem test_ExpiryNormal :
    ∃ (s : State) (unconf : Bool), s.dead = false ∧ (if unconf then s.svc.unconf else s.svc.normal).running = true ∧
    (if unconf then s.svc.unconf else s.svc.normal).counting = true :=
  ⟨W.dogs, false, by and_intros <;> decide +kernel⟩

theorem test_ExpiryUnconf :
    ∃ (s : State) (unconf : Bool), s.dead = false ∧ (if unconf then s.svc.unconf else s.svc.normal).running = true ∧
    (if unconf then s.svc.unconf else s.svc.normal).counting = true :=
  ⟨W.dogs, true, by and_intros <;> decide +kernel⟩

theorem test_Heartbeat :
    ∃ (s : State), s.dead = false :=
  ⟨W.dogs, by decide +kernel⟩

theorem test_HeartbeatMiss :
    ∃ (s : State) (i : Fin 9), ∃ x, s.svc.beats.find? (fun b => b.1 == i.val) = some x ∧ flag (s.rg 0x3C 0x054) (16 +
    i.val) = false :=
  ⟨({ W.regs [(0x3C, 0x054, 0)] W.run with svc := { beats := [(8, 4)] } }), 8, (8, 4), by decide +kernel,
  by decide +kernel⟩


end Power


namespace Sensors

/-- The running device with a port given a state. -/
def W.port (p : Nat) (x : Port) : State := W.run.putPort p x
/-- A DIN port, a PULSE port measuring both, and a port in a stage of its protection. -/
def W.din (d : Word) (settling : Bool) : Port := { pcfg := 5, aux := d, settling := settling, since := 3 }
def W.meter : Port := { pcfg := 4, aux := 4, periodFrom := some 3, widthFrom := some 3 }
def W.staged (st : QStage) : State := W.port 63 { pcfg := 0x201, stage := st, reason := 1, clamp := 100 }

theorem test_PcfgAin :
    ∃ (s : State) (m : Master) (p : Fin 64) (v : Word), s.writeGate m (portPage p.val) (portOff p.val 0) v = .pass ∧
    auxLegal (field v 3 0) (s.auxReg p.val) = true ∧ (field v 8 6 = 0 ∨ ((field v 3 0 = 1 ∨ (field v 3 0 = 2 ∧ p.val
    % 2 = 0)) ∧ ∀ q, q < 64 → q ≠ p.val → field (s.pcfgReg q) 8 6 ≠ field v 8 6)) ∧ (field v 3 0 = 7 → s.signalTaken
    p.val (s.auxReg p.val) = false) :=
  ⟨W.run, .core, 63, 0x201, by and_intros <;> decide +kernel⟩

theorem test_PcfgExcited :
    ∃ (s : State) (m : Master) (p : Fin 64) (v : Word), s.writeGate m (portPage p.val) (portOff p.val 0) v = .pass ∧
    auxLegal (field v 3 0) (s.auxReg p.val) = true ∧ (field v 8 6 = 0 ∨ ((field v 3 0 = 1 ∨ (field v 3 0 = 2 ∧ p.val
    % 2 = 0)) ∧ ∀ q, q < 64 → q ≠ p.val → field (s.pcfgReg q) 8 6 ≠ field v 8 6)) ∧ (field v 3 0 = 7 → s.signalTaken
    p.val (s.auxReg p.val) = false) :=
  ⟨W.run, .core, 0, 0x241, by and_intros <;> decide +kernel⟩

theorem test_AuxWrite :
    ∃ (s : State) (m : Master) (p : Fin 64) (v : Word), s.writeGate m (portPage p.val) (portOff p.val 4) v = .pass ∧
    auxLegal (s.modeReg p.val) v = true ∧ (s.modeReg p.val = 7 → s.signalTaken p.val v = false) :=
  ⟨W.regs [(0x10, 0x040, 5)] W.run, .core, 0, 12, by and_intros <;> decide +kernel⟩

theorem test_AuxReserved :
    ∃ (s : State) (m : Master) (p : Fin 64) (v : Word), s.writeGate m (portPage p.val) (portOff p.val 4) v = .pass ∧
    auxLegal (s.modeReg p.val) v = false :=
  ⟨W.regs [(0x10, 0x040, 5)] W.run, .core, 0, 13, by decide +kernel, by decide +kernel⟩

theorem test_XbarOff :
    ∃ (s : State) (m : Master) (cv : Fin 20) (v : Word) (late : Option Nat), s.writeGate m 0x18 (convOff cv.val) v =
    .pass ∧ flag v 7 = false ∧ late = (if decide (16 ≤ cv.val) && (v &&& 0xBF) != s.xbar cv.val && s.trig cv.val == 0
    then s.portOn cv.val else (s.conv cv.val).late) :=
  ⟨W.run, .core, 19, 0, none, by and_intros <;> decide +kernel⟩

theorem test_XbarOn :
    ∃ (s : State) (m : Master) (cv : Fin 20) (v : Word) (late : Option Nat), s.writeGate m 0x18 (convOff cv.val) v =
    .pass ∧ flag v 7 = true ∧ late = (if decide (16 ≤ cv.val) && s.trig cv.val == 0 then s.portOn cv.val else (s.conv
    cv.val).late) ∧ analogMode (s.modeReg (field v 5 0)) = true ∧ (s.modeReg (field v 5 0) = 2 → field v 5 0 % 2 = 0)
    ∧ v &&& 0xBF ≠ s.xbar cv.val ∧ (s.conv cv.val).run = none :=
  ⟨W.regs [(0x17, 0x120, 1)] W.run, .core, 19, 0xBF, none, by and_intros <;> decide +kernel⟩

theorem test_XbarUnready :
    ∃ (s : State) (m : Master) (cv : Fin 20) (v : Word), s.writeGate m 0x18 (convOff cv.val) v = .pass ∧ flag v 7 =
    true ∧ analogMode (s.modeReg (field v 5 0)) = false :=
  ⟨W.run, .core, 0, 0x80, by and_intros <;> decide +kernel⟩

theorem test_PulseEdge :
    ∃ (s : State) (p : Fin 64) (x : Port), x = s.port p.val ∧ x.quarantined = false ∧ ∃ (rising : Bool) (start :
    Bool) (active : Bool), s.unavailable .sense = false ∧ x.mode = 4 ∧ start = decide (rising = decide (field x.aux 1
    0 ≠ 1)) ∧ active = (decide (field x.aux 1 0 = 2) || start) :=
  ⟨W.port 63 { pcfg := 4 }, 63, { pcfg := 4 }, by decide +kernel, by decide +kernel, true, true, true,
  by and_intros <;> decide +kernel⟩

theorem test_PulsePeriod :
    ∃ (s : State) (p : Fin 64) (x : Port), x = s.port p.val ∧ x.quarantined = false ∧ ∃ (rising : Bool) (start :
    Bool) (active : Bool), s.unavailable .sense = false ∧ x.mode = 4 ∧ start = decide (rising = decide (field x.aux 1
    0 ≠ 1)) ∧ active = (decide (field x.aux 1 0 = 2) || start) :=
  ⟨W.port 63 { pcfg := 4, aux := 4, periodFrom := some 0, widthFrom := some 0 }, 63,
  { pcfg := 4, aux := 4, periodFrom := some 0, widthFrom := some 0 }, by decide +kernel, by decide +kernel, true,
  true, true, by and_intros <;> decide +kernel⟩

theorem test_PulseWidth :
    ∃ (s : State) (p : Fin 64) (x : Port), x = s.port p.val ∧ x.quarantined = false ∧ ∃ (rising : Bool) (start :
    Bool) (active : Bool), s.unavailable .sense = false ∧ x.mode = 4 ∧ start = decide (rising = decide (field x.aux 1
    0 ≠ 1)) ∧ active = (decide (field x.aux 1 0 = 2) || start) :=
  ⟨W.port 63 { pcfg := 4, aux := 4, periodFrom := some 0, widthFrom := some 0 }, 63,
  { pcfg := 4, aux := 4, periodFrom := some 0, widthFrom := some 0 }, by decide +kernel, by decide +kernel, false,
  false, false, by and_intros <;> decide +kernel⟩

theorem test_WidthEnds :
    ∃ (s : State) (p : Fin 64) (x : Port), x = s.port p.val ∧ x.quarantined = false ∧ ∃ t, x.mode = 4 ∧ flag x.aux 2
    = true ∧ x.widthFrom = some t :=
  ⟨W.port 0 W.meter, 0, W.meter, by decide +kernel, by decide +kernel, 3, by and_intros <;> decide +kernel⟩

theorem test_PeriodEnds :
    ∃ (s : State) (p : Fin 64) (x : Port), x = s.port p.val ∧ x.quarantined = false ∧ ∃ t, x.mode = 4 ∧ flag x.aux 2
    = true ∧ x.periodFrom = some t :=
  ⟨W.port 0 W.meter, 0, W.meter, by decide +kernel, by decide +kernel, 3, by and_intros <;> decide +kernel⟩

theorem test_DinAtOnce :
    ∃ (s : State) (p : Fin 64) (x : Port), x = s.port p.val ∧ x.quarantined = false ∧ ∃ (level : Bool), level ≠
    x.level ∧ x.mode = 5 ∧ field x.aux 3 0 = 0 :=
  ⟨W.port 0 (W.din 0 false), 0, W.din 0 false, by decide +kernel, by decide +kernel, true,
  by and_intros <;> decide +kernel⟩

theorem test_DinDebounced :
    ∃ (s : State) (p : Fin 64) (x : Port), x = s.port p.val ∧ x.quarantined = false ∧ ∃ (level : Bool), level ≠
    x.level ∧ x.mode = 5 ∧ field x.aux 3 0 ≠ 0 :=
  ⟨W.port 0 (W.din 12 false), 0, W.din 12 false, by decide +kernel, by decide +kernel, true,
  by and_intros <;> decide +kernel⟩

theorem test_Debounced :
    ∃ (s : State) (p : Fin 64) (x : Port), x = s.port p.val ∧ x.quarantined = false ∧ ∃ (new : BitVec 24), x.mode = 5
    ∧ x.settling = true ∧ new = BitVec.ofNat 24 (bit x.level) :=
  ⟨W.port 0 (W.din 12 true), 0, W.din 12 true, by decide +kernel, by decide +kernel, 0,
  by and_intros <;> decide +kernel⟩

theorem test_ClampTrips :
    ∃ (s : State) (p : Fin 64) (x : Port), x = s.port p.val ∧ ∃ (hi : Bool) (ua : Nat) (s1 : State), s.unavailable
    .sense = false ∧ x.stage = .service ∧ flag x.pcfg 9 = true ∧ (if hi then s.tripHi else s.tripLo) < ua ∧ s1 =
    (s.putPort p.val { x with clamp := ua }).portLines p.val :=
  ⟨W.port 63 {}, 63, {}, by decide +kernel, true, 50001, _, by decide +kernel, by decide +kernel, by decide +kernel,
  by decide +kernel, rfl⟩

theorem test_Settles :
    ∃ (s : State) (p : Fin 64) (x : Port), x = s.port p.val ∧ ∃ due, x.stage = .settling due ∧ x.clamp ≤ s.tripLo :=
  ⟨W.staged (.settling 9), 63, (W.staged (.settling 9)).port 63, by decide +kernel, 9, by decide +kernel,
  by decide +kernel⟩

theorem test_TestPasses :
    ∃ (s : State) (p : Fin 64) (x : Port), x = s.port p.val ∧ ∃ due, x.stage = .testing due :=
  ⟨W.staged (.testing 9), 63, (W.staged (.testing 9)).port 63, by decide +kernel, 9, by decide +kernel⟩

theorem test_TestFails :
    ∃ (s : State) (p : Fin 64) (x : Port), x = s.port p.val ∧ ∃ (due : Stamp) (r : BitVec 4), r ∈ [3, 4, 5, 6, 8] ∧
    x.stage = .testing due :=
  ⟨W.staged (.testing 9), 63, (W.staged (.testing 9)).port 63, by decide +kernel, 9, 8, by decide +kernel,
  by decide +kernel⟩

theorem test_TestReason :
    ∃ (s : State) (p : Fin 64) (x : Port), x = s.port p.val ∧ ∃ (r : BitVec 4), r ∉ [0, 3, 4, 5, 6, 8] :=
  ⟨W.staged (.testing 9), 63, (W.staged (.testing 9)).port 63, by decide +kernel, 7, by decide +kernel⟩

theorem test_NextTry :
    ∃ (s : State) (p : Fin 64) (x : Port), x = s.port p.val ∧ ∃ due, x.stage = .waiting due :=
  ⟨W.staged (.waiting 9), 63, (W.staged (.waiting 9)).port 63, by decide +kernel, 9, by decide +kernel⟩

theorem test_CalDone :
    ∃ (s : State) (tag : Fin 128), s.running tag.val 0x18 1 = true ∧ s.ready 0x18 = true ∧ (∀ cv, cv < 20 → flag
    ((s.slot tag.val).arg 0) cv = true → s.xbarEn cv = false) :=
  ⟨W.op 0x18 1 [0xFFFFF] W.run, 0, by and_intros <;> decide +kernel⟩

theorem test_CalState :
    ∃ (s : State) (tag : Fin 128), ∃ cv, cv < 20 ∧ s.running tag.val 0x18 1 = true ∧ s.ready 0x18 = true ∧ flag
    ((s.slot tag.val).arg 0) cv = true ∧ s.xbarEn cv = true :=
  ⟨W.op 0x18 1 [0xFFFFF] (W.regs [(0x18, 0x170, 0x80)] W.run), 0, 19, by and_intros <;> decide +kernel⟩

theorem test_PortTest :
    ∃ (s : State) (tag : Fin 128) (p : Nat) (q : Bool), p = field ((s.slot tag.val).arg 0) 5 0 ∧ s.running tag.val
    0x18 2 = true ∧ (s.port p).stage = .opTest q :=
  ⟨W.op 0x18 2 [63] (W.staged (.opTest true)), 0, 63, true, by and_intros <;> decide +kernel⟩

theorem test_Compliance :
    ∃ (s : State) (n : Fin 4) (ovr : Bool), s.ready 0x18 = true ∧ (ovr = true → field (s.rg 0x18 (0x180 + 4 * n.val))
    2 0 ≠ 0) :=
  ⟨W.regs [(0x18, 0x18C, 6)] W.run, 3, true, by decide +kernel, by decide +kernel⟩

theorem test_Overload :
    ∃ (s : State) (n : Fin 2) (ovr : Bool), s.ready 0x18 = true ∧ (ovr = true → flag (s.rg 0x18 0x190) n.val = true) :=
  ⟨W.regs [(0x18, 0x190, 3)] W.run, 1, true, by decide +kernel, by decide +kernel⟩


end Sensors


namespace GleanerA

/-- A two-wire, SPC or UART unit whose signals ports 0 up carry, with a transfer of slot 0 in progress. -/
def W.bus (kind sigs : Nat) (f : BusUnit → BusUnit) (op : Nat) (args : List Word) (sent : Option Stamp) : State :=
  let s := (List.range sigs).foldl (fun (s : State) k =>
    s.putPort k { pcfg := 7, aux := BitVec.ofNat 32 (64 * kind + k) }) (W.op 0x32 op args W.run)
  s.putUnit (4 * kind) (f { queue := [{ op := op, args := args, sent := sent }] })

theorem test_SpcRuns :
    ∃ (s : State) (n : Fin 4) (u : Nat) (x : Xfer) (rest : List Xfer) (tag : BitVec 7), (s.unit u).queue = x :: rest
    ∧ x.user = .slot tag ∧ s.running tag.toNat 0x32 x.op = true ∧ u = 4 + n.val ∧ s.signalFault u x.user (s.signalsOf
    u x) = none :=
  ⟨W.bus 1 4 id 1 [0x003F0100, 0x55000000] none, 0, 4, { op := 1, args := [0x003F0100, 0x55000000] }, [], 0,
  by and_intros <;> decide +kernel⟩

theorem test_SpcUnwired :
    ∃ (s : State) (n : Fin 4) (u : Nat) (x : Xfer) (rest : List Xfer) (tag : BitVec 7), (s.unit u).queue = x :: rest
    ∧ x.user = .slot tag ∧ s.running tag.toNat 0x32 x.op = true ∧ u = 4 + n.val ∧ ∃ c, s.signalFault u x.user
    (s.signalsOf u x) = some c :=
  ⟨W.bus 1 3 id 1 [0x003F0100, 0x55000000] none, 0, 4, { op := 1, args := [0x003F0100, 0x55000000] }, [], 0,
  by decide +kernel, by decide +kernel, by decide +kernel, by decide +kernel, .state, by decide +kernel⟩

theorem test_UartSends :
    ∃ (s : State) (n : Fin 4) (u : Nat) (x : Xfer) (rest : List Xfer) (tag : BitVec 7), (s.unit u).queue = x :: rest
    ∧ x.user = .slot tag ∧ s.running tag.toNat 0x32 x.op = true ∧ u = 8 + n.val ∧ x.sent = none ∧ s.signalFault u
    x.user (s.signalsOf u x) = none ∧ field (x.arg 0) 23 16 ≠ 0 ∧ ∃ (all : List Byte), all = x.bytes 1 (field (x.arg
    0) 12 8) ++ (if flag (x.arg 0) 2 then s.uartCheck u (x.bytes 1 (field (x.arg 0) 12 8)) else []) :=
  ⟨W.bus 2 3 id 2 [0x3F010100, 0x55000000] none, 0, 8, { op := 2, args := [0x3F010100, 0x55000000] }, [], 0,
  by decide +kernel, by decide +kernel, by decide +kernel, by decide +kernel, ⟨by decide +kernel, by decide +kernel,
  by decide +kernel, [0x55], by decide +kernel⟩⟩

theorem test_UartReplies :
    ∃ (s : State) (n : Fin 4) (u : Nat) (x : Xfer) (rest : List Xfer) (tag : BitVec 7), (s.unit u).queue = x :: rest
    ∧ x.user = .slot tag ∧ s.running tag.toNat 0x32 x.op = true ∧ u = 8 + n.val ∧ ∃ (came : List HeardByte),
    x.sent.isSome = true ∧ s.uartHeard u came ≠ [] ∧ flag (x.arg 0) 2 = false ∧ (s.uartHeard u came).length ≤ field
    (x.arg 0) 23 16 :=
  ⟨W.bus 2 2 id 2 [0x3F010100, 0x55000000] (some 4), 0, 8,
  { op := 2, args := [0x3F010100, 0x55000000], sent := some 4 }, [], 0, by decide +kernel, by decide +kernel,
  by decide +kernel, by decide +kernel, [{ byte := 7 }], by and_intros <;> decide +kernel⟩

theorem test_UartEmpty :
    ∃ (s : State) (n : Fin 4) (u : Nat) (x : Xfer) (rest : List Xfer) (tag : BitVec 7), (s.unit u).queue = x :: rest
    ∧ x.user = .slot tag ∧ s.running tag.toNat 0x32 x.op = true ∧ u = 8 + n.val :=
  ⟨W.bus 2 2 id 2 [0x3F010100, 0x55000000] (some 4), 0, 8,
  { op := 2, args := [0x3F010100, 0x55000000], sent := some 4 }, [], 0, by and_intros <;> decide +kernel⟩

theorem test_UartSilent :
    ∃ (s : State) (n : Fin 4) (u : Nat) (x : Xfer) (rest : List Xfer) (tag : BitVec 7), (s.unit u).queue = x :: rest
    ∧ x.user = .slot tag ∧ s.running tag.toNat 0x32 x.op = true ∧ u = 8 + n.val ∧ ∃ t0, x.sent = some t0 :=
  ⟨W.bus 2 2 id 2 [0x3F010100, 0x55000000] (some 4), 0, 8,
  { op := 2, args := [0x3F010100, 0x55000000], sent := some 4 }, [], 0, by decide +kernel, by decide +kernel,
  by decide +kernel, by decide +kernel, 4, by decide +kernel⟩

theorem test_TwcAcked :
    ∃ (s : State) (n : Fin 4) (u : Nat) (x : Xfer) (rest : List Xfer) (tag : BitVec 7), (s.unit u).queue = x :: rest
    ∧ x.user = .slot tag ∧ s.running tag.toNat 0x32 x.op = true ∧ u = n.val ∧ (s.unit u).target = false ∧
    s.signalFault u x.user [0, 1] = none :=
  ⟨W.bus 0 2 id 3 [0x3F010100, 0x55000000] none, 0, 0, { op := 3, args := [0x3F010100, 0x55000000] }, [], 0,
  by and_intros <;> decide +kernel⟩

theorem test_TwcRefused :
    ∃ (s : State) (n : Fin 4) (u : Nat) (x : Xfer) (rest : List Xfer) (tag : BitVec 7), (s.unit u).queue = x :: rest
    ∧ x.user = .slot tag ∧ s.running tag.toNat 0x32 x.op = true ∧ u = n.val ∧ (s.unit u).target = false ∧
    s.signalFault u x.user [0, 1] = none :=
  ⟨W.bus 0 2 id 3 [0x3F010100, 0x55000000] none, 0, 0, { op := 3, args := [0x3F010100, 0x55000000] }, [], 0,
  by and_intros <;> decide +kernel⟩

theorem test_ArbLost :
    ∃ (s : State) (n : Fin 4), ∃ x rest, (s.unit n.val).queue = x :: rest ∧ (s.unit n.val).target = false ∧ (s.unit
    n.val).losses + 1 ≤ field (s.twcCfg n.val) 18 16 :=
  ⟨W.bus 0 2 id 3 [0x3F010100, 0x55000000] none, 0, { op := 3, args := [0x3F010100, 0x55000000] }, [],
  by and_intros <;> decide +kernel⟩

theorem test_Stretch :
    ∃ (s : State) (n : Fin 4), ∃ x rest tag, (s.unit n.val).queue = x :: rest ∧ (s.unit n.val).target = false ∧
    x.user = .slot tag ∧ s.running tag.toNat 0x32 x.op = true :=
  ⟨W.bus 0 2 id 3 [0x3F010100, 0x55000000] none, 0, { op := 3, args := [0x3F010100, 0x55000000] }, [], 0,
  by and_intros <;> decide +kernel⟩

theorem test_Target :
    ∃ (s : State) (n : Fin 4) (addr : BitVec 7), s.ready 0x32 = true ∧ s.unavailable .sense = false ∧ s.signalFault
    n.val .nobody [0, 1] = none ∧ s.calls n.val addr = true :=
  ⟨W.regs [(0x32, 0x044, 0x85)] (W.bus 0 2 (fun _ => {}) 3 [] none), 0, 5, by and_intros <;> decide +kernel⟩

theorem test_RxdByte :
    ∃ (s : State) (m : Master) (u : Fin 12) (b : Byte) (rest : List Byte), s.readGate m 0x32 (rxdOff u.val) = .pass ∧
    (s.unit u.val).rxd = b :: rest :=
  ⟨W.bus 2 2 (fun x => { x with rxd := [7] }) 2 [] none, .core, 8, 7, [], by decide +kernel, by decide +kernel⟩

theorem test_RxdEmpty :
    ∃ (s : State) (m : Master) (u : Fin 12), s.readGate m 0x32 (rxdOff u.val) = .pass ∧ (s.unit u.val).rxd = [] :=
  ⟨W.run, .core, 11, by decide +kernel, by decide +kernel⟩


end GleanerA


namespace GleanerB

/-- Thread 0 READY at address 5 of a store that holds one instruction there, its r1 and r2 holding 7 and 3. -/
def W.word (w : Word) : State :=
  let s := W.regs [(0x0A, 0x008, 1), (0x0A, 0x100, 0xFF00), (0x0A, 0x124, 7), (0x0A, 0x128, 3)] W.run
  { s with gle := { s.gle with threads := [(0, { st := .ready, pc := 5, stamp := 9 })], store := [(5, w), (9, 0x003F0101), (10, 0x3F010100)] } }
def W.g (i : GInstr) : State := W.word i.encode
/-- Thread 0 with a state of its own. -/
def W.thr (h : Thread) : State := (W.regs [(0x0A, 0x008, 1), (0x0A, 0x104, 2), (0x0A, 0x108, 16)] W.run).putThread 0 h
/-- A PUSH, PUSHR or FEED blocked, before its result. -/
def W.pushed (i : GInstr) : State :=
  ((W.g i).issued 0).updThread 0 (fun h => { h with st := .blocked, block := .result none true, res := none })
def W.loading : State :=
  { W.op 0x0A 1 [] W.run with gle := { load := some { slot := 0, flash := true, addr := 0, dest := 0xFFF, count := 1 } } }

theorem test_IssueCounts :
    ∃ (s : State) (t : Nat), s.gle.stops = [] ∧ t < 16 :=
  ⟨W.g .nop, 0, by decide +kernel, by decide +kernel⟩

theorem test_Nop :
    ∃ (s : State) (u : State) (t : Fin 16) (i : GInstr), u = s.issued t.val ∧ s.chosen t.val = true ∧ GInstr.decode
    (s.pword (s.thread t.val).pc.toNat) = some i ∧ s.overBudget t.val = false ∧ s.parityBad (s.thread t.val).pc.toNat
    = false ∧ i = .nop :=
  ⟨W.g (.nop), _, 0, .nop, rfl, by and_intros <;> decide +kernel⟩

theorem test_Ldi :
    ∃ (s : State) (u : State) (t : Fin 16) (i : GInstr) (rd : BitVec 3), u = s.issued t.val ∧ s.chosen t.val = true ∧
    GInstr.decode (s.pword (s.thread t.val).pc.toNat) = some i ∧ s.overBudget t.val = false ∧ s.parityBad (s.thread
    t.val).pc.toNat = false ∧ ∃ imm, i = .ldi rd imm :=
  ⟨W.g (.ldi 3 0x7FFFFF), _, 0, .ldi 3 0x7FFFFF, 3, rfl, by decide +kernel, by decide +kernel, by decide +kernel,
  by decide +kernel, 0x7FFFFF, by decide +kernel⟩

theorem test_Lui :
    ∃ (s : State) (u : State) (t : Fin 16) (i : GInstr) (rd : BitVec 3), u = s.issued t.val ∧ s.chosen t.val = true ∧
    GInstr.decode (s.pword (s.thread t.val).pc.toNat) = some i ∧ s.overBudget t.val = false ∧ s.parityBad (s.thread
    t.val).pc.toNat = false ∧ ∃ imm, i = .lui rd imm :=
  ⟨W.g (.lui 3 0x8000), _, 0, .lui 3 0x8000, 3, rfl, by decide +kernel, by decide +kernel, by decide +kernel,
  by decide +kernel, 0x8000, by decide +kernel⟩

theorem test_Rc :
    ∃ (s : State) (u : State) (t : Fin 16) (i : GInstr) (rd : BitVec 3), u = s.issued t.val ∧ s.chosen t.val = true ∧
    GInstr.decode (s.pword (s.thread t.val).pc.toNat) = some i ∧ s.overBudget t.val = false ∧ s.parityBad (s.thread
    t.val).pc.toNat = false ∧ i = .rc rd :=
  ⟨W.g (.rc 3), _, 0, .rc 3, 3, rfl, by and_intros <;> decide +kernel⟩

theorem test_Add :
    ∃ (s : State) (u : State) (t : Fin 16) (i : GInstr) (rd : BitVec 3) (ra : BitVec 3) (rb : BitVec 3), u = s.issued
    t.val ∧ s.chosen t.val = true ∧ GInstr.decode (s.pword (s.thread t.val).pc.toNat) = some i ∧ s.overBudget t.val =
    false ∧ s.parityBad (s.thread t.val).pc.toNat = false ∧ ∃ (a : Word) (b : Word), a = u.greg t.val ra.toNat ∧ b =
    u.greg t.val rb.toNat ∧ i = .alu .add rd ra rb :=
  ⟨W.g (.alu .add 3 1 2), _, 0, .alu .add 3 1 2, 3, 1, 2, rfl, by decide +kernel, by decide +kernel,
  by decide +kernel, by decide +kernel, 7, 3, by and_intros <;> decide +kernel⟩

theorem test_Sub :
    ∃ (s : State) (u : State) (t : Fin 16) (i : GInstr) (rd : BitVec 3) (ra : BitVec 3) (rb : BitVec 3), u = s.issued
    t.val ∧ s.chosen t.val = true ∧ GInstr.decode (s.pword (s.thread t.val).pc.toNat) = some i ∧ s.overBudget t.val =
    false ∧ s.parityBad (s.thread t.val).pc.toNat = false ∧ ∃ (a : Word) (b : Word), a = u.greg t.val ra.toNat ∧ b =
    u.greg t.val rb.toNat ∧ i = .alu .sub rd ra rb :=
  ⟨W.g (.alu .sub 3 1 2), _, 0, .alu .sub 3 1 2, 3, 1, 2, rfl, by decide +kernel, by decide +kernel,
  by decide +kernel, by decide +kernel, 7, 3, by and_intros <;> decide +kernel⟩

theorem test_And :
    ∃ (s : State) (u : State) (t : Fin 16) (i : GInstr) (rd : BitVec 3) (ra : BitVec 3) (rb : BitVec 3), u = s.issued
    t.val ∧ s.chosen t.val = true ∧ GInstr.decode (s.pword (s.thread t.val).pc.toNat) = some i ∧ s.overBudget t.val =
    false ∧ s.parityBad (s.thread t.val).pc.toNat = false ∧ ∃ (a : Word) (b : Word), a = u.greg t.val ra.toNat ∧ b =
    u.greg t.val rb.toNat ∧ i = .alu .and rd ra rb :=
  ⟨W.g (.alu .and 3 1 2), _, 0, .alu .and 3 1 2, 3, 1, 2, rfl, by decide +kernel, by decide +kernel,
  by decide +kernel, by decide +kernel, 7, 3, by and_intros <;> decide +kernel⟩

theorem test_Or :
    ∃ (s : State) (u : State) (t : Fin 16) (i : GInstr) (rd : BitVec 3) (ra : BitVec 3) (rb : BitVec 3), u = s.issued
    t.val ∧ s.chosen t.val = true ∧ GInstr.decode (s.pword (s.thread t.val).pc.toNat) = some i ∧ s.overBudget t.val =
    false ∧ s.parityBad (s.thread t.val).pc.toNat = false ∧ ∃ (a : Word) (b : Word), a = u.greg t.val ra.toNat ∧ b =
    u.greg t.val rb.toNat ∧ i = .alu .or rd ra rb :=
  ⟨W.g (.alu .or 3 1 2), _, 0, .alu .or 3 1 2, 3, 1, 2, rfl, by decide +kernel, by decide +kernel, by decide +kernel,
  by decide +kernel, 7, 3, by and_intros <;> decide +kernel⟩

theorem test_Xor :
    ∃ (s : State) (u : State) (t : Fin 16) (i : GInstr) (rd : BitVec 3) (ra : BitVec 3) (rb : BitVec 3), u = s.issued
    t.val ∧ s.chosen t.val = true ∧ GInstr.decode (s.pword (s.thread t.val).pc.toNat) = some i ∧ s.overBudget t.val =
    false ∧ s.parityBad (s.thread t.val).pc.toNat = false ∧ ∃ (a : Word) (b : Word), a = u.greg t.val ra.toNat ∧ b =
    u.greg t.val rb.toNat ∧ i = .alu .xor rd ra rb :=
  ⟨W.g (.alu .xor 3 1 2), _, 0, .alu .xor 3 1 2, 3, 1, 2, rfl, by decide +kernel, by decide +kernel,
  by decide +kernel, by decide +kernel, 7, 3, by and_intros <;> decide +kernel⟩

theorem test_Shl :
    ∃ (s : State) (u : State) (t : Fin 16) (i : GInstr) (rd : BitVec 3) (ra : BitVec 3) (rb : BitVec 3), u = s.issued
    t.val ∧ s.chosen t.val = true ∧ GInstr.decode (s.pword (s.thread t.val).pc.toNat) = some i ∧ s.overBudget t.val =
    false ∧ s.parityBad (s.thread t.val).pc.toNat = false ∧ ∃ (a : Word) (b : Word), a = u.greg t.val ra.toNat ∧ b =
    u.greg t.val rb.toNat ∧ i = .alu .shl rd ra rb :=
  ⟨W.g (.alu .shl 3 1 2), _, 0, .alu .shl 3 1 2, 3, 1, 2, rfl, by decide +kernel, by decide +kernel,
  by decide +kernel, by decide +kernel, 7, 3, by and_intros <;> decide +kernel⟩

theorem test_Shr :
    ∃ (s : State) (u : State) (t : Fin 16) (i : GInstr) (rd : BitVec 3) (ra : BitVec 3) (rb : BitVec 3), u = s.issued
    t.val ∧ s.chosen t.val = true ∧ GInstr.decode (s.pword (s.thread t.val).pc.toNat) = some i ∧ s.overBudget t.val =
    false ∧ s.parityBad (s.thread t.val).pc.toNat = false ∧ ∃ (a : Word) (b : Word), a = u.greg t.val ra.toNat ∧ b =
    u.greg t.val rb.toNat ∧ i = .alu .shr rd ra rb :=
  ⟨W.g (.alu .shr 3 1 2), _, 0, .alu .shr 3 1 2, 3, 1, 2, rfl, by decide +kernel, by decide +kernel,
  by decide +kernel, by decide +kernel, 7, 3, by and_intros <;> decide +kernel⟩

theorem test_Sra :
    ∃ (s : State) (u : State) (t : Fin 16) (i : GInstr) (rd : BitVec 3) (ra : BitVec 3) (rb : BitVec 3), u = s.issued
    t.val ∧ s.chosen t.val = true ∧ GInstr.decode (s.pword (s.thread t.val).pc.toNat) = some i ∧ s.overBudget t.val =
    false ∧ s.parityBad (s.thread t.val).pc.toNat = false ∧ ∃ (a : Word) (b : Word), a = u.greg t.val ra.toNat ∧ b =
    u.greg t.val rb.toNat ∧ i = .alu .sra rd ra rb :=
  ⟨W.g (.alu .sra 3 1 2), _, 0, .alu .sra 3 1 2, 3, 1, 2, rfl, by decide +kernel, by decide +kernel,
  by decide +kernel, by decide +kernel, 7, 3, by and_intros <;> decide +kernel⟩

theorem test_Mul :
    ∃ (s : State) (u : State) (t : Fin 16) (i : GInstr) (rd : BitVec 3) (ra : BitVec 3) (rb : BitVec 3), u = s.issued
    t.val ∧ s.chosen t.val = true ∧ GInstr.decode (s.pword (s.thread t.val).pc.toNat) = some i ∧ s.overBudget t.val =
    false ∧ s.parityBad (s.thread t.val).pc.toNat = false ∧ ∃ (a : Word) (b : Word), a = u.greg t.val ra.toNat ∧ b =
    u.greg t.val rb.toNat ∧ i = .alu .mul rd ra rb :=
  ⟨W.g (.alu .mul 3 1 2), _, 0, .alu .mul 3 1 2, 3, 1, 2, rfl, by decide +kernel, by decide +kernel,
  by decide +kernel, by decide +kernel, 7, 3, by and_intros <;> decide +kernel⟩

theorem test_Addi :
    ∃ (s : State) (u : State) (t : Fin 16) (i : GInstr) (rd : BitVec 3) (ra : BitVec 3) (rb : BitVec 3), u = s.issued
    t.val ∧ s.chosen t.val = true ∧ GInstr.decode (s.pword (s.thread t.val).pc.toNat) = some i ∧ s.overBudget t.val =
    false ∧ s.parityBad (s.thread t.val).pc.toNat = false ∧ ∃ (a : Word) (b : Word), a = u.greg t.val ra.toNat ∧ b =
    u.greg t.val rb.toNat ∧ ∃ imm, i = .addi rd ra imm :=
  ⟨W.g (.addi 3 1 0x1FFFF), _, 0, .addi 3 1 0x1FFFF, 3, 1, 2, rfl, by decide +kernel, by decide +kernel,
  by decide +kernel, by decide +kernel, 7, 3, by decide +kernel, by decide +kernel, 0x1FFFF, by decide +kernel⟩

theorem test_Andi :
    ∃ (s : State) (u : State) (t : Fin 16) (i : GInstr) (rd : BitVec 3) (ra : BitVec 3) (rb : BitVec 3), u = s.issued
    t.val ∧ s.chosen t.val = true ∧ GInstr.decode (s.pword (s.thread t.val).pc.toNat) = some i ∧ s.overBudget t.val =
    false ∧ s.parityBad (s.thread t.val).pc.toNat = false ∧ ∃ (a : Word) (b : Word), a = u.greg t.val ra.toNat ∧ b =
    u.greg t.val rb.toNat ∧ ∃ imm, i = .andi rd ra imm :=
  ⟨W.g (.andi 3 1 0x1FFFF), _, 0, .andi 3 1 0x1FFFF, 3, 1, 2, rfl, by decide +kernel, by decide +kernel,
  by decide +kernel, by decide +kernel, 7, 3, by decide +kernel, by decide +kernel, 0x1FFFF, by decide +kernel⟩

theorem test_Ori :
    ∃ (s : State) (u : State) (t : Fin 16) (i : GInstr) (rd : BitVec 3) (ra : BitVec 3) (rb : BitVec 3), u = s.issued
    t.val ∧ s.chosen t.val = true ∧ GInstr.decode (s.pword (s.thread t.val).pc.toNat) = some i ∧ s.overBudget t.val =
    false ∧ s.parityBad (s.thread t.val).pc.toNat = false ∧ ∃ (a : Word) (b : Word), a = u.greg t.val ra.toNat ∧ b =
    u.greg t.val rb.toNat ∧ ∃ imm, i = .ori rd ra imm :=
  ⟨W.g (.ori 3 1 0x1FFFF), _, 0, .ori 3 1 0x1FFFF, 3, 1, 2, rfl, by decide +kernel, by decide +kernel,
  by decide +kernel, by decide +kernel, 7, 3, by decide +kernel, by decide +kernel, 0x1FFFF, by decide +kernel⟩

theorem test_Shli :
    ∃ (s : State) (u : State) (t : Fin 16) (i : GInstr) (rd : BitVec 3) (ra : BitVec 3) (rb : BitVec 3), u = s.issued
    t.val ∧ s.chosen t.val = true ∧ GInstr.decode (s.pword (s.thread t.val).pc.toNat) = some i ∧ s.overBudget t.val =
    false ∧ s.parityBad (s.thread t.val).pc.toNat = false ∧ ∃ (a : Word) (b : Word), a = u.greg t.val ra.toNat ∧ b =
    u.greg t.val rb.toNat ∧ ∃ sh, i = .shift .shl rd ra sh :=
  ⟨W.g (.shift .shl 3 1 31), _, 0, .shift .shl 3 1 31, 3, 1, 2, rfl, by decide +kernel, by decide +kernel,
  by decide +kernel, by decide +kernel, 7, 3, by decide +kernel, by decide +kernel, 31, by decide +kernel⟩

theorem test_Shri :
    ∃ (s : State) (u : State) (t : Fin 16) (i : GInstr) (rd : BitVec 3) (ra : BitVec 3) (rb : BitVec 3), u = s.issued
    t.val ∧ s.chosen t.val = true ∧ GInstr.decode (s.pword (s.thread t.val).pc.toNat) = some i ∧ s.overBudget t.val =
    false ∧ s.parityBad (s.thread t.val).pc.toNat = false ∧ ∃ (a : Word) (b : Word), a = u.greg t.val ra.toNat ∧ b =
    u.greg t.val rb.toNat ∧ ∃ sh, i = .shift .shr rd ra sh :=
  ⟨W.g (.shift .shr 3 1 31), _, 0, .shift .shr 3 1 31, 3, 1, 2, rfl, by decide +kernel, by decide +kernel,
  by decide +kernel, by decide +kernel, 7, 3, by decide +kernel, by decide +kernel, 31, by decide +kernel⟩

theorem test_Srai :
    ∃ (s : State) (u : State) (t : Fin 16) (i : GInstr) (rd : BitVec 3) (ra : BitVec 3) (rb : BitVec 3), u = s.issued
    t.val ∧ s.chosen t.val = true ∧ GInstr.decode (s.pword (s.thread t.val).pc.toNat) = some i ∧ s.overBudget t.val =
    false ∧ s.parityBad (s.thread t.val).pc.toNat = false ∧ ∃ (a : Word) (b : Word), a = u.greg t.val ra.toNat ∧ b =
    u.greg t.val rb.toNat ∧ ∃ sh, i = .shift .sra rd ra sh :=
  ⟨W.g (.shift .sra 3 1 31), _, 0, .shift .sra 3 1 31, 3, 1, 2, rfl, by decide +kernel, by decide +kernel,
  by decide +kernel, by decide +kernel, 7, 3, by decide +kernel, by decide +kernel, 31, by decide +kernel⟩

theorem test_Beq :
    ∃ (s : State) (u : State) (t : Fin 16) (i : GInstr) (ra : BitVec 3) (rb : BitVec 3) (off : BitVec 12) (taken :
    Bool), u = s.issued t.val ∧ s.chosen t.val = true ∧ GInstr.decode (s.pword (s.thread t.val).pc.toNat) = some i ∧
    s.overBudget t.val = false ∧ s.parityBad (s.thread t.val).pc.toNat = false ∧ ∃ (a : Word) (b : Word) (target :
    Int), a = u.greg t.val ra.toNat ∧ b = u.greg t.val rb.toNat ∧ target = (u.fpc t.val : Int) + 1 + off.toInt ∧ 0 ≤
    target ∧ target ≤ 0xFFF ∧ i = .branch .eq ra rb off ∧ taken = decide (a = b) :=
  ⟨W.g (.branch .eq 1 2 0xFFA), _, 0, .branch .eq 1 2 0xFFA, 1, 2, 0xFFA, false, rfl, by decide +kernel,
  by decide +kernel, by decide +kernel, by decide +kernel, 7, 3, 0, by and_intros <;> decide +kernel⟩

theorem test_Bne :
    ∃ (s : State) (u : State) (t : Fin 16) (i : GInstr) (ra : BitVec 3) (rb : BitVec 3) (off : BitVec 12) (taken :
    Bool), u = s.issued t.val ∧ s.chosen t.val = true ∧ GInstr.decode (s.pword (s.thread t.val).pc.toNat) = some i ∧
    s.overBudget t.val = false ∧ s.parityBad (s.thread t.val).pc.toNat = false ∧ ∃ (a : Word) (b : Word) (target :
    Int), a = u.greg t.val ra.toNat ∧ b = u.greg t.val rb.toNat ∧ target = (u.fpc t.val : Int) + 1 + off.toInt ∧ 0 ≤
    target ∧ target ≤ 0xFFF ∧ i = .branch .ne ra rb off ∧ taken = decide (a ≠ b) :=
  ⟨W.g (.branch .ne 1 2 0xFFA), _, 0, .branch .ne 1 2 0xFFA, 1, 2, 0xFFA, true, rfl, by decide +kernel,
  by decide +kernel, by decide +kernel, by decide +kernel, 7, 3, 0, by and_intros <;> decide +kernel⟩

theorem test_Blt :
    ∃ (s : State) (u : State) (t : Fin 16) (i : GInstr) (ra : BitVec 3) (rb : BitVec 3) (off : BitVec 12) (taken :
    Bool), u = s.issued t.val ∧ s.chosen t.val = true ∧ GInstr.decode (s.pword (s.thread t.val).pc.toNat) = some i ∧
    s.overBudget t.val = false ∧ s.parityBad (s.thread t.val).pc.toNat = false ∧ ∃ (a : Word) (b : Word) (target :
    Int), a = u.greg t.val ra.toNat ∧ b = u.greg t.val rb.toNat ∧ target = (u.fpc t.val : Int) + 1 + off.toInt ∧ 0 ≤
    target ∧ target ≤ 0xFFF ∧ i = .branch .lt ra rb off ∧ taken = decide (a.toInt < b.toInt) :=
  ⟨W.g (.branch .lt 1 2 0xFFA), _, 0, .branch .lt 1 2 0xFFA, 1, 2, 0xFFA, false, rfl, by decide +kernel,
  by decide +kernel, by decide +kernel, by decide +kernel, 7, 3, 0, by and_intros <;> decide +kernel⟩

theorem test_Bge :
    ∃ (s : State) (u : State) (t : Fin 16) (i : GInstr) (ra : BitVec 3) (rb : BitVec 3) (off : BitVec 12) (taken :
    Bool), u = s.issued t.val ∧ s.chosen t.val = true ∧ GInstr.decode (s.pword (s.thread t.val).pc.toNat) = some i ∧
    s.overBudget t.val = false ∧ s.parityBad (s.thread t.val).pc.toNat = false ∧ ∃ (a : Word) (b : Word) (target :
    Int), a = u.greg t.val ra.toNat ∧ b = u.greg t.val rb.toNat ∧ target = (u.fpc t.val : Int) + 1 + off.toInt ∧ 0 ≤
    target ∧ target ≤ 0xFFF ∧ i = .branch .ge ra rb off ∧ taken = decide (b.toInt ≤ a.toInt) :=
  ⟨W.g (.branch .ge 1 2 0xFFA), _, 0, .branch .ge 1 2 0xFFA, 1, 2, 0xFFA, true, rfl, by decide +kernel,
  by decide +kernel, by decide +kernel, by decide +kernel, 7, 3, 0, by and_intros <;> decide +kernel⟩

theorem test_Bltu :
    ∃ (s : State) (u : State) (t : Fin 16) (i : GInstr) (ra : BitVec 3) (rb : BitVec 3) (off : BitVec 12) (taken :
    Bool), u = s.issued t.val ∧ s.chosen t.val = true ∧ GInstr.decode (s.pword (s.thread t.val).pc.toNat) = some i ∧
    s.overBudget t.val = false ∧ s.parityBad (s.thread t.val).pc.toNat = false ∧ ∃ (a : Word) (b : Word) (target :
    Int), a = u.greg t.val ra.toNat ∧ b = u.greg t.val rb.toNat ∧ target = (u.fpc t.val : Int) + 1 + off.toInt ∧ 0 ≤
    target ∧ target ≤ 0xFFF ∧ i = .branch .ltu ra rb off ∧ taken = decide (a.toNat < b.toNat) :=
  ⟨W.g (.branch .ltu 1 2 0xFFA), _, 0, .branch .ltu 1 2 0xFFA, 1, 2, 0xFFA, false, rfl, by decide +kernel,
  by decide +kernel, by decide +kernel, by decide +kernel, 7, 3, 0, by and_intros <;> decide +kernel⟩

theorem test_Bgeu :
    ∃ (s : State) (u : State) (t : Fin 16) (i : GInstr) (ra : BitVec 3) (rb : BitVec 3) (off : BitVec 12) (taken :
    Bool), u = s.issued t.val ∧ s.chosen t.val = true ∧ GInstr.decode (s.pword (s.thread t.val).pc.toNat) = some i ∧
    s.overBudget t.val = false ∧ s.parityBad (s.thread t.val).pc.toNat = false ∧ ∃ (a : Word) (b : Word) (target :
    Int), a = u.greg t.val ra.toNat ∧ b = u.greg t.val rb.toNat ∧ target = (u.fpc t.val : Int) + 1 + off.toInt ∧ 0 ≤
    target ∧ target ≤ 0xFFF ∧ i = .branch .geu ra rb off ∧ taken = decide (b.toNat ≤ a.toNat) :=
  ⟨W.g (.branch .geu 1 2 0xFFA), _, 0, .branch .geu 1 2 0xFFA, 1, 2, 0xFFA, true, rfl, by decide +kernel,
  by decide +kernel, by decide +kernel, by decide +kernel, 7, 3, 0, by and_intros <;> decide +kernel⟩

theorem test_Jmp :
    ∃ (s : State) (u : State) (t : Fin 16) (i : GInstr), u = s.issued t.val ∧ s.chosen t.val = true ∧ GInstr.decode
    (s.pword (s.thread t.val).pc.toNat) = some i ∧ s.overBudget t.val = false ∧ s.parityBad (s.thread t.val).pc.toNat
    = false ∧ ∃ a, i = .jmp a :=
  ⟨W.g (.jmp 0xFFF), _, 0, .jmp 0xFFF, rfl, by decide +kernel, by decide +kernel, by decide +kernel,
  by decide +kernel, 0xFFF, by decide +kernel⟩

theorem test_Jal :
    ∃ (s : State) (u : State) (t : Fin 16) (i : GInstr) (rd : BitVec 3), u = s.issued t.val ∧ s.chosen t.val = true ∧
    GInstr.decode (s.pword (s.thread t.val).pc.toNat) = some i ∧ s.overBudget t.val = false ∧ s.parityBad (s.thread
    t.val).pc.toNat = false ∧ ∃ a, i = .jal rd a :=
  ⟨W.g (.jal 3 0xFFF), _, 0, .jal 3 0xFFF, 3, rfl, by decide +kernel, by decide +kernel, by decide +kernel,
  by decide +kernel, 0xFFF, by decide +kernel⟩

theorem test_Jr :
    ∃ (s : State) (u : State) (t : Fin 16) (i : GInstr) (ra : BitVec 3), u = s.issued t.val ∧ s.chosen t.val = true ∧
    GInstr.decode (s.pword (s.thread t.val).pc.toNat) = some i ∧ s.overBudget t.val = false ∧ s.parityBad (s.thread
    t.val).pc.toNat = false ∧ i = .jr ra ∧ (u.greg t.val ra.toNat).toNat < 4096 :=
  ⟨W.g (.jr 1), _, 0, .jr 1, 1, rfl, by and_intros <;> decide +kernel⟩

theorem test_JrOut :
    ∃ (s : State) (u : State) (t : Fin 16) (i : GInstr) (ra : BitVec 3), u = s.issued t.val ∧ s.chosen t.val = true ∧
    GInstr.decode (s.pword (s.thread t.val).pc.toNat) = some i ∧ s.overBudget t.val = false ∧ s.parityBad (s.thread
    t.val).pc.toNat = false ∧ i = .jr ra ∧ 4096 ≤ (u.greg t.val ra.toNat).toNat :=
  ⟨W.regs [(0x0A, 0x124, 4096)] (W.g (.jr 1)), _, 0, .jr 1, 1, rfl, by and_intros <;> decide +kernel⟩

theorem test_End :
    ∃ (s : State) (u : State) (t : Fin 16) (i : GInstr) (pc : Nat), u = s.issued t.val ∧ s.chosen t.val = true ∧ pc =
    (s.thread t.val).pc.toNat ∧ s.overBudget t.val = false ∧ s.parityBad pc = false ∧ GInstr.decode (s.pword pc) =
    some i ∧ i = .endAct :=
  ⟨W.g (.endAct), _, 0, .endAct, 5, rfl, by and_intros <;> decide +kernel⟩

theorem test_Wait :
    ∃ (s : State) (u : State) (t : Fin 16) (i : GInstr) (pc : Nat), u = s.issued t.val ∧ s.chosen t.val = true ∧ pc =
    (s.thread t.val).pc.toNat ∧ s.overBudget t.val = false ∧ s.parityBad pc = false ∧ GInstr.decode (s.pword pc) =
    some i ∧ ∃ n, i = .wait n :=
  ⟨W.g (.wait 1), _, 0, .wait 1, 5, rfl, by decide +kernel, by decide +kernel, by decide +kernel, by decide +kernel,
  ⟨by decide +kernel, 1, by decide +kernel⟩⟩

theorem test_WevForever :
    ∃ (s : State) (u : State) (t : Fin 16) (i : GInstr) (pc : Nat), u = s.issued t.val ∧ s.chosen t.val = true ∧ pc =
    (s.thread t.val).pc.toNat ∧ s.overBudget t.val = false ∧ s.parityBad pc = false ∧ GInstr.decode (s.pword pc) =
    some i ∧ ∃ tol n, i = .wev tol n :=
  ⟨W.g (.wev 1 0), _, 0, .wev 1 0, 5, rfl, by decide +kernel, by decide +kernel, by decide +kernel,
  by decide +kernel, ⟨by decide +kernel, 1, 0, by decide +kernel⟩⟩

theorem test_WevTimed :
    ∃ (s : State) (u : State) (t : Fin 16) (i : GInstr) (pc : Nat), u = s.issued t.val ∧ s.chosen t.val = true ∧ pc =
    (s.thread t.val).pc.toNat ∧ s.overBudget t.val = false ∧ s.parityBad pc = false ∧ GInstr.decode (s.pword pc) =
    some i ∧ ∃ tol n, i = .wev tol n :=
  ⟨W.g (.wev 0 1), _, 0, .wev 0 1, 5, rfl, by decide +kernel, by decide +kernel, by decide +kernel,
  by decide +kernel, ⟨by decide +kernel, 0, 1, by decide +kernel⟩⟩

theorem test_Illegal :
    ∃ (s : State) (u : State) (t : Fin 16) (pc : Nat), u = s.issued t.val ∧ s.chosen t.val = true ∧ pc = (s.thread
    t.val).pc.toNat ∧ s.overBudget t.val = false ∧ s.parityBad pc = false ∧ GInstr.decode (s.pword pc) = none :=
  ⟨W.word 0, _, 0, 5, rfl, by and_intros <;> decide +kernel⟩

theorem test_WaitEnds :
    ∃ (s : State) (t : Fin 16) (h : Thread), h = s.thread t.val ∧ ∃ due, h.st = .blocked ∧ h.block = .time due :=
  ⟨W.thr ({ st := .blocked, block := .time 8 }), 0, { st := .blocked, block := .time 8 }, by decide +kernel, 8,
  by decide +kernel, by decide +kernel⟩

theorem test_WevEnds :
    ∃ (s : State) (t : Fin 16) (h : Thread), h = s.thread t.val ∧ ∃ due, h.st = .blocked ∧ h.block = .event (some
    due) true :=
  ⟨W.thr ({ st := .blocked, block := .event (some 8) true }), 0, { st := .blocked, block := .event (some 8) true },
  by decide +kernel, 8, by decide +kernel, by decide +kernel⟩

theorem test_WevFaults :
    ∃ (s : State) (t : Fin 16) (h : Thread), h = s.thread t.val ∧ ∃ due, h.st = .blocked ∧ h.block = .event (some
    due) false :=
  ⟨W.thr ({ st := .blocked, block := .event (some 8) false }), 0, { st := .blocked, block := .event (some 8) false },
  by decide +kernel, 8, by decide +kernel, by decide +kernel⟩

theorem test_ResultComes :
    ∃ (s : State) (t : Fin 16) (h : Thread), h = s.thread t.val ∧ ∃ rd r, h.st = .blocked ∧ h.block = .result (some
    rd) false ∧ h.res = some r ∧ r.code = .done ∧ r.latch = none ∧ r.stale = none :=
  ⟨W.thr ({ st := .blocked, block := .result (some 3) false, res := some { value := 6 } }), 0,
  { st := .blocked, block := .result (some 3) false, res := some { value := 6 } }, by decide +kernel, 3,
  { value := 6 }, by and_intros <;> decide +kernel⟩

theorem test_PeriodDue :
    ∃ (s : State) (t : Fin 16) (h : Thread), h = s.thread t.val ∧ ∃ due v, h.due = some due ∧ s.dead = false ∧
    s.guardHeld t.val = false ∧ h.st = .wait ∧ flag (s.rg 0x0A 0x008) 0 = true ∧ h.pending = false ∧ v = (s.reach
    due).putThread t.val
    { h with due := some (if flag (s.thrReg t.val 0x08) 24 then nextMultiple (field (s.thrReg t.val 0x08) 23 0) (s.reach due).now else due + BitVec.ofNat 64 (field (s.thrReg t.val 0x08) 23 0 * 2 ^ 17)) } :=
  ⟨W.thr ({ st := .wait, due := some 8 }), 0, { st := .wait, due := some 8 }, by decide +kernel, 8, (W.thr
  ({ st := .wait, due := some 8 })).reach 8 |>.putThread 0
  { st := .wait, due := some (8 + BitVec.ofNat 64 (16 * 2 ^ 17)) }, by and_intros <;> decide +kernel⟩

theorem test_Push :
    ∃ (s : State) (u : State) (b : State) (v : State) (t : Fin 16) (i : GInstr) (ra : BitVec 3) (tol : BitVec 1) (c :
    Code), u = s.issued t.val ∧ b = u.updThread t.val (fun h =>
    { h with st := .blocked, block := .result none (tol == 1), res := none }) ∧ s.chosen t.val = true ∧ GInstr.decode
    (s.pword (s.thread t.val).pc.toNat) = some i ∧ s.overBudget t.val = false ∧ s.parityBad (s.thread t.val).pc.toNat
    = false ∧ ∃ pos q, i = .push ra tol pos q ∧ b.pushItem q.toNat (16 + t.val) pos.toNat (field (u.greg t.val
    ra.toNat) 23 0) = (v, c) :=
  ⟨W.g (.push 1 1 3 31), _, _, ((W.pushed (.push 1 1 3 31)).pushItem 31 16 3 7).1, 0, .push 1 1 3 31, 1, 1,
  ((W.pushed (.push 1 1 3 31)).pushItem 31 16 3 7).2, rfl, rfl, by decide +kernel, by decide +kernel,
  by decide +kernel, by decide +kernel, 3, 31, by decide +kernel, rfl⟩

theorem test_Pushr :
    ∃ (s : State) (u : State) (b : State) (v : State) (t : Fin 16) (i : GInstr) (ra : BitVec 3) (tol : BitVec 1) (c :
    Code), u = s.issued t.val ∧ b = u.updThread t.val (fun h =>
    { h with st := .blocked, block := .result none (tol == 1), res := none }) ∧ s.chosen t.val = true ∧ GInstr.decode
    (s.pword (s.thread t.val).pc.toNat) = some i ∧ s.overBudget t.val = false ∧ s.parityBad (s.thread t.val).pc.toNat
    = false ∧ ∃ kind q, i = .pushr ra tol kind q ∧ b.pushPacket q.toNat (16 + t.val) (u.pushRecord t.val ra kind) =
    (v, c) :=
  ⟨W.g (.pushr 1 1 0xFF 0), _, _, ((W.pushed (.pushr 1 1 0xFF 0)).pushPacket 0 16 (((W.g (.pushr 1 1 0xFF 0)).issued
  0).pushRecord 0 1 0xFF)).1, 0, .pushr 1 1 0xFF 0, 1, 1, ((W.pushed (.pushr 1 1 0xFF 0)).pushPacket 0 16 (((W.g
  (.pushr 1 1 0xFF 0)).issued 0).pushRecord 0 1 0xFF)).2, rfl, rfl, by decide +kernel, by decide +kernel,
  by decide +kernel, by decide +kernel, 0xFF, 0, by decide +kernel, rfl⟩

theorem test_Feed :
    ∃ (s : State) (u : State) (b : State) (v : State) (t : Fin 16) (i : GInstr) (ra : BitVec 3) (tol : BitVec 1) (c :
    Code), u = s.issued t.val ∧ b = u.updThread t.val (fun h =>
    { h with st := .blocked, block := .result none (tol == 1), res := none }) ∧ s.chosen t.val = true ∧ GInstr.decode
    (s.pword (s.thread t.val).pc.toNat) = some i ∧ s.overBudget t.val = false ∧ s.parityBad (s.thread t.val).pc.toNat
    = false ∧ ∃ lane, i = .feed ra tol lane ∧ b.feedLane (20 + lane.toNat) ((u.greg t.val ra.toNat).truncate 24)
    (u.thread t.val).stamp (u.thread t.val).tag = (v, c) :=
  ⟨W.g (.feed 1 1 3), _, _, ((W.pushed (.feed 1 1 3)).feedLane 23 7 9 false).1, 0, .feed 1 1 3, 1, 1, ((W.pushed
  (.feed 1 1 3)).feedLane 23 7 9 false).2, rfl, rfl, by decide +kernel, by decide +kernel, by decide +kernel,
  by decide +kernel, 3, by decide +kernel, rfl⟩

theorem test_Ld :
    ∃ (s : State) (u : State) (t : Fin 16) (i : GInstr) (rd : BitVec 3) (ra : BitVec 3), u = s.issued t.val ∧
    s.chosen t.val = true ∧ GInstr.decode (s.pword (s.thread t.val).pc.toNat) = some i ∧ s.overBudget t.val = false ∧
    s.parityBad (s.thread t.val).pc.toNat = false ∧ ∃ imm, i = .ld rd ra imm :=
  ⟨W.g (.ld 3 1 0xFF), _, 0, .ld 3 1 0xFF, 3, 1, rfl, by decide +kernel, by decide +kernel, by decide +kernel,
  by decide +kernel, 0xFF, by decide +kernel⟩

theorem test_St :
    ∃ (s : State) (u : State) (t : Fin 16) (i : GInstr) (ra : BitVec 3) (rb : BitVec 3), u = s.issued t.val ∧
    s.chosen t.val = true ∧ GInstr.decode (s.pword (s.thread t.val).pc.toNat) = some i ∧ s.overBudget t.val = false ∧
    s.parityBad (s.thread t.val).pc.toNat = false ∧ ∃ imm, i = .st ra rb imm :=
  ⟨W.g (.st 1 2 0xFF), _, 0, .st 1 2 0xFF, 1, 2, rfl, by decide +kernel, by decide +kernel, by decide +kernel,
  by decide +kernel, 0xFF, by decide +kernel⟩

theorem test_Evt :
    ∃ (s : State) (u : State) (t : Fin 16) (i : GInstr), u = s.issued t.val ∧ s.chosen t.val = true ∧ GInstr.decode
    (s.pword (s.thread t.val).pc.toNat) = some i ∧ s.overBudget t.val = false ∧ s.parityBad (s.thread t.val).pc.toNat
    = false ∧ ∃ n, i = .evt n :=
  ⟨W.g (.evt 15), _, 0, .evt 15, rfl, by decide +kernel, by decide +kernel, by decide +kernel, by decide +kernel, 15,
  by decide +kernel⟩

theorem test_Stmp0 :
    ∃ (s : State) (u : State) (t : Fin 16) (i : GInstr) (rd : BitVec 3), u = s.issued t.val ∧ s.chosen t.val = true ∧
    GInstr.decode (s.pword (s.thread t.val).pc.toNat) = some i ∧ s.overBudget t.val = false ∧ s.parityBad (s.thread
    t.val).pc.toNat = false ∧ i = .stmp rd 0 :=
  ⟨W.g (.stmp 3 0), _, 0, .stmp 3 0, 3, rfl, by and_intros <;> decide +kernel⟩

theorem test_Stmp1 :
    ∃ (s : State) (u : State) (t : Fin 16) (i : GInstr) (rd : BitVec 3), u = s.issued t.val ∧ s.chosen t.val = true ∧
    GInstr.decode (s.pword (s.thread t.val).pc.toNat) = some i ∧ s.overBudget t.val = false ∧ s.parityBad (s.thread
    t.val).pc.toNat = false ∧ i = .stmp rd 1 :=
  ⟨W.g (.stmp 3 1), _, 0, .stmp 3 1, 3, rfl, by and_intros <;> decide +kernel⟩

theorem test_Stmp2 :
    ∃ (s : State) (u : State) (t : Fin 16) (i : GInstr) (rd : BitVec 3), u = s.issued t.val ∧ s.chosen t.val = true ∧
    GInstr.decode (s.pword (s.thread t.val).pc.toNat) = some i ∧ s.overBudget t.val = false ∧ s.parityBad (s.thread
    t.val).pc.toNat = false ∧ i = .stmp rd 2 :=
  ⟨W.g (.stmp 3 2), _, 0, .stmp 3 2, 3, rfl, by and_intros <;> decide +kernel⟩

theorem test_Stmp3 :
    ∃ (s : State) (u : State) (t : Fin 16) (i : GInstr) (rd : BitVec 3), u = s.issued t.val ∧ s.chosen t.val = true ∧
    GInstr.decode (s.pword (s.thread t.val).pc.toNat) = some i ∧ s.overBudget t.val = false ∧ s.parityBad (s.thread
    t.val).pc.toNat = false ∧ i = .stmp rd 3 :=
  ⟨W.g (.stmp 3 3), _, 0, .stmp 3 3, 3, rfl, by and_intros <;> decide +kernel⟩

theorem test_In :
    ∃ (s : State) (u : State) (t : Fin 16) (i : GInstr) (rd : BitVec 3) (tol : BitVec 1), u = s.issued t.val ∧
    s.chosen t.val = true ∧ GInstr.decode (s.pword (s.thread t.val).pc.toNat) = some i ∧ s.overBudget t.val = false ∧
    s.parityBad (s.thread t.val).pc.toNat = false ∧ ∃ port, i = .inPort rd tol port 0 :=
  ⟨W.g (.inPort 3 1 63 0), _, 0, .inPort 3 1 63 0, 3, 1, rfl, by decide +kernel, by decide +kernel,
  by decide +kernel, by decide +kernel, 63, by decide +kernel⟩

theorem test_Out :
    ∃ (s : State) (u : State) (t : Fin 16) (i : GInstr) (ra : BitVec 3) (tol : BitVec 1), u = s.issued t.val ∧
    s.chosen t.val = true ∧ GInstr.decode (s.pword (s.thread t.val).pc.toNat) = some i ∧ s.overBudget t.val = false ∧
    s.parityBad (s.thread t.val).pc.toNat = false ∧ ∃ port, i = .outPort ra tol port 2 ∧ u.portsUp port.toNat = true
    ∧ (u.port port.toNat).mode = 6 ∧ (u.port port.toNat).quarantined = false :=
  ⟨(W.g (.outPort 1 1 63 2)).putPort 63 { pcfg := 6 }, _, 0, .outPort 1 1 63 2, 1, 1, rfl, by decide +kernel,
  by decide +kernel, by decide +kernel, by decide +kernel, 63, by and_intros <;> decide +kernel⟩

theorem test_Conv :
    ∃ (s : State) (u : State) (t : Fin 16) (i : GInstr) (rd : BitVec 3) (tol : BitVec 1), u = s.issued t.val ∧
    s.chosen t.val = true ∧ GInstr.decode (s.pword (s.thread t.val).pc.toNat) = some i ∧ s.overBudget t.val = false ∧
    s.parityBad (s.thread t.val).pc.toNat = false ∧ ∃ cv sw port, i = .conv rd cv tol sw port :=
  ⟨W.g (.conv 3 19 1 1 63), _, 0, .conv 3 19 1 1 63, 3, 1, rfl, by decide +kernel, by decide +kernel,
  by decide +kernel, by decide +kernel, 19, 1, 63, by decide +kernel⟩

theorem test_TagHeld :
    ∃ (s : State) (u : State) (t : Fin 16) (i : GInstr) (rd : BitVec 3) (tol : BitVec 1), u = s.issued t.val ∧
    s.chosen t.val = true ∧ GInstr.decode (s.pword (s.thread t.val).pc.toNat) = some i ∧ s.overBudget t.val = false ∧
    s.parityBad (s.thread t.val).pc.toNat = false ∧ ∃ fresh tag, i = .tagrd rd tol fresh tag ∧ (fresh = 0 ∨
    u.pwr.depth ≠ .awake) ∧ (u.held tag.toNat).has = true :=
  ⟨(W.g (.tagrd 3 1 0 191)).putHeld 191 { has := true, value := 4, stamp := 2 }, _, 0, .tagrd 3 1 0 191, 3, 1, rfl,
  by decide +kernel, by decide +kernel, by decide +kernel, by decide +kernel, 0, 191,
  by and_intros <;> decide +kernel⟩

theorem test_TagFresh :
    ∃ (s : State) (u : State) (t : Fin 16) (i : GInstr) (rd : BitVec 3) (tol : BitVec 1), u = s.issued t.val ∧
    s.chosen t.val = true ∧ GInstr.decode (s.pword (s.thread t.val).pc.toNat) = some i ∧ s.overBudget t.val = false ∧
    s.parityBad (s.thread t.val).pc.toNat = false ∧ ∃ fresh tag, i = .tagrd rd tol fresh tag ∧ fresh = 1 ∧
    u.pwr.depth = .awake :=
  ⟨W.g (.tagrd 3 1 1 191), _, 0, .tagrd 3 1 1 191, 3, 1, rfl, by decide +kernel, by decide +kernel,
  by decide +kernel, by decide +kernel, 1, 191, by and_intros <;> decide +kernel⟩

theorem test_Bus :
    ∃ (s : State) (u : State) (t : Fin 16) (i : GInstr) (rd : BitVec 3) (tol : BitVec 1), u = s.issued t.val ∧
    s.chosen t.val = true ∧ GInstr.decode (s.pword (s.thread t.val).pc.toNat) = some i ∧ s.overBudget t.val = false ∧
    s.parityBad (s.thread t.val).pc.toNat = false ∧ ∃ desc n, i = .bus rd tol desc ∧ n = field (u.pword desc.toNat)
    11 8 ∧ 1 ≤ field (u.pword desc.toNat) 7 0 ∧ field (u.pword desc.toNat) 7 0 ≤ 3 ∧ 1 ≤ n ∧ n ≤ 7 ∧ desc.toNat + n ≤
    0xFFF :=
  ⟨W.g (.bus 3 1 9), _, 0, .bus 3 1 9, 3, 1, rfl, by decide +kernel, by decide +kernel, by decide +kernel,
  by decide +kernel, 9, 1, by and_intros <;> decide +kernel⟩

theorem test_Load :
    ∃ (s : State) (tag : Fin 128) (k : Slot), k = s.slot tag.val ∧ s.running tag.val 0x0A 1 = true ∧ s.ready 0x0A =
    true ∧ loadArgs s k = true ∧ s.gle.load = none ∧ s.gle.stops = [] ∧ (flag (k.arg 0) 0 = true → s.pwr.depth =
    .awake) ∧ (∀ t, t < 16 → flag (k.arg 3) t = false → (s.thread t).st = .stopped ∨ (s.thread t).st = .fault ∨
    s.clearOf t (field (k.arg 2) 11 0) (field (k.arg 2) 28 16) = true) :=
  ⟨W.op 0x0A 1 [1, 0x00100000, 0x00010FFF, 1] (W.thr { st := .wait }), 0, (W.op 0x0A 1 [1, 0x00100000, 0x00010FFF, 1]
  (W.thr { st := .wait })).slot 0, by and_intros <;> decide +kernel⟩

theorem test_Copy :
    ∃ (s : State) (tag : Fin 128) (k : Slot), k = s.slot tag.val ∧ ∃ (r : LoadRun) (v : State) (l : List Word),
    s.gle.load = some r ∧ (∀ t, t < 16 → (s.thread t).held = false) ∧ (r.flash && s.flashBusy r.addr (4 * r.count)) =
    false ∧ ({ s with gle := { s.gle with load := none } } : State).sourceWords r.flash true r.addr r.count = (v, l,
    true) ∧ v.running r.slot.toNat 0x0A 1 = true :=
  ⟨W.loading, 0, W.loading.slot 0, by decide +kernel,
  { slot := 0, flash := true, addr := 0, dest := 0xFFF, count := 1 }, (W.op 0x0A 1 [] W.run).sourceWords true true 0
  1 |>.1, (W.op 0x0A 1 [] W.run).sourceWords true true 0 1 |>.2.1, by and_intros <;> decide +kernel⟩

theorem test_Start :
    ∃ (s : State) (tag : Fin 128) (k : Slot), k = s.slot tag.val ∧ s.running tag.val 0x0A 2 = true ∧ s.ready 0x0A =
    true ∧ s.gle.stops = [] ∧ (∀ t, t < 16 → flag (k.arg 0) t = true → (s.thread t).st = .stopped ∧ (s.thread t).held
    = false ∧ flag (s.thrReg t 0x04) 0 = false) :=
  ⟨W.op 0x0A 2 [0xFFFF] (W.regs [(0x0A, 0x104, 2)] W.run), 0, (W.op 0x0A 2 [0xFFFF] (W.regs [(0x0A, 0x104, 2)]
  W.run)).slot 0, by and_intros <;> decide +kernel⟩

theorem test_Stop :
    ∃ (s : State) (tag : Fin 128) (k : Slot), k = s.slot tag.val ∧ s.running tag.val 0x0A 3 = true ∧ s.ready 0x0A =
    true ∧ s.gle.stops = [] ∧ flag (k.arg 0) 16 = true :=
  ⟨W.op 0x0A 3 [0x10001] (W.thr { st := .ready }), 0, (W.op 0x0A 3 [0x10001] (W.thr { st := .ready })).slot 0,
  by and_intros <;> decide +kernel⟩

theorem test_Pdata :
    ∃ (s : State) (tag : Fin 128) (m : Master) (k : Slot), k = s.slot tag.val ∧ s.readGate m 0x0A 0x054 = .pass :=
  ⟨W.regs [(0x0A, 0x050, 0xFFF)] W.run, 0, .core, (W.regs [(0x0A, 0x050, 0xFFF)] W.run).slot 0, by decide +kernel,
  by decide +kernel⟩


end GleanerB


namespace LanesTime

/-- The running device with the Thresher enabled and one lane given a state. -/
def W.lane (n : Nat) (l : Lane) (s : State) : State := (W.regs [(0x19, 0x008, 1)] s).putLane n l
/-- SAR converter 19 converting port 63, its lane without filters. -/
def W.raw : LaneCfg := { lcfg := 1, cic := 0 }
def W.sar : State :=
  W.lane 19 { cfg := some W.raw, mark := true } ((W.regs [(0x17, 0x120, 1), (0x18, 0x170, 0xBF)] W.run).putPort 63 { pcfg := 1 })
/-- Lane 16 staged without filters, and an ADMIT that names it. -/
def W.admits (cic : Word) : State := W.regs [(0x19, 0x008, 1), (0x19, 0x300, 1), (0x19, 0x304, cic)] (W.op 0x19 1 [0x10000] W.run)
/-- TIME with a state of its own, and a parent in context 0 for its discipline. -/
def W.time (f : TimeState → TimeState) (s : State) : State := { s with time := f s.time }
def W.exch : Exchange := { t1 := 1, t2 := 5, depth := 8, parent := 0 }
def W.disc (d : DState) (m : Nat) (x : Option Exchange) : State :=
  (W.time (fun t => { t with dstate := d, missed := m, sample := x }) (W.regs [(0x07, 0x04C, 0x0FFF01)] W.run)).putPeer 0
    (some { paths := [2] })
def W.readout : State := W.time (fun t => { t with snap := some { items := [1] } }) W.run

theorem test_SarSample :
    ∃ (s : State) (c : LaneCfg) (cv : Fin 20), 16 ≤ cv.val ∧ (s.conv cv.val).run = none ∧ (s.conv cv.val).late = none
    ∧ (s.lane cv.val).cfg = some c ∧ s.portWritten (s.xbarPort cv.val) = false ∧ s.portWritten (partner (s.xbarPort
    cv.val)) = false ∧ s.converting cv.val = true ∧ s.ready 0x18 = true ∧ s.ready 0x19 = true ∧ s.unavailable .sense
    = false ∧ s.laneHeld cv.val = false :=
  ⟨W.sar, W.raw, 19, by and_intros <;> decide +kernel⟩

theorem test_SarWrongKind :
    ∃ (cv : Fin 20), cv.val < 16 :=
  ⟨15, by decide +kernel⟩

theorem test_BitsWrongKind :
    ∃ (cv : Fin 20), 16 ≤ cv.val :=
  ⟨16, by decide +kernel⟩

theorem test_LanePasses :
    ∃ (s : State) (n : Fin 24) (c : LaneCfg), ∃ x rest, (s.lane n.val).cfg = some c ∧ s.ready 0x19 = true ∧
    s.laneHeld n.val = false ∧ (s.lane n.val).inputs = x :: rest ∧ x.mark = false ∧ (s.lane n.val).suppress = 0 ∧
    c.order = 0 ∧ firTaps c.fir1 = 0 ∧ firTaps c.fir2 = 0 ∧ c.nbq = 0 ∧ (n.val < 16 → (s.conv n.val).run = none) :=
  ⟨W.lane 23 { cfg := some W.raw, inputs := [{ value := -3, stamp := 8 }] } W.run, 23, W.raw,
  { value := -3, stamp := 8 }, [], by and_intros <;> decide +kernel⟩

theorem test_LaneNone :
    ∃ (s : State) (n : Fin 24), (s.lane n.val).cfg = none :=
  ⟨W.run, 23, by decide +kernel⟩

theorem test_AdmitTakes :
    ∃ (s : State) (n : Fin 24) (c : LaneCfg) (tag : Fin 128), s.running tag.val 0x19 1 = true ∧ s.ready 0x19 = true ∧
    s.thr.admitting = none ∧ (∀ j, j < 24 → (s.lane j).next = none) ∧ namedLanes (s.slot tag.val) = [n.val] ∧ (s.lane
    n.val).cfg = none ∧ s.admitCfg n.val = c ∧ c.en = true ∧ laneLegal n.val c = true ∧ flag (s.rg 0x19 0x008) 0 =
    true ∧ (n.val < 16 → s.calibrating n.val = false) ∧ ∃ after, s.wouldRun [n.val] = after ∧ (after.map (fun e =>
    laneCost e.1 e.2 false)).sum ≤ 786432000 ∧ (after.map (fun e => if e.2.guard then laneCost e.1 e.2 true else
    0)).sum ≤ 64000000 :=
  ⟨W.admits 0x4000, 16, (W.admits 0x4000).staged 16, 0, by decide +kernel, by decide +kernel, by decide +kernel,
  by decide +kernel, ⟨by decide +kernel, by decide +kernel, by decide +kernel, by decide +kernel, ⟨by decide +kernel,
  by decide +kernel, by decide +kernel, (W.admits 0x4000).wouldRun [16], by and_intros <;> decide +kernel⟩⟩⟩

theorem test_AdmitArg :
    ∃ (s : State) (n : Fin 24) (c : LaneCfg) (tag : Fin 128), s.running tag.val 0x19 1 = true ∧ s.ready 0x19 = true ∧
    s.thr.admitting = none ∧ (∀ j, j < 24 → (s.lane j).next = none) ∧ namedLanes (s.slot tag.val) = [n.val] ∧ (s.lane
    n.val).cfg = none ∧ s.admitCfg n.val = c ∧ c.en = true ∧ laneLegal n.val c = false :=
  ⟨W.regs [(0x19, 0x310, 0x0FFF0001)] (W.admits 0x4000), 16, (W.regs [(0x19, 0x310, 0x0FFF0001)] (W.admits
  0x4000)).staged 16, 0, by and_intros <;> decide +kernel⟩

theorem test_OverTo :
    ∃ (s : State) (n : Fin 24), ∃ old new, (s.lane n.val).cfg = some old ∧ (s.lane n.val).next = some (some new) :=
  ⟨W.lane 23 { cfg := some W.raw, next := some (some { W.raw with rate := 9 }) } W.run, 23, W.raw,
  { W.raw with rate := 9 }, by decide +kernel, by decide +kernel⟩

theorem test_OverOff :
    ∃ (s : State) (n : Fin 24), ∃ old, (s.lane n.val).cfg = some old ∧ (s.lane n.val).next = some none :=
  ⟨W.lane 23 { cfg := some W.raw, next := some none } W.run, 23, W.raw, by decide +kernel, by decide +kernel⟩

theorem test_CoefWrite :
    ∃ (s : State) (m : Master) (v : Word), ∃ a, a = field (s.rg 0x19 0x050) 11 0 ∧ s.writeGate m 0x19 0x054 v = .pass
    ∧ s.coefUsed a = false :=
  ⟨W.regs [(0x19, 0x050, 0xFFF)] W.run, .core, 0, 0xFFF, by and_intros <;> decide +kernel⟩

theorem test_CoefUsed :
    ∃ (s : State) (m : Master) (v : Word), ∃ a, a = field (s.rg 0x19 0x050) 11 0 ∧ s.writeGate m 0x19 0x054 v = .pass
    ∧ s.coefUsed a = true :=
  ⟨W.lane 23 { cfg := some { W.raw with bq := 0x0FFB0001 } } (W.regs [(0x19, 0x050, 0xFFF)] W.run), .core, 0, 0xFFF,
  by and_intros <;> decide +kernel⟩

theorem test_CoefRead :
    ∃ (s : State) (m : Master), ∃ a, a = field (s.rg 0x19 0x050) 11 0 ∧ s.readGate m 0x19 0x054 = .pass :=
  ⟨W.regs [(0x19, 0x050, 0xFFF)] W.run, .hspi, 0xFFF, by decide +kernel, by decide +kernel⟩

theorem test_EpochStep :
    ∃ (s : State) (tag : Fin 128) (k : Slot) (v : Stamp), k = s.slot tag.val ∧ v = joinWords (k.arg 1) (k.arg 0) ∧
    s.running tag.val 0x07 2 = true ∧ s.ready 0x07 = true ∧ field (k.arg 2) 31 1 = 0 ∧ s.time.dstate = .free ∧ flag
    (k.arg 2) 0 = true :=
  ⟨W.op 0x07 2 [5, 0, 1] W.run, 0, (W.op 0x07 2 [5, 0, 1] W.run).slot 0, _, by decide +kernel, rfl,
  by and_intros <;> decide +kernel⟩

theorem test_EpochSet :
    ∃ (s : State) (tag : Fin 128) (k : Slot) (v : Stamp), k = s.slot tag.val ∧ v = joinWords (k.arg 1) (k.arg 0) ∧
    s.running tag.val 0x07 2 = true ∧ s.ready 0x07 = true ∧ field (k.arg 2) 31 1 = 0 ∧ s.time.dstate = .free ∧ flag
    (k.arg 2) 0 = false :=
  ⟨W.op 0x07 2 [5, 1, 0] W.run, 0, (W.op 0x07 2 [5, 1, 0] W.run).slot 0, _, by decide +kernel, rfl,
  by and_intros <;> decide +kernel⟩

theorem test_SnapPlain :
    ∃ (s : State) (tag : Fin 128) (k : Slot) (v : Stamp), k = s.slot tag.val ∧ v = joinWords (k.arg 1) (k.arg 0) ∧
    s.running tag.val 0x07 1 = true ∧ s.ready 0x07 = true ∧ s.time.snap = none ∧ s.senseReady = true ∧ flag (s.rg
    0x07 0x0C0) 5 = false :=
  ⟨W.op 0x07 1 [] W.run, 0, (W.op 0x07 1 [] W.run).slot 0, _, by decide +kernel, rfl,
  by and_intros <;> decide +kernel⟩

theorem test_SnapQueue :
    ∃ (s : State) (tag : Fin 128) (k : Slot) (v : Stamp), k = s.slot tag.val ∧ v = joinWords (k.arg 1) (k.arg 0) ∧
    s.running tag.val 0x07 1 = true ∧ s.ready 0x07 = true ∧ s.time.snap = none ∧ s.senseReady = true ∧ flag (s.rg
    0x07 0x0C0) 5 = true :=
  ⟨W.regs [(0x07, 0x0C0, 0x22)] (W.op 0x07 1 [] W.run), 0, (W.regs [(0x07, 0x0C0, 0x22)] (W.op 0x07 1 [] W.run)).slot
  0, _, by decide +kernel, rfl, by and_intros <;> decide +kernel⟩

theorem test_SnapBusy :
    ∃ (s : State) (tag : Fin 128) (k : Slot) (v : Stamp), k = s.slot tag.val ∧ v = joinWords (k.arg 1) (k.arg 0) ∧ ∃
    r, s.running tag.val 0x07 1 = true ∧ s.ready 0x07 = true ∧ s.time.snap = some r ∧ r.slot ≠ some (BitVec.ofNat 7
    tag.val) :=
  ⟨{ W.op 0x07 1 [] W.run with time := W.readout.time }, 0,
  ({ W.op 0x07 1 [] W.run with time := W.readout.time }).slot 0, _, by decide +kernel, rfl, { items := [1] },
  by and_intros <;> decide +kernel⟩

theorem test_SnapMissed :
    ∃ (s : State) (tag : Fin 128) (k : Slot) (v : Stamp), k = s.slot tag.val ∧ v = joinWords (k.arg 1) (k.arg 0) ∧
    (s.task 0x24).held = true ∧ s.time.snap.isSome = true :=
  ⟨W.readout.putTask 0x24 { held := true }, 0, (W.readout.putTask 0x24 { held := true }).slot 0, _,
  by decide +kernel, rfl, by decide +kernel, by decide +kernel⟩

theorem test_SnapPlaced :
    ∃ (s : State) (tag : Fin 128) (k : Slot) (v : Stamp), k = s.slot tag.val ∧ v = joinWords (k.arg 1) (k.arg 0) ∧ ∃
    r t, s.time.snap = some r ∧ r.slot = none ∧ qCut (s.qcfg (field (s.rg 0x07 0x0C0) 4 0)) = false ∧
    ({ s with time := { s.time with snap := none } } : State).blockPush (field (s.rg 0x07 0x0C0) 4 0) r.items = (t,
    .done) :=
  ⟨W.readout, 0, (W.readout).slot 0, _, by decide +kernel, rfl, { items := [1] }, (W.run.blockPush (field
  (W.readout.rg 0x07 0x0C0) 4 0) [1]).1, by and_intros <;> decide +kernel⟩

theorem test_AlarmFires :
    ∃ (s : State) (tag : Fin 128) (k : Slot) (v : Stamp), k = s.slot tag.val ∧ v = joinWords (k.arg 1) (k.arg 0) ∧ ∃
    (n : Fin 4), flag (s.rg 0x07 0x0A0) n.val = true :=
  ⟨W.regs [(0x07, 0x0A0, 8)] W.run, 0, (W.regs [(0x07, 0x0A0, 8)] W.run).slot 0, _, by decide +kernel, rfl, 3,
  by decide +kernel⟩

theorem test_AlarmOff :
    ∃ (s : State) (tag : Fin 128) (k : Slot) (v : Stamp), k = s.slot tag.val ∧ v = joinWords (k.arg 1) (k.arg 0) ∧ ∃
    (n : Fin 4), flag (s.rg 0x07 0x0A0) n.val = false :=
  ⟨W.run, 0, (W.run).slot 0, _, by decide +kernel, rfl, 3, by decide +kernel⟩

theorem test_DiscStarts :
    ∃ (s : State) (tag : Fin 128) (k : Slot) (v : Stamp), k = s.slot tag.val ∧ v = joinWords (k.arg 1) (k.arg 0) ∧
    s.disciplined = true ∧ s.pwr.depth = .awake ∧ s.time.dstate = .free :=
  ⟨W.disc .free 0 none, 0, (W.disc .free 0 none).slot 0, _, by decide +kernel, rfl, by and_intros <;> decide +kernel⟩

theorem test_SampleSmall :
    ∃ (s : State) (tag : Fin 128) (k : Slot) (v : Stamp), k = s.slot tag.val ∧ v = joinWords (k.arg 1) (k.arg 0) ∧ ∃
    (x : Exchange) (p : Peer) (e : Int), s.time.sample = some x ∧ x.changed = false ∧ s.disciplined = true ∧
    s.pwr.depth = .awake ∧ s.time.dstate = .locked ∧ x.depth ≤ 8 ∧ s.peer x.parent = some p ∧ p.paths ≠ [] ∧ x.t4 =
    none ∧ e = 2 * (x.t2 - x.t1).toInt - pathMean p.paths ∧ (e.natAbs : Int) * 1000000000 ≤ (field (s.rg 0x07 0x04C)
    19 8 : Int) * 2 ^ 33 :=
  ⟨W.disc .locked 2 (some W.exch), 0, (W.disc .locked 2 (some W.exch)).slot 0, _, by decide +kernel, rfl, W.exch,
  { paths := [2] }, 6, by and_intros <;> decide +kernel⟩

theorem test_SampleNone :
    ∃ (s : State) (tag : Fin 128) (k : Slot) (v : Stamp), k = s.slot tag.val ∧ v = joinWords (k.arg 1) (k.arg 0) ∧
    s.time.sample = none :=
  ⟨W.run, 0, (W.run).slot 0, _, by decide +kernel, rfl, by decide +kernel⟩

theorem test_HoldMissed :
    ∃ (s : State) (tag : Fin 128) (k : Slot) (v : Stamp), k = s.slot tag.val ∧ v = joinWords (k.arg 1) (k.arg 0) ∧
    s.time.dstate = .locked ∧ (2 ≤ s.time.missed ∨ s.pwr.depth = .guard) :=
  ⟨W.disc .locked 2 none, 0, (W.disc .locked 2 none).slot 0, _, by decide +kernel, rfl, by decide +kernel,
  by decide +kernel⟩

theorem test_HoldNot :
    ∃ (s : State) (tag : Fin 128) (k : Slot) (v : Stamp), k = s.slot tag.val ∧ v = joinWords (k.arg 1) (k.arg 0) ∧
    s.time.dstate ≠ .locked :=
  ⟨W.disc .acquire 2 none, 0, (W.disc .acquire 2 none).slot 0, _, by decide +kernel, rfl, by decide +kernel⟩


end LanesTime


namespace WinnowFabric

/-- Winnow enabled with rule 127, one THRESH condition on lane 23, and inputs that wait. -/
def W.rule (w4 w5 w7 : Word) : Rule := { words := [(4, w4), (5, w5), (7, w7)] }
def W.win (r : Rule) (l : List WinIn) : State :=
  { W.regs [(0x1A, 0x008, 1), (0x1A, 0x06C, 0x80000000)] W.run with win := { rules := [(127, r)], inputs := l } }
/-- A waiting pulse of source 0x28 on wave 15, and channel 63 that selects it for the thread task 15. -/
def W.puls (regs : List (Nat × Nat × Word)) (c : Chan) : State :=
  { W.regs regs W.run with fab := { pulses := [{ src := 0x28, wave := some (15, 3) }], chans := [(63, c)] } }
def W.chan : List (Nat × Nat × Word) := [(0x08, 0x4F0, 0x01000128), (0x08, 0x4F4, 15)]
/-- The running device with a task input that holds a trigger. -/
def W.trig (k : Nat) (s : State) : State := s.putTask k { held := true, wave := 15, depth := 4 }
/-- Queue 31 enabled with two items of room, in a state. -/
def W.q (x : Queue) : State := (W.regs [(0x1B, 0x2F0, 0x11)] W.run).putQueue 31 x
/-- A LOAD of one record from flash words that hold zeros. -/
def W.winload : State :=
  { W.op 0x1A 1 [1, 0, 0x17F, 0] W.run with
    flash := { cells := (List.range 80).map (fun a => (a, if a = 0 then 0x10 else 0)), marks := (List.range 8).map (fun k => (k, true)) } }

theorem test_WinThresh :
    ∃ (s : State) (i : WinIn) (rest : List WinIn) (r : Nat) (x : Rule) (g : CondCfg), s.winRuns = true ∧ s.win.inputs
    = i :: rest ∧ i.tick = false ∧ s.enabledRules = [r] ∧ s.rule r = x ∧ x.cfg 0 = g ∧ x.bad = [] ∧ x.ncond = 1 ∧
    field (x.word 0) 1 0 ≤ 1 ∧ s.pwr.depth ≠ .guard ∧ s.condQuarantined g = false ∧ s.observes g 1 i.src = true ∧
    g.kind = 0 ∧ g.dir = 0 ∧ g.delta = false ∧ g.inv = false :=
  ⟨W.win (W.rule 0x57 5 0) [{ src := 87, value := 5 }], { src := 87, value := 5 }, [], 127, W.rule 0x57 5 0, (W.rule
  0x57 5 0).cfg 0, by and_intros <;> decide +kernel⟩

theorem test_WinIdle :
    ∃ (s : State), s.winRuns = false :=
  ⟨W.regs [(0x1A, 0x008, 0)] W.run, by decide +kernel⟩

theorem test_TickIdle :
    ∃ (s : State), s.dead = false ∧ s.winRuns = false :=
  ⟨W.regs [(0x1A, 0x008, 0)] W.run, by decide +kernel, by decide +kernel⟩

theorem test_TickNoRules :
    ∃ (s : State), s.dead = false ∧ s.winRuns = true ∧ s.enabledRules = [] :=
  ⟨W.regs [(0x1A, 0x008, 1)] W.run, by and_intros <;> decide +kernel⟩

theorem test_TickDropped :
    ∃ (s : State) (r : Nat) (x : Rule), s.dead = false ∧ s.winRuns = true ∧ s.enabledRules = [r] ∧ s.rule r = x ∧
    x.ncond = 1 ∧ s.tickHits (x.cfg 0) = true ∧ s.pwr.depth ≠ .guard ∧ 64 ≤ s.win.inputs.length :=
  ⟨W.win (W.rule 0x80 5 0) (List.replicate 64 {}), 127, W.rule 0x80 5 0, by and_intros <;> decide +kernel⟩

theorem test_WinLoad :
    ∃ (s : State) (tag : Fin 128) (a : Slot) (u : State) (l : List Word) (first : Nat) (count : Nat), a = s.slot
    tag.val ∧ first = field (a.arg 2) 6 0 ∧ count = field (a.arg 2) 15 8 ∧ s.running tag.val 0x1A 1 = true ∧ s.ready
    0x1A = true ∧ s.winLoadArgs a = true ∧ s.pwr.depth = .awake ∧ flag (a.arg 3) 0 = false ∧ (flag (a.arg 0) 0 &&
    s.flashBusy (a.arg 1).toNat (80 * count)) = false ∧ s.sourceWords (flag (a.arg 0) 0) true (a.arg 1).toNat (20 *
    count) = (u, l, true) ∧ (∀ i, i < count → recordLegal (chunk l 20 i) = true) :=
  ⟨W.winload, 0, W.winload.slot 0, (W.winload.sourceWords true true 0 20).1, (W.winload.sourceWords true true 0
  20).2.1, 127, 1, by and_intros <;> decide +kernel⟩

theorem test_EnRule :
    ∃ (s : State) (m : Master) (w : Word) (k : Fin 4) (new : List Nat) (rules : List Nat), new = (List.range
    32).filter (fun i => flag w i && !flag (s.rg 0x1A (0x060 + 4 * k.val)) i) ∧ rules = (List.range 128).filter (fun
    r => if r / 32 == k.val then flag w (r % 32) else s.ruleEn r) ∧ s.writeGate m 0x1A (0x060 + 4 * k.val) w = .pass
    ∧ (∀ i, i ∈ new → s.ruleLegal (s.rule (32 * k.val + i)) = true ∧ (s.rule (32 * k.val + i)).perr = false) ∧ s.fits
    (rules.map s.rule) = true :=
  ⟨W.regs [(0x1A, 0x06C, 0)] (W.win (W.rule 0x57 5 0) []), .core, 0x80000000, 3, (List.range 32).filter (fun i =>
  flag (0x80000000 : Word) i && !flag ((W.regs [(0x1A, 0x06C, 0)] (W.win (W.rule 0x57 5 0) [])).rg 0x1A 0x06C) i),
  (List.range 128).filter (fun r => if r / 32 == 3 then flag (0x80000000 : Word) (r % 32) else (W.regs [(0x1A, 0x06C,
  0)] (W.win (W.rule 0x57 5 0) [])).ruleEn r), by and_intros <;> decide +kernel⟩

theorem test_EnBad :
    ∃ (s : State) (m : Master) (w : Word) (k : Fin 4) (new : List Nat) (rules : List Nat), new = (List.range
    32).filter (fun i => flag w i && !flag (s.rg 0x1A (0x060 + 4 * k.val)) i) ∧ rules = (List.range 128).filter (fun
    r => if r / 32 == k.val then flag w (r % 32) else s.ruleEn r) ∧ s.writeGate m 0x1A (0x060 + 4 * k.val) w = .pass
    ∧ ∃ i, i ∈ new ∧ s.ruleLegal (s.rule (32 * k.val + i)) = false :=
  ⟨W.regs [(0x1A, 0x06C, 0)] (W.win (W.rule 0x180057 0 0) []), .core, 0x80000000, 3, (List.range 32).filter (fun i =>
  flag (0x80000000 : Word) i && !flag ((W.regs [(0x1A, 0x06C, 0)] (W.win (W.rule 0x180057 0 0) [])).rg 0x1A 0x06C)
  i), (List.range 128).filter (fun r => if r / 32 == 3 then flag (0x80000000 : Word) (r % 32) else (W.regs [(0x1A,
  0x06C, 0)] (W.win (W.rule 0x180057 0 0) [])).ruleEn r), by decide +kernel, by decide +kernel, by decide +kernel,
  31, by decide +kernel, by decide +kernel⟩

theorem test_PulseUnselected :
    ∃ (s : State) (src : BitVec 8) (p : Pulse) (rest : List Pulse), takePulse src.toNat s.fab.pulses = some (p, rest)
    ∧ s.dead = false ∧ s.chansOf src.toNat = [] :=
  ⟨W.puls [] {}, 0x28, { src := 0x28, wave := some (15, 3) }, [], by and_intros <;> decide +kernel⟩

theorem test_PulseTaken :
    ∃ (s : State) (src : BitVec 8) (p : Pulse) (rest : List Pulse) (ch : Nat) (w : Nat) (d : Nat), takePulse
    src.toNat s.fab.pulses = some (p, rest) ∧ s.dead = false ∧ s.chansOf src.toNat = [ch] ∧ p.wave = some (w, d) ∧ w
    < 16 ∧ d < 4 ∧ (s.chan ch).accepted = none ∧ (s.chan ch).waves.getLsbD w = false :=
  ⟨W.puls W.chan {}, 0x28, { src := 0x28, wave := some (15, 3) }, [], 63, 15, 3, by and_intros <;> decide +kernel⟩

theorem test_PulseLoops :
    ∃ (s : State) (src : BitVec 8) (p : Pulse) (rest : List Pulse) (ch : Nat) (w : Nat) (d : Nat), takePulse
    src.toNat s.fab.pulses = some (p, rest) ∧ s.dead = false ∧ s.chansOf src.toNat = [ch] ∧ p.wave = some (w, d) ∧ w
    < 16 ∧ d < 4 ∧ (s.chan ch).accepted = none ∧ (s.chan ch).waves.getLsbD w = true :=
  ⟨W.puls W.chan { waves := 0x8000 }, 0x28, { src := 0x28, wave := some (15, 3) }, [], 63, 15, 3,
  by and_intros <;> decide +kernel⟩

theorem test_NoTrigger :
    ∃ (s : State) (task : BitVec 8), (s.task task.toNat).held = false :=
  ⟨W.run, 0xFF, by decide +kernel⟩

theorem test_WakeTrigger :
    ∃ (s : State) (k : Fin 4), (s.task (0x28 + k.val)).held = true ∧ s.dead = false ∧ s.unavailable (taskIsland (0x28
    + k.val)) = false :=
  ⟨W.trig 0x2B (W.regs [(0x05, 0x050, 0xFFFFFFFF)] W.run), 3, by and_intros <;> decide +kernel⟩

theorem test_ThreadTrigger :
    ∃ (s : State) (t : Fin 16), (s.task t.val).held = true ∧ s.dead = false ∧ s.unavailable .aon = false ∧ s.ready
    0x0A = true ∧ (s.thread t.val).st = .wait ∧ flag (s.thrReg t.val 0x04) 2 = true :=
  ⟨W.trig 15 ((W.regs [(0x0A, 0x008, 1), (0x0A, 0x4C4, 4)] W.run).putThread 15 { st := .wait }), 15,
  by and_intros <;> decide +kernel⟩

theorem test_TagFreed :
    ∃ (s : State) (tag : Fin 16), (s.waveTag tag.val).live = true ∧ s.waveHeld tag.val = false :=
  ⟨W.run.putWave 15 { live := true, last := 3 }, 15, by decide +kernel, by decide +kernel⟩

theorem test_TagHeld2 :
    ∃ (s : State) (tag : Fin 16), s.waveHeld tag.val = true :=
  ⟨W.trig 3 (W.run.putWave 15 { live := true, last := 3 }), 15, by decide +kernel⟩

theorem test_SwgenPulses :
    ∃ (s : State) (m : Master) (v : Word), s.writeGate m 0x08 0x054 v = .pass ∧ s.ready 0x08 = true :=
  ⟨W.regs [(0x08, 0x4F0, 0x0000012F)] W.run, .core, 0xFF, by decide +kernel, by decide +kernel⟩

theorem test_ChanEnabled :
    ∃ (s : State) (m : Master) (v : Word) (ch : Fin 64) (new : Word) (t : State), new = v &&& 0xFF0007FF ∧ t =
    s.setRg 0x08 (0x100 + 0x10 * ch.val) (setField new 14 12 (Master.id m)) ∧ s.writeGate m 0x08 (0x100 + 0x10 *
    ch.val) v = .pass ∧ flag (s.chCfg ch.val) 8 = false ∧ flag (s.chCfg ch.val) 9 = false ∧ flag new 8 = true ∧
    sourceKnown (field new 7 0) = true ∧ (∀ k, k ∈ t.chTasks ch.val → taskKnown k = true) ∧ distinct (t.chTasks
    ch.val) = true ∧ (flag new 9 = true ∨ (s.secureSource (field new 7 0) = false ∧ ∀ k, k ∈ t.chTasks ch.val →
    secureTask k = false)) :=
  ⟨(W.regs [(0x08, 0x4F4, 15)] W.run), .core, 0x01000128, 63, 0x01000128, _, by decide +kernel, rfl,
  by and_intros <;> decide +kernel⟩

theorem test_ChanTaskA :
    ∃ (s : State) (m : Master) (v : Word) (ch : Fin 64) (reg : Fin 3), reg ≠ 0 ∧ s.writeGate m 0x08 (0x100 + 0x10 *
    ch.val + 4 * reg.val) v = .pass ∧ flag (s.chCfg ch.val) 9 = false ∧ flag (s.chCfg ch.val) 8 = false :=
  ⟨W.run, .core, 0xFFFFFFFF, 63, 1, by and_intros <;> decide +kernel⟩

theorem test_ChanBusy :
    ∃ (s : State) (m : Master) (v : Word) (ch : Fin 64) (reg : Fin 3), reg ≠ 0 ∧ s.writeGate m 0x08 (0x100 + 0x10 *
    ch.val + 4 * reg.val) v = .pass ∧ flag (s.chCfg ch.val) 9 = false ∧ flag (s.chCfg ch.val) 8 = true :=
  ⟨W.regs W.chan W.run, .core, 0xFFFFFFFF, 63, 2, by and_intros <;> decide +kernel⟩

theorem test_TapSet :
    ∃ (s : State) (m : Master) (v : Word) (k : Fin 32), s.writeGate m 0x08 (0x080 + 4 * k.val) v = .pass ∧ s.assigned
    (field v 7 0) = true ∧ field v 7 0 ≤ 0x7F ∧ field v 7 0 ≠ 0x08 ∧ s.chansOf (0xC0 + k.val) = [] :=
  ⟨W.run, .core, 0x80001F07, 31, by and_intros <;> decide +kernel⟩

theorem test_TapBad :
    ∃ (s : State) (m : Master) (v : Word) (k : Fin 32), s.writeGate m 0x08 (0x080 + 4 * k.val) v = .pass ∧
    (s.assigned (field v 7 0) = false ∨ field v 7 0 = 0x08 ∨ s.chansOf (0xC0 + k.val) ≠ []) :=
  ⟨W.run, .core, 0x80001F08, 31, by decide +kernel, by decide +kernel⟩

theorem test_WholePlaced :
    ∃ (s : State) (q : Fin 32) (who : Producer) (c : Word) (x : Queue), c = s.qcfg q.val ∧ x = s.queue q.val ∧
    s.granaryUp = true ∧ qEn c = true ∧ x.ptrBad = false ∧ x.opened = none ∧ Producer.barred who q.val = false ∧ ∃ (l
    : List (BitVec 24)), l ≠ [] ∧ x.items.length + l.length ≤ qCap c :=
  ⟨W.q {}, 31, .block, (W.q {}).qcfg 31, (W.q {}).queue 31, by decide +kernel, by decide +kernel, by decide +kernel,
  by decide +kernel, ⟨by decide +kernel, by decide +kernel, by decide +kernel, [1, 2], by decide +kernel,
  by decide +kernel⟩⟩

theorem test_WholeFull :
    ∃ (s : State) (q : Fin 32) (who : Producer) (c : Word) (x : Queue), c = s.qcfg q.val ∧ x = s.queue q.val ∧
    s.granaryUp = true ∧ qEn c = true ∧ x.ptrBad = false ∧ x.opened = none ∧ Producer.barred who q.val = false ∧ ∃ (l
    : List (BitVec 24)), l ≠ [] ∧ qCap c < x.items.length + l.length :=
  ⟨W.q { items := [{ word := 0x80000001 }] }, 31, .block, (W.q { items := [{ word := 0x80000001 }] }).qcfg 31, (W.q
  { items := [{ word := 0x80000001 }] }).queue 31, by decide +kernel, by decide +kernel, by decide +kernel,
  by decide +kernel, ⟨by decide +kernel, by decide +kernel, by decide +kernel, [1, 2], by decide +kernel,
  by decide +kernel⟩⟩

theorem test_FirstItem :
    ∃ (s : State) (q : Fin 32) (who : Producer) (c : Word) (x : Queue), c = s.qcfg q.val ∧ x = s.queue q.val ∧
    s.granaryUp = true ∧ qEn c = true ∧ x.ptrBad = false ∧ x.opened = none ∧ Producer.barred who q.val = false ∧ qCut
    c = false ∧ x.hidden = [] :=
  ⟨W.q {}, 31, .thread 15, (W.q {}).qcfg 31, (W.q {}).queue 31, by and_intros <;> decide +kernel⟩

theorem test_SingleItem :
    ∃ (s : State) (q : Fin 32) (who : Producer) (c : Word) (x : Queue), c = s.qcfg q.val ∧ x = s.queue q.val ∧
    s.granaryUp = true ∧ qEn c = true ∧ x.ptrBad = false ∧ x.opened = none ∧ Producer.barred who q.val = false ∧
    x.items.length < qCap c :=
  ⟨W.q {}, 31, .master .debug, (W.q {}).qcfg 31, (W.q {}).queue 31, by and_intros <;> decide +kernel⟩

theorem test_WindowPush :
    ∃ (s : State) (q : Fin 32) (who : Producer) (m : Master) (v : Word) (c : Word) (x : Queue), c = s.qcfg q.val ∧ x
    = s.queue q.val ∧ s.granaryUp = true ∧ qEn c = true ∧ x.ptrBad = false ∧ x.opened = none ∧ Producer.barred who
    q.val = false ∧ 2 ≤ q.val ∧ s.writeGate m (0x50 + q.val) 0x048 v = .pass ∧ flag v 31 = false ∧ field v 30 29 = 0
    ∧ x.items.length < qCap c :=
  ⟨W.q {}, 31, .master .core, .core, 0x00FFFFFF, (W.q {}).qcfg 31, (W.q {}).queue 31,
  by and_intros <;> decide +kernel⟩

theorem test_Barred :
    ∃ (s : State) (q : Fin 32) (who : Producer) (c : Word) (x : Queue), c = s.qcfg q.val ∧ x = s.queue q.val ∧ ∃ (l :
    List (BitVec 24)), l ≠ [] ∧ Producer.barred who q.val = true :=
  ⟨W.run, 1, .master .core, (W.run).qcfg 1, (W.run).queue 1, by decide +kernel, by decide +kernel, [1],
  by decide +kernel, by decide +kernel⟩

theorem test_LastItem :
    ∃ (s : State) (q : Fin 32) (who : Producer) (c : Word) (x : Queue), c = s.qcfg q.val ∧ x = s.queue q.val ∧
    s.granaryUp = true ∧ qEn c = true ∧ x.ptrBad = false ∧ qCut c = false ∧ Producer.barred who q.val = false ∧
    x.opened = some (Producer.num who) ∧ x.hidden.length < 64 ∧ x.items.length + x.hidden.length < qCap c :=
  ⟨W.q { opened := some 31, total := 1, hidden := [0x20000001] }, 31, .thread 15, (W.q
  { opened := some 31, total := 1, hidden := [0x20000001] }).qcfg 31, (W.q
  { opened := some 31, total := 1, hidden := [0x20000001] }).queue 31, by and_intros <;> decide +kernel⟩

theorem test_EmptyPush :
    ∃ (s : State) (q : Fin 32) (c : Word) (x : Queue), c = s.qcfg q.val ∧ x = s.queue q.val :=
  ⟨W.run, 31, (W.run).qcfg 31, (W.run).queue 31, by decide +kernel, by decide +kernel⟩

theorem test_BarredWindow :
    ∃ (s : State) (q : Fin 32) (m : Master) (v : Word) (c : Word) (x : Queue), c = s.qcfg q.val ∧ x = s.queue q.val ∧
    q.val ≤ 1 ∧ s.writeGate m (0x50 + q.val) 0x048 v = .pass :=
  ⟨W.run, 1, .core, 0, (W.run).qcfg 1, (W.run).queue 1, by and_intros <;> decide +kernel⟩

theorem test_PopsHead :
    ∃ (s : State) (q : Fin 32) (m : Master) (c : Word) (x : Queue), c = s.qcfg q.val ∧ x = s.queue q.val ∧ ∃ e rest,
    s.readGate m (0x50 + q.val) 0x040 = .pass ∧ s.consumes m q.val = true ∧ x.ptrBad = false ∧ x.items = e :: rest ∧
    e.bad = false :=
  ⟨W.q { items := [{ word := 0x80000001 }] }, 31, .core, (W.q { items := [{ word := 0x80000001 }] }).qcfg 31, (W.q
  { items := [{ word := 0x80000001 }] }).queue 31, by decide +kernel, by decide +kernel, { word := 0x80000001 }, [],
  by and_intros <;> decide +kernel⟩

theorem test_PopsEmpty :
    ∃ (s : State) (q : Fin 32) (m : Master) (c : Word) (x : Queue), c = s.qcfg q.val ∧ x = s.queue q.val ∧ s.readGate
    m (0x50 + q.val) 0x040 = .pass ∧ s.consumes m q.val = true ∧ x.ptrBad = false ∧ x.items = [] :=
  ⟨W.q {}, 31, .core, (W.q {}).qcfg 31, (W.q {}).queue 31, by and_intros <;> decide +kernel⟩

theorem test_PopsNot :
    ∃ (s : State) (q : Fin 32) (m : Master) (c : Word) (x : Queue), c = s.qcfg q.val ∧ x = s.queue q.val ∧ s.readGate
    m (0x50 + q.val) 0x040 = .pass ∧ s.consumes m q.val = false :=
  ⟨W.regs [(0x1B, 0x2F0, 0x411)] W.run, 31, .core, (W.regs [(0x1B, 0x2F0, 0x411)] W.run).qcfg 31, (W.regs [(0x1B,
  0x2F0, 0x411)] W.run).queue 31, by and_intros <;> decide +kernel⟩

theorem test_Enables :
    ∃ (s : State) (q : Fin 32) (m : Master) (v : Word) (c : Word) (x : Queue), c = s.qcfg q.val ∧ x = s.queue q.val ∧
    ∃ new, new = v &&& 0x07FF07F7 ∧ 2 ≤ q.val ∧ s.writeGate m 0x1B (0x100 + 0x10 * q.val) v = .pass ∧ qEn c = false ∧
    qEn new = true ∧ 4 * qCap new ≤ (s.rg 0x1B 0x044).toNat :=
  ⟨W.regs [(0x1B, 0x044, 0x100)] W.run, 31, .core, 0x00010061, (W.regs [(0x1B, 0x044, 0x8)] W.run).qcfg 31, (W.regs
  [(0x1B, 0x044, 0x8)] W.run).queue 31, by decide +kernel, by decide +kernel, 0x00010061,
  by and_intros <;> decide +kernel⟩

theorem test_NoPool :
    ∃ (s : State) (q : Fin 32) (m : Master) (v : Word) (c : Word) (x : Queue), c = s.qcfg q.val ∧ x = s.queue q.val ∧
    ∃ new, new = v &&& 0x07FF07F7 ∧ 2 ≤ q.val ∧ s.writeGate m 0x1B (0x100 + 0x10 * q.val) v = .pass ∧ qEn c = false ∧
    qEn new = true ∧ (s.rg 0x1B 0x044).toNat < 4 * qCap new :=
  ⟨W.regs [(0x1B, 0x044, 0xFF)] W.run, 31, .core, 0x00010061, (W.regs [(0x1B, 0x044, 0x7)] W.run).qcfg 31, (W.regs
  [(0x1B, 0x044, 0x7)] W.run).queue 31, by decide +kernel, by decide +kernel, 0x00010061,
  by and_intros <;> decide +kernel⟩


end WinnowFabric


namespace Queues

/-- The running device with GRANARY's own state changed. -/
def W.gran (f : Granary → Granary) (s : State) : State := { s with gran := f s.gran }
/-- A heap region with handle 63 in frames 1,500 and 300, one of them in the Loft. -/
def W.heap (pin : Nat) (s : State) : State := s.setRegion 63 (some { purpose := 4, frames := [1500, 300], pin := pin })
def W.copying (s : State) : State := W.gran (fun g => { g with copy := some { source := 300, dest := 600, reason := 4 } }) s
/-- Aperture 3 open on region 63, and its second frame's last word uncorrectable. -/
def W.ap (h : Nat) : State :=
  W.gran (fun g => { g with bad := [300 * 1024 + 1023] }) (W.regs [(0x1C, 0x0CC, 0x40 + BitVec.ofNat 32 h)] (W.heap 0 W.run))
/-- Every bank SUSPECT: no frame is free. -/
def W.full (s : State) : State := W.regs [(0x1C, 0x050, 0xFFFFFFFF), (0x1C, 0x054, 0xFFFF)] s
/-- Two banks in service, 40 and 41. -/
def W.twoBanks (s : State) : State := W.regs [(0x1C, 0x050, 0xFFFFFFFF), (0x1C, 0x054, 0xFCFF)] s
/-- Only the Loft's two banks in service. -/
def W.loftOnly (s : State) : State := W.regs [(0x1C, 0x050, 0xFFFFFFFF), (0x1C, 0x054, 0x3FFF)] s

theorem test_DeclareMakes :
    ∃ (s : State) (tag : Fin 128) (k : Slot) (h : Nat) (n : Nat), k = s.slot tag.val ∧ h = field (k.arg 0) 5 0 ∧ n =
    field (k.arg 1) 9 0 ∧ s.ready 0x1C = true ∧ (∀ j, j ∈ s.gran.jobs → j.slot ≠ some (BitVec.ofNat 7 tag.val)) ∧
    s.running tag.val 0x1C 1 = true ∧ handleAllowed (field (k.arg 0) 10 8) h = true ∧ sizeAllowed (field (k.arg 0) 10
    8) n = true ∧ s.region h = none ∧ n + 32 ≤ s.freeFrames ∧ n ≤ (s.freeList 1472).length :=
  ⟨W.twoBanks (W.op 0x1C 1 [0x43F, 32] W.run), 0, (W.twoBanks (W.op 0x1C 1 [0x43F, 32] W.run)).slot 0, 63, 32,
  by and_intros <;> decide +kernel⟩

theorem test_DeclareBusy :
    ∃ (s : State) (tag : Fin 128) (k : Slot) (h : Nat) (n : Nat), k = s.slot tag.val ∧ h = field (k.arg 0) 5 0 ∧ n =
    field (k.arg 1) 9 0 ∧ s.ready 0x1C = true ∧ (∀ j, j ∈ s.gran.jobs → j.slot ≠ some (BitVec.ofNat 7 tag.val)) ∧
    s.running tag.val 0x1C 1 = true ∧ handleAllowed (field (k.arg 0) 10 8) h = true ∧ sizeAllowed (field (k.arg 0) 10
    8) n = true ∧ s.region h = none ∧ s.freeFrames < n + 32 :=
  ⟨W.full (W.op 0x1C 1 [0x43F, 512] W.run), 0, (W.full (W.op 0x1C 1 [0x43F, 512] W.run)).slot 0, 63, 512,
  by and_intros <;> decide +kernel⟩

theorem test_ReleaseFrees :
    ∃ (s : State) (tag : Fin 128) (k : Slot) (h : Nat) (n : Nat) (r : Region), k = s.slot tag.val ∧ h = field (k.arg
    0) 5 0 ∧ n = field (k.arg 1) 9 0 ∧ s.ready 0x1C = true ∧ (∀ j, j ∈ s.gran.jobs → j.slot ≠ some (BitVec.ofNat 7
    tag.val)) ∧ s.running tag.val 0x1C 2 = true ∧ s.region h = some r ∧ h ≠ 0 ∧ (h = 1 → s.logQueues = false) ∧
    s.regionInUse h = false :=
  ⟨W.heap 0 (W.op 0x1C 2 [63] W.run), 0, (W.heap 0 (W.op 0x1C 2 [63] W.run)).slot 0, 63, 0,
  { purpose := 4, frames := [1500, 300] }, by and_intros <;> decide +kernel⟩

theorem test_ResizeDrops :
    ∃ (s : State) (tag : Fin 128) (k : Slot) (h : Nat) (n : Nat) (r : Region), k = s.slot tag.val ∧ h = field (k.arg
    0) 5 0 ∧ n = field (k.arg 1) 9 0 ∧ s.ready 0x1C = true ∧ (∀ j, j ∈ s.gran.jobs → j.slot ≠ some (BitVec.ofNat 7
    tag.val)) ∧ s.running tag.val 0x1C 3 = true ∧ s.region h = some r ∧ sizeAllowed r.purpose n = true ∧ n ≤
    r.frames.length ∧ 4 ≤ h :=
  ⟨W.heap 0 (W.op 0x1C 3 [63, 1] W.run), 0, (W.heap 0 (W.op 0x1C 3 [63, 1] W.run)).slot 0, 63, 1,
  { purpose := 4, frames := [1500, 300] }, by and_intros <;> decide +kernel⟩

theorem test_PinPlain :
    ∃ (s : State) (tag : Fin 128) (k : Slot) (h : Nat) (n : Nat) (r : Region), k = s.slot tag.val ∧ h = field (k.arg
    0) 5 0 ∧ n = field (k.arg 1) 9 0 ∧ s.ready 0x1C = true ∧ (∀ j, j ∈ s.gran.jobs → j.slot ≠ some (BitVec.ofNat 7
    tag.val)) ∧ s.running tag.val 0x1C 4 = true ∧ s.region h = some r ∧ field (k.arg 0) 9 8 ≤ 1 ∧ s.gran.jobs = [] ∧
    (∀ c, s.gran.copy = some c → field (k.arg 0) 9 8 = 0 ∨ c.source ∉ r.frames) :=
  ⟨W.heap 0 (W.op 0x1C 4 [0x13F] W.run), 0, (W.heap 0 (W.op 0x1C 4 [0x13F] W.run)).slot 0, 63, 0,
  { purpose := 4, frames := [1500, 300] }, by and_intros <;> decide +kernel⟩

theorem test_PinAbandons :
    ∃ (s : State) (tag : Fin 128) (k : Slot) (h : Nat) (n : Nat) (r : Region), k = s.slot tag.val ∧ h = field (k.arg
    0) 5 0 ∧ n = field (k.arg 1) 9 0 ∧ s.ready 0x1C = true ∧ (∀ j, j ∈ s.gran.jobs → j.slot ≠ some (BitVec.ofNat 7
    tag.val)) ∧ s.running tag.val 0x1C 4 = true ∧ s.region h = some r ∧ field (k.arg 0) 9 8 ≤ 1 ∧ s.gran.jobs = [] ∧
    ∃ c, s.gran.copy = some c ∧ field (k.arg 0) 9 8 = 1 ∧ c.source ∈ r.frames :=
  ⟨W.copying (W.heap 0 (W.op 0x1C 4 [0x13F] W.run)), 0, (W.copying (W.heap 0 (W.op 0x1C 4 [0x13F] W.run))).slot 0,
  63, 0, { purpose := 4, frames := [1500, 300] }, by decide +kernel, by decide +kernel, by decide +kernel,
  by decide +kernel, ⟨by decide +kernel, by decide +kernel, by decide +kernel, by decide +kernel, ⟨by decide +kernel,
  { source := 300, dest := 600, reason := 4 }, by and_intros <;> decide +kernel⟩⟩⟩

theorem test_MigrateThere :
    ∃ (s : State) (tag : Fin 128) (k : Slot) (h : Nat) (n : Nat) (r : Region), k = s.slot tag.val ∧ h = field (k.arg
    0) 5 0 ∧ n = field (k.arg 1) 9 0 ∧ s.ready 0x1C = true ∧ (∀ j, j ∈ s.gran.jobs → j.slot ≠ some (BitVec.ofNat 7
    tag.val)) ∧ s.running tag.val 0x1C 5 = true ∧ s.region h = some r ∧ r.pin = 0 ∧ field (k.arg 0) 9 8 = 2 ∧ (∀ f, f
    ∈ r.frames → f / 32 = 46 ∨ f / 32 = 47) :=
  ⟨(W.op 0x1C 5 [0x23F] W.run).setRegion 63 (some { purpose := 4, frames := [1500] }), 0, ((W.op 0x1C 5 [0x23F]
  W.run).setRegion 63 (some { purpose := 4, frames := [1500] })).slot 0, 63, 0, { purpose := 4, frames := [1500] },
  by and_intros <;> decide +kernel⟩

theorem test_MigrateWaits :
    ∃ (s : State) (tag : Fin 128) (k : Slot) (h : Nat) (n : Nat) (r : Region), k = s.slot tag.val ∧ h = field (k.arg
    0) 5 0 ∧ n = field (k.arg 1) 9 0 ∧ s.ready 0x1C = true ∧ (∀ j, j ∈ s.gran.jobs → j.slot ≠ some (BitVec.ofNat 7
    tag.val)) ∧ s.running tag.val 0x1C 5 = true ∧ s.region h = some r ∧ r.pin = 0 ∧ field (k.arg 0) 9 8 = 2 ∧ ∃ c l,
    s.gran.copy = some c ∧ l = (placeFrames r.frames 2 0).1 ∧ l ≠ [] ∧ l.length ≤ (s.moveTargets (some [46,
    47])).length :=
  ⟨W.loftOnly (W.copying (W.heap 0 (W.op 0x1C 5 [0x23F] W.run))), 0, (W.loftOnly (W.copying (W.heap 0 (W.op 0x1C 5
  [0x23F] W.run)))).slot 0, 63, 0, { purpose := 4, frames := [1500, 300] }, by decide +kernel, by decide +kernel,
  by decide +kernel, by decide +kernel, ⟨by decide +kernel, by decide +kernel, by decide +kernel, by decide +kernel,
  ⟨by decide +kernel, { source := 300, dest := 600, reason := 4 }, [300], by and_intros <;> decide +kernel⟩⟩⟩

theorem test_MigratePinned :
    ∃ (s : State) (tag : Fin 128) (k : Slot) (h : Nat) (n : Nat) (r : Region), k = s.slot tag.val ∧ h = field (k.arg
    0) 5 0 ∧ n = field (k.arg 1) 9 0 ∧ s.ready 0x1C = true ∧ (∀ j, j ∈ s.gran.jobs → j.slot ≠ some (BitVec.ofNat 7
    tag.val)) ∧ s.running tag.val 0x1C 5 = true ∧ s.region h = some r ∧ r.pin ≠ 0 ∧ field (k.arg 0) 9 8 = 2 :=
  ⟨W.heap 1 (W.op 0x1C 5 [0x23F] W.run), 0, (W.heap 1 (W.op 0x1C 5 [0x23F] W.run)).slot 0, 63, 0,
  { purpose := 4, frames := [1500, 300], pin := 1 }, by and_intros <;> decide +kernel⟩

theorem test_CopyMoves :
    ∃ (s : State) (tag : Fin 128) (k : Slot) (h : Nat) (n : Nat), k = s.slot tag.val ∧ h = field (k.arg 0) 5 0 ∧ n =
    field (k.arg 1) 9 0 ∧ s.ready 0x1C = true ∧ (∀ j, j ∈ s.gran.jobs → j.slot ≠ some (BitVec.ofNat 7 tag.val)) ∧ ∃
    c, s.gran.copy = some c ∧ s.gran.jobs = [] ∧ (s.regionOf c.source).isSome = true ∧ (∀ w, w ∈ s.gran.soft → w /
    1024 ≠ c.source) :=
  ⟨W.copying (W.heap 0 W.run), 0, (W.copying (W.heap 0 W.run)).slot 0, 0, 0, by decide +kernel, by decide +kernel,
  by decide +kernel, by decide +kernel, ⟨by decide +kernel, { source := 300, dest := 600, reason := 4 },
  by and_intros <;> decide +kernel⟩⟩

theorem test_CopyCorrects :
    ∃ (s : State) (tag : Fin 128) (k : Slot) (h : Nat) (n : Nat), k = s.slot tag.val ∧ h = field (k.arg 0) 5 0 ∧ n =
    field (k.arg 1) 9 0 ∧ s.ready 0x1C = true ∧ (∀ j, j ∈ s.gran.jobs → j.slot ≠ some (BitVec.ofNat 7 tag.val)) ∧ ∃
    c, s.gran.copy = some c ∧ s.gran.jobs = [] ∧ (s.regionOf c.source).isSome = true :=
  ⟨W.gran (fun g => { g with soft := [300 * 1024] }) (W.copying (W.heap 0 W.run)), 0, (W.copying (W.heap 0
  W.run)).slot 0, 0, 0, by decide +kernel, by decide +kernel, by decide +kernel, by decide +kernel,
  ⟨by decide +kernel, { source := 300, dest := 600, reason := 4 }, by and_intros <;> decide +kernel⟩⟩

theorem test_CopyDropped :
    ∃ (s : State) (tag : Fin 128) (k : Slot) (h : Nat) (n : Nat), k = s.slot tag.val ∧ h = field (k.arg 0) 5 0 ∧ n =
    field (k.arg 1) 9 0 ∧ s.ready 0x1C = true ∧ (∀ j, j ∈ s.gran.jobs → j.slot ≠ some (BitVec.ofNat 7 tag.val)) ∧ ∃
    c, s.gran.copy = some c ∧ s.gran.jobs = [] ∧ s.regionOf c.source = none :=
  ⟨W.copying W.run, 0, (W.copying W.run).slot 0, 0, 0, by decide +kernel, by decide +kernel, by decide +kernel,
  by decide +kernel, ⟨by decide +kernel, { source := 300, dest := 600, reason := 4 },
  by and_intros <;> decide +kernel⟩⟩

theorem test_Scored :
    ∃ (s : State) (tag : Fin 128) (k : Slot) (h : Nat) (n : Nat), k = s.slot tag.val ∧ h = field (k.arg 0) 5 0 ∧ n =
    field (k.arg 1) 9 0 ∧ s.ready 0x1C = true ∧ (∀ j, j ∈ s.gran.jobs → j.slot ≠ some (BitVec.ofNat 7 tag.val)) ∧
    s.granaryUp = true ∧ s.pwr.depth ≠ .guard ∧ flag (s.rg 0x1C 0x088) 0 = false :=
  ⟨W.regs [(0x1C, 0x088, 0)] W.run, 0, (W.regs [(0x1C, 0x088, 0)] W.run).slot 0, 0, 0,
  by and_intros <;> decide +kernel⟩

theorem test_NotScored :
    ∃ (s : State) (tag : Fin 128) (k : Slot) (h : Nat) (n : Nat), k = s.slot tag.val ∧ h = field (k.arg 0) 5 0 ∧ n =
    field (k.arg 1) 9 0 ∧ s.ready 0x1C = true ∧ (∀ j, j ∈ s.gran.jobs → j.slot ≠ some (BitVec.ofNat 7 tag.val)) ∧
    s.granaryUp = false :=
  ⟨W.regs [(0x1B, 0x004, 0)] W.run, 0, (W.regs [(0x1B, 0x004, 0)] W.run).slot 0, 0, 0,
  by and_intros <;> decide +kernel⟩

theorem test_HandlerSet :
    ∃ (s : State) (tag : Fin 128) (k : Slot) (n : Nat) (b : Nat), k = s.slot tag.val ∧ n = field (k.arg 0) 4 0 ∧ b =
    field (k.arg 0) 5 0 ∧ s.ready 0x1C = true ∧ s.running tag.val 0x1C 6 = true ∧ flag (k.arg 0) 22 = false ∧ flag
    (k.arg 0) 21 = true :=
  ⟨W.op 0x1C 6 [0x003F3F1F] W.run, 0, (W.op 0x1C 6 [0x003F3F1F] W.run).slot 0, 31, 31,
  by and_intros <;> decide +kernel⟩

theorem test_HandlerPin :
    ∃ (s : State) (tag : Fin 128) (k : Slot) (n : Nat) (b : Nat), k = s.slot tag.val ∧ n = field (k.arg 0) 4 0 ∧ b =
    field (k.arg 0) 5 0 ∧ ∃ h w, s.ready 0x1C = true ∧ s.running tag.val 0x1C 7 = true ∧ s.handler n = some h ∧ w =
    field (k.arg 0) 9 8 ∧ w ≤ 2 ∧ (w = 1 → h.gform = true) ∧ (w = 2 → h.cform = true) :=
  ⟨(W.op 0x1C 7 [0x21F] W.run).setHandler 31 (some { cform := true }), 0, ((W.op 0x1C 7 [0x21F] W.run).setHandler 31
  (some { cform := true })).slot 0, 31, 31, by decide +kernel, by decide +kernel, by decide +kernel,
  { cform := true }, 2, by and_intros <;> decide +kernel⟩

theorem test_RaiseClear :
    ∃ (s : State) (tag : Fin 128) (m : Master) (v : Word) (k : Slot) (n : Nat) (b : Nat), k = s.slot tag.val ∧ n =
    field (k.arg 0) 4 0 ∧ b = field (k.arg 0) 5 0 ∧ s.writeGate m 0x1C 0x084 v = .pass :=
  ⟨W.regs [(0x1C, 0x084, 0xC0000001)] W.run, 0, .core, 0x80000000, (W.regs [(0x1C, 0x084, 0xC0000001)] W.run).slot 0,
  0, 0, by and_intros <;> decide +kernel⟩

theorem test_CtxSet :
    ∃ (s : State) (tag : Fin 128) (m : Master) (v : Word) (k : Slot) (n : Nat) (b : Nat), k = s.slot tag.val ∧ n =
    field (k.arg 0) 4 0 ∧ b = field (k.arg 0) 5 0 ∧ s.writeGate m 0x1C 0x06C v = .pass ∧ field v 7 0 + field v 15 8 +
    field v 23 16 ≤ s.ctxService :=
  ⟨W.run, 0, .core, 0x000100FF, (W.run).slot 0, 0, 0, by and_intros <;> decide +kernel⟩

theorem test_CtxArg :
    ∃ (s : State) (tag : Fin 128) (m : Master) (v : Word) (k : Slot) (n : Nat) (b : Nat), k = s.slot tag.val ∧ n =
    field (k.arg 0) 4 0 ∧ b = field (k.arg 0) 5 0 ∧ s.writeGate m 0x1C 0x06C v = .pass ∧ s.ctxService < field v 7 0 +
    field v 15 8 + field v 23 16 :=
  ⟨W.run, 0, .core, 0x0001FFFF, (W.run).slot 0, 0, 0, by and_intros <;> decide +kernel⟩

theorem test_BankBack :
    ∃ (s : State) (tag : Fin 128) (k : Slot) (n : Nat) (b : Nat), k = s.slot tag.val ∧ n = field (k.arg 0) 4 0 ∧ b =
    field (k.arg 0) 5 0 ∧ s.ready 0x1C = true ∧ s.running tag.val 0x1C 8 = true ∧ b < 48 ∧ s.bankWaits b = false :=
  ⟨W.op 0x1C 8 [47] W.run, 0, (W.op 0x1C 8 [47] W.run).slot 0, 15, 47, by and_intros <;> decide +kernel⟩

theorem test_BankFails :
    ∃ (s : State) (tag : Fin 128) (k : Slot) (n : Nat) (b : Nat), k = s.slot tag.val ∧ n = field (k.arg 0) 4 0 ∧ b =
    field (k.arg 0) 5 0 ∧ s.ready 0x1C = true ∧ s.running tag.val 0x1C 8 = true ∧ b < 48 ∧ s.bankWaits b = false :=
  ⟨W.op 0x1C 8 [47] W.run, 0, (W.op 0x1C 8 [47] W.run).slot 0, 15, 47, by and_intros <;> decide +kernel⟩

theorem test_BankWaits :
    ∃ (s : State) (tag : Fin 128) (k : Slot) (n : Nat) (b : Nat), k = s.slot tag.val ∧ n = field (k.arg 0) 4 0 ∧ b =
    field (k.arg 0) 5 0 ∧ s.ready 0x1C = true ∧ s.running tag.val 0x1C 8 = true ∧ b < 48 ∧ s.bankWaits b = true :=
  ⟨W.copying (W.op 0x1C 8 [47] W.run), 0, (W.copying (W.op 0x1C 8 [47] W.run)).slot 0, 15, 47,
  by and_intros <;> decide +kernel⟩

theorem test_PassStarts :
    ∃ (s : State) (tag : Fin 128) (k : Slot) (n : Nat) (b : Nat), k = s.slot tag.val ∧ n = field (k.arg 0) 4 0 ∧ b =
    field (k.arg 0) 5 0 ∧ s.ready 0x1D = true ∧ s.running tag.val 0x1D 1 = true ∧ s.gran.pass = none :=
  ⟨W.op 0x1D 1 [] W.run, 0, (W.op 0x1D 1 [] W.run).slot 0, 0, 0, by and_intros <;> decide +kernel⟩

theorem test_BankTested :
    ∃ (s : State) (tag : Fin 128) (k : Slot) (n : Nat) (b : Nat), k = s.slot tag.val ∧ n = field (k.arg 0) 4 0 ∧ b =
    field (k.arg 0) 5 0 ∧ s.ready 0x1D = true ∧ s.running tag.val 0x1D 2 = true ∧ flag (k.arg 0) 6 = false ∧ b < 48 ∧
    s.bankWaits b = false :=
  ⟨W.op 0x1D 2 [0] (W.heap 1 W.run), 0, (W.op 0x1D 2 [0] (W.heap 1 W.run)).slot 0, 0, 0,
  by and_intros <;> decide +kernel⟩

theorem test_BankLater :
    ∃ (s : State) (tag : Fin 128) (k : Slot) (n : Nat) (b : Nat), k = s.slot tag.val ∧ n = field (k.arg 0) 4 0 ∧ b =
    field (k.arg 0) 5 0 ∧ s.ready 0x1D = true ∧ s.running tag.val 0x1D 2 = true ∧ flag (k.arg 0) 6 = false ∧ b < 48 ∧
    s.bankWaits b = true :=
  ⟨W.copying (W.op 0x1D 2 [0] W.run), 0, (W.copying (W.op 0x1D 2 [0] W.run)).slot 0, 0, 0,
  by and_intros <;> decide +kernel⟩

theorem test_TestStarts :
    ∃ (s : State) (tag : Fin 128) (k : Slot) (n : Nat) (b : Nat), k = s.slot tag.val ∧ n = field (k.arg 0) 4 0 ∧ b =
    field (k.arg 0) 5 0 ∧ ∃ r, r = field (s.rg 0x1D 0x044) 14 0 ∧ s.ready 0x1D = true ∧ s.unavailable .granary =
    false ∧ s.gran.test = none ∧ s.gran.copy = none ∧ flag (s.rg 0x1D 0x040) 0 = true :=
  ⟨W.regs [(0x1D, 0x040, 1), (0x1D, 0x044, 24831)] W.run, 0, (W.regs [(0x1D, 0x040, 1), (0x1D, 0x044, 24831)]
  W.run).slot 0, 0, 0, by decide +kernel, by decide +kernel, by decide +kernel, 24831,
  by and_intros <;> decide +kernel⟩

theorem test_TestEnds :
    ∃ (s : State) (tag : Fin 128) (k : Slot) (n : Nat) (b : Nat), k = s.slot tag.val ∧ n = field (k.arg 0) 4 0 ∧ b =
    field (k.arg 0) 5 0 ∧ ∃ r, s.gran.test = some r ∧ r + 1 < 24832 ∧ s.gran.jobs = [] :=
  ⟨W.gran (fun g => { g with test := some 24830 }) W.run, 0, (W.gran (fun g => { g with test := some 24830 })
  W.run).slot 0, 0, 0, by decide +kernel, by decide +kernel, by decide +kernel, 24830,
  by and_intros <;> decide +kernel⟩

theorem test_PassEnds :
    ∃ (s : State) (tag : Fin 128) (k : Slot) (n : Nat) (b : Nat), k = s.slot tag.val ∧ n = field (k.arg 0) 4 0 ∧ b =
    field (k.arg 0) 5 0 ∧ ∃ (tg : Fin 128), s.gran.test = some 24831 ∧ s.gran.jobs = [] ∧ s.gran.pass = some
    (BitVec.ofNat 7 tg.val) :=
  ⟨W.gran (fun g => { g with test := some 24831, pass := some 0 }) (W.op 0x1D 1 [] W.run), 0, (W.gran (fun g =>
  { g with test := some 24831, pass := some 0 }) (W.op 0x1D 1 [] W.run)).slot 0, 0, 0, by decide +kernel,
  by decide +kernel, by decide +kernel, 0, by and_intros <;> decide +kernel⟩

theorem test_AfterPass :
    ∃ (s : State) (tag : Fin 128) (k : Slot) (n : Nat) (b : Nat), k = s.slot tag.val ∧ n = field (k.arg 0) 4 0 ∧ b =
    field (k.arg 0) 5 0 ∧ s.gran.bankDue = true ∧ s.granaryUp = true ∧ s.bankWaits (field (s.rg 0x1D 0x04C) 13 8) =
    false :=
  ⟨W.gran (fun g => { g with bankDue := true }) W.run, 0, (W.gran (fun g => { g with bankDue := true }) W.run).slot
  0, 0, 0, by and_intros <;> decide +kernel⟩

theorem test_NoBankTest :
    ∃ (s : State) (tag : Fin 128) (k : Slot) (n : Nat) (b : Nat), k = s.slot tag.val ∧ n = field (k.arg 0) 4 0 ∧ b =
    field (k.arg 0) 5 0 ∧ s.gran.bankDue = false :=
  ⟨W.run, 0, (W.run).slot 0, 0, 0, by and_intros <;> decide +kernel⟩

theorem test_WindowRead :
    ∃ (s : State) (m : Master) (page : BitVec 7) (word : BitVec 10) (p : Nat) (off : Nat) (a : Nat), p = 0x80 +
    page.toNat ∧ off = 4 * word.toNat ∧ a = p * 0x1000 + off ∧ s.ready 0x1C = true ∧ s.insecure m 0x1C off = false ∧
    ∃ w, s.readGate m p off = .pass ∧ (flag (s.rg 0x1C (0x0C0 + 4 * ((a - 0x80000) / 0x20000))) 7 = false ∨ s.isOwner
    m = true) ∧ s.winRef a = .word w ∧ s.gran.bad.contains w = false :=
  ⟨W.gran (fun g => { g with bad := [] }) (W.regs [(0x1C, 0x0CC, 0x7F)] (W.run.setRegion 63 (some
  { purpose := 4, frames := List.range 32 }))), .core, 127, 1023, 0xFF, 0xFFC, 0xFFFFC, by decide +kernel,
  by decide +kernel, by decide +kernel, by decide +kernel, ⟨by decide +kernel, 31 * 1024 + 1023,
  by and_intros <;> decide +kernel⟩⟩

theorem test_WindowBad :
    ∃ (s : State) (m : Master) (page : BitVec 7) (word : BitVec 10) (p : Nat) (off : Nat) (a : Nat), p = 0x80 +
    page.toNat ∧ off = 4 * word.toNat ∧ a = p * 0x1000 + off ∧ s.ready 0x1C = true ∧ s.insecure m 0x1C off = false ∧
    s.readGate m p off = .pass ∧ (flag (s.rg 0x1C (0x0C0 + 4 * ((a - 0x80000) / 0x20000))) 7 = false ∨ s.isOwner m =
    true) ∧ ∃ w, s.winRef a = .queue w ∧ s.gran.bad.contains w = true :=
  ⟨W.gran (fun g => { g with bad := [31 * 1024 + 1023] }) (W.regs [(0x1C, 0x0CC, 0x40)] (W.run.setRegion 0 (some
  { purpose := 0, frames := List.range 32 }))), .core, 127, 1023, 0xFF, 0xFFC, 0xFFFFC, by decide +kernel,
  by decide +kernel, by decide +kernel, by decide +kernel, ⟨by decide +kernel, by decide +kernel, by decide +kernel,
  31 * 1024 + 1023, by decide +kernel, by decide +kernel⟩⟩

theorem test_WindowOut :
    ∃ (s : State) (m : Master) (page : BitVec 7) (word : BitVec 10) (p : Nat) (off : Nat) (a : Nat), p = 0x80 +
    page.toNat ∧ off = 4 * word.toNat ∧ a = p * 0x1000 + off ∧ s.ready 0x1C = true ∧ s.insecure m 0x1C off = false ∧
    s.readGate m p off = .pass ∧ (flag (s.rg 0x1C (0x0C0 + 4 * ((a - 0x80000) / 0x20000))) 7 = false ∨ s.isOwner m =
    true) ∧ s.winRef a = .outside :=
  ⟨W.run, .core, 127, 1023, 0xFF, 0xFFC, 0xFFFFC, by and_intros <;> decide +kernel⟩

theorem test_WindowWrite :
    ∃ (s : State) (m : Master) (page : BitVec 7) (word : BitVec 10) (v : Word) (p : Nat) (off : Nat) (a : Nat), p =
    0x80 + page.toNat ∧ off = 4 * word.toNat ∧ a = p * 0x1000 + off ∧ s.ready 0x1C = true ∧ s.insecure m 0x1C off =
    false ∧ ∃ w, s.writeGate m p off v = .pass ∧ s.isOwner m = true ∧ s.winRef a = .word w :=
  ⟨W.gran (fun g => { g with bad := [] }) (W.regs [(0x1C, 0x0CC, 0x7F)] (W.run.setRegion 63 (some
  { purpose := 4, frames := List.range 32 }))), .core, 127, 1023, 7, 0xFF, 0xFFC, 0xFFFFC, by decide +kernel,
  by decide +kernel, by decide +kernel, by decide +kernel, ⟨by decide +kernel, 31 * 1024 + 1023,
  by and_intros <;> decide +kernel⟩⟩

theorem test_WriteOut :
    ∃ (s : State) (m : Master) (page : BitVec 7) (word : BitVec 10) (v : Word) (p : Nat) (off : Nat) (a : Nat), p =
    0x80 + page.toNat ∧ off = 4 * word.toNat ∧ a = p * 0x1000 + off ∧ s.ready 0x1C = true ∧ s.insecure m 0x1C off =
    false ∧ s.writeGate m p off v = .pass ∧ s.isOwner m = true ∧ s.winRef a = .outside :=
  ⟨W.run, .core, 127, 1023, 7, 0xFF, 0xFFC, 0xFFFFC, by and_intros <;> decide +kernel⟩

theorem test_WriteQueue :
    ∃ (s : State) (m : Master) (page : BitVec 7) (word : BitVec 10) (v : Word) (p : Nat) (off : Nat) (a : Nat), p =
    0x80 + page.toNat ∧ off = 4 * word.toNat ∧ a = p * 0x1000 + off ∧ s.ready 0x1C = true ∧ s.insecure m 0x1C off =
    false ∧ s.writeGate m p off v = .pass ∧ s.isOwner m = true ∧ ∃ w, s.winRef a = .queue w :=
  ⟨W.gran (fun g => { g with bad := [31 * 1024 + 1023] }) (W.regs [(0x1C, 0x0CC, 0x40)] (W.run.setRegion 0 (some
  { purpose := 0, frames := List.range 32 }))), .core, 127, 1023, 7, 0xFF, 0xFFC, 0xFFFFC, by decide +kernel,
  by decide +kernel, by decide +kernel, by decide +kernel, ⟨by decide +kernel, by decide +kernel, by decide +kernel,
  31 * 1024 + 1023, by decide +kernel⟩⟩

theorem test_WriteOther :
    ∃ (s : State) (m : Master) (page : BitVec 7) (word : BitVec 10) (v : Word) (p : Nat) (off : Nat) (a : Nat), p =
    0x80 + page.toNat ∧ off = 4 * word.toNat ∧ a = p * 0x1000 + off ∧ s.ready 0x1C = true ∧ s.insecure m 0x1C off =
    false ∧ s.writeGate m p off v = .pass ∧ s.isOwner m = false :=
  ⟨W.run, .hspi, 127, 1023, 7, 0xFF, 0xFFC, 0xFFFFC, by and_intros <;> decide +kernel⟩


end Queues


namespace FlashOps

/-- The running device with FLASH's own state changed, and with a program or erase of slot 0 under way. -/
def W.fl (f : FlashState → FlashState) (s : State) : State := { s with flash := f s.flash }
def W.prog : WriteRun := { codeword := 524287, count := 1, data := List.replicate 8 0xA5A5A5A5 }
def W.wipe : WriteRun := { erase := true, codeword := 524287 / 512 * 512, count := 512 }
def W.spare : WriteRun := { erase := true, spare := true, codeword := 1035 * 512, count := 512 }
def W.fop (op : Nat) (args : List Word) (f : FlashState → FlashState) : State := W.fl f (W.op 0x1E op args W.run)
/-- A UNLOCK with a password that agrees with the stored one, or not. -/
def W.pass (stored : List Word) : State :=
  { W.op 0x1E 4 [1, 2, 3, 4, 0x80000000, 1] W.run with
    opt := { loaded := true, shadow := (16, 8) :: (List.range 4).map (fun i => (20 + i, stored.getD i 0)) } }
/-- A refresh of sector 1,023 at a page. -/
def W.refr (page : Nat) : State :=
  W.fop 6 [0x00FFC000] (fun x => { x with refreshes := [{ sector := 1023, target := 1033, page := page }] })
def W.grp : State :=
  { W.op 0x03 1 [2, 0] W.run with opt := { loaded := true, writing := some (0, 2, [9, 8, 7, 6, 5, 4, 3, 2]) } }
/-- The log writer enabled and at its place, queue 31 holding a whole packet for it. -/
def W.logs (l : LogWriter) (s : State) : State :=
  W.fl (fun x => { x with log := { l with resumed := true } }) (W.regs [(0x1E, 0x054, 1), (0x1B, 0x2F0, 0x561)] s)

theorem W.pass_args (l : List Word) : (List.range 4).map ((W.pass l).slot 0).arg = [1, 2, 3, 4] := rfl
theorem W.pass_words (l : List Word) (h : l.length = 4) :
    (List.range 4).map (fun i => (W.pass l).optWord (20 + i)) = l := by
  match l, h with
  | [_, _, _, _], _ => rfl
theorem W.not_words (l : List Word) (h : l.length = 4) : l ≠ l.map (~~~ ·) := by
  match l, h with
  | [a, _, _, _], _ =>
    intro e
    have h0 := congrArg (fun x => (x.getD 0 0).getLsbD 0) e
    simp at h0
theorem W.unlocks (l : List Word) (h : l = storedPassword [1, 2, 3, 4]) :
    storedPassword ((List.range 4).map ((W.pass l).slot 0).arg) =
      (List.range 4).map (fun i => (W.pass l).optWord (20 + i)) := by
  rw [W.pass_args, W.pass_words l (h ▸ storedPassword_length _), h]
theorem W.unlock_fails (l : List Word) (h : l = (storedPassword [1, 2, 3, 4]).map (~~~ ·)) :
    storedPassword ((List.range 4).map ((W.pass l).slot 0).arg) ≠
      (List.range 4).map (fun i => (W.pass l).optWord (20 + i)) := by
  rw [W.pass_args, W.pass_words l (by rw [h, List.length_map]; exact storedPassword_length _), h]
  exact W.not_words _ (storedPassword_length _)

theorem test_Programs :
    ∃ (s : State) (tag : Fin 128) (k : Slot), k = s.slot tag.val ∧ ∃ r, s.flash.run = some r ∧ r.tag = BitVec.ofNat 7
    tag.val ∧ s.running tag.val 0x1E 1 = true ∧ r.erase = false ∧ s.flash.log.slot = none ∧ s.core.stall = none :=
  ⟨W.fop 1 [] (fun x => { x with run := some W.prog }), 0, (W.fop 1 [] (fun x => { x with run := some W.prog })).slot
  0, by decide +kernel, W.prog, by and_intros <;> decide +kernel⟩

theorem test_Reads :
    ∃ (s : State) (tag : Fin 128) (k : Slot), k = s.slot tag.val ∧ ∃ cw, ∃ (l : List Byte), l.length = 8 ∧ s.unmapped
    (cw / 512) = false :=
  ⟨W.run, 0, (W.run).slot 0, by decide +kernel, 524287, List.replicate 8 7, by decide +kernel, by decide +kernel⟩

theorem test_Erases :
    ∃ (s : State) (tag : Fin 128) (k : Slot), k = s.slot tag.val ∧ ∃ r n, s.flash.run = some r ∧ r.tag = BitVec.ofNat
    7 tag.val ∧ s.running tag.val 0x1E 2 = true ∧ r.erase = true ∧ r.spare = false ∧ n = r.codeword / 512 ∧
    s.windowSlot n = false ∧ s.flash.log.todo = [] ∧ s.core.stall = none :=
  ⟨W.fop 2 [] (fun x => { x with run := some W.wipe }), 0, (W.fop 2 [] (fun x => { x with run := some W.wipe })).slot
  0, by decide +kernel, W.wipe, 1023, by and_intros <;> decide +kernel⟩

theorem test_SpareErased :
    ∃ (s : State) (tag : Fin 128) (k : Slot), k = s.slot tag.val ∧ ∃ r p, s.flash.run = some r ∧ r.tag = BitVec.ofNat
    7 tag.val ∧ s.running tag.val 0x1E 2 = true ∧ r.erase = true ∧ r.spare = true ∧ p = r.codeword / 512 ∧
    s.core.stall = none :=
  ⟨W.fop 2 [] (fun x => { x with run := some W.spare, dirty := [1035] }), 0, (W.fop 2 [] (fun x =>
  { x with run := some W.spare, dirty := [1035] })).slot 0, by decide +kernel, W.spare, 1035,
  by and_intros <;> decide +kernel⟩

theorem test_Copies :
    ∃ (s : State) (tag : Fin 128) (k : Slot), k = s.slot tag.val ∧ ∃ u l ok, s.running tag.val 0x1E 3 = true ∧
    s.copyArgs k = true ∧ s.ready 0x1E = true ∧ s.flashWords (slotMaster k) (k.arg 0).toNat (field (k.arg 2) 14 0) =
    (u, l, ok) :=
  ⟨W.op 0x1E 3 [0x00FFFFFC, 0x80000, 1] (W.regs [(0x1C, 0x0C0, 0x7F)] (W.run.setRegion 63 (some
  { purpose := 4, frames := List.range 32 }))), 0, (W.op 0x1E 3 [0x00FFFFFC, 0x80000, 1] (W.regs [(0x1C, 0x0C0,
  0x7F)] (W.run.setRegion 63 (some { purpose := 4, frames := List.range 32 })))).slot 0, by decide +kernel, ((W.op
  0x1E 3 [0x00FFFFFC, 0x80000, 1] (W.regs [(0x1C, 0x0C0, 0x7F)] (W.run.setRegion 63 (some
  { purpose := 4, frames := List.range 32 })))).flashWords (some .core) 0x00FFFFFC 1).1, ((W.op 0x1E 3 [0x00FFFFFC,
  0x80000, 1] (W.regs [(0x1C, 0x0C0, 0x7F)] (W.run.setRegion 63 (some
  { purpose := 4, frames := List.range 32 })))).flashWords (some .core) 0x00FFFFFC 1).2.1, true,
  by and_intros <;> decide +kernel⟩

theorem test_Unlocks :
    ∃ (s : State) (tag : Fin 128) (k : Slot), k = s.slot tag.val ∧ s.running tag.val 0x1E 4 = true ∧ s.ready 0x1E =
    true ∧ s.ready 0x3A = true ∧ flag (s.rg 0x1E 0x094) 4 = false ∧ flag (s.optWord 16) 3 = true ∧ s.selfTesting =
    false ∧ storedPassword ((List.range 4).map k.arg) = (List.range 4).map (fun i => s.optWord (20 + i)) :=
  ⟨W.pass (storedPassword [1, 2, 3, 4]), 0, (W.pass (storedPassword [1, 2, 3, 4])).slot 0, by decide +kernel,
  by decide +kernel, by decide +kernel, by decide +kernel, ⟨by decide +kernel, by decide +kernel, by decide +kernel,
  W.unlocks _ rfl⟩⟩

theorem test_UnlockFails :
    ∃ (s : State) (tag : Fin 128) (k : Slot), k = s.slot tag.val ∧ s.running tag.val 0x1E 4 = true ∧ s.ready 0x1E =
    true ∧ s.ready 0x3A = true ∧ flag (s.rg 0x1E 0x094) 4 = false ∧ flag (s.optWord 16) 3 = true ∧ s.selfTesting =
    false ∧ storedPassword ((List.range 4).map k.arg) ≠ (List.range 4).map (fun i => s.optWord (20 + i)) :=
  ⟨W.pass ((storedPassword [1, 2, 3, 4]).map (~~~ ·)), 0, (W.pass ((storedPassword [1, 2, 3, 4]).map (~~~ ·))).slot
  0, by decide +kernel, by decide +kernel, by decide +kernel, by decide +kernel, ⟨by decide +kernel,
  by decide +kernel, by decide +kernel, W.unlock_fails _ rfl⟩⟩

theorem test_Relocks :
    ∃ (s : State) (tag : Fin 128) (k : Slot), k = s.slot tag.val ∧ s.running tag.val 0x1E 5 = true ∧ s.ready 0x1E =
    true :=
  ⟨W.op 0x1E 5 [0xFFFFFFFF, 1] W.run, 0, (W.op 0x1E 5 [0xFFFFFFFF, 1] W.run).slot 0,
  by and_intros <;> decide +kernel⟩

theorem test_RefreshSameBank :
    ∃ (s : State) (tag : Fin 128) (k : Slot), k = s.slot tag.val ∧ ∃ n, s.running tag.val 0x1E 6 = true ∧ s.ready
    0x1E = true ∧ (k.arg 0).toNat < 0x1000000 ∧ n = (k.arg 0).toNat / 16384 ∧ s.flash.refreshing = none ∧ s.unmapped
    n = false ∧ s.fetchesFrom (sectorBank n) = true ∧ s.refreshOwned k n = false :=
  ⟨{ W.fop 6 [0x00FFC000] id with core := { fetch := some 2 } }, 0,
  ({ W.fop 6 [0x00FFC000] id with core := { fetch := some 2 } }).slot 0, by decide +kernel, 1023,
  by and_intros <;> decide +kernel⟩

theorem test_RefreshMaps :
    ∃ (s : State) (tag : Fin 128) (k : Slot), k = s.slot tag.val ∧ ∃ n, s.running tag.val 0x1E 6 = true ∧ s.ready
    0x1E = true ∧ (k.arg 0).toNat < 0x1000000 ∧ n = (k.arg 0).toNat / 16384 ∧ s.flash.refreshing = none ∧ s.unmapped
    n = false ∧ ∃ r u l, (s.fetchesFrom (sectorBank n) = false ∨ s.refreshOwned k n = true) ∧ s.journalled n = false
    ∧ s.refreshRun n (k.src == 6) = some r ∧ s.readAll (s.programmed n r.page) = (u, some l) ∧ r.page = 31 :=
  ⟨W.refr 31, 0, (W.refr 31).slot 0, by decide +kernel, 1023, by decide +kernel, by decide +kernel,
  by decide +kernel, by decide +kernel, ⟨by decide +kernel, by decide +kernel,
  { sector := 1023, target := 1033, page := 31 }, ((W.refr 31).readAll ((W.refr 31).programmed 1023 31)).1, [],
  by and_intros <;> decide +kernel⟩⟩

theorem test_RefreshPage :
    ∃ (s : State) (tag : Fin 128) (k : Slot), k = s.slot tag.val ∧ ∃ n, s.running tag.val 0x1E 6 = true ∧ s.ready
    0x1E = true ∧ (k.arg 0).toNat < 0x1000000 ∧ n = (k.arg 0).toNat / 16384 ∧ s.flash.refreshing = none ∧ s.unmapped
    n = false ∧ ∃ r u l, (s.fetchesFrom (sectorBank n) = false ∨ s.refreshOwned k n = true) ∧ s.journalled n = false
    ∧ s.refreshRun n (k.src == 6) = some r ∧ s.readAll (s.programmed n r.page) = (u, some l) ∧ r.page < 31 :=
  ⟨W.refr 30, 0, (W.refr 30).slot 0, by decide +kernel, 1023, by decide +kernel, by decide +kernel,
  by decide +kernel, by decide +kernel, ⟨by decide +kernel, by decide +kernel,
  { sector := 1023, target := 1033, page := 30 }, ((W.refr 30).readAll ((W.refr 30).programmed 1023 30)).1, [],
  by and_intros <;> decide +kernel⟩⟩

theorem test_GroupTaken :
    ∃ (s : State) (tag : Fin 128) (k : Slot), k = s.slot tag.val ∧ ∃ t g words, s.opt.writing = some (t, g, words) ∧
    t.toNat = tag.val ∧ s.running tag.val 0x03 1 = true ∧ words.length = 8 ∧ s.selfTesting = false :=
  ⟨W.grp, 0, (W.grp).slot 0, by decide +kernel, 0, 2, [9, 8, 7, 6, 5, 4, 3, 2], by and_intros <;> decide +kernel⟩

theorem test_FetchSome :
    ∃ (s : State) (tag : Fin 128) (k : Slot), k = s.slot tag.val :=
  ⟨W.run, 0, (W.run).slot 0, by decide +kernel⟩

theorem test_FetchNone :
    ∃ (s : State) (tag : Fin 128) (k : Slot), k = s.slot tag.val :=
  ⟨W.run, 0, (W.run).slot 0, by decide +kernel⟩

theorem test_WeakOut :
    ∃ (s : State) (tag : Fin 128) (k : Slot), k = s.slot tag.val ∧ ∃ t u, s.flashUp = true ∧ flag (s.rg 0x1E 0x048) 2
    = true ∧ s.flash.refreshing = none ∧ ∃ e, s.flash.refreshes = [] ∧ s.flash.weak = [e] ∧ e.ue = false ∧
    s.journalled (e.codeword / 512) = false ∧ (s.refreshTarget (e.codeword / 512)).isSome = true ∧ s.agentQueue 6
    0x1E 6 [BitVec.ofNat 32 (16384 * (e.codeword / 512))] = some (t, u) :=
  ⟨W.fl (fun x => { x with weak := [{ codeword := 524287, cbits := 2 }] }) (W.regs [(0x1E, 0x048, 6)] W.run), 0,
  (W.fl (fun x => { x with weak := [{ codeword := 524287, cbits := 2 }] }) (W.regs [(0x1E, 0x048, 6)] W.run)).slot 0,
  by decide +kernel, (((W.fl (fun x => { x with weak := [{ codeword := 524287, cbits := 2 }] }) (W.regs [(0x1E,
  0x048, 6)] W.run)).agentQueue 6 0x1E 6 [0x00FFC000]).getD (0, {})).1, (((W.fl (fun x =>
  { x with weak := [{ codeword := 524287, cbits := 2 }] }) (W.regs [(0x1E, 0x048, 6)] W.run)).agentQueue 6 0x1E 6
  [0x00FFC000]).getD (0, {})).2, by decide +kernel, by decide +kernel, by decide +kernel,
  { codeword := 524287, cbits := 2 }, by and_intros <;> decide +kernel⟩

theorem test_WeakOn :
    ∃ (s : State) (tag : Fin 128) (k : Slot), k = s.slot tag.val ∧ ∃ t u, s.flashUp = true ∧ flag (s.rg 0x1E 0x048) 2
    = true ∧ s.flash.refreshing = none ∧ ∃ r, s.flash.refreshes = [r] ∧ r.device = true ∧ s.agentQueue 6 0x1E 6
    [BitVec.ofNat 32 (16384 * r.sector + 512 * r.page)] = some (t, u) :=
  ⟨W.fl (fun x => { x with refreshes := [{ sector := 1023, target := 1033, page := 31, device := true }] }) (W.regs
  [(0x1E, 0x048, 6)] W.run), 0, (W.fl (fun x =>
  { x with refreshes := [{ sector := 1023, target := 1033, page := 31, device := true }] }) (W.regs [(0x1E, 0x048,
  6)] W.run)).slot 0, by decide +kernel, (((W.fl (fun x =>
  { x with refreshes := [{ sector := 1023, target := 1033, page := 31, device := true }] }) (W.regs [(0x1E, 0x048,
  6)] W.run)).agentQueue 6 0x1E 6 [0x00FFFE00]).getD (0, {})).1, (((W.fl (fun x =>
  { x with refreshes := [{ sector := 1023, target := 1033, page := 31, device := true }] }) (W.regs [(0x1E, 0x048,
  6)] W.run)).agentQueue 6 0x1E 6 [0x00FFFE00]).getD (0, {})).2, by decide +kernel, by decide +kernel,
  by decide +kernel, { sector := 1023, target := 1033, page := 31, device := true },
  by and_intros <;> decide +kernel⟩

theorem test_WeakNone :
    ∃ (s : State) (tag : Fin 128) (k : Slot), k = s.slot tag.val ∧ s.flash.weak = [] ∧ s.flash.refreshes = [] :=
  ⟨W.run, 0, (W.run).slot 0, by and_intros <;> decide +kernel⟩

theorem test_SpareOut :
    ∃ (s : State) (tag : Fin 128) (k : Slot), k = s.slot tag.val ∧ ∃ p rest t u, s.flash.dirty = p :: rest ∧
    s.fetchesFrom (physBank p) = false ∧ s.flashUp = true ∧ s.flash.spare = none ∧ s.agentQueue 6 0x1E 2
    [BitVec.ofNat 32 (16384 * p)] = some (t, u) :=
  ⟨W.fl (fun x => { x with dirty := [1035] }) W.run, 0, (W.fl (fun x => { x with dirty := [1035] }) W.run).slot 0,
  by decide +kernel, 1035, [], (((W.fl (fun x => { x with dirty := [1035] }) W.run).agentQueue 6 0x1E 2 [BitVec.ofNat
  32 (16384 * 1035)]).getD (0, {})).1, (((W.fl (fun x => { x with dirty := [1035] }) W.run).agentQueue 6 0x1E 2
  [BitVec.ofNat 32 (16384 * 1035)]).getD (0, {})).2, by and_intros <;> decide +kernel⟩

theorem test_SpareNone :
    ∃ (s : State) (tag : Fin 128) (k : Slot), k = s.slot tag.val ∧ s.flash.dirty = [] :=
  ⟨W.run, 0, (W.run).slot 0, by decide +kernel, by decide +kernel⟩

theorem test_Appends :
    ∃ (s : State), ∃ q n u items, s.logRuns = true ∧ s.clock .flash = .full ∧ s.flash.log.due = false ∧ s.granaryUp =
    true ∧ s.flash.log.todo = [] ∧ s.logSource = some q ∧ packetLen (s.queue q).items = some n ∧ s.popItems q n = (u,
    items) ∧ s.flash.log.buf.length + n + 1 < 8 :=
  ⟨(W.logs { buf := [1] } W.run).putQueue 31 { items := [{ word := 0x80000005 }] }, 31, 1, (((W.logs { buf := [1] }
  W.run).putQueue 31 { items := [{ word := 0x80000005 }] }).popItems 31 1).1, (((W.logs { buf := [1] }
  W.run).putQueue 31 { items := [{ word := 0x80000005 }] }).popItems 31 1).2, by and_intros <;> decide +kernel⟩

theorem test_LogOff :
    ∃ (s : State), s.logRuns = false :=
  ⟨W.run, by decide +kernel⟩

theorem test_Commits :
    ∃ (s : State), s.logRuns = true ∧ s.flash.log.due = true ∧ s.flash.log.todo = [] :=
  ⟨W.logs { buf := [1], count := 1, due := true } W.run, by and_intros <;> decide +kernel⟩

theorem test_CommitDue :
    ∃ (s : State), ∃ t, s.flash.log.first = some t :=
  ⟨W.logs { first := some 4 } W.run, 4, by decide +kernel⟩

theorem test_NoCommit :
    ∃ (s : State), s.flash.log.first = none :=
  ⟨W.run, by decide +kernel⟩

theorem test_Flushes :
    ∃ (s : State) (m : Master) (v : Word), s.writeGate m 0x1E 0x054 v = .pass ∧ s.flash.log.todo = [] :=
  ⟨W.run, .core, 3, by decide +kernel, by decide +kernel⟩

theorem test_SectorOut :
    ∃ (s : State), ∃ n t u, s.flash.log.sector = some n ∧ s.flash.log.erasing = none ∧ s.flashUp = true ∧
    s.agentQueue 6 0x1E 2 [BitVec.ofNat 32 (0x800000 + n * 16384)] = some (t, u) :=
  ⟨W.logs { sector := some 511 } W.run, 511, (((W.logs { sector := some 511 } W.run).agentQueue 6 0x1E 2
  [BitVec.ofNat 32 (0x800000 + 511 * 16384)]).getD (0, {})).1, (((W.logs { sector := some 511 } W.run).agentQueue 6
  0x1E 2 [BitVec.ofNat 32 (0x800000 + 511 * 16384)]).getD (0, {})).2, by and_intros <;> decide +kernel⟩

theorem test_NoSector :
    ∃ (s : State), s.flash.log.sector = none :=
  ⟨W.run, by decide +kernel⟩

theorem test_Resumes :
    ∃ (s : State), s.flashUp = true ∧ flag (s.rg 0x1E 0x054) 0 = true ∧ s.flash.log.resumed = false ∧ s.newestCommit
    = none ∧ 1 ≤ s.logCount ∧ s.wordlineClean (32 * s.logFirst) = true :=
  ⟨W.regs [(0x1E, 0x054, 1), (0x1E, 0x04C, 0x000201FE)] W.run, by and_intros <;> decide +kernel⟩

theorem test_Resumed :
    ∃ (s : State), s.flash.log.resumed = true :=
  ⟨W.logs {} W.run, by decide +kernel⟩

theorem test_CfgState :
    ∃ (s : State) (m : Master) (v : Word), s.writeGate m 0x1E 0x04C v = .pass ∧ flag (s.rg 0x1E 0x054) 0 = true :=
  ⟨W.regs [(0x1E, 0x054, 1)] W.run, .core, 0x000201FE, by decide +kernel, by decide +kernel⟩

theorem test_CfgTaken :
    ∃ (s : State) (m : Master) (v : Word), s.writeGate m 0x1E 0x04C v = .pass ∧ flag (s.rg 0x1E 0x054) 0 = false ∧ 2
    ≤ field v 25 16 ∧ field v 8 0 + field v 25 16 ≤ 512 ∧ (s.rotW = 0 ∨ 480 ≤ field v 8 0) :=
  ⟨W.regs [(0x1E, 0x054, 0)] W.run, .core, 0x000201FE, by and_intros <;> decide +kernel⟩


end FlashOps


namespace CoreHart

/-- The running device with the core changed; before its boot; and with a header at the start of bank A. -/
def W.core (f : CoreState → CoreState) (s : State) : State := { s with core := f s.core }
def W.boot : State := W.core (fun _ => {}) W.run
def W.user : State := W.core (fun c => { c with machine := false, pc := 0x10 }) W.run
/-- A core in WFI with the software source 0x90 pending for it, deliverable at priority 1. -/
def W.pending (wfi : Bool) : State :=
  W.core (fun c => { c with wfi := wfi, csr := [(0x300, 8), (0x304, 0x800)] })
    (W.regs [(0x09, 0x440, 0x00000001), (0x09, 0x0B0, 0x00010000), (0x09, 0x064, 1)] W.run)
def W.intc (i : Intc) (s : State) : State := { s with intc := i }
/-- A flash bank busy with the erase of sector 1. -/
def W.busy : State := { W.run with flash := { run := some { erase := true, codeword := 512, count := 512 } } }
def W.conf : State :=
  { W.regs [(0x38, 0x040, 0x10)] W.run with flash := { confirming := some (0, 0), confirmed := some (1, 1) } }

theorem test_BootDone :
    ∃ (s : State), s.core.released = true :=
  ⟨W.run, by decide +kernel⟩

theorem test_BootNone :
    ∃ (s : State) (a : State) (b : State), s.core.released = false ∧ s.dead = false ∧ s.unavailable .core = false ∧
    flag (s.rg 0x38 0x004) 2 = false ∧ (groupNeeds 10).all s.groupReady = true ∧ s.flashBusy 0 0x800000 = false ∧
    s.bankHeader 0 = (a, none) ∧ a.bankHeader 1 = (b, none) :=
  ⟨W.boot, (W.boot.bankHeader 0).1, ((W.boot.bankHeader 0).1.bankHeader 1).1, by and_intros <;> decide +kernel⟩

theorem test_Confirms :
    ∃ (s : State) (m : Master) (v : Word), s.writeGate m 0x38 0x044 v = .pass ∧ flag v 0 = true ∧ s.unconfirmed =
    true :=
  ⟨W.conf, .core, 1, by and_intros <;> decide +kernel⟩

theorem test_ConfirmNot :
    ∃ (s : State) (m : Master) (v : Word), s.writeGate m 0x38 0x044 v = .pass ∧ flag v 0 = false :=
  ⟨W.run, .core, 0x300, by decide +kernel, by decide +kernel⟩

theorem test_RecordWritten :
    ∃ (s : State), ∃ r, s.flash.confirming = some r ∧ s.flashUp = true ∧ s.unconfirmed = true ∧ s.runningImage = r :=
  ⟨W.conf, (0, 0), by and_intros <;> decide +kernel⟩

theorem test_RecordNone :
    ∃ (s : State), s.flash.confirming = none :=
  ⟨W.run, by decide +kernel⟩

theorem test_WfiMachine :
    ∃ (s : State), s.hartRuns = true ∧ s.core.machine = true :=
  ⟨W.run, by decide +kernel, by decide +kernel⟩

theorem test_WfiUser :
    ∃ (s : State), s.hartRuns = true ∧ s.core.machine = false :=
  ⟨W.user, by decide +kernel, by decide +kernel⟩

theorem test_WfiNot :
    ∃ (s : State), s.hartRuns = false :=
  ⟨W.pending true, by decide +kernel⟩

theorem test_WfiWakes :
    ∃ (s : State), s.core.wfi = true ∧ s.wakeCond = true ∧ s.pwr.depth = .awake ∧ s.unavailable .core = false :=
  ⟨W.pending true, by and_intros <;> decide +kernel⟩

theorem test_WakeNot :
    ∃ (s : State), s.core.wfi = false :=
  ⟨W.run, by decide +kernel⟩

theorem test_FetchBeyond :
    ∃ (s : State) (cw : BitVec 19), s.hartRuns = true ∧ s.flashUp = true ∧ 0x40000 ≤ cw.toNat :=
  ⟨W.run, 0x40000, by and_intros <;> decide +kernel⟩

theorem test_FetchServed :
    ∃ (s : State) (cw : BitVec 19) (e : Fin 5), s.hartRuns = true ∧ s.flashUp = true ∧ cw.toNat < 0x40000 ∧ e.val ≤ 2
    ∧ s.unmapped (cw.toNat / 512) = false ∧ s.eraseCut cw.toNat = false ∧ Tab.get (fun _ => 0) s.flash.health
    (s.physCw cw.toNat) ≤ 2 ∧ s.flashBusy (32 * cw.toNat) 32 = false :=
  ⟨W.run, 0x3FFFF, 2, by and_intros <;> decide +kernel⟩

theorem test_FetchWaits :
    ∃ (s : State) (cw : BitVec 19), s.hartRuns = true ∧ s.flashUp = true ∧ cw.toNat < 0x40000 ∧ s.lineOf cw.toNat =
    none ∧ s.flashBusy (32 * cw.toNat) 32 = true :=
  ⟨W.busy, 0x0001, by and_intros <;> decide +kernel⟩

theorem test_TcmFetch :
    ∃ (s : State) (w : Fin 131072) (fetch : Bool), s.hartRuns = true ∧ (fetch = true → w.val < 0x10000) :=
  ⟨W.run, 65535, true, by decide +kernel, by decide +kernel⟩

theorem test_TcmLoad :
    ∃ (s : State) (w : Fin 131072) (fetch : Bool), s.hartRuns = true ∧ (fetch = true → w.val < 0x10000) :=
  ⟨W.run, 131071, false, by decide +kernel, by decide +kernel⟩

theorem test_TcmData :
    ∃ (s : State) (w : Fin 131072), s.hartRuns = true ∧ 0x10000 ≤ w.val :=
  ⟨W.run, 65536, by decide +kernel, by decide +kernel⟩

theorem test_Checkpoints :
    ∃ (s : State), ∃ u, s.core.released = true ∧ s.pwr.depth = .awake ∧ s.unavailable .core = false ∧ u = s.reach
    (s.core.ckptAt + BitVec.ofNat 64 (usTime (field (s.rg 0x38 0x064) 4 0))) :=
  ⟨W.run, W.run.reach (W.run.core.ckptAt + BitVec.ofNat 64 (usTime (field (W.run.rg 0x38 0x064) 4 0))),
  by and_intros <;> decide +kernel⟩

theorem test_Halts :
    ∃ (s : State), s.core.released = true ∧ s.fuse.debugClosed = false ∧ s.pwr.depth = .awake ∧ s.unavailable .core =
    false :=
  ⟨W.pending true, by and_intros <;> decide +kernel⟩

theorem test_Resumes2 :
    ∃ (s : State), s.core.halted = true ∧ s.fuse.debugClosed = false ∧ s.pwr.depth = .awake ∧ s.unavailable .core =
    false :=
  ⟨W.core (fun c => { c with halted := true }) W.run, by and_intros <;> decide +kernel⟩

theorem test_DebugClosed :
    ∃ (s : State), s.fuse.debugClosed = true :=
  ⟨{ W.run with fuse := { debugClosed := true } }, by decide +kernel⟩

theorem test_ResyncFirst :
    ∃ (s : State), s.core.released = true ∧ s.core.wfi = false ∧ s.pwr.depth = .awake ∧ s.unavailable .core = false ∧
    s.core.resyncOpen = false ∧ (s.core.resyncs.filter (fun t => decide ((s.now - t).toNat ≤ secTime 1))).length < 3 :=
  ⟨W.run, by and_intros <;> decide +kernel⟩

theorem test_ResyncSecond :
    ∃ (s : State), s.core.released = true ∧ s.core.wfi = false ∧ s.pwr.depth = .awake ∧ s.unavailable .core = false ∧
    s.core.resyncOpen = true :=
  ⟨W.core (fun c => { c with resyncOpen := true }) W.run, by and_intros <;> decide +kernel⟩

theorem test_HostRecord :
    ∃ (s : State) (src : BitVec 8), ∃ n t, s.intc.due.find? (fun e => e.1 == src.toNat) = some (n, t) :=
  ⟨W.intc { due := [(0xBF, 7)] } W.run, 0xBF, 0xBF, 7, by decide +kernel⟩

theorem test_CoreTrapped :
    ∃ (s : State) (src : BitVec 8), s.intc.due.find? (fun e => e.1 == src.toNat) = none ∧ s.takesInterrupts = true ∧
    s.deliverable src.toNat = true :=
  ⟨W.pending false, 0x90, by and_intros <;> decide +kernel⟩

theorem test_NotTaken :
    ∃ (s : State) (src : BitVec 8), s.intc.due.find? (fun e => e.1 == src.toNat) = none ∧ s.takesInterrupts = false :=
  ⟨W.run, 0x90, by decide +kernel, by decide +kernel⟩

theorem test_ClaimTaken :
    ∃ (s : State) (v : Word), ∃ n, n = field v 7 0 ∧ s.writeGate .core 0x09 0x048 v = .pass ∧ sourceValid n = true ∧
    s.srcTarget n = 0 ∧ s.srcActive n = false ∧ s.effective < s.srcPrio n ∧ s.intc.frozen = false ∧ flag (s.srccfg n)
    12 = false :=
  ⟨W.pending false, 0x90, 0x90, by and_intros <;> decide +kernel⟩

theorem test_ClaimOther :
    ∃ (s : State) (m : Master) (v : Word), m ≠ .core ∧ s.writeGate m 0x09 0x048 v = .pass :=
  ⟨{ W.run with own := { W.run.own with owner := some .hspi } }, .hspi, 0, by decide +kernel, by decide +kernel⟩

theorem test_CompleteTop :
    ∃ (s : State) (m : Master) (v : Word), ∃ n p rest, n = field v 7 0 ∧ s.writeGate m 0x09 0x04C v = .pass ∧
    s.intc.frozen = false ∧ n < 192 ∧ s.srcTarget n = 0 ∧ s.intc.stack = (n, p) :: rest :=
  ⟨W.intc { stack := [(0x90, 1)], active := 1 } W.run, .core, 0x90, 0x90, 1, [], by and_intros <;> decide +kernel⟩

theorem test_CompleteWrong :
    ∃ (s : State) (m : Master) (v : Word), ∃ n k p rest, n = field v 7 0 ∧ s.writeGate m 0x09 0x04C v = .pass ∧
    s.intc.frozen = false ∧ n < 192 ∧ s.srcTarget n = 0 ∧ s.intc.stack = (k, p) :: rest ∧ k ≠ n :=
  ⟨W.intc { stack := [(0x90, 1)] } W.run, .core, 0x91, 0x91, 0x90, 1, [], by and_intros <;> decide +kernel⟩

theorem test_Unfreezes :
    ∃ (s : State) (m : Master) (v : Word), s.writeGate m 0x09 0x050 v = .pass ∧ field v 31 24 = 0x3C ∧ flag v 0 =
    true :=
  ⟨W.intc { stack := [(0x90, 1)], frozen := true } W.run, .core, 0x3C000001, by and_intros <;> decide +kernel⟩

theorem test_UnfreezeArg :
    ∃ (s : State) (m : Master) (v : Word), s.writeGate m 0x09 0x050 v = .pass ∧ field v 31 24 ≠ 0x3C :=
  ⟨W.run, .core, 0x3B000001, by decide +kernel, by decide +kernel⟩

theorem test_SourceSet :
    ∃ (s : State) (m : Master) (v : Word) (n : Fin 192), s.writeGate m 0x09 (0x200 + 4 * n.val) v = .pass ∧
    sourceValid n.val = true ∧ s.srcActive n.val = false :=
  ⟨W.run, .core, 0x1E01, 0x90, by and_intros <;> decide +kernel⟩

theorem test_SourceActive :
    ∃ (s : State) (m : Master) (v : Word) (n : Fin 192), s.writeGate m 0x09 (0x200 + 4 * n.val) v = .pass ∧
    sourceValid n.val = true ∧ s.srcActive n.val = true :=
  ⟨W.intc { active := BitVec.ofNat 192 (2 ^ 0x90) } W.run, .core, 0, 0x90, by and_intros <;> decide +kernel⟩

theorem test_GroupReleased :
    ∃ (s : State) (g : Fin 16), (s.modGroup g.val).holding = true ∧ field (s.rg 0x09 (0x140 + 4 * g.val)) 15 0 ≠ 0 :=
  ⟨W.intc { mods := [(15, { holding := true })] } (W.regs [(0x09, 0x17C, 100)] W.run), 15, by decide +kernel,
  by decide +kernel⟩

theorem test_GroupIdle :
    ∃ (s : State) (g : Fin 16), (s.modGroup g.val).holding = false :=
  ⟨W.run, 15, by decide +kernel⟩


end CoreHart


namespace FieldReader

/-- The running device with the field's own state changed, and with the engine running slot 0's operation. -/
def W.fld (f : FieldState → FieldState) (s : State) : State := { s with fld := f s.fld }
def W.engine (page op : Nat) (args : List Word) (s : State) : State :=
  W.fld (fun x => { x with run := some { tag := 0, ants := 0x80 } }) (W.op page op args s)
/-- A heap region that aperture 0 shows. -/
def W.mem (s : State) : State := (W.regs [(0x1C, 0x0C0, 0x7F)] s).setRegion 63 (some { purpose := 4, frames := [1500, 300] })
/-- A tag session with handle 123, and a card's with handle 119. -/
def W.sess (s : State) : State :=
  (s.putSession 123 (some { proto := 2, uid := [1, 2, 3, 4, 5, 6, 7, 0xE0], ants := 0x80 })).putSession 119
    (some { proto := 0, uid := [1, 2, 3, 4], l4 := true, ants := 0x80, last := 7 })
def W.exch : State := W.engine 0x22 2 [123, 0x80000, 16, 0x81000, 2] (W.sess (W.mem W.run))
def W.verify : State := W.engine 0x22 2 [123 + 512 + 0x30000, 0x80000, 1, 0x81000, 2] (W.regs [(0x3A, 0x004, 0)] (W.sess (W.mem W.run)))
/-- A map entry in use at port 191, and its source words in memory. -/
def W.entry : List Word := [0x04030201, 0xE0070605, 0x20, 0, 0, 0x00000100, 0, 1]
def W.port (s : State) : State :=
  W.fld (fun x => { x with map := (List.range 8).foldl (fun m i => Tab.set (fun _ => 0) m (8 * 191 + i) (W.entry.getD i 0)) x.map }) s
def W.mapload : State := W.engine 0x23 1 [0, 0x80000, 191 + 256] (W.mem W.run)
/-- A protected window in force with the coexistence mode GATE. -/
def W.win (s : State) : State := W.fld (fun x => { x with coex := some { protect := true } }) (W.regs [(0x20, 0x050, 2)] s)
def W.tm : TuneMeas := { tune := 31, off := 15, amp := 1000, phase := 9 }
def W.am (trip : Bool) : AntMeas := { itx := 100, trip := trip, amp := 1000, phase := 9, iq := 0x12345678 }
/-- Two taught points, the second of them a null. -/
def W.taught (s : State) : State :=
  W.regs [(0x21, 0x3C0, 0x0000C001), (0x21, 0x3CC, 0x0000C003), (0x21, 0x358, 0x00100020), (0x21, 0x35C, 0x00300010),
    (0x21, 0x3B8, 0x00100020), (0x21, 0x3BC, 0x0030F010)] s
/-- The radio tuned: its channel where a harmonic of the carrier lies. -/
def W.tuned (s : State) : State := W.regs [(0x28, 0x040, 867840000)] s

/-- A card's session exchanging I-blocks: the command in two blocks and a response of two bytes, and a card that is lost but acknowledges the DESELECT. -/
def W.iso : State := W.engine 0x22 2 [119, 0x80000, 16, 0x81000, 2] (W.sess (W.mem W.run))
def W.isoHeard : ExchReply := { heard := [.frame (.rAck false), .frame (.iBlock false true [0x90, 0])], ant := 7, rssi := 0x40 }
def W.isoLost : ExchReply :=
  { heard := List.replicate (W.iso.retries + 1) .silence ++ [.frame .deselect], ant := 7, rssi := 0x40 }
/-- What TEACH hears at each receiver while antenna 7 drives alone. -/
def W.replies : List (List (Int × Int)) := List.replicate 7 [] ++ [List.replicate 7 (0, 0) ++ [(4096, 0)]]

theorem test_AntCfg :
    ∃ (s : State) (m : Master) (v : Word) (tag : Fin 128) (k : Slot), k = s.slot tag.val ∧ ∃ (n : Fin 8) (u : State),
    s.writeGate m 0x21 (0x040 + 0x20 * n.val) v = .pass ∧ u = s.setRg 0x21 (0x040 + 0x20 * n.val) (v &&& 0x00FF03F7)
    ∧ flag (s.antStat n.val) 4 = false ∧ (flag v 2 = false ∨ s.faulted n.val = false) ∧ u.usedMw u.carrierWanted 0 ≤
    s.capMw :=
  ⟨W.run, .core, 0x00000007, 0, W.run.slot 0, by decide +kernel, 7, _, by decide +kernel, rfl,
  by and_intros <;> decide +kernel⟩

theorem test_AntCfgBusy :
    ∃ (s : State) (m : Master) (v : Word) (tag : Fin 128) (k : Slot), k = s.slot tag.val ∧ ∃ (n : Fin 8) (u : State),
    s.writeGate m 0x21 (0x040 + 0x20 * n.val) v = .pass ∧ u = s.setRg 0x21 (0x040 + 0x20 * n.val) (v &&& 0x00FF03F7)
    ∧ flag (s.antStat n.val) 4 = false ∧ (flag v 2 = false ∨ s.faulted n.val = false) ∧ s.capMw < u.usedMw
    u.carrierWanted 0 ∧ s.usedMw s.carrierWanted 0 < u.usedMw u.carrierWanted 0 :=
  ⟨W.regs [(0x20, 0x048, 0)] W.run, .core, 0x00000005, 0, W.run.slot 0, by decide +kernel, 7, _, by decide +kernel,
  rfl, by and_intros <;> decide +kernel⟩

theorem test_AntCfgState :
    ∃ (s : State) (m : Master) (v : Word) (tag : Fin 128) (k : Slot), k = s.slot tag.val ∧ ∃ (n : Fin 8) (u : State),
    s.writeGate m 0x21 (0x040 + 0x20 * n.val) v = .pass ∧ u = s.setRg 0x21 (0x040 + 0x20 * n.val) (v &&& 0x00FF03F7)
    ∧ flag (s.antStat n.val) 4 = true :=
  ⟨W.regs [(0x21, 0x124, 0x10)] W.run, .core, 0x00000005, 0, W.run.slot 0, by decide +kernel, 7, _,
  by decide +kernel, rfl, by decide +kernel⟩

theorem test_AntCfgFaulted :
    ∃ (s : State) (m : Master) (v : Word) (tag : Fin 128) (k : Slot), k = s.slot tag.val ∧ ∃ (n : Fin 8) (u : State),
    s.writeGate m 0x21 (0x040 + 0x20 * n.val) v = .pass ∧ u = s.setRg 0x21 (0x040 + 0x20 * n.val) (v &&& 0x00FF03F7)
    ∧ flag (s.antStat n.val) 4 = false ∧ flag v 2 = true ∧ s.faulted n.val = true :=
  ⟨W.regs [(0x21, 0x124, 0x8)] W.run, .core, 0x00000005, 0, W.run.slot 0, by decide +kernel, 7, _, by decide +kernel,
  rfl, by and_intros <;> decide +kernel⟩

theorem test_Shape :
    ∃ (s : State) (m : Master) (v : Word) (tag : Fin 128) (k : Slot), k = s.slot tag.val ∧ ∃ (n : Fin 8), s.writeGate
    m 0x20 (0x080 + 4 * n.val) v = .pass ∧ (flag v 0 = false ∨ (8 ≤ field v 5 1 ∧ field v 5 1 ≤ 30)) :=
  ⟨W.run, .core, 0x3FFFD, 0, W.run.slot 0, by decide +kernel, 7, by decide +kernel, by decide +kernel⟩

theorem test_ShapeArg :
    ∃ (s : State) (m : Master) (v : Word) (tag : Fin 128) (k : Slot), k = s.slot tag.val ∧ ∃ (n : Fin 8), s.writeGate
    m 0x20 (0x080 + 4 * n.val) v = .pass ∧ flag v 0 = true ∧ (field v 5 1 < 8 ∨ 30 < field v 5 1) :=
  ⟨W.run, .core, 0x61BF, 0, W.run.slot 0, by decide +kernel, 7, by and_intros <;> decide +kernel⟩

theorem test_Pass :
    ∃ (s : State) (tag : Fin 128) (k : Slot), k = s.slot tag.val ∧ s.mayPass = true ∧ s.fld.passWait = 0 :=
  ⟨W.regs [(0x21, 0x120, 1)] W.run, 0, W.run.slot 0, by and_intros <;> decide +kernel⟩

theorem test_FirstPass :
    ∃ (s : State) (tag : Fin 128) (k : Slot), k = s.slot tag.val ∧ s.mayPass = true ∧ s.fld.passWait = 0 ∧ s.ready
    0x20 = false ∧ (∀ n, n < 8 → flag (s.antCfg n) 0 = false) :=
  ⟨W.regs [(0x20, 0x004, 0)] W.run, 0, W.run.slot 0, by and_intros <;> decide +kernel⟩

theorem test_NoPass :
    ∃ (s : State) (tag : Fin 128) (k : Slot), k = s.slot tag.val ∧ s.mayPass = false :=
  ⟨W.win W.run, 0, W.run.slot 0, by decide +kernel, by decide +kernel⟩

theorem test_LatePass :
    ∃ (s : State) (tag : Fin 128) (k : Slot), k = s.slot tag.val ∧ s.mayPass = true ∧ s.fld.passWait ≠ 0 ∧ (s.now -
    s.fld.passAt).toNat < secTime 1 ∧ s.fld.passWait &&& s.busyPorts = s.fld.passWait :=
  ⟨W.fld (fun x => { x with passWait := 0x80 }) (W.regs [(0x21, 0x120, 1), (0x21, 0x124, 0x10)] W.run), 0, W.run.slot
  0, by and_intros <;> decide +kernel⟩

theorem test_Supervise :
    ∃ (s : State) (tag : Fin 128) (k : Slot), k = s.slot tag.val ∧ s.running tag.val 0x20 1 = true ∧ s.ready 0x20 =
    true ∧ s.coexMode = 0 ∧ (∀ n, n < 8 → (field (k.arg 0) 7 0).testBit n = true → flag (s.antStat n) 4 = false) :=
  ⟨W.op 0x20 1 [0xFF] W.run, 0, (W.op 0x20 1 [0xFF] W.run).slot 0, by and_intros <;> decide +kernel⟩

theorem test_SuperviseWaits :
    ∃ (s : State) (tag : Fin 128) (k : Slot), k = s.slot tag.val ∧ s.running tag.val 0x20 1 = true ∧ s.ready 0x20 =
    true ∧ s.coexMode ≠ 0 :=
  ⟨W.win (W.op 0x20 1 [0xFF] W.run), 0, (W.op 0x20 1 [0xFF] W.run).slot 0, by and_intros <;> decide +kernel⟩

theorem test_Judged :
    ∃ (s : State) (tag : Fin 128) (k : Slot), k = s.slot tag.val ∧ ∃ (n : Nat) (l : List AntMeas) (x : AntMeas), n <
    8 ∧ l[n]? = some x ∧ flag (s.antCfg n) 0 = true ∧ flag (s.antCfg n) 1 = false ∧ flag (s.antStat n) 4 = false ∧
    s.faulted n = true ∧ x.trip = true :=
  ⟨W.regs [(0x21, 0x120, 1), (0x21, 0x124, 8)] W.run, 0, W.run.slot 0, by decide +kernel, 7, List.replicate 8 (W.am
  true), W.am true, by and_intros <;> decide +kernel⟩

theorem test_MatchState :
    ∃ (s : State) (tag : Fin 128) (k : Slot), k = s.slot tag.val ∧ ∃ (n : Nat) (l : List TuneMeas) (x : TuneMeas), n
    < 8 ∧ field (k.arg 0) 7 0 = 2 ^ n ∧ l[n]? = some x ∧ s.running tag.val 0x21 1 = true ∧ s.ready 0x21 = true ∧ flag
    (s.antStat n) 4 = true :=
  ⟨W.regs [(0x21, 0x124, 0x10)] (W.op 0x21 1 [0x80] W.run), 0, (W.op 0x21 1 [0x80] W.run).slot 0, by decide +kernel,
  7, List.replicate 8 W.tm, W.tm, by and_intros <;> decide +kernel⟩

theorem test_MatchWaits :
    ∃ (s : State) (tag : Fin 128) (k : Slot), k = s.slot tag.val ∧ ∃ (n : Nat) (l : List TuneMeas) (x : TuneMeas), n
    < 8 ∧ field (k.arg 0) 7 0 = 2 ^ n ∧ l[n]? = some x ∧ s.running tag.val 0x21 1 = true ∧ s.ready 0x21 = true ∧ flag
    (s.antStat n) 4 = false ∧ s.carrierOn n = false ∧ flag (s.antCfg n) 1 = false ∧ s.coexMode ≠ 0 :=
  ⟨W.win (W.op 0x21 1 [0x80] W.run), 0, (W.op 0x21 1 [0x80] W.run).slot 0, by decide +kernel, 7, List.replicate 8
  W.tm, W.tm, by and_intros <;> decide +kernel⟩

theorem test_Matches :
    ∃ (s : State) (tag : Fin 128) (k : Slot), k = s.slot tag.val ∧ ∃ (n : Nat) (l : List TuneMeas) (x : TuneMeas), n
    < 8 ∧ field (k.arg 0) 7 0 = 2 ^ n ∧ l[n]? = some x ∧ s.running tag.val 0x21 1 = true ∧ s.ready 0x21 = true ∧ flag
    (s.antStat n) 4 = false ∧ s.carrierOn n = false ∧ flag (s.antCfg n) 1 = false ∧ s.coexMode = 0 :=
  ⟨W.op 0x21 1 [0x80] W.run, 0, (W.op 0x21 1 [0x80] W.run).slot 0, by decide +kernel, 7, List.replicate 8 W.tm, W.tm,
  by and_intros <;> decide +kernel⟩

theorem test_Teaches :
    ∃ (s : State) (tag : Fin 128) (k : Slot), k = s.slot tag.val ∧ ∃ (n : Nat) (p : Nat) (r : Nat) (h : List (List
    (Int × Int))), r = ownStrongest (field (k.arg 0) 15 8) h ∧ p = field (k.arg 0) 1 0 ∧ s.running tag.val 0x21 2 =
    true ∧ s.ready 0x21 = true ∧ field (k.arg 0) 18 16 ≤ 2 ∧ s.ready 0x22 = true ∧ s.hasField = true ∧ s.fld.run =
    none ∧ s.coexMode = 0 ∧ n = 1 :=
  ⟨W.op 0x21 2 [0x28003] W.run, 0, (W.op 0x21 2 [0x28003] W.run).slot 0, by decide +kernel, 1, 3, 7, W.replies,
  by and_intros <;> decide +kernel⟩

theorem test_TeachMedium :
    ∃ (s : State) (tag : Fin 128) (k : Slot), k = s.slot tag.val ∧ ∃ (n : Nat) (p : Nat) (r : Nat) (h : List (List
    (Int × Int))), r = ownStrongest (field (k.arg 0) 15 8) h ∧ p = field (k.arg 0) 1 0 ∧ s.running tag.val 0x21 2 =
    true ∧ s.ready 0x21 = true ∧ field (k.arg 0) 18 16 ≤ 2 ∧ s.ready 0x22 = true ∧ s.hasField = true ∧ s.fld.run =
    none ∧ s.coexMode = 0 ∧ n ≠ 1 :=
  ⟨W.op 0x21 2 [0x28003] W.run, 0, (W.op 0x21 2 [0x28003] W.run).slot 0, by decide +kernel, 0, 3, ownStrongest 0x80
  [], [], by and_intros <;> decide +kernel⟩

theorem test_TeachWaits :
    ∃ (s : State) (tag : Fin 128) (k : Slot), k = s.slot tag.val ∧ ∃ (p : Nat) (r : Nat) (h : List (List (Int ×
    Int))), r = ownStrongest (field (k.arg 0) 15 8) h ∧ p = field (k.arg 0) 1 0 ∧ s.running tag.val 0x21 2 = true ∧
    s.ready 0x21 = true ∧ field (k.arg 0) 18 16 ≤ 2 ∧ s.ready 0x22 = true ∧ s.hasField = true ∧ (s.fld.run.isSome =
    true ∨ s.coexMode ≠ 0) :=
  ⟨W.engine 0x21 2 [0x28003] W.run, 0, (W.op 0x21 2 [0x28003] W.run).slot 0, by decide +kernel, 3, ownStrongest 0x80
  [], [], by and_intros <;> decide +kernel⟩

theorem test_SolveArg :
    ∃ (s : State) (tag : Fin 128) (k : Slot), k = s.slot tag.val ∧ ∃ pts, s.running tag.val 0x21 3 = true ∧ s.ready
    0x21 = true ∧ pts = (List.range 4).filter (field (k.arg 0) 19 16).testBit ∧ field (k.arg 0) 15 8 = 0 :=
  ⟨W.op 0x21 3 [0x90000] W.run, 0, (W.op 0x21 3 [0x90000] W.run).slot 0, by decide +kernel, [0, 3],
  by and_intros <;> decide +kernel⟩

theorem test_Solves :
    ∃ (s : State) (tag : Fin 128) (k : Slot), k = s.slot tag.val ∧ ∃ pts, s.running tag.val 0x21 3 = true ∧ s.ready
    0x21 = true ∧ pts = (List.range 4).filter (field (k.arg 0) 19 16).testBit ∧ s.hasField = true ∧ field (k.arg 0)
    15 8 ≠ 0 ∧ 1 ≤ field (k.arg 1) 27 16 ∧ field (k.arg 1) 27 16 ≤ 2000 ∧ (∃ p, p ∈ pts ∧ flag (s.pointCfg p) 1 =
    false) ∧ (∀ p, p ∈ pts → flag (s.pointCfg p) 0 = true ∧ field (s.pointCfg p) 15 8 = field (k.arg 0) 15 8) ∧
    (pts.filter (fun p => flag (s.pointCfg p) 1)).length < (portsOf (field (k.arg 0) 15 8)).length :=
  ⟨W.taught (W.op 0x21 3 [0x9C007, 2000 * 65536] W.run), 0, (W.op 0x21 3 [0x9C007, 2000 * 65536] W.run).slot 0,
  by decide +kernel, [0, 3], by and_intros <;> decide +kernel⟩

theorem test_LpcdRef :
    ∃ (s : State) (tag : Fin 128) (k : Slot), k = s.slot tag.val ∧ ∃ (n : Nat) (p : Nat) (l : List (Int × Int)) (x :
    Int × Int) (u : State), field (s.rg 0x20 0x058) 7 0 = 2 ^ n ∧ n < 8 ∧ l[n]? = some x ∧ p = 2 ^ (33 - field (s.rg
    0x20 0x058) 10 8) ∧ u = s.reach (BitVec.ofNat 64 ((s.now.toNat / p + 1) * p)) ∧ s.fld.coex = none ∧ flag (s.rg
    0x05 0x120) 0 = false ∧ s.pwr.depth ≠ .guard ∧ (∀ j, j < 8 → s.carrierOn j = false) ∧ s.ready 0x20 = true ∧
    s.unavailable .field = false ∧ flag (s.rg 0x20 0x060) n = false ∧ (s.ant n).ref = none :=
  ⟨W.regs [(0x20, 0x058, 0x580)] W.run, 0, W.run.slot 0, by decide +kernel, 7, 2 ^ 28, List.replicate 8 (5, -7), (5,
  -7), _, by decide +kernel, by decide +kernel, by decide +kernel, by decide +kernel, rfl,
  by and_intros <;> decide +kernel⟩

theorem test_LpcdSkip :
    ∃ (s : State) (tag : Fin 128) (k : Slot), k = s.slot tag.val ∧ ∃ (n : Nat) (p : Nat) (l : List (Int × Int)) (x :
    Int × Int) (u : State), field (s.rg 0x20 0x058) 7 0 = 2 ^ n ∧ n < 8 ∧ l[n]? = some x ∧ p = 2 ^ (33 - field (s.rg
    0x20 0x058) 10 8) ∧ u = s.reach (BitVec.ofNat 64 ((s.now.toNat / p + 1) * p)) ∧ ∃ j, j < 8 ∧ (s.carrierOn j =
    true ∨ s.fld.coex.isSome = true ∨ s.pwr.depth = .guard) :=
  ⟨W.win (W.regs [(0x20, 0x058, 0x580)] W.run), 0, W.run.slot 0, by decide +kernel, 7, 2 ^ 28, List.replicate 8 (5,
  -7), (5, -7), _, by decide +kernel, by decide +kernel, by decide +kernel, by decide +kernel, rfl, 7,
  by decide +kernel, by decide +kernel⟩

theorem test_WindowOpen :
    ∃ (s : State) (tag : Fin 128) (k : Slot), k = s.slot tag.val ∧ ∃ (a : Stamp) (b : Stamp) (w : CoexWin), w =
    { scheduled := true, protect := s.coexJudge.2, start := a, stop := some b } ∧ s.rxChannel.1 ≠ 0 ∧ s.inReset
    .field = false :=
  ⟨W.tuned (W.fld (fun x => { x with run := some {} }) W.run), 0, W.run.slot 0, by decide +kernel, 1000000000,
  2000000000,
  { scheduled := true, protect := (W.tuned W.run).coexJudge.2, start := 1000000000, stop := some 2000000000 },
  by and_intros <;> decide +kernel⟩

theorem test_WindowComing :
    ∃ (s : State) (tag : Fin 128) (k : Slot), k = s.slot tag.val ∧ ∃ (a : Stamp) (b : Stamp) (w : CoexWin), w =
    { scheduled := true, protect := s.coexJudge.2, start := a, stop := some b } ∧ s.rxChannel.1 ≠ 0 ∧ s.inReset
    .field = false ∧ s.fld.coming ≠ some w ∧ s.now.toNat + usTime 200 ≤ a.toNat :=
  ⟨W.tuned (W.fld (fun x => { x with run := some {} }) W.run), 0, W.run.slot 0, by decide +kernel, 1000000000,
  2000000000,
  { scheduled := true, protect := (W.tuned W.run).coexJudge.2, start := 1000000000, stop := some 2000000000 },
  by and_intros <;> decide +kernel⟩

theorem test_WindowScheduled :
    ∃ (s : State) (tag : Fin 128) (k : Slot), k = s.slot tag.val ∧ ∃ (a : Stamp) (b : Stamp) (w : CoexWin), w =
    { scheduled := true, protect := s.coexJudge.2, start := a, stop := some b } ∧ s.rxChannel.1 ≠ 0 ∧ s.inReset
    .field = false ∧ s.fld.coming = some w :=
  ⟨W.fld (fun x =>
  { x with coming := some { scheduled := true, protect := (W.tuned W.run).coexJudge.2, start := 1000000000, stop := some 2000000000 } })
  (W.tuned W.run), 0, W.run.slot 0, by decide +kernel, 1000000000, 2000000000,
  { scheduled := true, protect := (W.tuned W.run).coexJudge.2, start := 1000000000, stop := some 2000000000 },
  by and_intros <;> decide +kernel⟩

theorem test_WindowNone :
    ∃ (s : State) (tag : Fin 128) (k : Slot), k = s.slot tag.val ∧ ∃ (a : Stamp) (b : Stamp) (w : CoexWin), w =
    { scheduled := true, protect := s.coexJudge.2, start := a, stop := some b } ∧ (s.rxChannel.1 = 0 ∨ s.inReset
    .field = true) :=
  ⟨W.run, 0, W.run.slot 0, by decide +kernel, 0, 0,
  { scheduled := true, protect := W.run.coexJudge.2, start := 0, stop := some 0 }, by decide +kernel,
  by decide +kernel⟩

theorem test_WindowEnd :
    ∃ (s : State) (tag : Fin 128) (k : Slot), k = s.slot tag.val :=
  ⟨W.win W.run, 0, W.run.slot 0, by decide +kernel⟩

theorem test_Thermal :
    ∃ (s : State) (tag : Fin 128) (k : Slot), k = s.slot tag.val ∧ s.unavailable .field = false :=
  ⟨W.run, 0, W.run.slot 0, by decide +kernel, by decide +kernel⟩

theorem test_ThermalNone :
    ∃ (s : State) (tag : Fin 128) (k : Slot), k = s.slot tag.val ∧ s.unavailable .field = true :=
  ⟨{ W.run with pwr := { W.run.pwr with cut := true } }, 0, W.run.slot 0, by decide +kernel, by decide +kernel⟩

theorem test_VfldOut :
    ∃ (s : State) (tag : Fin 128) (k : Slot), k = s.slot tag.val :=
  ⟨W.run, 0, W.run.slot 0, by decide +kernel⟩

theorem test_VfldStays :
    ∃ (s : State) (tag : Fin 128) (k : Slot), k = s.slot tag.val ∧ s.pwr.vfld = true :=
  ⟨W.run, 0, W.run.slot 0, by decide +kernel, by decide +kernel⟩

theorem test_VfldBack :
    ∃ (s : State) (tag : Fin 128) (k : Slot), k = s.slot tag.val ∧ s.pwr.vfld = false :=
  ⟨{ W.run with pwr := { W.run.pwr with vfld := false } }, 0, W.run.slot 0, by decide +kernel, by decide +kernel⟩

theorem test_NotRun :
    ∃ (s : State) (tag : Fin 128) (k : Slot), k = s.slot tag.val ∧ s.runOf tag.val = none :=
  ⟨W.op 0x22 1 [2] W.run, 0, (W.op 0x22 1 [2] W.run).slot 0, by decide +kernel, by decide +kernel⟩

theorem test_ActivateTag :
    ∃ (s : State) (tag : Fin 128) (k : Slot) (run : ReaderRun), k = s.slot tag.val ∧ s.fld.run = some run ∧ run.tag =
    BitVec.ofNat 7 tag.val ∧ s.fld.paused = none ∧ s.granaryUp = true ∧ ∃ n u, s.running tag.val 0x22 1 = true ∧
    field (k.arg 0) 1 0 = 2 ∧ s.ctxAlloc 1 = some (n, u) :=
  ⟨W.engine 0x22 1 [0x77000002, 1, 2] W.run, 0, (W.engine 0x22 1 [0x77000002, 1, 2] W.run).slot 0,
  { tag := 0, ants := 0x80 }, by decide +kernel, by decide +kernel, by decide +kernel, by decide +kernel,
  ⟨by decide +kernel, 0, ((W.engine 0x22 1 [0x77000002, 1, 2] W.run).ctxAlloc 1).elim W.run (fun x => x.2),
  by and_intros <;> decide +kernel⟩⟩

theorem test_ActivateNone :
    ∃ (s : State) (tag : Fin 128) (k : Slot) (run : ReaderRun), k = s.slot tag.val ∧ s.fld.run = some run ∧ run.tag =
    BitVec.ofNat 7 tag.val ∧ s.fld.paused = none ∧ s.granaryUp = true ∧ s.running tag.val 0x22 1 = true ∧ field
    (k.arg 0) 1 0 = 0 :=
  ⟨W.engine 0x22 1 [0x77000000] W.run, 0, (W.engine 0x22 1 [0x77000000] W.run).slot 0, { tag := 0, ants := 0x80 },
  by and_intros <;> decide +kernel⟩

theorem test_ExchangeTimeout :
    ∃ (s : State) (tag : Fin 128) (k : Slot) (run : ReaderRun), k = s.slot tag.val ∧ s.fld.run = some run ∧ run.tag =
    BitVec.ofNat 7 tag.val ∧ s.fld.paused = none ∧ s.granaryUp = true ∧ ∃ x u cmd, s.running tag.val 0x22 2 = true ∧
    s.winBytes (k.arg 1).toNat (field (k.arg 2) 12 0) = (u, .ok cmd) ∧ u.session (field (k.arg 0) 6 0) = some x ∧
    (flag (k.arg 0) 9 = false ∨ s.cribFree = true) ∧ (x.proto = 2 ∨ flag (k.arg 0) 8 = true ∨ x.l4 = false) :=
  ⟨W.exch, 0, W.exch.slot 0, { tag := 0, ants := 0x80 }, by decide +kernel, by decide +kernel, by decide +kernel,
  by decide +kernel, ⟨by decide +kernel, { proto := 2, uid := [1, 2, 3, 4, 5, 6, 7, 0xE0], ants := 0x80 },
  (W.exch.winBytes 0x80000 16).1, List.replicate 16 0, by and_intros <;> decide +kernel⟩⟩

theorem test_ExchangeDone :
    ∃ (s : State) (tag : Fin 128) (k : Slot) (run : ReaderRun), k = s.slot tag.val ∧ s.fld.run = some run ∧ run.tag =
    BitVec.ofNat 7 tag.val ∧ s.fld.paused = none ∧ s.granaryUp = true ∧ ∃ x u cmd, s.running tag.val 0x22 2 = true ∧
    s.winBytes (k.arg 1).toNat (field (k.arg 2) 12 0) = (u, .ok cmd) ∧ u.session (field (k.arg 0) 6 0) = some x ∧
    (flag (k.arg 0) 9 = false ∨ s.cribFree = true) ∧ (x.proto = 2 ∨ flag (k.arg 0) 8 = true ∨ x.l4 = false) ∧ ∃ (l :
    List Byte), l.length ≤ field (k.arg 4) 12 0 ∧ flag (k.arg 0) 9 = false :=
  ⟨W.exch, 0, W.exch.slot 0, { tag := 0, ants := 0x80 }, by decide +kernel, by decide +kernel, by decide +kernel,
  by decide +kernel, ⟨by decide +kernel, { proto := 2, uid := [1, 2, 3, 4, 5, 6, 7, 0xE0], ants := 0x80 },
  (W.exch.winBytes 0x80000 16).1, List.replicate 16 0, by decide +kernel, by decide +kernel, by decide +kernel,
  by decide +kernel, ⟨by decide +kernel, [0, 7], by decide +kernel, by decide +kernel⟩⟩⟩

theorem test_ExchangeBusy :
    ∃ (s : State) (tag : Fin 128) (k : Slot) (run : ReaderRun), k = s.slot tag.val ∧ s.fld.run = some run ∧ run.tag =
    BitVec.ofNat 7 tag.val ∧ s.fld.paused = none ∧ s.granaryUp = true ∧ ∃ x u cmd, s.running tag.val 0x22 2 = true ∧
    s.winBytes (k.arg 1).toNat (field (k.arg 2) 12 0) = (u, .ok cmd) ∧ u.session (field (k.arg 0) 6 0) = some x ∧
    (flag (k.arg 0) 9 = false ∨ s.cribFree = true) ∧ (x.proto = 2 ∨ flag (k.arg 0) 8 = true ∨ x.l4 = false) ∧ ∃ (l :
    List Byte), field (k.arg 4) 12 0 < l.length :=
  ⟨W.exch, 0, W.exch.slot 0, { tag := 0, ants := 0x80 }, by decide +kernel, by decide +kernel, by decide +kernel,
  by decide +kernel, ⟨by decide +kernel, { proto := 2, uid := [1, 2, 3, 4, 5, 6, 7, 0xE0], ants := 0x80 },
  (W.exch.winBytes 0x80000 16).1, List.replicate 16 0, by decide +kernel, by decide +kernel, by decide +kernel,
  by decide +kernel, ⟨by decide +kernel, [0, 7, 8], by decide +kernel⟩⟩⟩

theorem test_ExchangeIso :
    ∃ (s : State) (tag : Fin 128) (k : Slot) (run : ReaderRun), k = s.slot tag.val ∧ s.fld.run = some run ∧ run.tag =
    BitVec.ofNat 7 tag.val ∧ s.fld.paused = none ∧ s.granaryUp = true ∧ ∃ x u cmd, s.running tag.val 0x22 2 = true ∧
    s.winBytes (k.arg 1).toNat (field (k.arg 2) 12 0) = (u, .ok cmd) ∧ u.session (field (k.arg 0) 6 0) = some x ∧
    (flag (k.arg 0) 9 = false ∨ s.cribFree = true) ∧ x.proto ≠ 2 ∧ flag (k.arg 0) 8 = false ∧ x.l4 = true ∧ ∃ (r :
    ExchReply) (y : IsoDep) (fail : Option Bool), isoExchange u.retries x cmd r.heard = (y, fail) ∧ fail = none ∧
    y.got.length ≤ field (k.arg 4) 12 0 ∧ flag (k.arg 0) 9 = false :=
  ⟨W.iso, 0, W.iso.slot 0, { tag := 0, ants := 0x80 }, by decide +kernel, by decide +kernel, by decide +kernel,
  by decide +kernel, ⟨by decide +kernel, { proto := 0, uid := [1, 2, 3, 4], l4 := true, ants := 0x80, last := 7 },
  (W.iso.winBytes 0x80000 16).1, List.replicate 16 0, by decide +kernel, by decide +kernel, by decide +kernel,
  by decide +kernel, ⟨by decide +kernel, by decide +kernel, by decide +kernel, W.isoHeard, (isoExchange W.iso.retries
  { proto := 0, uid := [1, 2, 3, 4], l4 := true, ants := 0x80, last := 7 } (List.replicate 16 0) W.isoHeard.heard).1,
  none, by and_intros <;> decide +kernel⟩⟩⟩

theorem test_ExchangeIsoFails :
    ∃ (s : State) (tag : Fin 128) (k : Slot) (run : ReaderRun), k = s.slot tag.val ∧ s.fld.run = some run ∧ run.tag =
    BitVec.ofNat 7 tag.val ∧ s.fld.paused = none ∧ s.granaryUp = true ∧ ∃ x u cmd, s.running tag.val 0x22 2 = true ∧
    s.winBytes (k.arg 1).toNat (field (k.arg 2) 12 0) = (u, .ok cmd) ∧ u.session (field (k.arg 0) 6 0) = some x ∧
    (flag (k.arg 0) 9 = false ∨ s.cribFree = true) ∧ x.proto ≠ 2 ∧ flag (k.arg 0) 8 = false ∧ x.l4 = true ∧ ∃ (r :
    ExchReply) (y : IsoDep) (fail : Option Bool), isoExchange u.retries x cmd r.heard = (y, fail) ∧ fail = some true :=
  ⟨W.iso, 0, W.iso.slot 0, { tag := 0, ants := 0x80 }, by decide +kernel, by decide +kernel, by decide +kernel,
  by decide +kernel, ⟨by decide +kernel, { proto := 0, uid := [1, 2, 3, 4], l4 := true, ants := 0x80, last := 7 },
  (W.iso.winBytes 0x80000 16).1, List.replicate 16 0, by decide +kernel, by decide +kernel, by decide +kernel,
  by decide +kernel, ⟨by decide +kernel, by decide +kernel, by decide +kernel, W.isoLost, (isoExchange W.iso.retries
  { proto := 0, uid := [1, 2, 3, 4], l4 := true, ants := 0x80, last := 7 } (List.replicate 16 0) W.isoLost.heard).1,
  some true, by decide +kernel, by decide +kernel⟩⟩⟩

theorem test_ExchangeWaits :
    ∃ (s : State) (tag : Fin 128) (k : Slot) (run : ReaderRun), k = s.slot tag.val ∧ s.fld.run = some run ∧ run.tag =
    BitVec.ofNat 7 tag.val ∧ s.fld.paused = none ∧ s.granaryUp = true ∧ s.running tag.val 0x22 2 = true ∧ flag (k.arg
    0) 9 = true ∧ s.cribFree = false :=
  ⟨W.verify, 0, W.verify.slot 0, { tag := 0, ants := 0x80 }, by and_intros <;> decide +kernel⟩

theorem test_InventoryNone :
    ∃ (s : State) (tag : Fin 128) (k : Slot) (run : ReaderRun), k = s.slot tag.val ∧ s.fld.run = some run ∧ run.tag =
    BitVec.ofNat 7 tag.val ∧ s.fld.paused = none ∧ s.granaryUp = true ∧ s.running tag.val 0x22 3 = true :=
  ⟨W.engine 0x22 3 [0, 0] W.run, 0, (W.engine 0x22 3 [0, 0] W.run).slot 0, { tag := 0, ants := 0x80 },
  by and_intros <;> decide +kernel⟩

theorem test_Inventory :
    ∃ (s : State) (tag : Fin 128) (k : Slot) (run : ReaderRun), k = s.slot tag.val ∧ s.fld.run = some run ∧ run.tag =
    BitVec.ofNat 7 tag.val ∧ s.fld.paused = none ∧ s.granaryUp = true ∧ s.running tag.val 0x22 3 = true :=
  ⟨W.engine 0x22 3 [0, 0] W.run, 0, (W.engine 0x22 3 [0, 0] W.run).slot 0, { tag := 0, ants := 0x80 },
  by and_intros <;> decide +kernel⟩

theorem test_Closes :
    ∃ (s : State) (tag : Fin 128) (k : Slot) (run : ReaderRun), k = s.slot tag.val ∧ s.fld.run = some run ∧ run.tag =
    BitVec.ofNat 7 tag.val ∧ s.fld.paused = none ∧ s.granaryUp = true ∧ ∃ x, s.running tag.val 0x22 4 = true ∧ field
    (k.arg 0) 6 0 ≤ 123 ∧ s.ready 0x22 = true ∧ s.session (field (k.arg 0) 6 0) = some x :=
  ⟨W.sess (W.engine 0x22 4 [123] W.run), 0, (W.engine 0x22 4 [123] W.run).slot 0, { tag := 0, ants := 0x80 },
  by decide +kernel, by decide +kernel, by decide +kernel, by decide +kernel, ⟨by decide +kernel,
  { proto := 2, uid := [1, 2, 3, 4, 5, 6, 7, 0xE0], ants := 0x80 }, by and_intros <;> decide +kernel⟩⟩

theorem test_MapLoads :
    ∃ (s : State) (tag : Fin 128) (k : Slot) (run : ReaderRun), k = s.slot tag.val ∧ s.fld.run = some run ∧ run.tag =
    BitVec.ofNat 7 tag.val ∧ s.fld.paused = none ∧ s.granaryUp = true ∧ ∃ u l first count, s.running tag.val 0x23 1 =
    true ∧ mapLoadArgs k = true ∧ s.ready 0x23 = true ∧ s.hasField = true ∧ (flag (k.arg 0) 0 = false ∨ s.flashBusy
    (k.arg 1).toNat (32 * field (k.arg 2) 15 8) = false) ∧ first = field (k.arg 2) 7 0 ∧ count = field (k.arg 2) 15 8
    ∧ s.mapSource k (8 * count) = (u, .ok l) ∧ u.fld = s.fld ∧ (∀ i, i < count → entryOk ((l.drop (8 * i)).take 8) =
    true) :=
  ⟨W.mapload, 0, W.mapload.slot 0, { tag := 0, ants := 0x80 }, by decide +kernel, by decide +kernel,
  by decide +kernel, by decide +kernel, ⟨by decide +kernel, (W.mapload.mapSource (W.mapload.slot 0) 8).1,
  List.replicate 8 0, 191, 1, by and_intros <;> decide +kernel⟩⟩

theorem test_TagRead :
    ∃ (s : State) (tag : Fin 128) (k : Slot) (run : ReaderRun), k = s.slot tag.val ∧ s.fld.run = some run ∧ run.tag =
    BitVec.ofNat 7 tag.val ∧ s.fld.paused = none ∧ s.granaryUp = true ∧ ∃ p v l, s.running tag.val 0x23 2 = true ∧ p
    = field (k.arg 0) 7 0 ∧ s.tagValue p l = some v :=
  ⟨W.port (W.engine 0x23 2 [191] W.run), 0, (W.engine 0x23 2 [191] W.run).slot 0, { tag := 0, ants := 0x80 },
  by decide +kernel, by decide +kernel, by decide +kernel, by decide +kernel, ⟨by decide +kernel, 191, 0x201, [0, 1,
  2], by and_intros <;> decide +kernel⟩⟩

theorem test_GroupEnds :
    ∃ (s : State) (tag : Fin 128) (k : Slot) (run : ReaderRun), k = s.slot tag.val ∧ s.fld.run = some run ∧ run.tag =
    BitVec.ofNat 7 tag.val ∧ s.fld.paused = none ∧ s.granaryUp = true ∧ s.running tag.val 0x23 3 = true ∧ s.ready
    0x23 = true ∧ s.ready 0x20 = true ∧ run.rest = [] :=
  ⟨W.engine 0x23 3 [0xF] W.run, 0, (W.engine 0x23 3 [0xF] W.run).slot 0, { tag := 0, ants := 0x80 },
  by and_intros <;> decide +kernel⟩

theorem test_GroupReads :
    ∃ (s : State) (tag : Fin 128) (k : Slot) (run : ReaderRun), k = s.slot tag.val ∧ s.fld.run = some run ∧ run.tag =
    BitVec.ofNat 7 tag.val ∧ s.fld.paused = none ∧ s.granaryUp = true ∧ s.running tag.val 0x23 3 = true ∧ s.ready
    0x23 = true ∧ s.ready 0x20 = true ∧ ∃ p v l, run.rest = [p] ∧ run.lost = false ∧ s.tagValue p l = some v :=
  ⟨W.fld (fun x => { x with run := some { tag := 0, ants := 0x80, rest := [191] } }) (W.port (W.engine 0x23 3 [0xF]
  W.run)), 0, (W.engine 0x23 3 [0xF] W.run).slot 0, { tag := 0, ants := 0x80, rest := [191] }, by decide +kernel,
  by decide +kernel, by decide +kernel, by decide +kernel, ⟨by decide +kernel, by decide +kernel, by decide +kernel,
  by decide +kernel, 191, 0x201, [0, 1, 2], by and_intros <;> decide +kernel⟩⟩

theorem test_IdleExpiry :
    ∃ (s : State) (tag : Fin 128) (k : Slot), k = s.slot tag.val ∧ ∃ (h : Fin 128) (x : Session) (u : State),
    s.session h.val = some x ∧ x.proto ≠ 2 ∧ field (s.rg 0x22 0x040) 23 16 ≠ 0 ∧ s.fld.run = none ∧ u = s.reach
    (x.last + BitVec.ofNat 64 (secTime (field (s.rg 0x22 0x040) 23 16))) :=
  ⟨W.regs [(0x22, 0x040, 0x000A0000)] (W.sess W.run), 0, W.run.slot 0, by decide +kernel, 119,
  { proto := 0, uid := [1, 2, 3, 4], l4 := true, ants := 0x80, last := 7 }, _, by decide +kernel, by decide +kernel,
  by decide +kernel, by decide +kernel, rfl⟩

theorem test_IdleNone :
    ∃ (s : State) (tag : Fin 128) (k : Slot), k = s.slot tag.val ∧ ∃ (h : Fin 128), s.session h.val = none :=
  ⟨W.run, 0, W.run.slot 0, by decide +kernel, 119, by decide +kernel⟩


end FieldReader


namespace RadioLink

/-- A station: number 5, region 4, tuned, LINK enabled and locked, with station 9 its peer in context 0 under key slot 3. -/
def W.ck : List Byte := List.replicate 16 7
def W.pr : Peer := { station := 9, key := 3, rxctr := 7, neigh := true, lastFrag := some (9, 1, 0), lastAck := some (true, false) }
def W.lk (f : Link → Link) (s : State) : State := { s with link := f s.link }
def W.sta : State :=
  W.lk (fun l => { l with peers := [(0, some W.pr)], parent := some 0, heard := true }) {
    W.regs [(0x28, 0x040, 868000000), (0x2A, 0x008, 1), (0x2A, 0x06C, 3)] W.run with
    opt := { loaded := true, live := [(9, 4), (11, 5)] }
    crib := { keys := [(3, { typ := 1, usage := 0x80, secret := W.ck })] }
    time := { W.run.time with now := 1000, dstate := .locked, src := .tcxo } }
def W.phy (f : Phy → Phy) (s : State) : State := { s with phy := f s.phy }
/-- A sync as the receiver hears it on a clean channel, and nothing heard of any frame in progress. -/
def W.sync (sw : Word) : SyncHeard := { wave := .ofdm, v := syncPoints sw, offset := 0 }
def W.quiet : FrameSoFar := { lts := [], src := none, backoff := false }
/-- One byte of BPSK from station 9, its symbols on a clean channel, and what the receiver makes of them; and of nothing. -/
def W.bpsk : BitVec 96 := makeHeader 1 0 0 0 1 9 5 0
def W.syms : List (List (Int × Int)) :=
  (ofdmPoints W.bpsk [7] (List.replicate 96 1)).zipIdx.map (fun (d, n) => symbolPoints n one d)
def W.bestQ : RxQuality :=
  { evm := 255, groups := List.replicate 12 255, lqi := 255, snr := List.replicate 96 2361183241434822606848 }
def W.emptyCrc : Word := 0x40934F70
def W.emptyQ : RxQuality := { groups := List.replicate 12 0 }
/-- A capture of two samples that the PA has passed on unchanged. -/
def W.fit : DpdCapture := { frames := [([((one : Int), 0), (0, (one : Int))], [((one : Int), 0), (0, (one : Int))])] }
/-- A frame from station 9 as it is delivered. -/
def W.frame (typ : Nat) (payload : List Byte) : Delivered :=
  { hdr := makeHeader typ 0 1 0 payload.length 9 5 0, payload := payload, stamp := 900, ended := 950, lqi := 200 }
/-- The peer's ACK of CTR 8. -/
def W.acked : Delivered :=
  { W.frame 2 [1, 0, 0, 0, 8, 0, 0, 0, 130, 245, 14, 209, 199, 126, 38, 94] with hdr := makeHeader 2 0 1 0 16 9 5 0 }
def W.box (d : Delivered) (s : State) : State := W.lk (fun l => { l with inbox := [d] }) s
def W.msg : Msg := { id := 4, kind := .own 0, orig := 5, final := 9, bodies := [[1, 2]], hop := 0, ctr := some 8 }
def W.boxed (d : Delivered) : State := W.box d W.sta
def W.map : BitMap := { gen := 3, rate := 1, codes := List.replicate 24 5 ++ List.replicate 72 0 }
def W.data : State := W.lk (fun l => { l with dataPeriod := true, msgs := [W.msg] }) W.sta
def W.sendOp (s : State) : State := W.op 0x2A 1 [9, 0x80000, 2] s
/-- Frames of the peer under its key: DATA with CTR 7, DATA with CTR 8, MAPSET with CTR 8, and what they open to. -/
def W.linkHdr (typ n : Nat) : BitVec 96 := makeHeader typ 0 1 0 n 9 5 0
def W.frame7 : Delivered :=
  { W.frame 1 [9, 0, 5, 0, 1, 0, 0, 0, 7, 0, 0, 0, 121, 129, 220, 197, 170, 193, 101, 49, 143, 13] with
    hdr := W.linkHdr 1 22 }
def W.frame8 : Delivered :=
  { W.frame 1 [9, 0, 5, 0, 2, 0, 0, 0, 8, 0, 0, 0, 27, 61, 107, 201, 140, 152, 2, 18, 172, 37] with
    hdr := W.linkHdr 1 22 }
def W.mapset8 : Delivered :=
  { W.frame 3 [9, 0, 5, 0, 2, 0, 0, 0, 8, 0, 0, 0, 112, 151, 145, 70, 208, 223, 228, 245, 238, 227, 83, 31, 71, 168,
      197, 69, 238, 197, 180, 0, 48, 86, 78, 91, 137, 191, 223, 214, 173, 44, 239, 191, 55, 106, 143, 90, 138, 119, 181,
      176, 163, 114, 23, 120, 40, 0, 14, 165] with hdr := W.linkHdr 3 60 }
def W.open7 : Opened := { orig := 9, final := 5, seq := 1, nfrag := 1, ctr := 7, body := [1, 2] }
def W.open8 : Opened := { orig := 9, final := 5, seq := 2, nfrag := 1, ctr := 8, body := [1, 2] }
def W.openMap : Opened :=
  { orig := 9, final := 5, seq := 2, nfrag := 1, ctr := 8
    body := [0, 3, 1, 0, 0x6D, 0xDB, 0xB6, 0x6D, 0xDB, 0xB6, 0x6D, 0xDB, 0xB6] ++ List.replicate 27 0 }
/-- The backoff of its message is drawn: 7 periods. -/
def W.drawn : State := W.lk (fun l => { l with backoff := some 7 }) W.data
/-- Queue 3 bound to a station, a packet in it. -/
def W.qb : State :=
  (W.regs [(0x2A, 0x07C, 0x90023), (0x1B, 0x130, 0x661)] W.sta).putQueue 3 (({} : Queue).show (packetItems [7]))
def W.qbGot : State × List Byte := W.qb.gather 3 (min 4096 (field (W.qb.rg 0x2A 0x048) 31 24 * 256)) 1 []
def W.qbSlot : Option (Nat × State) :=
  W.qbGot.1.agentQueue 7 0x2A 1 [9, 0, BitVec.ofNat 32 W.qbGot.2.length]

theorem W.peers_ctr (s : State) (h : s.link.peers = [(0, some W.pr)]) :
    ∀ n p, s.peer n = some p → p.txctr ≠ 0xFFFFFFFF := by
  intro n p hp
  rw [State.peer, h] at hp
  match n with
  | 0 => cases hp; decide
  | n + 1 => cases hp

theorem test_FreqState :
    ∃ (s : State) (m : Master) (v : Word) (tag : Fin 128) (k : Slot), k = s.slot tag.val ∧ s.writeGate m 0x28 0x040 v
    = .pass ∧ (field v 29 0 = 0 ∨ (150000000 ≤ field v 29 0 ∧ field v 29 0 ≤ 960000000)) ∧ s.linkEn = true :=
  ⟨W.regs [(0x2A, 0x008, 1)] W.run, .core, 960000000, 0, W.run.slot 0, by and_intros <;> decide +kernel⟩

theorem test_FreqSet :
    ∃ (s : State) (m : Master) (v : Word) (tag : Fin 128) (k : Slot), k = s.slot tag.val ∧ s.writeGate m 0x28 0x040 v
    = .pass ∧ (field v 29 0 = 0 ∨ (150000000 ≤ field v 29 0 ∧ field v 29 0 ≤ 960000000)) ∧ s.linkEn = false :=
  ⟨W.run, .core, 150000000, 0, W.run.slot 0, by and_intros <;> decide +kernel⟩

theorem test_FreqArg :
    ∃ (s : State) (m : Master) (v : Word) (tag : Fin 128) (k : Slot), k = s.slot tag.val ∧ s.writeGate m 0x28 0x040 v
    = .pass ∧ (960000000 < field v 29 0 ∨ (0 < field v 29 0 ∧ field v 29 0 < 150000000)) :=
  ⟨W.run, .core, 149999999, 0, W.run.slot 0, by and_intros <;> decide +kernel⟩

theorem test_Sends :
    ∃ (s : State) (tag : Fin 128) (k : Slot), k = s.slot tag.val ∧ ∃ f a, s.phy.request = some f ∧ f.legacy = false ∧
    s.radioUp = true ∧ s.phy.tx = none ∧ a = s.abandonRx ∧ a.radioRegs.1 ≠ 0 ∧ s.pwr.vpa = true ∧ s.pwr.lost = false
    ∧ a.regionAllows f.nb f.width = true :=
  ⟨W.phy (fun p => { p with request := some {} , rx := some {} }) W.sta, 0, W.run.slot 0, by decide +kernel, {},
  (W.phy (fun p => { p with request := some {} , rx := some {} }) W.sta).abandonRx, by and_intros <;> decide +kernel⟩

theorem test_SendDown :
    ∃ (s : State) (tag : Fin 128) (k : Slot), k = s.slot tag.val ∧ ∃ f, s.phy.request = some f ∧ f.legacy = false ∧
    (s.radioUp = false ∨ s.pwr.vpa = false) :=
  ⟨W.phy (fun p => { p with request := some {} }) { W.sta with pwr := { W.sta.pwr with vpa := false } }, 0,
  W.run.slot 0, by decide +kernel, {}, by and_intros <;> decide +kernel⟩

theorem test_SendNone :
    ∃ (s : State) (tag : Fin 128) (k : Slot), k = s.slot tag.val ∧ s.phy.request = none :=
  ⟨W.run, 0, W.run.slot 0, by decide +kernel, by decide +kernel⟩

theorem test_TxEnd :
    ∃ (s : State) (tag : Fin 128) (k : Slot), k = s.slot tag.val ∧ ∃ f, s.phy.tx = some f ∧ f.why = .beacon :=
  ⟨W.phy (fun p => { p with tx := some {} }) W.sta, 0, W.run.slot 0, by decide +kernel, {}, by decide +kernel,
  by decide +kernel⟩

theorem test_TxEndNone :
    ∃ (s : State) (tag : Fin 128) (k : Slot), k = s.slot tag.val ∧ s.phy.tx = none :=
  ⟨W.run, 0, W.run.slot 0, by decide +kernel, by decide +kernel⟩

theorem test_SyncTaken :
    ∃ (s : State) (tag : Fin 128) (k : Slot), k = s.slot tag.val ∧ ∃ (x : SyncHeard), s.phy.tx = none ∧ x.wave =
    .ofdm ∧ flag s.radioRegs.2.2 0 = false ∧ s.radioUp = true ∧ s.radioRegs.1 ≠ 0 ∧ acquired x (field s.radioRegs.2.1
    2 0) = true ∧ popcount (syncBits x ^^^ s.sw).toNat ≤ field s.radioRegs.2.2 6 4 ∧ s.phy.rx = none :=
  ⟨W.sta, 0, W.run.slot 0, by decide +kernel, W.sync W.sta.sw, by and_intros <;> decide +kernel⟩

theorem test_SyncCaptures :
    ∃ (s : State) (tag : Fin 128) (k : Slot), k = s.slot tag.val ∧ ∃ (x : SyncHeard) (power : BitVec 16) (soFar :
    FrameSoFar), s.phy.tx = none ∧ x.wave = .ofdm ∧ flag s.radioRegs.2.2 0 = false ∧ s.radioUp = true ∧ s.radioRegs.1
    ≠ 0 ∧ acquired x (field s.radioRegs.2.1 2 0) = true ∧ popcount (syncBits x ^^^ s.sw).toNat ≤ field
    s.radioRegs.2.2 6 4 ∧ ∃ old, s.phy.rx = some old ∧ flag s.radioRegs.2.2 7 = true ∧ old.level soFar + 4 * (field
    s.radioRegs.2.2 12 8 : Int) ≤ power.toInt :=
  ⟨W.phy (fun p => { p with rx := some { power := -545 } }) W.sta, 0, W.run.slot 0, by decide +kernel, W.sync
  W.sta.sw, 0xFE00, W.quiet, by decide +kernel, by decide +kernel, by decide +kernel, by decide +kernel,
  ⟨by decide +kernel, by decide +kernel, by decide +kernel, { power := -545 }, by and_intros <;> decide +kernel⟩⟩

theorem test_SyncTooWeak :
    ∃ (s : State) (tag : Fin 128) (k : Slot), k = s.slot tag.val ∧ ∃ (x : SyncHeard) (power : BitVec 16) (soFar :
    FrameSoFar), s.phy.tx = none ∧ x.wave = .ofdm ∧ flag s.radioRegs.2.2 0 = false ∧ s.radioUp = true ∧ s.radioRegs.1
    ≠ 0 ∧ acquired x (field s.radioRegs.2.1 2 0) = true ∧ popcount (syncBits x ^^^ s.sw).toNat ≤ field
    s.radioRegs.2.2 6 4 ∧ ∃ old, s.phy.rx = some old ∧ (flag s.radioRegs.2.2 7 = false ∨ power.toInt < old.level
    soFar + 4 * (field s.radioRegs.2.2 12 8 : Int)) :=
  ⟨W.phy (fun p => { p with rx := some { power := -543 } }) W.sta, 0, W.run.slot 0, by decide +kernel, W.sync
  W.sta.sw, 0xFE00, W.quiet, by decide +kernel, by decide +kernel, by decide +kernel, by decide +kernel,
  ⟨by decide +kernel, by decide +kernel, by decide +kernel, { power := -543 }, by decide +kernel, by decide +kernel⟩⟩

theorem test_SyncPassed :
    ∃ (s : State) (tag : Fin 128) (k : Slot), k = s.slot tag.val ∧ ∃ (x : SyncHeard), s.phy.tx = none ∧ x.wave =
    .ofdm ∧ flag s.radioRegs.2.2 0 = false ∧ (field s.radioRegs.2.2 6 4 < popcount (syncBits x ^^^ s.sw).toNat ∨
    acquired x (field s.radioRegs.2.1 2 0) = false) :=
  ⟨W.sta, 0, W.run.slot 0, by decide +kernel, W.sync (~~~W.sta.sw), by and_intros <;> decide +kernel⟩

theorem test_SyncAway :
    ∃ (s : State) (tag : Fin 128) (k : Slot), k = s.slot tag.val ∧ ∃ (x : SyncHeard), s.phy.tx = none ∧ x.wave =
    .ofdm ∧ flag s.radioRegs.2.2 0 = false ∧ (field s.radioRegs.2.2 6 4 < popcount (syncBits x ^^^ s.sw).toNat ∨
    acquired x (field s.radioRegs.2.1 2 0) = false) :=
  ⟨W.sta, 0, W.run.slot 0, by decide +kernel, { W.sync W.sta.sw with offset := 500001 },
  by and_intros <;> decide +kernel⟩

theorem test_HeaderFails :
    ∃ (s : State) (tag : Fin 128) (k : Slot), k = s.slot tag.val ∧ ∃ (r : Reception) (y1 : List (Int × Int)) (y2 :
    List (Int × Int)) (syms : List (List (Int × Int))) (h : BitVec 96) (body : List Byte) (crc : Word) (q :
    RxQuality), s.phy.rx = some r ∧ r.nb = false ∧ r.legacy = false ∧ s.received r (.ofdm y1 y2 syms) = (.synelle h
    body crc, q) ∧ headerOk h false = false :=
  ⟨W.phy (fun p => { p with rx := some {} }) W.sta, 0, W.run.slot 0, by decide +kernel, {}, [], [], [], 0, [],
  W.emptyCrc, W.emptyQ, by and_intros <;> decide +kernel⟩

theorem test_Delivers :
    ∃ (s : State) (tag : Fin 128) (k : Slot), k = s.slot tag.val ∧ ∃ (r : Reception) (y1 : List (Int × Int)) (y2 :
    List (Int × Int)) (syms : List (List (Int × Int))) (h : BitVec 96) (body : List Byte) (crc : Word) (q :
    RxQuality), s.phy.rx = some r ∧ r.nb = false ∧ r.legacy = false ∧ s.received r (.ofdm y1 y2 syms) = (.synelle h
    body crc, q) ∧ headerOk h false = true ∧ hfield h 15 12 < 8 ∧ body.length = hfield h 30 20 ∧ crc32 body =
    crc.toNat ∧ s.linkEn = true ∧ hfield h 7 4 ≤ 3 :=
  ⟨W.phy (fun p => { p with rx := some {} }) W.sta, 0, W.run.slot 0, by decide +kernel, {}, longPoints, longPoints,
  W.syms, W.bpsk, [7], BitVec.ofNat 32 (crc32 [7]), W.bestQ, by and_intros <;> decide +kernel⟩

theorem test_NoReception :
    ∃ (s : State) (tag : Fin 128) (k : Slot), k = s.slot tag.val ∧ s.phy.rx = none :=
  ⟨W.run, 0, W.run.slot 0, by decide +kernel, by decide +kernel⟩

theorem test_TrainTimeout :
    ∃ (s : State) (tag : Fin 128) (k : Slot), k = s.slot tag.val ∧ ∃ (t : Training), s.phy.train = some t ∧
    t.tag.toNat = tag.val ∧ s.running tag.val 0x28 1 = true ∧ t.frames < field (k.arg 0) 4 0 :=
  ⟨W.phy (fun p => { p with train := some {} }) (W.op 0x28 1 [16] W.sta), 0, (W.op 0x28 1 [16] W.sta).slot 0,
  by decide +kernel, {}, by and_intros <;> decide +kernel⟩

theorem test_TrainWaits :
    ∃ (s : State) (tag : Fin 128) (k : Slot), k = s.slot tag.val ∧ ∃ (t : Training), s.phy.train = some t ∧
    t.tag.toNat = tag.val ∧ s.running tag.val 0x28 1 = true ∧ field (k.arg 0) 4 0 ≤ t.frames ∧ s.phy.tx.isSome = true :=
  ⟨W.phy (fun p => { p with tx := some {}, train := some { frames := 16 } }) (W.op 0x28 1 [16 + 256] W.sta), 0, (W.op
  0x28 1 [16 + 256] W.sta).slot 0, by decide +kernel, { frames := 16 }, by and_intros <;> decide +kernel⟩

theorem test_TrainFits :
    ∃ (s : State) (tag : Fin 128) (k : Slot), k = s.slot tag.val ∧ ∃ (t : Training) (f : DpdCapture), s.phy.train =
    some t ∧ t.tag.toNat = tag.val ∧ s.running tag.val 0x28 1 = true ∧ ∃ u good, field (k.arg 0) 4 0 ≤ t.frames ∧
    s.phy.tx = none ∧ (s.updPhy (fun p => { p with train := none })).fitDpd
    { frames := f.frames.take (field (k.arg 0) 4 0) } (flag (k.arg 0) 8) = (u, good) :=
  ⟨W.phy (fun p => { p with train := some { frames := 16 } }) (W.op 0x28 1 [16 + 256] W.sta), 0, (W.op 0x28 1 [16 +
  256] W.sta).slot 0, by decide +kernel, { frames := 16 }, W.fit, by decide +kernel, by decide +kernel,
  by decide +kernel, (((W.phy (fun p => { p with train := some { frames := 16 } }) (W.op 0x28 1 [16 + 256]
  W.sta)).updPhy (fun p => { p with train := none })).fitDpd { frames := W.fit.frames.take 16 } true).1, true,
  by and_intros <;> decide +kernel⟩

theorem test_Retrain :
    ∃ (s : State) (tag : Fin 128) (k : Slot), k = s.slot tag.val ∧ ∃ (c : Nat) (mv : Nat), s.ready 0x28 = true ∧
    s.phy.tx = none ∧ flag (s.rg 0x28 0x064) 6 = true ∧ (secTime 600 ≤ s.phy.sentFor ∨ 10 < c ∨ 100 < mv) :=
  ⟨W.regs [(0x28, 0x064, 0x2355)] W.sta, 0, W.run.slot 0, by decide +kernel, 11, 0, by and_intros <;> decide +kernel⟩

theorem test_NoRetrain :
    ∃ (s : State) (tag : Fin 128) (k : Slot), k = s.slot tag.val ∧ s.ready 0x28 = true ∧ s.phy.tx = none ∧ flag (s.rg
    0x28 0x064) 6 = false :=
  ⟨W.regs [(0x28, 0x064, 0x2315)] W.sta, 0, W.run.slot 0, by and_intros <;> decide +kernel⟩

theorem test_MeasureEnds :
    ∃ (s : State) (tag : Fin 128) (k : Slot), k = s.slot tag.val ∧ ∃ (x : Measure), s.phy.measure = some x ∧
    x.tag.toNat = tag.val ∧ s.running tag.val 0x29 1 = true ∧ s.link.auto = [] ∧ x.frames = 0 :=
  ⟨W.phy (fun p => { p with measure := some {} }) (W.op 0x29 1 [0x100, 600] W.sta), 0, (W.op 0x29 1 [0x100, 600]
  W.sta).slot 0, by decide +kernel, {}, by and_intros <;> decide +kernel⟩

theorem test_MeasureTimeout :
    ∃ (s : State) (tag : Fin 128) (k : Slot), k = s.slot tag.val ∧ ∃ (x : Measure), s.phy.measure = some x ∧
    x.tag.toNat = tag.val ∧ s.running tag.val 0x29 1 = true ∧ s.link.auto = [] ∧ x.frames ≠ 0 :=
  ⟨W.phy (fun p => { p with measure := some { frames := 1 } }) (W.op 0x29 1 [0x100, 600] W.sta), 0, (W.op 0x29 1
  [0x100, 600] W.sta).slot 0, by decide +kernel, { frames := 1 }, by and_intros <;> decide +kernel⟩

theorem test_VpaOut :
    ∃ (s : State) (tag : Fin 128) (k : Slot), k = s.slot tag.val ∧ s.pwr.vpa = true :=
  ⟨W.phy (fun p => { p with tx := some {}, rx := some {} }) W.sta, 0, W.run.slot 0, by decide +kernel,
  by decide +kernel⟩

theorem test_VpaBack :
    ∃ (s : State) (tag : Fin 128) (k : Slot), k = s.slot tag.val ∧ s.pwr.vpa = false :=
  ⟨{ W.sta with pwr := { W.sta.pwr with vpa := false } }, 0, W.run.slot 0, by decide +kernel, by decide +kernel⟩

theorem test_Down :
    ∃ (s : State) (u : State) (rest : List Delivered), u = s.updLink (fun l => { l with inbox := rest }) ∧ s.linkUp =
    false :=
  ⟨W.run, _, [], rfl, by decide +kernel⟩

theorem test_Superframe :
    ∃ (s : State) (u : State) (rest : List Delivered), u = s.updLink (fun l => { l with inbox := rest }) ∧ s.linkUp =
    true :=
  ⟨W.sta, _, [], rfl, by decide +kernel⟩

theorem test_DataPeriod :
    ∃ (s : State) (u : State) (rest : List Delivered), u = s.updLink (fun l => { l with inbox := rest }) ∧ s.linkUp =
    true ∧ s.link.dataPeriod = false :=
  ⟨W.lk (fun l => { l with msgs := [{ W.msg with hold := true }] }) W.sta, _, [], rfl, by decide +kernel,
  by decide +kernel⟩

theorem test_Beacon :
    ∃ (s : State) (u : State) (rest : List Delivered), u = s.updLink (fun l => { l with inbox := rest }) ∧
    s.mayBeacon = true ∧ s.now ≤ s.beaconStart :=
  ⟨W.lk (fun l => { l with frame := 2 ^ 32 }) W.sta, _, [], rfl, by decide +kernel, by decide +kernel⟩

theorem test_NoBeacon :
    ∃ (s : State) (u : State) (rest : List Delivered), u = s.updLink (fun l => { l with inbox := rest }) ∧
    s.mayBeacon = false :=
  ⟨W.run, _, [], rfl, by decide +kernel⟩

theorem test_BeaconStranger :
    ∃ (s : State) (u : State) (d : Delivered) (rest : List Delivered), u = s.updLink (fun l =>
    { l with inbox := rest }) ∧ s.linkUp = true ∧ s.link.inbox = d :: rest ∧ d.legacy = false ∧ hfield d.hdr 7 4 = 0
    ∧ flag (s.rg 0x2A 0x040) 1 = false ∧ u.peerOf (hfield d.hdr 47 32) = none :=
  ⟨W.lk (fun l => { l with peers := [] }) (W.regs [(0x2A, 0x040, 0x87841)] (W.boxed (W.frame 0 (List.replicate 20
  0)))), _, W.frame 0 (List.replicate 20 0), [], rfl, by decide +kernel, rfl, by and_intros <;> decide +kernel⟩

theorem test_BeaconTaken :
    ∃ (s : State) (u : State) (d : Delivered) (rest : List Delivered) (n : Nat) (p : Peer), u = s.updLink (fun l =>
    { l with inbox := rest }) ∧ s.linkUp = true ∧ s.link.inbox = d :: rest ∧ d.legacy = false ∧ hfield d.hdr 7 4 = 0
    ∧ flag (s.rg 0x2A 0x040) 1 = false ∧ u.peerOf (hfield d.hdr 47 32) = some n ∧ u.peer n = some p ∧ p.t1 = none ∧
    d.mark = .ok ∧ (d.payload.getD 9 0).toNat ≤ 4 ∧ d.payload.length = 20 + 6 * (d.payload.getD 9 0).toNat :=
  ⟨W.regs [(0x2A, 0x040, 0x87841)] (W.boxed (W.frame 0 (List.replicate 20 0))), _, W.frame 0 (List.replicate 20 0),
  [], 0, W.pr, rfl, by decide +kernel, rfl, by and_intros <;> decide +kernel⟩

theorem test_DataStranger :
    ∃ (s : State) (u : State) (d : Delivered) (rest : List Delivered), u = s.updLink (fun l =>
    { l with inbox := rest }) ∧ s.linkUp = true ∧ s.link.inbox = d :: rest ∧ d.legacy = false ∧ hfield d.hdr 7 4 = 1
    ∧ d.mark ≠ .mapMiss ∧ u.peerOf (hfield d.hdr 47 32) = none :=
  ⟨W.lk (fun l => { l with peers := [] }) (W.boxed (W.frame 1 [])), _, W.frame 1 [], [], rfl, by decide +kernel, rfl,
  by and_intros <;> decide +kernel⟩

theorem test_Duplicate :
    ∃ (s : State) (u : State) (d : Delivered) (rest : List Delivered) (n : Nat) (p : Peer), u = s.updLink (fun l =>
    { l with inbox := rest }) ∧ s.linkUp = true ∧ s.link.inbox = d :: rest ∧ d.legacy = false ∧ ∃ o, u.peerOf (hfield
    d.hdr 47 32) = some n ∧ u.peer n = some p ∧ d.mark = .ok ∧ hfield d.hdr 63 48 = u.station ∧ u.cribFree = true ∧
    u.openFrame d p = some o ∧ ∃ (hold : Bool) (noroute : Bool), hfield d.hdr 7 4 = 1 ∧ ctrCase p o = .duplicate ∧
    p.lastAck = some (hold, noroute) :=
  ⟨W.boxed W.frame7, _, W.frame7, [], 0, W.pr, rfl, by decide +kernel, rfl, by decide +kernel, W.open7,
  by decide +kernel, by decide +kernel, by decide +kernel, by decide +kernel, ⟨by decide +kernel, by decide +kernel,
  true, false, by and_intros <;> decide +kernel⟩⟩

theorem test_Delivered :
    ∃ (s : State) (u : State) (d : Delivered) (rest : List Delivered) (n : Nat) (p : Peer), u = s.updLink (fun l =>
    { l with inbox := rest }) ∧ s.linkUp = true ∧ s.link.inbox = d :: rest ∧ d.legacy = false ∧ ∃ o, u.peerOf (hfield
    d.hdr 47 32) = some n ∧ u.peer n = some p ∧ d.mark = .ok ∧ hfield d.hdr 63 48 = u.station ∧ u.cribFree = true ∧
    u.openFrame d p = some o ∧ hfield d.hdr 7 4 = 1 ∧ ctrCase p o = .fresh ∧ o.final = u.station :=
  ⟨W.boxed W.frame8, _, W.frame8, [], 0, W.pr, rfl, by decide +kernel, rfl, by decide +kernel, W.open8,
  by and_intros <;> decide +kernel⟩

theorem test_MapInstalled :
    ∃ (s : State) (u : State) (d : Delivered) (rest : List Delivered) (n : Nat) (p : Peer), u = s.updLink (fun l =>
    { l with inbox := rest }) ∧ s.linkUp = true ∧ s.link.inbox = d :: rest ∧ d.legacy = false ∧ ∃ o, u.peerOf (hfield
    d.hdr 47 32) = some n ∧ u.peer n = some p ∧ d.mark = .ok ∧ hfield d.hdr 63 48 = u.station ∧ u.cribFree = true ∧
    u.openFrame d p = some o ∧ ∃ (b : BitMap), hfield d.hdr 7 4 = 3 ∧ ctrCase p o = .fresh ∧ o.body.length = 40 ∧
    (o.body.getD 0 0).toNat = u.outMap p ∧ b =
    { gen := (o.body.getD 1 0).toNat % 16, rate := (o.body.getD 2 0).toNat % 4, codes := mapCodes (o.body.drop 4) } ∧
    mapValid b.codes = true :=
  ⟨W.boxed W.mapset8, _, W.mapset8, [], 0, W.pr, rfl, by decide +kernel, rfl, by decide +kernel, W.openMap,
  by decide +kernel, by decide +kernel, by decide +kernel, by decide +kernel, ⟨by decide +kernel, by decide +kernel,
  W.map, by and_intros <;> decide +kernel⟩⟩

theorem test_MapStranger :
    ∃ (s : State) (u : State) (d : Delivered) (rest : List Delivered), u = s.updLink (fun l =>
    { l with inbox := rest }) ∧ s.linkUp = true ∧ s.link.inbox = d :: rest ∧ d.legacy = false ∧ hfield d.hdr 7 4 = 3
    ∧ d.mark ≠ .mapMiss ∧ u.peerOf (hfield d.hdr 47 32) = none :=
  ⟨W.lk (fun l => { l with peers := [] }) (W.boxed (W.frame 3 [])), _, W.frame 3 [], [], rfl, by decide +kernel, rfl,
  by and_intros <;> decide +kernel⟩

theorem test_AckStranger :
    ∃ (s : State) (u : State) (d : Delivered) (rest : List Delivered), u = s.updLink (fun l =>
    { l with inbox := rest }) ∧ s.linkUp = true ∧ s.link.inbox = d :: rest ∧ d.legacy = false ∧ hfield d.hdr 7 4 = 2
    ∧ s.cribFree = true ∧ u.peerOf (hfield d.hdr 47 32) = none :=
  ⟨W.lk (fun l => { l with peers := [] }) (W.boxed (W.frame 2 [])), _, W.frame 2 [], [], rfl, by decide +kernel, rfl,
  by and_intros <;> decide +kernel⟩

theorem test_AckWaits :
    ∃ (s : State) (u : State) (d : Delivered) (rest : List Delivered), u = s.updLink (fun l =>
    { l with inbox := rest }) ∧ s.linkUp = true ∧ s.link.inbox = d :: rest ∧ d.legacy = false ∧ hfield d.hdr 7 4 = 2
    ∧ s.cribFree = false :=
  ⟨W.regs [(0x3A, 0x004, 0)] (W.boxed (W.frame 2 [])), _, W.frame 2 [], [], rfl, by decide +kernel, rfl,
  by and_intros <;> decide +kernel⟩

theorem test_AckTaken :
    ∃ (s : State) (u : State) (d : Delivered) (rest : List Delivered) (n : Nat) (p : Peer), u = s.updLink (fun l =>
    { l with inbox := rest }) ∧ s.linkUp = true ∧ s.link.inbox = d :: rest ∧ d.legacy = false ∧ ∃ w key x, hfield
    d.hdr 7 4 = 2 ∧ s.cribFree = true ∧ u.peerOf (hfield d.hdr 47 32) = some n ∧ u.peer n = some p ∧ s.link.wait =
    some w ∧ d.mark = .ok ∧ hfield d.hdr 63 48 = u.station ∧ w.peer = n ∧ d.payload.length = 16 ∧ payField d.payload
    4 4 = w.ctr.toNat ∧ d.ended ≤ w.due ∧ u.peerKey p = some key ∧ ccmTag 8 key (u.frameNonce (hfield d.hdr 47 32)
    u.station w.ctr.toNat 2) (headerBytes d.hdr ++ d.payload.take 8) [] = d.payload.drop 8 ∧ s.link.msgs.find? (fun m
    => m.id == w.id) = some x ∧ (d.payload.getD 2 0) &&& 3 = 0 ∧ (∀ tg, x.kind ≠ .mapset tg) :=
  ⟨W.lk (fun l => { l with wait := some { id := 4, ctr := 8, due := 950 }, msgs := [W.msg] }) (W.boxed W.acked), _,
  W.acked, [], 0, W.pr, rfl, by decide +kernel, rfl, by decide +kernel, { id := 4, ctr := 8, due := 950 }, W.ck,
  W.msg, by and_intros <;> decide +kernel⟩

theorem test_LegacyOff :
    ∃ (s : State) (u : State) (d : Delivered) (rest : List Delivered), u = s.updLink (fun l =>
    { l with inbox := rest }) ∧ s.linkUp = true ∧ s.link.inbox = d :: rest ∧ d.legacy = true ∧ flag (s.rg 0x2A 0x040)
    3 = false :=
  ⟨W.boxed { W.frame 0 [9, 0, 1] with legacy := true }, _, { W.frame 0 [9, 0, 1] with legacy := true }, [], rfl,
  by decide +kernel, rfl, by decide +kernel, by decide +kernel⟩

theorem test_LegacyStranger :
    ∃ (s : State) (u : State) (d : Delivered) (rest : List Delivered), u = s.updLink (fun l =>
    { l with inbox := rest }) ∧ s.linkUp = true ∧ s.link.inbox = d :: rest ∧ d.legacy = true ∧ flag (s.rg 0x2A 0x040)
    3 = true ∧ u.peerOf (payField d.payload 0 2) = none :=
  ⟨W.regs [(0x2A, 0x040, 0x8784B)] (W.boxed { W.frame 0 [8, 0, 1] with legacy := true }), _,
  { W.frame 0 [8, 0, 1] with legacy := true }, [], rfl, by decide +kernel, rfl, by and_intros <;> decide +kernel⟩

theorem test_LegacyNone :
    ∃ (s : State) (u : State) (rest : List Delivered), u = s.updLink (fun l => { l with inbox := rest }) ∧
    s.link.inbox = [] :=
  ⟨W.run, _, [], rfl, by decide +kernel⟩

theorem test_Backoff :
    ∃ (s : State) (u : State) (rest : List Delivered) (p : Peer), u = s.updLink (fun l => { l with inbox := rest }) ∧
    ∃ (m : Msg) (v : State) (w : State) (b : Nat) (f : TxFrame) (t : Stamp), s.mayListen = true ∧ s.nextMsg = some m
    ∧ s.peer m.hop = some p ∧ p.legacy = false ∧ s.cribFree = true ∧ s.drawBackoff m = (v, b) ∧ v.frameOf m p = .ok
    (w, f) ∧ t = v.after (nsTime (v.listenNs + b * tsNs (field (s.rg 0x2A 0x048) 2 0))) ∧ t + BitVec.ofNat 64 (nsTime
    (f.ns + (10 * tsNs (field (s.rg 0x2A 0x048) 2 0) + 1500000))) ≤ s.link.frame + BitVec.ofNat 64 (msTime 995) :=
  ⟨W.drawn, _, [], W.pr, rfl, W.msg, W.drawn, W.drawn, 7, W.drawn.dataFrame W.msg W.pr W.ck 8, _, by decide +kernel,
  by decide +kernel, by decide +kernel, by decide +kernel, ⟨by decide +kernel, by decide +kernel, rfl, rfl,
  by decide +kernel⟩⟩

theorem test_NoBackoff :
    ∃ (s : State) (u : State) (rest : List Delivered), u = s.updLink (fun l => { l with inbox := rest }) ∧
    s.mayListen = false :=
  ⟨W.run, _, [], rfl, by decide +kernel⟩

theorem test_Busy :
    ∃ (s : State) (u : State) (rest : List Delivered), u = s.updLink (fun l => { l with inbox := rest }) ∧ ∃ (c :
    ChannelHeard) (v : State), s.mayTalk = true ∧ s.link.dataPeriod = true ∧ s.nextMsg.isSome = true ∧ s.receiving =
    true ∧ v = (s.setRg 0x28 0x05C (BitVec.ofNat 32 c.power.toNat)).updLink (fun l => { l with backoff := none }) ∧
    (if s.regionCode = 3 then (-340 : Int) else -420) ≤ c.power.toInt :=
  ⟨W.phy (fun p => { p with rx := some {} }) W.data, _, [], rfl, { backoff := true, power := -420 }, _,
  by decide +kernel, by decide +kernel, by decide +kernel, by decide +kernel, rfl, by decide +kernel⟩

theorem test_Quiet :
    ∃ (s : State) (u : State) (rest : List Delivered), u = s.updLink (fun l => { l with inbox := rest }) ∧ ∃ (c :
    ChannelHeard) (v : State), s.mayTalk = true ∧ s.link.dataPeriod = true ∧ s.nextMsg.isSome = true ∧ s.receiving =
    true ∧ v = (s.setRg 0x28 0x05C (BitVec.ofNat 32 c.power.toNat)).updLink (fun l => { l with backoff := none }) ∧
    c.power.toInt < (if s.regionCode = 3 then (-340 : Int) else -420) :=
  ⟨W.phy (fun p => { p with rx := some {} }) W.data, _, [], rfl, { backoff := true, power := -421 }, _,
  by decide +kernel, by decide +kernel, by decide +kernel, by decide +kernel, rfl, by decide +kernel⟩

theorem test_AckLate :
    ∃ (s : State) (u : State) (rest : List Delivered), u = s.updLink (fun l => { l with inbox := rest }) ∧ ∃ a r,
    s.link.acks = a :: r ∧ s.linkUp = true ∧ a.due < s.now :=
  ⟨W.lk (fun l => { l with acks := [{ due := 999 }] }) W.sta, _, [], rfl, { due := 999 }, [],
  by and_intros <;> decide +kernel⟩

theorem test_AckSent :
    ∃ (s : State) (u : State) (rest : List Delivered) (p : Peer), u = s.updLink (fun l => { l with inbox := rest }) ∧
    ∃ a r key, s.link.acks = a :: r ∧ s.mayTalk = true ∧ s.now ≤ a.due ∧ s.phy.request = none ∧ s.phy.tx = none ∧
    s.cribFree = true ∧ s.peer a.peer = some p ∧ s.peerKey p = some key ∧ s.inGuard a.due (s.ackFrame a p key).ns =
    false :=
  ⟨W.lk (fun l => { l with acks := [{ due := 1000 }] }) W.sta, _, [], W.pr, rfl, { due := 1000 }, [], W.ck,
  by and_intros <;> decide +kernel⟩

theorem test_AckGuard :
    ∃ (s : State) (u : State) (rest : List Delivered) (p : Peer), u = s.updLink (fun l => { l with inbox := rest }) ∧
    ∃ a r key, s.link.acks = a :: r ∧ s.mayTalk = true ∧ s.now ≤ a.due ∧ s.phy.request = none ∧ s.phy.tx = none ∧
    s.cribFree = true ∧ s.peer a.peer = some p ∧ s.peerKey p = some key ∧ s.inGuard a.due (s.ackFrame a p key).ns =
    true :=
  ⟨W.lk (fun l => { l with acks := [{ due := 4273492450 }] }) W.sta, _, [], W.pr, rfl, { due := 4273492450 }, [],
  W.ck, by and_intros <;> decide +kernel⟩

theorem test_NoAck :
    ∃ (s : State) (u : State) (rest : List Delivered), u = s.updLink (fun l => { l with inbox := rest }) ∧
    s.link.acks = [] :=
  ⟨W.run, _, [], rfl, by decide +kernel⟩

theorem test_AckExpires :
    ∃ (s : State) (u : State) (rest : List Delivered), u = s.updLink (fun l => { l with inbox := rest }) ∧ ∃ w m,
    s.link.wait = some w ∧ s.link.msgs.find? (fun x => x.id == w.id) = some m ∧ w.mapped = false ∧ m.attempts + 1 < 1
    + field (s.rg 0x2A 0x040) 14 12 :=
  ⟨W.lk (fun l => { l with msgs := [W.msg], wait := some { id := 4 } }) W.sta, _, [], rfl, { id := 4 }, W.msg,
  by and_intros <;> decide +kernel⟩

theorem test_NoWait :
    ∃ (s : State) (u : State) (rest : List Delivered), u = s.updLink (fun l => { l with inbox := rest }) ∧
    s.link.wait = none :=
  ⟨W.run, _, [], rfl, by decide +kernel⟩

theorem test_Reassembly :
    ∃ (s : State) (u : State) (rest : List Delivered), u = s.updLink (fun l => { l with inbox := rest }) ∧ ∃ r l,
    s.link.reasm = r :: l :=
  ⟨W.lk (fun l => { l with reasm := [{}] }) W.sta, _, [], rfl, {}, [], by decide +kernel⟩

theorem test_RelayLife :
    ∃ (s : State) (u : State) (rest : List Delivered), u = s.updLink (fun l => { l with inbox := rest }) ∧ ∃ m,
    s.link.msgs.find? (fun x => x.kind == .relay) = some m :=
  ⟨W.lk (fun l => { l with msgs := [{ W.msg with kind := .relay }] }) W.sta, _, [], rfl,
  { W.msg with kind := .relay }, by decide +kernel⟩

theorem test_SendLife :
    ∃ (s : State) (u : State) (rest : List Delivered), u = s.updLink (fun l => { l with inbox := rest }) ∧ ∃ m,
    s.link.msgs.find? (fun x => x.kind != .relay) = some m :=
  ⟨W.data, _, [], rfl, W.msg, by decide +kernel⟩

theorem test_NoLife :
    ∃ (s : State) (u : State) (rest : List Delivered), u = s.updLink (fun l => { l with inbox := rest }) ∧
    s.link.msgs = [] :=
  ⟨W.run, _, [], rfl, by decide +kernel⟩

theorem test_DownLapses :
    ∃ (s : State) (u : State) (rest : List Delivered), u = s.updLink (fun l => { l with inbox := rest }) ∧ ∃ l e,
    s.link.down = l ++ [e] :=
  ⟨W.lk (fun l => { l with down := [{ orig := 1 }, { orig := 2 }] }) W.sta, _, [], rfl, [{ orig := 1 }],
  { orig := 2 }, by decide +kernel⟩

theorem test_NeighLost :
    ∃ (s : State) (u : State) (rest : List Delivered) (n : Nat), u = s.updLink (fun l => { l with inbox := rest }) ∧
    ∃ x, s.peerList.find? (fun e => e.2.neigh && decide (3 ≤ e.2.age)) = some (n, x) :=
  ⟨W.lk (fun l => { l with peers := [(0, some { W.pr with age := 3 })] }) W.sta, _, [], 0, rfl,
  { W.pr with age := 3 }, by decide +kernel⟩

theorem test_SendState :
    ∃ (s : State) (tag : Fin 128), s.running tag.val 0x2A 1 = true ∧ s.sendArgs tag.val (s.slot tag.val) = true ∧
    s.ready 0x2A = true ∧ s.granaryUp = true ∧ (∀ x, x ∈ s.link.msgs → x.kind ≠ .own (BitVec.ofNat 7 tag.val)) ∧
    s.linkEn = false :=
  ⟨W.regs [(0x2A, 0x008, 0)] (W.lk (fun l => { l with agent := [(0, some ([1, 2], false))] }) (W.sendOp W.sta)), 0,
  by and_intros <;> decide +kernel⟩

theorem test_SendAgent :
    ∃ (s : State) (tag : Fin 128), s.running tag.val 0x2A 1 = true ∧ s.sendArgs tag.val (s.slot tag.val) = true ∧
    s.ready 0x2A = true ∧ s.granaryUp = true ∧ (∀ x, x ∈ s.link.msgs → x.kind ≠ .own (BitVec.ofNat 7 tag.val)) ∧
    s.linkEn = true ∧ (regionRule s.regionCode).isSome = true ∧ flag (s.rg 0x28 0x04C) 4 = false ∧ (s.nextHop (field
    ((s.slot tag.val).arg 0) 15 0)).isSome = true ∧ (s.region 2).isSome = true ∧ s.linkRoom = true ∧ (∀ n p, s.peer n
    = some p → p.txctr ≠ 0xFFFFFFFF) ∧ (Tab.get (fun _ => none) s.link.agent tag.val).isSome = true :=
  ⟨W.lk (fun l => { l with agent := [(0, some ([1, 2], false))] }) (W.sendOp W.sta), 0, by decide +kernel,
  by decide +kernel, by decide +kernel, by decide +kernel, ⟨by decide +kernel, by decide +kernel, by decide +kernel,
  by decide +kernel, ⟨by decide +kernel, by decide +kernel, by decide +kernel, W.peers_ctr _ rfl,
  by decide +kernel⟩⟩⟩

theorem test_SendMemory :
    ∃ (s : State) (tag : Fin 128), s.running tag.val 0x2A 1 = true ∧ s.sendArgs tag.val (s.slot tag.val) = true ∧
    s.ready 0x2A = true ∧ s.granaryUp = true ∧ (∀ x, x ∈ s.link.msgs → x.kind ≠ .own (BitVec.ofNat 7 tag.val)) ∧ ∃ u
    body, s.linkEn = true ∧ (regionRule s.regionCode).isSome = true ∧ flag (s.rg 0x28 0x04C) 4 = false ∧ (s.nextHop
    (field ((s.slot tag.val).arg 0) 15 0)).isSome = true ∧ (s.region 2).isSome = true ∧ s.linkRoom = true ∧ (∀ n p,
    s.peer n = some p → p.txctr ≠ 0xFFFFFFFF) ∧ Tab.get (fun _ => none) s.link.agent tag.val = none ∧ s.winBytes
    ((s.slot tag.val).arg 1).toNat (field ((s.slot tag.val).arg 2) 12 0) = (u, .ok body) :=
  ⟨(W.regs [(0x1C, 0x0C0, 0x7F)] (W.sendOp W.sta)).setRegion 63 (some { purpose := 4, frames := [1500, 300] }), 0,
  by decide +kernel, by decide +kernel, by decide +kernel, by decide +kernel, ⟨by decide +kernel, ((W.regs [(0x1C,
  0x0C0, 0x7F)] (W.sendOp W.sta)).setRegion 63 (some { purpose := 4, frames := [1500, 300] })).winBytes 0x80000 2
  |>.1, [0, 0], by decide +kernel, by decide +kernel, by decide +kernel, by decide +kernel, ⟨by decide +kernel,
  by decide +kernel, W.peers_ctr _ rfl, by decide +kernel, by decide +kernel⟩⟩⟩

theorem test_Admits :
    ∃ (s : State) (tag : Fin 128), s.running tag.val 0x2B 1 = true ∧ s.ready 0x2B = true ∧ field ((s.slot
    tag.val).arg 0) 15 0 ≠ 0 ∧ field ((s.slot tag.val).arg 0) 15 0 ≠ 0xFFFF ∧ field ((s.slot tag.val).arg 0) 29 24 ≠
    0 ∧ s.cribUp = true ∧ s.granaryUp = true ∧ s.peerOf (field ((s.slot tag.val).arg 0) 15 0) = none ∧ field ((s.slot
    tag.val).arg 0) 15 0 ≠ s.station ∧ (s.key (field ((s.slot tag.val).arg 0) 29 24)).typ = (if flag ((s.slot
    tag.val).arg 0) 18 then 2 else 1) ∧ (s.ctxAlloc 2).isSome = true :=
  ⟨W.op 0x2B 1 [0x0302FFFE, 1, 2] W.sta, 0, by and_intros <;> decide +kernel⟩

theorem test_AdmitState :
    ∃ (s : State) (tag : Fin 128), s.running tag.val 0x2B 1 = true ∧ s.ready 0x2B = true ∧ field ((s.slot
    tag.val).arg 0) 15 0 ≠ 0 ∧ field ((s.slot tag.val).arg 0) 15 0 ≠ 0xFFFF ∧ field ((s.slot tag.val).arg 0) 29 24 ≠
    0 ∧ s.cribUp = true ∧ s.granaryUp = true ∧ (s.peerOf (field ((s.slot tag.val).arg 0) 15 0)).isSome = true :=
  ⟨W.op 0x2B 1 [0x03020009, 1, 2] W.sta, 0, by and_intros <;> decide +kernel⟩

theorem test_Removes :
    ∃ (s : State) (tag : Fin 128), s.running tag.val 0x2B 2 = true ∧ s.ready 0x2B = true ∧ s.granaryUp = true ∧
    (s.peer (field ((s.slot tag.val).arg 0) 7 0)).isSome = true :=
  ⟨W.op 0x2B 2 [0] W.sta, 0, by and_intros <;> decide +kernel⟩

theorem test_RemoveState :
    ∃ (s : State) (tag : Fin 128), s.running tag.val 0x2B 2 = true ∧ s.ready 0x2B = true ∧ s.granaryUp = true ∧
    s.peer (field ((s.slot tag.val).arg 0) 7 0) = none :=
  ⟨W.op 0x2B 2 [255] W.sta, 0, by and_intros <;> decide +kernel⟩

theorem test_NegotiateState :
    ∃ (s : State) (tag : Fin 128), s.running tag.val 0x2B 3 = true ∧ s.ready 0x2B = true ∧ s.granaryUp = true ∧ (∀ x,
    x ∈ s.link.msgs → x.kind ≠ .mapset (BitVec.ofNat 7 tag.val)) ∧ s.peer (field ((s.slot tag.val).arg 0) 7 0) = none :=
  ⟨W.op 0x2B 3 [255] W.sta, 0, by and_intros <;> decide +kernel⟩

theorem test_Negotiates :
    ∃ (s : State) (tag : Fin 128), s.running tag.val 0x2B 3 = true ∧ s.ready 0x2B = true ∧ s.granaryUp = true ∧ (∀ x,
    x ∈ s.link.msgs → x.kind ≠ .mapset (BitVec.ofNat 7 tag.val)) ∧ ∃ p b, s.peer (field ((s.slot tag.val).arg 0) 7 0)
    = some p ∧ p.prop = some b ∧ p.legacy = false ∧ p.negotiating = false ∧ s.linkEn = true ∧ (∀ w, w ∈ s.gran.ctxBad
    → w / 64 ≠ field ((s.slot tag.val).arg 0) 7 0) ∧ (regionRule s.regionCode).isSome = true ∧ flag (s.rg 0x28 0x04C)
    4 = false ∧ s.linkRoom = true ∧ p.txctr ≠ 0xFFFFFFFF :=
  ⟨W.lk (fun l => { l with peers := [(0, some { W.pr with prop := some W.map })] }) (W.op 0x2B 3 [0] W.sta), 0,
  by decide +kernel, by decide +kernel, by decide +kernel, by decide +kernel, { W.pr with prop := some W.map },
  W.map, by and_intros <;> decide +kernel⟩

theorem test_Automap :
    ∃ (s : State), s.linkUp = true ∧ flag (s.rg 0x2A 0x040) 2 = true ∧ s.link.autoNow = true ∧ s.link.autoWait = [] ∧
    (∀ e, e ∈ s.peerList → e.2.near = false ∨ e.2.legacy = true) :=
  ⟨W.lk (fun l => { l with autoNow := true, peers := [(0, some { W.pr with neigh := false })] }) (W.regs [(0x2A,
  0x040, 0x87847)] W.sta), by and_intros <;> decide +kernel⟩

theorem test_AutomapAsks :
    ∃ (s : State), s.linkUp = true ∧ flag (s.rg 0x2A 0x040) 2 = true :=
  ⟨W.regs [(0x2A, 0x040, 0x87847)] W.sta, by decide +kernel, by decide +kernel⟩

theorem test_Unbound :
    ∃ (s : State) (j : Fin 4), flag (s.rg 0x2A (0x070 + 4 * j.val)) 5 = false :=
  ⟨W.sta, 3, by decide +kernel⟩

theorem test_Bound :
    ∃ (s : State) (u : State) (t : State) (j : Fin 4) (b : Byte) (body : List Byte) (tg : Nat), flag (s.rg 0x2A
    (0x070 + 4 * j.val)) 5 = true ∧ qCons (s.qcfg (field (s.rg 0x2A (0x070 + 4 * j.val)) 4 0)) = 6 ∧ qEn (s.qcfg
    (field (s.rg 0x2A (0x070 + 4 * j.val)) 4 0)) = true ∧ field (s.rg 0x2A (0x070 + 4 * j.val)) 4 0 ≠ 0 ∧ s.linkEn =
    true ∧ s.granaryUp = true ∧ s.agentRoom = true ∧ s.ready 0x2A = true ∧ s.unavailable .radio = false ∧ s.pwr.depth
    = .awake ∧ s.gather (field (s.rg 0x2A (0x070 + 4 * j.val)) 4 0) (min 4096 (field (s.rg 0x2A 0x048) 31 24 * 256))
    (s.queue (field (s.rg 0x2A (0x070 + 4 * j.val)) 4 0)).items.length [] = (u, b :: body) ∧ u.agentQueue 7 0x2A 1
    [BitVec.ofNat 32 (field (s.rg 0x2A (0x070 + 4 * j.val)) 31 16), 0, BitVec.ofNat 32 (b :: body).length] = some
    (tg, t) :=
  ⟨W.qb, W.qbGot.1, (W.qbSlot.getD (0, W.run)).2, 3, (W.qbGot.2.headD 0), W.qbGot.2.tail, (W.qbSlot.getD (0,
  W.run)).1, by and_intros <;> decide +kernel⟩

theorem test_Freed :
    ∃ (s : State) (m : Master) (v : Word), s.writeGate m 0x2A 0x060 v = .pass ∧ field v 5 0 < 15 ∧ field v 5 0 <
    field (s.rg 0x2A 0x05C) 11 8 ∧ s.link.bufs.contains (field v 5 0) = true :=
  ⟨W.lk (fun l => { l with bufs := [7] }) W.sta, .core, 7, by and_intros <;> decide +kernel⟩

theorem test_FreeState :
    ∃ (s : State) (m : Master) (v : Word), s.writeGate m 0x2A 0x060 v = .pass ∧ field v 5 0 < 15 ∧ field v 5 0 <
    field (s.rg 0x2A 0x05C) 11 8 ∧ s.link.bufs.contains (field v 5 0) = false :=
  ⟨W.sta, .core, 7, by and_intros <;> decide +kernel⟩

theorem test_FreeArg :
    ∃ (s : State) (m : Master) (v : Word), s.writeGate m 0x2A 0x060 v = .pass ∧ field (s.rg 0x2A 0x05C) 11 8 ≤ field
    v 5 0 :=
  ⟨W.sta, .core, 8, by decide +kernel, by decide +kernel⟩

theorem test_PoolSet :
    ∃ (s : State) (m : Master) (v : Word) (new : Word), new = v &&& 0xF3F ∧ s.writeGate m 0x2A 0x05C v = .pass ∧
    field (s.rg 0x2A 0x05C) 11 8 ≤ field new 11 8 ∧ field new 11 8 + 4 ≤ (s.framesOf 2).length ∧ s.linkFrames + field
    new 11 8 ≤ (s.framesOf 2).length :=
  ⟨W.sta, .core, 0xF20, 0xF20, by and_intros <;> decide +kernel⟩

theorem test_PoolBusy :
    ∃ (s : State) (m : Master) (v : Word) (new : Word), new = v &&& 0xF3F ∧ s.writeGate m 0x2A 0x05C v = .pass ∧ flag
    new 5 = true ∧ flag (s.rg 0x2A 0x05C) 5 = false ∧ (s.framesOf 2).length < field new 11 8 + 4 :=
  ⟨W.sta.setRegion 2 (some { purpose := 2, frames := [144, 145, 146, 147, 148] }), .core, 0x820, 0x820,
  by and_intros <;> decide +kernel⟩

theorem test_PoolState :
    ∃ (s : State) (m : Master) (v : Word) (new : Word), new = v &&& 0xF3F ∧ s.writeGate m 0x2A 0x05C v = .pass ∧
    field new 11 8 < field (s.rg 0x2A 0x05C) 11 8 ∧ flag new 5 = false ∧ field new 11 8 ∈ s.link.bufs :=
  ⟨W.lk (fun l => { l with bufs := [7] }) W.sta, .core, 0x700, 0x700, by and_intros <;> decide +kernel⟩

theorem test_NegotiateBad :
    ∃ (s : State) (tag : Fin 128), s.running tag.val 0x2B 3 = true ∧ s.ready 0x2B = true ∧ s.granaryUp = true ∧ (∀ x,
    x ∈ s.link.msgs → x.kind ≠ .mapset (BitVec.ofNat 7 tag.val)) ∧ ∃ p w, s.peer (field ((s.slot tag.val).arg 0) 7 0)
    = some p ∧ s.gran.ctxBad.find? (fun c => c / 64 == field ((s.slot tag.val).arg 0) 7 0) = some w :=
  ⟨{ (W.op 0x2B 3 [0] W.sta) with gran := { (W.op 0x2B 3 [0] W.sta).gran with ctxBad := [5] } }, 0,
  by decide +kernel, by decide +kernel, by decide +kernel, by decide +kernel, W.pr, 5, by decide +kernel,
  by decide +kernel⟩


end RadioLink


namespace HostPorts

/-- The running device owned by master 1, the host serial port taking frames; in GUARD; and in the daisy chain. -/
def W.hs : State := W.regs [(0x30, 0x008, 1), (0x31, 0x008, 1)] { W.run with own := { W.run.own with owner := some .hspi } }
def W.hsg : State := { W.hs with pwr := { W.hs.pwr with depth := .guard } }
def W.hd : State := { W.hs with hspi := { daisy := true, chain := List.replicate 8 1 } }
def W.noHost : State := W.regs [(0x30, 0x004, 0)] W.hs
def W.fr : HFrame := { cmd := 0x10, addr := 0x50040, bits := 72, undo := [.item 0 {}] }
def W.frame1 (f : HFrame) (s : State) : State := { s with hspi := { frame := some f } }
/-- Queue 0 enabled for the port with items, and CTRL driving. -/
def W.drv (ctrl : Word) : State :=
  (W.regs [(0x30, 0x040, ctrl), (0x30, 0x048, 0x00010200), (0x1B, 0x100, 0x101)] W.hs).putQueue 0 { items := [{}, {}] }
def W.htwd : State := { W.hs with htw := { busy := true } }
def W.w0 (s : State) (rd : Bool) : State := (s.htwEnd.updRg 0x31 0x050 (fun x => wrapField x 15 0 1)).updHtw
      (fun h => { h with coded := false, word := 0, busy := true, rd := rd })
def W.ht : State := { W.hs with own := { W.hs.own with owner := some .htw } }
def W.slotDone : State := (({ W.hd with hspi := { W.hd.hspi with out := W.hd.hspi.chain } } : State).slotAccess 0x20 0x30044 25000).1

theorem test_ShortFrame :
    ∃ (s : State) (addr : BitVec 24) (a : Nat) (bits : Nat) (cmd : BitVec 8), a = addr.toNat ∧ s.framesOn = true ∧
    s.hspi.daisy = false ∧ s.hspi.frame = none ∧ bits < 8 ∧ (cmd = 0x40 ∨ cmd = 0xFF) :=
  ⟨W.hs, 0x30044, 0x30044, 7, 0x40, by and_intros <;> decide +kernel⟩

theorem test_InGuard :
    ∃ (s : State) (addr : BitVec 24) (a : Nat) (bits : Nat), a = addr.toNat ∧ s.framesOn = true ∧ s.hspi.daisy =
    false ∧ s.hspi.frame = none ∧ s.pwr.depth = .guard ∧ 8 ≤ bits :=
  ⟨W.hsg, 0x30044, 0x30044, 8, by and_intros <;> decide +kernel⟩

theorem test_Status :
    ∃ (s : State) (addr : BitVec 24) (a : Nat) (bits : Nat), a = addr.toNat ∧ s.framesOn = true ∧ s.hspi.daisy =
    false ∧ s.hspi.frame = none ∧ s.pwr.depth ≠ .guard ∧ 8 ≤ bits :=
  ⟨W.hs, 0x30044, 0x30044, 24, by and_intros <;> decide +kernel⟩

theorem test_BadCommand :
    ∃ (s : State) (addr : BitVec 24) (a : Nat) (bits : Nat) (cmd : BitVec 8), a = addr.toNat ∧ s.framesOn = true ∧
    s.hspi.daisy = false ∧ s.hspi.frame = none ∧ s.pwr.depth ≠ .guard ∧ 8 ≤ bits ∧ cmd ∉ [0x10, 0x20, 0x30, 0x40] :=
  ⟨W.hs, 0x30044, 0x30044, 8, 0xFF, by and_intros <;> decide +kernel⟩

theorem test_BadAddress :
    ∃ (s : State) (addr : BitVec 24) (a : Nat) (bits : Nat), a = addr.toNat ∧ s.framesOn = true ∧ s.hspi.daisy =
    false ∧ s.hspi.frame = none ∧ s.pwr.depth ≠ .guard ∧ 32 ≤ bits ∧ a % 4 ≠ 0 :=
  ⟨W.hs, 0x30046, 0x30046, 32, by and_intros <;> decide +kernel⟩

theorem test_BadPop :
    ∃ (s : State) (addr : BitVec 24) (a : Nat) (bits : Nat), a = addr.toNat ∧ s.framesOn = true ∧ s.hspi.daisy =
    false ∧ s.hspi.frame = none ∧ s.pwr.depth ≠ .guard ∧ 32 ≤ bits ∧ isPop a = false :=
  ⟨W.hs, 0x30044, 0x30044, 32, by and_intros <;> decide +kernel⟩

theorem test_Reads :
    ∃ (s : State) (addr : BitVec 24) (a : Nat) (bits : Nat) (cmd : BitVec 8), a = addr.toNat ∧ s.framesOn = true ∧
    s.hspi.daisy = false ∧ s.hspi.frame = none ∧ s.pwr.depth ≠ .guard ∧ ∃ s1 f1, ∃ (l : List Byte), ∃ s2 us b, 32 ≤
    bits ∧ a < 0x100000 ∧ a % 4 = 0 ∧ s1.prefetchRun .hspi (decide (72 < bits)) a ((List.range (wordsFetched bits -
    wordsTaken bits)).map (· + wordsTaken bits)) = (s2, us, b) ∧ s.frameReads
    { cmd := 0x10, addr := a, bits := bits } (List.range (wordsTaken bits)) = (s1, f1, l) :=
  ⟨W.hs, 0x30044, 0x30044, 104, 0xFF, by decide +kernel, by decide +kernel, by decide +kernel, by decide +kernel,
  ⟨by decide +kernel, (W.hs.frameReads { cmd := 0x10, addr := 0x30044, bits := 104 } [0, 1]).1, (W.hs.frameReads
  { cmd := 0x10, addr := 0x30044, bits := 104 } [0, 1]).2.1, (W.hs.frameReads
  { cmd := 0x10, addr := 0x30044, bits := 104 } [0, 1]).2.2, ((W.hs.frameReads
  { cmd := 0x10, addr := 0x30044, bits := 104 } [0, 1]).1.prefetchRun .hspi true 0x30044 [2]).1, ((W.hs.frameReads
  { cmd := 0x10, addr := 0x30044, bits := 104 } [0, 1]).1.prefetchRun .hspi true 0x30044 [2]).2.1, ((W.hs.frameReads
  { cmd := 0x10, addr := 0x30044, bits := 104 } [0, 1]).1.prefetchRun .hspi true 0x30044 [2]).2.2,
  by and_intros <;> decide +kernel⟩⟩

theorem test_Pops :
    ∃ (s : State) (addr : BitVec 24) (a : Nat) (bits : Nat) (cmd : BitVec 8), a = addr.toNat ∧ s.framesOn = true ∧
    s.hspi.daisy = false ∧ s.hspi.frame = none ∧ s.pwr.depth ≠ .guard ∧ ∃ s1 f1 l s2 us b, 32 ≤ bits ∧ a < 0x100000 ∧
    a % 4 = 0 ∧ s1.prefetchRun .hspi (decide (72 < bits)) a ((List.range (wordsFetched bits - wordsTaken bits)).map
    (· + wordsTaken bits)) = (s2, us, b) ∧ isPop a = true ∧ s.frameReads { cmd := 0x30, addr := a, bits := bits }
    (List.range (wordsTaken bits)) = (s1, f1, l) :=
  ⟨W.drv 0, 0x50040, 0x50040, 72, 0xFF, by decide +kernel, by decide +kernel, by decide +kernel, by decide +kernel,
  ⟨by decide +kernel, ((W.drv 0).frameReads { cmd := 0x30, addr := 0x50040, bits := 72 } [0]).1, ((W.drv
  0).frameReads { cmd := 0x30, addr := 0x50040, bits := 72 } [0]).2.1, ((W.drv 0).frameReads
  { cmd := 0x30, addr := 0x50040, bits := 72 } [0]).2.2, (((W.drv 0).frameReads
  { cmd := 0x30, addr := 0x50040, bits := 72 } [0]).1.prefetchRun .hspi false 0x50040 [1]).1, (((W.drv 0).frameReads
  { cmd := 0x30, addr := 0x50040, bits := 72 } [0]).1.prefetchRun .hspi false 0x50040 [1]).2.1, (((W.drv
  0).frameReads { cmd := 0x30, addr := 0x50040, bits := 72 } [0]).1.prefetchRun .hspi false 0x50040 [1]).2.2,
  by and_intros <;> decide +kernel⟩⟩

theorem test_ReadsWord :
    ∃ (s : State) (addr : BitVec 24) (a : Nat), a = addr.toNat ∧ s.framesOn = true ∧ s.hspi.daisy = false ∧
    s.hspi.frame = none ∧ s.pwr.depth ≠ .guard ∧ ∃ u w, a < 0x100000 ∧ a % 4 = 0 ∧ s.burstPast false a 0 = false ∧
    s.portRead .hspi (burstAddr a 0) = (u, w, .done) :=
  ⟨W.hs, 0x30044, 0x30044, by decide +kernel, by decide +kernel, by decide +kernel, by decide +kernel,
  ⟨by decide +kernel, (W.hs.portRead .hspi 0x30044).1, (W.hs.portRead .hspi 0x30044).2.1,
  by and_intros <;> decide +kernel⟩⟩

theorem test_WritesWord :
    ∃ (s : State) (addr : BitVec 24) (a : Nat) (v : Word), a = addr.toNat ∧ s.framesOn = true ∧ s.hspi.daisy = false
    ∧ s.hspi.frame = none ∧ s.pwr.depth ≠ .guard ∧ ∃ u, a < 0x100000 ∧ a % 4 = 0 ∧ s.burstPast false a 0 = false ∧
    burstAddr a 0 ≠ 0x30008 ∧ burstAddr a 0 ≠ 0x30040 ∧ s.portWrite .hspi (burstAddr a 0) v = (u, .done) ∧ u.ready
    0x30 = true :=
  ⟨W.hs, 0x30044, 0x30044, 25000, by decide +kernel, by decide +kernel, by decide +kernel, by decide +kernel,
  ⟨by decide +kernel, (W.hs.portWrite .hspi 0x30044 25000).1, by and_intros <;> decide +kernel⟩⟩

theorem test_LateWord :
    ∃ (s : State) (addr : BitVec 24) (a : Nat), a = addr.toNat ∧ s.framesOn = true ∧ s.hspi.daisy = false ∧
    s.hspi.frame = none ∧ s.pwr.depth ≠ .guard ∧ a = 0x30040 :=
  ⟨W.hs, 0x30040, 0x30040, by and_intros <;> decide +kernel⟩

theorem test_OtherCommand :
    ∃ (addr : BitVec 24) (a : Nat) (cmd : BitVec 8), a = addr.toNat ∧ (cmd = 0x10 ∨ cmd = 0x20 ∨ cmd = 0x30) :=
  ⟨0, 0, 0x30, by decide +kernel, by decide +kernel⟩

theorem test_NotReady :
    ∃ (s : State) (addr : BitVec 24) (a : Nat), a = addr.toNat ∧ s.dead = false ∧ s.ready 0x30 = false ∧ s.pwr.vioA =
    true :=
  ⟨W.noHost, 0x30044, 0x30044, by and_intros <;> decide +kernel⟩

theorem test_NoSupply :
    ∃ (s : State) (addr : BitVec 24) (a : Nat), a = addr.toNat ∧ s.pwr.vioA = false :=
  ⟨{ W.hs with pwr := { W.hs.pwr with vioA := false } }, 0x30044, 0x30044, by decide +kernel, by decide +kernel⟩

theorem test_NoFrame :
    ∃ (s : State) (addr : BitVec 24) (a : Nat), a = addr.toNat ∧ s.hspi.frame = none :=
  ⟨W.hs, 0, 0, by decide +kernel, by decide +kernel⟩

theorem test_FrameEnds :
    ∃ (s : State) (addr : BitVec 24) (a : Nat), a = addr.toNat ∧ ∃ (f : HFrame) (g : State), s.hspi.frame = some f ∧
    40 ≤ f.bits ∧ f.late = [] ∧ g = f.undo.foldl State.giveBack s ∧ g.ready 0x30 = true :=
  ⟨W.frame1 W.fr W.hs, 0, 0, by decide +kernel, W.fr, _, by decide +kernel, by decide +kernel, by decide +kernel,
  rfl, by decide +kernel⟩

theorem test_CtrlState :
    ∃ (s : State) (addr : BitVec 24) (a : Nat) (m : Master) (v : Word), a = addr.toNat ∧ s.writeGate m 0x30 0x040 v =
    .pass ∧ flag v 0 = true ∧ (s.hspi.daisy = true ∨ m = .hspi ∨ qEn (s.qcfg (field (s.rg 0x30 0x048) 4 0)) = false ∨
    qCons (s.qcfg (field (s.rg 0x30 0x048) 4 0)) ≠ 1) :=
  ⟨W.hs, 0, 0, .hspi, 1, by and_intros <;> decide +kernel⟩

theorem test_CtrlStored :
    ∃ (s : State) (addr : BitVec 24) (a : Nat) (m : Master) (v : Word), a = addr.toNat ∧ s.writeGate m 0x30 0x040 v =
    .pass ∧ ∃ u, flag v 0 = false ∧ s.plainWrite m 0x30 0x040 v = (u, .done) :=
  ⟨W.hs, 0, 0, .hspi, 6, by decide +kernel, by decide +kernel, (W.hs.plainWrite .hspi 0x30 0x040 6).1,
  by decide +kernel, by decide +kernel⟩

theorem test_NoDrive :
    ∃ (s : State) (addr : BitVec 24) (a : Nat), a = addr.toNat ∧ s.drives = false :=
  ⟨W.hs, 0, 0, by decide +kernel, by decide +kernel⟩

theorem test_HoldsOff :
    ∃ (s : State) (addr : BitVec 24) (a : Nat), a = addr.toNat ∧ ∃ q, q = field (s.rg 0x30 0x048) 4 0 ∧ s.drives =
    true ∧ qEn (s.qcfg q) = true ∧ qCons (s.qcfg q) = 1 ∧ s.granaryUp = true ∧ (s.queue q).items ≠ [] ∧ flag (s.rg
    0x30 0x040) 2 = true :=
  ⟨W.drv 5, 0, 0, by decide +kernel, 0, by and_intros <;> decide +kernel⟩

theorem test_Drives :
    ∃ (s : State) (addr : BitVec 24) (a : Nat), a = addr.toNat ∧ ∃ q u out, q = field (s.rg 0x30 0x048) 4 0 ∧
    s.drives = true ∧ qEn (s.qcfg q) = true ∧ qCons (s.qcfg q) = 1 ∧ s.granaryUp = true ∧ (s.queue q).items ≠ [] ∧
    flag (s.rg 0x30 0x040) 2 = false ∧ s.hspi.burstAt = none ∧ (s.flowHold false).driveItems q (field (s.rg 0x30
    0x048) 15 8) = (u, out) :=
  ⟨W.drv 1, 0, 0, by decide +kernel, 0, (((W.drv 1).flowHold false).driveItems 0 2).1, (((W.drv 1).flowHold
  false).driveItems 0 2).2, by decide +kernel, by decide +kernel, by decide +kernel, by decide +kernel,
  ⟨by decide +kernel, by decide +kernel, by decide +kernel, by decide +kernel, rfl⟩⟩

theorem test_NoChain :
    ∃ (s : State) (addr : BitVec 24) (a : Nat), a = addr.toNat ∧ s.hspi.daisy = false ∧ s.ready 0x30 = true :=
  ⟨W.hs, 0, 0, by and_intros <;> decide +kernel⟩

theorem test_Chain :
    ∃ (s : State) (addr : BitVec 24) (a : Nat), a = addr.toNat ∧ ∃ (l : List Byte) (s1 : State) (u : State) (c :
    Code) (echo : Nat) (w : Word) (b : Nat), s.dead = false ∧ s.ready 0x30 = true ∧ s.pwr.vioA = true ∧ flag (s.rg
    0x30 0x008) 0 = true ∧ s.hspi.daisy = true ∧ s.pwr.depth ≠ .guard ∧ l.length = 8 ∧ s.hspi.chain.length = 8 ∧ b =
    natBE ((l.drop 1).take 3) ∧ s1.ready 0x30 = true ∧ ({ s with hspi := { s.hspi with out := s.hspi.chain } } :
    State).slotAccess (l.getD 0 0).toNat b (BitVec.ofNat 32 (natBE ((l.drop 4).take 4))) = (s1, c, echo, w) ∧ u =
    s1.countFrame (l.getD 0 0).toNat (b / 0x1000 % 256) (c != .done) (if c = .done then none else some (c, 0)) false :=
  ⟨W.hd, 0, 0, by decide +kernel, [0x20, 3, 0, 0x44, 0, 0, 0x61, 0xA8], W.slotDone, _, .done, 0x20, 0, 0x30044,
  by decide +kernel, by decide +kernel, by decide +kernel, by decide +kernel, ⟨by decide +kernel, by decide +kernel,
  by decide +kernel, by decide +kernel, ⟨by decide +kernel, by decide +kernel, by decide +kernel, rfl⟩⟩⟩

theorem test_Deaf :
    ∃ (s : State) (w : State) (r : State) (data : List Byte) (a : Nat), w = (s.htwEnd.updRg 0x31 0x050 (fun x =>
    wrapField x 15 0 1)).updHtw (fun h => { h with coded := false, word := 0, busy := true, rd := false }) ∧ r =
    (s.htwEnd.updRg 0x31 0x050 (fun x => wrapField x 15 0 1)).updHtw (fun h =>
    { h with coded := false, word := 0, busy := true, rd := true }) ∧ a = natBE (data.take 3) ∧ s.htwOn = false :=
  ⟨W.regs [(0x31, 0x008, 0)] W.hs, _, _, [3], 3, rfl, rfl, by decide +kernel, by decide +kernel⟩

theorem test_GuardWrite :
    ∃ (s : State) (w : State) (r : State) (data : List Byte) (a : Nat), w = (s.htwEnd.updRg 0x31 0x050 (fun x =>
    wrapField x 15 0 1)).updHtw (fun h => { h with coded := false, word := 0, busy := true, rd := false }) ∧ r =
    (s.htwEnd.updRg 0x31 0x050 (fun x => wrapField x 15 0 1)).updHtw (fun h =>
    { h with coded := false, word := 0, busy := true, rd := true }) ∧ a = natBE (data.take 3) ∧ s.htwOn = true ∧
    s.pwr.depth = .guard ∧ s.htw.undo = [] :=
  ⟨W.hsg, _, _, [3, 0, 0x44, 1, 2, 3, 4], 0x30044, rfl, rfl, by and_intros <;> decide +kernel⟩

theorem test_ShortWrite :
    ∃ (s : State) (w : State) (r : State) (data : List Byte) (a : Nat), w = (s.htwEnd.updRg 0x31 0x050 (fun x =>
    wrapField x 15 0 1)).updHtw (fun h => { h with coded := false, word := 0, busy := true, rd := false }) ∧ r =
    (s.htwEnd.updRg 0x31 0x050 (fun x => wrapField x 15 0 1)).updHtw (fun h =>
    { h with coded := false, word := 0, busy := true, rd := true }) ∧ a = natBE (data.take 3) ∧ s.htwOn = true ∧
    s.pwr.depth ≠ .guard ∧ data.length < 3 :=
  ⟨W.hs, _, _, [3, 0], 0x300, rfl, rfl, by and_intros <;> decide +kernel⟩

theorem test_BadPointer :
    ∃ (s : State) (w : State) (r : State) (data : List Byte) (a : Nat), w = (s.htwEnd.updRg 0x31 0x050 (fun x =>
    wrapField x 15 0 1)).updHtw (fun h => { h with coded := false, word := 0, busy := true, rd := false }) ∧ r =
    (s.htwEnd.updRg 0x31 0x050 (fun x => wrapField x 15 0 1)).updHtw (fun h =>
    { h with coded := false, word := 0, busy := true, rd := true }) ∧ a = natBE (data.take 3) ∧ s.htwOn = true ∧
    s.pwr.depth ≠ .guard ∧ 3 ≤ data.length ∧ (0x100000 ≤ a ∨ a % 4 ≠ 0) :=
  ⟨W.hs, _, _, [0x10, 0, 0], 0x100000, rfl, rfl, by and_intros <;> decide +kernel⟩

theorem test_WritesWords :
    ∃ (s : State) (w : State) (r : State) (data : List Byte) (a : Nat), w = (s.htwEnd.updRg 0x31 0x050 (fun x =>
    wrapField x 15 0 1)).updHtw (fun h => { h with coded := false, word := 0, busy := true, rd := false }) ∧ r =
    (s.htwEnd.updRg 0x31 0x050 (fun x => wrapField x 15 0 1)).updHtw (fun h =>
    { h with coded := false, word := 0, busy := true, rd := true }) ∧ a = natBE (data.take 3) ∧ s.htwOn = true ∧
    s.pwr.depth ≠ .guard ∧ 3 ≤ data.length ∧ a < 0x100000 ∧ a % 4 = 0 :=
  ⟨W.hs, _, _, [3, 0, 0x44, 0, 0, 0x61, 0xA8], 0x30044, rfl, rfl, by and_intros <;> decide +kernel⟩

theorem test_WordDone :
    ∃ (s : State) (w : State) (r : State) (data : List Byte) (a : Nat), w = (s.htwEnd.updRg 0x31 0x050 (fun x =>
    wrapField x 15 0 1)).updHtw (fun h => { h with coded := false, word := 0, busy := true, rd := false }) ∧ r =
    (s.htwEnd.updRg 0x31 0x050 (fun x => wrapField x 15 0 1)).updHtw (fun h =>
    { h with coded := false, word := 0, busy := true, rd := true }) ∧ a = natBE (data.take 3) ∧ s.htwOn = true ∧
    s.pwr.depth ≠ .guard ∧ ∃ many b0 b1 b2 b3 u, (w.setHtwPtr a).burstPast many a 0 = false ∧ (w.setHtwPtr
    a).portWrite .htw (burstAddr a 0) (BitVec.ofNat 32 (natBE [b0, b1, b2, b3])) = (u, .done) ∧ (u.setHtwPtr (nextPtr
    a 0)).htwOn = true :=
  ⟨W.ht, _, _, [3, 0, 0x44], 0x30044, rfl, rfl, by decide +kernel, by decide +kernel, by decide +kernel, true, 0, 0,
  0x61, 0xA8, ((((W.w0 W.ht false).setHtwPtr 0x30044).portWrite .htw 0x30044 25000).1),
  by and_intros <;> decide +kernel⟩

theorem test_ReadsWords :
    ∃ (s : State) (w : State) (r : State) (data : List Byte) (a : Nat) (n : Nat), w = (s.htwEnd.updRg 0x31 0x050 (fun
    x => wrapField x 15 0 1)).updHtw (fun h => { h with coded := false, word := 0, busy := true, rd := false }) ∧ r =
    (s.htwEnd.updRg 0x31 0x050 (fun x => wrapField x 15 0 1)).updHtw (fun h =>
    { h with coded := false, word := 0, busy := true, rd := true }) ∧ a = natBE (data.take 3) ∧ s.htwOn = true ∧
    s.pwr.depth ≠ .guard ∧ ∃ t l, n % 4 = 0 ∧ 0 < n ∧ r.htwWords (decide (4 < n)) r.htwPtr (List.range (n / 4)) = (t,
    l) :=
  ⟨W.hs, _, _, [], 0, 4, rfl, rfl, by decide +kernel, by decide +kernel, by decide +kernel, ((W.w0 W.hs
  true).htwWords false 0 [0]).1, ((W.w0 W.hs true).htwWords false 0 [0]).2, by decide +kernel, by decide +kernel,
  rfl⟩

theorem test_IdleLine :
    ∃ (s : State) (w : State) (r : State) (data : List Byte) (a : Nat), w = (s.htwEnd.updRg 0x31 0x050 (fun x =>
    wrapField x 15 0 1)).updHtw (fun h => { h with coded := false, word := 0, busy := true, rd := false }) ∧ r =
    (s.htwEnd.updRg 0x31 0x050 (fun x => wrapField x 15 0 1)).updHtw (fun h =>
    { h with coded := false, word := 0, busy := true, rd := true }) ∧ a = natBE (data.take 3) ∧ s.dead = false ∧
    s.htw.busy = true :=
  ⟨W.htwd, _, _, [], 0, rfl, rfl, by and_intros <;> decide +kernel⟩

theorem test_NotBusy :
    ∃ (s : State) (w : State) (r : State) (data : List Byte) (a : Nat), w = (s.htwEnd.updRg 0x31 0x050 (fun x =>
    wrapField x 15 0 1)).updHtw (fun h => { h with coded := false, word := 0, busy := true, rd := false }) ∧ r =
    (s.htwEnd.updRg 0x31 0x050 (fun x => wrapField x 15 0 1)).updHtw (fun h =>
    { h with coded := false, word := 0, busy := true, rd := true }) ∧ a = natBE (data.take 3) ∧ s.htw.busy = false :=
  ⟨W.hs, _, _, [], 0, rfl, rfl, by decide +kernel, by decide +kernel⟩

theorem test_TargetEnds :
    ∃ (s : State) (w : State) (r : State) (data : List Byte) (a : Nat), w = (s.htwEnd.updRg 0x31 0x050 (fun x =>
    wrapField x 15 0 1)).updHtw (fun h => { h with coded := false, word := 0, busy := true, rd := false }) ∧ r =
    (s.htwEnd.updRg 0x31 0x050 (fun x => wrapField x 15 0 1)).updHtw (fun h =>
    { h with coded := false, word := 0, busy := true, rd := true }) ∧ a = natBE (data.take 3) ∧ ∃ (u : Fin 4),
    (s.unit u.val).target = true :=
  ⟨W.hs.putUnit 3 { target := true }, _, _, [], 0, rfl, rfl, by decide +kernel, 3, by decide +kernel⟩

theorem test_TransferEnds :
    ∃ (s : State) (w : State) (r : State) (data : List Byte) (a : Nat), w = (s.htwEnd.updRg 0x31 0x050 (fun x =>
    wrapField x 15 0 1)).updHtw (fun h => { h with coded := false, word := 0, busy := true, rd := false }) ∧ r =
    (s.htwEnd.updRg 0x31 0x050 (fun x => wrapField x 15 0 1)).updHtw (fun h =>
    { h with coded := false, word := 0, busy := true, rd := true }) ∧ a = natBE (data.take 3) ∧ ∃ (u : Fin 4), ∃ x
    rest tag, (s.unit u.val).target = false ∧ (s.unit u.val).queue = x :: rest ∧ x.user = .slot tag ∧ s.running
    tag.toNat 0x32 x.op = true :=
  ⟨(W.op 0x32 1 [] W.hs).putUnit 3 { queue := [{ user := .slot 0, op := 1 }] }, _, _, [], 0, rfl, rfl,
  by decide +kernel, 3, { user := .slot 0, op := 1 }, [], 0, by and_intros <;> decide +kernel⟩


end HostPorts


namespace CribOps

/-- A device in FIELD or another lifecycle state, its Crib holding one key in slot 63, and aperture 0 on a heap region. -/
def W.mem : State := (W.regs [(0x1C, 0x0C0, 0x7F)] W.run).setRegion 63 (some { purpose := 4, frames := [1500, 300] })
def W.fuse (p f d : Bool) (s : State) : State := { s with fuse := { s.fuse with p := p, f := f, d := d } }
def W.root (f : Fuses → Fuses) (s : State) : State := { s with fuse := f s.fuse }
def W.keys (l : List (Nat × KeySlot)) (s : State) : State := { s with crib := { s.crib with keys := l } }
def W.cop (op : Nat) (args : List Word) (s : State) : State := W.op 0x3A op args s
def W.aes : KeySlot := { typ := 1, usage := 0xC7, secret := List.replicate 16 7 }
def W.ecc : KeySlot := { typ := 4, usage := 0x28, secret := bytesBE 32 2, pub := (curveOf false).pub 2 }
def W.pubk : KeySlot := { typ := 6, usage := 0x10, pub := (curveOf false).pub 2 }
def W.field (op : Nat) (args : List Word) : State := W.cop op args (W.keys [(63, W.aes)] (W.fuse true true false W.mem))
def W.one : State := W.keys [(5, W.ecc)] (W.field 0x0A [0x00010705, 0x80000, 0x80000, 0])
def W.peer : State := W.one.winPutBytes 0x80000 ((curveOf false).pub 3)
def W.cfgd (v : Word) (s : State) : State := W.regs [(0x3A, 0x05C, v)] s
def W.trip (s : State) (n : Nat) : State := (s.updRg 0x3A 0x060 (fun w => satField (setFlag w n true) 15 8 1)).faultRec 0x1B 0x3A n
def W.cut : State := { W.cfgd 0x80 W.run with pwr := { W.run.pwr with cut := true } }

theorem test_OpArg :
    ∃ (s : State) (tag : Fin 128) (k : Slot) (op : Nat) (argsOk : State → Slot → Bool), k = s.slot tag.val ∧
    s.running tag.val 0x3A op = true ∧ argsOk s k = false :=
  ⟨W.field 1 [], 0, (W.field 1 []).slot 0, 1, (fun _ _ => false), by and_intros <;> decide +kernel⟩

theorem test_OpNotReady :
    ∃ (s : State) (tag : Fin 128) (k : Slot) (op : Nat) (argsOk : State → Slot → Bool), k = s.slot tag.val ∧
    s.running tag.val 0x3A op = true ∧ argsOk s k = true ∧ s.cribUp = false :=
  ⟨W.regs [(0x3A, 0x004, 0)] (W.field 1 []), 0, (W.field 1 []).slot 0, 1, (fun _ _ => true),
  by and_intros <;> decide +kernel⟩

theorem test_OpInsecure :
    ∃ (s : State) (tag : Fin 128) (k : Slot) (op : Nat) (argsOk : State → Slot → Bool), k = s.slot tag.val ∧
    s.running tag.val 0x3A op = true ∧ argsOk s k = true ∧ s.cribUp = true ∧ k.secure = false ∧ op ≠ 0x07 ∧ op ≠ 0x0B :=
  ⟨(W.field 1 []).putSlot 0 { (W.field 1 []).slot 0 with secure := false }, 0,
  { (W.field 1 []).slot 0 with secure := false }, 1, (fun _ _ => true), by and_intros <;> decide +kernel⟩

theorem test_OpDecommissioned :
    ∃ (s : State) (tag : Fin 128) (k : Slot) (op : Nat) (argsOk : State → Slot → Bool), k = s.slot tag.val ∧
    s.running tag.val 0x3A op = true ∧ argsOk s k = true ∧ s.cribUp = true ∧ k.secure = true ∧ s.lifecycle = 3 ∧ op ∉
    [0x07, 0x0B, 0x0C, 0x0F] :=
  ⟨W.fuse true true true (W.field 1 []), 0, (W.field 1 []).slot 0, 1, (fun _ _ => true),
  by and_intros <;> decide +kernel⟩

theorem test_GenState :
    ∃ (s : State) (tag : Fin 128) (k : Slot) (n : Nat), k = s.slot tag.val ∧ n = field (k.arg 0) 5 0 ∧ s.cribUp =
    true ∧ k.secure = true ∧ s.lifecycle ≠ 3 ∧ s.running tag.val 0x3A 0x01 = true ∧ keyTypeOf (k.arg 0) ∈ [1, 2, 4,
    5] ∧ usageOk (keyTypeOf (k.arg 0)) (keyUsageOf (k.arg 0)) = true ∧ (s.key n).typ ≠ 0 :=
  ⟨W.field 1 [0x00C7013F], 0, (W.field 1 [0x00C7013F]).slot 0, 63, by and_intros <;> decide +kernel⟩

theorem test_Generates :
    ∃ (s : State) (tag : Fin 128) (k : Slot) (n : Nat), k = s.slot tag.val ∧ n = field (k.arg 0) 5 0 ∧ s.cribUp =
    true ∧ k.secure = true ∧ s.lifecycle ≠ 3 ∧ s.running tag.val 0x3A 0x01 = true ∧ keyTypeOf (k.arg 0) ∈ [1, 2, 4,
    5] ∧ usageOk (keyTypeOf (k.arg 0)) (keyUsageOf (k.arg 0)) = true ∧ (s.key n).typ = 0 ∧ (n = 0 → s.lifecycle = 2)
    ∧ keyTypeOf (k.arg 0) ≤ 2 :=
  ⟨W.field 1 [0x01C70200], 0, (W.field 1 [0x01C70200]).slot 0, 0, by and_intros <;> decide +kernel⟩

theorem test_GeneratesAes :
    ∃ (s : State) (tag : Fin 128) (k : Slot) (n : Nat), k = s.slot tag.val ∧ n = field (k.arg 0) 5 0 ∧ s.cribUp =
    true ∧ k.secure = true ∧ s.lifecycle ≠ 3 ∧ s.running tag.val 0x3A 0x01 = true ∧ keyTypeOf (k.arg 0) ∈ [1, 2, 4,
    5] ∧ usageOk (keyTypeOf (k.arg 0)) (keyUsageOf (k.arg 0)) = true ∧ ∃ u l x, (s.key n).typ = 0 ∧ (n = 0 →
    s.lifecycle = 2) ∧ s.newSecret (keyTypeOf (k.arg 0)) = (u, l) ∧ makeKey (keyTypeOf (k.arg 0)) (keyUsageOf (k.arg
    0)) (flag (k.arg 0) 24) 0 l = some x :=
  ⟨W.field 1 [0x01C70200], 0, (W.field 1 [0x01C70200]).slot 0, 0, by decide +kernel, by decide +kernel,
  by decide +kernel, by decide +kernel, ⟨by decide +kernel, by decide +kernel, by decide +kernel, by decide +kernel,
  ((W.field 1 [0x01C70200]).newSecret 2).1, ((W.field 1 [0x01C70200]).newSecret 2).2,
  { typ := 2, usage := 0xC7, persist := true, secret := ((W.field 1 [0x01C70200]).newSecret 2).2 },
  by decide +kernel, by decide +kernel, rfl, rfl⟩⟩

theorem test_ImportRefused :
    ∃ (s : State) (tag : Fin 128) (k : Slot) (n : Nat) (typ : Nat), k = s.slot tag.val ∧ n = field (k.arg 0) 5 0 ∧
    typ = keyTypeOf (k.arg 0) ∧ s.cribUp = true ∧ k.secure = true ∧ s.lifecycle ≠ 3 ∧ s.running tag.val 0x3A 0x02 =
    true ∧ usageOk typ (keyUsageOf (k.arg 0)) = true ∧ field (k.arg 1) 5 0 = 0 ∧ keyLen typ (field (k.arg 3) 9 0) =
    true ∧ s.bytesInside (k.arg 2).toNat (field (k.arg 3) 9 0) = true ∧ n ≠ 0 ∧ (s.key n).typ = 0 ∧ typ ≤ 5 ∧
    s.lifecycle ≠ 1 ∧ flag (s.optWord 16) 1 = true :=
  ⟨{ W.field 2 [0x00C70101, 0, 0x80000, 16] with opt := { shadow := [(16, 2)] } }, 0, (W.field 2 [0x00C70101, 0,
  0x80000, 16]).slot 0, 1, 1, by and_intros <;> decide +kernel⟩

theorem test_Imports :
    ∃ (s : State) (u : State) (tag : Fin 128) (k : Slot) (n : Nat) (typ : Nat) (l : List Byte) (x : KeySlot), k =
    s.slot tag.val ∧ n = field (k.arg 0) 5 0 ∧ typ = keyTypeOf (k.arg 0) ∧ s.cribUp = true ∧ k.secure = true ∧
    s.lifecycle ≠ 3 ∧ s.running tag.val 0x3A 0x02 = true ∧ usageOk typ (keyUsageOf (k.arg 0)) = true ∧ field (k.arg
    1) 5 0 = 0 ∧ keyLen typ (field (k.arg 3) 9 0) = true ∧ s.bytesInside (k.arg 2).toNat (field (k.arg 3) 9 0) = true
    ∧ n ≠ 0 ∧ (s.key n).typ = 0 ∧ ¬(typ ≤ 5 ∧ s.lifecycle ≠ 1 ∧ flag (s.optWord 16) 1 = true) ∧ s.winBytes (k.arg
    2).toNat (field (k.arg 3) 9 0) = (u, .ok l) ∧ makeKey typ (keyUsageOf (k.arg 0)) (flag (k.arg 0) 24) 1 l = some x :=
  ⟨W.field 2 [0x00100606, 0, 0x80000, 64], ((W.field 2 [0x00100606, 0, 0x80000, 64]).winBytes 0x80000 64).1, 0,
  (W.field 2 [0x00100606, 0, 0x80000, 64]).slot 0, 6, 6, List.replicate 64 0, (makeKey 6 0x10 false 1 (List.replicate
  64 0)).getD {}, by and_intros <;> decide +kernel⟩

theorem test_PubState :
    ∃ (s : State) (tag : Fin 128) (k : Slot) (n : Nat), k = s.slot tag.val ∧ n = field (k.arg 0) 5 0 ∧ s.cribUp =
    true ∧ k.secure = true ∧ s.lifecycle ≠ 3 ∧ s.running tag.val 0x3A 0x03 = true ∧ (s.key n).pub = [] :=
  ⟨W.field 3 [63, 0x80000], 0, (W.field 3 [63, 0x80000]).slot 0, 63, by and_intros <;> decide +kernel⟩

theorem test_PubGiven :
    ∃ (s : State) (tag : Fin 128) (k : Slot) (n : Nat), k = s.slot tag.val ∧ n = field (k.arg 0) 5 0 ∧ s.cribUp =
    true ∧ k.secure = true ∧ s.lifecycle ≠ 3 ∧ s.running tag.val 0x3A 0x03 = true ∧ (s.key n).pub ≠ [] ∧
    s.bytesWritable (k.arg 1).toNat (s.key n).pub.length = true :=
  ⟨W.keys [(5, { W.aes with pub := List.replicate 64 9 })] (W.field 3 [5, 0x80000]), 0, (W.field 3 [5, 0x80000]).slot
  0, 5, by and_intros <;> decide +kernel⟩

theorem test_Deletes :
    ∃ (s : State) (tag : Fin 128) (k : Slot) (n : Nat), k = s.slot tag.val ∧ n = field (k.arg 0) 5 0 ∧ s.cribUp =
    true ∧ k.secure = true ∧ s.lifecycle ≠ 3 ∧ s.running tag.val 0x3A 0x04 = true ∧ (n = 0 → s.lifecycle ≤ 1) :=
  ⟨W.field 4 [63], 0, (W.field 4 [63]).slot 0, 63, by and_intros <;> decide +kernel⟩

theorem test_DeleteState :
    ∃ (s : State) (tag : Fin 128) (k : Slot) (n : Nat), k = s.slot tag.val ∧ n = field (k.arg 0) 5 0 ∧ s.cribUp =
    true ∧ k.secure = true ∧ s.lifecycle ≠ 3 ∧ s.running tag.val 0x3A 0x04 = true ∧ n = 0 ∧ 1 < s.lifecycle :=
  ⟨W.field 4 [0], 0, (W.field 4 [0]).slot 0, 0, by and_intros <;> decide +kernel⟩

theorem test_Zeroises :
    ∃ (s : State) (tag : Fin 128) (k : Slot), k = s.slot tag.val ∧ s.cribUp = true ∧ k.secure = true ∧ s.lifecycle ≠
    3 ∧ s.running tag.val 0x3A 0x10 = true ∧ field (k.arg 0) 31 24 = 0x0E :=
  ⟨W.field 0x10 [0x0E000000], 0, (W.field 0x10 [0x0E000000]).slot 0, by and_intros <;> decide +kernel⟩

theorem test_EcdhState :
    ∃ (s : State) (tag : Fin 128) (k : Slot) (n : Nat) (dest : Nat) (typ : Nat), k = s.slot tag.val ∧ n = field
    (k.arg 0) 5 0 ∧ dest = field (k.arg 0) 13 8 ∧ dest ≠ 0 ∧ typ = field (k.arg 0) 19 16 ∧ s.cribUp = true ∧ k.secure
    = true ∧ s.lifecycle ≠ 3 ∧ s.running tag.val 0x3A 0x0A = true ∧ ecdhArgs s k = true ∧ (s.key n).typ = 4 ∧ (s.key
    n).usage.getLsbD 5 = true ∧ (s.key dest).typ ≠ 0 :=
  ⟨W.keys [(5, W.ecc), (7, W.aes)] W.one, 0, W.one.slot 0, 5, 7, 1, by and_intros <;> decide +kernel⟩

theorem test_Ecdh :
    ∃ (s : State) (u : State) (v : State) (tag : Fin 128) (k : Slot) (n : Nat) (dest : Nat) (typ : Nat) (peer : List
    Byte) (info : List Byte) (z : List Byte), k = s.slot tag.val ∧ n = field (k.arg 0) 5 0 ∧ dest = field (k.arg 0)
    13 8 ∧ dest ≠ 0 ∧ typ = field (k.arg 0) 19 16 ∧ s.cribUp = true ∧ k.secure = true ∧ s.lifecycle ≠ 3 ∧ s.running
    tag.val 0x3A 0x0A = true ∧ ecdhArgs s k = true ∧ (s.key n).typ = 4 ∧ (s.key n).usage.getLsbD 5 = true ∧ (s.key
    dest).typ = 0 ∧ s.bytesInside (k.arg 1).toNat 64 = true ∧ s.winBytes (k.arg 1).toNat 64 = (u, .ok peer) ∧
    u.winBytes (k.arg 2).toNat (field (k.arg 3) 7 0) = (v, .ok info) ∧ (curveOf false).ecdh (natBE (s.key n).secret)
    peer = some z :=
  ⟨W.peer, (W.peer.winBytes 0x80000 64).1, ((W.peer.winBytes 0x80000 64).1.winBytes 0x80000 0).1, 0, W.one.slot 0, 5,
  7, 1, (curveOf false).pub 3, [], ((curveOf false).ecdh 2 ((curveOf false).pub 3)).getD [],
  by and_intros <;> decide +kernel⟩

theorem test_CipherSecurity :
    ∃ (s : State) (tag : Fin 128) (k : Slot) (n : Nat) (len : Nat) (dec : Bool), k = s.slot tag.val ∧ n = field
    (k.arg 0) 5 0 ∧ dec = flag (k.arg 0) 11 ∧ len = field (k.arg 3) 16 0 ∧ s.cribUp = true ∧ k.secure = true ∧
    s.lifecycle ≠ 3 ∧ s.running tag.val 0x3A 0x05 = true ∧ cipherArgs s k = true ∧ s.aesKey n (if dec then 1 else 0)
    = none :=
  ⟨W.field 5 [0, 0x80000, 0x80100, 16, 0, 0, 0], 0, (W.field 5 [0, 0x80000, 0x80100, 16, 0, 0, 0]).slot 0, 0, 16,
  false, by and_intros <;> decide +kernel⟩

theorem test_Encrypts :
    ∃ (s : State) (t : State) (v : State) (w : State) (tag : Fin 128) (k : Slot) (n : Nat) (len : Nat) (key : List
    Byte) (iv : List Byte) (aad : List Byte) (l : List Byte) (dec : Bool), k = s.slot tag.val ∧ n = field (k.arg 0) 5
    0 ∧ dec = flag (k.arg 0) 11 ∧ len = field (k.arg 3) 16 0 ∧ s.cribUp = true ∧ k.secure = true ∧ s.lifecycle ≠ 3 ∧
    s.running tag.val 0x3A 0x05 = true ∧ cipherArgs s k = true ∧ s.aesKey n (if dec then 1 else 0) = some key ∧
    s.winBytes (k.arg 1).toNat (if dec then len + (cipherLens k).1 else len) = (t, .ok l) ∧ t.winBytes (k.arg
    4).toNat (cipherLens k).2.1 = (v, .ok iv) ∧ v.winBytes (k.arg 5).toNat (cipherLens k).2.2 = (w, .ok aad) ∧ dec =
    false :=
  ⟨W.field 5 [63, 0x80000, 0x80100, 16, 0, 0, 0], ((W.field 5 [63, 0x80000, 0x80100, 16, 0, 0, 0]).winBytes 0x80000
  16).1, ((W.field 5 [63, 0x80000, 0x80100, 16, 0, 0, 0]).winBytes 0x80000 16).1, ((W.field 5 [63, 0x80000, 0x80100,
  16, 0, 0, 0]).winBytes 0x80000 16).1, 0, (W.field 5 [63, 0x80000, 0x80100, 16, 0, 0, 0]).slot 0, 63, 16,
  W.aes.secret, [], [], List.replicate 16 0, false, by and_intros <;> decide +kernel⟩

theorem test_TagFails :
    ∃ (s : State) (t : State) (v : State) (w : State) (tag : Fin 128) (k : Slot) (n : Nat) (len : Nat) (key : List
    Byte) (iv : List Byte) (aad : List Byte) (l : List Byte) (dec : Bool), k = s.slot tag.val ∧ n = field (k.arg 0) 5
    0 ∧ dec = flag (k.arg 0) 11 ∧ len = field (k.arg 3) 16 0 ∧ s.cribUp = true ∧ k.secure = true ∧ s.lifecycle ≠ 3 ∧
    s.running tag.val 0x3A 0x05 = true ∧ cipherArgs s k = true ∧ s.aesKey n (if dec then 1 else 0) = some key ∧
    s.winBytes (k.arg 1).toNat (if dec then len + (cipherLens k).1 else len) = (t, .ok l) ∧ t.winBytes (k.arg
    4).toNat (cipherLens k).2.1 = (v, .ok iv) ∧ v.winBytes (k.arg 5).toNat (cipherLens k).2.2 = (w, .ok aad) ∧ dec =
    true ∧ 0 < (cipherLens k).1 ∧ (cipherRun (field (k.arg 0) 10 8) true key iv aad (l.take len) (cipherLens k).1).2
    ≠ l.drop len :=
  ⟨W.field 5 [0x2B3F, 0x80000, 0x80100, 4, 0x80200, 0, 0], ((W.field 5 [0x2B3F, 0x80000, 0x80100, 4, 0x80200, 0,
  0]).winBytes 0x80000 8).1, (((W.field 5 [0x2B3F, 0x80000, 0x80100, 4, 0x80200, 0, 0]).winBytes 0x80000
  8).1.winBytes 0x80200 12).1, (((W.field 5 [0x2B3F, 0x80000, 0x80100, 4, 0x80200, 0, 0]).winBytes 0x80000
  8).1.winBytes 0x80200 12).1, 0, (W.field 5 [0x2B3F, 0x80000, 0x80100, 4, 0x80200, 0, 0]).slot 0, 63, 4,
  W.aes.secret, List.replicate 12 0, [], List.replicate 8 0, true, by and_intros <;> decide +kernel⟩

theorem test_Decrypts :
    ∃ (s : State) (t : State) (v : State) (w : State) (tag : Fin 128) (k : Slot) (n : Nat) (len : Nat) (key : List
    Byte) (iv : List Byte) (aad : List Byte) (l : List Byte) (dec : Bool), k = s.slot tag.val ∧ n = field (k.arg 0) 5
    0 ∧ dec = flag (k.arg 0) 11 ∧ len = field (k.arg 3) 16 0 ∧ s.cribUp = true ∧ k.secure = true ∧ s.lifecycle ≠ 3 ∧
    s.running tag.val 0x3A 0x05 = true ∧ cipherArgs s k = true ∧ s.aesKey n (if dec then 1 else 0) = some key ∧
    s.winBytes (k.arg 1).toNat (if dec then len + (cipherLens k).1 else len) = (t, .ok l) ∧ t.winBytes (k.arg
    4).toNat (cipherLens k).2.1 = (v, .ok iv) ∧ v.winBytes (k.arg 5).toNat (cipherLens k).2.2 = (w, .ok aad) ∧ dec =
    true ∧ (cipherLens k).1 = 0 :=
  ⟨W.field 5 [0x083F, 0x80000, 0x80100, 16, 0, 0, 0], ((W.field 5 [0x083F, 0x80000, 0x80100, 16, 0, 0, 0]).winBytes
  0x80000 16).1, ((W.field 5 [0x083F, 0x80000, 0x80100, 16, 0, 0, 0]).winBytes 0x80000 16).1, ((W.field 5 [0x083F,
  0x80000, 0x80100, 16, 0, 0, 0]).winBytes 0x80000 16).1, 0, (W.field 5 [0x083F, 0x80000, 0x80100, 16, 0, 0, 0]).slot
  0, 63, 16, W.aes.secret, [], [], List.replicate 16 0, true, by and_intros <;> decide +kernel⟩

theorem test_Maced :
    ∃ (s : State) (u : State) (tag : Fin 128) (k : Slot) (n : Nat) (len : Nat) (mac : List Byte) (l : List Byte), k =
    s.slot tag.val ∧ n = field (k.arg 0) 5 0 ∧ len = field (k.arg 0) 21 16 ∧ s.cribUp = true ∧ k.secure = true ∧
    s.lifecycle ≠ 3 ∧ s.running tag.val 0x3A 0x06 = true ∧ macArgs s k = true ∧ s.winBytes (k.arg 1).toNat (field
    (k.arg 2) 16 0) = (u, .ok l) ∧ u.macOf n (field (k.arg 0) 9 8) l = some mac ∧ flag (k.arg 0) 11 = false :=
  ⟨W.field 6 [0x0010003F, 0x80000, 0, 0x80100], ((W.field 6 [0x0010003F, 0x80000, 0, 0x80100]).winBytes 0x80000 0).1,
  0, (W.field 6 [0x0010003F, 0x80000, 0, 0x80100]).slot 0, 63, 16, aesCmac W.aes.secret [], [],
  by and_intros <;> decide +kernel⟩

theorem test_MacChecked :
    ∃ (s : State) (u : State) (tag : Fin 128) (k : Slot) (n : Nat) (len : Nat) (mac : List Byte) (l : List Byte), k =
    s.slot tag.val ∧ n = field (k.arg 0) 5 0 ∧ len = field (k.arg 0) 21 16 ∧ s.cribUp = true ∧ k.secure = true ∧
    s.lifecycle ≠ 3 ∧ s.running tag.val 0x3A 0x06 = true ∧ macArgs s k = true ∧ s.winBytes (k.arg 1).toNat (field
    (k.arg 2) 16 0) = (u, .ok l) ∧ u.macOf n (field (k.arg 0) 9 8) l = some mac ∧ ∃ v want, flag (k.arg 0) 11 = true
    ∧ u.winBytes (k.arg 3).toNat len = (v, .ok want) :=
  ⟨W.field 6 [0x0004083F, 0x80000, 0, 0x80100], ((W.field 6 [0x0004083F, 0x80000, 0, 0x80100]).winBytes 0x80000 0).1,
  0, (W.field 6 [0x0004083F, 0x80000, 0, 0x80100]).slot 0, 63, 4, aesCmac W.aes.secret [], [], by decide +kernel,
  by decide +kernel, by decide +kernel, by decide +kernel, ⟨by decide +kernel, by decide +kernel, by decide +kernel,
  by decide +kernel, ⟨by decide +kernel, by decide +kernel, ((W.field 6 [0x0004083F, 0x80000, 0, 0x80100]).winBytes
  0x80100 4).1, List.replicate 4 0, by decide +kernel, by decide +kernel⟩⟩⟩

theorem test_Signs :
    ∃ (s : State) (u : State) (v : State) (tag : Fin 128) (k : Slot) (n : Nat) (b : List Byte) (l : List Byte), k =
    s.slot tag.val ∧ n = field (k.arg 0) 5 0 ∧ s.cribUp = true ∧ k.secure = true ∧ s.lifecycle ≠ 3 ∧ s.running
    tag.val 0x3A 0x08 = true ∧ (s.key n).typ = 4 ∧ (s.key n).usage.getLsbD 3 = true ∧ s.bytesInside (k.arg 1).toNat
    32 = true ∧ s.bytesWritable (k.arg 2).toNat 64 = true ∧ s.winBytes (k.arg 1).toNat 32 = (u, .ok l) ∧ u.drbgBytes
    32 = (v, b) :=
  ⟨W.keys [(5, W.ecc)] (W.field 8 [5, 0x80000, 0x80100]), ((W.keys [(5, W.ecc)] (W.field 8 [5, 0x80000,
  0x80100])).winBytes 0x80000 32).1, (((W.keys [(5, W.ecc)] (W.field 8 [5, 0x80000, 0x80100])).winBytes 0x80000
  32).1.drbgBytes 32).1, 0, (W.field 8 [5, 0x80000, 0x80100]).slot 0, 5, (((W.keys [(5, W.ecc)] (W.field 8 [5,
  0x80000, 0x80100])).winBytes 0x80000 32).1.drbgBytes 32).2, List.replicate 32 0, by decide +kernel,
  by decide +kernel, by decide +kernel, by decide +kernel, ⟨by decide +kernel, by decide +kernel, by decide +kernel,
  by decide +kernel, ⟨by decide +kernel, by decide +kernel, by decide +kernel, rfl⟩⟩⟩

theorem test_SignSecurity :
    ∃ (s : State) (tag : Fin 128) (k : Slot) (n : Nat), k = s.slot tag.val ∧ n = field (k.arg 0) 5 0 ∧ s.cribUp =
    true ∧ k.secure = true ∧ s.lifecycle ≠ 3 ∧ s.running tag.val 0x3A 0x08 = true ∧ (s.key n).typ ≠ 4 ∧ (s.key n).typ
    ≠ 5 :=
  ⟨W.field 8 [63, 0x80000, 0x80100], 0, (W.field 8 [63, 0x80000, 0x80100]).slot 0, 63,
  by and_intros <;> decide +kernel⟩

theorem test_Verifies :
    ∃ (s : State) (u : State) (v : State) (tag : Fin 128) (k : Slot) (n : Nat) (sig : List Byte) (l : List Byte), k =
    s.slot tag.val ∧ n = field (k.arg 0) 5 0 ∧ s.cribUp = true ∧ k.secure = true ∧ s.lifecycle ≠ 3 ∧ s.running
    tag.val 0x3A 0x09 = true ∧ flag (k.arg 0) 8 = false ∧ (s.key n).typ = 6 ∧ (s.key n).usage.getLsbD 4 = true ∧
    s.bytesInside (k.arg 1).toNat 32 = true ∧ s.bytesInside (k.arg 2).toNat 64 = true ∧ s.winBytes (k.arg 1).toNat 32
    = (u, .ok l) ∧ u.winBytes (k.arg 2).toNat 64 = (v, .ok sig) :=
  ⟨W.keys [(5, W.pubk)] (W.field 9 [5, 0x80000, 0x80100, 0]), ((W.keys [(5, W.pubk)] (W.field 9 [5, 0x80000, 0x80100,
  0])).winBytes 0x80000 32).1, (((W.keys [(5, W.pubk)] (W.field 9 [5, 0x80000, 0x80100, 0])).winBytes 0x80000
  32).1.winBytes 0x80100 64).1, 0, (W.field 9 [5, 0x80000, 0x80100, 0]).slot 0, 5, List.replicate 64 0,
  List.replicate 32 0, by and_intros <;> decide +kernel⟩

theorem test_Reseeds :
    ∃ (s : State) (tag : Fin 128) (k : Slot), k = s.slot tag.val ∧ s.cribUp = true ∧ k.secure = true ∧ s.lifecycle ≠
    3 ∧ s.running tag.val 0x3A 0x11 = true :=
  ⟨W.field 0x11 [], 0, (W.field 0x11 []).slot 0, by and_intros <;> decide +kernel⟩

theorem test_Hashes :
    ∃ (s : State) (u : State) (tag : Fin 128) (k : Slot) (l : List Byte), k = s.slot tag.val ∧ s.cribUp = true ∧
    s.running tag.val 0x3A 0x07 = true ∧ hashArgs s k = true ∧ flag (k.arg 0) 8 = false ∧ s.winBytes (k.arg 1).toNat
    (field (k.arg 2) 23 0) = (u, .ok l) :=
  ⟨W.field 7 [0, 0x80000, 0, 0x80100], ((W.field 7 [0, 0x80000, 0, 0x80100]).winBytes 0x80000 0).1, 0, (W.field 7 [0,
  0x80000, 0, 0x80100]).slot 0, [], by and_intros <;> decide +kernel⟩

theorem test_Random :
    ∃ (s : State) (tag : Fin 128) (k : Slot) (u : State) (l : List Byte), k = s.slot tag.val ∧ s.cribUp = true ∧
    s.running tag.val 0x3A 0x0B = true ∧ 1 ≤ field (k.arg 1) 16 0 ∧ field (k.arg 1) 16 0 ≤ 65536 ∧ s.bytesWritable
    (k.arg 0).toNat (field (k.arg 1) 16 0) = true ∧ flag (k.arg 2) 0 = false ∧ s.drbgBytes (field (k.arg 1) 16 0) =
    (u, l) :=
  ⟨W.field 0x0B [0x80000, 1, 0], 0, (W.field 0x0B [0x80000, 1, 0]).slot 0, ((W.field 0x0B [0x80000, 1, 0]).drbgBytes
  1).1, ((W.field 0x0B [0x80000, 1, 0]).drbgBytes 1).2, by decide +kernel, by decide +kernel, by decide +kernel,
  by decide +kernel, ⟨by decide +kernel, by decide +kernel, by decide +kernel, rfl⟩⟩

theorem test_Tested :
    ∃ (s : State) (tag : Fin 128) (k : Slot), k = s.slot tag.val ∧ s.cribUp = true ∧ k.secure = true ∧ s.running
    tag.val 0x3A 0x0F = true :=
  ⟨W.field 0x0F [], 0, (W.field 0x0F []).slot 0, by and_intros <;> decide +kernel⟩

theorem test_TestFailed :
    ∃ (s : State) (tag : Fin 128) (k : Slot), k = s.slot tag.val ∧ s.cribUp = true ∧ k.secure = true ∧ s.running
    tag.val 0x3A 0x0F = true :=
  ⟨W.field 0x0F [], 0, (W.field 0x0F []).slot 0, by and_intros <;> decide +kernel⟩

theorem test_ToField :
    ∃ (s : State) (tag : Fin 128) (k : Slot), k = s.slot tag.val ∧ s.cribUp = true ∧ k.secure = true ∧ s.running
    tag.val 0x3A 0x0C = true ∧ field (k.arg 0) 31 24 = 0xE1 ∧ field (k.arg 0) 1 0 = 2 ∧ s.lifecycle = 1 ∧
    s.fuse.root0.isSome = true ∧ s.fuse.revoked0 = false ∧ (s.key 0).typ ≠ 0 :=
  ⟨W.root (fun f => { f with root0 := some [1] }) (W.keys [(0, W.ecc)] (W.fuse true false false (W.field 0x0C
  [0xE1000002]))), 0, (W.field 0x0C [0xE1000002]).slot 0, by and_intros <;> decide +kernel⟩

theorem test_Decommissions :
    ∃ (s : State) (tag : Fin 128) (k : Slot), k = s.slot tag.val ∧ s.cribUp = true ∧ k.secure = true ∧ s.running
    tag.val 0x3A 0x0C = true ∧ field (k.arg 0) 31 24 = 0xE1 ∧ field (k.arg 0) 1 0 = 3 ∧ s.lifecycle ≠ 3 :=
  ⟨W.field 0x0C [0xE1000003], 0, (W.field 0x0C [0xE1000003]).slot 0, by and_intros <;> decide +kernel⟩

theorem test_NoStep :
    ∃ (s : State) (tag : Fin 128) (k : Slot), k = s.slot tag.val ∧ s.cribUp = true ∧ k.secure = true ∧ s.running
    tag.val 0x3A 0x0C = true ∧ field (k.arg 0) 31 24 = 0xE1 ∧ (field (k.arg 0) 1 0 = 0 ∨ (field (k.arg 0) 1 0 = 1 ∧
    s.lifecycle ≠ 0) ∨ (field (k.arg 0) 1 0 = 2 ∧ s.lifecycle ≠ 1) ∨ (field (k.arg 0) 1 0 = 3 ∧ s.lifecycle = 3)) :=
  ⟨W.field 0x0C [0xE1000001], 0, (W.field 0x0C [0xE1000001]).slot 0, by and_intros <;> decide +kernel⟩

theorem test_RootSet :
    ∃ (s : State) (u : State) (tag : Fin 128) (k : Slot) (l : List Byte), k = s.slot tag.val ∧ s.cribUp = true ∧
    k.secure = true ∧ s.running tag.val 0x3A 0x0D = true ∧ s.lifecycle ≤ 1 ∧ flag (k.arg 0) 8 = false ∧ field (k.arg
    0) 0 0 = 0 ∧ s.bytesInside (k.arg 1).toNat 48 = true ∧ s.winBytes (k.arg 1).toNat 48 = (u, .ok l) ∧ s.fuse.root0
    = none :=
  ⟨W.fuse true false false (W.field 0x0D [0, 0x80000]), ((W.fuse true false false (W.field 0x0D [0,
  0x80000])).winBytes 0x80000 48).1, 0, (W.field 0x0D [0, 0x80000]).slot 0, List.replicate 48 0,
  by and_intros <;> decide +kernel⟩

theorem test_RootState :
    ∃ (s : State) (tag : Fin 128) (k : Slot), k = s.slot tag.val ∧ s.cribUp = true ∧ k.secure = true ∧ s.running
    tag.val 0x3A 0x0D = true ∧ s.lifecycle ≤ 1 ∧ flag (k.arg 0) 8 = false ∧ field (k.arg 0) 0 0 = 0 ∧ s.bytesInside
    (k.arg 1).toNat 48 = true ∧ s.fuse.root0.isSome = true :=
  ⟨W.root (fun f => { f with root0 := some [1] }) (W.fuse true false false (W.field 0x0D [0, 0x80000])), 0, (W.field
  0x0D [0, 0x80000]).slot 0, by and_intros <;> decide +kernel⟩

theorem test_Revokes :
    ∃ (s : State) (tag : Fin 128) (k : Slot), k = s.slot tag.val ∧ s.cribUp = true ∧ k.secure = true ∧ s.running
    tag.val 0x3A 0x0D = true ∧ s.lifecycle ≤ 1 ∧ flag (k.arg 0) 8 = true ∧ field (k.arg 0) 0 0 = 0 ∧
    s.fuse.root0.isSome = true ∧ s.fuse.revoked0 = false ∧ s.fuse.root1.isSome = true ∧ s.fuse.revoked1 = false :=
  ⟨W.root (fun f => { f with root0 := some [1], root1 := some [2] }) (W.fuse true false false (W.field 0x0D [0x100,
  0])), 0, (W.field 0x0D [0x100, 0]).slot 0, by and_intros <;> decide +kernel⟩

theorem test_RevokeState :
    ∃ (s : State) (tag : Fin 128) (k : Slot), k = s.slot tag.val ∧ s.cribUp = true ∧ k.secure = true ∧ s.running
    tag.val 0x3A 0x0D = true ∧ s.lifecycle ≤ 1 ∧ flag (k.arg 0) 8 = true ∧ field (k.arg 0) 0 0 = 0 ∧
    s.fuse.root0.isSome = true ∧ s.fuse.revoked0 = false ∧ s.fuse.root1 = none :=
  ⟨W.root (fun f => { f with root0 := some [1] }) (W.fuse true false false (W.field 0x0D [0x100, 0])), 0, (W.field
  0x0D [0x100, 0]).slot 0, by and_intros <;> decide +kernel⟩

theorem test_DebugClosed :
    ∃ (s : State) (tag : Fin 128) (k : Slot), k = s.slot tag.val ∧ s.cribUp = true ∧ k.secure = true ∧ s.lifecycle ≠
    3 ∧ s.running tag.val 0x3A 0x0E = true ∧ field (k.arg 0) 31 24 = 0xDC :=
  ⟨{ W.field 0x0E [0xDC000000] with own := { W.run.own with owner := some .debug } }, 0, (W.field 0x0E
  [0xDC000000]).slot 0, by and_intros <;> decide +kernel⟩

theorem test_HealthFails :
    ∃ (s : State), s.unavailable .crib = false ∧ s.dead = false :=
  ⟨W.run, by decide +kernel, by decide +kernel⟩

theorem test_HealthCut :
    ∃ (s : State), (s.unavailable .crib = true ∨ s.dead = true) :=
  ⟨W.cut, by decide +kernel⟩

theorem test_CfgLocked :
    ∃ (s : State) (m : Master) (v : Word), s.writeGate m 0x3A 0x05C v = .pass ∧ flag (s.rg 0x3A 0x05C) 31 = true :=
  ⟨W.cfgd 0x80000000 W.run, .core, 0, by decide +kernel, by decide +kernel⟩

theorem test_CfgSet :
    ∃ (s : State) (m : Master) (v : Word), s.writeGate m 0x3A 0x05C v = .pass ∧ flag (s.rg 0x3A 0x05C) 31 = false :=
  ⟨W.run, .core, 0x80000015, by decide +kernel, by decide +kernel⟩

theorem test_NotArmed :
    ∃ (s : State) (u : State) (n : Fin 4) (how : Nat), how = field (s.rg 0x3A 0x05C) (2 * n.val + 1) (2 * n.val) ∧ u
    = (s.updRg 0x3A 0x060 (fun w => satField (setFlag w n.val true) 15 8 1)).faultRec 0x1B 0x3A n.val ∧ s.tamperArmed
    n.val = false :=
  ⟨{ W.run with pwr := { W.run.pwr with depth := .guard } }, _, 1, 1, by decide +kernel, rfl, by decide +kernel⟩

theorem test_Logged :
    ∃ (s : State) (u : State) (n : Fin 4) (how : Nat), how = field (s.rg 0x3A 0x05C) (2 * n.val + 1) (2 * n.val) ∧ u
    = (s.updRg 0x3A 0x060 (fun w => satField (setFlag w n.val true) 15 8 1)).faultRec 0x1B 0x3A n.val ∧ s.tamperArmed
    n.val = true ∧ how = 0 :=
  ⟨W.cfgd 0 W.run, _, 3, 0, by decide +kernel, rfl, by decide +kernel, by decide +kernel⟩

theorem test_Tripped :
    ∃ (s : State) (u : State) (n : Fin 4) (how : Nat), how = field (s.rg 0x3A 0x05C) (2 * n.val + 1) (2 * n.val) ∧ u
    = (s.updRg 0x3A 0x060 (fun w => satField (setFlag w n.val true) 15 8 1)).faultRec 0x1B 0x3A n.val ∧ s.tamperArmed
    n.val = true ∧ how ≠ 0 ∧ u.unavailable .crib = false :=
  ⟨W.cfgd 0x80 W.run, _, 3, 2, by decide +kernel, rfl, by and_intros <;> decide +kernel⟩

theorem test_TrippedCut :
    ∃ (s : State) (u : State) (n : Fin 4) (how : Nat), how = field (s.rg 0x3A 0x05C) (2 * n.val + 1) (2 * n.val) ∧ u
    = (s.updRg 0x3A 0x060 (fun w => satField (setFlag w n.val true) 15 8 1)).faultRec 0x1B 0x3A n.val ∧ s.tamperArmed
    n.val = true ∧ how ≠ 0 ∧ u.unavailable .crib = true :=
  ⟨W.cut, _, 3, 2, by decide +kernel, rfl, by and_intros <;> decide +kernel⟩


end CribOps


namespace ManageImage

/-- Station 5 with station 9 its management peer in context 0, keys in slots 3 and 4; an envelope of station 9. -/
def W.ck : List Byte := List.replicate 16 7
def W.lk (f : Link → Link) (s : State) : State := { s with link := f s.link }
def W.sta : State :=
  W.lk (fun l => { l with peers := [(0, some { station := 9, key := 3, mgmt := true })], parent := some 0, heard := true }) {
    W.regs [(0x2A, 0x008, 1), (0x2A, 0x06C, 0x403)] W.run with
    opt := { loaded := true, live := [(9, 4), (11, 5)], shadow := [(16, 4)] }
    crib := { keys := [(3, { typ := 1, usage := 0x80, secret := W.ck }), (4, { typ := 1, usage := 0x80, secret := W.ck })] } }
def W.in_ (b : List Byte) (s : State) : State := W.lk (fun l => { l with mgmtIn := [{ orig := 9, body := b }] }) s
def W.out (s : State) : State := s.updLink (fun l => { l with mgmtIn := [] })
def W.sess (s : State) : State := W.lk (fun l => { l with mgmt := some { dnonce := 77, mctr := 6 } }) s
def W.noRight (s : State) : State := { s with opt := { s.opt with shadow := [] } }
def W.envOf (b : List Byte) : Envelope := (envelopeOf b).getD {}
/-- Envelopes of station 9 under the link key: OPEN; REQUEST of a read of OWN.OWNER with MCTR 7 and 6; CLOSE. -/
def W.open1 : List Byte :=
  [1, 0, 0, 0, 0, 0, 0, 0, 0, 0, 67, 215, 157, 228, 33, 14, 47, 154, 52, 124, 85, 63, 106, 129, 248, 182]
def W.req7 : List Byte :=
  [2, 1, 7, 0, 0, 0, 77, 0, 0, 0, 17, 47, 215, 86, 161, 175, 134, 213, 234, 245, 114, 128, 87, 192, 141, 217, 119,
    212, 36, 6, 224, 79, 70, 63]
def W.req6 : List Byte :=
  [2, 1, 6, 0, 0, 0, 77, 0, 0, 0, 32, 1, 184, 237, 158, 14, 199, 212, 106, 230, 45, 109, 16, 18, 15, 177, 2, 174, 37,
    119, 107, 217, 44, 143]
def W.clo : List Byte :=
  [3, 0, 9, 0, 0, 0, 77, 0, 0, 0, 201, 229, 112, 179, 167, 33, 73, 60, 194, 123, 162, 41, 151, 252, 252, 251]
def W.reqd : State :=
  (W.out (W.in_ W.req7 (W.sess W.sta))).updLink (fun k => { k with mgmt := some { dnonce := 77, mctr := 7, last := W.sta.now } })
/-- A verified image with an end record in the last sector, and the device that is to load it. -/
def W.body : List Byte := bytesLE 4 0xF0000000
/-- SHA-384 of the body. -/
def W.digest : List Byte :=
  [214, 66, 154, 126, 143, 126, 159, 86, 82, 163, 188, 165, 207, 127, 174, 149, 161, 211, 83, 243, 236, 164, 17, 6, 218,
    88, 253, 136, 13, 141, 14, 208, 138, 19, 170, 233, 139, 31, 212, 79, 116, 55, 246, 60, 111, 54, 81, 173]
def W.hdr : List Byte :=
  bytesLE 4 0x9640C0DE ++ bytesLE 4 2 ++ List.replicate 4 0 ++ bytesLE 4 4 ++ List.replicate 56 0 ++ W.digest ++
    List.replicate 392 0
def W.img (base : Word) (s : State) : State := { s with opt := { s.opt with shadow := [(2, base)] } }
def W.cells : List Host.Cell :=
  (W.hdr ++ W.body).zipIdx.map (fun (b, i) => (0xFFC000 + i, b))
def W.image : State := W.img 0xFFC000 { W.run with flash := { cells := W.cells } }
def W.loaded (l : Loader) (s : State) : State := { s with crib := { s.crib with loader := some l } }
def W.ldr : Loader := { base := 0xFFC000, next := 512, stop := 516, record := 3 }
def W.busyBank3 (s : State) : State := { s with flash := { s.flash with run := some { erase := true, codeword := 524287 / 512 * 512, count := 512 } } }

theorem test_NoEnvelope :
    ∃ (s : State) (u : State) (rest : List MgmtMsg), u = s.updLink (fun l => { l with mgmtIn := rest }) ∧
    s.link.mgmtIn = [] :=
  ⟨W.run, _, [], rfl, by decide +kernel⟩

theorem test_EnvelopeWaits :
    ∃ (s : State) (u : State) (g : MgmtMsg) (rest : List MgmtMsg), u = s.updLink (fun l => { l with mgmtIn := rest })
    ∧ s.link.mgmtIn = g :: rest ∧ (s.ready 0x2A = false ∨ s.cribFree = false ∨ s.agentRoom = false) :=
  ⟨W.in_ W.open1 (W.regs [(0x3A, 0x004, 0)] W.sta), _, { orig := 9, body := W.open1 }, [], rfl, by decide +kernel,
  by decide +kernel⟩

theorem test_NoEnvelopeForm :
    ∃ (s : State) (u : State) (g : MgmtMsg) (rest : List MgmtMsg), u = s.updLink (fun l => { l with mgmtIn := rest })
    ∧ s.link.mgmtIn = g :: rest ∧ s.dead = false ∧ s.ready 0x2A = true ∧ s.cribFree = true ∧ s.agentRoom = true ∧
    s.nextFree.isSome = true ∧ (u.peerOf g.orig = none ∨ envelopeOf g.body = none) :=
  ⟨W.in_ [1] W.sta, _, { orig := 9, body := [1] }, [], rfl, by and_intros <;> decide +kernel⟩

theorem test_EnvelopeForged :
    ∃ (s : State) (u : State) (g : MgmtMsg) (rest : List MgmtMsg) (n : Nat) (e : Envelope), u = s.updLink (fun l =>
    { l with mgmtIn := rest }) ∧ s.link.mgmtIn = g :: rest ∧ s.dead = false ∧ s.ready 0x2A = true ∧ s.cribFree = true
    ∧ s.agentRoom = true ∧ s.nextFree.isSome = true ∧ u.peerOf g.orig = some n ∧ envelopeOf g.body = some e ∧
    u.openEnvelope g.orig e = none :=
  ⟨W.in_ (W.open1.take 25 ++ [0]) W.sta, _, { orig := 9, body := W.open1.take 25 ++ [0] }, [], 0, W.envOf
  (W.open1.take 25 ++ [0]), rfl, by and_intros <;> decide +kernel⟩

theorem test_NoRight :
    ∃ (s : State) (u : State) (g : MgmtMsg) (rest : List MgmtMsg) (n : Nat) (e : Envelope) (pt : List Byte), u =
    s.updLink (fun l => { l with mgmtIn := rest }) ∧ s.link.mgmtIn = g :: rest ∧ s.dead = false ∧ s.ready 0x2A = true
    ∧ s.cribFree = true ∧ s.agentRoom = true ∧ s.nextFree.isSome = true ∧ u.peerOf g.orig = some n ∧ envelopeOf
    g.body = some e ∧ u.openEnvelope g.orig e = some pt ∧ flag (u.optWord 16) 2 = false :=
  ⟨W.noRight (W.in_ W.open1 W.sta), _, { orig := 9, body := W.open1 }, [], 0, W.envOf W.open1, [], rfl,
  by and_intros <;> decide +kernel⟩

theorem test_Opens :
    ∃ (s : State) (u : State) (g : MgmtMsg) (rest : List MgmtMsg) (n : Nat) (e : Envelope) (pt : List Byte), u =
    s.updLink (fun l => { l with mgmtIn := rest }) ∧ s.link.mgmtIn = g :: rest ∧ s.dead = false ∧ s.ready 0x2A = true
    ∧ s.cribFree = true ∧ s.agentRoom = true ∧ s.nextFree.isSome = true ∧ u.peerOf g.orig = some n ∧ envelopeOf
    g.body = some e ∧ ∃ p, u.openEnvelope g.orig e = some pt ∧ flag (u.optWord 16) 2 = true ∧ u.peer n = some p ∧
    p.mgmt = true ∧ e.mtype = 1 ∧ e.mctr = 0 ∧ e.dnonce = 0 :=
  ⟨W.in_ W.open1 W.sta, _, { orig := 9, body := W.open1 }, [], 0, W.envOf W.open1, [], rfl, by decide +kernel,
  by decide +kernel, by decide +kernel, by decide +kernel, ⟨by decide +kernel, by decide +kernel, by decide +kernel,
  by decide +kernel, { station := 9, key := 3, mgmt := true }, by and_intros <;> decide +kernel⟩⟩

theorem test_Requests :
    ∃ (s : State) (u : State) (g : MgmtMsg) (rest : List MgmtMsg) (n : Nat) (e : Envelope) (pt : List Byte), u =
    s.updLink (fun l => { l with mgmtIn := rest }) ∧ s.link.mgmtIn = g :: rest ∧ s.dead = false ∧ s.ready 0x2A = true
    ∧ s.cribFree = true ∧ s.agentRoom = true ∧ s.nextFree.isSome = true ∧ u.peerOf g.orig = some n ∧ envelopeOf
    g.body = some e ∧ ∃ p, u.openEnvelope g.orig e = some pt ∧ flag (u.optWord 16) 2 = true ∧ u.peer n = some p ∧
    p.mgmt = true ∧ ∃ x w b, e.mtype = 2 ∧ s.link.mgmt = some x ∧ x.dnonce = BitVec.ofNat 32 e.dnonce ∧ x.mctr.toNat
    < e.mctr ∧ (u.updLink (fun k =>
    { k with mgmt := some { x with mctr := BitVec.ofNat 32 e.mctr, last := s.now } })).mgmtEntries (pieces pt.length
    8 pt) = (w, b) :=
  ⟨W.in_ W.req7 (W.sess W.sta), _, { orig := 9, body := W.req7 }, [], 0, W.envOf W.req7, 1 :: (bytesLE 3 0x01040 ++
  bytesLE 4 0), rfl, by decide +kernel, by decide +kernel, by decide +kernel, by decide +kernel, ⟨by decide +kernel,
  by decide +kernel, by decide +kernel, by decide +kernel, { station := 9, key := 3, mgmt := true },
  by decide +kernel, by decide +kernel, by decide +kernel, by decide +kernel, { dnonce := 77, mctr := 6 },
  (W.reqd.mgmtEntries [1 :: (bytesLE 3 0x01040 ++ bytesLE 4 0)]).1, (W.reqd.mgmtEntries [1 :: (bytesLE 3 0x01040 ++
  bytesLE 4 0)]).2, by decide +kernel, by decide +kernel, by decide +kernel, by decide +kernel, rfl⟩⟩

theorem test_RequestOld :
    ∃ (s : State) (u : State) (g : MgmtMsg) (rest : List MgmtMsg) (n : Nat) (e : Envelope) (pt : List Byte), u =
    s.updLink (fun l => { l with mgmtIn := rest }) ∧ s.link.mgmtIn = g :: rest ∧ s.dead = false ∧ s.ready 0x2A = true
    ∧ s.cribFree = true ∧ s.agentRoom = true ∧ s.nextFree.isSome = true ∧ u.peerOf g.orig = some n ∧ envelopeOf
    g.body = some e ∧ ∃ p, u.openEnvelope g.orig e = some pt ∧ flag (u.optWord 16) 2 = true ∧ u.peer n = some p ∧
    p.mgmt = true ∧ ∃ x, e.mtype = 2 ∧ s.link.mgmt = some x ∧ e.mctr ≤ x.mctr.toNat :=
  ⟨W.in_ W.req6 (W.sess W.sta), _, { orig := 9, body := W.req6 }, [], 0, W.envOf W.req6, 1 :: (bytesLE 3 0x01040 ++
  bytesLE 4 0), rfl, by decide +kernel, by decide +kernel, by decide +kernel, by decide +kernel, ⟨by decide +kernel,
  by decide +kernel, by decide +kernel, by decide +kernel, { station := 9, key := 3, mgmt := true },
  by decide +kernel, by decide +kernel, by decide +kernel, by decide +kernel, { dnonce := 77, mctr := 6 },
  by and_intros <;> decide +kernel⟩⟩

theorem test_Closes :
    ∃ (s : State) (u : State) (g : MgmtMsg) (rest : List MgmtMsg) (n : Nat) (e : Envelope) (pt : List Byte), u =
    s.updLink (fun l => { l with mgmtIn := rest }) ∧ s.link.mgmtIn = g :: rest ∧ s.dead = false ∧ s.ready 0x2A = true
    ∧ s.cribFree = true ∧ s.agentRoom = true ∧ s.nextFree.isSome = true ∧ u.peerOf g.orig = some n ∧ envelopeOf
    g.body = some e ∧ ∃ p, u.openEnvelope g.orig e = some pt ∧ flag (u.optWord 16) 2 = true ∧ u.peer n = some p ∧
    p.mgmt = true ∧ ∃ x, e.mtype = 3 ∧ s.link.mgmt = some x ∧ x.dnonce = BitVec.ofNat 32 e.dnonce :=
  ⟨W.in_ W.clo (W.sess W.sta), _, { orig := 9, body := W.clo }, [], 0, W.envOf W.clo, [], rfl, by decide +kernel,
  by decide +kernel, by decide +kernel, by decide +kernel, ⟨by decide +kernel, by decide +kernel, by decide +kernel,
  by decide +kernel, { station := 9, key := 3, mgmt := true }, by decide +kernel, by decide +kernel,
  by decide +kernel, by decide +kernel, { dnonce := 77, mctr := 6 }, by and_intros <;> decide +kernel⟩⟩

theorem test_EntryWrites :
    ∃ (s : State) (u : State) (rest : List MgmtMsg), u = s.updLink (fun l => { l with mgmtIn := rest }) ∧ ∃ (a : Nat)
    (x : Word), a < 0x100000 ∧ a % 4 = 0 ∧ ∃ w c, s.portWrite .radio a x = (w, c) :=
  ⟨W.sta, _, [], rfl, 0x0104C, 1, by decide +kernel, by decide +kernel, (W.sta.portWrite .radio 0x0104C 1).1,
  (W.sta.portWrite .radio 0x0104C 1).2, rfl⟩

theorem test_EntryReads :
    ∃ (s : State) (u : State) (rest : List MgmtMsg), u = s.updLink (fun l => { l with mgmtIn := rest }) ∧ ∃ (a :
    Nat), a < 0x100000 ∧ a % 4 = 0 ∧ ∃ w r c, s.portRead .radio a = (w, r, c) :=
  ⟨W.sta, _, [], rfl, 0x01040, by decide +kernel, by decide +kernel, (W.sta.portRead .radio 0x01040).1,
  (W.sta.portRead .radio 0x01040).2.1, (W.sta.portRead .radio 0x01040).2.2, by decide +kernel⟩

theorem test_NoSession :
    ∃ (s : State) (u : State) (rest : List MgmtMsg), u = s.updLink (fun l => { l with mgmtIn := rest }) ∧ s.link.mgmt
    = none :=
  ⟨W.run, _, [], rfl, by decide +kernel⟩

theorem test_SessionLapses :
    ∃ (s : State) (u : State) (rest : List MgmtMsg), u = s.updLink (fun l => { l with mgmtIn := rest }) ∧ ∃ x,
    s.link.mgmt = some x ∧ s.dead = false :=
  ⟨W.sess W.sta, _, [], rfl, { dnonce := 77, mctr := 6 }, by decide +kernel, by decide +kernel⟩

theorem test_NoImage :
    ∃ (s : State), s.dead = false ∧ s.ready 0x1E = true ∧ s.cribUp = true ∧ s.opt.loaded = true ∧ s.optWord 2 =
    0xFFFFFFFF ∧ s.crib.loader = none :=
  ⟨W.img 0xFFFFFFFF W.run, by and_intros <;> decide +kernel⟩

theorem test_ImageUnaligned :
    ∃ (s : State) (base : Nat), s.dead = false ∧ s.ready 0x1E = true ∧ s.cribUp = true ∧ s.opt.loaded = true ∧
    s.optWord 2 ≠ 0xFFFFFFFF ∧ base = (s.optWord 2).toNat ∧ s.crib.loader = none ∧ field (s.rg 0x3A 0x070) 1 0 = 0 ∧
    (base % 0x4000 ≠ 0 ∨ 0x1000000 ≤ base) :=
  ⟨W.img 0x1000000 W.run, 0x1000000, by and_intros <;> decide +kernel⟩

theorem test_ImageWaits :
    ∃ (s : State) (base : Nat), s.dead = false ∧ s.ready 0x1E = true ∧ s.cribUp = true ∧ s.opt.loaded = true ∧
    s.optWord 2 ≠ 0xFFFFFFFF ∧ base = (s.optWord 2).toNat ∧ s.crib.loader = none ∧ field (s.rg 0x3A 0x070) 1 0 = 0 ∧
    base % 0x4000 = 0 ∧ base < 0x1000000 ∧ s.flashBusy base (0x1000000 - base) = true :=
  ⟨W.busyBank3 W.image, 0xFFC000, by and_intros <;> decide +kernel⟩

theorem test_ImageStarts :
    ∃ (s : State) (u : State) (v : State) (h : List Byte) (base : Nat), s.dead = false ∧ s.ready 0x1E = true ∧
    s.cribUp = true ∧ s.opt.loaded = true ∧ s.optWord 2 ≠ 0xFFFFFFFF ∧ base = (s.optWord 2).toNat ∧ s.crib.loader =
    none ∧ field (s.rg 0x3A 0x070) 1 0 = 0 ∧ base % 0x4000 = 0 ∧ base < 0x1000000 ∧ s.flashBusy base (0x1000000 -
    base) = false ∧ s.imageHeader base = (u, some h) ∧ imageOk 2 (0x1000000 - base) h = true ∧ u.digestOk base h =
    (v, true) ∧ (v.lifecycle = 2 → v.headerSigned h = true) :=
  ⟨W.image, (W.image.imageHeader 0xFFC000).1, ((W.image.imageHeader 0xFFC000).1.digestOk 0xFFC000 W.hdr).1, W.hdr,
  0xFFC000, by and_intros <;> decide +kernel⟩

theorem test_ImageLoaded :
    ∃ (s : State), s.dead = false ∧ s.ready 0x1E = true ∧ s.cribUp = true ∧ s.opt.loaded = true ∧ field (s.rg 0x3A
    0x070) 1 0 ≠ 0 ∧ s.crib.loader = none :=
  ⟨W.regs [(0x3A, 0x070, 2)] W.image, by and_intros <;> decide +kernel⟩

theorem test_LoaderWaits :
    ∃ (s : State) (l : Loader), s.dead = false ∧ s.ready 0x1E = true ∧ s.cribUp = true ∧ s.opt.loaded = true ∧
    s.crib.loader = some l ∧ l.slot.isSome = true :=
  ⟨W.loaded { W.ldr with slot := some 0 } W.image, { W.ldr with slot := some 0 }, by and_intros <;> decide +kernel⟩

theorem test_EndRecord :
    ∃ (s : State) (u : State) (l : Loader) (w : Word), s.dead = false ∧ s.ready 0x1E = true ∧ s.cribUp = true ∧
    s.opt.loaded = true ∧ s.crib.loader = some l ∧ l.slot = none ∧ l.code = none ∧ l.next + 4 ≤ l.stop ∧ s.flashBusy
    (l.base + l.next) (l.stop - l.next) = false ∧ s.flashWord none (l.base + l.next) = (u, some w) ∧ field w 31 28 =
    0xF :=
  ⟨W.loaded W.ldr W.image, ((W.loaded W.ldr W.image).flashWord none 0xFFC200).1, W.ldr, 0xF0000000,
  by and_intros <;> decide +kernel⟩

theorem test_LoadStops :
    ∃ (s : State) (l : Loader), s.dead = false ∧ s.ready 0x1E = true ∧ s.cribUp = true ∧ s.opt.loaded = true ∧ ∃ c,
    s.crib.loader = some l ∧ l.slot = none ∧ l.code = some c ∧ c ≠ .done :=
  ⟨W.loaded { W.ldr with code := some .arg } W.image, { W.ldr with code := some .arg }, by decide +kernel,
  by decide +kernel, by decide +kernel, by decide +kernel, .arg, by and_intros <;> decide +kernel⟩

theorem test_CribDown :
    ∃ (s : State), s.cribUp = false :=
  ⟨W.regs [(0x3A, 0x004, 0)] W.image, by decide +kernel⟩


end ManageImage


namespace Invariants

def W.q : State := { W.run with pending := [.crystalStart, .crystalStart] }
def W.qt : State := { W.run with pwr := { W.run.pwr with xtal := true }, pending := [.crystalStart] }

theorem test_Inv :
    ∃ (s : State) (t : State), Safety.inv s = true ∧ step s = .next t :=
  ⟨W.q, W.qt, by decide +kernel, rfl⟩

theorem test_Burnt :
    ∃ (s : State) (t : State), step s = .next t :=
  ⟨W.q, W.qt, rfl⟩


end Invariants


end Sys2Proof.Tests
end

section
/-!
PROOFS. Accesses that reach no register: the pages the page map does not list (R20) and the offsets of a page that hold
nothing (R30). What the gate says of such an access, what a refused write leaves, and the two statements.
-/
namespace Sys2Proof.Machine

/-! ### What a refused write leaves -/

@[simp] theorem State.portErr_own (s : State) (m : Master) : (s.portErr m).own = s.own := by cases m <;> rfl
@[simp] theorem State.portErr_ops (s : State) (m : Master) : (s.portErr m).ops = s.ops := by cases m <;> rfl
@[simp] theorem State.portErr_queues (s : State) (m : Master) : (s.portErr m).queues = s.queues := by cases m <;> rfl
@[simp] theorem State.portErr_gran (s : State) (m : Master) : (s.portErr m).gran = s.gran := by cases m <;> rfl
@[simp] theorem State.portErr_flash (s : State) (m : Master) : (s.portErr m).flash = s.flash := by cases m <;> rfl

@[simp] theorem State.lastOf_answer (s : State) (m : Master) (v : Word) (c : Code) :
    (s.answer m v c).lastOf m = { value := v, code := c } := State.answer_resp_self s m v c

/-- A rejection in ERRC: its code, the byte that tells where, and the count. -/
@[simp] theorem State.rg_logErr_self (s : State) (page byte : Nat) (c : Code) :
    (s.logErr page byte c).rg page 0x018 =
      satField (setField (setField (s.rg page 0x018) 7 0 (Code.num c)) 15 8 byte) 31 16 1 :=
  State.rg_setRg_self s page 0x018 _

/-- t is s after a write of m was discarded with a code: m has the code, ERRC of the page has it with the byte that tells
where, and no other register, slot, queue or memory has changed, nor has the owner (R20, R27, R30). -/
structure WriteDiscarded (s t : State) (m : Master) (page byte : Nat) (c : Code) : Prop where
  answered : t.lastOf m = { value := 0, code := c }
  logged : t.rg page 0x018 = satField (setField (setField (s.rg page 0x018) 7 0 (Code.num c)) 15 8 byte) 31 16 1
  otherRegs : ∀ q o, o < 0x1000 → ¬(q = page ∧ o = 0x018) → t.rg q o = s.rg q o
  owner : t.own.owner = s.own.owner
  ops : t.ops = s.ops
  queues : t.queues = s.queues
  gran : t.gran = s.gran
  flash : t.flash = s.flash

/-- The form that both kinds of rejection have: ERRC of one page, MY_RESULT of the access, the port, the answer. -/
theorem State.rejection_discards (s : State) (m : Master) (page byte p off : Nat) (c : Code) :
    WriteDiscarded s ((((s.logErr page byte c).logMine m p off c).portErr m).answer m 0 c) m page byte c where
  answered := by simp
  logged := by simp
  otherRegs q o ho hne := by
    have hra : ra q o ≠ ra page 0x018 := fun h => hne ((ra_inj ho (by decide)).1 h)
    simp [State.rg_logErr, hra]
  owner := by simp
  ops := by simp
  queues := by simp
  gran := by simp
  flash := by simp

theorem State.reject_discards (s : State) (m : Master) (page off : Nat) (c : Code) :
    WriteDiscarded s (s.reject m page off c) m page (off / 16) c := s.rejection_discards m page (off / 16) page off c

/-- On an unassigned page the log is DEVICE's, and tells the page (R20). -/
theorem State.rejectUnassigned_discards (s : State) (m : Master) (page off : Nat) :
    WriteDiscarded s (s.rejectUnassigned m page off) m 0x00 page .arg := s.rejection_discards m 0x00 page page off .arg

/-! ### Rows on register pages -/

theorem exec_registerRead {s : State} {m : Master} {page : BitVec 8} {word : BitVec 10} (hp : page.toNat < 0x80) :
    exec (.registerRead m page word) s =
      .next (s.read m page.toNat (4 * word.toNat) (regRead m page.toNat (4 * word.toNat))) := by
  change Host.Outcome.next (s.busRead m page.toNat (4 * word.toNat)) = _
  rw [State.busRead, if_neg (by omega)]

theorem exec_registerWrite {s : State} {m : Master} {page : BitVec 8} {word : BitVec 10} {v : Word}
    (hp : page.toNat < 0x80) :
    exec (.registerWrite m page word v) s =
      .next (s.write m page.toNat (4 * word.toNat) v (regWrite m page.toNat (4 * word.toNat) v)) := by
  change Host.Outcome.next (s.busWrite m page.toNat (4 * word.toNat) v) = _
  rw [State.busWrite, if_neg (by omega)]

/-! ### Unassigned pages (R20) -/

theorem pageAssigned_iff (p : Nat) (hp : p < 0x80) :
    pageAssigned p = true ↔ (p ≤ 0x0A ∨ (0x10 ≤ p ∧ p ≤ 0x1E) ∨ (0x20 ≤ p ∧ p ≤ 0x23) ∨
      (0x28 ≤ p ∧ p ≤ 0x2B) ∨ (0x30 ≤ p ∧ p ≤ 0x32) ∨ p = 0x38 ∨ p = 0x3A ∨ p = 0x3C ∨ p = 0x3F ∨
      (0x40 ≤ p ∧ p ≤ 0x44) ∨ (0x50 ≤ p ∧ p ≤ 0x6F)) := by
  simp only [pageAssigned, Bool.or_eq_true, Bool.and_eq_true, decide_eq_true_eq, beq_iff_eq]
  omega

/-- Every page of the memory window is assigned. -/
theorem pageAssigned_window {p : Nat} (h : 0x80 ≤ p) (h' : p ≤ 0xFF) : pageAssigned p = true := by
  simp [pageAssigned, h, h']

theorem State.assigned_eq_false_iff (s : State) (p : Nat) :
    s.assigned p = false ↔ pageAssigned p = false ∨ (p = 0x3F ∧ s.fuse.debugClosed = true) := by
  simp [State.assigned, ← Bool.not_eq_true, or_iff_not_imp_left]

theorem State.lt_of_assigned_eq_false {s : State} {p : Nat} (hp : p ≤ 0xFF) (h : s.assigned p = false) : p < 0x80 := by
  rcases (s.assigned_eq_false_iff p).1 h with hu | ⟨rfl, -⟩
  · by_contra hge
    simp [pageAssigned_window (by omega) hp] at hu
  · decide

theorem State.reachGate_unassigned {s : State} {m : Master} {p : Nat} (hdead : s.dead = false)
    (hguard : s.pwr.depth ≠ .guard) (h : s.assigned p = false) : s.reachGate m p = .unassigned := by
  simp [State.reachGate, hdead, hguard, h]

theorem State.read_unassigned {s : State} {m : Master} {p off : Nat} {eff : State → State × Word × Code}
    (h : s.reachGate m p = .unassigned) : s.read m p off eff = s.answer m 0 .done := by
  have hgate : s.readGate m p off = .unassigned := by simp [State.readGate, h]
  simp [State.read, hgate]

theorem State.write_unassigned {s : State} {m : Master} {p off : Nat} {v : Word} {eff : State → State × Code}
    (h : s.reachGate m p = .unassigned) : s.write m p off v eff = s.rejectUnassigned m p off := by
  have hgate : s.writeGate m p off v = .unassigned := by simp [State.writeGate, h]
  simp [State.write, hgate]

/-- Settles O9: the gate answers for a page that is not assigned, before anything of the page is looked at. -/
theorem unassignedPages : Obligations.UnassignedPages := by
  unfold Obligations.UnassignedPages
  refine ⟨pageAssigned_iff, ?_⟩
  rintro s m page word v p rfl hdead hguard hun
  have hun : s.assigned page.toNat = false := (s.assigned_eq_false_iff _).2 hun
  have hp : page.toNat < 0x80 := State.lt_of_assigned_eq_false (by have := page.isLt; omega) hun
  have hgate : s.reachGate m page.toNat = .unassigned := State.reachGate_unassigned hdead hguard hun
  have hd := s.rejectUnassigned_discards m page.toNat (4 * word.toNat)
  refine ⟨by rw [exec_registerRead hp, State.read_unassigned hgate], _, ?_, hd.answered, hd.logged, hd.otherRegs,
    hd.owner, hd.ops, hd.queues, hd.gran, hd.flash⟩
  rw [exec_registerWrite hp, State.write_unassigned hgate]

/-! ### Offsets that hold no register (R30) -/

theorem State.read_zero {s : State} {m : Master} {p off : Nat} {eff : State → State × Word × Code}
    (h : s.readGate m p off = .zero) : s.read m p off eff = s.answer m 0 .done := by
  simp [State.read, h]

/-- A read of an offset without a register answers 0 in the header and past it, READY or not, unless the block keeps its
registers for the owner (RD_OWNER, R29). -/
theorem State.readGate_unusedOffset {s : State} {m : Master} {p off : Nat} (hreach : s.reachGate m p = .pass)
    (hp : p < 0x80) (hnone : regAt p off = none) (htail : burstTail p off = false) (hsec : s.insecure m p off = false)
    (hown : off < 0x040 ∨ flag (s.rg p 0x01C) 0 = false ∨ s.isOwner m = true) : s.readGate m p off = .zero := by
  have hwin : ¬ p ≥ 0x80 := by omega
  simp only [State.readGate, hreach, if_neg hwin, htail, hsec, hnone, Bool.false_eq_true, if_false]
  by_cases hhead : off < 0x040
  · exact if_pos hhead
  · rcases hown.resolve_left hhead with h | h <;> simp [h]

/-- Nothing refuses the owner's write before the register is looked for, and none is found: ARG. -/
theorem State.writeGate_unusedOffset {s : State} {m : Master} {p off : Nat} {v : Word} (hreach : s.reachGate m p = .pass)
    (hp : p < 0x80) (hnone : regAt p off = none) (htail : burstTail p off = false) (hsec : s.insecure m p off = false)
    (hready : s.ready p = true) (hown : s.isOwner m = true) (hacc : off ≠ 0x01C)
    (hbox : pageKind p = 0x40 → mboxPageMaster off = true → p = 0x40 + Master.id m) :
    s.writeGate m p off v = .refuse .arg := by
  have hwin : ¬ p ≥ 0x80 := by omega
  have hbox : (pageKind p == 0x40 && mboxPageMaster off && p != 0x40 + Master.id m) = false := by
    rw [Bool.eq_false_iff]
    simpa using hbox
  simp [State.writeGate, hreach, hwin, htail, hready, hsec, hacc, hbox, hown, hnone]

/-- Settles O10: the gate finds no register at the offset, once the access has passed everything else. -/
theorem unusedOffsets : Obligations.UnusedOffsets := by
  unfold Obligations.UnusedOffsets
  rintro s m page word v p off rfl rfl hp hnone htail hreach hsec
  constructor
  · intro hown
    rw [exec_registerRead hp, State.read_zero (State.readGate_unusedOffset hreach hp hnone htail hsec hown)]
  · intro hready hown hacc hbox
    have hgate := State.writeGate_unusedOffset (v := v) hreach hp hnone htail hsec hready hown hacc hbox
    have hd := s.reject_discards m page.toNat (4 * word.toNat) .arg
    refine ⟨_, ?_, hd.answered, hd.logged, hd.otherRegs, hd.owner, hd.ops, hd.queues, hd.gran, hd.flash⟩
    rw [exec_registerWrite hp, State.write_refuse hgate]

end Sys2Proof.Machine
end

section
/-!
PROOFS of the family "other". Declarations are elaborated one after another: with many at work at once the text needs
more memory than its check has.
-/
set_option Elab.async false

section
/-!
PROOFS. The Gleaner's instruction words: a field of a word is the field that was put there, and so a legal word reads
back as its instruction (R136, R137).
-/
namespace Sys2Proof.Machine

/-- The opcode and the fields of a word that an instruction spells name that instruction: each field is read at the place
it was put, past the fields above it or below those that follow. -/
theorem GInstr.fields_encode (i : GInstr) : GInstr.fields i.encode = some i := by
  cases i
  case alu op _ _ _ =>
    cases op <;> simp (disch := decide) [encode, fields, AluOp.code, gRd, gRa, gRb,
      BitVec.extractLsb'_append_eq_of_le, BitVec.extractLsb'_append_eq_of_add_le, -Nat.reduceAdd]
  case shift op _ _ _ =>
    cases op <;> simp (disch := decide) [encode, fields, ShiftOp.code, gRd, gRa,
      BitVec.extractLsb'_append_eq_of_le, BitVec.extractLsb'_append_eq_of_add_le, -Nat.reduceAdd]
  case branch op _ _ _ =>
    cases op <;> simp (disch := decide) [encode, fields, BranchOp.code, gRa, gRb,
      BitVec.extractLsb'_append_eq_of_le, BitVec.extractLsb'_append_eq_of_add_le, -Nat.reduceAdd]
  all_goals simp (disch := decide) [encode, fields, gRd, gRa, gRb, gTol,
    BitVec.extractLsb'_append_eq_of_le, BitVec.extractLsb'_append_eq_of_add_le, -Nat.reduceAdd]

/-- Settles O4: the word spells the instruction's own fields, and the instruction is legal. -/
theorem gleanerWordsRoundTrip : Obligations.GleanerWordsRoundTrip := by
  intro i hlegal
  simp [GInstr.decode, GInstr.fields_encode, hlegal]

end Sys2Proof.Machine
end

section
/-!
PROOFS. What every step keeps: the commands that wait, the canonical form of the tables and of the memories, and the
fuses that are blown.
-/
namespace Sys2Proof.Machine

/-- A selection of entries keeps the canonical form. -/
theorem Tab.wf_filter {α : Type} [DecidableEq α] {d : Nat → α} {p : Nat × α → Bool} {t : Tab α}
    (w : Tab.wf d t = true) : Tab.wf d (t.filter p) = true := by
  suffices H : ∀ (l : Tab α) (lo : Nat), Tab.wfFrom d lo l = true → Tab.wfFrom d lo (l.filter p) = true from H t 0 w
  intro l
  induction l with
  | nil => intro _ h; exact h
  | cons e l ih =>
    intro lo h
    obtain ⟨hlo, hd, hl⟩ := Tab.wfFrom_cons.1 h
    rw [List.filter_cons]
    split
    · exact Tab.wfFrom_cons.2 ⟨hlo, hd, ih _ hl⟩
    · exact Tab.wfFrom_mono (by omega) (ih _ hl)

/-- The flash array's bytes are held in canonical form. -/
def FlashState.Canonical (x : FlashState) : Prop := Tab.wf flashDefault x.cells = true

theorem FlashState.Canonical.same {x : FlashState} (h : x.Canonical)
    {marks health map dirty pool weak journal run log refreshing refreshes spare prefetch branch lastFetch confirmed
    confirming} :
    ({ x with
      marks, health, map, dirty, pool, weak, journal, run, log, refreshing, refreshes, spare, prefetch, branch,
      lastFetch, confirmed, confirming } : FlashState).Canonical := h

/-- t comes after s without touching the queue of commands, taking a table out of its canonical form, or undoing a
fuse. -/
structure Keeps (s t : State) : Prop where
  queued : t.pending = s.pending
  wfRegs : Tab.wf resetOf s.regs = true → Tab.wf resetOf t.regs = true
  wfBank : Tab.wf (fun _ => (0 : Word)) s.bank = true → Tab.wf (fun _ => (0 : Word)) t.bank = true
  wfShadow : Tab.wf (fun _ => (none : Option Shadow)) s.shadow = true →
    Tab.wf (fun _ => (none : Option Shadow)) t.shadow = true
  wfLows : Tab.wf (fun _ => (none : Option Word)) s.lows = true → Tab.wf (fun _ => (none : Option Word)) t.lows = true
  wfSram : Tab.wf sramDefault s.gran.sram = true → Tab.wf sramDefault t.gran.sram = true
  wfCells : Tab.wf flashDefault s.flash.cells = true → Tab.wf flashDefault t.flash.cells = true
  ordered : (!s.fuse.f || s.fuse.p) = true → (!t.fuse.f || t.fuse.p) = true
  burns : Safety.burnt s.fuse t.fuse = true

/-- The first part of a result comes after s in that way. -/
def KeepsFst {β : Type} (s : State) (r : State × β) : Prop := Keeps s r.1

/-- The second part of a result comes after s in that way. -/
def KeepsSnd {β : Type} (s : State) (r : β × State) : Prop := Keeps s r.2

/-- A state that may be given comes after s in that way, where it is. -/
def KeepsSome {β : Type} (s : State) (r : Option (β × State)) : Prop := ∀ b t, r = some (b, t) → Keeps s t

/-- A state that may be refused comes after s in that way, where it is not. -/
def KeepsOk {ε β : Type} (s : State) (r : Except ε (State × β)) : Prop := ∀ t b, r = .ok (t, b) → Keeps s t

/-- What an instruction does, if it is this one, comes after s in that way wherever the state before does. -/
def KeepsEff (s : State) (o : Option (State → State)) : Prop := ∀ f, o = some f → ∀ t, Keeps s t → Keeps s (f t)

/-- An outcome that is a next state comes after s in that way. -/
def KeepsOut (s : State) (o : Host.Outcome State Fault Refusal) : Prop := ∀ t, o = .next t → Keeps s t

theorem burnt_refl (u : Fuses) : Safety.burnt u u = true := by
  simp [Safety.burnt]

theorem burnt_iff {u v : Fuses} : Safety.burnt u v = true ↔
    (u.p = true → v.p = true) ∧ (u.f = true → v.f = true) ∧ (u.d = true → v.d = true) ∧
      (u.debugClosed = true → v.debugClosed = true) ∧ (u.revoked0 = true → v.revoked0 = true) ∧
      (u.revoked1 = true → v.revoked1 = true) ∧ (u.root0 = none ∨ u.root0 = v.root0) ∧
      (u.root1 = none ∨ u.root1 = v.root1) := by
  simp [Safety.burnt, and_assoc, imp_iff_not_or]

theorem burnt_trans {u v w : Fuses} (h : Safety.burnt u v = true) (g : Safety.burnt v w = true) :
    Safety.burnt u w = true := by
  rw [burnt_iff] at *
  grind

theorem Keeps.refl (s : State) : Keeps s s where
  queued := rfl
  wfRegs := id
  wfBank := id
  wfShadow := id
  wfLows := id
  wfSram := id
  wfCells := id
  ordered := id
  burns := burnt_refl _

theorem Keeps.trans {s t u : State} (h : Keeps s t) (g : Keeps t u) : Keeps s u where
  queued := g.queued.trans h.queued
  wfRegs := g.wfRegs ∘ h.wfRegs
  wfBank := g.wfBank ∘ h.wfBank
  wfShadow := g.wfShadow ∘ h.wfShadow
  wfLows := g.wfLows ∘ h.wfLows
  wfSram := g.wfSram ∘ h.wfSram
  wfCells := g.wfCells ∘ h.wfCells
  ordered := g.ordered ∘ h.ordered
  burns := burnt_trans h.burns g.burns

section
variable {s₀ s : State}

/-- A change of anything else. -/
theorem Keeps.same (hs : Keeps s₀ s) {resp own ops opt time pwr fab queues core intc svc hspi htw dbg tap link phy
    sense gle thr win fld crib fresh} :
    Keeps s₀ ({ s with
      resp, own, ops, opt, time, pwr, fab, queues, core, intc, svc, hspi, htw, dbg, tap, link, phy, sense, gle, thr,
      win, fld, crib, fresh } : State) :=
  ⟨hs.queued, hs.wfRegs, hs.wfBank, hs.wfShadow, hs.wfLows, hs.wfSram, hs.wfCells, hs.ordered, hs.burns⟩

/-- A change of anything else, of what GRANARY keeps beside the SRAM, and of what FLASH keeps beside its cells. -/
theorem Keeps.sameMem (hs : Keeps s₀ s) {resp own ops opt time pwr fab queues core intc svc hspi htw dbg tap link phy
    sense gle thr win fld crib fresh bad soft ctxBad regions retired errors ctx withdrawn spares handlers ring copy
    jobs near far streak test testAt bankDue pass passFailed marks health map dirty pool weak journal run log
    refreshing refreshes spare prefetch branch lastFetch confirmed confirming} :
    Keeps s₀ ({ s with
      resp, own, ops, opt, time, pwr, fab, queues, core, intc, svc, hspi, htw, dbg, tap, link, phy, sense, gle, thr,
      win, fld, crib, fresh
      gran := { s.gran with
        bad, soft, ctxBad, regions, retired, errors, ctx, withdrawn, spares, handlers, ring, copy, jobs, near, far,
        streak, test, testAt, bankDue, pass, passFailed }
      flash := { s.flash with
        marks, health, map, dirty, pool, weak, journal, run, log, refreshing, refreshes, spare, prefetch, branch,
        lastFetch, confirmed, confirming } } : State) :=
  ⟨hs.queued, hs.wfRegs, hs.wfBank, hs.wfShadow, hs.wfLows, hs.wfSram, hs.wfCells, hs.ordered, hs.burns⟩

/-- A change of the tables that keeps their canonical form, and of anything else. -/
theorem Keeps.sameTables (hs : Keeps s₀ s) {regs bank shadow lows resp own ops opt time pwr fab queues core intc svc
    hspi htw dbg tap link phy sense gle thr win fld crib fresh}
    (hregs : Tab.wf resetOf s.regs = true → Tab.wf resetOf regs = true)
    (hbank : Tab.wf (fun _ => (0 : Word)) s.bank = true → Tab.wf (fun _ => (0 : Word)) bank = true)
    (hshadow : Tab.wf (fun _ => (none : Option Shadow)) s.shadow = true →
      Tab.wf (fun _ => (none : Option Shadow)) shadow = true)
    (hlows : Tab.wf (fun _ => (none : Option Word)) s.lows = true →
      Tab.wf (fun _ => (none : Option Word)) lows = true) :
    Keeps s₀ ({ s with
      regs, bank, shadow, lows,
      resp, own, ops, opt, time, pwr, fab, queues, core, intc, svc, hspi, htw, dbg, tap, link, phy, sense, gle, thr,
      win, fld, crib, fresh } : State) :=
  ⟨hs.queued, hregs ∘ hs.wfRegs, hbank ∘ hs.wfBank, hshadow ∘ hs.wfShadow, hlows ∘ hs.wfLows, hs.wfSram, hs.wfCells,
    hs.ordered, hs.burns⟩

/-- A change of the fuses, as they stood in a state u, that undoes none, and of anything else. -/
theorem Keeps.sameFuse (hs : Keeps s₀ s) {u : State} (hu : Keeps s₀ u) {fuse resp own ops opt time pwr
    fab queues core intc svc hspi htw dbg tap link phy sense gle thr win fld crib fresh}
    (hordered : (!u.fuse.f || u.fuse.p) = true → (!fuse.f || fuse.p) = true)
    (hburns : Safety.burnt u.fuse fuse = true) :
    Keeps s₀ ({ s with
      fuse,
      resp, own, ops, opt, time, pwr, fab, queues, core, intc, svc, hspi, htw, dbg, tap, link, phy, sense, gle, thr,
      win, fld, crib, fresh } : State) :=
  ⟨hs.queued, hs.wfRegs, hs.wfBank, hs.wfShadow, hs.wfLows, hs.wfSram, hs.wfCells, hordered ∘ hu.ordered,
    burnt_trans hu.burns hburns⟩

theorem Keeps.either {t u : State} {c : Prop} {d : Decidable c} (ht : Keeps s₀ t) (hu : Keeps s₀ u) :
    Keeps s₀ (@ite State c d t u) := by
  split
  · exact ht
  · exact hu

theorem KeepsFst.mk {β : Type} {b : β} (hs : Keeps s₀ s) : KeepsFst s₀ (s, b) := hs

theorem KeepsFst.fst {β : Type} {r : State × β} (hr : KeepsFst s₀ r) : Keeps s₀ r.1 := hr

theorem KeepsFst.of_eq {β : Type} {r : State × β} {b : β} (hr : KeepsFst s₀ r) (e : r = (s, b)) : Keeps s₀ s := by
  rw [e] at hr; exact hr

theorem KeepsFst.either {β : Type} {t u : State × β} {c : Prop} {d : Decidable c} (ht : KeepsFst s₀ t)
    (hu : KeepsFst s₀ u) : KeepsFst s₀ (@ite (State × β) c d t u) := by
  split
  · exact ht
  · exact hu

theorem KeepsFst.ofIte {β : Type} {t u : State × β} {c : Prop} {d : Decidable c} (ht : KeepsFst s₀ t)
    (hu : ¬c → KeepsFst s₀ u) : KeepsFst s₀ (@ite (State × β) c d t u) := by
  split
  · exact ht
  · exact hu ‹_›

theorem KeepsSnd.mk {β : Type} {b : β} (hs : Keeps s₀ s) : KeepsSnd s₀ (b, s) := hs

theorem KeepsSnd.snd {β : Type} {r : β × State} (hr : KeepsSnd s₀ r) : Keeps s₀ r.2 := hr

theorem KeepsSnd.of_eq {β : Type} {r : β × State} {b : β} (hr : KeepsSnd s₀ r) (e : r = (b, s)) : Keeps s₀ s := by
  rw [e] at hr; exact hr

theorem KeepsSnd.either {β : Type} {t u : β × State} {c : Prop} {d : Decidable c} (ht : KeepsSnd s₀ t)
    (hu : KeepsSnd s₀ u) : KeepsSnd s₀ (@ite (β × State) c d t u) := by
  split
  · exact ht
  · exact hu

theorem KeepsSome.given {β : Type} {b : β} (hs : Keeps s₀ s) : KeepsSome s₀ (some (b, s)) := by
  rintro _ _ ⟨⟩; exact hs

theorem KeepsSome.absent {β : Type} : KeepsSome (β := β) s₀ none := fun _ _ e => nomatch e

theorem KeepsSome.of_eq {β : Type} {r : Option (β × State)} {b : β} (hr : KeepsSome s₀ r) (e : r = some (b, s)) :
    Keeps s₀ s := hr b s e

theorem KeepsSome.either {β : Type} {t u : Option (β × State)} {c : Prop} {d : Decidable c} (ht : KeepsSome s₀ t)
    (hu : KeepsSome s₀ u) : KeepsSome s₀ (@ite (Option (β × State)) c d t u) := by
  split
  · exact ht
  · exact hu

theorem KeepsOk.ok {ε β : Type} {b : β} (hs : Keeps s₀ s) : KeepsOk (ε := ε) s₀ (.ok (s, b)) := by
  rintro _ _ ⟨⟩; exact hs

theorem KeepsOk.error {ε β : Type} {c : ε} : KeepsOk (β := β) s₀ (.error c) := fun _ _ e => nomatch e

theorem KeepsOk.of_eq {ε β : Type} {r : Except ε (State × β)} {b : β} (hr : KeepsOk s₀ r) (e : r = .ok (s, b)) :
    Keeps s₀ s := hr s b e

theorem KeepsOk.either {ε β : Type} {t u : Except ε (State × β)} {c : Prop} {d : Decidable c} (ht : KeepsOk s₀ t)
    (hu : KeepsOk s₀ u) : KeepsOk s₀ (@ite (Except ε (State × β)) c d t u) := by
  split
  · exact ht
  · exact hu

theorem KeepsEff.given {f : State → State} (hf : ∀ t, Keeps s₀ t → Keeps s₀ (f t)) : KeepsEff s₀ (some f) := by
  rintro _ ⟨⟩; exact hf

theorem KeepsEff.absent : KeepsEff s₀ none := fun _ e => nomatch e

theorem KeepsEff.either {o u : Option (State → State)} {c : Prop} {d : Decidable c} (ho : KeepsEff s₀ o)
    (hu : KeepsEff s₀ u) : KeepsEff s₀ (@ite (Option (State → State)) c d o u) := by
  split
  · exact ho
  · exact hu

theorem KeepsOut.next (hs : Keeps s₀ s) : KeepsOut s₀ (.next s) := by
  rintro t ⟨⟩; exact hs

theorem KeepsOut.fault {r : Fault} : KeepsOut s₀ (.fault r) := fun _ e => nomatch e

theorem KeepsOut.refused {r : Refusal} : KeepsOut s₀ (.refused r) := fun _ e => nomatch e

theorem KeepsOut.either {t u : Host.Outcome State Fault Refusal} {c : Prop} {d : Decidable c} (ht : KeepsOut s₀ t)
    (hu : KeepsOut s₀ u) : KeepsOut s₀ (@ite _ c d t u) := by
  split
  · exact ht
  · exact hu

theorem Keeps.foldl {β : Type} {f : State → β → State} {l : List β} (hs : Keeps s₀ s)
    (hf : ∀ a b, Keeps s₀ a → Keeps s₀ (f a b)) : Keeps s₀ (l.foldl f s) := by
  induction l generalizing s with
  | nil => exact hs
  | cons b l ih => exact ih (hf s b hs)

theorem KeepsFst.foldl {β γ : Type} {f : State × γ → β → State × γ} {l : List β} {r : State × γ} (hr : KeepsFst s₀ r)
    (hf : ∀ a b, KeepsFst s₀ a → KeepsFst s₀ (f a b)) : KeepsFst s₀ (l.foldl f r) := by
  induction l generalizing r with
  | nil => exact hr
  | cons b l ih => exact ih (hf r b hr)

end
end Sys2Proof.Machine
end

section
/-!
PROOFS. What each function of the model comes to keeps what Keeps asks: one lemma for each, in the order of the
model's definitions, up to the step.
-/
namespace Sys2Proof.Machine
section
variable {s₀ s : State}

/-! ### Machine, Ops -/

theorem Keeps.setReg (hs : Keeps s₀ s) {a w} :
    Keeps s₀ (s.setReg a w) :=
  hs.sameTables Tab.wf_set id id id

theorem Keeps.setRg (hs : Keeps s₀ s) {page off w} :
    Keeps s₀ (s.setRg page off w) := by
  unfold State.setRg
  exact hs.setReg

theorem Keeps.updRg (hs : Keeps s₀ s) {page off f} :
    Keeps s₀ (s.updRg page off f) := by
  unfold State.updRg
  exact hs.setRg

theorem Keeps.setPair (hs : Keeps s₀ s) {page off t} :
    Keeps s₀ (s.setPair page off t) := by
  unfold State.setPair
  exact hs.setRg.setRg

theorem Keeps.setOwn1 (hs : Keeps s₀ s) {m page off w} :
    Keeps s₀ (s.setOwn1 m page off w) :=
  hs.sameTables id Tab.wf_set id id

theorem Keeps.reach (hs : Keeps s₀ s) {t} :
    Keeps s₀ (s.reach t) := by
  unfold State.reach
  exact hs.same

theorem Keeps.setReadyBits (hs : Keeps s₀ s) {page f} :
    Keeps s₀ (s.setReadyBits page f) := by
  unfold State.setReadyBits
  extract_lets
  exact Keeps.either hs hs.setRg.setPair

theorem Keeps.setDegraded (hs : Keeps s₀ s) {page b} :
    Keeps s₀ (s.setDegraded page b) := by
  unfold State.setDegraded
  exact hs.setReadyBits

theorem Keeps.beginStarts (hs : Keeps s₀ s) {pages short} :
    Keeps s₀ (s.beginStarts pages short) := by
  unfold State.beginStarts
  exact hs.same

theorem Keeps.supplyBack (hs : Keeps s₀ s) {groups} :
    Keeps s₀ (s.supplyBack groups) := by
  unfold State.supplyBack
  exact hs.beginStarts

theorem Keeps.logErr (hs : Keeps s₀ s) {page word c} :
    Keeps s₀ (s.logErr page word c) := by
  unfold State.logErr
  exact hs.updRg

theorem Keeps.logMine (hs : Keeps s₀ s) {m page off c} :
    Keeps s₀ (s.logMine m page off c) := by
  unfold State.logMine
  exact hs.setOwn1

theorem Keeps.portErr (hs : Keeps s₀ s) {m} :
    Keeps s₀ (s.portErr m) := by
  unfold State.portErr
  split
  · exact hs.same
  · exact hs.same
  · exact hs

theorem Keeps.answer (hs : Keeps s₀ s) {m v c} :
    Keeps s₀ (s.answer m v c) := by
  unfold State.answer
  exact hs.same

theorem Keeps.reject (hs : Keeps s₀ s) {m page off c} :
    Keeps s₀ (s.reject m page off c) := by
  unfold State.reject
  exact hs.logErr.logMine.portErr.answer

theorem Keeps.complete (hs : Keeps s₀ s) {m page off v c} :
    Keeps s₀ (s.complete m page off v c) := by
  unfold State.complete
  exact Keeps.either hs.answer hs.logErr.logMine.portErr.answer

theorem Keeps.draw (hs : Keeps s₀ s) :
    KeepsSnd s₀ s.draw := by
  unfold State.draw
  exact KeepsSnd.mk hs.same

/-! ### Machine, Flags -/

theorem Keeps.setMod (hs : Keeps s₀ s) {g m} :
    Keeps s₀ (s.setMod g m) := by
  unfold State.setMod
  exact hs.same

theorem Keeps.lineRise (hs : Keeps s₀ s) {n} :
    Keeps s₀ (s.lineRise n) := by
  unfold State.lineRise
  extract_lets _ _ _ s1
  have h1 : Keeps s₀ s1 := Keeps.either (Keeps.either (Keeps.either hs.setMod hs.setMod) hs.setMod) hs
  exact Keeps.either h1.same h1

theorem Keeps.lineFall (hs : Keeps s₀ s) {n} :
    Keeps s₀ (s.lineFall n) := by
  unfold State.lineFall
  extract_lets
  exact Keeps.either hs.setMod hs

theorem Keeps.settle (hs : Keeps s₀ s) {before n} :
    Keeps s₀ (s.settle before n) := by
  unfold State.settle
  split
  · exact hs.lineRise
  · exact hs.lineFall
  · exact hs

theorem Keeps.pulseAt (hs : Keeps s₀ s) {src wave at_} :
    Keeps s₀ (s.pulseAt src wave at_) := by
  unfold State.pulseAt
  exact Keeps.either hs.same hs

theorem Keeps.pulse (hs : Keeps s₀ s) {src wave} :
    Keeps s₀ (s.pulse src wave) := by
  unfold State.pulse
  exact hs.pulseAt

theorem Keeps.tapPulses (hs : Keeps s₀ s) {page b} :
    Keeps s₀ (s.tapPulses page b) := by
  unfold State.tapPulses
  refine hs.foldl ?_
  intro a _ ha
  extract_lets
  exact Keeps.either ha.pulse ha

theorem Keeps.evEdge (hs : Keeps s₀ s) {page b} :
    Keeps s₀ (s.evEdge page b) := by
  unfold State.evEdge
  refine Keeps.either ?_ hs
  extract_lets s1
  have h1 : Keeps s₀ s1 := hs.updRg
  exact h1.settle.tapPulses

theorem Keeps.evPulse (hs : Keeps s₀ s) {page b} :
    Keeps s₀ (s.evPulse page b) := by
  unfold State.evPulse
  exact hs.evEdge

theorem Keeps.evLevel (hs : Keeps s₀ s) {page b v} :
    Keeps s₀ (s.evLevel page b v) := by
  unfold State.evLevel
  extract_lets _ s1
  have h1 : Keeps s₀ s1 := hs.updRg
  exact Keeps.either hs (Keeps.either h1.evEdge h1)

theorem Keeps.levelSource (hs : Keeps s₀ s) {page b v src} :
    Keeps s₀ (s.levelSource page b v src) := by
  unfold State.levelSource
  extract_lets _ s1
  have h1 : Keeps s₀ s1 := hs.evLevel
  exact Keeps.either h1.pulse h1

theorem Keeps.faultRec (hs : Keeps s₀ s) {fcode page detail} :
    Keeps s₀ (s.faultRec fcode page detail) := by
  unfold State.faultRec
  extract_lets _ merged _ _ s2 s3 s1
  have h2 : Keeps s₀ s2 := hs.same
  have h3 : Keeps s₀ s3 := h2.updRg
  have h1 : Keeps s₀ s1 := by
    unfold s1
    clear_value merged
    split
    · exact hs.same
    · exact Keeps.either hs.same.updRg.updRg hs.same.updRg
  exact h1.evPulse

theorem Keeps.recordWake (hs : Keeps s₀ s) {source left aborted start} :
    Keeps s₀ (s.recordWake source left aborted start) := by
  unfold State.recordWake
  exact hs.setRg.setPair

theorem Keeps.dropSleep (hs : Keeps s₀ s) :
    Keeps s₀ s.dropSleep := by
  unfold State.dropSleep
  exact hs.same.updRg

theorem Keeps.pendWake (hs : Keeps s₀ s) {source} :
    Keeps s₀ (s.pendWake source) := by
  unfold State.pendWake
  exact Keeps.either hs.updRg hs.updRg

theorem Keeps.fireWake (hs : Keeps s₀ s) {source} :
    Keeps s₀ (s.fireWake source) := by
  unfold State.fireWake
  refine Keeps.either hs ?_
  extract_lets s1 _ _ s2
  have h1 : Keeps s₀ s1 := hs.pendWake
  have h2 : Keeps s₀ s2 := h1.same
  split
  · exact h1.dropSleep.recordWake.evPulse
  · exact Keeps.either h2.recordWake.evPulse h1

/-! ### Machine, Access -/

theorem Keeps.setShadow (hs : Keeps s₀ s) {m page w} :
    Keeps s₀ (s.setShadow m page w) :=
  hs.sameTables id id Tab.wf_set id

theorem Keeps.lowRead (hs : Keeps s₀ s) {m page off lo hi} :
    KeepsFst s₀ (s.lowRead m page off lo hi) := by
  unfold State.lowRead
  extract_lets fill
  have hfill : KeepsFst s₀ fill := KeepsFst.mk hs.setShadow
  split
  · split
    · exact KeepsFst.either (KeepsFst.mk hs.setShadow) hfill
    · exact hfill
  · exact hfill

theorem Keeps.highRead (hs : Keeps s₀ s) {m page off hi} :
    KeepsFst s₀ (s.highRead m page off hi) := by
  unfold State.highRead
  split
  · exact KeepsFst.either (KeepsFst.mk hs.setShadow) (KeepsFst.mk hs)
  · exact KeepsFst.mk hs

theorem Keeps.guardDrop (hs : Keeps s₀ s) {m page off} :
    Keeps s₀ (s.guardDrop m page off) := by
  unfold State.guardDrop
  split
  · exact hs.logMine.portErr.answer
  · exact hs.portErr
  · exact hs

theorem Keeps.rejectUnassigned (hs : Keeps s₀ s) {m page off} :
    Keeps s₀ (s.rejectUnassigned m page off) := by
  unfold State.rejectUnassigned
  exact hs.logErr.logMine.portErr.answer

theorem Keeps.proxyWrite (hs : Keeps s₀ s) {m page off} :
    Keeps s₀ (s.proxyWrite m page off) := by
  unfold State.proxyWrite
  exact hs.logMine.portErr.answer

theorem Keeps.proxyRead (hs : Keeps s₀ s) {m page off} :
    Keeps s₀ (s.proxyRead m page off) := by
  unfold State.proxyRead
  refine Keeps.either hs.answer (Keeps.either ?_ (Keeps.either ?_ hs.answer))
  · split
    · rename_i a s1 _ e
      have h1 : Keeps s₀ s1 := hs.lowRead.of_eq e
      exact h1.answer
  · split
    · rename_i a s1 _ e
      have h1 : Keeps s₀ s1 := hs.highRead.of_eq e
      exact h1.answer

theorem Keeps.write (hs : Keeps s₀ s) {m page off v eff}
    (heff : ∀ a, Keeps s₀ a → KeepsFst s₀ (eff a)) :
    Keeps s₀ (s.write m page off v eff) := by
  unfold State.write
  split
  · exact hs
  · exact hs.guardDrop
  · exact hs.rejectUnassigned
  · exact hs.proxyWrite
  · exact hs.reject
  · exact hs.answer
  · split
    · rename_i a s1 _ e
      have h1 : Keeps s₀ s1 := KeepsFst.of_eq (heff _ hs) e
      exact h1.complete

theorem Keeps.read (hs : Keeps s₀ s) {m page off eff}
    (heff : ∀ a, Keeps s₀ a → KeepsFst s₀ (eff a)) :
    Keeps s₀ (s.read m page off eff) := by
  unfold State.read
  split
  · exact hs
  · exact hs.guardDrop
  · exact hs.answer
  · exact hs.proxyRead
  · exact hs.reject
  · exact hs.answer
  · split
    · rename_i a s1 _ _ e
      have h1 : Keeps s₀ s1 := KeepsFst.of_eq (heff _ hs) e
      exact h1.complete

theorem Keeps.plainWrite (hs : Keeps s₀ s) {m page off v} :
    KeepsFst s₀ (s.plainWrite m page off v) := by
  unfold State.plainWrite
  split
  · exact KeepsFst.mk hs
  · split
    · exact KeepsFst.mk hs
    · exact KeepsFst.mk hs
    · exact KeepsFst.either (KeepsFst.mk hs.setOwn1) (KeepsFst.mk hs.setRg)

/-! ### Machine, Sheaf -/

theorem Keeps.putQueue (hs : Keeps s₀ s) {n q} :
    Keeps s₀ (s.putQueue n q) := by
  unfold State.putQueue
  exact hs.same

theorem Keeps.refreshQueue (hs : Keeps s₀ s) {n} :
    Keeps s₀ (s.refreshQueue n) := by
  unfold State.refreshQueue
  extract_lets _ _ s1
  have h1 : Keeps s₀ s1 := hs.evLevel
  exact h1.evLevel

theorem Keeps.qCount (hs : Keeps s₀ s) {n hi lo} :
    Keeps s₀ (s.qCount n hi lo) := by
  unfold State.qCount
  exact hs.updRg

theorem Keeps.pointerFault (hs : Keeps s₀ s) {n} :
    Keeps s₀ (s.pointerFault n) := by
  unfold State.pointerFault
  extract_lets s1 s2 s3
  have h1 : Keeps s₀ s1 := hs.putQueue
  have h2 : Keeps s₀ s2 := h1.qCount.updRg
  have h3 : Keeps s₀ s3 := h2.evPulse.evPulse.faultRec
  exact h3.refreshQueue

theorem Keeps.rewindQueue (hs : Keeps s₀ s) {n} :
    Keeps s₀ (s.rewindQueue n) := by
  unfold State.rewindQueue
  split
  · exact hs
  · extract_lets s1
    have h1 : Keeps s₀ s1 := hs.putQueue.qCount
    exact h1.evPulse.refreshQueue

theorem Keeps.rewindOf (hs : Keeps s₀ s) {p} :
    Keeps s₀ (s.rewindOf p) := by
  unfold State.rewindOf
  refine hs.foldl ?_
  intro a _ ha
  split
  · exact Keeps.either ha.rewindQueue ha
  · exact ha

theorem Keeps.pushRaw (hs : Keeps s₀ s) {n who raw} :
    KeepsFst s₀ (s.pushRaw n who raw) := by
  unfold State.pushRaw
  extract_lets
  exact KeepsFst.either (KeepsFst.mk hs) (KeepsFst.either (KeepsFst.mk hs)
      (KeepsFst.either (KeepsFst.mk hs.pointerFault) (KeepsFst.either (KeepsFst.mk hs)
      (KeepsFst.either (KeepsFst.mk hs.qCount.evPulse) (KeepsFst.mk hs.putQueue.refreshQueue)))))

theorem Keeps.pushPacket (hs : Keeps s₀ s) {n who payloads} :
    KeepsFst s₀ (s.pushPacket n who payloads) := by
  unfold State.pushPacket
  exact hs.pushRaw

theorem Keeps.appendItem (hs : Keeps s₀ s) {n w last} :
    KeepsFst s₀ (s.appendItem n w last) := by
  unfold State.appendItem
  extract_lets
  exact KeepsFst.either (KeepsFst.either (KeepsFst.mk hs.rewindQueue)
      (KeepsFst.either (KeepsFst.mk hs.putQueue.refreshQueue)
      (KeepsFst.either (KeepsFst.mk hs.putQueue.refreshQueue) (KeepsFst.mk hs.putQueue))))
      (KeepsFst.either (KeepsFst.mk hs.rewindQueue) (KeepsFst.either
      (KeepsFst.either (KeepsFst.mk hs.rewindQueue) (KeepsFst.mk hs.putQueue.refreshQueue))
      (KeepsFst.mk hs.putQueue)))

theorem Keeps.pushItem (hs : Keeps s₀ s) {n who pos payload} :
    KeepsFst s₀ (s.pushItem n who pos payload) := by
  unfold State.pushItem
  extract_lets _ _ s1
  have h1 : Keeps s₀ s1 := hs.rewindQueue
  refine KeepsFst.either hs.pushRaw (KeepsFst.either (KeepsFst.mk hs)
      (KeepsFst.either (KeepsFst.mk hs) (KeepsFst.either (KeepsFst.mk hs.pointerFault)
      (KeepsFst.either ?_ (KeepsFst.either hs.appendItem (KeepsFst.mk hs))))))
  split
  · exact hs.putQueue.appendItem
  · exact KeepsFst.either h1.putQueue.appendItem (KeepsFst.mk hs)

theorem Keeps.logPush (hs : Keeps s₀ s) {n c} :
    Keeps s₀ (s.logPush n c) := by
  unfold State.logPush
  exact Keeps.either hs hs.logErr

theorem Keeps.blockPush (hs : Keeps s₀ s) {n payloads} :
    KeepsFst s₀ (s.blockPush n payloads) := by
  unfold State.blockPush
  split
  · rename_i a s1 _ e
    have h1 : Keeps s₀ s1 := hs.pushPacket.of_eq e
    exact KeepsFst.mk h1.logPush

theorem Keeps.pickFrom (hs : Keeps s₀ s) {l} :
    KeepsFst s₀ (s.pickFrom l) := by
  unfold State.pickFrom
  split
  · rename_i a _ s1 e
    have h1 : Keeps s₀ s1 := hs.draw.of_eq e
    split
    · exact KeepsFst.mk hs
    · exact KeepsFst.mk h1

theorem Keeps.ueRead (hs : Keeps s₀ s) {w} :
    Keeps s₀ (s.ueRead w) := by
  unfold State.ueRead
  exact hs.setRg.evPulse.faultRec

theorem Keeps.itemLost (hs : Keeps s₀ s) :
    Keeps s₀ s.itemLost := by
  unfold State.itemLost
  split
  · rename_i a s1 _ e
    have h1 : Keeps s₀ s1 := hs.pickFrom.of_eq e
    split
    · rename_i a' _ s1' e'
      have hs1' : Keeps s₀ s1' := h1.draw.of_eq e'
      exact hs1'.ueRead

theorem Keeps.popItem (hs : Keeps s₀ s) {n} :
    KeepsFst s₀ (s.popItem n) := by
  unfold State.popItem
  extract_lets
  refine KeepsFst.either (KeepsFst.mk hs.pointerFault) ?_
  split
  · exact KeepsFst.mk hs
  · extract_lets s1
    have h1 : Keeps s₀ s1 := hs.putQueue.refreshQueue
    exact KeepsFst.either (KeepsFst.mk h1.qCount.itemLost) (KeepsFst.mk h1)

theorem Keeps.popLogged (hs : Keeps s₀ s) {n} :
    KeepsFst s₀ (s.popLogged n) := by
  unfold State.popLogged
  split
  · rename_i a s1 _ _ e
    have h1 : Keeps s₀ s1 := hs.popItem.of_eq e
    exact KeepsFst.mk h1.logPush

theorem Keeps.peekEffect (hs : Keeps s₀ s) {n} :
    KeepsFst s₀ (peekEffect n s) := by
  unfold Machine.peekEffect
  refine KeepsFst.either (KeepsFst.mk hs.pointerFault) ?_
  split
  · exact KeepsFst.either (KeepsFst.mk hs.itemLost) (KeepsFst.mk hs)
  · exact KeepsFst.mk hs

theorem Keeps.popEffect (hs : Keeps s₀ s) {m n} :
    KeepsFst s₀ (popEffect m n s) := by
  unfold Machine.popEffect
  exact KeepsFst.either hs.popItem (KeepsFst.mk hs)

theorem Keeps.pushEffect (hs : Keeps s₀ s) {m n v} :
    KeepsFst s₀ (pushEffect m n v s) := by
  unfold Machine.pushEffect
  exact KeepsFst.either (KeepsFst.mk hs) (KeepsFst.either (KeepsFst.either (KeepsFst.mk hs.pointerFault)
      (KeepsFst.either (KeepsFst.mk hs.rewindQueue) (KeepsFst.mk hs))) hs.pushItem)

theorem Keeps.poolTake (hs : Keeps s₀ s) {c} :
    Keeps s₀ (s.poolTake c) := by
  unfold State.poolTake
  exact hs.updRg

theorem Keeps.poolGive (hs : Keeps s₀ s) {c} :
    Keeps s₀ (s.poolGive c) := by
  unfold State.poolGive
  exact hs.updRg

theorem Keeps.qcfgEffect (hs : Keeps s₀ s) {n v} :
    KeepsFst s₀ (qcfgEffect n v s) := by
  unfold Machine.qcfgEffect
  extract_lets _ _ _ put s1
  have h1 : Keeps s₀ s1 := hs.rewindQueue
  exact KeepsFst.either (KeepsFst.mk hs) (KeepsFst.either (KeepsFst.mk hs)
      (KeepsFst.either (KeepsFst.mk hs) (KeepsFst.either (KeepsFst.mk hs.setRg.refreshQueue)
      (KeepsFst.either (KeepsFst.either (KeepsFst.mk hs) (KeepsFst.mk hs.poolTake.putQueue.setRg.refreshQueue))
      (KeepsFst.either (KeepsFst.mk h1.poolGive.putQueue.setRg.refreshQueue) (KeepsFst.mk hs.setRg.refreshQueue))))))

theorem Keeps.sheafReset (hs : Keeps s₀ s) :
    Keeps s₀ s.sheafReset := by
  unfold State.sheafReset
  extract_lets s1 _ s2 s3
  have h1 : Keeps s₀ s1 := hs.rewindOf
  have h2 : Keeps s₀ s2 := h1.sameTables Tab.wf_keep id id id
  have h3 : Keeps s₀ s3 := h2.setRg
  exact h3.foldl (fun _ _ ha => ha.refreshQueue)

theorem Keeps.execWholePush (hs : Keeps s₀ s) {q who payloads} :
    KeepsOut s₀ (execWholePush q who payloads s) := by
  unfold Machine.execWholePush
  refine KeepsOut.either KeepsOut.fault ?_
  split
  · rename_i a s1 _ e
    have h1 : Keeps s₀ s1 := KeepsFst.of_eq (KeepsFst.either (KeepsFst.mk hs) hs.pushPacket) e
    exact KeepsOut.next h1.logPush

theorem Keeps.execItemPush (hs : Keeps s₀ s) {q who pos payload} :
    KeepsOut s₀ (execItemPush q who pos payload s) := by
  unfold Machine.execItemPush
  split
  · rename_i a s1 _ e
    have h1 : Keeps s₀ s1 := KeepsFst.of_eq (KeepsFst.either (KeepsFst.mk hs) hs.pushItem) e
    exact KeepsOut.next h1.logPush

theorem Keeps.execQwinPush (hs : Keeps s₀ s) {m q v} :
    KeepsOut s₀ (execQwinPush m q v s) := by
  unfold Machine.execQwinPush
  exact KeepsOut.next (hs.write (fun _ ha => ha.pushEffect))

theorem Keeps.execQueuePop (hs : Keeps s₀ s) {m q} :
    KeepsOut s₀ (execQueuePop m q s) := by
  unfold Machine.execQueuePop
  exact KeepsOut.next (hs.read (fun _ ha => ha.popEffect))

theorem Keeps.execQcfgWrite (hs : Keeps s₀ s) {m q v} :
    KeepsOut s₀ (execQcfgWrite m q v s) := by
  unfold Machine.execQcfgWrite
  exact KeepsOut.next (hs.write (fun _ ha => ha.qcfgEffect))

/-! ### Machine, Slots -/

theorem Keeps.refreshOps (hs : Keeps s₀ s) :
    Keeps s₀ s.refreshOps := by
  unfold State.refreshOps
  extract_lets s1
  have h1 : Keeps s₀ s1 := hs.evLevel
  exact h1.evLevel

theorem Keeps.putSlot (hs : Keeps s₀ s) {tag k} :
    Keeps s₀ (s.putSlot tag k) := by
  unfold State.putSlot
  exact hs.same.refreshOps

theorem Keeps.allocSlot (hs : Keeps s₀ s) {src page op args fence secure} :
    KeepsSome s₀ (s.allocSlot src page op args fence secure) := by
  unfold State.allocSlot
  split
  · exact KeepsSome.absent
  · extract_lets _ _ s1
    have h1 : Keeps s₀ s1 := hs.putSlot
    exact KeepsSome.given h1.same

theorem Keeps.agentQueue (hs : Keeps s₀ s) {src page op args} :
    KeepsSome s₀ (s.agentQueue src page op args) := by
  unfold State.agentQueue
  exact KeepsSome.either hs.allocSlot KeepsSome.absent

theorem Keeps.tagEnded (hs : Keeps s₀ s) {tag c} :
    Keeps s₀ (s.tagEnded tag c) := by
  unfold State.tagEnded
  extract_lets
  exact hs.same

theorem Keeps.loaderEnded (hs : Keeps s₀ s) {tag c} :
    Keeps s₀ (s.loaderEnded tag c) := by
  unfold State.loaderEnded
  exact hs.same

theorem Keeps.endSlotAt (hs : Keeps s₀ s) {tag c t} :
    Keeps s₀ (s.endSlotAt tag c t) := by
  unfold State.endSlotAt
  extract_lets _ s0 s1
  have h0 : Keeps s₀ s0 := hs.putSlot
  have h1 : Keeps s₀ s1 := Keeps.either h0.tagEnded (Keeps.either h0.loaderEnded h0)
  exact Keeps.either h1 h1.logErr

theorem Keeps.endSlot (hs : Keeps s₀ s) {tag c} :
    Keeps s₀ (s.endSlot tag c) := by
  unfold State.endSlot
  exact hs.endSlotAt

theorem Keeps.endSlots (hs : Keeps s₀ s) {p c} :
    Keeps s₀ (s.endSlots p c) := by
  unfold State.endSlots
  exact hs.foldl (fun _ _ ha => Keeps.either ha.endSlot ha)

theorem Keeps.doorbellEffect (hs : Keeps s₀ s) {m v} :
    KeepsFst s₀ (doorbellEffect m v s) := by
  unfold Machine.doorbellEffect
  extract_lets
  refine KeepsFst.either (KeepsFst.mk hs.setRg) ?_
  split
  · rename_i a e
    exact KeepsFst.mk hs.setRg
  · rename_i a _ s1 e
    have h1 : Keeps s₀ s1 := hs.allocSlot.of_eq e
    exact KeepsFst.mk h1.setRg

theorem Keeps.cancelEffect (hs : Keeps s₀ s) {v} :
    KeepsFst s₀ (cancelEffect v s) := by
  unfold Machine.cancelEffect
  extract_lets
  exact KeepsFst.either (KeepsFst.mk hs.endSlot) (KeepsFst.mk hs)

theorem Keeps.startSlot (hs : Keeps s₀ s) {tag} :
    Keeps s₀ (s.startSlot tag) := by
  unfold State.startSlot
  extract_lets
  exact hs.putSlot

theorem Keeps.setResult (hs : Keeps s₀ s) {tag c} :
    Keeps s₀ (s.setResult tag c) := by
  unfold State.setResult
  exact hs.putSlot

theorem Keeps.runOp (hs : Keeps s₀ s) {tag page op argsOk eff}
    (heff : ∀ x0 a, Keeps s₀ a → KeepsFst s₀ (eff x0 a)) :
    Keeps s₀ (s.runOp tag page op argsOk eff) := by
  unfold State.runOp
  refine Keeps.either (Keeps.either hs.setResult (Keeps.either hs.setResult ?_)) hs
  split
  · rename_i a s1 _ e
    have h1 : Keeps s₀ s1 := KeepsFst.of_eq (heff _ _ hs) e
    exact h1.setResult
  · rename_i a s1 e
    have h1 : Keeps s₀ s1 := KeepsFst.of_eq (heff _ _ hs) e
    exact h1

theorem Keeps.execDoorbell (hs : Keeps s₀ s) {m v} :
    KeepsOut s₀ (execDoorbell m v s) := by
  unfold Machine.execDoorbell
  exact KeepsOut.next (hs.write (fun _ ha => ha.doorbellEffect))

theorem Keeps.execCancel (hs : Keeps s₀ s) {m v} :
    KeepsOut s₀ (execCancel m v s) := by
  unfold Machine.execCancel
  exact KeepsOut.next (hs.write (fun _ ha => ha.cancelEffect))

/-! ### Machine, Own -/

theorem Keeps.syncWdt (hs : Keeps s₀ s) :
    Keeps s₀ s.syncWdt := by
  unfold State.syncWdt
  extract_lets
  exact hs.same

theorem Keeps.startLease (hs : Keeps s₀ s) {period} :
    Keeps s₀ (s.startLease period) := by
  unfold State.startLease
  exact hs.same

theorem Keeps.holdLease (hs : Keeps s₀ s) :
    Keeps s₀ s.holdLease := by
  unfold State.holdLease
  split
  · exact hs.same
  · exact hs

theorem Keeps.resumeLease (hs : Keeps s₀ s) :
    Keeps s₀ s.resumeLease := by
  unfold State.resumeLease
  split
  · exact hs
  · exact hs
  · exact hs.same

theorem Keeps.auditOwn (hs : Keeps s₀ s) {kind master remain} :
    Keeps s₀ (s.auditOwn kind master remain) := by
  unfold State.auditOwn
  exact Keeps.either hs.same hs.same

theorem Keeps.changeOwner (hs : Keeps s₀ s) {kind heir auditor} :
    Keeps s₀ (s.changeOwner kind heir auditor) := by
  unfold State.changeOwner
  extract_lets from_ _ s1 s2 s3 s4 s5 s6 s7
  have h1 : Keeps s₀ s1 := hs.same
  have h2 : Keeps s₀ s2 := h1.setRg.setPair
  have h3 : Keeps s₀ s3 := h2.auditOwn
  have h4 : Keeps s₀ s4 := h3.endSlots
  have h5 : Keeps s₀ s5 := h4.foldl (fun _ _ ha => ha.setRg)
  have h6 : Keeps s₀ s6 := by
    unfold s6
    clear_value from_
    split
    · exact hs.same.setRg.setPair.auditOwn.endSlots.foldl (fun _ _ ha => ha.setRg)
    · exact Keeps.rewindOf (hs.same.setRg.setPair.auditOwn.endSlots.foldl (fun _ _ ha => ha.setRg))
  have h7 : Keeps s₀ s7 := h6.evLevel.evLevel
  exact h7.evPulse.syncWdt

theorem Keeps.lapse (hs : Keeps s₀ s) :
    Keeps s₀ s.lapse := by
  unfold State.lapse
  split
  · extract_lets s1
    have h1 : Keeps s₀ s1 := hs.reach
    exact h1.evPulse.changeOwner
  · exact hs

theorem Keeps.claimEffect (hs : Keeps s₀ s) {m v} :
    KeepsFst s₀ (claimEffect m v s) := by
  unfold Machine.claimEffect
  extract_lets s' _ _ s1
  have hs' : Keeps s₀ s' := Keeps.either hs.lapse hs
  have h1 : Keeps s₀ s1 := hs'.same
  refine KeepsFst.either (KeepsFst.mk hs') (KeepsFst.either (KeepsFst.mk hs') (KeepsFst.either (KeepsFst.mk hs') ?_))
  split
  · exact KeepsFst.either (KeepsFst.mk hs') (KeepsFst.mk hs'.same)
  · exact KeepsFst.mk h1.evLevel

theorem Keeps.closeWindow (hs : Keeps s₀ s) :
    Keeps s₀ s.closeWindow := by
  unfold State.closeWindow
  split
  · exact hs
  · extract_lets s1
    have h1 : Keeps s₀ s1 := hs.reach
    split
    · exact h1
    · exact h1.changeOwner.startLease

theorem Keeps.leaseEffect (hs : Keeps s₀ s) {m v} :
    KeepsFst s₀ (leaseEffect m v s) := by
  unfold Machine.leaseEffect
  extract_lets
  exact KeepsFst.either (KeepsFst.mk hs) (KeepsFst.either (KeepsFst.mk hs) (KeepsFst.mk hs.startLease))

theorem Keeps.handoverEffect (hs : Keeps s₀ s) {m v} :
    KeepsFst s₀ (handoverEffect m v s) := by
  unfold Machine.handoverEffect
  refine KeepsFst.either (KeepsFst.mk hs) ?_
  split
  · exact KeepsFst.mk hs
  · exact KeepsFst.either (KeepsFst.mk hs) (KeepsFst.either (KeepsFst.mk hs)
        (KeepsFst.either (KeepsFst.mk hs) (KeepsFst.either (KeepsFst.mk hs.same.evLevel)
        (KeepsFst.mk hs.same.evLevel))))

theorem Keeps.expireHandover (hs : Keeps s₀ s) :
    Keeps s₀ s.expireHandover := by
  unfold State.expireHandover
  split
  · exact hs
  · exact hs
  · extract_lets s1
    have h1 : Keeps s₀ s1 := hs.reach
    exact h1.same.evLevel.evPulse

theorem Keeps.acceptEffect (hs : Keeps s₀ s) {m v} :
    KeepsFst s₀ (acceptEffect m v s) := by
  unfold Machine.acceptEffect
  extract_lets
  refine KeepsFst.either (KeepsFst.mk hs) ?_
  split
  · exact KeepsFst.mk hs
  · exact KeepsFst.either (KeepsFst.mk hs) (KeepsFst.either (KeepsFst.mk hs) (KeepsFst.mk hs.changeOwner.startLease))

theorem Keeps.releaseEffect (hs : Keeps s₀ s) {m v} :
    KeepsFst s₀ (releaseEffect m v s) := by
  unfold Machine.releaseEffect
  exact KeepsFst.either (KeepsFst.mk hs) (KeepsFst.either (KeepsFst.mk hs) (KeepsFst.mk hs.changeOwner))

theorem Keeps.execClaim (hs : Keeps s₀ s) {m v} :
    KeepsOut s₀ (execClaim m v s) := by
  unfold Machine.execClaim
  exact KeepsOut.next (hs.write (fun _ ha => ha.claimEffect))

theorem Keeps.execClaimWindowClose (hs : Keeps s₀ s) :
    KeepsOut s₀ (execClaimWindowClose s) := by
  unfold Machine.execClaimWindowClose
  exact KeepsOut.next hs.closeWindow

theorem Keeps.execLease (hs : Keeps s₀ s) {m v} :
    KeepsOut s₀ (execLease m v s) := by
  unfold Machine.execLease
  exact KeepsOut.next (hs.write (fun _ ha => ha.leaseEffect))

theorem Keeps.execLeaseLapse (hs : Keeps s₀ s) :
    KeepsOut s₀ (execLeaseLapse s) := by
  unfold Machine.execLeaseLapse
  exact KeepsOut.next hs.lapse

theorem Keeps.execHandover (hs : Keeps s₀ s) {m v} :
    KeepsOut s₀ (execHandover m v s) := by
  unfold Machine.execHandover
  exact KeepsOut.next (hs.write (fun _ ha => ha.handoverEffect))

theorem Keeps.execHoExpired (hs : Keeps s₀ s) :
    KeepsOut s₀ (execHoExpired s) := by
  unfold Machine.execHoExpired
  exact KeepsOut.next hs.expireHandover

theorem Keeps.execAccept (hs : Keeps s₀ s) {m v} :
    KeepsOut s₀ (execAccept m v s) := by
  unfold Machine.execAccept
  exact KeepsOut.next (hs.write (fun _ ha => ha.acceptEffect))

theorem Keeps.execOwnRelease (hs : Keeps s₀ s) {m v} :
    KeepsOut s₀ (execOwnRelease m v s) := by
  unfold Machine.execOwnRelease
  exact KeepsOut.next (hs.write (fun _ ha => ha.releaseEffect))

theorem Keeps.execAuditFlush (hs : Keeps s₀ s) :
    KeepsOut s₀ (execAuditFlush s) := by
  unfold Machine.execAuditFlush
  exact KeepsOut.next (Keeps.either hs.same hs)

/-! ### Machine, Migrate -/

theorem Keeps.setSramByte (hs : Keeps s₀ s) {a b} :
    Keeps s₀ (s.setSramByte a b) :=
  { hs with wfSram := fun h => Tab.wf_set (hs.wfSram h) }

theorem Keeps.setSramBytes (hs : Keeps s₀ s) {a l} :
    Keeps s₀ (s.setSramBytes a l) := by
  unfold State.setSramBytes
  refine hs.foldl ?_
  intro a' _ ha'
  split
  · exact ha'.setSramByte

theorem Keeps.mendWords (hs : Keeps s₀ s) {stay} :
    Keeps s₀ (s.mendWords stay) := by
  unfold State.mendWords
  exact hs.sameMem

theorem Keeps.setSramWord (hs : Keeps s₀ s) {w v} :
    Keeps s₀ (s.setSramWord w v) := by
  unfold State.setSramWord
  exact hs.mendWords.setSramBytes

theorem Keeps.zeroFrame (hs : Keeps s₀ s) {f} :
    Keeps s₀ (s.zeroFrame f) :=
  { hs.mendWords (stay := fun w => w / 1024 != f) with
    wfSram := fun h => Tab.wf_keep ((hs.mendWords (stay := fun w => w / 1024 != f)).wfSram h) }

theorem Keeps.copyFrame (hs : Keeps s₀ s) {src dst} :
    Keeps s₀ (s.copyFrame src dst) := by
  unfold State.copyFrame
  extract_lets s1 _ _ s2
  have h1 : Keeps s₀ s1 := hs.zeroFrame
  have h2 : Keeps s₀ s2 := h1.foldl (fun _ _ ha => ha.setSramByte)
  exact h2.sameMem

theorem Keeps.setRegion (hs : Keeps s₀ s) {h r} :
    Keeps s₀ (s.setRegion h r) := by
  unfold State.setRegion
  exact hs.sameMem

theorem Keeps.place (hs : Keeps s₀ s) {kind reason subject choice from_ detail} :
    Keeps s₀ (s.place kind reason subject choice from_ detail) := by
  unfold State.place
  extract_lets _ _ s1
  have h1 : Keeps s₀ s1 := hs.sameMem
  exact h1.updRg.evPulse

theorem Keeps.refreshNolog (hs : Keeps s₀ s) :
    Keeps s₀ s.refreshNolog := by
  unfold State.refreshNolog
  exact hs.evLevel

theorem Keeps.refreshGranary (hs : Keeps s₀ s) :
    Keeps s₀ s.refreshGranary := by
  unfold State.refreshGranary
  exact hs.setDegraded

theorem Keeps.pinBlock (hs : Keeps s₀ s) {f} :
    Keeps s₀ (s.pinBlock f) := by
  unfold State.pinBlock
  exact hs.place.evPulse

theorem Keeps.setPin (hs : Keeps s₀ s) {h w b} :
    Keeps s₀ (s.setPin h w b) := by
  unfold State.setPin
  split
  · exact hs
  · extract_lets s1 _ s2
    have h1 : Keeps s₀ s1 := hs.setRegion
    have h2 : Keeps s₀ s2 := h1.sameMem
    split
    · exact Keeps.either (Keeps.either h2.pinBlock h2) h1
    · exact h1

theorem Keeps.finishJob (hs : Keeps s₀ s) {j} :
    Keeps s₀ (s.finishJob j) := by
  unfold State.finishJob
  extract_lets s1
  have h1 : Keeps s₀ s1 := by
    unfold s1
    split
    · exact hs
    · exact hs.setPin
  split
  · exact h1.setResult
  · exact h1

theorem Keeps.frameRetire (hs : Keeps s₀ s) {f choice} :
    Keeps s₀ (s.frameRetire f choice) := by
  unfold State.frameRetire
  exact hs.place

theorem Keeps.beginCopy (hs : Keeps s₀ s) {src dst reason} :
    Keeps s₀ (s.beginCopy src dst reason) := by
  unfold State.beginCopy
  extract_lets _ s1 s2
  have h1 : Keeps s₀ s1 := hs.place
  have h2 : Keeps s₀ s2 := Keeps.either h1.frameRetire h1
  exact h2.sameMem

theorem Keeps.frameStays (hs : Keeps s₀ s) {f reason} :
    Keeps s₀ (s.frameStays f reason) := by
  unfold State.frameStays
  exact Keeps.either hs.pinBlock (Keeps.either hs.frameRetire hs)

theorem Keeps.nextCopy {s₀ s : State} (hs : Keeps s₀ s) {fuel} :
    Keeps s₀ (s.nextCopy fuel) := by
  unfold State.nextCopy
  split
  · exact hs
  · refine Keeps.either hs ?_
    split
    · exact hs
    · extract_lets _ without s1
      have hwithout : Keeps s₀ without := hs.sameMem
      have h1 : Keeps s₀ s1 := hs.sameMem
      split
      · exact hwithout.finishJob.nextCopy
      · refine Keeps.either hs (Keeps.either h1.nextCopy (Keeps.either h1.frameStays.nextCopy ?_))
        split
        · rename_i a _ s2 _ e
          have h2 : Keeps s₀ s2 := h1.pickFrom.of_eq e
          exact h2.beginCopy
        · rename_i a _ a' _ e _
          have ha' : Keeps s₀ a' := h1.pickFrom.of_eq e
          exact hwithout.setResult.nextCopy
        · rename_i a _ s2 e _
          have h2 : Keeps s₀ s2 := h1.pickFrom.of_eq e
          exact h2.frameStays.nextCopy

theorem Keeps.addJob (hs : Keeps s₀ s) {j} :
    Keeps s₀ (s.addJob j) := by
  unfold State.addJob
  exact hs.sameMem.nextCopy

theorem Keeps.swapFrame (hs : Keeps s₀ s) {src dst} :
    Keeps s₀ (s.swapFrame src dst) := by
  unfold State.swapFrame
  split
  · exact hs
  · split
    · exact hs
    · exact hs.setRegion

theorem Keeps.moveFrame (hs : Keeps s₀ s) {src dst} :
    Keeps s₀ (s.moveFrame src dst) := by
  unfold State.moveFrame
  exact hs.copyFrame.swapFrame.zeroFrame

theorem Keeps.redirectCopy (hs : Keeps s₀ s) :
    Keeps s₀ s.redirectCopy := by
  unfold State.redirectCopy
  split
  · exact hs
  · refine Keeps.either hs ?_
    extract_lets
    exact hs.sameMem.nextCopy

theorem Keeps.suspectBank (hs : Keeps s₀ s) {b} :
    Keeps s₀ (s.suspectBank b) := by
  unfold State.suspectBank
  extract_lets _ _ s1 s2
  have h1 : Keeps s₀ s1 := hs.updRg.updRg
  have h2 : Keeps s₀ s2 := h1.place.evPulse.faultRec
  exact h2.refreshGranary.redirectCopy.addJob

theorem Keeps.moveOff (hs : Keeps s₀ s) :
    Keeps s₀ s.moveOff := by
  unfold State.moveOff
  extract_lets s1
  have h1 : Keeps s₀ s1 := hs.foldl (fun _ _ ha => Keeps.either ha ha.addJob)
  exact Keeps.either h1 h1.addJob

theorem Keeps.corrected (hs : Keeps s₀ s) {b} :
    Keeps s₀ (s.corrected b) := by
  unfold State.corrected
  extract_lets _ _ _ _ s1
  have h1 : Keeps s₀ s1 := hs.sameMem
  exact Keeps.either h1.suspectBank h1

theorem Keeps.correctWords (hs : Keeps s₀ s) {of} :
    Keeps s₀ (s.correctWords of) := by
  unfold State.correctWords
  exact hs.sameMem.foldl (fun _ _ ha => ha.corrected)

theorem Keeps.copyDone (hs : Keeps s₀ s) :
    Keeps s₀ s.copyDone := by
  unfold State.copyDone
  split
  · exact hs
  · extract_lets _ s1
    have h1 : Keeps s₀ s1 := hs.sameMem
    exact Keeps.nextCopy (Keeps.either h1.correctWords.moveFrame h1)

/-! ### Machine, Memory -/

theorem Keeps.freeBytes {s₀ s : State} (hs : Keeps s₀ s) {a} :
    KeepsFst s₀ (s.freeBytes a) := by
  unfold State.freeBytes
  split
  · exact KeepsFst.mk hs
  · split
    · rename_i a' _ s1 e
      have h1 : Keeps s₀ s1 := hs.draw.of_eq e
      split
      · rename_i a'' s2 _ e'
        have h2 : Keeps s₀ s2 := h1.freeBytes.of_eq e'
        exact KeepsFst.mk h2

theorem Keeps.readWord (hs : Keeps s₀ s) {w} :
    KeepsFst s₀ (s.readWord w) := by
  unfold State.readWord
  exact KeepsFst.either (KeepsFst.mk hs.ueRead) (KeepsFst.either (KeepsFst.mk hs.correctWords) (KeepsFst.mk hs))

theorem Keeps.countAccess (hs : Keeps s₀ s) {near w} :
    Keeps s₀ (s.countAccess near w) := by
  unfold State.countAccess
  extract_lets
  exact Keeps.either hs.sameMem hs.sameMem

theorem Keeps.winRead (hs : Keeps s₀ s) {near a} :
    KeepsFst s₀ (s.winRead near a) := by
  unfold State.winRead
  split
  · exact KeepsFst.mk hs
  · refine KeepsFst.either (KeepsFst.mk hs.ueRead) ?_
    split
    · rename_i a' _ s1 e
      have h1 : Keeps s₀ s1 := hs.correctWords.draw.of_eq e
      exact KeepsFst.mk h1
  · split
    · rename_i a' s1 _ e
      have h1 : Keeps s₀ s1 := hs.countAccess.readWord.of_eq e
      exact KeepsFst.mk h1
    · rename_i a' s1 e
      have h1 : Keeps s₀ s1 := hs.countAccess.readWord.of_eq e
      exact KeepsFst.mk h1

theorem Keeps.winReads {s₀ s : State} (hs : Keeps s₀ s) {near a a'} :
    KeepsFst s₀ (s.winReads near a a') := by
  unfold State.winReads
  split
  · exact KeepsFst.mk hs
  · split
    · rename_i a'' s1 e
      have h1 : Keeps s₀ s1 := hs.winRead.of_eq e
      exact KeepsFst.mk h1
    · rename_i a'' s1 e
      have h1 : Keeps s₀ s1 := hs.winRead.of_eq e
      exact KeepsFst.mk h1
    · rename_i a'' s1 _ e
      have h1 : Keeps s₀ s1 := hs.winRead.of_eq e
      split
      · rename_i a''' s2 _ e'
        have h2 : Keeps s₀ s2 := h1.winReads.of_eq e'
        exact KeepsFst.mk h2
      · rename_i a''' s2 _ e'
        have h2 : Keeps s₀ s2 := h1.winReads.of_eq e'
        exact KeepsFst.mk h2

theorem Keeps.winWrite (hs : Keeps s₀ s) {a v} :
    Keeps s₀ (s.winWrite a v) := by
  unfold State.winWrite
  split
  · exact hs.countAccess.setSramWord
  · exact hs

theorem Keeps.winWrites (hs : Keeps s₀ s) {a l} :
    Keeps s₀ (s.winWrites a l) := by
  unfold State.winWrites
  refine hs.foldl ?_
  intro a' _ ha'
  split
  · exact ha'.winWrite

theorem Keeps.winPutByte (hs : Keeps s₀ s) {a b} :
    Keeps s₀ (s.winPutByte a b) := by
  unfold State.winPutByte
  split
  · exact hs.mendWords.setSramByte
  · exact hs

theorem Keeps.winPutBytes (hs : Keeps s₀ s) {a l} :
    Keeps s₀ (s.winPutBytes a l) := by
  unfold State.winPutBytes
  extract_lets s1
  have h1 : Keeps s₀ s1 := by
    unfold s1
    refine hs.foldl ?_
    intro a' _ ha'
    split
    · exact ha'.winPutByte
  refine h1.foldl ?_
  intro a' _ ha'
  split
  · exact ha'.countAccess
  · exact ha'

theorem Keeps.winBytes (hs : Keeps s₀ s) {a n} :
    KeepsFst s₀ (s.winBytes a n) := by
  unfold State.winBytes
  extract_lets
  split
  · rename_i a' s2 _ e
    have h2 : Keeps s₀ s2 := hs.winReads.of_eq e
    exact KeepsFst.mk h2
  · rename_i a' s2 _ e
    have h2 : Keeps s₀ s2 := hs.winReads.of_eq e
    exact KeepsFst.mk h2

theorem Keeps.ctxAlloc (hs : Keeps s₀ s) {c} :
    KeepsSome s₀ (s.ctxAlloc c) := by
  unfold State.ctxAlloc
  refine KeepsSome.either ?_ KeepsSome.absent
  split
  · exact KeepsSome.absent
  · exact KeepsSome.given hs.sameMem

theorem Keeps.ctxRead (hs : Keeps s₀ s) {k} :
    KeepsFst s₀ (s.ctxRead k) := by
  unfold State.ctxRead
  split
  · exact KeepsFst.mk hs.ueRead
  · exact KeepsFst.mk hs

theorem Keeps.ctxFree (hs : Keeps s₀ s) {k} :
    Keeps s₀ (s.ctxFree k) := by
  unfold State.ctxFree
  exact hs.sameMem

/-! ### Machine, CribStore -/

theorem Keeps.updCrib (hs : Keeps s₀ s) {f} :
    Keeps s₀ (s.updCrib f) := by
  unfold State.updCrib
  exact hs.same

theorem Keeps.cribEv (hs : Keeps s₀ s) {b} :
    Keeps s₀ (s.cribEv b) := by
  unfold State.cribEv
  exact hs.evPulse.pulse

theorem Keeps.secLog (hs : Keeps s₀ s) {kind detail slot master} :
    Keeps s₀ (s.secLog kind detail slot master) := by
  unfold State.secLog
  extract_lets
  exact hs.updCrib

theorem Keeps.writeKey (hs : Keeps s₀ s) {n k master} :
    Keeps s₀ (s.writeKey n k master) := by
  unfold State.writeKey
  extract_lets s1
  have h1 : Keeps s₀ s1 := hs.updCrib
  exact h1.secLog.cribEv

theorem Keeps.reseedDrbg (hs : Keeps s₀ s) :
    Keeps s₀ s.reseedDrbg := by
  unfold State.reseedDrbg
  exact hs.updRg.cribEv

theorem Keeps.drbgBytes (hs : Keeps s₀ s) {n} :
    KeepsFst s₀ (s.drbgBytes n) := by
  unfold State.drbgBytes
  extract_lets s1 s2
  have h1 : Keeps s₀ s1 := hs.updRg
  have h2 : Keeps s₀ s2 := Keeps.either h1.reseedDrbg h1
  exact h2.freeBytes

theorem Keeps.cribError (hs : Keeps s₀ s) {test} :
    Keeps s₀ (s.cribError test) := by
  unfold State.cribError
  extract_lets s1 s2
  have h1 : Keeps s₀ s1 := hs.levelSource.setReadyBits
  have h2 : Keeps s₀ s2 := h1.updRg.secLog
  exact h2.faultRec

theorem Keeps.zeroiseCrib (hs : Keeps s₀ s) {master} :
    Keeps s₀ (s.zeroiseCrib master) := by
  unfold State.zeroiseCrib
  extract_lets s1
  have h1 : Keeps s₀ s1 := hs.updCrib
  exact h1.secLog.cribEv.cribEv

theorem Keeps.authFail (hs : Keeps s₀ s) {what slot master} :
    Keeps s₀ (s.authFail what slot master) := by
  unfold State.authFail
  exact hs.secLog.cribEv

/-! ### Machine, Flash -/

theorem Keeps.refreshFlash (hs : Keeps s₀ s) :
    Keeps s₀ s.refreshFlash := by
  unfold State.refreshFlash
  extract_lets s1
  have h1 : Keeps s₀ s1 := hs.evLevel.evLevel.evLevel
  exact h1.setDegraded

theorem FlashState.Canonical.putPhys {x : FlashState} (h : x.Canonical) {p l} : (x.putPhys p l).Canonical :=
  Tab.wf_foldl_set (fun e : Byte × Nat => p * 32 + e.2) (fun e => e.1) _ h

theorem FlashState.Canonical.wipe {x : FlashState} (h : x.Canonical) {p} : (x.wipe p).Canonical := Tab.wf_keep h

theorem FlashState.Canonical.copyWords {x : FlashState} (h : x.Canonical) {r l} : (x.copyWords r l).Canonical := by
  unfold FlashState.copyWords
  induction l generalizing x with
  | nil => exact h
  | cons e l ih => exact ih h.putPhys

theorem FlashState.Canonical.wipes {x : FlashState} (h : x.Canonical) {l : List Nat} :
    (l.foldl FlashState.wipe x).Canonical := by
  induction l generalizing x with
  | nil => exact h
  | cons e l ih => exact ih h.wipe

theorem FlashState.Canonical.rewindow {x : FlashState} (h : x.Canonical) {w} : (x.rewindow w).Canonical := by
  unfold FlashState.rewindow
  extract_lets
  split
  · exact h
  · exact h.wipes

theorem FlashState.Canonical.dropLines {x : FlashState} (h : x.Canonical) {cw n} : (x.dropLines cw n).Canonical :=
    h.same

theorem FlashState.Canonical.dropPhys {x : FlashState} (h : x.Canonical) {p} : (x.dropPhys p).Canonical := h.same

theorem FlashState.Canonical.dropJournal {x : FlashState} (h : x.Canonical) {n} : (x.dropJournal n).Canonical :=
    h.same

theorem FlashState.Canonical.abandonRefresh {x : FlashState} (h : x.Canonical) {n} : (x.abandonRefresh n).Canonical :=
  h.same

theorem FlashState.Canonical.cutWork {x : FlashState} (h : x.Canonical) : x.cutWork.Canonical := h.same

theorem FlashState.Canonical.enter {x : FlashState} (h : x.Canonical) {e} : (x.enter e).Canonical := by
  unfold FlashState.enter
  extract_lets
  split
  · exact h
  · split
    · exact h
    · split <;> exact h

theorem FlashState.Canonical.openRun {x : FlashState} (h : x.Canonical) {r} : (x.openRun r).Canonical := by
  unfold FlashState.openRun
  split
  · exact h.same
  · exact h.dropLines.abandonRefresh.same

theorem Keeps.updFlash (hs : Keeps s₀ s) {f} (hf : ∀ x : FlashState, x.Canonical → (f x).Canonical) :
    Keeps s₀ (s.updFlash f) :=
  { hs with wfCells := fun h => hf _ (hs.wfCells h) }

theorem Keeps.updLog (hs : Keeps s₀ s) {f} :
    Keeps s₀ (s.updLog f) := by
  unfold State.updLog
  exact hs.updFlash (by exact fun _ h => h.same)

theorem Keeps.noteWeak (hs : Keeps s₀ s) {cw cbits ue} :
    Keeps s₀ (s.noteWeak cw cbits ue) := by
  unfold State.noteWeak
  extract_lets
  exact Keeps.either (hs.updFlash (by exact fun _ h => h.same))
      (Keeps.either hs (Keeps.either hs.updRg (Keeps.refreshFlash
      (Keeps.evPulse (Keeps.updRg (hs.updFlash (by exact fun _ h => h.same)))))))

theorem Keeps.noteRead (hs : Keeps s₀ s) {who cw cbits ue} :
    Keeps s₀ (s.noteRead who cw cbits ue) := by
  unfold State.noteRead
  extract_lets s1 s2
  have h1 : Keeps s₀ s1 := by
    unfold s1
    split
    · exact hs.setOwn1
    · exact hs
  have h2 : Keeps s₀ s2 := Keeps.either h1.updRg.evPulse.faultRec (Keeps.either h1.updRg h1)
  exact h2.noteWeak

theorem Keeps.putCw (hs : Keeps s₀ s) {cw l} :
    Keeps s₀ (s.putCw cw l) := by
  unfold State.putCw
  exact hs.updFlash (by exact fun _ h => h.putPhys)

theorem Keeps.putCws {s₀ s : State} (hs : Keeps s₀ s) {a a' a''} :
    Keeps s₀ (s.putCws a a' a'') := by
  unfold State.putCws
  split
  · exact hs
  · exact hs.putCw.putCws

theorem Keeps.betweenCws (hs : Keeps s₀ s) :
    Keeps s₀ s.betweenCws := by
  unfold State.betweenCws
  split
  · exact Keeps.either hs hs.putCws
  · exact hs

theorem Keeps.flashRead (hs : Keeps s₀ s) {who cw} :
    KeepsFst s₀ (s.flashRead who cw) := by
  unfold State.flashRead
  extract_lets s'
  have hs' : Keeps s₀ s' := hs.betweenCws
  refine KeepsFst.either (KeepsFst.mk hs'.noteRead) (KeepsFst.either (KeepsFst.mk hs'.noteRead)
      (KeepsFst.either (KeepsFst.mk hs'.noteRead) ?_))
  split
  · rename_i a _ s1 e
    have h1 : Keeps s₀ s1 := hs'.draw.of_eq e
    extract_lets
    refine KeepsFst.either (KeepsFst.mk h1.noteRead) (KeepsFst.either (KeepsFst.mk h1.noteRead) ?_)
    split
    · rename_i a' s2 _ e'
      have h2 : Keeps s₀ s2 := h1.freeBytes.of_eq e'
      exact KeepsFst.mk h2.noteRead

theorem Keeps.flashWord (hs : Keeps s₀ s) {who a} :
    KeepsFst s₀ (s.flashWord who a) := by
  unfold State.flashWord
  split
  · rename_i a' s1 e
    have h1 : Keeps s₀ s1 := hs.flashRead.of_eq e
    exact KeepsFst.mk h1
  · rename_i a' s1 _ e
    have h1 : Keeps s₀ s1 := hs.flashRead.of_eq e
    exact KeepsFst.mk h1

theorem Keeps.flashCws {s₀ s : State} (hs : Keeps s₀ s) {who a a'} :
    KeepsFst s₀ (s.flashCws who a a') := by
  unfold State.flashCws
  split
  · exact KeepsFst.mk hs
  · split
    · rename_i a'' s1 e
      have h1 : Keeps s₀ s1 := hs.flashRead.of_eq e
      exact KeepsFst.mk h1
    · rename_i a'' s1 _ e
      have h1 : Keeps s₀ s1 := hs.flashRead.of_eq e
      split
      · rename_i a''' s2 _ _ e'
        have h2 : Keeps s₀ s2 := h1.flashCws.of_eq e'
        exact KeepsFst.mk h2

theorem Keeps.flashWords (hs : Keeps s₀ s) {who a n} :
    KeepsFst s₀ (s.flashWords who a n) := by
  unfold State.flashWords
  split
  · rename_i a' s2 _ _ e
    have h2 : Keeps s₀ s2 := hs.flashCws.of_eq e
    exact KeepsFst.mk h2

theorem Keeps.flashBytes (hs : Keeps s₀ s) {who a n} :
    KeepsFst s₀ (s.flashBytes who a n) := by
  unfold State.flashBytes
  extract_lets
  split
  · rename_i a' s1 _ e
    have h1 : Keeps s₀ s1 := hs.flashWords.of_eq e
    exact KeepsFst.mk h1
  · rename_i a' s1 _ e
    have h1 : Keeps s₀ s1 := hs.flashWords.of_eq e
    exact KeepsFst.mk h1

theorem Keeps.sourceWords {s₀ s : State} (hs : Keeps s₀ s) {flash near a n} :
    KeepsFst s₀ (s.sourceWords flash near a n) := by
  unfold State.sourceWords
  refine KeepsFst.either hs.flashWords ?_
  split
  · exact KeepsFst.mk hs
  · split
    · rename_i a' s1 _ e
      have h1 : Keeps s₀ s1 := hs.winRead.of_eq e
      split
      · rename_i a'' s2 _ _ e'
        have h2 : Keeps s₀ s2 := h1.sourceWords.of_eq e'
        exact KeepsFst.mk h2
    · rename_i a' s1 _ _ e
      have h1 : Keeps s₀ s1 := hs.winRead.of_eq e
      exact KeepsFst.mk h1

theorem Keeps.programBegin (hs : Keeps s₀ s) {tag} :
    Keeps s₀ (s.programBegin tag) := by
  unfold State.programBegin
  extract_lets
  refine Keeps.either hs.setResult (Keeps.either hs.setResult ?_)
  split
  · exact hs.setResult
  · split
    · rename_i a s1 _ e
      have h1 : Keeps s₀ s1 := KeepsFst.of_eq (KeepsFst.either (KeepsFst.mk hs) hs.winReads) e
      split
      · exact h1.setResult
      · extract_lets
        exact h1.updFlash (by exact fun _ h => h.openRun)

theorem Keeps.spareBegin (hs : Keeps s₀ s) {tag p} :
    Keeps s₀ (s.spareBegin tag p) := by
  unfold State.spareBegin
  extract_lets refuse
  exact Keeps.either (Keeps.setResult (hs.updFlash (by exact fun _ h => h.same)))
      (Keeps.either (Keeps.setResult (hs.updFlash (by exact fun _ h => h.same)))
      (Keeps.either (Keeps.setResult (hs.updFlash (by exact fun _ h => h.same)))
      (hs.updFlash (by exact fun _ h => h.openRun))))

theorem Keeps.eraseBegin (hs : Keeps s₀ s) {tag} :
    Keeps s₀ (s.eraseBegin tag) := by
  unfold State.eraseBegin
  extract_lets
  split
  · exact hs.spareBegin
  · refine Keeps.either hs.setResult (Keeps.either hs.setResult ?_)
    split
    · exact hs.setResult
    · exact hs.updFlash (by exact fun _ h => h.openRun)

theorem Keeps.flashBegin (hs : Keeps s₀ s) {tag} :
    Keeps s₀ (s.flashBegin tag) := by
  unfold State.flashBegin
  split
  · exact hs.programBegin
  · exact hs.eraseBegin
  · exact hs

theorem Keeps.setLogPos (hs : Keeps s₀ s) {page cw} :
    Keeps s₀ (s.setLogPos page cw) := by
  unfold State.setLogPos
  exact hs.setRg

theorem Keeps.logRecord (hs : Keeps s₀ s) {reason page cw} :
    Keeps s₀ (s.logRecord reason page cw) := by
  unfold State.logRecord
  exact hs.place

theorem Keeps.assign (hs : Keeps s₀ s) {words commit} :
    Keeps s₀ (s.assign words commit) := by
  unfold State.assign
  extract_lets _ _ s1 s2 s3
  have h1 : Keeps s₀ s1 := Keeps.either hs.logRecord hs
  have h2 : Keeps s₀ s2 := Keeps.either h1.updLog h1
  have h3 : Keeps s₀ s3 := h2.updLog
  exact Keeps.either h3.setLogPos h3.setLogPos

theorem Keeps.assignFull {n} (hs : Keeps s₀ s) :
    Keeps s₀ (s.assignFull n) := by
  induction n generalizing s with
  | zero => exact hs
  | succ n ih =>
    unfold State.assignFull
    exact Keeps.either hs (ih hs.updLog.assign)

theorem Keeps.logPump (hs : Keeps s₀ s) :
    Keeps s₀ s.logPump := by
  unfold State.logPump
  extract_lets
  split
  · exact hs
  · extract_lets
    refine Keeps.either hs ?_
    split
    · rename_i a e
      exact hs
    · rename_i a _ s1 e
      have h1 : Keeps s₀ s1 := hs.agentQueue.of_eq e
      exact h1.updLog

theorem Keeps.logEnd (hs : Keeps s₀ s) {n c} :
    Keeps s₀ (s.logEnd n c) := by
  unfold State.logEnd
  extract_lets s1 _ s2 s3
  have h1 : Keeps s₀ s1 := hs.updLog
  have h2 : Keeps s₀ s2 := h1.updLog
  have h3 : Keeps s₀ s3 := Keeps.either h2.updRg.evPulse h2
  exact Keeps.either h3.logPump (Keeps.either h1.updLog.refreshFlash h1)

theorem Keeps.programEnd (hs : Keeps s₀ s) {tag r} :
    Keeps s₀ (s.programEnd tag r) := by
  unfold State.programEnd
  extract_lets s1
  have h1 : Keeps s₀ s1 := Keeps.setResult (hs.putCws.updFlash (by exact fun _ h => h.dropLines.same))
  split
  · exact Keeps.either h1.logEnd h1
  · exact h1

theorem Keeps.spareEnd (hs : Keeps s₀ s) {tag r} :
    Keeps s₀ (s.spareEnd tag r) := by
  unfold State.spareEnd
  extract_lets
  exact Keeps.refreshFlash (Keeps.setResult (hs.updFlash (by exact fun _ h => h.wipe.dropPhys.same)))

theorem Keeps.eraseEnd (hs : Keeps s₀ s) {tag r} :
    Keeps s₀ (s.eraseEnd tag r) := by
  unfold State.eraseEnd
  extract_lets _ _ s1 s2
  have h1 : Keeps s₀ s1 := by
    unfold s1
    refine Keeps.either ?_ (hs.updFlash (by exact fun _ h => h.wipe))
    split
    · exact hs
    · exact hs.updFlash (by exact fun _ h => h.wipe.dropPhys.same)
  have h2 : Keeps s₀ s2 := h1.updFlash (by exact fun _ h => h.dropJournal.same)
  exact h2.refreshFlash.setResult.logPump

theorem Keeps.logFailed (hs : Keeps s₀ s) {tag c} :
    Keeps s₀ (s.logFailed tag c) := by
  unfold State.logFailed
  refine Keeps.either hs.updLog ?_
  split
  · exact Keeps.either hs.logEnd hs
  · exact hs

theorem Keeps.popItems {s₀ s : State} (hs : Keeps s₀ s) {q a} :
    KeepsFst s₀ (s.popItems q a) := by
  unfold State.popItems
  split
  · exact KeepsFst.mk hs
  · split
    · rename_i a' s1 _ e
      have h1 : Keeps s₀ s1 := hs.popLogged.of_eq e
      split
      · rename_i a'' s2 _ e'
        have h2 : Keeps s₀ s2 := h1.popItems.of_eq e'
        exact KeepsFst.mk h2

theorem Keeps.logAppend (hs : Keeps s₀ s) :
    Keeps s₀ s.logAppend := by
  unfold State.logAppend
  refine Keeps.either hs (Keeps.either hs.logPump ?_)
  split
  · exact hs
  · extract_lets
    split
    · rename_i a s2 _ e
      have h2 : Keeps s₀ s2 := hs.popItems.of_eq e
      extract_lets _ _ s2'
      have hs2' : Keeps s₀ s2' := h2.updLog.setRg
      exact hs2'.assignFull.logPump

theorem Keeps.logCommit (hs : Keeps s₀ s) :
    Keeps s₀ s.logCommit := by
  unfold State.logCommit
  refine Keeps.either hs (Keeps.either hs.logPump ?_)
  extract_lets _ s1 _ _ s2 _ s3 s4
  have h1 : Keeps s₀ s1 := Keeps.either hs hs.updLog.assign
  have h2 : Keeps s₀ s2 := Keeps.either h1.logRecord.setLogPos h1
  have h3 : Keeps s₀ s3 := h2.logRecord.assign
  have h4 : Keeps s₀ s4 := h3.setLogPos.setRg
  exact h4.updLog.logPump

theorem Keeps.logResume (hs : Keeps s₀ s) :
    Keeps s₀ s.logResume := by
  unfold State.logResume
  refine Keeps.either hs ?_
  extract_lets
  split
  · split
    · exact Keeps.either hs hs.updLog
    · extract_lets
      exact hs.setLogPos.setRg.updLog

theorem Keeps.logErase (hs : Keeps s₀ s) :
    Keeps s₀ s.logErase := by
  unfold State.logErase
  split
  · exact hs
  · refine Keeps.either hs ?_
    split
    · rename_i a e
      exact hs
    · rename_i a _ s1 e
      have h1 : Keeps s₀ s1 := hs.agentQueue.of_eq e
      exact h1.updLog

theorem Keeps.logctlEffect (hs : Keeps s₀ s) {v} :
    KeepsFst s₀ (logctlEffect v s) := by
  unfold Machine.logctlEffect
  extract_lets s1
  have h1 : Keeps s₀ s1 := hs.setRg.updLog
  exact KeepsFst.mk h1.refreshFlash.logPump

theorem Keeps.logcfgEffect (hs : Keeps s₀ s) {v} :
    KeepsFst s₀ (logcfgEffect v s) := by
  unfold Machine.logcfgEffect
  extract_lets
  exact KeepsFst.either (KeepsFst.mk hs) (KeepsFst.either (KeepsFst.mk hs)
      (KeepsFst.either (KeepsFst.mk hs) (KeepsFst.mk hs.setRg.updLog)))

theorem Keeps.readAll {s₀ s : State} (hs : Keeps s₀ s) {a} :
    KeepsFst s₀ (s.readAll a) := by
  unfold State.readAll
  split
  · exact KeepsFst.mk hs
  · split
    · rename_i a' s1 e
      have h1 : Keeps s₀ s1 := hs.flashRead.of_eq e
      exact KeepsFst.mk h1
    · rename_i a' s1 _ e
      have h1 : Keeps s₀ s1 := hs.flashRead.of_eq e
      split
      · rename_i a'' s2 _ e'
        have h2 : Keeps s₀ s2 := h1.readAll.of_eq e'
        exact KeepsFst.mk h2
      · rename_i a'' s2 e'
        have h2 : Keeps s₀ s2 := h1.readAll.of_eq e'
        exact KeepsFst.mk h2

theorem Keeps.refreshMap (hs : Keeps s₀ s) {r} :
    Keeps s₀ (s.refreshMap r) := by
  unfold State.refreshMap
  extract_lets _ s1
  have h1 : Keeps s₀ s1 := hs.updFlash (by exact fun _ h => h.same)
  exact h1.updRg.refreshFlash

theorem Keeps.refreshEffect (hs : Keeps s₀ s) {k} :
    KeepsFst s₀ (refreshEffect k s) := by
  unfold Machine.refreshEffect
  extract_lets
  refine KeepsFst.either (KeepsFst.mk hs) (KeepsFst.either (KeepsFst.mk hs) ?_)
  split
  · exact KeepsFst.mk hs.refreshFlash
  · split
    · rename_i a s1 e
      have h1 : Keeps s₀ s1 := hs.readAll.of_eq e
      exact KeepsFst.mk (Keeps.refreshFlash (h1.updFlash (by exact fun _ h => h.abandonRefresh)))
    · rename_i a s1 _ e
      have h1 : Keeps s₀ s1 := hs.readAll.of_eq e
      extract_lets s2
      have h2 : Keeps s₀ s2 := h1.updFlash (by exact fun _ h => h.copyWords)
      exact KeepsFst.either (KeepsFst.mk h2.refreshMap) (KeepsFst.mk
          (Keeps.refreshFlash (h2.updFlash (by exact fun _ h => h.same))))

theorem Keeps.weakRefresh (hs : Keeps s₀ s) :
    Keeps s₀ s.weakRefresh := by
  unfold State.weakRefresh
  refine Keeps.either hs ?_
  extract_lets next
  clear_value next
  split
  · exact hs
  · split
    · rename_i a e
      exact hs
    · rename_i a _ s1 e
      have h1 : Keeps s₀ s1 := hs.agentQueue.of_eq e
      exact h1.updFlash (by exact fun _ h => h.same)

theorem Keeps.spareErase (hs : Keeps s₀ s) :
    Keeps s₀ s.spareErase := by
  unfold State.spareErase
  refine Keeps.either hs ?_
  split
  · exact hs
  · split
    · rename_i a e
      exact hs
    · rename_i a _ s1 e
      have h1 : Keeps s₀ s1 := hs.agentQueue.of_eq e
      exact h1.updFlash (by exact fun _ h => h.same)

theorem Keeps.copyEffect (hs : Keeps s₀ s) {k} :
    KeepsFst s₀ (copyEffect k s) := by
  unfold Machine.copyEffect
  split
  · rename_i a s2 _ _ e
    have h2 : Keeps s₀ s2 := hs.flashWords.of_eq e
    exact KeepsFst.mk h2.winWrites

theorem Keeps.unlockEffect (hs : Keeps s₀ s) {k} :
    KeepsFst s₀ (unlockEffect k s) := by
  unfold Machine.unlockEffect
  extract_lets _ s1 _ _ s1'
  have h1 : Keeps s₀ s1 := hs.updRg.updRg
  have hs1' : Keeps s₀ s1' := hs.setRg.authFail
  exact KeepsFst.either (KeepsFst.mk hs) (KeepsFst.either (KeepsFst.mk hs)
      (KeepsFst.either (KeepsFst.mk hs) (KeepsFst.either (KeepsFst.mk h1.same) (KeepsFst.mk hs1'.evLevel))))

theorem Keeps.relockEffect (hs : Keeps s₀ s) {k} :
    KeepsFst s₀ (relockEffect k s) := by
  unfold Machine.relockEffect
  exact KeepsFst.mk hs.updRg.updRg

theorem Keeps.refreshOption (hs : Keeps s₀ s) :
    Keeps s₀ s.refreshOption := by
  unfold State.refreshOption
  exact hs.evLevel.evLevel.setDegraded

theorem Keeps.groupBegin (hs : Keeps s₀ s) {tag} :
    Keeps s₀ (s.groupBegin tag) := by
  unfold State.groupBegin
  extract_lets
  refine Keeps.either hs.setResult ?_
  split
  · rename_i a s1 _ e
    have h1 : Keeps s₀ s1 := hs.winReads.of_eq e
    exact h1.setResult
  · rename_i a s1 _ e
    have h1 : Keeps s₀ s1 := hs.winReads.of_eq e
    extract_lets _ _ _ a'
    have ha' : Keeps s₀ a' := h1.updRg
    exact Keeps.either h1.setResult (Keeps.either h1.setResult
        (Keeps.either h1.setResult (Keeps.either h1.setResult
        (Keeps.either h1.setResult (Keeps.either h1.setResult (Keeps.either h1.setResult ha'.same.refreshOption))))))

theorem Keeps.groupEnd (hs : Keeps s₀ s) {tag g words} :
    Keeps s₀ (s.groupEnd tag g words) := by
  unfold State.groupEnd
  extract_lets
  exact hs.same.refreshOption.evPulse.setResult

theorem Keeps.groupCut (hs : Keeps s₀ s) :
    Keeps s₀ s.groupCut := by
  unfold State.groupCut
  split
  · exact hs
  · split
    · rename_i a _ s1 e
      have h1 : Keeps s₀ s1 := hs.draw.of_eq e
      extract_lets
      split
      · exact h1.same
      · exact h1.same
      · exact h1.same

theorem Keeps.execCopy (hs : Keeps s₀ s) {tag} :
    KeepsOut s₀ (execCopy tag s) := by
  unfold Machine.execCopy
  exact KeepsOut.next (hs.runOp (fun _ _ ha => ha.copyEffect))

theorem Keeps.execUnlock (hs : Keeps s₀ s) {tag} :
    KeepsOut s₀ (execUnlock tag s) := by
  unfold Machine.execUnlock
  exact KeepsOut.next (hs.runOp (fun _ _ ha => ha.unlockEffect))

theorem Keeps.execRelock (hs : Keeps s₀ s) {tag} :
    KeepsOut s₀ (execRelock tag s) := by
  unfold Machine.execRelock
  exact KeepsOut.next (hs.runOp (fun _ _ ha => ha.relockEffect))

theorem Keeps.execRefresh (hs : Keeps s₀ s) {tag} :
    KeepsOut s₀ (execRefresh tag s) := by
  unfold Machine.execRefresh
  refine KeepsOut.next (hs.runOp ?_)
  intro _ a ha
  extract_lets t1
  have ht1 : Keeps s₀ t1 := Keeps.either (ha.updFlash (by exact fun _ h => h.same)) ha
  exact ht1.refreshEffect

theorem Keeps.execGroupWrite (hs : Keeps s₀ s) {tag} :
    KeepsOut s₀ (execGroupWrite tag s) := by
  unfold Machine.execGroupWrite
  refine KeepsOut.next ?_
  split
  · extract_lets
    exact Keeps.either hs.groupEnd hs
  · exact hs

theorem Keeps.execFetchBankChange (hs : Keeps s₀ s) {bank} :
    KeepsOut s₀ (execFetchBankChange bank s) := by
  unfold Machine.execFetchBankChange
  refine KeepsOut.next ?_
  extract_lets _ s1
  have h1 : Keeps s₀ s1 := hs.same
  exact h1.setRg

theorem Keeps.execLogAppend (hs : Keeps s₀ s) :
    KeepsOut s₀ (execLogAppend s) := by
  unfold Machine.execLogAppend
  exact KeepsOut.next hs.logAppend

theorem Keeps.execLogCommit (hs : Keeps s₀ s) :
    KeepsOut s₀ (execLogCommit s) := by
  unfold Machine.execLogCommit
  exact KeepsOut.next hs.logCommit

theorem Keeps.execCommitTimeout (hs : Keeps s₀ s) :
    KeepsOut s₀ (execCommitTimeout s) := by
  unfold Machine.execCommitTimeout
  refine KeepsOut.next ?_
  split
  · exact hs
  · exact hs.reach.updLog

theorem Keeps.execFlush (hs : Keeps s₀ s) {m v} :
    KeepsOut s₀ (execFlush m v s) := by
  unfold Machine.execFlush
  exact KeepsOut.next (hs.write (fun _ ha => ha.logctlEffect))

theorem Keeps.execLogSectorErase (hs : Keeps s₀ s) :
    KeepsOut s₀ (execLogSectorErase s) := by
  unfold Machine.execLogSectorErase
  exact KeepsOut.next hs.logErase

theorem Keeps.execLogResume (hs : Keeps s₀ s) :
    KeepsOut s₀ (execLogResume s) := by
  unfold Machine.execLogResume
  exact KeepsOut.next hs.logResume

theorem Keeps.execLogcfgWrite (hs : Keeps s₀ s) {m v} :
    KeepsOut s₀ (execLogcfgWrite m v s) := by
  unfold Machine.execLogcfgWrite
  exact KeepsOut.next (hs.write (fun _ ha => ha.logcfgEffect))

theorem Keeps.execWeakRefresh (hs : Keeps s₀ s) :
    KeepsOut s₀ (execWeakRefresh s) := by
  unfold Machine.execWeakRefresh
  exact KeepsOut.next hs.weakRefresh

theorem Keeps.execDirtySpareErase (hs : Keeps s₀ s) :
    KeepsOut s₀ (execDirtySpareErase s) := by
  unfold Machine.execDirtySpareErase
  exact KeepsOut.next hs.spareErase

/-! ### Machine, Hart -/

theorem Keeps.updCore (hs : Keeps s₀ s) {f} :
    Keeps s₀ (s.updCore f) := by
  unfold State.updCore
  exact hs.same

theorem Keeps.trap (hs : Keeps s₀ s) {cause tval} :
    Keeps s₀ (s.trap cause tval) := by
  unfold State.trap
  exact hs.updCore

theorem Keeps.endWfi (hs : Keeps s₀ s) :
    Keeps s₀ s.endWfi := by
  unfold State.endWfi
  exact Keeps.either hs.updCore.syncWdt hs

theorem Keeps.pushHostRecord (hs : Keeps s₀ s) {n t} :
    Keeps s₀ (s.pushHostRecord n t) := by
  unfold State.pushHostRecord
  exact hs.blockPush.fst

theorem Keeps.releaseGroup (hs : Keeps s₀ s) {g} :
    Keeps s₀ (s.releaseGroup g) := by
  unfold State.releaseGroup
  exact hs.setMod

theorem Keeps.holdGroup (hs : Keeps s₀ s) {g} :
    Keeps s₀ (s.holdGroup g) := by
  unfold State.holdGroup
  exact Keeps.either hs.setMod hs

theorem Keeps.updIntc (hs : Keeps s₀ s) {f} :
    Keeps s₀ (s.updIntc f) := by
  unfold State.updIntc
  exact hs.same

theorem Keeps.intcClaimEffect (hs : Keeps s₀ s) {m v} :
    KeepsFst s₀ (intcClaimEffect m v s) := by
  unfold Machine.intcClaimEffect
  extract_lets _ s1
  have h1 : Keeps s₀ s1 := hs.updIntc
  exact KeepsFst.either (KeepsFst.mk hs) (KeepsFst.either (KeepsFst.mk hs)
      (KeepsFst.either (KeepsFst.mk hs) (KeepsFst.mk (Keeps.either h1.holdGroup h1))))

theorem Keeps.misorder (hs : Keeps s₀ s) {n} :
    Keeps s₀ (s.misorder n) := by
  unfold State.misorder
  extract_lets _ s1 s2 s3
  have h1 : Keeps s₀ s1 := hs.setRg.setPair
  have h2 : Keeps s₀ s2 := h1.updIntc.evLevel.faultRec
  have h3 : Keeps s₀ s3 := h2.endWfi
  exact Keeps.either h3.updCore h2

theorem Keeps.intcCompleteEffect (hs : Keeps s₀ s) {v} :
    KeepsFst s₀ (intcCompleteEffect v s) := by
  unfold Machine.intcCompleteEffect
  extract_lets
  refine KeepsFst.either (KeepsFst.mk hs) (KeepsFst.either (KeepsFst.mk hs) (KeepsFst.either (KeepsFst.mk hs) ?_))
  split
  · exact KeepsFst.either (KeepsFst.mk hs.updIntc) (KeepsFst.mk hs.updIntc.misorder)
  · exact KeepsFst.mk hs.misorder

theorem Keeps.unfreezeEffect (hs : Keeps s₀ s) {v} :
    KeepsFst s₀ (unfreezeEffect v s) := by
  unfold Machine.unfreezeEffect
  exact KeepsFst.either (KeepsFst.mk hs) (KeepsFst.either (KeepsFst.mk hs) (KeepsFst.mk hs.updIntc.evLevel))

theorem Keeps.srccfgEffect (hs : Keeps s₀ s) {n v} :
    KeepsFst s₀ (srccfgEffect n v s) := by
  unfold Machine.srccfgEffect
  exact KeepsFst.either (KeepsFst.mk hs) (KeepsFst.either (KeepsFst.mk hs) (KeepsFst.mk hs.setRg))

theorem Keeps.intcEnEffect (hs : Keeps s₀ s) {k v} :
    KeepsFst s₀ (intcEnEffect k v s) := by
  unfold Machine.intcEnEffect
  exact KeepsFst.either (KeepsFst.mk hs) (KeepsFst.mk hs.setRg)

theorem Keeps.modEffect (hs : Keeps s₀ s) {g v} :
    KeepsFst s₀ (modEffect g v s) := by
  unfold Machine.modEffect
  extract_lets s1
  have h1 : Keeps s₀ s1 := hs.setRg
  exact KeepsFst.mk (Keeps.either h1 h1.setMod)

theorem Keeps.swiEffect (hs : Keeps s₀ s) {v} :
    KeepsFst s₀ (swiEffect v s) := by
  unfold Machine.swiEffect
  extract_lets s1
  have h1 : Keeps s₀ s1 := hs.setRg
  exact KeepsFst.mk (h1.foldl (fun _ _ ha => ha.settle))

theorem Keeps.nmiVecEffect (hs : Keeps s₀ s) {v} :
    KeepsFst s₀ (nmiVecEffect v s) := by
  unfold Machine.nmiVecEffect
  exact KeepsFst.either (KeepsFst.mk hs.setRg) (KeepsFst.mk hs)

theorem Keeps.setUnconfirmed (hs : Keeps s₀ s) {b} :
    Keeps s₀ (s.setUnconfirmed b) := by
  unfold State.setUnconfirmed
  exact hs.updRg.evLevel.syncWdt

theorem Keeps.confirmEffect (hs : Keeps s₀ s) {v} :
    KeepsFst s₀ (confirmEffect v s) := by
  unfold Machine.confirmEffect
  extract_lets s1
  have h1 : Keeps s₀ s1 := hs.setRg
  exact KeepsFst.either (KeepsFst.mk h1.sameMem) (KeepsFst.mk h1)

theorem Keeps.confirmWritten (hs : Keeps s₀ s) :
    Keeps s₀ s.confirmWritten := by
  unfold State.confirmWritten
  split
  · exact hs
  · refine Keeps.either ?_ hs
    extract_lets _ s1
    have h1 : Keeps s₀ s1 := hs.sameMem
    exact Keeps.either h1.setUnconfirmed h1

theorem Keeps.fetchAhead (hs : Keeps s₀ s) {cw} :
    Keeps s₀ (s.fetchAhead cw) := by
  unfold State.fetchAhead
  extract_lets
  refine Keeps.either hs ?_
  split
  · rename_i a s1 _ e
    have h1 : Keeps s₀ s1 := hs.flashRead.of_eq e
    exact h1.updFlash (by exact fun _ h => h.same)
  · rename_i a s1 e
    have h1 : Keeps s₀ s1 := hs.flashRead.of_eq e
    exact h1

theorem Keeps.fetched (hs : Keeps s₀ s) {cw l} :
    Keeps s₀ (s.fetched cw l) := by
  unfold State.fetched
  extract_lets _ s1
  have h1 : Keeps s₀ s1 := hs.updFlash (by exact fun _ h => h.same)
  exact h1.fetchAhead

theorem Keeps.coreRead (hs : Keeps s₀ s) {cw fetch} :
    Keeps s₀ (s.coreRead cw fetch) := by
  unfold State.coreRead
  split
  · exact hs.fetched
  · refine Keeps.either hs.updCore ?_
    split
    · rename_i a _ s1 e
      have h1 : Keeps s₀ s1 := hs.draw.of_eq e
      split
      · rename_i a' s1' _ e'
        have hs1' : Keeps s₀ s1' := h1.flashRead.of_eq e'
        exact Keeps.either hs1'.fetched hs1'
      · rename_i a' s1' e'
        have hs1' : Keeps s₀ s1' := h1.flashRead.of_eq e'
        exact hs1'.trap

theorem Keeps.endStall (hs : Keeps s₀ s) :
    Keeps s₀ s.endStall := by
  unfold State.endStall
  split
  · exact hs
  · exact Keeps.either hs.updCore.coreRead hs

theorem Keeps.coreFlashRead (hs : Keeps s₀ s) {cw fetch errors} :
    Keeps s₀ (s.coreFlashRead cw fetch errors) := by
  unfold State.coreFlashRead
  refine Keeps.either (Keeps.either ?_ ?_) hs
  · split
    · rename_i a _ s1 e
      have h1 : Keeps s₀ s1 := hs.draw.of_eq e
      exact h1.trap
  · extract_lets s0
    have h0 : Keeps s₀ s0 := Keeps.either hs hs.updCore
    exact Keeps.coreRead (h0.updFlash (by exact fun _ h => h.same))

theorem Keeps.tcmError (hs : Keeps s₀ s) {word fetch} :
    Keeps s₀ (s.tcmError word fetch) := by
  unfold State.tcmError
  refine Keeps.either ?_ hs
  extract_lets _ _ s1 s2
  have h1 : Keeps s₀ s1 := hs.updCore
  have h2 : Keeps s₀ s2 := h1.updRg.setRg
  exact Keeps.either hs.trap h2.evPulse.faultRec.trap

theorem Keeps.execConfirm (hs : Keeps s₀ s) {m v} :
    KeepsOut s₀ (execConfirm m v s) := by
  unfold Machine.execConfirm
  exact KeepsOut.next (hs.write (fun _ ha => ha.confirmEffect))

theorem Keeps.execConfirmationRecordWrite (hs : Keeps s₀ s) :
    KeepsOut s₀ (execConfirmationRecordWrite s) := by
  unfold Machine.execConfirmationRecordWrite
  exact KeepsOut.next hs.confirmWritten

theorem Keeps.execProgram (hs : Keeps s₀ s) {tag} :
    KeepsOut s₀ (execProgram tag s) := by
  unfold Machine.execProgram
  refine KeepsOut.next ?_
  split
  · exact Keeps.either hs.programEnd.endStall hs
  · exact hs

theorem Keeps.execErase (hs : Keeps s₀ s) {tag} :
    KeepsOut s₀ (execErase tag s) := by
  unfold Machine.execErase
  refine KeepsOut.next ?_
  split
  · exact Keeps.either (Keeps.endStall (Keeps.either hs.spareEnd hs.eraseEnd)) hs
  · exact hs

theorem Keeps.execCoreFlashRead (hs : Keeps s₀ s) {codeword fetch errors} :
    KeepsOut s₀ (execCoreFlashRead codeword fetch errors s) := by
  unfold Machine.execCoreFlashRead
  exact KeepsOut.next hs.coreFlashRead

theorem Keeps.execWfi (hs : Keeps s₀ s) :
    KeepsOut s₀ (execWfi s) := by
  unfold Machine.execWfi
  refine KeepsOut.next (Keeps.either (Keeps.either hs.updCore.syncWdt ?_) hs)
  split
  · rename_i a _ s1 e
    have h1 : Keeps s₀ s1 := hs.draw.of_eq e
    exact h1.trap

theorem Keeps.execWfiWake (hs : Keeps s₀ s) :
    KeepsOut s₀ (execWfiWake s) := by
  unfold Machine.execWfiWake
  exact KeepsOut.next (Keeps.either hs.endWfi hs)

theorem Keeps.execExternalInterrupt (hs : Keeps s₀ s) {src} :
    KeepsOut s₀ (execExternalInterrupt src s) := by
  unfold Machine.execExternalInterrupt
  refine KeepsOut.next ?_
  split
  · exact hs.updIntc.pushHostRecord
  · exact Keeps.either hs.trap hs

theorem Keeps.execIntcClaim (hs : Keeps s₀ s) {m v} :
    KeepsOut s₀ (execIntcClaim m v s) := by
  unfold Machine.execIntcClaim
  exact KeepsOut.next (hs.write (fun _ ha => ha.intcClaimEffect))

theorem Keeps.execIntcComplete (hs : Keeps s₀ s) {m v} :
    KeepsOut s₀ (execIntcComplete m v s) := by
  unfold Machine.execIntcComplete
  exact KeepsOut.next (hs.write (fun _ ha => ha.intcCompleteEffect))

theorem Keeps.execUnfreeze (hs : Keeps s₀ s) {m v} :
    KeepsOut s₀ (execUnfreeze m v s) := by
  unfold Machine.execUnfreeze
  exact KeepsOut.next (hs.write (fun _ ha => ha.unfreezeEffect))

theorem Keeps.execSrccfgWrite (hs : Keeps s₀ s) {m n v} :
    KeepsOut s₀ (execSrccfgWrite m n v s) := by
  unfold Machine.execSrccfgWrite
  exact KeepsOut.next (hs.write (fun _ ha => ha.srccfgEffect))

theorem Keeps.execModIntervalExpiry (hs : Keeps s₀ s) {g} :
    KeepsOut s₀ (execModIntervalExpiry g s) := by
  unfold Machine.execModIntervalExpiry
  extract_lets
  exact KeepsOut.next (Keeps.either hs.reach.releaseGroup hs)

theorem Keeps.execCheckpointInterval (hs : Keeps s₀ s) :
    KeepsOut s₀ (execCheckpointInterval s) := by
  unfold Machine.execCheckpointInterval
  refine KeepsOut.next (Keeps.either ?_ hs)
  extract_lets s1
  have h1 : Keeps s₀ s1 := hs.reach
  exact h1.updCore

theorem Keeps.execTcmUe (hs : Keeps s₀ s) {word fetch} :
    KeepsOut s₀ (execTcmUe word fetch s) := by
  unfold Machine.execTcmUe
  exact KeepsOut.next hs.tcmError

theorem Keeps.execDebugHalt (hs : Keeps s₀ s) :
    KeepsOut s₀ (execDebugHalt s) := by
  unfold Machine.execDebugHalt
  exact KeepsOut.next (Keeps.either hs.endWfi.updCore.syncWdt hs)

theorem Keeps.execDebugResume (hs : Keeps s₀ s) :
    KeepsOut s₀ (execDebugResume s) := by
  unfold Machine.execDebugResume
  exact KeepsOut.next (Keeps.either hs.updCore.syncWdt hs)

/-! ### Machine, Header -/

theorem Keeps.errcClrEffect (hs : Keeps s₀ s) {page} :
    KeepsFst s₀ (errcClrEffect page s) := by
  unfold Machine.errcClrEffect
  exact KeepsFst.mk hs.setRg

theorem Keeps.evflgEffect (hs : Keeps s₀ s) {page v} :
    KeepsFst s₀ (evflgEffect page v s) := by
  unfold Machine.evflgEffect
  extract_lets s1
  have h1 : Keeps s₀ s1 := hs.updRg
  exact KeepsFst.mk h1.settle

theorem Keeps.evenEffect (hs : Keeps s₀ s) {page v} :
    KeepsFst s₀ (evenEffect page v s) := by
  unfold Machine.evenEffect
  extract_lets s1
  have h1 : Keeps s₀ s1 := hs.setRg
  exact KeepsFst.mk h1.settle

theorem Keeps.accessEffect (hs : Keeps s₀ s) {page v} :
    KeepsFst s₀ (accessEffect page v s) := by
  unfold Machine.accessEffect
  extract_lets
  exact KeepsFst.mk hs.setRg

theorem Keeps.checkPointers (hs : Keeps s₀ s) :
    Keeps s₀ s.checkPointers := by
  unfold State.checkPointers
  exact hs.foldl (fun _ _ ha => Keeps.either ha.pointerFault.logPush ha)

theorem Keeps.failStart (hs : Keeps s₀ s) {page} :
    Keeps s₀ (s.failStart page) := by
  unfold State.failStart
  split
  · exact hs
  · refine Keeps.either hs ?_
    extract_lets s1
    have h1 : Keeps s₀ s1 := hs.reach
    exact h1.setReadyBits.faultRec

theorem Keeps.setMbox (hs : Keeps s₀ s) {box w} :
    Keeps s₀ (s.setMbox box w) := by
  unfold State.setMbox
  extract_lets s1
  have h1 : Keeps s₀ s1 := hs.setRg
  exact h1.evLevel.evLevel

theorem Keeps.postEffect (hs : Keeps s₀ s) {box i lo v} :
    KeepsFst s₀ (postEffect box i lo v s) := by
  unfold Machine.postEffect
  extract_lets
  exact KeepsFst.either (KeepsFst.mk hs) (KeepsFst.either (KeepsFst.mk hs) (KeepsFst.mk hs.setMbox))

theorem Keeps.takeEffect (hs : Keeps s₀ s) {box i v} :
    KeepsFst s₀ (takeEffect box i v s) := by
  unfold Machine.takeEffect
  extract_lets
  exact KeepsFst.either (KeepsFst.mk hs) (KeepsFst.either (KeepsFst.mk hs) (KeepsFst.mk hs.setMbox))

theorem Keeps.mboxWordEffect (hs : Keeps s₀ s) {box off v} :
    KeepsFst s₀ (mboxWordEffect box off v s) := by
  unfold Machine.mboxWordEffect
  extract_lets
  exact KeepsFst.either (KeepsFst.mk hs) (KeepsFst.mk hs.setRg)

theorem Keeps.execErrcClr (hs : Keeps s₀ s) {m page} :
    KeepsOut s₀ (execErrcClr m page s) := by
  unfold Machine.execErrcClr
  exact KeepsOut.either KeepsOut.fault (KeepsOut.next (hs.write (fun _ ha => ha.errcClrEffect)))

theorem Keeps.execEvflgClear (hs : Keeps s₀ s) {m page v} :
    KeepsOut s₀ (execEvflgClear m page v s) := by
  unfold Machine.execEvflgClear
  exact KeepsOut.either KeepsOut.fault (KeepsOut.next (hs.write (fun _ ha => ha.evflgEffect)))

theorem Keeps.execAccessWrite (hs : Keeps s₀ s) {m page v} :
    KeepsOut s₀ (execAccessWrite m page v s) := by
  unfold Machine.execAccessWrite
  exact KeepsOut.either KeepsOut.fault (KeepsOut.next (hs.write (fun _ ha => ha.accessEffect)))

theorem Keeps.execBlockStartFail (hs : Keeps s₀ s) {page} :
    KeepsOut s₀ (execBlockStartFail page s) := by
  unfold Machine.execBlockStartFail
  exact KeepsOut.next hs.failStart

theorem Keeps.execOutPost (hs : Keeps s₀ s) {m box v} :
    KeepsOut s₀ (execOutPost m box v s) := by
  unfold Machine.execOutPost
  exact KeepsOut.next (hs.write (fun _ ha => ha.postEffect))

theorem Keeps.execOutTake (hs : Keeps s₀ s) {m box v} :
    KeepsOut s₀ (execOutTake m box v s) := by
  unfold Machine.execOutTake
  exact KeepsOut.next (hs.write (fun _ ha => ha.takeEffect))

theorem Keeps.execInPost (hs : Keeps s₀ s) {m box v} :
    KeepsOut s₀ (execInPost m box v s) := by
  unfold Machine.execInPost
  exact KeepsOut.next (hs.write (fun _ ha => ha.postEffect))

theorem Keeps.execInTake (hs : Keeps s₀ s) {m box v} :
    KeepsOut s₀ (execInTake m box v s) := by
  unfold Machine.execInTake
  exact KeepsOut.next (hs.write (fun _ ha => ha.takeEffect))

/-! ### Machine, Boot -/

theorem Keeps.imageHeader (hs : Keeps s₀ s) {base} :
    KeepsFst s₀ (s.imageHeader base) := by
  unfold State.imageHeader
  exact hs.flashBytes

theorem Keeps.digestOk (hs : Keeps s₀ s) {base h} :
    KeepsFst s₀ (s.digestOk base h) := by
  unfold State.digestOk
  split
  · rename_i a s1 _ e
    have h1 : Keeps s₀ s1 := hs.flashBytes.of_eq e
    exact KeepsFst.mk h1
  · rename_i a s1 e
    have h1 : Keeps s₀ s1 := hs.flashBytes.of_eq e
    exact KeepsFst.mk h1

theorem Keeps.bankHeader (hs : Keeps s₀ s) {b} :
    KeepsFst s₀ (s.bankHeader b) := by
  unfold State.bankHeader
  split
  · rename_i a s1 _ e
    have h1 : Keeps s₀ s1 := hs.imageHeader.of_eq e
    exact KeepsFst.mk h1
  · rename_i a s1 e
    have h1 : Keeps s₀ s1 := hs.imageHeader.of_eq e
    exact KeepsFst.mk h1

theorem Keeps.checkBank (hs : Keeps s₀ s) {b h} :
    KeepsFst s₀ (s.checkBank b h) := by
  unfold State.checkBank
  split
  · exact KeepsFst.mk hs
  · refine KeepsFst.either (KeepsFst.mk hs) ?_
    split
    · rename_i a s1 e
      have h1 : Keeps s₀ s1 := hs.digestOk.of_eq e
      exact KeepsFst.mk h1
    · rename_i a s1 e
      have h1 : Keeps s₀ s1 := hs.digestOk.of_eq e
      extract_lets
      exact KeepsFst.either (KeepsFst.mk h1) (KeepsFst.mk h1)

theorem Keeps.copySections (hs : Keeps s₀ s) {base h} :
    Keeps s₀ (s.copySections base h) := by
  unfold State.copySections
  refine hs.foldl ?_
  intro a _ ha
  split
  · split
    · rename_i a' s1 _ e
      have h1 : Keeps s₀ s1 := ha.flashBytes.of_eq e
      exact h1.updCore
    · rename_i a' s1 e
      have h1 : Keeps s₀ s1 := ha.flashBytes.of_eq e
      exact h1

theorem Keeps.startImage (hs : Keeps s₀ s) {b why signed h} :
    Keeps s₀ (s.startImage b why signed h) := by
  unfold State.startImage
  extract_lets s1 _ _ _ _ _ s2 _ s3 _ bank _ s4
  have h1 : Keeps s₀ s1 := hs.updRg.copySections
  have h2 : Keeps s₀ s2 := h1.setRg
  have h3 : Keeps s₀ s3 := Keeps.either h2.sameMem h2
  have h4 : Keeps s₀ s4 := h3.setRg.updCore
  exact h4.same.syncWdt

theorem Keeps.coreBoot (hs : Keeps s₀ s) :
    Keeps s₀ s.coreBoot := by
  unfold State.coreBoot
  refine Keeps.either hs ?_
  split
  · rename_i a s2 _ e
    have h2 : Keeps s₀ s2 := hs.bankHeader.of_eq e
    split
    · rename_i a' s2' _ e'
      have hs2' : Keeps s₀ s2' := h2.bankHeader.of_eq e'
      extract_lets _ _ s3
      have h3 : Keeps s₀ s3 := hs2'.setRg.setRg
      split
      · split
        · rename_i a'' _ s4 _ _ e'' _
          have h4 : Keeps s₀ s4 := h3.checkBank.of_eq e''
          exact h4.startImage
        · rename_i a'' _ s4 _ e''
          have h4 : Keeps s₀ s4 := h3.checkBank.of_eq e''
          split
          · rename_i a''' _ s5 _ _ e''' _
            have h5 : Keeps s₀ s5 := h4.checkBank.of_eq e'''
            exact h5.startImage
          · rename_i a''' _ s5 _ e''' _
            have h5 : Keeps s₀ s5 := h4.checkBank.of_eq e'''
            exact h5.setReadyBits.faultRec
        · rename_i a'' _ s4 _ _ e'' _
          have h4 : Keeps s₀ s4 := h3.checkBank.of_eq e''
          exact h4

theorem Keeps.execCoreBoot (hs : Keeps s₀ s) :
    KeepsOut s₀ (execCoreBoot s) := by
  unfold Machine.execCoreBoot
  exact KeepsOut.next hs.coreBoot

/-! ### Machine, Crib -/

theorem Keeps.cribEnd (hs : Keeps s₀ s) {tag op k c approved} :
    Keeps s₀ (s.cribEnd tag op k c approved) := by
  unfold State.cribEnd
  split
  · exact hs.setResult.setOwn1
  · exact hs.setResult

theorem Keeps.cribOp (hs : Keeps s₀ s) {tag op argsOk eff}
    (heff : ∀ k a, Keeps s₀ a → KeepsFst s₀ (eff k a)) :
    Keeps s₀ (s.cribOp tag op argsOk eff) := by
  unfold State.cribOp
  refine Keeps.either hs ?_
  extract_lets k approved
  have hr : KeepsFst s₀
      (if (!argsOk s k) = true then (s, Code.arg, true)
      else if (!s.cribUp) = true then (s, Code.notReady, true)
      else if (!k.secure && op != 0x07 && op != 0x0B) = true then (s, Code.security, true)
      else if s.lifecycle = 3 && ! [0x07, 0x0B, 0x0C, 0x0F].contains op then (s, Code.state, true)
      else eff k s) :=
    KeepsFst.either (KeepsFst.mk hs) (KeepsFst.either (KeepsFst.mk hs) (KeepsFst.either (KeepsFst.mk hs)
      (KeepsFst.either (KeepsFst.mk hs) (heff k s hs))))
  split
  rename_i e
  exact (hr.of_eq e).cribEnd

theorem Keeps.newSecret (hs : Keeps s₀ s) {typ} :
    KeepsFst s₀ (s.newSecret typ) := by
  unfold State.newSecret
  extract_lets
  split
  · rename_i a s2 _ e
    have h2 : Keeps s₀ s2 := hs.drbgBytes.of_eq e
    exact KeepsFst.either (KeepsFst.mk h2) (KeepsFst.mk h2)

theorem Keeps.keyGenEffect (hs : Keeps s₀ s) {k} :
    KeepsFst s₀ (keyGenEffect k s) := by
  unfold Machine.keyGenEffect
  extract_lets
  refine KeepsFst.either (KeepsFst.mk hs) ?_
  split
  · rename_i a s2 _ e
    have h2 : Keeps s₀ s2 := hs.newSecret.of_eq e
    split
    · split
      · rename_i a' _ s1 e'
        have h1 : Keeps s₀ s1 := h2.draw.of_eq e'
        exact KeepsFst.mk h1.cribError
    · exact KeepsFst.mk h2.writeKey

theorem Keeps.keyImportEffect (hs : Keeps s₀ s) {k} :
    KeepsFst s₀ (keyImportEffect k s) := by
  unfold Machine.keyImportEffect
  extract_lets
  refine KeepsFst.either (KeepsFst.mk hs) (KeepsFst.either (KeepsFst.mk hs) ?_)
  split
  · rename_i a s1 _ e
    have h1 : Keeps s₀ s1 := hs.winBytes.of_eq e
    exact KeepsFst.mk h1
  · rename_i a s1 _ e
    have h1 : Keeps s₀ s1 := hs.winBytes.of_eq e
    extract_lets _ _ got
    clear_value got
    split
    · exact KeepsFst.mk h1
    · split
      · split
        · rename_i a' _ s1' e'
          have hs1' : Keeps s₀ s1' := h1.draw.of_eq e'
          exact KeepsFst.mk hs1'.cribError
      · exact KeepsFst.mk h1.writeKey

theorem Keeps.keyPubEffect (hs : Keeps s₀ s) {k} :
    KeepsFst s₀ (keyPubEffect k s) := by
  unfold Machine.keyPubEffect
  extract_lets
  exact KeepsFst.either (KeepsFst.mk hs) (KeepsFst.either (KeepsFst.mk hs) (KeepsFst.mk hs.winPutBytes))

theorem Keeps.keyDeleteEffect (hs : Keeps s₀ s) {k} :
    KeepsFst s₀ (keyDeleteEffect k s) := by
  unfold Machine.keyDeleteEffect
  extract_lets _ s1
  have h1 : Keeps s₀ s1 := hs.updCrib
  exact KeepsFst.either (KeepsFst.mk hs) (KeepsFst.mk h1.secLog.cribEv)

theorem Keeps.cipherEffect (hs : Keeps s₀ s) {k} :
    KeepsFst s₀ (cipherEffect k s) := by
  unfold Machine.cipherEffect
  extract_lets
  split
  · split
    · exact KeepsFst.mk hs
    · split
      · rename_i a s1 _ e
        have h1 : Keeps s₀ s1 := hs.winBytes.of_eq e
        exact KeepsFst.mk h1
      · rename_i a s1 _ e
        have h1 : Keeps s₀ s1 := hs.winBytes.of_eq e
        split
        · rename_i a' s1' _ e'
          have hs1' : Keeps s₀ s1' := h1.winBytes.of_eq e'
          exact KeepsFst.mk hs1'
        · rename_i a' s1' _ e'
          have hs1' : Keeps s₀ s1' := h1.winBytes.of_eq e'
          split
          · rename_i a'' s1'' _ e''
            have hs1'' : Keeps s₀ s1'' := hs1'.winBytes.of_eq e''
            exact KeepsFst.mk hs1''
          · rename_i a'' s1'' _ e''
            have hs1'' : Keeps s₀ s1'' := hs1'.winBytes.of_eq e''
            split
            · exact KeepsFst.either (KeepsFst.mk hs1''.winPutBytes) (KeepsFst.mk hs1''.winPutBytes)

theorem Keeps.macEffect (hs : Keeps s₀ s) {k} :
    KeepsFst s₀ (macEffect k s) := by
  unfold Machine.macEffect
  extract_lets
  split
  · rename_i a s1 _ e
    have h1 : Keeps s₀ s1 := hs.winBytes.of_eq e
    exact KeepsFst.mk h1
  · rename_i a s1 _ e
    have h1 : Keeps s₀ s1 := hs.winBytes.of_eq e
    split
    · exact KeepsFst.mk h1
    · refine KeepsFst.either ?_ (KeepsFst.mk h1.winPutBytes)
      split
      · rename_i a' s1' _ e'
        have hs1' : Keeps s₀ s1' := h1.winBytes.of_eq e'
        exact KeepsFst.mk hs1'
      · rename_i a' s1' _ e'
        have hs1' : Keeps s₀ s1' := h1.winBytes.of_eq e'
        exact KeepsFst.either (KeepsFst.mk hs1') (KeepsFst.mk hs1'.authFail)

theorem Keeps.hashEffect (hs : Keeps s₀ s) {k} :
    KeepsFst s₀ (hashEffect k s) := by
  unfold Machine.hashEffect
  extract_lets
  split
  · rename_i a s1 _ e
    have h1 : Keeps s₀ s1 := by
      refine KeepsFst.of_eq (KeepsFst.either ?_ hs.winBytes) e
      split
      · rename_i a s1 _ e
        have h1 : Keeps s₀ s1 := hs.flashBytes.of_eq e
        exact KeepsFst.mk h1
      · rename_i a s1 e
        have h1 : Keeps s₀ s1 := hs.flashBytes.of_eq e
        exact KeepsFst.mk h1
    split
    · exact KeepsFst.mk h1
    · exact KeepsFst.mk h1.winPutBytes

theorem Keeps.signEffect (hs : Keeps s₀ s) {k} :
    KeepsFst s₀ (signEffect k s) := by
  unfold Machine.signEffect
  extract_lets
  refine KeepsFst.either (KeepsFst.mk hs) (KeepsFst.either (KeepsFst.mk hs) ?_)
  split
  · rename_i a s1 _ e
    have h1 : Keeps s₀ s1 := hs.winBytes.of_eq e
    exact KeepsFst.mk h1
  · rename_i a s1 _ e
    have h1 : Keeps s₀ s1 := hs.winBytes.of_eq e
    split
    · rename_i a' s2 _ e'
      have h2 : Keeps s₀ s2 := h1.drbgBytes.of_eq e'
      extract_lets
      exact KeepsFst.mk h2.winPutBytes

theorem Keeps.verifyEffect (hs : Keeps s₀ s) {k} :
    KeepsFst s₀ (verifyEffect k s) := by
  unfold Machine.verifyEffect
  extract_lets
  refine KeepsFst.either (KeepsFst.mk hs) ?_
  split
  · rename_i a s1 _ e
    have h1 : Keeps s₀ s1 := hs.winBytes.of_eq e
    exact KeepsFst.mk h1
  · rename_i a s1 _ e
    have h1 : Keeps s₀ s1 := hs.winBytes.of_eq e
    split
    · rename_i a' s1' _ e'
      have hs1' : Keeps s₀ s1' := h1.winBytes.of_eq e'
      exact KeepsFst.mk hs1'
    · rename_i a' s1' _ e'
      have hs1' : Keeps s₀ s1' := h1.winBytes.of_eq e'
      split
      · rename_i a'' s1'' _ e''
        have hs1'' : Keeps s₀ s1'' := KeepsFst.of_eq (KeepsFst.either hs1'.winBytes (KeepsFst.mk hs1')) e''
        split
        · exact KeepsFst.mk hs1''
        · exact KeepsFst.either (KeepsFst.mk hs1'') (KeepsFst.mk hs1''.authFail)

theorem Keeps.ecdhEffect (hs : Keeps s₀ s) {k} :
    KeepsFst s₀ (ecdhEffect k s) := by
  unfold Machine.ecdhEffect
  extract_lets
  refine KeepsFst.either (KeepsFst.mk hs) (KeepsFst.either (KeepsFst.mk hs) (KeepsFst.either (KeepsFst.mk hs) ?_))
  split
  · rename_i a s1 _ e
    have h1 : Keeps s₀ s1 := hs.winBytes.of_eq e
    exact KeepsFst.mk h1
  · rename_i a s1 _ e
    have h1 : Keeps s₀ s1 := hs.winBytes.of_eq e
    split
    · rename_i a' s1' _ e'
      have hs1' : Keeps s₀ s1' := h1.winBytes.of_eq e'
      exact KeepsFst.mk hs1'
    · rename_i a' s1' _ e'
      have hs1' : Keeps s₀ s1' := h1.winBytes.of_eq e'
      split
      · exact KeepsFst.mk hs1'
      · extract_lets
        exact KeepsFst.mk hs1'.writeKey

theorem Keeps.randomEffect (hs : Keeps s₀ s) {k} :
    KeepsFst s₀ (randomEffect k s) := by
  unfold Machine.randomEffect
  extract_lets s1
  have h1 : Keeps s₀ s1 := Keeps.either hs.reseedDrbg hs
  split
  · rename_i a s2 _ e
    have h2 : Keeps s₀ s2 := h1.drbgBytes.of_eq e
    exact KeepsFst.mk h2.winPutBytes

theorem Keeps.blow (hs : Keeps s₀ s) {n} :
    Keeps s₀ (s.blow n) := by
  unfold State.blow
  exact hs.updRg

theorem Keeps.lifeStep (hs : Keeps s₀ s) {new k} :
    Keeps s₀ (s.lifeStep new k) := by
  unfold State.lifeStep
  exact hs.blow.secLog.cribEv

theorem Keeps.burnP (hs : Keeps s₀ s) : Keeps s₀ { s with fuse := { s.fuse with p := true } } :=
  hs.sameFuse hs (by simp) (by simp [burnt_iff])

theorem Keeps.burnF (hs : Keeps s₀ s) (hp : s.fuse.p = true) :
    Keeps s₀ { s with fuse := { s.fuse with f := true } } :=
  hs.sameFuse hs (by simp [hp]) (by simp [burnt_iff])

theorem Keeps.burnD (hs : Keeps s₀ s) : Keeps s₀ { s with fuse := { s.fuse with d := true } } :=
  hs.sameFuse hs (by simp) (by simp [burnt_iff])

/-- PROVISION is a lifecycle whose first fuse is blown. -/
theorem blown_of_lifecycle_eq_one (h : s.lifecycle = 1) : s.fuse.p = true := by
  unfold State.lifecycle at h
  grind

theorem Keeps.lifecycleEffect (hs : Keeps s₀ s) {k} :
    KeepsFst s₀ (lifecycleEffect k s) := by
  unfold Machine.lifecycleEffect
  dsimp only
  split
  · split
    · exact KeepsFst.mk hs.burnP.lifeStep.newSecret.fst.draw.snd.cribError
    · exact KeepsFst.mk hs.burnP.lifeStep.newSecret.fst.writeKey
  · split
    · rename_i hgo
      have hp : s.fuse.p = true := by
        simp only [Bool.and_eq_true, decide_eq_true_eq] at hgo
        exact blown_of_lifecycle_eq_one hgo.1.1.2
      exact KeepsFst.mk (hs.burnF hp).lifeStep
    · exact KeepsFst.either (KeepsFst.mk hs.zeroiseCrib.burnD.lifeStep) (KeepsFst.mk hs)

theorem Keeps.revoke (hs : Keeps s₀ s) {c : Prop} [Decidable c] :
    Keeps s₀ { s with
      fuse := if c then { s.fuse with revoked0 := true } else { s.fuse with revoked1 := true } } :=
  hs.sameFuse hs (by split <;> exact id) (by split <;> simp [burnt_iff])

/-- A root is set where none is. -/
theorem Keeps.setRoot (hs : Keeps s₀ s) {u : State} (hu : Keeps s₀ u) {c : Prop} [Decidable c] {l}
    (hfree : (if c then u.fuse.root0.isSome else u.fuse.root1.isSome) = false) :
    Keeps s₀ { s with
      fuse := if c then { u.fuse with root0 := some l } else { u.fuse with root1 := some l } } :=
  hs.sameFuse hu (by split <;> exact id) (by split at hfree <;> simp_all [burnt_iff])

theorem Keeps.rootSetEffect (hs : Keeps s₀ s) {k} :
    KeepsFst s₀ (rootSetEffect k s) := by
  unfold Machine.rootSetEffect
  dsimp only
  split
  · exact KeepsFst.either (KeepsFst.mk hs) (KeepsFst.mk hs.revoke.blow.secLog)
  · refine KeepsFst.ofIte (KeepsFst.mk hs) fun hgo => ?_
    rw [Bool.or_eq_true, not_or, Bool.not_eq_true, Bool.not_eq_true] at hgo
    split
    · rename_i a s1 _ e
      have h1 : Keeps s₀ s1 := hs.winBytes.of_eq e
      exact KeepsFst.mk h1
    · rename_i a s1 _ e
      have h1 : Keeps s₀ s1 := hs.winBytes.of_eq e
      exact KeepsFst.mk (h1.setRoot hs hgo.2).blow.secLog

/-- The debug port is closed for good. -/
theorem Keeps.closeDebug (hs : Keeps s₀ s) {tap} :
    Keeps s₀ { s with fuse := { s.fuse with debugClosed := true }, tap } :=
  hs.sameFuse hs (by simp) (by simp [burnt_iff])

theorem Keeps.debugCloseEffect (hs : Keeps s₀ s) {k} :
    KeepsFst s₀ (debugCloseEffect k s) := by
  unfold Machine.debugCloseEffect
  extract_lets _ s1 s2 _ s3
  have h1 : Keeps s₀ s1 := hs.closeDebug
  have h2 : Keeps s₀ s2 := h1.blow.secLog
  have h3 : Keeps s₀ s3 := h2.same
  exact KeepsFst.mk (Keeps.either h3.evPulse.changeOwner h3)

theorem Keeps.selftestEffect (hs : Keeps s₀ s) {failed x} :
    KeepsFst s₀ (selftestEffect failed x s) := by
  unfold Machine.selftestEffect
  extract_lets s1
  have h1 : Keeps s₀ s1 := hs.updRg
  split
  · exact KeepsFst.mk h1
  · exact KeepsFst.mk h1.cribError

theorem Keeps.zeroiseEffect (hs : Keeps s₀ s) {k} :
    KeepsFst s₀ (zeroiseEffect k s) := by
  unfold Machine.zeroiseEffect
  exact KeepsFst.mk hs.zeroiseCrib

theorem Keeps.reseedEffect (hs : Keeps s₀ s) {x} :
    KeepsFst s₀ (reseedEffect x s) := by
  unfold Machine.reseedEffect
  exact KeepsFst.mk hs.reseedDrbg

theorem Keeps.tamperCfgEffect (hs : Keeps s₀ s) {v} :
    KeepsFst s₀ (tamperCfgEffect v s) := by
  unfold Machine.tamperCfgEffect
  exact KeepsFst.either (KeepsFst.mk hs) (KeepsFst.mk hs.setRg)

theorem Keeps.execKeyGen (hs : Keeps s₀ s) {tag} :
    KeepsOut s₀ (execKeyGen tag s) := by
  unfold Machine.execKeyGen
  exact KeepsOut.next (hs.cribOp (fun _ _ ha => ha.keyGenEffect))

theorem Keeps.execKeyImport (hs : Keeps s₀ s) {tag} :
    KeepsOut s₀ (execKeyImport tag s) := by
  unfold Machine.execKeyImport
  exact KeepsOut.next (hs.cribOp (fun _ _ ha => ha.keyImportEffect))

theorem Keeps.execKeyPub (hs : Keeps s₀ s) {tag} :
    KeepsOut s₀ (execKeyPub tag s) := by
  unfold Machine.execKeyPub
  exact KeepsOut.next (hs.cribOp (fun _ _ ha => ha.keyPubEffect))

theorem Keeps.execKeyDelete (hs : Keeps s₀ s) {tag} :
    KeepsOut s₀ (execKeyDelete tag s) := by
  unfold Machine.execKeyDelete
  exact KeepsOut.next (hs.cribOp (fun _ _ ha => ha.keyDeleteEffect))

theorem Keeps.execCipher (hs : Keeps s₀ s) {tag} :
    KeepsOut s₀ (execCipher tag s) := by
  unfold Machine.execCipher
  exact KeepsOut.next (hs.cribOp (fun _ _ ha => ha.cipherEffect))

theorem Keeps.execMac (hs : Keeps s₀ s) {tag} :
    KeepsOut s₀ (execMac tag s) := by
  unfold Machine.execMac
  exact KeepsOut.next (hs.cribOp (fun _ _ ha => ha.macEffect))

theorem Keeps.execHash (hs : Keeps s₀ s) {tag} :
    KeepsOut s₀ (execHash tag s) := by
  unfold Machine.execHash
  extract_lets
  exact KeepsOut.next (Keeps.either hs (hs.cribOp (fun _ _ ha => ha.hashEffect)))

theorem Keeps.execSign (hs : Keeps s₀ s) {tag} :
    KeepsOut s₀ (execSign tag s) := by
  unfold Machine.execSign
  exact KeepsOut.next (hs.cribOp (fun _ _ ha => ha.signEffect))

theorem Keeps.execVerify (hs : Keeps s₀ s) {tag} :
    KeepsOut s₀ (execVerify tag s) := by
  unfold Machine.execVerify
  exact KeepsOut.next (hs.cribOp (fun _ _ ha => ha.verifyEffect))

theorem Keeps.execEcdh (hs : Keeps s₀ s) {tag} :
    KeepsOut s₀ (execEcdh tag s) := by
  unfold Machine.execEcdh
  exact KeepsOut.next (hs.cribOp (fun _ _ ha => ha.ecdhEffect))

theorem Keeps.execRandom (hs : Keeps s₀ s) {tag} :
    KeepsOut s₀ (execRandom tag s) := by
  unfold Machine.execRandom
  exact KeepsOut.next (hs.cribOp (fun _ _ ha => ha.randomEffect))

theorem Keeps.execLifecycle (hs : Keeps s₀ s) {tag} :
    KeepsOut s₀ (execLifecycle tag s) := by
  unfold Machine.execLifecycle
  exact KeepsOut.next (hs.cribOp (fun _ _ ha => ha.lifecycleEffect))

theorem Keeps.execRootSet (hs : Keeps s₀ s) {tag} :
    KeepsOut s₀ (execRootSet tag s) := by
  unfold Machine.execRootSet
  exact KeepsOut.next (hs.cribOp (fun _ _ ha => ha.rootSetEffect))

theorem Keeps.execDebugClose (hs : Keeps s₀ s) {tag} :
    KeepsOut s₀ (execDebugClose tag s) := by
  unfold Machine.execDebugClose
  exact KeepsOut.next (hs.cribOp (fun _ _ ha => ha.debugCloseEffect))

theorem Keeps.execSelftest (hs : Keeps s₀ s) {tag failed} :
    KeepsOut s₀ (execSelftest tag failed s) := by
  unfold Machine.execSelftest
  exact KeepsOut.next (hs.cribOp (fun _ _ ha => ha.selftestEffect))

theorem Keeps.execZeroise (hs : Keeps s₀ s) {tag} :
    KeepsOut s₀ (execZeroise tag s) := by
  unfold Machine.execZeroise
  exact KeepsOut.next (hs.cribOp (fun _ _ ha => ha.zeroiseEffect))

theorem Keeps.execReseed (hs : Keeps s₀ s) {tag} :
    KeepsOut s₀ (execReseed tag s) := by
  unfold Machine.execReseed
  exact KeepsOut.next (hs.cribOp (fun _ _ ha => ha.reseedEffect))

theorem Keeps.execHealthTestFail (hs : Keeps s₀ s) {apt} :
    KeepsOut s₀ (execHealthTestFail apt s) := by
  unfold Machine.execHealthTestFail
  refine KeepsOut.next (Keeps.either hs ?_)
  extract_lets s1
  have h1 : Keeps s₀ s1 := hs.updRg
  split
  · rename_i a _ s1' e
    have hs1' : Keeps s₀ s1' := h1.draw.of_eq e
    exact hs1'.cribError

theorem Keeps.execTamperCfgWrite (hs : Keeps s₀ s) {m v} :
    KeepsOut s₀ (execTamperCfgWrite m v s) := by
  unfold Machine.execTamperCfgWrite
  exact KeepsOut.next (hs.write (fun _ ha => ha.tamperCfgEffect))

/-! ### Machine, Granary -/

theorem Keeps.takeFrames {s₀ s : State} (hs : Keeps s₀ s) {a a'} :
    KeepsFst s₀ (s.takeFrames a a') := by
  unfold State.takeFrames
  split
  · exact KeepsFst.mk hs
  · split
    · rename_i a'' s1 e
      have h1 : Keeps s₀ s1 := hs.pickFrom.of_eq e
      exact KeepsFst.mk h1
    · rename_i a'' s1 _ e
      have h1 : Keeps s₀ s1 := hs.pickFrom.of_eq e
      split
      · rename_i a''' s2 _ e'
        have h2 : Keeps s₀ s2 := h1.takeFrames.of_eq e'
        exact KeepsFst.mk h2

theorem Keeps.placeRuns (hs : Keeps s₀ s) {reason h frames} :
    Keeps s₀ (s.placeRuns reason h frames) := by
  unfold State.placeRuns
  refine hs.foldl ?_
  intro a _ ha
  split
  · exact ha.place

theorem Keeps.resizePool (hs : Keeps s₀ s) {old new} :
    Keeps s₀ (s.resizePool old new) := by
  unfold State.resizePool
  extract_lets s1
  have h1 : Keeps s₀ s1 := hs.setRg
  exact h1.updRg

theorem Keeps.grow (hs : Keeps s₀ s) {reason h n r} :
    KeepsFst s₀ (s.grow reason h n r) := by
  unfold State.grow
  extract_lets
  refine KeepsFst.either (KeepsFst.mk hs) ?_
  split
  · rename_i a s2 _ e
    have h2 : Keeps s₀ s2 := hs.takeFrames.of_eq e
    extract_lets s2'
    have hs2' : Keeps s₀ s2' := h2.setRegion.placeRuns
    exact KeepsFst.mk hs2'.refreshNolog

theorem Keeps.declareEffect (hs : Keeps s₀ s) {k} :
    KeepsFst s₀ (declareEffect k s) := by
  unfold Machine.declareEffect
  extract_lets
  split
  · exact KeepsFst.mk hs
  · split
    · rename_i a s1 _ e
      have h1 : Keeps s₀ s1 := hs.grow.of_eq e
      exact KeepsFst.mk h1

theorem Keeps.freeFramesOf (hs : Keeps s₀ s) {l} :
    Keeps s₀ (s.freeFramesOf l) := by
  unfold State.freeFramesOf
  exact hs.foldl (fun _ _ ha => ha.zeroFrame)

theorem Keeps.dropFieldData (hs : Keeps s₀ s) :
    Keeps s₀ s.dropFieldData :=
  hs.sameTables Tab.wf_keep id id id

theorem Keeps.dropRadioData (hs : Keeps s₀ s) :
    Keeps s₀ s.dropRadioData :=
  hs.sameTables Tab.wf_keep id id id

theorem Keeps.regionReleaseEffect (hs : Keeps s₀ s) {k} :
    KeepsFst s₀ (regionReleaseEffect k s) := by
  unfold Machine.regionReleaseEffect
  extract_lets
  split
  · exact KeepsFst.mk hs
  · refine KeepsFst.either (KeepsFst.mk hs) (KeepsFst.either (KeepsFst.mk hs) ?_)
    extract_lets s1
    have h1 : Keeps s₀ s1 := hs.setRegion.freeFramesOf.refreshNolog
    exact KeepsFst.mk (Keeps.either h1.dropFieldData (Keeps.either h1.dropRadioData h1))

theorem Keeps.resizeEffect (hs : Keeps s₀ s) {k} :
    KeepsFst s₀ (resizeEffect k s) := by
  unfold Machine.resizeEffect
  extract_lets
  split
  · exact KeepsFst.mk hs
  · extract_lets _ s1
    have h1 : Keeps s₀ s1 := hs.setRegion.freeFramesOf
    refine KeepsFst.either (KeepsFst.mk hs) (KeepsFst.either (KeepsFst.mk hs)
        (KeepsFst.either (KeepsFst.mk (Keeps.either h1.resizePool h1)) ?_))
    split
    · rename_i a s1' _ e
      have hs1' : Keeps s₀ s1' := hs.grow.of_eq e
      exact KeepsFst.mk (Keeps.either hs1'.resizePool hs1')

theorem Keeps.pinEffect (hs : Keeps s₀ s) {pinning tag k} :
    KeepsFst s₀ (pinEffect pinning tag k s) := by
  unfold Machine.pinEffect
  extract_lets
  refine KeepsFst.either (KeepsFst.mk hs) ?_
  split
  · exact KeepsFst.mk hs
  · refine KeepsFst.either (KeepsFst.mk hs) (KeepsFst.either (KeepsFst.mk hs.setPin.nextCopy)
        (KeepsFst.either (KeepsFst.mk hs) ?_))
    split
    · exact KeepsFst.either (KeepsFst.mk hs) (KeepsFst.either (KeepsFst.mk (Keeps.either hs.setPin.nextCopy hs))
          (KeepsFst.mk hs.addJob))

theorem Keeps.scoreOf (hs : Keeps s₀ s) {f} :
    KeepsFst s₀ (s.scoreOf f) := by
  unfold State.scoreOf
  refine KeepsFst.either ?_ (KeepsFst.mk hs)
  split
  · rename_i a _ s1 e
    have h1 : Keeps s₀ s1 := hs.draw.of_eq e
    exact KeepsFst.mk h1

theorem Keeps.scores {s₀ s : State} (hs : Keeps s₀ s) {a} :
    KeepsFst s₀ (s.scores a) := by
  unfold State.scores
  split
  · exact KeepsFst.mk hs
  · split
    · rename_i a' s1 _ e
      have h1 : Keeps s₀ s1 := hs.scoreOf.of_eq e
      split
      · rename_i a'' s2 _ e'
        have h2 : Keeps s₀ s2 := h1.scores.of_eq e'
        exact KeepsFst.mk h2

theorem Keeps.loftMove (hs : Keeps s₀ s) {f into} :
    Keeps s₀ (s.loftMove f into) := by
  unfold State.loftMove
  exact hs.addJob

theorem Keeps.loftPairs {s₀ s : State} (hs : Keeps s₀ s) {before a a'} :
    Keeps s₀ (s.loftPairs before a a') := by
  unfold State.loftPairs
  split
  · exact hs
  · split
    · exact hs.loftPairs
    · exact hs.loftMove.loftMove.loftPairs

theorem Keeps.scoreLoft (hs : Keeps s₀ s) :
    Keeps s₀ s.scoreLoft := by
  unfold State.scoreLoft
  extract_lets
  split
  · rename_i a s2 _ e
    have h2 : Keeps s₀ s2 := hs.scores.of_eq e
    extract_lets _ _ _ _ _ s2' s3
    have hs2' : Keeps s₀ s2' := h2.sameMem
    have h3 : Keeps s₀ s3 := hs2'.foldl (fun _ _ ha' => ha'.loftMove)
    exact Keeps.either h3.loftPairs hs2'

theorem Keeps.setHandler (hs : Keeps s₀ s) {n h} :
    Keeps s₀ (s.setHandler n h) := by
  unfold State.setHandler
  exact hs.sameMem

theorem Keeps.setHraise (hs : Keeps s₀ s) {n b} :
    Keeps s₀ (s.setHraise n b) := by
  unfold State.setHraise
  exact hs.updRg.settle

theorem Keeps.hdeclareEffect (hs : Keeps s₀ s) {k} :
    KeepsFst s₀ (hdeclareEffect k s) := by
  unfold Machine.hdeclareEffect
  extract_lets _ _ _ s1
  have h1 : Keeps s₀ s1 := hs.setHandler
  refine KeepsFst.either ?_ (KeepsFst.mk (Keeps.either h1 h1.setHraise))
  split
  · exact KeepsFst.mk hs
  · exact KeepsFst.mk hs.setHandler.setHraise

theorem Keeps.hpinEffect (hs : Keeps s₀ s) {k} :
    KeepsFst s₀ (hpinEffect k s) := by
  unfold Machine.hpinEffect
  extract_lets
  split
  · exact KeepsFst.mk hs
  · exact KeepsFst.either (KeepsFst.mk hs) (KeepsFst.mk hs.setHandler)

theorem Keeps.hraiseEffect (hs : Keeps s₀ s) {v} :
    KeepsFst s₀ (hraiseEffect v s) := by
  unfold Machine.hraiseEffect
  exact KeepsFst.mk (hs.foldl (fun _ _ ha => Keeps.either ha.setHraise ha))

theorem Keeps.ctxResEffect (hs : Keeps s₀ s) {v} :
    KeepsFst s₀ (ctxResEffect v s) := by
  unfold Machine.ctxResEffect
  exact KeepsFst.either (KeepsFst.mk hs) (KeepsFst.mk hs.setRg)

theorem Keeps.clearBank (hs : Keeps s₀ s) {b} :
    Keeps s₀ (s.clearBank b) := by
  unfold State.clearBank
  refine hs.foldl ?_
  intro a _ ha
  split
  · rename_i a' s1 e
    have h1 : Keeps s₀ s1 := ha.pickFrom.of_eq e
    exact h1
  · rename_i a' s1 _ e
    have h1 : Keeps s₀ s1 := ha.pickFrom.of_eq e
    exact h1.place.moveFrame

theorem Keeps.testFail (hs : Keeps s₀ s) {bank region fault} :
    Keeps s₀ (s.testFail bank region fault) := by
  unfold State.testFail
  extract_lets s1
  have h1 : Keeps s₀ s1 := hs.setRg.setPair
  exact h1.updRg.evPulse.faultRec.refreshGranary.setDegraded

theorem Keeps.retireBank (hs : Keeps s₀ s) {b} :
    Keeps s₀ (s.retireBank b) := by
  unfold State.retireBank
  exact Keeps.either hs.updRg.suspectBank hs

theorem Keeps.bankFails (hs : Keeps s₀ s) {b} :
    Keeps s₀ (s.bankFails b) := by
  unfold State.bankFails
  split
  · rename_i a _ s1 e
    have h1 : Keeps s₀ s1 := hs.draw.of_eq e
    exact h1.testFail.retireBank

theorem Keeps.testBank (hs : Keeps s₀ s) {b pass} :
    KeepsFst s₀ (s.testBank b pass) := by
  unfold State.testBank
  extract_lets _ stat s1
  have h1 : Keeps s₀ s1 := hs.clearBank.updRg.evPulse.updRg
  exact KeepsFst.either (KeepsFst.mk hs.updRg.evPulse) (KeepsFst.either (KeepsFst.mk h1) (KeepsFst.mk h1.bankFails))

theorem Keeps.returnBank (hs : Keeps s₀ s) {b} :
    Keeps s₀ (s.returnBank b) := by
  unfold State.returnBank
  extract_lets _ _ s1
  have h1 : Keeps s₀ s1 := hs.updRg.updRg
  exact h1.sameMem.refreshGranary

theorem Keeps.regionFails (hs : Keeps s₀ s) {r fault} :
    Keeps s₀ (s.regionFails r fault) := by
  unfold State.regionFails
  refine Keeps.either ?_ ?_
  · extract_lets _ _ s1 a _ s2 s3
    have h1 : Keeps s₀ s1 := hs.testFail
    have ha : Keeps s₀ a := h1.updRg
    have h2 : Keeps s₀ s2 := ha.sameMem
    have h3 : Keeps s₀ s3 := Keeps.either h2.addJob h2.frameRetire.redirectCopy
    exact Keeps.either h1 (Keeps.either h3.retireBank h3)
  · extract_lets _ s1
    have h1 : Keeps s₀ s1 := hs.testFail
    exact Keeps.either h1.sameMem (Keeps.either h1 h1.sameMem)

theorem Keeps.endRegionTest (hs : Keeps s₀ s) {fault} :
    Keeps s₀ (s.endRegionTest fault) := by
  unfold State.endRegionTest
  split
  · exact hs
  · extract_lets _ s1 _ s2 s3 s4
    have h1 : Keeps s₀ s1 := hs.sameMem
    have h2 : Keeps s₀ s2 := by
      unfold s2
      split
      · exact h1
      · exact h1.sameMem.regionFails
    have h3 : Keeps s₀ s3 := h2.setRg.updRg.evPulse
    have h4 : Keeps s₀ s4 := by
      unfold s4
      split
      · exact h3.setResult
      · exact h3
    exact Keeps.either h2.setRg h4.sameMem

theorem Keeps.execDeclare (hs : Keeps s₀ s) {tag} :
    KeepsOut s₀ (execDeclare tag s) := by
  unfold Machine.execDeclare
  exact KeepsOut.next (hs.runOp (fun _ _ ha => ha.declareEffect))

theorem Keeps.execRegionRelease (hs : Keeps s₀ s) {tag} :
    KeepsOut s₀ (execRegionRelease tag s) := by
  unfold Machine.execRegionRelease
  exact KeepsOut.next (hs.runOp (fun _ _ ha => ha.regionReleaseEffect))

theorem Keeps.execResize (hs : Keeps s₀ s) {tag} :
    KeepsOut s₀ (execResize tag s) := by
  unfold Machine.execResize
  exact KeepsOut.next (hs.runOp (fun _ _ ha => ha.resizeEffect))

theorem Keeps.execPin (hs : Keeps s₀ s) {tag} :
    KeepsOut s₀ (execPin tag s) := by
  unfold Machine.execPin
  exact KeepsOut.next (hs.runOp (fun _ _ ha => ha.pinEffect))

theorem Keeps.execMigrate (hs : Keeps s₀ s) {tag} :
    KeepsOut s₀ (execMigrate tag s) := by
  unfold Machine.execMigrate
  exact KeepsOut.next (hs.runOp (fun _ _ ha => ha.pinEffect))

theorem Keeps.execHdeclare (hs : Keeps s₀ s) {tag} :
    KeepsOut s₀ (execHdeclare tag s) := by
  unfold Machine.execHdeclare
  exact KeepsOut.next (hs.runOp (fun _ _ ha => ha.hdeclareEffect))

theorem Keeps.execHpin (hs : Keeps s₀ s) {tag} :
    KeepsOut s₀ (execHpin tag s) := by
  unfold Machine.execHpin
  exact KeepsOut.next (hs.runOp (fun _ _ ha => ha.hpinEffect))

theorem Keeps.execBankReturn (hs : Keeps s₀ s) {tag pass} :
    KeepsOut s₀ (execBankReturn tag pass s) := by
  unfold Machine.execBankReturn
  refine KeepsOut.next (hs.runOp ?_)
  intro _ a ha
  extract_lets
  refine KeepsFst.either (KeepsFst.mk ha) ?_
  split
  · rename_i a' t1 e
    have ht1 : Keeps s₀ t1 := ha.testBank.of_eq e
    exact KeepsFst.mk ht1
  · rename_i a' t1 e
    have ht1 : Keeps s₀ t1 := ha.testBank.of_eq e
    exact KeepsFst.mk ht1.returnBank
  · rename_i a' t1 e
    have ht1 : Keeps s₀ t1 := ha.testBank.of_eq e
    exact KeepsFst.mk ht1

theorem Keeps.execMemtestPass (hs : Keeps s₀ s) {tag} :
    KeepsOut s₀ (execMemtestPass tag s) := by
  unfold Machine.execMemtestPass
  exact KeepsOut.next (hs.runOp (fun _ _ ha => KeepsFst.either (KeepsFst.mk ha) (KeepsFst.mk ha.sameMem.setRg)))

theorem Keeps.execMemtestBank (hs : Keeps s₀ s) {tag pass} :
    KeepsOut s₀ (execMemtestBank tag pass s) := by
  unfold Machine.execMemtestBank
  refine KeepsOut.next (hs.runOp ?_)
  intro _ a ha
  extract_lets
  refine KeepsFst.either (KeepsFst.mk ha) ?_
  split
  · rename_i a' t1 e
    have ht1 : Keeps s₀ t1 := ha.testBank.of_eq e
    exact KeepsFst.mk ht1
  · rename_i a' t1 _ e
    have ht1 : Keeps s₀ t1 := ha.testBank.of_eq e
    exact KeepsFst.mk ht1

theorem Keeps.execFrameCopyDone (hs : Keeps s₀ s) :
    KeepsOut s₀ (execFrameCopyDone s) := by
  unfold Machine.execFrameCopyDone
  exact KeepsOut.next hs.copyDone

theorem Keeps.execLoftScoring (hs : Keeps s₀ s) :
    KeepsOut s₀ (execLoftScoring s) := by
  unfold Machine.execLoftScoring
  exact KeepsOut.next (Keeps.either hs.reach.scoreLoft hs)

theorem Keeps.execRegionTestStart (hs : Keeps s₀ s) :
    KeepsOut s₀ (execRegionTestStart s) := by
  unfold Machine.execRegionTestStart
  refine KeepsOut.next ?_
  extract_lets _ _ s1
  have h1 : Keeps s₀ s1 := Keeps.either hs hs.reach
  exact Keeps.either h1.sameMem hs

theorem Keeps.execRegionTestEnd (hs : Keeps s₀ s) {kind} :
    KeepsOut s₀ (execRegionTestEnd kind s) := by
  unfold Machine.execRegionTestEnd
  exact KeepsOut.next hs.endRegionTest.nextCopy

theorem Keeps.execBankTest (hs : Keeps s₀ s) {pass} :
    KeepsOut s₀ (execBankTest pass s) := by
  unfold Machine.execBankTest
  exact KeepsOut.next (Keeps.either hs.sameMem.testBank.fst hs)

theorem Keeps.windowReject (hs : Keeps s₀ s) {m page off c} :
    Keeps s₀ (s.windowReject m page off c) := by
  unfold State.windowReject
  exact hs.logErr.logMine.portErr.answer

theorem Keeps.foundErrors (hs : Keeps s₀ s) {w errors} :
    Keeps s₀ (s.foundErrors w errors) := by
  unfold State.foundErrors
  exact Keeps.either (Keeps.either hs hs.sameMem) (Keeps.either hs.sameMem hs)

theorem Keeps.windowRead (hs : Keeps s₀ s) {m page off errors} :
    Keeps s₀ (s.windowRead m page off errors) := by
  unfold State.windowRead
  split
  · exact hs
  · exact hs.guardDrop
  · exact hs.answer
  · exact hs.proxyRead
  · exact hs.windowReject
  · exact hs.answer
  · extract_lets
    refine Keeps.either hs.answer (Keeps.either hs.windowReject (Keeps.either hs.windowReject ?_))
    split
    · exact hs.answer
    · extract_lets s1
      have h1 : Keeps s₀ s1 := hs.foundErrors
      refine Keeps.either h1.ueRead.windowReject ?_
      split
      · rename_i a _ s1' e
        have hs1' : Keeps s₀ s1' := h1.correctWords.draw.of_eq e
        exact hs1'.answer
    · split
      · rename_i a s1 _ e
        have h1 : Keeps s₀ s1 := hs.countAccess.foundErrors.readWord.of_eq e
        exact h1.answer
      · rename_i a s1 e
        have h1 : Keeps s₀ s1 := hs.countAccess.foundErrors.readWord.of_eq e
        exact h1.windowReject

theorem Keeps.windowWrite (hs : Keeps s₀ s) {m page off v} :
    Keeps s₀ (s.windowWrite m page off v) := by
  unfold State.windowWrite
  split
  · exact hs
  · exact hs.guardDrop
  · exact hs.rejectUnassigned
  · exact hs.proxyWrite
  · exact hs.windowReject
  · exact hs
  · extract_lets
    refine Keeps.either hs.windowReject (Keeps.either hs.windowReject (Keeps.either hs.windowReject ?_))
    split
    · exact hs.windowReject
    · exact hs.windowReject
    · exact hs.countAccess.setSramWord.answer

theorem Keeps.execMemoryWindowRead (hs : Keeps s₀ s) {m page word errors} :
    KeepsOut s₀ (execMemoryWindowRead m page word errors s) := by
  unfold Machine.execMemoryWindowRead
  exact KeepsOut.next hs.windowRead

theorem Keeps.execMemoryWindowWrite (hs : Keeps s₀ s) {m page word v} :
    KeepsOut s₀ (execMemoryWindowWrite m page word v s) := by
  unfold Machine.execMemoryWindowWrite
  exact KeepsOut.next hs.windowWrite

theorem Keeps.execHraiseClear (hs : Keeps s₀ s) {m v} :
    KeepsOut s₀ (execHraiseClear m v s) := by
  unfold Machine.execHraiseClear
  exact KeepsOut.next (hs.write (fun _ ha => ha.hraiseEffect))

theorem Keeps.execCtxResWrite (hs : Keeps s₀ s) {m v} :
    KeepsOut s₀ (execCtxResWrite m v s) := by
  unfold Machine.execCtxResWrite
  exact KeepsOut.next (hs.write (fun _ ha => ha.ctxResEffect))

/-! ### Machine, Field -/

theorem Keeps.updFld (hs : Keeps s₀ s) {f} :
    Keeps s₀ (s.updFld f) := by
  unfold State.updFld
  exact hs.same

theorem Keeps.putAnt (hs : Keeps s₀ s) {n a} :
    Keeps s₀ (s.putAnt n a) := by
  unfold State.putAnt
  exact hs.updFld

theorem Keeps.updStat (hs : Keeps s₀ s) {n f} :
    Keeps s₀ (s.updStat n f) := by
  unfold State.updStat
  exact hs.updRg

theorem Keeps.putSession (hs : Keeps s₀ s) {h x} :
    Keeps s₀ (s.putSession h x) := by
  unfold State.putSession
  exact hs.updFld

theorem Keeps.fieldLevels (hs : Keeps s₀ s) :
    Keeps s₀ s.fieldLevels := by
  unfold State.fieldLevels
  extract_lets _ s1 s2 s3
  have h1 : Keeps s₀ s1 := hs.levelSource.levelSource
  have h2 : Keeps s₀ s2 := h1.evLevel.evLevel
  have h3 : Keeps s₀ s3 := h2.foldl (fun _ _ ha => ha.evLevel.evLevel)
  exact h3.setDegraded

theorem Keeps.endRun (hs : Keeps s₀ s) :
    Keeps s₀ s.endRun := by
  unfold State.endRun
  extract_lets s1
  have h1 : Keeps s₀ s1 := by
    unfold s1
    split
    · exact hs.ctxFree
    · exact hs
  exact h1.updFld

theorem Keeps.putHeld (hs : Keeps s₀ s) {t h} :
    Keeps s₀ (s.putHeld t h) := by
  unfold State.putHeld
  exact hs.updFld

theorem Keeps.tagFailed (hs : Keeps s₀ s) {t c} :
    Keeps s₀ (s.tagFailed t c) := by
  unfold State.tagFailed
  extract_lets
  exact hs.putHeld

theorem Keeps.tagResult (hs : Keeps s₀ s) {t c v} :
    Keeps s₀ (s.tagResult t c v) := by
  unfold State.tagResult
  extract_lets
  split
  · exact hs.putHeld.evPulse.pulse
  · exact hs.tagFailed.evPulse.pulse

theorem Keeps.breakSlot (hs : Keeps s₀ s) {tag c} :
    Keeps s₀ (s.breakSlot tag c) := by
  unfold State.breakSlot
  extract_lets _ s1
  have h1 : Keeps s₀ s1 := hs.setResult
  refine Keeps.either h1.evPulse (Keeps.either h1.evPulse.pulse (Keeps.either h1.tagResult (Keeps.either ?_ h1)))
  split
  · exact h1.tagResult
  · exact h1

theorem Keeps.breakRun (hs : Keeps s₀ s) {c} :
    Keeps s₀ (s.breakRun c) := by
  unfold State.breakRun
  split
  · exact hs
  · exact hs.breakSlot.endRun

theorem Keeps.loseSession (hs : Keeps s₀ s) {h} :
    Keeps s₀ (s.loseSession h) := by
  unfold State.loseSession
  split
  · exact hs
  · extract_lets s1 s2
    have h1 : Keeps s₀ s1 := hs.ctxFree.putSession
    have h2 : Keeps s₀ s2 := h1.updRg.evPulse.pulse
    split
    · extract_lets
      exact Keeps.either h2.breakRun h2
    · exact h2

theorem Keeps.loseStopped (hs : Keeps s₀ s) :
    Keeps s₀ s.loseStopped := by
  unfold State.loseStopped
  refine hs.foldl ?_
  intro a _ ha
  split
  · exact Keeps.either ha.loseSession ha
  · exact ha

theorem Keeps.refreshField (hs : Keeps s₀ s) :
    Keeps s₀ s.refreshField := by
  unfold State.refreshField
  extract_lets s1 _ s2 s3
  have h1 : Keeps s₀ s1 := hs.loseStopped
  have h2 : Keeps s₀ s2 := by
    unfold s2
    refine h1.foldl ?_
    intro a _ ha
    extract_lets
    exact ha.updStat
  have h3 : Keeps s₀ s3 := Keeps.either h2.updFld h2
  exact h3.updRg.fieldLevels

theorem Keeps.sampleAnt (hs : Keeps s₀ s) {n} :
    Keeps s₀ (s.sampleAnt n) := by
  unfold State.sampleAnt
  refine Keeps.either ?_ hs
  split
  · rename_i a _ s1 e
    have h1 : Keeps s₀ s1 := hs.draw.of_eq e
    split
    · rename_i a' _ s1' e'
      have hs1' : Keeps s₀ s1' := h1.draw.of_eq e'
      extract_lets s3
      have h3 : Keeps s₀ s3 := hs1'.setRg.updStat
      exact h3.updFld

theorem Keeps.failPorts (hs : Keeps s₀ s) {p} :
    Keeps s₀ (s.failPorts p) := by
  unfold State.failPorts
  extract_lets s1
  have h1 : Keeps s₀ s1 := by
    unfold s1
    split
    · exact Keeps.either hs.breakSlot.updFld hs
    · exact hs
  split
  · exact Keeps.either h1.breakRun h1
  · exact h1

theorem Keeps.antCfgEffect (hs : Keeps s₀ s) {n v} :
    KeepsFst s₀ (antCfgEffect n v s) := by
  unfold Machine.antCfgEffect
  extract_lets _ s1 budget
  have h1 : Keeps s₀ s1 := hs.setRg
  exact KeepsFst.either (KeepsFst.mk hs) (KeepsFst.either (KeepsFst.mk hs)
      (KeepsFst.either (KeepsFst.mk hs) (KeepsFst.mk h1.refreshField)))

theorem Keeps.antTuneEffect (hs : Keeps s₀ s) {n v} :
    KeepsFst s₀ (antTuneEffect n v s) := by
  unfold Machine.antTuneEffect
  refine KeepsFst.either (KeepsFst.mk hs) ?_
  extract_lets
  exact KeepsFst.either (KeepsFst.mk hs) (KeepsFst.mk hs.setRg.putAnt)

theorem Keeps.shapeEffect (hs : Keeps s₀ s) {k v} :
    KeepsFst s₀ (shapeEffect k v s) := by
  unfold Machine.shapeEffect
  exact KeepsFst.either (KeepsFst.mk hs) (KeepsFst.mk hs.setRg)

theorem Keeps.judgePort (hs : Keeps s₀ s) {n m} :
    Keeps s₀ (s.judgePort n m) := by
  unfold State.judgePort
  extract_lets _ _ _ _ _ _ _ _ _ _ _ _ s1 s2 s3 _ s4
  have h1 : Keeps s₀ s1 := hs.updStat
  have h2 : Keeps s₀ s2 := h1.setRg
  have h3 : Keeps s₀ s3 := Keeps.either h2 h2.setRg
  have h4 : Keeps s₀ s4 := h3.putAnt.updFld
  exact Keeps.either h4.faultRec.failPorts h4

theorem Keeps.superviseMask (hs : Keeps s₀ s) {mask l} :
    Keeps s₀ (s.superviseMask mask l) := by
  unfold State.superviseMask
  extract_lets s1
  have h1 : Keeps s₀ s1 := by
    unfold s1
    refine hs.foldl ?_
    intro a _ ha
    split
    · exact Keeps.either ha.judgePort ha
    · exact ha
  exact h1.updFld.refreshField

theorem Keeps.matchEffect (hs : Keeps s₀ s) {l k} :
    KeepsFst s₀ (matchEffect l k s) := by
  unfold Machine.matchEffect
  extract_lets _ _ s1
  have h1 : Keeps s₀ s1 := by
    unfold s1
    refine hs.foldl ?_
    intro a _ ha
    split
    · exact ha
    · exact ha.setRg.updStat.putAnt
  exact KeepsFst.either (KeepsFst.mk hs) (KeepsFst.either (KeepsFst.mk hs) (KeepsFst.mk h1.fieldLevels))

theorem Keeps.teachEffect (hs : Keeps s₀ s) {answers replies k} :
    KeepsFst s₀ (teachEffect answers replies k s) := by
  unfold Machine.teachEffect
  extract_lets _ _ _ _ s1
  have h1 : Keeps s₀ s1 := hs.foldl (fun _ _ ha => ha.setRg)
  exact KeepsFst.either (KeepsFst.mk hs) (KeepsFst.either (KeepsFst.mk hs)
      (KeepsFst.either (KeepsFst.mk hs) (KeepsFst.either (KeepsFst.mk hs) (KeepsFst.mk h1.setRg))))

theorem Keeps.drawWeights {s₀ s : State} (hs : Keeps s₀ s) {a} :
    KeepsFst s₀ (s.drawWeights a) := by
  unfold State.drawWeights
  split
  · exact KeepsFst.mk hs
  · split
    · rename_i a' _ s1 e
      have h1 : Keeps s₀ s1 := hs.draw.of_eq e
      split
      · rename_i a'' s2 _ e'
        have h2 : Keeps s₀ s2 := h1.drawWeights.of_eq e'
        exact KeepsFst.mk h2

theorem Keeps.solveWeights (hs : Keeps s₀ s) {ports want null} :
    KeepsFst s₀ (s.solveWeights ports want null) := by
  unfold State.solveWeights
  extract_lets
  refine KeepsFst.either (KeepsFst.mk hs) ?_
  split
  · rename_i a s2 _ e
    have h2 : Keeps s₀ s2 := hs.drawWeights.of_eq e
    exact KeepsFst.mk h2

theorem Keeps.solveEffect (hs : Keeps s₀ s) {k} :
    KeepsFst s₀ (solveEffect k s) := by
  unfold Machine.solveEffect
  extract_lets
  refine KeepsFst.either (KeepsFst.mk hs) ?_
  split
  · rename_i a s2 _ e
    have h2 : Keeps s₀ s2 := hs.solveWeights.of_eq e
    extract_lets _ _ _ _ s2'
    have hs2' : Keeps s₀ s2' := h2.foldl (fun _ _ ha' => ha'.setRg)
    exact KeepsFst.either (KeepsFst.mk h2) (KeepsFst.mk hs2'.setRg)

theorem Keeps.lpcdPort (hs : Keeps s₀ s) {n m} :
    Keeps s₀ (s.lpcdPort n m) := by
  unfold State.lpcdPort
  extract_lets _ _ _ _ s1
  have h1 : Keeps s₀ s1 := hs.updRg
  split
  · exact hs.putAnt
  · exact Keeps.either h1.evPulse.pulse.fireWake hs.putAnt

theorem Keeps.lpcdRound (hs : Keeps s₀ s) {l} :
    Keeps s₀ (s.lpcdRound l) := by
  unfold State.lpcdRound
  extract_lets _ _ s'
  have hs' : Keeps s₀ s' := Keeps.either hs hs.reach
  refine Keeps.either hs' (Keeps.either hs'.updRg (Keeps.either hs' (hs'.foldl ?_)))
  intro a _ ha
  split
  · exact Keeps.either ha ha.lpcdPort
  · exact ha

theorem Keeps.dropRef (hs : Keeps s₀ s) {n} :
    Keeps s₀ (s.dropRef n) := by
  unfold State.dropRef
  exact hs.putAnt

theorem Keeps.lpcdCfgEffect (hs : Keeps s₀ s) {v} :
    KeepsFst s₀ (lpcdCfgEffect v s) := by
  unfold Machine.lpcdCfgEffect
  extract_lets _ s1
  have h1 : Keeps s₀ s1 := hs.setRg
  exact KeepsFst.mk (h1.foldl (fun _ _ ha => Keeps.either ha ha.dropRef))

theorem Keeps.lpcdStatEffect (hs : Keeps s₀ s) {v} :
    KeepsFst s₀ (lpcdStatEffect v s) := by
  unfold Machine.lpcdStatEffect
  exact KeepsFst.mk (hs.foldl (fun _ _ ha => ha.updRg.dropRef))

theorem Keeps.air (hs : Keeps s₀ s) {l} :
    Keeps s₀ (s.air l) := by
  unfold State.air
  exact hs.updFld

theorem Keeps.breakExchange (hs : Keeps s₀ s) {sending} :
    Keeps s₀ (s.breakExchange sending) := by
  unfold State.breakExchange
  split
  · exact hs
  · extract_lets _ s1
    have h1 : Keeps s₀ s1 := hs.updRg.updRg.evPulse
    refine Keeps.either hs ?_
    split
    · rename_i a _ s2 e
      have h2 : Keeps s₀ s2 := by
        refine KeepsSnd.of_eq (KeepsSnd.either ?_ (KeepsSnd.mk h1)) e
        split
        · rename_i a _ s1' e
          have hs1' : Keeps s₀ s1' := h1.draw.of_eq e
          exact KeepsSnd.mk hs1'
      extract_lets
      exact Keeps.either (Keeps.either h2.tagResult.updFld h2.breakRun) h2.updFld

theorem Keeps.sendOwed (hs : Keeps s₀ s) :
    Keeps s₀ s.sendOwed := by
  unfold State.sendOwed
  split
  · exact hs
  · split
    · exact hs
    · split
      · extract_lets
        exact hs.air.updFld

theorem Keeps.coexBegin (hs : Keeps s₀ s) {w sending} :
    Keeps s₀ (s.coexBegin w sending) := by
  unfold State.coexBegin
  extract_lets _ s1 s2 s3
  have h1 : Keeps s₀ s1 := hs.updFld.updRg
  have h2 : Keeps s₀ s2 := Keeps.either h1.pulse h1
  have h3 : Keeps s₀ s3 := Keeps.either h2.breakExchange h2
  exact h3.refreshField

theorem Keeps.coexStart (hs : Keeps s₀ s) {scheduled sending} :
    Keeps s₀ (s.coexStart scheduled sending) := by
  unfold State.coexStart
  refine Keeps.either hs ?_
  extract_lets
  split
  · exact hs.coexBegin
  · extract_lets
    exact Keeps.either hs.updFld hs.reach.coexBegin

theorem Keeps.coexEnd (hs : Keeps s₀ s) :
    Keeps s₀ s.coexEnd := by
  unfold State.coexEnd
  extract_lets s'
  have hs' : Keeps s₀ s' := by
    unfold s'
    refine Keeps.sendOwed ?_
    split
    · exact hs.reach
    · exact hs
  exact hs'.updFld.updRg.refreshField

theorem Keeps.thermal (hs : Keeps s₀ s) {tj} :
    Keeps s₀ (s.thermal tj) := by
  unfold State.thermal
  extract_lets _ _ s1 s1' s1'' s1''' s2 s3
  have h1 : Keeps s₀ s1 := hs.updRg
  have hs1' : Keeps s₀ s1' := h1.updRg
  have hs1'' : Keeps s₀ s1'' := hs1'.evLevel
  have hs1''' : Keeps s₀ s1''' := Keeps.either hs1''.updRg hs1''
  have h2 : Keeps s₀ s2 := hs1'''.updFld.updRg
  have h3 : Keeps s₀ s3 := Keeps.either h2.faultRec h2
  exact Keeps.either hs1' (Keeps.refreshField (Keeps.either h3.failPorts h3))

theorem Keeps.vfldDown (hs : Keeps s₀ s) :
    Keeps s₀ s.vfldDown := by
  unfold State.vfldDown
  extract_lets _ s1
  have h1 : Keeps s₀ s1 := hs.same
  exact h1.faultRec.failPorts.refreshField

theorem Keeps.vfldUp (hs : Keeps s₀ s) :
    Keeps s₀ s.vfldUp := by
  unfold State.vfldUp
  exact Keeps.either hs hs.same.supplyBack.refreshField

theorem Keeps.execAntCfgWrite (hs : Keeps s₀ s) {m n v} :
    KeepsOut s₀ (execAntCfgWrite m n v s) := by
  unfold Machine.execAntCfgWrite
  exact KeepsOut.next (hs.write (fun _ ha => ha.antCfgEffect))

theorem Keeps.execShapeWrite (hs : Keeps s₀ s) {m k v} :
    KeepsOut s₀ (execShapeWrite m k v s) := by
  unfold Machine.execShapeWrite
  exact KeepsOut.next (hs.write (fun _ ha => ha.shapeEffect))

theorem Keeps.newPass (hs : Keeps s₀ s) {l} :
    Keeps s₀ (s.newPass l) := by
  unfold State.newPass
  extract_lets s1
  have h1 : Keeps s₀ s1 := Keeps.either hs.reach hs
  exact h1.updFld.superviseMask

theorem Keeps.latePass (hs : Keeps s₀ s) {l} :
    Keeps s₀ (s.latePass l) := by
  unfold State.latePass
  extract_lets
  exact Keeps.either hs.reach.updFld hs.updFld.superviseMask

theorem Keeps.periodicPass (hs : Keeps s₀ s) {l} :
    Keeps s₀ (s.periodicPass l) := by
  unfold State.periodicPass
  exact Keeps.either hs.latePass hs.newPass

theorem Keeps.execSupervisionPass (hs : Keeps s₀ s) {l} :
    KeepsOut s₀ (execSupervisionPass l s) := by
  unfold Machine.execSupervisionPass
  exact KeepsOut.next (Keeps.either hs.periodicPass hs)

theorem Keeps.execSupervise (hs : Keeps s₀ s) {tag l} :
    KeepsOut s₀ (execSupervise tag l s) := by
  unfold Machine.execSupervise
  refine KeepsOut.next (hs.runOp ?_)
  intro _ a ha
  extract_lets
  exact KeepsFst.either (KeepsFst.mk ha) (KeepsFst.mk ha.superviseMask)

theorem Keeps.execMatchOp (hs : Keeps s₀ s) {tag l} :
    KeepsOut s₀ (execMatchOp tag l s) := by
  unfold Machine.execMatchOp
  exact KeepsOut.next (hs.runOp (fun _ _ ha => ha.matchEffect))

theorem Keeps.execTeach (hs : Keeps s₀ s) {tag answers replies} :
    KeepsOut s₀ (execTeach tag answers replies s) := by
  unfold Machine.execTeach
  exact KeepsOut.next (hs.runOp (fun _ _ ha => ha.teachEffect))

theorem Keeps.execSolve (hs : Keeps s₀ s) {tag} :
    KeepsOut s₀ (execSolve tag s) := by
  unfold Machine.execSolve
  exact KeepsOut.next (hs.runOp (fun _ _ ha => ha.solveEffect))

theorem Keeps.execLpcdRound (hs : Keeps s₀ s) {l} :
    KeepsOut s₀ (execLpcdRound l s) := by
  unfold Machine.execLpcdRound
  exact KeepsOut.next hs.lpcdRound

theorem Keeps.execCoexWindowStart (hs : Keeps s₀ s) {scheduled sending} :
    KeepsOut s₀ (execCoexWindowStart scheduled sending s) := by
  unfold Machine.execCoexWindowStart
  exact KeepsOut.next hs.coexStart

theorem Keeps.execCoexWindowEnd (hs : Keeps s₀ s) :
    KeepsOut s₀ (execCoexWindowEnd s) := by
  unfold Machine.execCoexWindowEnd
  exact KeepsOut.next hs.coexEnd

theorem Keeps.execThermalRead (hs : Keeps s₀ s) {tj} :
    KeepsOut s₀ (execThermalRead tj s) := by
  unfold Machine.execThermalRead
  exact KeepsOut.next (Keeps.either hs hs.thermal)

theorem Keeps.execVfldOut (hs : Keeps s₀ s) :
    KeepsOut s₀ (execVfldOut s) := by
  unfold Machine.execVfldOut
  exact KeepsOut.next hs.vfldDown

theorem Keeps.execVfldReturn (hs : Keeps s₀ s) :
    KeepsOut s₀ (execVfldReturn s) := by
  unfold Machine.execVfldReturn
  exact KeepsOut.next hs.vfldUp

/-! ### Machine, Reader -/

theorem Keeps.antRecord (hs : Keeps s₀ s) {subject tag p} :
    Keeps s₀ (s.antRecord subject tag p) := by
  unfold State.antRecord
  exact hs.place

theorem Keeps.beginRun (hs : Keeps s₀ s) {tag p ctx} :
    Keeps s₀ (s.beginRun tag p ctx) := by
  unfold State.beginRun
  extract_lets
  exact hs.updFld.refreshField

theorem Keeps.readerCount (hs : Keeps s₀ s) {hi lo} :
    Keeps s₀ (s.readerCount hi lo) := by
  unfold State.readerCount
  exact hs.updRg

theorem Keeps.readerEnd (hs : Keeps s₀ s) {tag c} :
    Keeps s₀ (s.readerEnd tag c) := by
  unfold State.readerEnd
  extract_lets s1
  have h1 : Keeps s₀ s1 := Keeps.either hs.endRun hs
  exact h1.setResult.refreshField

theorem Keeps.openSession (hs : Keeps s₀ s) {tag h x} :
    Keeps s₀ (s.openSession tag h x) := by
  unfold State.openSession
  split
  · rename_i a e
    exact hs.readerEnd
  · rename_i a _ s1 e
    have h1 : Keeps s₀ s1 := hs.ctxAlloc.of_eq e
    exact h1.putSession.evPulse.pulse.readerEnd

theorem Keeps.airAct (hs : Keeps s₀ s) {proto l} :
    Keeps s₀ (s.airAct proto l) := by
  unfold State.airAct
  exact hs.air

theorem Keeps.activateFails (hs : Keeps s₀ s) {tag c} :
    Keeps s₀ (s.activateFails tag c) := by
  unfold State.activateFails
  refine Keeps.readerEnd ?_
  split
  · exact hs.readerCount
  · exact hs.readerCount
  · exact hs

theorem Keeps.activateEnd (hs : Keeps s₀ s) {tag k r} :
    Keeps s₀ (s.activateEnd tag k r) := by
  unfold State.activateEnd
  extract_lets _ _ proto
  refine Keeps.either hs.openSession ?_
  split
  · exact hs
  · clear_value proto
    split
    · split
      · extract_lets s1
        have h1 : Keeps s₀ s1 := hs.airAct
        split
        · exact h1.openSession
        · exact Keeps.either h1.activateFails h1.readerEnd
    · split
      · extract_lets s1
        have h1 : Keeps s₀ s1 := hs.airAct
        split
        · exact h1.activateFails
        · extract_lets
          exact h1.airAct.openSession
    · exact hs.airAct.activateFails
    · exact hs.airAct.activateFails

theorem Keeps.airVicc (hs : Keeps s₀ s) {n uid cmd} :
    Keeps s₀ (s.airVicc n uid cmd) := by
  unfold State.airVicc
  extract_lets
  exact hs.air

theorem Keeps.touchSession (hs : Keeps s₀ s) {h f} :
    Keeps s₀ (s.touchSession h f) := by
  unfold State.touchSession
  split
  · exact hs
  · exact hs.putSession

theorem Keeps.exchangeDone (hs : Keeps s₀ s) {tag c} :
    Keeps s₀ (s.exchangeDone tag c) := by
  unfold State.exchangeDone
  exact Keeps.readerEnd (Keeps.either hs hs.evPulse)

theorem Keeps.exchangeRun (hs : Keeps s₀ s) {h x raw cmd r} :
    KeepsFst s₀ (s.exchangeRun h x raw cmd r) := by
  unfold State.exchangeRun
  refine KeepsFst.either ?_ (KeepsFst.either ?_ ?_)
  · split
    · exact KeepsFst.mk hs.airVicc
  · split
    · exact KeepsFst.mk hs.air
  · split
    · extract_lets s1
      have h1 : Keeps s₀ s1 := hs.air.putSession
      split
      · exact KeepsFst.mk h1
      · exact KeepsFst.mk h1

theorem Keeps.exchangeReply (hs : Keeps s₀ s) {tag k cmd l r} :
    Keeps s₀ (s.exchangeReply tag k cmd l r) := by
  unfold State.exchangeReply
  extract_lets _ _ _ _ s1
  have h1 : Keeps s₀ s1 := hs.winPutBytes.touchSession
  exact Keeps.either h1.exchangeDone (Keeps.either h1.authFail.exchangeDone h1.exchangeDone)

theorem Keeps.exchangeEnd (hs : Keeps s₀ s) {tag k r} :
    Keeps s₀ (s.exchangeEnd tag k r) := by
  unfold State.exchangeEnd
  extract_lets
  split
  · rename_i a s1 _ e
    have h1 : Keeps s₀ s1 := hs.winBytes.of_eq e
    exact h1.exchangeDone
  · rename_i a s1 _ e
    have h1 : Keeps s₀ s1 := hs.winBytes.of_eq e
    split
    · exact h1.exchangeDone
    · split
      · rename_i a' s2 _ e'
        have h2 : Keeps s₀ s2 := h1.exchangeRun.of_eq e'
        exact h2.exchangeReply
      · rename_i a' s2 e'
        have h2 : Keeps s₀ s2 := h1.exchangeRun.of_eq e'
        exact h2.readerCount.touchSession.exchangeDone
      · rename_i a' s2 _ _ e'
        have h2 : Keeps s₀ s2 := h1.exchangeRun.of_eq e'
        exact Keeps.exchangeDone (Keeps.touchSession (Keeps.either h2 h2.readerCount))
      · rename_i a' s2 e'
        have h2 : Keeps s₀ s2 := h1.exchangeRun.of_eq e'
        exact h2.loseSession.refreshField

theorem Keeps.remember (hs : Keeps s₀ s) {x} :
    Keeps s₀ (s.remember x) := by
  unfold State.remember
  exact hs.updFld

theorem Keeps.inventoryEnd (hs : Keeps s₀ s) {tag k run l joint} :
    Keeps s₀ (s.inventoryEnd tag k run l joint) := by
  unfold State.inventoryEnd
  extract_lets _ _ _ _ _ _ _ _ _ _ s1 _ s2
  have h1 : Keeps s₀ s1 := by
    unfold s1
    refine hs.air.foldl ?_
    intro a _ ha
    split
    · exact ha
    · exact ha.blockPush.fst.remember
  have h2 : Keeps s₀ s2 := h1.setRg.setRg
  exact h2.evPulse.pulse.readerEnd

theorem Keeps.tagReply (hs : Keeps s₀ s) {t r} :
    KeepsFst s₀ (s.tagReply t r) := by
  unfold State.tagReply
  split
  · extract_lets s1
    have h1 : Keeps s₀ s1 := hs.airVicc
    split
    · split
      · exact KeepsFst.mk h1.tagResult
      · exact KeepsFst.mk h1.tagResult
    · exact KeepsFst.mk h1.readerCount.tagResult
    · exact KeepsFst.mk h1.readerCount.tagResult

theorem Keeps.groupTake {s₀ s : State} (hs : Keeps s₀ s) {tag ok a} :
    Keeps s₀ (s.groupTake tag ok a) := by
  unfold State.groupTake
  split
  · exact hs.updFld
  · extract_lets fail
    split
    · exact hs.tagResult.groupTake
    · exact hs.tagResult.groupTake
    · split
      · rename_i a' e
        exact hs.tagResult.groupTake
      · rename_i a' _ s1 e
        have h1 : Keeps s₀ s1 := hs.antRecord.ctxAlloc.of_eq e
        exact h1.updFld

theorem Keeps.groupNext (hs : Keeps s₀ s) {tag run r} :
    Keeps s₀ (s.groupNext tag run r) := by
  unfold State.groupNext
  split
  · rename_i a s1 _ e
    have h1 : Keeps s₀ s1 := by
      refine KeepsFst.of_eq (KeepsFst.either (KeepsFst.mk hs) ?_) e
      split
      · rename_i a s1 _ e
        have h1 : Keeps s₀ s1 := hs.tagReply.of_eq e
        exact KeepsFst.mk h1
    refine Keeps.groupTake ?_
    split
    · exact h1.ctxFree
    · exact h1

theorem Keeps.groupReads {s₀ s : State} (hs : Keeps s₀ s) {tag a} :
    Keeps s₀ (s.groupReads tag a) := by
  unfold State.groupReads
  split
  · split
    · exact hs
    · exact Keeps.either hs.readerEnd hs.refreshField
  · split
    · exact hs
    · exact Keeps.either hs.readerEnd hs.groupNext.groupReads

theorem Keeps.loadEntry (hs : Keeps s₀ s) {t l} :
    Keeps s₀ (s.loadEntry t l) := by
  unfold State.loadEntry
  extract_lets _ _ s1
  have h1 : Keeps s₀ s1 := hs.updFld
  exact Keeps.either h1 h1.putHeld

theorem Keeps.mapSource (hs : Keeps s₀ s) {k n} :
    KeepsFst s₀ (s.mapSource k n) := by
  unfold State.mapSource
  extract_lets
  refine KeepsFst.either (KeepsFst.either (KeepsFst.mk hs) (KeepsFst.either (KeepsFst.mk hs) ?_)) hs.winReads
  split
  · rename_i a s1 _ e
    have h1 : Keeps s₀ s1 := hs.flashWords.of_eq e
    exact KeepsFst.mk h1
  · rename_i a s1 _ e
    have h1 : Keeps s₀ s1 := hs.flashWords.of_eq e
    exact KeepsFst.mk h1

theorem Keeps.mapLoadEffect (hs : Keeps s₀ s) {k} :
    KeepsFst s₀ (mapLoadEffect k s) := by
  unfold Machine.mapLoadEffect
  extract_lets
  refine KeepsFst.either (KeepsFst.mk hs) (KeepsFst.either (KeepsFst.mk hs) ?_)
  split
  · rename_i a s1 _ e
    have h1 : Keeps s₀ s1 := hs.mapSource.of_eq e
    exact KeepsFst.mk h1
  · rename_i a s1 _ e
    have h1 : Keeps s₀ s1 := hs.mapSource.of_eq e
    extract_lets
    exact KeepsFst.either (KeepsFst.mk (h1.foldl (fun _ _ ha' => ha'.loadEntry))) (KeepsFst.mk h1)

theorem Keeps.readerBegin (hs : Keeps s₀ s) {tag} :
    Keeps s₀ (s.readerBegin tag) := by
  unfold State.readerBegin
  extract_lets _ done s1
  have h1 : Keeps s₀ s1 := hs.beginRun
  split
  · unfold done
    extract_lets t1
    have ht1 : Keeps s₀ t1 := hs.setResult
    exact Keeps.either ht1.evPulse (Keeps.either ht1.tagResult ht1)
  · exact Keeps.either h1.groupTake.refreshField h1
  · extract_lets s1'
    have hs1' : Keeps s₀ s1' := Keeps.either hs hs.antRecord
    refine Keeps.either ?_ hs1'.beginRun
    split
    · rename_i a e
      unfold done
      extract_lets t1
      have ht1 : Keeps s₀ t1 := hs1'.setResult
      exact Keeps.either ht1.evPulse (Keeps.either ht1.tagResult ht1)
    · rename_i a _ s1'' e
      have hs1'' : Keeps s₀ s1'' := hs1'.ctxAlloc.of_eq e
      exact hs1''.beginRun

theorem Keeps.readerStep (hs : Keeps s₀ s) {tag page op eff}
    (heff : ∀ x0 x1 a, Keeps s₀ a → Keeps s₀ (eff x0 x1 a)) :
    Keeps s₀ (s.readerStep tag page op eff) := by
  unfold State.readerStep
  refine Keeps.either ?_ hs
  split
  · exact Keeps.either (heff _ _ _ hs) hs.breakRun.refreshField
  · exact hs

theorem Keeps.execActivate (hs : Keeps s₀ s) {tag r} :
    KeepsOut s₀ (execActivate tag r s) := by
  unfold Machine.execActivate
  exact KeepsOut.next (hs.readerStep (fun _ _ _ ha => ha.activateEnd))

theorem Keeps.execExchange (hs : Keeps s₀ s) {tag r} :
    KeepsOut s₀ (execExchange tag r s) := by
  unfold Machine.execExchange
  exact KeepsOut.next (hs.readerStep (fun _ _ _ ha => Keeps.either ha ha.exchangeEnd))

theorem Keeps.execInventory (hs : Keeps s₀ s) {tag l joint} :
    KeepsOut s₀ (execInventory tag l joint s) := by
  unfold Machine.execInventory
  exact KeepsOut.next (hs.readerStep (fun _ _ _ ha => ha.inventoryEnd))

theorem Keeps.airHalt (hs : Keeps s₀ s) {x} :
    Keeps s₀ (s.airHalt x) := by
  unfold State.airHalt
  refine Keeps.either (Keeps.either hs hs.airVicc) ?_
  extract_lets
  exact hs.air

theorem Keeps.execClose (hs : Keeps s₀ s) {tag} :
    KeepsOut s₀ (execClose tag s) := by
  unfold Machine.execClose
  refine KeepsOut.next (hs.readerStep ?_)
  intro _ _ a ha
  extract_lets
  refine Keeps.either ha.readerEnd (Keeps.either ha.readerEnd ?_)
  split
  · exact ha.readerEnd
  · exact Keeps.readerEnd (Keeps.putSession (Keeps.ctxFree (Keeps.either ha.airHalt ha)))

theorem Keeps.execMapload (hs : Keeps s₀ s) {tag} :
    KeepsOut s₀ (execMapload tag s) := by
  unfold Machine.execMapload
  refine KeepsOut.next (hs.readerStep ?_)
  intro _ _ a ha
  refine Keeps.either ha.readerEnd (Keeps.either ha.readerEnd ?_)
  split
  · rename_i a' s1 _ e
    have h1 : Keeps s₀ s1 := ha.mapLoadEffect.of_eq e
    exact h1.readerEnd
  · rename_i a' s1 e
    have h1 : Keeps s₀ s1 := ha.mapLoadEffect.of_eq e
    exact h1

theorem Keeps.execTagportRead (hs : Keeps s₀ s) {tag r} :
    KeepsOut s₀ (execTagportRead tag r s) := by
  unfold Machine.execTagportRead
  refine KeepsOut.next (hs.readerStep ?_)
  intro _ _ a ha
  split
  · rename_i a' s1 _ e
    have h1 : Keeps s₀ s1 := ha.tagReply.of_eq e
    exact h1.readerEnd

theorem Keeps.execGroupRead (hs : Keeps s₀ s) {tag l} :
    KeepsOut s₀ (execGroupRead tag l s) := by
  unfold Machine.execGroupRead
  exact KeepsOut.next (hs.readerStep (fun _ _ _ ha => Keeps.either ha.readerEnd ha.groupReads))

theorem Keeps.execSessionIdleExpiry (hs : Keeps s₀ s) {h} :
    KeepsOut s₀ (execSessionIdleExpiry h s) := by
  unfold Machine.execSessionIdleExpiry
  extract_lets
  refine KeepsOut.next ?_
  split
  · exact hs
  · refine Keeps.either hs ?_
    extract_lets s1 s2
    have h1 : Keeps s₀ s1 := hs.reach
    have h2 : Keeps s₀ s2 := Keeps.either h1.air h1
    exact h2.loseSession.refreshField

/-! ### Machine, Threads -/

theorem Keeps.settleStops (hs : Keeps s₀ s) :
    Keeps s₀ s.settleStops := by
  unfold State.settleStops
  extract_lets _ _ _ s0 _ _ s1
  have h0 : Keeps s₀ s0 := hs.same
  have h1 : Keeps s₀ s1 := h0.same
  exact h1.foldl (fun _ _ ha => Keeps.either ha.setResult ha)

theorem Keeps.putThread (hs : Keeps s₀ s) {t h} :
    Keeps s₀ (s.putThread t h) := by
  unfold State.putThread
  extract_lets _ s0 s1
  have h0 : Keeps s₀ s0 := hs.same
  have h1 : Keeps s₀ s1 := Keeps.either h0 h0.settleStops
  exact h1.setDegraded

theorem Keeps.updThread (hs : Keeps s₀ s) {t f} :
    Keeps s₀ (s.updThread t f) := by
  unfold State.updThread
  exact hs.putThread

theorem Keeps.setThrReg (hs : Keeps s₀ s) {t off w} :
    Keeps s₀ (s.setThrReg t off w) := by
  unfold State.setThrReg
  exact hs.setRg

theorem Keeps.setGreg (hs : Keeps s₀ s) {t k w} :
    Keeps s₀ (s.setGreg t k w) := by
  unfold State.setGreg
  exact hs.setThrReg

theorem Keeps.beginAct (hs : Keeps s₀ s) {t wave} :
    Keeps s₀ (s.beginAct t wave) := by
  unfold State.beginAct
  extract_lets s1
  have h1 : Keeps s₀ s1 := hs.updThread
  exact h1.setThrReg

theorem Keeps.pendCause (hs : Keeps s₀ s) {t wave} :
    Keeps s₀ (s.pendCause t wave) := by
  unfold State.pendCause
  exact Keeps.either hs.setThrReg hs.updThread

theorem Keeps.cause (hs : Keeps s₀ s) {t wave} :
    Keeps s₀ (s.cause t wave) := by
  unfold State.cause
  extract_lets
  split
  · exact Keeps.either hs.beginAct hs.pendCause
  · exact hs.pendCause
  · exact hs.pendCause
  · exact Keeps.either hs.pendCause hs
  · exact hs

theorem Keeps.takePending (hs : Keeps s₀ s) {t} :
    Keeps s₀ (s.takePending t) := by
  unfold State.takePending
  extract_lets
  exact Keeps.either hs.putThread.beginAct hs

theorem Keeps.takeAllPending (hs : Keeps s₀ s) :
    Keeps s₀ s.takeAllPending := by
  unfold State.takeAllPending
  exact hs.foldl (fun _ _ ha => ha.takePending)

theorem Keeps.armPeriod (hs : Keeps s₀ s) {t} :
    Keeps s₀ (s.armPeriod t) := by
  unfold State.armPeriod
  extract_lets
  exact hs.updThread

theorem Keeps.rearmPeriod (hs : Keeps s₀ s) {t} :
    Keeps s₀ (s.rearmPeriod t) := by
  unfold State.rearmPeriod
  extract_lets
  exact Keeps.either hs hs.armPeriod

theorem Keeps.endActivation (hs : Keeps s₀ s) {t} :
    Keeps s₀ (s.endActivation t) := by
  unfold State.endActivation
  extract_lets s1
  have h1 : Keeps s₀ s1 := hs.rewindOf
  exact Keeps.either h1.putThread h1.putThread.takePending

theorem Keeps.threadFault (hs : Keeps s₀ s) {t kind c fpc} :
    Keeps s₀ (s.threadFault t kind c fpc) := by
  unfold State.threadFault
  extract_lets s1 s2 s3 _ s4
  have h1 : Keeps s₀ s1 := hs.setThrReg
  have h2 : Keeps s₀ s2 := h1.setThrReg
  have h3 : Keeps s₀ s3 := h2.updThread.faultRec
  have h4 : Keeps s₀ s4 := h3.rewindOf
  exact Keeps.either h3.evPulse.endActivation (Keeps.either h3.updThread.evPulse h4.updThread.evLevel)

theorem Keeps.giveRes (hs : Keeps s₀ s) {t r} :
    Keeps s₀ (s.giveRes t r) := by
  unfold State.giveRes
  extract_lets
  split
  · exact hs.putThread
  · exact hs.putThread
  · exact hs.putThread
  · exact hs

theorem Keeps.takeCode (hs : Keeps s₀ s) {t c tol onDone onTol} :
    Keeps s₀ (s.takeCode t c tol onDone onTol) := by
  unfold State.takeCode
  extract_lets
  exact Keeps.either hs.putThread (Keeps.either hs.putThread hs.threadFault)

theorem Keeps.takeRes (hs : Keeps s₀ s) {t rd tol r} :
    Keeps s₀ (s.takeRes t rd tol r) := by
  unfold State.takeRes
  extract_lets _ _ s1
  have h1 : Keeps s₀ s1 := hs.takeCode
  split
  · exact h1.setGreg
  · exact h1

theorem Keeps.closeUtil (hs : Keeps s₀ s) {u whole t} :
    Keeps s₀ (s.closeUtil u whole t) := by
  unfold State.closeUtil
  extract_lets _ s1
  have h1 : Keeps s₀ s1 := hs.setRg
  exact h1.same

theorem Keeps.rollUtil (hs : Keeps s₀ s) :
    Keeps s₀ s.rollUtil := by
  unfold State.rollUtil
  extract_lets
  exact Keeps.either hs hs.closeUtil

theorem Keeps.splitUtil (hs : Keeps s₀ s) :
    Keeps s₀ s.splitUtil := by
  unfold State.splitUtil
  extract_lets s1
  have h1 : Keeps s₀ s1 := hs.rollUtil
  exact h1.same

theorem Keeps.stepUtil (hs : Keeps s₀ s) {new} :
    Keeps s₀ (s.stepUtil new) := by
  unfold State.stepUtil
  extract_lets s1
  have h1 : Keeps s₀ s1 := hs.splitUtil
  exact Keeps.either h1.same h1.closeUtil

theorem Keeps.countIssue (hs : Keeps s₀ s) :
    Keeps s₀ s.countIssue := by
  unfold State.countIssue
  extract_lets s1
  have h1 : Keeps s₀ s1 := hs.rollUtil.updRg
  exact h1.same

theorem Keeps.disown (hs : Keeps s₀ s) {t} :
    Keeps s₀ (s.disown t) := by
  unfold State.disown
  extract_lets
  exact hs.same

theorem Keeps.stopNow (hs : Keeps s₀ s) {t} :
    Keeps s₀ (s.stopNow t) := by
  unfold State.stopNow
  extract_lets s1
  have h1 : Keeps s₀ s1 := hs.rewindOf.disown
  exact h1.updThread

theorem Keeps.stopSoft (hs : Keeps s₀ s) {t} :
    Keeps s₀ (s.stopSoft t) := by
  unfold State.stopSoft
  extract_lets
  exact Keeps.either hs.putThread hs.stopNow

theorem Keeps.execPeriodicDue (hs : Keeps s₀ s) {t} :
    KeepsOut s₀ (execPeriodicDue t s) := by
  unfold Machine.execPeriodicDue
  refine KeepsOut.next ?_
  split
  · exact hs
  · refine Keeps.either hs ?_
    extract_lets s1 _ _ s2
    have h1 : Keeps s₀ s1 := hs.reach
    have h2 : Keeps s₀ s2 := h1.updThread
    exact Keeps.either h2 h2.cause

theorem Keeps.execWaitExpiry (hs : Keeps s₀ s) {t} :
    KeepsOut s₀ (execWaitExpiry t s) := by
  unfold Machine.execWaitExpiry
  refine KeepsOut.next ?_
  split
  · exact hs.reach.updThread
  · exact hs

theorem Keeps.execWevTimeout (hs : Keeps s₀ s) {t} :
    KeepsOut s₀ (execWevTimeout t s) := by
  unfold Machine.execWevTimeout
  refine KeepsOut.next ?_
  split
  · exact hs.reach.takeCode
  · exact hs

theorem Keeps.execBlockedResult (hs : Keeps s₀ s) {t} :
    KeepsOut s₀ (execBlockedResult t s) := by
  unfold Machine.execBlockedResult
  refine KeepsOut.next ?_
  split
  · exact hs.takeRes
  · exact hs.takeRes
  · exact hs.takeRes
  · exact hs

/-! ### Machine, SensBase -/

theorem Keeps.putPort (hs : Keeps s₀ s) {p x} :
    Keeps s₀ (s.putPort p x) := by
  unfold State.putPort
  exact hs.same

theorem Keeps.updPort (hs : Keeps s₀ s) {p f} :
    Keeps s₀ (s.updPort p f) := by
  unfold State.updPort
  exact hs.putPort

theorem Keeps.refreshService (hs : Keeps s₀ s) :
    Keeps s₀ s.refreshService := by
  unfold State.refreshService
  extract_lets s1
  have h1 : Keeps s₀ s1 := hs.evLevel
  exact h1.setDegraded

theorem Keeps.refreshPortg (hs : Keeps s₀ s) {p} :
    Keeps s₀ (s.refreshPortg p) := by
  unfold State.refreshPortg
  extract_lets
  exact hs.refreshService.setDegraded

theorem Keeps.portLines (hs : Keeps s₀ s) {p} :
    Keeps s₀ (s.portLines p) := by
  unfold State.portLines
  extract_lets _ _ _ s1 s2
  have h1 : Keeps s₀ s1 := hs.evLevel.evLevel
  have h2 : Keeps s₀ s2 := h1.levelSource
  exact h2.evLevel.refreshPortg

theorem Keeps.putConv (hs : Keeps s₀ s) {cv x} :
    Keeps s₀ (s.putConv cv x) := by
  unfold State.putConv
  exact hs.same

theorem Keeps.updConv (hs : Keeps s₀ s) {cv f} :
    Keeps s₀ (s.updConv cv f) := by
  unfold State.updConv
  exact hs.putConv

theorem Keeps.putLane (hs : Keeps s₀ s) {n x} :
    Keeps s₀ (s.putLane n x) := by
  unfold State.putLane
  exact hs.same

theorem Keeps.updLane (hs : Keeps s₀ s) {n f} :
    Keeps s₀ (s.updLane n f) := by
  unfold State.updLane
  exact hs.putLane

theorem Keeps.convOver (hs : Keeps s₀ s) {cv b} :
    Keeps s₀ (s.convOver cv b) := by
  unfold State.convOver
  exact hs.updConv.evLevel

theorem Keeps.dropOver (hs : Keeps s₀ s) :
    Keeps s₀ s.dropOver := by
  unfold State.dropOver
  exact hs.foldl (fun _ _ ha => Keeps.either ha.convOver ha)

theorem Keeps.putRule (hs : Keeps s₀ s) {r x} :
    Keeps s₀ (s.putRule r x) := by
  unfold State.putRule
  exact hs.same

theorem Keeps.winEnter (hs : Keeps s₀ s) {hits i} :
    Keeps s₀ (s.winEnter hits i) := by
  unfold State.winEnter
  extract_lets
  exact Keeps.either (Keeps.either hs.updRg.evPulse hs.same) hs

theorem Keeps.winInput (hs : Keeps s₀ s) {src value stamp tag} :
    Keeps s₀ (s.winInput src value stamp tag) := by
  unfold State.winInput
  exact hs.winEnter

theorem Keeps.refreshWinnow (hs : Keeps s₀ s) :
    Keeps s₀ s.refreshWinnow := by
  unfold State.refreshWinnow
  extract_lets _ _ _ _ _ s1
  have h1 : Keeps s₀ s1 := hs.setRg.setRg
  exact h1.evLevel.evLevel.setDegraded

theorem Keeps.restartRule (hs : Keeps s₀ s) {r} :
    Keeps s₀ (s.restartRule r) := by
  unfold State.restartRule
  extract_lets
  exact hs.putRule

theorem Keeps.restartSource (hs : Keeps s₀ s) {hit} :
    Keeps s₀ (s.restartSource hit) := by
  unfold State.restartSource
  refine hs.foldl ?_
  intro a _ ha
  extract_lets
  exact Keeps.either ha ha.putRule

theorem Keeps.restartPort (hs : Keeps s₀ s) {p} :
    Keeps s₀ (s.restartPort p) := by
  unfold State.restartPort
  exact hs.restartSource

theorem Keeps.restartLane (hs : Keeps s₀ s) {n} :
    Keeps s₀ (s.restartLane n) := by
  unfold State.restartLane
  exact hs.restartSource

theorem Keeps.restartHeld (hs : Keeps s₀ s) :
    Keeps s₀ s.restartHeld := by
  unfold State.restartHeld
  exact hs.foldl (fun _ _ ha => Keeps.either ha ha.restartRule)

theorem Keeps.restartAll (hs : Keeps s₀ s) :
    Keeps s₀ s.restartAll := by
  unfold State.restartAll
  exact hs.foldl (fun _ _ ha => ha.restartRule)

/-! ### Machine, Winnow -/

theorem Keeps.ruleRecord (hs : Keeps s₀ s) {e} :
    Keeps s₀ (s.ruleRecord e) := by
  unfold State.ruleRecord
  extract_lets
  split
  · rename_i a s1 _ e'
    have h1 : Keeps s₀ s1 := hs.blockPush.of_eq e'
    exact Keeps.either h1 h1.updRg.evPulse

theorem Keeps.fireEdge (hs : Keeps s₀ s) {lines e} :
    KeepsFst s₀ (s.fireEdge lines e) := by
  unfold State.fireEdge
  extract_lets _ _ _ _ s1
  have h1 : Keeps s₀ s1 := hs.putRule
  refine KeepsFst.either (KeepsFst.mk hs) (KeepsFst.either (KeepsFst.mk hs.putRule) ?_)
  split
  · rename_i a s2 _ e'
    have h2 : Keeps s₀ s2 := KeepsFst.of_eq (KeepsFst.either (KeepsFst.mk h1)
        (KeepsFst.either (KeepsFst.mk h1.updRg) (KeepsFst.mk h1.evPulse.pulse.fireWake))) e'
    exact KeepsFst.mk (Keeps.either h2.ruleRecord h2)

theorem Keeps.evalRule (hs : Keeps s₀ s) {r hits ev lines} :
    KeepsFst s₀ (s.evalRule r hits ev lines) := by
  unfold State.evalRule
  extract_lets _ _ s1
  have h1 : Keeps s₀ s1 := hs.putRule
  refine KeepsFst.either (KeepsFst.mk hs) (KeepsFst.either (KeepsFst.mk h1.updRg.faultRec.refreshWinnow) ?_)
  split
  · extract_lets _ _ s1'
    have hs1' : Keeps s₀ s1' := hs.putRule
    split
    · exact KeepsFst.mk hs1'
    · refine KeepsFst.either (KeepsFst.mk hs1') ?_
      extract_lets
      exact hs1'.fireEdge

theorem Keeps.evalRules (hs : Keeps s₀ s) {hits ev} :
    Keeps s₀ (s.evalRules hits ev) := by
  unfold State.evalRules
  exact KeepsFst.fst (KeepsFst.foldl (KeepsFst.mk hs) (fun _ _ ha => KeepsFst.either ha.fst.evalRule ha))

theorem Keeps.takeInput (hs : Keeps s₀ s) :
    Keeps s₀ s.takeInput := by
  unfold State.takeInput
  split
  · exact hs
  · extract_lets _ s1
    have h1 : Keeps s₀ s1 := hs.same
    exact Keeps.either h1.evalRules h1.evalRules

theorem Keeps.winTick (hs : Keeps s₀ s) :
    Keeps s₀ s.winTick := by
  unfold State.winTick
  extract_lets _ _ _ s1 _ s2 s3
  have h1 : Keeps s₀ s1 := hs.reach
  have h2 : Keeps s₀ s2 := h1.same
  have h3 : Keeps s₀ s3 := h2.winEnter
  exact Keeps.either (Keeps.either h3.takeInput h3) h2

theorem Keeps.demand (hs : Keeps s₀ s) {rules} :
    Keeps s₀ (s.demand rules) := by
  unfold State.demand
  exact hs.setRg

theorem Keeps.winEnEffect (hs : Keeps s₀ s) {k v} :
    KeepsFst s₀ (winEnEffect k v s) := by
  unfold Machine.winEnEffect
  extract_lets _ _ _ s1
  have h1 : Keeps s₀ s1 := hs.setRg
  exact KeepsFst.either (KeepsFst.mk hs) (KeepsFst.either (KeepsFst.mk hs)
      (KeepsFst.either (KeepsFst.mk hs.demand) (KeepsFst.mk (Keeps.refreshWinnow
      (h1.foldl (fun _ _ ha => ha.restartRule))))))

theorem Keeps.ruleWordEffect (hs : Keeps s₀ s) {i v} :
    KeepsFst s₀ (ruleWordEffect i v s) := by
  unfold Machine.ruleWordEffect
  extract_lets
  exact KeepsFst.either (KeepsFst.mk hs) (KeepsFst.either (KeepsFst.mk hs) (KeepsFst.mk hs.putRule.refreshWinnow))

theorem Keeps.winLoadEffect (hs : Keeps s₀ s) {k} :
    KeepsFst s₀ (winLoadEffect k s) := by
  unfold Machine.winLoadEffect
  extract_lets
  refine KeepsFst.either (KeepsFst.mk hs) (KeepsFst.either (KeepsFst.mk hs) ?_)
  split
  · rename_i a s1 _ e
    have h1 : Keeps s₀ s1 := hs.sourceWords.of_eq e
    exact KeepsFst.mk h1
  · rename_i a s1 _ e
    have h1 : Keeps s₀ s1 := hs.sourceWords.of_eq e
    extract_lets _ _ _ s2
    have h2 : Keeps s₀ s2 := by
      unfold s2
      refine h1.foldl ?_
      intro a' _ ha'
      split
      · extract_lets _ a''
        have ha'' : Keeps s₀ a'' := ha'.putRule
        exact ha''.updRg.restartRule
    exact KeepsFst.either (KeepsFst.mk h1) (KeepsFst.either (KeepsFst.mk h1.demand) (KeepsFst.mk h2.refreshWinnow))

theorem Keeps.winClear (hs : Keeps s₀ s) :
    Keeps s₀ s.winClear := by
  unfold State.winClear
  exact hs.same

theorem Keeps.execWinnowInput (hs : Keeps s₀ s) :
    KeepsOut s₀ (execWinnowInput s) := by
  unfold Machine.execWinnowInput
  exact KeepsOut.next (Keeps.either hs.takeInput hs)

theorem Keeps.execWinnowTick (hs : Keeps s₀ s) :
    KeepsOut s₀ (execWinnowTick s) := by
  unfold Machine.execWinnowTick
  exact KeepsOut.next (Keeps.either hs hs.winTick)

theorem Keeps.execWinnowLoad (hs : Keeps s₀ s) {tag} :
    KeepsOut s₀ (execWinnowLoad tag s) := by
  unfold Machine.execWinnowLoad
  exact KeepsOut.next (hs.runOp (fun _ _ ha => ha.winLoadEffect))

theorem Keeps.execWinnowEnWrite (hs : Keeps s₀ s) {m k v} :
    KeepsOut s₀ (execWinnowEnWrite m k v s) := by
  unfold Machine.execWinnowEnWrite
  exact KeepsOut.next (hs.write (fun _ ha => ha.winEnEffect))

/-! ### Machine, Ports -/

theorem Keeps.drivePort (hs : Keeps s₀ s) {p} :
    Keeps s₀ (s.drivePort p) := by
  unfold State.drivePort
  extract_lets
  exact hs.putPort

theorem Keeps.convAnswer (hs : Keeps s₀ s) {by_ port c value stamp} :
    Keeps s₀ (s.convAnswer by_ port c value stamp) := by
  unfold State.convAnswer
  split
  · exact hs.giveRes
  · exact hs

theorem Keeps.markConv (hs : Keeps s₀ s) {cv} :
    Keeps s₀ (s.markConv cv) := by
  unfold State.markConv
  exact hs.updConv

theorem Keeps.switchTo (hs : Keeps s₀ s) {cv port} :
    Keeps s₀ (s.switchTo cv port) := by
  unfold State.switchTo
  extract_lets
  exact Keeps.either hs hs.setRg.markConv.refreshWinnow

theorem Keeps.scsBegin (hs : Keeps s₀ s) {cv} :
    Keeps s₀ (s.scsBegin cv) := by
  unfold State.scsBegin
  exact hs.updLane

theorem Keeps.convBegin (hs : Keeps s₀ s) {cv by_ port} :
    Keeps s₀ (s.convBegin cv by_ port) := by
  unfold State.convBegin
  extract_lets s1
  have h1 : Keeps s₀ s1 := hs.updConv
  refine Keeps.either ?_ h1
  split
  · exact Keeps.either h1.scsBegin h1.markConv
  · exact h1

theorem Keeps.convStart (hs : Keeps s₀ s) {cv w} :
    Keeps s₀ (s.convStart cv w) := by
  unfold State.convStart
  extract_lets
  split
  · exact hs.convAnswer
  · exact Keeps.convBegin (Keeps.either hs.switchTo hs)

theorem Keeps.convNext {s₀ s : State} (hs : Keeps s₀ s) {cv a} :
    Keeps s₀ (s.convNext cv a) := by
  unfold State.convNext
  split
  · exact hs
  · split
    · exact hs.updConv.convStart.convNext
    · exact hs

theorem Keeps.convRequest (hs : Keeps s₀ s) {cv w} :
    Keeps s₀ (s.convRequest cv w) := by
  unfold State.convRequest
  extract_lets s1
  have h1 : Keeps s₀ s1 := hs.updConv
  exact h1.convNext

theorem Keeps.applyPort (hs : Keeps s₀ s) {p} :
    Keeps s₀ (s.applyPort p) := by
  unfold State.applyPort
  extract_lets _ _ _ _ _ _ _ _ _ _ s1 s2 s3
  have h1 : Keeps s₀ s1 := hs.putPort
  have h2 : Keeps s₀ s2 := Keeps.either (h1.foldl (fun _ _ ha => Keeps.either ha.updRg ha)) h1
  have h3 : Keeps s₀ s3 := h2.foldl (fun _ _ ha => Keeps.either ha.markConv ha)
  exact Keeps.either hs.putPort.drivePort.portLines h3.restartPort.refreshWinnow.drivePort.portLines.dropOver

theorem Keeps.syncPort (hs : Keeps s₀ s) {p} :
    Keeps s₀ (s.syncPort p) := by
  unfold State.syncPort
  exact Keeps.either hs (Keeps.either hs.updPort hs.applyPort)

theorem Keeps.syncWritten (hs : Keeps s₀ s) {p} :
    Keeps s₀ (s.syncWritten p) := by
  unfold State.syncWritten
  exact Keeps.either hs.applyPort hs

theorem Keeps.sampleOver (hs : Keeps s₀ s) {cv p} :
    Keeps s₀ (s.sampleOver cv p) := by
  unfold State.sampleOver
  extract_lets
  exact hs.updPort.updPort

theorem Keeps.syncPair (hs : Keeps s₀ s) {p} :
    Keeps s₀ (s.syncPair p) := by
  unfold State.syncPair
  exact hs.syncWritten.syncWritten

theorem Keeps.syncAll (hs : Keeps s₀ s) :
    Keeps s₀ s.syncAll := by
  unfold State.syncAll
  exact Keeps.dropOver (hs.foldl (fun _ _ ha => ha.syncWritten))

theorem Keeps.convOverNow (hs : Keeps s₀ s) {cv} :
    Keeps s₀ (s.convOverNow cv) := by
  unfold State.convOverNow
  split
  · exact hs
  · extract_lets s1 s2 s3 s4
    have h1 : Keeps s₀ s1 := hs.updConv
    have h2 : Keeps s₀ s2 := Keeps.either h1.updLane h1
    have h3 : Keeps s₀ s3 := Keeps.either h2.markConv h2
    have h4 : Keeps s₀ s4 := h3.syncPair
    exact h4.convNext.dropOver

theorem Keeps.convAbandon (hs : Keeps s₀ s) {cv c} :
    Keeps s₀ (s.convAbandon cv c) := by
  unfold State.convAbandon
  split
  · exact hs
  · exact hs.convAnswer.convOverNow

theorem Keeps.releaseHold (hs : Keeps s₀ s) {p} :
    Keeps s₀ (s.releaseHold p) := by
  unfold State.releaseHold
  exact hs.updPort.drivePort

theorem Keeps.setCompl (hs : Keeps s₀ s) {n b} :
    Keeps s₀ (s.setCompl n b) := by
  unfold State.setCompl
  exact hs.updRg.evLevel

theorem Keeps.pcfgEffect (hs : Keeps s₀ s) {p v} :
    KeepsFst s₀ (pcfgEffect p v s) := by
  unfold Machine.pcfgEffect
  extract_lets _ _ s1
  have h1 : Keeps s₀ s1 := hs.setRg.updRg
  exact KeepsFst.either (KeepsFst.mk hs) (KeepsFst.either (KeepsFst.mk hs)
      (KeepsFst.either (KeepsFst.mk hs) (KeepsFst.either (KeepsFst.mk hs) (KeepsFst.mk h1.releaseHold.syncPort))))

theorem Keeps.auxEffect (hs : Keeps s₀ s) {p v} :
    KeepsFst s₀ (auxEffect p v s) := by
  unfold Machine.auxEffect
  extract_lets
  exact KeepsFst.either (KeepsFst.mk hs) (KeepsFst.either (KeepsFst.mk hs)
      (KeepsFst.mk hs.setRg.releaseHold.syncPort))

theorem Keeps.xbarEffect (hs : Keeps s₀ s) {cv v} :
    KeepsFst s₀ (xbarEffect cv v s) := by
  unfold Machine.xbarEffect
  extract_lets _ _ _ s1 s2
  have h1 : Keeps s₀ s1 := hs.setRg.updConv
  have h2 : Keeps s₀ s2 := Keeps.either h1.markConv h1
  exact KeepsFst.either (KeepsFst.mk hs) (KeepsFst.mk h2.dropOver.refreshWinnow)

theorem Keeps.convCfgEffect (hs : Keeps s₀ s) {cv v} :
    KeepsFst s₀ (convCfgEffect cv v s) := by
  unfold Machine.convCfgEffect
  extract_lets _ _ s1
  have h1 : Keeps s₀ s1 := hs.setRg
  exact KeepsFst.either (KeepsFst.mk hs) (KeepsFst.mk (Keeps.either h1.updConv.markConv.syncAll h1))

theorem Keeps.deliverPort (hs : Keeps s₀ s) {p cv value stamp ovr} :
    Keeps s₀ (s.deliverPort p cv value stamp ovr) := by
  unfold State.deliverPort
  refine Keeps.either ?_ hs
  extract_lets s1
  have h1 : Keeps s₀ s1 := hs.updPort
  exact h1.portLines.winInput

theorem Keeps.pulseEdge (hs : Keeps s₀ s) {p rising} :
    Keeps s₀ (s.pulseEdge p rising) := by
  unfold State.pulseEdge
  extract_lets
  exact Keeps.either hs.putPort hs

theorem Keeps.dropCaptures (hs : Keeps s₀ s) :
    Keeps s₀ s.dropCaptures := by
  unfold State.dropCaptures
  refine hs.foldl ?_
  intro a _ ha
  extract_lets
  exact Keeps.either ha.putPort ha

theorem Keeps.dinChange (hs : Keeps s₀ s) {p level} :
    Keeps s₀ (s.dinChange p level) := by
  unfold State.dinChange
  extract_lets
  exact Keeps.either hs (Keeps.either hs.putPort.portLines hs.putPort)

theorem Keeps.debounced (hs : Keeps s₀ s) {p} :
    Keeps s₀ (s.debounced p) := by
  unfold State.debounced
  extract_lets _ s1
  have h1 : Keeps s₀ s1 := hs.reach
  exact Keeps.either h1.putPort.portLines hs

theorem Keeps.outPort (hs : Keeps s₀ s) {p level} :
    Keeps s₀ (s.outPort p level) := by
  unfold State.outPort
  extract_lets s1
  have h1 : Keeps s₀ s1 := hs.updRg
  exact h1.updPort.drivePort.portLines

theorem Keeps.putUnit (hs : Keeps s₀ s) {u x} :
    Keeps s₀ (s.putUnit u x) := by
  unfold State.putUnit
  extract_lets _ s1
  have h1 : Keeps s₀ s1 := hs.same
  exact h1.evLevel

theorem Keeps.endXfer (hs : Keeps s₀ s) {u c reply} :
    Keeps s₀ (s.endXfer u c reply) := by
  unfold State.endXfer
  extract_lets
  split
  · exact hs
  · extract_lets s1
    have h1 : Keeps s₀ s1 := hs.putUnit
    split
    · exact Keeps.either h1.setResult h1
    · exact h1
    · split
      · exact h1.giveRes
      · exact h1

theorem Keeps.disconnect (hs : Keeps s₀ s) {p} :
    Keeps s₀ (s.disconnect p) := by
  unfold State.disconnect
  extract_lets _ s1 s2
  have h1 : Keeps s₀ s1 := by
    unfold s1
    refine hs.foldl ?_
    intro a _ ha
    split
    · exact Keeps.either ha.convAbandon ha
    · exact Keeps.either ha.updConv ha
  have h2 : Keeps s₀ s2 := by
    unfold s2
    split
    · exact h1.endXfer
    · exact h1
  exact h2.drivePort.portLines.dropOver.refreshWinnow

theorem Keeps.quarantine (hs : Keeps s₀ s) {p reason microamps stage} :
    Keeps s₀ (s.quarantine p reason microamps stage) := by
  unfold State.quarantine
  extract_lets one _ s1 s2
  have h1 : Keeps s₀ s1 := hs.updRg.updPort.disconnect
  have h2 : Keeps s₀ s2 := h1.faultRec
  exact Keeps.either h2.updRg.updPort.disconnect h2

theorem Keeps.endPortTest (hs : Keeps s₀ s) {p c} :
    Keeps s₀ (s.endPortTest p c) := by
  unfold State.endPortTest
  exact hs.foldl (fun _ _ ha => Keeps.either ha.setResult ha)

theorem Keeps.clampTrip (hs : Keeps s₀ s) {p hi microamps} :
    Keeps s₀ (s.clampTrip p hi microamps) := by
  unfold State.clampTrip
  extract_lets s1 _ _ _ s2 s3
  have h1 : Keeps s₀ s1 := hs.updPort.portLines
  have h2 : Keeps s₀ s2 := h1.updPort
  have h3 : Keeps s₀ s3 := Keeps.either h2 (Keeps.either h1.quarantine h1.updPort)
  refine Keeps.either h1 ?_
  split
  · exact Keeps.either h1.quarantine h1
  · exact h3.endPortTest.portLines
  · exact h1
  · exact h1.updPort.portLines

theorem Keeps.returnPort (hs : Keeps s₀ s) {p} :
    Keeps s₀ (s.returnPort p) := by
  unfold State.returnPort
  extract_lets s0 s1 s2 s3 s4
  have h0 : Keeps s₀ s0 := Keeps.either hs.updRg hs
  have h1 : Keeps s₀ s1 := h0.updPort
  have h2 : Keeps s₀ s2 := h1.applyPort.updPort
  have h3 : Keeps s₀ s3 := h2.foldl (fun _ _ ha => Keeps.either ha.markConv ha)
  have h4 : Keeps s₀ s4 := h3.restartPort.drivePort.portLines.refreshWinnow
  exact h4

theorem Keeps.failTest (hs : Keeps s₀ s) {p reason} :
    Keeps s₀ (s.failTest p reason) := by
  unfold State.failTest
  extract_lets _ s1
  have h1 : Keeps s₀ s1 := hs.updPort
  exact h1.faultRec.portLines

theorem Keeps.portTestBegin (hs : Keeps s₀ s) {tag} :
    Keeps s₀ (s.portTestBegin tag) := by
  unfold State.portTestBegin
  extract_lets
  exact Keeps.either hs.setResult (Keeps.either hs.updPort.portLines
      (Keeps.either hs.quarantine (Keeps.either hs.updPort.portLines hs.setResult)))

theorem Keeps.portTestEnd (hs : Keeps s₀ s) {tag reason} :
    Keeps s₀ (s.portTestEnd tag reason) := by
  unfold State.portTestEnd
  extract_lets _ s1
  have h1 : Keeps s₀ s1 := hs.updPort
  split
  · exact Keeps.either h1.returnPort.setResult (Keeps.either h1.failTest.setResult
        h1.updPort.faultRec.portLines.setResult)
  · exact hs

theorem Keeps.calEffect (hs : Keeps s₀ s) {k} :
    KeepsFst s₀ (calEffect k s) := by
  unfold Machine.calEffect
  extract_lets
  refine KeepsFst.either (KeepsFst.mk hs) (KeepsFst.mk (hs.foldl ?_))
  intro a _ ha
  split
  · rename_i a' _ s1 e
    have h1 : Keeps s₀ s1 := ha.draw.of_eq e
    split
    · rename_i a'' _ s1' e'
      have hs1' : Keeps s₀ s1' := h1.draw.of_eq e'
      exact hs1'.updConv.markConv

theorem Keeps.execPcfgWrite (hs : Keeps s₀ s) {m p v} :
    KeepsOut s₀ (execPcfgWrite m p v s) := by
  unfold Machine.execPcfgWrite
  exact KeepsOut.next (hs.write (fun _ ha => ha.pcfgEffect))

theorem Keeps.execAuxWrite (hs : Keeps s₀ s) {m p v} :
    KeepsOut s₀ (execAuxWrite m p v s) := by
  unfold Machine.execAuxWrite
  exact KeepsOut.next (hs.write (fun _ ha => ha.auxEffect))

theorem Keeps.execXbarWrite (hs : Keeps s₀ s) {m cv v} :
    KeepsOut s₀ (execXbarWrite m cv v s) := by
  unfold Machine.execXbarWrite
  exact KeepsOut.next (hs.write (fun _ ha => ha.xbarEffect))

theorem Keeps.execPulseEdge (hs : Keeps s₀ s) {p rising} :
    KeepsOut s₀ (execPulseEdge p rising s) := by
  unfold Machine.execPulseEdge
  exact KeepsOut.next (Keeps.either hs hs.pulseEdge)

theorem Keeps.execPulseCaptureTimeout (hs : Keeps s₀ s) {p width} :
    KeepsOut s₀ (execPulseCaptureTimeout p width s) := by
  unfold Machine.execPulseCaptureTimeout
  extract_lets
  refine KeepsOut.next (Keeps.either ?_ hs)
  split
  · exact hs.reach.putPort
  · exact hs.reach.putPort
  · exact hs

theorem Keeps.execDinChange (hs : Keeps s₀ s) {p level} :
    KeepsOut s₀ (execDinChange p level s) := by
  unfold Machine.execDinChange
  exact KeepsOut.next hs.dinChange

theorem Keeps.execDebounceExpiry (hs : Keeps s₀ s) {p} :
    KeepsOut s₀ (execDebounceExpiry p s) := by
  unfold Machine.execDebounceExpiry
  exact KeepsOut.next hs.debounced

theorem Keeps.execExcCompliance (hs : Keeps s₀ s) {n ovr} :
    KeepsOut s₀ (execExcCompliance n ovr s) := by
  unfold Machine.execExcCompliance
  exact KeepsOut.next (Keeps.either hs.setCompl hs)

theorem Keeps.execRefOverload (hs : Keeps s₀ s) {n ovr} :
    KeepsOut s₀ (execRefOverload n ovr s) := by
  unfold Machine.execRefOverload
  exact KeepsOut.next (Keeps.either hs.updRg.evLevel hs)

theorem Keeps.execClampTrip (hs : Keeps s₀ s) {p hi microamps} :
    KeepsOut s₀ (execClampTrip p hi microamps s) := by
  unfold Machine.execClampTrip
  exact KeepsOut.next (Keeps.either hs hs.clampTrip)

theorem Keeps.execSettleExpiry (hs : Keeps s₀ s) {p} :
    KeepsOut s₀ (execSettleExpiry p s) := by
  unfold Machine.execSettleExpiry
  refine KeepsOut.next ?_
  split
  · extract_lets s1
    have h1 : Keeps s₀ s1 := hs.reach
    split
    · rename_i a _ s1' e
      have hs1' : Keeps s₀ s1' := KeepsSnd.of_eq (KeepsSnd.either h1.draw (KeepsSnd.mk h1)) e
      exact hs1'.updPort.portLines
  · exact hs

theorem Keeps.execSelfTestEnd (hs : Keeps s₀ s) {p reason} :
    KeepsOut s₀ (execSelfTestEnd p reason s) := by
  unfold Machine.execSelfTestEnd
  refine KeepsOut.either KeepsOut.fault (KeepsOut.next ?_)
  split
  · extract_lets s1
    have h1 : Keeps s₀ s1 := hs.reach.updPort
    exact Keeps.either h1.returnPort h1.failTest
  · exact hs

theorem Keeps.execRetryIntervalExpiry (hs : Keeps s₀ s) {p} :
    KeepsOut s₀ (execRetryIntervalExpiry p s) := by
  unfold Machine.execRetryIntervalExpiry
  refine KeepsOut.next ?_
  split
  · extract_lets s1
    have h1 : Keeps s₀ s1 := hs.reach
    exact h1.updPort.portLines
  · exact hs

theorem Keeps.execCal (hs : Keeps s₀ s) {tag} :
    KeepsOut s₀ (execCal tag s) := by
  unfold Machine.execCal
  exact KeepsOut.next (hs.runOp (fun _ _ ha => ha.calEffect))

theorem Keeps.execPortTest (hs : Keeps s₀ s) {tag reason} :
    KeepsOut s₀ (execPortTest tag reason s) := by
  unfold Machine.execPortTest
  exact KeepsOut.either KeepsOut.fault (KeepsOut.next (Keeps.either hs.portTestEnd hs))

/-! ### Machine, Thresher -/

theorem Keeps.laneTake (hs : Keeps s₀ s) {n c x} :
    KeepsFst s₀ (s.laneTake n c x) := by
  unfold State.laneTake
  extract_lets _ _ s0
  have h0 : Keeps s₀ s0 := Keeps.either hs.restartLane hs
  refine KeepsFst.either ?_ ?_
  · split
    · exact KeepsFst.mk h0.putLane
  · split
    · extract_lets
      split
      · exact KeepsFst.mk h0.putLane
      · split
        · split
          · rename_i a _ s1 e
            have h1 : Keeps s₀ s1 := h0.draw.of_eq e
            split
            · split
              · exact KeepsFst.mk h1.putLane

theorem Keeps.laneLevels (hs : Keeps s₀ s) {n} :
    Keeps s₀ (s.laneLevels n) := by
  unfold State.laneLevels
  exact hs.evLevel.evLevel

theorem Keeps.laneRun {s₀ s : State} (hs : Keeps s₀ s) {n c a} :
    KeepsFst s₀ (s.laneRun n c a) := by
  unfold State.laneRun
  split
  · exact KeepsFst.mk hs
  · split
    · exact KeepsFst.mk hs
    · split
      · rename_i a' s1 _ e
        have h1 : Keeps s₀ s1 := hs.updLane.laneTake.of_eq e
        split
        · exact h1.laneRun
        · extract_lets
          exact KeepsFst.either h1.putLane.laneRun (KeepsFst.mk h1.putLane)

theorem Keeps.laneQueue (hs : Keeps s₀ s) {n c o} :
    Keeps s₀ (s.laneQueue n c o) := by
  unfold State.laneQueue
  refine Keeps.either ?_ hs
  extract_lets
  split
  · rename_i a s1 _ e
    have h1 : Keeps s₀ s1 := hs.blockPush.of_eq e
    exact Keeps.either h1 h1.updLane.evPulse

theorem Keeps.laneDeliver (hs : Keeps s₀ s) {n c o} :
    Keeps s₀ (s.laneDeliver n c o) := by
  unfold State.laneDeliver
  extract_lets _ s1 s2 s3 s4
  have h1 : Keeps s₀ s1 := hs.updLane.pulse
  have h2 : Keeps s₀ s2 := by
    unfold s2
    split
    · exact Keeps.either h1.deliverPort h1
    · exact h1
  have h3 : Keeps s₀ s3 := h2.winInput
  have h4 : Keeps s₀ s4 := h3.laneQueue
  refine Keeps.either ?_ h4
  split
  · exact h4.convAnswer.convOverNow
  · exact h4.convOverNow
  · exact h4

theorem Keeps.laneOutput (hs : Keeps s₀ s) {n} :
    Keeps s₀ (s.laneOutput n) := by
  unfold State.laneOutput
  split
  · refine Keeps.either ?_ hs
    split
    · rename_i a s1 _ e
      have h1 : Keeps s₀ s1 := hs.laneRun.of_eq e
      extract_lets s2
      have h2 : Keeps s₀ s2 := h1.laneLevels
      split
      · exact h2
      · exact h2.laneDeliver
  · exact hs

theorem Keeps.laneInputs (hs : Keeps s₀ s) {n l} :
    Keeps s₀ (s.laneInputs n l) := by
  unfold State.laneInputs
  refine Keeps.either ?_ hs
  split
  · exact hs
  · exact hs.updLane

theorem Keeps.laneDrain (hs : Keeps s₀ s) {n} :
    Keeps s₀ (s.laneDrain n) := by
  unfold State.laneDrain
  exact hs.foldl (fun _ _ ha => ha.laneOutput)

theorem Keeps.converterTakes (hs : Keeps s₀ s) {cv r} :
    Keeps s₀ (s.converterTakes cv r) := by
  unfold State.converterTakes
  refine Keeps.either ?_ hs
  split
  · extract_lets _ _ s0
    have h0 : Keeps s₀ s0 := hs.updConv
    split
    · exact h0.convOver.laneInputs
    · extract_lets _ _ s1
      have h1 : Keeps s₀ s1 := h0.convOver.laneInputs
      split
      · exact Keeps.either h1.laneDrain.sampleOver.syncPair h1.dropOver
      · exact h1.laneDrain.convAnswer.convOverNow

theorem Keeps.feedLane (hs : Keeps s₀ s) {n value stamp tag} :
    KeepsFst s₀ (s.feedLane n value stamp tag) := by
  unfold State.feedLane
  refine KeepsFst.either (KeepsFst.mk hs) ?_
  split
  · exact KeepsFst.mk hs
  · refine KeepsFst.either (KeepsFst.mk hs) ?_
    extract_lets
    exact KeepsFst.either (KeepsFst.mk hs.updLane.laneLevels) (KeepsFst.mk hs.updLane.laneInputs)

theorem Keeps.admitBegin (hs : Keeps s₀ s) {tag} :
    Keeps s₀ (s.admitBegin tag) := by
  unfold State.admitBegin
  exact hs.same

theorem Keeps.dropCopies (hs : Keeps s₀ s) :
    Keeps s₀ s.dropCopies := by
  unfold State.dropCopies
  exact hs.same

theorem Keeps.releaseLane (hs : Keeps s₀ s) {n} :
    Keeps s₀ (s.releaseLane n) := by
  unfold State.releaseLane
  extract_lets s1
  have h1 : Keeps s₀ s1 := hs.updLane
  exact Keeps.refreshWinnow (Keeps.either h1.convAbandon h1)

theorem Keeps.changeOver (hs : Keeps s₀ s) {n} :
    Keeps s₀ (s.changeOver n) := by
  unfold State.changeOver
  extract_lets s'
  have hs' : Keeps s₀ s' := hs.laneDrain
  split
  · exact hs'
  · exact hs'.releaseLane
  · extract_lets _ s1
    have h1 : Keeps s₀ s1 := hs'.updLane
    exact Keeps.refreshWinnow (Keeps.either h1.restartLane h1)

theorem Keeps.admitDone (hs : Keeps s₀ s) :
    Keeps s₀ s.admitDone := by
  unfold State.admitDone
  split
  · exact hs
  · exact Keeps.either hs hs.same.setResult

theorem Keeps.laneAdmitEffect (hs : Keeps s₀ s) {tag k} :
    KeepsFst s₀ (laneAdmitEffect tag k s) := by
  unfold Machine.laneAdmitEffect
  extract_lets _ _ _ _ _ s1 s2
  have h1 : Keeps s₀ s1 := hs.same
  have h2 : Keeps s₀ s2 := by
    unfold s2
    refine h1.foldl ?_
    intro a _ ha
    extract_lets _ acc1
    have hacc1 : Keeps s₀ acc1 := ha.updLane
    exact Keeps.either hacc1.changeOver hacc1
  exact KeepsFst.either (KeepsFst.mk hs) (KeepsFst.either (KeepsFst.mk hs)
      (KeepsFst.either (KeepsFst.mk hs.dropCopies) (KeepsFst.either (KeepsFst.mk hs.dropCopies)
      (KeepsFst.either (KeepsFst.mk hs.dropCopies.setRg) (KeepsFst.mk h2.admitDone)))))

theorem Keeps.laneChangeover (hs : Keeps s₀ s) {n} :
    Keeps s₀ (s.laneChangeover n) := by
  unfold State.laneChangeover
  extract_lets s'
  have hs' : Keeps s₀ s' := hs.laneDrain
  split
  · extract_lets s1
    have h1 : Keeps s₀ s1 := Keeps.either hs' hs'.reach
    exact h1.changeOver.admitDone
  · exact hs'.changeOver.admitDone
  · exact hs'

theorem Keeps.coefStep (hs : Keeps s₀ s) :
    Keeps s₀ s.coefStep := by
  unfold State.coefStep
  exact hs.updRg

theorem Keeps.coefWriteEffect (hs : Keeps s₀ s) {v} :
    KeepsFst s₀ (coefWriteEffect v s) := by
  unfold Machine.coefWriteEffect
  extract_lets
  exact KeepsFst.either (KeepsFst.mk hs.coefStep) (KeepsFst.mk hs.same.coefStep)

theorem Keeps.coefReadEffect (hs : Keeps s₀ s) :
    KeepsFst s₀ (coefReadEffect s) := by
  unfold Machine.coefReadEffect
  exact KeepsFst.mk hs.coefStep

theorem Keeps.laneStatEffect (hs : Keeps s₀ s) {n v} :
    KeepsFst s₀ (laneStatEffect n v s) := by
  unfold Machine.laneStatEffect
  exact KeepsFst.mk hs.updLane.laneLevels

theorem Keeps.laneCicEffect (hs : Keeps s₀ s) {off v} :
    KeepsFst s₀ (laneCicEffect off v s) := by
  unfold Machine.laneCicEffect
  extract_lets
  exact KeepsFst.either (KeepsFst.mk hs) (KeepsFst.mk hs.setRg)

theorem Keeps.laneRateEffect (hs : Keeps s₀ s) {n v} :
    KeepsFst s₀ (laneRateEffect n v s) := by
  unfold Machine.laneRateEffect
  exact KeepsFst.either (KeepsFst.mk hs) (KeepsFst.mk hs.setRg)

theorem Keeps.markLanes (hs : Keeps s₀ s) {p} :
    Keeps s₀ (s.markLanes p) := by
  unfold State.markLanes
  exact hs.foldl (fun _ _ ha => ha.updLane)

theorem Keeps.thresherEn (hs : Keeps s₀ s) {on} :
    Keeps s₀ (s.thresherEn on) := by
  unfold State.thresherEn
  refine Keeps.either hs.markLanes ?_
  extract_lets s1 s2
  have h1 : Keeps s₀ s1 := hs.foldl (fun _ _ ha => ha.updLane)
  have h2 : Keeps s₀ s2 := h1.foldl (fun _ _ ha => ha.convAbandon)
  exact Keeps.admitDone (h2.foldl (fun _ _ ha => Keeps.either ha.changeOver ha))

theorem Keeps.drainLanes (hs : Keeps s₀ s) :
    Keeps s₀ s.drainLanes := by
  unfold State.drainLanes
  exact hs.foldl (fun _ _ ha => ha.laneDrain)

theorem Keeps.restartConv (hs : Keeps s₀ s) {cv} :
    Keeps s₀ (s.restartConv cv) := by
  unfold State.restartConv
  split
  · exact hs
  · exact hs.updLane.markConv

theorem Keeps.senseClockChanged (hs : Keeps s₀ s) {guard} :
    Keeps s₀ (s.senseClockChanged guard) := by
  unfold State.senseClockChanged
  extract_lets s1 s2
  have h1 : Keeps s₀ s1 := by
    unfold s1
    refine hs.foldl ?_
    intro a _ ha
    extract_lets acc1
    have hacc1 : Keeps s₀ acc1 := ha.markConv
    exact Keeps.either hacc1.convAbandon hacc1.restartConv
  have h2 : Keeps s₀ s2 := Keeps.either (Keeps.syncAll (h1.markLanes.foldl (fun _ _ ha => ha.updConv))) h1
  exact h2.dropCaptures.refreshWinnow

theorem Keeps.execConverterSample (hs : Keeps s₀ s) {cv r} :
    KeepsOut s₀ (execConverterSample cv r s) := by
  unfold Machine.execConverterSample
  split
  · exact KeepsOut.either (KeepsOut.next hs.converterTakes) KeepsOut.fault
  · exact KeepsOut.either KeepsOut.fault (KeepsOut.next hs.converterTakes)

theorem Keeps.execLaneOutput (hs : Keeps s₀ s) {lane} :
    KeepsOut s₀ (execLaneOutput lane s) := by
  unfold Machine.execLaneOutput
  exact KeepsOut.next hs.laneOutput

theorem Keeps.execAdmission (hs : Keeps s₀ s) {tag} :
    KeepsOut s₀ (execAdmission tag s) := by
  unfold Machine.execAdmission
  exact KeepsOut.next (hs.runOp (fun _ _ ha => ha.laneAdmitEffect))

theorem Keeps.execLaneChangeover (hs : Keeps s₀ s) {lane} :
    KeepsOut s₀ (execLaneChangeover lane s) := by
  unfold Machine.execLaneChangeover
  exact KeepsOut.next hs.laneChangeover

theorem Keeps.execCoefDataWrite (hs : Keeps s₀ s) {m v} :
    KeepsOut s₀ (execCoefDataWrite m v s) := by
  unfold Machine.execCoefDataWrite
  exact KeepsOut.next (hs.write (fun _ ha => ha.coefWriteEffect))

theorem Keeps.execCoefDataRead (hs : Keeps s₀ s) {m} :
    KeepsOut s₀ (execCoefDataRead m s) := by
  unfold Machine.execCoefDataRead
  exact KeepsOut.next (hs.read (fun _ ha => ha.coefReadEffect))

/-! ### Machine, Buses -/

theorem Keeps.xferRequest (hs : Keeps s₀ s) {x} :
    KeepsFst s₀ (s.xferRequest x) := by
  unfold State.xferRequest
  extract_lets
  exact KeepsFst.either (KeepsFst.mk hs) (KeepsFst.either (KeepsFst.mk hs)
      (KeepsFst.either (KeepsFst.mk hs) (KeepsFst.mk hs.putUnit)))

theorem Keeps.xferBegin (hs : Keeps s₀ s) {tag} :
    Keeps s₀ (s.xferBegin tag) := by
  unfold State.xferBegin
  extract_lets
  split
  · rename_i a s1 _ e
    have h1 : Keeps s₀ s1 := hs.xferRequest.of_eq e
    exact h1.setResult
  · rename_i a s1 e
    have h1 : Keeps s₀ s1 := hs.xferRequest.of_eq e
    exact h1

theorem Keeps.placeBytes (hs : Keeps s₀ s) {u q l} :
    Keeps s₀ (s.placeBytes u q l) := by
  unfold State.placeBytes
  exact Keeps.either hs (Keeps.either hs.putUnit hs.blockPush.fst)

theorem Keeps.finishXfer (hs : Keeps s₀ s) {u x l} :
    Keeps s₀ (s.finishXfer u x l) := by
  unfold State.finishXfer
  exact hs.placeBytes.endXfer

theorem Keeps.spcRun (hs : Keeps s₀ s) {u rx} :
    Keeps s₀ (s.spcRun u rx) := by
  unfold State.spcRun
  split
  · exact hs
  · split
    · exact hs.endXfer
    · extract_lets _ _ _ s1
      have h1 : Keeps s₀ s1 := hs.putUnit
      exact h1.finishXfer

theorem Keeps.uartSend (hs : Keeps s₀ s) {u} :
    Keeps s₀ (s.uartSend u) := by
  unfold State.uartSend
  split
  · exact hs
  · refine Keeps.either hs ?_
    split
    · exact hs.endXfer
    · extract_lets _ _ _ _ s1
      have h1 : Keeps s₀ s1 := hs.putUnit
      exact Keeps.either h1.endXfer h1

theorem Keeps.uartReply (hs : Keeps s₀ s) {u came bad} :
    Keeps s₀ (s.uartReply u came bad) := by
  unfold State.uartReply
  split
  · extract_lets
    exact Keeps.either hs (Keeps.either hs.finishXfer hs.updRg.endXfer)
  · exact hs

theorem Keeps.uartTimeout (hs : Keeps s₀ s) {u} :
    Keeps s₀ (s.uartTimeout u) := by
  unfold State.uartTimeout
  split
  · split
    · exact hs.reach.endXfer
    · exact hs
  · exact hs

theorem Keeps.twcCount (hs : Keeps s₀ s) {u hi lo} :
    Keeps s₀ (s.twcCount u hi lo) := by
  unfold State.twcCount
  exact hs.updRg

theorem Keeps.twcRun (hs : Keeps s₀ s) {u stuck acked rx} :
    Keeps s₀ (s.twcRun u stuck acked rx) := by
  unfold State.twcRun
  split
  · exact hs
  · refine Keeps.either hs ?_
    split
    · exact hs.endXfer
    · extract_lets s1 _ s2
      have h1 : Keeps s₀ s1 := Keeps.either hs.twcCount hs
      have h2 : Keeps s₀ s2 := h1.putUnit
      exact Keeps.either h1.putUnit.endXfer (Keeps.either h2.twcCount.endXfer h2.finishXfer)

theorem Keeps.arbLost (hs : Keeps s₀ s) {u addr} :
    Keeps s₀ (s.arbLost u addr) := by
  unfold State.arbLost
  extract_lets _ s1 _ s2
  have h1 : Keeps s₀ s1 := hs.twcCount
  have h2 : Keeps s₀ s2 := h1.putUnit
  exact Keeps.either hs (Keeps.either h2.endXfer h2)

theorem Keeps.targetPart (hs : Keeps s₀ s) {u part} :
    Keeps s₀ (s.targetPart u part) := by
  unfold State.targetPart
  split
  · exact Keeps.either hs hs.blockPush.fst
  · exact hs.putUnit

theorem Keeps.targetServe (hs : Keeps s₀ s) {u addr parts} :
    Keeps s₀ (s.targetServe u addr parts) := by
  unfold State.targetServe
  refine Keeps.either ?_ hs
  extract_lets _ s1
  have h1 : Keeps s₀ s1 := hs.putUnit.foldl (fun _ _ ha => ha.targetPart)
  exact h1.putUnit

theorem Keeps.twcStretch (hs : Keeps s₀ s) {u} :
    Keeps s₀ (s.twcStretch u) := by
  unfold State.twcStretch
  extract_lets
  exact Keeps.either hs.twcCount.putUnit (Keeps.either hs hs.twcCount.endXfer)

theorem Keeps.twcProtocol (hs : Keeps s₀ s) {u} :
    Keeps s₀ (s.twcProtocol u) := by
  unfold State.twcProtocol
  extract_lets
  exact Keeps.either hs.twcCount.putUnit (Keeps.either hs hs.twcCount.endXfer)

theorem Keeps.twcCfgEffect (hs : Keeps s₀ s) {u off v} :
    KeepsFst s₀ (twcCfgEffect u off v s) := by
  unfold Machine.twcCfgEffect
  exact KeepsFst.either (KeepsFst.mk hs) hs.plainWrite

theorem Keeps.rxdEffect (hs : Keeps s₀ s) {u} :
    KeepsFst s₀ (rxdEffect u s) := by
  unfold Machine.rxdEffect
  split
  · exact KeepsFst.mk hs
  · exact KeepsFst.mk hs.putUnit

theorem Keeps.execSpcXfer (hs : Keeps s₀ s) {u rx} :
    KeepsOut s₀ (execSpcXfer u rx s) := by
  unfold Machine.execSpcXfer
  exact KeepsOut.next hs.spcRun

theorem Keeps.execUartXact (hs : Keeps s₀ s) {u} :
    KeepsOut s₀ (execUartXact u s) := by
  unfold Machine.execUartXact
  exact KeepsOut.next hs.uartSend

theorem Keeps.execUartEof (hs : Keeps s₀ s) {u reply bad} :
    KeepsOut s₀ (execUartEof u reply bad s) := by
  unfold Machine.execUartEof
  exact KeepsOut.either KeepsOut.fault (KeepsOut.next hs.uartReply)

theorem Keeps.execUartReplyTimeout (hs : Keeps s₀ s) {u} :
    KeepsOut s₀ (execUartReplyTimeout u s) := by
  unfold Machine.execUartReplyTimeout
  exact KeepsOut.next hs.uartTimeout

theorem Keeps.execRxdRead (hs : Keeps s₀ s) {m u} :
    KeepsOut s₀ (execRxdRead m u s) := by
  unfold Machine.execRxdRead
  exact KeepsOut.next (hs.read (fun _ ha => ha.rxdEffect))

theorem Keeps.execTwcXfer (hs : Keeps s₀ s) {u stuck acked rx} :
    KeepsOut s₀ (execTwcXfer u stuck acked rx s) := by
  unfold Machine.execTwcXfer
  exact KeepsOut.next hs.twcRun

theorem Keeps.execArbitrationLost (hs : Keeps s₀ s) {u addr} :
    KeepsOut s₀ (execArbitrationLost u addr s) := by
  unfold Machine.execArbitrationLost
  exact KeepsOut.next hs.arbLost

theorem Keeps.execTargetTransaction (hs : Keeps s₀ s) {u addr parts} :
    KeepsOut s₀ (execTargetTransaction u addr parts s) := by
  unfold Machine.execTargetTransaction
  exact KeepsOut.next hs.targetServe

theorem Keeps.execStretchTimeout (hs : Keeps s₀ s) {u} :
    KeepsOut s₀ (execStretchTimeout u s) := by
  unfold Machine.execStretchTimeout
  exact KeepsOut.next hs.twcStretch

/-! ### Machine, Phy -/

theorem Keeps.updLink (hs : Keeps s₀ s) {f} :
    Keeps s₀ (s.updLink f) := by
  unfold State.updLink
  exact hs.same

theorem Keeps.putPeer (hs : Keeps s₀ s) {n p} :
    Keeps s₀ (s.putPeer n p) := by
  unfold State.putPeer
  exact hs.updLink

theorem Keeps.updPeer (hs : Keeps s₀ s) {n f} :
    Keeps s₀ (s.updPeer n f) := by
  unfold State.updPeer
  split
  · exact hs
  · exact hs.putPeer

theorem Keeps.updPhy (hs : Keeps s₀ s) {f} :
    Keeps s₀ (s.updPhy f) := by
  unfold State.updPhy
  exact hs.same

theorem Keeps.refreshRadio (hs : Keeps s₀ s) :
    Keeps s₀ s.refreshRadio := by
  unfold State.refreshRadio
  extract_lets s1 s2 s3
  have h1 : Keeps s₀ s1 := hs.updRg
  have h2 : Keeps s₀ s2 := h1.evLevel.evLevel.evLevel.evLevel
  have h3 : Keeps s₀ s3 := Keeps.either h2.updPhy h2
  exact h3.setDegraded

theorem Keeps.sampleRssi (hs : Keeps s₀ s) :
    Keeps s₀ s.sampleRssi := by
  unfold State.sampleRssi
  refine Keeps.either ?_ hs
  split
  · rename_i a _ s1 e
    have h1 : Keeps s₀ s1 := hs.draw.of_eq e
    exact h1.setRg.updPhy

theorem Keeps.keepInForce (hs : Keeps s₀ s) :
    Keeps s₀ s.keepInForce := by
  unfold State.keepInForce
  exact Keeps.either hs.updPhy hs

theorem Keeps.setChannel (hs : Keeps s₀ s) {freq width} :
    Keeps s₀ (s.setChannel freq width) := by
  unfold State.setChannel
  extract_lets _ s1
  have h1 : Keeps s₀ s1 := hs.keepInForce.setRg.updRg
  exact Keeps.either h1 h1.updRg

theorem Keeps.freqEffect (hs : Keeps s₀ s) {v} :
    KeepsFst s₀ (freqEffect v s) := by
  unfold Machine.freqEffect
  extract_lets
  exact KeepsFst.either (KeepsFst.mk hs) (KeepsFst.either (KeepsFst.mk hs) (KeepsFst.mk hs.setChannel.refreshRadio))

theorem Keeps.rfCfgEffect (hs : Keeps s₀ s) {v} :
    KeepsFst s₀ (rfCfgEffect v s) := by
  unfold Machine.rfCfgEffect
  exact KeepsFst.either (KeepsFst.mk hs) (KeepsFst.either (KeepsFst.mk hs)
      (KeepsFst.mk hs.setChannel.setRg.refreshRadio))

theorem Keeps.txpwrEffect (hs : Keeps s₀ s) {v} :
    KeepsFst s₀ (txpwrEffect v s) := by
  unfold Machine.txpwrEffect
  extract_lets
  exact KeepsFst.either (KeepsFst.mk hs) (KeepsFst.either (KeepsFst.mk hs) (KeepsFst.mk hs.setRg))

theorem Keeps.shapeRegEffect (hs : Keeps s₀ s) {off v} :
    KeepsFst s₀ (shapeRegEffect off v s) := by
  unfold Machine.shapeRegEffect
  exact KeepsFst.either (KeepsFst.mk hs) hs.plainWrite

theorem Keeps.rxcfgModemEffect (hs : Keeps s₀ s) {v} :
    KeepsFst s₀ (rxcfgModemEffect v s) := by
  unfold Machine.rxcfgModemEffect
  extract_lets
  exact KeepsFst.either (KeepsFst.mk hs) (KeepsFst.either (KeepsFst.mk hs) (KeepsFst.mk hs.keepInForce.setRg))

theorem Keeps.abandonRx (hs : Keeps s₀ s) :
    Keeps s₀ s.abandonRx := by
  unfold State.abandonRx
  split
  · exact hs
  · exact hs.updPhy.updRg

theorem Keeps.startTx (hs : Keeps s₀ s) {f} :
    KeepsFst s₀ (s.startTx f) := by
  unfold State.startTx
  extract_lets t
  have ht : Keeps s₀ t := hs.abandonRx
  refine KeepsFst.either (KeepsFst.mk hs) (KeepsFst.either (KeepsFst.mk hs)
      (KeepsFst.either (KeepsFst.mk hs.updRg.refreshRadio) ?_))
  split
  · extract_lets s1
    have h1 : Keeps s₀ s1 := ht.updRg.updPhy
    exact KeepsFst.mk h1.refreshRadio

theorem Keeps.stopTx (hs : Keeps s₀ s) {f} :
    Keeps s₀ (s.stopTx f) := by
  unfold State.stopTx
  extract_lets s1
  have h1 : Keeps s₀ s1 := hs.reach
  exact h1.updPhy.refreshRadio

theorem Keeps.beginRx (hs : Keeps s₀ s) {h power errs captured} :
    Keeps s₀ (s.beginRx h power errs captured) := by
  unfold State.beginRx
  split
  · extract_lets _ _ s1 s2
    have h1 : Keeps s₀ s1 := hs.updPhy.updRg
    have h2 : Keeps s₀ s2 := h1.setRg.updRg
    exact h2.evPulse.updLink.refreshRadio

theorem Keeps.capture (hs : Keeps s₀ s) {src} :
    Keeps s₀ (s.capture src) := by
  unfold State.capture
  extract_lets s1
  have h1 : Keeps s₀ s1 := hs.updRg.evPulse
  split
  · exact h1.updRg
  · split
    · exact h1
    · exact h1.updPeer

theorem Keeps.syncSeen (hs : Keeps s₀ s) {h power soFar} :
    Keeps s₀ (s.syncSeen h power soFar) := by
  unfold State.syncSeen
  split
  · refine Keeps.either hs ?_
    split
    · exact hs
    · extract_lets s1
      have h1 : Keeps s₀ s1 := hs.beginRx
      exact Keeps.either h1.updRg h1
    · exact Keeps.either hs.capture.beginRx hs

theorem Keeps.showFrame (hs : Keeps s₀ s) {r h q rssi ok} :
    Keeps s₀ (s.showFrame r h q rssi ok) := by
  unfold State.showFrame
  extract_lets _ s1 s2 s3
  have h1 : Keeps s₀ s1 := hs.setRg.setRg.setRg
  have h2 : Keeps s₀ s2 := h1.setRg.setPair
  have h3 : Keeps s₀ s3 := h2.setRg.setRg
  exact Keeps.either h3 (h3.foldl (fun _ _ ha => ha.setRg))

theorem Keeps.showDfe (hs : Keeps s₀ s) {r q} :
    Keeps s₀ (s.showDfe r q) := by
  unfold State.showDfe
  exact Keeps.either hs.setRg hs

theorem Keeps.saveTaps (hs : Keeps s₀ s) {station q} :
    Keeps s₀ (s.saveTaps station q) := by
  unfold State.saveTaps
  split
  · exact Keeps.either hs.updPeer hs
  · exact hs

theorem Keeps.measureFrame (hs : Keeps s₀ s) {src q} :
    Keeps s₀ (s.measureFrame src q) := by
  unfold State.measureFrame
  split
  · exact hs
  · refine Keeps.either ?_ hs
    extract_lets
    exact hs.updPhy

theorem Keeps.endRx (hs : Keeps s₀ s) :
    Keeps s₀ s.endRx := by
  unfold State.endRx
  exact hs.updPhy.refreshRadio

theorem Keeps.deliver (hs : Keeps s₀ s) {d} :
    Keeps s₀ (s.deliver d) := by
  unfold State.deliver
  exact Keeps.either hs hs.updLink

theorem Keeps.judgeSynelle (hs : Keeps s₀ s) {r h payload crc q rssi} :
    Keeps s₀ (s.judgeSynelle r h payload crc q rssi) := by
  unfold State.judgeSynelle
  refine Keeps.either hs.showDfe.updRg.endRx ?_
  extract_lets _ _ _ _ _ _ _ _ _ shown s1 s2 s1'
  have h1 : Keeps s₀ s1 := hs.showDfe.showFrame.updRg
  have h2 : Keeps s₀ s2 := by
    unfold s2
    split
    · exact h1.updPeer
    · exact h1
  have hs1' : Keeps s₀ s1' := hs.showDfe.showFrame.evPulse
  exact Keeps.either h2.endRx.deliver (Keeps.either hs.showDfe.showFrame.updRg.evPulse.endRx.deliver
      (Keeps.deliver (Keeps.endRx (Keeps.either hs1'.saveTaps hs1'.measureFrame))))

theorem Keeps.judgeLegacy (hs : Keeps s₀ s) {r len payload crc q rssi} :
    Keeps s₀ (s.judgeLegacy r len payload crc q rssi) := by
  unfold State.judgeLegacy
  extract_lets s0
  have h0 : Keeps s₀ s0 := hs.showDfe
  exact Keeps.either h0.updRg.evPulse.endRx h0.evPulse.saveTaps.endRx.deliver

theorem Keeps.judge (hs : Keeps s₀ s) {r x rssi} :
    Keeps s₀ (s.judge r x rssi) := by
  unfold State.judge
  split
  · exact hs.judgeSynelle
  · exact hs.judgeLegacy

theorem Keeps.measureBegin (hs : Keeps s₀ s) {tag} :
    Keeps s₀ (s.measureBegin tag) := by
  unfold State.measureBegin
  extract_lets
  exact Keeps.either hs.setResult (Keeps.either hs.setResult (Keeps.either hs.setResult
      (Keeps.either hs.setResult hs.updPhy)))

theorem Keeps.measureEnd (hs : Keeps s₀ s) {tag m} :
    Keeps s₀ (s.measureEnd tag m) := by
  unfold State.measureEnd
  extract_lets _ _ _ _ _ s1 s2
  have h1 : Keeps s₀ s1 := hs.updPhy.setRg
  have h2 : Keeps s₀ s2 := Keeps.either h1.updPeer h1
  exact h2.evPulse.setResult

theorem Keeps.fitDpd (hs : Keeps s₀ s) {c apply} :
    KeepsFst s₀ (s.fitDpd c apply) := by
  unfold State.fitDpd
  split
  · extract_lets _ _ s1 s2
    have h1 : Keeps s₀ s1 := hs.updRg
    have h2 : Keeps s₀ s2 := by
      unfold s2
      refine Keeps.either (Keeps.updRg (h1.foldl ?_)) h1
      intro a _ ha
      split
      · exact ha.setRg
    exact KeepsFst.mk h2.updPhy.evPulse

theorem Keeps.trainBegin (hs : Keeps s₀ s) {tag} :
    Keeps s₀ (s.trainBegin tag) := by
  unfold State.trainBegin
  extract_lets
  exact Keeps.either hs.setResult (Keeps.either hs.setResult (Keeps.either hs.setResult hs.updPhy))

theorem Keeps.trainEnd (hs : Keeps s₀ s) {tag t c} :
    Keeps s₀ (s.trainEnd tag t c) := by
  unfold State.trainEnd
  extract_lets _ _ clear
  refine Keeps.either hs.reach.updPhy.setResult (Keeps.either hs ?_)
  split
  · rename_i a s1 _ e
    have h1 : Keeps s₀ s1 := hs.updPhy.fitDpd.of_eq e
    exact h1.setResult

theorem Keeps.execFreqWrite (hs : Keeps s₀ s) {m v} :
    KeepsOut s₀ (execFreqWrite m v s) := by
  unfold Machine.execFreqWrite
  exact KeepsOut.next (hs.write (fun _ ha => ha.freqEffect))

theorem Keeps.execSyncAccept (hs : Keeps s₀ s) {heard power soFar} :
    KeepsOut s₀ (execSyncAccept heard power soFar s) := by
  unfold Machine.execSyncAccept
  exact KeepsOut.next hs.syncSeen

theorem Keeps.execFrameDelivery (hs : Keeps s₀ s) {f q} :
    KeepsOut s₀ (execFrameDelivery f q s) := by
  unfold Machine.execFrameDelivery
  refine KeepsOut.next ?_
  split
  · exact Keeps.either hs hs.judge
  · exact Keeps.either hs.judge hs
  · exact hs

theorem Keeps.execDpdTrain (hs : Keeps s₀ s) {tag f} :
    KeepsOut s₀ (execDpdTrain tag f s) := by
  unfold Machine.execDpdTrain
  refine KeepsOut.next (Keeps.either ?_ hs)
  split
  · exact Keeps.either hs.trainEnd hs
  · exact hs

theorem Keeps.execDpdAutoRetrain (hs : Keeps s₀ s) {celsius millivolts f} :
    KeepsOut s₀ (execDpdAutoRetrain celsius millivolts f s) := by
  unfold Machine.execDpdAutoRetrain
  exact KeepsOut.next (Keeps.either hs.fitDpd.fst hs)

theorem Keeps.execVpaReturn (hs : Keeps s₀ s) :
    KeepsOut s₀ (execVpaReturn s) := by
  unfold Machine.execVpaReturn
  exact KeepsOut.next (Keeps.either hs hs.same.supplyBack.refreshRadio)

/-! ### Machine, Peers -/

theorem Keeps.syncEst (hs : Keeps s₀ s) :
    Keeps s₀ s.syncEst := by
  unfold State.syncEst
  extract_lets s1
  have h1 : Keeps s₀ s1 := hs.setRg
  exact h1.same

theorem Keeps.refreshLink (hs : Keeps s₀ s) :
    Keeps s₀ s.refreshLink := by
  unfold State.refreshLink
  split
  · extract_lets _ _ s1 s2 s3
    have h1 : Keeps s₀ s1 := hs.setRg
    have h2 : Keeps s₀ s2 := h1.setRg
    have h3 : Keeps s₀ s3 := h2.updRg
    exact h3.evLevel

theorem Keeps.setParent (hs : Keeps s₀ s) {n} :
    Keeps s₀ (s.setParent n) := by
  unfold State.setParent
  refine Keeps.either hs ?_
  extract_lets s1
  have h1 : Keeps s₀ s1 := hs.updLink
  exact h1.evPulse.pulse.refreshLink

theorem Keeps.acceptFrame (hs : Keeps s₀ s) {n d} :
    Keeps s₀ (s.acceptFrame n d) := by
  unfold State.acceptFrame
  exact hs.updPeer.updRg

theorem Keeps.stranger (hs : Keeps s₀ s) {station reason d} :
    Keeps s₀ (s.stranger station reason d) := by
  unfold State.stranger
  extract_lets _ put
  split
  · split
    · exact hs.updLink
    · exact hs
  · exact hs.updLink.evPulse.pulse

theorem Keeps.dropStranger (hs : Keeps s₀ s) {station} :
    Keeps s₀ (s.dropStranger station) := by
  unfold State.dropStranger
  exact hs.updLink

theorem Keeps.routeRecord (hs : Keeps s₀ s) {m hop reason from_} :
    Keeps s₀ (s.routeRecord m hop reason from_) := by
  unfold State.routeRecord
  extract_lets
  exact hs.place

theorem Keeps.updMsg (hs : Keeps s₀ s) {id f} :
    Keeps s₀ (s.updMsg id f) := by
  unfold State.updMsg
  exact hs.updLink

theorem Keeps.addMsg (hs : Keeps s₀ s) {m} :
    Keeps s₀ (s.addMsg m) := by
  unfold State.addMsg
  exact hs.updLink.refreshLink

theorem Keeps.sendFail (hs : Keeps s₀ s) {c} :
    Keeps s₀ (s.sendFail c) := by
  unfold State.sendFail
  exact Keeps.either hs hs.evPulse.pulse

theorem Keeps.finishMsg (hs : Keeps s₀ s) {m c} :
    Keeps s₀ (s.finishMsg m c) := by
  unfold State.finishMsg
  extract_lets s1
  have h1 : Keeps s₀ s1 := hs.updLink
  split
  · exact h1.setResult.sendFail.refreshLink
  · exact h1.setResult.updPeer.refreshLink
  · exact Keeps.refreshLink (Keeps.either h1 h1.updRg.evPulse)

theorem Keeps.failHop (hs : Keeps s₀ s) {m} :
    Keeps s₀ (s.failHop m) := by
  unfold State.failHop
  extract_lets next
  clear_value next
  split
  · exact hs.finishMsg
  · extract_lets s1
    have h1 : Keeps s₀ s1 := hs.updLink
    exact h1.updMsg.routeRecord
  · exact hs.finishMsg

theorem Keeps.advanceMsg (hs : Keeps s₀ s) {m} :
    Keeps s₀ (s.advanceMsg m) := by
  unfold State.advanceMsg
  extract_lets s1
  have h1 : Keeps s₀ s1 := Keeps.either hs.updRg hs
  exact Keeps.either h1.finishMsg h1.updMsg

/-! ### Machine, Time -/

theorem Keeps.putTask (hs : Keeps s₀ s) {k t} :
    Keeps s₀ (s.putTask k t) := by
  unfold State.putTask
  exact hs.same

theorem Keeps.clearTask (hs : Keeps s₀ s) {k} :
    Keeps s₀ (s.clearTask k) := by
  unfold State.clearTask
  exact hs.putTask

theorem Keeps.loseTask (hs : Keeps s₀ s) {k} :
    Keeps s₀ (s.loseTask k) := by
  unfold State.loseTask
  extract_lets
  exact hs.putTask

theorem Keeps.timeTick (hs : Keeps s₀ s) :
    Keeps s₀ s.timeTick := by
  unfold State.timeTick
  split
  · extract_lets
    exact hs.same
  · extract_lets
    exact hs.same
  · exact hs.same

theorem Keeps.measureXtal (hs : Keeps s₀ s) :
    Keeps s₀ s.measureXtal := by
  unfold State.measureXtal
  refine Keeps.either ?_ hs
  split
  · rename_i a _ s1 e
    have h1 : Keeps s₀ s1 := hs.draw.of_eq e
    exact h1.setRg

theorem Keeps.shiftWaits (hs : Keeps s₀ s) {d} :
    Keeps s₀ (s.shiftWaits d) := by
  unfold State.shiftWaits
  extract_lets
  exact hs.sameMem

theorem Keeps.stepDue (hs : Keeps s₀ s) {t old new d} :
    Keeps s₀ (s.stepDue t old new d) := by
  unfold State.stepDue
  split
  · exact hs
  · extract_lets
    exact hs.updThread

theorem Keeps.stepTime (hs : Keeps s₀ s) {units} :
    Keeps s₀ (s.stepTime units) := by
  unfold State.stepTime
  extract_lets _ _ _ s1 _ _ s2 s3 s4
  have h1 : Keeps s₀ s1 := hs.stepUtil.shiftWaits
  have h2 : Keeps s₀ s2 := h1.same
  have h3 : Keeps s₀ s3 := h2.foldl (fun _ _ ha => ha.stepDue)
  have h4 : Keeps s₀ s4 := h3.updRg.setPair
  exact h4.setPair.evPulse.pulse

theorem Keeps.epochEffect (hs : Keeps s₀ s) {k} :
    KeepsFst s₀ (epochEffect k s) := by
  unfold Machine.epochEffect
  refine KeepsFst.either (KeepsFst.mk hs) ?_
  extract_lets
  exact KeepsFst.mk hs.stepTime

theorem Keeps.snapLatch (hs : Keeps s₀ s) {cause slot wave} :
    Keeps s₀ (s.snapLatch cause slot wave) := by
  unfold State.snapLatch
  extract_lets s1
  have h1 : Keeps s₀ s1 := hs.updRg.setPair
  exact Keeps.either h1.same h1

theorem Keeps.snapEffect (hs : Keeps s₀ s) {tag _k} :
    KeepsFst s₀ (snapEffect tag _k s) := by
  unfold Machine.snapEffect
  refine KeepsFst.either (KeepsFst.mk hs) (KeepsFst.either (KeepsFst.mk hs) (KeepsFst.either (KeepsFst.mk hs) ?_))
  extract_lets s1
  have h1 : Keeps s₀ s1 := hs.snapLatch
  exact KeepsFst.mk h1

theorem Keeps.snapTrigger (hs : Keeps s₀ s) :
    Keeps s₀ s.snapTrigger := by
  unfold State.snapTrigger
  extract_lets _ s1
  have h1 : Keeps s₀ s1 := hs.clearTask
  exact Keeps.either hs (Keeps.either h1.updRg.evPulse h1.snapLatch)

theorem Keeps.snapLost (hs : Keeps s₀ s) :
    Keeps s₀ s.snapLost := by
  unfold State.snapLost
  exact hs.updRg.evPulse

theorem Keeps.snapRefused (hs : Keeps s₀ s) {q} :
    KeepsFst s₀ (s.snapRefused q) := by
  unfold State.snapRefused
  extract_lets
  exact KeepsFst.mk hs.logPush

theorem Keeps.snapDone (hs : Keeps s₀ s) :
    Keeps s₀ s.snapDone := by
  unfold State.snapDone
  split
  · exact hs
  · extract_lets _ s1
    have h1 : Keeps s₀ s1 := hs.same
    split
    · rename_i a s1' _ e
      have hs1' : Keeps s₀ s1' := KeepsFst.of_eq (KeepsFst.either h1.snapRefused h1.blockPush) e
      extract_lets s3 s4
      have h3 : Keeps s₀ s3 := Keeps.either hs1' hs1'.snapLost
      have h4 : Keeps s₀ s4 := by
        unfold s4
        split
        · exact Keeps.either h3.setResult h3
        · exact h3
      exact h4.evPulse.pulse

theorem Keeps.fireAlarm (hs : Keeps s₀ s) {n} :
    Keeps s₀ (s.fireAlarm n) := by
  unfold State.fireAlarm
  refine Keeps.either ?_ hs
  extract_lets s1 s2
  have h1 : Keeps s₀ s1 := hs.reach
  have h2 : Keeps s₀ s2 := h1.updRg
  exact h2.evPulse.pulse.fireWake

theorem Keeps.alarmCtlEffect (hs : Keeps s₀ s) {v} :
    KeepsFst s₀ (alarmCtlEffect v s) := by
  unfold Machine.alarmCtlEffect
  exact KeepsFst.mk hs.updRg

theorem Keeps.setDstate (hs : Keeps s₀ s) {d} :
    Keeps s₀ (s.setDstate d) := by
  unfold State.setDstate
  extract_lets s1 _ s2
  have h1 : Keeps s₀ s1 := hs.syncEst
  have h2 : Keeps s₀ s2 := h1.same
  exact h2.levelSource.evLevel

theorem Keeps.startDiscipline (hs : Keeps s₀ s) :
    Keeps s₀ s.startDiscipline := by
  unfold State.startDiscipline
  refine Keeps.either ?_ hs
  extract_lets s1
  have h1 : Keeps s₀ s1 := hs.setDstate
  exact h1.same

theorem Keeps.agreeTo (hs : Keeps s₀ s) {n} :
    Keeps s₀ (s.agreeTo n) := by
  unfold State.agreeTo
  extract_lets _ s1
  have h1 : Keeps s₀ s1 := hs.same
  exact Keeps.either h1.setDstate h1.setDstate

theorem Keeps.slewBy (hs : Keeps s₀ s) {units} :
    Keeps s₀ (s.slewBy units) := by
  unfold State.slewBy
  split
  · rename_i a _ s1 e
    have h1 : Keeps s₀ s1 := hs.draw.of_eq e
    extract_lets _ s2
    have h2 : Keeps s₀ s2 := h1.same
    exact h2.setRg

theorem Keeps.actOn (hs : Keeps s₀ s) {e changed} :
    Keeps s₀ (s.actOn e changed) := by
  unfold State.actOn
  extract_lets _ _ _ _ _ stepped t
  have ht : Keeps s₀ t := hs.slewBy.setDstate
  split
  · exact hs
  · exact Keeps.either hs.slewBy.agreeTo hs.stepTime.agreeTo
  · exact Keeps.either hs.slewBy (Keeps.either hs.stepTime.agreeTo ht.same)
  · exact Keeps.either hs.slewBy.setDstate hs.stepTime.agreeTo

theorem Keeps.takeSample (hs : Keeps s₀ s) :
    Keeps s₀ s.takeSample := by
  unfold State.takeSample
  split
  · exact hs
  · extract_lets _ s0
    have h0 : Keeps s₀ s0 := hs.same
    refine Keeps.either h0 ?_
    split
    · exact h0
    · extract_lets _ _ s1 _ s2 s3 _ _ s4 _ _ s5
      have h1 : Keeps s₀ s1 := h0.putPeer
      have h2 : Keeps s₀ s2 := h1.same
      have h3 : Keeps s₀ s3 := h2.setRg
      have h4 : Keeps s₀ s4 := h3.setRg
      have h5 : Keeps s₀ s5 := h4.same
      exact Keeps.either h3 h5.actOn

theorem Keeps.holdoverEntry (hs : Keeps s₀ s) :
    Keeps s₀ s.holdoverEntry := by
  unfold State.holdoverEntry
  extract_lets _ s1
  have h1 : Keeps s₀ s1 := hs.same
  exact Keeps.either h1.setDstate h1

theorem Keeps.guardHoldover (hs : Keeps s₀ s) :
    Keeps s₀ s.guardHoldover := by
  unfold State.guardHoldover
  exact Keeps.either hs.setDstate hs

theorem Keeps.ncfgEffect (hs : Keeps s₀ s) {v} :
    KeepsFst s₀ (ncfgEffect v s) := by
  unfold Machine.ncfgEffect
  extract_lets s1 s2
  have h1 : Keeps s₀ s1 := hs.setRg
  have h2 : Keeps s₀ s2 := Keeps.either h1.setDstate h1
  exact KeepsFst.mk (Keeps.either h2.setParent h2)

theorem Keeps.execEpochSet (hs : Keeps s₀ s) {tag} :
    KeepsOut s₀ (execEpochSet tag s) := by
  unfold Machine.execEpochSet
  exact KeepsOut.next (hs.runOp (fun _ _ ha => ha.epochEffect))

theorem Keeps.execSnap (hs : Keeps s₀ s) {tag} :
    KeepsOut s₀ (execSnap tag s) := by
  unfold Machine.execSnap
  refine KeepsOut.next ?_
  split
  · exact hs.runOp (fun _ _ ha => ha.snapEffect)
  · exact hs.snapTrigger

theorem Keeps.execSnapReadoutDone (hs : Keeps s₀ s) :
    KeepsOut s₀ (execSnapReadoutDone s) := by
  unfold Machine.execSnapReadoutDone
  exact KeepsOut.next hs.snapDone

theorem Keeps.execAlarmFire (hs : Keeps s₀ s) {n} :
    KeepsOut s₀ (execAlarmFire n s) := by
  unfold Machine.execAlarmFire
  exact KeepsOut.next hs.fireAlarm

theorem Keeps.execDisciplineStart (hs : Keeps s₀ s) :
    KeepsOut s₀ (execDisciplineStart s) := by
  unfold Machine.execDisciplineStart
  exact KeepsOut.next hs.startDiscipline

theorem Keeps.execDisciplineSample (hs : Keeps s₀ s) :
    KeepsOut s₀ (execDisciplineSample s) := by
  unfold Machine.execDisciplineSample
  exact KeepsOut.next hs.takeSample

theorem Keeps.execHoldoverEntry (hs : Keeps s₀ s) :
    KeepsOut s₀ (execHoldoverEntry s) := by
  unfold Machine.execHoldoverEntry
  exact KeepsOut.next hs.holdoverEntry

/-! ### Machine, GleanerExec -/

theorem Keeps.issued (hs : Keeps s₀ s) {t} :
    Keeps s₀ (s.issued t) := by
  unfold State.issued
  extract_lets s1
  have h1 : Keeps s₀ s1 := hs.countIssue.updThread
  exact h1.same

theorem Keeps.issueAs (hs : Keeps s₀ s) {t f} (hf : ∀ i, KeepsEff s₀ (f i)) :
    Keeps s₀ (s.issueAs t f) := by
  unfold State.issueAs
  refine Keeps.either ?_ hs
  extract_lets
  split
  · exact hs
  · split
    · exact hs
    · rename_i e
      exact Keeps.either hs.threadFault (Keeps.either hs (hf _ _ e _ hs.issued))

theorem Keeps.second (hs : Keeps s₀ s) {t} :
    Keeps s₀ (s.second t) := by
  unfold State.second
  exact hs.same

theorem Keeps.goto (hs : Keeps s₀ s) {t a} :
    Keeps s₀ (s.goto t a) := by
  unfold State.goto
  exact hs.updThread.second

theorem Keeps.argFault (hs : Keeps s₀ s) {t} :
    Keeps s₀ (s.argFault t) := by
  unfold State.argFault
  exact hs.threadFault

theorem Keeps.doAlu (hs : Keeps s₀ s) {t op rd ra rb} :
    Keeps s₀ (State.doAlu t op rd ra rb s) := by
  unfold State.doAlu
  extract_lets s1
  have h1 : Keeps s₀ s1 := hs.setGreg
  exact Keeps.either h1.second h1

theorem Keeps.doShift (hs : Keeps s₀ s) {t op rd ra sh} :
    Keeps s₀ (State.doShift t op rd ra sh s) := by
  unfold State.doShift
  exact hs.setGreg

theorem Keeps.doBranch (hs : Keeps s₀ s) {t op ra rb off} :
    Keeps s₀ (State.doBranch t op ra rb off s) := by
  unfold State.doBranch
  refine Keeps.either ?_ hs
  extract_lets
  exact Keeps.either hs.goto hs.argFault

theorem Keeps.blockOn (hs : Keeps s₀ s) {t b} :
    Keeps s₀ (s.blockOn t b) := by
  unfold State.blockOn
  exact hs.updThread

theorem Keeps.doWev (hs : Keeps s₀ s) {t tol n} :
    Keeps s₀ (State.doWev t tol n s) := by
  unfold State.doWev
  exact hs.blockOn

theorem Keeps.doStmp (hs : Keeps s₀ s) {t rd sel} :
    Keeps s₀ (State.doStmp t rd sel s) := by
  unfold State.doStmp
  extract_lets
  split
  · exact hs.setGreg
  · exact hs.setGreg
  · exact hs.putThread.setGreg
  · exact hs.putThread.setGreg

theorem Keeps.doConv (hs : Keeps s₀ s) {t rd cv tol sw port} :
    Keeps s₀ (State.doConv t rd cv tol sw port s) := by
  unfold State.doConv
  exact hs.blockOn.convRequest

theorem Keeps.doIn (hs : Keeps s₀ s) {t rd tol port what} :
    Keeps s₀ (State.doIn t rd tol port what s) := by
  unfold State.doIn
  extract_lets
  exact hs.blockOn.giveRes

theorem Keeps.doOut (hs : Keeps s₀ s) {t ra tol port m} :
    Keeps s₀ (State.doOut t ra tol port m s) := by
  unfold State.doOut
  extract_lets _ _ _ s1
  have h1 : Keeps s₀ s1 := hs.blockOn
  split
  · rename_i a s1' _ e
    have hs1' : Keeps s₀ s1' := KeepsFst.of_eq (KeepsFst.either (KeepsFst.mk h1)
        (KeepsFst.either (KeepsFst.mk h1) (KeepsFst.mk h1.outPort))) e
    exact hs1'.giveRes

theorem Keeps.tagRequest (hs : Keeps s₀ s) {t rd tol port} :
    Keeps s₀ (s.tagRequest t rd tol port) := by
  unfold State.tagRequest
  split
  · rename_i a _ s1 e
    have h1 : Keeps s₀ s1 := hs.agentQueue.of_eq e
    exact h1.blockOn
  · rename_i a e
    exact hs.blockOn

theorem Keeps.retryTags (hs : Keeps s₀ s) :
    Keeps s₀ s.retryTags := by
  unfold State.retryTags
  refine hs.foldl ?_
  intro a _ ha
  split
  · exact ha.tagRequest
  · exact ha

theorem Keeps.doTagrd (hs : Keeps s₀ s) {t rd tol fresh tag} :
    Keeps s₀ (State.doTagrd t rd tol fresh tag s) := by
  unfold State.doTagrd
  refine Keeps.either hs.tagRequest ?_
  extract_lets _ s1
  have h1 : Keeps s₀ s1 := hs.updThread
  exact h1.setGreg.second

theorem Keeps.doBus (hs : Keeps s₀ s) {t rd tol desc} :
    Keeps s₀ (State.doBus t rd tol desc s) := by
  unfold State.doBus
  extract_lets _ _ _ _ _ s1
  have h1 : Keeps s₀ s1 := hs.blockOn
  refine Keeps.either hs.argFault ?_
  split
  · rename_i a s1' _ e
    have hs1' : Keeps s₀ s1' := h1.xferRequest.of_eq e
    exact hs1'.giveRes
  · rename_i a s1' e
    have hs1' : Keeps s₀ s1' := h1.xferRequest.of_eq e
    exact hs1'

theorem Keeps.doFeed (hs : Keeps s₀ s) {t ra tol lane} :
    Keeps s₀ (State.doFeed t ra tol lane s) := by
  unfold State.doFeed
  extract_lets s1
  have h1 : Keeps s₀ s1 := hs.blockOn
  split
  · rename_i a s1' _ e
    have hs1' : Keeps s₀ s1' := h1.feedLane.of_eq e
    exact hs1'.giveRes

theorem Keeps.doPush (hs : Keeps s₀ s) {t ra tol pos q} :
    Keeps s₀ (State.doPush t ra tol pos q s) := by
  unfold State.doPush
  extract_lets s1
  have h1 : Keeps s₀ s1 := hs.blockOn
  split
  · rename_i a s1' _ e
    have hs1' : Keeps s₀ s1' := h1.pushItem.of_eq e
    exact hs1'.logPush.giveRes

theorem Keeps.doPushr (hs : Keeps s₀ s) {t ra tol kind q} :
    Keeps s₀ (State.doPushr t ra tol kind q s) := by
  unfold State.doPushr
  extract_lets s1
  have h1 : Keeps s₀ s1 := hs.blockOn
  split
  · rename_i a s1' _ e
    have hs1' : Keeps s₀ s1' := h1.pushPacket.of_eq e
    exact hs1'.logPush.giveRes

theorem Keeps.execIllegal (hs : Keeps s₀ s) {t} :
    KeepsOut s₀ (execIllegal t s) := by
  unfold Machine.execIllegal
  refine KeepsOut.next (Keeps.either ?_ hs)
  extract_lets
  exact Keeps.either hs (Keeps.either hs.threadFault (Keeps.either hs.threadFault hs.threadFault))

theorem Keeps.execNop (hs : Keeps s₀ s) {t} :
    KeepsOut s₀ (execNop t s) := by
  unfold Machine.execNop
  refine KeepsOut.next (hs.issueAs ?_)
  intro _
  split
  · exact KeepsEff.given (fun _ ha' => ha')
  · exact KeepsEff.absent

theorem Keeps.execEndAct (hs : Keeps s₀ s) {t} :
    KeepsOut s₀ (execEndAct t s) := by
  unfold Machine.execEndAct
  refine KeepsOut.next (hs.issueAs ?_)
  intro _
  split
  · exact KeepsEff.given (fun _ ha' => ha'.endActivation)
  · exact KeepsEff.absent

theorem Keeps.execLdi (hs : Keeps s₀ s) {t} :
    KeepsOut s₀ (execLdi t s) := by
  unfold Machine.execLdi
  refine KeepsOut.next (hs.issueAs ?_)
  intro _
  split
  · exact KeepsEff.given (fun _ ha' => ha'.setGreg)
  · exact KeepsEff.absent

theorem Keeps.execLui (hs : Keeps s₀ s) {t} :
    KeepsOut s₀ (execLui t s) := by
  unfold Machine.execLui
  refine KeepsOut.next (hs.issueAs ?_)
  intro _
  split
  · exact KeepsEff.given (fun _ ha' => ha'.setGreg)
  · exact KeepsEff.absent

theorem Keeps.execRc (hs : Keeps s₀ s) {t} :
    KeepsOut s₀ (execRc t s) := by
  unfold Machine.execRc
  refine KeepsOut.next (hs.issueAs ?_)
  intro _
  split
  · exact KeepsEff.given (fun _ ha' => ha'.setGreg)
  · exact KeepsEff.absent

theorem Keeps.issueAlu (hs : Keeps s₀ s) {t op} :
    Keeps s₀ (s.issueAlu t op) := by
  unfold State.issueAlu
  refine hs.issueAs ?_
  intro _
  split
  · exact KeepsEff.either (KeepsEff.given (fun _ ha' => ha'.doAlu)) KeepsEff.absent
  · exact KeepsEff.absent

theorem Keeps.execAdd (hs : Keeps s₀ s) {t} :
    KeepsOut s₀ (execAdd t s) := by
  unfold Machine.execAdd
  exact KeepsOut.next hs.issueAlu

theorem Keeps.execSub (hs : Keeps s₀ s) {t} :
    KeepsOut s₀ (execSub t s) := by
  unfold Machine.execSub
  exact KeepsOut.next hs.issueAlu

theorem Keeps.execAnd (hs : Keeps s₀ s) {t} :
    KeepsOut s₀ (execAnd t s) := by
  unfold Machine.execAnd
  exact KeepsOut.next hs.issueAlu

theorem Keeps.execOr (hs : Keeps s₀ s) {t} :
    KeepsOut s₀ (execOr t s) := by
  unfold Machine.execOr
  exact KeepsOut.next hs.issueAlu

theorem Keeps.execXor (hs : Keeps s₀ s) {t} :
    KeepsOut s₀ (execXor t s) := by
  unfold Machine.execXor
  exact KeepsOut.next hs.issueAlu

theorem Keeps.execShl (hs : Keeps s₀ s) {t} :
    KeepsOut s₀ (execShl t s) := by
  unfold Machine.execShl
  exact KeepsOut.next hs.issueAlu

theorem Keeps.execShr (hs : Keeps s₀ s) {t} :
    KeepsOut s₀ (execShr t s) := by
  unfold Machine.execShr
  exact KeepsOut.next hs.issueAlu

theorem Keeps.execSra (hs : Keeps s₀ s) {t} :
    KeepsOut s₀ (execSra t s) := by
  unfold Machine.execSra
  exact KeepsOut.next hs.issueAlu

theorem Keeps.execMul (hs : Keeps s₀ s) {t} :
    KeepsOut s₀ (execMul t s) := by
  unfold Machine.execMul
  exact KeepsOut.next hs.issueAlu

theorem Keeps.execAddi (hs : Keeps s₀ s) {t} :
    KeepsOut s₀ (execAddi t s) := by
  unfold Machine.execAddi
  refine KeepsOut.next (hs.issueAs ?_)
  intro _
  split
  · exact KeepsEff.given (fun _ ha' => ha'.setGreg)
  · exact KeepsEff.absent

theorem Keeps.execAndi (hs : Keeps s₀ s) {t} :
    KeepsOut s₀ (execAndi t s) := by
  unfold Machine.execAndi
  refine KeepsOut.next (hs.issueAs ?_)
  intro _
  split
  · exact KeepsEff.given (fun _ ha' => ha'.setGreg)
  · exact KeepsEff.absent

theorem Keeps.execOri (hs : Keeps s₀ s) {t} :
    KeepsOut s₀ (execOri t s) := by
  unfold Machine.execOri
  refine KeepsOut.next (hs.issueAs ?_)
  intro _
  split
  · exact KeepsEff.given (fun _ ha' => ha'.setGreg)
  · exact KeepsEff.absent

theorem Keeps.issueShift (hs : Keeps s₀ s) {t op} :
    Keeps s₀ (s.issueShift t op) := by
  unfold State.issueShift
  refine hs.issueAs ?_
  intro _
  split
  · exact KeepsEff.either (KeepsEff.given (fun _ ha' => ha'.doShift)) KeepsEff.absent
  · exact KeepsEff.absent

theorem Keeps.execShli (hs : Keeps s₀ s) {t} :
    KeepsOut s₀ (execShli t s) := by
  unfold Machine.execShli
  exact KeepsOut.next hs.issueShift

theorem Keeps.execShri (hs : Keeps s₀ s) {t} :
    KeepsOut s₀ (execShri t s) := by
  unfold Machine.execShri
  exact KeepsOut.next hs.issueShift

theorem Keeps.execSrai (hs : Keeps s₀ s) {t} :
    KeepsOut s₀ (execSrai t s) := by
  unfold Machine.execSrai
  exact KeepsOut.next hs.issueShift

theorem Keeps.issueBranch (hs : Keeps s₀ s) {t op} :
    Keeps s₀ (s.issueBranch t op) := by
  unfold State.issueBranch
  refine hs.issueAs ?_
  intro _
  split
  · exact KeepsEff.either (KeepsEff.given (fun _ ha' => ha'.doBranch)) KeepsEff.absent
  · exact KeepsEff.absent

theorem Keeps.execBeq (hs : Keeps s₀ s) {t} :
    KeepsOut s₀ (execBeq t s) := by
  unfold Machine.execBeq
  exact KeepsOut.next hs.issueBranch

theorem Keeps.execBne (hs : Keeps s₀ s) {t} :
    KeepsOut s₀ (execBne t s) := by
  unfold Machine.execBne
  exact KeepsOut.next hs.issueBranch

theorem Keeps.execBlt (hs : Keeps s₀ s) {t} :
    KeepsOut s₀ (execBlt t s) := by
  unfold Machine.execBlt
  exact KeepsOut.next hs.issueBranch

theorem Keeps.execBge (hs : Keeps s₀ s) {t} :
    KeepsOut s₀ (execBge t s) := by
  unfold Machine.execBge
  exact KeepsOut.next hs.issueBranch

theorem Keeps.execBltu (hs : Keeps s₀ s) {t} :
    KeepsOut s₀ (execBltu t s) := by
  unfold Machine.execBltu
  exact KeepsOut.next hs.issueBranch

theorem Keeps.execBgeu (hs : Keeps s₀ s) {t} :
    KeepsOut s₀ (execBgeu t s) := by
  unfold Machine.execBgeu
  exact KeepsOut.next hs.issueBranch

theorem Keeps.execJmp (hs : Keeps s₀ s) {t} :
    KeepsOut s₀ (execJmp t s) := by
  unfold Machine.execJmp
  refine KeepsOut.next (hs.issueAs ?_)
  intro _
  split
  · exact KeepsEff.given (fun _ ha' => ha'.goto)
  · exact KeepsEff.absent

theorem Keeps.execJal (hs : Keeps s₀ s) {t} :
    KeepsOut s₀ (execJal t s) := by
  unfold Machine.execJal
  refine KeepsOut.next (hs.issueAs ?_)
  intro _
  split
  · exact KeepsEff.given (fun _ ha' => ha'.setGreg.goto)
  · exact KeepsEff.absent

theorem Keeps.execJr (hs : Keeps s₀ s) {t} :
    KeepsOut s₀ (execJr t s) := by
  unfold Machine.execJr
  refine KeepsOut.next (hs.issueAs ?_)
  intro _
  split
  · refine KeepsEff.given ?_
    intro a' ha'
    extract_lets
    exact Keeps.either ha'.goto ha'.argFault
  · exact KeepsEff.absent

theorem Keeps.execWait (hs : Keeps s₀ s) {t} :
    KeepsOut s₀ (execWait t s) := by
  unfold Machine.execWait
  refine KeepsOut.next (hs.issueAs ?_)
  intro _
  split
  · exact KeepsEff.given (fun _ ha' => ha'.blockOn)
  · exact KeepsEff.absent

theorem Keeps.execWev (hs : Keeps s₀ s) {t} :
    KeepsOut s₀ (execWev t s) := by
  unfold Machine.execWev
  refine KeepsOut.next (hs.issueAs ?_)
  intro _
  split
  · exact KeepsEff.given (fun _ ha' => ha'.doWev)
  · exact KeepsEff.absent

theorem Keeps.execStmp (hs : Keeps s₀ s) {t} :
    KeepsOut s₀ (execStmp t s) := by
  unfold Machine.execStmp
  refine KeepsOut.next (hs.issueAs ?_)
  intro _
  split
  · exact KeepsEff.given (fun _ ha' => ha'.doStmp)
  · exact KeepsEff.absent

theorem Keeps.execConv (hs : Keeps s₀ s) {t} :
    KeepsOut s₀ (execConv t s) := by
  unfold Machine.execConv
  refine KeepsOut.next (hs.issueAs ?_)
  intro _
  split
  · exact KeepsEff.given (fun _ ha' => ha'.doConv)
  · exact KeepsEff.absent

theorem Keeps.execInPort (hs : Keeps s₀ s) {t} :
    KeepsOut s₀ (execInPort t s) := by
  unfold Machine.execInPort
  refine KeepsOut.next (hs.issueAs ?_)
  intro _
  split
  · exact KeepsEff.given (fun _ ha' => ha'.doIn)
  · exact KeepsEff.absent

theorem Keeps.execOutPort (hs : Keeps s₀ s) {t} :
    KeepsOut s₀ (execOutPort t s) := by
  unfold Machine.execOutPort
  refine KeepsOut.next (hs.issueAs ?_)
  intro _
  split
  · exact KeepsEff.given (fun _ ha' => ha'.doOut)
  · exact KeepsEff.absent

theorem Keeps.execTagrd (hs : Keeps s₀ s) {t} :
    KeepsOut s₀ (execTagrd t s) := by
  unfold Machine.execTagrd
  refine KeepsOut.next (hs.issueAs ?_)
  intro _
  split
  · exact KeepsEff.given (fun _ ha' => ha'.doTagrd)
  · exact KeepsEff.absent

theorem Keeps.execBus (hs : Keeps s₀ s) {t} :
    KeepsOut s₀ (execBus t s) := by
  unfold Machine.execBus
  refine KeepsOut.next (hs.issueAs ?_)
  intro _
  split
  · exact KeepsEff.given (fun _ ha' => ha'.doBus)
  · exact KeepsEff.absent

theorem Keeps.execFeed (hs : Keeps s₀ s) {t} :
    KeepsOut s₀ (execFeed t s) := by
  unfold Machine.execFeed
  refine KeepsOut.next (hs.issueAs ?_)
  intro _
  split
  · exact KeepsEff.given (fun _ ha' => ha'.doFeed)
  · exact KeepsEff.absent

theorem Keeps.execPush (hs : Keeps s₀ s) {t} :
    KeepsOut s₀ (execPush t s) := by
  unfold Machine.execPush
  refine KeepsOut.next (hs.issueAs ?_)
  intro _
  split
  · exact KeepsEff.given (fun _ ha' => ha'.doPush)
  · exact KeepsEff.absent

theorem Keeps.execPushr (hs : Keeps s₀ s) {t} :
    KeepsOut s₀ (execPushr t s) := by
  unfold Machine.execPushr
  refine KeepsOut.next (hs.issueAs ?_)
  intro _
  split
  · exact KeepsEff.given (fun _ ha' => ha'.doPushr)
  · exact KeepsEff.absent

theorem Keeps.execLd (hs : Keeps s₀ s) {t} :
    KeepsOut s₀ (execLd t s) := by
  unfold Machine.execLd
  refine KeepsOut.next (hs.issueAs ?_)
  intro _
  split
  · exact KeepsEff.given (fun _ ha' => ha'.setGreg.second)
  · exact KeepsEff.absent

theorem Keeps.execSt (hs : Keeps s₀ s) {t} :
    KeepsOut s₀ (execSt t s) := by
  unfold Machine.execSt
  refine KeepsOut.next (hs.issueAs ?_)
  intro _
  split
  · exact KeepsEff.given (fun _ ha' => ha'.setRg)
  · exact KeepsEff.absent

theorem Keeps.execEvt (hs : Keeps s₀ s) {t} :
    KeepsOut s₀ (execEvt t s) := by
  unfold Machine.execEvt
  refine KeepsOut.next (hs.issueAs ?_)
  intro _
  split
  · exact KeepsEff.given (fun _ ha' => ha'.evPulse.pulse)
  · exact KeepsEff.absent

theorem Keeps.loadEffect (hs : Keeps s₀ s) {tag k} :
    KeepsFst s₀ (loadEffect tag k s) := by
  unfold Machine.loadEffect
  extract_lets _ _ _ _ _ s1
  have h1 : Keeps s₀ s1 := by
    unfold s1
    refine hs.foldl ?_
    intro a _ ha
    extract_lets
    split
    · exact ha.putThread
    · exact ha.putThread
    · exact ha.putThread
    · exact ha
  exact KeepsFst.either (KeepsFst.mk hs) (KeepsFst.either (KeepsFst.mk hs) (KeepsFst.mk h1.same))

theorem Keeps.putStore (hs : Keeps s₀ s) {dest l} :
    Keeps s₀ (s.putStore dest l) := by
  unfold State.putStore
  exact hs.same

theorem Keeps.loadCopy (hs : Keeps s₀ s) :
    Keeps s₀ s.loadCopy := by
  unfold State.loadCopy
  extract_lets _ _ s0
  have h0 : Keeps s₀ s0 := hs.same
  split
  · exact hs
  · refine Keeps.either ?_ hs
    split
    · rename_i a s2 _ _ e
      have h2 : Keeps s₀ s2 := h0.sourceWords.of_eq e
      extract_lets s2' s3
      have hs2' : Keeps s₀ s2' := h2.putStore
      have h3 : Keeps s₀ s3 := Keeps.either (hs2'.foldl (fun _ _ ha' => ha'.updThread.takePending))
          (hs2'.foldl (fun _ _ ha' => ha'.updThread))
      exact Keeps.either h3.setResult h3

theorem Keeps.startEffect (hs : Keeps s₀ s) {k} :
    KeepsFst s₀ (startEffect k s) := by
  unfold Machine.startEffect
  extract_lets
  refine KeepsFst.either (KeepsFst.mk hs) (KeepsFst.mk (hs.foldl ?_))
  intro a _ ha
  extract_lets _ s1
  have h1 : Keeps s₀ s1 := ha.putThread.evLevel.armPeriod
  exact Keeps.either (Keeps.either h1.cause h1) ha

theorem Keeps.stopEffect (hs : Keeps s₀ s) {tag k} :
    KeepsFst s₀ (stopEffect tag k s) := by
  unfold Machine.stopEffect
  extract_lets _ s1
  have h1 : Keeps s₀ s1 := hs.foldl (fun _ _ ha => Keeps.either ha.stopNow ha.stopSoft)
  exact KeepsFst.either (KeepsFst.mk h1) (KeepsFst.either (KeepsFst.mk h1) (KeepsFst.mk h1.same))

theorem Keeps.execGleanerLoad (hs : Keeps s₀ s) {tag} :
    KeepsOut s₀ (execGleanerLoad tag s) := by
  unfold Machine.execGleanerLoad
  exact KeepsOut.next (hs.runOp (fun _ _ ha => ha.loadEffect))

theorem Keeps.execLoadCopy (hs : Keeps s₀ s) :
    KeepsOut s₀ (execLoadCopy s) := by
  unfold Machine.execLoadCopy
  exact KeepsOut.next hs.loadCopy

theorem Keeps.execGleanerStart (hs : Keeps s₀ s) {tag} :
    KeepsOut s₀ (execGleanerStart tag s) := by
  unfold Machine.execGleanerStart
  exact KeepsOut.next (hs.runOp (fun _ _ ha => ha.startEffect))

theorem Keeps.execGleanerStop (hs : Keeps s₀ s) {tag} :
    KeepsOut s₀ (execGleanerStop tag s) := by
  unfold Machine.execGleanerStop
  exact KeepsOut.next (hs.runOp (fun _ _ ha => ha.stopEffect))

theorem Keeps.pdataEffect (hs : Keeps s₀ s) :
    KeepsFst s₀ (pdataEffect s) := by
  unfold Machine.pdataEffect
  extract_lets
  exact KeepsFst.mk hs.setRg

theorem Keeps.execPdataRead (hs : Keeps s₀ s) {m} :
    KeepsOut s₀ (execPdataRead m s) := by
  unfold Machine.execPdataRead
  exact KeepsOut.next (hs.read (fun _ ha => ha.pdataEffect))

theorem Keeps.thrRegEffect (hs : Keeps s₀ s) {t off v} :
    KeepsFst s₀ (thrRegEffect t off v s) := by
  unfold Machine.thrRegEffect
  extract_lets
  refine KeepsFst.either (KeepsFst.mk hs) ?_
  split
  · rename_i a s1 _ e
    have h1 : Keeps s₀ s1 := hs.plainWrite.of_eq e
    exact KeepsFst.mk (Keeps.either h1.rearmPeriod h1)

/-! ### Machine, Fabric -/

theorem Keeps.putChan (hs : Keeps s₀ s) {n c} :
    Keeps s₀ (s.putChan n c) := by
  unfold State.putChan
  exact hs.same

theorem Keeps.updChStat (hs : Keeps s₀ s) {n f} :
    Keeps s₀ (s.updChStat n f) := by
  unfold State.updChStat
  exact hs.updRg

theorem Keeps.putWave (hs : Keeps s₀ s) {t w} :
    Keeps s₀ (s.putWave t w) := by
  unfold State.putWave
  exact hs.same

theorem Keeps.newWave (hs : Keeps s₀ s) :
    KeepsSnd s₀ s.newWave := by
  unfold State.newWave
  extract_lets
  split
  · rename_i a _ s1 e
    have h1 : Keeps s₀ s1 := by
      refine KeepsSnd.of_eq ?_ e
      split
      · exact KeepsSnd.mk hs
      · exact KeepsSnd.mk hs.same.evPulse
    extract_lets _ _ s2
    have h2 : Keeps s₀ s2 := h1.same
    exact KeepsSnd.mk h2.putWave

theorem Keeps.handle (hs : Keeps s₀ s) {n ch wave depth h} :
    Keeps s₀ (s.handle n ch wave depth h) := by
  unfold State.handle
  split
  · extract_lets s1
    have h1 : Keeps s₀ s1 := hs.place
    split
    · exact h1.setHandler.cause
    · exact Keeps.either h1.setHandler h1.setHandler.setHraise
    · exact h1.setHandler

theorem Keeps.handleAll (hs : Keeps s₀ s) {ch wave depth} :
    Keeps s₀ (s.handleAll ch wave depth) := by
  unfold State.handleAll
  refine hs.foldl ?_
  intro a _ ha
  split
  · exact Keeps.either ha.handle ha
  · exact ha

theorem Keeps.latch (hs : Keeps s₀ s) {task wave depth} :
    Keeps s₀ (s.latch task wave depth) := by
  unfold State.latch
  extract_lets
  exact Keeps.either hs.putTask hs.putTask

theorem Keeps.dropEvent (hs : Keeps s₀ s) {ch wave depth deep at_} :
    Keeps s₀ (s.dropEvent ch wave depth deep at_) := by
  unfold State.dropEvent
  extract_lets s1 s2 s3
  have h1 : Keeps s₀ s1 := hs.updChStat
  have h2 : Keeps s₀ s2 := h1.updRg
  have h3 : Keeps s₀ s3 := h2.evPulse.logErr.faultRec
  exact h3.pulseAt

theorem Keeps.propagate (hs : Keeps s₀ s) {ch wave depth} :
    Keeps s₀ (s.propagate ch wave depth) := by
  unfold State.propagate
  extract_lets s1 s2 s3 _ s4 s5
  have h1 : Keeps s₀ s1 := hs.updChStat
  have h2 : Keeps s₀ s2 := h1.updRg
  have h3 : Keeps s₀ s3 := Keeps.either h2.evPulse h2
  have h4 : Keeps s₀ s4 := h3.putChan.putWave
  have h5 : Keeps s₀ s5 := h4.foldl (fun _ _ ha => ha.latch)
  exact h5.handleAll

theorem Keeps.chanTake (hs : Keeps s₀ s) {ch wave depth at_} :
    Keeps s₀ (s.chanTake ch wave depth at_) := by
  unfold State.chanTake
  extract_lets _ _ s1
  have h1 : Keeps s₀ s1 := hs.putChan
  exact Keeps.either hs.updChStat (Keeps.either h1.dropEvent (Keeps.either h1.dropEvent h1.propagate))

theorem Keeps.fan (hs : Keeps s₀ s) {src carried at_} :
    Keeps s₀ (s.fan src carried at_) := by
  unfold State.fan
  split
  · exact hs
  · split
    · rename_i a _ _ s1 e
      have h1 : Keeps s₀ s1 := by
        refine KeepsSnd.of_eq ?_ e
        split
        · exact KeepsSnd.mk hs
        · split
          · rename_i a _ s1 e
            have h1 : Keeps s₀ s1 := hs.newWave.of_eq e
            exact KeepsSnd.mk h1
      exact h1.foldl (fun _ _ ha' => ha'.chanTake)

theorem Keeps.sourcePulse (hs : Keeps s₀ s) {src} :
    Keeps s₀ (s.sourcePulse src) := by
  unfold State.sourcePulse
  refine Keeps.either hs ?_
  split
  · exact hs.same.fan
  · exact Keeps.either hs.fan hs

theorem Keeps.waveExpire (hs : Keeps s₀ s) {t} :
    Keeps s₀ (s.waveExpire t) := by
  unfold State.waveExpire
  extract_lets _ s1
  have h1 : Keeps s₀ s1 := hs.reach
  exact Keeps.either h1.putWave hs

theorem Keeps.swgenEffect (hs : Keeps s₀ s) {v} :
    KeepsFst s₀ (swgenEffect v s) := by
  unfold Machine.swgenEffect
  exact KeepsFst.mk (hs.foldl (fun _ _ ha => Keeps.either ha.pulse ha))

theorem Keeps.chEffect (hs : Keeps s₀ s) {m ch reg v} :
    KeepsFst s₀ (chEffect m ch reg v s) := by
  unfold Machine.chEffect
  extract_lets _ _ _ s1
  have h1 : Keeps s₀ s1 := hs.setRg
  exact KeepsFst.either (KeepsFst.either (KeepsFst.either (KeepsFst.mk hs.setRg) (KeepsFst.mk hs)) (KeepsFst.mk hs))
      (KeepsFst.either (KeepsFst.mk hs.setRg) (KeepsFst.either
      (KeepsFst.either (KeepsFst.mk hs) (KeepsFst.either (KeepsFst.mk hs) (KeepsFst.mk h1))) (KeepsFst.mk hs.setRg)))

theorem Keeps.tapEffect (hs : Keeps s₀ s) {k v} :
    KeepsFst s₀ (tapEffect k v s) := by
  unfold Machine.tapEffect
  extract_lets
  exact KeepsFst.either (KeepsFst.mk hs) (KeepsFst.mk hs.setRg)

theorem Keeps.flagEffect (hs : Keeps s₀ s) {m half v} :
    KeepsFst s₀ (flagEffect m half v s) := by
  unfold Machine.flagEffect
  extract_lets
  exact KeepsFst.mk hs.updRg

theorem Keeps.execSourcePulse (hs : Keeps s₀ s) {src} :
    KeepsOut s₀ (execSourcePulse src s) := by
  unfold Machine.execSourcePulse
  exact KeepsOut.next hs.sourcePulse

theorem Keeps.execWaveQuietExpiry (hs : Keeps s₀ s) {tag} :
    KeepsOut s₀ (execWaveQuietExpiry tag s) := by
  unfold Machine.execWaveQuietExpiry
  exact KeepsOut.next hs.waveExpire

theorem Keeps.execSwgen (hs : Keeps s₀ s) {m v} :
    KeepsOut s₀ (execSwgen m v s) := by
  unfold Machine.execSwgen
  exact KeepsOut.next (hs.write (fun _ ha => ha.swgenEffect))

theorem Keeps.execChCfgWrite (hs : Keeps s₀ s) {m ch reg v} :
    KeepsOut s₀ (execChCfgWrite m ch reg v s) := by
  unfold Machine.execChCfgWrite
  exact KeepsOut.next (hs.write (fun _ ha => ha.chEffect))

theorem Keeps.execTapWrite (hs : Keeps s₀ s) {m k v} :
    KeepsOut s₀ (execTapWrite m k v s) := by
  unfold Machine.execTapWrite
  exact KeepsOut.next (hs.write (fun _ ha => ha.tapEffect))

/-! ### Machine, Link -/

theorem Keeps.setRadio (hs : Keeps s₀ s) {freq width nb nbtype} :
    Keeps s₀ (s.setRadio freq width nb nbtype) := by
  unfold State.setRadio
  exact hs.setChannel.updRg.refreshRadio

theorem Keeps.dataRadio (hs : Keeps s₀ s) :
    Keeps s₀ s.dataRadio := by
  unfold State.dataRadio
  exact hs.setRadio

theorem Keeps.countCheaper (hs : Keeps s₀ s) :
    Keeps s₀ s.countCheaper := by
  unfold State.countCheaper
  extract_lets parentCost
  refine hs.foldl ?_
  intro a _ ha
  split
  · extract_lets
    exact ha.putPeer

theorem Keeps.agePeers (hs : Keeps s₀ s) :
    Keeps s₀ s.agePeers := by
  unfold State.agePeers
  refine hs.foldl ?_
  intro a _ ha
  split
  · exact ha.putPeer

theorem Keeps.judgeParent (hs : Keeps s₀ s) :
    Keeps s₀ s.judgeParent := by
  unfold State.judgeParent
  split
  · exact Keeps.either hs hs.setParent
  · refine Keeps.either hs.setParent ?_
    extract_lets _ _ s1
    have h1 : Keeps s₀ s1 := hs.updLink
    refine Keeps.either h1.setParent ?_
    split
    · exact h1.setParent
    · exact h1

theorem Keeps.pushPackets {s₀ s : State} (hs : Keeps s₀ s) {a} :
    Keeps s₀ (s.pushPackets a) := by
  unfold State.pushPackets
  split
  · exact hs
  · split
    · rename_i a' s1 _ e
      have h1 : Keeps s₀ s1 := hs.blockPush.of_eq e
      exact Keeps.either h1.updLink.evPulse.pulse.pushPackets h1

theorem Keeps.pushWaiting (hs : Keeps s₀ s) :
    Keeps s₀ s.pushWaiting := by
  unfold State.pushWaiting
  exact hs.pushPackets

theorem Keeps.startFrame (hs : Keeps s₀ s) :
    Keeps s₀ s.startFrame := by
  unfold State.startFrame
  extract_lets s0 s1 s2
  have h0 : Keeps s₀ s0 := hs.reach
  have h1 : Keeps s₀ s1 := h0.countCheaper.judgeParent.agePeers
  have h2 : Keeps s₀ s2 := h1.updLink
  exact h2.setRadio.pushWaiting.pulse.refreshLink

theorem Keeps.openData (hs : Keeps s₀ s) :
    Keeps s₀ s.openData := by
  unfold State.openData
  extract_lets s1 s2
  have h1 : Keeps s₀ s1 := hs.reach
  have h2 : Keeps s₀ s2 := h1.updLink
  exact h2.dataRadio

theorem Keeps.request (hs : Keeps s₀ s) {f} :
    Keeps s₀ (s.request f) := by
  unfold State.request
  exact hs.updPhy

theorem Keeps.sendBeacon (hs : Keeps s₀ s) :
    Keeps s₀ s.sendBeacon := by
  unfold State.sendBeacon
  extract_lets s1
  have h1 : Keeps s₀ s1 := hs.reach
  exact Keeps.either hs h1.request.updLink

theorem Keeps.parentBeacon (hs : Keeps s₀ s) {n d t1} :
    Keeps s₀ (s.parentBeacon n d t1) := by
  unfold State.parentBeacon
  extract_lets _ _ _ s1
  have h1 : Keeps s₀ s1 := hs.evPulse.pulse.updLink
  exact Keeps.either h1 h1.same

theorem Keeps.takeBeacon (hs : Keeps s₀ s) {d} :
    Keeps s₀ (s.takeBeacon d) := by
  unfold State.takeBeacon
  extract_lets
  split
  · exact hs.stranger
  · split
    · exact hs
    · refine Keeps.either hs (Keeps.either hs.updRg.stranger (Keeps.either hs.updPeer.updRg ?_))
      split
      · rename_i a _ s1 e
        have h1 : Keeps s₀ s1 := hs.draw.of_eq e
        extract_lets _ s1' s2
        have hs1' : Keeps s₀ s1' := h1.acceptFrame.updPeer
        have h2 : Keeps s₀ s2 := Keeps.either hs1'.judgeParent hs1'
        exact Keeps.refreshLink (Keeps.either h2.parentBeacon h2)

theorem Keeps.takeFrame (hs : Keeps s₀ s) {typ} :
    KeepsSome s₀ (s.takeFrame typ) := by
  unfold State.takeFrame
  split
  · exact KeepsSome.absent
  · exact KeepsSome.either (KeepsSome.given hs.updLink) KeepsSome.absent

theorem Keeps.ackFor (hs : Keeps s₀ s) {n d o hold noroute} :
    Keeps s₀ (s.ackFor n d o hold noroute) := by
  unfold State.ackFor
  extract_lets
  exact hs.updPeer.updLink

theorem Keeps.authDrop (hs : Keeps s₀ s) {src d} :
    Keeps s₀ (s.authDrop src d) := by
  unfold State.authDrop
  exact hs.updRg.stranger

theorem Keeps.secured (hs : Keeps s₀ s) {before d eff} (hbefore : Keeps s₀ before)
    (heff : ∀ x0 x1 x2 a, Keeps s₀ a → Keeps s₀ (eff x0 x1 x2 a)) :
    Keeps s₀ (s.secured before d eff) := by
  unfold State.secured
  extract_lets _ s1
  have h1 : Keeps s₀ s1 := hs.updRg
  split
  · exact hs.stranger
  · split
    · exact hs
    · refine Keeps.either hs (Keeps.either hbefore ?_)
      split
      · exact hs.authDrop
      · split
        · split
          · exact h1.ackFor
          · exact h1
        · exact hs.updPeer.updRg
        · exact heff _ _ _ _ hs.acceptFrame.updPeer

theorem Keeps.learn (hs : Keeps s₀ s) {n p orig} :
    Keeps s₀ (s.learn n p orig) := by
  unfold State.learn
  exact Keeps.either hs hs.updLink

theorem Keeps.relay (hs : Keeps s₀ s) {n d o} :
    Keeps s₀ (s.relay n d o) := by
  unfold State.relay
  extract_lets _ known hop
  clear_value hop
  split
  · exact hs.ackFor.updRg
  · refine Keeps.either hs.ackFor.updRg (Keeps.either hs.ackFor ?_)
    extract_lets _ s1
    have h1 : Keeps s₀ s1 := hs.ackFor.addMsg
    exact Keeps.either h1 h1.routeRecord.updLink

theorem Keeps.placeBody (hs : Keeps s₀ s) {buf orig hops legacy body stamp} :
    Keeps s₀ (s.placeBody buf orig hops legacy body stamp) := by
  unfold State.placeBody
  extract_lets _ _ _ s0 s1 _ s2
  have h0 : Keeps s₀ s0 := hs.mendWords
  have h1 : Keeps s₀ s1 := h0.setSramBytes.updLink
  have h2 : Keeps s₀ s2 := h1.updLink
  exact Keeps.refreshLink (Keeps.either h2.pushWaiting h2)

theorem Keeps.reassemble (hs : Keeps s₀ s) {n d o} :
    Keeps s₀ (s.reassemble n d o) := by
  unfold State.reassemble
  refine Keeps.either hs.ackFor ?_
  extract_lets _ _ _ _ _ _ _ _ finish
  refine Keeps.either (Keeps.either hs.ackFor hs.updLink.ackFor.refreshLink)
      (Keeps.either hs.updLink.updLink.ackFor.refreshLink ?_)
  split
  · exact hs.ackFor
  · exact hs.updLink.ackFor.placeBody

theorem Keeps.takeData (hs : Keeps s₀ s) {before d} (hbefore : Keeps s₀ before) :
    Keeps s₀ (s.takeData before d) := by
  unfold State.takeData
  refine hs.secured hbefore ?_
  intro _ _ _ a ha
  extract_lets t1
  have ht1 : Keeps s₀ t1 := ha.learn
  exact Keeps.either ht1.reassemble ht1.relay

theorem Keeps.installMap (hs : Keeps s₀ s) {n k m} :
    Keeps s₀ (s.installMap n k m) := by
  unfold State.installMap
  exact hs.updPeer.evPulse

theorem Keeps.takeMapset (hs : Keeps s₀ s) {before d} (hbefore : Keeps s₀ before) :
    Keeps s₀ (s.takeMapset before d) := by
  unfold State.takeMapset
  refine hs.secured hbefore ?_
  intro _ _ _ a ha
  extract_lets
  exact Keeps.either ha ha.installMap.updPeer.ackFor

theorem Keeps.proposalInstalled (hs : Keeps s₀ s) {n} :
    Keeps s₀ (s.proposalInstalled n) := by
  unfold State.proposalInstalled
  split
  · split
    · extract_lets s1
      have h1 : Keeps s₀ s1 := hs.installMap
      split
      · exact h1.finishMsg
      · exact h1
    · exact hs
  · exact hs

theorem Keeps.mapMissed (hs : Keeps s₀ s) {d} :
    Keeps s₀ (s.mapMissed d) := by
  unfold State.mapMissed
  split
  · exact hs.stranger
  · split
    · exact Keeps.either hs.proposalInstalled hs
    · exact hs

theorem Keeps.drawBackoff (hs : Keeps s₀ s) {m} :
    KeepsFst s₀ (s.drawBackoff m) := by
  unfold State.drawBackoff
  split
  · exact KeepsFst.mk hs
  · split
    · rename_i a _ s1 e
      have h1 : Keeps s₀ s1 := hs.draw.of_eq e
      extract_lets
      exact KeepsFst.mk h1.updLink

theorem Keeps.frameOf (hs : Keeps s₀ s) {m p} :
    KeepsOk s₀ (s.frameOf m p) := by
  unfold State.frameOf
  refine KeepsOk.either (KeepsOk.ok hs) ?_
  split
  · exact KeepsOk.error
  · refine KeepsOk.either KeepsOk.error ?_
    split
    · exact KeepsOk.ok hs
    · extract_lets _ _ s1
      have h1 : Keeps s₀ s1 := hs.updPeer.updMsg
      exact KeepsOk.ok h1

theorem Keeps.backoffDone (hs : Keeps s₀ s) :
    Keeps s₀ s.backoffDone := by
  unfold State.backoffDone
  split
  · exact hs
  · split
    · exact hs
    · refine Keeps.either hs ?_
      split
      · rename_i a s1 _ e
        have h1 : Keeps s₀ s1 := hs.drawBackoff.of_eq e
        extract_lets
        split
        · rename_i a' _ e'
          exact h1.finishMsg
        · rename_i a' s2 _ e'
          have h2 : Keeps s₀ s2 := h1.frameOf.of_eq e'
          refine Keeps.either h1 ?_
          extract_lets s3
          have h3 : Keeps s₀ s3 := h2.reach.updLink
          exact Keeps.request (Keeps.either h3.setRadio h3)

theorem Keeps.refused (hs : Keeps s₀ s) {f} :
    Keeps s₀ (s.refused f) := by
  unfold State.refused
  split
  · split
    · exact hs.finishMsg
    · exact hs
  · exact hs

theorem Keeps.takeRequest (hs : Keeps s₀ s) :
    Keeps s₀ s.takeRequest := by
  unfold State.takeRequest
  split
  · exact hs
  · split
    · rename_i a s1 e
      have h1 : Keeps s₀ s1 := hs.updPhy.startTx.of_eq e
      exact h1
    · rename_i a s1 e
      have h1 : Keeps s₀ s1 := hs.updPhy.startTx.of_eq e
      exact Keeps.refused (Keeps.either h1.dataRadio h1)
    · rename_i a s1 e
      have h1 : Keeps s₀ s1 := hs.updPhy.startTx.of_eq e
      exact Keeps.either h1.dataRadio h1

theorem Keeps.cutTx (hs : Keeps s₀ s) :
    Keeps s₀ s.cutTx := by
  unfold State.cutTx
  extract_lets _ s1
  have h1 : Keeps s₀ s1 := hs.updPhy
  exact Keeps.either h1.dataRadio h1.refreshRadio

theorem Keeps.afterTx (hs : Keeps s₀ s) {f} :
    Keeps s₀ (s.afterTx f) := by
  unfold State.afterTx
  extract_lets s1
  have h1 : Keeps s₀ s1 := hs.updRg
  split
  · split
    · exact h1
    · refine Keeps.either h1.dataRadio.finishMsg ?_
      extract_lets
      exact h1.updLink
  · exact h1

theorem Keeps.attemptFailed (hs : Keeps s₀ s) {w} :
    Keeps s₀ (s.attemptFailed w) := by
  unfold State.attemptFailed
  split
  · exact hs
  · extract_lets _ s0 _ s1
    have h0 : Keeps s₀ s0 := Keeps.either hs.updPeer.updLink hs
    have h1 : Keeps s₀ s1 := h0.updMsg
    exact Keeps.either h1.updPeer.failHop h1.updRg

theorem Keeps.takeAck (hs : Keeps s₀ s) {d} :
    Keeps s₀ (s.takeAck d) := by
  unfold State.takeAck
  extract_lets
  split
  · exact hs.stranger
  · split
    · refine Keeps.either hs ?_
      split
      · exact hs
      · extract_lets _ s1
        have h1 : Keeps s₀ s1 := hs.acceptFrame.updLink
        refine Keeps.either hs.stranger ?_
        split
        · exact h1
        · refine Keeps.either ?_ (Keeps.either h1.updMsg ?_)
          · extract_lets
            exact h1.updMsg.failHop
          · split
            · exact h1.proposalInstalled
            · exact h1.advanceMsg
    · exact hs

theorem Keeps.sendBody (hs : Keeps s₀ s) {tag k} :
    KeepsFst s₀ (s.sendBody tag k) := by
  unfold State.sendBody
  split
  · exact KeepsFst.mk hs
  · split
    · rename_i a s1 _ e
      have h1 : Keeps s₀ s1 := hs.winBytes.of_eq e
      exact KeepsFst.mk h1
    · rename_i a s1 _ e
      have h1 : Keeps s₀ s1 := hs.winBytes.of_eq e
      exact KeepsFst.mk h1

theorem Keeps.sendEffect (hs : Keeps s₀ s) {tag k} :
    KeepsFst s₀ (sendEffect tag k s) := by
  unfold Machine.sendEffect
  extract_lets
  refine KeepsFst.either (KeepsFst.mk hs) (KeepsFst.either (KeepsFst.mk hs.sendFail)
      (KeepsFst.either (KeepsFst.mk hs.sendFail) ?_))
  split
  · exact KeepsFst.mk hs.sendFail
  · refine KeepsFst.either (KeepsFst.mk hs.sendFail) (KeepsFst.either (KeepsFst.mk hs.sendFail) ?_)
    split
    · rename_i a s1 _ e
      have h1 : Keeps s₀ s1 := hs.sendBody.of_eq e
      exact KeepsFst.mk h1.sendFail
    · rename_i a s1 _ _ e
      have h1 : Keeps s₀ s1 := hs.sendBody.of_eq e
      extract_lets _ _ _ _ s2
      have h2 : Keeps s₀ s2 := h1.updLink
      exact KeepsFst.mk h2.addMsg.routeRecord

theorem Keeps.admitEffect (hs : Keeps s₀ s) {k} :
    KeepsFst s₀ (admitEffect k s) := by
  unfold Machine.admitEffect
  extract_lets
  refine KeepsFst.either (KeepsFst.mk hs) (KeepsFst.either (KeepsFst.mk hs)
      (KeepsFst.either (KeepsFst.either (KeepsFst.mk hs) (KeepsFst.mk hs)) ?_))
  split
  · rename_i a e
    exact KeepsFst.mk hs
  · rename_i a _ s1 e
    have h1 : Keeps s₀ s1 := hs.ctxAlloc.of_eq e
    exact KeepsFst.mk h1.putPeer.dropStranger.evPulse

theorem Keeps.reroute (hs : Keeps s₀ s) {n} :
    Keeps s₀ (s.reroute n) := by
  unfold State.reroute
  refine hs.foldl ?_
  intro a _ ha
  split
  · exact ha.finishMsg
  · exact ha.finishMsg
  · exact ha.updMsg.routeRecord

theorem Keeps.removeEffect (hs : Keeps s₀ s) {k} :
    KeepsFst s₀ (removeEffect k s) := by
  unfold Machine.removeEffect
  extract_lets _ s1 s2
  have h1 : Keeps s₀ s1 := hs.putPeer.ctxFree.updLink
  have h2 : Keeps s₀ s2 := Keeps.either h1.setParent h1
  refine KeepsFst.either (KeepsFst.mk hs) ?_
  split
  · exact KeepsFst.mk hs
  · exact KeepsFst.mk h2.reroute.refreshLink

theorem Keeps.negotiateEffect (hs : Keeps s₀ s) {tag k} :
    KeepsFst s₀ (negotiateEffect tag k s) := by
  unfold Machine.negotiateEffect
  extract_lets
  refine KeepsFst.either (KeepsFst.mk hs) (KeepsFst.either (KeepsFst.mk hs) ?_)
  split
  · exact KeepsFst.mk hs
  · split
    · rename_i a _ s1 e
      have h1 : Keeps s₀ s1 := hs.ctxRead.of_eq e
      exact KeepsFst.mk h1
    · rename_i a _ _ _
      exact KeepsFst.mk hs
    · rename_i a _ _ _ _
      refine KeepsFst.either (KeepsFst.mk hs) (KeepsFst.either (KeepsFst.mk hs) (KeepsFst.either (KeepsFst.mk hs) ?_))
      extract_lets _ _ _ _ s1
      have h1 : Keeps s₀ s1 := hs.updPeer.updLink
      exact KeepsFst.mk h1.addMsg

theorem Keeps.askAuto {s₀ s : State} (hs : Keeps s₀ s) {a} :
    Keeps s₀ (s.askAuto a) := by
  unfold State.askAuto
  split
  · exact hs
  · refine Keeps.either hs ?_
    extract_lets
    split
    · rename_i a' e
      exact hs
    · rename_i a' _ s1 e
      have h1 : Keeps s₀ s1 := KeepsSome.of_eq (KeepsSome.either hs.agentQueue hs.agentQueue) e
      extract_lets
      exact h1.updLink.askAuto

theorem Keeps.retryAuto (hs : Keeps s₀ s) :
    Keeps s₀ s.retryAuto := by
  unfold State.retryAuto
  exact hs.askAuto

theorem Keeps.automap (hs : Keeps s₀ s) :
    Keeps s₀ s.automap := by
  unfold State.automap
  extract_lets
  exact hs.updLink.retryAuto

theorem Keeps.afterMeasure (hs : Keeps s₀ s) {tag ok} :
    Keeps s₀ (s.afterMeasure tag ok) := by
  unfold State.afterMeasure
  split
  · exact hs
  · extract_lets s1
    have h1 : Keeps s₀ s1 := hs.updLink
    split
    · exact h1
    · extract_lets
      exact Keeps.either h1 h1.updLink.retryAuto

theorem Keeps.gather {s₀ s : State} (hs : Keeps s₀ s) {q n a a'} :
    KeepsFst s₀ (s.gather q n a a') := by
  unfold State.gather
  split
  · exact KeepsFst.mk hs
  · split
    · exact KeepsFst.mk hs
    · refine KeepsFst.either (KeepsFst.mk hs) ?_
      split
      · rename_i a'' s2 _ e
        have h2 : Keeps s₀ s2 := hs.popItems.of_eq e
        exact h2.gather

theorem Keeps.bindSend (hs : Keeps s₀ s) {k} :
    Keeps s₀ (s.bindSend k) := by
  unfold State.bindSend
  extract_lets
  refine Keeps.either hs ?_
  split
  · rename_i a a' e
    have ha' : Keeps s₀ a' := hs.gather.of_eq e
    exact hs
  · rename_i a s1 _ _ e
    have h1 : Keeps s₀ s1 := hs.gather.of_eq e
    split
    · rename_i a' _ s1' e'
      have hs1' : Keeps s₀ s1' := h1.agentQueue.of_eq e'
      exact hs1'.updLink
    · rename_i a' e'
      exact hs

theorem Keeps.rxfreeEffect (hs : Keeps s₀ s) {v} :
    KeepsFst s₀ (rxfreeEffect v s) := by
  unfold Machine.rxfreeEffect
  extract_lets
  exact KeepsFst.either (KeepsFst.mk hs) (KeepsFst.either (KeepsFst.mk hs) (KeepsFst.mk hs.updLink.refreshLink))

theorem Keeps.rxcfgEffect (hs : Keeps s₀ s) {v} :
    KeepsFst s₀ (rxcfgEffect v s) := by
  unfold Machine.rxcfgEffect
  extract_lets
  exact KeepsFst.either (KeepsFst.mk hs) (KeepsFst.either (KeepsFst.mk hs) (KeepsFst.mk hs.setRg.refreshLink))

theorem Keeps.takeLegacy (hs : Keeps s₀ s) {d} :
    Keeps s₀ (s.takeLegacy d) := by
  unfold State.takeLegacy
  extract_lets _ _ known
  clear_value known
  split
  · exact hs.stranger
  · extract_lets s1
    have h1 : Keeps s₀ s1 := hs.acceptFrame
    split
    · exact h1
    · exact h1.placeBody

theorem Keeps.execTxRequest (hs : Keeps s₀ s) :
    KeepsOut s₀ (execTxRequest s) := by
  unfold Machine.execTxRequest
  exact KeepsOut.next hs.takeRequest

theorem Keeps.execVpaOut (hs : Keeps s₀ s) :
    KeepsOut s₀ (execVpaOut s) := by
  unfold Machine.execVpaOut
  refine KeepsOut.next (Keeps.either hs ?_)
  extract_lets _ s1
  have h1 : Keeps s₀ s1 := hs.same
  exact h1.faultRec.cutTx.refreshRadio

theorem Keeps.execTxEnd (hs : Keeps s₀ s) :
    KeepsOut s₀ (execTxEnd s) := by
  unfold Machine.execTxEnd
  refine KeepsOut.next ?_
  split
  · exact hs
  · exact hs.stopTx.afterTx

theorem Keeps.execMeasure (hs : Keeps s₀ s) {tag} :
    KeepsOut s₀ (execMeasure tag s) := by
  unfold Machine.execMeasure
  refine KeepsOut.next (Keeps.either ?_ hs)
  split
  · exact hs
  · refine Keeps.either hs (Keeps.either ?_ ?_)
    · extract_lets t
      have ht : Keeps s₀ t := hs.measureEnd
      exact ht.afterMeasure
    · extract_lets t
      have ht : Keeps s₀ t := hs.reach
      exact ht.updPhy.setResult.afterMeasure

theorem Keeps.execSuperframe (hs : Keeps s₀ s) :
    KeepsOut s₀ (execSuperframe s) := by
  unfold Machine.execSuperframe
  exact KeepsOut.next (Keeps.either hs.startFrame hs)

theorem Keeps.execDataPeriodStart (hs : Keeps s₀ s) :
    KeepsOut s₀ (execDataPeriodStart s) := by
  unfold Machine.execDataPeriodStart
  exact KeepsOut.next (Keeps.either hs.openData hs)

theorem Keeps.execBeaconTx (hs : Keeps s₀ s) :
    KeepsOut s₀ (execBeaconTx s) := by
  unfold Machine.execBeaconTx
  exact KeepsOut.next (Keeps.either hs.sendBeacon hs)

theorem Keeps.execBeaconRx (hs : Keeps s₀ s) :
    KeepsOut s₀ (execBeaconRx s) := by
  unfold Machine.execBeaconRx
  refine KeepsOut.next (Keeps.either hs ?_)
  split
  · rename_i a e
    exact hs
  · rename_i a _ t e
    have ht : Keeps s₀ t := hs.takeFrame.of_eq e
    exact Keeps.either hs ht.takeBeacon

theorem Keeps.execLbtBackoffDone (hs : Keeps s₀ s) :
    KeepsOut s₀ (execLbtBackoffDone s) := by
  unfold Machine.execLbtBackoffDone
  exact KeepsOut.next (Keeps.either hs.backoffDone hs)

theorem Keeps.execLbtBusy (hs : Keeps s₀ s) {c} :
    KeepsOut s₀ (execLbtBusy c s) := by
  unfold Machine.execLbtBusy
  refine KeepsOut.next (Keeps.either ?_ hs)
  extract_lets s1
  have h1 : Keeps s₀ s1 := hs.setRg.updLink
  exact Keeps.either h1.updRg h1

theorem Keeps.execDataRx (hs : Keeps s₀ s) :
    KeepsOut s₀ (execDataRx s) := by
  unfold Machine.execDataRx
  refine KeepsOut.next (Keeps.either hs ?_)
  split
  · rename_i a e
    exact hs
  · rename_i a _ t e
    have ht : Keeps s₀ t := hs.takeFrame.of_eq e
    exact Keeps.either ht.mapMissed (ht.takeData hs)

theorem Keeps.execAckTx (hs : Keeps s₀ s) :
    KeepsOut s₀ (execAckTx s) := by
  unfold Machine.execAckTx
  refine KeepsOut.next ?_
  split
  · exact hs
  · refine Keeps.either hs (Keeps.either hs.updLink (Keeps.either hs ?_))
    extract_lets s1
    have h1 : Keeps s₀ s1 := hs.updLink
    split
    · exact h1
    · split
      · exact h1
      · extract_lets
        exact Keeps.either h1 h1.reach.request

theorem Keeps.execAckRx (hs : Keeps s₀ s) :
    KeepsOut s₀ (execAckRx s) := by
  unfold Machine.execAckRx
  refine KeepsOut.next (Keeps.either hs ?_)
  split
  · rename_i a e
    exact hs
  · rename_i a _ t e
    have ht : Keeps s₀ t := hs.takeFrame.of_eq e
    exact Keeps.either ht.takeAck hs

theorem Keeps.execAckWindowExpiry (hs : Keeps s₀ s) :
    KeepsOut s₀ (execAckWindowExpiry s) := by
  unfold Machine.execAckWindowExpiry
  refine KeepsOut.next ?_
  split
  · exact hs
  · exact hs.reach.updLink.attemptFailed

theorem Keeps.execReassemblyTimeout (hs : Keeps s₀ s) :
    KeepsOut s₀ (execReassemblyTimeout s) := by
  unfold Machine.execReassemblyTimeout
  refine KeepsOut.next ?_
  split
  · exact hs
  · extract_lets s1
    have h1 : Keeps s₀ s1 := hs.reach
    exact h1.updLink.updRg.refreshLink

theorem Keeps.execRelayLifeExpiry (hs : Keeps s₀ s) :
    KeepsOut s₀ (execRelayLifeExpiry s) := by
  unfold Machine.execRelayLifeExpiry
  refine KeepsOut.next ?_
  split
  · exact hs
  · exact hs.reach.finishMsg

theorem Keeps.execSendLifeExpiry (hs : Keeps s₀ s) :
    KeepsOut s₀ (execSendLifeExpiry s) := by
  unfold Machine.execSendLifeExpiry
  refine KeepsOut.next ?_
  split
  · exact hs
  · exact hs.reach.updRg.finishMsg

theorem Keeps.execDownEntryLapse (hs : Keeps s₀ s) :
    KeepsOut s₀ (execDownEntryLapse s) := by
  unfold Machine.execDownEntryLapse
  refine KeepsOut.next ?_
  split
  · exact hs
  · exact hs.reach.updLink

theorem Keeps.execMapsetRx (hs : Keeps s₀ s) :
    KeepsOut s₀ (execMapsetRx s) := by
  unfold Machine.execMapsetRx
  refine KeepsOut.next (Keeps.either hs ?_)
  split
  · rename_i a e
    exact hs
  · rename_i a _ t e
    have ht : Keeps s₀ t := hs.takeFrame.of_eq e
    exact Keeps.either ht.mapMissed (ht.takeMapset hs)

theorem Keeps.execSend (hs : Keeps s₀ s) {tag} :
    KeepsOut s₀ (execSend tag s) := by
  unfold Machine.execSend
  exact KeepsOut.next (hs.runOp (fun _ _ ha => ha.sendEffect))

theorem Keeps.execPeerAdmit (hs : Keeps s₀ s) {tag} :
    KeepsOut s₀ (execPeerAdmit tag s) := by
  unfold Machine.execPeerAdmit
  exact KeepsOut.next (hs.runOp (fun _ _ ha => ha.admitEffect))

theorem Keeps.execPeerRemove (hs : Keeps s₀ s) {tag} :
    KeepsOut s₀ (execPeerRemove tag s) := by
  unfold Machine.execPeerRemove
  exact KeepsOut.next (hs.runOp (fun _ _ ha => ha.removeEffect))

theorem Keeps.execNegotiate (hs : Keeps s₀ s) {tag} :
    KeepsOut s₀ (execNegotiate tag s) := by
  unfold Machine.execNegotiate
  exact KeepsOut.next (hs.runOp (fun _ _ ha => ha.negotiateEffect))

theorem Keeps.execAutomapPeriod (hs : Keeps s₀ s) :
    KeepsOut s₀ (execAutomapPeriod s) := by
  unfold Machine.execAutomapPeriod
  refine KeepsOut.next (Keeps.either ?_ hs)
  extract_lets
  exact Keeps.automap (Keeps.either hs hs.reach)

theorem Keeps.execQbSend (hs : Keeps s₀ s) {k} :
    KeepsOut s₀ (execQbSend k s) := by
  unfold Machine.execQbSend
  exact KeepsOut.next (Keeps.either hs.bindSend hs)

theorem Keeps.execRxfree (hs : Keeps s₀ s) {m v} :
    KeepsOut s₀ (execRxfree m v s) := by
  unfold Machine.execRxfree
  exact KeepsOut.next (hs.write (fun _ ha => ha.rxfreeEffect))

theorem Keeps.execRxcfgWrite (hs : Keeps s₀ s) {m v} :
    KeepsOut s₀ (execRxcfgWrite m v s) := by
  unfold Machine.execRxcfgWrite
  exact KeepsOut.next (hs.write (fun _ ha => ha.rxcfgEffect))

theorem Keeps.execLegacyFrameRx (hs : Keeps s₀ s) :
    KeepsOut s₀ (execLegacyFrameRx s) := by
  unfold Machine.execLegacyFrameRx
  refine KeepsOut.next ?_
  split
  · exact hs
  · refine Keeps.either ?_ hs
    extract_lets t
    have ht : Keeps s₀ t := hs.updLink
    exact Keeps.either ht.takeLegacy ht

theorem Keeps.execNeighLost (hs : Keeps s₀ s) :
    KeepsOut s₀ (execNeighLost s) := by
  unfold Machine.execNeighLost
  refine KeepsOut.next ?_
  split
  · exact hs
  · exact hs.updPeer.evPulse

/-! ### Machine, Reset -/

theorem Keeps.giveBack (hs : Keeps s₀ s) {u} :
    Keeps s₀ (s.giveBack u) := by
  unfold State.giveBack
  split
  · extract_lets
    exact hs.putQueue.refreshQueue
  · extract_lets
    exact hs.putUnit
  · exact hs.setReg
  · exact hs.sameTables id id Tab.wf_set id

theorem Keeps.resetRegs (hs : Keeps s₀ s) {pages brown} :
    Keeps s₀ (s.resetRegs pages brown) := by
  unfold State.resetRegs
  extract_lets _ s1
  have h1 : Keeps s₀ s1 := hs.sameTables Tab.wf_keep Tab.wf_keep Tab.wf_keep Tab.wf_keep
  refine h1.foldl ?_
  intro a _ ha
  extract_lets acc1
  have hacc1 : Keeps s₀ acc1 := Keeps.either ha ha.setPair
  exact hacc1.settle

theorem Keeps.abortSlots (hs : Keeps s₀ s) {pages} :
    Keeps s₀ (s.abortSlots pages) := by
  unfold State.abortSlots
  extract_lets
  refine hs.foldl ?_
  intro a _ ha
  extract_lets _ s1
  have h1 : Keeps s₀ s1 := ha.endSlot
  exact Keeps.either (Keeps.either h1.tagFailed h1) ha

theorem Keeps.loseTasks (hs : Keeps s₀ s) {i} :
    Keeps s₀ (s.loseTasks i) := by
  unfold State.loseTasks
  exact hs.foldl (fun _ _ ha => Keeps.either ha.loseTask ha)

theorem Keeps.endConvWaits (hs : Keeps s₀ s) :
    Keeps s₀ s.endConvWaits := by
  unfold State.endConvWaits
  refine hs.foldl ?_
  intro a _ ha
  extract_lets
  exact ha.foldl (fun _ _ ha' => ha'.giveRes)

theorem Keeps.endBusWaits (hs : Keeps s₀ s) :
    Keeps s₀ s.endBusWaits := by
  unfold State.endBusWaits
  refine hs.foldl ?_
  intro a _ ha
  refine ha.foldl ?_
  intro a' _ ha'
  split
  · exact ha'.giveRes
  · exact ha'

theorem Keeps.resetPorts (hs : Keeps s₀ s) {brown} :
    Keeps s₀ (s.resetPorts brown) := by
  unfold State.resetPorts
  extract_lets
  exact hs.same

theorem Keeps.abandonSnap (hs : Keeps s₀ s) :
    Keeps s₀ s.abandonSnap := by
  unfold State.abandonSnap
  split
  · exact hs
  · extract_lets _ s1
    have h1 : Keeps s₀ s1 := hs.same.snapLost
    split
    · exact Keeps.either h1.setResult h1
    · exact h1

theorem Keeps.resetSense (hs : Keeps s₀ s) {brown} :
    Keeps s₀ (s.resetSense brown) := by
  unfold State.resetSense
  extract_lets s1
  have h1 : Keeps s₀ s1 := hs.endConvWaits.endBusWaits.abandonSnap.resetPorts
  exact h1.same.refreshService

theorem Keeps.noGranary (hs : Keeps s₀ s) {queues} :
    Keeps s₀ ({ s with gran := {}, queues } : State) :=
  ⟨hs.queued, hs.wfRegs, hs.wfBank, hs.wfShadow, hs.wfLows, fun _ => rfl, hs.wfCells, hs.ordered, hs.burns⟩

theorem Keeps.resetGranary (hs : Keeps s₀ s) {brown} :
    Keeps s₀ (s.resetGranary brown) := by
  unfold State.resetGranary
  extract_lets s1 s2
  have h1 : Keeps s₀ s1 := hs.abandonSnap
  have h2 : Keeps s₀ s2 := h1.rewindOf
  clear_value s2 s1
  exact Keeps.either h1.noGranary h2.sameMem

theorem Keeps.resetFlash (hs : Keeps s₀ s) :
    Keeps s₀ s.resetFlash := by
  unfold State.resetFlash
  extract_lets s0 s1
  have h0 : Keeps s₀ s0 := by
    unfold s0
    split
    · exact hs.endSlot
    · exact hs
  have h1 : Keeps s₀ s1 := h0.groupCut
  exact h1.sameMem

theorem Keeps.resetCore (hs : Keeps s₀ s) :
    Keeps s₀ s.resetCore := by
  unfold State.resetCore
  extract_lets _ _ a
  have ha : Keeps s₀ a := hs.setRg
  exact ha.same.rewindOf

theorem Keeps.resetField (hs : Keeps s₀ s) {brown} :
    Keeps s₀ (s.resetField brown) := by
  unfold State.resetField
  extract_lets s1 s2
  have h1 : Keeps s₀ s1 := by
    unfold s1
    split
    · exact hs.ctxFree
    · exact hs
  have h2 : Keeps s₀ s2 := by
    unfold s2
    refine h1.foldl ?_
    intro a _ ha
    split
    · exact ha.ctxFree
    · exact ha
  exact h2.same

theorem Keeps.closeMgmt (hs : Keeps s₀ s) :
    Keeps s₀ s.closeMgmt := by
  unfold State.closeMgmt
  split
  · exact hs
  · extract_lets s1
    have h1 : Keeps s₀ s1 := hs.updLink
    exact Keeps.either h1.evPulse.changeOwner h1

theorem Keeps.resetRadio (hs : Keeps s₀ s) {brown} :
    Keeps s₀ (s.resetRadio brown) := by
  unfold State.resetRadio
  extract_lets s1
  have h1 : Keeps s₀ s1 := hs.closeMgmt.rewindOf
  exact Keeps.either h1.same h1.same

theorem Keeps.resetHost (hs : Keeps s₀ s) :
    Keeps s₀ s.resetHost := by
  unfold State.resetHost
  extract_lets s1 s2
  have h1 : Keeps s₀ s1 := by
    unfold s1
    split
    · exact hs.foldl (fun _ _ ha => ha.giveBack)
    · exact hs
  have h2 : Keeps s₀ s2 := h1.foldl (fun _ _ ha => ha.giveBack)
  exact h2.same.rewindOf

theorem Keeps.resetCrib (hs : Keeps s₀ s) :
    Keeps s₀ s.resetCrib := by
  unfold State.resetCrib
  extract_lets s1
  have h1 : Keeps s₀ s1 := hs.updCrib
  exact Keeps.either h1.updRg h1

theorem Keeps.resetIslands (hs : Keeps s₀ s) {mask brown} :
    Keeps s₀ (s.resetIslands mask brown) := by
  unfold State.resetIslands
  extract_lets _ s1 s2 on s3 s4 s5 s6 s7 s8 s9 s10
  have h1 : Keeps s₀ s1 := hs.abortSlots
  have h2 : Keeps s₀ s2 := h1.foldl (fun _ _ ha => Keeps.either ha.loseTasks ha)
  have h3 : Keeps s₀ s3 := Keeps.either h2.resetHost h2
  have h4 : Keeps s₀ s4 := Keeps.either h3.resetRadio h3
  have h5 : Keeps s₀ s5 := Keeps.either h4.resetField h4
  have h6 : Keeps s₀ s6 := Keeps.either h5.resetCore h5
  have h7 : Keeps s₀ s7 := Keeps.either h6.resetCrib h6
  have h8 : Keeps s₀ s8 := Keeps.either h7.resetFlash h7
  have h9 : Keeps s₀ s9 := Keeps.either h8.resetGranary h8
  have h10 : Keeps s₀ s10 := Keeps.either h9.resetSense h9
  exact h10.resetRegs

theorem Keeps.recordReset (hs : Keeps s₀ s) {kind src mask} :
    Keeps s₀ (s.recordReset kind src mask) := by
  unfold State.recordReset
  extract_lets
  exact hs.setRg.setPair

theorem Keeps.refreshPower (hs : Keeps s₀ s) :
    Keeps s₀ s.refreshPower := by
  unfold State.refreshPower
  exact hs.refreshField.refreshRadio.syncWdt

theorem Keeps.applyReset (hs : Keeps s₀ s) {kind src mask wait} :
    Keeps s₀ (s.applyReset kind src mask wait) := by
  unfold State.applyReset
  extract_lets _ s1 s2 _ s3 a _ s4
  have h1 : Keeps s₀ s1 := hs.recordReset
  have h2 : Keeps s₀ s2 := h1.resetIslands
  have h3 : Keeps s₀ s3 := h2.same
  have ha : Keeps s₀ a := h3.setReadyBits
  have h4 : Keeps s₀ s4 := Keeps.either ha.same h3
  exact h4.refreshPower

theorem Keeps.systemReset (hs : Keeps s₀ s) {kind src} :
    Keeps s₀ (s.systemReset kind src) := by
  unfold State.systemReset
  exact hs.applyReset

theorem Keeps.islandReset (hs : Keeps s₀ s) {kind src mask} :
    Keeps s₀ (s.islandReset kind src mask) := by
  unfold State.islandReset
  exact hs.applyReset

theorem Keeps.release (hs : Keeps s₀ s) {r} :
    Keeps s₀ (s.release r) := by
  unfold State.release
  extract_lets _ _ s1
  have h1 : Keeps s₀ s1 := hs.same
  exact Keeps.either h1.same.beginStarts h1

theorem Keeps.startPower (hs : Keeps s₀ s) :
    Keeps s₀ s.startPower := by
  unfold State.startPower
  extract_lets _ s0 _ s1 s2 s3 s4
  have h0 : Keeps s₀ s0 := Keeps.either hs.splitUtil hs
  have h1 : Keeps s₀ s1 := h0.same
  have h2 : Keeps s₀ s2 := h1.setRg.setRg.setRg
  have h3 : Keeps s₀ s3 := h2.updRg
  have h4 : Keeps s₀ s4 := Keeps.either h3.takeAllPending h3
  exact h4.resumeLease

theorem Keeps.systemRelease (hs : Keeps s₀ s) :
    Keeps s₀ s.systemRelease := by
  unfold State.systemRelease
  split
  · exact hs
  · refine Keeps.either hs ?_
    extract_lets s1
    have h1 : Keeps s₀ s1 := hs.reach.release
    exact h1.beginStarts.startPower.recordWake.refreshPower

theorem Keeps.islandRelease (hs : Keeps s₀ s) :
    Keeps s₀ s.islandRelease := by
  unfold State.islandRelease
  split
  · exact hs
  · exact Keeps.either hs hs.reach.release.refreshPower

theorem Keeps.porStart (hs : Keeps s₀ s) :
    Keeps s₀ s.porStart :=
  ⟨hs.queued, fun _ => rfl, fun _ => rfl, fun _ => rfl, fun _ => rfl, fun _ => rfl, hs.wfCells, hs.ordered, hs.burns⟩

theorem Keeps.por (hs : Keeps s₀ s) :
    Keeps s₀ s.por := by
  unfold State.por
  extract_lets s1
  have h1 : Keeps s₀ s1 := hs.groupCut.porStart
  exact h1.setRg

theorem Keeps.execPor (hs : Keeps s₀ s) :
    KeepsOut s₀ (execPor s) := by
  unfold Machine.execPor
  exact KeepsOut.next hs.same

theorem Keeps.execPorRelease (hs : Keeps s₀ s) :
    KeepsOut s₀ (execPorRelease s) := by
  unfold Machine.execPorRelease
  exact KeepsOut.next (Keeps.either hs.por hs)

theorem Keeps.execResetNLow (hs : Keeps s₀ s) :
    KeepsOut s₀ (execResetNLow s) := by
  unfold Machine.execResetNLow
  extract_lets _ s1
  have h1 : Keeps s₀ s1 := hs.same
  exact KeepsOut.next (Keeps.either h1 h1.systemReset)

theorem Keeps.execResetNHigh (hs : Keeps s₀ s) :
    KeepsOut s₀ (execResetNHigh s) := by
  unfold Machine.execResetNHigh
  exact KeepsOut.next hs.same

theorem Keeps.sysRstEffect (hs : Keeps s₀ s) {m v} :
    KeepsFst s₀ (sysRstEffect m v s) := by
  unfold Machine.sysRstEffect
  exact KeepsFst.either (KeepsFst.mk hs) (KeepsFst.mk hs.systemReset)

theorem Keeps.execSysRst (hs : Keeps s₀ s) {m v} :
    KeepsOut s₀ (execSysRst m v s) := by
  unfold Machine.execSysRst
  exact KeepsOut.next (hs.write (fun _ ha => ha.sysRstEffect))

theorem Keeps.execDebugResetRequest (hs : Keeps s₀ s) :
    KeepsOut s₀ (execDebugResetRequest s) := by
  unfold Machine.execDebugResetRequest
  exact KeepsOut.next (Keeps.either hs hs.systemReset)

theorem Keeps.execSystemRelease (hs : Keeps s₀ s) :
    KeepsOut s₀ (execSystemRelease s) := by
  unfold Machine.execSystemRelease
  exact KeepsOut.next hs.systemRelease

theorem Keeps.islRstEffect (hs : Keeps s₀ s) {m v} :
    KeepsFst s₀ (islRstEffect m v s) := by
  unfold Machine.islRstEffect
  exact KeepsFst.either (KeepsFst.mk hs) (KeepsFst.mk hs.islandReset)

theorem Keeps.execIslRst (hs : Keeps s₀ s) {m v} :
    KeepsOut s₀ (execIslRst m v s) := by
  unfold Machine.execIslRst
  exact KeepsOut.next (hs.write (fun _ ha => ha.islRstEffect))

theorem Keeps.execIslandRelease (hs : Keeps s₀ s) :
    KeepsOut s₀ (execIslandRelease s) := by
  unfold Machine.execIslandRelease
  exact KeepsOut.next hs.islandRelease

theorem Keeps.escalate (hs : Keeps s₀ s) :
    Keeps s₀ s.escalate := by
  unfold State.escalate
  exact hs.updRg.faultRec.islandReset

theorem Keeps.execLockstepResync (hs : Keeps s₀ s) :
    KeepsOut s₀ (execLockstepResync s) := by
  unfold Machine.execLockstepResync
  refine KeepsOut.next (Keeps.either (Keeps.either hs.escalate ?_) hs)
  extract_lets _ s1 s2 s3
  have h1 : Keeps s₀ s1 := hs.updCore
  have h2 : Keeps s₀ s2 := h1.updRg.setRg.setPair
  have h3 : Keeps s₀ s3 := h2.evPulse.faultRec
  exact Keeps.either h3.escalate h3

/-! ### Machine, Power -/

theorem Keeps.sleepEffect (hs : Keeps s₀ s) {v} :
    KeepsFst s₀ (sleepEffect v s) := by
  unfold Machine.sleepEffect
  extract_lets _ _ _ s1
  have h1 : Keeps s₀ s1 := hs.same
  exact KeepsFst.either (KeepsFst.mk hs) (KeepsFst.either (KeepsFst.mk hs)
      (KeepsFst.either (KeepsFst.mk hs) (KeepsFst.either (KeepsFst.mk hs) (KeepsFst.mk h1.updRg))))

theorem Keeps.quietRadio (hs : Keeps s₀ s) :
    Keeps s₀ s.quietRadio := by
  unfold State.quietRadio
  extract_lets s1
  have h1 : Keeps s₀ s1 := by
    unfold s1
    split
    · exact hs.stopTx.afterTx
    · exact hs
  exact h1.abandonRx

theorem Keeps.slowClocks (hs : Keeps s₀ s) :
    Keeps s₀ s.slowClocks := by
  unfold State.slowClocks
  extract_lets s1 _ s2
  have h1 : Keeps s₀ s1 := hs.drainLanes.measureXtal.guardHoldover.syncEst.splitUtil
  have h2 : Keeps s₀ s2 := h1.same
  exact h2.senseClockChanged

theorem Keeps.sleepEntry (hs : Keeps s₀ s) :
    Keeps s₀ s.sleepEntry := by
  unfold State.sleepEntry
  split
  · exact hs
  · refine Keeps.either hs ?_
    extract_lets s1 _ s2
    have h1 : Keeps s₀ s1 := hs.quietRadio
    have h2 : Keeps s₀ s2 := Keeps.either h1.same (Keeps.either h1 h1.slowClocks)
    split
    · rename_i a _ s1' e
      have hs1' : Keeps s₀ s1' := h2.draw.of_eq e
      extract_lets s4 s5
      have h4 : Keeps s₀ s4 := hs1'.updRg.updRg
      have h5 : Keeps s₀ s5 := h4.dropSleep.holdLease.refreshPower
      exact Keeps.either h5.same h5

theorem Keeps.sleepTimeout (hs : Keeps s₀ s) :
    Keeps s₀ s.sleepTimeout := by
  unfold State.sleepTimeout
  split
  · exact hs
  · refine Keeps.either hs ?_
    extract_lets s1
    have h1 : Keeps s₀ s1 := hs.reach.dropSleep
    exact h1.updRg.evPulse

theorem Keeps.wakeFires (hs : Keeps s₀ s) {source} :
    Keeps s₀ (s.wakeFires source) := by
  unfold State.wakeFires
  exact Keeps.either hs hs.fireWake

theorem Keeps.fastClocks (hs : Keeps s₀ s) :
    Keeps s₀ s.fastClocks := by
  unfold State.fastClocks
  extract_lets s1 _ s2
  have h1 : Keeps s₀ s1 := hs.drainLanes.syncEst.splitUtil
  have h2 : Keeps s₀ s2 := h1.same
  exact h2.senseClockChanged.takeAllPending.restartHeld

theorem Keeps.dueAtReturn (hs : Keeps s₀ s) :
    Keeps s₀ s.dueAtReturn := by
  unfold State.dueAtReturn
  extract_lets
  exact hs.updIntc

theorem Keeps.exitComplete (hs : Keeps s₀ s) :
    Keeps s₀ s.exitComplete := by
  unfold State.exitComplete
  split
  · exact hs
  · refine Keeps.either hs ?_
    extract_lets _ s1 _ _ s2 _ s3
    have h1 : Keeps s₀ s1 := Keeps.either hs.fastClocks hs.same
    have h2 : Keeps s₀ s2 := h1.same.beginStarts
    have h3 : Keeps s₀ s3 := h2.updRg.endWfi.resumeLease
    exact h3.dueAtReturn.refreshPower.nextCopy

theorem Keeps.wakeBall (hs : Keeps s₀ s) :
    Keeps s₀ s.wakeBall := by
  unfold State.wakeBall
  exact Keeps.either hs (Keeps.either hs.por hs.wakeFires)

theorem Keeps.vcoreEffect (hs : Keeps s₀ s) {v} :
    KeepsFst s₀ (vcoreEffect v s) := by
  unfold Machine.vcoreEffect
  extract_lets _ _ _ s1 _ _ s2
  have h1 : Keeps s₀ s1 := hs.setRg
  have h2 : Keeps s₀ s2 := h1.same
  exact KeepsFst.either (KeepsFst.mk hs) (KeepsFst.either (KeepsFst.mk hs)
      (KeepsFst.either (KeepsFst.mk h1) (KeepsFst.mk h2.updRg)))

theorem Keeps.settled (hs : Keeps s₀ s) :
    Keeps s₀ s.settled := by
  unfold State.settled
  split
  · exact hs
  · extract_lets s1 _ s2
    have h1 : Keeps s₀ s1 := hs.reach
    have h2 : Keeps s₀ s2 := h1.same
    exact h2.setRg

theorem Keeps.coreOppEffect (hs : Keeps s₀ s) {v} :
    KeepsFst s₀ (coreOppEffect v s) := by
  unfold Machine.coreOppEffect
  extract_lets
  exact KeepsFst.either (KeepsFst.mk hs) (KeepsFst.either (KeepsFst.mk hs)
      (KeepsFst.either (KeepsFst.mk hs) (KeepsFst.either (KeepsFst.mk hs) (KeepsFst.mk hs.setRg))))

theorem Keeps.setRide (hs : Keeps s₀ s) {b} :
    Keeps s₀ (s.setRide b) := by
  unfold State.setRide
  exact hs.updRg.evLevel

theorem Keeps.vinLow (hs : Keeps s₀ s) :
    Keeps s₀ s.vinLow := by
  unfold State.vinLow
  refine Keeps.either hs.same (Keeps.either hs ?_)
  extract_lets _ s1 s2 s3 s4
  have h1 : Keeps s₀ s1 := hs.same
  have h2 : Keeps s₀ s2 := h1.setRide.faultRec.failPorts
  have h3 : Keeps s₀ s3 := h2.abandonRx.cutTx
  have h4 : Keeps s₀ s4 := h3.setRg.updLog
  exact h4.refreshPower

theorem Keeps.recordsLost (hs : Keeps s₀ s) :
    KeepsFst s₀ s.recordsLost := by
  unfold State.recordsLost
  extract_lets
  refine KeepsFst.either (KeepsFst.mk hs) ?_
  split
  · rename_i a _ s1 e
    have h1 : Keeps s₀ s1 := hs.draw.of_eq e
    exact KeepsFst.mk h1

theorem Keeps.vinCut (hs : Keeps s₀ s) :
    Keeps s₀ s.vinCut := by
  unfold State.vinCut
  refine Keeps.either hs ?_
  split
  · rename_i a s1 _ e
    have h1 : Keeps s₀ s1 := hs.recordsLost.of_eq e
    extract_lets s2 s3 s4
    have h2 : Keeps s₀ s2 := h1.setRide.updRg
    have h3 : Keeps s₀ s3 := h2.faultRec
    have h4 : Keeps s₀ s4 := h3.applyReset
    exact h4.same.holdLease.syncWdt

theorem Keeps.vinOk (hs : Keeps s₀ s) :
    Keeps s₀ s.vinOk := by
  unfold State.vinOk
  refine Keeps.either hs ?_
  extract_lets _ s1 _ s2
  have h1 : Keeps s₀ s1 := hs.same
  have h2 : Keeps s₀ s2 := h1.same
  refine Keeps.either h1 (Keeps.either ?_ (Keeps.either h1.setRide.updRg.supplyBack.refreshPower h1.beginStarts))
  split
  · exact h2
  · extract_lets s3
    have h3 : Keeps s₀ s3 := h2.release.beginStarts
    exact h3.startPower.recordWake.refreshPower

theorem Keeps.tcxoStable (hs : Keeps s₀ s) :
    Keeps s₀ s.tcxoStable := by
  unfold State.tcxoStable
  refine Keeps.either hs ?_
  extract_lets _ s1 s2
  have h1 : Keeps s₀ s1 := hs.same
  have h2 : Keeps s₀ s2 := h1.syncEst
  exact Keeps.either h1 h2.same

theorem Keeps.tcxoLoss (hs : Keeps s₀ s) :
    Keeps s₀ s.tcxoLoss := by
  unfold State.tcxoLoss
  refine Keeps.either hs ?_
  extract_lets s0 _ s1 s2
  have h0 : Keeps s₀ s0 := hs.measureXtal.syncEst
  have h1 : Keeps s₀ s1 := h0.same
  have h2 : Keeps s₀ s2 := h1.updRg.evLevel.faultRec
  exact h2.failPorts.cutTx.refreshPower

theorem Keeps.tcxoReturn (hs : Keeps s₀ s) :
    Keeps s₀ s.tcxoReturn := by
  unfold State.tcxoReturn
  refine Keeps.either hs ?_
  extract_lets s0 _ s1
  have h0 : Keeps s₀ s0 := hs.syncEst
  have h1 : Keeps s₀ s1 := h0.same
  exact h1.evLevel.refreshPower

theorem Keeps.hostBallsLost (hs : Keeps s₀ s) :
    Keeps s₀ s.hostBallsLost := by
  unfold State.hostBallsLost
  extract_lets s1 s2
  have h1 : Keeps s₀ s1 := by
    unfold s1
    split
    · exact hs.foldl (fun _ _ ha => ha.giveBack)
    · exact hs
  have h2 : Keeps s₀ s2 := h1.foldl (fun _ _ ha => ha.giveBack)
  exact h2.same

theorem Keeps.vioChange (hs : Keeps s₀ s) {b up} :
    Keeps s₀ (s.vioChange b up) := by
  unfold State.vioChange
  extract_lets s0 _ s1
  have h0 : Keeps s₀ s0 := Keeps.either hs hs.hostBallsLost
  have h1 : Keeps s₀ s1 := h0.same
  refine h1.foldl ?_
  intro a _ ha
  extract_lets
  exact Keeps.drivePort (Keeps.either ha ha.releaseHold)

theorem Keeps.execSleep (hs : Keeps s₀ s) {m v} :
    KeepsOut s₀ (execSleep m v s) := by
  unfold Machine.execSleep
  exact KeepsOut.next (hs.write (fun _ ha => ha.sleepEffect))

theorem Keeps.execSleepEntry (hs : Keeps s₀ s) :
    KeepsOut s₀ (execSleepEntry s) := by
  unfold Machine.execSleepEntry
  exact KeepsOut.next hs.sleepEntry

theorem Keeps.execSleepTmo (hs : Keeps s₀ s) :
    KeepsOut s₀ (execSleepTmo s) := by
  unfold Machine.execSleepTmo
  exact KeepsOut.next hs.sleepTimeout

theorem Keeps.execSleepAborted (hs : Keeps s₀ s) {source} :
    KeepsOut s₀ (execSleepAborted source s) := by
  unfold Machine.execSleepAborted
  exact KeepsOut.next (Keeps.either hs.wakeFires hs)

theorem Keeps.execWake (hs : Keeps s₀ s) {source} :
    KeepsOut s₀ (execWake source s) := by
  unfold Machine.execWake
  exact KeepsOut.next hs.wakeFires

theorem Keeps.execExitComplete (hs : Keeps s₀ s) :
    KeepsOut s₀ (execExitComplete s) := by
  unfold Machine.execExitComplete
  exact KeepsOut.next hs.exitComplete

theorem Keeps.execTcxoLate (hs : Keeps s₀ s) :
    KeepsOut s₀ (execTcxoLate s) := by
  unfold Machine.execTcxoLate
  refine KeepsOut.next ?_
  split
  · extract_lets s1
    have h1 : Keeps s₀ s1 := hs.reach
    exact h1.updRg.evPulse
  · exact hs

theorem Keeps.execPmuWakeN (hs : Keeps s₀ s) :
    KeepsOut s₀ (execPmuWakeN s) := by
  unfold Machine.execPmuWakeN
  exact KeepsOut.next hs.wakeBall

theorem Keeps.execVcoreWrite (hs : Keeps s₀ s) {m v} :
    KeepsOut s₀ (execVcoreWrite m v s) := by
  unfold Machine.execVcoreWrite
  exact KeepsOut.next (hs.write (fun _ ha => ha.vcoreEffect))

theorem Keeps.execVoltageSettled (hs : Keeps s₀ s) :
    KeepsOut s₀ (execVoltageSettled s) := by
  unfold Machine.execVoltageSettled
  exact KeepsOut.next hs.settled

theorem Keeps.execCoreOppWrite (hs : Keeps s₀ s) {m v} :
    KeepsOut s₀ (execCoreOppWrite m v s) := by
  unfold Machine.execCoreOppWrite
  exact KeepsOut.next (hs.write (fun _ ha => ha.coreOppEffect))

theorem Keeps.execVinLow (hs : Keeps s₀ s) :
    KeepsOut s₀ (execVinLow s) := by
  unfold Machine.execVinLow
  exact KeepsOut.next hs.vinLow

theorem Keeps.execVinOk (hs : Keeps s₀ s) :
    KeepsOut s₀ (execVinOk s) := by
  unfold Machine.execVinOk
  exact KeepsOut.next hs.vinOk

theorem Keeps.execVinCut (hs : Keeps s₀ s) :
    KeepsOut s₀ (execVinCut s) := by
  unfold Machine.execVinCut
  exact KeepsOut.next hs.vinCut

theorem Keeps.execCrystalStart (hs : Keeps s₀ s) :
    KeepsOut s₀ (execCrystalStart s) := by
  unfold Machine.execCrystalStart
  exact KeepsOut.next (Keeps.either hs hs.same)

theorem Keeps.execTcxoStable (hs : Keeps s₀ s) :
    KeepsOut s₀ (execTcxoStable s) := by
  unfold Machine.execTcxoStable
  exact KeepsOut.next hs.tcxoStable

theorem Keeps.execTcxoLoss (hs : Keeps s₀ s) :
    KeepsOut s₀ (execTcxoLoss s) := by
  unfold Machine.execTcxoLoss
  exact KeepsOut.next hs.tcxoLoss

theorem Keeps.execTcxoReturn (hs : Keeps s₀ s) :
    KeepsOut s₀ (execTcxoReturn s) := by
  unfold Machine.execTcxoReturn
  exact KeepsOut.next hs.tcxoReturn

theorem Keeps.execVioSupplyLoss (hs : Keeps s₀ s) {b} :
    KeepsOut s₀ (execVioSupplyLoss b s) := by
  unfold Machine.execVioSupplyLoss
  exact KeepsOut.next hs.vioChange

theorem Keeps.execVioSupplyReturn (hs : Keeps s₀ s) {b} :
    KeepsOut s₀ (execVioSupplyReturn b s) := by
  unfold Machine.execVioSupplyReturn
  exact KeepsOut.next hs.vioChange

theorem Keeps.execTapIrUpdate (hs : Keeps s₀ s) {code} :
    KeepsOut s₀ (execTapIrUpdate code s) := by
  unfold Machine.execTapIrUpdate
  exact KeepsOut.next hs.same

/-! ### Machine, Service -/

theorem Keeps.updSvc (hs : Keeps s₀ s) {f} :
    Keeps s₀ (s.updSvc f) := by
  unfold State.updSvc
  exact hs.same

theorem Keeps.restartWdt (hs : Keeps s₀ s) :
    Keeps s₀ s.restartWdt := by
  unfold State.restartWdt
  exact hs.updSvc

theorem Keeps.wdtKickEffect (hs : Keeps s₀ s) {m v} :
    KeepsFst s₀ (wdtKickEffect m v s) := by
  unfold Machine.wdtKickEffect
  exact KeepsFst.either (KeepsFst.mk hs) (KeepsFst.either (KeepsFst.mk hs)
      (KeepsFst.either (KeepsFst.mk hs) (KeepsFst.mk hs.restartWdt)))

theorem Keeps.wdtCfgEffect (hs : Keeps s₀ s) {v} :
    KeepsFst s₀ (wdtCfgEffect v s) := by
  unfold Machine.wdtCfgEffect
  extract_lets _ s1 s2
  have h1 : Keeps s₀ s1 := hs.setRg
  have h2 : Keeps s₀ s2 := Keeps.either h1 h1.restartWdt
  exact KeepsFst.either (KeepsFst.mk hs) (KeepsFst.mk h2.syncWdt)

theorem Keeps.wdtExpire (hs : Keeps s₀ s) {unconf} :
    Keeps s₀ (s.wdtExpire unconf) := by
  unfold State.wdtExpire
  extract_lets _ s1 s2 s3
  have h1 : Keeps s₀ s1 := hs.reach
  have h2 : Keeps s₀ s2 := h1.updRg.faultRec
  have h3 : Keeps s₀ s3 := h2.updSvc.islandReset
  exact Keeps.either hs h3.restartWdt

theorem Keeps.wdtWarn (hs : Keeps s₀ s) :
    Keeps s₀ s.wdtWarn := by
  unfold State.wdtWarn
  extract_lets _ _ _ s1
  have h1 : Keeps s₀ s1 := hs.reach
  exact Keeps.either hs h1.updSvc.evPulse

theorem Keeps.heartbeat (hs : Keeps s₀ s) :
    Keeps s₀ s.heartbeat := by
  unfold State.heartbeat
  refine Keeps.either hs ?_
  extract_lets
  exact hs.updSvc

theorem Keeps.heartbeatMiss (hs : Keeps s₀ s) {i} :
    Keeps s₀ (s.heartbeatMiss i) := by
  unfold State.heartbeatMiss
  split
  · exact hs
  · extract_lets _ s1 s2 s3
    have h1 : Keeps s₀ s1 := hs.reach
    have h2 : Keeps s₀ s2 := h1.updSvc
    have h3 : Keeps s₀ s3 := h2.updRg.faultRec.evPulse.refreshService
    exact Keeps.either h3.updRg.islandReset h3

theorem Keeps.execWdtKick (hs : Keeps s₀ s) {m v} :
    KeepsOut s₀ (execWdtKick m v s) := by
  unfold Machine.execWdtKick
  exact KeepsOut.next (hs.write (fun _ ha => ha.wdtKickEffect))

theorem Keeps.execWdtCfgWrite (hs : Keeps s₀ s) {m v} :
    KeepsOut s₀ (execWdtCfgWrite m v s) := by
  unfold Machine.execWdtCfgWrite
  exact KeepsOut.next (hs.write (fun _ ha => ha.wdtCfgEffect))

theorem Keeps.execWdtExpiry (hs : Keeps s₀ s) {unconf} :
    KeepsOut s₀ (execWdtExpiry unconf s) := by
  unfold Machine.execWdtExpiry
  exact KeepsOut.next hs.wdtExpire

theorem Keeps.execWdtWarn (hs : Keeps s₀ s) :
    KeepsOut s₀ (execWdtWarn s) := by
  unfold Machine.execWdtWarn
  exact KeepsOut.next hs.wdtWarn

theorem Keeps.execHeartbeat (hs : Keeps s₀ s) :
    KeepsOut s₀ (execHeartbeat s) := by
  unfold Machine.execHeartbeat
  exact KeepsOut.next hs.heartbeat

theorem Keeps.execHeartbeatMiss (hs : Keeps s₀ s) {island} :
    KeepsOut s₀ (execHeartbeatMiss island s) := by
  unfold Machine.execHeartbeatMiss
  exact KeepsOut.next hs.heartbeatMiss

/-! ### Machine, Starts -/

theorem Keeps.loadOption (hs : Keeps s₀ s) :
    Keeps s₀ s.loadOption := by
  unfold State.loadOption
  extract_lets s1 _ s2
  have h1 : Keeps s₀ s1 := hs.same
  have h2 : Keeps s₀ s2 := Keeps.either h1 (Keeps.setRg (h1.updFlash (by exact fun _ h => h.rewindow)))
  exact Keeps.either h2 h2.faultRec

theorem Keeps.rewriteCopy (hs : Keeps s₀ s) :
    Keeps s₀ s.rewriteCopy := by
  unfold State.rewriteCopy
  extract_lets
  exact hs.same

theorem Keeps.cutProgram (hs : Keeps s₀ s) {r} :
    Keeps s₀ (s.cutProgram r) := by
  unfold State.cutProgram
  extract_lets
  exact hs.updFlash (by exact fun _ h => h.same)

theorem Keeps.cutEntry (hs : Keeps s₀ s) {r} :
    KeepsFst s₀ (s.cutEntry r) := by
  unfold State.cutEntry
  extract_lets _ _ dirty
  refine KeepsFst.either (KeepsFst.mk hs) (KeepsFst.either ?_ (KeepsFst.either (KeepsFst.mk hs) ?_))
  · unfold dirty
    split
    · rename_i a _ s1 e
      have h1 : Keeps s₀ s1 := hs.draw.of_eq e
      exact KeepsFst.mk h1
  · split
    · unfold dirty
      split
      · rename_i a _ s1 e
        have h1 : Keeps s₀ s1 := hs.draw.of_eq e
        exact KeepsFst.mk h1
    · exact KeepsFst.mk hs

theorem Keeps.scanJournal (hs : Keeps s₀ s) :
    Keeps s₀ s.scanJournal := by
  unfold State.scanJournal
  split
  · exact hs.refreshFlash.endStall
  · split
    · rename_i a s1 e
      have h1 : Keeps s₀ s1 := KeepsFst.of_eq (Keeps.cutEntry (hs.updFlash (by exact fun _ h => h.same))) e
      exact h1.refreshFlash.endStall
    · rename_i a s1 _ e
      have h1 : Keeps s₀ s1 := KeepsFst.of_eq (Keeps.cutEntry (hs.updFlash (by exact fun _ h => h.same))) e
      extract_lets s2
      have h2 : Keeps s₀ s2 := Keeps.either h1 h1.cutProgram
      exact Keeps.endStall (Keeps.refreshFlash (Keeps.faultRec (h2.updFlash (by exact fun _ h => h.enter))))

theorem Keeps.tamperLog (hs : Keeps s₀ s) {n} :
    Keeps s₀ (s.tamperLog n) := by
  unfold State.tamperLog
  exact hs.secLog.cribEv

theorem Keeps.tamper (hs : Keeps s₀ s) {n} :
    Keeps s₀ (s.tamper n) := by
  unfold State.tamper
  refine Keeps.either hs ?_
  extract_lets _ s1 s2 s3 s3' s4
  have h1 : Keeps s₀ s1 := hs.updRg
  have h2 : Keeps s₀ s2 := h1.faultRec
  have h3 : Keeps s₀ s3 := h2.updCrib
  have hs3' : Keeps s₀ s3' := h2.tamperLog
  have h4 : Keeps s₀ s4 := Keeps.either hs3'.zeroiseCrib hs3'
  exact Keeps.either h2.tamperLog (Keeps.either h3.islandReset h4.islandReset)

theorem Keeps.cribStart (hs : Keeps s₀ s) :
    Keeps s₀ s.cribStart := by
  unfold State.cribStart
  extract_lets s1 s2 s3
  have h1 : Keeps s₀ s1 := hs.updRg
  have h2 : Keeps s₀ s2 := h1.foldl (fun _ _ ha => ha.tamperLog)
  have h3 : Keeps s₀ s3 := Keeps.either h2.zeroiseCrib h2
  exact h3.updCrib

theorem Keeps.hspiStart (hs : Keeps s₀ s) :
    Keeps s₀ s.hspiStart := by
  unfold State.hspiStart
  extract_lets s1
  have h1 : Keeps s₀ s1 := hs.updRg
  exact h1.same

theorem Keeps.onReady (hs : Keeps s₀ s) {page} :
    Keeps s₀ (s.onReady page) := by
  unfold State.onReady
  exact Keeps.either hs.checkPointers (Keeps.either hs.refreshQueue
      (Keeps.either (hs.foldl (fun _ _ ha => ha.portLines)) (Keeps.either hs.hspiStart
      (Keeps.either hs.updRg (Keeps.either hs.refreshOps (Keeps.either hs.refreshOption
      (Keeps.either hs.refreshWinnow (Keeps.either hs.refreshNolog.refreshGranary.moveOff
      (Keeps.either hs.scanJournal (Keeps.either hs.refreshField
      (Keeps.either hs.refreshRadio (Keeps.either hs.evLevel (Keeps.either hs.cribStart
      (Keeps.either hs.refreshService hs))))))))))))))

theorem Keeps.stampWake (hs : Keeps s₀ s) {page} :
    Keeps s₀ (s.stampWake page) := by
  unfold State.stampWake
  exact Keeps.either hs.setPair hs

theorem Keeps.raiseReady (hs : Keeps s₀ s) {page} :
    Keeps s₀ (s.raiseReady page) := by
  unfold State.raiseReady
  extract_lets _ s1 s2 s3
  have h1 : Keeps s₀ s1 := hs.setRg
  have h2 : Keeps s₀ s2 := h1.setReadyBits.onReady
  have h3 : Keeps s₀ s3 := Keeps.either h2.updRg h2
  exact h3.stampWake.syncWdt

theorem Keeps.execBlockReady (hs : Keeps s₀ s) {page} :
    KeepsOut s₀ (execBlockReady page s) := by
  unfold Machine.execBlockReady
  exact KeepsOut.next (Keeps.either hs.raiseReady hs)

theorem Keeps.execOptionLoad (hs : Keeps s₀ s) :
    KeepsOut s₀ (execOptionLoad s) := by
  unfold Machine.execOptionLoad
  exact KeepsOut.next (Keeps.either hs.loadOption hs)

theorem Keeps.execOptionCopyRewrite (hs : Keeps s₀ s) :
    KeepsOut s₀ (execOptionCopyRewrite s) := by
  unfold Machine.execOptionCopyRewrite
  exact KeepsOut.next (Keeps.either hs.rewriteCopy hs)

theorem Keeps.execTamperTrip (hs : Keeps s₀ s) {sensor} :
    KeepsOut s₀ (execTamperTrip sensor s) := by
  unfold Machine.execTamperTrip
  exact KeepsOut.next hs.tamper

/-! ### Machine, TaskIn -/

theorem Keeps.threadTrigger (hs : Keeps s₀ s) {t} :
    Keeps s₀ (s.threadTrigger t) := by
  unfold State.threadTrigger
  extract_lets _ s1
  have h1 : Keeps s₀ s1 := hs.clearTask
  split
  · exact h1.takeCode
  · exact Keeps.either h1.cause h1

theorem Keeps.convTrigger (hs : Keeps s₀ s) {cv} :
    Keeps s₀ (s.convTrigger cv) := by
  unfold State.convTrigger
  exact Keeps.either hs.loseTask (Keeps.either hs hs.clearTask.convBegin)

theorem Keeps.readerTrigger (hs : Keeps s₀ s) {task} :
    Keeps s₀ (s.readerTrigger task) := by
  unfold State.readerTrigger
  extract_lets _ sent
  have hsent : KeepsSome s₀ sent := KeepsSome.either hs.agentQueue (KeepsSome.either hs.agentQueue hs.agentQueue)
  clear_value sent
  split
  · exact (hsent.of_eq rfl).clearTask
  · exact hs

theorem Keeps.cribTrigger (hs : Keeps s₀ s) {task} :
    Keeps s₀ (s.cribTrigger task) := by
  unfold State.cribTrigger
  extract_lets s1
  have h1 : Keeps s₀ s1 := hs.clearTask
  exact Keeps.either h1.tamper (Keeps.either h1 (Keeps.either h1.reseedDrbg h1.updRg))

theorem Keeps.takeTrigger (hs : Keeps s₀ s) {task} :
    Keeps s₀ (s.takeTrigger task) := by
  unfold State.takeTrigger
  exact Keeps.either hs (Keeps.either (Keeps.either hs.threadTrigger hs)
      (Keeps.either hs.convTrigger (Keeps.either hs.snapTrigger
      (Keeps.either hs.clearTask.fireWake (Keeps.either hs.readerTrigger
      (Keeps.either hs.clearTask.bindSend (Keeps.either hs.cribTrigger hs)))))))

theorem Keeps.execTaskTriggerTaken (hs : Keeps s₀ s) {task} :
    KeepsOut s₀ (execTaskTriggerTaken task s) := by
  unfold Machine.execTaskTriggerTaken
  exact KeepsOut.next hs.takeTrigger

/-! ### Machine, Start -/

theorem Keeps.countDefer (hs : Keeps s₀ s) {tag} :
    Keeps s₀ (s.countDefer tag) := by
  unfold State.countDefer
  split
  · exact Keeps.either hs.updRg.putSlot hs
  · exact hs

theorem Keeps.flashStart (hs : Keeps s₀ s) {tag} :
    Keeps s₀ (s.flashStart tag) := by
  unfold State.flashStart
  extract_lets s1
  have h1 : Keeps s₀ s1 := hs.flashBegin
  split
  · exact h1.logFailed
  · exact h1

theorem Keeps.beginOp (hs : Keeps s₀ s) {tag} :
    Keeps s₀ (s.beginOp tag) := by
  unfold State.beginOp
  extract_lets
  refine Keeps.either hs ?_
  split
  · exact hs.flashStart
  · exact hs.groupBegin
  · exact Keeps.either hs.admitBegin hs
  · exact Keeps.either hs.portTestBegin hs
  · exact hs.readerBegin
  · exact hs.readerBegin
  · exact hs.measureBegin
  · exact hs.trainBegin
  · exact hs.xferBegin
  · exact hs

theorem Keeps.startOp (hs : Keeps s₀ s) {tag} :
    Keeps s₀ (s.startOp tag) := by
  unfold State.startOp
  exact Keeps.either hs (Keeps.either hs.countDefer hs.startSlot.beginOp)

theorem Keeps.pushRecords (hs : Keeps s₀ s) :
    Keeps s₀ s.pushRecords := by
  unfold State.pushRecords
  split
  · exact hs
  · refine Keeps.either ?_ hs
    split
    · rename_i a s1 _ e
      have h1 : Keeps s₀ s1 := hs.blockPush.of_eq e
      exact Keeps.either h1.putSlot.retryTags.retryAuto h1

theorem Keeps.execOperationStart (hs : Keeps s₀ s) {tag} :
    KeepsOut s₀ (execOperationStart tag s) := by
  unfold Machine.execOperationStart
  exact KeepsOut.next (Keeps.either hs hs.startOp)

theorem Keeps.execOperationEnd (hs : Keeps s₀ s) {tag} :
    KeepsOut s₀ (execOperationEnd tag s) := by
  unfold Machine.execOperationEnd
  refine KeepsOut.next ?_
  split
  · exact hs.endSlotAt
  · exact hs

theorem Keeps.execRecordPush (hs : Keeps s₀ s) :
    KeepsOut s₀ (execRecordPush s) := by
  unfold Machine.execRecordPush
  exact KeepsOut.next (Keeps.either hs hs.pushRecords)

/-! ### Machine, SoftReset -/

theorem Keeps.softPorts (hs : Keeps s₀ s) {page} :
    Keeps s₀ (s.softPorts page) := by
  unfold State.softPorts
  refine hs.foldl ?_
  intro a _ ha
  extract_lets _ _ _ a1 _ a2
  have ha1 : Keeps s₀ a1 := ha.endPortTest.disconnect.setRg.setRg
  have ha2 : Keeps s₀ a2 := ha1.putPort.applyPort
  exact ha2.putPort.portLines

theorem Keeps.softConv (hs : Keeps s₀ s) :
    Keeps s₀ s.softConv := by
  unfold State.softConv
  extract_lets s1 _ s2
  have h1 : Keeps s₀ s1 := hs.endConvWaits
  have h2 : Keeps s₀ s2 := h1.same
  refine h2.foldl ?_
  intro a _ ha
  split
  · exact ha.putPort
  · exact ha

theorem Keeps.softBuses (hs : Keeps s₀ s) :
    Keeps s₀ s.softBuses := by
  unfold State.softBuses
  extract_lets s1
  have h1 : Keeps s₀ s1 := hs.endBusWaits
  exact h1.same

theorem Keeps.softGleaner (hs : Keeps s₀ s) :
    Keeps s₀ s.softGleaner := by
  unfold State.softGleaner
  extract_lets s1 s2
  have h1 : Keeps s₀ s1 := hs.foldl (fun _ _ ha => ha.stopNow)
  have h2 : Keeps s₀ s2 := h1.foldl (fun _ _ ha => ha.updThread.evLevel)
  exact h2.same

theorem Keeps.softThresher (hs : Keeps s₀ s) :
    Keeps s₀ s.softThresher := by
  unfold State.softThresher
  extract_lets s1
  have h1 : Keeps s₀ s1 := hs.foldl (fun _ _ ha => ha.releaseLane)
  exact h1.same

theorem Keeps.softReader (hs : Keeps s₀ s) :
    Keeps s₀ s.softReader := by
  unfold State.softReader
  extract_lets s0 s1
  have h0 : Keeps s₀ s0 := by
    unfold s0
    split
    · exact Keeps.either hs.breakRun hs.endRun
    · exact hs
  have h1 : Keeps s₀ s1 := by
    unfold s1
    refine h0.foldl ?_
    intro a _ ha
    split
    · exact ha.ctxFree
    · exact ha
  exact h1.updFld

theorem Keeps.softTagport (hs : Keeps s₀ s) :
    Keeps s₀ s.softTagport := by
  unfold State.softTagport
  extract_lets _ s1
  have h1 : Keeps s₀ s1 := hs.updFld
  split
  · exact Keeps.either h1.endRun.refreshField h1
  · exact h1

theorem Keeps.softPeers (hs : Keeps s₀ s) :
    Keeps s₀ s.softPeers := by
  unfold State.softPeers
  extract_lets
  exact hs.updLink.refreshLink

theorem Keeps.softLink (hs : Keeps s₀ s) :
    Keeps s₀ s.softLink := by
  unfold State.softLink
  extract_lets s1
  have h1 : Keeps s₀ s1 := by
    unfold s1
    refine hs.foldl ?_
    intro a _ ha
    split
    · exact ha.setResult
    · exact ha
  exact h1.resetRadio.updPhy

theorem Keeps.softBlock (hs : Keeps s₀ s) {page} :
    Keeps s₀ (s.softBlock page) := by
  unfold State.softBlock
  refine Keeps.either hs.softPorts ?_
  split
  · exact hs.same
  · exact hs.softGleaner
  · exact hs.softConv
  · exact hs.softThresher
  · exact hs.winClear
  · exact hs.sheafReset
  · exact hs.sameMem
  · exact hs.sameMem
  · exact hs.resetFlash
  · exact hs.updFld
  · exact hs.updFld
  · exact hs.softReader
  · exact hs.abandonRx.updPhy
  · exact hs.abandonRx.updPhy
  · exact hs.softTagport
  · exact hs.softLink
  · exact hs.softPeers
  · extract_lets s1
    have h1 : Keeps s₀ s1 := by
      unfold s1
      split
      · exact hs.foldl (fun _ _ ha => ha.giveBack)
      · exact hs
    exact h1.same
  · extract_lets a
    have ha : Keeps s₀ a := hs.foldl (fun _ _ ha => ha.giveBack)
    exact ha.same
  · exact hs.softBuses
  · extract_lets a
    have ha : Keeps s₀ a := hs.resetCore
    exact ha.same
  · exact hs

theorem Keeps.softReset (hs : Keeps s₀ s) {page} :
    Keeps s₀ (s.softReset page) := by
  unfold State.softReset
  extract_lets s1 _ s2 s3 s4
  have h1 : Keeps s₀ s1 := hs.abortSlots.softBlock
  have h2 : Keeps s₀ s2 := h1.sameTables Tab.wf_keep Tab.wf_keep Tab.wf_filter Tab.wf_keep
  have h3 : Keeps s₀ s3 := h2.setReadyBits.setRg
  have h4 : Keeps s₀ s4 := h3.updRg.settle.beginStarts.refreshPower
  exact Keeps.either h4.refreshWinnow h4

theorem Keeps.enChanged (hs : Keeps s₀ s) {page en} :
    Keeps s₀ (s.enChanged page en) := by
  unfold State.enChanged
  split
  · exact Keeps.either hs.takeAllPending hs
  · exact hs.thresherEn
  · exact Keeps.either hs.restartAll hs
  · exact Keeps.either hs.updLink hs
  · refine Keeps.either hs ?_
    extract_lets a
    have ha : Keeps s₀ a := hs.foldl (fun _ _ ha => ha.giveBack)
    exact ha.same
  · exact hs

theorem Keeps.ctlEffect (hs : Keeps s₀ s) {page v} :
    KeepsFst s₀ (ctlEffect page v s) := by
  unfold Machine.ctlEffect
  refine KeepsFst.either (KeepsFst.either (KeepsFst.mk hs) (KeepsFst.mk (Keeps.either hs.setRg hs))) ?_
  extract_lets _ _ s1 s2 s3
  have h1 : Keeps s₀ s1 := Keeps.either hs.setRg hs
  have h2 : Keeps s₀ s2 := h1.updRg
  have h3 : Keeps s₀ s3 := Keeps.either h2.enChanged h2
  exact KeepsFst.either (KeepsFst.mk hs) (KeepsFst.mk (Keeps.either h3.softReset h3))

/-! ### Machine, Bus -/

theorem Keeps.setLow (hs : Keeps s₀ s) {m a w} :
    Keeps s₀ (s.setLow m a w) :=
  hs.sameTables id id id Tab.wf_set

theorem Keeps.lowReadEffect (hs : Keeps s₀ s) {m page off} :
    KeepsFst s₀ (lowReadEffect m page off s) := by
  unfold Machine.lowReadEffect
  split
  · rename_i a s1 _ e
    have h1 : Keeps s₀ s1 := hs.lowRead.of_eq e
    exact KeepsFst.mk h1

theorem Keeps.highReadEffect (hs : Keeps s₀ s) {m page off} :
    KeepsFst s₀ (highReadEffect m page off s) := by
  unfold Machine.highReadEffect
  split
  · rename_i a s1 _ e
    have h1 : Keeps s₀ s1 := hs.highRead.of_eq e
    exact KeepsFst.mk h1

theorem Keeps.lowWriteEffect (hs : Keeps s₀ s) {m page off v} :
    KeepsFst s₀ (lowWriteEffect m page off v s) := by
  unfold Machine.lowWriteEffect
  split
  · exact KeepsFst.either (KeepsFst.mk hs) (KeepsFst.either (KeepsFst.mk hs) (KeepsFst.mk hs.setLow))
  · exact KeepsFst.mk hs

theorem Keeps.highWriteEffect (hs : Keeps s₀ s) {m page off v} :
    KeepsFst s₀ (highWriteEffect m page off v s) := by
  unfold Machine.highWriteEffect
  split
  · refine KeepsFst.either (KeepsFst.mk hs) (KeepsFst.either (KeepsFst.mk hs) ?_)
    split
    · exact KeepsFst.mk hs.setLow.setRg.setRg
    · exact KeepsFst.mk hs.setRg
  · exact KeepsFst.mk hs

theorem KeepsFst.thenDo {x : State × Code} (hx : KeepsFst s₀ x) {f}
    (hf : ∀ a, Keeps s₀ a → Keeps s₀ (f a)) : KeepsFst s₀ (thenDo f x) := by
  unfold Machine.thenDo
  exact KeepsFst.either (KeepsFst.mk (hf _ hx.fst)) hx

theorem Keeps.clearBits (hs : Keeps s₀ s) {page off mask v} :
    KeepsFst s₀ (clearBits page off mask v s) := by
  unfold Machine.clearBits
  exact KeepsFst.mk hs.updRg

theorem Keeps.senseWrite (hs : Keeps s₀ s) {m page off v} :
    KeepsFst s₀ (senseWrite m page off v s) := by
  unfold Machine.senseWrite
  extract_lets plain _ _ s1 one
  have hplain : KeepsFst s₀ plain := hs.plainWrite
  have h1 : Keeps s₀ s1 := hs.updRg
  refine KeepsFst.either ?_ (KeepsFst.either (KeepsFst.either ?_
      (KeepsFst.either (KeepsFst.mk (Keeps.either h1.setCompl h1))
      (KeepsFst.either (KeepsFst.mk (Keeps.either (Keeps.either hs.updRg hs.updRg.updRg.evLevel)
      (Keeps.evLevel (Keeps.updRg (Keeps.either hs.updRg hs.updRg.updRg.evLevel)))))
      (KeepsFst.either (hplain.thenDo (fun _ ha => ha.foldl (fun _ _ ha' => ha'.portLines))) hplain))))
      (KeepsFst.either hs.twcCfgEffect hplain))
  · split
    · exact hs.pcfgEffect
    · exact hs.auxEffect
    · exact hplain
  · split
    · exact hs.xbarEffect
    · exact hs.convCfgEffect
    · exact hplain

theorem Keeps.streamWrite (hs : Keeps s₀ s) {m page off v} :
    KeepsFst s₀ (streamWrite m page off v s) := by
  unfold Machine.streamWrite
  extract_lets plain
  have hplain : KeepsFst s₀ plain := hs.plainWrite
  split
  · exact KeepsFst.either hs.thrRegEffect hplain
  · refine KeepsFst.either hs.coefWriteEffect (KeepsFst.either ?_ hplain)
    split
    · exact hs.laneCicEffect
    · exact hs.laneRateEffect
    · exact hs.laneStatEffect
    · exact hplain
  · exact KeepsFst.either (hplain.thenDo (fun _ ha => ha.refreshWinnow))
        (KeepsFst.either hs.winEnEffect (KeepsFst.either hs.ruleWordEffect hplain))

theorem Keeps.fabricWrite (hs : Keeps s₀ s) {m page off v} :
    KeepsFst s₀ (fabricWrite m page off v s) := by
  unfold Machine.fabricWrite
  extract_lets plain
  have hplain : KeepsFst s₀ plain := hs.plainWrite
  refine KeepsFst.either ?_ (KeepsFst.either hs.flagEffect (KeepsFst.either hs.flagEffect
      (KeepsFst.either hs.clearBits (KeepsFst.either hs.swgenEffect
      (KeepsFst.either hs.tapEffect (KeepsFst.either hs.chEffect hplain))))))
  split
  · exact hs.ncfgEffect
  · exact hs.alarmCtlEffect
  · exact hplain

theorem Keeps.radioWrite (hs : Keeps s₀ s) {m page off v} :
    KeepsFst s₀ (radioWrite m page off v s) := by
  unfold Machine.radioWrite
  extract_lets plain
  have hplain : KeepsFst s₀ plain := hs.plainWrite
  split
  · split
    · exact hs.lpcdCfgEffect
    · exact hs.lpcdStatEffect
    · exact KeepsFst.either hs.shapeEffect (hplain.thenDo (fun _ ha => ha.refreshField))
  · refine KeepsFst.either ?_ (KeepsFst.either (KeepsFst.either (hplain.thenDo (fun _ ha => ha.refreshField))
        (KeepsFst.mk hs)) hplain)
    split
    · exact hs.antCfgEffect
    · exact hs.antTuneEffect
    · exact hplain
  · split
    · exact hs.freqEffect
    · exact hs.rfCfgEffect
    · exact hs.txpwrEffect
    · exact KeepsFst.either hs.shapeRegEffect hplain
  · exact KeepsFst.either hs.rxcfgModemEffect hplain
  · split
    · exact hs.rxcfgEffect
    · exact hs.rxfreeEffect
    · exact KeepsFst.either (KeepsFst.mk hs) hplain

theorem Keeps.coreWrite (hs : Keeps s₀ s) {m page off v} :
    KeepsFst s₀ (coreWrite m page off v s) := by
  unfold Machine.coreWrite
  extract_lets plain
  have hplain : KeepsFst s₀ plain := hs.plainWrite
  split
  · split
    · exact hs.sleepEffect
    · exact hs.clearBits
    · exact hs.vcoreEffect
    · exact hs.islRstEffect
    · exact hs.sysRstEffect
    · exact hplain
  · exact KeepsFst.either hs.coreOppEffect hplain
  · exact KeepsFst.either hs.intcClaimEffect (KeepsFst.either hs.intcCompleteEffect
        (KeepsFst.either hs.unfreezeEffect (KeepsFst.either hs.swiEffect
        (KeepsFst.either hs.intcEnEffect (KeepsFst.either hs.modEffect (KeepsFst.either hs.srccfgEffect hplain))))))
  · split
    · exact hs.confirmEffect
    · exact hs.nmiVecEffect
    · exact hplain
  · split
    · exact hs.wdtCfgEffect
    · exact hs.wdtKickEffect
    · exact hplain.thenDo (fun _ ha => ha.syncWdt)
    · exact hs.clearBits.thenDo (fun _ ha => ha.refreshService)
    · exact hplain

theorem Keeps.hspiCtrlEffect (hs : Keeps s₀ s) {m v} :
    KeepsFst s₀ (hspiCtrlEffect m v s) := by
  unfold Machine.hspiCtrlEffect
  extract_lets
  exact KeepsFst.either (KeepsFst.mk hs) hs.plainWrite

theorem Keeps.blockWrite (hs : Keeps s₀ s) {m page off v} :
    KeepsFst s₀ (blockWrite m page off v s) := by
  unfold Machine.blockWrite
  extract_lets plain
  have hplain : KeepsFst s₀ plain := hs.plainWrite
  split
  · split
    · exact hs.claimEffect
    · exact hs.leaseEffect
    · exact hs.handoverEffect
    · exact hs.acceptEffect
    · exact hs.releaseEffect
    · exact hplain
  · split
    · exact hs.doorbellEffect
    · exact hs.cancelEffect
    · exact hplain
  · exact hs.coreWrite
  · exact hs.coreWrite
  · exact hs.fabricWrite
  · exact hs.fabricWrite
  · exact hs.coreWrite
  · exact hs.streamWrite
  · exact hs.senseWrite
  · exact hs.senseWrite
  · exact hs.streamWrite
  · exact hs.streamWrite
  · exact KeepsFst.either hs.qcfgEffect hplain
  · split
    · exact hs.ctxResEffect
    · exact hs.hraiseEffect
    · exact hplain
  · split
    · exact hplain.thenDo (fun _ ha => ha.refreshFlash)
    · exact hs.logcfgEffect
    · exact hs.logctlEffect
    · exact hplain
  · exact hs.radioWrite
  · exact hs.radioWrite
  · exact hs.radioWrite
  · exact hs.radioWrite
  · exact hs.radioWrite
  · exact KeepsFst.either hs.hspiCtrlEffect hplain
  · exact hs.senseWrite
  · exact hs.coreWrite
  · split
    · exact hs.tamperCfgEffect
    · exact hs.clearBits
    · exact hplain
  · exact hs.coreWrite
  · split
    · exact hs.postEffect
    · exact hs.takeEffect
    · exact hs.postEffect
    · exact hs.takeEffect
    · exact KeepsFst.either hplain hs.mboxWordEffect
  · exact KeepsFst.either hs.pushEffect hplain
  · exact hplain

theorem Keeps.regWrite (hs : Keeps s₀ s) {m page off v} :
    KeepsFst s₀ (regWrite m page off v s) := by
  unfold Machine.regWrite
  exact KeepsFst.either hs.ctlEffect (KeepsFst.either hs.evflgEffect
      (KeepsFst.either hs.evenEffect (KeepsFst.either hs.accessEffect
      (KeepsFst.either hs.plainWrite (KeepsFst.either hs.lowWriteEffect
      (KeepsFst.either hs.highWriteEffect hs.blockWrite))))))

theorem Keeps.busWrite (hs : Keeps s₀ s) {m page off v} :
    Keeps s₀ (s.busWrite m page off v) := by
  unfold State.busWrite
  exact Keeps.either hs.windowWrite (hs.write (fun _ ha => ha.regWrite))

theorem Keeps.xtalReadEffect (hs : Keeps s₀ s) :
    KeepsFst s₀ (xtalReadEffect s) := by
  unfold Machine.xtalReadEffect
  extract_lets s1
  have h1 : Keeps s₀ s1 := hs.measureXtal
  exact KeepsFst.mk h1

theorem Keeps.valReadEffect (hs : Keeps s₀ s) {m page off} :
    KeepsFst s₀ (valReadEffect m page off s) := by
  unfold Machine.valReadEffect
  extract_lets
  exact KeepsFst.mk hs.setShadow

theorem Keeps.regRead (hs : Keeps s₀ s) {m page off} :
    KeepsFst s₀ (regRead m page off s) := by
  unfold Machine.regRead
  extract_lets _ t
  have ht : Keeps s₀ t := hs.sampleAnt
  refine KeepsFst.either hs.lowReadEffect (KeepsFst.either hs.highReadEffect
      (KeepsFst.either hs.popEffect (KeepsFst.either (KeepsFst.mk ht)
      (KeepsFst.either (KeepsFst.mk hs.sampleRssi) (KeepsFst.either hs.peekEffect
      (KeepsFst.either hs.pdataEffect (KeepsFst.either hs.coefReadEffect
      (KeepsFst.either hs.xtalReadEffect (KeepsFst.either hs.valReadEffect ?_)))))))))
  split
  · exact hs.rxdEffect
  · exact KeepsFst.mk hs

theorem Keeps.busRead (hs : Keeps s₀ s) {m page off} :
    Keeps s₀ (s.busRead m page off) := by
  unfold State.busRead
  exact Keeps.either hs.windowRead (hs.read (fun _ ha => ha.regRead))

theorem Keeps.execRegisterWrite (hs : Keeps s₀ s) {m page word v} :
    KeepsOut s₀ (execRegisterWrite m page word v s) := by
  unfold Machine.execRegisterWrite
  exact KeepsOut.next hs.busWrite

theorem Keeps.execRegisterRead (hs : Keeps s₀ s) {m page word} :
    KeepsOut s₀ (execRegisterRead m page word s) := by
  unfold Machine.execRegisterRead
  exact KeepsOut.next hs.busRead

theorem Keeps.execAonProxyAccess (hs : Keeps s₀ s) {m page word v} :
    KeepsOut s₀ (execAonProxyAccess m page word v s) := by
  unfold Machine.execAonProxyAccess
  refine KeepsOut.next ?_
  split
  · exact hs.busWrite
  · exact hs.busRead

theorem Keeps.execLowWordRead (hs : Keeps s₀ s) {m page word} :
    KeepsOut s₀ (execLowWordRead m page word s) := by
  unfold Machine.execLowWordRead
  exact KeepsOut.next hs.busRead

theorem Keeps.execHighWordRead (hs : Keeps s₀ s) {m page word} :
    KeepsOut s₀ (execHighWordRead m page word s) := by
  unfold Machine.execHighWordRead
  exact KeepsOut.next hs.busRead

theorem Keeps.execLowWordWrite (hs : Keeps s₀ s) {m page word v} :
    KeepsOut s₀ (execLowWordWrite m page word v s) := by
  unfold Machine.execLowWordWrite
  exact KeepsOut.next hs.busWrite

theorem Keeps.execHighWordWrite (hs : Keeps s₀ s) {m page word v} :
    KeepsOut s₀ (execHighWordWrite m page word v s) := by
  unfold Machine.execHighWordWrite
  exact KeepsOut.next hs.busWrite

theorem Keeps.execSrst (hs : Keeps s₀ s) {m page} :
    KeepsOut s₀ (execSrst m page s) := by
  unfold Machine.execSrst
  extract_lets
  exact KeepsOut.either KeepsOut.fault (KeepsOut.next (hs.write (fun _ ha => ha.ctlEffect)))

theorem Keeps.execLinkCtlWrite (hs : Keeps s₀ s) {m v} :
    KeepsOut s₀ (execLinkCtlWrite m v s) := by
  unfold Machine.execLinkCtlWrite
  exact KeepsOut.next (hs.write (fun _ ha => ha.ctlEffect))

/-! ### Machine, HostPort -/

theorem Keeps.portRead (hs : Keeps s₀ s) {m a} :
    KeepsFst s₀ (s.portRead m a) := by
  unfold State.portRead
  extract_lets s1
  have h1 : Keeps s₀ s1 := hs.busRead
  exact KeepsFst.mk h1

theorem Keeps.portWrite (hs : Keeps s₀ s) {m a v} :
    KeepsFst s₀ (s.portWrite m a v) := by
  unfold State.portWrite
  extract_lets s1
  have h1 : Keeps s₀ s1 := hs.busWrite
  exact KeepsFst.mk h1

theorem Keeps.prefetch (hs : Keeps s₀ s) {m a} :
    KeepsFst s₀ (s.prefetch m a) := by
  unfold State.prefetch
  split
  · rename_i a' s1 _ _ e
    have h1 : Keeps s₀ s1 := hs.portRead.of_eq e
    exact KeepsFst.either (KeepsFst.mk h1) (KeepsFst.mk hs)

theorem Keeps.prefetchRun {s₀ s : State} (hs : Keeps s₀ s) {m many a a'} :
    KeepsFst s₀ (s.prefetchRun m many a a') := by
  unfold State.prefetchRun
  split
  · exact KeepsFst.mk hs
  · refine KeepsFst.either ?_ ?_
    · split
      · rename_i a'' s1 _ _ e
        have h1 : Keeps s₀ s1 := hs.prefetchRun.of_eq e
        exact KeepsFst.mk h1
    · split
      · rename_i a'' s1 _ _ e
        have h1 : Keeps s₀ s1 := hs.prefetch.of_eq e
        split
        · rename_i a''' s1' _ _ e'
          have hs1' : Keeps s₀ s1' := h1.prefetchRun.of_eq e'
          exact KeepsFst.mk hs1'

theorem Keeps.ferr (hs : Keeps s₀ s) {hi lo} :
    Keeps s₀ (s.ferr hi lo) := by
  unfold State.ferr
  exact hs.updRg

theorem Keeps.keepFirst (hs : Keeps s₀ s) {before had} :
    Keeps s₀ (s.keepFirst before had) := by
  unfold State.keepFirst
  exact Keeps.either hs.setOwn1 hs

theorem Keeps.frameReads {s₀ s : State} (hs : Keeps s₀ s) {f a} :
    KeepsFst s₀ (s.frameReads f a) := by
  unfold State.frameReads
  split
  · exact KeepsFst.mk hs
  · refine KeepsFst.either ?_ ?_
    · split
      · rename_i a' s1 _ _ e
        have h1 : Keeps s₀ s1 := hs.frameReads.of_eq e
        exact KeepsFst.mk h1
    · split
      · rename_i a' s1 _ _ e
        have h1 : Keeps s₀ s1 := hs.portRead.of_eq e
        refine KeepsFst.either ?_ ?_
        · split
          · rename_i a'' s1' _ _ e'
            have hs1' : Keeps s₀ s1' := h1.frameReads.of_eq e'
            exact KeepsFst.mk hs1'
        · split
          · rename_i a'' s1' _ _ e'
            have hs1' : Keeps s₀ s1' := h1.keepFirst.frameReads.of_eq e'
            exact KeepsFst.mk hs1'

theorem Keeps.frameWrites {s₀ s : State} (hs : Keeps s₀ s) {f a} :
    KeepsFst s₀ (s.frameWrites f a) := by
  unfold State.frameWrites
  split
  · exact KeepsFst.mk hs
  · extract_lets
    refine KeepsFst.either hs.frameWrites (KeepsFst.either hs.frameWrites ?_)
    split
    · rename_i a' s1 _ e
      have h1 : Keeps s₀ s1 := hs.portWrite.of_eq e
      exact KeepsFst.either (KeepsFst.mk h1) (KeepsFst.either h1.frameWrites h1.keepFirst.frameWrites)

theorem Keeps.openFrameOf (hs : Keeps s₀ s) {f out} :
    Keeps s₀ (s.openFrameOf f out) := by
  unfold State.openFrameOf
  exact hs.same

theorem Keeps.beginFrame (hs : Keeps s₀ s) {cmd addr bits run}
    (hrun : ∀ a, Keeps s₀ a → Keeps s₀ (run a)) :
    Keeps s₀ (s.beginFrame cmd addr bits run) := by
  unfold State.beginFrame
  refine Keeps.either hs.same (Keeps.either hs (Keeps.either hs.openFrameOf (Keeps.either ?_ (hrun _ hs))))
  extract_lets
  exact hs.logMine.openFrameOf.fireWake

theorem Keeps.refuseFrame (hs : Keeps s₀ s) {f} :
    Keeps s₀ (s.refuseFrame f) := by
  unfold State.refuseFrame
  exact hs.logMine.openFrameOf

theorem Keeps.addressed (hs : Keeps s₀ s) {f run}
    (hrun : ∀ a, Keeps s₀ a → Keeps s₀ (run a)) :
    Keeps s₀ (s.addressed f run) := by
  unfold State.addressed
  exact Keeps.either hs.openFrameOf (Keeps.either hs.ferr.refuseFrame (hrun _ hs))

theorem Keeps.readFrame (hs : Keeps s₀ s) {cmd addr bits} :
    Keeps s₀ (s.readFrame cmd addr bits) := by
  unfold State.readFrame
  refine hs.beginFrame ?_
  intro a ha
  refine ha.addressed ?_
  intro a' ha'
  extract_lets
  split
  · rename_i a'' s1 _ _ e
    have h1 : Keeps s₀ s1 := ha'.frameReads.of_eq e
    split
    · rename_i a''' s1' _ _ e'
      have hs1' : Keeps s₀ s1' := h1.prefetchRun.of_eq e'
      exact hs1'.openFrameOf

theorem Keeps.frameCut (hs : Keeps s₀ s) {f} :
    KeepsFst s₀ (s.frameCut f) := by
  unfold State.frameCut
  refine KeepsFst.either ?_ (KeepsFst.mk hs)
  extract_lets _ _ s1
  have h1 : Keeps s₀ s1 := hs.ferr
  exact KeepsFst.mk h1.logMine.keepFirst

theorem Keeps.writeFrame (hs : Keeps s₀ s) {addr data bits} :
    Keeps s₀ (s.writeFrame addr data bits) := by
  unfold State.writeFrame
  refine hs.beginFrame ?_
  intro a ha
  refine ha.addressed ?_
  intro a' ha'
  extract_lets
  split
  · rename_i a'' s2 _ e
    have h2 : Keeps s₀ s2 := ha'.frameWrites.of_eq e
    refine Keeps.either h2 ?_
    split
    · rename_i a''' s2' _ e'
      have hs2' : Keeps s₀ s2' := h2.frameCut.of_eq e'
      exact hs2'.openFrameOf

theorem Keeps.statusFrame (hs : Keeps s₀ s) {cmd bits} :
    Keeps s₀ (s.statusFrame cmd bits) := by
  unfold State.statusFrame
  exact hs.beginFrame (fun _ ha => Keeps.either ha.openFrameOf ha.ferr.refuseFrame)

theorem Keeps.lateWrites {s₀ s : State} (hs : Keeps s₀ s) {f a} :
    KeepsFst s₀ (s.lateWrites f a) := by
  unfold State.lateWrites
  split
  · exact KeepsFst.mk hs
  · split
    · rename_i a' s1 _ e
      have h1 : Keeps s₀ s1 := hs.portWrite.of_eq e
      exact KeepsFst.either (KeepsFst.mk h1) (KeepsFst.either h1.lateWrites h1.keepFirst.lateWrites)

theorem Keeps.countFrame (hs : Keeps s₀ s) {cmd page refused first passed} :
    Keeps s₀ (s.countFrame cmd page refused first passed) := by
  unfold State.countFrame
  extract_lets _ s1 s2 s3
  have h1 : Keeps s₀ s1 := hs.same
  have h2 : Keeps s₀ s2 := h1.updRg
  have h3 : Keeps s₀ s3 := by
    unfold s3
    split
    · exact h2.setRg
    · exact h2
  exact Keeps.either h3.updRg.evPulse h3

theorem Keeps.endFrame (hs : Keeps s₀ s) :
    Keeps s₀ s.endFrame := by
  unfold State.endFrame
  split
  · exact hs
  · extract_lets s1 _ s2
    have h1 : Keeps s₀ s1 := hs.foldl (fun _ _ ha => ha.giveBack)
    have h2 : Keeps s₀ s2 := h1.same
    refine Keeps.either h2 ?_
    split
    · rename_i a s2' _ e
      have hs2' : Keeps s₀ s2' := h2.lateWrites.of_eq e
      exact Keeps.either hs2' hs2'.countFrame

theorem Keeps.driveItems {s₀ s : State} (hs : Keeps s₀ s) {q a} :
    KeepsFst s₀ (s.driveItems q a) := by
  unfold State.driveItems
  split
  · exact KeepsFst.mk hs
  · refine KeepsFst.either (KeepsFst.mk hs) ?_
    split
    · rename_i a' s1 _ _ e
      have h1 : Keeps s₀ s1 := hs.popItem.of_eq e
      extract_lets s2
      have h2 : Keeps s₀ s2 := Keeps.either h1 h1.logPush.logMine.portErr
      split
      · rename_i a'' s2' _ e'
        have hs2' : Keeps s₀ s2' := h2.driveItems.of_eq e'
        exact KeepsFst.mk hs2'

theorem Keeps.flowHold (hs : Keeps s₀ s) {b} :
    Keeps s₀ (s.flowHold b) := by
  unfold State.flowHold
  exact hs.updRg.evLevel

theorem Keeps.driveBurst (hs : Keeps s₀ s) {busy holds} :
    Keeps s₀ (s.driveBurst busy holds) := by
  unfold State.driveBurst
  extract_lets _ _ _ s1 s2
  have h1 : Keeps s₀ s1 := by
    unfold s1
    split
    · exact hs.reach
    · exact hs
  have h2 : Keeps s₀ s2 := h1.flowHold
  refine Keeps.either hs (Keeps.either hs.flowHold ?_)
  split
  · rename_i a s2' _ e
    have hs2' : Keeps s₀ s2' := h2.driveItems.of_eq e
    extract_lets _ s4 s5 s6
    have h4 : Keeps s₀ s4 := Keeps.either hs2'.flowHold.flowHold hs2'
    have h5 : Keeps s₀ s5 := h4.updRg
    have h6 : Keeps s₀ s6 := h5.reach
    exact h6.same.evPulse

theorem Keeps.slotAccess (hs : Keeps s₀ s) {cmd a v} :
    KeepsFst s₀ (s.slotAccess cmd a v) := by
  unfold State.slotAccess
  refine KeepsFst.either (KeepsFst.mk hs) (KeepsFst.either (KeepsFst.either (KeepsFst.mk hs.ferr.logMine)
      (KeepsFst.either ?_ ?_)) (KeepsFst.mk hs.ferr.logMine))
  · split
    · rename_i a' s1 _ e
      have h1 : Keeps s₀ s1 := hs.portWrite.of_eq e
      exact KeepsFst.mk h1
  · split
    · rename_i a' s1 _ _ e
      have h1 : Keeps s₀ s1 := hs.portRead.of_eq e
      exact KeepsFst.mk h1

theorem Keeps.daisyFrame (hs : Keeps s₀ s) {data early} :
    Keeps s₀ (s.daisyFrame data early) := by
  unfold State.daisyFrame
  refine Keeps.either hs.same (Keeps.either hs ?_)
  extract_lets _ _ _ _ s0
  have h0 : Keeps s₀ s0 := hs.same
  split
  · rename_i a s1 _ _ _ e
    have h1 : Keeps s₀ s1 := KeepsFst.of_eq (KeepsFst.either (KeepsFst.mk h0.logMine.fireWake)
        (KeepsFst.either (KeepsFst.mk h0.ferr.logMine) h0.slotAccess)) e
    refine Keeps.either h1 ?_
    extract_lets _ s2 s3
    have h2 : Keeps s₀ s2 := Keeps.either h1.same h1.countFrame
    have h3 : Keeps s₀ s3 := Keeps.either h2.ferr h2
    exact h3.same

theorem Keeps.updHtw (hs : Keeps s₀ s) {f} :
    Keeps s₀ (s.updHtw f) := by
  unfold State.updHtw
  exact hs.same

theorem Keeps.htwErr (hs : Keeps s₀ s) {hi lo} :
    Keeps s₀ (s.htwErr hi lo) := by
  unfold State.htwErr
  exact hs.updRg

theorem Keeps.htwCode (hs : Keeps s₀ s) {c word page} :
    Keeps s₀ (s.htwCode c word page) := by
  unfold State.htwCode
  exact Keeps.either hs hs.setRg.updHtw

theorem Keeps.setHtwPtr (hs : Keeps s₀ s) {a} :
    Keeps s₀ (s.setHtwPtr a) := by
  unfold State.setHtwPtr
  exact hs.setRg

theorem Keeps.htwCut (hs : Keeps s₀ s) :
    Keeps s₀ s.htwCut := by
  unfold State.htwCut
  extract_lets s1 _ s2
  have h1 : Keeps s₀ s1 := Keeps.updHtw (hs.foldl (fun _ _ ha => ha.giveBack))
  have h2 : Keeps s₀ s2 := Keeps.either h1 h1.logMine
  exact Keeps.either h1 h2.htwCode.htwErr.updHtw

theorem Keeps.htwEnd (hs : Keeps s₀ s) :
    Keeps s₀ s.htwEnd := by
  unfold State.htwEnd
  exact hs.htwCut.updHtw

theorem Keeps.htwBegin (hs : Keeps s₀ s) {rd run}
    (hrun : ∀ a, Keeps s₀ a → Keeps s₀ (run a)) :
    Keeps s₀ (s.htwBegin rd run) := by
  unfold State.htwBegin
  refine Keeps.either hs ?_
  extract_lets s1 s2
  have h1 : Keeps s₀ s1 := hs.htwEnd.updRg
  have h2 : Keeps s₀ s2 := h1.updHtw
  exact Keeps.either h2.htwCode.logMine.fireWake (hrun _ h2.updHtw)

theorem Keeps.htwRefuse (hs : Keeps s₀ s) {before c word page} :
    Keeps s₀ (s.htwRefuse before c word page) := by
  unfold State.htwRefuse
  extract_lets s1
  have h1 : Keeps s₀ s1 := Keeps.either hs.setOwn1 hs
  exact h1.htwCode.updRg.evPulse

theorem Keeps.htwData {s₀ s : State} (hs : Keeps s₀ s) {many a a' a''} :
    Keeps s₀ (s.htwData many a a' a'') := by
  unfold State.htwData
  split
  · extract_lets
    split
    · rename_i a''' s1 _ e
      have h1 : Keeps s₀ s1 := KeepsFst.of_eq (KeepsFst.either (KeepsFst.mk hs) hs.portWrite) e
      extract_lets t1
      have ht1 : Keeps s₀ t1 := h1.setHtwPtr
      exact Keeps.either h1 (Keeps.either ht1.htwRefuse.updHtw (Keeps.either ht1 ht1.htwData))
  · exact hs.updHtw

theorem Keeps.htwWrite (hs : Keeps s₀ s) {data stop} :
    Keeps s₀ (s.htwWrite data stop) := by
  unfold State.htwWrite
  extract_lets _ s1
  have h1 : Keeps s₀ s1 := hs.htwBegin (fun _ ha => Keeps.either ha
      (Keeps.either ha.htwCode.htwErr.evPulse.updHtw ha.setHtwPtr.htwData))
  exact Keeps.either h1.htwEnd h1

theorem Keeps.htwWords {s₀ s : State} (hs : Keeps s₀ s) {many a a'} :
    KeepsFst s₀ (s.htwWords many a a') := by
  unfold State.htwWords
  split
  · exact KeepsFst.mk hs
  · refine KeepsFst.either ?_ ?_
    · split
      · rename_i a'' s2 _ e
        have h2 : Keeps s₀ s2 := hs.setHtwPtr.htwWords.of_eq e
        exact KeepsFst.mk h2
    · split
      · rename_i a'' s1 _ _ e
        have h1 : Keeps s₀ s1 := hs.portRead.of_eq e
        extract_lets t1 t2
        have ht1 : Keeps s₀ t1 := h1.setHtwPtr
        have ht2 : Keeps s₀ t2 := Keeps.either ht1 ht1.htwRefuse
        split
        · rename_i a''' s2 _ e'
          have h2 : Keeps s₀ s2 := ht2.htwWords.of_eq e'
          exact KeepsFst.mk h2

theorem Keeps.htwRead (hs : Keeps s₀ s) {n lastAck stop} :
    Keeps s₀ (s.htwRead n lastAck stop) := by
  unfold State.htwRead
  extract_lets _ s1
  have h1 : Keeps s₀ s1 := by
    unfold s1
    refine hs.htwBegin ?_
    intro a ha
    extract_lets
    split
    · rename_i a' s2 _ e
      have h2 : Keeps s₀ s2 := ha.htwWords.of_eq e
      split
      · rename_i a'' s1 _ _ e'
        have h1 : Keeps s₀ s1 := KeepsFst.of_eq (KeepsFst.either h2.prefetchRun (KeepsFst.mk h2)) e'
        exact h1.updHtw
  exact Keeps.either h1.htwEnd h1

theorem Keeps.htwIdle (hs : Keeps s₀ s) :
    Keeps s₀ s.htwIdle := by
  unfold State.htwIdle
  exact Keeps.either hs hs.htwEnd.htwErr.evPulse

theorem Keeps.htwProtocol (hs : Keeps s₀ s) :
    Keeps s₀ s.htwProtocol := by
  unfold State.htwProtocol
  exact Keeps.either hs hs.htwEnd.htwErr.evPulse

theorem Keeps.execHspiRead (hs : Keeps s₀ s) {addr bits} :
    KeepsOut s₀ (execHspiRead addr bits s) := by
  unfold Machine.execHspiRead
  exact KeepsOut.next hs.readFrame

theorem Keeps.execHspiWrite (hs : Keeps s₀ s) {addr data bits} :
    KeepsOut s₀ (execHspiWrite addr data bits s) := by
  unfold Machine.execHspiWrite
  exact KeepsOut.next hs.writeFrame

theorem Keeps.execHspiPop (hs : Keeps s₀ s) {addr bits} :
    KeepsOut s₀ (execHspiPop addr bits s) := by
  unfold Machine.execHspiPop
  exact KeepsOut.next hs.readFrame

theorem Keeps.execHspiStatus (hs : Keeps s₀ s) {cmd bits} :
    KeepsOut s₀ (execHspiStatus cmd bits s) := by
  unfold Machine.execHspiStatus
  exact KeepsOut.either KeepsOut.fault (KeepsOut.next hs.statusFrame)

theorem Keeps.execHspiFrameEnd (hs : Keeps s₀ s) :
    KeepsOut s₀ (execHspiFrameEnd s) := by
  unfold Machine.execHspiFrameEnd
  exact KeepsOut.next hs.endFrame

theorem Keeps.execHspiCtrlWrite (hs : Keeps s₀ s) {m v} :
    KeepsOut s₀ (execHspiCtrlWrite m v s) := by
  unfold Machine.execHspiCtrlWrite
  exact KeepsOut.next (hs.write (fun _ ha => ha.hspiCtrlEffect))

theorem Keeps.execDriveBurst (hs : Keeps s₀ s) {busy holds} :
    KeepsOut s₀ (execDriveBurst busy holds s) := by
  unfold Machine.execDriveBurst
  exact KeepsOut.next hs.driveBurst

theorem Keeps.execDaisyFrame (hs : Keeps s₀ s) {data early} :
    KeepsOut s₀ (execDaisyFrame data early s) := by
  unfold Machine.execDaisyFrame
  exact KeepsOut.next hs.daisyFrame

theorem Keeps.execHtwWrite (hs : Keeps s₀ s) {data stop} :
    KeepsOut s₀ (execHtwWrite data stop s) := by
  unfold Machine.execHtwWrite
  exact KeepsOut.next hs.htwWrite

theorem Keeps.execHtwRead (hs : Keeps s₀ s) {n lastAck stop} :
    KeepsOut s₀ (execHtwRead n lastAck stop s) := by
  unfold Machine.execHtwRead
  exact KeepsOut.next hs.htwRead

theorem Keeps.execHtwIdleTimeout (hs : Keeps s₀ s) :
    KeepsOut s₀ (execHtwIdleTimeout s) := by
  unfold Machine.execHtwIdleTimeout
  exact KeepsOut.next hs.htwIdle

theorem Keeps.execProtocolError (hs : Keeps s₀ s) {u} :
    KeepsOut s₀ (execProtocolError u s) := by
  unfold Machine.execProtocolError
  refine KeepsOut.next ?_
  split
  · exact hs.twcProtocol
  · exact hs.htwProtocol

/-! ### Machine, Manage -/

theorem Keeps.mgmtReply (hs : Keeps s₀ s) {orig mtype mctr dnonce entries} :
    Keeps s₀ (s.mgmtReply orig mtype mctr dnonce entries) := by
  unfold State.mgmtReply
  split
  · exact hs
  · extract_lets
    split
    · rename_i a e
      exact hs
    · rename_i a _ s1 e
      have h1 : Keeps s₀ s1 := hs.agentQueue.of_eq e
      exact h1.updLink

theorem Keeps.mgmtEntry (hs : Keeps s₀ s) {l} :
    KeepsFst s₀ (s.mgmtEntry l) := by
  unfold State.mgmtEntry
  extract_lets
  refine KeepsFst.either (KeepsFst.mk hs) (KeepsFst.either ?_ (KeepsFst.either ?_ (KeepsFst.mk hs)))
  · split
    · rename_i a s1 _ _ e
      have h1 : Keeps s₀ s1 := hs.portRead.of_eq e
      exact KeepsFst.mk h1
  · split
    · rename_i a s1 _ e
      have h1 : Keeps s₀ s1 := hs.portWrite.of_eq e
      exact KeepsFst.mk h1

theorem Keeps.mgmtEntries {s₀ s : State} (hs : Keeps s₀ s) {a} :
    KeepsFst s₀ (s.mgmtEntries a) := by
  unfold State.mgmtEntries
  split
  · exact KeepsFst.mk hs
  · split
    · rename_i a' s2 _ e
      have h2 : Keeps s₀ s2 := hs.mgmtEntry.of_eq e
      split
      · rename_i a'' s2' _ e'
        have hs2' : Keeps s₀ s2' := h2.mgmtEntries.of_eq e'
        exact KeepsFst.mk hs2'

theorem Keeps.mgmtDrop (hs : Keeps s₀ s) :
    Keeps s₀ s.mgmtDrop := by
  unfold State.mgmtDrop
  exact hs.updRg

theorem Keeps.mgmtAct (hs : Keeps s₀ s) {n orig e pt} :
    Keeps s₀ (s.mgmtAct n orig e pt) := by
  unfold State.mgmtAct
  extract_lets session
  refine Keeps.either (Keeps.either hs.mgmtDrop ?_) (Keeps.either ?_
      (Keeps.either (Keeps.either hs.closeMgmt.refreshLink.mgmtReply hs.mgmtDrop) hs.mgmtDrop))
  · split
    · rename_i a s2 _ e'
      have h2 : Keeps s₀ s2 := hs.drbgBytes.of_eq e'
      extract_lets _ s2'
      have hs2' : Keeps s₀ s2' := h2.updLink
      exact hs2'.updRg.refreshLink.mgmtReply
  · clear_value session
    split
    · refine Keeps.either ?_ hs.mgmtDrop
      extract_lets s1
      have h1 : Keeps s₀ s1 := hs.updLink
      split
      · rename_i a s2 _ e'
        have h2 : Keeps s₀ s2 := h1.mgmtEntries.of_eq e'
        exact h2.mgmtReply
    · exact hs.mgmtDrop

theorem Keeps.mgmtTake (hs : Keeps s₀ s) :
    Keeps s₀ s.mgmtTake := by
  unfold State.mgmtTake
  split
  · exact hs
  · refine Keeps.either hs ?_
    extract_lets s1
    have h1 : Keeps s₀ s1 := hs.updLink
    split
    · split
      · exact h1.mgmtDrop
      · extract_lets
        exact Keeps.either h1.mgmtAct h1.mgmtReply
    · exact h1.mgmtDrop

theorem Keeps.mgmtLapse (hs : Keeps s₀ s) :
    Keeps s₀ s.mgmtLapse := by
  unfold State.mgmtLapse
  split
  · exact hs
  · refine Keeps.either hs ?_
    extract_lets s1
    have h1 : Keeps s₀ s1 := hs.reach
    exact h1.closeMgmt.refreshLink

theorem Keeps.setImg (hs : Keeps s₀ s) {stat code index} :
    Keeps s₀ (s.setImg stat code index) := by
  unfold State.setImg
  exact hs.setRg

theorem Keeps.imageDone (hs : Keeps s₀ s) {stat detail code index} :
    Keeps s₀ (s.imageDone stat detail code index) := by
  unfold State.imageDone
  exact hs.setImg.updCrib.secLog

theorem Keeps.imageVerify (hs : Keeps s₀ s) {base} :
    Keeps s₀ (s.imageVerify base) := by
  unfold State.imageVerify
  extract_lets reject
  refine Keeps.either ?_ (Keeps.either hs ?_)
  · unfold reject
    split
    · rename_i a _ s1 e
      have h1 : Keeps s₀ s1 := hs.draw.of_eq e
      exact h1.imageDone
  · split
    · rename_i a s1 e
      have h1 : Keeps s₀ s1 := hs.imageHeader.of_eq e
      unfold reject
      split
      · rename_i a' _ s1' e'
        have hs1' : Keeps s₀ s1' := h1.draw.of_eq e'
        exact hs1'.imageDone
    · rename_i a s1 _ e
      have h1 : Keeps s₀ s1 := hs.imageHeader.of_eq e
      refine Keeps.either ?_ ?_
      · unfold reject
        split
        · rename_i a' _ s1' e'
          have hs1' : Keeps s₀ s1' := h1.draw.of_eq e'
          exact hs1'.imageDone
      · split
        · rename_i a' s1' _ e'
          have hs1' : Keeps s₀ s1' := h1.digestOk.of_eq e'
          refine Keeps.either ?_ ?_
          · unfold reject
            split
            · rename_i a'' _ s1'' e''
              have hs1'' : Keeps s₀ s1'' := hs1'.draw.of_eq e''
              exact hs1''.imageDone
          · extract_lets
            exact hs1'.setImg.updCrib

theorem Keeps.loaderWrite (hs : Keeps s₀ s) {a v} :
    KeepsFst s₀ (s.loaderWrite a v) := by
  unfold State.loaderWrite
  extract_lets _ _ _ _ t back
  have ht : Keeps s₀ t := hs.same
  refine KeepsFst.either (KeepsFst.mk hs) (KeepsFst.either (KeepsFst.either (KeepsFst.mk hs) ?_) ?_)
  · split
    · exact KeepsFst.mk hs.logErr
    · exact KeepsFst.mk hs.logErr
    · exact KeepsFst.mk hs.countAccess.setSramWord
  · split
    · split
      · rename_i a' s1 _ e
        have h1 : Keeps s₀ s1 := ht.regWrite.of_eq e
        exact KeepsFst.mk (Keeps.either h1.same h1.same.logErr)
    · exact KeepsFst.mk hs.logErr
    · exact KeepsFst.mk hs
    · exact KeepsFst.mk hs.logErr
    · exact KeepsFst.mk hs

theorem Keeps.loaderWrites {s₀ s : State} (hs : Keeps s₀ s) {a} :
    KeepsFst s₀ (s.loaderWrites a) := by
  unfold State.loaderWrites
  split
  · split
    · rename_i a' s1 e
      have h1 : Keeps s₀ s1 := hs.loaderWrite.of_eq e
      exact h1.loaderWrites
    · rename_i a' s1 _ _ e
      have h1 : Keeps s₀ s1 := hs.loaderWrite.of_eq e
      exact KeepsFst.mk h1
  · exact KeepsFst.mk hs

theorem Keeps.loaderPast (hs : Keeps s₀ s) {l words} :
    Keeps s₀ (s.loaderPast l words) := by
  unfold State.loaderPast
  exact hs.updCrib

theorem Keeps.loaderStop (hs : Keeps s₀ s) {l c} :
    Keeps s₀ (s.loaderStop l c) := by
  unfold State.loaderStop
  exact hs.imageDone

theorem Keeps.loaderStep (hs : Keeps s₀ s) {l} :
    KeepsFst s₀ (s.loaderStep l) := by
  unfold State.loaderStep
  refine KeepsFst.either (KeepsFst.mk hs.loaderStop) (KeepsFst.either (KeepsFst.mk hs) ?_)
  split
  · rename_i a s1 e
    have h1 : Keeps s₀ s1 := hs.flashWord.of_eq e
    exact KeepsFst.mk h1.loaderStop
  · rename_i a s1 _ e
    have h1 : Keeps s₀ s1 := hs.flashWord.of_eq e
    extract_lets
    refine KeepsFst.either (KeepsFst.mk h1.imageDone) (KeepsFst.either (KeepsFst.mk h1.loaderStop) ?_)
    split
    · rename_i a' s2 _ _ e'
      have h2 : Keeps s₀ s2 := h1.flashWords.of_eq e'
      refine KeepsFst.either (KeepsFst.mk h2.loaderStop) (KeepsFst.either ?_ ?_)
      · split
        · rename_i a'' s1' e''
          have hs1' : Keeps s₀ s1' := h2.loaderWrites.of_eq e''
          extract_lets s4
          have h4 : Keeps s₀ s4 := hs1'.loaderPast
          exact KeepsFst.mk h4.setImg
        · rename_i a'' s1' _ _ e''
          have hs1' : Keeps s₀ s1' := h2.loaderWrites.of_eq e''
          exact KeepsFst.mk hs1'.loaderStop
      · extract_lets
        refine KeepsFst.either (KeepsFst.mk h2.loaderStop) ?_
        split
        · rename_i a'' e''
          exact KeepsFst.mk h2
        · rename_i a'' _ s1' e''
          have hs1' : Keeps s₀ s1' := h2.agentQueue.of_eq e''
          extract_lets s4
          have h4 : Keeps s₀ s4 := hs1'.loaderPast
          exact KeepsFst.mk h4.setImg.updCrib

theorem Keeps.loaderRun {s₀ s : State} (hs : Keeps s₀ s) {a} :
    Keeps s₀ (s.loaderRun a) := by
  unfold State.loaderRun
  split
  · exact hs
  · split
    · exact hs
    · split
      · exact hs
      · refine Keeps.either ?_ hs.loaderStop
        extract_lets s1
        have h1 : Keeps s₀ s1 := hs.updCrib
        split
        · rename_i a' s2 e
          have h2 : Keeps s₀ s2 := h1.loaderStep.of_eq e
          exact h2.loaderRun
        · rename_i a' s2 e
          have h2 : Keeps s₀ s2 := h1.loaderStep.of_eq e
          exact h2
      · split
        · rename_i a' s2 e
          have h2 : Keeps s₀ s2 := hs.loaderStep.of_eq e
          exact h2.loaderRun
        · rename_i a' s2 e
          have h2 : Keeps s₀ s2 := hs.loaderStep.of_eq e
          exact h2

theorem Keeps.imageLoad (hs : Keeps s₀ s) :
    Keeps s₀ s.imageLoad := by
  unfold State.imageLoad
  refine Keeps.either hs ?_
  split
  · exact hs.loaderRun
  · refine Keeps.either hs ?_
    extract_lets s1
    have h1 : Keeps s₀ s1 := hs.imageVerify
    exact h1.loaderRun
  · exact hs

theorem Keeps.execMgmtEnvelope (hs : Keeps s₀ s) :
    KeepsOut s₀ (execMgmtEnvelope s) := by
  unfold Machine.execMgmtEnvelope
  exact KeepsOut.next hs.mgmtTake

theorem Keeps.execMgmtSessionLapse (hs : Keeps s₀ s) :
    KeepsOut s₀ (execMgmtSessionLapse s) := by
  unfold Machine.execMgmtSessionLapse
  exact KeepsOut.next hs.mgmtLapse

theorem Keeps.execConfigImageLoad (hs : Keeps s₀ s) :
    KeepsOut s₀ (execConfigImageLoad s) := by
  unfold Machine.execConfigImageLoad
  exact KeepsOut.next hs.imageLoad

/-! ### Machine, Dispatch -/

theorem Keeps.exec (hs : Keeps s₀ s) {i} :
    KeepsOut s₀ (exec i s) := by
  cases i with
  | registerWrite => exact hs.execRegisterWrite
  | aonProxyAccess => exact hs.execAonProxyAccess
  | lowWordRead => exact hs.execLowWordRead
  | highWordRead => exact hs.execHighWordRead
  | lowWordWrite => exact hs.execLowWordWrite
  | highWordWrite => exact hs.execHighWordWrite
  | srst => exact hs.execSrst
  | errcClr => exact hs.execErrcClr
  | evflgClear => exact hs.execEvflgClear
  | accessWrite => exact hs.execAccessWrite
  | blockReady => exact hs.execBlockReady
  | blockStartFail => exact hs.execBlockStartFail
  | claim => exact hs.execClaim
  | claimWindowClose => exact hs.execClaimWindowClose
  | lease => exact hs.execLease
  | leaseLapse => exact hs.execLeaseLapse
  | handover => exact hs.execHandover
  | hoExpired => exact hs.execHoExpired
  | accept => exact hs.execAccept
  | ownRelease => exact hs.execOwnRelease
  | auditFlush => exact hs.execAuditFlush
  | outPost => exact hs.execOutPost
  | outTake => exact hs.execOutTake
  | inPost => exact hs.execInPost
  | inTake => exact hs.execInTake
  | doorbell => exact hs.execDoorbell
  | cancel => exact hs.execCancel
  | operationStart => exact hs.execOperationStart
  | operationEnd => exact hs.execOperationEnd
  | recordPush => exact hs.execRecordPush
  | por => exact hs.execPor
  | porRelease => exact hs.execPorRelease
  | resetNLow => exact hs.execResetNLow
  | resetNHigh => exact hs.execResetNHigh
  | sysRst => exact hs.execSysRst
  | systemRelease => exact hs.execSystemRelease
  | islRst => exact hs.execIslRst
  | islandRelease => exact hs.execIslandRelease
  | optionLoad => exact hs.execOptionLoad
  | configImageLoad => exact hs.execConfigImageLoad
  | vinLow => exact hs.execVinLow
  | vinOk => exact hs.execVinOk
  | vinCut => exact hs.execVinCut
  | crystalStart => exact hs.execCrystalStart
  | tcxoStable => exact hs.execTcxoStable
  | pcfgWrite => exact hs.execPcfgWrite
  | auxWrite => exact hs.execAuxWrite
  | xbarWrite => exact hs.execXbarWrite
  | converterSample => exact hs.execConverterSample
  | laneOutput => exact hs.execLaneOutput
  | pulseEdge => exact hs.execPulseEdge
  | pulseCaptureTimeout => exact hs.execPulseCaptureTimeout
  | dinChange => exact hs.execDinChange
  | debounceExpiry => exact hs.execDebounceExpiry
  | excCompliance => exact hs.execExcCompliance
  | refOverload => exact hs.execRefOverload
  | clampTrip => exact hs.execClampTrip
  | settleExpiry => exact hs.execSettleExpiry
  | selfTestEnd => exact hs.execSelfTestEnd
  | retryIntervalExpiry => exact hs.execRetryIntervalExpiry
  | cal => exact hs.execCal
  | portTest => exact hs.execPortTest
  | spcXfer => exact hs.execSpcXfer
  | uartXact => exact hs.execUartXact
  | uartEof => exact hs.execUartEof
  | uartReplyTimeout => exact hs.execUartReplyTimeout
  | twcXfer => exact hs.execTwcXfer
  | rxdRead => exact hs.execRxdRead
  | illegal => exact hs.execIllegal
  | nop => exact hs.execNop
  | endAct => exact hs.execEndAct
  | ldi => exact hs.execLdi
  | lui => exact hs.execLui
  | rc => exact hs.execRc
  | add => exact hs.execAdd
  | sub => exact hs.execSub
  | and => exact hs.execAnd
  | or => exact hs.execOr
  | xor => exact hs.execXor
  | shl => exact hs.execShl
  | shr => exact hs.execShr
  | sra => exact hs.execSra
  | mul => exact hs.execMul
  | addi => exact hs.execAddi
  | andi => exact hs.execAndi
  | ori => exact hs.execOri
  | shli => exact hs.execShli
  | shri => exact hs.execShri
  | srai => exact hs.execSrai
  | beq => exact hs.execBeq
  | bne => exact hs.execBne
  | blt => exact hs.execBlt
  | bge => exact hs.execBge
  | bltu => exact hs.execBltu
  | bgeu => exact hs.execBgeu
  | jmp => exact hs.execJmp
  | jal => exact hs.execJal
  | jr => exact hs.execJr
  | wait => exact hs.execWait
  | waitExpiry => exact hs.execWaitExpiry
  | wev => exact hs.execWev
  | wevTimeout => exact hs.execWevTimeout
  | stmp => exact hs.execStmp
  | conv => exact hs.execConv
  | inPort => exact hs.execInPort
  | outPort => exact hs.execOutPort
  | tagrd => exact hs.execTagrd
  | bus => exact hs.execBus
  | feed => exact hs.execFeed
  | push => exact hs.execPush
  | pushr => exact hs.execPushr
  | ld => exact hs.execLd
  | st => exact hs.execSt
  | evt => exact hs.execEvt
  | blockedResult => exact hs.execBlockedResult
  | periodicDue => exact hs.execPeriodicDue
  | gleanerLoad => exact hs.execGleanerLoad
  | loadCopy => exact hs.execLoadCopy
  | gleanerStart => exact hs.execGleanerStart
  | gleanerStop => exact hs.execGleanerStop
  | pdataRead => exact hs.execPdataRead
  | admission => exact hs.execAdmission
  | laneChangeover => exact hs.execLaneChangeover
  | coefDataWrite => exact hs.execCoefDataWrite
  | coefDataRead => exact hs.execCoefDataRead
  | epochSet => exact hs.execEpochSet
  | snap => exact hs.execSnap
  | snapReadoutDone => exact hs.execSnapReadoutDone
  | alarmFire => exact hs.execAlarmFire
  | disciplineStart => exact hs.execDisciplineStart
  | disciplineSample => exact hs.execDisciplineSample
  | holdoverEntry => exact hs.execHoldoverEntry
  | winnowInput => exact hs.execWinnowInput
  | winnowTick => exact hs.execWinnowTick
  | winnowLoad => exact hs.execWinnowLoad
  | winnowEnWrite => exact hs.execWinnowEnWrite
  | sourcePulse => exact hs.execSourcePulse
  | taskTriggerTaken => exact hs.execTaskTriggerTaken
  | waveQuietExpiry => exact hs.execWaveQuietExpiry
  | swgen => exact hs.execSwgen
  | chCfgWrite => exact hs.execChCfgWrite
  | tapWrite => exact hs.execTapWrite
  | wholePush => exact hs.execWholePush
  | itemPush => exact hs.execItemPush
  | qwinPush => exact hs.execQwinPush
  | queuePop => exact hs.execQueuePop
  | qcfgWrite => exact hs.execQcfgWrite
  | declare => exact hs.execDeclare
  | regionRelease => exact hs.execRegionRelease
  | resize => exact hs.execResize
  | pin => exact hs.execPin
  | migrate => exact hs.execMigrate
  | hdeclare => exact hs.execHdeclare
  | hpin => exact hs.execHpin
  | bankReturn => exact hs.execBankReturn
  | memtestPass => exact hs.execMemtestPass
  | memtestBank => exact hs.execMemtestBank
  | frameCopyDone => exact hs.execFrameCopyDone
  | loftScoring => exact hs.execLoftScoring
  | regionTestStart => exact hs.execRegionTestStart
  | regionTestEnd => exact hs.execRegionTestEnd
  | bankTest => exact hs.execBankTest
  | memoryWindowRead => exact hs.execMemoryWindowRead
  | memoryWindowWrite => exact hs.execMemoryWindowWrite
  | hraiseClear => exact hs.execHraiseClear
  | ctxResWrite => exact hs.execCtxResWrite
  | program => exact hs.execProgram
  | erase => exact hs.execErase
  | copy => exact hs.execCopy
  | unlock => exact hs.execUnlock
  | relock => exact hs.execRelock
  | refresh => exact hs.execRefresh
  | groupWrite => exact hs.execGroupWrite
  | fetchBankChange => exact hs.execFetchBankChange
  | logAppend => exact hs.execLogAppend
  | logCommit => exact hs.execLogCommit
  | commitTimeout => exact hs.execCommitTimeout
  | flush => exact hs.execFlush
  | logSectorErase => exact hs.execLogSectorErase
  | logResume => exact hs.execLogResume
  | logcfgWrite => exact hs.execLogcfgWrite
  | weakRefresh => exact hs.execWeakRefresh
  | dirtySpareErase => exact hs.execDirtySpareErase
  | confirmationRecordWrite => exact hs.execConfirmationRecordWrite
  | antCfgWrite => exact hs.execAntCfgWrite
  | shapeWrite => exact hs.execShapeWrite
  | supervisionPass => exact hs.execSupervisionPass
  | supervise => exact hs.execSupervise
  | matchOp => exact hs.execMatchOp
  | teach => exact hs.execTeach
  | solve => exact hs.execSolve
  | lpcdRound => exact hs.execLpcdRound
  | coexWindowStart => exact hs.execCoexWindowStart
  | coexWindowEnd => exact hs.execCoexWindowEnd
  | thermalRead => exact hs.execThermalRead
  | vfldOut => exact hs.execVfldOut
  | vfldReturn => exact hs.execVfldReturn
  | activate => exact hs.execActivate
  | exchange => exact hs.execExchange
  | inventory => exact hs.execInventory
  | close => exact hs.execClose
  | mapload => exact hs.execMapload
  | tagportRead => exact hs.execTagportRead
  | groupRead => exact hs.execGroupRead
  | sessionIdleExpiry => exact hs.execSessionIdleExpiry
  | freqWrite => exact hs.execFreqWrite
  | txRequest => exact hs.execTxRequest
  | syncAccept => exact hs.execSyncAccept
  | frameDelivery => exact hs.execFrameDelivery
  | dpdTrain => exact hs.execDpdTrain
  | dpdAutoRetrain => exact hs.execDpdAutoRetrain
  | measure => exact hs.execMeasure
  | vpaOut => exact hs.execVpaOut
  | superframe => exact hs.execSuperframe
  | beaconTx => exact hs.execBeaconTx
  | beaconRx => exact hs.execBeaconRx
  | lbtBackoffDone => exact hs.execLbtBackoffDone
  | dataRx => exact hs.execDataRx
  | ackTx => exact hs.execAckTx
  | ackRx => exact hs.execAckRx
  | ackWindowExpiry => exact hs.execAckWindowExpiry
  | reassemblyTimeout => exact hs.execReassemblyTimeout
  | relayLifeExpiry => exact hs.execRelayLifeExpiry
  | sendLifeExpiry => exact hs.execSendLifeExpiry
  | downEntryLapse => exact hs.execDownEntryLapse
  | mapsetRx => exact hs.execMapsetRx
  | send => exact hs.execSend
  | peerAdmit => exact hs.execPeerAdmit
  | peerRemove => exact hs.execPeerRemove
  | negotiate => exact hs.execNegotiate
  | automapPeriod => exact hs.execAutomapPeriod
  | qbSend => exact hs.execQbSend
  | rxfree => exact hs.execRxfree
  | rxcfgWrite => exact hs.execRxcfgWrite
  | linkCtlWrite => exact hs.execLinkCtlWrite
  | mgmtEnvelope => exact hs.execMgmtEnvelope
  | mgmtSessionLapse => exact hs.execMgmtSessionLapse
  | legacyFrameRx => exact hs.execLegacyFrameRx
  | neighLost => exact hs.execNeighLost
  | coreBoot => exact hs.execCoreBoot
  | confirm => exact hs.execConfirm
  | wfi => exact hs.execWfi
  | wfiWake => exact hs.execWfiWake
  | externalInterrupt => exact hs.execExternalInterrupt
  | intcClaim => exact hs.execIntcClaim
  | intcComplete => exact hs.execIntcComplete
  | unfreeze => exact hs.execUnfreeze
  | srccfgWrite => exact hs.execSrccfgWrite
  | modIntervalExpiry => exact hs.execModIntervalExpiry
  | checkpointInterval => exact hs.execCheckpointInterval
  | lockstepResync => exact hs.execLockstepResync
  | tcmUe => exact hs.execTcmUe
  | sleep => exact hs.execSleep
  | sleepEntry => exact hs.execSleepEntry
  | sleepTmo => exact hs.execSleepTmo
  | sleepAborted => exact hs.execSleepAborted
  | wake => exact hs.execWake
  | exitComplete => exact hs.execExitComplete
  | tcxoLate => exact hs.execTcxoLate
  | pmuWakeN => exact hs.execPmuWakeN
  | vcoreWrite => exact hs.execVcoreWrite
  | voltageSettled => exact hs.execVoltageSettled
  | coreOppWrite => exact hs.execCoreOppWrite
  | tcxoLoss => exact hs.execTcxoLoss
  | tcxoReturn => exact hs.execTcxoReturn
  | hspiRead => exact hs.execHspiRead
  | hspiWrite => exact hs.execHspiWrite
  | hspiPop => exact hs.execHspiPop
  | hspiStatus => exact hs.execHspiStatus
  | hspiFrameEnd => exact hs.execHspiFrameEnd
  | hspiCtrlWrite => exact hs.execHspiCtrlWrite
  | driveBurst => exact hs.execDriveBurst
  | daisyFrame => exact hs.execDaisyFrame
  | htwWrite => exact hs.execHtwWrite
  | htwRead => exact hs.execHtwRead
  | htwIdleTimeout => exact hs.execHtwIdleTimeout
  | protocolError => exact hs.execProtocolError
  | arbitrationLost => exact hs.execArbitrationLost
  | targetTransaction => exact hs.execTargetTransaction
  | stretchTimeout => exact hs.execStretchTimeout
  | keyGen => exact hs.execKeyGen
  | keyImport => exact hs.execKeyImport
  | keyPub => exact hs.execKeyPub
  | keyDelete => exact hs.execKeyDelete
  | cipher => exact hs.execCipher
  | mac => exact hs.execMac
  | hash => exact hs.execHash
  | sign => exact hs.execSign
  | verify => exact hs.execVerify
  | ecdh => exact hs.execEcdh
  | random => exact hs.execRandom
  | lifecycle => exact hs.execLifecycle
  | rootSet => exact hs.execRootSet
  | debugClose => exact hs.execDebugClose
  | selftest => exact hs.execSelftest
  | zeroise => exact hs.execZeroise
  | reseed => exact hs.execReseed
  | healthTestFail => exact hs.execHealthTestFail
  | tamperTrip => exact hs.execTamperTrip
  | tamperCfgWrite => exact hs.execTamperCfgWrite
  | wdtKick => exact hs.execWdtKick
  | wdtExpiry => exact hs.execWdtExpiry
  | wdtCfgWrite => exact hs.execWdtCfgWrite
  | heartbeat => exact hs.execHeartbeat
  | heartbeatMiss => exact hs.execHeartbeatMiss
  | tapIrUpdate => exact hs.execTapIrUpdate
  | vpaReturn => exact hs.execVpaReturn
  | vioSupplyLoss => exact hs.execVioSupplyLoss
  | vioSupplyReturn => exact hs.execVioSupplyReturn
  | txEnd => exact hs.execTxEnd
  | lbtBusy => exact hs.execLbtBusy
  | dataPeriodStart => exact hs.execDataPeriodStart
  | wdtWarn => exact hs.execWdtWarn
  | optionCopyRewrite => exact hs.execOptionCopyRewrite
  | registerRead => exact hs.execRegisterRead
  | coreFlashRead => exact hs.execCoreFlashRead
  | debugResetRequest => exact hs.execDebugResetRequest
  | debugHalt => exact hs.execDebugHalt
  | debugResume => exact hs.execDebugResume

/-! ### Machine, Upset -/

theorem Keeps.upsetSram (hs : Keeps s₀ s) {w hard} :
    Keeps s₀ (s.upsetSram w hard) := by
  unfold State.upsetSram
  exact Keeps.either hs (Keeps.either hs.sameMem (Keeps.either hs hs.sameMem))

theorem Keeps.upsetRule (hs : Keeps s₀ s) {r i} :
    Keeps s₀ (s.upsetRule r i) := by
  unfold State.upsetRule
  extract_lets
  exact Keeps.either hs hs.putRule

theorem Keeps.upsetItem (hs : Keeps s₀ s) {n i} :
    Keeps s₀ (s.upsetItem n i) := by
  unfold State.upsetItem
  extract_lets
  split
  · exact hs
  · exact hs.putQueue

theorem Keeps.upset (hs : Keeps s₀ s) :
    Keeps s₀ s.upset := by
  unfold State.upset
  split
  · rename_i a _ s1 e
    have h1 : Keeps s₀ s1 := hs.draw.of_eq e
    split
    · rename_i a' _ s1' e'
      have hs1' : Keeps s₀ s1' := h1.draw.of_eq e'
      extract_lets
      split
      · exact hs1'.upsetSram
      · exact hs1'.upsetSram
      · exact hs1'.sameMem
      · exact hs1'.same
      · exact hs1'.upsetRule
      · exact hs1'.putQueue
      · exact hs1'.upsetItem
      · exact hs1'

/-! ### Machine, Step -/

theorem Keeps.idle (hs : Keeps s₀ s) :
    Keeps s₀ s.idle := by
  unfold State.idle
  exact Keeps.either hs hs.timeTick.upset

/-- A step takes at most the command in front, and does what the invariant and the fuses allow. -/
theorem Keeps.step {t : State} (h : step s = .next t) : Keeps { s with pending := s.pending.tail } t := by
  unfold Machine.step at h
  split at h
  · rename_i hq
    have hrest : ({ s with pending := s.pending.tail } : State) = s := by rw [hq, List.tail_nil, ← hq]
    rw [hrest]
    obtain rfl : s.idle = t := by simpa using h
    exact (Keeps.refl s).idle
  · rename_i hq
    rw [hq]
    exact (Keeps.refl _).exec _ h

end
end Sys2Proof.Machine
end

section
namespace Sys2Proof.Machine

theorem inv_iff {s : State} : Safety.inv s = true ↔
    Tab.wf resetOf s.regs = true ∧ Tab.wf (fun _ => (0 : Word)) s.bank = true ∧
      Tab.wf (fun _ => (none : Option Shadow)) s.shadow = true ∧
      Tab.wf (fun _ => (none : Option Word)) s.lows = true ∧ Tab.wf sramDefault s.gran.sram = true ∧
      Tab.wf flashDefault s.flash.cells = true ∧ (!s.fuse.f || s.fuse.p) = true := by
  simp only [Safety.inv, Safety.canonical, Memory.wf, Bool.and_eq_true, and_assoc]

theorem Keeps.inv {s t : State} (h : Keeps s t) (hs : Safety.inv s = true) : Safety.inv t = true := by
  rw [inv_iff] at hs ⊢
  obtain ⟨hregs, hbank, hshadow, hlows, hsram, hcells, horder⟩ := hs
  exact ⟨h.wfRegs hregs, h.wfBank hbank, h.wfShadow hshadow, h.wfLows hlows, h.wfSram hsram, h.wfCells hcells,
    h.ordered horder⟩

theorem lifecycle_mono {s t : State} (h : Safety.burnt s.fuse t.fuse = true) : s.lifecycle ≤ t.lifecycle := by
  obtain ⟨hp, hf, hd, -⟩ := burnt_iff.1 h
  unfold State.lifecycle
  grind

/-- Settles O59: what a step comes to keeps what the state with the front command taken off has, and that state meets
the invariant as the state before does. -/
theorem everyStepKeepsTheInvariant : Obligations.EveryStepKeepsTheInvariant := by
  intro s t hs h
  have hk := Keeps.step h
  exact ⟨hk.inv hs, hk.queued⟩

/-- Settles O60: no part of a step undoes a fuse, and the lifecycle is read from the fuses. -/
theorem fusesOnlyBurn : Obligations.FusesOnlyBurn := by
  intro s t h
  have hk := Keeps.step h
  exact ⟨hk.burns, lifecycle_mono hk.burns⟩

end Sys2Proof.Machine
end

section
/-!
PROOFS. Tables in canonical form, the election, and the words of SRAM.
-/
namespace Sys2Proof.Machine

section
variable {α : Type} {d : Nat → α} [DecidableEq α]

/-- A table in canonical form lists nothing below its bound. -/
theorem Tab.get_of_wfFrom {t : Tab α} {lo k : Nat} (w : Tab.wfFrom d lo t = true) (h : k < lo) :
    Tab.get d t k = d k := by
  induction t generalizing lo with
  | nil => rfl
  | cons e t ih =>
    obtain ⟨hlo, -, ht⟩ := Tab.wfFrom_cons.1 w
    rw [Tab.get_cons, if_neg (by omega), ih ht (by omega)]

theorem Tab.ext_of_wfFrom {t u : Tab α} {lo lo' : Nat} (wt : Tab.wfFrom d lo t = true)
    (wu : Tab.wfFrom d lo' u = true) (h : ∀ k, Tab.get d t k = Tab.get d u k) : t = u := by
  induction t generalizing u lo lo' with
  | nil =>
    cases u with
    | nil => rfl
    | cons e u =>
      obtain ⟨-, hd, -⟩ := Tab.wfFrom_cons.1 wu
      have he := h e.1
      rw [Tab.get_nil, Tab.get_cons, if_pos rfl] at he
      exact absurd he.symm hd
  | cons a t ih =>
    obtain ⟨-, hda, ht⟩ := Tab.wfFrom_cons.1 wt
    cases u with
    | nil =>
      have ha := h a.1
      rw [Tab.get_nil, Tab.get_cons, if_pos rfl] at ha
      exact absurd ha hda
    | cons b u =>
      obtain ⟨-, hdb, hu⟩ := Tab.wfFrom_cons.1 wu
      have ha := h a.1
      have hb := h b.1
      rw [Tab.get_cons, Tab.get_cons, if_pos rfl] at ha hb
      have hkey : a.1 = b.1 := by
        rcases Nat.lt_trichotomy a.1 b.1 with hlt | heq | hgt
        · rw [if_neg (by omega), Tab.get_of_wfFrom hu (by omega)] at ha
          exact absurd ha hda
        · exact heq
        · rw [if_neg (by omega), Tab.get_of_wfFrom ht (by omega)] at hb
          exact absurd hb.symm hdb
      have hval : a.2 = b.2 := by rwa [if_pos hkey] at ha
      have hrest : t = u := by
        refine ih ht hu fun k => ?_
        have hk := h k
        rw [Tab.get_cons, Tab.get_cons, hkey] at hk
        by_cases e : k = b.1
        · rw [Tab.get_of_wfFrom ht (by omega), Tab.get_of_wfFrom hu (by omega)]
        · rwa [if_neg e, if_neg e] at hk
      rw [hrest, Prod.ext hkey hval]

end

/-- Settles O3: by induction on the two tables, whose first keys agree. -/
theorem canonicalTablesAgree : Obligations.CanonicalTablesAgree :=
  fun _ _ _ wt wu h => Tab.ext_of_wfFrom wt wu h

/-- A claim goes before another, or is as good: R40. -/
def State.Outranks (s : State) (b c : Master × Nat) : Prop :=
  s.prio c.1 < s.prio b.1 ∨ (s.prio c.1 = s.prio b.1 ∧ Master.id b.1 ≤ Master.id c.1)

theorem State.Outranks.refl (s : State) (b : Master × Nat) : s.Outranks b b := .inr ⟨rfl, Nat.le_refl _⟩

theorem State.Outranks.trans {s : State} {a b c : Master × Nat} (h : s.Outranks a b) (g : s.Outranks b c) :
    s.Outranks a c := by
  unfold State.Outranks at *
  omega

/-- The claim that stands after one more is looked at. -/
def State.better (s : State) (best : Option (Master × Nat)) (c : Master × Nat) : Option (Master × Nat) :=
  match best with
  | none => some c
  | some b =>
    if s.prio c.1 > s.prio b.1 || (s.prio c.1 == s.prio b.1 && Master.id c.1 < Master.id b.1) then some c else some b

theorem State.better_some (s : State) (b c : Master × Nat) :
    ∃ w, s.better (some b) c = some w ∧ (w = b ∨ w = c) ∧ s.Outranks w b ∧ s.Outranks w c := by
  by_cases h : s.prio c.1 > s.prio b.1 ∨ (s.prio c.1 = s.prio b.1 ∧ Master.id c.1 < Master.id b.1)
  · exact ⟨c, by simp only [State.better]; rw [if_pos (by simpa using h)], .inr rfl, by unfold State.Outranks; omega,
      .refl s c⟩
  · exact ⟨b, by simp only [State.better]; rw [if_neg (by simpa using h)], .inl rfl, .refl s b,
      by unfold State.Outranks; omega⟩

theorem State.foldl_better {s : State} {l : List (Master × Nat)} {b w : Master × Nat}
    (h : l.foldl s.better (some b) = some w) : (w = b ∨ w ∈ l) ∧ s.Outranks w b ∧ ∀ c ∈ l, s.Outranks w c := by
  induction l generalizing b with
  | nil =>
    obtain rfl : b = w := Option.some.inj h
    exact ⟨.inl rfl, .refl s b, by simp⟩
  | cons c l ih =>
    obtain ⟨x, hx, hxw, hxb, hxc⟩ := s.better_some b c
    rw [List.foldl_cons, hx] at h
    obtain ⟨hmem, hbest, hall⟩ := ih h
    refine ⟨?_, hbest.trans hxb, ?_⟩
    · rcases hmem with rfl | hmem
      · exact hxw.imp_right (by rintro rfl; exact List.mem_cons_self)
      · exact .inr (List.mem_cons_of_mem _ hmem)
    · rintro e (_ | ⟨_, he⟩)
      · exact hbest.trans hxc
      · exact hall e he

theorem State.winner_eq (s : State) : s.winner = s.own.claims.foldl s.better none := rfl

/-- Settles O12: the winner outranks every claim looked at, by induction on the claims. -/
theorem winnerHasHighestPriority : Obligations.WinnerHasHighestPriority := by
  intro s w h
  rw [State.winner_eq] at h
  revert h
  cases s.own.claims with
  | nil => intro h; cases h
  | cons c l =>
    intro h
    obtain ⟨hmem, hbest, hall⟩ := State.foldl_better (s := s) (b := c) h
    refine ⟨List.mem_cons.2 hmem, ?_⟩
    rintro e (_ | ⟨_, he⟩)
    · exact hbest
    · exact hall e he

/-! ### Words of SRAM -/

/-- The bytes of a number are its digits. -/
theorem natLE_bytesLE (n v : Nat) : natLE (bytesLE n v) = v % 256 ^ n := by
  induction n generalizing v with
  | zero => simp [bytesLE, natLE, Nat.mod_one]
  | succ n ih =>
    have hdigit : v % 256 ^ (n + 1) = v % 256 + 256 * (v / 256 % 256 ^ n) := by
      rw [Nat.pow_succ', Nat.mod_mul]
    rw [bytesLE, natLE, ih, BitVec.toNat_ofNat, hdigit]

theorem State.setSramBytes_eq (s : State) (a : Nat) (l : List Byte) :
    s.setSramBytes a l = l.zipIdx.foldl (fun acc e => acc.setSramByte (a + e.2) e.1) s := rfl

theorem State.setSramBytes_cons (s : State) (a : Nat) (b : Byte) (l : List Byte) :
    s.setSramBytes a (b :: l) = (s.setSramByte a b).setSramBytes (a + 1) l := by
  simp only [State.setSramBytes_eq, List.zipIdx_cons, List.foldl_cons, List.zipIdx_succ, List.foldl_map, Nat.add_zero]
  congr 1
  funext acc e
  rw [Nat.add_assoc, Nat.add_comm 1 e.2]

theorem State.sramByte_setSramBytes {s : State} {a k : Nat} {l : List Byte} :
    (s.setSramBytes a l).sramByte k =
      if h : a ≤ k ∧ k - a < l.length then l[k - a] else s.sramByte k := by
  induction l generalizing s a with
  | nil => simp [State.setSramBytes]
  | cons b l ih =>
    rw [State.setSramBytes_cons, ih]
    by_cases hk : k = a
    · subst hk
      rw [dif_neg (by omega), dif_pos ⟨Nat.le_refl _, by simp⟩, State.sramByte_setSramByte_self]
      simp
    · rw [State.sramByte_setSramByte_other hk]
      by_cases h : a + 1 ≤ k ∧ k - (a + 1) < l.length
      · rw [dif_pos h, dif_pos ⟨by omega, by simp; omega⟩]
        have e : k - a = (k - (a + 1)) + 1 := by omega
        simp only [e, List.getElem_cons_succ]
      · rw [dif_neg h, dif_neg (by simp only [List.length_cons]; omega)]

theorem State.sramBytes_setSramBytes_self (s : State) (a : Nat) (l : List Byte) :
    (s.setSramBytes a l).sramBytes a l.length = l := by
  refine List.ext_getElem (by simp [State.sramBytes]) fun i h₁ h₂ => ?_
  simp only [State.sramBytes, List.getElem_map, List.getElem_range, State.sramByte_setSramBytes]
  rw [dif_pos ⟨by omega, by omega⟩]
  congr 1
  omega

theorem State.sramBytes_setSramBytes_other {s : State} {a b n : Nat} {l : List Byte}
    (h : b + n ≤ a ∨ a + l.length ≤ b) : (s.setSramBytes a l).sramBytes b n = s.sramBytes b n := by
  refine List.map_congr_left fun i hi => ?_
  rw [List.mem_range] at hi
  rw [State.sramByte_setSramBytes, dif_neg (by omega)]

theorem State.setSramBytes_frame (s : State) (a : Nat) (l : List Byte) :
    (s.setSramBytes a l).gran.regions = s.gran.regions ∧ (s.setSramBytes a l).flash = s.flash := by
  induction l generalizing s a with
  | nil => exact ⟨rfl, rfl⟩
  | cons b l ih => rw [State.setSramBytes_cons]; exact ih _ _

/-- The errors of words do not stand in their bytes. -/
theorem State.sramBytes_mendWords (s : State) (stay : Nat → Bool) (a n : Nat) :
    (s.mendWords stay).sramBytes a n = s.sramBytes a n := rfl

theorem State.sramWord_setSramWord_self (s : State) (w : Nat) (v : Word) : (s.setSramWord w v).sramWord w = v := by
  have h : (s.setSramWord w v).sramBytes (4 * w) 4 = bytesLE 4 v.toNat :=
    bytesLE_length 4 v.toNat ▸ State.sramBytes_setSramBytes_self _ _ _
  rw [State.sramWord, h, natLE_bytesLE]
  exact BitVec.eq_of_toNat_eq (by rw [BitVec.toNat_ofNat]; omega)

theorem State.sramWord_setSramWord_other {s : State} {w u : Nat} {v : Word} (h : u ≠ w) :
    (s.setSramWord w v).sramWord u = s.sramWord u := by
  rw [State.sramWord, State.setSramWord, State.sramBytes_setSramBytes_other (by rw [bytesLE_length]; omega)]
  rfl

/-- Settles O41: a word is its four bytes. -/
theorem sramReadsBack : Obligations.SramReadsBack := by
  intro s w u v
  exact ⟨s.sramWord_setSramWord_self w v, State.sramWord_setSramWord_other, State.setSramBytes_frame _ _ _⟩

end Sys2Proof.Machine
end

section
/-!
PROOFS. The Gleaner's instructions: what issuing one moves, and what the arithmetic, the branches and the jumps leave.
-/
namespace Sys2Proof.Machine

/-! ### Issue -/

section
variable {s : State} {p o : Nat}

theorem State.rg_setReg_other {a : Nat} {w : Word} (h : ra p o ≠ a) : (s.setReg a w).rg p o = s.rg p o := by
  rw [State.rg, State.reg_setReg, if_neg h]
  rfl

theorem State.rg_setRg_other {q r : Nat} {w : Word} (h : ra p o ≠ ra q r) : (s.setRg q r w).rg p o = s.rg p o :=
  State.rg_setReg_other h

theorem State.rg_setPair_other {q r : Nat} {t : Stamp} (h : ra p o ≠ ra q r) (h' : ra p o ≠ ra q (r + 4)) :
    (s.setPair q r t).rg p o = s.rg p o := by
  rw [State.setPair, State.rg_setRg_other h', State.rg_setRg_other h]

theorem State.rg_setReadyBits_other {q : Nat} {f : Word → Word} (h : ra p o ≠ ra q 0x004) (h0 : ra p o ≠ ra q 0x020)
    (h1 : ra p o ≠ ra q 0x024) : (s.setReadyBits q f).rg p o = s.rg p o := by
  unfold State.setReadyBits
  extract_lets
  split
  · rfl
  · rw [State.rg_setPair_other h0 h1, State.rg_setRg_other h]

end

/-- A state whose Gleaner may have moved: its registers from 0x100 of page 0x0A, those of every other page, and the
state of the other blocks that hold data stand. -/
structure SameButGleaner (s u : State) : Prop where
  rg : ∀ p o, o < 0x1000 → p ≠ 0x0A ∨ 0x100 ≤ o → u.rg p o = s.rg p o
  store : u.gle.store = s.gle.store
  sense : u.sense = s.sense
  gran : u.gran = s.gran
  queues : u.queues = s.queues
  flash : u.flash = s.flash
  ops : u.ops = s.ops
  own : u.own = s.own

theorem SameButGleaner.refl (s : State) : SameButGleaner s s := ⟨fun _ _ _ _ => rfl, rfl, rfl, rfl, rfl, rfl, rfl, rfl⟩

theorem SameButGleaner.trans {s u v : State} (h : SameButGleaner s u) (g : SameButGleaner u v) :
    SameButGleaner s v where
  rg p o ho hp := (g.rg p o ho hp).trans (h.rg p o ho hp)
  store := g.store.trans h.store
  sense := g.sense.trans h.sense
  gran := g.gran.trans h.gran
  queues := g.queues.trans h.queues
  flash := g.flash.trans h.flash
  ops := g.ops.trans h.ops
  own := g.own.trans h.own

/-- The Gleaner's own state, but for its program store. -/
theorem SameButGleaner.gle (s : State) {threads parity last late load stops util} :
    SameButGleaner s { s with gle := { s.gle with threads, parity, last, late, load, stops, util } } :=
  ⟨fun _ _ _ _ => rfl, rfl, rfl, rfl, rfl, rfl, rfl, rfl⟩

theorem SameButGleaner.setRg (s : State) {o : Nat} (ho : o < 0x100) (w : Word) :
    SameButGleaner s (s.setRg 0x0A o w) :=
  ⟨fun p q hq hp => State.rg_setRg_other (by rw [ne_eq, ra_inj hq (by omega)]; omega), rfl, rfl, rfl, rfl, rfl, rfl,
    rfl⟩

theorem SameButGleaner.setReadyBits (s : State) (f : Word → Word) : SameButGleaner s (s.setReadyBits 0x0A f) where
  rg p q hq hp := State.rg_setReadyBits_other (by rw [ne_eq, ra_inj hq (by omega)]; omega)
    (by rw [ne_eq, ra_inj hq (by omega)]; omega) (by rw [ne_eq, ra_inj hq (by omega)]; omega)
  store := by rw [State.setReadyBits_gle]
  sense := State.setReadyBits_sense _ _ _
  gran := State.setReadyBits_gran _ _ _
  queues := State.setReadyBits_queues _ _ _
  flash := State.setReadyBits_flash _ _ _
  ops := State.setReadyBits_ops _ _ _
  own := State.setReadyBits_own _ _ _

theorem SameButGleaner.rollUtil (s : State) : SameButGleaner s s.rollUtil := by
  unfold State.rollUtil
  dsimp only
  split
  · exact .refl s
  · exact (SameButGleaner.setRg s (by omega) _).trans (.gle _)

theorem SameButGleaner.countIssue (s : State) : SameButGleaner s s.countIssue :=
  ((SameButGleaner.rollUtil s).trans (.setRg _ (by omega) _)).trans (.gle _)

/-- The utilisation second is no thread's. -/
theorem State.rollUtil_threads (s : State) :
    s.rollUtil.gle.threads = s.gle.threads ∧ s.rollUtil.gle.stops = s.gle.stops := by
  unfold State.rollUtil
  dsimp only
  split <;> exact ⟨rfl, rfl⟩

theorem State.countIssue_threads (s : State) :
    s.countIssue.gle.threads = s.gle.threads ∧ s.countIssue.gle.stops = s.gle.stops := s.rollUtil_threads

/-- What a thread given a state leaves as it is, where no STOP operation is under way. -/
theorem State.putThread_of_no_stops {s : State} (hs : s.gle.stops = []) (t : Nat) (h : Thread) :
    s.putThread t h =
      ({ s with gle := { s.gle with threads := Tab.set (fun _ => {}) s.gle.threads t h } } : State).setDegraded 0x0A
        ((Tab.set (fun _ => {}) s.gle.threads t h).any (fun e => e.2.st == .fault)) := by
  unfold State.putThread
  dsimp only
  rw [if_pos (by rw [hs]; rfl)]

theorem State.thread_putThread {s : State} (hs : s.gle.stops = []) (t k : Nat) (h : Thread) :
    (s.putThread t h).thread k = if k = t then h else s.thread k := by
  rw [State.putThread_of_no_stops hs, State.thread, State.setDegraded, State.setReadyBits_gle, Tab.get_set]
  rfl

theorem SameButGleaner.putThread {s : State} (hs : s.gle.stops = []) (t : Nat) (h : Thread) :
    SameButGleaner s (s.putThread t h) := by
  rw [State.putThread_of_no_stops hs]
  exact (SameButGleaner.gle s).trans (.setReadyBits _ _)

theorem State.issued_thread {s : State} (hs : s.gle.stops = []) (t k : Nat) :
    (s.issued t).thread k =
      if k = t then { s.thread t with issued := (s.thread t).issued + 1, pc := (s.thread t).pc + 1 }
      else s.thread k := by
  obtain ⟨hthreads, hstops⟩ := s.countIssue_threads
  have hthread : ∀ j, s.countIssue.thread j = s.thread j := fun j => by rw [State.thread, State.thread, hthreads]
  have h := State.thread_putThread (hstops.trans hs) t k
    { s.thread t with issued := (s.thread t).issued + 1, pc := (s.thread t).pc + 1 }
  rw [hthread k] at h
  rw [← h, ← hthread t]
  rfl

theorem SameButGleaner.issued {s : State} (hs : s.gle.stops = []) (t : Nat) : SameButGleaner s (s.issued t) :=
  ((SameButGleaner.countIssue s).trans (.putThread (s.countIssue_threads.2.trans hs) t _)).trans (.gle _)

/-- Settles O26: the issue is counted, its thread moved on, and READY follows. -/
theorem issueMovesOn : Obligations.IssueMovesOn := by
  intro s t hs _
  have h := SameButGleaner.issued hs t
  refine ⟨by rw [State.issued_thread hs, if_pos rfl], fun k hk => by rw [State.issued_thread hs, if_neg hk], ?_, ?_, ?_,
    h.store, h.sense, h.gran, h.queues, h.flash, h.ops, h.own⟩
  · exact fun j k hj hk => h.rg _ _ (by omega) (.inr (by omega))
  · exact fun o ho ho' => h.rg _ _ (by omega) (.inr (by omega))
  · exact fun p o ho hp => h.rg _ _ ho (.inl hp)

/-! ### One instruction -/

/-- A chosen thread's instruction takes effect on the state after its issue. -/
theorem State.issueAs_chosen {s : State} {t : Nat} {i : GInstr} {f : GInstr → Option (State → State)}
    {eff : State → State} (hc : s.chosen t = true) (hd : GInstr.decode (s.pword (s.thread t).pc.toNat) = some i)
    (hb : s.overBudget t = false) (hp : s.parityBad (s.thread t).pc.toNat = false) (hf : f i = some eff) :
    s.issueAs t f = eff (s.issued t) := by
  unfold State.issueAs
  rw [if_pos hc]
  dsimp only
  rw [hd]
  dsimp only
  rw [hf]
  simp only [hb, hp, Bool.false_eq_true, if_false]

/-- Settles O27: each instruction is issued, and its effect is the one the row gives. -/
theorem gleanerArithmetic : Obligations.GleanerArithmetic := by
  rintro s u t i rd ra rb rfl hc hd hb hp
  have run {x : Host.Outcome State Fault Refusal} {v : State} {f : GInstr → Option (State → State)}
      {eff : State → State} (hx : x = .next (s.issueAs t.val f)) (hf : f i = some eff) (hv : eff (s.issued t.val) = v) :
      x = .next v := by
    rw [hx, State.issueAs_chosen hc hd hb hp hf, hv]
  refine ⟨?_, ?_, ?_, ?_, ?_⟩
  · rintro rfl; exact run rfl rfl rfl
  · rintro imm rfl; exact run rfl rfl rfl
  · rintro imm rfl; exact run rfl rfl rfl
  · rintro rfl; exact run rfl rfl rfl
  · rintro a b rfl rfl
    refine ⟨?_, ?_, ?_, ?_, ?_, ?_, ?_, ?_, ?_, ?_, ?_, ?_, ?_, ?_, ?_⟩
    · rintro rfl; exact run rfl rfl rfl
    · rintro rfl; exact run rfl rfl rfl
    · rintro rfl; exact run rfl rfl rfl
    · rintro rfl; exact run rfl rfl rfl
    · rintro rfl; exact run rfl rfl rfl
    · rintro rfl; exact run rfl rfl rfl
    · rintro rfl; exact run rfl rfl rfl
    · rintro rfl; exact run rfl rfl rfl
    · rintro rfl; exact run rfl rfl rfl
    · rintro imm rfl; exact run rfl rfl rfl
    · rintro imm rfl; exact run rfl rfl rfl
    · rintro imm rfl; exact run rfl rfl rfl
    · rintro sh rfl; exact run rfl rfl rfl
    · rintro sh rfl; exact run rfl rfl rfl
    · rintro sh rfl; exact run rfl rfl rfl

/-- A branch with its target in the store goes there where its condition holds. -/
theorem State.doBranch_inside {s : State} {t : Nat} {op : BranchOp} {ra rb : BitVec 3} {off : BitVec 12} {target : Int}
    (ht : target = (s.fpc t : Int) + 1 + off.toInt) (h0 : 0 ≤ target) (h1 : target ≤ 0xFFF) :
    State.doBranch t op ra rb off s =
      if op.eval (s.greg t ra.toNat) (s.greg t rb.toNat) then s.goto t target.toNat else s := by
  subst ht
  have inside : (decide (0 ≤ (s.fpc t : Int) + 1 + off.toInt) &&
      decide ((s.fpc t : Int) + 1 + off.toInt ≤ 0xFFF)) = true := by
    rw [decide_eq_true h0, decide_eq_true h1]
    rfl
  unfold State.doBranch
  dsimp only
  rw [if_pos inside]

theorem BranchOp.eval_ne (a b : Word) : BranchOp.eval .ne a b = decide (a ≠ b) := by
  rw [Bool.eq_iff_iff]
  simp [BranchOp.eval]

theorem BranchOp.eval_ge (a b : Word) : BranchOp.eval .ge a b = decide (b.toInt ≤ a.toInt) := by
  rw [Bool.eq_iff_iff]
  simp [BranchOp.eval, BitVec.slt]

theorem BranchOp.eval_geu (a b : Word) : BranchOp.eval .geu a b = decide (b.toNat ≤ a.toNat) := by
  rw [Bool.eq_iff_iff]
  simp [BranchOp.eval, BitVec.ult]

/-- Settles O28: each instruction is issued, and goes where its row says. -/
theorem gleanerJumps : Obligations.GleanerJumps := by
  rintro s u t i rd ra rb off taken rfl hc hd hb hp
  have run {x : Host.Outcome State Fault Refusal} {v : State} {f : GInstr → Option (State → State)}
      {eff : State → State} (hx : x = .next (s.issueAs t.val f)) (hf : f i = some eff) (hv : eff (s.issued t.val) = v) :
      x = .next v := by
    rw [hx, State.issueAs_chosen hc hd hb hp hf, hv]
  refine ⟨?_, ?_, ?_, ?_, ?_⟩
  · rintro a b target rfl rfl ht h0 h1
    have branch (op : BranchOp) (hi : i = .branch op ra rb off)
        (htaken : taken = op.eval ((s.issued t.val).greg t.val ra.toNat) ((s.issued t.val).greg t.val rb.toNat)) :
        (.next (s.issueBranch t.val op) : Host.Outcome State Fault Refusal) =
          .next (if taken then (s.issued t.val).goto t.val target.toNat else s.issued t.val) := by
      rw [htaken, ← State.doBranch_inside ht h0 h1]
      exact run rfl (by rw [hi]; exact if_pos rfl) rfl
    refine ⟨?_, ?_, ?_, ?_, ?_, ?_⟩
    · exact fun hi h => branch .eq hi (h.trans rfl)
    · exact fun hi h => branch .ne hi (h.trans (BranchOp.eval_ne _ _).symm)
    · exact fun hi h => branch .lt hi (h.trans rfl)
    · exact fun hi h => branch .ge hi (h.trans (BranchOp.eval_ge _ _).symm)
    · exact fun hi h => branch .ltu hi (h.trans rfl)
    · exact fun hi h => branch .geu hi (h.trans (BranchOp.eval_geu _ _).symm)
  · rintro a rfl; exact run rfl rfl rfl
  · rintro a rfl; exact run rfl rfl rfl
  · rintro rfl ha; exact run rfl rfl (if_pos ha)
  · rintro rfl ha; exact run rfl rfl (if_neg (by omega))

end Sys2Proof.Machine
end

section
/-!
PROOFS. How a write is judged, what a refused one leaves, and the memory window.
-/
namespace Sys2Proof.Machine

/-! ### The gate of a write -/

section
variable {s : State} {m : Master} {p off : Nat} {v : Word}

theorem State.reachGate_pass (hdead : s.dead = false) (hguard : s.pwr.depth ≠ .guard) (has : s.assigned p = true)
    (hav : s.unavailable (islandOf p) = false) : s.reachGate m p = .pass := by
  simp [State.reachGate, hdead, hguard, has, hav]

/-- A write that reaches a register page, past the burst tail and beside ACCESS. -/
theorem State.writeGate_reached (hp : p < 0x80) (hreach : s.reachGate m p = .pass) (htail : burstTail p off = false)
    (hacc : off ≠ 0x01C) :
    s.writeGate m p off v =
      if s.ready p = false then .refuse .notReady
      else if s.insecure m p off = true then .refuse .security
      else if pageKind p = 0x40 ∧ mboxPageMaster off = true ∧ p ≠ 0x40 + Master.id m then .refuse .notOwner
      else if s.isOwner m = false ∧ writeExempt m p off = false then .refuse .notOwner
      else
        match regAt p off with
        | none => .refuse .arg
        | some d => if legalWord d v = true then .pass else .refuse .arg := by
  unfold State.writeGate
  rw [hreach]
  dsimp only
  rw [if_neg (by omega), htail, if_neg (by decide), if_neg (c := (off == 0x01C) = true) (by simpa using hacc)]
  simp only [Bool.not_eq_true', Bool.and_eq_true, beq_iff_eq, bne_iff_ne, and_assoc] <;> rfl

end

/-- Settles O5: the gate's checks in their order. -/
theorem writesAreJudged : Obligations.WritesAreJudged := by
  refine ⟨?_, ?_⟩
  · intro s m p off v d hp hdead hguard has hav hready hsec hacc htail hbox hown hreg hlegal
    rw [State.writeGate_reached hp (State.reachGate_pass hdead hguard has hav) htail hacc, hready, hsec, hreg]
    rw [if_neg (by decide), if_neg (by decide), if_neg (fun h => h.2.2 (hbox h.1 h.2.1)), if_neg]
    · exact if_pos hlegal
    · rintro ⟨ho, he⟩
      rcases hown with h | h
      · exact absurd (ho.symm.trans h) (by decide)
      · exact absurd (he.symm.trans h) (by decide)
  · intro s m p off v hp hreach htail hacc
    rw [State.writeGate_reached hp hreach htail hacc]
    refine ⟨fun hready => if_pos hready, fun hready hsec => ?_, fun hready hsec hown hex => ?_,
      fun hready hsec hown hkind hreg => ?_, fun hready hsec hown hkind d hreg hlegal => ?_⟩
    · rw [hready, hsec]; rfl
    · rw [hready, hsec, if_neg (by decide), if_neg (by decide)]
      split
      · rfl
      · exact if_pos ⟨hown, hex⟩
    · rw [hready, hsec, hown, hreg, if_neg (by decide), if_neg (by decide), if_neg (fun h => hkind h.1),
        if_neg (fun h => absurd h.1 (by decide))]
    · rw [hready, hsec, hown, hreg, if_neg (by decide), if_neg (by decide), if_neg (fun h => hkind h.1),
        if_neg (fun h => absurd h.1 (by decide))]
      exact if_neg (by rw [hlegal]; decide)

/-! ### A refused write -/

/-- A checkpoint is beside the registers it is taken of. -/
theorem CoreState.accessed_frame (x : CoreState) (m : Master) (now : Stamp) :
    (x.accessed m now).x = x.x ∧ (x.accessed m now).pc = x.pc ∧ (x.accessed m now).csr = x.csr := by
  unfold CoreState.accessed
  split
  · split
    · exact ⟨rfl, rfl, rfl⟩
    · exact ⟨rfl, rfl, rfl⟩
  · exact ⟨rfl, rfl, rfl⟩

/-- What else a rejection leaves: MY_RESULT, the port's error, and the state of the other blocks. -/
theorem State.reject_frame (s : State) (m : Master) (p off : Nat) (c : Code) :
    (s.reject m p off c).own1 m 0x01 0x048 = pack [(0, 8, Code.num c), (8, 8, p), (16, 10, off / 4)] ∧
      (m = .hspi → (s.reject m p off c).hspi.lastErr = true) ∧ (m = .debug → (s.reject m p off c).dbg.sticky = true) ∧
      (s.reject m p off c).own = s.own ∧ (s.reject m p off c).sense = s.sense ∧ (s.reject m p off c).gle = s.gle ∧
      (s.reject m p off c).crib = s.crib ∧ (s.reject m p off c).time = s.time ∧
      (s.reject m p off c).core.x = s.core.x ∧ (s.reject m p off c).core.pc = s.core.pc ∧
      (s.reject m p off c).core.csr = s.core.csr := by
  have hmine : (s.reject m p off c).own1 m 0x01 0x048 =
      ((s.logErr p (off / 16) c).logMine m p off c).own1 m 0x01 0x048 := by
    cases m <;> rfl
  have hcore : (s.reject m p off c).core = s.core.accessed m s.time.now := by
    cases m <;> rfl
  rw [hmine, hcore, State.logMine, State.own1_setOwn1_self]
  cases m <;> exact ⟨rfl, fun h => by cases h <;> rfl, fun h => by cases h <;> rfl, rfl, rfl, rfl, rfl, rfl,
    s.core.accessed_frame _ _⟩

/-- Settles O6: the row's write is the rejection. -/
theorem refusedWriteOnlyLogs : Obligations.RefusedWriteOnlyLogs := by
  rintro s m page word v c p off rfl rfl hp hgate
  have hd := s.reject_discards m page.toNat (4 * word.toNat) c
  obtain ⟨hmine, hhspi, hdbg, hown, hsense, hgle, hcrib, htime, hx, hpc, hcsr⟩ :=
    s.reject_frame m page.toNat (4 * word.toNat) c
  refine ⟨_, by rw [exec_registerWrite hp, State.write_refuse hgate], hd.answered, hd.logged, ?_, hd.otherRegs, hhspi,
    hdbg, hown, hd.ops, hd.queues, hd.gran, hd.flash, hsense, hgle, hcrib, htime, hx, hpc, hcsr⟩
  rw [hmine, Nat.mul_div_cancel_left _ (by decide)]

/-! ### The memory window -/

section
variable {s : State} {m : Master} {p off : Nat}

/-- An access that brings no error finds the words as they are. -/
theorem State.foundErrors_zero (s : State) (w : Nat) : s.foundErrors w 0 = s := rfl

theorem State.windowRead_pass (hg : s.readGate m p off = .pass) (hready : s.ready 0x1C = true)
    (hsec : s.insecure m 0x1C off = false)
    (hown : flag (s.rg 0x1C (0x0C0 + 4 * ((p * 0x1000 + off - 0x80000) / 0x20000))) 7 = false ∨ s.isOwner m = true)
    {errors : Nat} :
    s.windowRead m p off errors =
      match s.winRef (p * 0x1000 + off) with
      | .outside => s.answer m 0 .done
      | .queue w =>
        if (s.foundErrors w errors).gran.bad.contains w = true then
          ((s.foundErrors w errors).ueRead w).windowReject m p off .integrity
        else
          (((s.foundErrors w errors).correctWords (· == w)).draw.2).answer m
            ((s.foundErrors w errors).correctWords (· == w)).draw.1 .done
      | .word w =>
        match ((s.countAccess false w).foundErrors w errors).readWord w with
        | (s1, some v) => s1.answer m v .done
        | (s1, none) => s1.windowReject m p off .integrity := by
  have hshare :
      (flag (s.rg 0x1C (0x0C0 + 4 * ((p * 0x1000 + off - 0x80000) / 0x20000))) 7 && !s.isOwner m) = false := by
    rcases hown with h | h <;> simp [h]
  unfold State.windowRead
  rw [hg]
  dsimp only
  rw [hready, hsec, hshare, if_neg (by decide), if_neg (by decide), if_neg (by decide)] <;>
    cases s.winRef (p * 0x1000 + off) <;> rfl

theorem State.readWord_good {w : Nat} (h : s.gran.bad.contains w = false) :
    s.readWord w = (if s.gran.soft.contains w = true then s.correctWords (· == w) else s, some (s.sramWord w)) := by
  unfold State.readWord
  rw [h, if_neg (by decide)]
  split <;> rfl

theorem State.windowWrite_pass {v : Word} (hg : s.writeGate m p off v = .pass) (hready : s.ready 0x1C = true)
    (hsec : s.insecure m 0x1C off = false) :
    s.windowWrite m p off v =
      if s.isOwner m = false then s.windowReject m p off .notOwner
      else
        match s.winRef (p * 0x1000 + off) with
        | .outside => s.windowReject m p off .arg
        | .queue _ => s.windowReject m p off .state
        | .word w => ((s.countAccess false w).setSramWord w v).answer m 0 .done := by
  unfold State.windowWrite
  rw [hg]
  dsimp only
  rw [hready, hsec, if_neg (by decide), if_neg (by decide)]
  simp only [Bool.not_eq_true'] <;> rfl

end

/-- Settles O40: a read and a write through an aperture, by what the address reaches. -/
theorem memoryWindow : Obligations.MemoryWindow := by
  rintro s m page word v p off a rfl rfl rfl hready hsec
  refine ⟨fun w hg hown href hbad => ?_, fun hg hown => ⟨fun w href hbad => ?_, fun href e => ?_⟩,
    fun w hg hown href => ?_, fun hg hown => ⟨fun href => ?_, fun w href => ?_⟩, fun hg hown => ?_⟩
  · change Host.Outcome.next (s.windowRead _ _ _ 0) = _
    rw [State.windowRead_pass hg hready hsec hown, href]
    dsimp only
    rw [State.foundErrors_zero, State.readWord_good (s := s.countAccess false w) hbad]
    rfl
  · change Host.Outcome.next (s.windowRead _ _ _ 0) = _
    rw [State.windowRead_pass hg hready hsec hown, href]
    exact congrArg _ (if_pos hbad)
  · change Host.Outcome.next (s.windowRead _ _ _ e.val) = _
    rw [State.windowRead_pass hg hready hsec hown, href]
  · change Host.Outcome.next (s.windowWrite _ _ _ v) = _
    rw [State.windowWrite_pass hg hready hsec, hown, href]
    rfl
  · change Host.Outcome.next (s.windowWrite _ _ _ v) = _
    rw [State.windowWrite_pass hg hready hsec, hown, href]
    rfl
  · change Host.Outcome.next (s.windowWrite _ _ _ v) = _
    rw [State.windowWrite_pass hg hready hsec, hown, href]
    rfl
  · change Host.Outcome.next (s.windowWrite _ _ _ v) = _
    rw [State.windowWrite_pass hg hready hsec, hown]
    rfl

end Sys2Proof.Machine
end

section
/-!
PROOFS. The queues of SHEAF: what a push, a pop and a write of a queue's configuration come to.
-/
namespace Sys2Proof.Machine

/-! ### Items shown -/

theorem Queue.show_nil (q : Queue) : q.show [] = q := by
  rw [Queue.show]

theorem Queue.items_show (q : Queue) (l : List Word) :
    (q.show l).items.length = q.items.length + l.length ∧ (q.show l).items.take q.items.length = q.items := by
  induction l generalizing q with
  | nil => exact ⟨rfl, by rw [Queue.show_nil, List.take_length]⟩
  | cons w l ih =>
    rw [Queue.show]
    obtain ⟨hlen, htake⟩ := ih { q with
      items := q.items ++ [{ word := itemWord (field w 30 29) q.seq.toNat (field w 23 0) }], seq := q.seq + 1 }
    refine ⟨by rw [hlen, List.length_append, List.length_cons, List.length_cons, List.length_nil]; omega, ?_⟩
    have h := congrArg (List.take q.items.length) htake
    rwa [List.take_take, Nat.min_eq_left (by simp), List.take_left'] at h
    rfl

theorem packetItems_length (l : List Word) : (packetItems l).length = l.length := by
  match l with
  | [] => rfl
  | [_] => rfl
  | _ :: _ :: _ => simp [packetItems]

/-! ### Pushes -/

section
variable {s : State} {n who : Nat} {x : Queue}

@[simp] theorem State.queue_putQueue_self (s : State) (n : Nat) (x : Queue) : (s.putQueue n x).queue n = x :=
  Tab.get_set_self

@[simp] theorem State.qcfg_putQueue (s : State) (n k : Nat) (x : Queue) : (s.putQueue n x).qcfg k = s.qcfg k := rfl

@[simp] theorem State.putQueue_putQueue (s : State) (n : Nat) (x y : Queue) (k : Nat) :
    ((s.putQueue n x).putQueue n y).queue k = (s.putQueue n y).queue k := by
  simp only [State.putQueue, State.queue, Tab.get_set]
  split <;> rfl

@[simp] theorem State.logPush_done (s : State) (n : Nat) : s.logPush n .done = s := if_pos rfl

/-- A push to a queue in service, whose pointers agree, and in which no packet is open. -/
theorem State.pushRaw_closed (hup : s.granaryUp = true) (hen : qEn (s.qcfg n) = true)
    (hptr : (s.queue n).ptrBad = false)
    (hopen : (s.queue n).opened = none) (raw : List Word) :
    s.pushRaw n who raw =
      if qCap (s.qcfg n) < (s.queue n).items.length + raw.length then
        ((s.qCount n 11 0).evPulse (0x50 + n) 3, .busy)
      else ((s.putQueue n ((s.queue n).show raw)).refreshQueue n, .done) := by
  simp only [State.pushRaw, hup, hen, hptr, hopen, Option.isSome_none, Bool.and_false, Bool.not_true,
    Bool.false_eq_true,
    if_false, gt_iff_lt]

/-- The first item of a packet opens it. -/
theorem State.pushItem_first (hup : s.granaryUp = true) (hen : qEn (s.qcfg n) = true)
    (hptr : (s.queue n).ptrBad = false) (hopen : (s.queue n).opened = none) (hcut : qCut (s.qcfg n) = false)
    (hhid : (s.queue n).hidden = []) (payload : Nat) :
    s.pushItem n who 1 payload =
      ((s.putQueue n { s.queue n with opened := some who, total := 0, shown := 0 }).putQueue n
        { s.queue n with opened := some who, total := 1, shown := 0, hidden := [rawItem 1 payload] }, .done) := by
  simp [State.pushItem, hup, hen, hptr, hopen, State.appendItem, hcut, hhid]

/-- The last item of a packet in SAF mode shows the packet. -/
theorem State.pushItem_last (hup : s.granaryUp = true) (hen : qEn (s.qcfg n) = true)
    (hptr : (s.queue n).ptrBad = false) (hopen : (s.queue n).opened = some who) (hcut : qCut (s.qcfg n) = false)
    (hhid : (s.queue n).hidden.length < 64)
    (hroom : (s.queue n).items.length + (s.queue n).hidden.length < qCap (s.qcfg n)) (payload : Nat) :
    s.pushItem n who 3 payload =
      ((s.putQueue n { (s.queue n).show ((s.queue n).hidden ++ [rawItem 3 payload]) with
        hidden := [], opened := none, total := 0, shown := 0 }).refreshQueue n, .done) := by
  have h64 : ¬ 64 ≤ (s.queue n).hidden.length := by omega
  have hfit : ¬ qCap (s.qcfg n) < (s.queue n).items.length + ((s.queue n).hidden.length + 1) := by omega
  simp [State.pushItem, hup, hen, hptr, hopen, State.appendItem, hcut, h64, hfit]

theorem State.popItem_good {e : QItem} {rest : List QItem} (hptr : (s.queue n).ptrBad = false)
    (hitems : (s.queue n).items = e :: rest) (hgood : e.bad = false) :
    s.popItem n = ((s.putQueue n { s.queue n with items := rest }).refreshQueue n, e.word, .done) := by
  simp [State.popItem, hptr, hitems, hgood]

theorem State.popItem_empty (hptr : (s.queue n).ptrBad = false) (hitems : (s.queue n).items = []) :
    s.popItem n = (s, 0, .done) := by
  simp [State.popItem, hptr, hitems]

/-- A queue out of service, Q0 and Q1 aside, is given storage where the pool has enough. -/
theorem qcfgEffect_enable {v new : Word} (hnew : new = v &&& 0x07FF07F7) (hn : 2 ≤ n) (hold : qEn (s.qcfg n) = false)
    (hen : qEn new = true) :
    qcfgEffect n v s =
      if (s.rg 0x1B 0x044).toNat < 4 * qCap new then (s, .busy)
      else ((((s.poolTake new).putQueue n {}).setRg 0x1B (0x100 + 0x10 * n) new).refreshQueue n, .done) := by
  have h1 : ¬ n ≤ 1 := by omega
  have h0 : n ≠ 0 := by omega
  unfold qcfgEffect
  rw [← hnew]
  simp [h1, h0, hold, hen]

end

/-! ### The rows -/

section
variable {s : State} {m : Master} {q : Fin 32} {who : Producer} {v : Word}

theorem exec_wholePush {l : List (BitVec 24)} (hl : l ≠ []) (hbar : Producer.barred who q.val = false) :
    exec (.wholePush q who l) s =
      .next ((s.pushRaw q.val (Producer.num who) (packetItems (l.map (·.zeroExtend 32)))).1.logPush q.val
        (s.pushRaw q.val (Producer.num who) (packetItems (l.map (·.zeroExtend 32)))).2) := by
  change execWholePush q who l s = _
  rw [execWholePush, if_neg hl, hbar]
  rfl

theorem exec_itemPush {pos : BitVec 2} {p : BitVec 24} (hbar : Producer.barred who q.val = false) :
    exec (.itemPush q who pos p) s =
      .next ((s.pushItem q.val (Producer.num who) pos.toNat p.toNat).1.logPush q.val
        (s.pushItem q.val (Producer.num who) pos.toNat p.toNat).2) := by
  change execItemPush q who pos p s = _
  rw [execItemPush, hbar]
  rfl

/-- A push of a producer the queue is closed to is refused. -/
theorem exec_push_barred (hbar : Producer.barred who q.val = true) :
    (∀ l, l ≠ [] → exec (.wholePush q who l) s = .next (s.logErr (0x50 + q.val) 4 .arg)) ∧
      ∀ pos p, exec (.itemPush q who pos p) s = .next (s.logErr (0x50 + q.val) 4 .arg) := by
  refine ⟨fun l hl => ?_, fun pos p => ?_⟩
  · change execWholePush q who l s = _
    rw [execWholePush, if_neg hl, hbar]
    rfl
  · change execItemPush q who pos p s = _
    rw [execItemPush, hbar]
    rfl

theorem exec_qwinPush_pass (hg : s.writeGate m (0x50 + q.val) 0x048 v = .pass) :
    exec (.qwinPush m q v) s =
      .next ((pushEffect m q.val v s).1.complete m (0x50 + q.val) 0x048 0 (pushEffect m q.val v s).2) :=
  congrArg _ (State.write_pass hg)

theorem exec_queuePop_pass (hg : s.readGate m (0x50 + q.val) 0x040 = .pass) :
    exec (.queuePop m q) s =
      .next ((popEffect m q.val s).1.complete m (0x50 + q.val) 0x040 (popEffect m q.val s).2.1
        (popEffect m q.val s).2.2) :=
  congrArg _ (State.read_pass hg)

theorem exec_qcfgWrite_pass (hg : s.writeGate m 0x1B (0x100 + 0x10 * q.val) v = .pass) :
    exec (.qcfgWrite m q v) s =
      .next ((qcfgEffect q.val v s).1.complete m 0x1B (0x100 + 0x10 * q.val) 0 (qcfgEffect q.val v s).2) :=
  congrArg _ (State.write_pass hg)

/-- A push of a plain item through QWIN is a push of the item by the master. -/
theorem pushEffect_item (hq : 2 ≤ q.val) (hplain : flag v 31 = false) :
    pushEffect m q.val v s = s.pushItem q.val (Master.id m) (field v 30 29) (field v 23 0) := by
  rw [pushEffect, if_neg (by omega), hplain]
  rfl

end

/-- What Queues says of the pushes to a queue no packet of which is open. -/
theorem queue_pushes {s : State} {q : Fin 32} {who : Producer} {m : Master} {v : Word} (hup : s.granaryUp = true)
    (hen : qEn (s.qcfg q.val) = true) (hptr : (s.queue q.val).ptrBad = false) (hopen : (s.queue q.val).opened = none)
    (hbar : Producer.barred who q.val = false) :
    (∀ l : List (BitVec 24), l ≠ [] → (s.queue q.val).items.length + l.length ≤ qCap (s.qcfg q.val) →
      exec (.wholePush q who l) s =
        .next ((s.putQueue q.val ((s.queue q.val).show (packetItems (l.map (·.zeroExtend 32))))).refreshQueue q.val)) ∧
    (∀ l : List (BitVec 24), l ≠ [] → qCap (s.qcfg q.val) < (s.queue q.val).items.length + l.length →
      exec (.wholePush q who l) s =
        .next (((s.qCount q.val 11 0).evPulse (0x50 + q.val) 3).logErr (0x50 + q.val) 4 .busy)) ∧
    (∀ p : BitVec 24, qCut (s.qcfg q.val) = false → (s.queue q.val).hidden = [] →
      ∃ t, exec (.itemPush q who 1 p) s = .next t ∧
        t.queue q.val = { s.queue q.val with
          opened := some (Producer.num who), total := 1, shown := 0, hidden := [rawItem 1 p.toNat] } ∧
        t.own = s.own ∧ t.flash = s.flash) ∧
    (∀ p : BitVec 24, (s.queue q.val).items.length < qCap (s.qcfg q.val) →
      exec (.itemPush q who 0 p) s =
        .next ((s.putQueue q.val ((s.queue q.val).show [rawItem 0 p.toNat])).refreshQueue q.val)) ∧
    (2 ≤ q.val → s.writeGate m (0x50 + q.val) 0x048 v = .pass → flag v 31 = false → field v 30 29 = 0 →
      (s.queue q.val).items.length < qCap (s.qcfg q.val) →
      exec (.qwinPush m q v) s =
        .next (((s.putQueue q.val ((s.queue q.val).show [rawItem 0 (field v 23 0)])).refreshQueue q.val).answer m 0
          .done)) := by
  have push (k : Nat) (raw : List Word) := State.pushRaw_closed (who := k) hup hen hptr hopen raw
  have hlen (l : List (BitVec 24)) : (packetItems (l.map (·.zeroExtend 32))).length = l.length := by
    rw [packetItems_length, List.length_map]
  refine ⟨fun l hl hfit => ?_, fun l hl hfull => ?_, fun p hcut hhid => ?_, fun p hfit => ?_,
    fun hq hg hplain hpos hfit => ?_⟩
  · rw [exec_wholePush hl hbar, push, if_neg (by rw [hlen]; omega), State.logPush_done]
  · rw [exec_wholePush hl hbar, push, if_pos (by rw [hlen]; omega)]
    rfl
  · refine ⟨_, exec_itemPush hbar, ?_⟩
    rw [show (1 : BitVec 2).toNat = 1 from rfl, State.pushItem_first hup hen hptr hopen hcut hhid, State.logPush_done]
    exact ⟨State.queue_putQueue_self _ _ _, rfl, rfl⟩
  · have hitem : s.pushItem q.val (Producer.num who) (0 : BitVec 2).toNat p.toNat =
        s.pushRaw q.val (Producer.num who) [rawItem 0 p.toNat] := rfl
    rw [exec_itemPush hbar, hitem, push, if_neg (by rw [List.length_singleton]; omega), State.logPush_done]
  · have hitem : s.pushItem q.val (Master.id m) 0 (field v 23 0) =
        s.pushRaw q.val (Master.id m) [rawItem 0 (field v 23 0)] := rfl
    rw [exec_qwinPush_pass hg, pushEffect_item hq hplain, hpos, hitem, push,
      if_neg (by rw [List.length_singleton]; omega), State.complete_done]

/-- Settles O37: the pushes, the pops and the configuration of a queue, each by the queue it finds. -/
theorem queues : Obligations.Queues := by
  rintro s q who m v c x rfl rfl
  refine ⟨fun hup hen hptr hopen hbar => ?_, fun l pos p hl hbar => ?_, 
    fun p hup hen hptr hcut hbar hopen hhid hroom => ?_,
    rfl, fun hq hg => ?_, fun e rest hg hcons hptr hitems hgood => ?_, fun hg hcons hptr hitems => ?_,
    fun hg hcons => ?_, fun new hnew hq hg hold hen => ?_⟩
  · obtain ⟨hwhole, hfull, hfirst, hitem, hqwin⟩ := queue_pushes (m := m) (v := v) hup hen hptr hopen hbar
    refine ⟨fun l hl hfit => ⟨hwhole l hl hfit, ?_⟩, hfull, hfirst, hitem, hqwin⟩
    obtain ⟨hlen, htake⟩ := Queue.items_show (s.queue q.val) (packetItems (l.map (·.zeroExtend 32)))
    exact ⟨by rw [hlen, packetItems_length, List.length_map], htake⟩
  · exact ⟨(exec_push_barred hbar).1 l hl, (exec_push_barred hbar).2 pos p⟩
  · rw [exec_itemPush hbar, show (3 : BitVec 2).toNat = 3 from rfl,
      State.pushItem_last hup hen hptr hopen hcut hhid hroom, State.logPush_done]
  · rw [exec_qwinPush_pass hg, pushEffect, if_pos hq]
    rfl
  · rw [exec_queuePop_pass hg, popEffect, if_pos hcons, State.popItem_good hptr hitems hgood, State.complete_done]
  · rw [exec_queuePop_pass hg, popEffect, if_pos hcons, State.popItem_empty hptr hitems, State.complete_done]
  · rw [exec_queuePop_pass hg, popEffect, hcons]
    rfl
  · refine ⟨fun hpool => ?_, fun hpool => ?_⟩
    · rw [exec_qcfgWrite_pass hg, qcfgEffect_enable hnew hq hold hen, if_neg (by omega), State.complete_done]
    · rw [exec_qcfgWrite_pass hg, qcfgEffect_enable hnew hq hold hen, if_pos hpool]
      rfl

end Sys2Proof.Machine
end

section
/-!
PROOFS. The queue of commands, the registers without behaviour of their own, the common header, and the 64-bit values.
-/
namespace Sys2Proof.Machine

/-! ### The queue of commands -/

/-- Settles O1: the queue with the command taken off is the queue as it was. -/
theorem stepRunsFront : Obligations.StepRunsFront := fun _ _ => rfl

/-- Settles O2: nothing is at the front of the queue. -/
theorem stepOnEmptyQueue : Obligations.StepOnEmptyQueue := by
  intro s h
  unfold step
  rw [h]
  rfl

/-! ### Bits of a word -/

theorem getLsbD_ofNat_shiftLeft_one {i k : Nat} (hi : i < 32) :
    (BitVec.ofNat 32 (1 <<< i) : Word).getLsbD k = decide (k = i) := by
  rw [BitVec.getLsbD_ofNat, Nat.one_shiftLeft, Nat.testBit_two_pow]
  by_cases h : k = i
  · subst h; simp [hi]
  · simp [h, Ne.symm h]

theorem getLsbD_bit_shiftLeft {i k : Nat} {b : Bool} (hi : i < 32) :
    (BitVec.ofNat 32 ((bit b % 2 ^ 1) <<< i) : Word).getLsbD k = (b && decide (k = i)) := by
  cases b
  · have h0 : (bit false % 2 ^ 1) <<< i = 0 := Nat.zero_shiftLeft i
    rw [h0]
    simp
  · exact (getLsbD_ofNat_shiftLeft_one hi).trans (Bool.true_and _).symm

/-- A bit given a value. -/
theorem flag_setFlag {w : Word} {i j : Nat} {b : Bool} (hi : i < 32) :
    flag (setFlag w i b) j = if j = i then b else flag w j := by
  have hw : i + 1 - i = 1 := by omega
  have hmask : (BitVec.ofNat 32 ((2 ^ 1 - 1) <<< i) : Word).getLsbD j = decide (j = i) :=
    getLsbD_ofNat_shiftLeft_one hi
  unfold flag setFlag setField
  dsimp only
  rw [hw, BitVec.getLsbD_or, BitVec.getLsbD_and, BitVec.getLsbD_not, hmask, getLsbD_bit_shiftLeft hi]
  by_cases hj : j = i
  · simp [hj]
  · have hlt : w.getLsbD j = true → j < 32 := BitVec.lt_of_getLsbD
    cases h : w.getLsbD j <;> simp_all

theorem setFlag_flag {w : Word} {i : Nat} (hi : i < 32) : setFlag w i (flag w i) = w := by
  refine BitVec.eq_of_getLsbD_eq fun j _ => ?_
  change flag (setFlag w i (flag w i)) j = flag w j
  rw [flag_setFlag hi]
  split
  · rename_i h; rw [h]
  · rfl

end Sys2Proof.Machine
end

section
/-!
PROOFS. Registers without behaviour of their own, the common header, AON's answers, and the 64-bit values.
-/
namespace Sys2Proof.Machine

/-! ### Plain registers -/

/-- Registers a write only stores in. -/
def plainRegs : List (Nat × Nat) :=
  (List.range 8).map (fun i => (0x02, 0x040 + 4 * i)) ++
    [(0x02, 0x070), (0x05, 0x04C), (0x05, 0x050), (0x05, 0x054), (0x06, 0x048), (0x0A, 0x050), (0x3C, 0x054)]

/-- Each is read and written, and not banked. -/
theorem plainRegs_stored :
    ∀ x ∈ plainRegs, (regAt x.1 x.2).all (fun d => d.acc == .rw && !d.bank) = true ∧ x.1 < 0x80 := by
  decide

theorem regWrite_plainRegs (m : Master) (v : Word) (s : State) :
    ∀ x ∈ plainRegs, regWrite m x.1 x.2 v s = s.plainWrite m x.1 x.2 v := by
  intro x hx
  fin_cases hx <;> rfl

theorem plainWrite_rw {s : State} {m : Master} {p off : Nat} {v : Word} {d : RegDef} (hreg : regAt p off = some d)
    (hacc : d.acc = .rw) (hbank : d.bank = false) :
    s.plainWrite m p off v = (s.setRg p off (v &&& BitVec.ofNat 32 d.mask), .done) := by
  unfold State.plainWrite storeBits
  rw [hreg]
  dsimp only
  rw [hacc, hbank]
  rfl

section
variable {s : State} {m : Master} {p off : Nat} {v : Word} {page : BitVec 8} {word : BitVec 10}

theorem exec_registerWrite_plain {d : RegDef} (hp : page.toNat = p) (hoff : 4 * word.toNat = off)
    (hmem : (p, off) ∈ plainRegs) (hreg : regAt p off = some d) (hg : s.writeGate m p off v = .pass) :
    exec (.registerWrite m page word v) s =
      .next ((s.setRg p off (v &&& BitVec.ofNat 32 d.mask)).answer m 0 .done) := by
  subst hp hoff
  obtain ⟨hkind, hlt⟩ := plainRegs_stored _ hmem
  rw [hreg, Option.all_some, Bool.and_eq_true, beq_iff_eq, Bool.not_eq_true'] at hkind
  rw [exec_registerWrite hlt, State.write_pass hg, regWrite_plainRegs m v s _ hmem,
    plainWrite_rw hreg hkind.1 hkind.2, State.complete_done]

/-- A register of a page whose reads do nothing else. -/
theorem regRead_plain (hkind : pageKind p ∉ [0x50, 0x0A, 0x19, 0x07, 0x10, 0x08, 0x32, 0x21, 0x28])
    (hpair : pairOf p off = 0) : regRead m p off s = (s, s.view m p off, .done) := by
  simp only [List.mem_cons, List.not_mem_nil, or_false, not_or] at hkind
  obtain ⟨h50, h0A, h19, h07, h10, -, h32, h21, h28⟩ := hkind
  simp [regRead, hpair, h50, h0A, h19, h07, h10, h32, h21, h28]

/-! ### AON's answers -/

theorem State.busWrite_proxy (hp : p < 0x80) (h : s.reachGate m p = .proxy) :
    s.busWrite m p off v = s.proxyWrite m p off := by
  have hg : s.writeGate m p off v = .proxy := by simp [State.writeGate, h]
  rw [State.busWrite, if_neg (by omega), State.write, hg]

theorem State.busRead_proxy (hp : p < 0x80) (h : s.reachGate m p = .proxy) :
    s.busRead m p off = s.proxyRead m p off := by
  have hg : s.readGate m p off = .proxy := by simp [State.readGate, h]
  rw [State.busRead, if_neg (by omega), State.read, hg]

/-- Beside STAMP, AON has the words of PID and READY. -/
theorem State.proxyRead_plain (hp : p < 0x80) (h20 : off ≠ 0x020) (h24 : off ≠ 0x024) :
    s.proxyRead m p off = s.answer m (if off = 0x000 ∨ off = 0x004 then s.headerView p off else 0) .done := by
  unfold State.proxyRead
  by_cases h : off = 0x000 ∨ off = 0x004
  · rw [if_pos (by simpa [hp] using h), if_pos h]
  · rw [if_neg (by simpa [hp] using h), if_neg (by simp [h20]), if_neg (by simp [h24]), if_neg h]

theorem State.proxyRead_stamp (hp : p < 0x80) (hno : s.shadowOf m p = none) :
    s.proxyRead m p 0x020 =
        (s.setShadow m p (some { off := 0x020, low := none, high := s.rg p 0x024 })).answer m (s.rg p 0x020) .done ∧
      s.proxyRead m p 0x024 = s.answer m (s.rg p 0x024) .done := by
  simp [State.proxyRead, State.lowRead, State.highRead, hno, hp]

/-! ### The common header -/

/-- A soft reset asked for leaves EN as it was. -/
theorem ctlEffect_softReset (hfix : fixedCtl p = false) :
    ctlEffect p (setFlag (s.rg p 0x008 &&& 1) 1 true) s =
      ((s.setRg p 0x008 (s.rg p 0x008)).softReset p, .done) := by
  have hen : flag (setFlag (s.rg p 0x008 &&& 1) 1 true) 0 = flag (s.rg p 0x008) 0 := by
    rw [flag_setFlag (by decide), if_neg (by decide)]
    simp [flag]
  have hsrst : flag (setFlag (s.rg p 0x008 &&& 1) 1 true) 1 = true := by
    rw [flag_setFlag (by decide), if_pos rfl]
  have hclr : flag (setFlag (s.rg p 0x008 &&& 1) 1 true) 2 = false := by
    rw [flag_setFlag (by decide), if_neg (by decide)]
    simp [flag]
  unfold ctlEffect
  dsimp only
  rw [hen, hsrst, hclr, hfix]
  simp [State.updRg, setFlag_flag]

theorem ctlEffect_fixed_softReset (hfix : fixedCtl p = true) :
    ctlEffect p (setFlag (if fixedCtl p then 0 else s.rg p 0x008 &&& 1) 1 true) s = (s, .arg) := by
  rw [if_pos hfix]
  unfold ctlEffect
  rw [if_pos hfix]
  rfl

/-- LINK is enabled where R421 lets it, and disabled. -/
theorem ctlEffect_link (hsrst : flag v 1 = false) (hclr : flag v 2 = false)
    (hen : flag v 0 = true → flag (s.rg 0x2A 0x008) 0 = false → s.linkMayEn = true) :
    ctlEffect 0x2A v s =
      (let t := s.setRg 0x2A 0x008 (setFlag (s.rg 0x2A 0x008) 0 (flag v 0))
       if flag v 0 = true ∧ flag (s.rg 0x2A 0x008) 0 = false then { t with link := { t.link with heard := false } }
       else t, .done) := by
  have hfix : fixedCtl 0x2A = false := rfl
  unfold ctlEffect
  dsimp only
  rw [hfix, hsrst, hclr]
  cases hold : flag (s.rg 0x2A 0x008) 0
  · cases hnew : flag v 0
    · rfl
    · rw [hen hnew hold]
      rfl
  · cases hnew : flag v 0 <;> rfl

/-- The window's pages have no header. -/
theorem exec_header_window (hp : 0x80 ≤ page.toNat) :
    exec (.errcClr m page) s = .fault .illFormed ∧ exec (.evflgClear m page v) s = .fault .illFormed ∧
      exec (.accessWrite m page v) s = .fault .illFormed ∧ exec (.srst m page) s = .fault .illFormed :=
  ⟨if_pos hp, if_pos hp, if_pos hp, if_pos hp⟩

theorem exec_errcClr (hp : page.toNat < 0x80) (hg : s.writeGate m page.toNat 0x008 0x4 = .pass) :
    exec (.errcClr m page) s = .next ((s.setRg page.toNat 0x018 0).answer m 0 .done) :=
  (if_neg (by omega)).trans (congrArg _ (State.write_pass hg))

theorem exec_evflgClear (hp : page.toNat < 0x80) (hg : s.writeGate m page.toNat 0x010 v = .pass) :
    exec (.evflgClear m page v) s =
      .next (((s.setRg page.toNat 0x010 (s.rg page.toNat 0x010 &&& ~~~v)).settle s page.toNat).answer m 0 .done) :=
  (if_neg (by omega)).trans (congrArg _ (State.write_pass hg))

theorem exec_accessWrite (hp : page.toNat < 0x80) (hg : s.writeGate m page.toNat 0x01C v = .pass) :
    exec (.accessWrite m page v) s =
      .next ((s.setRg page.toNat 0x01C (pack [(0, 1, bit (flag v 0)),
        (1, 1, bit (flag v 1 || page.toNat == 0x04 || page.toNat == 0x3A)), (31, 1, bit (flag v 31))])).answer m 0
          .done) :=
  (if_neg (by omega)).trans (congrArg _ (State.write_pass hg))

theorem exec_srst (hp : page.toNat < 0x80) :
    exec (.srst m page) s =
      .next (s.write m page.toNat 0x008
        (setFlag (if fixedCtl page.toNat then 0 else s.rg page.toNat 0x008 &&& 1) 1 true)
        (ctlEffect page.toNat (setFlag (if fixedCtl page.toNat then 0 else s.rg page.toNat 0x008 &&& 1) 1 true))) :=
  if_neg (by omega)

end

/-- Settles O7: the plain registers, AON's answers, and the header, row by row. -/
theorem registerAndHeaderRows : Obligations.RegisterAndHeaderRows := by
  refine ⟨?_, ?_⟩
  · rintro s m page word p off v hp hoff
    refine ⟨fun d hmem hreg hg => exec_registerWrite_plain hp hoff hmem hreg hg, ?_, ?_⟩
    · subst hp hoff
      intro hlt _ hkind hpair hg
      rw [exec_registerRead hlt, State.read_pass hg, regRead_plain hkind hpair, State.complete_done]
    · subst hp
      intro hlt hproxy
      refine ⟨?_, fun h20 h24 => ?_, fun h20 hno => ?_, fun h24 hno => ?_⟩
      · rw [← hoff]
        exact congrArg _ (State.busWrite_proxy hlt hproxy)
      · change Host.Outcome.next (s.busRead m page.toNat (4 * word.toNat)) = _
        rw [hoff, State.busRead_proxy hlt hproxy, State.proxyRead_plain hlt h20 h24]
      · change Host.Outcome.next (s.busRead m page.toNat (4 * word.toNat)) = _
        rw [hoff, h20, State.busRead_proxy hlt hproxy, (State.proxyRead_stamp hlt hno).1]
      · change Host.Outcome.next (s.busRead m page.toNat (4 * word.toNat)) = _
        rw [hoff, h24, State.busRead_proxy hlt hproxy, (State.proxyRead_stamp hlt hno).2]
  · rintro s m page v p rfl
    refine ⟨exec_errcClr, exec_evflgClear, exec_accessWrite, fun hp hfix hg => ?_, fun hp hfix hg => ?_,
      fun hg hsrst hclr hen => ?_, exec_header_window⟩
    · rw [exec_srst hp, hfix, if_neg (by decide), State.write_pass hg, ctlEffect_softReset hfix, State.complete_done]
    · have hg' : s.writeGate m page.toNat 0x008
          (setFlag (if fixedCtl page.toNat then 0 else s.rg page.toNat 0x008 &&& 1) 1 true) = .pass := by
        rw [if_pos hfix]; exact hg
      rw [exec_srst hp, State.write_pass hg', ctlEffect_fixed_softReset hfix]
      rfl
    · change Host.Outcome.next (s.write m 0x2A 0x008 v (ctlEffect 0x2A v)) = _
      rw [State.write_pass hg, ctlEffect_link hsrst hclr hen, State.complete_done]

/-! ### 64-bit values -/

section
variable {s : State} {m : Master} {p off : Nat}

theorem State.lowRead_fill {lo hi : Word} (h : (s.shadowOf m p).all (fun x => x.low.isNone || x.off != off) = true) :
    s.lowRead m p off lo hi = (s.setShadow m p (some { off := off, low := none, high := hi }), lo) := by
  unfold State.lowRead
  cases hs : s.shadowOf m p with
  | none => rfl
  | some x =>
    rw [hs, Option.all_some] at h
    cases hl : x.low with
    | none => simp [hl]
    | some w =>
      have hne : x.off ≠ off := by simpa [hl] using h
      simp [hl, hne]

theorem State.lowRead_held {lo hi : Word} {x : Shadow} {w : Word} (hs : s.shadowOf m p = some x) (hl : x.low = some w)
    (ho : x.off = off) : s.lowRead m p off lo hi = (s.setShadow m p (some { x with low := none }), w) := by
  simp [State.lowRead, hs, hl, ho]

theorem State.highRead_shadow {hi : Word} {x : Shadow} (hs : s.shadowOf m p = some x) (ho : x.off + 4 = off) :
    s.highRead m p off hi = (s.setShadow m p none, x.high) := by
  simp [State.highRead, hs, ho]

theorem State.highRead_live {hi : Word} (h : (s.shadowOf m p).all (fun x => x.off + 4 != off) = true) :
    s.highRead m p off hi = (s, hi) := by
  unfold State.highRead
  cases hs : s.shadowOf m p with
  | none => rfl
  | some x =>
    have hne : x.off + 4 ≠ off := by simpa [hs] using h
    simp [hne]

theorem regRead_low (hpair : pairOf p off = 1) :
    regRead m p off s =
      ((s.lowRead m p off (s.view m p off) (s.view m p (off + 4))).1,
        (s.lowRead m p off (s.view m p off) (s.view m p (off + 4))).2, .done) := by
  rw [regRead, if_pos hpair]
  rfl

theorem regRead_high (hpair : pairOf p off = 2) :
    regRead m p off s =
      ((s.highRead m p off (s.view m p off)).1, (s.highRead m p off (s.view m p off)).2, .done) := by
  rw [regRead, if_neg (by omega), if_pos hpair]
  rfl

/-- Past the header a write of half of a 64-bit value goes by the half. -/
theorem regWrite_past_header {v : Word} (hoff : 0x040 ≤ off) :
    regWrite m p off v s =
      if pairOf p off = 1 then lowWriteEffect m p off v s
      else if pairOf p off = 2 then highWriteEffect m p off v s
      else blockWrite m p off v s := by
  unfold regWrite
  rw [if_neg (by omega), if_neg (by omega), if_neg (by omega), if_neg (by omega), if_neg (by omega)]

theorem regWrite_low {v : Word} {d : RegDef} (hoff : 0x040 ≤ off) (hreg : regAt p off = some d) (hpair : d.pair = 1)
    (hacc : d.acc ≠ .ro) (harm : s.alarmArmed off = false) :
    regWrite m p off v s = (s.setLow m (ra p off) (some v), .done) := by
  have hp : pairOf p off = 1 := by rw [pairOf, hreg]; exact hpair
  rw [regWrite_past_header hoff, if_pos hp]
  simp [lowWriteEffect, hreg, hacc, harm]

theorem regWrite_high {v lo : Word} {d : RegDef} (hoff : 0x040 ≤ off) (hreg : regAt p off = some d)
    (hpair : d.pair = 2) (hacc : d.acc ≠ .ro) (harm : s.alarmArmed off = false)
    (hlo : s.lowOf m (ra p (off - 4)) = some lo) :
    regWrite m p off v s =
      (((s.setLow m (ra p (off - 4)) none).setRg p (off - 4) lo).setRg p off v, .done) := by
  have hp : pairOf p off = 2 := by rw [pairOf, hreg]; exact hpair
  rw [regWrite_past_header hoff, if_neg (by omega), if_pos hp]
  simp [highWriteEffect, hreg, hacc, harm, hlo]

end

/-- Settles O8: each half of a pair, by the shadow and the held word it finds. -/
theorem sixtyFourBitValues : Obligations.SixtyFourBitValues := by
  rintro s m page word p off rfl rfl hp
  have read : exec (.lowWordRead m page word) s =
        .next (s.read m page.toNat (4 * word.toNat) (regRead m page.toNat (4 * word.toNat))) ∧
      exec (.highWordRead m page word) s =
        .next (s.read m page.toNat (4 * word.toNat) (regRead m page.toNat (4 * word.toNat))) :=
    ⟨exec_registerRead hp, exec_registerRead hp⟩
  have write (v : Word) : exec (.lowWordWrite m page word v) s =
        .next (s.write m page.toNat (4 * word.toNat) v (regWrite m page.toNat (4 * word.toNat) v)) ∧
      exec (.highWordWrite m page word v) s =
        .next (s.write m page.toNat (4 * word.toNat) v (regWrite m page.toNat (4 * word.toNat) v)) :=
    ⟨exec_registerWrite hp, exec_registerWrite hp⟩
  refine ⟨fun hpair hg hs => ?_, fun x w hpair hg hs hl ho => ?_, fun x hpair hg hs ho => ?_, fun hpair hg hs => ?_,
    fun v d hreg hpair hacc hoff hg harm => ?_, fun v lo d hreg hpair hacc hoff hg harm hlo => ?_⟩
  · rw [read.1, State.read_pass hg, regRead_low hpair, State.lowRead_fill hs, State.complete_done]
  · rw [read.1, State.read_pass hg, regRead_low hpair, State.lowRead_held hs hl ho, State.complete_done]
  · rw [read.2, State.read_pass hg, regRead_high hpair, State.highRead_shadow hs ho, State.complete_done]
  · rw [read.2, State.read_pass hg, regRead_high hpair, State.highRead_live hs, State.complete_done]
  · rw [(write v).1, State.write_pass hg, regWrite_low hoff hreg hpair hacc harm, State.complete_done]
  · rw [(write v).2, State.write_pass hg, regWrite_high hoff hreg hpair hacc harm hlo, State.complete_done]

end Sys2Proof.Machine
end

section
/-!
PROOFS. Ownership: election, lease, handover and release.
-/
namespace Sys2Proof.Machine

section
variable {s : State} {m : Master} {v : Word}

theorem State.leaseOver_of_no_owner (h : s.own.owner = none) : s.leaseOver = false := by
  simp [State.leaseOver, h]

theorem State.isOwner_of_owner (h : s.own.owner = some m) (hl : s.leaseOver = false) : s.isOwner m = true := by
  simp [State.isOwner, State.holds, h, hl]

/-- A claim of a key, a period and a priority, on a device without an owner. -/
theorem claimEffect_ownerless (hkey : field v 31 24 = 0xC7) (h1 : 1 ≤ field v 15 0) (h2 : field v 15 0 ≤ 60000)
    (hprio : s.prio m ≠ 0) (hown : s.own.owner = none) :
    claimEffect m v s =
      match s.own.window with
      | some t =>
        if t ≤ s.now then (s, .state)
        else ({ s with own := { s.own with claims := lodge s.own.claims m (field v 15 0) } }, .done)
      | none =>
        (({ s with own := { s.own with
            window := some (s.after (usTime 100)), claims := [(m, field v 15 0)] } } : State).evLevel 0x01 2 true,
          .done) := by
  have h0 : field v 15 0 ≠ 0 := by omega
  have h6 : ¬ field v 15 0 > 60000 := by omega
  cases hwin : s.own.window <;>
    simp [claimEffect, State.leaseOver_of_no_owner hown, hkey, h0, h6, hprio, hown, hwin]

theorem exec_claim_pass (hg : s.writeGate m 0x01 0x04C v = .pass) :
    exec (.claim m v) s = .next ((claimEffect m v s).1.complete m 0x01 0x04C 0 (claimEffect m v s).2) :=
  congrArg _ (State.write_pass hg)

end

/-- Settles O11: the claim by the window it finds, and the close by the change of owner. -/
theorem election : Obligations.Election := by
  intro s m v
  refine ⟨fun hg hkey h1 h2 hprio hown hwin => ?_, fun t hg hkey h1 h2 hprio hown hwin hnow => ?_,
    fun t w period hwin hw => ?_⟩
  · rw [exec_claim_pass hg, claimEffect_ownerless hkey h1 h2 hprio hown, hwin, State.complete_done]
  · rw [exec_claim_pass hg, claimEffect_ownerless hkey h1 h2 hprio hown, hwin]
    dsimp only
    rw [if_neg (by simpa using hnow), State.complete_done]
    rfl
  · have hclose : s.closeWindow = ((s.reach t).changeOwner 0x8 (some w) (Master.id w)).startLease period := by
      have hw' : (s.reach t).winner = some (w, period) := hw
      unfold State.closeWindow
      rw [hwin]
      dsimp only
      rw [hw']
    refine ⟨_, congrArg Host.Outcome.next hclose, ?_⟩
    simp only [State.startLease, State.changeOwner_own, State.changeOwner_gran, State.changeOwner_flash,
      State.changeOwner_core, State.changeOwner_bank, true_and]
    exact ⟨rfl, rfl, rfl, rfl, rfl⟩

/-! ### Lease and handover -/

section
variable {s : State} {m : Master} {v : Word}

theorem leaseEffect_owner (hown : s.isOwner m = true) (hep : field v 15 0 = s.own.epoch.toNat)
    (hper : field v 31 16 ≤ 60000) :
    leaseEffect m v s = (s.startLease (if field v 31 16 = 0 then s.own.period else field v 31 16), .done) := by
  have h6 : ¬ field v 31 16 > 60000 := by omega
  simp [leaseEffect, hown, hep, h6]

theorem handoverEffect_given {t : Master} (hown : s.isOwner m = true) (ht : masterOf (field v 2 0) = some t)
    (hne : t ≠ m) (hkey : field v 31 24 = 0x4B) (hprio : s.prio t ≠ 0) (hdbg : t = .debug → s.fuse.debugClosed = false)
    (hrad : t = .radio → s.link.mgmt.isSome = true) :
    handoverEffect m v s =
      (({ s with own := { s.own with handover := some (t, s.after (msTime 10)) } } : State).evLevel 0x01 3 true,
        .done) := by
  have hshut : ((t == .debug && s.fuse.debugClosed) || (t == .radio && s.link.mgmt.isNone)) = false := by
    cases t
    case debug => simp [hdbg]
    case radio =>
      have h := hrad rfl
      rw [Option.isSome_iff_exists] at h
      obtain ⟨_, h⟩ := h
      simp [h]
    all_goals rfl
  unfold handoverEffect
  rw [hown, if_neg (by decide), ht]
  dsimp only
  rw [hshut, if_neg (by simp [hkey]), if_neg (by simp [hprio]), if_neg (by decide), if_neg (by simp [hne])]

theorem acceptEffect_given {due : Stamp} (hkey : field v 31 24 = 0x4B) (h1 : 1 ≤ field v 15 0)
    (h2 : field v 15 0 ≤ 60000) (hho : s.own.handover = some (m, due)) (hdue : s.now < due)
    (hl : s.leaseOver = false) (hprio : s.prio m ≠ 0) :
    acceptEffect m v s = ((s.changeOwner 0xA (some m) (Master.id m)).startLease (field v 15 0), .done) := by
  have h0 : field v 15 0 ≠ 0 := by omega
  have h6 : ¬ field v 15 0 > 60000 := by omega
  have hnow : ¬ due ≤ s.now := by simpa using hdue
  simp [acceptEffect, hkey, h0, h6, hho, hnow, hl, hprio]

theorem releaseEffect_owner (hown : s.isOwner m = true) (hv : v = BitVec.ofNat 32 s.own.epoch.toNat) :
    releaseEffect m v s = (s.changeOwner 0xB none (Master.id m), .done) := by
  unfold releaseEffect
  rw [hown, if_neg (by decide), if_neg (by simp [hv])]

theorem State.lapse_owned (hown : s.own.owner = some m) (hheld : s.own.held = none) :
    s.lapse = ((s.reach s.own.due).evPulse 0x01 1).changeOwner 0x9 none 0xF := by
  unfold State.lapse
  rw [hown, hheld]

theorem State.expireHandover_pending {t : Master} {due : Stamp} (hho : s.own.handover = some (t, due))
    (hheld : s.own.held = none) :
    s.expireHandover =
      ((({ (s.reach due) with own := { s.own with handover := none } } : State).evLevel 0x01 3 false).evPulse 0x01
        4) := by
  unfold State.expireHandover
  rw [hho, hheld]
  rfl

end

theorem OptionState.program_number (o : OptionState) (l : List AuditEntry) :
    (o.program l).number = o.number + BitVec.ofNat 16 l.length := by
  induction l generalizing o with
  | nil => simp [OptionState.program]
  | cons e l ih =>
    rw [OptionState.program, ih, List.length_cons]
    bv_omega

/-- Settles O13: each row by what it makes of the owner and the pending handover. -/
theorem leaseAndHandover : Obligations.LeaseAndHandover := by
  intro s m v
  refine ⟨fun hg hown hl hep hper => ?_, fun hown hheld => ?_, fun t hg hown hl ht hne hkey hprio hdbg hrad => ?_,
    fun t due hho hheld => congrArg Host.Outcome.next (State.expireHandover_pending hho hheld),
    fun due hg hkey h1 h2 hho hdue hl hprio => ?_, fun hg hown hl hv => ?_, fun hup => ⟨?_, s.opt.program_number _⟩⟩
  · have h := State.isOwner_of_owner hown hl
    refine congrArg Host.Outcome.next ?_
    rw [State.write_pass hg, leaseEffect_owner h hep hper, State.complete_done]
  · refine ⟨_, congrArg Host.Outcome.next (State.lapse_owned hown hheld), ?_⟩
    simp only [State.changeOwner_own, State.changeOwner_gran, State.changeOwner_flash, State.changeOwner_core,
      true_and]
    rw [State.evPulse_events]
    exact ⟨rfl, rfl, rfl, rfl⟩
  · have h := State.isOwner_of_owner hown hl
    refine congrArg Host.Outcome.next ?_
    rw [State.write_pass hg, handoverEffect_given h ht hne hkey hprio hdbg hrad, State.complete_done]
  · refine ⟨_, congrArg Host.Outcome.next (State.write_pass hg), ?_⟩
    rw [acceptEffect_given hkey h1 h2 hho hdue hl hprio, State.complete_done]
    simp [State.startLease, State.changeOwner_own, State.changeOwner_gran, State.changeOwner_flash]
  · have h := State.isOwner_of_owner hown hl
    refine ⟨_, congrArg Host.Outcome.next (State.write_pass hg), ?_⟩
    rw [releaseEffect_owner h hv, State.complete_done]
    simp [State.changeOwner_own, State.changeOwner_gran, State.changeOwner_flash]
  · exact congrArg Host.Outcome.next (if_pos hup)

end Sys2Proof.Machine
end

section
/-!
PROOFS. Readiness, the option area, mailboxes, operation slots, and the state after reset.
-/
namespace Sys2Proof.Machine

/-! ### Readiness -/

/-- Pages with nothing to do when they become READY. -/
theorem State.onReady_plain {p : Nat} (hp : p ∈ [0x00, 0x01, 0x05, 0x06, 0x07, 0x08, 0x09, 0x0A]) (s : State) :
    s.onReady p = s := by
  simp only [List.mem_cons, List.not_mem_nil, or_false] at hp
  rcases hp with rfl | rfl | rfl | rfl | rfl | rfl | rfl | rfl <;> rfl

theorem State.raiseReady_plain {s : State} {p : Nat} (hp : p ∈ [0x00, 0x01, 0x05, 0x06, 0x07, 0x08, 0x09, 0x0A])
    (hsrst : flag (s.rg p 0x008) 1 = false) :
    s.raiseReady p =
      (((s.setRg p 0x008 (setFlag (s.rg p 0x008) 1 false)).setReadyBits p (fun w => setFlag w 0 true)).stampWake
        p).syncWdt := by
  unfold State.raiseReady
  dsimp only
  rw [State.onReady_plain hp, hsrst, if_neg (by decide)]

theorem State.failStart_due {s : State} {p g : Nat} (hg : startGroup p = some g) (has : s.assigned p = true)
    (hdead : s.dead = false) (hready : s.ready p = false) (hfault : flag (s.rg p 0x004) 2 = false)
    (hav : s.unavailable (islandOf p) = false) (hsup : 5 ≤ g → s.groupSupply g = true) :
    s.failStart p =
      ((s.reach (s.startLimit p)).setReadyBits p (fun w => setFlag (setFlag w 2 true) 0 false)).faultRec 0x0F p g := by
  have hlate : (decide (5 ≤ g) && !s.groupSupply g) = false := by
    by_cases h : 5 ≤ g
    · rw [hsup h, Bool.not_true, Bool.and_false]
    · rw [decide_eq_false h, Bool.false_and]
  unfold State.failStart
  rw [hg]
  dsimp only
  rw [hdead, has, hready, hfault, hav, hlate, if_neg (by decide)]

/-! ### The option area -/

/-- The load takes a copy, follows its window and records a lost copy. -/
theorem State.loadOption_frame (s : State) :
    s.loadOption.opt = s.opt.choose ∧ s.loadOption.own = s.own ∧ s.loadOption.gran = s.gran ∧
      s.loadOption.core = s.core ∧ s.loadOption.time = s.time := by
  unfold State.loadOption
  extract_lets s1 w s2
  have h2 : s2.opt = s.opt.choose ∧ s2.own = s.own ∧ s2.gran = s.gran ∧ s2.core = s.core ∧ s2.time = s.time := by
    unfold s2
    split <;> exact ⟨rfl, rfl, rfl, rfl, rfl⟩
  split
  · exact h2
  · simpa using h2

theorem OptionState.choose_shadow (o : OptionState) :
    o.choose.shadow =
      if o.copy0.valid = false ∧ o.copy1.valid = false then []
      else if (o.copy0.valid = true → o.copy0.seq < o.copy1.seq) ∧ o.copy1.valid = true then o.copy1.words
      else o.copy0.words := by
  unfold OptionState.choose
  cases o.copy0.valid <;> cases o.copy1.valid <;> simp

theorem OptionCopy.valid_iff (c : OptionCopy) : c.valid = true ↔ c.header = 0x96400F0A ∧ c.crc = c.areaCrc := by
  simp [OptionCopy.valid]

/-- Settles O14: each row on the state its condition names. -/
theorem starts : Obligations.Starts := by
  refine ⟨?_, ?_⟩
  · rintro s page p rfl
    refine ⟨fun h => congrArg Host.Outcome.next (if_pos h), fun h hp hsrst => ?_,
      fun g hg has hdead hready hfault hav hsup =>
        congrArg Host.Outcome.next (State.failStart_due hg has hdead hready hfault hav hsup)⟩
    exact congrArg Host.Outcome.next ((if_pos h).trans (State.raiseReady_plain hp hsrst))
  · intro s
    refine ⟨fun h => ⟨_, congrArg Host.Outcome.next (if_pos h), ?_⟩, OptionCopy.valid_iff, fun hrw hup => ?_⟩
    · obtain ⟨hopt, hown, hgran, hcore, htime⟩ := s.loadOption_frame
      rw [hopt, OptionState.choose_shadow]
      refine ⟨rfl, rfl, fun h0 h1 hseq => ?_, fun h0 h1 hseq => ?_, fun h0 h1 => ?_, fun h0 h1 => ?_, hown, hgran,
        hcore, htime⟩
      · rw [if_neg (by simp [h0]), if_pos ⟨fun _ => hseq, h1⟩]
      · rw [if_neg (by simp [h0]), if_neg (fun h => hseq (h.1 h0))]
      · rw [if_neg (by simp [h1]), if_pos ⟨by simp [h0], h1⟩]
      · rw [if_pos ⟨h0, h1⟩]
    · exact congrArg Host.Outcome.next (if_pos (by rw [hrw, hup]; rfl))

/-! ### Mailboxes -/

theorem postEffect_free {s : State} {box i lo : Nat} {v : Word} (h1 : 1 ≤ field v 4 0) (h16 : field v 4 0 ≤ 16)
    (hfree : flag (s.rg (0x40 + box) 0x080) i = false) :
    postEffect box i lo v s =
      (s.setMbox box (setField (setFlag (s.rg (0x40 + box) 0x080) i true) (lo + 4) lo (field v 4 0)), .done) := by
  have h0 : field v 4 0 ≠ 0 := by omega
  have hmax : ¬ field v 4 0 > 16 := by omega
  simp [postEffect, h0, hmax, hfree]

theorem takeEffect_full {s : State} {box i : Nat} {v : Word} (hv : flag v 0 = true)
    (hfull : flag (s.rg (0x40 + box) 0x080) i = true) :
    takeEffect box i v s = (s.setMbox box (setFlag (s.rg (0x40 + box) 0x080) i false), .done) := by
  simp [takeEffect, hv, hfull]

/-! ### Operation slots -/

theorem State.putSlot_events (s : State) (tag : Nat) (k : Slot) :
    SameButEvents { s with ops := { s.ops with slots := Tab.set (fun _ => {}) s.ops.slots tag k } } (s.putSlot tag k) :=
  State.refreshOps_events _

theorem State.endSlotAt_frame (s : State) (tag : Nat) (c : Code) (t : Stamp) :
    (s.endSlotAt tag c t).ops =
        (s.putSlot tag { s.slot tag with st := .held, code := c, stamp := t, result := none }).ops ∧
      (s.endSlotAt tag c t).gran = s.gran ∧ (s.endSlotAt tag c t).flash = s.flash ∧
      (s.endSlotAt tag c t).own = s.own := by
  unfold State.endSlotAt
  extract_lets k s0 s1
  have h0 : s0.gran = s.gran ∧ s0.flash = s.flash ∧ s0.own = s.own :=
    ⟨State.putSlot_gran s tag _, State.putSlot_flash s tag _, State.putSlot_own s tag _⟩
  have h1 : s1.ops = s0.ops ∧ s1.gran = s.gran ∧ s1.flash = s.flash ∧ s1.own = s.own := by
    unfold s1
    split
    · exact ⟨rfl, h0⟩
    · split <;> exact ⟨rfl, h0⟩
  split
  · exact h1
  · exact h1

theorem State.slot_endSlotAt (s : State) (tag j : Nat) (c : Code) (t : Stamp) :
    (s.endSlotAt tag c t).slot j =
      if j = tag then { s.slot tag with st := .held, code := c, stamp := t, result := none } else s.slot j := by
  rw [State.slot, (s.endSlotAt_frame tag c t).1]
  exact State.slot_putSlot s tag j _

/-- A slot is given where one is FREE. -/
theorem State.nextFree_free {s : State} {n : Nat} (h : s.nextFree = some n) : (s.slot n).st = .free := by
  have hp := List.find?_some h
  simpa using hp

/-- What a slot given leaves: the slot QUEUED, the others as they were. -/
theorem State.allocSlot_spec {s u : State} {src page op n : Nat} {args : List Word} {fence secure : Bool}
    (h : s.allocSlot src page op args fence secure = some (n, u)) :
    ((u.slot n).st = .queued ∧ (u.slot n).page = BitVec.ofNat 8 page ∧ (u.slot n).op = BitVec.ofNat 8 op ∧
      (u.slot n).args = args ∧ (u.slot n).order = s.ops.accepted ∧ (s.slot n).st = .free ∧
      ∀ j, j ≠ n → u.slot j = s.slot j) ∧ u.gran = s.gran ∧ u.flash = s.flash := by
  unfold State.allocSlot at h
  cases hfree : s.nextFree with
  | none => rw [hfree] at h; exact absurd h (by simp)
  | some tag =>
    rw [hfree] at h
    obtain ⟨rfl, rfl⟩ := Prod.mk.inj (Option.some.inj h)
    refine ⟨⟨?_, ?_, ?_, ?_, ?_, State.nextFree_free hfree, fun j hj => ?_⟩, State.putSlot_gran s tag _,
      State.putSlot_flash s tag _⟩
    · exact congrArg Slot.st (s.slot_putSlot_self tag _)
    · exact congrArg Slot.page (s.slot_putSlot_self tag _)
    · exact congrArg Slot.op (s.slot_putSlot_self tag _)
    · exact congrArg Slot.args (s.slot_putSlot_self tag _)
    · exact congrArg Slot.order (s.slot_putSlot_self tag _)
    · exact (s.slot_putSlot tag j _).trans (if_neg hj)

theorem doorbellEffect_given {s s1 : State} {m : Master} {v : Word} {n : Nat} (hpage : field v 15 8 ∈ opPages)
    (hnarg : field v 19 16 ≤ 8)
    (halloc : s.allocSlot (Master.id m) (field v 15 8) (field v 7 0) (s.opsArgs (field v 19 16)) (flag v 24)
      (s.secure m) = some (n, s1)) :
    doorbellEffect m v s =
      (s1.setRg 0x02 0x064 (pack [(0, 7, n), (7, 1, 1), (8, 8, 0), (16, 16, s.own.epoch.toNat)]), .done) := by
  have hmax : ¬ field v 19 16 > 8 := by omega
  unfold doorbellEffect
  dsimp only
  rw [if_neg (by simp [hpage, hmax]), halloc]
  rfl

theorem cancelEffect_queued {s : State} {v : Word} (h : (s.slot (field v 6 0)).st = .queued) :
    cancelEffect v s = (s.endSlot (field v 6 0) .aborted, .done) := by
  simp [cancelEffect, h]

theorem State.startOp_now {s : State} {tag : Nat} (h : s.mayStart tag = true) (hd : s.deferred (s.slot tag) = false) :
    s.startOp tag = (s.startSlot tag).beginOp tag := by
  simp [State.startOp, h, hd]

theorem State.pushRecords_placed {s s1 : State} {n : Nat} (hn : s.oldestHeld = some n) (hroom : s.recordRoom = true)
    (hpush : s.blockPush 0 (recordPayloads n (s.slot n)) = (s1, .done)) :
    s.pushRecords = (s1.putSlot n { s1.slot n with st := .free }).retryTags.retryAuto := by
  unfold State.pushRecords
  rw [hn]
  dsimp only
  rw [if_pos hroom, hpush]
  exact if_pos rfl

/-- Settles O15: the mailboxes' effects, and the life of a slot. -/
theorem mailboxesAndSlots : Obligations.MailboxesAndSlots := by
  refine ⟨?_, ?_⟩
  · rintro s m box v st rfl
    refine ⟨fun hg h1 h16 hfree => ?_, fun hg hv hfull => ?_, fun hg h1 h16 hfree => ?_, fun hg hv hfull => ?_⟩
    · refine congrArg Host.Outcome.next ?_
      rw [State.write_pass hg, postEffect_free h1 h16 hfree, State.complete_done]
    · refine congrArg Host.Outcome.next ?_
      rw [State.write_pass hg, takeEffect_full hv hfull, State.complete_done]
    · refine congrArg Host.Outcome.next ?_
      rw [State.write_pass hg, postEffect_free h1 h16 hfree, State.complete_done]
    · refine congrArg Host.Outcome.next ?_
      rw [State.write_pass hg, takeEffect_full hv hfull, State.complete_done]
  · intro s m v tag
    refine ⟨fun n s1 hg hpage hnarg halloc => ?_, fun hg hq => ?_, fun hdead hmay hdef => ?_, fun c hrun hres => ?_,
      fun n s1 hdead hn hroom hpush => ?_⟩
    · refine ⟨_, congrArg Host.Outcome.next (State.write_pass hg), ?_⟩
      rw [doorbellEffect_given hpage hnarg halloc, State.complete_done]
      obtain ⟨⟨hst, hpg, hop, hargs, horder, hfree, hother⟩, hgran, hflash⟩ := State.allocSlot_spec halloc
      exact ⟨State.lastOf_answer _ _ _ _, State.rg_setRg_self _ _ _ _, hst, hpg, hop, hargs, horder, hfree,
        hother, hgran, hflash⟩
    · refine congrArg Host.Outcome.next ?_
      rw [State.write_pass hg, cancelEffect_queued hq, State.complete_done]
    · refine congrArg Host.Outcome.next ?_
      rw [hdead, if_neg (by decide), State.startOp_now hmay hdef]
    · obtain ⟨-, hgran, hflash, hown⟩ := s.endSlotAt_frame tag.val c (s.slot tag.val).ended
      have hend : exec (.operationEnd tag) s = .next (s.endSlotAt tag.val c (s.slot tag.val).ended) := by
        refine congrArg Host.Outcome.next ?_
        rw [hrun, hres]
      have hslot := s.slot_endSlotAt tag.val
      refine ⟨_, hend, ?_, ?_, ?_, fun j hj => by rw [hslot, if_neg hj], hgran, hflash, hown⟩
      · rw [hslot, if_pos rfl]
      · rw [hslot, if_pos rfl]
      · rw [hslot, if_pos rfl]
    · refine congrArg Host.Outcome.next ?_
      rw [hdead, if_neg (by decide), State.pushRecords_placed hn hroom hpush]

/-! ### The state after reset -/

theorem ready_reset (page : Nat) : State.reset.ready page = false := by
  have hspec : resetSpecial page 4 = none := by
    unfold resetSpecial
    split <;> simp_all
  have hreg : regAt page 4 = some (ro 4) := rfl
  have hrg : State.reset.rg page 0x004 = 0 := by
    change resetOf (page * 0x1000 + 4) = 0
    have hp : (page * 0x1000 + 4) / 0x1000 = page := by omega
    have ho : (page * 0x1000 + 4) % 0x1000 = 4 := by omega
    unfold resetOf
    dsimp only
    rw [hp, ho, hspec, hreg]
    rfl
  rw [State.ready, hrg]
  rfl

/-- Settles O16: the tables of the reset state list nothing. -/
theorem resetState : Obligations.ResetState :=
  ⟨fun _ _ => rfl, fun page _ => ready_reset page, rfl, rfl, rfl, fun _ => rfl, fun _ => rfl, rfl, rfl, rfl, rfl⟩

end Sys2Proof.Machine
end

section
/-!
PROOFS. Resets, and the invariant at reset.
-/
namespace Sys2Proof.Machine

/-- Settles O58: every table of the reset state is empty, and no fuse is blown. -/
theorem invariantAtReset : Obligations.InvariantAtReset := rfl

/-! ### Power-on reset -/

/-- A GROUP_WRITE that is cut off leaves the option area only, and none in progress. -/
theorem State.groupCut_frame (s : State) :
    s.groupCut.opt.writing = none ∧ s.groupCut.fuse = s.fuse ∧ s.groupCut.flash = s.flash ∧
      s.groupCut.crib = s.crib ∧ s.groupCut.pending = s.pending := by
  unfold State.groupCut
  split
  · rename_i h; exact ⟨h, rfl, rfl, rfl, rfl⟩
  · dsimp only
    split
    all_goals
      split
      · exact ⟨rfl, rfl, rfl, rfl, rfl⟩
      · exact ⟨rfl, rfl, rfl, rfl, rfl⟩

theorem State.rg_por {s : State} {p o : Nat} (ho : o < 0x1000) (hne : ¬(p = 0x1E ∧ o = 0x068)) :
    s.por.rg p o = resetOf (ra p o) := by
  unfold State.por
  dsimp only
  rw [State.rg_setRg, if_neg (fun h => hne ((ra_inj ho (by decide)).1 h))]
  rfl

/-! ### The release of a reset -/

theorem State.release_frame (s : State) (r : ResetRun) :
    (s.release r).pwr.resets = (s.pwr.resets.erase r).filter (fun x => decide (x.kind ≤ 4) || decide (s.now < x.due)) ∧
      (s.release r).pwr.inReset = (if (s.release r).pwr.resets = [] then 0 else s.pwr.inReset) ∧
      (s.release r).regs = s.regs ∧ (s.release r).own = s.own := by
  unfold State.release
  extract_lets rest s1
  by_cases h : rest.isEmpty = true
  · have hnil : rest = [] := List.isEmpty_iff.1 h
    rw [if_pos h]
    exact ⟨rfl, (if_pos hnil).symm, rfl, rfl⟩
  · have hne : rest ≠ [] := fun e => h (List.isEmpty_iff.2 e)
    rw [if_neg h]
    exact ⟨rfl, (if_neg hne).symm, rfl, rfl⟩

theorem islRstEffect_refused {s : State} {m : Master} {v : Word}
    (h : field v 31 24 ≠ 0x5A ∨ flag v 0 = true ∨ field v 8 0 = 0) : islRstEffect m v s = (s, .arg) := by
  unfold islRstEffect
  rw [if_pos (by simpa [or_assoc] using h)]

theorem islRstEffect_given {s : State} {m : Master} {v : Word} (hkey : field v 31 24 = 0x5A) (haon : flag v 0 = false)
    (hmask : field v 8 0 ≠ 0) :
    islRstEffect m v s = (s.applyReset 5 (Master.id m) (BitVec.ofNat 9 (field v 8 0)) (usTime 10), .done) := by
  unfold islRstEffect
  rw [if_neg (by simp [hkey, haon, hmask])]
  rfl

/-- Settles O17: each reset by what starts it, and its release. -/
theorem resets : Obligations.Resets := by
  refine ⟨?_, ?_, ?_⟩
  · intro s
    refine ⟨rfl, fun hpor => ⟨s.por, congrArg Host.Outcome.next (if_pos hpor), ?_⟩⟩
    obtain ⟨hwriting, hfuse, hflash, hcrib, hpend⟩ := s.groupCut_frame
    have hcells : s.groupCut.flash.cells = s.flash.cells := by rw [hflash]
    have hmarks : s.groupCut.flash.marks = s.flash.marks := by rw [hflash]
    have hkeys : s.groupCut.crib.keys.filter (fun k => k.2.persist) = s.crib.keys.filter (fun k => k.2.persist) := by
      rw [hcrib]
    exact ⟨rfl, rfl, rfl, rfl, rfl, rfl, rfl, rfl, hfuse, hcells, hmarks, hkeys, rfl, hwriting, hpend,
      fun p o ho hne => State.rg_por ho hne⟩
  · intro s m v
    refine ⟨fun hdead hn => ?_, fun h => ?_, fun h0 h3 => ?_, fun h => ?_, fun hg hkey => ?_, fun hg hkey => ?_,
      fun hdead hdbg => ?_, fun hg hkey haon hmask => ?_, fun hg h => ?_⟩
    · exact congrArg Host.Outcome.next (if_neg (by simp [hdead, hn]))
    · exact congrArg Host.Outcome.next (if_pos (by simpa using h))
    · have htap : (s.tap.ir == 0 || s.tap.ir == 3) = false := by
        rw [beq_false_of_ne h0, beq_false_of_ne h3]
        rfl
      change Host.Outcome.next _ = _
      rw [htap]
      rfl
    · have htap : (s.tap.ir == 0 || s.tap.ir == 3) = true := by simpa using h
      change Host.Outcome.next _ = _
      rw [htap]
      rfl
    · refine congrArg Host.Outcome.next ?_
      rw [State.write_pass hg, sysRstEffect, if_neg (by simp [hkey]), State.complete_done]
      rfl
    · refine congrArg Host.Outcome.next ?_
      rw [State.write_pass hg, sysRstEffect, if_pos (by simpa using hkey)]
      rfl
    · exact congrArg Host.Outcome.next (if_neg (by simp [hdead, hdbg]))
    · refine congrArg Host.Outcome.next ?_
      rw [State.write_pass hg, islRstEffect_given hkey haon hmask, State.complete_done]
    · refine congrArg Host.Outcome.next ?_
      rw [State.write_pass hg, islRstEffect_refused h]
      rfl
  · intro s r
    refine ⟨fun hr hn hdead => ?_, fun hr hdead => ?_, s.release_frame r⟩
    · change Host.Outcome.next s.systemRelease = _
      unfold State.systemRelease
      rw [hr]
      dsimp only
      rw [hn, hdead, if_neg (by decide)]
    · change Host.Outcome.next s.islandRelease = _
      unfold State.islandRelease
      rw [hr]
      dsimp only
      rw [hdead, if_neg (by decide)]

end Sys2Proof.Machine
end

section
/-!
PROOFS. Operating points.
-/
namespace Sys2Proof.Machine

section
variable {s : State} {v : Word}

theorem vcoreEffect_step (h3 : field v 1 0 ≠ 3) (hbusy : flag (s.rg 0x05 0x064) 2 = false)
    (hopp : field (s.rg 0x06 0x040) 1 0 ≤ field v 1 0) :
    vcoreEffect v s =
      if field v 1 0 = field (s.rg 0x05 0x064) 1 0 then (s.setRg 0x05 0x060 (BitVec.ofNat 32 (field v 1 0)), .done)
      else
        ((({ s with pwr := { s.pwr with settle := some (s.after (usTime (20 *
          ((field v 1 0 - field (s.rg 0x05 0x064) 1 0) + (field (s.rg 0x05 0x064) 1 0 - field v 1 0)))), field v 1 0) } }
          : State).setRg 0x05 0x060 (BitVec.ofNat 32 (field v 1 0))).setRg 0x05 0x064
            (setFlag (s.rg 0x05 0x064) 2 true), .done) := by
  have hlow : ¬ field v 1 0 < field (s.rg 0x06 0x040) 1 0 := by omega
  have hsteps : (if field v 1 0 > field (s.rg 0x05 0x064) 1 0 then field v 1 0 - field (s.rg 0x05 0x064) 1 0
      else field (s.rg 0x05 0x064) 1 0 - field v 1 0) =
        (field v 1 0 - field (s.rg 0x05 0x064) 1 0) + (field (s.rg 0x05 0x064) 1 0 - field v 1 0) := by
    split <;> omega
  have hother : (s.setRg 0x05 0x060 (BitVec.ofNat 32 (field v 1 0))).rg 0x05 0x064 = s.rg 0x05 0x064 := by
    rw [State.rg_setRg, if_neg (by decide)]
  unfold vcoreEffect
  dsimp only
  rw [if_neg (by simpa using h3), if_neg (by simp [hbusy, hlow]), hsteps]
  split
  · rfl
  · rw [← hother]
    rfl

theorem coreOppEffect_given (h3 : field v 1 0 ≠ 3) (hpoint : field v 1 0 ≤ field (s.rg 0x05 0x064) 1 0)
    (hbusy : flag (s.rg 0x05 0x064) 2 = false) (hride : flag (s.rg 0x05 0x120) 0 = true → field v 1 0 = 0)
    (hwarm : flag (s.rg 0x05 0x06C) 10 = true → field v 1 0 ≤ 1) :
    coreOppEffect v s = (s.setRg 0x06 0x040 (BitVec.ofNat 32 (field v 1 0)), .done) := by
  have hp : ¬ field v 1 0 > field (s.rg 0x05 0x064) 1 0 := by omega
  have hr : ¬ (flag (s.rg 0x05 0x120) 0 && field v 1 0 != 0) = true := by simpa using hride
  have hw : ¬ (flag (s.rg 0x05 0x06C) 10 && decide (field v 1 0 > 1)) = true := by simpa using hwarm
  unfold coreOppEffect
  dsimp only
  rw [if_neg (by simpa using h3), if_neg (by simp [hp, hbusy]), if_neg hr, if_neg hw]

theorem State.settled_due {t : Stamp} {q : Nat} (h : s.pwr.settle = some (t, q)) :
    s.settled =
      ({ s.reach t with pwr := { s.pwr with settle := none } } : State).setRg 0x05 0x064
        (pack [(0, 2, q), (8, 12, 650 + 100 * q)]) := by
  unfold State.settled
  rw [h]
  rfl

end

/-- Settles O19: a step of the voltage, its end, and the core's point. -/
theorem operatingPoints : Obligations.OperatingPoints := by
  rintro s m v p now rfl rfl
  refine ⟨fun hg h3 hbusy hopp hne => ?_, fun hg h3 hbusy hopp heq => ?_, fun t q hq => ?_,
    fun hg h3 hpoint hbusy hride hwarm => ?_⟩
  · refine congrArg Host.Outcome.next ?_
    rw [State.write_pass hg, vcoreEffect_step h3 hbusy hopp, if_neg hne, State.complete_done]
  · refine congrArg Host.Outcome.next ?_
    rw [State.write_pass hg, vcoreEffect_step h3 hbusy hopp, if_pos heq, State.complete_done]
  · refine ⟨_, congrArg Host.Outcome.next (State.settled_due hq), rfl, State.rg_setRg_self _ _ _ _, rfl, rfl,
      fun a b hb hne => ?_⟩
    rw [State.rg_setRg, if_neg (fun h => hne ((ra_inj hb (by decide)).1 h))]
    rfl
  · refine congrArg Host.Outcome.next ?_
    rw [State.write_pass hg, coreOppEffect_given h3 hpoint hbusy hride hwarm, State.complete_done]

end Sys2Proof.Machine
end

section
/-!
PROOFS. Configuring ports: what a legal write of PCFG, AUX and XBAR does.
-/
namespace Sys2Proof.Machine

section
variable {s : State} {p cv : Nat} {v : Word}

theorem pcfgEffect_legal (hlegal : auxLegal (field v 3 0) (s.auxReg p) = true)
    (hexc : field v 8 6 = 0 ∨ ((field v 3 0 = 1 ∨ (field v 3 0 = 2 ∧ p % 2 = 0)) ∧
      ∀ q, q < 64 → q ≠ p → field (s.pcfgReg q) 8 6 ≠ field v 8 6))
    (hsig : field v 3 0 = 7 → s.signalTaken p (s.auxReg p) = false) :
    pcfgEffect p v s =
      ((((s.setRg (portPage p) (portOff p 0) (v &&& 0x3FF)).setRg (portPage p) (portOff p 4)
        (s.auxReg p &&& auxMask (field v 3 0))).releaseHold p).syncPort p, .done) := by
  have hmode : ¬ (field v 8 6 != 0 && !(field v 3 0 == 1 || (field v 3 0 == 2 && p % 2 == 0))) = true := by
    rcases hexc with h | ⟨h | h, -⟩ <;> simp [h]
  have hfree : ¬ (field v 8 6 != 0 &&
      (List.range 64).any (fun q => q != p && field (s.pcfgReg q) 8 6 == field v 8 6)) = true := by
    rcases hexc with h | ⟨-, h⟩
    · simp [h]
    · simpa using fun _ q hq hqp => h q hq hqp
  have haux : (s.setRg (portPage p) (portOff p 0) (v &&& 0x3FF)).rg (portPage p) (portOff p 4) = s.auxReg p := by
    rw [State.rg_setRg, if_neg (fun h => by
      have := (ra_inj (by unfold portOff; omega) (by unfold portOff; omega)).1 h
      unfold portOff at this; omega)]
    rfl
  unfold pcfgEffect
  dsimp only
  rw [if_neg (by simp [hlegal]), if_neg hmode, if_neg hfree, if_neg (by simpa using hsig), State.updRg, haux]

theorem auxEffect_legal (hlegal : auxLegal (s.modeReg p) v = true)
    (hsig : s.modeReg p = 7 → s.signalTaken p v = false) :
    auxEffect p v s =
      (((s.setRg (portPage p) (portOff p 4) (v &&& auxMask (s.modeReg p))).releaseHold p).syncPort p, .done) := by
  unfold auxEffect
  dsimp only
  rw [if_neg (by simp [hlegal]), if_neg (by simpa using hsig)]

theorem auxEffect_illegal (hlegal : auxLegal (s.modeReg p) v = false) : auxEffect p v s = (s, .arg) := by
  unfold auxEffect
  dsimp only
  rw [if_pos (by simp [hlegal])]

theorem flag_keep_xbar : flag (v &&& 0xBF) 7 = flag v 7 := by
  simp [flag]

/-- A write that connects nothing. -/
theorem xbarEffect_open (hoff : flag v 7 = false) :
    xbarEffect cv v s =
      (((s.setRg 0x18 (convOff cv) (v &&& 0xBF)).updConv cv (fun c => { c with
        late := if decide (16 ≤ cv) && (v &&& 0xBF) != s.xbar cv && s.trig cv == 0 then s.portOn cv
          else (s.conv cv).late })).dropOver.refreshWinnow, .done) := by
  unfold xbarEffect
  dsimp only
  rw [if_neg (by simp [hoff]), if_neg (by rw [flag_keep_xbar, hoff]; simp)]

/-- A write that connects a converter at rest to an analogue port. -/
theorem xbarEffect_connect (hon : flag v 7 = true) (hana : analogMode (s.modeReg (field v 5 0)) = true)
    (hdiff : s.modeReg (field v 5 0) = 2 → field v 5 0 % 2 = 0) (hnew : v &&& 0xBF ≠ s.xbar cv)
    (hrun : (s.conv cv).run = none) :
    xbarEffect cv v s =
      ((((s.setRg 0x18 (convOff cv) (v &&& 0xBF)).updConv cv (fun c => { c with
        late := if decide (16 ≤ cv) && s.trig cv == 0 then s.portOn cv
          else (s.conv cv).late })).markConv cv).dropOver.refreshWinnow, .done) := by
  have hne : ((v &&& 0xBF) != s.xbar cv) = true := by simpa using hnew
  unfold xbarEffect
  dsimp only
  rw [if_neg (by simpa [hana] using fun _ h => by simpa using hdiff h),
    if_pos (by rw [flag_keep_xbar, hon, hne, hrun]; rfl)]
  simp only [hne, Bool.and_true]

/-- A connection to a port without an analogue mode. -/
theorem xbarEffect_digital (hon : flag v 7 = true) (hana : analogMode (s.modeReg (field v 5 0)) = false) :
    xbarEffect cv v s = (s, .state) := by
  unfold xbarEffect
  dsimp only
  rw [if_pos (by simp [hon, hana])]

end

/-- Settles O22: the mode, the second configuration word and the crossbar. -/
theorem portConfiguration : Obligations.PortConfiguration := by
  intro s m p cv v
  refine ⟨fun hg hlegal hexc hsig => ?_, fun hg hlegal hsig => ?_, fun hg hlegal => ?_, ?_, ?_, fun hg hon hana => ?_⟩
  · refine congrArg Host.Outcome.next ?_
    rw [State.write_pass hg, pcfgEffect_legal hlegal hexc hsig, State.complete_done]
  · refine congrArg Host.Outcome.next ?_
    rw [State.write_pass hg, auxEffect_legal hlegal hsig, State.complete_done]
  · refine congrArg Host.Outcome.next ?_
    rw [State.write_pass hg, auxEffect_illegal hlegal]
    rfl
  · rintro late hg hoff rfl
    refine congrArg Host.Outcome.next ?_
    rw [State.write_pass hg, xbarEffect_open hoff, State.complete_done]
  · rintro late hg hon rfl hana hdiff hnew hrun
    refine congrArg Host.Outcome.next ?_
    rw [State.write_pass hg, xbarEffect_connect hon hana hdiff hnew hrun, State.complete_done]
  · refine congrArg Host.Outcome.next ?_
    rw [State.write_pass hg, xbarEffect_digital hon hana]
    rfl

end Sys2Proof.Machine
end

section
/-!
PROOFS. The Gleaner's activations.
-/
namespace Sys2Proof.Machine

/-- A row that issues an instruction answers what the instruction does to the state after its issue. -/
theorem next_issueAs {s v : State} {t : Nat} {i : GInstr} {x : Host.Outcome State Fault Refusal}
    {f : GInstr → Option (State → State)} {eff : State → State} (hc : s.chosen t = true)
    (hd : GInstr.decode (s.pword (s.thread t).pc.toNat) = some i) (hb : s.overBudget t = false)
    (hp : s.parityBad (s.thread t).pc.toNat = false) (hx : x = .next (s.issueAs t f)) (hf : f i = some eff)
    (hv : eff (s.issued t) = v) : x = .next v := by
  rw [hx, State.issueAs_chosen hc hd hb hp hf, hv]

/-- Settles O29: the ends and the blocks of an activation, and the illegal word. -/
theorem gleanerActivations : Obligations.GleanerActivations := by
  rintro s u t i pc rfl hc rfl hb hp
  refine ⟨fun hd => ⟨?_, fun n => ?_, fun tol n => ?_⟩, fun hd => ?_⟩
  · rintro rfl
    exact next_issueAs hc hd hb hp rfl rfl rfl
  · rintro rfl
    exact next_issueAs hc hd hb hp rfl rfl rfl
  · rintro rfl
    exact next_issueAs hc hd hb hp rfl rfl rfl
  · refine congrArg Host.Outcome.next ?_
    dsimp only
    rw [if_pos hc, hd, hp]
    simp only [Option.isSome_none, Bool.and_false, Bool.false_eq_true, if_false, hb]

end Sys2Proof.Machine
end

section
/-!
PROOFS. The registers that READY, the event flags and the records of the slots leave as they are.
-/
namespace Sys2Proof.Machine

/-- An offset of a page that holds neither READY nor its stamp nor event flags. -/
def Quiet (o : Nat) : Prop := o < 0x1000 ∧ (o = 0x008 ∨ 0x040 ≤ o)

section
variable {s : State} {q o : Nat}

theorem Quiet.ra_ne (ho : Quiet o) (p : Nat) {r : Nat} (hr : r < 0x040) (h8 : r ≠ 0x008) : ra q o ≠ ra p r := by
  obtain ⟨hlt, hq⟩ := ho
  rw [ne_eq, ra_inj hlt (by omega)]
  omega

theorem State.pulse_regs (s : State) (n : Nat) (w : Option (Nat × Nat)) : (s.pulse n w).regs = s.regs := by
  unfold State.pulse State.pulseAt
  split <;> rfl

theorem State.tapPulses_regs (s : State) (p b : Nat) : (s.tapPulses p b).regs = s.regs := by
  unfold State.tapPulses
  generalize List.range 32 = l
  suffices h : ∀ acc : State, acc.regs = s.regs → (l.foldl (fun acc k =>
      let w := s.rg 0x08 (0x080 + 4 * k)
      if flag w 31 && field w 7 0 == p && field w 12 8 == b && p != 0x08 then acc.pulse (0xC0 + k)
      else acc) acc).regs = s.regs from h s rfl
  induction l with
  | nil => exact fun _ h => h
  | cons k l ih =>
    refine fun acc h => ih _ ?_
    dsimp only
    split
    · exact (acc.pulse_regs _ _).trans h
    · exact h

theorem State.lineRise_regs (s : State) (n : Nat) : (s.lineRise n).regs = s.regs := by
  unfold State.lineRise
  dsimp only
  (repeat' split) <;> rfl

theorem State.lineFall_regs (s : State) (n : Nat) : (s.lineFall n).regs = s.regs := by
  unfold State.lineFall
  dsimp only
  split <;> rfl

theorem State.settle_regs (s b : State) (n : Nat) : (s.settle b n).regs = s.regs := by
  unfold State.settle
  split
  · exact s.lineRise_regs n
  · exact s.lineFall_regs n
  · rfl

theorem State.rg_evEdge (ho : Quiet o) (p b : Nat) : (s.evEdge p b).rg q o = s.rg q o := by
  unfold State.evEdge
  dsimp only
  split
  · rw [State.rg, State.reg, State.tapPulses_regs, State.settle_regs]
    exact State.rg_setRg_other (ho.ra_ne p (by omega) (by omega))
  · rfl

theorem State.rg_evPulse (ho : Quiet o) (p b : Nat) : (s.evPulse p b).rg q o = s.rg q o := State.rg_evEdge ho p b

theorem State.rg_evLevel (ho : Quiet o) (p b : Nat) (v : Bool) : (s.evLevel p b v).rg q o = s.rg q o := by
  have hlevel : ∀ f, (s.updRg p 0x00C f).rg q o = s.rg q o := fun _ =>
    State.rg_setRg_other (ho.ra_ne p (by omega) (by omega))
  unfold State.evLevel
  dsimp only
  split
  · rfl
  · split
    · rw [State.rg_evEdge ho, hlevel]
    · exact hlevel _

theorem State.rg_setReadyBits (ho : Quiet o) (p : Nat) (f : Word → Word) :
    (s.setReadyBits p f).rg q o = s.rg q o :=
  State.rg_setReadyBits_other (ho.ra_ne p (by omega) (by omega)) (ho.ra_ne p (by omega) (by omega))
    (ho.ra_ne p (by omega) (by omega))

theorem State.rg_refreshOps (ho : Quiet o) : s.refreshOps.rg q o = s.rg q o := by
  unfold State.refreshOps
  rw [State.rg_evLevel ho, State.rg_evLevel ho]

theorem State.rg_setResult (ho : Quiet o) (tag : Nat) (c : Code) : (s.setResult tag c).rg q o = s.rg q o :=
  State.rg_refreshOps ho

theorem State.rg_pulseAt (n : Nat) (w : Option (Nat × Nat)) (t : Stamp) :
    (s.pulseAt n w t).rg q o = s.rg q o := by
  unfold State.pulseAt
  split <;> rfl

/-- A fault is counted in one register. -/
theorem State.rg_faultRec_of_ne (ho : Quiet o) (hne : ra q o ≠ ra 0x3C 0x05C) (f p d : Nat) :
    (s.faultRec f p d).rg q o = s.rg q o := by
  unfold State.faultRec
  dsimp only
  rw [State.rg_evPulse ho]
  split
  · rfl
  · split
    · exact (State.rg_setRg_other hne).trans (State.rg_setRg_other hne)
    · exact State.rg_setRg_other hne

/-- A fault is counted in SERVICE's page. -/
theorem State.rg_faultRec (ho : Quiet o) (hq : q ≠ 0x3C) (f p d : Nat) : (s.faultRec f p d).rg q o = s.rg q o :=
  State.rg_faultRec_of_ne ho (fun e => hq ((ra_inj ho.1 (by decide)).1 e).1) f p d

end

end Sys2Proof.Machine
end

section
/-!
PROOFS. What the shared operations of the model leave as it is: which parts of the state a function may touch, beside
the registers, the lines and the pulses that tell of it.
-/
namespace Sys2Proof.Machine

/-! ### Signals: what lines, levels and pulses move -/

/-- t is s but for registers, lines that are due and counted, and pulses on their way. -/
structure Signalled (s t : State) : Prop where
  events : SameButEvents s t
  stack : t.intc.stack = s.intc.stack
  active : t.intc.active = s.intc.active
  frozen : t.intc.frozen = s.intc.frozen
  tasks : t.fab.tasks = s.fab.tasks
  chans : t.fab.chans = s.fab.chans
  waves : t.fab.waves = s.fab.waves

theorem Signalled.refl (s : State) : Signalled s s := ⟨rfl, rfl, rfl, rfl, rfl, rfl, rfl⟩

theorem Signalled.trans {s t u : State} (h : Signalled s t) (g : Signalled t u) : Signalled s u where
  events := h.events.trans g.events
  stack := g.stack.trans h.stack
  active := g.active.trans h.active
  frozen := g.frozen.trans h.frozen
  tasks := g.tasks.trans h.tasks
  chans := g.chans.trans h.chans
  waves := g.waves.trans h.waves

theorem Signalled.foldl {β : Type} {f : State → β → State} (hf : ∀ s b, Signalled s (f s b)) (l : List β)
    (s : State) : Signalled s (l.foldl f s) := by
  induction l generalizing s with
  | nil => exact .refl s
  | cons b l ih => exact (hf s b).trans (ih _)

section
variable (s : State)

theorem State.setRg_signals (p o : Nat) (w : Word) : Signalled s (s.setRg p o w) := ⟨rfl, rfl, rfl, rfl, rfl, rfl, rfl⟩

theorem State.updRg_signals (p o : Nat) (f : Word → Word) : Signalled s (s.updRg p o f) := s.setRg_signals p o _

theorem State.setPair_signals (p o : Nat) (t : Stamp) : Signalled s (s.setPair p o t) :=
  (s.setRg_signals p o _).trans (State.setRg_signals _ p _ _)

theorem State.pulseAt_signals (n : Nat) (w : Option (Nat × Nat)) (t : Stamp) : Signalled s (s.pulseAt n w t) := by
  unfold State.pulseAt
  split
  · exact ⟨rfl, rfl, rfl, rfl, rfl, rfl, rfl⟩
  · exact .refl s

theorem State.pulse_signals (n : Nat) (w : Option (Nat × Nat)) : Signalled s (s.pulse n w) := s.pulseAt_signals n w _

theorem State.tapPulses_signals (p b : Nat) : Signalled s (s.tapPulses p b) := by
  refine Signalled.foldl (fun t k => ?_) _ s
  dsimp only
  split
  · exact t.pulse_signals _ _
  · exact .refl t

theorem State.lineRise_signals (n : Nat) : Signalled s (s.lineRise n) := by
  unfold State.lineRise
  dsimp only
  (repeat' split) <;> exact ⟨rfl, rfl, rfl, rfl, rfl, rfl, rfl⟩

theorem State.lineFall_signals (n : Nat) : Signalled s (s.lineFall n) := by
  unfold State.lineFall
  dsimp only
  split
  · exact ⟨rfl, rfl, rfl, rfl, rfl, rfl, rfl⟩
  · exact .refl s

theorem State.settle_signals (b : State) (n : Nat) : Signalled s (s.settle b n) := by
  unfold State.settle
  split
  · exact s.lineRise_signals n
  · exact s.lineFall_signals n
  · exact .refl s

theorem State.evEdge_signals (p b : Nat) : Signalled s (s.evEdge p b) := by
  unfold State.evEdge
  dsimp only
  split
  · exact ((s.updRg_signals _ _ _).trans (State.settle_signals _ _ _)).trans (State.tapPulses_signals _ _ _)
  · exact .refl s

theorem State.evPulse_signals (p b : Nat) : Signalled s (s.evPulse p b) := s.evEdge_signals p b

theorem State.evLevel_signals (p b : Nat) (v : Bool) : Signalled s (s.evLevel p b v) := by
  unfold State.evLevel
  dsimp only
  split
  · exact .refl s
  · split
    · exact (s.updRg_signals _ _ _).trans (State.evEdge_signals _ _ _)
    · exact s.updRg_signals _ _ _

theorem State.levelSource_signals (p b : Nat) (v : Bool) (n : Nat) : Signalled s (s.levelSource p b v n) := by
  unfold State.levelSource
  dsimp only
  split
  · exact (s.evLevel_signals _ _ _).trans (State.pulse_signals _ _ _)
  · exact s.evLevel_signals _ _ _

theorem State.setReadyBits_signals (p : Nat) (f : Word → Word) : Signalled s (s.setReadyBits p f) := by
  unfold State.setReadyBits
  dsimp only
  split
  · exact .refl s
  · exact (s.setRg_signals _ _ _).trans (State.setPair_signals _ _ _ _)

theorem State.setDegraded_signals (p : Nat) (b : Bool) : Signalled s (s.setDegraded p b) := s.setReadyBits_signals p _

theorem State.pendWake_signals (n : Nat) : Signalled s (s.pendWake n) := by
  unfold State.pendWake
  split <;> exact s.updRg_signals _ _ _

theorem State.recordWake_signals (n left : Nat) (a b : Bool) : Signalled s (s.recordWake n left a b) :=
  (s.setRg_signals _ _ _).trans (State.setPair_signals _ _ _ _)

theorem State.refreshQueue_signals (n : Nat) : Signalled s (s.refreshQueue n) :=
  (s.evLevel_signals _ _ _).trans (State.evLevel_signals _ _ _ _)

theorem State.refreshOps_signals : Signalled s s.refreshOps :=
  (s.evLevel_signals _ _ _).trans (State.evLevel_signals _ _ _ _)

end

/-! ### The parts of the state a function touches -/

/-- The parts of the state beside registers, shadows, answers, lines, pulses and free draws. -/
inductive Part where
  | own | ops | opt | time | pwr | queues | core | svc | hspi | htw | dbg | tap | link | phy | fuse | sense | gle | thr
  | win | gran | flash | fld | crib | stack | fabric
  deriving DecidableEq

/-- A part stands the same in t as in s. -/
def Part.Stands (s t : State) : Part → Prop
  | .own => t.own = s.own
  | .ops => t.ops = s.ops
  | .opt => t.opt = s.opt
  | .time => t.time = s.time
  | .pwr => t.pwr = s.pwr
  | .queues => t.queues = s.queues
  | .core => t.core = s.core
  | .svc => t.svc = s.svc
  | .hspi => t.hspi = s.hspi
  | .htw => t.htw = s.htw
  | .dbg => t.dbg = s.dbg
  | .tap => t.tap = s.tap
  | .link => t.link = s.link
  | .phy => t.phy = s.phy
  | .fuse => t.fuse = s.fuse
  | .sense => t.sense = s.sense
  | .gle => t.gle = s.gle
  | .thr => t.thr = s.thr
  | .win => t.win = s.win
  | .gran => t.gran = s.gran
  | .flash => t.flash = s.flash
  | .fld => t.fld = s.fld
  | .crib => t.crib = s.crib
  | .stack => t.intc.stack = s.intc.stack ∧ t.intc.active = s.intc.active ∧ t.intc.frozen = s.intc.frozen
  | .fabric => t.fab.tasks = s.fab.tasks ∧ t.fab.chans = s.fab.chans ∧ t.fab.waves = s.fab.waves

/-- t is s but for the parts of l, and for registers and what goes with them. -/
def SameBut (l : List Part) (s t : State) : Prop := ∀ b, b ∉ l → b.Stands s t

section
variable {l : List Part} {s t u : State}

theorem SameBut.refl (s : State) : SameBut l s s := by
  intro b _
  cases b <;> simp [Part.Stands]

theorem SameBut.trans (h : SameBut l s t) (g : SameBut l t u) : SameBut l s u := by
  intro b hb
  have hs := h b hb
  have ht := g b hb
  cases b
  case stack | fabric =>
    obtain ⟨h1, h2, h3⟩ := hs
    obtain ⟨g1, g2, g3⟩ := ht
    exact ⟨g1.trans h1, g2.trans h2, g3.trans h3⟩
  all_goals exact Eq.trans ht hs

theorem SameBut.mono {k : List Part} (h : SameBut l s t) (hl : l ⊆ k := by decide) : SameBut k s t :=
  fun b hb => h b (fun hm => hb (hl hm))

theorem SameBut.own (h : SameBut l s t) (hl : .own ∉ l := by decide) : t.own = s.own := h .own hl
theorem SameBut.ops (h : SameBut l s t) (hl : .ops ∉ l := by decide) : t.ops = s.ops := h .ops hl
theorem SameBut.opt (h : SameBut l s t) (hl : .opt ∉ l := by decide) : t.opt = s.opt := h .opt hl
theorem SameBut.time (h : SameBut l s t) (hl : .time ∉ l := by decide) : t.time = s.time := h .time hl
theorem SameBut.pwr (h : SameBut l s t) (hl : .pwr ∉ l := by decide) : t.pwr = s.pwr := h .pwr hl
theorem SameBut.queues (h : SameBut l s t) (hl : .queues ∉ l := by decide) : t.queues = s.queues := h .queues hl
theorem SameBut.core (h : SameBut l s t) (hl : .core ∉ l := by decide) : t.core = s.core := h .core hl
theorem SameBut.svc (h : SameBut l s t) (hl : .svc ∉ l := by decide) : t.svc = s.svc := h .svc hl
theorem SameBut.hspi (h : SameBut l s t) (hl : .hspi ∉ l := by decide) : t.hspi = s.hspi := h .hspi hl
theorem SameBut.htw (h : SameBut l s t) (hl : .htw ∉ l := by decide) : t.htw = s.htw := h .htw hl
theorem SameBut.dbg (h : SameBut l s t) (hl : .dbg ∉ l := by decide) : t.dbg = s.dbg := h .dbg hl
theorem SameBut.tap (h : SameBut l s t) (hl : .tap ∉ l := by decide) : t.tap = s.tap := h .tap hl
theorem SameBut.link (h : SameBut l s t) (hl : .link ∉ l := by decide) : t.link = s.link := h .link hl
theorem SameBut.phy (h : SameBut l s t) (hl : .phy ∉ l := by decide) : t.phy = s.phy := h .phy hl
theorem SameBut.fuse (h : SameBut l s t) (hl : .fuse ∉ l := by decide) : t.fuse = s.fuse := h .fuse hl
theorem SameBut.sense (h : SameBut l s t) (hl : .sense ∉ l := by decide) : t.sense = s.sense := h .sense hl
theorem SameBut.gle (h : SameBut l s t) (hl : .gle ∉ l := by decide) : t.gle = s.gle := h .gle hl
theorem SameBut.thr (h : SameBut l s t) (hl : .thr ∉ l := by decide) : t.thr = s.thr := h .thr hl
theorem SameBut.win (h : SameBut l s t) (hl : .win ∉ l := by decide) : t.win = s.win := h .win hl
theorem SameBut.gran (h : SameBut l s t) (hl : .gran ∉ l := by decide) : t.gran = s.gran := h .gran hl
theorem SameBut.flash (h : SameBut l s t) (hl : .flash ∉ l := by decide) : t.flash = s.flash := h .flash hl
theorem SameBut.fld (h : SameBut l s t) (hl : .fld ∉ l := by decide) : t.fld = s.fld := h .fld hl
theorem SameBut.crib (h : SameBut l s t) (hl : .crib ∉ l := by decide) : t.crib = s.crib := h .crib hl

theorem SameBut.stack (h : SameBut l s t) (hl : .stack ∉ l := by decide) :
    t.intc.stack = s.intc.stack ∧ t.intc.active = s.intc.active ∧ t.intc.frozen = s.intc.frozen := h .stack hl

theorem SameBut.fabric (h : SameBut l s t) (hl : .fabric ∉ l := by decide) :
    t.fab.tasks = s.fab.tasks ∧ t.fab.chans = s.fab.chans ∧ t.fab.waves = s.fab.waves := h .fabric hl

/-- Registers, shadows, answers and free draws are of no part. -/
theorem SameBut.same (s : State) {regs bank shadow lows resp fresh pending} :
    SameBut l s { s with regs, bank, shadow, lows, resp, fresh, pending } := SameBut.refl s

theorem Signalled.same (h : Signalled s t) : SameBut l s t := by
  obtain ⟨hevents, hstack, hactive, hfrozen, htasks, hchans, hwaves⟩ := h
  intro b _
  cases b
  case stack => exact ⟨hstack, hactive, hfrozen⟩
  case fabric => exact ⟨htasks, hchans, hwaves⟩
  all_goals rw [hevents]; rfl

theorem SameBut.ite {c : Prop} {_ : Decidable c} (ht : SameBut l s t) (hu : SameBut l s u) :
    SameBut l s (if c then t else u) := by
  split
  · exact ht
  · exact hu

theorem SameBut.foldl {β : Type} {f : State → β → State} (hf : ∀ s b, SameBut l s (f s b)) (bs : List β)
    (s : State) : SameBut l s (bs.foldl f s) := by
  induction bs generalizing s with
  | nil => exact .refl s
  | cons b bs ih => exact (hf s b).trans (ih _)

theorem SameBut.set_own (s : State) (hl : .own ∈ l := by decide) {own} : SameBut l s { s with own := own } := by
  intro b hb
  cases b
  case own => exact absurd hl hb
  case stack | fabric => exact ⟨rfl, rfl, rfl⟩
  all_goals exact rfl

theorem SameBut.set_ops (s : State) (hl : .ops ∈ l := by decide) {ops} : SameBut l s { s with ops := ops } := by
  intro b hb
  cases b
  case ops => exact absurd hl hb
  case stack | fabric => exact ⟨rfl, rfl, rfl⟩
  all_goals exact rfl

theorem SameBut.set_opt (s : State) (hl : .opt ∈ l := by decide) {opt} : SameBut l s { s with opt := opt } := by
  intro b hb
  cases b
  case opt => exact absurd hl hb
  case stack | fabric => exact ⟨rfl, rfl, rfl⟩
  all_goals exact rfl

theorem SameBut.set_time (s : State) (hl : .time ∈ l := by decide) {time} : SameBut l s { s with time := time } := by
  intro b hb
  cases b
  case time => exact absurd hl hb
  case stack | fabric => exact ⟨rfl, rfl, rfl⟩
  all_goals exact rfl

theorem SameBut.set_pwr (s : State) (hl : .pwr ∈ l := by decide) {pwr} : SameBut l s { s with pwr := pwr } := by
  intro b hb
  cases b
  case pwr => exact absurd hl hb
  case stack | fabric => exact ⟨rfl, rfl, rfl⟩
  all_goals exact rfl

theorem SameBut.set_queues (s : State) (hl : .queues ∈ l := by decide) {queues} : SameBut l s { s with queues := queues } := by
  intro b hb
  cases b
  case queues => exact absurd hl hb
  case stack | fabric => exact ⟨rfl, rfl, rfl⟩
  all_goals exact rfl

theorem SameBut.set_core (s : State) (hl : .core ∈ l := by decide) {core} : SameBut l s { s with core := core } := by
  intro b hb
  cases b
  case core => exact absurd hl hb
  case stack | fabric => exact ⟨rfl, rfl, rfl⟩
  all_goals exact rfl

theorem SameBut.set_svc (s : State) (hl : .svc ∈ l := by decide) {svc} : SameBut l s { s with svc := svc } := by
  intro b hb
  cases b
  case svc => exact absurd hl hb
  case stack | fabric => exact ⟨rfl, rfl, rfl⟩
  all_goals exact rfl

theorem SameBut.set_hspi (s : State) (hl : .hspi ∈ l := by decide) {hspi} : SameBut l s { s with hspi := hspi } := by
  intro b hb
  cases b
  case hspi => exact absurd hl hb
  case stack | fabric => exact ⟨rfl, rfl, rfl⟩
  all_goals exact rfl

theorem SameBut.set_htw (s : State) (hl : .htw ∈ l := by decide) {htw} : SameBut l s { s with htw := htw } := by
  intro b hb
  cases b
  case htw => exact absurd hl hb
  case stack | fabric => exact ⟨rfl, rfl, rfl⟩
  all_goals exact rfl

theorem SameBut.set_dbg (s : State) (hl : .dbg ∈ l := by decide) {dbg} : SameBut l s { s with dbg := dbg } := by
  intro b hb
  cases b
  case dbg => exact absurd hl hb
  case stack | fabric => exact ⟨rfl, rfl, rfl⟩
  all_goals exact rfl

theorem SameBut.set_tap (s : State) (hl : .tap ∈ l := by decide) {tap} : SameBut l s { s with tap := tap } := by
  intro b hb
  cases b
  case tap => exact absurd hl hb
  case stack | fabric => exact ⟨rfl, rfl, rfl⟩
  all_goals exact rfl

theorem SameBut.set_link (s : State) (hl : .link ∈ l := by decide) {link} : SameBut l s { s with link := link } := by
  intro b hb
  cases b
  case link => exact absurd hl hb
  case stack | fabric => exact ⟨rfl, rfl, rfl⟩
  all_goals exact rfl

theorem SameBut.set_phy (s : State) (hl : .phy ∈ l := by decide) {phy} : SameBut l s { s with phy := phy } := by
  intro b hb
  cases b
  case phy => exact absurd hl hb
  case stack | fabric => exact ⟨rfl, rfl, rfl⟩
  all_goals exact rfl

theorem SameBut.set_fuse (s : State) (hl : .fuse ∈ l := by decide) {fuse} : SameBut l s { s with fuse := fuse } := by
  intro b hb
  cases b
  case fuse => exact absurd hl hb
  case stack | fabric => exact ⟨rfl, rfl, rfl⟩
  all_goals exact rfl

theorem SameBut.set_sense (s : State) (hl : .sense ∈ l := by decide) {sense} : SameBut l s { s with sense := sense } := by
  intro b hb
  cases b
  case sense => exact absurd hl hb
  case stack | fabric => exact ⟨rfl, rfl, rfl⟩
  all_goals exact rfl

theorem SameBut.set_gle (s : State) (hl : .gle ∈ l := by decide) {gle} : SameBut l s { s with gle := gle } := by
  intro b hb
  cases b
  case gle => exact absurd hl hb
  case stack | fabric => exact ⟨rfl, rfl, rfl⟩
  all_goals exact rfl

theorem SameBut.set_thr (s : State) (hl : .thr ∈ l := by decide) {thr} : SameBut l s { s with thr := thr } := by
  intro b hb
  cases b
  case thr => exact absurd hl hb
  case stack | fabric => exact ⟨rfl, rfl, rfl⟩
  all_goals exact rfl

theorem SameBut.set_win (s : State) (hl : .win ∈ l := by decide) {win} : SameBut l s { s with win := win } := by
  intro b hb
  cases b
  case win => exact absurd hl hb
  case stack | fabric => exact ⟨rfl, rfl, rfl⟩
  all_goals exact rfl

theorem SameBut.set_gran (s : State) (hl : .gran ∈ l := by decide) {gran} : SameBut l s { s with gran := gran } := by
  intro b hb
  cases b
  case gran => exact absurd hl hb
  case stack | fabric => exact ⟨rfl, rfl, rfl⟩
  all_goals exact rfl

theorem SameBut.set_flash (s : State) (hl : .flash ∈ l := by decide) {flash} : SameBut l s { s with flash := flash } := by
  intro b hb
  cases b
  case flash => exact absurd hl hb
  case stack | fabric => exact ⟨rfl, rfl, rfl⟩
  all_goals exact rfl

theorem SameBut.set_fld (s : State) (hl : .fld ∈ l := by decide) {fld} : SameBut l s { s with fld := fld } := by
  intro b hb
  cases b
  case fld => exact absurd hl hb
  case stack | fabric => exact ⟨rfl, rfl, rfl⟩
  all_goals exact rfl

theorem SameBut.set_crib (s : State) (hl : .crib ∈ l := by decide) {crib} : SameBut l s { s with crib := crib } := by
  intro b hb
  cases b
  case crib => exact absurd hl hb
  case stack | fabric => exact ⟨rfl, rfl, rfl⟩
  all_goals exact rfl

theorem SameBut.set_fab (s : State) (hl : .fabric ∈ l := by decide) {fab} : SameBut l s { s with fab := fab } := by
  intro b hb
  cases b
  case fabric => exact absurd hl hb
  case stack => exact ⟨rfl, rfl, rfl⟩
  all_goals exact rfl

theorem SameBut.set_intc (s : State) (hl : .stack ∈ l := by decide) {intc} : SameBut l s { s with intc := intc } := by
  intro b hb
  cases b
  case stack => exact absurd hl hb
  case fabric => exact ⟨rfl, rfl, rfl⟩
  all_goals exact rfl

end

section
variable {l : List Part} (s : State)

theorem State.setRg_same (p o : Nat) (w : Word) : SameBut l s (s.setRg p o w) := .same s
theorem State.updRg_same (p o : Nat) (f : Word → Word) : SameBut l s (s.updRg p o f) := .same s
theorem State.setPair_same (p o : Nat) (t : Stamp) : SameBut l s (s.setPair p o t) := .same s
theorem State.setOwn1_same (m : Master) (p o : Nat) (w : Word) : SameBut l s (s.setOwn1 m p o w) := .same s
theorem State.logErr_same (p w : Nat) (c : Code) : SameBut l s (s.logErr p w c) := .same s
theorem State.logMine_same (m : Master) (p o : Nat) (c : Code) : SameBut l s (s.logMine m p o c) := .same s
theorem State.draw_same : SameBut l s s.draw.2 := .same s
theorem State.pulse_same (n : Nat) (w : Option (Nat × Nat)) : SameBut l s (s.pulse n w) := (s.pulse_signals n w).same
theorem State.evPulse_same (p b : Nat) : SameBut l s (s.evPulse p b) := (s.evPulse_signals p b).same
theorem State.evLevel_same (p b : Nat) (v : Bool) : SameBut l s (s.evLevel p b v) := (s.evLevel_signals p b v).same

theorem State.levelSource_same (p b : Nat) (v : Bool) (n : Nat) : SameBut l s (s.levelSource p b v n) :=
  (s.levelSource_signals p b v n).same

theorem State.setReadyBits_same (p : Nat) (f : Word → Word) : SameBut l s (s.setReadyBits p f) :=
  (s.setReadyBits_signals p f).same

theorem State.setDegraded_same (p : Nat) (b : Bool) : SameBut l s (s.setDegraded p b) :=
  (s.setDegraded_signals p b).same

theorem State.recordWake_same (n left : Nat) (a b : Bool) : SameBut l s (s.recordWake n left a b) :=
  (s.recordWake_signals n left a b).same

theorem State.pendWake_same (n : Nat) : SameBut l s (s.pendWake n) := (s.pendWake_signals n).same
theorem State.refreshQueue_same (n : Nat) : SameBut l s (s.refreshQueue n) := (s.refreshQueue_signals n).same
theorem State.refreshOps_same : SameBut l s s.refreshOps := s.refreshOps_signals.same

theorem State.putSlot_same (tag : Nat) (k : Slot) (hl : .ops ∈ l := by decide) : SameBut l s (s.putSlot tag k) :=
  (SameBut.set_ops s hl).trans (State.refreshOps_same _)

theorem State.setResult_same (tag : Nat) (c : Code) (hl : .ops ∈ l := by decide) : SameBut l s (s.setResult tag c) :=
  s.putSlot_same tag _ hl

theorem State.syncWdt_same (hl : .svc ∈ l := by decide) : SameBut l s s.syncWdt := SameBut.set_svc s hl

theorem State.faultRec_same (f p d : Nat) (hl : .svc ∈ l := by decide) : SameBut l s (s.faultRec f p d) := by
  unfold State.faultRec
  dsimp only
  refine SameBut.trans ?_ (State.evPulse_same _ _ _)
  split
  · exact .set_svc s hl
  · exact .ite (((SameBut.set_svc s hl).trans (State.updRg_same _ _ _ _)).trans (State.updRg_same _ _ _ _))
      ((SameBut.set_svc s hl).trans (State.updRg_same _ _ _ _))

theorem State.refreshWinnow_same : SameBut l s s.refreshWinnow :=
  ((((s.setRg_same _ _ _).trans (State.setRg_same _ _ _ _)).trans (State.evLevel_same _ _ _ _)).trans
    (State.evLevel_same _ _ _ _)).trans (State.setDegraded_same _ _ _)

theorem State.refreshLink_same : SameBut l s s.refreshLink :=
  (((s.setRg_same _ _ _).trans (State.setRg_same _ _ _ _)).trans (State.updRg_same _ _ _ _)).trans
    (State.evLevel_same _ _ _ _)

theorem State.refreshFlash_same : SameBut l s s.refreshFlash :=
  (((s.evLevel_same _ _ _).trans (State.evLevel_same _ _ _ _)).trans (State.evLevel_same _ _ _ _)).trans
    (State.setDegraded_same _ _ _)

theorem State.cribEv_same (b : Nat) : SameBut l s (s.cribEv b) :=
  (s.evPulse_same _ _).trans (State.pulse_same _ _ _)

theorem State.reseedDrbg_same : SameBut l s s.reseedDrbg :=
  (s.updRg_same _ _ _).trans (State.cribEv_same _ _)

theorem State.freeBytes_same (n : Nat) : SameBut l s (s.freeBytes n).1 := by
  induction n generalizing s with
  | zero => exact .refl s
  | succ n ih => exact s.draw_same.trans (ih s.draw.2)

theorem State.drbgBytes_same (n : Nat) : SameBut l s (s.drbgBytes n).1 :=
  ((s.updRg_same _ _ _).trans (.ite (State.reseedDrbg_same _) (.refl _))).trans (State.freeBytes_same _ n)

/-- A slot taken for an operation. -/
theorem State.allocSlot_same {src page op : Nat} {args : List Word} {fence secure : Bool} {tag : Nat} {t : State}
    (h : s.allocSlot src page op args fence secure = some (tag, t)) (hl : .ops ∈ l := by decide) : SameBut l s t := by
  unfold State.allocSlot at h
  split at h
  · cases h
  · cases h
    exact (s.putSlot_same _ _ hl).trans (.set_ops _ hl)

theorem State.agentQueue_same {src page op : Nat} {args : List Word} {tag : Nat} {t : State}
    (h : s.agentQueue src page op args = some (tag, t)) (hl : .ops ∈ l := by decide) : SameBut l s t := by
  unfold State.agentQueue at h
  split at h
  · exact s.allocSlot_same h hl
  · cases h

theorem State.endWfi_same (hcore : .core ∈ l := by decide) (hsvc : .svc ∈ l := by decide) : SameBut l s s.endWfi := by
  unfold State.endWfi
  split
  · exact (SameBut.set_core s hcore).trans (State.syncWdt_same _ hsvc)
  · exact .refl s

end

end Sys2Proof.Machine
end

section
/-!
PROOFS. The ends of the Gleaner's waits and its pushes.
-/
namespace Sys2Proof.Machine

section
variable {s : State} {q o : Nat}

/-- STOP operations that end give their slots a result and nothing else. -/
theorem State.endStops_frame (l : List (BitVec 7 × BitVec 16)) :
    ∀ u : State, (l.foldl (fun acc e =>
        if acc.running e.1.toNat 0x0A 3 then acc.setResult e.1.toNat .done else acc) u).gle = u.gle ∧
      (l.foldl (fun acc e =>
        if acc.running e.1.toNat 0x0A 3 then acc.setResult e.1.toNat .done else acc) u).pwr = u.pwr ∧
      ∀ q o, Quiet o → (l.foldl (fun acc e =>
        if acc.running e.1.toNat 0x0A 3 then acc.setResult e.1.toNat .done else acc) u).rg q o = u.rg q o := by
  induction l with
  | nil => exact fun u => ⟨rfl, rfl, fun _ _ _ => rfl⟩
  | cons e l ih =>
    intro u
    obtain ⟨hgle, hpwr, hrg⟩ := ih (if u.running e.1.toNat 0x0A 3 then u.setResult e.1.toNat .done else u)
    refine ⟨hgle.trans ?_, hpwr.trans ?_, fun q o ho => (hrg q o ho).trans ?_⟩
    · split <;> simp
    · split <;> simp
    · split
      · exact State.rg_setResult ho _ _
      · rfl

/-- Entries set under other keys leave an entry. -/
theorem Tab.get_foldl_set_other {α : Type} [DecidableEq α] {d : Nat → α} (f : Nat → α) {k : Nat} {l : List Nat}
    (hk : k ∉ l) (t : Tab α) : Tab.get d (l.foldl (fun acc j => Tab.set d acc j (f j)) t) k = Tab.get d t k := by
  induction l generalizing t with
  | nil => rfl
  | cons j l ih =>
    obtain ⟨hj, hl⟩ := not_or.1 (fun h => hk (List.mem_cons.2 h))
    rw [List.foldl_cons, ih hl, Tab.get_set_other hj]

/-- Settling STOP operations stops faulted threads and ends operations. -/
theorem State.settleStops_eq (s : State) : ∃ (halted : List Nat) (stops ovr : List (BitVec 7 × BitVec 16)),
    (∀ t, t ∈ halted → (s.thread t).st = .fault) ∧
    s.settleStops = List.foldl (fun acc e =>
        if acc.running e.1.toNat 0x0A 3 then acc.setResult e.1.toNat .done else acc)
      { s with gle := { s.gle with
        threads := List.foldl (fun acc t =>
          Tab.set (fun _ => {}) acc t { s.thread t with st := .stopped }) s.gle.threads halted
        stops := stops } } ovr :=
  ⟨_, _, _, fun t ht => by
    have h := (List.mem_filter.1 ht).2
    rw [Bool.and_eq_true, beq_iff_eq] at h
    exact h.1, rfl⟩

theorem State.settleStops_frame (s : State) :
    (∀ t, (s.thread t).st ≠ .fault → s.settleStops.thread t = s.thread t) ∧ s.settleStops.pwr = s.pwr ∧
      ∀ q o, Quiet o → s.settleStops.rg q o = s.rg q o := by
  obtain ⟨halted, stops, ovr, hfault, heq⟩ := s.settleStops_eq
  rw [heq]
  obtain ⟨hgle, hpwr, hrg⟩ := State.endStops_frame ovr _
  refine ⟨fun t ht => ?_, hpwr, hrg⟩
  rw [State.thread, hgle]
  exact Tab.get_foldl_set_other _ (fun h => ht (hfault t h)) _

theorem State.putThread_eq (s : State) (t : Nat) (h : Thread) : ∃ b,
    s.putThread t h =
      (if s.gle.stops.isEmpty then
          { s with gle := { s.gle with threads := Tab.set (fun _ => {}) s.gle.threads t h } }
        else ({ s with gle := { s.gle with
          threads := Tab.set (fun _ => {}) s.gle.threads t h } } : State).settleStops).setDegraded 0x0A b :=
  ⟨_, rfl⟩

theorem State.setDegraded_frame (s : State) (p : Nat) (b : Bool) :
    (∀ t, (s.setDegraded p b).thread t = s.thread t) ∧ (s.setDegraded p b).pwr = s.pwr ∧
      ∀ q o, Quiet o → (s.setDegraded p b).rg q o = s.rg q o :=
  ⟨fun t => by rw [State.thread, State.setDegraded, State.setReadyBits_gle]; rfl,
    State.setReadyBits_pwr _ _ _, fun _ _ ho => State.rg_setReadyBits ho _ _⟩

/-- A thread given a state that is not FAULT has it, whatever STOP operations that ends. -/
theorem State.putThread_frame {t : Nat} {h : Thread} (hst : h.st ≠ .fault) :
    (s.putThread t h).thread t = h ∧ (s.putThread t h).pwr = s.pwr ∧
      ∀ q o, Quiet o → (s.putThread t h).rg q o = s.rg q o := by
  obtain ⟨b, heq⟩ := s.putThread_eq t h
  rw [heq]
  have hself : ({ s with gle := { s.gle with
      threads := Tab.set (fun _ => {}) s.gle.threads t h } } : State).thread t = h := Tab.get_set_self
  split
  · obtain ⟨ht, hp, hr⟩ := State.setDegraded_frame { s with gle := { s.gle with
      threads := Tab.set (fun _ => {}) s.gle.threads t h } } 0x0A b
    exact ⟨(ht t).trans hself, hp, hr⟩
  · obtain ⟨ht, hp, hr⟩ := State.settleStops_frame { s with gle := { s.gle with
      threads := Tab.set (fun _ => {}) s.gle.threads t h } }
    obtain ⟨ht', hp', hr'⟩ := State.setDegraded_frame (State.settleStops { s with gle := { s.gle with
      threads := Tab.set (fun _ => {}) s.gle.threads t h } }) 0x0A b
    exact ⟨(ht' t).trans ((ht t (fun hf => hst ((congrArg Thread.st hself).symm.trans hf))).trans hself), hp'.trans hp,
      fun q o ho => (hr' q o ho).trans (hr q o ho)⟩

/-- An enabled thread that waits begins its activation when its cause comes. -/
theorem State.cause_begins {t : Nat} {w : Option (Nat × Nat)} (hst : (s.thread t).st = .wait)
    (hmay : s.mayBegin t = true) (hpend : (s.thread t).pending = false) : s.cause t w = s.beginAct t w := by
  unfold State.cause
  dsimp only
  rw [hst]
  simp only [hmay, hpend, Bool.not_false, Bool.and_self, if_true]

end

/-- Settles O30: a wait ends, a period comes round, and a push's code is on its way. -/
theorem gleanerWaitsAndPushes : Obligations.GleanerWaitsAndPushes := by
  refine ⟨?_, ?_⟩
  · rintro s t h rfl
    refine ⟨fun due hst hblock => ?_, fun due hst hblock => ?_, fun due hst hblock => ?_,
      fun rd r hst hblock hres hcode hlatch hstale => ?_, ?_⟩
    · refine congrArg Host.Outcome.next ?_
      rw [hst, hblock]
      rfl
    · refine congrArg Host.Outcome.next ?_
      rw [hst, hblock]
      rfl
    · refine congrArg Host.Outcome.next ?_
      rw [hst, hblock]
      rfl
    · refine congrArg Host.Outcome.next ?_
      rw [hst, hblock, hres]
      obtain ⟨code, value, latch, stale⟩ := r
      cases hcode; cases hlatch; cases hstale
      rfl
    · rintro due v hdue hdead hguard hst hen hpend rfl
      obtain ⟨hthread, hpwr, hrg⟩ := State.putThread_frame (s := s.reach due) (t := t.val)
        (h := { s.thread t.val with due := some (if flag (s.thrReg t.val 0x08) 24
          then nextMultiple (field (s.thrReg t.val 0x08) 23 0) (s.reach due).now
          else due + BitVec.ofNat 64 (field (s.thrReg t.val 0x08) 23 0 * 2 ^ 17)) }) (by simp [hst])
      have hheld := Eq.trans (congrArg₂ (fun (p : Power) w => p.depth == .guard && !flag w 8) hpwr
        (hrg 0x0A (0x100 + 0x40 * t.val + 0x04) (by unfold Quiet; omega))) hguard
      refine congrArg Host.Outcome.next ?_
      rw [hdue]
      dsimp only
      rw [hdead, if_neg (by decide)]
      exact (if_neg (by rw [Bool.not_eq_true]; exact hheld)).trans (State.cause_begins
        ((congrArg Thread.st hthread).trans hst)
        ((congrArg₂ (fun w b => flag w 0 && !b) (hrg 0x0A 0x008 (by unfold Quiet; omega)) hheld).trans
          (congrArg (fun b => b && !false) hen))
        ((congrArg Thread.pending hthread).trans hpend))
  · rintro s u b v t i ra tol c rfl rfl hc hd hb hp
    refine ⟨fun pos q hi hpush => ?_, fun kind q hi hpush => ?_, fun lane hi hpush => ?_⟩
    · subst hi
      refine next_issueAs hc hd hb hp rfl rfl ?_
      unfold State.doPush State.blockOn tolerant
      dsimp only
      rw [hpush]
    · subst hi
      refine next_issueAs hc hd hb hp rfl rfl ?_
      unfold State.doPushr State.blockOn tolerant
      dsimp only
      rw [hpush]
    · subst hi
      refine next_issueAs hc hd hb hp rfl rfl ?_
      unfold State.doFeed State.blockOn tolerant
      dsimp only
      rw [hpush]

end Sys2Proof.Machine
end

section
/-!
PROOFS. Which parts of the state the Gleaner's threads and the handlers touch.
-/
namespace Sys2Proof.Machine

section
variable {l : List Part} (s : State)

/-! ### Threads -/

theorem State.settleStops_same (hgle : .gle ∈ l := by decide) (hops : .ops ∈ l := by decide) :
    SameBut l s s.settleStops := by
  obtain ⟨halted, stops, ovr, -, heq⟩ := s.settleStops_eq
  rw [heq]
  exact (SameBut.set_gle s hgle).trans (.foldl (fun u e => .ite (State.setResult_same _ _ _ hops) (.refl u)) _ _)

theorem State.putThread_same (t : Nat) (h : Thread) (hgle : .gle ∈ l := by decide) (hops : .ops ∈ l := by decide) :
    SameBut l s (s.putThread t h) := by
  obtain ⟨b, heq⟩ := s.putThread_eq t h
  rw [heq]
  exact SameBut.trans (.ite (.set_gle s hgle) ((SameBut.set_gle s hgle).trans (State.settleStops_same _ hgle hops)))
    (State.setDegraded_same _ _ _)

section
variable (hgle : .gle ∈ l := by decide) (hops : .ops ∈ l := by decide)
include hgle hops

theorem State.updThread_same (t : Nat) (f : Thread → Thread) : SameBut l s (s.updThread t f) :=
  s.putThread_same t _ hgle hops

theorem State.beginAct_same (t : Nat) (w : Option (Nat × Nat)) : SameBut l s (s.beginAct t w) :=
  (s.updThread_same hgle hops t _).trans (.same _)

theorem State.pendCause_same (t : Nat) (w : Option (Nat × Nat)) : SameBut l s (s.pendCause t w) :=
  .ite (.same s) (s.updThread_same hgle hops t _)

theorem State.cause_same (t : Nat) (w : Option (Nat × Nat)) : SameBut l s (s.cause t w) := by
  unfold State.cause
  dsimp only
  split
  · exact .ite (s.beginAct_same hgle hops t w) (s.pendCause_same hgle hops t w)
  · exact s.pendCause_same hgle hops t w
  · exact s.pendCause_same hgle hops t w
  · exact .ite (s.pendCause_same hgle hops t w) (.refl s)
  · exact .refl s

theorem State.takePending_same (t : Nat) : SameBut l s (s.takePending t) :=
  .ite ((s.putThread_same t _ hgle hops).trans (State.beginAct_same _ hgle hops t _)) (.refl s)

theorem State.giveRes_same (t : Nat) (r : BlockRes) : SameBut l s (s.giveRes t r) := by
  unfold State.giveRes
  dsimp only
  split
  · exact s.putThread_same t _ hgle hops
  · exact s.putThread_same t _ hgle hops
  · exact s.putThread_same t _ hgle hops
  · exact .refl s

end

theorem State.setThrReg_same (t o : Nat) (w : Word) : SameBut l s (s.setThrReg t o w) := .same s

theorem State.setGreg_same (t k : Nat) (w : Word) : SameBut l s (s.setGreg t k w) := .same s

/-! ### Handlers -/

theorem State.place_same (kind reason subject choice from_ : Nat) (detail : Word) (hgran : .gran ∈ l := by decide) :
    SameBut l s (s.place kind reason subject choice from_ detail) :=
  ((SameBut.set_gran s hgran).trans (State.updRg_same _ _ _ _)).trans (State.evPulse_same _ _ _)

theorem State.setHandler_same (n : Nat) (h : Option Handler) (hgran : .gran ∈ l := by decide) :
    SameBut l s (s.setHandler n h) := .set_gran s hgran

theorem State.setHraise_same (n : Nat) (b : Bool) : SameBut l s (s.setHraise n b) :=
  (s.updRg_same _ _ _).trans (State.settle_signals _ _ _).same

theorem State.handle_same (n ch wave depth : Nat) (h : Handler) (hgran : .gran ∈ l := by decide)
    (hgle : .gle ∈ l := by decide) (hops : .ops ∈ l := by decide) : SameBut l s (s.handle n ch wave depth h) := by
  unfold State.handle
  dsimp only
  split
  · exact ((s.place_same _ _ _ _ _ _ hgran).trans (State.setHandler_same _ _ _ hgran)).trans
      (State.cause_same _ hgle hops _ _)
  · exact .ite ((s.place_same _ _ _ _ _ _ hgran).trans (State.setHandler_same _ _ _ hgran))
      (((s.place_same _ _ _ _ _ _ hgran).trans (State.setHandler_same _ _ _ hgran)).trans
        (State.setHraise_same _ _ _))
  · exact (s.place_same _ _ _ _ _ _ hgran).trans (State.setHandler_same _ _ _ hgran)

theorem State.handleAll_same (ch wave depth : Nat) (hgran : .gran ∈ l := by decide)
    (hgle : .gle ∈ l := by decide) (hops : .ops ∈ l := by decide) : SameBut l s (s.handleAll ch wave depth) := by
  refine .foldl (fun u n => ?_) _ s
  split
  · exact .ite (u.handle_same _ _ _ _ _ hgran hgle hops) (.refl u)
  · exact .refl u

end

end Sys2Proof.Machine
end

section
/-!
PROOFS. The bits and the fields of a word.
-/
namespace Sys2Proof.Machine

section
variable {w : Word} {hi lo v j : Nat}

theorem testBit_field (i : Nat) : (field w hi lo).testBit i = (decide (i < hi + 1 - lo) && flag w (lo + i)) := by
  unfold field flag
  rw [Nat.testBit_mod_two_pow, Nat.testBit_shiftRight, BitVec.getLsbD]

/-- The bits of a word with a field given a value. -/
theorem flag_setField (hhi : hi < 32) :
    flag (setField w hi lo v) j = if lo ≤ j ∧ j ≤ hi then v.testBit (j - lo) else flag w j := by
  have hmask : (BitVec.ofNat 32 ((2 ^ (hi + 1 - lo) - 1) <<< lo) : Word).getLsbD j = decide (lo ≤ j ∧ j ≤ hi) := by
    rw [BitVec.getLsbD_ofNat, Nat.testBit_shiftLeft, Nat.testBit_two_pow_sub_one]
    by_cases h : lo ≤ j ∧ j ≤ hi
    · simp only [h, and_self, decide_true]
      simp; omega
    · simp only [h, decide_false]
      simp; omega
  have hval : (BitVec.ofNat 32 ((v % 2 ^ (hi + 1 - lo)) <<< lo) : Word).getLsbD j =
      (decide (lo ≤ j ∧ j ≤ hi) && v.testBit (j - lo)) := by
    rw [BitVec.getLsbD_ofNat, Nat.testBit_shiftLeft, Nat.testBit_mod_two_pow]
    by_cases h : lo ≤ j ∧ j ≤ hi
    · have h1 : j < 32 := by omega
      have h2 : j - lo < hi + 1 - lo := by omega
      simp [h, h1, h2]
    · by_cases h1 : lo ≤ j
      · have h2 : ¬ j - lo < hi + 1 - lo := by omega
        simp [h, h2]
      · simp [h1]
  unfold flag setField
  dsimp only
  rw [BitVec.getLsbD_or, BitVec.getLsbD_and, BitVec.getLsbD_not, hmask, hval]
  by_cases h : lo ≤ j ∧ j ≤ hi
  · simp [h]
  · rw [if_neg h, decide_eq_false h, Bool.false_and, Bool.or_false, Bool.not_false, Bool.and_true]
    cases hw : w.getLsbD j
    · rfl
    · rw [decide_eq_true (BitVec.lt_of_getLsbD hw)]
      rfl

theorem flag_setField_other (hhi : hi < 32) (hj : j < lo ∨ hi < j) :
    flag (setField w hi lo v) j = flag w j := by
  rw [flag_setField hhi, if_neg (by omega)]

theorem flag_satField_other {n : Nat} (hhi : hi < 32) (hj : j < lo ∨ hi < j) :
    flag (satField w hi lo n) j = flag w j := flag_setField_other hhi hj

theorem field_setField_self (hhi : hi < 32) : field (setField w hi lo v) hi lo = v % 2 ^ (hi + 1 - lo) := by
  refine Nat.eq_of_testBit_eq fun i => ?_
  rw [testBit_field, Nat.testBit_mod_two_pow, flag_setField hhi]
  by_cases h : i < hi + 1 - lo
  · rw [if_pos (by omega), Nat.add_sub_cancel_left]
  · simp [h]

theorem field_congr {x : Word} (h : ∀ j, lo ≤ j → j ≤ hi → flag x j = flag w j) : field x hi lo = field w hi lo := by
  refine Nat.eq_of_testBit_eq fun i => ?_
  rw [testBit_field, testBit_field]
  by_cases hi : i < hi + 1 - lo
  · rw [h (lo + i) (by omega) (by omega)]
  · simp [hi]

theorem field_setField_other {h k : Nat} (hhi : hi < 32) (hd : h < lo ∨ hi < k) :
    field (setField w hi lo v) h k = field w h k :=
  field_congr fun j _ _ => flag_setField_other hhi (by omega)

theorem field_lt : field w hi lo < 2 ^ (hi + 1 - lo) := Nat.mod_lt _ (Nat.two_pow_pos _)

theorem field_satField_self {n : Nat} (hhi : hi < 32) :
    field (satField w hi lo n) hi lo = min (field w hi lo + n) (2 ^ (hi + 1 - lo) - 1) := by
  rw [satField, field_setField_self hhi]
  exact Nat.mod_eq_of_lt (by have := Nat.two_pow_pos (hi + 1 - lo); omega)

theorem field_satField_other {n h k : Nat} (hhi : hi < 32) (hd : h < lo ∨ hi < k) :
    field (satField w hi lo n) h k = field w h k := field_setField_other hhi hd

theorem field_setFlag_other {i h k : Nat} {b : Bool} (hhi : i < 32) (hd : h < i ∨ i < k) :
    field (setFlag w i b) h k = field w h k := field_setField_other hhi hd

end

end Sys2Proof.Machine
end

section
/-!
PROOFS. The Crib: what an operation is checked for, and its services on data.
-/
namespace Sys2Proof.Machine

/-- An operation that passes every check ends with what its meaning answers. -/
theorem State.cribOp_of_effect {s v : State} {tag op : Nat} {argsOk : State → Slot → Bool}
    {eff : Slot → State → CribOut} {c : Code} {ok : Bool} (hrun : s.running tag 0x3A op = true)
    (hargs : argsOk s (s.slot tag) = true) (hup : s.cribUp = true)
    (hsecure : (s.slot tag).secure = true ∨ op = 0x07 ∨ op = 0x0B)
    (hlife : s.lifecycle ≠ 3 ∨ op ∈ [0x07, 0x0B, 0x0C, 0x0F]) (heff : eff (s.slot tag) s = (v, c, ok)) :
    s.cribOp tag op argsOk eff = v.cribEnd tag op (s.slot tag) c (s.approvedMode && ok) := by
  have hsec : ¬ (!(s.slot tag).secure && op != 0x07 && op != 0x0B) = true := by
    rcases hsecure with h | h | h <;> simp [h]
  have hopen : ¬ (s.lifecycle = 3 && ! [0x07, 0x0B, 0x0C, 0x0F].contains op) = true := by
    rcases hlife with h | h
    · simp [h]
    · simp only [List.contains_iff_mem.2 h, Bool.not_true, Bool.and_false, Bool.false_eq_true, not_false_eq_true]
  unfold State.cribOp
  rw [hrun, if_neg (by decide)]
  dsimp only
  rw [if_neg (by rw [hargs]; decide), if_neg (by rw [hup]; decide), if_neg hsec, if_neg hopen, heff]

/-- An operation that passes every check and is an approved service in approved mode. -/
theorem next_cribOp {s v : State} {tag op : Nat} {argsOk : State → Slot → Bool}
    {eff : Slot → State → CribOut} {c : Code} {x : Host.Outcome State Fault Refusal}
    (hrun : s.running tag 0x3A op = true) (hup : s.cribUp = true)
    (hsecure : (s.slot tag).secure = true ∨ op = 0x07 ∨ op = 0x0B)
    (hlife : s.lifecycle ≠ 3 ∨ op ∈ [0x07, 0x0B, 0x0C, 0x0F])
    (hx : x = .next (s.cribOp tag op argsOk eff)) (hargs : argsOk s (s.slot tag) = true)
    (heff : eff (s.slot tag) s = (v, c, true)) : x = .next (v.cribEnd tag op (s.slot tag) c s.approvedMode) := by
  rw [hx, State.cribOp_of_effect hrun hargs hup hsecure hlife heff, Bool.and_true]

section
variable {s t u v w : State} {k : Slot} {key iv aad mac want sig l b : List Byte}

/-! ### Ciphers and message authentication -/

theorem cipherEffect_no_key (h : s.aesKey (field (k.arg 0) 5 0) (if flag (k.arg 0) 11 then 1 else 0) = none) :
    cipherEffect k s = (s, .security, true) := by
  unfold cipherEffect
  dsimp only
  rw [h]

theorem cipherEffect_key {n len : Nat} (hn : n = field (k.arg 0) 5 0) (hlen : len = field (k.arg 3) 16 0)
    (hkey : s.aesKey n (if flag (k.arg 0) 11 then 1 else 0) = some key)
    (hsrc : s.winBytes (k.arg 1).toNat (if flag (k.arg 0) 11 then len + (cipherLens k).1 else len) = (t, .ok l))
    (hiv : t.winBytes (k.arg 4).toNat (cipherLens k).2.1 = (v, .ok iv))
    (haad : v.winBytes (k.arg 5).toNat (cipherLens k).2.2 = (w, .ok aad)) :
    cipherEffect k s =
      if flag (k.arg 0) 11 && (cipherLens k).1 > 0 &&
          (cipherRun (field (k.arg 0) 10 8) (flag (k.arg 0) 11) key iv aad (l.take len) (cipherLens k).1).2 !=
            l.drop len then
        (w.winPutBytes (k.arg 2).toNat (List.replicate len 0), .security, true)
      else
        (w.winPutBytes (k.arg 2).toNat
          (if flag (k.arg 0) 11 then
            (cipherRun (field (k.arg 0) 10 8) (flag (k.arg 0) 11) key iv aad (l.take len) (cipherLens k).1).1
          else
            (cipherRun (field (k.arg 0) 10 8) (flag (k.arg 0) 11) key iv aad (l.take len) (cipherLens k).1).1 ++
              (cipherRun (field (k.arg 0) 10 8) (flag (k.arg 0) 11) key iv aad (l.take len) (cipherLens k).1).2),
          .done, true) := by
  subst hn hlen
  unfold cipherEffect
  dsimp only
  rw [hkey]
  dsimp only
  rw [hsrc]
  dsimp only
  rw [hiv]
  dsimp only
  rw [haad]

theorem macEffect_of {n len : Nat} (hn : n = field (k.arg 0) 5 0) (hlen : len = field (k.arg 0) 21 16)
    (hsrc : s.winBytes (k.arg 1).toNat (field (k.arg 2) 16 0) = (u, .ok l))
    (hmac : u.macOf n (field (k.arg 0) 9 8) l = some mac) (hgen : flag (k.arg 0) 11 = false) :
    macEffect k s = (u.winPutBytes (k.arg 3).toNat (mac.take len), .done, true) := by
  subst hn hlen
  unfold macEffect
  dsimp only
  rw [hsrc]
  dsimp only
  rw [hmac]
  dsimp only
  rw [hgen, if_neg (by decide)]

theorem macEffect_check {n len : Nat} (hn : n = field (k.arg 0) 5 0) (hlen : len = field (k.arg 0) 21 16)
    (hsrc : s.winBytes (k.arg 1).toNat (field (k.arg 2) 16 0) = (u, .ok l))
    (hmac : u.macOf n (field (k.arg 0) 9 8) l = some mac) (hgen : flag (k.arg 0) 11 = true)
    (hwant : u.winBytes (k.arg 3).toNat len = (v, .ok want)) :
    macEffect k s =
      if mac.take len = want then (v, .done, true) else (v.authFail 2 n (logMaster k), .security, true) := by
  subst hn hlen
  unfold macEffect
  dsimp only
  rw [hsrc]
  dsimp only
  rw [hmac]
  dsimp only
  rw [hgen, if_pos rfl, hwant]
  simp only [beq_iff_eq]

/-! ### Signatures -/

theorem signEffect_signs {n : Nat} (hn : n = field (k.arg 0) 5 0) (htyp : (s.key n).typ = 4)
    (huse : (s.key n).usage.getLsbD 3 = true) (hin : s.bytesInside (k.arg 1).toNat 32 = true)
    (hout : s.bytesWritable (k.arg 2).toNat 64 = true) (hsrc : s.winBytes (k.arg 1).toNat 32 = (u, .ok l))
    (hdrbg : u.drbgBytes 32 = (v, b)) :
    signEffect k s =
      (v.winPutBytes (k.arg 2).toNat ((curveOf false).sign (natBE (s.key n).secret)
        (natBE b % ((curveOf false).n - 1) + 1) l), .done, true) := by
  subst hn
  have hlen : (curveOf false).len = 32 := rfl
  unfold signEffect
  dsimp only
  rw [htyp, huse, if_neg (by decide), show ((4 == 5 : Bool)) = false from rfl, hlen, hin, hout, if_neg (by decide), hsrc]
  dsimp only
  rw [hdrbg]

theorem signEffect_other {n : Nat} (hn : n = field (k.arg 0) 5 0) (h4 : (s.key n).typ ≠ 4) (h5 : (s.key n).typ ≠ 5) :
    signEffect k s = (s, .security, true) := by
  subst hn
  unfold signEffect
  dsimp only
  rw [if_pos (by simp [h4, h5])]

theorem State.verifyCurve_p256 (hgiven : flag (k.arg 0) 8 = false) (htyp : (s.key (field (k.arg 0) 5 0)).typ = 6) :
    s.verifyCurve k = curveOf false := by
  unfold State.verifyCurve
  rw [hgiven, if_neg (by decide), htyp]
  rfl

theorem verifyEffect_key {n : Nat} (hn : n = field (k.arg 0) 5 0) (hgiven : flag (k.arg 0) 8 = false)
    (htyp : (s.key n).typ = 6) (huse : (s.key n).usage.getLsbD 4 = true)
    (hdigest : s.winBytes (k.arg 1).toNat 32 = (u, .ok l)) (hsig : u.winBytes (k.arg 2).toNat 64 = (v, .ok sig)) :
    verifyEffect k s =
      if (curveOf false).verify (s.key n).pub l sig = true then (v, .done, true)
      else (v.authFail 1 n (logMaster k), .security, true) := by
  subst hn
  have hlen : (curveOf false).len = 32 := rfl
  unfold verifyEffect
  dsimp only
  rw [hgiven, htyp, huse, if_neg (by decide), State.verifyCurve_p256 hgiven htyp, hlen, hdigest]
  dsimp only
  rw [hsig]
  dsimp only
  rw [if_neg (by decide), if_neg (by decide)]

theorem verifyArgs_p256 (hgiven : flag (k.arg 0) 8 = false) (htyp : (s.key (field (k.arg 0) 5 0)).typ = 6)
    (hdigest : s.bytesInside (k.arg 1).toNat 32 = true) (hsig : s.bytesInside (k.arg 2).toNat 64 = true) :
    verifyArgs s k = true := by
  have hlen : (curveOf false).len = 32 := rfl
  unfold verifyArgs
  dsimp only
  rw [State.verifyCurve_p256 hgiven htyp, hlen, hdigest, hsig, hgiven]
  rfl

/-! ### Digests and random numbers -/

theorem hashEffect_window (hwin : flag (k.arg 0) 8 = false)
    (hsrc : s.winBytes (k.arg 1).toNat (field (k.arg 2) 23 0) = (u, .ok l)) :
    hashEffect k s = (u.winPutBytes (k.arg 3).toNat (sha (flag (k.arg 0) 0) l), .done, true) := by
  unfold hashEffect
  dsimp only
  rw [hwin, if_neg (by decide), hsrc]

theorem randomEffect_plain (hplain : flag (k.arg 2) 0 = false)
    (hdrbg : s.drbgBytes (field (k.arg 1) 16 0) = (u, l)) :
    randomEffect k s = (u.winPutBytes (k.arg 0).toNat l, .done, true) := by
  unfold randomEffect
  dsimp only
  rw [hplain, if_neg (by decide), hdrbg]

end

/-- Settles O55: the services on data, by what each reads and answers. -/
theorem cribServices : Obligations.CribServices := by
  refine ⟨?_, ?_, ?_, ?_, ?_, ?_, ?_, ?_⟩
  · rintro s t v w tag k n len key iv aad l dec rfl hn rfl hlen hup hsec hlife hrun hargs
    have run {x : State} {c : Code} (h : cipherEffect (s.slot tag.val) s = (x, c, true)) :
        exec (.cipher tag) s = .next (x.cribEnd tag.val 0x05 (s.slot tag.val) c s.approvedMode) :=
      next_cribOp hrun hup (.inl hsec) (.inl hlife) rfl hargs h
    refine ⟨fun hkey => run (cipherEffect_no_key (hn ▸ hkey)), fun hkey hsrc hiv haad => ?_⟩
    have heff := cipherEffect_key hn hlen hkey hsrc hiv haad
    refine ⟨fun hdec => run ?_, fun hdec htag hne => run ?_, fun hdec htag => run ?_⟩
    · rw [heff, hdec, if_neg (by simp), if_neg (by decide)]
    · rw [heff, if_pos (by rw [hdec]; simpa [htag] using hne)]
    · rw [heff, hdec, htag, if_neg (by simp), if_pos rfl]
  · rintro s u tag k n len mac l rfl hn hlen hup hsec hlife hrun hargs hsrc hmac
    have run {x : State} {c : Code} (h : macEffect (s.slot tag.val) s = (x, c, true)) :
        exec (.mac tag) s = .next (x.cribEnd tag.val 0x06 (s.slot tag.val) c s.approvedMode) :=
      next_cribOp hrun hup (.inl hsec) (.inl hlife) rfl hargs h
    refine ⟨fun hgen => run (macEffect_of hn hlen hsrc hmac hgen), fun v want hgen hwant => ?_⟩
    have heff := macEffect_check hn hlen hsrc hmac hgen hwant
    split at heff <;> rename_i h
    · rw [if_pos h]; exact run heff
    · rw [if_neg h]; exact run heff
  · rintro s u v tag k n b l rfl hn hup hsec hlife hrun
    refine ⟨fun htyp huse hin hout hsrc hdrbg => ?_, fun h4 h5 => ?_⟩
    · exact next_cribOp hrun hup (.inl hsec) (.inl hlife) rfl rfl (signEffect_signs hn htyp huse hin hout hsrc hdrbg)
    · exact next_cribOp hrun hup (.inl hsec) (.inl hlife) rfl rfl (signEffect_other hn h4 h5)
  · rintro s u v tag k n sig l rfl hn hup hsec hlife hrun hgiven htyp huse hin hin' hdigest hsig
    have run {x : State} {c : Code} (h : verifyEffect (s.slot tag.val) s = (x, c, true)) :
        exec (.verify tag) s = .next (x.cribEnd tag.val 0x09 (s.slot tag.val) c s.approvedMode) :=
      next_cribOp hrun hup (.inl hsec) (.inl hlife) rfl (verifyArgs_p256 hgiven (hn ▸ htyp) hin hin') h
    have heff := verifyEffect_key hn hgiven htyp huse hdigest hsig
    split at heff <;> rename_i h
    · rw [if_pos h]; exact run heff
    · rw [if_neg h]; exact run heff
  · rintro s tag k rfl hup hsec hlife hrun
    exact next_cribOp hrun hup (.inl hsec) (.inl hlife) rfl rfl rfl
  · rintro s u tag k l rfl hup hrun hargs hwin hsrc
    refine next_cribOp hrun hup (.inr (.inl rfl)) (.inr (by decide)) ?_ hargs (hashEffect_window hwin hsrc)
    refine congrArg Host.Outcome.next ?_
    rw [hwin, if_neg (by simp)]
  · rintro s tag k u l rfl hup hrun h1 hmax hout hplain hdrbg
    exact next_cribOp hrun hup (.inr (.inr rfl)) (.inr (by decide)) rfl
      (by simp [h1, hmax, hout]) (randomEffect_plain hplain hdrbg)
  · rintro s tag k rfl hup hsec hrun
    exact ⟨next_cribOp hrun hup (.inl hsec) (.inr (by decide)) rfl rfl rfl,
      fun b => next_cribOp hrun hup (.inl hsec) (.inr (by decide)) rfl rfl rfl⟩

end Sys2Proof.Machine
end

section
/-!
PROOFS. Starting the core.
-/
namespace Sys2Proof.Machine

section
variable {s a b x : State} {h : List Byte}

theorem CoreState.reg_setX_self (c : CoreState) {n : Nat} (hn : n ≠ 0) (w : Word) : (c.setX n w).reg n = w := by
  unfold CoreState.reg CoreState.setX
  rw [if_neg hn, if_neg hn]
  exact Tab.get_set_self

theorem CoreState.reg_setX_other (c : CoreState) {n k : Nat} (hk : k ≠ n) (w : Word) :
    (c.setX n w).reg k = c.reg k := by
  unfold CoreState.reg CoreState.setX
  split
  · rfl
  · split
    · rfl
    · exact Tab.get_set_other hk

theorem CoreState.reg_checkpoint (c : CoreState) (t : Stamp) (n : Nat) : (c.checkpoint t).reg n = c.reg n := rfl

/-- A core that is released, or not wanted, is not started. -/
theorem State.coreBoot_released (hrel : s.core.released = true) : s.coreBoot = s := by
  unfold State.coreBoot
  rw [if_pos (by rw [hrel]; rfl)]

section
variable (hrel : s.core.released = false) (hdead : s.dead = false) (havail : s.unavailable .core = false)
  (hfault : flag (s.rg 0x38 0x004) 2 = false) (hgroup : (groupNeeds 10).all s.groupReady = true)
  (hfree : s.flashBusy 0 0x800000 = false)
include hrel hdead havail hfault hgroup hfree

theorem State.coreBoot_no_header (ha : s.bankHeader 0 = (a, none)) (hb : a.bankHeader 1 = (b, none)) :
    s.coreBoot =
      ((((b.setRg 0x38 0x048 0).setRg 0x38 0x04C 0).setReadyBits 0x38 (fun w =>
        setFlag (setFlag w 2 true) 0 false))).faultRec 0x10 0x38 0 := by
  unfold State.coreBoot
  rw [if_neg (by rw [hrel, hdead, havail, hfault, hgroup, hfree]; decide), ha]
  dsimp only
  rw [hb]
  simp only [ite_self, State.checkBank]

theorem State.coreBoot_bank_a {c : State} {signed : Bool} (ha : s.bankHeader 0 = (a, some h))
    (hb : a.bankHeader 1 = (b, none))
    (hc : c = (b.setRg 0x38 0x048 (BitVec.ofNat 32 (hdrField h 8 4))).setRg 0x38 0x04C 0)
    (hover : flag (c.rg 0x38 0x044) 8 = false) (hran : c.core.ran ≠ some 0)
    (hok : c.checkBank 0 (some h) = (x, .ok signed)) : s.coreBoot = x.startImage 0 2 signed h := by
  have hfirst : c.bootFirst (some h) none = (0, 2) := by
    have hcand : c.bootCandidate (some h) none = (0, 2) := by
      unfold State.bootCandidate
      dsimp only
      rw [hover, if_neg (by decide)]
    have hne : (c.core.ran == some 0) = false := beq_false_of_ne hran
    unfold State.bootFirst
    rw [hcand]
    dsimp only
    rw [hne]
    rfl
  subst hc
  unfold State.coreBoot
  rw [if_neg (by rw [hrel, hdead, havail, hfault, hgroup, hfree]; decide), ha]
  dsimp only
  rw [hb]
  dsimp only
  rw [hfirst]
  dsimp only
  rw [if_pos rfl, hok]

end

/-- A started image's core is released in machine mode at its entry, with its bank in x10. -/
theorem State.startImage_core (n why : Nat) (signed : Bool) :
    (s.startImage n why signed h).core.released = true ∧ (s.startImage n why signed h).core.machine = true ∧
      (s.startImage n why signed h).core.pc = BitVec.ofNat 32 (hdrField h 0x010 4) ∧
      (s.startImage n why signed h).core.reg 10 = BitVec.ofNat 32 n := by
  refine ⟨rfl, rfl, rfl, ?_⟩
  refine Eq.trans (CoreState.reg_setX_other _ (by decide) _) (CoreState.reg_setX_self _ (by decide) _)

theorem confirmEffect_asked {v : Word} (hask : flag v 0 = true)
    (hunc : (s.setRg 0x38 0x044 (v &&& 0x300)).unconfirmed = true) :
    confirmEffect v s =
      ({ (s.setRg 0x38 0x044 (v &&& 0x300)) with
        flash := { s.flash with confirming := some (s.setRg 0x38 0x044 (v &&& 0x300)).runningImage } }, .done) := by
  unfold confirmEffect
  dsimp only
  rw [hask, hunc]
  rfl

theorem State.runningImage_congr (hrg : ∀ o, o < 0x1000 → o ≠ 0x044 → a.rg 0x38 o = s.rg 0x38 o) :
    a.runningImage = s.runningImage := by
  have hbank : field (s.rg 0x38 0x040) 1 0 < 4 := Nat.mod_lt _ (by decide)
  unfold State.runningImage
  rw [hrg 0x040 (by decide) (by decide)]
  dsimp only
  rw [hrg _ (by omega) (by omega)]

end

/-- Settles O44: where no bank, and where bank A alone, has a header; and the confirmation. -/
theorem coreBoot : Obligations.CoreBoot := by
  intro s a b m v
  refine ⟨fun hrel => ?_, fun hrel hdead havail hfault hgroup hfree ha hb => ?_,
    fun h c x signed hrel hdead havail hfault hgroup hfree ha hb hc hover hran hok => ?_,
    fun n why signed h => s.startImage_core n why signed, fun hg hask hunc => ?_, fun hg hask => ?_,
    fun r hconf hup hunc himage => ?_, fun hconf => ?_⟩
  · exact congrArg Host.Outcome.next (State.coreBoot_released hrel)
  · exact congrArg Host.Outcome.next (State.coreBoot_no_header hrel hdead havail hfault hgroup hfree ha hb)
  · exact congrArg Host.Outcome.next
      (State.coreBoot_bank_a hrel hdead havail hfault hgroup hfree ha hb hc hover hran hok)
  · refine congrArg Host.Outcome.next ?_
    have hstat : ∀ o, o < 0x1000 → o ≠ 0x044 → (s.setRg 0x38 0x044 (v &&& 0x300)).rg 0x38 o = s.rg 0x38 o :=
      fun o ho hne => State.rg_setRg_other (by rw [ne_eq, ra_inj ho (by decide)]; omega)
    rw [State.write_pass hg, confirmEffect_asked hask ((congrArg (fun w => flag w 4) (hstat 0x040 (by decide)
      (by decide))).trans hunc), State.complete_done, State.runningImage_congr hstat]
  · refine congrArg Host.Outcome.next ?_
    rw [State.write_pass hg]
    unfold confirmEffect
    dsimp only
    rw [hask, if_neg (by simp), State.complete_done]
  · refine congrArg Host.Outcome.next ?_
    unfold State.confirmWritten
    rw [hconf]
    dsimp only
    rw [hup, if_pos rfl, if_pos (by
      rw [Bool.and_eq_true, beq_iff_eq]
      exact ⟨hunc, himage⟩)]
  · refine congrArg Host.Outcome.next ?_
    unfold State.confirmWritten
    rw [hconf]

end Sys2Proof.Machine
end

section
/-!
PROOFS. Remote management and the configuration image.
-/
namespace Sys2Proof.Machine

section
variable {s u v w : State} {g : MgmtMsg} {rest : List MgmtMsg} {n : Nat} {e : Envelope} {pt b : List Byte}

/-! ### Envelopes -/

theorem State.mgmtTake_waits (hin : s.link.mgmtIn = g :: rest)
    (hwait : s.ready 0x2A = false ∨ s.cribFree = false ∨ s.agentRoom = false) : s.mgmtTake = s := by
  unfold State.mgmtTake
  rw [hin]
  dsimp only
  rw [if_pos (by rcases hwait with h | h | h <;> simp [h])]

section
variable (hin : s.link.mgmtIn = g :: rest) (hdead : s.dead = false) (hready : s.ready 0x2A = true)
  (hcrib : s.cribFree = true) (hroom : s.agentRoom = true) (hslot : s.nextFree.isSome = true)
  (hu : u = s.updLink (fun l => { l with mgmtIn := rest }))
include hin hdead hready hcrib hroom hslot hu

theorem State.mgmtTake_takes :
    s.mgmtTake =
      match u.peerOf g.orig, envelopeOf g.body with
      | some n, some e =>
        match u.openEnvelope g.orig e with
        | none => u.mgmtDrop
        | some pt =>
          if flag (u.optWord 16) 2 && (match u.peer n with | some p => p.mgmt | none => false) then
            u.mgmtAct n g.orig e pt
          else u.mgmtReply g.orig 0x8F e.mctr e.dnonce (replyEntry .security 0)
      | _, _ => u.mgmtDrop := by
  subst hu
  have hfree : s.nextFree.isNone = false := by rw [← Option.not_isSome, hslot]; rfl
  unfold State.mgmtTake
  rw [hin]
  dsimp only
  rw [if_neg (by rw [hdead, hready, hcrib, hroom, hfree]; decide)] <;> rfl

theorem State.mgmtTake_drops (h : u.peerOf g.orig = none ∨ envelopeOf g.body = none) : s.mgmtTake = u.mgmtDrop := by
  rw [State.mgmtTake_takes hin hdead hready hcrib hroom hslot hu]
  rcases h with h | h
  · rw [h]
  · rw [h]
    cases u.peerOf g.orig <;> rfl

theorem State.mgmtTake_opens (hpeer : u.peerOf g.orig = some n) (henv : envelopeOf g.body = some e) :
    s.mgmtTake =
      match u.openEnvelope g.orig e with
      | none => u.mgmtDrop
      | some pt =>
        if flag (u.optWord 16) 2 && (match u.peer n with | some p => p.mgmt | none => false) then
          u.mgmtAct n g.orig e pt
        else u.mgmtReply g.orig 0x8F e.mctr e.dnonce (replyEntry .security 0) := by
  rw [State.mgmtTake_takes hin hdead hready hcrib hroom hslot hu, hpeer, henv]

theorem State.mgmtTake_acts {p : Peer} (hpeer : u.peerOf g.orig = some n) (henv : envelopeOf g.body = some e)
    (hopen : u.openEnvelope g.orig e = some pt) (hopt : flag (u.optWord 16) 2 = true) (hp : u.peer n = some p)
    (hmgmt : p.mgmt = true) : s.mgmtTake = u.mgmtAct n g.orig e pt := by
  rw [State.mgmtTake_opens hin hdead hready hcrib hroom hslot hu hpeer henv, hopen]
  dsimp only
  rw [if_pos (by rw [hopt, hp]; exact hmgmt)]

end

theorem State.mgmtReply_frame (orig mtype mctr dnonce : Nat) (l : List Byte) :
    (s.mgmtReply orig mtype mctr dnonce l).link.mgmt = s.link.mgmt ∧
      (s.mgmtReply orig mtype mctr dnonce l).own = s.own ∧ (s.mgmtReply orig mtype mctr dnonce l).gran = s.gran ∧
      (s.mgmtReply orig mtype mctr dnonce l).fuse = s.fuse := by
  unfold State.mgmtReply
  dsimp only
  split
  · exact ⟨rfl, rfl, rfl, rfl⟩
  · split
    · exact ⟨rfl, rfl, rfl, rfl⟩
    · next h =>
      have hb := State.agentQueue_same (l := [.ops]) _ h
      exact ⟨(congrArg Link.mgmt hb.link :), hb.own, hb.gran, hb.fuse⟩

/-- OPEN begins a session of its peer. -/
theorem State.mgmtAct_open {orig : Nat} (htype : e.mtype = 1) (hctr : e.mctr = 0) (hnonce : e.dnonce = 0) :
    ∃ x, (s.mgmtAct n orig e pt).link.mgmt = some x ∧ x.peer = n ∧ x.mctr = 0 ∧ x.last = s.now ∧
      (s.mgmtAct n orig e pt).own = s.own ∧ (s.mgmtAct n orig e pt).gran = s.gran ∧
      (s.mgmtAct n orig e pt).fuse = s.fuse := by
  have hd := s.drbgBytes_same (l := []) 4
  unfold State.mgmtAct
  dsimp only
  rw [if_pos htype, if_neg (by simp [hctr, hnonce])]
  generalize s.drbgBytes 4 = d at hd
  obtain ⟨s1, l⟩ := d
  dsimp only at hd ⊢
  obtain ⟨hm, ho, hg, hf⟩ := State.mgmtReply_frame (s := State.refreshLink
    ((s1.updLink (fun k => { k with mgmt := some { peer := n, dnonce := BitVec.ofNat 32 (natLE l), last := s.now } })).updRg
      0x2A 0x068 (fun w => satField w 31 16 1))) orig 0x81 0 (natLE l) []
  have hb := ((s1.updLink (fun k => { k with
    mgmt := some { peer := n, dnonce := BitVec.ofNat 32 (natLE l), last := s.now } })).updRg_same (l := []) 0x2A 0x068
      (fun w => satField w 31 16 1)).trans (State.refreshLink_same _)
  exact ⟨_, hm.trans (congrArg Link.mgmt hb.link :), rfl, rfl, rfl, ho.trans (hb.own.trans hd.own),
    hg.trans (hb.gran.trans hd.gran), hf.trans (hb.fuse.trans hd.fuse)⟩

theorem State.mgmtAct_request {orig : Nat} {x : MgmtSession} (htype : e.mtype = 2) (hx : s.link.mgmt = some x)
    (hnonce : x.dnonce = BitVec.ofNat 32 e.dnonce) (hctr : x.mctr.toNat < e.mctr)
    (hentries : (s.updLink (fun k => { k with
      mgmt := some { x with mctr := BitVec.ofNat 32 e.mctr, last := s.now } })).mgmtEntries (pieces pt.length 8 pt) =
        (w, b)) : s.mgmtAct n orig e pt = w.mgmtReply orig 0x82 e.mctr e.dnonce b := by
  unfold State.mgmtAct
  rw [hx]
  dsimp only
  rw [if_neg (by omega), if_pos htype, if_pos (by simp [hnonce, hctr]), hentries]

theorem State.mgmtAct_stale {orig : Nat} {x : MgmtSession} (htype : e.mtype = 2) (hx : s.link.mgmt = some x)
    (hctr : e.mctr ≤ x.mctr.toNat) : s.mgmtAct n orig e pt = s.mgmtDrop := by
  unfold State.mgmtAct
  rw [hx]
  dsimp only
  rw [if_neg (by omega), if_pos htype, if_neg (by simp; omega)]

theorem State.mgmtAct_close {orig : Nat} {x : MgmtSession} (htype : e.mtype = 3) (hx : s.link.mgmt = some x)
    (hnonce : x.dnonce = BitVec.ofNat 32 e.dnonce) :
    s.mgmtAct n orig e pt = (s.closeMgmt.refreshLink).mgmtReply orig 0x83 e.mctr e.dnonce [] := by
  unfold State.mgmtAct
  rw [hx]
  dsimp only
  rw [if_neg (by omega), if_neg (by omega), if_pos htype, if_pos (by simp [hnonce])]

/-! ### Entries of a request -/

/-- An entry's address and value are read back from it. -/
theorem natLE_entry {op : Byte} {a : Nat} (ha : a < 0x100000) (x : Word) :
    natLE (((op :: (bytesLE 3 a ++ bytesLE 4 x.toNat)).drop 1).take 3) = a ∧
      natLE (((op :: (bytesLE 3 a ++ bytesLE 4 x.toNat)).drop 4).take 4) = x.toNat := by
  have h3 := bytesLE_length 3 a
  have h4 := bytesLE_length 4 x.toNat
  refine ⟨?_, ?_⟩
  · rw [List.drop_succ_cons, List.drop_zero, List.take_left' h3, natLE_bytesLE]
    omega
  · rw [List.drop_succ_cons, List.drop_left' h3, List.take_of_length_le (by omega), natLE_bytesLE]
    exact Nat.mod_eq_of_lt x.isLt

theorem State.mgmtEntry_write {a : Nat} {x : Word} {c : Code} (ha : a < 0x100000) (hal : a % 4 = 0)
    (hw : s.portWrite .radio a x = (w, c)) :
    s.mgmtEntry (2 :: (bytesLE 3 a ++ bytesLE 4 x.toNat)) = (w, replyEntry c 0) := by
  obtain ⟨haddr, hval⟩ := natLE_entry (op := 2) ha x
  unfold State.mgmtEntry
  rw [haddr, hval]
  dsimp only
  rw [if_neg (by simp [hal]; omega), if_neg (by simp), if_pos (by simp), BitVec.ofNat_toNat, BitVec.setWidth_eq, hw]

theorem State.mgmtEntry_read {a : Nat} {x r : Word} {c : Code} (ha : a < 0x100000) (hal : a % 4 = 0)
    (hr : s.portRead .radio a = (w, r, c)) :
    s.mgmtEntry (1 :: (bytesLE 3 a ++ bytesLE 4 x.toNat)) = (w, replyEntry c r) := by
  obtain ⟨haddr, -⟩ := natLE_entry (op := 1) ha x
  unfold State.mgmtEntry
  rw [haddr]
  dsimp only
  rw [if_neg (by simp [hal]; omega), if_pos (by simp), hr]

/-! ### The configuration image -/

theorem State.imageLoad_waits (hcrib : s.cribUp = false) : s.imageLoad = s := by
  unfold State.imageLoad
  rw [if_pos (by simp [hcrib])]

section
variable (hdead : s.dead = false) (hready : s.ready 0x1E = true) (hcrib : s.cribUp = true)
  (hopt : s.opt.loaded = true)
include hdead hready hcrib hopt

theorem State.imageLoad_eq :
    s.imageLoad =
      match s.imageBase, s.crib.loader with
      | _, some l => s.loaderRun (l.stop / 4 + 2)
      | some base, none =>
        if field (s.rg 0x3A 0x070) 1 0 != 0 then s
        else
          let s1 := s.imageVerify base
          s1.loaderRun (match s1.crib.loader with | some l => l.stop / 4 + 2 | none => 0)
      | none, none => s := by
  unfold State.imageLoad
  rw [if_neg (by rw [hdead, hready, hcrib, hopt]; decide)] <;> rfl

theorem State.imageLoad_none (hword : s.optWord 2 = 0xFFFFFFFF) (hl : s.crib.loader = none) : s.imageLoad = s := by
  rw [State.imageLoad_eq hdead hready hcrib hopt, State.imageBase, if_pos hword, hl]

theorem State.imageLoad_done (hstat : field (s.rg 0x3A 0x070) 1 0 ≠ 0) (hl : s.crib.loader = none) :
    s.imageLoad = s := by
  rw [State.imageLoad_eq hdead hready hcrib hopt, hl]
  cases s.imageBase with
  | none => rfl
  | some base => exact if_pos (by simpa using hstat)

theorem State.imageLoad_verify (hword : s.optWord 2 ≠ 0xFFFFFFFF) (hstat : field (s.rg 0x3A 0x070) 1 0 = 0)
    (hl : s.crib.loader = none) :
    s.imageLoad =
      (s.imageVerify (s.optWord 2).toNat).loaderRun
        (match (s.imageVerify (s.optWord 2).toNat).crib.loader with | some l => l.stop / 4 + 2 | none => 0) := by
  rw [State.imageLoad_eq hdead hready hcrib hopt, State.imageBase, if_neg hword, hl]
  exact if_neg (by simp [hstat])

theorem State.imageLoad_loader {l : Loader} (hl : s.crib.loader = some l) :
    s.imageLoad = s.loaderRun (l.stop / 4 + 2) := by
  rw [State.imageLoad_eq hdead hready hcrib hopt, hl]

end

/-- An image at a place no image can have is rejected. -/
theorem State.imageVerify_misplaced {base : Nat} (h : base % 0x4000 ≠ 0 ∨ 0x1000000 ≤ base) :
    s.imageVerify base = s.draw.2.imageDone 3 2 (field (Config.freeWord s.fresh) 7 0) 0 := by
  unfold State.imageVerify
  dsimp only
  rw [if_pos (by rcases h with h | h <;> simp [h])]
  rfl

theorem State.imageVerify_busy {base : Nat} (hal : base % 0x4000 = 0) (hin : base < 0x1000000)
    (hbusy : s.flashBusy base (0x1000000 - base) = true) : s.imageVerify base = s := by
  unfold State.imageVerify
  dsimp only
  rw [if_neg (by simp [hal]; omega), if_pos hbusy]

theorem State.imageVerify_verified {base : Nat} {h : List Byte} (hal : base % 0x4000 = 0) (hin : base < 0x1000000)
    (hbusy : s.flashBusy base (0x1000000 - base) = false) (hhead : s.imageHeader base = (u, some h))
    (hok : imageOk 2 (0x1000000 - base) h = true) (hdigest : u.digestOk base h = (v, true))
    (hsigned : v.lifecycle = 2 → v.headerSigned h = true) :
    s.imageVerify base =
      (v.setImg 1 0 0).updCrib (fun c => { c with
        loader := some { base := base, next := 512, stop := 512 + hdrField h 0x00C 4 } }) := by
  unfold State.imageVerify
  dsimp only
  rw [if_neg (by simp [hal]; omega), if_neg (by simp [hbusy]), hhead]
  dsimp only
  rw [if_neg (by simp [hok]), hdigest]
  dsimp only
  rw [if_neg (by simpa using hsigned)]

/-! ### The records of an image -/

theorem State.loaderRun_running {l : Loader} (hl : s.crib.loader = some l) (hslot : l.slot.isSome = true) (k : Nat) :
    s.loaderRun k = s := by
  obtain ⟨tag, htag⟩ := Option.isSome_iff_exists.1 hslot
  cases k with
  | zero => rfl
  | succ k =>
    unfold State.loaderRun
    rw [hl]
    dsimp only
    rw [htag]

theorem State.loaderRun_failed {l : Loader} {c : Code} (hl : s.crib.loader = some l) (hslot : l.slot = none)
    (hcode : l.code = some c) (hc : c ≠ .done) (k : Nat) :
    s.loaderRun (k + 1) = s.loaderStop { l with record := l.record - 1 } c := by
  rw [State.loaderRun, hl]
  dsimp only
  rw [hslot, hcode]
  dsimp only
  rw [if_neg hc]

theorem State.loaderRun_end {l : Loader} {word : Word} (hl : s.crib.loader = some l) (hslot : l.slot = none)
    (hcode : l.code = none) (hin : l.next + 4 ≤ l.stop)
    (hbusy : s.flashBusy (l.base + l.next) (l.stop - l.next) = false)
    (hword : s.flashWord none (l.base + l.next) = (u, some word)) (hkind : field word 31 28 = 0xF) (k : Nat) :
    s.loaderRun (k + 1) = u.imageDone 2 0 0 l.record := by
  have hstep : s.loaderStep l = (u.imageDone 2 0 0 l.record, false) := by
    unfold State.loaderStep
    rw [if_neg (by omega), if_neg (by simp [hbusy]), hword]
    dsimp only
    rw [if_pos hkind]
  rw [State.loaderRun, hl]
  dsimp only
  rw [hslot, hcode]
  dsimp only
  rw [hstep]

end

/-- Settles O57: envelopes, entries and the image, each by its case. -/
theorem managementAndImage : Obligations.ManagementAndImage := by
  refine ⟨?_, ?_⟩
  · intro s u g rest n e pt hu
    refine ⟨fun hin => ?_, fun hin hwait => congrArg Host.Outcome.next (State.mgmtTake_waits hin hwait),
      fun hin hdead hready hcrib hroom hslot => ⟨fun h => congrArg Host.Outcome.next
        (State.mgmtTake_drops hin hdead hready hcrib hroom hslot hu h), fun hpeer henv => ⟨fun hopen => ?_,
          fun hopen hopt => ?_, fun p hopen hopt hp hmgmt => ?_⟩⟩,
      fun a x ha hal => ⟨fun w c hw => State.mgmtEntry_write ha hal hw, fun w r c hr => State.mgmtEntry_read ha hal hr⟩,
      fun hnone => ?_, fun x hx hdead => ?_⟩
    · refine congrArg Host.Outcome.next ?_
      unfold State.mgmtTake
      rw [hin]
    · refine congrArg Host.Outcome.next ?_
      rw [State.mgmtTake_opens hin hdead hready hcrib hroom hslot hu hpeer henv, hopen]
    · refine congrArg Host.Outcome.next ?_
      rw [State.mgmtTake_opens hin hdead hready hcrib hroom hslot hu hpeer henv, hopen]
      exact if_neg (by simp [hopt])
    · have hact := State.mgmtTake_acts hin hdead hready hcrib hroom hslot hu hpeer henv hopen hopt hp hmgmt
      have hlink : u.link.mgmt = s.link.mgmt := by rw [hu]; rfl
      refine ⟨fun htype hctr hnonce => ?_, fun x w b htype hx hnonce hctr hentries => ?_,
        fun x htype hx hctr => ?_, fun x htype hx hnonce => ?_⟩
      · obtain ⟨x, hm, hn, hc, hlast, ho, hg, hf⟩ :=
          State.mgmtAct_open (s := u) (n := n) (pt := pt) (orig := g.orig) htype hctr hnonce
        rw [← hact] at hm ho hg hf
        subst hu
        exact ⟨_, x, rfl, hm, hn, hc, hlast, ho, hg, hf⟩
      · have hnow : u.now = s.now := by rw [hu]; rfl
        rw [← hnow] at hentries
        exact congrArg Host.Outcome.next (hact.trans
          (State.mgmtAct_request htype (hlink.trans hx) hnonce hctr hentries))
      · exact congrArg Host.Outcome.next (hact.trans (State.mgmtAct_stale htype (hlink.trans hx) hctr))
      · exact congrArg Host.Outcome.next (hact.trans (State.mgmtAct_close htype (hlink.trans hx) hnonce))
    · refine congrArg Host.Outcome.next ?_
      unfold State.mgmtLapse
      rw [hnone]
    · refine congrArg Host.Outcome.next ?_
      unfold State.mgmtLapse
      rw [hx]
      dsimp only
      rw [hdead, if_neg (by decide)]
  · intro s u v l h w base
    refine ⟨fun hdead hready hcrib hopt => ⟨fun hword hl => ?_, fun hword hbase hl hstat => ?_, fun hstat hl => ?_,
      fun hl hslot => ?_, fun hl hslot hcode hin hbusy hword hkind => ?_, fun c hl hslot hcode hc => ?_⟩,
      fun hcrib => congrArg Host.Outcome.next (State.imageLoad_waits hcrib)⟩
    · exact congrArg Host.Outcome.next (State.imageLoad_none hdead hready hcrib hopt hword hl)
    · have hload := State.imageLoad_verify hdead hready hcrib hopt hword hstat hl
      subst hbase
      refine ⟨fun hbad => ?_, fun hal hin hbusy => ?_, fun hal hin hbusy hhead hok hdigest hsigned => ?_⟩
      · refine congrArg Host.Outcome.next (hload.trans ?_)
        rw [State.imageVerify_misplaced hbad]
        rfl
      · refine congrArg Host.Outcome.next (hload.trans ?_)
        rw [State.imageVerify_busy hal hin hbusy, hl]
        rfl
      · refine congrArg Host.Outcome.next (hload.trans ?_)
        rw [State.imageVerify_verified hal hin hbusy hhead hok hdigest hsigned]
        rfl
    · exact congrArg Host.Outcome.next (State.imageLoad_done hdead hready hcrib hopt hstat hl)
    · exact congrArg Host.Outcome.next ((State.imageLoad_loader hdead hready hcrib hopt hl).trans
        (State.loaderRun_running hl hslot _))
    · exact congrArg Host.Outcome.next ((State.imageLoad_loader hdead hready hcrib hopt hl).trans
        (State.loaderRun_end hl hslot hcode hin hbusy hword hkind _))
    · exact congrArg Host.Outcome.next ((State.imageLoad_loader hdead hready hcrib hopt hl).trans
        (State.loaderRun_failed hl hslot hcode hc _))

end Sys2Proof.Machine
end

section
/-!
PROOFS. Interrupts.
-/
namespace Sys2Proof.Machine

/-- What an answer leaves, and what its master reads back of it. -/
theorem State.answer_frame (s : State) (m : Master) (v : Word) (c : Code) :
    (s.answer m v c).lastOf m = { value := v, code := c } ∧ (s.answer m v c).own = s.own ∧
      (s.answer m v c).gran = s.gran ∧ (s.answer m v c).flash = s.flash ∧ (s.answer m v c).intc = s.intc :=
  ⟨Tab.get_set_self, rfl, rfl, rfl, rfl⟩

/-- What a completed access leaves, and what its master reads back of it. -/
theorem State.complete_frame (s : State) (m : Master) (p o : Nat) (v : Word) (c : Code) :
    (s.complete m p o v c).lastOf m = { value := v, code := c } ∧ (s.complete m p o v c).own = s.own ∧
      (s.complete m p o v c).gran = s.gran ∧ (s.complete m p o v c).flash = s.flash ∧
      (s.complete m p o v c).intc = s.intc := by
  by_cases h : c = .done
  · subst h
    rw [State.complete_done]
    exact s.answer_frame m v .done
  · obtain ⟨hlast, ho, hg, hf, hi⟩ := (((s.logErr p (o / 16) c).logMine m p o c).portErr m).answer_frame m v c
    unfold State.complete
    rw [if_neg h]
    refine ⟨hlast, ho.trans ?_, hg.trans ?_, hf.trans ?_, hi.trans ?_⟩ <;> cases m <;> rfl

section
variable {s : State} {m : Master} {v : Word} {n : Nat}

theorem intcClaimEffect_claims (hvalid : sourceValid (field v 7 0) = true) (htarget : s.srcTarget (field v 7 0) = 0)
    (hidle : s.srcActive (field v 7 0) = false) (hprio : s.effective < s.srcPrio (field v 7 0))
    (hfrozen : s.intc.frozen = false) (hmod : flag (s.srccfg (field v 7 0)) 12 = false) :
    intcClaimEffect .core v s =
      (s.updIntc (fun i => { (i.setActive (field v 7 0) true) with
        stack := (field v 7 0, s.srcPrio (field v 7 0)) :: i.stack }), .done) := by
  unfold intcClaimEffect
  dsimp only
  rw [if_neg (by decide), if_neg (by simp [hvalid]), if_neg (by simp [htarget, hidle, hfrozen]; omega), hmod,
    if_neg (by decide)]

theorem intcClaimEffect_other (hm : m ≠ .core) : intcClaimEffect m v s = (s, .state) := by
  unfold intcClaimEffect
  dsimp only
  rw [if_pos (by simpa using hm)]

section
variable (hfrozen : s.intc.frozen = false) (hn : field v 7 0 < 192) (htarget : s.srcTarget (field v 7 0) = 0)
include hfrozen hn htarget

theorem intcCompleteEffect_eq :
    intcCompleteEffect v s =
      match s.intc.stack with
      | (k, p) :: rest =>
        if k = field v 7 0 then
          (s.updIntc (fun i => { (i.setActive (field v 7 0) false) with stack := rest }), .done)
        else ((s.updIntc (fun i => { i with stack := (k, p) :: rest })).misorder (field v 7 0), .state)
      | [] => (s.misorder (field v 7 0), .state) := by
  unfold intcCompleteEffect
  dsimp only
  rw [if_neg (by simp [hfrozen]), if_neg (by omega), if_neg (by simp [htarget])] <;> rfl

end

/-- A completion out of order freezes the stack and leaves it. -/
theorem State.misorder_frame (s : State) (n : Nat) :
    (s.misorder n).intc.frozen = true ∧ (s.misorder n).intc.stack = s.intc.stack ∧ (s.misorder n).own = s.own ∧
      (s.misorder n).gran = s.gran ∧ (s.misorder n).flash = s.flash := by
  have hfault (u : State) : SameBut [.core, .svc] u ((u.evLevel 0x09 0 true).faultRec 0x13 0x09 0) :=
    (u.evLevel_same _ _ _).trans (State.faultRec_same _ _ _ _)
  obtain ⟨w, f, ⟨hf, hs, ho, hg, hfl⟩, heq⟩ : ∃ (w : State) (f : State → CoreState → CoreState),
      (w.intc.frozen = true ∧ w.intc.stack = s.intc.stack ∧ w.own = s.own ∧ w.gran = s.gran ∧ w.flash = s.flash) ∧
      s.misorder n =
        if ((w.evLevel 0x09 0 true).faultRec 0x13 0x09 0).core.released then
          ((w.evLevel 0x09 0 true).faultRec 0x13 0x09 0).endWfi.updCore
            (f ((w.evLevel 0x09 0 true).faultRec 0x13 0x09 0).endWfi)
        else (w.evLevel 0x09 0 true).faultRec 0x13 0x09 0 :=
    ⟨State.updIntc ((s.setRg 0x09 0x054 (pack [(0, 8, n),
        (8, 8, match s.intc.stack with | [] => 0xFF | e :: _ => e.1), (16, 4, s.intc.stack.length),
        (31, 1, 1)])).setPair 0x09 0x058 s.now) (fun i => { i with frozen := true }), fun t c => c.trapTo 0x80000018 0 (t.rg 0x38 0x070) t.now,
      ⟨rfl, rfl, rfl, rfl, rfl⟩, rfl⟩
  have hw : SameBut [.core, .svc] w (s.misorder n) := by
    rw [heq]
    refine (hfault w).trans (.ite ?_ (.refl _))
    exact (State.endWfi_same _).trans (.set_core _)
  exact ⟨hw.stack.2.2.trans hf, hw.stack.1.trans hs, hw.own.trans ho, hw.gran.trans hg, hw.flash.trans hfl⟩

/-- With no record due and a deliverable source, the core traps. -/
theorem execExternalInterrupt_trap {src : BitVec 8} (hdue : s.intc.due.find? (fun e => e.1 == src.toNat) = none)
    (htakes : s.takesInterrupts = true) (hdel : s.deliverable src.toNat = true) :
    execExternalInterrupt src s = .next (s.trap 0x8000000B 0) := by
  unfold execExternalInterrupt
  rw [hdue]
  dsimp only
  rw [if_pos (by rw [htakes, hdel]; rfl)]

/-- A handler's source is pending while its HRAISE bit is set. -/
theorem State.pend_handler (hn : n < 32) : s.pend (0x70 + n) = flag (s.rg 0x1C 0x084) n := by
  unfold State.pend
  rw [if_pos (by omega), Nat.add_sub_cancel_left]

end

/-- Settles O46: delivery, claim and completion, and the sources. -/
theorem interrupts : Obligations.Interrupts := by
  intro s m v
  refine ⟨fun src n t hdue => ?_, fun src hdue => ⟨fun htakes hdel => execExternalInterrupt_trap hdue htakes hdel,
      fun htakes => ?_⟩, ?_, fun hm hg => ?_, ?_, ?_, fun hg hkey hask => ?_, fun hg hkey => ?_,
      fun n hg hvalid => ⟨fun hidle => ?_, fun hactive => ?_⟩, fun g hhold hus => ?_, fun g hhold => ?_, ?_⟩
  · refine congrArg Host.Outcome.next ?_
    rw [hdue]
    rfl
  · refine congrArg Host.Outcome.next ?_
    rw [hdue]
    dsimp only
    rw [if_neg (by simp [htakes])]
  · rintro n rfl hg hvalid htarget hidle hprio hfrozen hmod
    refine congrArg Host.Outcome.next ?_
    rw [State.write_pass hg, intcClaimEffect_claims hvalid htarget hidle hprio hfrozen hmod, State.complete_done]
  · refine congrArg Host.Outcome.next ?_
    rw [State.write_pass hg, intcClaimEffect_other hm]
    rfl
  · rintro n p rest rfl hg hfrozen hn htarget hstack
    refine congrArg Host.Outcome.next ?_
    rw [State.write_pass hg, intcCompleteEffect_eq hfrozen hn htarget, hstack]
    dsimp only
    rw [if_pos rfl, State.complete_done]
  · rintro n k p rest rfl hg hfrozen hn htarget hstack hk
    refine ⟨_, rfl, ?_⟩
    rw [State.write_pass hg, intcCompleteEffect_eq hfrozen hn htarget, hstack]
    dsimp only
    rw [if_neg hk]
    dsimp only
    obtain ⟨hlast, ho, hgr, hfl, hi⟩ := State.complete_frame
      ((s.updIntc (fun i => { i with stack := (k, p) :: rest })).misorder (field v 7 0)) m 0x09 0x04C 0 .state
    obtain ⟨hf', hs', ho', hg', hfl'⟩ :=
      State.misorder_frame (s.updIntc (fun i => { i with stack := (k, p) :: rest })) (field v 7 0)
    rw [hi]
    exact ⟨hf', hs', hlast, hgr.trans hg', hfl.trans hfl'⟩
  · refine congrArg Host.Outcome.next ?_
    rw [State.write_pass hg]
    unfold unfreezeEffect
    rw [if_neg (by simp [hkey]), if_neg (by simp [hask]), State.complete_done]
  · refine congrArg Host.Outcome.next ?_
    rw [State.write_pass hg]
    unfold unfreezeEffect
    rw [if_pos (by simpa using hkey)]
    rfl
  · refine congrArg Host.Outcome.next ?_
    rw [State.write_pass hg]
    unfold srccfgEffect
    rw [if_neg (by simp [hvalid]), if_neg (by simp [hidle]), State.complete_done]
  · refine congrArg Host.Outcome.next ?_
    rw [State.write_pass hg]
    unfold srccfgEffect
    rw [if_neg (by simp [hvalid]), if_pos hactive]
    rfl
  · refine congrArg Host.Outcome.next ?_
    rw [if_pos (by simp [hhold, hus])]
  · refine congrArg Host.Outcome.next ?_
    rw [if_neg (by simp [hhold])]
  · intro n hraise htarget hprio hen hidle hcore hfrozen htakes hdue
    have hn : (BitVec.ofNat 8 (0x70 + n.val)).toNat = 0x70 + n.val := by
      rw [BitVec.toNat_ofNat]
      omega
    refine execExternalInterrupt_trap (by rw [hdue]; rfl) htakes ?_
    rw [hn]
    unfold State.deliverable
    simp [htarget, hprio, hen, hidle, hcore, hfrozen, State.pend_handler n.isLt, hraise]

end Sys2Proof.Machine
end

section
/-!
PROOFS. The event fabric.
-/
namespace Sys2Proof.Machine

section
variable {s : State} {ch wave depth : Nat}

/-! ### A channel's tasks -/

theorem State.task_putTask (s : State) (k j : Nat) (t : Task) :
    (s.putTask k t).task j = if j = k then t else s.task j := Tab.get_set

/-- A trigger holds its task input and lets none go. -/
theorem State.held_latch (s : State) (k j : Nat) :
    ((s.latch k wave depth).task j).held = (decide (j = k) || (s.task j).held) := by
  unfold State.latch
  dsimp only
  split <;> rename_i h <;> rw [State.task_putTask] <;> by_cases hj : j = k <;> simp [hj, h]

theorem State.held_latchAll (l : List Nat) (s : State) (j : Nat) :
    ((l.foldl (fun acc t => acc.latch t wave depth) s).task j).held = (decide (j ∈ l) || (s.task j).held) := by
  induction l generalizing s with
  | nil => simp
  | cons k l ih =>
    rw [List.foldl_cons, ih, State.held_latch]
    by_cases hj : j = k <;> simp [hj]

theorem State.latch_frame (s : State) (k : Nat) :
    (s.latch k wave depth).fab.chans = s.fab.chans ∧ (s.latch k wave depth).fab.waves = s.fab.waves ∧
      SameBut [.fabric] s (s.latch k wave depth) := by
  unfold State.latch
  dsimp only
  split
  · exact ⟨rfl, rfl, .set_fab s⟩
  · exact ⟨rfl, rfl, .set_fab s⟩

theorem State.latchAll_frame (l : List Nat) (s : State) :
    (l.foldl (fun acc t => acc.latch t wave depth) s).fab.chans = s.fab.chans ∧
      (l.foldl (fun acc t => acc.latch t wave depth) s).fab.waves = s.fab.waves ∧
      SameBut [.fabric] s (l.foldl (fun acc t => acc.latch t wave depth) s) := by
  induction l generalizing s with
  | nil => exact ⟨rfl, rfl, .refl s⟩
  | cons k l ih =>
    obtain ⟨hc, hw, hs⟩ := s.latch_frame (wave := wave) (depth := depth) k
    obtain ⟨hc', hw', hs'⟩ := ih (s.latch k wave depth)
    exact ⟨hc'.trans hc, hw'.trans hw, hs.trans hs'⟩

/-! ### Propagation -/

/-- A channel's counts and events of a propagation. -/
def State.countPropagation (s : State) (ch : Nat) : State :=
  let s2 := (s.updChStat ch (fun w => wrapField w 15 0 1)).updRg 0x08 (0x040 + 4 * (ch / 32)) (fun w =>
    setFlag w (ch % 32) true)
  if flag (s2.chCfg ch) 10 then s2.evPulse 0x08 3 else s2

/-- A propagation is counted, its wave and its channel's visit noted, its tasks latched and its handlers asked. -/
theorem State.propagate_eq (s : State) (ch wave depth : Nat) :
    s.propagate ch wave depth =
      ((((s.countPropagation ch).putChan ch { (s.countPropagation ch).chan ch with
        waves := ((s.countPropagation ch).chan ch).waves ||| BitVec.ofNat 16 (2 ^ wave) }).putWave wave
          { live := true, last := (s.countPropagation ch).now }).chTasks ch |>.foldl
            (fun acc t => acc.latch t wave (depth + 1))
            (((s.countPropagation ch).putChan ch { (s.countPropagation ch).chan ch with
              waves := ((s.countPropagation ch).chan ch).waves ||| BitVec.ofNat 16 (2 ^ wave) }).putWave wave
                { live := true, last := (s.countPropagation ch).now })).handleAll ch wave (depth + 1) := rfl

theorem State.countPropagation_same (s : State) (ch : Nat) : SameBut [] s (s.countPropagation ch) :=
  ((s.updRg_same _ _ _).trans (State.updRg_same _ _ _ _)).trans (.ite (State.evPulse_same _ _ _) (.refl _))

/-- The counts of a propagation are beside a channel's configuration and tasks. -/
theorem State.chTasks_countPropagation (hch : ch < 64) : (s.countPropagation ch).chTasks ch = s.chTasks ch := by
  have hrg : ∀ o, o < 0x00C → (s.countPropagation ch).rg 0x08 (0x100 + o + 0x10 * ch) =
      s.rg 0x08 (0x100 + o + 0x10 * ch) := fun o ho => by
    have hbase : ((s.updChStat ch (fun w => wrapField w 15 0 1)).updRg 0x08 (0x040 + 4 * (ch / 32)) (fun w =>
        setFlag w (ch % 32) true)).rg 0x08 (0x100 + o + 0x10 * ch) = s.rg 0x08 (0x100 + o + 0x10 * ch) := by
      rw [State.updRg, State.rg_setRg_other (by rw [ne_eq, ra_inj (by omega) (by omega)]; omega), State.updChStat,
        State.updRg, State.rg_setRg_other (by rw [ne_eq, ra_inj (by omega) (by omega)]; omega)]
    unfold State.countPropagation
    dsimp only
    split
    · rw [State.rg_evPulse (by unfold Quiet; omega), hbase]
    · exact hbase
  have h0 := hrg 0x000 (by decide)
  have h4 := hrg 0x004 (by decide)
  have h8 := hrg 0x008 (by decide)
  unfold State.chTasks State.chCfg
  rw [h4, h8, h0]

/-- A propagation holds its channel's tasks, notes its wave, and leaves the stores beside GRANARY's and the threads. -/
theorem State.propagate_frame (hch : ch < 64) (hwave : wave < 16) :
    (∀ k, k ∈ s.chTasks ch → ((s.propagate ch wave depth).task k).held = true) ∧
      ((s.propagate ch wave depth).chan ch).waves.getLsbD wave = true ∧
      ((s.propagate ch wave depth).waveTag wave).live = true ∧
      SameBut [.fabric, .gran, .gle, .ops] s (s.propagate ch wave depth) := by
  have hcount := s.countPropagation_same ch
  have htasks := State.chTasks_countPropagation (s := s) hch
  rw [State.propagate_eq]
  generalize s.countPropagation ch = u at *
  set v := (u.putChan ch { u.chan ch with waves := (u.chan ch).waves ||| BitVec.ofNat 16 (2 ^ wave) }).putWave wave
    { live := true, last := u.now }
  obtain ⟨hchans, hwaves, hlatch⟩ := State.latchAll_frame (wave := wave) (depth := depth + 1) (v.chTasks ch) v
  have hheld := State.held_latchAll (wave := wave) (depth := depth + 1) (v.chTasks ch) v
  generalize (v.chTasks ch).foldl (fun acc t => acc.latch t wave (depth + 1)) v = x at *
  have hhandle := x.handleAll_same (l := [.gran, .gle, .ops]) ch wave (depth + 1)
  obtain ⟨htasks', hchans', hwaves'⟩ := hhandle.fabric
  refine ⟨fun k hk => ?_, ?_, ?_, ((hcount.mono.trans ((SameBut.set_fab u).trans (.set_fab _))).trans hlatch.mono).trans
    hhandle.mono⟩
  · rw [State.task, htasks']
    refine (hheld k).trans ?_
    rw [decide_eq_true (show k ∈ v.chTasks ch from htasks ▸ hk), Bool.true_or]
  · rw [State.chan, hchans', hchans]
    refine (congrArg (fun c : Chan => c.waves.getLsbD wave) Tab.get_set_self).trans ?_
    rw [BitVec.getLsbD_or, BitVec.getLsbD_ofNat, Nat.testBit_two_pow_self]
    simp [hwave]
  · rw [State.waveTag, hwaves', hwaves]
    have hset : v.fab.waves = Tab.set (fun _ => {}) u.fab.waves wave { live := true, last := u.now } := rfl
    rw [hset, Tab.get_set_self]

/-! ### A pulse at a channel -/

/-- A channel that accepted no pulse takes one on a wave it has not seen. -/
theorem State.chanTake_fresh {at_ : Stamp} (hacc : (s.chan ch).accepted = none)
    (hseen : (s.chan ch).waves.getLsbD wave = false) (hdepth : depth < 4) :
    s.chanTake ch wave depth at_ =
      (s.putChan ch { s.chan ch with accepted := some at_ }).propagate ch wave depth := by
  unfold State.chanTake
  dsimp only
  rw [hacc, if_neg (by simp), if_neg (by simp [hseen]), if_neg (by omega)]

/-- A channel that accepted no pulse drops one on a wave it has seen. -/
theorem State.chanTake_seen {at_ : Stamp} (hacc : (s.chan ch).accepted = none)
    (hseen : (s.chan ch).waves.getLsbD wave = true) :
    s.chanTake ch wave depth at_ =
      (s.putChan ch { s.chan ch with accepted := some at_ }).dropEvent ch wave depth false at_ := by
  unfold State.chanTake
  dsimp only
  rw [hacc, if_neg (by simp), if_pos hseen]

/-- A dropped event shows LOOP and triggers no task. -/
theorem State.dropEvent_frame (s : State) (ch wave depth : Nat) (at_ : Stamp) :
    flag ((s.dropEvent ch wave depth false at_).rg 0x08 0x048) 0 = true ∧
      SameBut [.svc] s (s.dropEvent ch wave depth false at_) := by
  refine ⟨?_, ((((s.updRg_same _ _ _).trans (State.updRg_same _ _ _ _)).trans (State.evPulse_same _ _ _)).trans
    (State.logErr_same _ _ _ _)).trans ((State.faultRec_same _ _ _ _).trans (State.pulseAt_signals _ _ _ _).same)⟩
  have hquiet : Quiet 0x048 := by unfold Quiet; omega
  unfold State.dropEvent
  dsimp only
  rw [State.rg_pulseAt, State.rg_faultRec hquiet (by decide), State.rg_logErr _ _ _ _ _ _ (hquiet.ra_ne _ (by decide) (by decide)), State.rg_evPulse hquiet,
    State.updRg, State.rg_setRg_self, flag_setField_other (by decide) (by decide),
    flag_setField_other (by decide) (by decide), flag_setField_other (by decide) (by decide),
    flag_satField_other (by decide) (by decide), if_neg (by decide), flag_setFlag (by decide), if_pos rfl]

/-- A pulse on a wave that one channel selects reaches that channel. -/
theorem State.sourcePulse_wave {src : Nat} {p : Pulse} {rest : List Pulse}
    (htake : takePulse src s.fab.pulses = some (p, rest)) (hdead : s.dead = false) (hsel : s.chansOf src = [ch])
    (hp : p.wave = some (wave, depth)) :
    s.sourcePulse src =
      ({ s with fab := { s.fab with pulses := rest } } : State).chanTake ch wave depth p.raised := by
  have hsel' : ({ s with fab := { s.fab with pulses := rest } } : State).chansOf src = [ch] := hsel
  unfold State.sourcePulse
  rw [if_neg (by rw [hdead]; decide), htake]
  dsimp only
  unfold State.fan
  rw [hsel', hp]
  rfl

/-! ### Triggers and the fabric's registers -/

theorem State.takeTrigger_idle {k : Nat} (hheld : (s.task k).held = false) : s.takeTrigger k = s := by
  unfold State.takeTrigger
  rw [if_pos (by rw [hheld]; rfl)]

theorem State.takeTrigger_wake {k : Nat} (hk : k < 4) (hheld : (s.task (0x28 + k)).held = true)
    (hdead : s.dead = false) (havail : s.unavailable (taskIsland (0x28 + k)) = false) :
    s.takeTrigger (0x28 + k) = (s.clearTask (0x28 + k)).fireWake (0x14 + k) := by
  unfold State.takeTrigger
  rw [if_neg (by simp [hheld, hdead, havail]), if_neg (by omega), if_neg (by omega), if_neg (by omega),
    if_pos (by simp; omega), Nat.add_sub_cancel_left]

/-- A trigger of a thread that waits and takes triggers is its cause. -/
theorem State.takeTrigger_thread {t : Nat} (ht : t < 16) (hheld : (s.task t).held = true) (hdead : s.dead = false)
    (havail : s.unavailable .aon = false) (hready : s.ready 0x0A = true) (hst : (s.thread t).st = .wait)
    (htakes : flag (s.thrReg t 0x04) 2 = true) :
    s.takeTrigger t = (s.clearTask t).cause t (some (s.task t).carried) := by
  have hisland : taskIsland t = .aon := by
    unfold taskIsland
    rw [if_neg (by omega), if_neg (by omega), if_neg (by omega), if_neg (by omega)]
  unfold State.takeTrigger
  rw [if_neg (by simp [hheld, hdead, hisland, havail]), if_pos ht, if_pos hready]
  unfold State.threadTrigger
  dsimp only
  rw [hst]
  dsimp only
  rw [if_pos htakes]

theorem State.waveExpire_idle {t : Nat} (hlive : (s.waveTag t).live = true) (hheld : s.waveHeld t = false) :
    s.waveExpire t =
      (s.reach ((s.waveTag t).last + BitVec.ofNat 64 (field (s.rg 0x08 0x04C) 9 0 * 2 ^ 17))).putWave t
        { s.waveTag t with live := false } := by
  unfold State.waveExpire
  dsimp only
  rw [if_pos (by simp [hlive, hheld])]

theorem State.waveExpire_held {t : Nat} (hheld : s.waveHeld t = true) : s.waveExpire t = s := by
  unfold State.waveExpire
  dsimp only
  rw [if_neg (by simp [hheld])]

/-- A write that passes reaches an island that takes accesses. -/
theorem State.available_of_writeGate {m : Master} {p o : Nat} {v : Word} (hp : s.assigned p = true)
    (hg : s.writeGate m p o v = .pass) : s.unavailable (islandOf p) = false := by
  have hreach : s.reachGate m p = .pass := by
    unfold State.writeGate at hg
    split at hg
    · assumption
    · exact hg
  unfold State.reachGate at hreach
  rw [hp] at hreach
  cases h : s.unavailable (islandOf p)
  · rfl
  · rw [h] at hreach
    revert hreach
    (repeat' split) <;> simp_all

theorem State.clamped_of_available {i : Island} (h : s.unavailable i = false) : s.clamped i = false := by
  unfold State.unavailable at h
  unfold State.clamped
  simp only [Bool.or_eq_false_iff] at h ⊢
  simp [h]

/-- Pulses that channels select are raised one after the other. -/
theorem State.pulses_raised {l : List Nat} (hl : ∀ n, n ∈ l → n < 8) (hready : s.ready 0x08 = true)
    (hclamped : s.clamped .aon = false) (v : Word) :
    l.foldl (fun acc n => if flag v n then acc.pulse (0x28 + n) else acc) s =
      { s with fab := { s.fab with pulses := s.fab.pulses ++
        (l.filter (fun n => flag v n && s.selected (0x28 + n))).map (fun n =>
          { src := 0x28 + n, raised := s.now }) } } := by
  induction l generalizing s with
  | nil => simp
  | cons n l ih =>
    obtain ⟨hn, hl⟩ := List.forall_mem_cons.1 hl
    have hpage : s.sourcePage (0x28 + n) = 0x08 := by
      unfold State.sourcePage
      rw [if_neg (by omega), if_neg (by omega), if_pos (by omega)]
    have hcan : s.canPulse (0x28 + n) = s.selected (0x28 + n) := by
      unfold State.canPulse
      rw [hpage, hready, show islandOf 0x08 = .aon from rfl, hclamped]
      simp
    have hpulse : (if flag v n then s.pulse (0x28 + n) else s) =
        { s with fab := { s.fab with pulses := s.fab.pulses ++
          (if flag v n && s.selected (0x28 + n) then [{ src := 0x28 + n, raised := s.now }] else []) } } := by
      unfold State.pulse State.pulseAt
      rw [hcan]
      cases flag v n <;> cases s.selected (0x28 + n) <;> simp
    rw [List.foldl_cons, hpulse]
    refine (ih hl (by exact hready) (by exact hclamped)).trans ?_
    rw [List.filter_cons]
    split
    · simp only [List.map_cons, List.append_assoc, List.singleton_append]
      rfl
    · simp only [List.append_nil]


/-- A channel out of use is configured by its first register. -/
theorem chEffect_config {m : Master} {v new : Word} {t : State} (hnew : new = v &&& 0xFF0007FF)
    (ht : t = s.setRg 0x08 (0x100 + 0x10 * ch) (setField new 14 12 (Master.id m)))
    (hoff : flag (s.chCfg ch) 8 = false) (hen : flag new 8 = true)
    (hknown : sourceKnown (field new 7 0) = true) (htasks : ∀ k, k ∈ t.chTasks ch → taskKnown k = true)
    (hdistinct : distinct (t.chTasks ch) = true)
    (hsec : flag new 9 = true ∨
      (s.secureSource (field new 7 0) = false ∧ ∀ k, k ∈ t.chTasks ch → secureTask k = false)) :
    chEffect m ch 0 v s = (t, .done) := by
  have hset (x : Nat) : setField (setField new 14 12 x) 14 12 (Master.id m) = setField new 14 12 (Master.id m) := by
    refine BitVec.eq_of_getLsbD_eq fun j _ => ?_
    change flag _ j = flag _ j
    rw [flag_setField (by decide), flag_setField (by decide), flag_setField (by decide)]
    split <;> rfl
  have hflag (x j : Nat) (hj : j < 12 ∨ 14 < j) : flag (setField new 14 12 x) j = flag new j :=
    flag_setField_other (by decide) hj
  have hfield (x : Nat) : field (setField new 14 12 x) 7 0 = field new 7 0 :=
    field_setField_other (by decide) (by decide)
  have hall : (t.chTasks ch).all taskKnown = true := List.all_eq_true.2 htasks
  unfold chEffect
  dsimp only
  rw [← hnew, hoff, if_neg (by decide), if_neg (by decide), hflag _ 8 (by decide), if_pos hen, hset,
    Nat.mul_zero, Nat.add_zero, ← ht, hfield, hflag _ 9 (by decide), if_neg (by rw [hknown, hall, hdistinct]; decide), if_neg ?_]
  rcases hsec with h | ⟨h, hk⟩
  · simp [h]
  · simpa [h] using fun _ => hk

theorem chEffect_word {m : Master} {reg : Nat} {v : Word} (hreg : reg ≠ 0) :
    chEffect m ch reg v s =
      if flag (s.chCfg ch) 8 = true then (s, .state) else (s.setRg 0x08 (0x100 + 0x10 * ch + 4 * reg) v, .done) := by
  unfold chEffect
  dsimp only
  rw [if_neg (c := (reg == 0 && _) = true) (by simp [hreg]), if_pos (c := (reg != 0) = true) (by simpa using hreg)]

end

/-- Settles O36: a pulse at a channel, the triggers and waves, and the fabric's registers. -/
theorem eventFabric : Obligations.EventFabric := by
  intro s m v
  refine ⟨fun src p rest htake hdead hsel => ?_, fun src p rest ch w d htake hdead hsel hp hw hd hacc =>
      ⟨fun hseen => ?_, fun hseen => ?_⟩,
    fun task hheld => congrArg Host.Outcome.next (State.takeTrigger_idle hheld), fun k hheld hdead havail => ?_,
    fun t hheld hdead havail hready hst htakes => ?_,
    fun tag hlive hheld => congrArg Host.Outcome.next (State.waveExpire_idle hlive hheld),
    fun tag hheld => congrArg Host.Outcome.next (State.waveExpire_held hheld), fun hg hready => ?_,
    fun ch new t hnew ht hg hoff _ hen hknown htasks hdistinct hsec => ?_,
    fun ch reg hreg hg _ => ⟨fun hoff => ?_, fun hon => ?_⟩,
    fun k hg => ⟨fun hassigned hpage hne hfree => ?_, fun hbad => ?_⟩⟩
  · refine congrArg Host.Outcome.next ?_
    unfold State.sourcePulse
    rw [if_neg (by rw [hdead]; decide), htake]
    dsimp only
    unfold State.fan
    rw [show ({ s with fab := { s.fab with pulses := rest } } : State).chansOf src.toNat = [] from hsel]
  · have hch : ch < 64 := by
      have h : ch ∈ s.chansOf src.toNat := by rw [hsel]; exact List.mem_singleton.2 rfl
      exact List.mem_range.1 (List.mem_filter.1 h).1
    have hrun := (State.sourcePulse_wave htake hdead hsel hp).trans (State.chanTake_fresh hacc hseen hd)
    obtain ⟨hheld, hwaves, hlive, hsame⟩ := State.propagate_frame (s := ({ s with fab := { s.fab with
      pulses := rest } } : State).putChan ch { s.chan ch with accepted := some p.raised }) (depth := d) hch hw
    refine ⟨_, congrArg Host.Outcome.next hrun, hheld, hwaves, hlive, hsame.own, hsame.flash⟩
  · have hrun := (State.sourcePulse_wave htake hdead hsel hp).trans (State.chanTake_seen hacc hseen)
    obtain ⟨hflag, hsame⟩ := State.dropEvent_frame (({ s with fab := { s.fab with
      pulses := rest } } : State).putChan ch { s.chan ch with accepted := some p.raised }) ch w d p.raised
    refine ⟨_, congrArg Host.Outcome.next hrun, hsame.fabric.1, hflag, hsame.own, hsame.flash⟩
  · refine congrArg Host.Outcome.next ?_
    rw [show (BitVec.ofNat 8 (0x28 + k.val)).toNat = 0x28 + k.val by rw [BitVec.toNat_ofNat]; omega]
    exact State.takeTrigger_wake k.isLt hheld hdead havail
  · refine congrArg Host.Outcome.next ?_
    rw [show (BitVec.ofNat 8 t.val).toNat = t.val by rw [BitVec.toNat_ofNat]; omega]
    exact State.takeTrigger_thread t.isLt hheld hdead havail hready hst htakes
  · refine congrArg Host.Outcome.next ?_
    have hassigned : s.assigned 0x08 = true := rfl
    rw [State.write_pass hg, swgenEffect, State.complete_done, State.pulses_raised (fun n hn => List.mem_range.1 hn)
      hready (State.clamped_of_available (State.available_of_writeGate hassigned hg))]
  · refine congrArg Host.Outcome.next ?_
    rw [State.write_pass (by exact hg), show chEffect m ch.val (0 : Fin 3).val v s = (t, .done) from
      chEffect_config hnew ht hoff hen hknown htasks hdistinct hsec, State.complete_done]
  · refine congrArg Host.Outcome.next ?_
    rw [State.write_pass hg, chEffect_word (by simpa using Fin.val_ne_of_ne hreg), if_neg (by simp [hoff]),
      State.complete_done]
  · refine congrArg Host.Outcome.next ?_
    rw [State.write_pass hg, chEffect_word (by simpa using Fin.val_ne_of_ne hreg), if_pos hon]
    rfl
  · refine congrArg Host.Outcome.next ?_
    rw [State.write_pass hg]
    unfold tapEffect
    dsimp only
    rw [if_neg (by simp [hassigned, hfree, hne]; omega), State.complete_done]
  · refine congrArg Host.Outcome.next ?_
    rw [State.write_pass hg]
    unfold tapEffect
    dsimp only
    rw [if_pos (by rcases hbad with h | h | h <;> simp [h])]
    rfl

end Sys2Proof.Machine
end

section
/-!
PROOFS. The host serial port.
-/
namespace Sys2Proof.Machine

section
variable {s : State} {cmd addr bits : Nat} {run : State → State}

/-! ### A frame begins -/

theorem State.ready_of_framesOn (hon : s.framesOn = true) : s.dead = false ∧ s.ready 0x30 = true := by
  unfold State.framesOn at hon
  simp only [Bool.and_eq_true, Bool.not_eq_true'] at hon
  obtain ⟨⟨⟨⟨hdead, hready⟩, -⟩, -⟩, -⟩ := hon
  exact ⟨hdead, hready⟩

section
variable (hon : s.framesOn = true) (hdaisy : s.hspi.daisy = false) (hframe : s.hspi.frame = none)
include hon hdaisy hframe

theorem State.beginFrame_eq :
    s.beginFrame cmd addr bits run =
      if bits < 8 then s.openFrameOf { cmd := cmd, addr := addr, bits := bits } []
      else if s.pwr.depth == .guard then
        (((s.logMine .hspi 0 0 .notReady).openFrameOf
          { cmd := cmd, addr := addr, bits := bits, refused := true, first := some (.notReady, 0) }
          (s.frameByte :: List.replicate (bits / 8) 0))).fireWake 0x11
      else run s := by
  obtain ⟨-, hready⟩ := State.ready_of_framesOn hon
  unfold State.beginFrame
  rw [if_neg (by simp [hready]), if_neg (by simp [hon, hdaisy, hframe])]
  rfl

theorem State.beginFrame_short (hbits : bits < 8) :
    s.beginFrame cmd addr bits run = s.openFrameOf { cmd := cmd, addr := addr, bits := bits } [] := by
  rw [State.beginFrame_eq hon hdaisy hframe, if_pos hbits]

theorem State.beginFrame_guard (hbits : 8 ≤ bits) (hguard : s.pwr.depth = .guard) :
    s.beginFrame cmd addr bits run =
      (((s.logMine .hspi 0 0 .notReady).openFrameOf
        { cmd := cmd, addr := addr, bits := bits, refused := true, first := some (.notReady, 0) }
        (s.frameByte :: List.replicate (bits / 8) 0))).fireWake 0x11 := by
  rw [State.beginFrame_eq hon hdaisy hframe, if_neg (by omega), if_pos (by simp [hguard])]

theorem State.beginFrame_runs (hbits : 8 ≤ bits) (hguard : s.pwr.depth ≠ .guard) :
    s.beginFrame cmd addr bits run = run s := by
  rw [State.beginFrame_eq hon hdaisy hframe, if_neg (by omega), if_neg (by simpa using hguard)]

end

/-! ### Frames with an address -/

theorem State.addressed_bad {f : HFrame} (hbits : 32 ≤ f.bits) (hbad : addrOk f.cmd f.addr = false) :
    s.addressed f run = (s.ferr 15 8).refuseFrame f := by
  unfold State.addressed
  rw [if_neg (by omega), if_pos (by simp [hbad])]

theorem State.addressed_ok {f : HFrame} (hbits : 32 ≤ f.bits) (hok : addrOk f.cmd f.addr = true) :
    s.addressed f run = run s := by
  unfold State.addressed
  rw [if_neg (by omega), if_neg (by simp [hok])]

theorem addrOk_of_aligned (hcmd : cmd = 0x30 → isPop addr = true) (ha : addr < 0x100000) (hal : addr % 4 = 0) :
    addrOk cmd addr = true := by
  unfold addrOk
  by_cases h : cmd = 0x30
  · simp [ha, hal, hcmd h]
  · simp [ha, hal, h]

theorem State.frameHead_word_length (s : State) (cmd : Nat) (w : Word) :
    (s.frameHead cmd ++ wordBytes w).length = 9 := by
  simp [State.frameHead, wordBytes, bytesBE, bytesLE]

/-- The one word of a READ frame of 72 bits. -/
theorem State.frameReads_one {f : HFrame} {u : State} {w : Word} (hmany : f.many = false)
    (hpast : s.burstPast false f.addr 0 = false) (hread : s.portRead .hspi (burstAddr f.addr 0) = (u, w, .done)) :
    s.frameReads f [0] = (u, f, wordBytes w) := by
  unfold State.frameReads
  rw [hmany, if_neg (by simp [hpast]), hread]
  dsimp only
  rw [if_pos rfl]
  unfold State.frameReads
  simp

/-- The one word of a WRITE frame of 72 bits. -/
theorem State.frameWrites_one {f : HFrame} {u : State} {v : Word} (hmany : f.many = false)
    (hpast : s.burstPast false f.addr 0 = false) (hctl : burstAddr f.addr 0 ≠ 0x30008)
    (hctrl : burstAddr f.addr 0 ≠ 0x30040) (hwrite : s.portWrite .hspi (burstAddr f.addr 0) v = (u, .done))
    (hready : u.ready 0x30 = true) : s.frameWrites f [(0, v)] = (u, f) := by
  unfold State.frameWrites
  dsimp only
  rw [hmany, if_neg (by simp [hpast]), if_neg (by simp [hctl, hctrl]), hwrite]
  dsimp only
  rw [if_neg (by simp [hready]), if_pos rfl]
  rfl

/-- A word to HSPI.CTRL waits. -/
theorem State.frameWrites_ctrl {f : HFrame} {v : Word} (hmany : f.many = false) (ha : f.addr = 0x30040) :
    s.frameWrites f [(0, v)] = (s, { f with late := f.late ++ [(0x30040, v)] }) := by
  have hpast : s.burstPast false 0x30040 0 = false := by
    unfold State.burstPast
    exact Bool.and_eq_false_iff.2 (.inr (by decide))
  have hburst : burstAddr 0x30040 0 = 0x30040 := by decide
  unfold State.frameWrites
  dsimp only
  rw [hmany, ha, hpast, hburst, if_neg (by decide), if_pos (by decide)]
  rfl

theorem State.frameCut_whole {f : HFrame} (hcut : cutShort f.bits = false) : s.frameCut f = (s, f) := by
  unfold State.frameCut
  rw [if_neg (by simp [hcut])]

section
variable (hon : s.framesOn = true) (hdaisy : s.hspi.daisy = false) (hframe : s.hspi.frame = none)
  (hguard : s.pwr.depth ≠ .guard)
include hon hdaisy hframe hguard

theorem State.readFrame_bad (hbits : 32 ≤ bits) (hbad : addrOk cmd addr = false) :
    s.readFrame cmd addr bits = (s.ferr 15 8).refuseFrame { cmd := cmd, addr := addr, bits := bits } := by
  unfold State.readFrame
  rw [State.beginFrame_runs hon hdaisy hframe (by omega) hguard]
  exact State.addressed_bad hbits hbad

theorem State.readFrame_reads {s1 s2 : State} {f1 : HFrame} {us : List Undo} {l b : List Byte} (hbits : 32 ≤ bits)
    (hok : addrOk cmd addr = true)
    (hreads : s.frameReads { cmd := cmd, addr := addr, bits := bits } (List.range (wordsTaken bits)) = (s1, f1, l))
    (hfetch : s1.prefetchRun .hspi f1.many addr
      ((List.range (wordsFetched bits - wordsTaken bits)).map (· + wordsTaken bits)) = (s2, us, b)) :
    s.readFrame cmd addr bits = s2.openFrameOf { f1 with undo := us } (s.frameHead cmd ++ l ++ b) := by
  unfold State.readFrame
  rw [State.beginFrame_runs hon hdaisy hframe (by omega) hguard, State.addressed_ok hbits hok]
  dsimp only
  rw [hreads]
  dsimp only
  rw [hfetch]

omit hon hdaisy hframe hguard in
theorem State.openFrameOf_out (f : HFrame) (l : List Byte) : (s.openFrameOf f l).hspi.out = l.take (f.bits / 8) := rfl

/-- A READ frame of 72 bits shifts its one word out; what it fetched ahead is put back at the rise of select. -/
theorem State.readFrame_one {u : State} {w : Word} (hok : addrOk cmd addr = true)
    (hpast : s.burstPast false addr 0 = false) (hread : s.portRead .hspi (burstAddr addr 0) = (u, w, .done)) :
    ∃ (s2 : State) (us : List Undo) (b : List Byte), s.readFrame cmd addr 72 =
      s2.openFrameOf { cmd := cmd, addr := addr, bits := 72, undo := us } (s.frameHead cmd ++ wordBytes w ++ b) := by
  obtain ⟨s2, us, b, hfetch⟩ : ∃ s2 us b, u.prefetchRun .hspi false addr
      ((List.range (wordsFetched 72 - wordsTaken 72)).map (· + wordsTaken 72)) = (s2, us, b) := ⟨_, _, _, rfl⟩
  have hone := State.frameReads_one (f := { cmd := cmd, addr := addr, bits := 72 }) rfl hpast hread
  exact ⟨s2, us, b, State.readFrame_reads hon hdaisy hframe hguard (show 32 ≤ 72 by decide) hok hone hfetch⟩

theorem State.writeFrame_one {u : State} {f1 : HFrame} {v : Word} (hok : addrOk 0x20 addr = true)
    (hwrites : s.frameWrites { cmd := 0x20, addr := addr, bits := 72 } [(0, v)] = (u, f1))
    (hready : u.ready 0x30 = true) (hbits : f1.bits = 72) :
    s.writeFrame addr [v] 72 = u.openFrameOf f1 (s.frameHead 0x20 ++ List.replicate 9 0) := by
  unfold State.writeFrame
  rw [State.beginFrame_runs hon hdaisy hframe (by omega) hguard, State.addressed_ok (show 32 ≤ 72 by decide) hok]
  dsimp only
  rw [show (List.range (wordsTaken 72)).map (fun n => (n, [v].getD n 0)) = [(0, v)] from rfl, hwrites]
  dsimp only
  rw [if_neg (by simp [hready]), State.frameCut_whole (by rw [hbits]; decide)]

end

theorem HFrame.refuse_bits (f : HFrame) (c : Code) (n : Nat) : (f.refuse c n).bits = f.bits := by
  unfold HFrame.refuse
  split <;> rfl

/-- The words of a frame leave its length. -/
theorem State.frameReads_bits (l : List Nat) (s : State) (f : HFrame) : (s.frameReads f l).2.1.bits = f.bits := by
  induction l generalizing s f with
  | nil => rfl
  | cons n rest ih =>
    unfold State.frameReads
    split
    · exact ih s { f with passed := true }
    · dsimp only
      split
      · exact ih _ f
      · exact (ih _ _).trans (f.refuse_bits _ _)

/-! ### The rise of select -/

theorem State.endFrame_counts {f : HFrame} {g : State} (hframe : s.hspi.frame = some f) (hbits : 40 ≤ f.bits)
    (hlate : f.late = []) (hg : g = f.undo.foldl State.giveBack s) (hready : g.ready 0x30 = true) :
    s.endFrame =
      ({ g with hspi := { g.hspi with frame := none } } : State).countFrame f.cmd
        (f.addr / 0x1000 % 256) f.refused f.first f.passed := by
  have hready' : ({ g with hspi := { g.hspi with frame := none } } : State).ready 0x30 = true := hready
  unfold State.endFrame
  rw [hframe]
  dsimp only
  rw [if_neg (by omega), hlate, ← hg]
  unfold State.lateWrites
  dsimp only
  rw [if_neg (by simp [hready']), decide_eq_false (by omega : ¬ f.bits < 40), Bool.and_false, Bool.or_false]

/-! ### Device-clocked bursts -/

theorem State.flowHold_same {l : List Part} (s : State) (b : Bool) : SameBut l s (s.flowHold b) :=
  (s.updRg_same _ _ _).trans (State.evLevel_same _ _ _ _)

theorem State.reach_same (s : State) (t : Stamp) : SameBut [.time] s (s.reach t) := SameBut.set_time s

/-- s once a burst has shifted bytes out. -/
def State.shiftedOut (s : State) (out : List Byte) : State :=
  { s with hspi := { s.hspi with burstAt := some s.now, out := out } }

theorem State.driveBurst_idle {busy : Bool} {holds : Nat} (hdrives : s.drives = false) :
    s.driveBurst busy holds = s := by
  unfold State.driveBurst
  dsimp only
  rw [if_pos (by simp [hdrives])]

section
variable {q holds : Nat} (hq : q = field (s.rg 0x30 0x048) 4 0) (hdrives : s.drives = true)
  (hen : qEn (s.qcfg q) = true) (hcons : qCons (s.qcfg q) = 1) (hup : s.granaryUp = true)
  (hitems : (s.queue q).items ≠ [])
include hq hdrives hen hcons hup hitems

theorem State.driveBurst_held (hflow : flag (s.rg 0x30 0x040) 2 = true) :
    s.driveBurst true holds = s.flowHold true := by
  subst hq
  unfold State.driveBurst
  dsimp only
  rw [if_neg (by simp [hdrives, hen, hcons, hup, hitems]), if_pos (by simp [hflow])]

/-- A burst that nothing held back shifts its items out at once. -/
theorem State.driveBurst_free {u : State} {out : List Byte} (hflow : flag (s.rg 0x30 0x040) 2 = false)
    (hat : s.hspi.burstAt = none)
    (hdrive : (s.flowHold false).driveItems q (field (s.rg 0x30 0x048) 15 8) = (u, out)) :
    ∃ r, SameBut [.time] u r ∧ s.driveBurst false holds = (r.shiftedOut out).evPulse 0x30 1 := by
  subst hq
  refine ⟨?state, ?same, ?eq⟩
  case eq =>
    unfold State.driveBurst
    dsimp only
    rw [if_neg (by simp [hdrives, hen, hcons, hup, hitems]), if_neg (by simp), hat]
    dsimp only
    rw [hdrive]
    dsimp only
    rw [hflow, if_neg (show ¬ (false && holds != 0) = true from Bool.false_ne_true)]
    exact congrArg (State.evPulse · 0x30 1) (by unfold State.shiftedOut; rfl)
  case same => exact (State.updRg_same _ _ _ _).trans (State.reach_same _ _)

theorem State.driveBurst_free_shows {u : State} {out : List Byte} (hflow : flag (s.rg 0x30 0x040) 2 = false)
    (hat : s.hspi.burstAt = none)
    (hdrive : (s.flowHold false).driveItems q (field (s.rg 0x30 0x048) 15 8) = (u, out)) :
    (s.driveBurst false holds).hspi.out = out ∧
      (s.driveBurst false holds).hspi.burstAt = some (s.driveBurst false holds).now ∧
      (s.driveBurst false holds).queues = u.queues ∧ (s.driveBurst false holds).own = u.own := by
  obtain ⟨r, hr, hburst⟩ := State.driveBurst_free (holds := holds) hq hdrives hen hcons hup hitems hflow hat hdrive
  have hsame := State.evPulse_same (l := []) (r.shiftedOut out) 0x30 1
  rw [hburst]
  refine ⟨by rw [hsame.hspi]; rfl, ?_, by rw [hsame.queues]; exact hr.queues, by rw [hsame.own]; exact hr.own⟩
  unfold State.now
  rw [hsame.hspi, hsame.time]
  rfl

end

/-! ### The daisy chain -/

theorem State.daisyFrame_unpowered {l : List Byte} {early : Bool} (hvio : s.pwr.vioA = false) :
    s.daisyFrame l early = s := by
  unfold State.daisyFrame
  rw [if_neg (by simp [hvio]), if_pos (by simp [hvio])]

theorem State.daisyFrame_single {l : List Byte} {early : Bool} (hdaisy : s.hspi.daisy = false)
    (hready : s.ready 0x30 = true) : s.daisyFrame l early = s := by
  unfold State.daisyFrame
  rw [if_neg (by simp [hready]), if_pos (by simp [hdaisy])]

theorem State.beginFrame_unpowered (hvio : s.pwr.vioA = false) : s.beginFrame cmd addr bits run = s := by
  unfold State.beginFrame
  rw [if_neg (by simp [hvio]), if_pos (by simp [State.framesOn, hvio])]

theorem State.beginFrame_starting (hdead : s.dead = false) (hready : s.ready 0x30 = false) (hvio : s.pwr.vioA = true) :
    s.beginFrame cmd addr bits run = { s with hspi := { s.hspi with out := List.replicate (bits / 8) 0 } } := by
  unfold State.beginFrame
  rw [if_pos (by simp [hdead, hready, hvio])]

/-- The access that a slot of eight bytes asks for, answered in the next frame. -/
theorem State.daisyFrame_slot {l : List Byte} {s1 u : State} {c : Code} {echo b : Nat} {w : Word}
    (hdead : s.dead = false) (hready : s.ready 0x30 = true) (hvio : s.pwr.vioA = true)
    (hctl : flag (s.rg 0x30 0x008) 0 = true) (hdaisy : s.hspi.daisy = true) (hguard : s.pwr.depth ≠ .guard)
    (hlen : l.length = 8) (hchain : s.hspi.chain.length = 8) (hb : b = natBE ((l.drop 1).take 3))
    (hready1 : s1.ready 0x30 = true)
    (haccess : ({ s with hspi := { s.hspi with out := s.hspi.chain } } : State).slotAccess (l.getD 0 0).toNat b
      (BitVec.ofNat 32 (natBE ((l.drop 4).take 4))) = (s1, c, echo, w))
    (hu : u = s1.countFrame (l.getD 0 0).toNat (b / 0x1000 % 256) (c != .done)
      (if c = .done then none else some (c, 0)) false) :
    s.daisyFrame l false =
      { u with hspi := { u.hspi with
        chain := u.hspiByte false :: BitVec.ofNat 8 (Code.num c) :: BitVec.ofNat 8 echo :: 0 :: wordBytes w } } := by
  have htake : (s.hspi.chain ++ l).take 8 = s.hspi.chain := by rw [← hchain]; exact List.take_left
  have hdrop : (s.hspi.chain ++ l).drop 8 = l := by rw [← hchain]; exact List.drop_left
  unfold State.daisyFrame
  rw [if_neg (by simp [hready]), if_neg (by simp [hdead, hvio, hctl, hdaisy])]
  dsimp only
  rw [hlen, htake, hdrop, if_neg (show ¬ (s.pwr.depth == .guard) = true by simpa using hguard),
    if_neg (show ¬ (8 % 8 != 0 || decide (8 < 8)) = true by decide), ← hb, haccess]
  dsimp only
  rw [if_neg (by simp [hready1]), if_neg (by decide), ← hu, if_neg (by decide), if_neg (by decide)]

end

/-! ### The rows -/

section
variable {s : State} {m : Master} {v : Word}

theorem State.hspiCtrlWrite_refused (hg : s.writeGate m 0x30 0x040 v = .pass) (hv : flag v 0 = true)
    (hwhy : s.hspi.daisy = true ∨ m = .hspi ∨ qEn (s.qcfg (field (s.rg 0x30 0x048) 4 0)) = false ∨
      qCons (s.qcfg (field (s.rg 0x30 0x048) 4 0)) ≠ 1) :
    s.write m 0x30 0x040 v (hspiCtrlEffect m v) = s.reject m 0x30 0x040 .state := by
  have heffect : hspiCtrlEffect m v s = (s, .state) := by
    unfold hspiCtrlEffect
    dsimp only
    rw [if_pos]
    simp only [hv, Bool.true_and, Bool.or_eq_true, Bool.not_eq_true', bne_iff_ne, beq_iff_eq]
    tauto
  rw [State.write_pass hg, heffect]
  rfl

theorem State.hspiCtrlWrite_plain {u : State} (hg : s.writeGate m 0x30 0x040 v = .pass) (hv : flag v 0 = false)
    (hplain : s.plainWrite m 0x30 0x040 v = (u, .done)) :
    s.write m 0x30 0x040 v (hspiCtrlEffect m v) = u.answer m 0 .done := by
  have heffect : hspiCtrlEffect m v s = (u, .done) := by
    unfold hspiCtrlEffect
    dsimp only
    rw [if_neg (by simp [hv]), hplain]
  rw [State.write_pass hg, heffect]
  exact State.complete_done _ _ _ _ _

theorem execHspiStatus_reserved {cmd : BitVec 8} {bits : Nat} (hcmd : cmd = 0x10 ∨ cmd = 0x20 ∨ cmd = 0x30) :
    exec (.hspiStatus cmd bits) s = .fault .illFormed := if_pos hcmd

theorem execHspiStatus_frame {cmd : BitVec 8} {bits : Nat} (hcmd : ¬ (cmd = 0x10 ∨ cmd = 0x20 ∨ cmd = 0x30)) :
    exec (.hspiStatus cmd bits) s = .next (s.statusFrame cmd.toNat bits) := if_neg hcmd

end

/-- Settles O52, frame by frame: what its beginning does (short, in GUARD, STATUS, bad, READ, POP and WRITE), the rise of
select, CTRL, bursts and the daisy chain. -/
theorem hostSerialPort : Obligations.HostSerialPort := by
  unfold Obligations.HostSerialPort
  intro s addr a bits data cmd m v ha
  subst ha
  have hlt : addr.toNat % 4 ≠ 0 → addrOk 0x10 addr.toNat = false := fun h => by simp [addrOk, h]
  refine ⟨fun hon hdaisy hframe => ⟨fun hbits hcmd => ⟨?_, ?_⟩, fun hguard hbits => ?_, fun hguard => ?_⟩, ?_, ?_, ?_, ?_,
    ?_, ?_, ?_, ?_, ?_, ?_⟩
  · exact congrArg Host.Outcome.next (State.beginFrame_short hon hdaisy hframe hbits)
  · have hcmd' : ¬ (cmd = 0x10 ∨ cmd = 0x20 ∨ cmd = 0x30) := by rcases hcmd with rfl | rfl <;> decide
    rw [execHspiStatus_frame hcmd']
    exact congrArg Host.Outcome.next (State.beginFrame_short hon hdaisy hframe hbits)
  · rw [execHspiStatus_frame (by decide)]
    exact congrArg Host.Outcome.next (State.beginFrame_guard hon hdaisy hframe hbits hguard)
  · refine ⟨fun hbits => ?_, fun hbits hcmd => ?_, fun hbits hal => ?_, fun hbits hpop => ?_, ?_, ?_, ?_, ?_⟩
    · rw [execHspiStatus_frame (by decide)]
      exact congrArg Host.Outcome.next (State.beginFrame_runs hon hdaisy hframe hbits hguard)
    · rw [execHspiStatus_frame (by simp at hcmd; tauto)]
      refine congrArg Host.Outcome.next ((State.beginFrame_runs hon hdaisy hframe hbits hguard).trans (if_neg ?_))
      have : cmd ≠ 0x40 := by simp at hcmd; tauto
      exact fun h => this (BitVec.eq_of_toNat_eq h)
    · exact congrArg Host.Outcome.next (State.readFrame_bad hon hdaisy hframe hguard hbits (hlt hal))
    · exact congrArg Host.Outcome.next (State.readFrame_bad hon hdaisy hframe hguard hbits (by simp [addrOk, hpop]))
    · intro s1 f1 l s2 us b hbits hlow hal hfetch
      have hmany : ∀ {c : Nat}, s.frameReads { cmd := c, addr := addr.toNat, bits := bits } (List.range (wordsTaken bits)) =
          (s1, f1, l) → f1.many = decide (72 < bits) := fun {c} h => by
        have := State.frameReads_bits (List.range (wordsTaken bits)) s { cmd := c, addr := addr.toNat, bits := bits }
        rw [h] at this
        exact congrArg (fun n => decide (72 < n)) this
      refine ⟨fun hreads => congrArg Host.Outcome.next ?_, fun hpop hreads => congrArg Host.Outcome.next ?_⟩
      · exact State.readFrame_reads hon hdaisy hframe hguard hbits (addrOk_of_aligned (fun h => absurd h (by decide)) hlow hal) hreads
          (by rw [hmany hreads]; exact hfetch)
      · exact State.readFrame_reads hon hdaisy hframe hguard hbits (addrOk_of_aligned (fun _ => hpop) hlow hal) hreads
          (by rw [hmany hreads]; exact hfetch)
    · intro u w hlow hal hpast hread
      obtain ⟨s2, us, b, hframe⟩ := State.readFrame_one (cmd := 0x10) hon hdaisy hframe hguard
        (addrOk_of_aligned (fun h => absurd h (by decide)) hlow hal) hpast hread
      refine ⟨_, _, congrArg Host.Outcome.next hframe, ?_, rfl, rfl, rfl⟩
      rw [State.openFrameOf_out]
      dsimp only
      exact List.take_left' (s.frameHead_word_length 0x10 w)
    · intro u hlow hal hpast hctl hctrl hwrite hready
      exact congrArg Host.Outcome.next (State.writeFrame_one hon hdaisy hframe hguard
        (addrOk_of_aligned (fun h => absurd h (by decide)) hlow hal) (State.frameWrites_one rfl hpast hctl hctrl hwrite hready) hready rfl)
    · intro haddr
      refine congrArg Host.Outcome.next ?_
      have hready := (State.ready_of_framesOn hon).2
      rw [haddr]
      exact State.writeFrame_one hon hdaisy hframe hguard (by decide) (State.frameWrites_ctrl rfl rfl) hready rfl
  · exact fun hcmd => execHspiStatus_reserved hcmd
  · exact fun hdead hready hvio => congrArg Host.Outcome.next (State.beginFrame_starting hdead hready hvio)
  · exact fun hvio => ⟨congrArg Host.Outcome.next (State.beginFrame_unpowered hvio),
      congrArg Host.Outcome.next (State.beginFrame_unpowered hvio),
      fun l early => congrArg Host.Outcome.next (State.daisyFrame_unpowered hvio)⟩
  · intro hframe
    refine congrArg Host.Outcome.next ?_
    unfold State.endFrame
    rw [hframe]
  · exact fun f g hframe hbits hlate hg hready =>
      congrArg Host.Outcome.next (State.endFrame_counts hframe hbits hlate hg hready)
  · exact fun hg => ⟨fun hv hwhy => congrArg Host.Outcome.next (State.hspiCtrlWrite_refused hg hv hwhy),
      fun u hv hplain => congrArg Host.Outcome.next (State.hspiCtrlWrite_plain hg hv hplain)⟩
  · exact fun busy holds hdrives => congrArg Host.Outcome.next (State.driveBurst_idle hdrives)
  · exact fun q u out holds hq hdrives hen hcons hup hitems =>
      ⟨fun hflow => congrArg Host.Outcome.next (State.driveBurst_held hq hdrives hen hcons hup hitems hflow),
        fun hflow hat hdrive => ⟨_, rfl, State.driveBurst_free_shows hq hdrives hen hcons hup hitems hflow hat hdrive⟩⟩
  · exact fun l early hdaisy hready => congrArg Host.Outcome.next (State.daisyFrame_single hdaisy hready)
  · exact fun l s1 u c echo w b hdead hready hvio hctl hdaisy hguard hlen hchain hb hready1 haccess hu =>
      congrArg Host.Outcome.next (State.daisyFrame_slot hdead hready hvio hctl hdaisy hguard hlen hchain hb hready1
        haccess hu)

end Sys2Proof.Machine
end

section
/-!
PROOFS. What pushes, wakes and the ends of bus transfers leave as it is.
-/
namespace Sys2Proof.Machine

section
variable {l : List Part} (s : State)

/-! ### Pushes -/

theorem State.putQueue_same (n : Nat) (q : Queue) (hl : .queues ∈ l := by decide) : SameBut l s (s.putQueue n q) :=
  SameBut.set_queues s hl

theorem State.qCount_same (n hi lo : Nat) : SameBut l s (s.qCount n hi lo) := s.updRg_same _ _ _

theorem State.pointerFault_same (n : Nat) (hq : .queues ∈ l := by decide) (hsvc : .svc ∈ l := by decide) :
    SameBut l s (s.pointerFault n) :=
  (((((((s.putQueue_same n _ hq).trans (State.qCount_same _ _ _ _)).trans (State.updRg_same _ _ _ _)).trans
    (State.evPulse_same _ _ _)).trans (State.evPulse_same _ _ _)).trans (State.faultRec_same _ _ _ _ hsvc))).trans
    (State.refreshQueue_same _ _)

theorem State.pushRaw_same (n who : Nat) (raw : List Word) (hq : .queues ∈ l := by decide) (hsvc : .svc ∈ l := by decide) :
    SameBut l s (s.pushRaw n who raw).1 := by
  unfold State.pushRaw
  dsimp only
  split
  · exact .refl s
  split
  · exact .refl s
  split
  · exact s.pointerFault_same n hq hsvc
  split
  · exact .refl s
  split
  · exact (s.qCount_same _ _ _).trans (State.evPulse_same _ _ _)
  · exact (s.putQueue_same n _ hq).trans (State.refreshQueue_same _ _)

theorem State.logPush_same (n : Nat) (c : Code) : SameBut l s (s.logPush n c) := .ite (.refl s) (s.logErr_same _ _ _)

theorem State.blockPush_same (n : Nat) (ws : List Word) (hq : .queues ∈ l := by decide) (hsvc : .svc ∈ l := by decide) :
    SameBut l s (s.blockPush n ws).1 :=
  (s.pushRaw_same n 8 _ hq hsvc).trans (State.logPush_same _ _ _)

/-! ### Wakes -/

theorem State.dropSleep_same (hl : .pwr ∈ l := by decide) : SameBut l s s.dropSleep :=
  (SameBut.set_pwr s hl).trans (State.updRg_same _ _ _ _)

theorem State.fireWake_same (n : Nat) (hl : .pwr ∈ l := by decide) : SameBut l s (s.fireWake n) := by
  unfold State.fireWake
  split
  · exact .refl s
  dsimp only
  split
  · exact (((s.pendWake_same n).trans (State.dropSleep_same _ hl)).trans (State.recordWake_same _ _ _ _ _)).trans
      (State.evPulse_same _ _ _)
  · exact .ite ((((s.pendWake_same n).trans (SameBut.set_pwr _ hl)).trans (State.recordWake_same _ _ _ _ _)).trans
      (State.evPulse_same _ _ _)) (s.pendWake_same n)

/-! ### Units of the sensor buses -/

theorem State.putUnit_same (u : Nat) (x : BusUnit) (hl : .sense ∈ l := by decide) : SameBut l s (s.putUnit u x) :=
  (SameBut.set_sense s hl).trans (State.evLevel_same _ _ _ _)

theorem State.unit_putUnit (u v : Nat) (x : BusUnit) : (s.putUnit u x).unit v = if v = u then x else s.unit v := by
  have h := State.evLevel_same (l := []) { s with sense := { s.sense with
    units := Tab.set (fun _ => {}) s.sense.units u x } } 0x32 u (!x.queue.isEmpty || x.target)
  have hs : (s.putUnit u x).sense.units = Tab.set (fun _ => {}) s.sense.units u x := congrArg Sense.units h.sense
  rw [State.unit, hs, Tab.get_set]
  rfl

@[simp] theorem State.unit_putUnit_self (u : Nat) (x : BusUnit) : (s.putUnit u x).unit u = x := by
  rw [State.unit_putUnit, if_pos rfl]

theorem State.twcCount_same (u hi lo : Nat) : SameBut l s (s.twcCount u hi lo) := s.updRg_same _ _ _

end

section
variable {l : List Part} {s t : State}

theorem SameBut.unit (h : SameBut l s t) (hl : .sense ∉ l := by decide) (u : Nat) : t.unit u = s.unit u := by
  rw [State.unit, h.sense hl]
  rfl

theorem SameBut.slot (h : SameBut l s t) (hl : .ops ∉ l := by decide) (tag : Nat) : t.slot tag = s.slot tag := by
  rw [State.slot, h.ops hl]
  rfl

theorem SameBut.running (h : SameBut l s t) (hl : .ops ∉ l := by decide) (tag p op : Nat) :
    t.running tag p op = s.running tag p op := by
  unfold State.running
  rw [h.slot hl]

end

/-- Received bytes that a transfer placed: the unit keeps its transfers and what it sent. -/
theorem State.placeBytes_frame (s : State) (u q : Nat) (b : List Byte) :
    SameBut [.sense, .queues, .svc] s (s.placeBytes u q b) ∧
      ((s.placeBytes u q b).unit u).queue = (s.unit u).queue ∧ ((s.placeBytes u q b).unit u).sent = (s.unit u).sent := by
  unfold State.placeBytes
  split
  · exact ⟨.refl s, rfl, rfl⟩
  split
  · exact ⟨s.putUnit_same _ _, by rw [State.unit_putUnit_self], by rw [State.unit_putUnit_self]⟩
  · have h := s.blockPush_same (l := [.queues, .svc]) q (tripleItems b)
    exact ⟨h.mono, by rw [h.unit], by rw [h.unit]⟩

section
variable {s : State} {u : Nat} {x : Xfer} {rest : List Xfer} {tag : BitVec 7}
  (hqueue : (s.unit u).queue = x :: rest) (huser : x.user = .slot tag) (hrun : s.running tag.toNat 0x32 x.op = true)
include hqueue huser hrun

/-- The transfer of an operation ends: it leaves its unit's queue and gives its code to the operation. -/
theorem State.endXfer_slot (c : Code) (reply : List Byte) :
    s.endXfer u c reply = (s.putUnit u { s.unit u with queue := rest, losses := 0 }).setResult tag.toNat c := by
  have hrun' : (s.putUnit u { s.unit u with queue := rest, losses := 0 }).running tag.toNat 0x32 x.op = true := by
    rw [(s.putUnit_same (l := [.sense]) _ _).running, hrun]
  unfold State.endXfer
  dsimp only
  rw [hqueue]
  dsimp only
  rw [huser]
  dsimp only
  rw [if_pos hrun']

/-- What the end of an operation's transfer shows. -/
theorem State.endXfer_shows (c : Code) (reply : List Byte) :
    SameBut [.sense, .ops] s (s.endXfer u c reply) ∧ ((s.endXfer u c reply).unit u).queue = rest ∧
      ((s.endXfer u c reply).unit u).sent = (s.unit u).sent ∧
      ((s.endXfer u c reply).slot tag.toNat).result = some c := by
  rw [State.endXfer_slot hqueue huser hrun]
  have hset := State.setResult_same (l := [.ops]) (s.putUnit u { s.unit u with queue := rest, losses := 0 }) tag.toNat c
  refine ⟨(s.putUnit_same _ _).trans (State.setResult_same _ _ _), ?_, ?_, ?_⟩
  · rw [hset.unit, State.unit_putUnit_self]
  · rw [hset.unit, State.unit_putUnit_self]
  · rw [State.slot_setResult_self]

end

end Sys2Proof.Machine
end

section
/-!
PROOFS. The host two-wire port, and the units of the sensor buses.
-/
namespace Sys2Proof.Machine

section
variable {s : State} {q o : Nat}

/-- A wake writes registers of PMU alone. -/
theorem State.rg_fireWake (hq : q ≠ 0x05) (ho : Quiet o) (n : Nat) : (s.fireWake n).rg q o = s.rg q o := by
  have hpage : ∀ o' < 0x1000, ra q o ≠ ra 0x05 o' := fun o' h e => hq ((ra_inj ho.1 h).1 e).1
  have hpend : ∀ s : State, (s.pendWake n).rg q o = s.rg q o := fun s => by
    unfold State.pendWake
    split
    · exact State.rg_setRg_other (hpage _ (by decide))
    · exact State.rg_setRg_other (hpage _ (by decide))
  have hrecord : ∀ (s : State) (a l : Nat) (b c : Bool), (s.recordWake a l b c).rg q o = s.rg q o := fun s a l b c => by
    unfold State.recordWake
    rw [State.rg_setPair_other (hpage _ (by decide)) (hpage _ (by decide))]
    exact State.rg_setRg_other (hpage _ (by decide))
  unfold State.fireWake
  split
  · rfl
  dsimp only
  split
  · rw [State.rg_evPulse ho, hrecord]
    exact (State.rg_setRg_other (hpage _ (by decide))).trans (hpend s)
  · rw [apply_ite (fun t : State => t.rg q o), State.rg_evPulse ho, hrecord]
    exact (ite_self _).trans (hpend s)

end

/-! ### The host two-wire port -/

section
variable {s : State} {rd stop : Bool} {run : State → State}

/-- s as a transaction that reaches its word runs. -/
def State.htwTaken (s : State) (rd : Bool) : State :=
  (s.htwEnd.updRg 0x31 0x050 (fun x => wrapField x 15 0 1)).updHtw
    (fun h => { h with coded := false, word := 0, busy := true, rd := rd })

theorem State.htwBegin_off (hon : s.htwOn = false) : s.htwBegin rd run = s := if_pos (by simp [hon])

theorem State.htwBegin_runs (hon : s.htwOn = true) (hguard : s.pwr.depth ≠ .guard) :
    s.htwBegin rd run = run (s.htwTaken rd) := by
  unfold State.htwBegin
  rw [if_neg (by simp [hon])]
  dsimp only
  rw [if_neg (by simpa using hguard)]
  rfl

theorem State.htwBegin_guard (hon : s.htwOn = true) (hguard : s.pwr.depth = .guard) :
    s.htwBegin rd run =
      (((((s.htwEnd.updRg 0x31 0x050 (fun w => wrapField w 15 0 1)).updHtw
        (fun h => { h with coded := false, word := 0 })).htwCode .notReady 0 0).logMine .htw 0 0 .notReady).fireWake
          0x12) := by
  unfold State.htwBegin
  rw [if_neg (by simp [hon])]
  dsimp only
  rw [if_pos (by simp [hguard])]

section
variable {l : List Part}

theorem State.updHtw_same (f : Htw → Htw) (hl : .htw ∈ l := by decide) : SameBut l s (s.updHtw f) := SameBut.set_htw s hl

theorem State.htwCode_same (c : Code) (word page : Nat) (hl : .htw ∈ l := by decide) :
    SameBut l s (s.htwCode c word page) :=
  .ite (.refl s) ((s.setRg_same _ _ _).trans (State.updHtw_same _ hl))

theorem State.htwErr_same (hi lo : Nat) : SameBut l s (s.htwErr hi lo) := s.updRg_same _ _ _

/-- With nothing fetched ahead, the end of a transaction is the port's own. -/
theorem State.htwEnd_same (hundo : s.htw.undo = []) (hl : .htw ∈ l := by decide) : SameBut l s s.htwEnd := by
  refine SameBut.trans ?_ (State.updHtw_same _ hl)
  unfold State.htwCut
  rw [hundo]
  have hcut := State.updHtw_same (l := l) (s := s) (fun h => { h with undo := [] }) hl
  refine .ite hcut (hcut.trans ?_)
  exact (((SameBut.ite (.refl _) (State.logMine_same _ _ _ _ _)).trans (State.htwCode_same _ _ _ hl)).trans
    (State.htwErr_same _ _)).trans (State.updHtw_same _ hl)

end

theorem State.rg_htwCode (c : Code) (word page : Nat) (h : s.htw.coded = false) :
    (s.htwCode c word page).rg 0x31 0x04C = pack [(0, 8, Code.num c), (16, 8, min 255 word), (24, 8, page)] := by
  unfold State.htwCode
  rw [if_neg (by simp [h])]
  exact State.rg_setRg_self s 0x31 0x04C _

/-- In GUARD the transaction is discarded, its code kept (R16). -/
theorem State.htwBegin_discards (hon : s.htwOn = true) (hguard : s.pwr.depth = .guard) (hundo : s.htw.undo = []) :
    SameBut [.htw, .pwr] s (s.htwBegin rd run) ∧ field ((s.htwBegin rd run).rg 0x31 0x04C) 7 0 = Code.num .notReady := by
  rw [State.htwBegin_guard hon hguard]
  refine ⟨?_, ?_⟩
  · exact (((((State.htwEnd_same hundo).trans (State.updRg_same _ _ _ _)).trans (State.updHtw_same _)).trans
      (State.htwCode_same _ _ _)).trans (State.logMine_same _ _ _ _ _)).trans (State.fireWake_same _ _)
  · rw [State.rg_fireWake (by decide) (by unfold Quiet; omega)]
    exact (congrArg (field · 7 0) (State.rg_htwCode _ _ _ rfl)).trans (by decide)

theorem State.htwWrite_off {data : List Byte} (hon : s.htwOn = false) : s.htwWrite data false = s := by
  unfold State.htwWrite
  rw [State.htwBegin_off hon]
  rfl

theorem State.htwRead_off {n : Nat} (hon : s.htwOn = false) : s.htwRead n false false = s := by
  unfold State.htwRead
  rw [State.htwBegin_off hon]
  rfl

theorem State.htwWrite_discards {data : List Byte} (hon : s.htwOn = true) (hguard : s.pwr.depth = .guard)
    (hundo : s.htw.undo = []) :
    SameBut [.htw, .pwr] s (s.htwWrite data false) ∧
      field ((s.htwWrite data false).rg 0x31 0x04C) 7 0 = Code.num .notReady := by
  unfold State.htwWrite
  dsimp only
  rw [if_neg Bool.false_ne_true]
  exact State.htwBegin_discards hon hguard hundo

theorem State.ready_setHtwPtr (a : Nat) : (s.setHtwPtr a).ready 0x31 = s.ready 0x31 :=
  congrArg (flag · 0) (State.rg_setRg_other (by decide))

/-- One word of a write transaction that is stored. -/
theorem State.htwData_word {many : Bool} {a : Nat} {b0 b1 b2 b3 : Byte} {u : State} (hpast : s.burstPast many a 0 = false)
    (hwrite : s.portWrite .htw (burstAddr a 0) (BitVec.ofNat 32 (natBE [b0, b1, b2, b3])) = (u, .done))
    (hon : (u.setHtwPtr (nextPtr a 0)).htwOn = true) :
    s.htwData many a 0 [b0, b1, b2, b3] =
      (u.setHtwPtr (nextPtr a 0)).updHtw (fun h => { h with part := [], word := 1 }) := by
  have hready : u.ready 0x31 = true := by
    rw [← State.ready_setHtwPtr (nextPtr a 0)]
    unfold State.htwOn at hon
    simp only [Bool.and_eq_true] at hon
    exact hon.1.1.2
  unfold State.htwData
  dsimp only
  rw [hpast, if_neg Bool.false_ne_true, hwrite]
  dsimp only
  rw [if_neg (by simp [hready]), if_neg (by decide), if_neg (by simp [hon])]
  rfl

section
variable {data : List Byte} (hon : s.htwOn = true) (hguard : s.pwr.depth ≠ .guard)
include hon hguard

theorem State.htwWrite_short (hlen : data.length < 3) : s.htwWrite data false = s.htwTaken false := by
  unfold State.htwWrite
  rw [State.htwBegin_runs hon hguard, if_pos hlen]
  rfl

theorem State.htwWrite_bad {a : Nat} (ha : a = natBE (data.take 3)) (hlen : 3 ≤ data.length)
    (hbad : 0x100000 ≤ a ∨ a % 4 ≠ 0) :
    s.htwWrite data false = ((((s.htwTaken false).htwCode .arg 0 (a / 0x1000 % 256)).htwErr 7 0).evPulse 0x31 0).updHtw
      (fun h => { h with deaf := true }) := by
  subst ha
  unfold State.htwWrite
  rw [State.htwBegin_runs hon hguard, if_neg (show ¬ data.length < 3 by omega)]
  dsimp only
  rw [if_pos (show (decide (natBE (data.take 3) ≥ 0x100000) || natBE (data.take 3) % 4 != 0) = true by simpa using hbad)]
  rfl

theorem State.htwWrite_words {a : Nat} (ha : a = natBE (data.take 3)) (hlen : 3 ≤ data.length) (hlow : a < 0x100000)
    (hal : a % 4 = 0) :
    s.htwWrite data stop =
      if stop = true then
        (((s.htwTaken false).setHtwPtr a).htwData (decide (7 < data.length)) a 0 (data.drop 3)).htwEnd
      else ((s.htwTaken false).setHtwPtr a).htwData (decide (7 < data.length)) a 0 (data.drop 3) := by
  subst ha
  unfold State.htwWrite
  rw [State.htwBegin_runs hon hguard, if_neg (show ¬ data.length < 3 by omega)]
  dsimp only
  rw [if_neg (show ¬ (decide (natBE (data.take 3) ≥ 0x100000) || natBE (data.take 3) % 4 != 0) = true by
    simpa [hal] using hlow)]

theorem State.htwRead_words {n : Nat} {t : State} {b : List Byte} (hn : n % 4 = 0) (hpos : 0 < n)
    (hwords : (s.htwTaken true).htwWords (decide (4 < n)) (s.htwTaken true).htwPtr (List.range (n / 4)) = (t, b)) :
    s.htwRead n false false = t.updHtw (fun h => { h with undo := [], word := n / 4, out := b.take n }) := by
  unfold State.htwRead
  rw [State.htwBegin_runs hon hguard]
  dsimp only
  rw [hwords]
  dsimp only
  rw [if_neg (show ¬ (n % 4 != 0 || decide (n = 0) || false) = true by simp [hn]; omega), List.append_nil]
  rfl

end

end

/-! ### Transfers at a unit of the sensor buses -/

section
variable {s : State} {u : Nat} {x : Xfer} {rest : List Xfer} {tag : BitVec 7} {rx : List Byte} {c : Code}
  (hqueue : (s.unit u).queue = x :: rest)
include hqueue

theorem State.spcRun_refused (hfault : s.signalFault u x.user (s.signalsOf u x) = some c) :
    s.spcRun u rx = s.endXfer u c [] := by
  unfold State.spcRun
  rw [hqueue]
  dsimp only
  rw [hfault]

theorem State.uartSend_waits (hsent : x.sent = none) (hfault : s.signalFault u x.user (s.signalsOf u x) = none)
    (hwant : field (x.arg 0) 23 16 ≠ 0) {all : List Byte}
    (hall : all = x.bytes 1 (field (x.arg 0) 12 8) ++
      (if flag (x.arg 0) 2 then s.uartCheck u (x.bytes 1 (field (x.arg 0) 12 8)) else [])) :
    s.uartSend u = s.putUnit u { s.unit u with
      sent := all, de := s.uartDe u all.length, queue := { x with sent := some s.now } :: rest } := by
  have hbytes : (if flag (x.arg 0) 2 then x.bytes 1 (field (x.arg 0) 12 8) ++
      s.uartCheck u (x.bytes 1 (field (x.arg 0) 12 8)) else x.bytes 1 (field (x.arg 0) 12 8)) = all := by
    rw [hall]
    split
    · rfl
    · exact (List.append_nil _).symm
  unfold State.uartSend
  rw [hqueue]
  dsimp only
  rw [if_neg (by simp [hsent]), hfault]
  dsimp only
  rw [hbytes, if_neg hwant]

theorem State.twcStretch_ends (htarget : (s.unit u).target = false) :
    s.twcStretch u = (s.twcCount u 19 16).endXfer u .timeout [] := by
  unfold State.twcStretch
  dsimp only
  rw [if_neg (by simp [htarget]), if_neg (by simp [hqueue])]

theorem State.twcProtocol_ends (htarget : (s.unit u).target = false) :
    s.twcProtocol u = (s.twcCount u 23 20).endXfer u .medium [] := by
  unfold State.twcProtocol
  dsimp only
  rw [if_neg (by simp [htarget]), if_neg (by simp [hqueue])]

section
variable (huser : x.user = .slot tag) (hrun : s.running tag.toNat 0x32 x.op = true)
include huser hrun

/-- The transfer of an operation ends DONE with its bytes placed. -/
theorem State.finishXfer_shows (b : List Byte) :
    SameBut [.sense, .queues, .svc, .ops] s (s.finishXfer u x b) ∧ ((s.finishXfer u x b).unit u).queue = rest ∧
      ((s.finishXfer u x b).unit u).sent = (s.unit u).sent ∧
      ((s.finishXfer u x b).slot tag.toNat).result = some .done := by
  obtain ⟨hsame, hq, hsent⟩ := s.placeBytes_frame u x.queue b
  obtain ⟨hend, hq', hsent', hres⟩ := State.endXfer_shows (s := s.placeBytes u x.queue b) (hq.trans hqueue) huser
    (by rw [hsame.running, hrun]) .done b
  exact ⟨(hsame.mono).trans hend.mono, hq', hsent'.trans hsent, hres⟩

/-- The transfer of an operation ends after its unit was set. -/
theorem State.finishXfer_put {y : BusUnit} (hy : y.queue = (s.unit u).queue) (b : List Byte) :
    SameBut [.sense, .queues, .svc, .ops] s ((s.putUnit u y).finishXfer u x b) ∧
      (((s.putUnit u y).finishXfer u x b).unit u).queue = rest ∧
      (((s.putUnit u y).finishXfer u x b).unit u).sent = y.sent ∧
      (((s.putUnit u y).finishXfer u x b).slot tag.toNat).result = some .done := by
  have hput := s.putUnit_same (l := [.sense]) u y
  obtain ⟨hsame, hq, hsent, hres⟩ := State.finishXfer_shows (s := s.putUnit u y)
    (by rw [State.unit_putUnit_self, hy, hqueue]) huser (by rw [hput.running, hrun]) b
  exact ⟨hput.mono.trans hsame, hq, hsent.trans (by rw [State.unit_putUnit_self]), hres⟩

/-- The transfer of an operation ends with a code once its error is counted. -/
theorem State.endXfer_counted {t : State} (hsame : SameBut [] s t) (b : List Byte) :
    SameBut [.sense, .ops] s (t.endXfer u c b) ∧ ((t.endXfer u c b).unit u).queue = rest ∧
      ((t.endXfer u c b).slot tag.toNat).result = some c := by
  obtain ⟨hend, hq, -, hres⟩ := State.endXfer_shows (s := t) (by rw [hsame.unit, hqueue]) huser
    (by rw [hsame.running, hrun]) c b
  exact ⟨hsame.mono.trans hend, hq, hres⟩

theorem State.spcRun_shifts (hfault : s.signalFault u x.user (s.signalsOf u x) = none) :
    SameBut [.sense, .queues, .svc, .ops] s (s.spcRun u rx) ∧ ((s.spcRun u rx).unit u).queue = rest ∧
      ((s.spcRun u rx).unit u).sent = x.bytes 1 (field (x.arg 0) 15 8) ∧
      ((s.spcRun u rx).slot tag.toNat).result = some .done := by
  have hrunEq : s.spcRun u rx = (s.putUnit u { s.unit u with
      sent := x.bytes 1 (field (x.arg 0) 15 8)
      keep := if flag (x.arg 0) 5 then some (field (x.arg 0) 4 2) else none }).finishXfer u x
        (padBytes (field (x.arg 0) 15 8) rx) := by
    unfold State.spcRun
    rw [hqueue]
    dsimp only
    rw [hfault]
  rw [hrunEq]
  exact State.finishXfer_put hqueue huser hrun (by rfl) _

omit huser hrun in
theorem State.uartReply_good {came : List HeardByte} (hsent : x.sent.isSome = true) (hheard : s.uartHeard u came ≠ [])
    (hcrc : flag (x.arg 0) 2 = false) (hlen : (s.uartHeard u came).length ≤ field (x.arg 0) 23 16) :
    s.uartReply u came false = s.finishXfer u x (s.uartHeard u came) := by
  have hgot : (s.uartHeard u came).isEmpty = false := by simpa using hheard
  unfold State.uartReply
  rw [hqueue]
  dsimp only
  rw [if_neg (by simp [Option.isSome_iff_ne_none.1 hsent, hgot]), hcrc, if_pos (by simpa using hlen)]
  rfl

theorem State.uartTimeout_ends {t0 : Stamp} (hsent : x.sent = some t0) :
    SameBut [.time, .sense, .ops] s (s.uartTimeout u) ∧ ((s.uartTimeout u).unit u).queue = rest ∧
      ((s.uartTimeout u).slot tag.toNat).result = some .timeout := by
  have hreach := s.reach_same (t0 + BitVec.ofNat 64 (msTime (field (s.rg 0x32 (0x150 + 0x20 * (u - 8))) 15 0)))
  obtain ⟨hend, hq, -, hres⟩ := State.endXfer_shows (by rw [hreach.unit, hqueue]) huser (by rw [hreach.running, hrun])
    .timeout []
  have heq : s.uartTimeout u = (s.reach (t0 + BitVec.ofNat 64
      (msTime (field (s.rg 0x32 (0x150 + 0x20 * (u - 8))) 15 0)))).endXfer u .timeout [] := by
    unfold State.uartTimeout
    rw [hqueue]
    dsimp only
    rw [hsent]
  rw [heq]
  exact ⟨hreach.mono.trans hend.mono, hq, hres⟩

/-- What a TWC unit with an acknowledged transfer does. -/
theorem State.twcRun_acked (htarget : (s.unit u).target = false) (hfault : s.signalFault u x.user [0, 1] = none) :
    SameBut [.sense, .queues, .svc, .ops] s (s.twcRun u none true rx) ∧
      ((s.twcRun u none true rx).unit u).queue = rest ∧ ((s.twcRun u none true rx).unit u).sent = x.twcSent ∧
      ((s.twcRun u none true rx).slot tag.toNat).result = some .done := by
  have heq : s.twcRun u none true rx = (s.putUnit u { s.unit u with stuck := false, sent := x.twcSent }).finishXfer u x
      (padBytes (field (x.arg 1) 7 0) rx) := by
    unfold State.twcRun
    rw [hqueue]
    dsimp only
    rw [if_neg (by simp [htarget]), hfault]
    rfl
  rw [heq]
  exact State.finishXfer_put hqueue huser hrun (by rfl) _

theorem State.twcRun_nacked (htarget : (s.unit u).target = false) (hfault : s.signalFault u x.user [0, 1] = none) :
    SameBut [.sense, .ops] s (s.twcRun u none false rx) ∧ ((s.twcRun u none false rx).unit u).queue = rest ∧
      ((s.twcRun u none false rx).slot tag.toNat).result = some .medium := by
  have heq : s.twcRun u none false rx =
      ((s.putUnit u { s.unit u with stuck := false, sent := x.twcSent }).twcCount u 7 0).endXfer u .medium [] := by
    unfold State.twcRun
    rw [hqueue]
    dsimp only
    rw [if_neg (by simp [htarget]), hfault]
    rfl
  have hput := (s.putUnit_same (l := [.sense]) u { s.unit u with stuck := false, sent := x.twcSent })
  rw [heq]
  obtain ⟨hend, hq, hres⟩ := State.endXfer_counted (s := s.putUnit u { s.unit u with stuck := false, sent := x.twcSent })
    (by rw [State.unit_putUnit_self, hqueue]) huser (by rw [hput.running, hrun])
    (State.twcCount_same _ u 7 0) (c := .medium) []
  exact ⟨hput.mono.trans hend, hq, hres⟩

end

end

section
variable {s : State} {u : Nat}

theorem State.arbLost_again {x : Xfer} {rest : List Xfer} (hqueue : (s.unit u).queue = x :: rest)
    (htarget : (s.unit u).target = false) (hleft : (s.unit u).losses + 1 ≤ field (s.twcCfg u) 18 16) :
    s.arbLost u none = (s.twcCount u 15 8).putUnit u { s.unit u with
      losses := (s.unit u).losses + 1, target := false } := by
  unfold State.arbLost
  dsimp only
  rw [if_neg (by simp [hqueue, htarget]), if_neg (by omega)]

/-- A unit called as target shifts its bytes out and leaves the role at the STOP. -/
theorem State.targetServe_reads {addr : BitVec 7} (hready : s.ready 0x32 = true) (hup : s.unavailable .sense = false)
    (hfault : s.signalFault u .nobody [0, 1] = none) (hcalls : s.calls u addr = true) (k : Nat)
    (hk : Quiet (0x050 + 0x20 * u)) :
    SameBut [.sense] s (s.targetServe u addr [.reads k]) ∧ ((s.targetServe u addr [.reads k]).unit u).target = false ∧
      ((s.targetServe u addr [.reads k]).unit u).sent =
        padBytes k (bytesBE 4 (s.rg 0x32 (0x050 + 0x20 * u)).toNat) ∧
      ((s.targetServe u addr [.reads k]).unit u).queue = (s.unit u).queue := by
  have hbytes : (s.putUnit u { s.unit u with target := true }).targetBytes u k =
      padBytes k (bytesBE 4 (s.rg 0x32 (0x050 + 0x20 * u)).toNat) := by
    unfold State.targetBytes State.putUnit
    rw [State.rg_evLevel hk]
    rfl
  unfold State.targetServe
  rw [if_pos (by simp [hready, hup, hfault, hcalls])]
  dsimp only [List.foldl_cons, List.foldl_nil]
  rw [State.unit_putUnit_self]
  unfold State.targetPart
  dsimp only
  refine ⟨((s.putUnit_same _ _).trans (State.putUnit_same _ _ _)).trans (State.putUnit_same _ _ _), rfl, ?_, ?_⟩
  · rw [State.unit_putUnit_self]
    exact hbytes
  · rw [State.unit_putUnit_self, State.unit_putUnit_self]

end

/-- Settles O53, by the rules for transactions of the port and for the ends of transfers at a unit. -/
theorem hostTwoWire : Obligations.HostTwoWire := by
  unfold Obligations.HostTwoWire
  intro s w r data stop a n hw hr ha
  have hw : w = s.htwTaken false := hw
  have hr : r = s.htwTaken true := hr
  subst hw hr
  refine ⟨fun hon => ⟨?_, ?_⟩, fun hon hguard hundo => ?_, fun hon hguard => ⟨?_, ?_, ?_, ?_, ?_⟩, fun hdead hbusy => ⟨?_, ?_⟩,
    fun hbusy => ⟨?_, ?_⟩, fun u htarget => ?_, fun u x rest tag htarget hqueue huser hrun => ?_⟩
  · exact congrArg Host.Outcome.next (State.htwWrite_off hon)
  · exact congrArg Host.Outcome.next (State.htwRead_off hon)
  · obtain ⟨hsame, hcode⟩ := State.htwWrite_discards (data := data) hon hguard hundo
    exact ⟨_, rfl, hcode, by rw [hsame.own], hsame.gran, hsame.queues, hsame.ops⟩
  · exact fun hlen => congrArg Host.Outcome.next (State.htwWrite_short hon hguard hlen)
  · exact fun hlen hbad => congrArg Host.Outcome.next (State.htwWrite_bad hon hguard ha hlen hbad)
  · exact fun hlen hlow hal => congrArg Host.Outcome.next (State.htwWrite_words hon hguard ha hlen hlow hal)
  · exact fun many b0 b1 b2 b3 u hpast hwrite hon' => State.htwData_word hpast hwrite hon'
  · exact fun t l hn hpos hwords => congrArg Host.Outcome.next (State.htwRead_words hon hguard hn hpos hwords)
  · exact congrArg Host.Outcome.next (if_neg (by simp [hdead, hbusy]))
  · exact congrArg Host.Outcome.next (if_neg (by simp [hdead, hbusy]))
  · exact congrArg Host.Outcome.next (if_pos (by simp [hbusy]))
  · exact congrArg Host.Outcome.next (if_pos (by simp [hbusy]))
  · exact congrArg Host.Outcome.next (if_pos htarget)
  · obtain ⟨hsame, hq, hres⟩ := State.endXfer_counted hqueue huser hrun (s.twcCount_same u.val 23 20) (c := .medium) []
    exact ⟨_, congrArg Host.Outcome.next (State.twcProtocol_ends hqueue htarget), hq, hres, hsame.gran, hsame.flash⟩

/-- Settles O25, transfer by transfer, by how an operation's transfer ends and what received bytes leave alone. -/
theorem sensorBuses : Obligations.SensorBuses := by
  unfold Obligations.SensorBuses
  refine ⟨fun s n u x rest tag rx hqueue huser hrun => ⟨?_, ?_, ?_, ?_, ?_, ?_, ?_, ?_⟩,
    fun s n m addr => ⟨?_, ?_, ?_, ?_, ?_⟩⟩
  · rintro rfl hfault
    obtain ⟨hsame, hq, hsent, hres⟩ := State.spcRun_shifts (rx := rx) hqueue huser hrun hfault
    exact ⟨_, rfl, hq, hsent, hres, hsame.own, hsame.flash⟩
  · rintro rfl c hfault
    exact congrArg Host.Outcome.next
      ((State.spcRun_refused hqueue hfault).trans (State.endXfer_slot hqueue huser hrun c []))
  · rintro rfl hsent hfault hwant all hall
    exact congrArg Host.Outcome.next (State.uartSend_waits hqueue hsent hfault hwant hall)
  · rintro rfl came hsent hheard hcrc hlen
    have hcame : came ≠ [] := fun h => hheard (by rw [h]; simp [State.uartHeard])
    obtain ⟨hsame, hq, -, hres⟩ := State.finishXfer_shows hqueue huser hrun (s.uartHeard (8 + n.val) came)
    exact ⟨_, (if_neg hcame).trans (congrArg Host.Outcome.next (State.uartReply_good hqueue hsent hheard hcrc hlen)), hq,
      hres, hsame.own, hsame.flash⟩
  · exact fun _ => rfl
  · rintro rfl t0 hsent
    obtain ⟨hsame, hq, hres⟩ := State.uartTimeout_ends hqueue huser hrun hsent
    exact ⟨_, rfl, hq, hres, hsame.gran, hsame.flash⟩
  · rintro rfl htarget hfault
    obtain ⟨hsame, hq, hsent, hres⟩ := State.twcRun_acked (rx := rx) hqueue huser hrun htarget hfault
    exact ⟨_, rfl, hq, hsent, hres, hsame.own, hsame.flash⟩
  · rintro rfl htarget hfault
    obtain ⟨hsame, hq, hres⟩ := State.twcRun_nacked (rx := rx) hqueue huser hrun htarget hfault
    exact ⟨_, rfl, hq, hres, hsame.own, hsame.flash⟩
  · exact fun x rest hqueue htarget hleft =>
      congrArg Host.Outcome.next (State.arbLost_again hqueue htarget hleft)
  · intro x rest tag hqueue htarget huser hrun
    obtain ⟨hsame, hq, hres⟩ := State.endXfer_counted hqueue huser hrun (s.twcCount_same n.val 19 16) (c := .timeout) []
    exact ⟨_, congrArg Host.Outcome.next (State.twcStretch_ends hqueue htarget), hq, hres, hsame.gran, hsame.flash⟩
  · intro k hready hup hfault hcalls
    obtain ⟨hsame, htarget, hsent, hq⟩ := State.targetServe_reads hready hup hfault hcalls k
      (by have := n.isLt; unfold Quiet; omega)
    exact ⟨_, rfl, htarget, hsent, hq, hsame.gran, hsame.own⟩
  · intro u b rest hg hrxd
    refine congrArg Host.Outcome.next ?_
    rw [State.read_pass hg, rxdEffect, hrxd]
    exact if_pos rfl
  · intro u hg hrxd
    refine congrArg Host.Outcome.next ?_
    rw [State.read_pass hg, rxdEffect, hrxd]
    exact if_pos rfl

end Sys2Proof.Machine
end

section
/-!
PROOFS. Which parts of the state resets, starts and losses of supply touch.
-/
namespace Sys2Proof.Machine

section
variable {l : List Part} {s t u : State} {c : Prop} {_ : Decidable c}

theorem SameBut.iteThen (h : SameBut l s t) (g : SameBut l t u) : SameBut l s (if c then u else t) := .ite (h.trans g) h

theorem SameBut.iteElse (h : SameBut l s t) (g : SameBut l t u) : SameBut l s (if c then t else u) := .ite h (h.trans g)

theorem SameBut.set_hspi_htw (s : State) {hspi htw} : SameBut [.hspi, .htw] s { s with hspi := hspi, htw := htw } := by
  intro b hb
  cases b
  case hspi | htw => exact absurd (by decide) hb
  case stack | fabric => exact ⟨rfl, rfl, rfl⟩
  all_goals exact rfl

theorem SameBut.set_flash_opt (s : State) {flash opt} :
    SameBut [.flash, .opt] s { s with flash := flash, opt := opt } := by
  intro b hb
  cases b
  case flash | opt => exact absurd (by decide) hb
  case stack | fabric => exact ⟨rfl, rfl, rfl⟩
  all_goals exact rfl

end

section
variable (s : State)

/-! ### Slots, queues and the owner -/

theorem State.tagEnded_same (tag : Nat) (c : Code) : SameBut [.gle] s (s.tagEnded tag c) := SameBut.set_gle s

theorem State.loaderEnded_same (tag : Nat) (c : Code) : SameBut [.crib] s (s.loaderEnded tag c) := SameBut.set_crib s

theorem State.endSlotAt_same (tag : Nat) (c : Code) (t : Stamp) : SameBut [.ops, .gle, .crib] s (s.endSlotAt tag c t) := by
  unfold State.endSlotAt
  dsimp only
  refine SameBut.iteElse ?_ (State.logErr_same _ _ _ _)
  refine SameBut.trans (s.putSlot_same tag { s.slot tag with st := .held, code := c, stamp := t, result := none }) ?_
  exact .ite (State.tagEnded_same _ _ _).mono (.ite (State.loaderEnded_same _ _ _).mono (.refl _))

theorem State.endSlot_same (tag : Nat) (c : Code) : SameBut [.ops, .gle, .crib] s (s.endSlot tag c) := s.endSlotAt_same tag c _

theorem State.endSlots_same (p : Slot → Bool) (c : Code) : SameBut [.ops, .gle, .crib] s (s.endSlots p c) :=
  .foldl (fun t tag => .ite (t.endSlot_same tag c) (.refl t)) _ s

theorem State.rewindQueue_same (n : Nat) : SameBut [.queues] s (s.rewindQueue n) := by
  unfold State.rewindQueue
  split
  · exact .refl s
  · exact (((s.putQueue_same n _).trans (State.qCount_same _ _ _ _)).trans (State.evPulse_same _ _ _)).trans
      (State.refreshQueue_same _ _)

theorem State.rewindOf_same (p : Nat → Bool) : SameBut [.queues] s (s.rewindOf p) := by
  refine .foldl (fun t n => ?_) _ s
  split
  · exact .ite (t.rewindQueue_same n) (.refl t)
  · exact .refl t

theorem State.auditOwn_same (kind m n : Nat) : SameBut [.opt] s (s.auditOwn kind m n) :=
  .ite (.set_opt s) (.set_opt s)

/-- s as its ownership changes, before pushes of the master that was owner are rewound. -/
def State.ownerGone (s : State) (kind : Nat) (heir : Option Master) (auditor : Nat) : State :=
  (List.range 8).foldl (fun acc i => acc.setRg 0x02 (0x040 + 4 * i) 0)
    ((((({ s with own := { s.own with
        owner := heir, epoch := s.own.epoch + 1, window := none, claims := [], handover := none, held := none } } :
          State).setRg 0x01 0x068 (pack [(0, 4, kind), (4, 4, ownerNum s.own.owner), (8, 4, ownerNum heir)])).setPair
      0x01 0x06C s.now).auditOwn kind auditor (ownerNum heir)).endSlots
        (fun k => k.st == .queued && decide (k.src.toNat ≤ 4)) .aborted)

theorem State.changeOwner_same (kind : Nat) (heir : Option Master) (m : Nat) :
    SameBut [.own, .opt, .ops, .gle, .crib, .queues, .svc] s (s.changeOwner kind heir m) := by
  unfold State.changeOwner
  dsimp only
  refine SameBut.trans ?_ (State.syncWdt_same _)
  refine SameBut.trans ?_ (State.evPulse_same _ _ _)
  refine SameBut.trans ?_ (State.evLevel_same _ _ _ _)
  refine SameBut.trans ?_ (State.evLevel_same _ _ _ _)
  have h5 : SameBut [.own, .opt, .ops, .gle, .crib, .queues, .svc] s (s.ownerGone kind heir m) := by
    refine SameBut.trans ?_ (.foldl (fun t i => t.setRg_same _ _ _) _ _)
    refine SameBut.trans ?_ (State.endSlots_same _ _ _).mono
    refine SameBut.trans ?_ (State.auditOwn_same _ _ _ _).mono
    refine SameBut.trans ?_ (State.setPair_same _ _ _ _)
    exact (SameBut.set_own s).trans (State.setRg_same _ _ _ _)
  split
  · exact h5
  · exact h5.trans (State.rewindOf_same _ _).mono

/-! ### Tasks, undone reads, contexts -/

theorem State.putTask_same (k : Nat) (t : Task) : SameBut [.fabric] s (s.putTask k t) := SameBut.set_fab s

theorem State.loseTasks_same (i : Island) : SameBut [.fabric] s (s.loseTasks i) :=
  .foldl (fun t k => .ite (t.putTask_same k _) (.refl t)) _ s

theorem State.giveBack_same (u : Undo) : SameBut [.queues, .sense] s (s.giveBack u) := by
  cases u with
  | item q e => exact (s.putQueue_same q _).trans (State.refreshQueue_same _ _)
  | rxd u b => exact s.putUnit_same u _
  | addr a old => exact .same s
  | shadow key old => exact .same s

theorem State.giveBacks_same (us : List Undo) : SameBut [.queues, .sense] s (us.foldl State.giveBack s) :=
  .foldl (fun t u => t.giveBack_same u) us s

theorem State.ctxFree_same (k : Nat) : SameBut [.gran] s (s.ctxFree k) := SameBut.set_gran s

theorem State.updFld_same (f : FieldState → FieldState) : SameBut [.fld] s (s.updFld f) := SameBut.set_fld s

theorem State.updPhy_same (f : Phy → Phy) : SameBut [.phy] s (s.updPhy f) := SameBut.set_phy s

theorem State.updLink_same (f : Link → Link) : SameBut [.link] s (s.updLink f) := SameBut.set_link s

theorem State.updCrib_same (f : CribState → CribState) : SameBut [.crib] s (s.updCrib f) := SameBut.set_crib s

theorem State.updSvc_same (f : Service → Service) : SameBut [.svc] s (s.updSvc f) := SameBut.set_svc s

theorem State.closeMgmt_same : SameBut [.link, .own, .opt, .ops, .gle, .crib, .queues, .svc] s s.closeMgmt := by
  unfold State.closeMgmt
  split
  · exact .refl s
  · dsimp only
    exact SameBut.iteThen (s.updLink_same _).mono ((State.evPulse_same _ _ _).trans (State.changeOwner_same _ _ _ _).mono)

theorem State.groupCut_same : SameBut [.opt] s s.groupCut := by
  unfold State.groupCut
  split
  · exact .refl s
  · dsimp only
    split
    all_goals exact SameBut.trans (State.draw_same s) (SameBut.set_opt _)

theorem State.abandonSnap_same : SameBut [.time, .ops] s s.abandonSnap := by
  unfold State.abandonSnap
  split
  · exact .refl s
  · have hlost : SameBut [.time, .ops] s (State.snapLost { s with time := { s.time with snap := none } }) :=
      ((SameBut.set_time s).trans (State.updRg_same _ _ _ _)).trans (State.evPulse_same _ _ _)
    dsimp only
    split
    · exact SameBut.iteThen hlost (State.setResult_same _ _ _)
    · exact hlost

theorem State.endConvWaits_same : SameBut [.gle, .ops] s s.endConvWaits :=
  .foldl (fun t _ => .foldl (fun u _ => State.giveRes_same u (hgle := by decide) (hops := by decide) _ _) _ t) _ s

theorem State.endBusWaits_same : SameBut [.gle, .ops] s s.endBusWaits := by
  refine .foldl (fun t _ => .foldl (fun u x => ?_) _ t) _ s
  split
  · exact State.giveRes_same u (hgle := by decide) (hops := by decide) _ _
  · exact .refl u

theorem State.setMod_same {l : List Part} (g : Nat) (m : ModGroup) : SameBut l s (s.setMod g m) :=
  Signalled.same ⟨State.setMod_events s g m, rfl, rfl, rfl, rfl, rfl, rfl⟩

theorem State.settle_same {l : List Part} (b : State) (n : Nat) : SameBut l s (s.settle b n) := (s.settle_signals b n).same

theorem State.refreshService_same {l : List Part} : SameBut l s s.refreshService :=
  (s.evLevel_same _ _ _).trans (State.setDegraded_same _ _ _)

/-! ### Islands in reset -/

theorem State.abortSlots_same (pages : List Nat) : SameBut [.ops, .gle, .crib, .fld] s (s.abortSlots pages) := by
  unfold State.abortSlots
  refine .foldl (fun t tag => ?_) _ s
  dsimp only
  refine .ite ?_ (.refl t)
  exact SameBut.iteThen (t.endSlot_same tag _).mono (State.updFld_same _ _).mono

theorem State.giveBacks_ended (us : List Undo) {hspi htw} :
    SameBut [.queues, .sense, .hspi, .htw] s { (us.foldl State.giveBack s) with hspi := hspi, htw := htw } :=
  (s.giveBacks_same us).mono.trans (SameBut.set_hspi_htw (hspi := hspi) (htw := htw) _).mono

theorem State.resetHost_same : SameBut [.queues, .sense, .hspi, .htw] s s.resetHost := by
  have hframe : SameBut [.queues, .sense, .hspi, .htw] s (match s.hspi.frame with
      | some f => f.undo.foldl State.giveBack s
      | none => s) := by
    split
    · exact (s.giveBacks_same _).mono
    · exact .refl s
  exact (hframe.trans (State.giveBacks_ended _ _)).trans (State.rewindOf_same _ _).mono

theorem State.resetRadio_same (brown : Bool) :
    SameBut [.phy, .link, .own, .opt, .ops, .gle, .crib, .queues, .svc] s (s.resetRadio brown) := by
  unfold State.resetRadio
  dsimp only
  refine SameBut.trans (t := s.closeMgmt.rewindOf (fun k => k == 3)) ?_ ?_
  · exact s.closeMgmt_same.mono.trans (State.rewindOf_same _ _).mono
  · generalize s.closeMgmt.rewindOf (fun k => k == 3) = v
    exact .ite ((SameBut.set_phy v).trans (SameBut.set_link { v with phy := {} }))
      ((SameBut.set_phy v).trans (SameBut.set_link { v with phy := {} }))

theorem State.resetField_same (brown : Bool) : SameBut [.gran, .fld] s (s.resetField brown) := by
  unfold State.resetField
  dsimp only
  refine SameBut.trans ?_ (SameBut.set_fld _)
  refine SameBut.trans ?_ (SameBut.foldl (fun t h => ?_) _ _)
  · split
    · exact (s.ctxFree_same _).mono
    · exact .refl s
  · split
    · exact (t.ctxFree_same _).mono
    · exact .refl t

theorem State.resetCore_same : SameBut [.core, .stack, .queues] s s.resetCore :=
  (((s.setRg_same 0x1E 0x044 0).trans (SameBut.set_intc (intc := {}) _)).trans (SameBut.set_core _)).trans
    (State.rewindOf_same _ _).mono

theorem State.resetCrib_same : SameBut [.crib] s s.resetCrib :=
  SameBut.iteThen (s.updCrib_same _) (State.updRg_same _ _ _ _)

theorem State.resetFlash_same : SameBut [.ops, .gle, .crib, .opt, .flash] s s.resetFlash := by
  have hend : SameBut [.ops, .gle, .crib, .opt, .flash] s (match s.opt.writing with
      | some (tag, _, _) => s.endSlot tag.toNat .aborted
      | none => s) := by
    split
    · exact (s.endSlot_same _ _).mono
    · exact .refl s
  exact (hend.trans (State.groupCut_same _).mono).trans (SameBut.set_flash_opt _).mono

theorem State.resetGranary_same (brown : Bool) : SameBut [.time, .ops, .gran, .queues] s (s.resetGranary brown) := by
  unfold State.resetGranary
  dsimp only
  refine SameBut.trans s.abandonSnap_same.mono ?_
  exact .ite ((SameBut.set_gran (gran := {}) _).trans (SameBut.set_queues _))
    ((State.rewindOf_same _ _).mono.trans (SameBut.set_gran _))

theorem State.resetSense_same (brown : Bool) : SameBut [.time, .ops, .gle, .sense, .thr, .win] s (s.resetSense brown) := by
  unfold State.resetSense
  dsimp only
  refine SameBut.trans ?_ (State.refreshService_same _)
  refine SameBut.trans ?_ (((SameBut.set_thr (thr := {}) _).trans (SameBut.set_win (win := {}) _)).trans (SameBut.set_sense _))
  exact ((s.endConvWaits_same.mono.trans (State.endBusWaits_same _).mono).trans (State.abandonSnap_same _).mono).trans
    (SameBut.set_sense _)

theorem State.resetRegs_same {l : List Part} (pages : List Nat) (brown : Bool) : SameBut l s (s.resetRegs pages brown) := by
  unfold State.resetRegs
  dsimp only
  refine SameBut.trans (SameBut.same s) (SameBut.foldl (fun t p => ?_) _ _)
  exact (SameBut.ite (.refl t) (t.setPair_same _ _ _)).trans (State.settle_same _ _ _)

/-- The parts of the state that a reset of islands may touch: all but the supplies, the ports of debug and test, and the
fuses. -/
def resetParts : List Part :=
  [.own, .ops, .opt, .time, .queues, .core, .svc, .hspi, .htw, .link, .phy, .sense, .gle, .thr, .win, .gran, .flash, .fld,
    .crib, .stack, .fabric]

theorem State.resetIslands_same (mask : BitVec 9) (brown : Bool) : SameBut resetParts s (s.resetIslands mask brown) := by
  unfold State.resetIslands
  dsimp only
  refine SameBut.trans ?_ (State.resetRegs_same _ _ _)
  refine SameBut.trans ?_ (.ite (State.resetSense_same _ _).mono (.refl _))
  refine SameBut.trans ?_ (.ite (State.resetGranary_same _ _).mono (.refl _))
  refine SameBut.trans ?_ (.ite (State.resetFlash_same _).mono (.refl _))
  refine SameBut.trans ?_ (.ite (State.resetCrib_same _).mono (.refl _))
  refine SameBut.trans ?_ (.ite (State.resetCore_same _).mono (.refl _))
  refine SameBut.trans ?_ (.ite (State.resetField_same _ _).mono (.refl _))
  refine SameBut.trans ?_ (.ite (State.resetRadio_same _ _).mono (.refl _))
  refine SameBut.trans ?_ (.ite (State.resetHost_same _).mono (.refl _))
  exact (s.abortSlots_same _).mono.trans (.foldl (fun t i => .ite (t.loseTasks_same i).mono (.refl t)) _ _)

/-! ### The reader's operations are broken off -/

theorem State.tagFailed_same (t : Nat) (c : Code) : SameBut [.fld] s (s.tagFailed t c) := s.updFld_same _

theorem State.tagResult_same (t : Nat) (c : Code) (v : Option (BitVec 24)) : SameBut [.fld] s (s.tagResult t c v) := by
  cases v with
  | none => exact ((s.tagFailed_same t c).trans (State.evPulse_same _ _ _)).trans (State.pulse_same _ _ _)
  | some v => exact ((s.updFld_same _).trans (State.evPulse_same _ _ _)).trans (State.pulse_same _ _ _)

theorem State.breakSlot_same (tag : Nat) (c : Code) : SameBut [.ops, .fld] s (s.breakSlot tag c) := by
  have hset := s.setResult_same (l := [.ops, .fld]) tag c
  unfold State.breakSlot
  dsimp only
  refine .ite (hset.trans (State.evPulse_same _ _ _)) (.ite ((hset.trans (State.evPulse_same _ _ _)).trans
    (State.pulse_same _ _ _)) (.ite (hset.trans (State.tagResult_same _ _ _ _).mono) (.ite ?_ hset)))
  split
  · exact hset.trans (State.tagResult_same _ _ _ _).mono
  · exact hset

theorem State.endRun_same : SameBut [.gran, .fld] s s.endRun := by
  unfold State.endRun
  refine SameBut.trans ?_ (State.updFld_same _ _).mono
  split
  · exact (s.ctxFree_same _).mono
  · exact .refl s

theorem State.breakRun_same (c : Code) : SameBut [.ops, .gran, .fld] s (s.breakRun c) := by
  unfold State.breakRun
  split
  · exact .refl s
  · exact (s.breakSlot_same _ c).mono.trans (State.endRun_same _).mono

theorem State.failPorts_same (p : Nat → Bool) : SameBut [.ops, .gran, .fld] s (s.failPorts p) := by
  unfold State.failPorts
  have h1 : SameBut [.ops, .gran, .fld] s (match s.fld.paused with
      | some r =>
        if (portsOf r.ants.toNat).any p then
          (s.breakSlot r.tag.toNat .medium).updFld (fun f => { f with paused := none })
        else s
      | none => s) := by
    split
    · exact .ite ((s.breakSlot_same _ _).mono.trans (State.updFld_same _ _).mono) (.refl s)
    · exact .refl s
  dsimp only
  split
  · exact .ite (h1.trans (State.breakRun_same _ _)) h1
  · exact h1

theorem State.loseSession_same (h : Nat) : SameBut [.ops, .gran, .fld] s (s.loseSession h) := by
  unfold State.loseSession
  split
  · exact .refl s
  · rename_i x _
    have h2 := (((((s.ctxFree_same x.ctx).mono (k := [.ops, .gran, .fld])).trans
      (State.updFld_same _ (fun f => { f with sessions := Tab.set (fun _ => none) f.sessions h none })).mono).trans
      (State.updRg_same _ 0x22 0x04C (fun w => satField w 31 24 1))).trans (State.evPulse_same _ 0x22 1)).trans
      (State.pulse_same _ 0xAC none)
    dsimp only
    split
    · exact .ite (h2.trans (State.breakRun_same _ _)) h2
    · exact h2

theorem State.loseStopped_same : SameBut [.ops, .gran, .fld] s s.loseStopped := by
  refine .foldl (fun t h => ?_) _ s
  split
  · exact .ite (t.loseSession_same h) (.refl t)
  · exact .refl t

/-! ### Levels that follow the supplies -/

theorem State.fieldLevels_same {l : List Part} : SameBut l s s.fieldLevels := by
  unfold State.fieldLevels
  dsimp only
  refine SameBut.trans ?_ (State.setDegraded_same _ _ _)
  refine SameBut.trans ?_ (.foldl (fun t n => (t.evLevel_same _ _ _).trans (State.evLevel_same _ _ _ _)) _ _)
  exact (((s.levelSource_same _ _ _ _).trans (State.levelSource_same _ _ _ _ _)).trans (State.evLevel_same _ _ _ _)).trans
    (State.evLevel_same _ _ _ _)

theorem State.refreshField_same : SameBut [.ops, .gran, .fld] s s.refreshField := by
  unfold State.refreshField
  dsimp only
  refine SameBut.trans ?_ (State.fieldLevels_same _)
  refine SameBut.trans ?_ (State.updRg_same _ _ _ _)
  refine SameBut.iteThen ?_ (State.updFld_same _ _).mono
  exact s.loseStopped_same.trans (.foldl (fun t n => t.updRg_same _ _ _) _ _)

theorem State.refreshRadio_same : SameBut [.phy] s s.refreshRadio := by
  unfold State.refreshRadio
  dsimp only
  refine SameBut.trans ?_ (State.setDegraded_same _ _ _)
  refine SameBut.trans (t := State.evLevel _ 0x28 3 _) ?_ (.ite (State.updPhy_same _ _) (.refl _))
  exact ((((s.updRg_same _ _ _).trans (State.evLevel_same _ _ _ _)).trans (State.evLevel_same _ _ _ _)).trans
    (State.evLevel_same _ _ _ _)).trans (State.evLevel_same _ _ _ _)

theorem State.refreshPower_same : SameBut [.ops, .gran, .fld, .phy, .svc] s s.refreshPower :=
  (s.refreshField_same.mono.trans (State.refreshRadio_same _).mono).trans (State.syncWdt_same _)

theorem State.keepInForce_same : SameBut [.phy] s s.keepInForce := .ite (s.updPhy_same _) (.refl s)

theorem State.setChannel_same (f w : Nat) : SameBut [.phy] s (s.setChannel f w) := by
  have h1 := (s.keepInForce_same.trans (State.setRg_same _ 0x28 0x040 (BitVec.ofNat 32 f))).trans
    (State.updRg_same _ 0x28 0x044 (fun x => setField x 2 0 w))
  exact SameBut.iteElse h1 (State.updRg_same _ _ _ _)

theorem State.setRadio_same (f : Nat) (w : Option Nat) (nb : Bool) (k : Nat) : SameBut [.phy] s (s.setRadio f w nb k) :=
  ((s.setChannel_same _ _).trans (State.updRg_same _ _ _ _)).trans (State.refreshRadio_same _)

theorem State.cutTx_same : SameBut [.phy] s s.cutTx :=
  (s.updPhy_same _).trans (.ite (State.setRadio_same _ _ _ _ _) (State.refreshRadio_same _))

theorem State.abandonRx_same : SameBut [.phy] s s.abandonRx := by
  unfold State.abandonRx
  split
  · exact .refl s
  · exact (s.updPhy_same _).trans (State.updRg_same _ _ _ _)

theorem State.holdLease_same : SameBut [.own] s s.holdLease := by
  unfold State.holdLease
  split
  · exact SameBut.set_own s
  · exact .refl s

theorem State.resumeLease_same : SameBut [.own] s s.resumeLease := by
  unfold State.resumeLease
  split
  · exact .refl s
  · exact .refl s
  · exact SameBut.set_own s

theorem State.beginStarts_same {l : List Part} (pages : List Nat) (b : Bool) (hl : .pwr ∈ l := by decide) :
    SameBut l s (s.beginStarts pages b) := SameBut.set_pwr s hl

/-! ### The ports -/

theorem State.putPort_same (p : Nat) (x : Port) : SameBut [.sense] s (s.putPort p x) := SameBut.set_sense s

theorem State.drivePort_same (p : Nat) : SameBut [.sense] s (s.drivePort p) := s.putPort_same _ _

theorem State.releaseHold_same (p : Nat) : SameBut [.sense] s (s.releaseHold p) :=
  (s.putPort_same _ _).trans (State.drivePort_same _ _)

theorem State.hostBallsLost_same : SameBut [.queues, .sense, .hspi, .htw] s s.hostBallsLost := by
  have hframe : SameBut [.queues, .sense, .hspi, .htw] s (match s.hspi.frame with
      | some f => f.undo.foldl State.giveBack s
      | none => s) := by
    split
    · exact (s.giveBacks_same _).mono
    · exact .refl s
  exact hframe.trans (State.giveBacks_ended _ _)

/-! ### Resets -/

theorem State.recordReset_same {l : List Part} (k r : Nat) (mask : BitVec 9) : SameBut l s (s.recordReset k r mask) :=
  (s.setRg_same _ _ _).trans (State.setPair_same _ _ _ _)

theorem State.applyReset_same (k r : Nat) (mask : BitVec 9) (wait : Nat) :
    SameBut (.pwr :: resetParts) s (s.applyReset k r mask wait) := by
  unfold State.applyReset
  dsimp only
  refine SameBut.trans ?_ (State.refreshPower_same _).mono
  have h3 : SameBut (.pwr :: resetParts) s ((s.recordReset k r mask).resetIslands mask (k == 2)) :=
    (s.recordReset_same k r mask).trans (State.resetIslands_same _ _ _).mono
  refine SameBut.trans (h3.trans (SameBut.set_pwr _)) (.ite ?_ (.refl _))
  exact (State.setReadyBits_same _ _ _).trans (SameBut.set_opt _)

end

end Sys2Proof.Machine
end

section
/-!
PROOFS. Which pages' registers the shared operations write, beside READY and event flags.
-/
namespace Sys2Proof.Machine

/-- Registers of t are those of s, but on the pages of l, and but for READY, event flags and what goes with them. -/
def RegsBut (l : List Nat) (s t : State) : Prop := ∀ q o, q ∉ l → Quiet o → t.rg q o = s.rg q o

section
variable {l : List Nat} {s t u : State}

theorem RegsBut.refl (s : State) : RegsBut l s s := fun _ _ _ _ => rfl

theorem RegsBut.trans (h : RegsBut l s t) (g : RegsBut l t u) : RegsBut l s u :=
  fun q o hq ho => (g q o hq ho).trans (h q o hq ho)

theorem RegsBut.mono {k : List Nat} (h : RegsBut l s t) (hl : l ⊆ k := by decide) : RegsBut k s t :=
  fun q o hq ho => h q o (fun hm => hq (hl hm)) ho

theorem RegsBut.of_regs (h : t.regs = s.regs) : RegsBut l s t := fun q o _ _ => by rw [State.rg, State.reg, h]; rfl

theorem RegsBut.ite {c : Prop} {_ : Decidable c} (ht : RegsBut l s t) (hu : RegsBut l s u) :
    RegsBut l s (if c then t else u) := by
  split
  · exact ht
  · exact hu

theorem RegsBut.iteThen {c : Prop} {_ : Decidable c} (h : RegsBut l s t) (g : RegsBut l t u) :
    RegsBut l s (if c then u else t) := .ite (h.trans g) h

theorem RegsBut.foldl_mem {β : Type} {f : State → β → State} {bs : List β} (hf : ∀ b ∈ bs, ∀ s, RegsBut l s (f s b))
    (s : State) : RegsBut l s (bs.foldl f s) := by
  induction bs generalizing s with
  | nil => exact .refl s
  | cons b bs ih =>
    exact (hf b (List.mem_cons_self ..) s).trans (ih (fun b' hb' => hf b' (List.mem_cons_of_mem _ hb')) _)

theorem RegsBut.foldl {β : Type} {f : State → β → State} (hf : ∀ s b, RegsBut l s (f s b)) (bs : List β)
    (s : State) : RegsBut l s (bs.foldl f s) := .foldl_mem (fun b _ s => hf s b) s

end

section
variable {l : List Nat} (s : State)

/-! ### Registers and what tells of them -/

theorem State.setRg_regs (p o : Nat) (w : Word) (hp : p ∈ l := by decide) (ho : o < 0x1000 := by decide) :
    RegsBut l s (s.setRg p o w) := fun _ _ hq hquiet =>
  State.rg_setRg_other (fun e => hq (((ra_inj hquiet.1 ho).1 e).1 ▸ hp))

theorem State.updRg_regs (p o : Nat) (f : Word → Word) (hp : p ∈ l := by decide) (ho : o < 0x1000 := by decide) :
    RegsBut l s (s.updRg p o f) := s.setRg_regs p o _ hp ho

theorem State.setPair_regs (p o : Nat) (t : Stamp) (hp : p ∈ l := by decide) (ho : o + 4 < 0x1000 := by decide) :
    RegsBut l s (s.setPair p o t) :=
  (s.setRg_regs p o _ hp (by omega)).trans (State.setRg_regs _ p _ _ hp ho)

theorem State.evEdge_regs (p b : Nat) : RegsBut l s (s.evEdge p b) := fun _ _ _ ho => State.rg_evEdge ho p b

theorem State.evPulse_regs (p b : Nat) : RegsBut l s (s.evPulse p b) := fun _ _ _ ho => State.rg_evPulse ho p b

theorem State.evLevel_regs (p b : Nat) (v : Bool) : RegsBut l s (s.evLevel p b v) := fun _ _ _ ho => State.rg_evLevel ho p b v

theorem State.setReadyBits_regs (p : Nat) (f : Word → Word) : RegsBut l s (s.setReadyBits p f) :=
  fun _ _ _ ho => State.rg_setReadyBits ho p f

theorem State.setDegraded_regs (p : Nat) (b : Bool) : RegsBut l s (s.setDegraded p b) := s.setReadyBits_regs p _

theorem State.pulse_keeps (n : Nat) (w : Option (Nat × Nat)) : RegsBut l s (s.pulse n w) := .of_regs (s.pulse_regs n w)

theorem State.levelSource_regs (p b : Nat) (v : Bool) (n : Nat) : RegsBut l s (s.levelSource p b v n) :=
  .iteThen (s.evLevel_regs p b v) (State.pulse_keeps _ _ _)

theorem State.refreshOps_regs : RegsBut l s s.refreshOps := fun _ _ _ ho => State.rg_refreshOps ho

theorem State.putSlot_regs (tag : Nat) (k : Slot) : RegsBut l s (s.putSlot tag k) :=
  (RegsBut.of_regs (l := l) (s := s)
    (t := { s with ops := { s.ops with slots := Tab.set (fun _ => {}) s.ops.slots tag k } }) rfl).trans
    (State.refreshOps_regs _)

theorem State.setResult_regs (tag : Nat) (c : Code) : RegsBut l s (s.setResult tag c) :=
  fun _ _ _ ho => State.rg_setResult ho tag c

theorem State.refreshQueue_regs (n : Nat) : RegsBut l s (s.refreshQueue n) :=
  (s.evLevel_regs _ _ _).trans (State.evLevel_regs _ _ _ _)

theorem State.faultRec_regs (f p d : Nat) (hl : 0x3C ∈ l := by decide) : RegsBut l s (s.faultRec f p d) :=
  fun _ _ hq ho => State.rg_faultRec ho (fun e => hq (by rw [e]; exact hl)) f p d

theorem State.syncWdt_regs : RegsBut l s s.syncWdt := .of_regs rfl

theorem State.fireWake_regs (n : Nat) (hl : 0x05 ∈ l := by decide) : RegsBut l s (s.fireWake n) :=
  fun _ _ hq ho => State.rg_fireWake (fun e => hq (by rw [e]; exact hl)) ho n

theorem State.recordWake_regs (n left : Nat) (a b : Bool) (hl : 0x05 ∈ l := by decide) :
    RegsBut l s (s.recordWake n left a b) :=
  (s.setRg_regs _ _ _ hl).trans (State.setPair_regs _ _ _ _ hl)

theorem State.refreshService_regs : RegsBut l s s.refreshService :=
  (s.evLevel_regs _ _ _).trans (State.setDegraded_regs _ _ _)

theorem State.updFld_regs (f : FieldState → FieldState) : RegsBut l s (s.updFld f) := .of_regs rfl

theorem State.updPhy_regs (f : Phy → Phy) : RegsBut l s (s.updPhy f) := .of_regs rfl

theorem State.draw_regs : RegsBut l s s.draw.2 := .of_regs rfl

/-! ### The reader's operations broken off -/

theorem State.tagResult_regs (t : Nat) (c : Code) (v : Option (BitVec 24)) : RegsBut l s (s.tagResult t c v) := by
  cases v with
  | none =>
    exact ((RegsBut.of_regs (t := s.tagFailed t c) rfl).trans (State.evPulse_regs _ _ _)).trans
      (State.pulse_keeps _ _ _)
  | some v =>
    exact ((RegsBut.of_regs (t := s.putHeld t { value := v, stamp := s.now, has := true, failed := false, code := 0
                                                reads := (s.held t).reads + 1 }) rfl).trans
      (State.evPulse_regs _ _ _)).trans (State.pulse_keeps _ _ _)

theorem State.breakSlot_regs (tag : Nat) (c : Code) : RegsBut l s (s.breakSlot tag c) := by
  have hset := s.setResult_regs (l := l) tag c
  unfold State.breakSlot
  dsimp only
  refine .ite (hset.trans (State.evPulse_regs _ _ _)) (.ite ((hset.trans (State.evPulse_regs _ _ _)).trans
    (State.pulse_keeps _ _ _)) (.ite (hset.trans (State.tagResult_regs _ _ _ _)) (.ite ?_ hset)))
  split
  · exact hset.trans (State.tagResult_regs _ _ _ _)
  · exact hset

theorem State.endRun_regs : s.endRun.regs = s.regs := by
  unfold State.endRun
  split <;> rfl

theorem State.breakRun_regs (c : Code) : RegsBut l s (s.breakRun c) := by
  unfold State.breakRun
  split
  · exact .refl s
  · exact (s.breakSlot_regs _ c).trans (.of_regs (State.endRun_regs _))

theorem State.failPorts_regs (p : Nat → Bool) : RegsBut l s (s.failPorts p) := by
  have h1 : RegsBut l s (match s.fld.paused with
      | some r =>
        if (portsOf r.ants.toNat).any p then
          (s.breakSlot r.tag.toNat .medium).updFld (fun f => { f with paused := none })
        else s
      | none => s) := by
    split
    · exact .ite ((s.breakSlot_regs _ _).trans (State.updFld_regs _ _)) (.refl s)
    · exact .refl s
  unfold State.failPorts
  dsimp only
  split
  · exact .ite (h1.trans (State.breakRun_regs _ _)) h1
  · exact h1

theorem State.loseSession_regs (h : Nat) (hl : 0x22 ∈ l := by decide) : RegsBut l s (s.loseSession h) := by
  unfold State.loseSession
  split
  · exact .refl s
  · rename_i x _
    have h2 := (((RegsBut.of_regs (l := l) (s := s) (t := (s.ctxFree x.ctx).putSession h none) rfl).trans
      (State.updRg_regs _ 0x22 0x04C (fun w => satField w 31 24 1) hl)).trans (State.evPulse_regs _ 0x22 1)).trans
      (State.pulse_keeps _ 0xAC none)
    dsimp only
    split
    · exact .iteThen h2 (State.breakRun_regs _ _)
    · exact h2

theorem State.loseStopped_regs (hl : 0x22 ∈ l := by decide) : RegsBut l s s.loseStopped := by
  refine .foldl (fun t h => ?_) _ s
  split
  · exact .ite (t.loseSession_regs h hl) (.refl t)
  · exact .refl t

/-! ### What follows the supplies -/

theorem State.fieldLevels_regs : RegsBut l s s.fieldLevels := by
  unfold State.fieldLevels
  dsimp only
  refine RegsBut.trans ?_ (State.setDegraded_regs _ _ _)
  refine RegsBut.trans ?_ (.foldl (fun t n => (t.evLevel_regs _ _ _).trans (State.evLevel_regs _ _ _ _)) _ _)
  exact (((s.levelSource_regs _ _ _ _).trans (State.levelSource_regs _ _ _ _ _)).trans (State.evLevel_regs _ _ _ _)).trans
    (State.evLevel_regs _ _ _ _)

theorem State.updStat_regs (n : Nat) (f : Word → Word) (hn : n < 8) (hl : 0x21 ∈ l := by decide) :
    RegsBut l s (s.updStat n f) := s.updRg_regs _ _ _ hl (by omega)

theorem State.refreshField_regs : RegsBut [0x20, 0x21, 0x22] s s.refreshField := by
  unfold State.refreshField
  dsimp only
  refine RegsBut.trans ?_ (State.fieldLevels_regs _)
  refine RegsBut.trans ?_ (State.updRg_regs _ _ _ _)
  refine RegsBut.iteThen ?_ (State.updFld_regs _ _)
  exact (s.loseStopped_regs).trans (.foldl_mem (fun n hn t => t.updStat_regs n _ (List.mem_range.1 hn)) _)

theorem State.refreshRadio_regs : RegsBut [0x28] s s.refreshRadio := by
  unfold State.refreshRadio
  dsimp only
  refine RegsBut.trans ?_ (State.setDegraded_regs _ _ _)
  refine RegsBut.trans (t := State.evLevel _ 0x28 3 _) ?_ (.ite (State.updPhy_regs _ _) (.refl _))
  exact ((((s.updRg_regs _ _ _).trans (State.evLevel_regs _ _ _ _)).trans (State.evLevel_regs _ _ _ _)).trans
    (State.evLevel_regs _ _ _ _)).trans (State.evLevel_regs _ _ _ _)

theorem State.refreshPower_regs : RegsBut [0x20, 0x21, 0x22, 0x28] s s.refreshPower :=
  (s.refreshField_regs.mono.trans (State.refreshRadio_regs _).mono).trans (State.syncWdt_regs _)

theorem State.keepInForce_regs : s.keepInForce.regs = s.regs := by
  unfold State.keepInForce
  split <;> rfl

theorem State.setChannel_regs (f w : Nat) : RegsBut [0x28] s (s.setChannel f w) := by
  have h1 := ((RegsBut.of_regs (l := [0x28]) s.keepInForce_regs).trans
    (State.setRg_regs _ 0x28 0x040 (BitVec.ofNat 32 f))).trans (State.updRg_regs _ 0x28 0x044 (fun x => setField x 2 0 w))
  exact .ite h1 (h1.trans (State.updRg_regs _ _ _ _))

theorem State.setRadio_regs (f : Nat) (w : Option Nat) (nb : Bool) (k : Nat) :
    RegsBut [0x28, 0x29] s (s.setRadio f w nb k) :=
  ((s.setChannel_regs _ _).mono.trans (State.updRg_regs _ _ _ _)).trans (State.refreshRadio_regs _).mono

theorem State.cutTx_regs : RegsBut [0x28, 0x29] s s.cutTx :=
  (s.updPhy_regs _).trans
    (.ite (State.setRadio_regs _ _ _ _ _) (State.refreshRadio_regs _).mono)

theorem State.abandonRx_regs : RegsBut [0x29] s s.abandonRx := by
  unfold State.abandonRx
  split
  · exact .refl s
  · exact (s.updPhy_regs _).trans (State.updRg_regs _ _ _ _)

end

end Sys2Proof.Machine
end

section
/-!
PROOFS. Watchdogs and heartbeats, supplies and clocks.
-/
namespace Sys2Proof.Machine

section
variable {s : State} {m : Master} {v : Word}

/-! ### Watchdogs -/

theorem wdtKickEffect_core (hkey : field v 15 0 = 0xC35A)
    (hleft : s.svc.normal.running = true → s.svc.normal.remaining s.now ≠ 0) :
    wdtKickEffect .core v s = (s.restartWdt, .done) := by
  unfold wdtKickEffect
  rw [if_neg (by decide), if_neg (by simp [hkey]), if_neg (by simpa using hleft)]

theorem wdtCfgEffect_unlocked (hlock : flag (s.rg 0x3C 0x044) 31 = false) :
    wdtCfgEffect v s = ((if field (s.rg 0x3C 0x044) 15 0 = field v 15 0 then s.setRg 0x3C 0x044 (v &&& 0x81FFFFFF)
      else (s.setRg 0x3C 0x044 (v &&& 0x81FFFFFF)).restartWdt).syncWdt, .done) := by
  unfold wdtCfgEffect
  dsimp only
  rw [if_neg (by simp [hlock])]

/-- s once the watchdog's warning is raised at t. -/
def State.warnAt (s : State) (t : Stamp) : State :=
  ((s.reach t).updSvc (fun x => { x with normal := { x.normal with warned := true } })).evPulse 0x3C 1

theorem State.warnAt_shows (s : State) (t : Stamp) :
    SameBut [.time, .svc] s (s.warnAt t) ∧ (s.warnAt t).svc.normal = { s.svc.normal with warned := true } := by
  unfold State.warnAt
  refine ⟨((s.reach_same t).mono.trans (State.updSvc_same _ _).mono).trans (State.evPulse_same _ _ _), ?_⟩
  rw [(State.evPulse_same (l := []) _ _ _).svc]
  rfl

theorem State.wdtWarn_due (hdead : s.dead = false) (hwarn : field (s.rg 0x3C 0x044) 23 16 ≠ 0)
    (hrun : s.svc.normal.running = true) (hcount : s.svc.normal.counting = true) (hwarned : s.svc.normal.warned = false)
    (hleft : s.wdtFull * field (s.rg 0x3C 0x044) 23 16 / 256 ≤ s.svc.normal.left) :
    s.wdtWarn = s.warnAt (s.svc.normal.reaches (s.wdtFull * field (s.rg 0x3C 0x044) 23 16 / 256)) := by
  unfold State.wdtWarn
  dsimp only
  rw [if_neg (by simp [hdead, hwarn, hrun, hcount, hwarned]; omega)]
  rfl

theorem State.applyReset_core (k r : Nat) (mask : BitVec 9) (wait : Nat) :
    (s.applyReset k r mask wait).core = ((s.recordReset k r mask).resetIslands mask (k == 2)).core := by
  unfold State.applyReset
  dsimp only
  rw [(State.refreshPower_same _).core]
  split
  · exact (State.setReadyBits_same (l := []) _ _ _).core
  · rfl

/-- A reset of CORE alone. -/
theorem State.resetIslands_core (brown : Bool) : ∃ t, s.resetIslands 0x010 brown =
    (State.resetCore t).resetRegs (pagesOf 0x010) brown := by
  refine ⟨islands.foldl (fun acc i => if named 0x010 i then acc.loseTasks i else acc) (s.abortSlots (pagesOf 0x010)), ?_⟩
  unfold State.resetIslands
  dsimp only
  rw [if_neg (show ¬ named 0x010 .sense = true by decide), if_neg (show ¬ named 0x010 .granary = true by decide),
    if_neg (show ¬ named 0x010 .flash = true by decide), if_neg (show ¬ named 0x010 .crib = true by decide),
    if_pos (show named 0x010 .core = true by decide), if_neg (show ¬ named 0x010 .field = true by decide),
    if_neg (show ¬ named 0x010 .radio = true by decide), if_neg (show ¬ named 0x010 .host = true by decide)]

theorem State.resetCore_stops (s : State) : s.resetCore.core.released = false ∧ s.resetCore.core.pc = 0 := by
  rw [State.resetCore, (State.rewindOf_same _ _).core]
  exact ⟨rfl, rfl⟩

/-- A reset of CORE stops it at pc 0. -/
theorem State.islandReset_core (k r : Nat) :
    (s.islandReset k r 0x010).core.released = false ∧ (s.islandReset k r 0x010).core.pc = 0 := by
  obtain ⟨t, heq⟩ := (s.recordReset k r 0x010).resetIslands_core (k == 2)
  rw [State.islandReset, State.applyReset_core, heq, (State.resetRegs_same (l := []) _ _ _).core]
  exact t.resetCore_stops

theorem State.wdtExpire_core {unconf : Bool} (hdead : s.dead = false)
    (hrun : (if unconf then s.svc.unconf else s.svc.normal).running = true)
    (hcount : (if unconf then s.svc.unconf else s.svc.normal).counting = true) :
    (s.wdtExpire unconf).core.released = false ∧ (s.wdtExpire unconf).core.pc = 0 := by
  unfold State.wdtExpire
  dsimp only
  rw [if_neg (by simp [hdead, hrun, hcount]), State.restartWdt, (State.updSvc_same _ _).core]
  exact State.islandReset_core _ _

/-! ### Heartbeats -/

theorem State.faultRec_beats (s : State) (f p d : Nat) : (s.faultRec f p d).svc.beats = s.svc.beats := by
  unfold State.faultRec
  dsimp only
  rw [(State.evPulse_same (l := []) _ _ _).svc]
  split
  · rfl
  · split <;> rfl

theorem State.heartbeat_given (hdead : s.dead = false) :
    s.heartbeat = { s with svc := { s.svc with
      beats := s.svc.beats.filter (fun b => ((islands.filter s.beats).map Island.bit).contains b.1 &&
          decide (s.now ≤ b.2 + BitVec.ofNat 64 (msTime (field (s.rg 0x3C 0x054) 7 0)))) ++
        (islands.filter s.beats).map (fun k => (Island.bit k, s.now)) } } := if_neg (by simp [hdead])

theorem State.heartbeatMiss_recorded {i : Nat} {x : Nat × Stamp} (hi : i < 32)
    (hfind : s.svc.beats.find? (fun b => b.1 == i) = some x) (hen : flag (s.rg 0x3C 0x054) (16 + i) = false) :
    SameBut [.time, .svc] s (s.heartbeatMiss i) ∧ flag ((s.heartbeatMiss i).rg 0x3C 0x058) i = true ∧
      (s.heartbeatMiss i).svc.beats = s.svc.beats.filter (fun b => b.1 != i) := by
  have hquiet : Quiet 0x058 := by unfold Quiet; omega
  unfold State.heartbeatMiss
  rw [hfind]
  dsimp only
  rw [if_neg (by simp [hen])]
  generalize hu : (s.reach (x.2 + BitVec.ofNat 64 (msTime (field (s.rg 0x3C 0x054) 7 0)))).updSvc
    (fun y => { y with beats := y.beats.filter (fun b => b.1 != i) }) = u
  have hsame : SameBut [.time, .svc] s u := hu ▸ (s.reach_same _).mono.trans (State.updSvc_same _ _).mono
  refine ⟨?_, ?_, ?_⟩
  · exact (((hsame.trans (State.updRg_same _ _ _ _)).trans (State.faultRec_same _ _ _ _)).trans
      (State.evPulse_same _ _ _)).trans (State.refreshService_same _)
  · rw [State.refreshService, State.setDegraded, State.rg_setReadyBits hquiet, State.rg_evLevel hquiet, State.rg_evPulse hquiet,
      State.rg_faultRec_of_ne hquiet (by decide), State.updRg, State.rg_setRg_self, flag_setFlag hi, if_pos rfl]
  · rw [(State.refreshService_same (l := []) _).svc, (State.evPulse_same (l := []) _ _ _).svc, State.faultRec_beats, ← hu]
    exact congrArg (fun y : Service => y.beats.filter (fun b => b.1 != i)) (s.reach_same _).svc

/-- Settles O21, count by count; an expiry of a watchdog resets CORE. -/
theorem watchdogsAndHeartbeats : Obligations.WatchdogsAndHeartbeats := by
  unfold Obligations.WatchdogsAndHeartbeats
  intro s m v i
  refine ⟨fun hg hkey hleft => congrArg Host.Outcome.next ?_, fun hg hlock hsame => congrArg Host.Outcome.next ?_,
    fun hg hlock hother => congrArg Host.Outcome.next ?_, fun hdead hwarn hrun hcount hwarned hleft => ?_,
    fun unconf hdead hrun hcount => ⟨_, rfl, State.wdtExpire_core hdead hrun hcount⟩,
    fun hdead => congrArg Host.Outcome.next (State.heartbeat_given hdead), fun x hfind hen => ?_⟩
  · rw [State.write_pass hg, wdtKickEffect_core hkey hleft]
    exact State.complete_done _ _ _ _ _
  · rw [State.write_pass hg, wdtCfgEffect_unlocked hlock, if_pos hsame]
    exact State.complete_done _ _ _ _ _
  · rw [State.write_pass hg, wdtCfgEffect_unlocked hlock, if_neg hother]
    exact State.complete_done _ _ _ _ _
  · obtain ⟨hsame, hnormal⟩ := s.warnAt_shows (s.svc.normal.reaches (s.wdtFull * field (s.rg 0x3C 0x044) 23 16 / 256))
    refine ⟨_, congrArg Host.Outcome.next (State.wdtWarn_due hdead hwarn hrun hcount hwarned hleft), ?_, ?_, hsame.core,
      hsame.gran⟩
    · rw [hnormal]
    · rw [hnormal]
  · obtain ⟨hsame, hflag, hbeats⟩ := State.heartbeatMiss_recorded (by have := i.isLt; omega) hfind hen
    exact ⟨_, rfl, hflag, hbeats, hsame.core, hsame.gran⟩

end

end Sys2Proof.Machine
end

section
/-!
PROOFS. Supplies and clocks.
-/
namespace Sys2Proof.Machine

section
variable (s : State)

/-! ### The radio as supplies change -/

theorem State.refreshRadio_tx : s.refreshRadio.phy.tx = s.phy.tx := by
  have hopen : ∀ u : State, u.phy = s.phy →
      (if u.receiving then u.updPhy (fun p => { p with rssiOpen := true }) else u).phy.tx = s.phy.tx := fun u hu => by
    rw [← hu]
    split <;> rfl
  unfold State.refreshRadio
  dsimp only
  rw [(State.setDegraded_same (l := []) _ _ _).phy]
  refine hopen _ (SameBut.phy (l := []) ?_)
  exact ((((s.updRg_same _ _ _).trans (State.evLevel_same _ _ _ _)).trans (State.evLevel_same _ _ _ _)).trans
    (State.evLevel_same _ _ _ _)).trans (State.evLevel_same _ _ _ _)

theorem State.setRadio_tx (f : Nat) (w : Option Nat) (nb : Bool) (k : Nat) :
    (s.setRadio f w nb k).phy.tx = s.phy.tx := by
  have hkeep : s.keepInForce.phy.tx = s.phy.tx := by
    unfold State.keepInForce
    split <;> rfl
  have hchannel : ∀ f w, (s.setChannel f w).phy.tx = s.phy.tx := fun f w => by
    unfold State.setChannel
    dsimp only
    split <;> exact hkeep
  exact (State.refreshRadio_tx _).trans (hchannel _ _)

theorem State.cutTx_tx : s.cutTx.phy.tx = none := by
  unfold State.cutTx
  dsimp only
  rw [apply_ite (fun t : State => t.phy.tx), State.dataRadio, State.setRadio_tx, State.refreshRadio_tx]
  exact ite_self _

theorem State.refreshPower_tx : s.refreshPower.phy.tx = s.phy.tx :=
  (State.refreshRadio_tx _).trans (congrArg Phy.tx s.refreshField_same.phy)

/-! ### VIN -/

theorem State.rg_setRide (b : Bool) : (s.setRide b).rg 0x05 0x120 = setFlag (s.rg 0x05 0x120) 0 b := by
  rw [State.setRide, State.rg_evLevel (by unfold Quiet; omega), State.updRg, State.rg_setRg_self]

theorem State.setRide_same {l : List Part} (b : Bool) : SameBut l s (s.setRide b) :=
  (s.updRg_same _ _ _).trans (State.evLevel_same _ _ _ _)

theorem State.updLog_same (f : LogWriter → LogWriter) : SameBut [.flash] s (s.updLog f) := SameBut.set_flash s

/-- What VIN below VIN_LOW leaves. -/
theorem State.vinLow_shows (hdead : s.dead = false) (hvin : s.pwr.vin = true) (hcut : s.pwr.cut = false) :
    s.vinLow.pwr.vin = false ∧ flag (s.vinLow.rg 0x05 0x120) 0 = true ∧ s.vinLow.phy.tx = none ∧
      s.vinLow.rg 0x06 0x040 = 0 := by
  unfold State.vinLow
  rw [if_neg (by simp [hdead]), if_neg (by simp [hvin, hcut])]
  dsimp only
  generalize hu : ({ s with pwr := { s.pwr with vin := false } } : State) = u
  have hsame : SameBut [.ops, .gran, .fld, .phy, .svc] u
      (((u.setRide true).faultRec 0x18 0x05 0).failPorts (fun _ => true)).abandonRx.cutTx :=
    (((((u.setRide_same true).trans (State.faultRec_same _ _ _ _)).trans (State.failPorts_same _ _).mono).trans
      (State.abandonRx_same _).mono).trans (State.cutTx_same _).mono)
  have hregs : RegsBut [0x3C, 0x28, 0x29] (u.setRide true)
      (((u.setRide true).faultRec 0x18 0x05 0).failPorts (fun _ => true)).abandonRx.cutTx :=
    ((((State.faultRec_regs _ _ _ _).trans (State.failPorts_regs _ _)).trans (State.abandonRx_regs _).mono).trans
      (State.cutTx_regs _).mono)
  have htx := State.cutTx_tx (((u.setRide true).faultRec 0x18 0x05 0).failPorts (fun _ => true)).abandonRx
  generalize (((u.setRide true).faultRec 0x18 0x05 0).failPorts (fun _ => true)).abandonRx.cutTx = v at hsame hregs htx
  have hpower := State.refreshPower_same ((v.setRg 0x06 0x040 0).updLog (fun l => { l with due := true }))
  have hpregs := State.refreshPower_regs ((v.setRg 0x06 0x040 0).updLog (fun l => { l with due := true }))
  refine ⟨?_, ?_, ?_, ?_⟩
  · rw [hpower.pwr]
    exact (congrArg Power.vin hsame.pwr).trans (by rw [← hu])
  · rw [hpregs _ _ (by decide) (by unfold Quiet; omega)]
    have hother : (v.setRg 0x06 0x040 0).rg 0x05 0x120 = v.rg 0x05 0x120 := State.rg_setRg_other (by decide)
    refine (congrArg (flag · 0) (hother.trans (hregs _ _ (by decide) (by unfold Quiet; omega)))).trans ?_
    rw [State.rg_setRide, flag_setFlag (by decide), if_pos rfl]
  · exact (State.refreshPower_tx _).trans htx
  · rw [hpregs _ _ (by decide) (by unfold Quiet; omega)]
    exact State.rg_setRg_self v 0x06 0x040 0

theorem State.applyReset_pwr (k r : Nat) (mask : BitVec 9) (wait : Nat) :
    ∃ run, (s.applyReset k r mask wait).pwr =
      { s.pwr with resets := s.pwr.resets ++ [run], inReset := s.pwr.inReset ||| mask } := by
  have hpwr : ((s.recordReset k r mask).resetIslands mask (k == 2)).pwr = s.pwr :=
    (State.resetIslands_same _ _ _).pwr
  refine ⟨{ islands := mask, due := s.after wait, kind := k, origin := s.pstate.num }, ?_⟩
  unfold State.applyReset
  dsimp only
  rw [(State.refreshPower_same _).pwr]
  split
  · exact (State.setReadyBits_same (l := []) _ _ _).pwr.trans (by rw [hpwr])
  · rw [hpwr]

theorem State.vinCut_shows (hdead : s.dead = false) (hride : flag (s.rg 0x05 0x120) 0 = true) :
    s.vinCut.pwr.cut = true ∧ s.vinCut.pwr.inReset = s.pwr.inReset ||| 0x1FE := by
  have hlost : s.recordsLost.1.pwr = s.pwr := by
    unfold State.recordsLost
    dsimp only
    split <;> rfl
  unfold State.vinCut
  rw [if_neg (by simp [hdead, hride])]
  dsimp only
  generalize hu : (((s.recordsLost.1.setRide false).updRg 0x05 0x120
    (fun w => satField (setFlag w 1 true) 31 16 s.recordsLost.2)).faultRec 0x19 0x05 0) = u
  have hpwr : u.pwr = s.pwr := by
    rw [← hu, (State.faultRec_same (l := [.svc]) _ _ _ _).pwr]
    exact (State.setRide_same (l := []) _ _).pwr.trans hlost
  obtain ⟨run, hreset⟩ := u.applyReset_pwr 2 0xF allButAon 0
  rw [(State.syncWdt_same (l := [.svc]) _).pwr, (State.holdLease_same _).pwr, hreset, hpwr]
  exact ⟨rfl, rfl⟩

/-- t has VIN and the cut as s. -/
def Fed (s t : State) : Prop := t.pwr.vin = s.pwr.vin ∧ t.pwr.cut = s.pwr.cut

theorem SameBut.fed {l : List Part} {s t : State} (h : SameBut l s t) (hl : .pwr ∉ l := by decide) : Fed s t := by
  unfold Fed
  rw [h.pwr hl]
  exact ⟨rfl, rfl⟩

theorem Fed.trans {s t u : State} (h : Fed s t) (g : Fed t u) : Fed s u := ⟨g.1.trans h.1, g.2.trans h.2⟩

theorem State.release_fed (r : ResetRun) : Fed s (s.release r) := by
  unfold State.release
  dsimp only
  split <;> exact ⟨rfl, rfl⟩

theorem State.closeUtil_same (u : Util) (b : Bool) (t : Stamp) : SameBut [.gle] s (s.closeUtil u b t) := by
  unfold State.closeUtil
  exact (s.setRg_same _ _ _).trans (SameBut.set_gle _)

theorem State.splitUtil_same : SameBut [.gle] s s.splitUtil := by
  have hroll : SameBut [.gle] s s.rollUtil := by
    unfold State.rollUtil
    exact .ite (.refl s) (s.closeUtil_same _ _ _)
  refine hroll.trans ?_
  unfold State.splitUtil
  generalize s.rollUtil = u
  exact SameBut.set_gle u

theorem State.takeAllPending_same : SameBut [.gle, .ops] s s.takeAllPending :=
  .foldl (fun t n => State.takePending_same t (hgle := by decide) (hops := by decide) n) _ s

theorem State.startPower_fed : Fed s s.startPower := by
  have hleave : ∀ u : State, SameBut [.gle, .ops] u (if s.pwr.depth == .guard then u.takeAllPending else u) := fun u =>
    .ite u.takeAllPending_same (.refl u)
  have hsplit : Fed s (if s.pwr.depth == .guard then s.splitUtil else s) :=
    (SameBut.ite s.splitUtil_same (.refl s)).fed
  refine hsplit.trans ?_
  unfold State.startPower
  dsimp only
  generalize (if s.pwr.depth == .guard then s.splitUtil else s) = u
  refine Fed.trans ?_ (State.resumeLease_same _).fed
  refine Fed.trans ?_ (hleave _).fed
  exact ⟨rfl, rfl⟩

theorem State.beginStarts_fed (pages : List Nat) (b : Bool) : Fed s (s.beginStarts pages b) := ⟨rfl, rfl⟩

theorem State.vinOk_shows (hdead : s.dead = false) (hvin : s.pwr.vin = false) (hcut : s.pwr.cut = true) :
    s.vinOk.pwr.vin = true ∧ s.vinOk.pwr.cut = false := by
  unfold State.vinOk
  rw [if_neg (by simp [hvin])]
  dsimp only
  rw [if_neg (by simp [hdead]), if_pos hcut]
  generalize hu : ({ s with pwr := { s.pwr with vin := true, cut := false } } : State) = u
  have hfed : u.pwr.vin = true ∧ u.pwr.cut = false := hu ▸ ⟨rfl, rfl⟩
  split
  · exact hfed
  · rename_i r _
    have hstart : Fed u (((u.release r).beginStarts [0x03] true).startPower.recordWake 0x01 r.origin false true).refreshPower :=
      (((((u.release_fed r).trans (State.beginStarts_fed _ _ _)).trans (State.startPower_fed _)).trans
        (State.recordWake_same (l := []) _ _ _ _ _).fed).trans (State.refreshPower_same _).fed)
    exact ⟨hstart.1.trans hfed.1, hstart.2.trans hfed.2⟩

/-! ### Clock sources -/

theorem State.measureXtal_same : SameBut [] s s.measureXtal := by
  unfold State.measureXtal
  split
  · exact s.draw_same.trans (State.setRg_same _ _ _ _)
  · exact .refl s

theorem State.syncEst_pwr : s.syncEst.pwr = s.pwr := rfl

theorem State.tcxoStable_shows (hdead : s.dead = false) (htcxo : s.pwr.tcxo = false) (hlost : s.pwr.lost = false)
    (hguard : s.pwr.depth ≠ .guard) : s.tcxoStable.pwr.tcxo = true ∧ s.tcxoStable.time.src = .tcxo := by
  unfold State.tcxoStable
  rw [if_neg (by simp [hdead, htcxo, hlost])]
  dsimp only
  rw [if_neg (by simpa using hguard)]
  exact ⟨rfl, rfl⟩

theorem State.tcxoLoss_shows (hdead : s.dead = false) (htcxo : s.pwr.tcxo = true) :
    s.tcxoLoss.pwr.tcxo = false ∧ s.tcxoLoss.pwr.lost = true ∧
      s.tcxoLoss.time.src = (if s.pwr.xtal then .crystal else .rc) := by
  have hpwr : s.measureXtal.syncEst.pwr = s.pwr := s.measureXtal_same.pwr
  unfold State.tcxoLoss
  rw [if_neg (by simp [hdead, htcxo])]
  dsimp only
  generalize s.measureXtal.syncEst = u at hpwr
  have hlater : ∀ v : State, SameBut [.ops, .gran, .fld, .phy, .svc] v
      (((((v.updRg 0x06 0x04C (fun w => satField w 15 8 1)).evLevel 0x06 0 true).faultRec 0x17 0x06 0).failPorts
        (fun _ => true)).cutTx.refreshPower) := fun v =>
    (((((v.updRg_same _ _ _).trans (State.evLevel_same _ _ _ _)).trans (State.faultRec_same _ _ _ _)).trans
      (State.failPorts_same _ _).mono).trans (State.cutTx_same _).mono).trans (State.refreshPower_same _)
  rw [(hlater _).pwr, (hlater _).time, hpwr]
  exact ⟨rfl, rfl, rfl⟩

theorem State.tcxoReturn_shows (hdead : s.dead = false) (hlost : s.pwr.lost = true) :
    s.tcxoReturn.pwr.tcxo = true ∧ s.tcxoReturn.pwr.lost = false ∧ s.tcxoReturn.time.src = .tcxo := by
  unfold State.tcxoReturn
  rw [if_neg (by simp [hdead, hlost])]
  dsimp only
  generalize s.syncEst = u
  have hlater : ∀ v : State, SameBut [.ops, .gran, .fld, .phy, .svc] v (v.evLevel 0x06 0 false).refreshPower := fun v =>
    (v.evLevel_same _ _ _).trans (State.refreshPower_same _)
  rw [(hlater _).pwr, (hlater _).time]
  exact ⟨rfl, rfl, rfl⟩

/-! ### Banks and the test port -/

theorem State.vioChange_shows (b up : Bool) :
    (if b then (s.vioChange b up).pwr.vioB else (s.vioChange b up).pwr.vioA) = up ∧ (s.vioChange b up).core = s.core ∧
      (s.vioChange b up).gran = s.gran := by
  have hports : ∀ v : State, SameBut [.sense] v ((List.range 32).foldl
      (fun acc i =>
        let p := if b then 32 + i else i
        (if up then acc else acc.releaseHold p).drivePort p) v) := fun v =>
    .foldl (fun t i => (SameBut.ite (.refl t) (t.releaseHold_same _)).trans (State.drivePort_same _ _)) _ v
  have hballs : SameBut [.queues, .sense, .hspi, .htw] s (if b || up then s else s.hostBallsLost) :=
    .ite (.refl s) s.hostBallsLost_same
  unfold State.vioChange
  dsimp only
  rw [(hports _).pwr, (hports _).core, (hports _).gran]
  refine ⟨?_, hballs.core, hballs.gran⟩
  cases b <;> rfl

theorem tapCode_word (code : BitVec 5) : BitVec.ofNat 5 (s.tapCode code.toNat) =
    if code = 1 ∨ code = 2 then code
    else if code = 0 ∨ code = 3 then (if s.pwr.resetN then 0x1F else code)
    else if code = 0x10 ∨ code = 0x11 then (if s.fuse.debugClosed then 0x1F else code)
    else 0x1F := by
  unfold State.tapCode
  generalize s.pwr.resetN = rn
  generalize s.fuse.debugClosed = dc
  revert code rn dc
  decide

/-- Settles O20, supply by supply and source by source. -/
theorem suppliesAndClocks : Obligations.SuppliesAndClocks := by
  unfold Obligations.SuppliesAndClocks
  refine ⟨fun s hdead hvin hcut => ⟨_, rfl, s.vinLow_shows hdead hvin hcut⟩,
    fun s hdead hride => ⟨_, rfl, s.vinCut_shows hdead hride⟩, fun s hdead hvin hcut hride => congrArg Host.Outcome.next ?_,
    fun s hdead hvin hcut => ⟨_, rfl, s.vinOk_shows hdead hvin hcut⟩,
    fun s hdead => congrArg Host.Outcome.next (if_neg (by simp [hdead])),
    fun s hdead htcxo hlost hguard => ⟨_, rfl, s.tcxoStable_shows hdead htcxo hlost hguard⟩,
    fun s hdead htcxo => ⟨_, rfl, s.tcxoLoss_shows hdead htcxo⟩,
    fun s hdead hlost => ⟨_, rfl, s.tcxoReturn_shows hdead hlost⟩, fun s b => ⟨_, rfl, s.vioChange_shows b false⟩,
    fun s b => ⟨_, rfl, s.vioChange_shows b true⟩, fun s code => ?_⟩
  · unfold State.vinOk
    rw [if_neg (by simp [hvin])]
    dsimp only
    rw [if_neg (by simp [hdead]), if_neg (by simp [hcut]), if_pos hride]
  · exact congrArg (fun ir => Host.Outcome.next { s with tap := { ir := ir } }) (tapCode_word s code)

end

end Sys2Proof.Machine
end

section
/-!
PROOFS. Which parts of the state sampling, the lanes, the frames of the radio and the copies of the Loft touch.
-/
namespace Sys2Proof.Machine

/-- The parts that a sample on its way through ports, converters, lanes and rules may touch. -/
def sampleParts : List Part := [.sense, .thr, .win, .queues, .svc, .gle, .ops]

section
variable (s : State)

/-! ### Ports, lanes, rules and converters -/

theorem State.refreshPortg_same {l : List Part} (p : Nat) : SameBut l s (s.refreshPortg p) :=
  (s.refreshService_same).trans (State.setDegraded_same _ _ _)

theorem State.portLines_same {l : List Part} (p : Nat) : SameBut l s (s.portLines p) :=
  ((((s.evLevel_same _ _ _).trans (State.evLevel_same _ _ _ _)).trans (State.levelSource_same _ _ _ _ _)).trans
    (State.evLevel_same _ _ _ _)).trans (State.refreshPortg_same _ _)

theorem State.updPort_same (p : Nat) (f : Port → Port) : SameBut [.sense] s (s.updPort p f) := s.putPort_same p _

theorem State.putLane_same (n : Nat) (x : Lane) : SameBut [.thr] s (s.putLane n x) := SameBut.set_thr s

theorem State.updLane_same (n : Nat) (f : Lane → Lane) : SameBut [.thr] s (s.updLane n f) := s.putLane_same n _

theorem State.updConv_same (cv : Nat) (f : Conv → Conv) : SameBut [.sense] s (s.updConv cv f) := SameBut.set_sense s

theorem State.markConv_same (cv : Nat) : SameBut [.sense] s (s.markConv cv) := s.updConv_same cv _

theorem State.putRule_same (r : Nat) (x : Rule) : SameBut [.win] s (s.putRule r x) := SameBut.set_win s

theorem State.winEnter_same (hits : CondCfg → Bool) (i : WinIn) : SameBut [.win] s (s.winEnter hits i) := by
  unfold State.winEnter
  exact .ite (.ite ((s.updRg_same _ _ _).trans (State.evPulse_same _ _ _)) (SameBut.set_win s)) (.refl s)

theorem State.winInput_same (src : Nat) (v : Int) (t : Stamp) (b : Bool) : SameBut [.win] s (s.winInput src v t b) :=
  s.winEnter_same _ _

theorem State.deliverPort_same (p cv : Nat) (v : BitVec 24) (t : Stamp) (ovr : Bool) :
    SameBut [.sense, .win] s (s.deliverPort p cv v t ovr) := by
  unfold State.deliverPort
  exact .ite (((s.updPort_same p _).mono.trans (State.portLines_same _ _)).trans (State.winInput_same _ _ _ _ _).mono)
    (.refl s)

theorem State.laneQueue_same (n : Nat) (c : LaneCfg) (o : LaneOut) :
    SameBut [.thr, .queues, .svc] s (s.laneQueue n c o) := by
  have hpush := s.blockPush_same (l := [.thr, .queues, .svc])
  unfold State.laneQueue
  dsimp only
  exact .ite (.ite (hpush _ _) ((hpush _ _).trans ((State.updLane_same _ _ _).mono.trans (State.evPulse_same _ _ _))))
    (.refl s)

theorem State.convAnswer_same (b : ConvBy) (p : Nat) (c : Code) (v : BitVec 24) (t : Stamp) :
    SameBut [.gle, .ops] s (s.convAnswer b p c v t) := by
  unfold State.convAnswer
  split
  · exact State.giveRes_same s (hgle := by decide) (hops := by decide) _ _
  · exact .refl s

theorem State.restartSource_same (hit : CondCfg → Bool) : SameBut [.win] s (s.restartSource hit) :=
  .foldl (fun t r => .ite (.refl t) (t.putRule_same r _)) _ s

theorem State.convOver_same (cv : Nat) (b : Bool) : SameBut [.sense] s (s.convOver cv b) :=
  (s.updConv_same cv _).trans (State.evLevel_same _ _ _ _)

theorem State.dropOver_same : SameBut [.sense] s s.dropOver :=
  .foldl (fun t cv => .ite (t.convOver_same cv false) (.refl t)) _ s

theorem State.applyPort_same (p : Nat) : SameBut [.sense, .win] s (s.applyPort p) := by
  unfold State.applyPort
  dsimp only
  refine .ite (((s.putPort_same _ _).mono.trans (State.drivePort_same _ _).mono).trans (State.portLines_same _ _)) ?_
  refine SameBut.trans ?_ (State.dropOver_same _).mono
  refine SameBut.trans ?_ (State.portLines_same _ _)
  refine SameBut.trans ?_ (State.drivePort_same _ _).mono
  refine SameBut.trans ?_ (State.refreshWinnow_same _)
  refine SameBut.trans ?_ (State.restartSource_same _ _).mono
  refine SameBut.trans ?_ (.foldl (fun t cv => .ite (t.markConv_same cv).mono (.refl t)) _ _)
  refine SameBut.iteThen (s.putPort_same p _).mono (.foldl (fun t cv => .ite (t.updRg_same _ _ _) (.refl t)) _ _)

theorem State.syncWritten_same (p : Nat) : SameBut [.sense, .win] s (s.syncWritten p) := .ite (s.applyPort_same p) (.refl s)

theorem State.syncPair_same (p : Nat) : SameBut [.sense, .win] s (s.syncPair p) :=
  (s.syncWritten_same p).trans (State.syncWritten_same _ _)

theorem State.switchTo_same (cv p : Nat) : SameBut [.sense] s (s.switchTo cv p) := by
  unfold State.switchTo
  exact .ite (.refl s) (((s.setRg_same _ _ _).trans (State.markConv_same _ _)).trans (State.refreshWinnow_same _))

theorem State.restartLane_same (n : Nat) : SameBut [.win] s (s.restartLane n) := s.restartSource_same _

theorem State.convBegin_same (cv : Nat) (b : ConvBy) (p : Nat) : SameBut [.sense, .thr] s (s.convBegin cv b p) := by
  unfold State.convBegin
  dsimp only
  refine .ite ?_ (s.updConv_same cv _).mono
  split
  · exact (s.updConv_same cv _).mono.trans (.ite (State.updLane_same _ _ _).mono (State.markConv_same _ _).mono)
  · exact (s.updConv_same cv _).mono

theorem State.convStart_same (cv : Nat) (w : ConvWait) : SameBut [.sense, .thr, .gle, .ops] s (s.convStart cv w) := by
  unfold State.convStart
  dsimp only
  split
  · exact (s.convAnswer_same _ _ _ _ _).mono
  · exact (SameBut.ite (s.switchTo_same _ _).mono (.refl s)).trans (State.convBegin_same _ _ _ _).mono

theorem State.convNext_same (cv n : Nat) : SameBut [.sense, .thr, .gle, .ops] s (s.convNext cv n) := by
  induction n generalizing s with
  | zero => exact .refl s
  | succ n ih =>
    unfold State.convNext
    split
    · exact ((s.updConv_same cv _).mono.trans (State.convStart_same _ _ _)).trans (ih _)
    · exact .refl s

theorem State.convOverNow_same (cv : Nat) : SameBut [.sense, .thr, .win, .gle, .ops] s (s.convOverNow cv) := by
  unfold State.convOverNow
  split
  · exact .refl s
  · dsimp only
    refine SameBut.trans ?_ (State.dropOver_same _).mono
    refine SameBut.trans ?_ (State.convNext_same _ _ _).mono
    refine SameBut.trans ?_ (State.syncPair_same _ _).mono
    refine SameBut.iteThen ?_ (State.markConv_same _ _).mono
    exact SameBut.iteThen (s.updConv_same cv _).mono (State.updLane_same _ _ _).mono

theorem State.laneDeliver_same (n : Nat) (c : LaneCfg) (o : LaneOut) : SameBut sampleParts s (s.laneDeliver n c o) := by
  have hport : ∀ (t : State) (v : BitVec 24), SameBut sampleParts t
      (match o.port with
        | some p => if n < 20 then t.deliverPort p n v o.stamp o.ovr else t
        | none => t) := fun t v => by
    split
    · exact .ite (t.deliverPort_same _ _ _ _ _).mono (.refl t)
    · exact .refl t
  have hconv : ∀ (t : State) (v : BitVec 24), SameBut sampleParts t
      (if n < 16 then
        match (t.conv n).run, o.by_ with
        | some (by_, p), .thread _ => (t.convAnswer by_ p .done v o.stamp).convOverNow n
        | some _, .task => t.convOverNow n
        | _, _ => t
      else t) := fun t v => by
    refine .ite ?_ (.refl t)
    split
    · exact (t.convAnswer_same _ _ _ _ _).mono.trans (State.convOverNow_same _ _).mono
    · exact (t.convOverNow_same n).mono
    · exact .refl t
  refine SameBut.trans ?_ (hconv _ _)
  refine SameBut.trans ?_ (State.laneQueue_same _ _ _ _).mono
  refine SameBut.trans ?_ (State.winInput_same _ _ _ _ _).mono
  refine SameBut.trans ?_ (hport _ _)
  exact (s.updLane_same n _).mono.trans (State.pulse_same _ _ _)

theorem State.laneTake_same (n : Nat) (c : LaneCfg) (x : LaneIn) : SameBut [.thr, .win] s (s.laneTake n c x).1 := by
  have h0 : SameBut [.thr, .win] s (if x.mark then s.restartLane n else s) := .ite (s.restartLane_same n).mono (.refl s)
  unfold State.laneTake
  dsimp only
  split
  · exact h0.trans (State.putLane_same _ _ _).mono
  · split
    · exact h0.trans (State.putLane_same _ _ _).mono
    · exact (h0.trans (State.draw_same _)).trans (State.putLane_same _ _ _).mono

theorem State.laneRun_same (n : Nat) (c : LaneCfg) (k : Nat) : SameBut [.thr, .win] s (s.laneRun n c k).1 := by
  induction k generalizing s with
  | zero => exact .refl s
  | succ k ih =>
    unfold State.laneRun
    split
    · exact .refl s
    · rename_i x rest _
      have h1 : SameBut [.thr, .win] s ((s.updLane n (fun l => { l with inputs := rest })).laneTake n c x).1 :=
        (s.updLane_same n _).mono.trans (State.laneTake_same _ _ _ _)
      dsimp only
      split
      · exact h1.trans (ih _)
      · split
        · exact (h1.trans (State.putLane_same _ _ _).mono).trans (ih _)
        · exact h1.trans (State.putLane_same _ _ _).mono

theorem State.laneLevels_same {l : List Part} (n : Nat) : SameBut l s (s.laneLevels n) :=
  (s.evLevel_same _ _ _).trans (State.evLevel_same _ _ _ _)

theorem State.laneOutput_same (n : Nat) : SameBut sampleParts s (s.laneOutput n) := by
  unfold State.laneOutput
  split
  · refine .ite ?_ (.refl s)
    dsimp only
    have h : ∀ c k, SameBut sampleParts s ((s.laneRun n c k).1.laneLevels n) := fun c k =>
      (s.laneRun_same n c k).mono.trans (State.laneLevels_same _ n)
    split
    · exact h _ _
    · exact (h _ _).trans (State.laneDeliver_same _ _ _ _)
  · exact .refl s

theorem State.drainLanes_same : SameBut sampleParts s s.drainLanes :=
  .foldl (fun t n => .foldl (fun u _ => u.laneOutput_same n) _ t) _ s

theorem State.convAbandon_same (cv : Nat) (c : Code) : SameBut [.sense, .thr, .win, .gle, .ops] s (s.convAbandon cv c) := by
  unfold State.convAbandon
  split
  · exact .refl s
  · exact (s.convAnswer_same _ _ _ _ _).mono.trans (State.convOverNow_same _ _)

theorem State.restartConv_same (cv : Nat) : SameBut [.sense, .thr] s (s.restartConv cv) := by
  unfold State.restartConv
  split
  · exact .refl s
  · exact (s.updLane_same _ _).mono.trans (State.markConv_same _ _).mono

theorem State.syncAll_same : SameBut [.sense, .win] s s.syncAll :=
  (SameBut.foldl (fun t p => t.syncWritten_same p) _ s).trans (State.dropOver_same _).mono

theorem State.dropCaptures_same : SameBut [.sense] s s.dropCaptures :=
  .foldl (fun t p => .ite (t.putPort_same p _) (.refl t)) _ s

theorem State.senseClockChanged_same (b : Bool) : SameBut [.sense, .thr, .win, .gle, .ops] s (s.senseClockChanged b) := by
  have hguard : ∀ t : State, SameBut [.sense, .thr, .win, .gle, .ops] t
      ((List.range 20).foldl (fun acc cv => acc.updConv cv (fun c => { c with late := none }))
        (t.markLanes (fun n c => n ≥ 20 && !c.guard))).syncAll := fun t =>
    ((SameBut.foldl (fun u n => (u.updLane_same n _).mono) _ t).trans
      (.foldl (fun u cv => (u.updConv_same cv _).mono) _ _)).trans (State.syncAll_same _).mono
  unfold State.senseClockChanged
  dsimp only
  refine SameBut.trans ?_ (State.refreshWinnow_same _)
  refine SameBut.trans ?_ (State.dropCaptures_same _).mono
  refine SameBut.iteThen ?_ (hguard _)
  refine .foldl (fun t cv => ?_) _ s
  exact (t.markConv_same cv).mono.trans (.ite (State.convAbandon_same _ _ _) (State.restartConv_same _ _).mono)

theorem State.restartHeld_same : SameBut [.win] s s.restartHeld :=
  .foldl (fun t r => .ite (.refl t) (t.putRule_same r _)) _ s

/-! ### The end of a frame -/

theorem State.putPeer_same (n : Nat) (p : Option Peer) : SameBut [.link] s (s.putPeer n p) := s.updLink_same _

theorem State.updPeer_same (n : Nat) (f : Peer → Peer) : SameBut [.link] s (s.updPeer n f) := by
  unfold State.updPeer
  split
  · exact .refl s
  · exact s.putPeer_same _ _

theorem State.sendFail_same {l : List Part} (c : Code) : SameBut l s (s.sendFail c) :=
  .ite (.refl s) ((s.evPulse_same _ _).trans (State.pulse_same _ _ _))

theorem State.finishMsg_same (m : Msg) (c : Code) : SameBut [.link, .ops] s (s.finishMsg m c) := by
  unfold State.finishMsg
  dsimp only
  split
  · exact (((s.updLink_same _).mono.trans (State.setResult_same _ _ _)).trans (State.sendFail_same _ _)).trans
      (State.refreshLink_same _)
  · exact (((s.updLink_same _).mono.trans (State.setResult_same _ _ _)).trans (State.updPeer_same _ _ _).mono).trans
      (State.refreshLink_same _)
  · refine SameBut.trans (SameBut.ite (s.updLink_same _).mono ?_) (State.refreshLink_same _)
    exact ((s.updLink_same _).mono.trans (State.updRg_same _ _ _ _)).trans (State.evPulse_same _ _ _)

theorem State.dataRadio_same : SameBut [.phy] s s.dataRadio := s.setRadio_same _ _ _ _

theorem State.stopTx_same (f : TxFrame) : SameBut [.phy, .time] s (s.stopTx f) :=
  ((s.reach_same _).mono.trans (State.updPhy_same _ _).mono).trans (State.refreshRadio_same _).mono

theorem State.afterTx_same (f : TxFrame) : SameBut [.phy, .link, .ops] s (s.afterTx f) := by
  have h1 : SameBut [.phy, .link, .ops] s (s.updRg 0x2A 0x080 (fun w => satField w 15 0 1)) := s.updRg_same _ _ _
  unfold State.afterTx
  dsimp only
  split
  · split
    · exact h1
    · exact .ite ((h1.trans (State.dataRadio_same _).mono).trans (State.finishMsg_same _ _ _).mono)
        (h1.trans (State.updLink_same _ _).mono)
  · exact h1

theorem State.quietRadio_same : SameBut [.phy, .link, .ops, .time] s s.quietRadio := by
  have htx : SameBut [.phy, .link, .ops, .time] s (match s.phy.tx with
      | some f => (s.stopTx f).afterTx f
      | none => s) := by
    split
    · exact (s.stopTx_same _).mono.trans (State.afterTx_same _ _).mono
    · exact .refl s
  exact htx.trans (State.abandonRx_same _).mono

/-! ### The copies of the Loft -/

theorem State.pinBlock_same (f : Nat) : SameBut [.gran] s (s.pinBlock f) :=
  (s.place_same _ _ _ _ _ _).trans (State.evPulse_same _ _ _)

theorem State.setRegion_same (h : Nat) (r : Option Region) : SameBut [.gran] s (s.setRegion h r) := SameBut.set_gran s

theorem State.setPin_same (h w b : Nat) : SameBut [.gran] s (s.setPin h w b) := by
  unfold State.setPin
  split
  · exact .refl s
  · dsimp only
    split
    · refine .ite ?_ (s.setRegion_same _ _)
      exact SameBut.iteThen ((s.setRegion_same _ _).trans (SameBut.set_gran _)) (State.pinBlock_same _ _)
    · exact s.setRegion_same _ _

theorem State.finishJob_same (j : MoveJob) : SameBut [.gran, .ops] s (s.finishJob j) := by
  have hpin : SameBut [.gran, .ops] s (match j.pin with
      | none => s
      | some (h, w, b) => s.setPin h w b) := by
    split
    · exact .refl s
    · exact (s.setPin_same _ _ _).mono
  unfold State.finishJob
  dsimp only
  split
  · exact hpin.trans (State.setResult_same _ _ _)
  · exact hpin

theorem State.frameRetire_same (f c : Nat) : SameBut [.gran] s (s.frameRetire f c) := s.place_same _ _ _ _ _ _

theorem State.frameStays_same (f r : Nat) : SameBut [.gran] s (s.frameStays f r) :=
  .ite (s.pinBlock_same f) (.ite (s.frameRetire_same f _) (.refl s))

theorem State.pickFrom_same {l : List Part} (bs : List Nat) : SameBut l s (s.pickFrom bs).1 := by
  unfold State.pickFrom
  dsimp only
  split
  · exact .refl s
  · exact s.draw_same

theorem State.beginCopy_same (src dst r : Nat) : SameBut [.gran] s (s.beginCopy src dst r) := by
  unfold State.beginCopy
  dsimp only
  exact (SameBut.iteThen (s.place_same _ _ _ _ _ _) (State.frameRetire_same _ _ _)).trans (SameBut.set_gran _)

theorem State.nextCopy_same (n : Nat) : SameBut [.gran, .ops] s (s.nextCopy n) := by
  induction n generalizing s with
  | zero => exact .refl s
  | succ n ih =>
    unfold State.nextCopy
    split
    · exact .refl s
    · split
      · exact .refl s
      · dsimp only
        split
        · exact ((SameBut.set_gran s).trans (State.finishJob_same _ _)).trans (ih _)
        · rename_i j rest _ _ f _
          generalize hu : ({ s with gran := { s.gran with
            jobs := { j with frames := j.frames.drop 1 } :: rest } } : State) = u
          have hgran : SameBut [.gran, .ops] s u := hu ▸ SameBut.set_gran s
          refine .ite (.refl s) (.ite (hgran.trans (ih _)) (.ite ?_ ?_))
          · exact (hgran.trans (State.frameStays_same _ _ _).mono).trans (ih _)
          · have hpick := u.pickFrom_same (l := [.gran, .ops]) (u.moveTargets j.banks)
            split
            · rename_i heq
              rw [heq] at hpick
              exact (hgran.trans hpick).trans (State.beginCopy_same _ _ _ _).mono
            · exact ((SameBut.set_gran s).trans (State.setResult_same _ _ _)).trans (ih _)
            · rename_i heq _
              rw [heq] at hpick
              exact ((hgran.trans hpick).trans (State.frameStays_same _ _ _).mono).trans (ih _)

end

end Sys2Proof.Machine
end

section
/-!
PROOFS. Sleep requests and waking.
-/
namespace Sys2Proof.Machine

section
variable {s : State}

/-! ### Going to sleep -/

theorem sleepEffect_given {v : Word} (hkey : field v 31 24 = 0x6D) (htarget : field v 1 0 ≠ 3) (hnone : s.pwr.sleep = none)
    (hxtal : field v 1 0 = 1 → s.pwr.xtal = true) (hwake : field v 1 0 ≤ 1 → s.canWake (field v 1 0 == 1) = true) :
    sleepEffect v s = (({ s with pwr := { s.pwr with
      sleep := some (SleepReq.mk (field v 1 0) (s.after (msTime (field (s.rg 0x05 0x04C) 15 0))) s.pstate.num)
      } } : State).setRg 0x05 0x048 (setFlag (setField (s.rg 0x05 0x048) 1 0 (field v 1 0)) 2 true), .done) := by
  unfold sleepEffect
  dsimp only
  rw [if_neg (by simp [hkey, htarget]), if_neg (by simp [hnone]), if_neg (by simpa using hxtal),
    if_neg (by simpa using hwake)]
  rfl

/-- Clocks slowed for GUARD. -/
theorem State.slowClocks_depth : s.slowClocks.pwr.depth = .guard :=
  congrArg Power.depth (State.senseClockChanged_same _ true).pwr

theorem State.sleepEntry_shows {r : SleepReq} (hsleep : s.pwr.sleep = some r) (hready : s.sleepReady r.target = true)
    (hwake : (s.wakeEnabled 0x10 && s.wakeCond) = false) (hexit : s.pwr.exit = none) (hdead : s.dead = false)
    (hawake : s.pwr.depth = .awake) (htarget : r.target < 3) :
    s.sleepEntry.pwr.sleep = none ∧
      s.sleepEntry.pwr.depth = (if r.target = 0 then .standby else if r.target = 1 then .guard else .off) := by
  have hquiet : s.quietRadio.pwr.depth = .awake := by rw [s.quietRadio_same.pwr, hawake]
  have hdepth : (if r.target == 0 then
        ({ s.quietRadio with pwr := { s.quietRadio.pwr with depth := .standby } } : State)
      else if s.quietRadio.pwr.depth == .guard then s.quietRadio else s.quietRadio.slowClocks).pwr.depth =
      if r.target = 0 then .standby else .guard := by
    by_cases h0 : r.target = 0
    · rw [if_pos (by simp [h0]), if_pos h0]
    · rw [if_neg (by simp [h0]), if_neg h0, if_neg (by simp [hquiet])]
      exact State.slowClocks_depth
  unfold State.sleepEntry
  rw [hsleep]
  dsimp only
  rw [if_neg (by simp [hready, hwake, hexit, hdead])]
  generalize (if r.target == 0 then
        ({ s.quietRadio with pwr := { s.quietRadio.pwr with depth := .standby } } : State)
      else if s.quietRadio.pwr.depth == .guard then s.quietRadio else s.quietRadio.slowClocks) = u at hdepth
  have hlater : ∀ v : State, v.holdLease.refreshPower.pwr = v.pwr := fun v =>
    (State.refreshPower_same _).pwr.trans v.holdLease_same.pwr
  by_cases h2 : r.target = 2
  · rw [if_pos (by simp [h2]), hlater]
    exact ⟨rfl, by simp [h2]⟩
  · rw [if_neg (by simp [h2]), hlater]
    refine ⟨rfl, hdepth.trans ?_⟩
    have h1 : r.target = 0 ∨ r.target = 1 := by omega
    rcases h1 with h | h <;> simp [h]

theorem State.sleepTimeout_pending {r : SleepReq} (hsleep : s.pwr.sleep = some r)
    (hready : s.sleepReady r.target = false) :
    s.sleepTimeout = ((((s.reach r.due).dropSleep).updRg 0x05 0x048 (fun w => setFlag w 3 true)).evPulse 0x05 3) := by
  unfold State.sleepTimeout
  rw [hsleep]
  dsimp only
  rw [if_neg (by simp [hready])]

/-! ### Waking -/

section
variable {n : Nat} (hdead : s.dead = false) (hen : s.wakeEnabled n = true)
include hdead hen

theorem State.fireWake_aborts {r : SleepReq} (hsleep : s.pwr.sleep = some r) :
    s.fireWake n = (((s.pendWake n).dropSleep).recordWake n r.origin true false).evPulse 0x05 2 := by
  have hpend : (s.pendWake n).pwr = s.pwr := (s.pendWake_same (l := []) n).pwr
  unfold State.fireWake
  rw [if_neg (by simp [hdead, hen])]
  dsimp only
  rw [hpend, hsleep]

theorem State.fireWake_exits (hsleep : s.pwr.sleep = none) (hexit : s.pwr.exit = none)
    (hmay : (s.pwr.depth = .standby ∧ (wakesFrom n).1 = true) ∨ (s.pwr.depth = .guard ∧ (wakesFrom n).2 = true)) :
    s.fireWake n = (({ (s.pendWake n) with pwr := { s.pwr with exit := some (s.pwr.depth, s.now) } } : State).recordWake n
      s.pstate.num false false).evPulse 0x05 1 := by
  have hpend : (s.pendWake n).pwr = s.pwr := (s.pendWake_same (l := []) n).pwr
  have hnow : (s.pendWake n).now = s.now := congrArg TimeState.now (s.pendWake_same (l := []) n).time
  have hstate : (s.pendWake n).pstate = s.pstate := by
    unfold State.pstate
    rw [hpend]
    rcases hmay with ⟨hdepth, -⟩ | ⟨hdepth, -⟩ <;> rw [hdepth]
  unfold State.fireWake
  rw [if_neg (by simp [hdead, hen])]
  dsimp only
  rw [hpend, hsleep, hnow, hstate]
  dsimp only
  rcases hmay with ⟨hdepth, hfrom⟩ | ⟨hdepth, hfrom⟩
  · rw [hdepth, hexit, if_pos (by simp [hfrom])]
  · rw [hdepth, hexit, if_pos (by simp [hfrom])]

theorem State.fireWake_awake (hsleep : s.pwr.sleep = none) (hawake : s.pwr.depth = .awake) :
    s.fireWake n = s.pendWake n := by
  have hpend : (s.pendWake n).pwr = s.pwr := (s.pendWake_same (l := []) n).pwr
  unfold State.fireWake
  rw [if_neg (by simp [hdead, hen])]
  dsimp only
  rw [hpend, hsleep]
  dsimp only
  rw [hawake]
  rfl

end

theorem State.wakeFires_other {source : BitVec 8} (h : source ≠ 0x10) :
    s.wakeFires source.toNat = s.fireWake source.toNat := by
  have hne : (source.toNat == 0x10) = false := beq_false_of_ne (fun e => h (BitVec.eq_of_toNat_eq e))
  unfold State.wakeFires
  rw [if_neg (by simp [hne])]

/-- Clocks restored as GUARD is left. -/
theorem State.fastClocks_depth : s.fastClocks.pwr.depth = .awake :=
  (congrArg Power.depth ((State.restartHeld_same _).pwr.trans (State.takeAllPending_same _).pwr)).trans
    (congrArg Power.depth (State.senseClockChanged_same _ false).pwr)

theorem State.dueAtReturn_same (s : State) : SameBut [.stack] s s.dueAtReturn := SameBut.set_intc s

theorem State.exitComplete_shows {d : Depth} {t : Stamp} (hexit : s.pwr.exit = some (d, t)) (hdead : s.dead = false) :
    s.exitComplete.pwr.depth = .awake ∧ s.exitComplete.pwr.exit = none := by
  have hdepth : (if d == .guard then s.fastClocks else ({ s with pwr := { s.pwr with depth := .awake } } : State)).pwr.depth =
      .awake := by
    split
    · exact State.fastClocks_depth
    · rfl
  have hlater : ∀ (v : State) (f : Word → Word),
      ((((v.updRg 0x05 0x070 f).endWfi.resumeLease).dueAtReturn.refreshPower).nextCopy 2048).pwr = v.pwr := fun v f => by
    rw [(State.nextCopy_same _ _).pwr, (State.refreshPower_same _).pwr, (State.dueAtReturn_same _).pwr,
      (State.resumeLease_same _).pwr, (State.endWfi_same (l := [.core, .svc]) _).pwr]
    rfl
  unfold State.exitComplete
  rw [hexit]
  dsimp only
  rw [if_neg (by simp [hdead]), hlater]
  exact ⟨hdepth, rfl⟩

theorem State.wakeBall_off (hpor : s.pwr.por = false) (hoff : s.pwr.depth = .off) : s.wakeBall = s.por := by
  unfold State.wakeBall
  rw [if_neg (by simp [hpor]), if_pos (by simp [hoff])]

/-- Settles O18, request by request and wake by wake. -/
theorem sleepAndWaking : Obligations.SleepAndWaking := by
  unfold Obligations.SleepAndWaking
  refine ⟨fun s m v source => ⟨fun hg hkey htarget hnone hxtal hwake => ?_,
    fun r hsleep hready hwake hexit hdead hawake htarget => ?_, fun r hsleep hready => ?_,
    fun r hsleep hdead hen hne => ?_⟩,
    fun s source => ⟨fun hdead hen hne hsleep hexit hmay => ?_, fun hdead hen hne hsleep hawake => ?_,
    fun d t hexit hdead _ => ⟨_, rfl, State.exitComplete_shows hexit hdead⟩, fun t hexit => ?_, fun hpor hoff => ?_⟩⟩
  · refine congrArg Host.Outcome.next ?_
    rw [State.write_pass hg, sleepEffect_given hkey htarget hnone hxtal hwake]
    exact State.complete_done _ _ _ _ _
  · exact ⟨_, rfl, State.sleepEntry_shows hsleep hready hwake hexit hdead hawake htarget⟩
  · exact congrArg Host.Outcome.next (State.sleepTimeout_pending hsleep hready)
  · exact congrArg Host.Outcome.next ((if_pos (by simp [hsleep])).trans
      ((State.wakeFires_other hne).trans (State.fireWake_aborts hdead hen hsleep)))
  · exact congrArg Host.Outcome.next
      ((State.wakeFires_other hne).trans (State.fireWake_exits hdead hen hsleep hexit hmay))
  · exact congrArg Host.Outcome.next
      ((State.wakeFires_other hne).trans (State.fireWake_awake hdead hen hsleep hawake))
  · refine congrArg Host.Outcome.next ?_
    rw [hexit]
  · obtain ⟨-, hfuse, hflash, -, -⟩ := s.groupCut_frame
    have hcells : s.groupCut.flash.cells = s.flash.cells := by rw [hflash]
    exact ⟨_, congrArg Host.Outcome.next (State.wakeBall_off hpor hoff), rfl, rfl, rfl, rfl, hfuse, hcells⟩

end

end Sys2Proof.Machine
end

section
/-!
PROOFS. Digital ports, port protection and the operations of CONV.
-/
namespace Sys2Proof.Machine

section
variable (s : State)

/-! ### Ports -/

theorem State.port_putPort (p q : Nat) (x : Port) : (s.putPort p x).port q = if q = p then x else s.port q := Tab.get_set

@[simp] theorem State.port_putPort_self (p : Nat) (x : Port) : (s.putPort p x).port p = x := Tab.get_set_self

theorem SameBut.port {l : List Part} {s t : State} (h : SameBut l s t) (hl : .sense ∉ l := by decide) (p : Nat) :
    t.port p = s.port p := by
  rw [State.port, h.sense hl]
  rfl

@[simp] theorem State.port_portLines (p q : Nat) : (s.portLines p).port q = s.port q :=
  (s.portLines_same (l := []) p).port (p := q)

end

section
variable {s : State} {p : Nat} {x : Port} (hx : x = s.port p)
include hx

/-! ### PULSE and DIN -/

theorem State.pulseEdge_shows {rising start active : Bool} (hq : x.quarantined = false) (hmode : x.mode = 4)
    (hstart : start = decide (rising = decide (field x.aux 1 0 ≠ 1)))
    (hactive : active = (decide (field x.aux 1 0 = 2) || start)) :
    ∃ y, s.pulseEdge p rising = s.putPort p y ∧ y.level = rising ∧ y.pcfg = x.pcfg ∧
      y.aux = x.aux ∧ y.val = (if active = true then x.val + 1 else x.val) ∧
      y.stamp = (if active = true then s.now - BitVec.ofNat 64 (s.senseTime (field x.aux 11 8)) else x.stamp) ∧
      (flag x.aux 2 = false → y.period = x.period ∧ y.width = x.width) ∧
      (∀ t, flag x.aux 2 = true → start = true → x.periodFrom = some t →
        y.period = captureOf (s.captureTicks x.aux (s.now - t).toNat) ∧ y.widthFrom = some s.now) ∧
      (∀ t, flag x.aux 2 = true → start = false → x.widthFrom = some t →
        y.width = captureOf (s.captureTicks x.aux (s.now - t).toNat) ∧ y.widthFrom = none) := by
  have hstart' : (rising == (field x.aux 1 0 != 1)) = start := by
    rw [hstart]
    cases rising <;> by_cases h : field x.aux 1 0 = 1 <;> simp [h]
  have hactive' : (field x.aux 1 0 == 2 || start) = active := by rw [hactive, beq_eq_decide]
  unfold State.pulseEdge
  dsimp only
  rw [← hx, if_pos (by simp [hmode, hq]), hstart', hactive']
  refine ⟨_, rfl, ?_⟩
  cases active <;> cases start <;> cases hcap : flag x.aux 2 <;> simp +contextual

theorem State.dinChange_follows {level : Bool} (hq : x.quarantined = false) (hne : level ≠ x.level) (hmode : x.mode = 5)
    (hdeb : field x.aux 3 0 = 0) :
    s.dinChange p level = (s.putPort p { x with
      level := level, val := BitVec.ofNat 24 (bit level), stamp := s.now, edge := s.now, since := s.now
      settling := false }).portLines p := by
  unfold State.dinChange
  dsimp only
  rw [← hx, if_neg hne, if_pos (by simp [hmode, hq]), if_pos hdeb]

theorem State.dinChange_waits {level : Bool} (hq : x.quarantined = false) (hne : level ≠ x.level) (hmode : x.mode = 5)
    (hdeb : field x.aux 3 0 ≠ 0) :
    s.dinChange p level = (s.putPort p { x with
      level := level, edge := s.now, since := s.now, settling := true }).portLines p := by
  unfold State.dinChange
  dsimp only
  rw [← hx, if_neg hne, if_pos (by simp [hmode, hq]), if_neg hdeb]

theorem State.debounced_takes (hq : x.quarantined = false) (hmode : x.mode = 5) (hsettling : x.settling = true) :
    s.debounced p = ((s.reach (x.since + BitVec.ofNat 64 (debounceTime (field x.aux 3 0)))).putPort p { x with
      settling := false, val := BitVec.ofNat 24 (bit x.level)
      stamp := if BitVec.ofNat 24 (bit x.level) = x.val then x.stamp else x.edge }).portLines p := by
  unfold State.debounced
  dsimp only
  rw [← hx, if_pos (by simp [hmode, hq, hsettling])]

/-! ### Port protection -/

/-- A clamp current over the threshold takes the port into QUARANTINE. -/
theorem State.clampTrip_quarantines {hi : Bool} {ua : Nat} {s1 : State} (hstage : x.stage = .service)
    (hprot : flag x.pcfg 9 = true) (hover : (if hi then s.tripHi else s.tripLo) < ua)
    (hs1 : s1 = (s.putPort p { x with clamp := ua }).portLines p) :
    s.clampTrip p hi ua = s1.quarantine p (if hi then 1 else 2) ua (.settling (s1.after s1.settleTime)) := by
  have hport : s1.port p = { x with clamp := ua } := by rw [hs1, State.port_portLines, State.port_putPort_self]
  have hover' : (if hi then decide (ua > s.tripHi) else decide (ua > s.tripLo)) = true := by
    cases hi <;> simpa using hover
  have hfirst : (s.updPort p (fun y => { y with clamp := ua })).portLines p = s1 := by rw [hs1, State.updPort, ← hx]
  unfold State.clampTrip
  dsimp only
  rw [hfirst, hport, hover', if_neg (by decide), hstage]
  dsimp only
  rw [if_pos hprot]

/-- A port whose clamp current has stayed below the threshold is tested. -/
theorem State.settleExpiry_tests {due : Stamp} (hstage : x.stage = .settling due) (hclamp : x.clamp ≤ s.tripLo)
    {t : Fin 64} (hp : p = t.val) :
    exec (.settleExpiry t) s = .next (((s.reach due).putPort p { x with
      clamp := x.clamp, stage := .testing ((s.reach due).after (msTime 2)) }).portLines p) := by
  subst hp
  have hport : (s.reach due).port t.val = x := hx.symm
  have htrip : (s.reach due).tripLo = s.tripLo := rfl
  have hbound : s.tripLo < 2 ^ 32 := by
    have : field (s.rg 0x18 0x194) 15 8 < 2 ^ (15 + 1 - 8) := field_lt
    unfold State.tripLo
    omega
  refine congrArg Host.Outcome.next ?_
  rw [← hx, hstage]
  dsimp only
  rw [hport, htrip, if_neg (by omega)]
  dsimp only
  rw [State.updPort, hport, BitVec.toNat_ofNat, Nat.mod_eq_of_lt (by omega : x.clamp < 2 ^ 32),
    Nat.mod_eq_of_lt (by omega : x.clamp < s.tripLo + 1)]

theorem State.failTest_shows (r : BitVec 4) :
    SameBut [.sense, .svc] s (s.failTest p r) ∧ (s.failTest p r).port p = { x with
      reason := r
      stage := if x.tries ≤ field (s.rg 0x18 0x198) 3 0
        then .waiting (s.after (secTime (field (s.rg 0x18 0x198) 15 8))) else .stuck } := by
  unfold State.failTest
  dsimp only
  refine ⟨((s.updPort_same _ _).mono.trans (State.faultRec_same _ _ _ _)).trans (State.portLines_same _ _), ?_⟩
  rw [State.port_portLines, (State.faultRec_same (l := [.svc]) _ _ _ _).port, State.updPort, State.port_putPort_self, hx]

end

/-! ### Self-tests -/

section
variable {s : State} {p : Fin 64} {x : Port} (hx : x = s.port p.val)
include hx

theorem exec_selfTestEnd_pass {due : Stamp} (hstage : x.stage = .testing due) :
    exec (.selfTestEnd p 0) s = .next (((s.reach due).putPort p.val { x with tries := x.tries + 1 }).returnPort p.val) := by
  have hport : (s.reach due).port p.val = x := hx.symm
  change execSelfTestEnd p 0 s = _
  unfold execSelfTestEnd
  rw [if_neg (by decide), ← hx, hstage]
  dsimp only
  rw [if_pos rfl, State.updPort, hport, hstage]

theorem exec_selfTestEnd_fail {due : Stamp} {r : BitVec 4} (hr : r ∈ [3, 4, 5, 6, 8]) (hstage : x.stage = .testing due) :
    exec (.selfTestEnd p r) s =
      .next (((s.reach due).putPort p.val { x with tries := x.tries + 1 }).failTest p.val r) := by
  have hport : (s.reach due).port p.val = x := hx.symm
  have hr' : testReason r = true ∧ r ≠ 0 := by
    revert hr
    revert r
    decide
  refine (if_neg (by simp [hr'.1])).trans (congrArg Host.Outcome.next ?_)
  rw [← hx, hstage]
  dsimp only
  rw [if_neg hr'.2, State.updPort, hport, hstage]

end

/-- Settles O23, port by port. -/
theorem digitalPorts : Obligations.DigitalPorts := by
  unfold Obligations.DigitalPorts
  refine ⟨fun s p x hx hq => ⟨fun rising start active hup hmode hstart hactive => ?_, fun t hmode hcap hfrom => ?_,
    fun t hmode hcap hfrom => ?_, fun level hne hmode hdeb => ?_, fun level hne hmode hdeb => ?_,
    fun new hmode hsettling hnew => ?_⟩,
    fun s p x hx => ⟨fun hi ua s1 hup hstage hprot hover hs1 => ?_, fun due hstage hclamp => ?_,
      fun due hstage => exec_selfTestEnd_pass hx hstage, fun due r hr hstage => ?_, fun r hr => ?_, fun due hstage => ?_⟩⟩
  · obtain ⟨y, hy, hshow⟩ := State.pulseEdge_shows hx hq hmode hstart hactive
    exact ⟨y, congrArg Host.Outcome.next ((if_neg (by simp [hup])).trans hy), hshow⟩
  · refine congrArg Host.Outcome.next ?_
    dsimp only
    rw [← hx, if_pos (by simp [hmode, hq, hcap]), hfrom]
    rfl
  · refine congrArg Host.Outcome.next ?_
    dsimp only
    rw [← hx, if_pos (by simp [hmode, hq, hcap]), hfrom]
    rfl
  · exact congrArg Host.Outcome.next (State.dinChange_follows hx hq hne hmode hdeb)
  · exact congrArg Host.Outcome.next (State.dinChange_waits hx hq hne hmode hdeb)
  · rw [hnew]
    exact congrArg Host.Outcome.next (State.debounced_takes hx hq hmode hsettling)
  · exact congrArg Host.Outcome.next
      ((if_neg (by simp [hup])).trans (State.clampTrip_quarantines hx hstage hprot hover hs1))
  · have hsame : SameBut [.time, .sense] s (((s.reach due).putPort p.val { x with
        clamp := x.clamp, stage := .testing ((s.reach due).after (msTime 2)) }).portLines p.val) :=
      ((s.reach_same _).mono.trans (State.putPort_same _ _ _).mono).trans (State.portLines_same _ _)
    refine ⟨_, State.settleExpiry_tests hx hstage hclamp rfl, ?_, hsame.gran, hsame.own, fun q hq => ?_⟩
    · rw [State.port_portLines, State.port_putPort_self]
    · rw [State.port_portLines, State.port_putPort, if_neg hq]
      rfl
  · obtain ⟨hsame, hport⟩ := State.failTest_shows (s := (s.reach due).putPort p.val { x with tries := x.tries + 1 })
      (p := p.val) (State.port_putPort_self _ _ _).symm r
    have hall := ((s.reach_same due).mono.trans (State.putPort_same _ _ _).mono).trans
      (hsame.mono (k := [.time, .sense, .svc]))
    exact ⟨_, exec_selfTestEnd_fail hx hr hstage, hport, hall.gran, hall.own⟩
  · refine if_pos ?_
    revert hr
    revert r
    decide
  · have hport : (s.reach due).port p.val = x := hx.symm
    refine congrArg Host.Outcome.next ?_
    rw [← hx, hstage]
    dsimp only
    rw [State.updPort, hport]

/-! ### CONV -/

section
variable {s : State} {tag : Nat}

theorem calEffect_free {k : Slot} (hfree : ∀ cv, cv < 20 → flag (k.arg 0) cv = true → s.xbarEn cv = false) :
    ∃ t, calEffect k s = (t, some .done) ∧ SameBut [.sense] s t := by
  unfold calEffect
  dsimp only
  have hnone : ((List.range 20).filter (fun cv => flag (k.arg 0) cv)).any s.xbarEn = false := by
    rw [List.any_eq_false]
    intro cv hcv
    rw [List.mem_filter, List.mem_range] at hcv
    simp [hfree cv hcv.1 hcv.2]
  rw [if_neg (by simp [hnone])]
  refine ⟨_, rfl, .foldl (fun t cv => ?_) _ s⟩
  exact ((t.draw_same.trans (State.draw_same _)).trans (State.updConv_same _ _ _)).trans (State.markConv_same _ _)

theorem calEffect_connected {k : Slot} {cv : Nat} (hcv : cv < 20) (hflag : flag (k.arg 0) cv = true)
    (hen : s.xbarEn cv = true) : calEffect k s = (s, some .state) := by
  unfold calEffect
  dsimp only
  rw [if_pos]
  rw [List.any_eq_true]
  exact ⟨cv, List.mem_filter.2 ⟨List.mem_range.2 hcv, hflag⟩, hen⟩

theorem State.runOp_ends {t : State} {p op : Nat} {argsOk : Slot → Bool} {eff : Slot → State → State × Option Code} {c : Code}
    (hrun : s.running tag p op = true) (hargs : argsOk (s.slot tag) = true) (hready : s.ready p = true)
    (heff : eff (s.slot tag) s = (t, some c)) : s.runOp tag p op argsOk eff = t.setResult tag c := by
  unfold State.runOp
  rw [if_pos hrun, if_neg (by simp [hargs]), if_neg (by simp [hready]), heff]

theorem State.portTestEnd_pass {p : Nat} {q : Bool} (hp : p = field ((s.slot tag).arg 0) 5 0)
    (hstage : (s.port p).stage = .opTest q) :
    s.portTestEnd tag 0 = ((s.putPort p { s.port p with tries := (s.port p).tries + 1 }).returnPort p).setResult tag .done := by
  unfold State.portTestEnd
  dsimp only
  rw [← hp, hstage]
  dsimp only
  rw [if_pos rfl, State.updPort, hstage]

end

/-- Settles O24, operation by operation. -/
theorem convOperations : Obligations.ConvOperations := by
  unfold Obligations.ConvOperations
  intro s tag
  refine ⟨fun hrun hready hfree => ?_, fun cv hcv hrun hready hflag hen => ?_, fun p q hp hrun hstage => ?_,
    fun n ovr hready hon => ?_, fun n ovr hready hon => ?_⟩
  · obtain ⟨t, heff, hsame⟩ := calEffect_free hfree
    have hall : SameBut [.sense, .ops] s (t.setResult tag.val .done) := hsame.mono.trans (State.setResult_same _ _ _)
    exact ⟨_, congrArg Host.Outcome.next (State.runOp_ends hrun rfl hready heff), by rw [State.slot_setResult_self],
      hall.gran, hall.own, hall.flash⟩
  · exact congrArg Host.Outcome.next (State.runOp_ends hrun rfl hready (calEffect_connected hcv hflag hen))
  · change execPortTest tag 0 s = _
    unfold execPortTest
    rw [if_neg (by decide), if_pos hrun, State.portTestEnd_pass hp hstage]
  · refine congrArg Host.Outcome.next (if_pos ?_)
    cases ovr
    · simp [hready]
    · simpa [hready] using hon rfl
  · refine congrArg Host.Outcome.next (if_pos ?_)
    cases ovr
    · simp [hready]
    · simpa [hready] using hon rfl

end Sys2Proof.Machine
end

section
/-!
PROOFS. The Gleaner's data and device instructions, and its operations.
-/
namespace Sys2Proof.Machine

section
variable {l : List Part} {s u : State} {t k : Nat}

/-! ### Threads beside the one that is given a state -/

theorem SameBut.thread (h : SameBut l s u) (hl : .gle ∉ l := by decide) (t : Nat) : u.thread t = s.thread t := by
  rw [State.thread, h.gle hl]
  rfl

theorem State.thread_putThread_other {h : Thread} (hne : k ≠ t) (hst : (s.thread k).st ≠ .fault) :
    (s.putThread t h).thread k = s.thread k := by
  obtain ⟨b, heq⟩ := s.putThread_eq t h
  rw [heq]
  have hother : ({ s with gle := { s.gle with
      threads := Tab.set (fun _ => {}) s.gle.threads t h } } : State).thread k = s.thread k := Tab.get_set_other hne
  obtain ⟨hdeg, -, -⟩ := State.setDegraded_frame (if s.gle.stops.isEmpty then
    { s with gle := { s.gle with threads := Tab.set (fun _ => {}) s.gle.threads t h } }
    else ({ s with gle := { s.gle with threads := Tab.set (fun _ => {}) s.gle.threads t h } } : State).settleStops)
    0x0A b
  rw [hdeg]
  split
  · exact hother
  · obtain ⟨hsettle, -, -⟩ := State.settleStops_frame { s with gle := { s.gle with
      threads := Tab.set (fun _ => {}) s.gle.threads t h } }
    rw [hsettle k (by rwa [hother]), hother]

theorem State.pick_mem {l : List Nat} {n : Nat} (h : s.pick l = some n) : n ∈ l := by
  unfold State.pick at h
  extract_lets best same last at h
  have hsub : ∀ {m}, m ∈ same → m ∈ l := fun hm => (List.mem_filter.1 hm).1
  split at h
  · rename_i hfind
    cases h
    exact hsub (List.mem_of_find?_eq_some hfind)
  · exact hsub (List.mem_of_mem_head? h)

/-- The thread that issues is READY. -/
theorem State.chosen_ready (hc : s.chosen t = true) : (s.thread t).st = .ready := by
  unfold State.chosen at hc
  extract_lets ready at hc
  have hready : ∀ {m}, m ∈ ready → (s.thread m).st = .ready := fun hm => by simpa [ready] using (List.mem_filter.1 hm).2
  rw [Bool.and_eq_true, Bool.or_eq_true, beq_iff_eq, beq_iff_eq] at hc
  rcases hc.2 with h | h
  · exact hready (State.pick_mem h)
  · exact hready (List.mem_filter.1 (State.pick_mem h)).1

/-! ### The issue -/

theorem State.countIssue_same : SameBut [.gle, .ops] s s.countIssue := by
  unfold State.countIssue State.rollUtil
  dsimp only
  refine SameBut.trans (SameBut.trans (.ite (.refl s) ((s.setRg_same _ _ _).trans (SameBut.set_gle _)))
    (State.updRg_same _ _ _ _)) (SameBut.set_gle _)

theorem State.issued_same (s : State) (t : Nat) : SameBut [.gle, .ops] s (s.issued t) :=
  (State.countIssue_same.trans (State.updThread_same _ (by decide) (by decide) _ _)).trans (SameBut.set_gle _)

theorem State.issued_ready (hc : s.chosen t = true) : ((s.issued t).thread t).st = .ready := by
  have hst := State.chosen_ready hc
  have hcount : s.countIssue.thread t = s.thread t := by
    rw [State.thread, s.countIssue_threads.1]
    rfl
  obtain ⟨hthread, -, -⟩ := State.putThread_frame (s := s.countIssue) (t := t) (h := { s.countIssue.thread t with
    issued := (s.countIssue.thread t).issued + 1, pc := (s.countIssue.thread t).pc + 1 }) (by rw [hcount, hst]; decide)
  refine (congrArg Thread.st hthread).trans ?_
  rw [hcount]
  exact hst

/-! ### Threads that wait for a result -/

/-- A thread waits for the block b. -/
def State.BlockedOn (s : State) (t : Nat) (b : Block) : Prop := (s.thread t).st = .blocked ∧ (s.thread t).block = b

theorem State.thread_blockOn (b : Block) :
    (s.blockOn t b).thread t = { s.thread t with st := .blocked, block := b, res := none } :=
  (State.putThread_frame (by simp)).1

theorem State.blockedOn_blockOn (b : Block) : (s.blockOn t b).BlockedOn t b := by
  rw [State.BlockedOn, State.thread_blockOn]
  exact ⟨rfl, rfl⟩

theorem State.BlockedOn.of_same {b : Block} (h : s.BlockedOn t b) (hsame : SameBut l s u)
    (hl : .gle ∉ l := by decide) : u.BlockedOn t b := by
  rwa [State.BlockedOn, hsame.thread hl]

/-- A state given to a thread that keeps its own state and block changes no thread's block. -/
theorem State.BlockedOn.putThread {b : Block} {h : Thread} (hb : s.BlockedOn t b) (hst : h.st = (s.thread k).st)
    (hblock : h.block = (s.thread k).block) : (s.putThread k h).BlockedOn t b := by
  obtain ⟨hblocked, hon⟩ := hb
  by_cases hk : t = k
  · subst hk
    rw [State.BlockedOn, (State.putThread_frame (by rw [hst, hblocked]; decide)).1, hst, hblock]
    exact ⟨hblocked, hon⟩
  · rw [State.BlockedOn, State.thread_putThread_other hk (by rw [hblocked]; decide)]
    exact ⟨hblocked, hon⟩

theorem State.BlockedOn.giveRes {b : Block} (h : s.BlockedOn t b) (k : Nat) (r : BlockRes) :
    (s.giveRes k r).BlockedOn t b := by
  unfold State.giveRes
  dsimp only
  split
  · exact h.putThread rfl rfl
  · exact h.putThread rfl rfl
  · exact h.putThread rfl rfl
  · exact h

theorem State.BlockedOn.convNext {b : Block} (cv n : Nat) : ∀ {s : State}, s.BlockedOn t b →
    (s.convNext cv n).BlockedOn t b := by
  induction n with
  | zero => exact id
  | succ n ih =>
    intro s h
    unfold State.convNext
    split
    · rename_i w rest _ _
      have hwaits : (s.updConv cv (fun c => { c with waits := rest })).BlockedOn t b := h.of_same (s.updConv_same _ _)
      refine ih ?_
      unfold State.convStart State.convAnswer
      dsimp only
      split
      · split
        · exact hwaits.giveRes _ _
        · exact hwaits
      · refine State.BlockedOn.of_same ?_ (State.convBegin_same _ _ _ _)
        exact hwaits.of_same (.ite (State.switchTo_same _ _ _) (.refl _))
    · exact h

/-- A thread that waits for a result alone has it when it is given, whatever another part of the device does between. -/
theorem State.thread_giveRes_blockOn {rd : Option (BitVec 3)} {tol : Bool} {r : BlockRes}
    (hsame : SameBut [.sense] (s.blockOn t (.result rd tol)) u) :
    (u.giveRes t r).thread t = { s.thread t with st := .blocked, block := .result rd tol, res := some r } := by
  have hthread : u.thread t = { s.thread t with st := .blocked, block := .result rd tol, res := none } := by
    rw [hsame.thread, State.thread_blockOn]
  unfold State.giveRes
  rw [hthread]
  exact (State.putThread_frame (by simp)).1

/-! ### The device instructions -/

theorem State.blockOn_same (b : Block) : SameBut [.gle, .ops] s (s.blockOn t b) :=
  State.updThread_same s (by decide) (by decide) _ _

theorem State.doIn_shows (rd : BitVec 3) (tol : BitVec 1) (port : BitVec 6) :
    SameBut [.gle, .ops] s (s.doIn t rd tol port 0) ∧ ((s.doIn t rd tol port 0).thread t).st = .blocked ∧
      ((s.doIn t rd tol port 0).thread t).res = some
        { code := if s.portsUp port.toNat then .done else .notReady
          value := BitVec.ofNat 32 (unsignedOf 32 (s.portInt port.toNat))
          latch := some (port.toNat, (s.port port.toNat).stamp) } := by
  unfold State.doIn
  dsimp only
  refine ⟨(State.blockOn_same _).trans (State.giveRes_same _ (by decide) (by decide) _ _), ?_⟩
  rw [State.thread_giveRes_blockOn (SameBut.refl _)]
  exact ⟨rfl, rfl⟩

theorem State.outPort_shows (p : Nat) (level : Bool) :
    SameBut [.sense] s (s.outPort p level) ∧ flag ((s.outPort p level).port p).aux 0 = level := by
  unfold State.outPort
  dsimp only
  refine ⟨((State.updRg_same _ _ _ _).trans ((State.updPort_same _ _ _).trans (State.drivePort_same _ _))).trans
    (State.portLines_same _ _), ?_⟩
  rw [State.port_portLines, State.drivePort, State.port_putPort_self, State.updPort, State.port_putPort_self,
    flag_setFlag (by decide)]
  rfl

theorem State.doOut_sets {ra : BitVec 3} {tol : BitVec 1} {port : BitVec 6} (hup : s.portsUp port.toNat = true)
    (hmode : (s.port port.toNat).mode = 6) (hq : (s.port port.toNat).quarantined = false) :
    SameBut [.gle, .ops, .sense] s (s.doOut t ra tol port 2) ∧ ((s.doOut t ra tol port 2).thread t).st = .blocked ∧
      (((s.doOut t ra tol port 2).thread t).res.map (·.code)) = some .done ∧
      flag ((s.doOut t ra tol port 2).port port.toNat).aux 0 = true := by
  obtain ⟨hsame, hflag⟩ := State.outPort_shows (s := s.blockOn t (.result none (tolerant tol))) port.toNat true
  have hdo : s.doOut t ra tol port 2 =
      ((s.blockOn t (.result none (tolerant tol))).outPort port.toNat true).giveRes t
        { code := .done
          latch := some (port.toNat, ((s.blockOn t (.result none (tolerant tol))).outPort port.toNat true).now) } := by
    unfold State.doOut
    dsimp only
    rw [if_neg (by simp [hup]), if_neg (by simp [hmode, hq])]
    rfl
  rw [hdo]
  refine ⟨((State.blockOn_same _).mono.trans hsame.mono).trans (State.giveRes_same _ (by decide) (by decide) _ _), ?_⟩
  rw [State.thread_giveRes_blockOn hsame,
    (State.giveRes_same (l := [.gle, .ops]) _ (by decide) (by decide) _ _).port]
  exact ⟨rfl, rfl, hflag⟩

theorem State.doConv_blocks (rd : BitVec 3) (cv : BitVec 5) (tol sw : BitVec 1) (port : BitVec 6) :
    SameBut [.gle, .ops, .sense, .thr] s (s.doConv t rd cv tol sw port) ∧
      (s.doConv t rd cv tol sw port).BlockedOn t (.result (some rd) (tol == 1)) := by
  unfold State.doConv State.convRequest
  exact ⟨((State.blockOn_same _).mono.trans (State.updConv_same _ _ _).mono).trans (State.convNext_same _ _ _).mono,
    ((State.blockedOn_blockOn _).of_same (State.updConv_same _ _ _)).convNext _ _⟩

theorem State.doTagrd_held {rd : BitVec 3} {tol fresh : BitVec 1} {tag : BitVec 8} (hst : (s.thread t).st = .ready)
    (hstale : fresh = 0 ∨ s.pwr.depth ≠ .awake) (hhas : (s.held tag.toNat).has = true) :
    SameBut [.gle, .ops] s (s.doTagrd t rd tol fresh tag) ∧
      (s.doTagrd t rd tol fresh tag).greg t rd.toNat = BitVec.ofNat 32 (s.held tag.toNat).value.toNat ∧
      ((s.doTagrd t rd tol fresh tag).thread t).code = 0 ∧ ((s.doTagrd t rd tol fresh tag).thread t).stale = true ∧
      ((s.doTagrd t rd tol fresh tag).thread t).stamp = (s.held tag.toNat).stamp := by
  have hnot : ¬ (decide (fresh = 1) && s.pwr.depth == .awake) = true := by
    rcases hstale with h | h
    · simp [h]
    · simp [h]
  unfold State.doTagrd
  rw [if_neg hnot]
  dsimp only
  rw [hhas]
  obtain ⟨hthread, -, -⟩ := State.putThread_frame (s := s) (t := t) (h := { s.thread t with
    code := 0, stale := true, stamp := (s.held tag.toNat).stamp, src := BitVec.ofNat 8 (64 + tag.toNat), tag := true })
    (by simp [hst])
  refine ⟨((State.updThread_same _ (by decide) (by decide) _ _).trans (State.setGreg_same _ _ _ _)).trans
    (SameBut.set_gle _), State.rg_setRg_self _ _ _ _, ?_, ?_, ?_⟩
  · exact congrArg Thread.code hthread
  · exact congrArg Thread.stale hthread
  · exact congrArg Thread.stamp hthread

theorem State.doTagrd_fresh {rd : BitVec 3} {tol fresh : BitVec 1} {tag : BitVec 8} (hfresh : fresh = 1)
    (hawake : s.pwr.depth = .awake) :
    SameBut [.gle, .ops] s (s.doTagrd t rd tol fresh tag) ∧
      ((s.doTagrd t rd tol fresh tag).thread t).st = .blocked := by
  unfold State.doTagrd
  rw [if_pos (by simp [hfresh, hawake])]
  unfold State.tagRequest
  split
  · rename_i halloc
    exact ⟨(State.agentQueue_same _ halloc).trans (State.blockOn_same _), (State.blockedOn_blockOn _).1⟩
  · exact ⟨State.blockOn_same _, (State.blockedOn_blockOn _).1⟩

theorem State.doBus_blocks {rd : BitVec 3} {tol : BitVec 1} {desc : BitVec 12} {n : Nat}
    (hn : n = field (s.pword desc.toNat) 11 8) (hop : 1 ≤ field (s.pword desc.toNat) 7 0)
    (hop3 : field (s.pword desc.toNat) 7 0 ≤ 3) (h1 : 1 ≤ n) (h7 : n ≤ 7) (hend : desc.toNat + n ≤ 0xFFF) :
    SameBut [.gle, .ops, .sense] s (s.doBus t rd tol desc) ∧
      (s.doBus t rd tol desc).BlockedOn t (.bus rd (tol == 1) (field (s.pword desc.toNat) 23 16)) := by
  have hlegal : ¬ (field (s.pword desc.toNat) 7 0 == 0 || decide (field (s.pword desc.toNat) 7 0 > 3) || n == 0 ||
      decide (n > 7) || decide (desc.toNat + n > 0xFFF)) = true := by
    simp
    omega
  unfold State.doBus
  dsimp only
  rw [← hn, if_neg hlegal]
  have hblock := State.blockedOn_blockOn (s := s) (t := t) (.bus rd (tolerant tol) (field (s.pword desc.toNat) 23 16))
  have hsame := State.blockOn_same (s := s) (t := t) (.bus rd (tolerant tol) (field (s.pword desc.toNat) 23 16))
  generalize s.blockOn t (.bus rd (tolerant tol) (field (s.pword desc.toNat) 23 16)) = v at hblock hsame ⊢
  have hreq : ∀ x w c, v.xferRequest x = (w, c) → SameBut [.sense] v w := by
    intro x w c h
    unfold State.xferRequest at h
    dsimp only at h
    (repeat' split at h) <;> cases h
    · exact .refl v
    · exact .refl v
    · exact .refl v
    · exact v.putUnit_same _ _
  split
  · rename_i h
    have hw := hreq _ _ _ h
    exact ⟨(hsame.mono.trans hw.mono).trans (State.giveRes_same _ (by decide) (by decide) _ _),
      (hblock.of_same hw).giveRes _ _⟩
  · rename_i h
    have hw := hreq _ _ _ h
    exact ⟨hsame.mono.trans hw.mono, hblock.of_same hw⟩

end

/-- Settles O31: each instruction is issued, and its effect is the one the row gives. -/
theorem gleanerDevices : Obligations.GleanerDevices := by
  unfold Obligations.GleanerDevices
  rintro s u t i rd ra rb tol rfl hc hd hb hp
  have hissued := s.issued_same t.val
  refine ⟨?_, ?_, ?_, ?_, ?_, ?_, ?_, ?_, ?_, ?_, ?_, ?_, ?_⟩
  · rintro imm rfl; exact next_issueAs hc hd hb hp rfl rfl rfl
  · rintro imm rfl; exact next_issueAs hc hd hb hp rfl rfl rfl
  · rintro n rfl; exact next_issueAs hc hd hb hp rfl rfl rfl
  · rintro rfl; exact next_issueAs hc hd hb hp rfl rfl rfl
  · rintro rfl; exact next_issueAs hc hd hb hp rfl rfl rfl
  · rintro rfl; exact next_issueAs hc hd hb hp rfl rfl rfl
  · rintro rfl; exact next_issueAs hc hd hb hp rfl rfl rfl
  · rintro port rfl
    obtain ⟨hsame, hst, hres⟩ := State.doIn_shows (s := s.issued t.val) (t := t.val) rd tol port
    exact ⟨_, next_issueAs hc hd hb hp rfl rfl rfl, hst, hres, (hissued.trans hsame).sense, (hissued.trans hsame).gran⟩
  · rintro port rfl hup hmode hq
    obtain ⟨hsame, hst, hres, hflag⟩ := State.doOut_sets (t := t.val) (ra := ra) (tol := tol) hup hmode hq
    exact ⟨_, next_issueAs hc hd hb hp rfl rfl rfl, hst, hres, hflag, hsame.gran.trans hissued.gran⟩
  · rintro cv sw port rfl
    obtain ⟨hsame, hst, hblock⟩ := State.doConv_blocks (s := s.issued t.val) (t := t.val) rd cv tol sw port
    exact ⟨_, next_issueAs hc hd hb hp rfl rfl rfl, hst, hblock, hsame.own.trans hissued.own,
      hsame.flash.trans hissued.flash⟩
  · rintro fresh tag rfl hstale hhas
    obtain ⟨hsame, hgreg, hcode, hold, hstamp⟩ := State.doTagrd_held (rd := rd) (tol := tol) (State.issued_ready hc)
      hstale hhas
    exact ⟨_, next_issueAs hc hd hb hp rfl rfl rfl, hgreg, hcode, hold, hstamp, hsame.gran.trans hissued.gran⟩
  · rintro fresh tag rfl hfresh hawake
    obtain ⟨hsame, hst⟩ := State.doTagrd_fresh (t := t.val) (rd := rd) (tol := tol) (tag := tag) hfresh hawake
    exact ⟨_, next_issueAs hc hd hb hp rfl rfl rfl, hst, hsame.gran.trans hissued.gran, hsame.fld.trans hissued.fld⟩
  · rintro desc n rfl hn hop hop3 h1 h7 hend
    obtain ⟨hsame, hst, hblock⟩ := State.doBus_blocks (t := t.val) (rd := rd) (tol := tol) hn hop hop3 h1 h7 hend
    exact ⟨_, next_issueAs hc hd hb hp rfl rfl rfl, hst, hblock, hsame.gran.trans hissued.gran⟩

/-! ### Operations that name threads -/

/-- A fold over threads each step of which moves its own thread alone: what each step shows of its thread stands at the
end, and the threads it does not name stand as before. -/
theorem State.foldl_each {P : State → Prop} {Q : Nat → Thread → Prop} {f : State → Nat → State} {l : List Nat}
    (hnd : l.Nodup) : ∀ {s : State}, P s →
    (∀ u t, t ∈ l → P u → u.thread t = s.thread t →
      P (f u t) ∧ Q t ((f u t).thread t) ∧ ∀ k, k ≠ t → (f u t).thread k = u.thread k) →
    P (l.foldl f s) ∧ (∀ t ∈ l, Q t ((l.foldl f s).thread t)) ∧ ∀ k, k ∉ l → (l.foldl f s).thread k = s.thread k := by
  induction l with
  | nil => exact fun hs _ => ⟨hs, by simp, fun _ _ => rfl⟩
  | cons a l ih =>
    intro s hs hf
    obtain ⟨ha, hnd⟩ := List.nodup_cons.1 hnd
    obtain ⟨hP, hQ, hother⟩ := hf s a List.mem_cons_self hs rfl
    obtain ⟨hfold, hall, hrest⟩ := ih hnd hP (fun u t ht hu hthread => hf u t (List.mem_cons_of_mem a ht) hu
      (hthread.trans (hother t (fun h => ha (h ▸ ht)))))
    refine ⟨hfold, fun t ht => ?_, fun k hk => ?_⟩
    · rcases List.mem_cons.1 ht with rfl | ht
      · rw [List.foldl_cons, hrest t ha]
        exact hQ
      · exact hall t ht
    · obtain ⟨hka, hkl⟩ := not_or.1 (fun h => hk (List.mem_cons.2 h))
      exact (hrest k hkl).trans (hother k hka)

theorem mem_maskThreads {w : Word} {t : Nat} : t ∈ maskThreads w ↔ t < 16 ∧ flag w t = true := by
  rw [maskThreads, List.mem_filter, List.mem_range]

theorem nodup_maskThreads (w : Word) : (maskThreads w).Nodup := List.nodup_range.filter _

theorem flag_and_low {w : Word} {t : Nat} (ht : t < 16) : flag (w &&& 0xFFFF) t = flag w t := by
  have hlow : (0xFFFF : Word).getLsbD t = true := by
    revert t
    decide
  rw [flag, flag, BitVec.getLsbD_and, hlow, Bool.and_true]

theorem mem_maskThreads_low {w : Word} {t : Nat} : t ∈ maskThreads (w &&& 0xFFFF) ↔ t < 16 ∧ flag w t = true := by
  rw [mem_maskThreads]
  exact and_congr_right (fun ht => by rw [flag_and_low ht])

section
variable {s : State} {t tag : Nat} {k : Slot}

theorem State.putThread_no_stops (hs : s.gle.stops = []) (h : Thread) : (s.putThread t h).gle.stops = [] := by
  rw [State.putThread_of_no_stops hs, State.setDegraded, State.setReadyBits_gle]
  exact hs

/-- What LOAD does to a thread it names. -/
def Thread.loadHeld (h : Thread) : Thread :=
  match h.st with
  | .wait => { h with st := .stopped, held := true }
  | .ready => { h with stopping := true, held := true }
  | .blocked => { h with stopping := true, held := true }
  | _ => h

/-- LOAD holds the threads it names and takes up its copy. -/
theorem loadEffect_holds (hload : s.gle.load = none) (hstops : s.gle.stops = [])
    (hawake : flag (k.arg 0) 0 = true → s.pwr.depth = .awake)
    (hclear : ∀ t, t < 16 → flag (k.arg 3) t = false → (s.thread t).st = .stopped ∨ (s.thread t).st = .fault ∨
      s.clearOf t (field (k.arg 2) 11 0) (field (k.arg 2) 28 16) = true) :
    ∃ v, loadEffect tag k s = ({ v with gle := { v.gle with load := some (LoadRun.mk (BitVec.ofNat 7 tag)
        (flag (k.arg 0) 0) (k.arg 1).toNat (field (k.arg 2) 11 0) (field (k.arg 2) 28 16)) } }, none) ∧
      SameButGleaner s v ∧ (∀ t, t < 16 → flag (k.arg 3) t = true → v.thread t = (s.thread t).loadHeld) ∧
      ∀ t, t < 16 → flag (k.arg 3) t = false → v.thread t = s.thread t := by
  have hfree : ((List.range 16).any (fun t => !(maskThreads (k.arg 3)).contains t && (s.thread t).st != .stopped &&
      (s.thread t).st != .fault && !s.clearOf t (field (k.arg 2) 11 0) (field (k.arg 2) 28 16))) = false := by
    rw [List.any_eq_false]
    intro t ht
    rw [List.mem_range] at ht
    cases hflag : flag (k.arg 3) t
    · rcases hclear t ht hflag with h | h | h <;> simp [h]
    · have hmem : (maskThreads (k.arg 3)).contains t = true := by simpa using mem_maskThreads.2 ⟨ht, hflag⟩
      rw [hmem]
      simp
  have hnear : (flag (k.arg 0) 0 && s.pwr.depth != .awake) = false := by
    cases hflag : flag (k.arg 0) 0
    · rfl
    · simp [hawake hflag]
  unfold loadEffect
  dsimp only
  rw [hload, if_neg (by decide), hfree, hnear, if_neg (by decide)]
  obtain ⟨⟨-, hsame⟩, hheld, hother⟩ := State.foldl_each (P := fun u => u.gle.stops = [] ∧ SameButGleaner s u)
    (Q := fun t h => h = (s.thread t).loadHeld) (nodup_maskThreads (k.arg 3)) ⟨hstops, .refl s⟩
    (f := fun acc t => match (acc.thread t).st with
      | .wait => acc.putThread t { acc.thread t with st := .stopped, held := true }
      | .ready => acc.putThread t { acc.thread t with stopping := true, held := true }
      | .blocked => acc.putThread t { acc.thread t with stopping := true, held := true }
      | _ => acc) (fun u t _ ⟨hu, hsame⟩ hthread => by
        have hput : ∀ h, (u.putThread t h).gle.stops = [] ∧ SameButGleaner s (u.putThread t h) := fun h =>
          ⟨State.putThread_no_stops hu h, hsame.trans (.putThread hu t h)⟩
        dsimp only
        unfold Thread.loadHeld
        rw [← hthread]
        split
        · exact ⟨hput _, by rw [State.thread_putThread hu, if_pos rfl],
            fun j hj => by rw [State.thread_putThread hu, if_neg hj]⟩
        · exact ⟨hput _, by rw [State.thread_putThread hu, if_pos rfl],
            fun j hj => by rw [State.thread_putThread hu, if_neg hj]⟩
        · exact ⟨hput _, by rw [State.thread_putThread hu, if_pos rfl],
            fun j hj => by rw [State.thread_putThread hu, if_neg hj]⟩
        · exact ⟨⟨hu, hsame⟩, rfl, fun _ _ => rfl⟩)
  exact ⟨_, rfl, hsame, fun t ht hflag => hheld t (mem_maskThreads.2 ⟨ht, hflag⟩),
    fun t _ hflag => hother t (fun hmem => by rw [(mem_maskThreads.1 hmem).2] at hflag; cases hflag)⟩

theorem State.loadCopy_done {r : LoadRun} {v : State} {l : List Word} (hload : s.gle.load = some r)
    (hheld : ∀ t, t < 16 → (s.thread t).held = false) (hbusy : (r.flash && s.flashBusy r.addr (4 * r.count)) = false)
    (hread : ({ s with gle := { s.gle with load := none } } : State).sourceWords r.flash true r.addr r.count =
      (v, l, true)) (hrun : v.running r.slot.toNat 0x0A 1 = true) :
    s.loadCopy = (v.putStore r.dest l).setResult r.slot.toNat .done := by
  have hnone : (List.range 16).filter (fun t => (s.thread t).held) = [] := by
    rw [List.filter_eq_nil_iff]
    intro t ht
    simp [hheld t (List.mem_range.1 ht)]
  have hrun' : (v.putStore r.dest l).running r.slot.toNat 0x0A 1 = true := hrun
  unfold State.loadCopy
  dsimp only
  rw [hload, hnone]
  dsimp only
  rw [hbusy, if_pos (by rfl), hread]
  dsimp only
  rw [if_pos rfl, List.foldl_nil, if_pos hrun', if_pos rfl]

/-- START takes a stopped thread without ARM to WAIT. -/
theorem startEffect_starts (hstops : s.gle.stops = [])
    (hstopped : ∀ t, t < 16 → flag (k.arg 0) t = true → (s.thread t).st = .stopped ∧ (s.thread t).held = false ∧
      flag (s.thrReg t 0x04) 0 = false) :
    ∃ v, startEffect k s = (v, some .done) ∧ SameBut [.gle, .ops] s v ∧
      (∀ t, t < 16 → flag (k.arg 0) t = true → (v.thread t).st = .wait ∧ (v.thread t).pending = false) ∧
      ∀ t, t < 16 → flag (k.arg 0) t = false → v.thread t = s.thread t := by
  have hidle : ((maskThreads (k.arg 0 &&& 0xFFFF)).any (fun t => (s.thread t).active && (s.thread t).stopping)) =
      false := by
    rw [List.any_eq_false]
    intro t ht
    obtain ⟨ht, hflag⟩ := mem_maskThreads_low.1 ht
    simp [Thread.active, (hstopped t ht hflag).1]
  unfold startEffect
  dsimp only
  rw [hidle, if_neg (by decide)]
  obtain ⟨⟨-, hsame, -⟩, hstart, hother⟩ := State.foldl_each
    (P := fun u => u.gle.stops = [] ∧ SameBut [.gle, .ops] s u ∧ ∀ q o, Quiet o → u.rg q o = s.rg q o)
    (Q := fun t h => h.st = .wait ∧ h.pending = false) (nodup_maskThreads (k.arg 0 &&& 0xFFFF))
    ⟨hstops, .refl s, fun _ _ _ => rfl⟩
    (f := fun acc t =>
        if ((acc.thread t).st == .stopped && !(acc.thread t).held) || (acc.thread t).st == .fault then
          if flag ((((acc.putThread t { acc.thread t with
              st := .wait, pending := false, pendWave := none, vectored := false, stopping := false }).evLevel 0x0A t
                false).armPeriod t).thrReg t 0x04) 0 then
            (((acc.putThread t { acc.thread t with
              st := .wait, pending := false, pendWave := none, vectored := false, stopping := false }).evLevel 0x0A t
                false).armPeriod t).cause t none
          else ((acc.putThread t { acc.thread t with
            st := .wait, pending := false, pendWave := none, vectored := false, stopping := false }).evLevel 0x0A t
              false).armPeriod t
        else acc) (fun u t ht ⟨hu, hsame, hrg⟩ hthread => by
        obtain ⟨ht, hflag⟩ := mem_maskThreads_low.1 ht
        obtain ⟨hst, hheld, harm⟩ := hstopped t ht hflag
        dsimp only
        rw [if_pos (by simp [hthread, hst, hheld])]
        generalize hw : (u.putThread t { u.thread t with
          st := .wait, pending := false, pendWave := none, vectored := false, stopping := false }).evLevel 0x0A t
            false = w
        obtain ⟨hself, -, hput⟩ := State.putThread_frame (s := u) (t := t) (h := { u.thread t with
          st := .wait, pending := false, pendWave := none, vectored := false, stopping := false }) (by simp)
        have hlevel : SameBut [] _ w := hw ▸ State.evLevel_same _ _ _ _
        have hwself := (hlevel.thread (t := t)).trans hself
        have hwother : ∀ j, j ≠ t → w.thread j = u.thread j := fun j hj => by
          rw [hlevel.thread, State.thread_putThread hu, if_neg hj]
        have hwrg : ∀ q o, Quiet o → w.rg q o = s.rg q o := fun q o ho => by
          rw [← hw, State.rg_evLevel ho, hput q o ho, hrg q o ho]
        have hwstops : w.gle.stops = [] := by
          rw [hlevel.gle]
          exact State.putThread_no_stops hu _
        have hwsame : SameBut [.gle, .ops] s w :=
          (hsame.trans (State.putThread_same _ _ _)).trans hlevel.mono
        obtain ⟨harmed, -, harmrg⟩ := State.putThread_frame (s := w) (t := t) (h := { w.thread t with
          due := if flag (w.thrReg t 0x04) 1 then
              some (if flag (w.thrReg t 0x08) 24 then nextMultiple (field (w.thrReg t 0x08) 23 0) w.now
                else w.after (field (w.thrReg t 0x08) 23 0 * 2 ^ 17))
            else none }) (by simp [hwself])
        have hoff : flag ((w.armPeriod t).thrReg t 0x04) 0 = false := by
          rw [← harm]
          exact congrArg (flag · 0) ((harmrg 0x0A _ (by unfold Quiet; omega)).trans
            (hwrg 0x0A _ (by unfold Quiet; omega)))
        rw [hoff, if_neg (by decide)]
        refine ⟨⟨State.putThread_no_stops hwstops _, hwsame.trans (State.putThread_same _ _ _),
          fun q o ho => (harmrg q o ho).trans (hwrg q o ho)⟩, ?_,
          fun j hj => (State.thread_putThread hwstops t j _).trans ((if_neg hj).trans (hwother j hj))⟩
        rw [show (w.armPeriod t).thread t = _ from harmed, hwself]
        exact ⟨rfl, rfl⟩)
  exact ⟨_, rfl, hsame, fun t ht hflag => hstart t (mem_maskThreads_low.2 ⟨ht, hflag⟩),
    fun t _ hflag => hother t (fun hmem => by rw [(mem_maskThreads_low.1 hmem).2] at hflag; cases hflag)⟩

/-- STOP with NOW ends the threads it names at once. -/
theorem stopEffect_now (hstops : s.gle.stops = []) (hnow : flag (k.arg 0) 16 = true) :
    ∃ v, stopEffect tag k s = (v, some .done) ∧ SameBut [.gle, .ops, .queues, .sense] s v ∧
      (∀ t, t < 16 → flag (k.arg 0) t = true → (v.thread t).st = .stopped ∧ (v.thread t).pending = false) ∧
      ∀ t, t < 16 → flag (k.arg 0) t = false → v.thread t = s.thread t := by
  obtain ⟨⟨-, hsame⟩, hstop, hother⟩ := State.foldl_each
    (P := fun u => u.gle.stops = [] ∧ SameBut [.gle, .ops, .queues, .sense] s u)
    (Q := fun t h => h.st = .stopped ∧ h.pending = false) (nodup_maskThreads (k.arg 0 &&& 0xFFFF)) ⟨hstops, .refl s⟩
    (f := State.stopNow) (fun u t _ ⟨hu, hsame⟩ _ => by
        have hdisown : SameBut [.queues, .sense] u ((u.rewindOf (fun k => k == 16 + t)).disown t) :=
          (u.rewindOf_same _).mono.trans (SameBut.set_sense _)
        have hstops' : ((u.rewindOf (fun k => k == 16 + t)).disown t).gle.stops = [] := by rw [hdisown.gle, hu]
        refine ⟨⟨State.putThread_no_stops hstops' _, (hsame.trans hdisown.mono).trans (State.putThread_same _ _ _)⟩,
          ?_, fun j hj => ?_⟩
        · rw [show (u.stopNow t).thread t = _ from (State.thread_putThread hstops' t t _).trans (if_pos rfl)]
          exact ⟨rfl, rfl⟩
        · exact ((State.thread_putThread hstops' t j _).trans (if_neg hj)).trans (hdisown.thread (t := j)))
  have hall : ((maskThreads (k.arg 0 &&& 0xFFFF)).foldl State.stopNow s).allStopped ((k.arg 0).truncate 16) = true := by
    unfold State.allStopped
    rw [List.all_eq_true]
    intro t ht
    rw [List.mem_range] at ht
    cases hflag : flag (k.arg 0) t
    · have hbit : ((k.arg 0).truncate 16).getLsbD t = false := by
        rw [BitVec.getLsbD_setWidth, show (k.arg 0).getLsbD t = false from hflag, Bool.and_false]
      rw [hbit]
      rfl
    · rw [(hstop t (mem_maskThreads_low.2 ⟨ht, hflag⟩)).1]
      simp
  unfold stopEffect
  simp only [hnow, if_true]
  rw [if_pos hall]
  exact ⟨_, rfl, hsame, fun t ht hflag => hstop t (mem_maskThreads_low.2 ⟨ht, hflag⟩),
    fun t _ hflag => hother t (fun hmem => by rw [(mem_maskThreads_low.1 hmem).2] at hflag; cases hflag)⟩

theorem State.runOp_waits {t : State} {p op : Nat} {argsOk : Slot → Bool} {eff : Slot → State → State × Option Code}
    (hrun : s.running tag p op = true) (hargs : argsOk (s.slot tag) = true) (hready : s.ready p = true)
    (heff : eff (s.slot tag) s = (t, none)) : s.runOp tag p op argsOk eff = t := by
  unfold State.runOp
  rw [if_pos hrun, if_neg (by simp [hargs]), if_neg (by simp [hready]), heff]

end

/-- Settles O32, operation by operation. -/
theorem gleanerOperations : Obligations.GleanerOperations := by
  unfold Obligations.GleanerOperations
  rintro s tag m k rfl
  refine ⟨fun hrun hready hargs hload hstops hawake hclear => ?_,
    fun r v l hload hheld hbusy hread hrun => congrArg Host.Outcome.next (State.loadCopy_done hload hheld hbusy hread hrun),
    fun hrun hready hstops hstopped => ?_, fun hrun hready hstops hnow => ?_, fun hg => ?_⟩
  · obtain ⟨v, heff, hsame, hheld, hother⟩ := loadEffect_holds (tag := tag.val) hload hstops hawake hclear
    refine ⟨_, congrArg Host.Outcome.next (State.runOp_waits hrun hargs hready heff), rfl, fun t ht hflag hst => ?_,
      fun t ht hflag hact => ?_, hother, hsame.store, hsame.gran, hsame.flash⟩
    · refine (hheld t ht hflag).trans ?_
      unfold Thread.loadHeld
      rw [hst]
    · refine (hheld t ht hflag).trans ?_
      unfold Thread.active at hact
      unfold Thread.loadHeld
      cases hst : (s.thread t).st <;> simp_all
  · obtain ⟨v, heff, hsame, hstart, hother⟩ := startEffect_starts hstops hstopped
    have hres : SameBut [.ops] v (v.setResult tag.val .done) := State.setResult_same _ _ _
    exact ⟨_, congrArg Host.Outcome.next (State.runOp_ends hrun rfl hready heff), by rw [State.slot_setResult_self],
      fun t ht hflag => by rw [hres.thread]; exact hstart t ht hflag,
      fun t ht hflag => by rw [hres.thread]; exact hother t ht hflag, hres.gran.trans hsame.gran,
      hres.own.trans hsame.own⟩
  · obtain ⟨v, heff, hsame, hstop, hother⟩ := stopEffect_now (tag := tag.val) hstops hnow
    have hres : SameBut [.ops] v (v.setResult tag.val .done) := State.setResult_same _ _ _
    exact ⟨_, congrArg Host.Outcome.next (State.runOp_ends hrun rfl hready heff), by rw [State.slot_setResult_self],
      fun t ht hflag => by rw [hres.thread]; exact hstop t ht hflag,
      fun t ht hflag => by rw [hres.thread]; exact hother t ht hflag, hres.gran.trans hsame.gran,
      hres.own.trans hsame.own⟩
  · refine congrArg Host.Outcome.next ?_
    rw [State.read_pass hg]
    exact State.complete_done _ _ _ _ _

end Sys2Proof.Machine
end

section
/-!
PROOFS. The lanes: what their outputs keep, and the changeover of a lane to a new configuration.
-/
namespace Sys2Proof.Machine

section
variable {l : List Part} {s t u : State} {n : Nat}

theorem SameBut.conv (h : SameBut l s t) (hl : .sense ∉ l := by decide) (cv : Nat) : t.conv cv = s.conv cv := by
  rw [State.conv, h.sense hl]
  rfl

theorem SameBut.lane (h : SameBut l s t) (hl : .thr ∉ l := by decide) (n : Nat) : t.lane n = s.lane n := by
  rw [State.lane, h.thr hl]
  rfl

theorem State.lane_updLane (n k : Nat) (f : Lane → Lane) :
    (s.updLane n f).lane k = if k = n then f (s.lane n) else s.lane k := Tab.get_set

@[simp] theorem State.lane_updLane_self (n : Nat) (f : Lane → Lane) : (s.updLane n f).lane n = f (s.lane n) :=
  Tab.get_set_self

@[simp] theorem State.lane_putLane_self (n : Nat) (x : Lane) : (s.putLane n x).lane n = x := Tab.get_set_self

/-! ### What keeps every lane's configuration -/

/-- Every lane has the configuration it had, in force and to come, and the same ADMIT is in progress. -/
structure LanesKept (s t : State) : Prop where
  cfg : ∀ n, (t.lane n).cfg = (s.lane n).cfg
  next : ∀ n, (t.lane n).next = (s.lane n).next
  admitting : t.thr.admitting = s.thr.admitting

theorem LanesKept.refl (s : State) : LanesKept s s := ⟨fun _ => rfl, fun _ => rfl, rfl⟩

theorem LanesKept.trans (h : LanesKept s t) (g : LanesKept t u) : LanesKept s u :=
  ⟨fun n => (g.cfg n).trans (h.cfg n), fun n => (g.next n).trans (h.next n), g.admitting.trans h.admitting⟩

theorem SameBut.lanes (h : SameBut l s t) (hl : .thr ∉ l := by decide) : LanesKept s t :=
  ⟨fun n => by rw [h.lane hl], fun n => by rw [h.lane hl], by rw [h.thr hl]⟩

theorem LanesKept.ite {c : Prop} {_ : Decidable c} (ht : LanesKept s t) (hu : LanesKept s u) :
    LanesKept s (if c then t else u) := by
  split
  · exact ht
  · exact hu

theorem LanesKept.foldl {β : Type} {f : State → β → State} (hf : ∀ s b, LanesKept s (f s b)) (bs : List β)
    (s : State) : LanesKept s (bs.foldl f s) := by
  induction bs generalizing s with
  | nil => exact .refl s
  | cons b bs ih => exact (hf s b).trans (ih _)

theorem State.putLane_lanes {x : Lane} (hcfg : x.cfg = (s.lane n).cfg) (hnext : x.next = (s.lane n).next) :
    LanesKept s (s.putLane n x) := by
  have hlane : ∀ k, (s.putLane n x).lane k = if k = n then x else s.lane k := fun k => Tab.get_set
  refine ⟨fun k => ?_, fun k => ?_, rfl⟩
  · rw [hlane]
    split
    · rename_i h
      rw [h, hcfg]
    · rfl
  · rw [hlane]
    split
    · rename_i h
      rw [h, hnext]
    · rfl

theorem State.updLane_lanes (n : Nat) (f : Lane → Lane) (hcfg : ∀ x, (f x).cfg = x.cfg := by exact fun _ => rfl)
    (hnext : ∀ x, (f x).next = x.next := by exact fun _ => rfl) : LanesKept s (s.updLane n f) :=
  State.putLane_lanes (hcfg _) (hnext _)

theorem LanesKept.iteThen {c : Prop} {_ : Decidable c} (h : LanesKept s t) (g : LanesKept t u) :
    LanesKept s (if c then u else t) := .ite (h.trans g) h

theorem State.biquads_keeps (c : LaneCfg) (x : Lane) (v : Int) :
    (s.biquads c x v).1.cfg = x.cfg ∧ (s.biquads c x v).1.next = x.next := by
  unfold State.biquads
  dsimp only
  split
  · exact ⟨rfl, rfl⟩
  · split <;> exact ⟨rfl, rfl⟩

theorem State.laterStages_keeps (c : LaneCfg) (x : Lane) (v : Int) :
    (s.laterStages c x v).1.cfg = x.cfg ∧ (s.laterStages c x v).1.next = x.next := by
  unfold State.laterStages
  dsimp only
  split
  · exact ⟨rfl, rfl⟩
  · split
    · exact ⟨rfl, rfl⟩
    · exact State.biquads_keeps _ _ _

theorem State.laneTake_lanes (c : LaneCfg) (x : LaneIn) : LanesKept s (s.laneTake n c x).1 := by
  unfold State.laneTake
  dsimp only
  have hwin : SameBut [.win] s (if x.mark then s.restartLane n else s) := .ite (s.restartLane_same n) (.refl s)
  generalize (if x.mark then s.restartLane n else s) = s0 at hwin ⊢
  have hmark : (if x.mark then (s.lane n).atMark c c.clear else s.lane n).cfg = (s0.lane n).cfg ∧
      (if x.mark then (s.lane n).atMark c c.clear else s.lane n).next = (s0.lane n).next := by
    rw [hwin.lane]
    split <;> exact ⟨rfl, rfl⟩
  obtain ⟨hcfg, hnext⟩ := hmark
  refine hwin.lanes.trans ?_
  split
  · exact State.putLane_lanes ((State.laterStages_keeps _ _ _).1.trans hcfg)
      ((State.laterStages_keeps _ _ _).2.trans hnext)
  · split
    · exact State.putLane_lanes hcfg hnext
    · have hdraw : SameBut [.win] s0 s0.draw.2 := s0.draw_same
      refine hdraw.lanes.trans (State.putLane_lanes ((State.laterStages_keeps _ _ _).1.trans ?_)
        ((State.laterStages_keeps _ _ _).2.trans ?_))
      · rw [hdraw.lane]
        exact hcfg
      · rw [hdraw.lane]
        exact hnext

theorem State.laneRun_lanes (c : LaneCfg) (k : Nat) : ∀ s : State, LanesKept s (s.laneRun n c k).1 := by
  induction k with
  | zero => exact fun s => .refl s
  | succ k ih =>
    intro s
    unfold State.laneRun
    split
    · exact .refl s
    · rename_i x rest _
      have h : LanesKept s ((s.updLane n (fun l => { l with inputs := rest })).laneTake n c x).1 :=
        (State.updLane_lanes _ _).trans (State.laneTake_lanes _ _)
      dsimp only
      split
      · exact h.trans (ih _)
      · split
        · refine LanesKept.trans (h.trans ?_) (ih _)
          exact State.putLane_lanes rfl rfl
        · exact h.trans (State.putLane_lanes rfl rfl)

theorem State.laneQueue_lanes (c : LaneCfg) (o : LaneOut) : LanesKept s (s.laneQueue n c o) := by
  unfold State.laneQueue
  refine .ite ?_ (.refl s)
  dsimp only
  have hpush : ∀ ws, LanesKept s (s.blockPush (field c.lcfg 12 8) ws).1 := fun ws =>
    (s.blockPush_same (l := [.queues, .svc]) _ ws).lanes
  refine .ite (hpush _) (LanesKept.trans ?_ (State.evPulse_same (l := []) _ _ _).lanes)
  exact LanesKept.trans (hpush _) (State.updLane_lanes _ _)

theorem State.convBegin_lanes (cv : Nat) (b : ConvBy) (p : Nat) : LanesKept s (s.convBegin cv b p) := by
  have h : LanesKept s (s.updConv cv (fun c => { c with run := some (b, p) })) := (s.updConv_same cv _).lanes
  unfold State.convBegin
  refine .ite ?_ h
  split
  · exact .ite (h.trans (State.updLane_lanes _ _)) (h.trans (State.markConv_same _ _).lanes)
  · exact h

theorem State.convStart_lanes (cv : Nat) (w : ConvWait) : LanesKept s (s.convStart cv w) := by
  unfold State.convStart
  dsimp only
  split
  · exact (State.convAnswer_same _ _ _ _ _ _).lanes
  · exact (SameBut.lanes (.ite (State.switchTo_same _ _ _) (.refl _))).trans (State.convBegin_lanes _ _ _)

theorem State.convNext_lanes (cv k : Nat) : ∀ s : State, LanesKept s (s.convNext cv k) := by
  induction k with
  | zero => exact fun s => .refl s
  | succ k ih =>
    intro s
    unfold State.convNext
    split
    · refine LanesKept.trans (LanesKept.trans ?_ (State.convStart_lanes cv _)) (ih _)
      exact (s.updConv_same cv _).lanes
    · exact .refl s

theorem State.convOverNow_lanes (cv : Nat) : LanesKept s (s.convOverNow cv) := by
  unfold State.convOverNow
  split
  · exact .refl s
  · dsimp only
    refine LanesKept.trans ?_ (State.dropOver_same _).lanes
    refine LanesKept.trans ?_ (State.convNext_lanes _ _ _)
    refine LanesKept.trans ?_ (State.syncPair_same _ _).lanes
    refine LanesKept.iteThen ?_ (State.markConv_same _ _).lanes
    exact LanesKept.iteThen (s.updConv_same cv _).lanes (State.updLane_lanes _ _)

theorem State.laneDeliver_lanes (c : LaneCfg) (o : LaneOut) : LanesKept s (s.laneDeliver n c o) := by
  unfold State.laneDeliver
  extract_lets v s1 s2 s3 s4
  have h1 : LanesKept s s1 := LanesKept.trans (State.updLane_lanes _ _) (State.pulse_same (l := []) _ _ _).lanes
  have h2 : LanesKept s s2 := by
    dsimp only [s2]
    split
    · exact .ite (h1.trans (State.deliverPort_same _ _ _ _ _ _).lanes) h1
    · exact h1
  have h4 : LanesKept s s4 := (h2.trans (State.winInput_same _ _ _ _ _).lanes).trans (State.laneQueue_lanes c o)
  refine .ite ?_ h4
  split
  · exact (h4.trans (State.convAnswer_same _ _ _ _ _ _).lanes).trans (State.convOverNow_lanes n)
  · exact h4.trans (State.convOverNow_lanes n)
  · exact h4

theorem State.laneOutput_lanes (n : Nat) : LanesKept s (s.laneOutput n) := by
  unfold State.laneOutput
  split
  · rename_i c _
    refine .ite ?_ (.refl s)
    dsimp only
    have h : LanesKept s ((s.laneRun n c (s.lane n).inputs.length).1.laneLevels n) :=
      (State.laneRun_lanes _ _ s).trans (State.laneLevels_same (l := []) _ n).lanes
    split
    · exact h
    · exact h.trans (State.laneDeliver_lanes _ _)
  · exact .refl s

theorem State.laneDrain_lanes (s : State) (n : Nat) : LanesKept s (s.laneDrain n) :=
  .foldl (fun _ _ => State.laneOutput_lanes n) _ s

theorem State.convAbandon_lanes (cv : Nat) (c : Code) : LanesKept s (s.convAbandon cv c) := by
  unfold State.convAbandon
  split
  · exact .refl s
  · exact (s.convAnswer_same _ _ _ _ _).lanes.trans (State.convOverNow_lanes cv)

/-! ### The changeover -/

theorem State.laneDrain_same (n : Nat) : SameBut sampleParts s (s.laneDrain n) :=
  .foldl (fun t _ => t.laneOutput_same n) _ s

theorem State.releaseLane_same (n : Nat) : SameBut sampleParts s (s.releaseLane n) := by
  unfold State.releaseLane
  refine SameBut.trans (SameBut.iteThen ?_ (State.convAbandon_same _ _ _).mono) (State.refreshWinnow_same _)
  exact (State.updLane_same _ _ _).mono

theorem State.changeOver_same (n : Nat) : SameBut sampleParts s (s.changeOver n) := by
  unfold State.changeOver
  have hdrain := State.laneDrain_same (s := s) n
  dsimp only
  split
  · exact hdrain
  · exact hdrain.trans (State.releaseLane_same n)
  · refine SameBut.trans ?_ (State.refreshWinnow_same _)
    exact SameBut.iteThen (hdrain.trans (State.updLane_same _ _ _).mono) (State.restartLane_same _ _).mono

theorem State.admitDone_same : SameBut sampleParts s s.admitDone := by
  unfold State.admitDone
  split
  · exact .refl s
  · exact .ite (.refl s) ((SameBut.set_thr s).trans (State.setResult_same _ _ _))

theorem State.lane_admitDone (n : Nat) : s.admitDone.lane n = s.lane n := by
  unfold State.admitDone
  split
  · rfl
  · split
    · rfl
    · have h : ∀ w : State, ∀ tag, SameBut [.ops] w (w.setResult tag .done) := fun w tag => w.setResult_same _ _
      rw [(h _ _).lane]
      rfl

/-- A lane that changes over has the configuration that was to come, or none, and every other lane its own. -/
theorem State.changeOver_takes {x : Option LaneCfg} (hnext : (s.lane n).next = some x) :
    ((s.changeOver n).lane n).cfg = x ∧ ((s.changeOver n).lane n).next = none ∧
      (∀ k, k ≠ n → ((s.changeOver n).lane k).cfg = (s.lane k).cfg ∧ ((s.changeOver n).lane k).next = (s.lane k).next) ∧
      (s.changeOver n).thr.admitting = s.thr.admitting := by
  have hdrain := s.laneDrain_lanes n
  have hwin : ∀ w : State, SameBut [] w w.refreshWinnow := fun w => w.refreshWinnow_same
  have shown : ∀ {f : Lane → Lane} {w : State}, LanesKept ((s.laneDrain n).updLane n f) w →
      (f ((s.laneDrain n).lane n)).cfg = x → (f ((s.laneDrain n).lane n)).next = none →
      (w.lane n).cfg = x ∧ (w.lane n).next = none ∧
        (∀ k, k ≠ n → (w.lane k).cfg = (s.lane k).cfg ∧ (w.lane k).next = (s.lane k).next) ∧
        w.thr.admitting = s.thr.admitting := fun {f w} hw hx hn => by
    refine ⟨?_, ?_, fun k hk => ?_, hw.admitting.trans hdrain.admitting⟩
    · rw [hw.cfg, State.lane_updLane_self, hx]
    · rw [hw.next, State.lane_updLane_self, hn]
    · rw [hw.cfg, hw.next, State.lane_updLane, if_neg hk, hdrain.cfg, hdrain.next]
      exact ⟨rfl, rfl⟩
  unfold State.changeOver
  dsimp only
  rw [hdrain.next, hnext]
  cases x with
  | none =>
    refine shown (f := fun y => { y with
      cfg := none, next := none, inputs := [], arith := {}, suppress := 0, ovr := false, cost := 0, guardCost := 0
      qdrop := 0, fed := none, mark := false }) ?_ rfl rfl
    exact (LanesKept.ite (State.convAbandon_lanes _ _) (.refl _)).trans (hwin _).lanes
  | some c =>
    have taken : ∀ (fresh : Bool) (w : State), LanesKept ((s.laneDrain n).updLane n (fun y => if fresh = true then
        { Lane.atMark { y with cfg := some c, next := none, qdrop := 0, cost := laneCost n c false
                               guardCost := if c.guard then laneCost n c true else 0 } c true with mark := true }
      else { y with cfg := some c, next := none, qdrop := 0, cost := laneCost n c false
                    guardCost := if c.guard then laneCost n c true else 0 })) w →
      (w.lane n).cfg = some c ∧ (w.lane n).next = none ∧
        (∀ k, k ≠ n → (w.lane k).cfg = (s.lane k).cfg ∧ (w.lane k).next = (s.lane k).next) ∧
        w.thr.admitting = s.thr.admitting := fun fresh w hw =>
      shown hw (by cases fresh <;> rfl) (by cases fresh <;> rfl)
    exact taken _ _ ((LanesKept.ite (State.restartLane_same _ _).lanes (.refl _)).trans (hwin _).lanes)

/-- A lane in force that has a configuration to come, or a release, takes it at its boundary. -/
theorem State.laneChangeover_takes {old : LaneCfg} {x : Option LaneCfg} (hcfg : (s.lane n).cfg = some old)
    (hnext : (s.lane n).next = some x) :
    ((s.laneChangeover n).lane n).cfg = x ∧ ((s.laneChangeover n).lane n).next = none ∧
      SameBut (.time :: sampleParts) s (s.laneChangeover n) := by
  have hdrain := s.laneDrain_lanes n
  unfold State.laneChangeover
  dsimp only
  rw [hdrain.next, hdrain.cfg, hnext, hcfg]
  dsimp only
  have takes : ∀ u, SameBut [.time] (s.laneDrain n) u → ((u.changeOver n).admitDone.lane n).cfg = x ∧
      ((u.changeOver n).admitDone.lane n).next = none ∧
      SameBut (.time :: sampleParts) s (u.changeOver n).admitDone := fun u hu => by
    obtain ⟨hc, hn, -, -⟩ := State.changeOver_takes (s := u) (n := n) (x := x) (by rw [hu.lane, hdrain.next, hnext])
    rw [State.lane_admitDone]
    exact ⟨hc, hn, (((State.laneDrain_same n).mono.trans hu.mono).trans (State.changeOver_same n).mono).trans
      State.admitDone_same.mono⟩
  exact takes _ (.ite (.refl _) ((s.laneDrain n).reach_same _))

/-! ### An input, and an output without filters -/

theorem State.laterStages_plain {c : LaneCfg} {x : Lane} {v : Int} (h1 : firTaps c.fir1 = 0) (h2 : firTaps c.fir2 = 0)
    (hbq : c.nbq = 0) : ∃ y, s.laterStages c x v = (y, some v) ∧ y.inputs = x.inputs ∧ y.suppress = x.suppress := by
  unfold State.laterStages State.fir State.biquads
  dsimp only
  simp only [h1, h2, hbq, if_true]
  exact ⟨_, rfl, rfl, rfl⟩

/-- An input a lane without filters takes is its next output. -/
theorem State.laneRun_plain {c : LaneCfg} {x : LaneIn} {rest : List LaneIn} (hin : (s.lane n).inputs = x :: rest)
    (hmark : x.mark = false) (hsup : (s.lane n).suppress = 0) (horder : c.order = 0) (h1 : firTaps c.fir1 = 0)
    (h2 : firTaps c.fir2 = 0) (hbq : c.nbq = 0) : ∃ y o, s.laneRun n c (s.lane n).inputs.length = (((s.updLane n (fun l =>
        { l with inputs := rest })).putLane n y).putLane n { y with ovr := false }, some o) ∧ y.inputs = rest ∧
      o.value = x.value ∧ o.stamp = x.stamp := by
  have hlen : (s.lane n).inputs.length = rest.length + 1 := by rw [hin, List.length_cons]
  obtain ⟨y, hy, hinputs, hsuppress⟩ := State.laterStages_plain (s := s.updLane n (fun l => { l with inputs := rest }))
    (x := { s.lane n with inputs := rest, ovr := (s.lane n).ovr || x.ovr }) (v := x.value) h1 h2 hbq
  have htake : (s.updLane n (fun l => { l with inputs := rest })).laneTake n c x =
      ((s.updLane n (fun l => { l with inputs := rest })).putLane n y, some x.value) := by
    unfold State.laneTake
    simp only [hmark, Bool.false_eq_true, if_false, horder, if_true, State.lane_updLane_self, hy]
  refine ⟨y, { value := x.value, stamp := x.stamp, tag := x.tag, ovr := y.ovr, by_ := x.by_, port := x.port }, ?_,
    hinputs, rfl, rfl⟩
  rw [hlen]
  unfold State.laneRun
  rw [hin]
  dsimp only
  rw [htake]
  dsimp only
  rw [State.lane_putLane_self, if_neg (by rw [hsuppress]; simp [hsup])]

theorem State.conv_deliverPort (p cv : Nat) (v : BitVec 24) (st : Stamp) (ovr : Bool) (k : Nat) :
    (s.deliverPort p cv v st ovr).conv k = s.conv k := by
  unfold State.deliverPort
  split
  · have hlines : ∀ w : State, SameBut [.win] w ((w.portLines p).winInput p (signedOf 24 v.toNat) st false) := fun w =>
      (w.portLines_same p).trans (State.winInput_same _ _ _ _ _)
    exact (hlines _).conv (cv := k)
  · rfl

/-- An output of a lane whose converter runs nothing shows in the lane and leaves its inputs. -/
theorem State.lane_laneDeliver {c : LaneCfg} {o : LaneOut} (hidle : n < 16 → (s.conv n).run = none) :
    ∃ q, (s.laneDeliver n c o).lane n =
      { s.lane n with last := BitVec.ofNat 24 (unsignedOf 24 o.value), stamp := o.stamp, qdrop := q } := by
  unfold State.laneDeliver
  extract_lets v s1 s2 s3 s4
  have hpulse : SameBut [] (s.updLane n (fun l => { l with last := v, stamp := o.stamp })) s1 := State.pulse_same _ _ _
  have h1 : s1.lane n = { s.lane n with last := v, stamp := o.stamp } := by
    rw [hpulse.lane, State.lane_updLane_self]
  have h2 : s2.lane n = s1.lane n ∧ s2.conv n = s.conv n := by
    have hconv : s1.conv n = s.conv n := hpulse.conv (cv := n)
    dsimp only [s2]
    split
    · split
      · exact ⟨(State.deliverPort_same _ _ _ _ _ _).lane (n := n), (State.conv_deliverPort _ _ _ _ _ _).trans hconv⟩
      · exact ⟨rfl, hconv⟩
    · exact ⟨rfl, hconv⟩
  have hwin : SameBut [.win] s2 s3 := State.winInput_same _ _ _ _ _
  have h3 : s3.lane n = { s.lane n with last := v, stamp := o.stamp } := by rw [hwin.lane, h2.1, h1]
  have hconv : (s4.conv n) = s.conv n := by
    rw [(State.laneQueue_same s3 n c o).conv, hwin.conv, h2.2]
  have h4 : ∃ q, s4.lane n = { s.lane n with last := v, stamp := o.stamp, qdrop := q } := by
    dsimp only [s4]
    unfold State.laneQueue
    have hpush : ∀ ws, (s3.blockPush (field c.lcfg 12 8) ws).1.lane n = s3.lane n := fun ws =>
      (s3.blockPush_same (l := [.queues, .svc]) _ ws).lane (n := n)
    have hevent : ∀ w : State, (w.evPulse 0x19 25).lane n = w.lane n := fun w =>
      (w.evPulse_same (l := []) _ _).lane (n := n)
    have queued : ∀ ws, ∃ q, (if (s3.blockPush (field c.lcfg 12 8) ws).2 = .done
          then (s3.blockPush (field c.lcfg 12 8) ws).1
          else ((s3.blockPush (field c.lcfg 12 8) ws).1.updLane n (fun l =>
            { l with qdrop := if l.qdrop = 255 then 255 else l.qdrop + 1 })).evPulse 0x19 25).lane n =
        { s.lane n with last := v, stamp := o.stamp, qdrop := q } := fun ws => by
      split
      · exact ⟨(s.lane n).qdrop, (hpush ws).trans h3⟩
      · exact ⟨_, by rw [hevent, State.lane_updLane_self, hpush, h3]⟩
    dsimp only
    split
    · exact queued _
    · exact ⟨(s.lane n).qdrop, h3⟩
  split
  · rename_i hn
    rw [hconv, hidle hn]
    exact h4
  · exact h4

theorem State.laneOutput_plain {c : LaneCfg} {x : LaneIn} {rest : List LaneIn} (hcfg : (s.lane n).cfg = some c)
    (hready : s.ready 0x19 = true) (hheld : s.laneHeld n = false) (hin : (s.lane n).inputs = x :: rest)
    (hmark : x.mark = false) (hsup : (s.lane n).suppress = 0) (horder : c.order = 0) (h1 : firTaps c.fir1 = 0)
    (h2 : firTaps c.fir2 = 0) (hbq : c.nbq = 0) (hidle : n < 16 → (s.conv n).run = none) :
    ((s.laneOutput n).lane n).last = BitVec.ofNat 24 (unsignedOf 24 x.value) ∧
      ((s.laneOutput n).lane n).stamp = x.stamp ∧ ((s.laneOutput n).lane n).inputs = rest := by
  obtain ⟨y, o, hrun, hinputs, hvalue, hstamp⟩ := State.laneRun_plain hin hmark hsup horder h1 h2 hbq
  have hlevel : ∀ w : State, SameBut [] w (w.laneLevels n) := fun w => w.laneLevels_same n
  unfold State.laneOutput
  rw [hcfg]
  dsimp only
  rw [hready, hheld, if_pos (by rfl), hrun]
  dsimp only
  generalize hw : (((s.updLane n (fun l => { l with inputs := rest })).putLane n y).putLane n
    { y with ovr := false }).laneLevels n = w
  have hlane : w.lane n = { y with ovr := false } := by
    rw [← hw, (hlevel _).lane, State.lane_putLane_self]
  have hconv : w.conv n = s.conv n := by
    rw [← hw, (hlevel _).conv]
    rfl
  obtain ⟨q, hq⟩ := State.lane_laneDeliver (s := w) (n := n) (c := c) (o := o) (fun hn => by rw [hconv, hidle hn])
  rw [hq, hlane, ← hvalue, ← hstamp]
  exact ⟨rfl, rfl, hinputs⟩

end

end Sys2Proof.Machine
end

section
/-!
PROOFS. The lanes: a reading's way to its lane, ADMIT, and the coefficient window.
-/
namespace Sys2Proof.Machine

section
variable {s : State} {cv n : Nat} {c : LaneCfg}

/-! ### A reading of a SAR -/

/-- A level of another page's is in no register of this one. -/
theorem State.rg_evLevel_page {q p o b : Nat} {v : Bool} (hne : q ≠ p) (ho : o < 0x1000) :
    (s.evLevel p b v).rg q o = s.rg q o := by
  have hset : ∀ (w : State) (r : Nat) (f : Word → Word), r < 0x1000 → (w.updRg p r f).rg q o = w.rg q o :=
    fun w r f hr => State.rg_setRg_other (fun h => hne ((ra_inj ho hr).1 h).1)
  have hedge : ∀ w : State, (w.evEdge p b).rg q o = w.rg q o := fun w => by
    unfold State.evEdge
    dsimp only
    split
    · rw [State.rg, State.reg, State.tapPulses_regs, State.settle_regs]
      exact hset w 0x010 _ (by omega)
    · rfl
  unfold State.evLevel
  dsimp only
  split
  · rfl
  · split
    · rw [hedge, hset _ _ _ (by omega)]
    · exact hset _ _ _ (by omega)

/-- A converter's overrange is told on its own page. -/
theorem State.convOver_keeps (b : Bool) : (s.convOver cv b).ready 0x19 = s.ready 0x19 ∧
    (∀ k, (s.convOver cv b).laneHeld k = s.laneHeld k) ∧ ∀ p, (s.convOver cv b).portWritten p = s.portWritten p := by
  have hsame := s.convOver_same cv b
  have hrg : ∀ q o, Quiet o → (s.convOver cv b).rg q o = s.rg q o := fun q o ho => State.rg_evLevel ho _ _ _
  have hport : ∀ p, (s.convOver cv b).port p = s.port p := fun p =>
    ((State.evLevel_same (l := []) _ _ _ _).port (p := p))
  refine ⟨congrArg (flag · 0) (State.rg_evLevel_page (by decide) (by decide)), fun k => ?_, fun p => ?_⟩
  · unfold State.laneHeld
    rw [hrg 0x19 0x008 (by unfold Quiet; omega), hsame.pwr, hsame.lane]
  · unfold State.portWritten State.pcfgReg State.auxReg
    rw [hport, hrg _ _ (by unfold Quiet portOff; omega), hrg _ _ (by unfold Quiet portOff; omega)]

/-- A reading of a continuously running SAR is its lane's next input. -/
theorem State.converterTakes_free {x : Int} (hrun : (s.conv cv).run = none) (hlate : (s.conv cv).late = none)
    (hcfg : (s.lane cv).cfg = some c) (hport : s.portWritten (s.xbarPort cv) = false)
    (hpair : s.portWritten (partner (s.xbarPort cv)) = false) (hconv : s.converting cv = true)
    (hready : s.ready 0x18 = true) (hready' : s.ready 0x19 = true) (hsup : s.unavailable .sense = false)
    (hheld : s.laneHeld cv = false) :
    SameBut [.sense, .thr] s (s.converterTakes cv (.volts x)) ∧ (s.converterTakes cv (.volts x)).lane cv =
      { s.lane cv with
        inputs := (s.lane cv).inputs ++ [{ value := sarCode x, stamp := s.now
                                           mark := (s.conv cv).mark || (s.lane cv).mark
                                           ovr := decide (x > 2500000000) || decide (x < -2500000000), by_ := .free
                                           port := some (s.xbarPort cv) }]
        mark := false } := by
  unfold State.converterTakes
  rw [hready, hconv, hsup, if_pos (by rfl), hrun, hlate]
  dsimp only
  generalize hu : s.updConv cv _ = u
  have hsense : SameBut [.sense] s u := hu ▸ s.updConv_same cv _
  have hregs : ∀ q o, u.rg q o = s.rg q o := fun q o => by rw [← hu]; rfl
  have hports : ∀ p, u.port p = s.port p := fun p => by rw [← hu]; rfl
  generalize hw : u.convOver cv (decide (x > 2500000000) || decide (x < -2500000000)) = w
  obtain ⟨hwready, hwheld, hwport⟩ := u.convOver_keeps (cv := cv) (decide (x > 2500000000) || decide (x < -2500000000))
  rw [hw] at hwready hwheld hwport
  have hwsame : SameBut [.sense] s w := hsense.trans (hw ▸ u.convOver_same cv _)
  have hwlane : w.lane cv = s.lane cv := hwsame.lane (n := cv)
  have huheld : ∀ k, u.laneHeld k = s.laneHeld k := fun k => by
    unfold State.laneHeld
    rw [hregs, hsense.pwr, hsense.lane]
  have huport : ∀ p, u.portWritten p = s.portWritten p := fun p => by
    unfold State.portWritten State.pcfgReg State.auxReg
    rw [hports, hregs, hregs]
  have huready : u.ready 0x19 = s.ready 0x19 := congrArg (flag · 0) (hregs _ _)
  have htake : ∀ (i : LaneIn) (k : Lane → Lane), (k = fun y =>
      { y with inputs := y.inputs ++ [{ i with mark := i.mark || y.mark }], mark := false }) →
      w.laneInputs cv [i] = w.updLane cv k := fun i k hk => by
    unfold State.laneInputs
    rw [hwlane, hcfg, hwheld, huheld, hheld, hwready, huready, hready', if_pos (by rfl), hk]
  rw [htake _ _ rfl]
  generalize hv : w.updLane cv _ = v
  have hvport : ∀ p, v.portWritten p = s.portWritten p := fun p => by
    rw [← huport, ← hwport, ← hv]
    rfl
  have hvsame : SameBut [.sense, .thr] s v := hwsame.mono.trans (hv ▸ (w.updLane_same cv _).mono)
  rw [hvport, hvport, hport, hpair, if_neg (by decide)]
  refine ⟨hvsame.trans v.dropOver_same.mono, ?_⟩
  rw [v.dropOver_same.lane, ← hv, State.lane_updLane_self, hwlane]
  simp

/-! ### ADMIT -/

theorem State.changeOver_free {x : LaneCfg} (hcfg : (s.lane n).cfg = none) :
    let u := s.updLane n (fun l => { l with next := some (some x) })
    (if (u.lane n).cfg.isNone || u.laneHeld n then u.changeOver n else u) = u.changeOver n := by
  intro u
  have hnone : (u.lane n).cfg = none := by rw [State.lane_updLane_self]; exact hcfg
  rw [hnone, if_pos (by rfl)]

theorem State.admitDone_ends {tag : BitVec 7} (hadmit : s.thr.admitting = some tag)
    (hnone : ∀ k, k < 24 → (s.lane k).next = none) : (s.admitDone.slot tag.toNat).result = some .done := by
  have hno : ((List.range 24).any (fun n => (s.lane n).next.isSome)) = false := by
    rw [List.any_eq_false]
    intro k hk
    simp [hnone k (List.mem_range.1 hk)]
  unfold State.admitDone
  rw [hadmit]
  dsimp only
  rw [hno, if_neg (by decide), State.slot_setResult_self]

/-- ADMIT of one lane that is not admitted takes a configuration that is legal and fits. -/
theorem laneAdmitEffect_takes {k : Slot} {tag : Nat} {after : List (Nat × LaneCfg)} (htag : tag < 128)
    (hadmit : s.thr.admitting = none) (hnext : ∀ j, j < 24 → (s.lane j).next = none)
    (hnamed : namedLanes k = [n]) (hcfg : (s.lane n).cfg = none) (hc : s.admitCfg n = c) (hen : c.en = true)
    (hlegal : laneLegal n c = true) (hon : flag (s.rg 0x19 0x008) 0 = true) (hcal : n < 16 → s.calibrating n = false)
    (hafter : s.wouldRun [n] = after) (hrun : (after.map (fun e => laneCost e.1 e.2 false)).sum ≤ 786432000)
    (hguard : (after.map (fun e => if e.2.guard then laneCost e.1 e.2 true else 0)).sum ≤ 64000000) :
    ∃ t, laneAdmitEffect tag k s = (t, none) ∧ SameBut sampleParts s t ∧ (t.lane n).cfg = some c ∧
      (t.slot tag).result = some .done := by
  have hfree : (!flag (s.rg 0x19 0x008) 0 || [n].any (fun n => n < 16 && s.calibrating n)) = false := by
    by_cases h : n < 16
    · simp [hon, hcal h]
    · simp [hon, h]
  unfold laneAdmitEffect
  dsimp only
  rw [hadmit, hnamed, if_neg (by decide), if_neg (by simp), if_neg (by simp [hc, hlegal]), hfree,
    if_neg (by decide), hafter, if_neg (by simp only [Bool.or_eq_true, decide_eq_true_eq]; omega), List.foldl_cons,
    List.foldl_nil, hc, hen, if_pos rfl]
  generalize hu : ({ s with thr := { s.thr with admitting := some (BitVec.ofNat 7 tag) } } : State) = u
  have hlane : ∀ j, u.lane j = s.lane j := fun j => by rw [← hu]; rfl
  have husame : SameBut sampleParts s u := hu ▸ SameBut.set_thr s
  rw [State.changeOver_free (s := u) (x := c) (by rw [hlane, hcfg])]
  obtain ⟨hcfg', hnext', hother, hadm⟩ := State.changeOver_takes (s := u.updLane n (fun l =>
    { l with next := some (some c) })) (n := n) (x := some c) (by rw [State.lane_updLane_self])
  refine ⟨_, rfl, ((husame.trans (u.updLane_same n _).mono).trans (State.changeOver_same n)).trans
    State.admitDone_same, ?_, ?_⟩
  · rw [State.lane_admitDone, hcfg']
  · have htag' : (BitVec.ofNat 7 tag).toNat = tag := by
      rw [BitVec.toNat_ofNat, Nat.mod_eq_of_lt htag]
    refine (congrArg (fun j => Slot.result (State.slot _ j)) htag'.symm).trans (State.admitDone_ends ?_ fun j hj => ?_)
    · rw [hadm, ← hu]
      rfl
    · by_cases h : j = n
      · rw [h, hnext']
      · rw [(hother j h).2, State.lane_updLane, if_neg h, hlane, hnext j hj]

theorem laneAdmitEffect_illegal {k : Slot} {tag : Nat} (hadmit : s.thr.admitting = none)
    (hnamed : namedLanes k = [n]) (hlegal : laneLegal n (s.admitCfg n) = false) :
    laneAdmitEffect tag k s = (s.dropCopies, some .arg) := by
  unfold laneAdmitEffect
  dsimp only
  rw [hadmit, hnamed, if_neg (by decide), if_neg (by simp), if_pos (by simp [hlegal])]

end

/-- Settles O33, part by part. -/
theorem lanes : Obligations.Lanes := by
  unfold Obligations.Lanes
  intro s n c tag m v
  refine ⟨fun cv x h16 hrun hlate hcfg hport hpair hconv hready hready' hsup hheld => ?_,
    fun cv x l ovr => ⟨fun h => if_pos h, fun h => if_neg (by omega)⟩,
    fun x rest hcfg hready hheld hin hmark hsup horder h1 h2 hbq hidle => ?_, fun hcfg => ?_,
    fun hrun hready hadmit hnext hnamed hcfg hc hen => ⟨fun hlegal hon hcal after hafter hcost hguard => ?_,
      fun hlegal => ?_⟩, fun old new hcfg hnext => ?_, fun old hcfg hnext => ?_, fun a ha => ⟨?_, ?_, ?_, ?_⟩⟩
  · obtain ⟨hsame, hlane⟩ := State.converterTakes_free (x := x) hrun hlate hcfg hport hpair hconv hready hready' hsup hheld
    refine ⟨_, if_neg (by omega), ?_, ?_, ?_, hsame.gran, hsame.own⟩
    · rw [hlane]
    · rw [hlane]
    · rw [hlane]
      exact hcfg
  · obtain ⟨hlast, hstamp, hinputs⟩ := State.laneOutput_plain hcfg hready hheld hin hmark hsup horder h1 h2 hbq hidle
    have hsame := s.laneOutput_same n.val
    exact ⟨_, rfl, hlast, hstamp, hinputs, hsame.own, hsame.flash⟩
  · refine congrArg Host.Outcome.next ?_
    unfold State.laneOutput
    rw [hcfg]
  · obtain ⟨t, heff, hsame, hcfg', hres⟩ := laneAdmitEffect_takes tag.isLt hadmit hnext hnamed hcfg hc hen
      hlegal hon hcal hafter hcost hguard
    exact ⟨t, congrArg Host.Outcome.next (State.runOp_waits hrun rfl hready heff), hcfg', hres, hsame.gran, hsame.own⟩
  · exact congrArg Host.Outcome.next
      (State.runOp_ends hrun rfl hready (laneAdmitEffect_illegal hadmit hnamed (by rw [hc]; exact hlegal)))
  · obtain ⟨hcfg', hnext', hsame⟩ := State.laneChangeover_takes hcfg hnext
    exact ⟨_, rfl, hcfg', hnext', hsame.own, hsame.flash⟩
  · obtain ⟨hcfg', hnext', hsame⟩ := State.laneChangeover_takes hcfg hnext
    exact ⟨_, rfl, hcfg', hnext', hsame.own, hsame.flash⟩
  · intro hg hfree
    have heff : coefWriteEffect v s = (({ s with thr := { s.thr with
        coef := Tab.set (fun _ => 0) s.thr.coef a (v.truncate 24) } } : State).coefStep, .done) := by
      unfold coefWriteEffect
      dsimp only
      rw [← ha, hfree, if_neg (by decide)]
    refine congrArg Host.Outcome.next ?_
    rw [State.write_pass hg, heff]
    exact State.complete_done _ _ _ _ _
  · intro hg hused
    have heff : coefWriteEffect v s = (s.coefStep, .state) := by
      unfold coefWriteEffect
      dsimp only
      rw [← ha, hused, if_pos rfl]
    refine congrArg Host.Outcome.next ?_
    rw [State.write_pass hg, heff]
    rfl
  · intro hg
    refine congrArg Host.Outcome.next ?_
    rw [State.read_pass hg, ha]
    exact State.complete_done _ _ _ _ _
  · exact State.rg_setRg_self _ _ _ _

end Sys2Proof.Machine
end

section
/-!
PROOFS. TIME: its steps, its snapshots, its alarms and its discipline.
-/
namespace Sys2Proof.Machine

section
variable {s : State}

/-! ### Steps of TIME -/

theorem State.stepUtil_same (new : Stamp) : SameBut [.gle] s (s.stepUtil new) := by
  unfold State.stepUtil
  dsimp only
  exact .ite (s.splitUtil_same.trans (SameBut.set_gle _)) (s.splitUtil_same.trans (State.closeUtil_same _ _ _ _))

theorem State.stepDue_same (t : Nat) (old new d : Stamp) : SameBut [.gle, .ops] s (s.stepDue t old new d) := by
  unfold State.stepDue
  split
  · exact .refl s
  · exact State.updThread_same s (by decide) (by decide) _ _

theorem State.stepTime_now (d : Stamp) : (s.stepTime d.toInt).time.now = s.time.now + d := by
  have htail : ∀ (u : State) (w x : Stamp), SameBut [.gle, .ops] u (((((((List.range 16).foldl (fun acc t =>
      acc.stepDue t s.now x w) u).updRg 0x07 0x048 (fun w => satField w 31 16 1)).setPair 0x07 0x068 w).setPair 0x07 0x070
        x).evPulse 0x07 1).pulse 0x34) := fun u w x => by
    refine SameBut.trans ?_ (State.pulse_same _ _ _)
    refine SameBut.trans ?_ (State.evPulse_same _ _ _)
    refine SameBut.trans ?_ (State.setPair_same _ _ _ _)
    refine SameBut.trans ?_ (State.setPair_same _ _ _ _)
    exact (SameBut.foldl (fun v t => v.stepDue_same t _ _ _) _ u).trans (State.updRg_same _ _ _ _)
  unfold State.stepTime
  rw [BitVec.ofInt_toInt]
  exact congrArg TimeState.now (htail _ _ _).time

/-! ### Snapshots -/

theorem snapEffect_busy {tag : Nat} {k : Slot} {r : SnapRun} (hsnap : s.time.snap = some r)
    (hslot : r.slot ≠ some (BitVec.ofNat 7 tag)) : snapEffect tag k s = (s, some .busy) := by
  unfold snapEffect
  rw [hsnap, if_neg (by simpa using hslot), if_pos (by rfl)]

theorem State.rg_snapLatch_cfg (f : Word → Word) (t : Stamp) :
    ((s.updRg 0x07 0x0C4 f).setPair 0x07 0x0C8 t).rg 0x07 0x0C0 = s.rg 0x07 0x0C0 := by
  rw [State.rg_setPair_other (by decide) (by decide)]
  exact State.rg_setRg_other (by decide)

theorem State.snapLatch_off {cause : Nat} {slot : Option (BitVec 7)} {wave : Option (Nat × Nat)}
    (hoff : flag (s.rg 0x07 0x0C0) 5 = false) : s.snapLatch cause slot wave =
      (s.updRg 0x07 0x0C4 (fun w => wrapField w 7 0 1)).setPair 0x07 0x0C8 s.now := by
  unfold State.snapLatch
  dsimp only
  rw [State.rg_snapLatch_cfg, hoff, if_neg (by decide)]

theorem State.snapLatch_on {cause : Nat} {slot : Option (BitVec 7)} {wave : Option (Nat × Nat)}
    (hon : flag (s.rg 0x07 0x0C0) 5 = true) : ∃ seq, s.snapLatch cause slot wave =
      { (s.updRg 0x07 0x0C4 (fun w => wrapField w 7 0 1)).setPair 0x07 0x0C8 s.now with
        time := { s.time with
          snap := some { items := snapPacket seq cause s.now s.snapEntries, slot := slot, wave := wave } } } := by
  unfold State.snapLatch
  dsimp only
  rw [State.rg_snapLatch_cfg, hon, if_pos rfl]
  exact ⟨_, rfl⟩

/-- A snapshot is taken where SNAP is free: its operation ends at once where it leaves no packet, and waits for its
packet otherwise. -/
theorem snapEffect_free {tag : Nat} {k : Slot} (hsnap : s.time.snap = none) (hready : s.senseReady = true) :
    (flag (s.rg 0x07 0x0C0) 5 = false → snapEffect tag k s =
      ((s.updRg 0x07 0x0C4 (fun w => wrapField w 7 0 1)).setPair 0x07 0x0C8 s.now, some .done)) ∧
    (flag (s.rg 0x07 0x0C0) 5 = true → ∃ seq, snapEffect tag k s =
      ({ (s.updRg 0x07 0x0C4 (fun w => wrapField w 7 0 1)).setPair 0x07 0x0C8 s.now with
        time := { s.time with
          snap := some { items := snapPacket seq 0 s.now s.snapEntries, slot := some (BitVec.ofNat 7 tag) } } },
        none)) := by
  have heff : snapEffect tag k s = (s.snapLatch 0 (some (BitVec.ofNat 7 tag)) none,
      if (s.snapLatch 0 (some (BitVec.ofNat 7 tag)) none).time.snap.isSome then none else some .done) := by
    unfold snapEffect
    rw [hsnap, if_neg (by simp), if_neg (by simp), if_neg (by simp [hready])]
  rw [heff]
  refine ⟨fun hoff => ?_, fun hon => ?_⟩
  · rw [State.snapLatch_off hoff]
    exact congrArg (Prod.mk _) (if_neg (show ¬ s.time.snap.isSome = true by rw [hsnap]; decide))
  · obtain ⟨seq, hlatch⟩ := State.snapLatch_on (cause := 0) (slot := some (BitVec.ofNat 7 tag)) (wave := none) hon
    rw [hlatch]
    exact ⟨seq, congrArg (Prod.mk _) (if_pos rfl)⟩

theorem length_snapPacket (seq cause : Nat) (t : Stamp) (l : List (Nat × Nat × Stamp)) :
    (snapPacket seq cause t l).length = 4 + 4 * l.length := by
  have hitems : ∀ f : Nat × Nat × Stamp → List Word, (∀ e, (f e).length = 4) → (l.flatMap f).length = 4 * l.length :=
    fun f hf => by
      induction l with
      | nil => rfl
      | cons e l ih =>
        rw [List.flatMap_cons, List.length_append, ih, hf, List.length_cons]
        omega
  unfold snapPacket
  dsimp only
  rw [List.length_append, hitems _ (fun _ => rfl)]
  rfl

theorem State.snapDone_places {r : SnapRun} {t : State} (hsnap : s.time.snap = some r) (hslot : r.slot = none)
    (hcut : qCut (s.qcfg (field (s.rg 0x07 0x0C0) 4 0)) = false)
    (hpush : ({ s with time := { s.time with snap := none } } : State).blockPush (field (s.rg 0x07 0x0C0) 4 0) r.items =
      (t, .done)) : s.snapDone = (t.evPulse 0x07 3).pulse 0x36 r.wave := by
  have hcut' : ¬ qCut (({ s with time := { s.time with snap := none } } : State).qcfg
      (field (({ s with time := { s.time with snap := none } } : State).rg 0x07 0x0C0) 4 0)) = true := by
    rw [Bool.not_eq_true]
    exact hcut
  unfold State.snapDone
  rw [hsnap]
  dsimp only
  rw [if_neg hcut', show ({ s with time := { s.time with snap := none } } : State).blockPush
    (field (({ s with time := { s.time with snap := none } } : State).rg 0x07 0x0C0) 4 0) r.items = _ from hpush, hslot]
  rfl

/-! ### Discipline -/

theorem State.setDstate_time (d : DState) :
    (s.setDstate d).time = { s.time with estAt := s.now, dstate := d } := by
  unfold State.setDstate
  have h : ∀ u : State, SameBut [] u ((u.levelSource 0x07 0 (d == .locked) 0x35).evLevel 0x07 2 (d == .holdover)) :=
    fun u => (u.levelSource_same _ _ _ _).trans (State.evLevel_same _ _ _ _)
  rw [(h _).time]
  rfl

theorem State.setDstate_same (d : DState) : SameBut [.time] s (s.setDstate d) := by
  unfold State.setDstate State.syncEst
  refine SameBut.trans ?_ (State.evLevel_same _ _ _ _)
  refine SameBut.trans ?_ (State.levelSource_same _ _ _ _ _)
  exact ((s.setRg_same _ _ _).trans (SameBut.set_time _)).trans (SameBut.set_time _)

theorem State.slewBy_shows (units : Int) : SameBut [.time] s (s.slewBy units) ∧
    (s.slewBy units).time = { s.time with slew := units } ∧
      ∀ q o, ra q o ≠ ra 0x07 0x060 → (s.slewBy units).rg q o = s.rg q o := by
  unfold State.slewBy
  exact ⟨(s.draw_same.trans (SameBut.set_time _)).trans (State.setRg_same _ _ _ _), rfl,
    fun q o h => State.rg_setRg_other h⟩

/-- A small error of a parent that stays moves the slew of a locked clock. -/
theorem State.actOn_small {e : Int} (hlocked : s.time.dstate = .locked) (hdepth : s.time.depth ≤ 8)
    (hsmall : (e.natAbs : Int) * 1000000000 ≤ (field (s.rg 0x07 0x04C) 19 8 : Int) * 2 ^ 33) :
    s.actOn e false = s.slewBy (e / 2) := by
  have hdeep : ¬ s.time.depth > 8 := by omega
  unfold State.actOn
  dsimp only
  rw [Bool.false_and, decide_eq_false hdeep, if_neg (by decide), hlocked]
  dsimp only
  rw [if_pos (by simpa using hsmall)]

theorem SameBut.set_time_link (s : State) {time link} :
    SameBut [.time, .link] s { s with time := time, link := link } := by
  intro b hb
  cases b
  case time | link => exact absurd (by decide) hb
  case stack | fabric => exact ⟨rfl, rfl, rfl⟩
  all_goals exact rfl

/-- A sample of the parent followed, whose paths are known and whose error is small, moves the slew. -/
theorem State.takeSample_small {x : Exchange} {p : Peer} {e : Int} (hsample : s.time.sample = some x)
    (hchanged : x.changed = false) (hdisc : s.disciplined = true) (hawake : s.pwr.depth = .awake)
    (hlocked : s.time.dstate = .locked) (hdepth : x.depth ≤ 8) (hpeer : s.peer x.parent = some p)
    (hpaths : p.paths ≠ []) (ht4 : x.t4 = none) (he : e = 2 * (x.t2 - x.t1).toInt - pathMean p.paths)
    (hsmall : (e.natAbs : Int) * 1000000000 ≤ (field (s.rg 0x07 0x04C) 19 8 : Int) * 2 ^ 33) :
    SameBut [.time, .link] s s.takeSample ∧
      s.takeSample.time = { s.time with sample := none, depth := x.depth, missed := 0, slew := e / 2 } ∧
      s.takeSample.rg 0x07 0x054 = BitVec.ofInt 32 (clampSigned 32 (e * 1000000000 / 2 ^ 33)) := by
  have hdisc' : ({ s with time := { s.time with sample := none } } : State).disciplined = true := hdisc
  have hpeer' : ({ s with time := { s.time with sample := none } } : State).peer x.parent = some p := hpeer
  have hnot : (!true || s.pwr.depth == .guard || s.pwr.depth == .off || s.time.dstate == .free) = false := by
    rw [hawake, hlocked]
    decide
  unfold State.takeSample
  rw [hsample]
  dsimp only
  rw [hdisc', hnot, if_neg (by decide), hpeer']
  dsimp only
  rw [ht4, if_neg (by simpa using hpaths)]
  dsimp only
  rw [← he, hchanged]
  generalize hu : State.setRg _ 0x07 0x054 _ = u
  have hsame : SameBut [.time, .link] s u := by
    rw [← hu]
    refine SameBut.trans ?_ (State.setRg_same _ _ _ _)
    refine SameBut.trans ?_ (State.setRg_same _ _ _ _)
    refine SameBut.trans ?_ (SameBut.set_time _)
    exact (SameBut.set_time s).trans (State.putPeer_same _ _ _).mono
  have htime : u.time = { s.time with sample := none, depth := x.depth } := by rw [← hu]; rfl
  have hoffset : u.rg 0x07 0x054 = BitVec.ofInt 32 (clampSigned 32 (e * 1000000000 / 2 ^ 33)) := by
    rw [← hu, State.rg_setRg_self]
  have hcfg : u.rg 0x07 0x04C = s.rg 0x07 0x04C := by
    rw [← hu, State.rg_setRg_other (by decide), State.rg_setRg_other (by decide)]
    rfl
  generalize hv : ({ u with time := { u.time with missed := 0 }
                            link := { u.link with newParent := false } } : State) = v
  have hvtime : v.time = { s.time with sample := none, depth := x.depth, missed := 0 } := by rw [← hv, htime]
  have hvrg : ∀ q o, v.rg q o = u.rg q o := fun q o => by rw [← hv]; rfl
  have hvsame : SameBut [.time, .link] s v := by
    rw [← hv]
    exact hsame.trans (SameBut.set_time_link _)
  rw [State.actOn_small (by rw [hvtime]; exact hlocked) (by rw [hvtime]; exact hdepth) (by rw [hvrg, hcfg]; exact hsmall)]
  obtain ⟨hslew, hslewtime, hslewrg⟩ := v.slewBy_shows (e / 2)
  refine ⟨hvsame.trans hslew.mono, ?_, ?_⟩
  · rw [hslewtime, hvtime]
  · rw [hslewrg _ _ (by decide), hvrg, hoffset]

end

/-- Settles O34, part by part. -/
theorem timeAndSnapshots : Obligations.TimeAndSnapshots := by
  unfold Obligations.TimeAndSnapshots
  rintro s tag k v rfl hv
  refine ⟨fun hrun hready hargs hfree => ⟨fun hrel => ⟨?_, State.stepTime_now v⟩, fun habs => ⟨?_, ?_⟩⟩,
    fun hrun hready hsnap hsense => ⟨fun hoff => ?_, fun hon => ?_⟩, fun r hrun hready hsnap hslot => ?_,
    fun hheld hsnap => ?_, fun r t hsnap hslot hcut hpush => congrArg Host.Outcome.next
      (State.snapDone_places hsnap hslot hcut hpush), fun n => ⟨fun h => congrArg Host.Outcome.next (if_pos h), fun h => ?_⟩,
    fun hdisc hawake hfree => ?_, fun x p e hsample hchanged hdisc hawake hlocked hdepth hpeer hpaths ht4 he hsmall => ?_,
    fun hsample => ?_, fun hlocked hlate => ?_, fun hlocked => ?_⟩
  · have heff : epochEffect (s.slot tag.val) s = (s.stepTime v.toInt, some .done) := by
      unfold epochEffect
      rw [hfree, if_neg (by decide), ← hv]
      dsimp only
      rw [hrel, if_pos rfl]
    exact congrArg Host.Outcome.next (State.runOp_ends hrun (by simp [hargs]) hready heff)
  · have heff : epochEffect (s.slot tag.val) s = (s.stepTime (v - s.now).toInt, some .done) := by
      unfold epochEffect
      rw [hfree, if_neg (by decide), ← hv]
      dsimp only
      rw [habs, if_neg (by decide)]
    exact congrArg Host.Outcome.next (State.runOp_ends hrun (by simp [hargs]) hready heff)
  · rw [State.stepTime_now]
    exact add_sub_cancel _ _
  · have heff := (snapEffect_free (tag := tag.val) (k := s.slot tag.val) hsnap hsense).1 hoff
    generalize hu : (s.updRg 0x07 0x0C4 (fun w => wrapField w 7 0 1)).setPair 0x07 0x0C8 s.now = u at heff
    have hsame : SameBut [.ops] s (u.setResult tag.val .done) :=
      hu ▸ ((s.updRg_same _ _ _).trans (State.setPair_same _ _ _ _)).trans (State.setResult_same _ _ _)
    exact ⟨_, congrArg Host.Outcome.next (State.runOp_ends hrun rfl hready heff), by rw [State.slot_setResult_self],
      hsame.time, hsame.gran⟩
  · obtain ⟨seq, heff⟩ := (snapEffect_free (tag := tag.val) (k := s.slot tag.val) hsnap hsense).2 hon
    exact ⟨_, _, congrArg Host.Outcome.next (State.runOp_waits hrun rfl hready heff), rfl, rfl,
      length_snapPacket _ _ _ _, rfl, rfl⟩
  · exact congrArg Host.Outcome.next (State.runOp_ends hrun rfl hready (snapEffect_busy hsnap hslot))
  · have hsnap' : (s.clearTask 0x24).time.snap.isSome = true := hsnap
    refine congrArg Host.Outcome.next ?_
    dsimp only
    unfold State.snapTrigger
    dsimp only
    rw [hheld, hsnap', if_neg (by decide), if_pos (by rfl)]
  · exact congrArg Host.Outcome.next (if_neg (by simp [h]))
  · have heff : s.startDiscipline = { s.setDstate .acquire with
        time := { (s.setDstate .acquire).time with agree := 0, missed := 0 } } := by
      unfold State.startDiscipline
      rw [hdisc, hawake, hfree, if_pos (by decide)]
    have htime := State.setDstate_time (s := s) .acquire
    have hsame := State.setDstate_same (s := s) .acquire
    refine ⟨_, congrArg Host.Outcome.next heff, ?_, rfl, rfl, ?_, hsame.gran, hsame.own⟩
    · exact congrArg TimeState.dstate htime
    · exact (congrArg TimeState.now htime :)
  · obtain ⟨hsame, htime, hoffset⟩ := State.takeSample_small hsample hchanged hdisc hawake hlocked hdepth hpeer hpaths
      ht4 he hsmall
    refine ⟨_, rfl, ?_, ?_, ?_, ?_, ?_, ?_, hoffset, hsame.gran, hsame.own⟩
    · rw [htime]
      exact hlocked
    all_goals rw [htime]
  · refine congrArg Host.Outcome.next ?_
    unfold State.takeSample
    rw [hsample]
  · have hover : s.holdoverEntry = ({ s with time := { s.time with missed := s.time.missed + 1 } } : State).setDstate
        .holdover := by
      unfold State.holdoverEntry
      dsimp only
      refine if_pos ?_
      rw [hlocked]
      rcases hlate with h | h
      · have : s.time.missed + 1 ≥ 3 := by omega
        simp [this]
      · simp [h]
    have htime := State.setDstate_time (s := { s with time := { s.time with missed := s.time.missed + 1 } }) .holdover
    have hsame := State.setDstate_same (s := { s with time := { s.time with missed := s.time.missed + 1 } }) .holdover
    refine ⟨_, congrArg Host.Outcome.next hover, ?_, ?_, ?_, hsame.gran, hsame.own⟩
    all_goals rw [htime]
  · exact congrArg Host.Outcome.next (if_neg (by simp [hlocked]))

end Sys2Proof.Machine
end

section
/-!
PROOFS. Winnow: its inputs, its ticks and its rules.
-/
namespace Sys2Proof.Machine

/-- The parts an edge of a rule can reach. -/
def edgeParts : List Part := [.win, .pwr, .queues, .svc]

section
variable {l : List Part} {s t u : State} {r : Nat} {x : Rule} {g : CondCfg}

theorem SameBut.rule (h : SameBut l s t) (hl : .win ∉ l := by decide) (r : Nat) : t.rule r = s.rule r := by
  rw [State.rule, h.win hl]
  rfl

theorem State.rule_putRule (r k : Nat) (x : Rule) : (s.putRule r x).rule k = if k = r then x else s.rule k := Tab.get_set

@[simp] theorem State.rule_putRule_self (r : Nat) (x : Rule) : (s.putRule r x).rule r = x := Tab.get_set_self

/-! ### Edges -/

/-- The inputs that wait and every rule's OUT stand. -/
structure OutsKept (s t : State) : Prop where
  inputs : t.win.inputs = s.win.inputs
  out : ∀ r, (t.rule r).out = (s.rule r).out

theorem OutsKept.refl (s : State) : OutsKept s s := ⟨rfl, fun _ => rfl⟩

theorem OutsKept.trans (h : OutsKept s t) (g : OutsKept t u) : OutsKept s u :=
  ⟨g.inputs.trans h.inputs, fun r => (g.out r).trans (h.out r)⟩

theorem SameBut.outs (h : SameBut l s t) (hl : .win ∉ l := by decide) : OutsKept s t :=
  ⟨by rw [h.win hl], fun r => by rw [h.rule hl]⟩

theorem State.putRule_outs (hout : x.out = (s.rule r).out) : OutsKept s (s.putRule r x) := by
  refine ⟨rfl, fun k => ?_⟩
  rw [State.rule_putRule]
  split
  · rename_i h
    rw [h, hout]
  · rfl

theorem State.ruleRecord_same (e : Edge) : SameBut [.queues, .svc] s (s.ruleRecord e) := by
  have hpush : ∀ n ws, SameBut [.queues, .svc] s (s.blockPush n ws).1 := fun n ws => s.blockPush_same _ _
  unfold State.ruleRecord
  dsimp only
  exact .ite (hpush _ _) (((hpush _ _).trans (State.updRg_same _ _ _ _)).trans (State.evPulse_same _ _ _))

/-- t is s but for what an edge of a rule can reach; the inputs and every OUT stand. -/
structure Edged (s t : State) : Prop where
  same : SameBut edgeParts s t
  outs : OutsKept s t

theorem Edged.later (h : Edged s t) (g : SameBut [.pwr, .queues, .svc] t u) : Edged s u :=
  ⟨h.same.trans g.mono, h.outs.trans g.outs⟩

theorem State.putRule_edged (hout : x.out = (s.rule r).out) : Edged s (s.putRule r x) :=
  ⟨(s.putRule_same _ _).mono, State.putRule_outs hout⟩

/-- The event and the wake of an edge, one of each line in one evaluation. -/
theorem State.edgeLine_same (ev : Nat) (off again : Bool) (lines : List Nat) : SameBut [.pwr, .queues, .svc] s
    (if off then (s, lines) else if again then (s.updRg 0x1A 0x058 (fun w => satField w 31 24 1), lines)
      else (((s.evPulse 0x1A ev).pulse ev).fireWake (0x24 + ev), ev :: lines)).1 := by
  cases off
  · cases again
    · exact ((s.evPulse_same _ _).trans (State.pulse_same _ _ _)).trans (State.fireWake_same _ _)
    · exact s.updRg_same _ _ _
  · exact .refl s

theorem Edged.ite_fst {c : Prop} {_ : Decidable c} {a b : State × List Nat} (ha : Edged s a.1) (hb : Edged s b.1) :
    Edged s (if c then a else b).1 := by
  split
  · exact ha
  · exact hb

theorem State.fireEdge_edged (lines : List Nat) (e : Edge) : Edged s (s.fireEdge lines e).1 := by
  unfold State.fireEdge
  refine .ite_fst ⟨.refl s, .refl s⟩ (.ite_fst (State.putRule_edged rfl) ?_)
  refine Edged.later (t := s.putRule e.rule { s.rule e.rule with
    fires := if (s.rule e.rule).fires = 65535 then 65535 else (s.rule e.rule).fires + 1, fired := some e.stamp })
    (State.putRule_edged rfl) ?_
  exact SameBut.iteThen (State.edgeLine_same _ _ _ lines) (State.ruleRecord_same _).mono

/-! ### An input -/

theorem Cond.become_s (c : Cond) (v : Bool) (st : Stamp) (src : Nat) : (c.become v st src).1.s = v := by
  unfold Cond.become
  split
  · assumption
  · rfl

/-- A sample of a threshold condition's source decides its state. -/
theorem Cond.sample_thresh {c : Cond} {guard : Bool} {src : Nat} {v : Int} {st : Stamp} {tag : Bool} (hkind : g.kind = 0)
    (hdelta : g.delta = false) : (c.sample g guard 1 src false v st tag).1.s = g.thresh c.s v := by
  unfold Cond.sample
  simp only [hdelta, hkind, beq_self_eq_true, if_true]
  exact Cond.become_s _ _ _ _

theorem Rule.cond_putCond_self (k : Nat) (c : Cond) : (x.putCond k c).cond k = c := Tab.get_set_self

/-- A rule of one condition shows it, inverted or not. -/
theorem Rule.combine_one (hn : x.ncond = 1) (hmode : field (x.word 0) 1 0 ≤ 1) : x.combine = x.shown 0 := by
  unfold Rule.combine
  dsimp only
  rw [hn]
  rcases Nat.le_one_iff_eq_zero_or_eq_one.1 hmode with h | h
  · rw [h]
    simp [List.range_succ]
  · rw [h]
    simp [List.range_succ]

/-- A rule of one condition that is evaluated has that condition's new state as its OUT. -/
theorem State.evalRule_one {hits : CondCfg → Bool} {ev : CondCfg → Cond → Cond × Option Stamp} {lines : List Nat}
    (hx : s.rule r = x) (hg : x.cfg 0 = g) (hbad : x.bad = []) (hn : x.ncond = 1) (hmode : field (x.word 0) 1 0 ≤ 1)
    (hq : s.condQuarantined g = false) (hhit : hits g = true) (hkind : g.kind ≠ 3) (hinv : g.inv = false) :
    SameBut edgeParts s (s.evalRule r hits ev lines).1 ∧
      (s.evalRule r hits ev lines).1.win.inputs = s.win.inputs ∧
      ((s.evalRule r hits ev lines).1.rule r).out = (ev g (x.cond 0)).1.s := by
  have hks : (List.range x.ncond).filter (fun k => hits (x.cfg k) && !s.condQuarantined (x.cfg k)) = [0] := by
    rw [hn]
    simp [List.range_succ, hg, hhit, hq]
  have hout : (x.putCond 0 (ev g (x.cond 0)).1).combine = (ev g (x.cond 0)).1.s := by
    have hcfg : (x.putCond 0 (ev g (x.cond 0)).1).cfg 0 = g := hg
    rw [Rule.combine_one (x := x.putCond 0 (ev g (x.cond 0)).1) hn hmode, Rule.shown, Rule.cond_putCond_self, hcfg, hinv, Bool.bne_false]
  unfold State.evalRule
  dsimp only
  rw [hx, hks, if_neg (by simp), hbad, if_neg (by simp)]
  simp only [List.foldl_cons, List.foldl_nil, hg, hn, List.range_succ, List.range_zero, List.nil_append,
    beq_eq_false_iff_ne.2 hkind, Bool.false_eq_true, if_false]
  generalize hy : ({ x.putCond 0 (ev g (x.cond 0)).1 with
    out := (x.putCond 0 (ev g (x.cond 0)).1).combine } : Rule) = y
  have hyout : y.out = (ev g (x.cond 0)).1.s := by rw [← hy, hout]
  have hput : SameBut edgeParts s (s.putRule r y) := (s.putRule_same r y).mono
  have hself : ((s.putRule r y).rule r).out = (ev g (x.cond 0)).1.s := by rw [State.rule_putRule_self, hyout]
  split
  · exact ⟨hput, rfl, hself⟩
  · split
    · exact ⟨hput, rfl, hself⟩
    · obtain ⟨hsame, houts⟩ := State.fireEdge_edged (s := s.putRule r y) lines _
      exact ⟨hput.trans hsame, houts.inputs, (houts.out r).trans hself⟩

/-- An input from the buffer moves the threshold condition that observes it, and its rule's OUT. -/
theorem State.takeInput_thresh {i : WinIn} {rest : List WinIn} (hin : s.win.inputs = i :: rest) (htick : i.tick = false)
    (hen : s.enabledRules = [r]) (hx : s.rule r = x) (hg : x.cfg 0 = g) (hbad : x.bad = []) (hn : x.ncond = 1)
    (hmode : field (x.word 0) 1 0 ≤ 1) (hdepth : s.pwr.depth ≠ .guard) (hq : s.condQuarantined g = false)
    (hobs : s.observes g 1 i.src = true) (hkind : g.kind = 0) (hdelta : g.delta = false) (hinv : g.inv = false) :
    SameBut edgeParts s s.takeInput ∧ s.takeInput.win.inputs = rest ∧
      (s.takeInput.rule r).out = g.thresh (x.cond 0).s i.value := by
  unfold State.takeInput State.evalRules
  rw [hin]
  dsimp only
  rw [htick, if_neg (by decide)]
  generalize hu : ({ s with win := { s.win with inputs := rest } } : State) = u
  have husame : SameBut edgeParts s u := hu ▸ SameBut.set_win s
  have huen : u.enabledRules = [r] := by rw [← hu]; exact hen
  have hurule : u.rule r = x := by rw [← hu]; exact hx
  have huq : u.condQuarantined g = false := by rw [← hu]; exact hq
  have huobs : u.observes g 1 i.src = true := by rw [← hu]; exact hobs
  have hudepth : (u.pwr.depth != .guard) = true := by rw [← hu]; simpa using hdepth
  have huin : u.win.inputs = rest := by rw [← hu]
  rw [huen, List.foldl_cons, List.foldl_nil, if_pos (by dsimp only; rw [hudepth, Bool.or_true])]
  obtain ⟨hsame, hinputs, hout⟩ := State.evalRule_one (s := u) (lines := [])
    (hits := fun c => u.observes c 1 i.src || (c.kind == 3 && u.observes c 2 i.src))
    (ev := fun g c => c.sample g (s.pwr.depth == .guard) (if u.observes g 1 i.src then 1 else 2) i.src false i.value
      i.stamp i.tag) hurule hg hbad hn hmode huq (by rw [huobs, Bool.true_or]) (by rw [hkind]; decide) hinv
  refine ⟨husame.trans hsame, hinputs.trans huin, hout.trans ?_⟩
  rw [huobs, if_pos rfl]
  exact Cond.sample_thresh hkind hdelta

/-! ### A tick -/

theorem State.winEnter_unseen {hits : CondCfg → Bool} {i : WinIn} (hen : s.enabledRules = []) : s.winEnter hits i = s := by
  unfold State.winEnter
  dsimp only
  rw [hen]
  simp

theorem State.winEnter_full {hits : CondCfg → Bool} {i : WinIn} (hruns : s.winRuns = true) (hen : s.enabledRules = [r])
    (hx : s.rule r = x) (hn : x.ncond = 1) (hhit : hits (x.cfg 0) = true) (hdepth : s.pwr.depth ≠ .guard)
    (hfull : 64 ≤ s.win.inputs.length) :
    s.winEnter hits i = (s.updRg 0x1A 0x058 (fun w => satField w 15 0 1)).evPulse 0x1A 24 := by
  unfold State.winRuns at hruns
  rw [Bool.and_eq_true] at hruns
  have hseen : s.enabledRules.any (fun r => ((s.rule r).guard || s.pwr.depth != .guard) &&
      (List.range (s.rule r).ncond).any (fun k => hits ((s.rule r).cfg k))) = true := by
    rw [hen]
    simp [hx, hn, hhit, hdepth, List.range_succ]
  unfold State.winEnter
  dsimp only
  rw [hruns.1, hseen, if_pos (by rfl), if_pos hfull]

/-- The tick that comes next. -/
def State.nextTick (s : State) : Nat :=
  if s.now.toNat / s.tickLen = s.win.tick then s.now.toNat / s.tickLen + 1 else s.now.toNat / s.tickLen

/-- The state at the next tick. -/
def State.atTick (s : State) : State :=
  let s1 := s.reach (BitVec.ofNat 64 (s.nextTick * s.tickLen))
  { s1 with win := { s1.win with tick := s.nextTick } }

/-- The input a tick is. -/
def State.tickInput (s : State) : WinIn :=
  { tick := true, stamp := BitVec.ofNat 64 (s.nextTick * s.tickLen), samples := s.atTick.tickSamples }

/-- What a tick does once its time is reached. -/
def State.tickEnters (u : State) (i : WinIn) : State :=
  if u.winRuns then
    if u.win.inputs.isEmpty then (u.winEnter u.tickHits i).takeInput else u.winEnter u.tickHits i
  else u

theorem State.winTick_eq (s : State) : s.winTick = s.atTick.tickEnters s.tickInput := rfl

theorem State.atTick_eq (s : State) :
    ∃ tm, s.atTick = { s with time := tm, win := { s.win with tick := s.nextTick } } := ⟨_, rfl⟩

/-- The time reached is no part of what the rules are. -/
theorem State.timed_keeps (s : State) (tm : TimeState) (n : Nat) :
    let u : State := { s with time := tm, win := { s.win with tick := n } }
    u.winRuns = s.winRuns ∧ u.enabledRules = s.enabledRules ∧ (∀ r, u.rule r = s.rule r) ∧
      u.tickHits = s.tickHits ∧ SameBut [.time, .win] s u := by
  refine ⟨rfl, rfl, fun _ => rfl, rfl, ?_⟩
  exact (SameBut.set_time s (time := tm)).trans (SameBut.set_win _)

theorem State.takeInput_empty (h : s.win.inputs = []) : s.takeInput = s := by
  unfold State.takeInput
  rw [h]

/-- A tick no rule sees is no input. -/
theorem State.tickEnters_unseen {i : WinIn} (hruns : s.winRuns = true) (hen : s.enabledRules = []) :
    s.tickEnters i = s := by
  unfold State.tickEnters
  rw [hruns, if_pos rfl, State.winEnter_unseen hen]
  split
  · rename_i h
    exact State.takeInput_empty (List.isEmpty_iff.1 h)
  · rfl

/-- A tick that finds the buffer full is dropped and counted. -/
theorem State.tickEnters_full {i : WinIn} (hruns : s.winRuns = true) (hen : s.enabledRules = [r]) (hx : s.rule r = x)
    (hn : x.ncond = 1) (hhit : s.tickHits (x.cfg 0) = true) (hdepth : s.pwr.depth ≠ .guard)
    (hfull : 64 ≤ s.win.inputs.length) :
    s.tickEnters i = (s.updRg 0x1A 0x058 (fun w => satField w 15 0 1)).evPulse 0x1A 24 := by
  have hsome : ¬ s.win.inputs.isEmpty = true := by
    rw [List.isEmpty_iff]
    intro h
    rw [h] at hfull
    simp at hfull
  unfold State.tickEnters
  rw [hruns, if_pos rfl, if_neg hsome, State.winEnter_full hruns hen hx hn hhit hdepth hfull]

/-! ### LOAD -/

theorem State.words_restartRule (r k : Nat) : ((s.restartRule r).rule k).words = (s.rule k).words := by
  unfold State.restartRule
  dsimp only
  rw [State.rule_putRule]
  split
  · rename_i h
    rw [h]
    generalize hy : s.rule r = y
    have hall : ∀ (ks : List Nat) (z : Rule), (ks.foldl (fun acc k => acc.putCond k (freshCond (y.cfg k) s.now)) z).words =
        z.words := fun ks => by
      induction ks with
      | nil => exact fun _ => rfl
      | cons k ks ih => exact fun z => (ih _).trans rfl
    exact hall _ _
  · rfl

/-- A record of LOAD put into the store: its rule, its enable bit and its restart. -/
def State.loadRule (s : State) (r : Nat) (x : Rule) : State :=
  ((s.putRule r x).updRg 0x1A (0x060 + 4 * (r / 32)) (fun w => setFlag w (r % 32) false)).restartRule r

theorem State.rule_loadRule (r k : Nat) (x : Rule) :
    ((s.loadRule r x).rule k).words = if k = r then x.words else (s.rule k).words := by
  unfold State.loadRule
  rw [State.words_restartRule]
  refine (congrArg Rule.words (State.rule_putRule r k x)).trans ?_
  split <;> rfl

theorem State.rule_loadRule_other {k : Nat} (hk : k ≠ r) : (s.loadRule r x).rule k = s.rule k := by
  unfold State.loadRule State.restartRule
  dsimp only
  rw [State.rule_putRule, if_neg hk]
  exact (State.rule_putRule r k x).trans (if_neg hk)

/-- A rule loaded is not enabled, and no other rule becomes so. -/
theorem State.ruleEn_loadRule {k : Nat} (hr : r < 128) (hk : k < 128) (h : k = r ∨ s.ruleEn k = false) :
    (s.loadRule r x).ruleEn k = false := by
  have hrg : ∀ q o, (s.loadRule r x).rg q o =
      (s.updRg 0x1A (0x060 + 4 * (r / 32)) (fun w => setFlag w (r % 32) false)).rg q o := fun _ _ => rfl
  unfold State.ruleEn
  rw [hrg, State.updRg]
  by_cases hword : k / 32 = r / 32
  · rw [hword, State.rg_setRg_self, flag_setFlag (by omega)]
    rcases h with rfl | h
    · simp
    · split
      · rfl
      · rw [← hword]
        exact h
  · rw [State.rg_setRg_other (by rw [ne_eq, ra_inj (by omega) (by omega)]; omega)]
    rcases h with rfl | h
    · exact absurd rfl hword
    · exact h

/-- The records of LOAD in the store, in their places. -/
theorem State.foldl_loadRule (first : Nat) (rs : List Rule) : ∀ (n : Nat) (u : State), first + n + rs.length ≤ 128 →
    (∀ i (hi : i < rs.length), (((rs.zipIdx n).foldl (fun acc e => acc.loadRule (first + e.2) e.1) u).rule
        (first + n + i)).words = rs[i].words ∧
      ((rs.zipIdx n).foldl (fun acc e => acc.loadRule (first + e.2) e.1) u).ruleEn (first + n + i) = false) ∧
    (∀ r, r < first + n ∨ first + n + rs.length ≤ r →
      ((rs.zipIdx n).foldl (fun acc e => acc.loadRule (first + e.2) e.1) u).rule r = u.rule r) ∧
    ∀ r, r < 128 → u.ruleEn r = false →
      ((rs.zipIdx n).foldl (fun acc e => acc.loadRule (first + e.2) e.1) u).ruleEn r = false := by
  induction rs with
  | nil => exact fun n u _ => ⟨fun i hi => absurd hi (by simp), fun _ _ => rfl, fun _ _ h => h⟩
  | cons y rs ih =>
    intro n u hlen
    rw [List.length_cons] at hlen
    obtain ⟨hplaced, hother, hoff⟩ := ih (n + 1) (u.loadRule (first + n) y) (by omega)
    refine ⟨fun i hi => ?_, fun r hr => ?_, fun r hr h => ?_⟩
    · cases i with
      | zero =>
        refine ⟨?_, hoff _ (by omega) (State.ruleEn_loadRule (by omega) (by omega) (.inl rfl))⟩
        refine (congrArg Rule.words (hother _ (.inl (by omega)))).trans ?_
        rw [State.rule_loadRule, if_pos (by omega)]
        rfl
      | succ i =>
        obtain ⟨hwords, hen⟩ := hplaced i (by simpa using hi)
        rw [show first + n + (i + 1) = first + (n + 1) + i by omega]
        exact ⟨hwords, hen⟩
    · rw [List.length_cons] at hr
      exact (hother r (by omega)).trans (State.rule_loadRule_other (by omega))
    · exact hoff r hr (State.ruleEn_loadRule (by omega) hr (.inr h))

theorem State.ruleEn_refreshWinnow (hr : r < 128) : s.refreshWinnow.ruleEn r = s.ruleEn r := by
  have hq : Quiet (0x060 + 4 * (r / 32)) := by
    unfold Quiet
    omega
  refine congrArg (flag · (r % 32)) ?_
  unfold State.refreshWinnow State.setDegraded
  dsimp only
  rw [State.rg_setReadyBits hq, State.rg_evLevel hq, State.rg_evLevel hq,
    State.rg_setRg_other (by rw [ne_eq, ra_inj (by omega) (by omega)]; omega),
    State.rg_setRg_other (by rw [ne_eq, ra_inj (by omega) (by omega)]; omega)]

/-- LOAD of legal records that it does not enable puts them into the store. -/
theorem winLoadEffect_loads {a : Slot} {words : List Word} {first count : Nat} (hfirst : first = field (a.arg 2) 6 0)
    (hcount : count = field (a.arg 2) 15 8) (hawake : s.pwr.depth = .awake) (hen : flag (a.arg 3) 0 = false)
    (hbusy : (flag (a.arg 0) 0 && s.flashBusy (a.arg 1).toNat (80 * count)) = false)
    (hread : s.sourceWords (flag (a.arg 0) 0) true (a.arg 1).toNat (20 * count) = (u, words, true))
    (hlegal : ∀ i, i < count → recordLegal (chunk words 20 i) = true) :
    winLoadEffect a s = (((((List.range count).map (fun i => ruleOf (chunk words 20 i))).zipIdx).foldl
      (fun acc e => acc.loadRule (first + e.2) e.1) u).refreshWinnow, some .done) := by
  have hnone : ((List.range count).map (chunk words 20)).any (fun y => !recordLegal y) = false := by
    rw [List.any_map, List.any_eq_false]
    intro i hi
    simp [hlegal i (List.mem_range.1 hi)]
  unfold winLoadEffect
  dsimp only
  rw [← hcount, ← hfirst, hawake, if_neg (by simp), hbusy, if_neg (by decide), hread]
  dsimp only
  rw [hnone, hen, Bool.false_and, Bool.false_or, if_neg (by decide), Bool.false_and, if_neg (by decide), List.map_map]
  rfl

/-- Rules that are legal and without a parity error are enabled where they fit. -/
theorem winEnEffect_legal {w : Word} {k : Nat} {new rules : List Nat}
    (hnew : new = (List.range 32).filter (fun i => flag w i && !flag (s.rg 0x1A (0x060 + 4 * k)) i))
    (hrules : rules = (List.range 128).filter (fun r => if r / 32 == k then flag w (r % 32) else s.ruleEn r))
    (hok : ∀ i, i ∈ new → s.ruleLegal (s.rule (32 * k + i)) = true ∧ (s.rule (32 * k + i)).perr = false) :
    winEnEffect k w s =
      if !new.isEmpty && !s.fits (rules.map s.rule) then (s.demand (rules.map s.rule), .busy)
      else ((new.foldl (fun acc i => acc.restartRule (32 * k + i)) (s.setRg 0x1A (0x060 + 4 * k) w)).refreshWinnow,
        .done) := by
  have hlegal : new.any (fun i => !s.ruleLegal (s.rule (32 * k + i))) = false := by
    rw [List.any_eq_false]
    intro i hi
    simp [(hok i hi).1]
  have hperr : new.any (fun i => (s.rule (32 * k + i)).perr) = false := by
    rw [List.any_eq_false]
    intro i hi
    simp [(hok i hi).2]
  unfold winEnEffect
  dsimp only
  rw [← hnew, ← hrules, hlegal, if_neg (by decide), hperr, if_neg (by decide)]

end

/-- Settles O35, part by part. -/
theorem winnow : Obligations.Winnow := by
  unfold Obligations.Winnow
  intro s tag m w k
  refine ⟨fun i rest r x g hruns hin htick hen hx hg hbad hn hmode hdepth hq hobs hkind hdir hdelta hinv => ?_,
    fun hruns => congrArg Host.Outcome.next (if_neg (by simp [hruns])), fun hdead hruns => ?_,
    fun hdead hruns hen => ?_, fun r x hdead hruns hen hx hn hhit hdepth hfull => ?_,
    fun a u l first count ha hfirst hcount hrun hready hargs hawake hen hbusy hread hlegal => ?_,
    fun new rules hnew hrules hg => ⟨fun hok hfits => ?_, fun i hi hlegal => ?_, fun hok hne hfits => ?_⟩⟩
  · obtain ⟨hsame, hinputs, hout⟩ := State.takeInput_thresh hin htick hen hx hg hbad hn hmode hdepth hq hobs hkind hdelta
      hinv
    have hthresh : g.thresh (x.cond 0).s i.value = (if i.value ≥ g.a then true
        else if i.value < wrap32 (g.a - g.b) then false else (x.cond 0).s) := by
      unfold CondCfg.thresh
      rw [hdir, if_neg (by decide)]
    exact ⟨_, congrArg Host.Outcome.next (if_pos hruns), hinputs, hout.trans hthresh, hsame.own, hsame.flash⟩
  · refine ⟨s.nextTick, ?_, ?_, ?_⟩
    · unfold State.nextTick
      split <;> omega
    · unfold State.nextTick
      split <;> omega
    · obtain ⟨tm, htm⟩ := s.atTick_eq
      refine congrArg Host.Outcome.next ((if_neg (by simp [hdead])).trans ?_)
      rw [State.winTick_eq, State.tickEnters, if_neg]
      · rfl
      · rw [htm, (s.timed_keeps tm s.nextTick).1, hruns]
        decide
  · obtain ⟨tm, htm⟩ := s.atTick_eq
    obtain ⟨hruns', hen', hrule, -, hsame⟩ := s.timed_keeps tm s.nextTick
    rw [← htm] at hruns' hen' hsame hrule
    refine ⟨_, congrArg Host.Outcome.next ((if_neg (by simp [hdead])).trans (State.winTick_eq s)), ?_, ?_, ?_⟩
    all_goals rw [State.tickEnters_unseen (hruns'.trans hruns) (hen'.trans hen)]
    · rw [htm]
    · exact hsame.gran
    · exact hsame.own
  · obtain ⟨tm, htm⟩ := s.atTick_eq
    obtain ⟨hruns', hen', hrule, hhits, hsame⟩ := s.timed_keeps tm s.nextTick
    rw [← htm] at hruns' hen' hsame hrule hhits
    have hwin : s.atTick.win.inputs = s.win.inputs := by rw [htm]
    have hregs : s.atTick.rg 0x1A 0x058 = s.rg 0x1A 0x058 := by
      rw [htm]
      rfl
    have hpulse : SameBut [] s.atTick ((s.atTick.updRg 0x1A 0x058 (fun w => satField w 15 0 1)).evPulse 0x1A 24) :=
      (State.updRg_same _ _ _ _).trans (State.evPulse_same _ _ _)
    refine ⟨_, congrArg Host.Outcome.next ((if_neg (by simp [hdead])).trans (State.winTick_eq s)), ?_, ?_, ?_, ?_, ?_⟩
    all_goals rw [State.tickEnters_full (hruns'.trans hruns) (hen'.trans hen) ((hrule r).trans hx) hn
      (by rw [hhits]; exact hhit) (by rw [hsame.pwr]; exact hdepth) (by rw [hwin]; exact hfull)]
    · rw [hpulse.win, hwin]
    · rw [hpulse.win, htm]
    · rw [State.rg_evPulse (by unfold Quiet; omega), State.updRg, State.rg_setRg_self, hregs]
    · exact hpulse.gran.trans hsame.gran
    · exact hpulse.own.trans hsame.own
  · subst ha
    have hbound : first + count ≤ 128 := by
      unfold State.winLoadArgs at hargs
      simp only [Bool.and_eq_true, decide_eq_true_eq] at hargs
      omega
    have heff := winLoadEffect_loads hfirst hcount hawake hen hbusy hread hlegal
    obtain ⟨hplaced, hother, -⟩ := State.foldl_loadRule first ((List.range count).map (fun i =>
      ruleOf (chunk l 20 i))) 0 u (by simpa using hbound)
    generalize hv : ((((List.range count).map (fun i => ruleOf (chunk l 20 i))).zipIdx).foldl
      (fun acc e => acc.loadRule (first + e.2) e.1) u) = v at heff hplaced hother
    have hrule : ∀ r, ((v.refreshWinnow).setResult tag.val .done).rule r = v.rule r := fun r =>
      ((v.refreshWinnow_same (l := [.ops])).trans (State.setResult_same _ _ _)).rule (r := r)
    refine ⟨_, congrArg Host.Outcome.next (State.runOp_ends hrun hargs hready heff), by rw [State.slot_setResult_self],
      fun i hi => ?_, fun r hr => ?_⟩
    · obtain ⟨hwords, hoff⟩ := hplaced i (by simpa using hi)
      rw [hrule]
      refine ⟨?_, ?_⟩
      · rw [← Nat.add_zero first, hwords, List.getElem_map, List.getElem_range]
      · have hres : ∀ t : State, (t.setResult tag.val .done).ruleEn (first + i) = t.ruleEn (first + i) := fun t =>
          congrArg (flag · _) (State.rg_setResult (by unfold Quiet; omega) _ _)
        rw [hres, State.ruleEn_refreshWinnow (by omega)]
        exact hoff
    · rw [hrule]
      exact hother r (by simpa using hr)
  · refine congrArg Host.Outcome.next ?_
    rw [State.write_pass hg, winEnEffect_legal hnew hrules hok, hfits, if_neg (by simp)]
    exact State.complete_done _ _ _ _ _
  · have heff : winEnEffect k.val w s = (s, .arg) := by
      unfold winEnEffect
      dsimp only
      rw [← hnew, if_pos (List.any_eq_true.2 ⟨i, hi, by simp [hlegal]⟩)]
    refine congrArg Host.Outcome.next ?_
    rw [State.write_pass hg, heff]
    rfl
  · refine congrArg Host.Outcome.next ?_
    rw [State.write_pass hg, winEnEffect_legal hnew hrules hok, if_pos (by simp [hfits, hne])]
    rfl

end Sys2Proof.Machine
end

section
/-!
PROOFS. The Loft's regions.
-/
namespace Sys2Proof.Machine

theorem Tab.get_keep {α : Type} {d : Nat → α} (p : Nat → Bool) (t : Tab α) (k : Nat) :
    Tab.get d (Tab.keep p t) k = if p k then Tab.get d t k else d k := by
  induction t with
  | nil => cases h : p k <;> rfl
  | cons e t ih =>
    obtain ⟨j, v⟩ := e
    unfold Tab.keep
    rw [Tab.get_cons]
    by_cases hk : k = j
    · subst hk
      cases h : p k
      · simp [h, ih]
      · simp [Tab.get_cons]
    · rw [if_neg hk]
      cases h : p j
      · simp only [Bool.false_eq_true, if_false, ih]
      · simp only [if_true, Tab.get_cons, if_neg hk, ih]

section
variable {l : List Part} {s t u : State} {h n : Nat} {r : Region}

/-! ### What keeps the regions, the frames' bytes, and the copies -/

/-- The regions, the bytes of SRAM, and the copies that run or wait stand. -/
structure MapKept (s t : State) : Prop where
  regions : t.gran.regions = s.gran.regions
  sram : t.gran.sram = s.gran.sram
  copy : t.gran.copy = s.gran.copy
  jobs : t.gran.jobs = s.gran.jobs

theorem MapKept.refl (s : State) : MapKept s s := ⟨rfl, rfl, rfl, rfl⟩

theorem MapKept.trans (hs : MapKept s t) (g : MapKept t u) : MapKept s u :=
  ⟨g.regions.trans hs.regions, g.sram.trans hs.sram, g.copy.trans hs.copy, g.jobs.trans hs.jobs⟩

theorem SameBut.map (hs : SameBut l s t) (hl : .gran ∉ l := by decide) : MapKept s t := by
  have hgran := hs.gran hl
  exact ⟨by rw [hgran], by rw [hgran], by rw [hgran], by rw [hgran]⟩

theorem MapKept.region (hs : MapKept s t) (g : Nat) : t.region g = s.region g := by
  rw [State.region, hs.regions]
  rfl

theorem State.place_map (kind reason subject choice from_ : Nat) (detail : Word) :
    MapKept s (s.place kind reason subject choice from_ detail) := by
  have hring : MapKept s { s with gran := { s.gran with
      ring := ({ w0 := pack [(0, 4, kind), (4, 4, reason), (8, 8, subject), (16, 8, choice), (24, 8, from_)]
                 w1 := detail, stamp := s.now } :: s.gran.ring).take 64 } } := ⟨rfl, rfl, rfl, rfl⟩
  have htell : ∀ w : State, SameBut [] w ((w.updRg 0x1C 0x08C (fun w => wrapField w 15 0 1)).evPulse 0x1C 3) := fun w =>
    (w.updRg_same _ _ _).trans (State.evPulse_same _ _ _)
  exact hring.trans (htell _).map

theorem State.placeRuns_map (reason g : Nat) (fs : List Nat) : MapKept s (s.placeRuns reason g fs) := by
  have hfold : ∀ (es : List (Nat × Nat)) (w : State), MapKept w (es.foldl (fun acc e =>
      acc.place 1 reason g (e.1 / 32) 0xFF (pack [(0, 11, e.1), (16, 5, e.2 - 1)])) w) := fun es => by
    induction es with
    | nil => exact MapKept.refl
    | cons e es ih => exact fun w => (w.place_map _ _ _ _ _ _).trans (ih _)
  exact hfold _ s

theorem State.placeRuns_same (reason g : Nat) (fs : List Nat) : SameBut [.gran] s (s.placeRuns reason g fs) :=
  .foldl (fun w _ => w.place_same _ _ _ _ _ _) _ s

theorem State.pinBlock_map (f : Nat) : MapKept s (s.pinBlock f) := by
  have htell : ∀ w : State, SameBut [] w (w.evPulse 0x1C 4) := fun w => w.evPulse_same _ _
  exact (s.place_map _ _ _ _ _ _).trans (htell _).map

theorem State.region_setRegion (g k : Nat) (x : Option Region) :
    (s.setRegion g x).region k = if k = g then x else s.region k := Tab.get_set

theorem State.refreshNolog_same : SameBut l s s.refreshNolog := s.evLevel_same _ _ _

/-- Where no copy waits, none begins. -/
theorem State.nextCopy_idle (hjobs : s.gran.jobs = []) (k : Nat) : s.nextCopy k = s := by
  cases k with
  | zero => rfl
  | succ k =>
    unfold State.nextCopy
    split
    · rfl
    · rw [hjobs]

/-! ### Free frames -/

theorem State.nodup_freeList (n : Nat) : (s.freeList n).Nodup := List.nodup_range.filter _

/-- Frames taken are different, free, and as many as asked for. -/
theorem State.takeFrames_spec (n : Nat) : ∀ (s : State) (free : List Nat), free.Nodup → n ≤ free.length →
    (s.takeFrames n free).2.length = n ∧ (s.takeFrames n free).2.Nodup ∧ (∀ f ∈ (s.takeFrames n free).2, f ∈ free) ∧
      ∀ l, SameBut l s (s.takeFrames n free).1 := by
  induction n with
  | zero => exact fun s free _ _ => ⟨rfl, List.nodup_nil, by simp [State.takeFrames], fun _ => .refl s⟩
  | succ n ih =>
    intro s free hnd hlen
    have hpos : 0 < free.length := by omega
    have hpick : s.pickFrom free = (s.draw.2, some (free[s.draw.1.toNat % free.length]'(Nat.mod_lt _ hpos))) := by
      unfold State.pickFrom
      cases free with
      | nil => exact absurd hpos (by simp)
      | cons f fs => exact congrArg (Prod.mk _) (List.getElem?_eq_getElem (Nat.mod_lt _ hpos))
    generalize hf : free[s.draw.1.toNat % free.length]'(Nat.mod_lt _ hpos) = f at hpick
    have hmem : f ∈ free := hf ▸ List.getElem_mem _
    have herase : free.filter (· != f) = free.erase f := (hnd.erase_eq_filter f).symm
    have hlen' : n ≤ (free.filter (· != f)).length := by
      rw [herase, List.length_erase_of_mem hmem]
      omega
    obtain ⟨hcount, hrest, hsub, hsame⟩ := ih s.draw.2 (free.filter (· != f)) (hnd.filter _) hlen'
    unfold State.takeFrames
    rw [hpick]
    dsimp only
    refine ⟨by rw [List.length_cons, hcount], ?_, fun g hg => ?_, fun l => s.draw_same.trans (hsame l)⟩
    · refine List.nodup_cons.2 ⟨fun hf' => ?_, hrest⟩
      simpa using (List.mem_filter.1 (hsub f hf')).2
    · rcases List.mem_cons.1 hg with rfl | hg
      · exact hmem
      · exact (List.mem_filter.1 (hsub g hg)).1

/-- A region grows by free frames it did not hold. -/
theorem State.grow_takes {reason : Nat} (hroom : n + 32 ≤ s.freeFrames) (hfree : n ≤ (s.freeList 1472).length) :
    ∃ t fs, s.grow reason h n r = (t, .done) ∧ SameBut [.gran] s t ∧
      (∀ g, t.region g = if g = h then some { r with frames := r.frames ++ fs } else s.region g) ∧ fs.length = n ∧
      fs.Nodup ∧ ∀ f ∈ fs, f ∈ s.freeList 1472 := by
  obtain ⟨hcount, hnd, hsub, hsame⟩ := State.takeFrames_spec n s (s.freeList 1472) (s.nodup_freeList _) hfree
  unfold State.grow
  dsimp only
  rw [if_neg (by simp only [Bool.or_eq_true, decide_eq_true_eq]; omega)]
  generalize hw : s.takeFrames n (s.freeList 1472) = w at hcount hnd hsub hsame
  obtain ⟨v, fs⟩ := w
  refine ⟨_, fs, rfl, ?_, fun g => ?_, hcount, hnd, hsub⟩
  · refine SameBut.trans ?_ (State.refreshNolog_same)
    exact ((hsame _).trans (v.setRegion_same _ _)).trans (State.placeRuns_same _ _ _)
  · have htail : ∀ x : State, MapKept x (x.placeRuns reason h fs).refreshNolog := fun x =>
      (x.placeRuns_map _ _ _).trans ((x.placeRuns reason h fs).refreshNolog_same (l := [])).map
    rw [(htail _).region, State.region_setRegion, (hsame []).map.region]

theorem State.grow_refused {reason : Nat} (hroom : s.freeFrames < n + 32) : s.grow reason h n r = (s, .busy) := by
  unfold State.grow
  dsimp only
  rw [if_pos (by simp [hroom])]

/-! ### Frames given back -/

theorem State.sramByte_freeFramesOf (fs : List Nat) : ∀ (s : State) (a : Nat),
    (s.freeFramesOf fs).sramByte a = if a / 4096 ∈ fs then 0 else s.sramByte a := by
  induction fs with
  | nil => exact fun s a => (if_neg (by simp)).symm
  | cons f fs ih =>
    intro s a
    have hzero : (s.zeroFrame f).sramByte a = if a / 4096 = f then 0 else s.sramByte a := by
      refine (Tab.get_keep _ _ _).trans ?_
      by_cases hf : a / 4096 = f
      · rw [if_neg (by simp [hf]), if_pos hf]
        rfl
      · rw [if_pos (by simp [hf]), if_neg hf]
        rfl
    refine (ih (s.zeroFrame f) a).trans ?_
    rw [hzero]
    by_cases hin : a / 4096 ∈ fs
    · rw [if_pos hin, if_pos (List.mem_cons_of_mem f hin)]
    · rw [if_neg hin]
      by_cases hf : a / 4096 = f
      · rw [if_pos hf, if_pos (hf ▸ List.mem_cons_self)]
      · rw [if_neg hf, if_neg (by simp [hf, hin])]

theorem State.freeFramesOf_keeps (fs : List Nat) : ∀ s : State, SameBut [.gran] s (s.freeFramesOf fs) ∧
    (s.freeFramesOf fs).gran.regions = s.gran.regions := by
  induction fs with
  | nil => exact fun s => ⟨.refl s, rfl⟩
  | cons f fs ih =>
    intro s
    obtain ⟨hsame, hregions⟩ := ih (s.zeroFrame f)
    exact ⟨SameBut.trans ((SameBut.set_gran s).trans (SameBut.set_gran _)) hsame, hregions⟩

theorem State.sramByte_of_map (hs : MapKept s t) (a : Nat) : t.sramByte a = s.sramByte a := by
  rw [State.sramByte, hs.sram]
  rfl

theorem State.dropFieldData_same : SameBut [.fld] s s.dropFieldData := (SameBut.same s).trans (SameBut.set_fld _)

theorem State.dropRadioData_same : SameBut [.link] s s.dropRadioData := (SameBut.same s).trans (SameBut.set_link _)

/-- RELEASE gives a region's frames back, zeroed. -/
theorem regionReleaseEffect_frees {k : Slot} (hh : h = field (k.arg 0) 5 0) (hr : s.region h = some r)
    (hlog : h = 1 → s.logQueues = false) (huse : s.regionInUse h = false) :
    ∃ t, regionReleaseEffect k s = (t, some .done) ∧ SameBut [.gran, .fld, .link] s t ∧
      (∀ g, t.region g = if g = h then none else s.region g) ∧
      ∀ a, t.sramByte a = if a / 4096 ∈ r.frames then 0 else s.sramByte a := by
  have hlog' : ¬ (decide (h = 1) && s.logQueues) = true := by
    by_cases h1 : h = 1
    · simp [hlog h1]
    · simp [h1]
  obtain ⟨hsame, hregions⟩ := (s.setRegion h none).freeFramesOf_keeps r.frames
  unfold regionReleaseEffect
  dsimp only
  rw [← hh, hr]
  dsimp only
  rw [if_neg hlog', huse, if_neg (by decide)]
  generalize hv : ((s.setRegion h none).freeFramesOf r.frames).refreshNolog = v
  have hnolog : MapKept ((s.setRegion h none).freeFramesOf r.frames) v :=
    hv ▸ (State.refreshNolog_same (l := [])).map
  have hvsame : SameBut [.gran, .fld, .link] s v := hv ▸
    (((s.setRegion_same h none).mono.trans hsame.mono).trans State.refreshNolog_same)
  have hend : SameBut [.fld, .link] v (if h = 3 then v.dropFieldData else if h = 2 then v.dropRadioData else v) :=
    .ite v.dropFieldData_same.mono (.ite v.dropRadioData_same.mono (.refl v))
  refine ⟨_, rfl, hvsame.trans hend.mono, fun g => ?_, fun a => ?_⟩
  · rw [hend.map.region, hnolog.region, State.region, hregions]
    exact State.region_setRegion _ _ _
  · rw [State.sramByte_of_map hend.map, State.sramByte_of_map hnolog, State.sramByte_freeFramesOf]
    rfl

/-- RESIZE to fewer frames gives the last ones back, zeroed. -/
theorem resizeEffect_shrinks {k : Slot} (hh : h = field (k.arg 0) 5 0) (hn : n = field (k.arg 1) 9 0)
    (hr : s.region h = some r) (hle : n ≤ r.frames.length) (h4 : 4 ≤ h) :
    ∃ t, resizeEffect k s = (t, some .done) ∧ SameBut [.gran] s t ∧
      t.region h = some { r with frames := r.frames.take n } ∧
      ∀ a, t.sramByte a = if a / 4096 ∈ r.frames.drop n then 0 else s.sramByte a := by
  obtain ⟨hsame, hregions⟩ := (s.setRegion h (some { r with frames := r.frames.take n })).freeFramesOf_keeps
    (r.frames.drop n)
  have h0 : h ≠ 0 := by omega
  have h2 : h ≠ 2 := by omega
  unfold resizeEffect
  dsimp only
  rw [← hh, hr, ← hn]
  dsimp only
  rw [if_neg (by simp [h0]), if_neg (by simp [h2]), if_pos hle, if_neg h0]
  refine ⟨_, rfl, (s.setRegion_same h _).trans hsame, ?_, fun a => ?_⟩
  · rw [State.region, hregions]
    exact (State.region_setRegion _ _ _).trans (if_pos rfl)
  · rw [State.sramByte_freeFramesOf]
    rfl

/-! ### PIN and MIGRATE -/

theorem no_job {tag : Nat} (hjobs : ∀ j, j ∈ s.gran.jobs → j.slot ≠ some (BitVec.ofNat 7 tag)) :
    s.gran.jobs.any (fun j => j.slot == some (BitVec.ofNat 7 tag)) = false := by
  rw [List.any_eq_false]
  intro j hj
  simp [hjobs j hj]

theorem State.setPin_apart {w : Nat} (hr : s.region h = some r)
    (hcopy : ∀ c, s.gran.copy = some c → w = 0 ∨ c.source ∉ r.frames) :
    s.setPin h w 0 = s.setRegion h (some { r with pin := w, bank := 0 }) := by
  unfold State.setPin
  rw [hr]
  dsimp only
  have hc : (s.setRegion h (some { r with pin := w, bank := 0 })).gran.copy = s.gran.copy := rfl
  rw [hc]
  cases hcopy' : s.gran.copy with
  | none => rfl
  | some c =>
    dsimp only
    rw [if_neg]
    rcases hcopy c hcopy' with hw | hf
    · simp [hw]
    · simp [hf]

/-- A pin in place abandons the copy of a frame of its region. -/
theorem State.setPin_abandons {c : CopyRun} (hr : s.region h = some r) (hcopy : s.gran.copy = some c)
    (hin : c.source ∈ r.frames) : SameBut [.gran] s (s.setPin h 1 0) ∧
      (s.setPin h 1 0).region h = some { r with pin := 1, bank := 0 } ∧ (s.setPin h 1 0).gran.copy = none ∧
      (s.setPin h 1 0).gran.sram = s.gran.sram ∧ (s.setPin h 1 0).gran.jobs = s.gran.jobs := by
  refine ⟨s.setPin_same _ _ _, ?_⟩
  unfold State.setPin
  rw [hr]
  dsimp only
  have hc : (s.setRegion h (some { r with pin := 1, bank := 0 })).gran.copy = some c := hcopy
  rw [hc]
  dsimp only
  rw [if_pos (by simp [hin])]
  generalize hv : ({ s.setRegion h (some { r with pin := 1, bank := 0 }) with gran :=
    { (s.setRegion h (some { r with pin := 1, bank := 0 })).gran with copy := none } } : State) = v
  have hregion : v.region h = some { r with pin := 1, bank := 0 } := by
    rw [← hv]
    exact (State.region_setRegion _ _ _).trans (if_pos rfl)
  have hrest : v.gran.copy = none ∧ v.gran.sram = s.gran.sram ∧ v.gran.jobs = s.gran.jobs := by
    rw [← hv]
    exact ⟨rfl, rfl, rfl⟩
  obtain ⟨hnone, hsram, hjobs⟩ := hrest
  split
  · have hpin : MapKept v (v.pinBlock c.source) := State.pinBlock_map _
    exact ⟨by rw [hpin.region, hregion], by rw [hpin.copy, hnone], by rw [hpin.sram, hsram], by rw [hpin.jobs, hjobs]⟩
  · exact ⟨hregion, hnone, hsram, hjobs⟩

theorem pinEffect_in_place {tag : Nat} {k : Slot} (hh : h = field (k.arg 0) 5 0) (hr : s.region h = some r)
    (hw : field (k.arg 0) 9 8 ≤ 1) (hjobs : ∀ j, j ∈ s.gran.jobs → j.slot ≠ some (BitVec.ofNat 7 tag)) :
    pinEffect true tag k s = ((s.setPin h (field (k.arg 0) 9 8) 0).nextCopy 2048, some .done) := by
  unfold pinEffect
  dsimp only
  rw [no_job hjobs, if_neg (by decide), ← hh, hr]
  dsimp only
  rw [if_neg (by simp), if_pos hw]

/-- MIGRATE to the Loft of a region that is not pinned. -/
theorem pinEffect_loft {tag : Nat} {k : Slot} (hh : h = field (k.arg 0) 5 0) (hr : s.region h = some r) (hpin : r.pin = 0)
    (hw : field (k.arg 0) 9 8 = 2) (hjobs : ∀ j, j ∈ s.gran.jobs → j.slot ≠ some (BitVec.ofNat 7 tag)) :
    pinEffect false tag k s =
      if (s.moveTargets (some [46, 47])).length < (placeFrames r.frames 2 0).1.length then (s, some .busy)
      else if (placeFrames r.frames 2 0).1 = [] then (s, some .done)
      else (s.addJob { region := some h, reason := 4, banks := some [46, 47], slot := some (BitVec.ofNat 7 tag)
                       pin := none }, none) := by
  unfold pinEffect
  dsimp only
  rw [no_job hjobs, if_neg (by decide), ← hh, hr]
  dsimp only
  rw [hw, if_neg (by simp [hpin]), if_neg (by decide), if_neg (by simp)]
  rfl

theorem pinEffect_pinned {tag : Nat} {k : Slot} (hh : h = field (k.arg 0) 5 0) (hr : s.region h = some r) (hpin : r.pin ≠ 0)
    (hjobs : ∀ j, j ∈ s.gran.jobs → j.slot ≠ some (BitVec.ofNat 7 tag)) : pinEffect false tag k s = (s, some .state) := by
  unfold pinEffect
  dsimp only
  rw [no_job hjobs, if_neg (by decide), ← hh, hr]
  dsimp only
  rw [if_pos (by simp [hpin])]

theorem placeFrames_settled {fs : List Nat} (hall : ∀ f, f ∈ fs → f / 32 = 46 ∨ f / 32 = 47) :
    (placeFrames fs 2 0).1 = [] := by
  unfold placeFrames
  dsimp only
  rw [List.filter_eq_nil_iff]
  intro f hf
  rcases hall f hf with h | h <;> simp [h]

theorem State.addJob_waits {c : CopyRun} (hcopy : s.gran.copy = some c) (j : MoveJob) :
    s.addJob j = { s with gran := { s.gran with jobs := s.gran.jobs ++ [j] } } := by
  unfold State.addJob State.nextCopy
  refine if_pos ?_
  have hsome : ({ s with gran := { s.gran with jobs := s.gran.jobs ++ [j] } } : State).gran.copy.isSome = true := by
    rw [show ({ s with gran := { s.gran with jobs := s.gran.jobs ++ [j] } } : State).gran.copy = s.gran.copy from rfl,
      hcopy]
    rfl
  rw [hsome]
  rfl

/-! ### A copy that is done, and the scoring -/

theorem State.correctWords_none {of : Nat → Bool} (hsoft : ∀ w, w ∈ s.gran.soft → of w = false) :
    s.correctWords of = s := by
  have hnone : s.gran.soft.filter of = [] := by
    rw [List.filter_eq_nil_iff]
    intro w hw
    simp [hsoft w hw]
  have hall : s.gran.soft.filter (fun w => !of w) = s.gran.soft := by
    rw [List.filter_eq_self]
    intro w hw
    simp [hsoft w hw]
  unfold State.correctWords
  rw [hnone, hall]
  rfl

theorem State.moveFrame_jobs (src dst : Nat) : (s.moveFrame src dst).gran.jobs = s.gran.jobs := by
  have hbytes : ∀ (es : List (Nat × Byte)) (w : State), (es.foldl (fun acc e => acc.setSramByte e.1 e.2) w).gran.jobs =
      w.gran.jobs := fun es => by
    induction es with
    | nil => exact fun _ => rfl
    | cons e es ih => exact fun w => (ih _).trans rfl
  have hzero : ∀ (w : State) (f : Nat), (w.zeroFrame f).gran.jobs = w.gran.jobs := fun _ _ => rfl
  have hcopy : (s.copyFrame src dst).gran.jobs = s.gran.jobs := (hbytes _ _).trans (hzero s dst)
  have hswap : ∀ w : State, (w.swapFrame src dst).gran.jobs = w.gran.jobs := fun w => by
    unfold State.swapFrame
    split
    · rfl
    · split <;> rfl
  exact (hzero _ src).trans ((hswap _).trans hcopy)

theorem State.copyDone_moves {c : CopyRun} (hcopy : s.gran.copy = some c) (hregion : (s.regionOf c.source).isSome = true) :
    s.copyDone = ((({ s with gran := { s.gran with copy := none } } : State).correctWords (fun w =>
      w / 1024 == c.source)).moveFrame c.source c.dest).nextCopy 2048 := by
  unfold State.copyDone
  rw [hcopy]
  dsimp only
  exact congrArg (State.nextCopy · 2048) (if_pos hregion)

theorem State.copyDone_abandoned {c : CopyRun} (hcopy : s.gran.copy = some c) (hregion : s.regionOf c.source = none) :
    s.copyDone = ({ s with gran := { s.gran with copy := none } } : State).nextCopy 2048 := by
  unfold State.copyDone
  rw [hcopy]
  dsimp only
  refine congrArg (State.nextCopy · 2048) (if_neg ?_)
  rw [show ({ s with gran := { s.gran with copy := none } } : State).regionOf c.source = s.regionOf c.source from rfl,
    hregion]
  decide

theorem State.scores_same (fs : List Nat) : ∀ s : State, SameBut l s (s.scores fs).1 := by
  induction fs with
  | nil => exact .refl
  | cons f fs ih =>
    intro s
    have hone : SameBut l s (s.scoreOf f).1 := by
      unfold State.scoreOf
      split
      · exact s.draw_same
      · exact .refl s
    exact hone.trans (ih _)

theorem State.regs_scores (fs : List Nat) : ∀ s : State, (s.scores fs).1.regs = s.regs := by
  induction fs with
  | nil => exact fun _ => rfl
  | cons f fs ih =>
    intro s
    have hone : (s.scoreOf f).1.regs = s.regs := by
      unfold State.scoreOf
      split <;> rfl
    exact (ih _).trans hone

theorem State.rg_reach (s : State) (t : Stamp) (q o : Nat) : (s.reach t).rg q o = s.rg q o := rfl

/-- A scoring second with moves off clears the counts. -/
theorem State.scoreLoft_off (hoff : flag (s.rg 0x1C 0x088) 0 = false) : SameBut [.gran] s s.scoreLoft ∧
    s.scoreLoft.gran.near = [] ∧ s.scoreLoft.gran.far = [] ∧ s.scoreLoft.gran.regions = s.gran.regions ∧
      s.scoreLoft.gran.sram = s.gran.sram := by
  unfold State.scoreLoft
  dsimp only
  rw [hoff, Bool.false_and, if_neg (by decide)]
  have hscores := State.scores_same (l := [.gran]) (((List.range 64).flatMap s.framesOf).filter (fun f =>
    !s.framePinned f)) s
  have hmap := (State.scores_same (l := []) (((List.range 64).flatMap s.framesOf).filter (fun f =>
    !s.framePinned f)) s).map
  exact ⟨hscores.trans (SameBut.set_gran _), rfl, rfl, hmap.regions, hmap.sram⟩

end

/-- Settles O38, operation by operation. -/
theorem regions : Obligations.Regions := by
  unfold Obligations.Regions
  rintro s tag k h n r rfl hh hn hready hjobs
  have hres : ∀ (t : State) (c : Code), SameBut [.ops] t (t.setResult tag.val c) := fun t c => t.setResult_same _ _
  refine ⟨fun hrun hallow hsize hnone => ⟨fun hroom hfree => ?_, fun hroom => ?_⟩, fun hrun hr h0 hlog huse => ?_,
    fun hrun hr hsize hle h4 => ?_, fun hrun hr hw hempty => ⟨fun hcopy => ?_, fun c hcopy hone hin => ?_⟩,
    fun hrun hr hpin hw => ⟨fun hall => ?_, fun c fs hcopy hfs hne hroom => ?_⟩, fun hrun hr hpin hw => ?_,
    fun c hcopy hempty => ⟨fun hregion hsoft => ?_, fun hregion => ?_, fun hregion => ?_⟩, fun hup hdepth hoff => ?_,
    fun hup => congrArg Host.Outcome.next (if_neg (by simp [hup]))⟩
  · obtain ⟨t, fs, hgrow, hsame, hregion, hcount, hnd, hsub⟩ := State.grow_takes (h := h)
      (r := { purpose := field ((s.slot tag.val).arg 0) 10 8 }) (reason := 1) hroom hfree
    have heff : declareEffect (s.slot tag.val) s = (t, some .done) := by
      unfold declareEffect
      dsimp only
      rw [← hh, hnone, ← hn]
      dsimp only
      rw [hgrow]
    refine ⟨_, fs, congrArg Host.Outcome.next (State.runOp_ends hrun (by rw [← hh, ← hn, hallow, hsize]; rfl) hready heff),
      ?_, hcount, hnd, hsub, fun g hg => ?_, by rw [State.slot_setResult_self], (hres _ _).own.trans hsame.own,
      (hres _ _).flash.trans hsame.flash⟩
    · rw [(hres _ _).map.region, hregion, if_pos rfl]
      rfl
    · rw [(hres _ _).map.region, hregion, if_neg hg]
  · have heff : declareEffect (s.slot tag.val) s = (s, some .busy) := by
      unfold declareEffect
      dsimp only
      rw [← hh, hnone, ← hn]
      dsimp only
      rw [State.grow_refused hroom]
    exact congrArg Host.Outcome.next (State.runOp_ends hrun (by rw [← hh, ← hn, hallow, hsize]; rfl) hready heff)
  · obtain ⟨t, heff, hsame, hregion, hbytes⟩ := regionReleaseEffect_frees hh hr hlog huse
    refine ⟨_, congrArg Host.Outcome.next (State.runOp_ends hrun (by rw [← hh]; simpa using h0) hready heff), ?_,
      fun g hg => ?_, fun a => ?_, by rw [State.slot_setResult_self], (hres _ _).own.trans hsame.own,
      (hres _ _).flash.trans hsame.flash⟩
    · rw [(hres _ _).map.region, hregion, if_pos rfl]
    · rw [(hres _ _).map.region, hregion, if_neg hg]
    · rw [State.sramByte_of_map (hres _ _).map, hbytes]
  · obtain ⟨t, heff, hsame, hregion, hbytes⟩ := resizeEffect_shrinks hh hn hr hle h4
    have hargs : s.resizeArgs (s.slot tag.val) = true := by
      unfold State.resizeArgs
      dsimp only
      rw [← hh, hr, ← hn]
      exact hsize
    refine ⟨_, congrArg Host.Outcome.next (State.runOp_ends hrun hargs hready heff), ?_, fun a => ?_,
      by rw [State.slot_setResult_self], (hres _ _).own.trans hsame.own, (hres _ _).flash.trans hsame.flash⟩
    · rw [(hres _ _).map.region, hregion]
    · rw [State.sramByte_of_map (hres _ _).map, hbytes]
  · have heff := pinEffect_in_place hh hr hw hjobs
    rw [State.setPin_apart hr hcopy, State.nextCopy_idle (s := s.setRegion h _) hempty] at heff
    exact congrArg Host.Outcome.next (State.runOp_ends hrun (by simp; omega) hready heff)
  · have heff := pinEffect_in_place hh hr hw hjobs
    obtain ⟨hsame, hregion, hnone, hsram, hstill⟩ := State.setPin_abandons hr hcopy hin
    rw [hone, State.nextCopy_idle (hstill.trans hempty)] at heff
    refine ⟨_, congrArg Host.Outcome.next (State.runOp_ends hrun (by simp; omega) hready heff), ?_, ?_, ?_,
      by rw [State.slot_setResult_self], (hres _ _).own.trans hsame.own, (hres _ _).flash.trans hsame.flash⟩
    · rw [(hres _ _).map.region, hregion]
    · rw [(hres _ _).map.copy, hnone]
    · rw [(hres _ _).map.sram, hsram]
  · have heff := pinEffect_loft hh hr hpin hw hjobs
    rw [placeFrames_settled hall, if_neg (by simp), if_pos rfl] at heff
    exact congrArg Host.Outcome.next (State.runOp_ends hrun (by rw [hw]; rfl) hready heff)
  · have heff := pinEffect_loft hh hr hpin hw hjobs
    rw [← hfs, if_neg (by omega), if_neg hne, State.addJob_waits hcopy] at heff
    exact congrArg Host.Outcome.next (State.runOp_waits hrun (by rw [hw]; rfl) hready heff)
  · exact congrArg Host.Outcome.next
      (State.runOp_ends hrun (by rw [hw]; rfl) hready (pinEffect_pinned hh hr hpin hjobs))
  · refine congrArg Host.Outcome.next ((State.copyDone_moves hcopy hregion).trans ?_)
    rw [State.correctWords_none (s := { s with gran := { s.gran with copy := none } }) (fun w hw => by
      simpa using hsoft w hw)]
    refine State.nextCopy_idle ?_ _
    rw [State.moveFrame_jobs]
    exact hempty
  · exact congrArg Host.Outcome.next (State.copyDone_moves hcopy hregion)
  · refine congrArg Host.Outcome.next ((State.copyDone_abandoned hcopy hregion).trans ?_)
    exact State.nextCopy_idle (s := { s with gran := { s.gran with copy := none } }) hempty _
  · have hreach := s.reach_same (BitVec.ofNat 64 ((s.now.toNat / 2 ^ 32 + 1) * 2 ^ 32))
    have hrg := s.rg_reach (BitVec.ofNat 64 ((s.now.toNat / 2 ^ 32 + 1) * 2 ^ 32)) 0x1C 0x088
    refine ⟨_, congrArg Host.Outcome.next (if_pos hup), ?_⟩
    generalize s.reach (BitVec.ofNat 64 ((s.now.toNat / 2 ^ 32 + 1) * 2 ^ 32)) = u at hreach hrg ⊢
    obtain ⟨hsame, hnear, hfar, hregions, hsram⟩ := State.scoreLoft_off (s := u) (by rw [hrg]; exact hoff)
    exact ⟨hnear, hfar, hregions.trans hreach.map.regions, hsram.trans hreach.map.sram, hsame.own.trans hreach.own,
      hsame.flash.trans hreach.flash⟩

end Sys2Proof.Machine
end

section
/-!
PROOFS. Handlers, contexts and the memory tests.
-/
namespace Sys2Proof.Machine

/-- What work on banks and frames can reach. -/
def frameParts : List Part := [.gran, .ops, .svc]

/-- t is s but for what work on banks and frames can reach; whether a bank test is due stands. -/
structure FrameWork (s t : State) : Prop where
  same : SameBut frameParts s t
  due : t.gran.bankDue = s.gran.bankDue

section
variable {l : List Part} {s t u : State}

theorem FrameWork.refl (s : State) : FrameWork s s := ⟨.refl s, rfl⟩

theorem FrameWork.trans (h : FrameWork s t) (g : FrameWork t u) : FrameWork s u :=
  ⟨h.same.trans g.same, g.due.trans h.due⟩

theorem FrameWork.ite {c : Prop} {_ : Decidable c} (ht : FrameWork s t) (hu : FrameWork s u) :
    FrameWork s (if c then t else u) := by
  split
  · exact ht
  · exact hu

theorem FrameWork.iteThen {c : Prop} {_ : Decidable c} (h : FrameWork s t) (g : FrameWork t u) :
    FrameWork s (if c then u else t) := .ite (h.trans g) h

theorem FrameWork.foldl {β : Type} {f : State → β → State} (hf : ∀ s b, FrameWork s (f s b)) (bs : List β)
    (s : State) : FrameWork s (bs.foldl f s) := by
  induction bs generalizing s with
  | nil => exact .refl s
  | cons b bs ih => exact (hf s b).trans (ih _)

/-- What touches no frame is no work on frames. -/
theorem SameBut.work (h : SameBut [.ops, .svc] s t) : FrameWork s t := ⟨h.mono, by rw [h.gran]⟩

/-- Work on frames that ends in registers, lines and pulses alone. -/
theorem FrameWork.tell (h : FrameWork s t) (g : SameBut [.ops, .svc] t u) : FrameWork s u := h.trans g.work

theorem FrameWork.set_gran {gran : Granary} (h : gran.bankDue = s.gran.bankDue) :
    FrameWork s { s with gran := gran } := ⟨SameBut.set_gran s, h⟩

/-! ### Work on frames -/

theorem State.place_work (kind reason subject choice from_ : Nat) (detail : Word) :
    FrameWork s (s.place kind reason subject choice from_ detail) := by
  have htell : ∀ w : State, SameBut [.ops, .svc] w
      ((w.updRg 0x1C 0x08C (fun w => wrapField w 15 0 1)).evPulse 0x1C 3) := fun w =>
    (w.updRg_same _ _ _).trans (State.evPulse_same _ _ _)
  refine FrameWork.tell ?_ (htell _)
  exact FrameWork.set_gran rfl

theorem State.pinBlock_work (f : Nat) : FrameWork s (s.pinBlock f) :=
  (State.place_work _ _ _ _ _ _).tell (State.evPulse_same _ _ _)

theorem State.setRegion_work (h : Nat) (r : Option Region) : FrameWork s (s.setRegion h r) := .set_gran rfl

theorem State.setPin_work (h w b : Nat) : FrameWork s (s.setPin h w b) := by
  unfold State.setPin
  split
  · exact .refl s
  · dsimp only
    split
    · refine .ite (.iteThen ?_ (State.pinBlock_work _)) (State.setRegion_work _ _)
      exact FrameWork.trans (State.setRegion_work _ _) (FrameWork.set_gran rfl)
    · exact State.setRegion_work _ _

theorem State.finishJob_work (j : MoveJob) : FrameWork s (s.finishJob j) := by
  have hpin : FrameWork s (match j.pin with
      | none => s
      | some (h, w, b) => s.setPin h w b) := by
    split
    · exact .refl s
    · exact State.setPin_work _ _ _
  unfold State.finishJob
  dsimp only
  split
  · exact hpin.tell (State.setResult_same _ _ _)
  · exact hpin

theorem State.frameRetire_work (f c : Nat) : FrameWork s (s.frameRetire f c) := State.place_work _ _ _ _ _ _

theorem State.frameStays_work (f r : Nat) : FrameWork s (s.frameStays f r) :=
  .ite (State.pinBlock_work f) (.ite (State.frameRetire_work f _) (.refl s))

theorem State.beginCopy_work (src dst r : Nat) : FrameWork s (s.beginCopy src dst r) := by
  unfold State.beginCopy
  extract_lets kind s1 s2
  have h1 : FrameWork s s1 := State.place_work _ _ _ _ _ _
  have h2 : FrameWork s s2 := .ite (h1.trans (State.frameRetire_work _ _)) h1
  exact h2.trans (FrameWork.set_gran rfl)

theorem State.nextCopy_work (k : Nat) : ∀ s : State, FrameWork s (s.nextCopy k) := by
  induction k with
  | zero => exact FrameWork.refl
  | succ k ih =>
    intro s
    unfold State.nextCopy
    split
    · exact .refl s
    · split
      · exact .refl s
      · rename_i j rest _
        have hrest : FrameWork s { s with gran := { s.gran with jobs := rest } } := .set_gran rfl
        have hnext : FrameWork s { s with gran := { s.gran with jobs := { j with frames := j.frames.drop 1 } :: rest } } :=
          .set_gran rfl
        dsimp only
        split
        · exact (hrest.trans (State.finishJob_work _)).trans (ih _)
        · rename_i f _
          generalize ({ s with gran := { s.gran with jobs := { j with frames := j.frames.drop 1 } :: rest } } : State) = v
            at hnext ⊢
          refine .ite (.refl s) (.ite (hnext.trans (ih _)) (.ite ?_ ?_))
          · exact (hnext.trans (State.frameStays_work _ _)).trans (ih _)
          · have hpick := v.pickFrom_same (l := [.ops, .svc]) (v.moveTargets j.banks)
            split
            · rename_i heq
              rw [heq] at hpick
              exact (hnext.tell hpick).trans (State.beginCopy_work _ _ _)
            · exact (hrest.tell (State.setResult_same _ _ _)).trans (ih _)
            · rename_i heq _
              rw [heq] at hpick
              exact ((hnext.tell hpick).trans (State.frameStays_work _ _)).trans (ih _)

theorem State.addJob_work (j : MoveJob) : FrameWork s (s.addJob j) := by
  refine FrameWork.trans ?_ (State.nextCopy_work _ _)
  exact FrameWork.set_gran rfl

theorem State.redirectCopy_work : FrameWork s s.redirectCopy := by
  unfold State.redirectCopy
  split
  · exact .refl s
  · refine .ite (.refl s) (FrameWork.trans ?_ (State.nextCopy_work _ _))
    exact FrameWork.set_gran rfl

theorem State.refreshGranary_same : SameBut l s s.refreshGranary := s.setDegraded_same _ _

theorem State.zeroFrame_work (f : Nat) : FrameWork s (s.zeroFrame f) :=
  FrameWork.trans (FrameWork.set_gran rfl) (FrameWork.set_gran rfl)

theorem State.setSramByte_work (s : State) (a : Nat) (b : Byte) : FrameWork s (s.setSramByte a b) := .set_gran rfl

theorem State.moveFrame_work (src dst : Nat) : FrameWork s (s.moveFrame src dst) := by
  have hcopy : FrameWork s (s.copyFrame src dst) := by
    unfold State.copyFrame
    dsimp only
    refine FrameWork.trans (FrameWork.trans (State.zeroFrame_work dst) ?_) (FrameWork.set_gran rfl)
    exact .foldl (fun w e => w.setSramByte_work _ _) _ _
  have hswap : ∀ w : State, FrameWork w (w.swapFrame src dst) := fun w => by
    unfold State.swapFrame
    split
    · exact .refl w
    · split
      · exact .refl w
      · exact State.setRegion_work _ _
  exact (hcopy.trans (hswap _)).trans (State.zeroFrame_work _)

theorem State.clearBank_work (b : Nat) : FrameWork s (s.clearBank b) := by
  refine .foldl (fun w f => ?_) _ s
  have hpick := w.pickFrom_same (l := [.ops, .svc]) ((w.freeList 1472).filter (fun g => g / 32 != b))
  split
  · rename_i heq
    rw [heq] at hpick
    exact hpick.work
  · rename_i heq
    rw [heq] at hpick
    exact (hpick.work.trans (State.place_work _ _ _ _ _ _)).trans (State.moveFrame_work _ _)

theorem State.testFail_same (b r k : Nat) (hsvc : .svc ∈ l := by decide) : SameBut l s (s.testFail b r k) := by
  unfold State.testFail
  refine SameBut.trans ?_ (State.setDegraded_same _ _ _)
  refine SameBut.trans ?_ State.refreshGranary_same
  refine SameBut.trans ?_ (State.faultRec_same _ _ _ _ hsvc)
  refine SameBut.trans ?_ (State.evPulse_same _ _ _)
  refine SameBut.trans ?_ (State.updRg_same _ _ _ _)
  exact (s.setRg_same _ _ _).trans (State.setPair_same _ _ _ _)

theorem State.suspectBank_work (b : Nat) : FrameWork s (s.suspectBank b) := by
  unfold State.suspectBank
  extract_lets off i s1 s2
  have h1 : FrameWork s s1 := SameBut.work ((s.updRg_same _ _ _).trans (State.updRg_same _ _ _ _))
  have h2 : FrameWork s s2 := FrameWork.tell (h1.trans (State.place_work _ _ _ _ _ _))
    ((State.evPulse_same _ _ _).trans (State.faultRec_same _ _ _ _))
  exact ((h2.tell State.refreshGranary_same).trans State.redirectCopy_work).trans (State.addJob_work _)

theorem State.retireBank_work (b : Nat) : FrameWork s (s.retireBank b) :=
  .ite (FrameWork.trans (s.updRg_same _ _ _).work (State.suspectBank_work b)) (.refl s)

theorem State.bankFails_work (b : Nat) : FrameWork s (s.bankFails b) := by
  unfold State.bankFails
  exact (s.draw_same.trans (State.testFail_same _ _ _)).work.trans (State.retireBank_work b)

/-! ### The test of a bank -/

theorem State.testBank_spec (b : Nat) (pass : Bool) : FrameWork s (s.testBank b pass).1 ∧
    (s.testBank b pass).2 = if s.skipBank b then none else some pass := by
  have hstat : ∀ (w : State) (f : Word → Word), SameBut [.ops, .svc] w ((w.updRg 0x1D 0x04C f).evPulse 0x1D 2) := fun w f =>
    (w.updRg_same _ _ _).trans (State.evPulse_same _ _ _)
  unfold State.testBank
  dsimp only
  cases hskip : s.skipBank b
  · have hclear : ∀ (f g : Word → Word), FrameWork s ((((s.clearBank b).updRg 0x1D 0x04C f).evPulse 0x1D 2).updRg 0x1D
        0x04C g) := fun f g => ((State.clearBank_work b).tell (hstat _ f)).tell (State.updRg_same _ _ _ _)
    cases pass
    · rw [if_neg Bool.false_ne_true, if_neg Bool.false_ne_true]
      exact ⟨(hclear _ _).trans (State.bankFails_work b), rfl⟩
    · rw [if_neg Bool.false_ne_true, if_pos rfl]
      dsimp only
      exact ⟨hclear _ _, rfl⟩
  · rw [if_pos rfl]
    exact ⟨(hstat s _).work, rfl⟩

theorem State.returnBank_work (b : Nat) : FrameWork s (s.returnBank b) := by
  unfold State.returnBank
  extract_lets off i s1
  have h1 : FrameWork s s1 := SameBut.work ((s.updRg_same _ _ _).trans (State.updRg_same _ _ _ _))
  refine FrameWork.tell ?_ State.refreshGranary_same
  exact h1.trans (FrameWork.set_gran rfl)

/-- A bank that is returned is good. -/
theorem State.returnBank_good {b : Nat} (hb : b < 48) : (s.returnBank b).bankGood b = true := by
  have hrg : ∀ o, Quiet o → (s.returnBank b).rg 0x1C o = ((s.updRg 0x1C (0x048 + if b < 32 then 0 else 4) (fun w =>
      setFlag w (b % 32) true)).updRg 0x1C (0x050 + if b < 32 then 0 else 4) (fun w => setFlag w (b % 32) false)).rg
        0x1C o := fun o ho => by
    unfold State.returnBank State.refreshGranary State.setDegraded
    extract_lets off i s1 s2
    rw [State.rg_setReadyBits ho]
    rfl
  unfold State.bankGood
  by_cases h : b < 32
  · rw [if_pos h, hrg 0x050 (by unfold Quiet; omega), if_pos h, Nat.mod_eq_of_lt h, State.updRg, State.rg_setRg_self,
      flag_setFlag h]
    simp
  · have hmod : b % 32 = b - 32 := by omega
    rw [if_neg h, hrg 0x054 (by unfold Quiet; omega), if_neg h, hmod, State.updRg, State.rg_setRg_self,
      flag_setFlag (by omega)]
    simp [hb]

theorem State.bankGood_setResult (tag b : Nat) (c : Code) : (s.setResult tag c).bankGood b = s.bankGood b := by
  unfold State.bankGood
  rw [State.rg_setResult (by unfold Quiet; omega), State.rg_setResult (by unfold Quiet; omega)]

/-! ### HRAISE -/

theorem State.setHraise_shows (n : Nat) (b : Bool) : Signalled s (s.setHraise n b) ∧
    (s.setHraise n b).rg 0x1C 0x084 = setFlag (s.rg 0x1C 0x084) n b := by
  unfold State.setHraise
  refine ⟨(s.updRg_signals _ _ _).trans (State.settle_signals _ _ _), ?_⟩
  rw [State.rg, State.reg, State.settle_regs]
  exact State.rg_setRg_self _ _ _ _

theorem State.foldl_setHraise (v : Word) (ns : List Nat) : ∀ s : State, (∀ n ∈ ns, n < 32) →
    SameBut l s (ns.foldl (fun acc n => if flag v n then acc.setHraise n false else acc) s) ∧
    ∀ i, flag ((ns.foldl (fun acc n => if flag v n then acc.setHraise n false else acc) s).rg 0x1C 0x084) i =
      if i ∈ ns ∧ flag v i = true then false else flag (s.rg 0x1C 0x084) i := by
  induction ns with
  | nil => exact fun s _ => ⟨.refl s, fun i => (if_neg (by simp)).symm⟩
  | cons n ns ih =>
    intro s hlt
    have hstep : SameBut l s (if flag v n then s.setHraise n false else s) ∧
        ∀ i, flag ((if flag v n then s.setHraise n false else s).rg 0x1C 0x084) i =
          if i = n ∧ flag v i = true then false else flag (s.rg 0x1C 0x084) i := by
      cases hv : flag v n
      · refine ⟨.refl s, fun i => (if_neg ?_).symm⟩
        rintro ⟨rfl, h⟩
        rw [hv] at h
        cases h
      · refine ⟨(State.setHraise_shows n false).1.same, fun i => ?_⟩
        rw [if_pos rfl, (State.setHraise_shows n false).2, flag_setFlag (hlt n List.mem_cons_self)]
        by_cases hi : i = n
        · subst hi
          simp [hv]
        · simp [hi]
    obtain ⟨hsame, hflag⟩ := ih (if flag v n then s.setHraise n false else s) (fun m hm => hlt m (List.mem_cons_of_mem n hm))
    refine ⟨hstep.1.trans hsame, fun i => ?_⟩
    rw [List.foldl_cons, hflag, hstep.2]
    by_cases hv : flag v i = true
    · rcases eq_or_ne i n with rfl | hi
      · simp [hv]
      · simp [hi, hv]
    · simp [hv]

theorem hraiseEffect_clears {v : Word} : ∃ t, hraiseEffect v s = (t, .done) ∧ SameBut [] s t ∧
    t.rg 0x1C 0x084 = s.rg 0x1C 0x084 &&& ~~~v := by
  obtain ⟨hsame, hflag⟩ := State.foldl_setHraise (l := []) v (List.range 32) s (fun n hn => List.mem_range.1 hn)
  refine ⟨_, rfl, hsame, BitVec.eq_of_getLsbD_eq fun i hi => (hflag i).trans ?_⟩
  rw [BitVec.getLsbD_and, BitVec.getLsbD_not]
  by_cases hv : flag v i = true
  · have hv' : v.getLsbD i = true := hv
    rw [if_pos ⟨List.mem_range.2 hi, hv⟩, hv']
    simp
  · have hv' : v.getLsbD i = false := by simpa [flag] using hv
    rw [if_neg (fun h => hv h.2), hv']
    simp [hi, flag]

/-! ### The test of regions -/

theorem State.endRegionTest_next {r : Nat} (htest : s.gran.test = some r) (hr : r + 1 < 24832) :
    s.endRegionTest none =
      ({ s with gran := { s.gran with test := none } } : State).setRg 0x1D 0x044 (BitVec.ofNat 32 (r + 1)) := by
  unfold State.endRegionTest
  rw [htest]
  exact if_pos hr

/-- The last region's test ends a pass. -/
theorem State.endRegionTest_last {tag : Nat} (htag : tag < 128) (htest : s.gran.test = some 24831)
    (hpass : s.gran.pass = some (BitVec.ofNat 7 tag)) : SameBut [.gran, .ops] s (s.endRegionTest none) ∧
      (s.endRegionTest none).gran.test = none ∧ (s.endRegionTest none).gran.pass = none ∧
      (s.endRegionTest none).gran.jobs = s.gran.jobs ∧ (s.endRegionTest none).rg 0x1D 0x044 = 0 ∧
      ((s.endRegionTest none).slot tag).result = some (if s.gran.passFailed = true then .integrity else .done) := by
  unfold State.endRegionTest
  rw [htest]
  dsimp only
  rw [if_neg (by omega)]
  generalize hu : ({ s with gran := { s.gran with test := none } } : State) = u
  have husame : SameBut [.gran] s u := hu ▸ SameBut.set_gran s
  have hugran : u.gran = { s.gran with test := none } := by rw [← hu]
  generalize hv : ((u.setRg 0x1D 0x044 0).updRg 0x1D 0x048 (fun w => w + 1)).evPulse 0x1D 0 = v
  have hvsame : SameBut [] u v := hv ▸
    (((u.setRg_same _ _ _).trans (State.updRg_same _ _ _ _)).trans (State.evPulse_same _ _ _))
  have hvrg : v.rg 0x1D 0x044 = 0 := by
    rw [← hv, State.rg_evPulse (by unfold Quiet; omega), State.updRg, State.rg_setRg_other (by decide),
      State.rg_setRg_self]
  have htag' : (BitVec.ofNat 7 tag).toNat = tag := by rw [BitVec.toNat_ofNat, Nat.mod_eq_of_lt htag]
  rw [show v.gran.pass = some (BitVec.ofNat 7 tag) by rw [hvsame.gran, hugran]; exact hpass]
  dsimp only
  rw [show v.gran.passFailed = s.gran.passFailed by rw [hvsame.gran, hugran], htag']
  generalize hw : v.setResult tag _ = w
  have hwsame : SameBut [.ops] v w := hw ▸ v.setResult_same _ _
  have hwgran : w.gran = { s.gran with test := none } := by rw [hwsame.gran, hvsame.gran, hugran]
  refine ⟨((husame.mono.trans hvsame.mono).trans hwsame.mono).trans (SameBut.set_gran _), ?_, rfl, ?_, ?_, ?_⟩
  · exact congrArg Granary.test hwgran
  · exact (congrArg Granary.jobs hwgran :)
  · refine Eq.trans ?_ hvrg
    rw [← hw]
    exact State.rg_setResult (by unfold Quiet; omega) _ _
  · rw [← hw]
    exact congrArg Slot.result (State.slot_setResult_self _ _ _)

/-! ### What the rows come to -/

section
variable {tag : Nat}

/-- A bank under BANK_RETURN that may be tested is returned where the test passes. -/
theorem bankReturn_ends {b : Nat} {pass : Bool} (hb : b < 48) :
    ∃ t c, (match s.testBank b pass with
      | (t1, none) => (t1, some Code.state)
      | (t1, some true) => (t1.returnBank b, some .done)
      | (t1, some false) => (t1, some .integrity)) = (t, some c) ∧ FrameWork s t ∧
      c = (if s.skipBank b = true then .state else if pass = true then .done else .integrity) ∧
      (s.skipBank b = false → pass = true → t.bankGood b = true) := by
  obtain ⟨hwork, hres⟩ := State.testBank_spec (s := s) b pass
  generalize s.testBank b pass = w at hwork hres
  obtain ⟨v, o⟩ := w
  dsimp only at hwork hres
  subst hres
  cases hskip : s.skipBank b
  · cases pass
    · exact ⟨v, _, rfl, hwork, rfl, fun _ h => absurd h (by decide)⟩
    · exact ⟨_, _, rfl, hwork.trans (State.returnBank_work b), rfl, fun _ _ => State.returnBank_good hb⟩
  · exact ⟨v, _, rfl, hwork, rfl, fun h => absurd h (by decide)⟩

theorem memtestBank_ends {b : Nat} {pass : Bool} :
    ∃ t c, (match s.testBank b pass with
      | (t1, none) => (t1, some Code.state)
      | (t1, some ok) => (t1, some (if ok then .done else .integrity))) = (t, some c) ∧ FrameWork s t ∧
      c = (if s.skipBank b = true then .state else if pass = true then .done else .integrity) := by
  obtain ⟨hwork, hres⟩ := State.testBank_spec (s := s) b pass
  generalize s.testBank b pass = w at hwork hres
  obtain ⟨v, o⟩ := w
  dsimp only at hwork hres
  subst hres
  cases hskip : s.skipBank b
  · exact ⟨v, _, rfl, hwork, rfl⟩
  · exact ⟨v, _, rfl, hwork, rfl⟩

end

/-- A region's test starts where no copy and no other test runs. -/
theorem execRegionTestStart_starts {r : Nat} (hr : r = field (s.rg 0x1D 0x044) 14 0) (hready : s.ready 0x1D = true)
    (hup : s.unavailable .granary = false) (htest : s.gran.test = none) (hcopy : s.gran.copy = none)
    (hon : flag (s.rg 0x1D 0x040) 0 = true) : ∃ t, execRegionTestStart s = .next t ∧
      t.gran = { s.gran with test := some r, testAt := t.now } ∧ t.regs = s.regs ∧ t.own = s.own ∧ t.flash = s.flash := by
  generalize hu : (if s.fastPass = true then s else
    s.reach (s.gran.testAt + BitVec.ofNat 64 (s.testPace * 2 ^ 22))) = u
  have heq : execRegionTestStart s =
      .next { u with gran := { u.gran with test := some r, testAt := u.now } } := by
    unfold execRegionTestStart
    dsimp only
    rw [← hr, hready, hup, htest, hcopy, hon, if_pos (by rfl), hu]
  obtain ⟨hgran, hregs, hown, hflash⟩ : u.gran = s.gran ∧ u.regs = s.regs ∧ u.own = s.own ∧ u.flash = s.flash := by
    have hreach : ∀ a, (s.reach a).gran = s.gran ∧ (s.reach a).regs = s.regs ∧ (s.reach a).own = s.own ∧
        (s.reach a).flash = s.flash := fun _ => ⟨rfl, rfl, rfl, rfl⟩
    subst hu
    split
    · exact ⟨rfl, rfl, rfl, rfl⟩
    · exact hreach _
  refine ⟨_, heq, ?_, hregs, hown, hflash⟩
  dsimp only
  rw [hgran]
  rfl

theorem hdeclareEffect_core {k : Slot} {n : Nat} (hn : n = field (k.arg 0) 4 0) (hend : flag (k.arg 0) 22 = false)
    (hcore : flag (k.arg 0) 21 = true) : hdeclareEffect k s = (s.setHandler n (some
      { channel := field (k.arg 0) 13 8, thread := field (k.arg 0) 19 16, gform := flag (k.arg 0) 20
        cform := true }), some .done) := by
  subst hn
  unfold hdeclareEffect
  dsimp only
  rw [if_neg (by rw [hend]; decide), hcore, if_pos rfl]

/-- A handler is pinned to a form it has, or unpinned. -/
theorem hpinEffect_form {k : Slot} {n w : Nat} {h : Handler} (hn : n = field (k.arg 0) 4 0) (hh : s.handler n = some h)
    (hw : w = field (k.arg 0) 9 8) (hg : w = 1 → h.gform = true) (hc : w = 2 → h.cform = true) :
    hpinEffect k s = (s.setHandler n (some { h with pin := w }), some .done) := by
  have hform : ¬ (decide (w = 1) && !h.gform || decide (w = 2) && !h.cform) = true := by
    by_cases h1 : w = 1
    · simp [h1, hg h1]
    · by_cases h2 : w = 2
      · simp [h2, hc h2]
      · simp [h1, h2]
  unfold hpinEffect
  dsimp only
  rw [← hn, hh, ← hw]
  exact if_neg hform

end

/-- Settles O39, operation by operation. -/
theorem handlersAndTests : Obligations.HandlersAndTests := by
  unfold Obligations.HandlersAndTests
  rintro s tag m v k n b rfl hn hb
  have hres : ∀ (t : State) (c : Code), SameBut [.ops] t (t.setResult tag.val c) := fun t c => t.setResult_same _ _
  have hbank : flag ((s.slot tag.val).arg 0) 6 = false → (if flag ((s.slot tag.val).arg 0) 6 = true then
      field (s.rg 0x1D 0x04C) 13 8 else field ((s.slot tag.val).arg 0) 5 0) = b := fun h =>
    (if_neg (by rw [h]; decide)).trans hb.symm
  refine ⟨fun hready hrun hend hcore => ?_, fun h w hready hrun hh hw hle hg hc => ?_, fun hg => ?_,
    fun hg => ⟨fun hfit => ?_, fun hover => ?_⟩, fun pass hready hrun hlt => ⟨fun hwait => ?_, fun hwait => ?_⟩,
    fun hready hrun hpass => ?_, fun pass hready hrun hnext hlt => ⟨fun hwait => ?_, fun hwait => ?_⟩,
    fun r hr hready hup htest hcopy hon => execRegionTestStart_starts hr hready hup htest hcopy hon,
    fun r htest hr hjobs => ?_, fun tg htest hjobs hpass => ?_, fun pass hdue hup hwait => ?_, fun pass hdue => ?_⟩
  · exact congrArg Host.Outcome.next (State.runOp_ends hrun (by simp [hcore]) hready
      (hdeclareEffect_core hn hend hcore))
  · exact congrArg Host.Outcome.next (State.runOp_ends hrun (by simp; omega) hready (hpinEffect_form hn hh hw hg hc))
  · obtain ⟨t, heff, hsame, hrg⟩ := hraiseEffect_clears (s := s) (v := v)
    have hnext : exec (.hraiseClear m v) s = .next (t.answer m 0 .done) := by
      refine congrArg Host.Outcome.next ?_
      rw [State.write_pass hg, heff]
      exact State.complete_done _ _ _ _ _
    exact ⟨_, hnext, hrg, State.lastOf_answer _ _ _ _, hsame.gran, hsame.own⟩
  · have heff : ctxResEffect v s = (s.setRg 0x1C 0x06C (v &&& 0x00FFFFFF), .done) := if_neg (by omega)
    refine congrArg Host.Outcome.next ?_
    rw [State.write_pass hg, heff]
    exact State.complete_done _ _ _ _ _
  · have heff : ctxResEffect v s = (s, .arg) := if_pos hover
    refine congrArg Host.Outcome.next ?_
    rw [State.write_pass hg, heff]
    rfl
  · obtain ⟨t, c, heff, hwork, hc, hgood⟩ := bankReturn_ends (s := s) (pass := pass) hlt
    rw [hb] at heff hwait
    refine ⟨_, congrArg Host.Outcome.next (State.runOp_ends hrun (by rw [← hb]; simpa using hlt) hready
      ((if_neg (by rw [hwait]; decide)).trans heff)), by rw [State.slot_setResult_self, hc], fun hskip hok => ?_,
      (hres _ _).own.trans hwork.same.own, (hres _ _).flash.trans hwork.same.flash⟩
    rw [State.bankGood_setResult]
    exact hgood hskip hok
  · rw [hb] at hwait
    exact congrArg Host.Outcome.next (State.runOp_waits hrun (by rw [← hb]; simpa using hlt) hready (if_pos hwait))
  · have hnone : (s.gran.pass == some (BitVec.ofNat 7 tag.val)) = false := by rw [hpass]; rfl
    exact congrArg Host.Outcome.next (State.runOp_waits hrun rfl hready (if_neg (by rw [hnone]; decide)))
  · obtain ⟨t, c, heff, hwork, hc⟩ := memtestBank_ends (s := s) (b := b) (pass := pass)
    refine ⟨_, congrArg Host.Outcome.next (State.runOp_ends (t := t) (c := c) hrun (by rw [← hb]; simp [hlt]) hready ?_),
      by rw [State.slot_setResult_self, hc], (hres _ _).own.trans hwork.same.own,
      (hres _ _).flash.trans hwork.same.flash⟩
    dsimp only
    rw [hbank hnext, hwait, if_neg (by decide)]
    exact heff
  · refine congrArg Host.Outcome.next (State.runOp_waits hrun (by rw [← hb]; simp [hlt]) hready ?_)
    dsimp only
    rw [hbank hnext, hwait, if_pos rfl]
  · refine congrArg Host.Outcome.next ((congrArg (State.nextCopy · 2048) (State.endRegionTest_next htest hr)).trans ?_)
    exact State.nextCopy_idle (s := ({ s with gran := { s.gran with test := none } } : State).setRg _ _ _) hjobs _
  · obtain ⟨hsame, hnone, hover, hstill, hrg, hresult⟩ := State.endRegionTest_last tg.isLt htest hpass
    exact ⟨_, congrArg Host.Outcome.next (State.nextCopy_idle (hstill.trans hjobs) _), hnone, hover, hrg, hresult,
      hsame.own⟩
  · have htested : ∀ u : State, u.gran = { s.gran with bankDue := false } → u.own = s.own → u.flash = s.flash →
        ∀ bank, (u.testBank bank pass).1.gran.bankDue = false ∧ (u.testBank bank pass).1.own = s.own ∧
          (u.testBank bank pass).1.flash = s.flash := fun u hgran hown hflash bank => by
      obtain ⟨hwork, -⟩ := State.testBank_spec (s := u) bank pass
      exact ⟨by rw [hwork.due, hgran], hwork.same.own.trans hown, hwork.same.flash.trans hflash⟩
    exact ⟨_, congrArg Host.Outcome.next (if_pos (by rw [hdue, hup, hwait]; rfl)),
      htested { s with gran := { s.gran with bankDue := false } } rfl rfl rfl _⟩
  · exact congrArg Host.Outcome.next (if_neg (by rw [hdue]; simp))

end Sys2Proof.Machine
end

section
/-!
PROOFS. The log writer.
-/
namespace Sys2Proof.Machine

section
variable {s t : State}

/-! ### Items taken from a queue -/

/-- The parts that taking items from a queue may touch. -/
def popParts : List Part := [.queues, .svc]

theorem State.itemLost_same : SameBut popParts s s.itemLost := by
  unfold State.itemLost State.ueRead
  refine SameBut.trans ?_ (State.faultRec_same _ _ _ _)
  refine SameBut.trans ?_ (State.evPulse_same _ _ _)
  refine SameBut.trans ?_ (State.setRg_same _ _ _ _)
  exact (s.pickFrom_same _).trans (State.draw_same _)

theorem State.popItem_same (q : Nat) : SameBut popParts s (s.popItem q).1 := by
  unfold State.popItem
  dsimp only
  split
  · exact s.pointerFault_same q
  · split
    · exact .refl s
    · have hput : ∀ x, SameBut popParts s ((s.putQueue q x).refreshQueue q) := fun x =>
        (s.putQueue_same q x).trans (State.refreshQueue_same _ _)
      split
      · exact ((hput _).trans (State.qCount_same _ _ _ _)).trans State.itemLost_same
      · exact hput _

theorem State.popLogged_same (q : Nat) : SameBut popParts s (s.popLogged q).1 :=
  (s.popItem_same q).trans (State.logPush_same _ _ _)

theorem State.popItems_same (q n : Nat) : SameBut popParts s (s.popItems q n).1 := by
  induction n generalizing s with
  | zero => exact .refl s
  | succ n ih => exact (s.popLogged_same q).trans ih

theorem State.popItems_length (q n : Nat) : (s.popItems q n).2.length = n := by
  induction n generalizing s with
  | zero => rfl
  | succ n ih => exact congrArg (· + 1) ih

/-! ### The codewords the writer has to program -/

/-- t is s but for operation slots and the program operation the log writer waits for. -/
structure Pumped (s t : State) : Prop where
  same : SameBut [.ops, .flash] s t
  regs : RegsBut [] s t
  flash : t.flash = { s.flash with log := { s.flash.log with slot := t.flash.log.slot } }

theorem Pumped.refl (s : State) : Pumped s s := ⟨.refl s, .refl s, rfl⟩

theorem State.agentQueue_regs {l : List Nat} {src page op tag : Nat} {args : List Word}
    (h : s.agentQueue src page op args = some (tag, t)) : RegsBut l s t := by
  unfold State.agentQueue State.allocSlot at h
  split at h
  · split at h
    · cases h
    · cases h
      exact s.putSlot_regs _ _
  · cases h

theorem State.logPump_pumped : Pumped s s.logPump := by
  unfold State.logPump
  dsimp only
  split
  · exact .refl s
  · refine iteInduction (fun _ => .refl s) (fun _ => ?_)
    split
    · exact .refl s
    · next h =>
      have hsame := State.agentQueue_same (l := [.ops]) _ h
      refine ⟨hsame.mono.trans (State.updLog_same _ _).mono, (State.agentQueue_regs h).trans (.of_regs rfl), ?_⟩
      have hset : ∀ (u : State) (y : Option (BitVec 7 × Nat)), u.flash = s.flash →
          (u.updLog (fun l => { l with slot := y })).flash = { s.flash with log := { s.flash.log with slot := y } } :=
        fun u y hu => hu ▸ rfl
      exact hset _ _ hsame.flash

theorem State.logPump_idle (htodo : s.flash.log.todo = []) : s.logPump = s := by
  unfold State.logPump
  dsimp only
  rw [htodo]

theorem State.assignFull_short (hshort : s.flash.log.buf.length < 8) (n : Nat) : s.assignFull n = s := by
  cases n with
  | zero => rfl
  | succ n => exact if_pos hshort

theorem State.logRecord_same (reason page cw : Nat) : SameBut [.gran] s (s.logRecord reason page cw) :=
  s.place_same _ _ _ _ _ _

theorem State.setLogPos_same {l : List Part} (page cw : Nat) : SameBut l s (s.setLogPos page cw) := s.setRg_same _ _ _

/-- The parts that the log writer's own state takes. -/
def logParts : List Part := [.gran, .ops, .flash, .svc]

/-- What assigning a codeword leaves: it stands behind those already waiting; the cells and the buffer are as they were. -/
theorem State.assign_spec (words : List Word) (commit : Bool) : SameBut logParts s (s.assign words commit) ∧
    (s.assign words commit).flash.cells = s.flash.cells ∧
    (s.assign words commit).flash.log.buf = s.flash.log.buf ∧
    (s.assign words commit).flash.log.todo =
      s.flash.log.todo ++ [{ page := s.logPage, cw := s.logCw, words := words, commit := commit }] := by
  have hpos : ∀ (u v : State) (page cw next : Nat), v = (if cw + 1 < 16 then u.setLogPos page (cw + 1) else
      u.setLogPos next 0) → SameBut [] u v := fun u v page cw next h => by
    subst h
    exact .ite (State.setLogPos_same _ _) (State.setLogPos_same _ _)
  unfold State.assign
  dsimp only
  generalize hu : (if s.logCw = 0 && !commit then s.logRecord 1 s.logPage s.logCw else s) = u
  have husame : SameBut [.gran] s u := by
    subst hu
    exact .ite (State.logRecord_same _ _ _) (.refl s)
  generalize hv : (if u.flash.log.entered != some (s.logPage / 32) then u.updLog (fun l => { l with
    entered := some (s.logPage / 32), sector := some (u.sectorNext (s.logPage / 32)) }) else u) = v
  obtain ⟨hvsame, hcells, hbuf, htodo⟩ : SameBut [.flash] u v ∧ v.flash.cells = u.flash.cells ∧
      v.flash.log.buf = u.flash.log.buf ∧ v.flash.log.todo = u.flash.log.todo := by
    subst hv
    split
    · exact ⟨State.updLog_same _ _, rfl, rfl, rfl⟩
    · exact ⟨.refl u, rfl, rfl, rfl⟩
  have hlast := fun y : State => hpos y _ s.logPage s.logCw (y.ringNext s.logPage) rfl
  refine ⟨((husame.mono.trans hvsame.mono).trans (State.updLog_same _ _).mono).trans (hlast _).mono, ?_, ?_, ?_⟩
  · exact (congrArg FlashState.cells (hlast _).flash).trans (hcells.trans (congrArg FlashState.cells husame.flash))
  · exact (congrArg (fun x : FlashState => x.log.buf) (hlast _).flash).trans
      (hbuf.trans (congrArg (fun x : FlashState => x.log.buf) husame.flash))
  · exact (congrArg (fun x : FlashState => x.log.todo) (hlast _).flash).trans
      (congrArg (· ++ _) (htodo.trans (congrArg (fun x : FlashState => x.log.todo) husame.flash)))

/-- A commit's words are assigned behind what waits. -/
theorem State.logCommit_commits (hruns : s.logRuns = true) (hdue : s.flash.log.due = true)
    (htodo : s.flash.log.todo = []) : s.logCommit.flash.log.due = false ∧ s.logCommit.flash.log.count = 0 ∧
      s.logCommit.flash.log.crc = 0xFFFFFFFF ∧ s.logCommit.flash.log.first = none ∧ s.logCommit.flash.log.buf = [] ∧
      s.logCommit.rg 0x1E 0x060 = 0 ∧ s.logCommit.flash.log.todo.getLast?.map (·.commit) = some true ∧
      s.logCommit.flash.cells = s.flash.cells ∧ s.logCommit.own = s.own := by
  unfold State.logCommit
  rw [if_neg (by simp [hruns, hdue]), if_neg (by simp [htodo])]
  extract_lets buf s1 l words s2 page s3 s4
  obtain ⟨h1, hcells1, hbuf1⟩ : SameBut logParts s s1 ∧ s1.flash.cells = s.flash.cells ∧ s1.flash.log.buf = [] := by
    by_cases hbuf : s.flash.log.buf.isEmpty = true
    · rw [show s1 = s from if_pos hbuf]
      exact ⟨.refl s, rfl, List.isEmpty_iff.mp hbuf⟩
    · rw [show s1 = (s.updLog (fun l => { l with buf := [] })).assign
        (buf ++ List.replicate (8 - buf.length) 0xFFFFFFFF) false from if_neg hbuf]
      obtain ⟨hsame, hcells, hempty, -⟩ := State.assign_spec (s := s.updLog (fun l => { l with buf := [] }))
        (buf ++ List.replicate (8 - buf.length) 0xFFFFFFFF) false
      exact ⟨(State.updLog_same s _).mono.trans hsame, hcells, hempty⟩
  have h2 : SameBut [.gran] s1 s2 := .ite ((State.logRecord_same _ _ _).trans (State.setLogPos_same _ _)) (.refl s1)
  have hrec : SameBut [.gran] s2 (s2.logRecord 2 page s2.logCw) := State.logRecord_same _ _ _
  have hflash : (s2.logRecord 2 page s2.logCw).flash = s1.flash := hrec.flash.trans h2.flash
  obtain ⟨h3, hcells3, hbuf3, htodo3⟩ := State.assign_spec (s := s2.logRecord 2 page s2.logCw) words true
  have h4 : SameBut [] s3 s4 := (State.setLogPos_same _ _).trans (State.setRg_same _ _ _ _)
  generalize hu : s4.updLog (fun l => { l with crc := 0xFFFFFFFF, count := 0, first := none, due := false }) = u
  have hlog : u.flash.log = { s3.flash.log with crc := 0xFFFFFFFF, count := 0, first := none, due := false } := by
    rw [← hu, ← h4.flash]
    rfl
  have hucells : u.flash.cells = s3.flash.cells := by
    rw [← hu, ← h4.flash]
    rfl
  have hurg : u.rg 0x1E 0x060 = 0 := by
    rw [← hu]
    exact State.rg_setRg_self (s := s3.setLogPos (s3.ringNext page) 0) (p := 0x1E) (o := 0x060) (w := 0)
  have huown : u.own = s.own := by
    rw [← hu]
    exact h4.own.trans (h3.own.trans (hrec.own.trans (h2.own.trans h1.own)))
  obtain ⟨hpsame, hpregs, hpflash⟩ := u.logPump_pumped
  rw [hpflash]
  refine ⟨congrArg LogWriter.due hlog, congrArg LogWriter.count hlog, congrArg LogWriter.crc hlog,
    congrArg LogWriter.first hlog, ?_, ?_, ?_, ?_, hpsame.own.trans huown⟩
  · refine (congrArg LogWriter.buf hlog).trans (hbuf3.trans ?_)
    rw [hflash, hbuf1]
  · exact (hpregs 0x1E 0x060 (by decide) (by unfold Quiet; omega)).trans hurg
  · refine (congrArg (fun x : LogWriter => x.todo.getLast?.map (·.commit)) hlog).trans ?_
    refine (congrArg (fun x : List LogWord => x.getLast?.map (·.commit)) htodo3).trans ?_
    rw [List.getLast?_append, List.getLast?_singleton]
    rfl
  · refine hucells.trans (hcells3.trans ?_)
    rw [hflash, hcells1]

/-- A packet that fits what waits is appended behind its header word. -/
theorem State.logAppend_takes {q n : Nat} {u : State} {items : List Word} (hruns : s.logRuns = true)
    (hclock : s.clock .flash = .full) (hdue : s.flash.log.due = false) (hup : s.granaryUp = true)
    (htodo : s.flash.log.todo = []) (hsource : s.logSource = some q)
    (hlen : packetLen (s.queue q).items = some n) (hpop : s.popItems q n = (u, items))
    (hshort : s.flash.log.buf.length + n + 1 < 8) :
    s.logAppend.flash.log.buf = s.flash.log.buf ++ pack [(0, 16, n), (23, 5, q), (28, 4, 0xA)] :: items ∧
      s.logAppend.flash.log.count = s.flash.log.count + n + 1 ∧ s.logAppend.flash.log.todo = [] ∧
      s.logAppend.queues = u.queues ∧ s.logAppend.own = s.own := by
  have hsame : SameBut popParts s u := by
    have h := s.popItems_same q n
    rwa [hpop] at h
  have hitems : items.length = n := by
    have h := s.popItems_length q n
    rwa [hpop] at h
  obtain ⟨v, heq, hbuf, hcount, htodov, hqueues, hown⟩ : ∃ v : State,
      s.logAppend = (v.assignFull (items.length + 9)).logPump ∧
      v.flash.log.buf = u.flash.log.buf ++ pack [(0, 16, n), (23, 5, q), (28, 4, 0xA)] :: items ∧
      v.flash.log.count = u.flash.log.count + (items.length + 1) ∧ v.flash.log.todo = u.flash.log.todo ∧
      v.queues = u.queues ∧ v.own = u.own := by
    unfold State.logAppend
    rw [if_neg (by simp [hruns, hclock, hdue, hup]), if_neg (by simp [htodo]), hsource]
    dsimp only
    rw [hlen, Option.getD_some, hpop]
    exact ⟨_, rfl, rfl, rfl, rfl, rfl, rfl⟩
  rw [hsame.flash] at hbuf hcount htodov
  rw [heq, State.assignFull_short (by rw [hbuf]; simp; omega), State.logPump_idle (htodov.trans htodo)]
  exact ⟨hbuf, by rw [hcount, hitems]; omega, htodov.trans htodo, hqueues, hown.trans hsame.own⟩

/-- The writer resumes at the start of an empty ring that is clean there. -/
theorem State.logResume_empty (hup : s.flashUp = true) (hon : flag (s.rg 0x1E 0x054) 0 = true)
    (hresumed : s.flash.log.resumed = false) (hnewest : s.newestCommit = none) (hcount : 1 ≤ s.logCount)
    (hclean : s.wordlineClean (32 * s.logFirst) = true) :
    s.logResume = ((s.setLogPos (32 * s.logFirst) 0).setRg 0x1E 0x05C 0).updLog (fun l => { l with
      resumed := true, entered := none }) := by
  have hpos : 2 * (s.logFirst * 16 + 0) = 32 * s.logFirst := by omega
  have hfirst : firstFrom (s.logCount * 16) (0 % (s.logCount * 16))
      (fun k => s.wordlineClean (2 * (s.logFirst * 16 + k))) = some 0 := by
    obtain ⟨k, hk⟩ : ∃ k, s.logCount * 16 = k + 1 := ⟨s.logCount * 16 - 1, by omega⟩
    unfold firstFrom
    rw [hk, List.range_succ_eq_map, List.map_cons, Nat.zero_mod, Nat.zero_mod, List.find?_cons_of_pos]
    exact (congrArg s.wordlineClean hpos).trans hclean
  have henters : (32 * s.logFirst % 32 == 0) = true := by simp
  unfold State.logResume
  rw [if_neg (by simp [hup, hon, hresumed]), hnewest]
  dsimp only
  rw [hfirst]
  dsimp only
  rw [hpos, henters]
  rfl

theorem State.logErase_asks {n tag : Nat} (hsector : s.flash.log.sector = some n) (herasing : s.flash.log.erasing = none)
    (hup : s.flashUp = true) (h : s.agentQueue 6 0x1E 2 [BitVec.ofNat 32 (0x800000 + n * 16384)] = some (tag, t)) :
    s.logErase = t.updLog (fun l => { l with sector := none, erasing := some (BitVec.ofNat 7 tag) }) := by
  unfold State.logErase
  rw [hsector]
  dsimp only
  rw [if_neg (by simp [herasing, hup]), h]

end

/-- Settles O43, row by row. -/
theorem logWriter : Obligations.LogWriter := by
  unfold Obligations.LogWriter
  intro s m v
  refine ⟨fun q n u items hruns hclock hdue hup htodo hsource hlen hpop hshort => ⟨_, rfl,
      State.logAppend_takes hruns hclock hdue hup htodo hsource hlen hpop hshort⟩,
    fun hoff => ⟨congrArg Host.Outcome.next (if_pos (by simp [hoff])), congrArg Host.Outcome.next (if_pos (by simp [hoff]))⟩,
    fun hruns hdue htodo => ⟨_, rfl, State.logCommit_commits hruns hdue htodo⟩,
    fun t hfirst => ?_, fun hfirst => ?_, fun hg htodo => ?_,
    fun n t u hsector herasing hup h => congrArg Host.Outcome.next (State.logErase_asks hsector herasing hup h),
    fun hsector => ?_,
    fun hup hon hresumed hnewest hcount hclean =>
      congrArg Host.Outcome.next (State.logResume_empty hup hon hresumed hnewest hcount hclean),
    fun hresumed => congrArg Host.Outcome.next (if_pos (by simp [hresumed])),
    fun hg => ⟨fun hon => ?_, fun hon hcount hend hrot => ?_⟩⟩
  · refine congrArg Host.Outcome.next ?_
    rw [hfirst]
  · refine congrArg Host.Outcome.next ?_
    rw [hfirst]
  · have heff : logctlEffect v s = (((s.setRg 0x1E 0x054 (v &&& 1)).updLog (fun l => { l with
        halted := false, due := l.due || flag v 1 })).refreshFlash, .done) := by
      unfold logctlEffect
      dsimp only
      generalize hu : (s.setRg 0x1E 0x054 (v &&& 1)).updLog _ = u
      rw [State.logPump_idle]
      rw [(u.refreshFlash_same (l := [])).flash, ← hu]
      exact htodo
    refine congrArg Host.Outcome.next ?_
    rw [State.write_pass hg, heff]
    exact State.complete_done _ _ _ _ _
  · refine congrArg Host.Outcome.next ?_
    unfold State.logErase
    rw [hsector]
  · refine congrArg Host.Outcome.next ?_
    rw [State.write_pass hg, show logcfgEffect v s = (s, .state) from if_pos hon]
    rfl
  · have heff : logcfgEffect v s = ((s.setRg 0x1E 0x04C (v &&& 0x03FF01FF)).updLog (fun l => { l with
        resumed := false }), .done) := by
      unfold logcfgEffect
      dsimp only
      rw [if_neg (by simp [hon]), if_neg (by simp; omega), if_neg (by simp; omega)]
    refine congrArg Host.Outcome.next ?_
    rw [State.write_pass hg, heff]
    exact State.complete_done _ _ _ _ _

end Sys2Proof.Machine
end

section
/-!
PROOFS. Reads of the flash array and the running core.
-/
namespace Sys2Proof.Machine

section
variable {s t u : State}

/-! ### Reads of the flash array -/

/-- What reading codewords leaves: the array's order stands, and its cells unless a program operation runs. -/
structure FlashSeen (s t : State) : Prop where
  same : SameBut [.flash, .svc] s t
  map : t.flash.map = s.flash.map
  dirty : t.flash.dirty = s.flash.dirty
  journal : t.flash.journal = s.flash.journal
  refreshes : t.flash.refreshes = s.flash.refreshes
  run : t.flash.run = s.flash.run
  cells : s.flash.run = none → t.flash.cells = s.flash.cells

theorem FlashSeen.refl (s : State) : FlashSeen s s := ⟨.refl s, rfl, rfl, rfl, rfl, rfl, fun _ => rfl⟩

theorem FlashSeen.trans (h : FlashSeen s t) (g : FlashSeen t u) : FlashSeen s u :=
  ⟨h.same.trans g.same, g.map.trans h.map, g.dirty.trans h.dirty, g.journal.trans h.journal,
    g.refreshes.trans h.refreshes, g.run.trans h.run, fun hrun => (g.cells (h.run.trans hrun)).trans (h.cells hrun)⟩

theorem FlashSeen.of_flash (h : SameBut [.svc] s t) : FlashSeen s t :=
  have hf : t.flash = s.flash := h.flash
  ⟨h.mono, congrArg FlashState.map hf, congrArg FlashState.dirty hf, congrArg FlashState.journal hf,
    congrArg FlashState.refreshes hf, congrArg FlashState.run hf, fun _ => congrArg FlashState.cells hf⟩

theorem FlashSeen.ite {c : Prop} {_ : Decidable c} (ht : FlashSeen s t) (hu : FlashSeen s u) :
    FlashSeen s (if c then t else u) := by
  split
  · exact ht
  · exact hu

theorem State.putCws_same (cw : Nat) (l : List Word) (n : Nat) : SameBut [.flash] s (s.putCws cw l n) := by
  induction n generalizing s cw l with
  | zero => exact .refl s
  | succ n ih => exact (SameBut.set_flash s).trans (ih (s := s.putCw cw (l.take 8)) (cw + 1) (l.drop 8))

/-- What no codeword written changes, codewords written do not change. -/
theorem State.putCws_keeps {α : Type} {f : FlashState → α} (hf : ∀ x p l, f (x.putPhys p l) = f x) (cw : Nat)
    (l : List Word) (n : Nat) : f (s.putCws cw l n).flash = f s.flash := by
  induction n generalizing s cw l with
  | zero => rfl
  | succ n ih => exact (ih (s := s.putCw cw (l.take 8)) (cw + 1) (l.drop 8)).trans (hf _ _ _)

theorem State.betweenCws_seen : FlashSeen s s.betweenCws := by
  unfold State.betweenCws
  split
  · next r hr =>
    refine .ite (.refl s) ⟨(s.putCws_same _ _ _).mono, ?_, ?_, ?_, ?_, ?_, fun h => absurd (h.symm.trans hr) (by simp)⟩
    · exact State.putCws_keeps (f := FlashState.map) (fun _ _ _ => rfl) _ _ _
    · exact State.putCws_keeps (f := FlashState.dirty) (fun _ _ _ => rfl) _ _ _
    · exact State.putCws_keeps (f := FlashState.journal) (fun _ _ _ => rfl) _ _ _
    · exact State.putCws_keeps (f := FlashState.refreshes) (fun _ _ _ => rfl) _ _ _
    · exact State.putCws_keeps (f := FlashState.run) (fun _ _ _ => rfl) _ _ _
  · exact .refl s

theorem State.noteWeak_seen (cw cbits : Nat) (ue : Bool) : FlashSeen s (s.noteWeak cw cbits ue) := by
  have hset : ∀ l : List WeakEntry → List WeakEntry, FlashSeen s (s.updFlash (fun x => { x with weak := l x.weak })) := fun l =>
    ⟨(SameBut.set_flash s), rfl, rfl, rfl, rfl, rfl, fun _ => rfl⟩
  unfold State.noteWeak
  dsimp only
  refine .ite (hset _) (.ite (.refl s) (.ite (.of_flash (s.updRg_same _ _ _)) ?_))
  exact (hset (fun y => y ++ [_])).trans (.of_flash (((State.updRg_same _ _ _ _).trans (State.evPulse_same _ _ _)).trans
    (State.refreshFlash_same _)))

theorem State.noteRead_seen (who : Option Master) (cw cbits : Nat) (ue : Bool) :
    FlashSeen s (s.noteRead who cw cbits ue) := by
  have hrest : ∀ w : State, FlashSeen w (State.noteWeak (if ue then
      ((w.updRg 0x1E 0x09C (fun x => satField x 31 16 1)).evPulse 0x1E 1).faultRec 0x0C 0x1E (cwBank cw)
      else if cbits ≥ 1 then w.updRg 0x1E 0x09C (fun x => satField x 15 0 1) else w) cw cbits ue) := fun w => by
    refine FlashSeen.trans (.of_flash ?_) (State.noteWeak_seen _ _ _)
    exact .ite (((w.updRg_same _ _ _).trans (State.evPulse_same _ _ _)).trans (State.faultRec_same _ _ _ _))
      (.ite (w.updRg_same _ _ _) (.refl w))
  unfold State.noteRead
  cases who with
  | some m => exact .trans (.of_flash (s.setOwn1_same _ _ _ _)) (hrest _)
  | none => exact hrest s

theorem State.flashRead_seen (who : Option Master) (cw : Nat) : FlashSeen s (s.flashRead who cw).1 := by
  have hbetween := s.betweenCws_seen
  have hdraw : ∀ w : State, FlashSeen w w.draw.2 := fun w => .of_flash w.draw_same
  have hfree : ∀ w : State, FlashSeen w (w.freeBytes 32).1 := fun w => .of_flash (w.freeBytes_same 32)
  unfold State.flashRead
  generalize s.betweenCws = b at hbetween ⊢
  have hb := hdraw b
  have hv := hfree b.draw.2
  dsimp only
  generalize (if b.eraseCut cw = true then 3 else _) = h
  split
  · exact hbetween.trans (b.noteRead_seen _ _ _ _)
  · split
    · exact hbetween.trans (b.noteRead_seen _ _ _ _)
    · split
      · exact hbetween.trans (b.noteRead_seen _ _ _ _)
      · split
        · exact (hbetween.trans hb).trans (b.draw.2.noteRead_seen _ _ _ _)
        · split
          · exact (hbetween.trans hb).trans (b.draw.2.noteRead_seen _ _ _ _)
          · exact ((hbetween.trans hb).trans hv).trans (State.noteRead_seen _ _ _ _)

theorem State.fetched_seen (cw : Nat) (l : List Byte) : FlashSeen s (s.fetched cw l) := by
  have hkept : ∀ (w : State) (f : FlashState → FlashState), (∀ x, (f x).map = x.map ∧ (f x).dirty = x.dirty ∧
      (f x).journal = x.journal ∧ (f x).refreshes = x.refreshes ∧ (f x).run = x.run ∧ (f x).cells = x.cells) →
      FlashSeen w (w.updFlash f) := fun w f hf => by
    obtain ⟨hmap, hdirty, hjournal, hrefreshes, hrun, hcells⟩ := hf w.flash
    exact ⟨SameBut.set_flash w, hmap, hdirty, hjournal, hrefreshes, hrun, fun _ => hcells⟩
  have hahead : ∀ w : State, FlashSeen w (w.fetchAhead cw) := fun w => by
    unfold State.fetchAhead
    dsimp only
    refine .ite (.refl w) ?_
    have hread := w.flashRead_seen none (cw + 1)
    split
    · next h =>
      rw [h] at hread
      exact hread.trans (hkept _ _ (fun _ => ⟨rfl, rfl, rfl, rfl, rfl, rfl⟩))
    · next h =>
      rw [h] at hread
      exact hread
  unfold State.fetched
  extract_lets taken s1
  exact (show FlashSeen s s1 from hkept s _ (fun _ => ⟨rfl, rfl, rfl, rfl, rfl, rfl⟩)).trans (hahead s1)

/-! ### What a codeword with few errors reads -/

/-- Health of a codeword under a program operation that goes on. -/
theorem State.putCws_health {p : Nat} (cw : Nat) (l : List Word) (n : Nat)
    (h : Tab.get (fun _ => 0) s.flash.health p ≤ 2) : Tab.get (fun _ => 0) (s.putCws cw l n).flash.health p ≤ 2 := by
  induction n generalizing s cw l with
  | zero => exact h
  | succ n ih =>
    refine ih (s := s.putCw cw (l.take 8)) (cw := cw + 1) (l := l.drop 8) ?_
    refine (congrArg (· ≤ 2) (Tab.get_set (t := s.flash.health) (k := s.physCw cw) (v := 0))).mpr ?_
    split
    · omega
    · exact h

theorem State.betweenCws_health {p : Nat} (h : Tab.get (fun _ => 0) s.flash.health p ≤ 2) :
    Tab.get (fun _ => 0) s.betweenCws.flash.health p ≤ 2 := by
  unfold State.betweenCws
  split
  · split
    · exact h
    · exact State.putCws_health _ _ _ h
  · exact h

theorem State.putCws_regs (cw : Nat) (l : List Word) (n : Nat) : (s.putCws cw l n).regs = s.regs := by
  induction n generalizing s cw l with
  | zero => rfl
  | succ n ih => exact ih (s := s.putCw cw (l.take 8)) (cw := cw + 1) (l := l.drop 8)

theorem State.betweenCws_regs : s.betweenCws.regs = s.regs := by
  unfold State.betweenCws
  split
  · split
    · rfl
    · exact State.putCws_regs _ _ _
  · rfl

/-- A codeword with at most two errors reads. -/
theorem State.flashRead_good {who : Option Master} {cw : Nat} (hmap : s.unmapped (cw / 512) = false)
    (hcut : s.eraseCut cw = false) (hhealth : Tab.get (fun _ => 0) s.flash.health (s.physCw cw) ≤ 2) :
    ∃ t l, s.flashRead who cw = (t, some l) := by
  have hseen := s.betweenCws_seen
  have hmap' : s.betweenCws.unmapped (cw / 512) = false := by
    rw [← hmap, State.unmapped, State.unmapped, State.rotW, State.rotW, State.rg, State.rg, State.reg, State.reg,
      State.betweenCws_regs]
  have hcut' : s.betweenCws.eraseCut cw = false := by
    rw [State.eraseCut, hseen.journal]
    exact hcut
  have hphys : s.betweenCws.physCw cw = s.physCw cw := by
    rw [State.physCw, State.physSector, hseen.map]
    rfl
  have hhealth' : Tab.get (fun _ => 0) s.betweenCws.flash.health (s.betweenCws.physCw cw) ≤ 2 := by
    rw [hphys]
    exact State.betweenCws_health hhealth
  unfold State.flashRead
  dsimp only
  rw [hmap', if_neg (by decide), hcut', if_neg (c := false = true) (by decide), if_pos hhealth']
  exact ⟨_, _, rfl⟩

end

end Sys2Proof.Machine
end

section
/-!
PROOFS. The running core: traps, waits for interrupts, reads of flash, checkpoints and lockstep.
-/
namespace Sys2Proof.Machine

section
variable {s t u : State}

/-! ### Traps -/

theorem CoreState.csrOf_setCsr_self (c : CoreState) (n : Nat) (w : Word) : (c.setCsr n w).csrOf n = w := Tab.get_set_self

theorem CoreState.csrOf_setCsr_other (c : CoreState) {n k : Nat} (w : Word) (h : k ≠ n) :
    (c.setCsr n w).csrOf k = c.csrOf k := Tab.get_set_other h

/-- What a trap saves, and where it goes. -/
theorem State.trap_saves (cause tval : Word) : (s.trap cause tval).core.csrOf 0x341 = s.core.pc ∧
    (s.trap cause tval).core.csrOf 0x342 = cause ∧ (s.trap cause tval).core.csrOf 0x343 = tval ∧
    (s.trap cause tval).core.machine = true ∧ (s.trap cause tval).core.pc = s.core.trapVector cause ∧
    (s.trap cause tval).core.x = s.core.x ∧ (s.trap cause tval).bank = s.bank := by
  have hcsr : ∃ w, ∀ k, (s.trap cause tval).core.csrOf k =
      ((((s.core.setCsr 0x341 s.core.pc).setCsr 0x342 cause).setCsr 0x343 tval).setCsr 0x300 w).csrOf k :=
    ⟨_, fun _ => rfl⟩
  obtain ⟨w, hcsr⟩ := hcsr
  refine ⟨?_, ?_, ?_, rfl, rfl, rfl, rfl⟩
  · rw [hcsr, CoreState.csrOf_setCsr_other _ _ (by decide), CoreState.csrOf_setCsr_other _ _ (by decide),
      CoreState.csrOf_setCsr_other _ _ (by decide), CoreState.csrOf_setCsr_self]
  · rw [hcsr, CoreState.csrOf_setCsr_other _ _ (by decide), CoreState.csrOf_setCsr_other _ _ (by decide),
      CoreState.csrOf_setCsr_self]
  · rw [hcsr, CoreState.csrOf_setCsr_other _ _ (by decide), CoreState.csrOf_setCsr_self]

theorem State.updCore_same (f : CoreState → CoreState) : SameBut [.core] s (s.updCore f) := SameBut.set_core s

theorem State.trap_same (cause tval : Word) : SameBut [.core] s (s.trap cause tval) := State.updCore_same _

/-! ### Reads of the core from flash -/

/-- The state in which a core read of a codeword with errors goes on. -/
def State.withErrors (s : State) (cw errors : Nat) : State :=
  let old := Tab.get (fun _ => 0) s.flash.health (s.physCw cw)
  s.updFlash (fun x => { x with health := Tab.set (fun _ => 0) x.health (s.physCw cw) (max old errors) })

theorem State.withErrors_health {cw errors : Nat} (h : Tab.get (fun _ => 0) s.flash.health (s.physCw cw) ≤ 2)
    (he : errors ≤ 2) :
    Tab.get (fun _ => 0) (s.withErrors cw errors).flash.health ((s.withErrors cw errors).physCw cw) ≤ 2 :=
  (congrArg (· ≤ 2) (Tab.get_set_self (t := s.flash.health) (k := s.physCw cw))).mpr (by omega)

theorem State.coreFlashRead_fetch {cw errors : Nat} (hruns : s.hartRuns = true) (hup : s.flashUp = true)
    (hcw : cw < 0x40000) : s.coreFlashRead cw true errors = (s.withErrors cw errors).coreRead cw true := by
  unfold State.coreFlashRead
  rw [if_pos (by simp [hruns, hup]), if_neg (by simp; omega)]
  rfl

theorem State.withErrors_seen (cw errors : Nat) : FlashSeen s (s.withErrors cw errors) :=
  ⟨SameBut.set_flash s, rfl, rfl, rfl, rfl, rfl, fun _ => rfl⟩

theorem State.coreRead_busy {cw : Nat} (hline : s.lineOf cw = none) (hbusy : s.flashBusy (32 * cw) 32 = true) :
    s.coreRead cw true = s.updCore (fun c => { c with stall := some (cw, true) }) := by
  unfold State.coreRead
  rw [if_pos rfl, hline]
  exact if_pos hbusy

/-- A fetch of a codeword with few errors from a bank that is not busy. -/
theorem State.coreRead_seen {cw : Nat} (hmap : s.unmapped (cw / 512) = false) (hcut : s.eraseCut cw = false)
    (hhealth : Tab.get (fun _ => 0) s.flash.health (s.physCw cw) ≤ 2) (hbusy : s.flashBusy (32 * cw) 32 = false) :
    FlashSeen s (s.coreRead cw true) := by
  obtain ⟨t, l, hread⟩ := State.flashRead_good (s := s.draw.2) (who := some .core) hmap hcut hhealth
  have hseen : FlashSeen s t := by
    have h := State.flashRead_seen (s := s.draw.2) (some .core) cw
    rw [hread] at h
    exact FlashSeen.trans (.of_flash s.draw_same) h
  unfold State.coreRead
  rw [if_pos rfl]
  cases hline : s.lineOf cw with
  | some l => exact s.fetched_seen cw l
  | none =>
    refine FlashSeen.trans hseen ?_
    dsimp only
    rw [if_neg (by simp [hbusy]), hread]
    exact State.fetched_seen cw l

/-! ### Uncorrectable words of the TCM -/

theorem State.tcmError_traps {w : Nat} {fetch : Bool} (hruns : s.hartRuns = true) (hw : fetch = true → w < 0x10000) :
    (s.tcmError w fetch).core.csrOf 0x342 = (if fetch = true then 1 else 5) ∧
      (s.tcmError w fetch).core.csrOf 0x341 = s.core.pc ∧ w ∈ (s.tcmError w fetch).core.tcmBad ∧
      (s.tcmError w fetch).core.machine = true ∧ SameBut [.core, .svc] s (s.tcmError w fetch) := by
  have hbad : ∀ c : CoreState, w ∈ (if c.tcmBad.contains w then c else { c with tcmBad := w :: c.tcmBad }).tcmBad ∧
      (if c.tcmBad.contains w then c else { c with tcmBad := w :: c.tcmBad }).pc = c.pc := fun c => by
    split
    · next h => exact ⟨by simpa using h, rfl⟩
    · exact ⟨List.mem_cons_self .., rfl⟩
  have hfetch : (fetch && decide (0x10000 ≤ w)) = false := by
    cases fetch
    · rfl
    · simpa using hw rfl
  unfold State.tcmError
  rw [if_pos hruns]
  dsimp only
  rw [if_neg (by simpa using hfetch)]
  generalize hu : s.updCore _ = u
  have hcore : w ∈ u.core.tcmBad ∧ u.core.pc = s.core.pc := hu ▸ hbad s.core
  have husame : SameBut [.core] s u := hu ▸ State.updCore_same _
  generalize hv : (State.evPulse _ 0x38 1).faultRec 0x05 0x38 _ = v
  have hvsame : SameBut [.svc] u v := by
    rw [← hv]
    refine SameBut.trans ?_ (State.faultRec_same _ _ _ _)
    refine SameBut.trans ?_ (State.evPulse_same _ _ _)
    exact (u.updRg_same _ _ _).trans (State.setRg_same _ _ _ _)
  obtain ⟨hpc, hcause, -, hmachine, -⟩ := v.trap_saves (if fetch = true then 1 else 5)
    (BitVec.ofNat 32 (if decide (w ≥ 0x10000) = true then 0x10000000 + 4 * (w - 0x10000) else 4 * w))
  refine ⟨hcause, hpc.trans ((congrArg CoreState.pc hvsame.core).trans hcore.2), ?_, hmachine,
    (husame.mono.trans hvsame.mono).trans (State.trap_same _ _).mono⟩
  have h := hcore.1
  rw [← hvsame.core] at h
  exact h

/-! ### The lockstep pair -/

/-- A first mismatch takes the pair back to its checkpoint. -/
theorem execLockstepResync_rollsBack (hreleased : s.core.released = true) (hwfi : s.core.wfi = false)
    (hdepth : s.pwr.depth = .awake) (hup : s.unavailable .core = false) (hopen : s.core.resyncOpen = false)
    (hfew : (s.core.resyncs.filter (fun t => decide ((s.now - t).toNat ≤ secTime 1))).length < 3) :
    ∃ t, execLockstepResync s = .next t ∧ t.core.pc = s.core.ckpt.pc ∧ t.core.x = s.core.ckpt.x ∧
      t.core.machine = s.core.ckpt.machine ∧ t.core.resyncOpen = true ∧ t.core.undo = [] ∧
      t.rg 0x38 0x058 = s.core.ckpt.pc ∧ SameBut [.core, .svc] s t := by
  unfold execLockstepResync
  rw [if_pos (by simp [hreleased, hwfi, hdepth, hup]), if_neg (by simp [hopen])]
  extract_lets recent s1 s2 s3
  have h1 : SameBut [.core] s s1 := State.updCore_same _
  have h2 : SameBut [.svc] s1 s2 :=
    ((s1.updRg_same _ _ _).trans (State.setRg_same _ _ _ _)).trans (State.setPair_same _ _ _ _)
  have h3 : SameBut [.svc] s2 s3 := (s2.evPulse_same _ _).trans (State.faultRec_same _ _ _ _)
  have hcore : s3.core = { s.core.rollBack with resyncs := recent } := h3.core.trans h2.core
  have hrg : s3.rg 0x38 0x058 = s.core.ckpt.pc := by
    have hkept : s3.rg 0x38 0x058 = s2.rg 0x38 0x058 :=
      ((s2.evPulse_regs (l := [0x3C]) _ _).trans (State.faultRec_regs _ _ _ _)) _ _ (by decide) (by unfold Quiet; omega)
    rw [hkept]
    exact (State.rg_setPair_other (by decide) (by decide)).trans (State.rg_setRg_self _ _ _ _)
  refine ⟨s3, congrArg Host.Outcome.next (if_neg ?_), ?_, ?_, ?_, ?_, ?_, hrg, (h1.mono.trans h2.mono).trans h3.mono⟩
  · change ¬ ((s.core.resyncs.filter _).length + 1 ≥ 4)
    omega
  · exact congrArg CoreState.pc hcore
  · exact congrArg CoreState.x hcore
  · exact congrArg CoreState.machine hcore
  · exact congrArg CoreState.resyncOpen hcore
  · exact congrArg CoreState.undo hcore

end

/-- Settles O45, event by event. -/
theorem coreEvents : Obligations.CoreEvents := by
  unfold Obligations.CoreEvents
  refine ⟨fun s => ⟨fun cause tval => s.trap_saves cause tval, fun hruns hm => ?_, fun hruns hm => ?_, fun hoff => ?_,
    fun hwfi hwake hdepth hup => ?_, fun hwfi => ?_, fun cw hruns hup hcw => ?_,
    fun cw e hruns hup hcw he hmap hcut hhealth hbusy => ?_, fun cw hruns hup hcw hline hbusy => ?_,
    fun w fetch hruns hw => ?_, fun w hruns hw => ?_, fun u hreleased hdepth hup hu => ?_,
    fun hreleased hclosed hdepth hup => ?_, fun hhalted hclosed hdepth hup => ?_, fun hclosed => ⟨?_, ?_⟩⟩,
    fun s hreleased hwfi hdepth hup => ⟨fun hopen hfew => ?_, fun hopen => ?_⟩⟩
  · exact congrArg Host.Outcome.next ((if_pos hruns).trans (if_pos hm))
  · refine ⟨_, congrArg Host.Outcome.next ((if_pos hruns).trans (if_neg (by simp [hm]))), ?_⟩
    dsimp only
    split
    · exact .inr rfl
    · exact .inl rfl
  · exact congrArg Host.Outcome.next (if_neg (by simp [hoff]))
  · exact congrArg Host.Outcome.next ((if_pos (by simp [hwfi, hwake, hdepth, hup])).trans (if_pos hwfi))
  · exact congrArg Host.Outcome.next (if_neg (by simp [hwfi]))
  · refine ⟨_, congrArg Host.Outcome.next ((if_pos (by simp [hruns, hup])).trans (if_pos (by simpa using hcw))), ?_⟩
    obtain ⟨-, -, htval, -⟩ := State.trap_saves (s := s.draw.2) 1 s.draw.1
    exact congrArg (State.trap s.draw.2 1) htval.symm
  · have hseen := (s.withErrors_seen cw.toNat e.val).trans
      (State.coreRead_seen (s := s.withErrors cw.toNat e.val) hmap hcut
        (State.withErrors_health hhealth he) hbusy)
    exact ⟨_, congrArg Host.Outcome.next (State.coreFlashRead_fetch hruns hup hcw), hseen.same.core, hseen.cells,
      hseen.same.gran, congrArg (fun o => o.owner) hseen.same.own⟩
  · have hread := (State.coreFlashRead_fetch (errors := 0) hruns hup hcw).trans
      (State.coreRead_busy (s := s.withErrors cw.toNat 0) hline hbusy)
    exact ⟨_, congrArg Host.Outcome.next hread, rfl, rfl, rfl, rfl⟩
  · obtain ⟨hcause, hpc, hbad, hmachine, hsame⟩ := State.tcmError_traps hruns hw
    exact ⟨_, rfl, hcause, hpc, hbad, hmachine, hsame.gran, hsame.flash⟩
  · refine congrArg Host.Outcome.next ?_
    unfold State.tcmError
    rw [if_pos hruns]
    dsimp only
    rw [if_pos (by simpa using hw), if_pos (by simpa using hw)]
  · subst hu
    exact congrArg Host.Outcome.next (if_pos (by simp [hreleased, hdepth, hup]))
  · exact congrArg Host.Outcome.next (if_pos (by simp [hreleased, hclosed, hdepth, hup]))
  · exact congrArg Host.Outcome.next (if_pos (by simp [hhalted, hclosed, hdepth, hup]))
  · exact congrArg Host.Outcome.next (if_neg (by simp [hclosed]))
  · exact congrArg Host.Outcome.next (if_neg (by simp [hclosed]))
  · obtain ⟨t, hnext, hpc, hx, hmachine, hresync, hundo, hrg, hsame⟩ :=
      execLockstepResync_rollsBack hreleased hwfi hdepth hup hopen hfew
    exact ⟨t, hnext, hpc, hx, hmachine, hresync, hundo, hrg, hsame.own, hsame.gran, hsame.flash, hsame.ops⟩
  · refine congrArg Host.Outcome.next ((if_pos (by simp [hreleased, hwfi, hdepth, hup])).trans ((if_pos hopen).trans ?_))
    rfl

end Sys2Proof.Machine
end

section
/-!
PROOFS. The operations of FLASH.
-/
namespace Sys2Proof.Machine

/-! ### Tables filled from a list -/

/-- A key behind the filled range, or before it, keeps its value. -/
theorem Tab.get_setFrom_outside {α : Type} [DecidableEq α] {d : Nat → α} {a n k : Nat} {t : Tab α} (l : List α)
    (hk : k < a + n ∨ a + n + l.length ≤ k) :
    Tab.get d ((l.zipIdx n).foldl (fun acc e => Tab.set d acc (a + e.2) e.1) t) k = Tab.get d t k := by
  induction l generalizing n t with
  | nil => rfl
  | cons x l ih =>
    rw [List.length_cons] at hk
    rw [List.zipIdx_cons, List.foldl_cons, ih (by omega)]
    exact Tab.get_set_other (by omega)

/-- A key of the filled range has the value listed for it. -/
theorem Tab.get_setFrom {α : Type} [DecidableEq α] {d : Nat → α} {a n i : Nat} {t : Tab α} (l : List α) (x : α)
    (hi : i < l.length) :
    Tab.get d ((l.zipIdx n).foldl (fun acc e => Tab.set d acc (a + e.2) e.1) t) (a + n + i) = l.getD i x := by
  induction l generalizing n t i with
  | nil => exact absurd hi (by simp)
  | cons y l ih =>
    rw [List.zipIdx_cons, List.foldl_cons]
    cases i with
    | zero =>
      rw [Tab.get_setFrom_outside l (by omega), Nat.add_zero, List.getD_cons_zero]
      exact Tab.get_set_self
    | succ i =>
      rw [show a + n + (i + 1) = a + (n + 1) + i by omega, List.getD_cons_succ]
      exact ih (by simpa using hi)

theorem wordsBytes_length (l : List Word) : (wordsBytes l).length = 4 * l.length := by
  induction l with
  | nil => rfl
  | cons w l ih =>
    rw [wordsBytes, List.flatMap_cons, List.length_append, bytesLE_length, List.length_cons]
    exact (congrArg (4 + ·) ih).trans (by omega)

section
variable {s t u : State} {tag : Nat}

theorem State.endStall_none (h : s.core.stall = none) : s.endStall = s := by
  unfold State.endStall
  rw [h]

/-! ### PROGRAM and ERASE -/

/-- A codeword written reads as written. -/
theorem State.cwBytes_putCw {cw : Nat} {l : List Word} (hl : l.length = 8) (hmap : s.unmapped (cw / 512) = false) :
    (s.putCw cw l).cwBytes cw = wordsBytes l := by
  have hlen : (wordsBytes l).length = 32 := by rw [wordsBytes_length, hl]
  have hcell : ∀ i, i < 32 → Tab.get flashDefault (s.putCw cw l).flash.cells (s.physCw cw * 32 + i) =
      (wordsBytes l).getD i 0 := fun i hi =>
    Tab.get_setFrom (a := s.physCw cw * 32) (n := 0) (wordsBytes l) 0 (by omega)
  unfold State.cwBytes
  rw [if_neg (by rw [show (s.putCw cw l).unmapped (cw / 512) = false from hmap]; decide)]
  refine List.ext_getElem (by simp [hlen]) (fun i hi hi' => ?_)
  rw [List.getElem_map, List.getElem_range]
  refine (hcell i (by omega)).trans ?_
  rw [List.getD_eq_getElem?_getD, List.getElem?_eq_getElem hi', Option.getD_some]

theorem State.marked_putCw {cw : Nat} {l : List Word} (hmap : s.unmapped (cw / 512) = false) :
    (s.putCw cw l).marked cw = true := by
  have hmark : Tab.get (fun _ => false) (s.putCw cw l).flash.marks (s.physCw cw) = true :=
    Tab.get_set_self (t := s.flash.marks) (k := s.physCw cw) (v := true)
  unfold State.marked
  exact (congrArg₂ (fun a b => !a && b) (show (s.putCw cw l).unmapped (cw / 512) = false from hmap) hmark)

theorem State.programEnd_plain (r : WriteRun) (hlog : s.flash.log.slot = none) (hstall : s.core.stall = none) :
    (s.programEnd tag r).endStall = ((s.putCws r.codeword r.data r.count).updFlash (fun x =>
      { (x.dropLines r.codeword r.count) with run := none })).setResult tag .done := by
  generalize hv : (s.putCws r.codeword r.data r.count).updFlash (fun x =>
    { (x.dropLines r.codeword r.count) with run := none }) = v
  have hvsame : SameBut [.flash] s v := hv ▸ (s.putCws_same _ _ _).trans (SameBut.set_flash _)
  have hvslot : v.flash.log.slot = none :=
    hv ▸ (State.putCws_keeps (f := fun x => x.log.slot) (fun _ _ _ => rfl) _ _ _).trans hlog
  have hres : SameBut [.ops] v (v.setResult tag .done) := v.setResult_same _ _
  have hend : s.programEnd tag r = v.setResult tag .done := by
    unfold State.programEnd
    dsimp only
    rw [hv, hres.flash, hvslot]
  rw [hend]
  have hall : SameBut [.flash, .ops] s (v.setResult tag .done) := hvsame.mono.trans hres.mono
  exact State.endStall_none ((congrArg CoreState.stall hall.core).trans hstall)

/-- Cells and marks of a sector wiped, and of the others. -/
theorem FlashState.wipe_cells (x : FlashState) (p a : Nat) : Tab.get flashDefault (x.wipe p).cells a =
    if a / 16384 = p then 0xFF else Tab.get flashDefault x.cells a := by
  refine (Tab.get_keep _ _ _).trans ?_
  by_cases h : a / 16384 = p
  · rw [if_neg (by simp [h]), if_pos h]
    rfl
  · rw [if_pos (by simp [h]), if_neg h]

theorem FlashState.wipe_marks (x : FlashState) (p c : Nat) : Tab.get (fun _ => false) (x.wipe p).marks c =
    if c / 512 = p then false else Tab.get (fun _ => false) x.marks c := by
  refine (Tab.get_keep _ _ _).trans ?_
  by_cases h : c / 512 = p
  · rw [if_neg (by simp [h]), if_pos h]
  · rw [if_pos (by simp [h]), if_neg h]

/-- An erase of a sector outside the window wipes it and lets its operation end. -/
theorem State.eraseEnd_wipes {r : WriteRun} (hslot : s.windowSlot (r.codeword / 512) = false)
    (htodo : s.flash.log.todo = []) (hstall : s.core.stall = none) : ∃ t, (s.eraseEnd tag r).endStall = t ∧
      t.flash.run = none ∧ (t.slot tag).result = some .done ∧
      t.flash.cells = (s.flash.wipe (s.physSector (r.codeword / 512))).cells ∧
      t.flash.marks = (s.flash.wipe (s.physSector (r.codeword / 512))).marks ∧ SameBut [.flash, .ops] s t := by
  obtain ⟨v, hv, hvsame, hrun, hcells, hmarks, hvtodo⟩ : ∃ v : State,
      s.eraseEnd tag r = (v.refreshFlash.setResult tag .done).logPump ∧ SameBut [.flash] s v ∧ v.flash.run = none ∧
      v.flash.cells = (s.flash.wipe (s.physSector (r.codeword / 512))).cells ∧
      v.flash.marks = (s.flash.wipe (s.physSector (r.codeword / 512))).marks ∧ v.flash.log.todo = [] := by
    unfold State.eraseEnd
    dsimp only
    rw [if_neg (by rw [hslot]; decide)]
    refine ⟨_, rfl, SameBut.set_flash s, rfl, rfl, rfl, ?_⟩
    refine (apply_ite LogWriter.todo _ _ _).trans (Eq.trans ?_ htodo)
    exact ite_self _
  have hsame : SameBut [.ops] v (v.refreshFlash.setResult tag .done) :=
    (v.refreshFlash_same).trans (State.setResult_same _ _ _)
  have hidle : s.eraseEnd tag r = v.refreshFlash.setResult tag .done := by
    rw [hv]
    exact State.logPump_idle ((congrArg (fun x : FlashState => x.log.todo) hsame.flash).trans hvtodo)
  have hall : SameBut [.flash, .ops] s (v.refreshFlash.setResult tag .done) := hvsame.mono.trans hsame.mono
  refine ⟨_, (congrArg State.endStall hidle).trans (State.endStall_none ?_), ?_, ?_, ?_, ?_, hall⟩
  · exact (congrArg CoreState.stall hall.core).trans hstall
  · exact (congrArg FlashState.run hsame.flash).trans hrun
  · exact congrArg Slot.result (State.slot_setResult_self _ _ _)
  · exact (congrArg FlashState.cells hsame.flash).trans hcells
  · exact (congrArg FlashState.marks hsame.flash).trans hmarks

/-- An erase of a dirty spare makes it clean. -/
theorem State.spareEnd_cleans {r : WriteRun} {p : Nat} (hp : p = r.codeword / 512) (hstall : s.core.stall = none) :
    ∃ t, (s.spareEnd tag r).endStall = t ∧ t.flash = { ((s.flash.wipe p).dropPhys p) with
        run := none, spare := none, dirty := s.flash.dirty.filter (· != p) } ∧
      (t.slot tag).result = some .done ∧ SameBut [.flash, .ops] s t := by
  subst hp
  obtain ⟨v, hv, hvsame, hvflash⟩ : ∃ v : State, s.spareEnd tag r = (v.setResult tag .done).refreshFlash ∧
      SameBut [.flash, .ops] s v ∧ v.flash = { ((s.flash.wipe (r.codeword / 512)).dropPhys (r.codeword / 512)) with
        run := none, spare := none, dirty := s.flash.dirty.filter (· != r.codeword / 512) } :=
    ⟨_, rfl, SameBut.set_flash s, rfl⟩
  have hres : SameBut [.ops] v (v.setResult tag .done) := v.setResult_same _ _
  have href : SameBut [] (v.setResult tag .done) (v.setResult tag .done).refreshFlash := State.refreshFlash_same _
  have hall : SameBut [.flash, .ops] s (v.setResult tag .done).refreshFlash := (hvsame.trans hres.mono).trans href.mono
  refine ⟨_, (congrArg State.endStall hv).trans (State.endStall_none ?_), ?_, ?_, hall⟩
  · exact (congrArg CoreState.stall hall.core).trans hstall
  · exact (href.flash.trans hres.flash).trans hvflash
  · exact congrArg Slot.result ((href.slot (by decide) tag).trans (State.slot_setResult_self _ _ _))

/-! ### UNLOCK -/

/-- A failed authentication is logged; registers stand. -/
theorem State.authFail_same (what slot master : Nat) : SameBut [.crib] s (s.authFail what slot master) :=
  (SameBut.set_crib s).trans (State.cribEv_same _ _)

theorem State.authFail_regs {l : List Nat} (what slot master : Nat) : RegsBut l s (s.authFail what slot master) := by
  have hlog : RegsBut l s (s.secLog 9 what slot master) := .of_regs rfl
  exact hlog.trans ((State.evPulse_regs _ 0x3A 5).trans (State.pulse_keeps _ _ _))

theorem unlockTries_field {n : Nat} (hn : n ≤ 10) : field (pack [(0, 4, n), (4, 1, bit (decide (n ≥ 10)))]) 3 0 = n := by
  revert n
  decide

section
variable {k : Slot} (hcrib : s.ready 0x3A = true) (hlocked : flag (s.rg 0x1E 0x094) 4 = false)
  (hset : flag (s.optWord 16) 3 = true) (hself : s.selfTesting = false)
include hcrib hlocked hset hself

/-- The right password opens what it names. -/
theorem unlockEffect_opens
    (hpass : storedPassword ((List.range 4).map k.arg) = (List.range 4).map (fun i => s.optWord (20 + i))) :
    ∃ t, unlockEffect k s = (t, some .done) ∧ t.rg 0x1E 0x08C = s.rg 0x1E 0x08C ||| k.arg 4 ∧
      t.rg 0x1E 0x090 = s.rg 0x1E 0x090 ||| k.arg 5 ∧ t.opt.unlocked = true ∧ SameBut [.opt] s t := by
  unfold unlockEffect
  dsimp only
  rw [if_neg (by simp [hcrib]), if_neg (by simp [hlocked, hset]), if_neg (by simp [hself]), if_pos (by simp [hpass])]
  have hopt : ∀ u : State, SameBut [.opt] u { u with opt := { u.opt with unlocked := true } } := fun u => SameBut.set_opt u
  refine ⟨_, rfl, ?_, ?_, rfl, ((s.updRg_same _ _ _).trans (State.updRg_same _ _ _ _)).trans (hopt _)⟩
  · exact (State.rg_setRg_other (by decide)).trans (State.rg_setRg_self _ _ _ _)
  · refine (State.rg_setRg_self _ _ _ _).trans ?_
    exact congrArg (· ||| k.arg 5) (State.rg_setRg_other (by decide))

/-- A wrong password counts. -/
theorem unlockEffect_counts
    (hpass : storedPassword ((List.range 4).map k.arg) ≠ (List.range 4).map (fun i => s.optWord (20 + i))) :
    ∃ t, unlockEffect k s = (t, some .security) ∧ t.rg 0x1E 0x08C = s.rg 0x1E 0x08C ∧ t.opt = s.opt ∧
      field (t.rg 0x1E 0x094) 3 0 = min (field (s.rg 0x1E 0x094) 3 0 + 1) 10 := by
  unfold unlockEffect
  dsimp only
  rw [if_neg (by simp [hcrib]), if_neg (by simp [hlocked, hset]), if_neg (by simp [hself]), if_neg (by simpa using hpass)]
  generalize hn : min (field (s.rg 0x1E 0x094) 3 0 + 1) 10 = n
  generalize hu : s.setRg 0x1E 0x094 _ = u
  have hsame : SameBut [.crib] u ((u.authFail 0 0 (logMaster k)).evLevel 0x1E 3 (decide (n ≥ 10))) :=
    (State.authFail_same _ _ _).trans (State.evLevel_same _ _ _ _)
  have hregs : RegsBut [] u ((u.authFail 0 0 (logMaster k)).evLevel 0x1E 3 (decide (n ≥ 10))) :=
    (State.authFail_regs _ _ _).trans (State.evLevel_regs _ _ _ _)
  refine ⟨_, rfl, ?_, ?_, ?_⟩
  · rw [hregs _ _ (by decide) (by unfold Quiet; omega), ← hu]
    exact State.rg_setRg_other (by decide)
  · rw [hsame.opt, ← hu]
    rfl
  · rw [hregs _ _ (by decide) (by unfold Quiet; omega), ← hu, State.rg_setRg_self]
    exact unlockTries_field (by omega)

end

/-! ### REFRESH -/

theorem State.readAll_seen (l : List Nat) : FlashSeen s (s.readAll l).1 := by
  induction l generalizing s with
  | nil => exact .refl s
  | cons cw l ih =>
    have hread := s.flashRead_seen none cw
    unfold State.readAll
    split
    · next h =>
      rw [h] at hread
      exact hread
    · next v b h =>
      rw [h] at hread
      have hrest := ih (s := v)
      split
      · next h' =>
        rw [h'] at hrest
        exact hread.trans hrest
      · next h' =>
        rw [h'] at hrest
        exact hread.trans hrest

/-- What no codeword written changes, a copied page does not change. -/
theorem FlashState.copyWords_keeps {α : Type} {f : FlashState → α} (hf : ∀ x p l, f (x.putPhys p l) = f x)
    (r : RefreshRun) (l : List (Nat × List Byte)) (x : FlashState) : f (x.copyWords r l) = f x := by
  unfold FlashState.copyWords
  induction l generalizing x with
  | nil => rfl
  | cons e l ih => exact (ih _).trans (hf _ _ _)

theorem State.refreshRun_sector {n : Nat} {device : Bool} {r : RefreshRun} (h : s.refreshRun n device = some r) :
    r.sector = n := by
  unfold State.refreshRun at h
  split at h
  · next hfind =>
    cases h
    simpa using List.find?_some hfind
  · obtain ⟨p, -, rfl⟩ := Option.map_eq_some_iff.mp h
    rfl

section
variable {k : Slot} {n : Nat} {r : RefreshRun} {l : List (Nat × List Byte)} (hn : n = (k.arg 0).toNat / 16384)
  (hfetch : s.fetchesFrom (sectorBank n) = false ∨ s.refreshOwned k n = true) (hj : s.journalled n = false)
  (hr : s.refreshRun n (k.src == 6) = some r) (hread : s.readAll (s.programmed n r.page) = (u, some l))
include hn hfetch hj hr hread

theorem refreshEffect_reads : FlashSeen s u ∧ refreshEffect k s =
    if r.page ≥ 31 then ((u.updFlash (fun x => x.copyWords r l)).refreshMap r, some .done)
    else (((u.updFlash (fun x => x.copyWords r l)).updFlash (fun x => { x with
      refreshes := { r with page := r.page + 1, device := k.src == 6 } ::
        x.refreshes.filter (fun e => e.sector != n) })).refreshFlash,
      if k.src == 6 then some .done else none) := by
  subst hn
  have hseen := s.readAll_seen (s.programmed ((k.arg 0).toNat / 16384) r.page)
  rw [hread] at hseen
  refine ⟨hseen, ?_⟩
  unfold refreshEffect
  dsimp only
  rw [if_neg ?_, if_neg (by simp [hj]), hr]
  · dsimp only
    rw [hread]
  · rcases hfetch with h | h
    · simp [h]
    · simp [h]

/-- The last page of a refresh: its target takes the sector's place. -/
theorem refreshEffect_maps (hpage : r.page = 31) : ∃ t, refreshEffect k s = (t, some .done) ∧
    t.physSector n = r.target ∧ s.physSector n ∈ t.flash.dirty ∧ t.gran = s.gran ∧ t.own = s.own := by
  obtain ⟨hseen, heff⟩ := refreshEffect_reads hn hfetch hj hr hread
  have hsector := State.refreshRun_sector hr
  generalize hv : u.updFlash (fun x => x.copyWords r l) = v at heff
  have hvsame : SameBut [.flash, .svc] s v := hv ▸ hseen.same.trans (SameBut.set_flash u)
  have hvmap : v.flash.map = s.flash.map :=
    hv ▸ (FlashState.copyWords_keeps (f := FlashState.map) (fun _ _ _ => rfl) r l u.flash).trans hseen.map
  generalize hw : v.updFlash (fun x =>
    { x with
      map := Tab.set (fun k => k) x.map r.sector r.target
      dirty := x.dirty ++ [v.physSector r.sector]
      weak := x.weak.filter (fun e => e.codeword / 512 != r.sector)
      refreshes := x.refreshes.filter (fun e => e.sector != r.sector) }) = w
  have hwsame : SameBut [.flash, .svc] s w := hw ▸ hvsame.trans (SameBut.set_flash v)
  have hlast : SameBut [] w (v.refreshMap r) := by
    unfold State.refreshMap
    dsimp only
    rw [hw]
    exact (w.updRg_same _ _ _).trans (State.refreshFlash_same _)
  refine ⟨_, heff.trans (if_pos (by omega)), ?_, ?_, hlast.gran.trans hwsame.gran, hlast.own.trans hwsame.own⟩
  · rw [State.physSector, hlast.flash, ← hw, ← hsector]
    exact Tab.get_set_self
  · rw [hlast.flash, ← hw]
    refine List.mem_append_right _ (List.mem_singleton.mpr ?_)
    rw [hsector, State.physSector, State.physSector, hvmap]

/-- Another page of a refresh. -/
theorem refreshEffect_goesOn (hpage : r.page < 31) : ∃ t,
    refreshEffect k s = (t, if k.src == 6 then some .done else none) ∧ t.physSector n = s.physSector n ∧
    { r with page := r.page + 1, device := k.src == 6 } ∈ t.flash.refreshes ∧ SameBut [.flash, .svc] s t := by
  obtain ⟨hseen, heff⟩ := refreshEffect_reads hn hfetch hj hr hread
  generalize hv : u.updFlash (fun x => x.copyWords r l) = v at heff
  have hvsame : SameBut [.flash, .svc] s v := hv ▸ hseen.same.trans (SameBut.set_flash u)
  have hvmap : v.flash.map = s.flash.map :=
    hv ▸ (FlashState.copyWords_keeps (f := FlashState.map) (fun _ _ _ => rfl) r l u.flash).trans hseen.map
  generalize hw : v.updFlash (fun x => { x with
    refreshes := { r with page := r.page + 1, device := k.src == 6 } ::
      x.refreshes.filter (fun e => e.sector != n) }) = w at heff
  have hwsame : SameBut [.flash, .svc] s w := hw ▸ hvsame.trans (SameBut.set_flash v)
  have hwmap : w.flash.map = v.flash.map := hw ▸ rfl
  have hlast : SameBut [] w w.refreshFlash := State.refreshFlash_same _
  refine ⟨_, heff.trans (if_neg (by omega)), ?_, ?_, hwsame.trans hlast.mono⟩
  · rw [State.physSector, hlast.flash, hwmap, hvmap]
    rfl
  · rw [hlast.flash, ← hw]
    exact List.mem_cons_self ..

end

/-! ### GROUP_WRITE -/

/-- A group written takes effect in the shadow, and nowhere else there. -/
theorem State.groupEnd_takes {g : Nat} {words : List Word} (hlen : words.length = 8) :
    (s.groupEnd tag g words).opt.writing = none ∧ ((s.groupEnd tag g words).slot tag).result = some .done ∧
      (∀ i, i < 8 → (s.groupEnd tag g words).optWord (8 * g + i) = words.getD i 0) ∧
      (∀ i, i < 8 * g ∨ 8 * g + 8 ≤ i → (s.groupEnd tag g words).optWord i = s.optWord i) ∧
      SameBut [.opt, .ops] s (s.groupEnd tag g words) := by
  obtain ⟨v, hv, hvsame, hwriting, hshadow⟩ : ∃ v : State,
      s.groupEnd tag g words = ((v.refreshOption).evPulse 0x03 0).setResult tag .done ∧ SameBut [.opt] s v ∧
      v.opt.writing = none ∧ v.opt.shadow = withWords s.opt.shadow g words :=
    ⟨_, rfl, SameBut.set_opt s, rfl, rfl⟩
  have hlast : SameBut [.ops] v (((v.refreshOption).evPulse 0x03 0).setResult tag .done) := by
    refine SameBut.trans ?_ (State.setResult_same _ _ _)
    refine SameBut.trans ?_ (State.evPulse_same _ _ _)
    exact ((v.evLevel_same _ _ _).trans (State.evLevel_same _ _ _ _)).trans (State.setDegraded_same _ _ _)
  rw [hv]
  have hword : ∀ i, State.optWord (((v.refreshOption).evPulse 0x03 0).setResult tag .done) i =
      Tab.get factoryWord (withWords s.opt.shadow g words) i := fun i => by
    rw [State.optWord, hlast.opt, hshadow]
  refine ⟨?_, congrArg Slot.result (State.slot_setResult_self _ _ _), fun i hi => ?_, fun i hi => ?_,
    hvsame.mono.trans hlast.mono⟩
  · rw [hlast.opt, hwriting]
  · rw [hword]
    exact Tab.get_setFrom (n := 0) words 0 (by omega)
  · rw [hword]
    exact Tab.get_setFrom_outside (n := 0) words (by omega)

end

section
variable {s t : State} {tag : Fin 128} {c : Code} (hruns : s.running tag.val 0x1E 6 = true) (hready : s.ready 0x1E = true)
  (harg : ((s.slot tag.val).arg 0).toNat < 0x1000000)
  (hmap : s.unmapped (((s.slot tag.val).arg 0).toNat / 16384) = false) (hidle : s.flash.refreshing = none)
include hruns hready harg hmap hidle

theorem execRefresh_ends (heff : refreshEffect (s.slot tag.val) s = (t, some c)) :
    execRefresh tag s = .next (t.setResult tag.val c) := by
  refine congrArg Host.Outcome.next (State.runOp_ends hruns (by simp [harg, hmap]) hready ?_)
  dsimp only
  rw [hidle, if_neg (by simp)]
  exact heff

theorem execRefresh_waits (heff : refreshEffect (s.slot tag.val) s = (t, none)) : execRefresh tag s = .next t := by
  refine congrArg Host.Outcome.next (State.runOp_waits hruns (by simp [harg, hmap]) hready ?_)
  dsimp only
  rw [hidle, if_neg (by simp)]
  exact heff

end

/-- Settles O42, operation by operation. -/
theorem flashOperations : Obligations.FlashOperations := by
  unfold Obligations.FlashOperations
  rintro s tag k rfl
  have hres : ∀ (t : State) (c : Code), SameBut [.ops] t (t.setResult tag.val c) := fun t c => t.setResult_same _ _
  have hresult : ∀ (t : State) (c : Code), ((t.setResult tag.val c).slot tag.val).result = some c := fun t c =>
    congrArg Slot.result (State.slot_setResult_self _ _ _)
  have hflash : ∀ (t : State) (c : Code), (t.setResult tag.val c).flash = t.flash := fun t c => (hres t c).flash
  have hsector : ∀ (t : State) (c : Code) (n : Nat), (t.setResult tag.val c).physSector n = t.physSector n :=
    fun t c n => by rw [State.physSector, hflash]; rfl
  refine ⟨fun r hrun htag hruns herase hlog hstall => ?_,
    fun cw l hl hmap => ⟨State.cwBytes_putCw hl hmap, State.marked_putCw hmap⟩,
    fun r n hrun htag hruns herase hspare hn hwin htodo hstall => ?_,
    fun r p hrun htag hruns herase hspare hp hstall => ?_,
    fun u l ok hruns hargs hready hread => ?_,
    fun hruns hready hcrib hlocked hset hself => ⟨fun hpass => ?_, fun hpass => ?_⟩,
    fun hruns hready => congrArg Host.Outcome.next (State.runOp_ends hruns rfl hready rfl),
    fun n hruns hready harg hn hidle hmap => ⟨fun hfetch howned => ?_,
      fun r u l hfetch hj hr hread => ⟨fun hpage => ?_, fun hpage => ?_⟩⟩,
    fun t g words hwriting ht hruns hlen hself => ?_, fun b => rfl, rfl,
    fun t u hup hauto hidle => ⟨fun e hrefreshes hweak hue hj htarget h => ?_, fun r hrefreshes hdevice h => ?_⟩,
    fun hweak hrefreshes => ?_, fun p rest t u hdirty hfetch hup hspare h => ?_, fun hdirty => ?_⟩
  · refine congrArg Host.Outcome.next ?_
    rw [hrun]
    exact (if_pos (by simp [hruns, htag, herase])).trans (State.programEnd_plain r hlog hstall)
  · obtain ⟨t, hend, hnone, hdone, hcells, hmarks, hsame⟩ := State.eraseEnd_wipes (tag := tag.val) (r := r)
      (by rw [← hn]; exact hwin) htodo hstall
    rw [← hn] at hcells hmarks
    refine ⟨t, congrArg Host.Outcome.next ?_, hnone, hdone, fun a => ?_, fun c => ?_, hsame.own, hsame.gran⟩
    · rw [hrun]
      refine (if_pos (by simp [hruns, htag, herase])).trans ?_
      rw [if_neg (by simp [hspare])]
      exact hend
    · rw [hcells, FlashState.wipe_cells]
    · rw [hmarks, FlashState.wipe_marks]
  · obtain ⟨t, hend, hflash, hdone, hsame⟩ := State.spareEnd_cleans (tag := tag.val) hp hstall
    refine ⟨t, congrArg Host.Outcome.next ?_, congrArg FlashState.run hflash, congrArg FlashState.spare hflash, ?_, hdone,
      fun a => ?_, (congrArg FlashState.map hflash :), congrArg FlashState.journal hflash, hsame.own,
      hsame.gran⟩
    · rw [hrun]
      refine (if_pos (by simp [hruns, htag, herase])).trans ?_
      rw [if_pos hspare]
      exact hend
    · rw [hflash]
      simp
    · rw [hflash]
      exact FlashState.wipe_cells _ _ _
  · refine congrArg Host.Outcome.next (State.runOp_ends hruns hargs hready ?_)
    unfold copyEffect
    rw [hread]
  · obtain ⟨t, heff, hmine, hcodes, hopen, hsame⟩ := unlockEffect_opens (k := s.slot tag.val) hcrib hlocked hset hself hpass
    have hregs : ∀ o, Quiet o → (t.setResult tag.val .done).rg 0x1E o = t.rg 0x1E o := fun o ho =>
      State.rg_setResult ho _ _
    exact ⟨_, congrArg Host.Outcome.next (State.runOp_ends hruns rfl hready heff),
      (hregs _ (by unfold Quiet; omega)).trans hmine, (hregs _ (by unfold Quiet; omega)).trans hcodes,
      (congrArg OptionState.unlocked (hres t _).opt).trans hopen, hresult t _, (hres t _).flash.trans hsame.flash,
      (hres t _).own.trans hsame.own⟩
  · obtain ⟨t, heff, hmine, hopt, hcount⟩ := unlockEffect_counts (k := s.slot tag.val) hcrib hlocked hset hself hpass
    have hregs : ∀ o, Quiet o → (t.setResult tag.val .security).rg 0x1E o = t.rg 0x1E o := fun o ho =>
      State.rg_setResult ho _ _
    refine ⟨_, congrArg Host.Outcome.next (State.runOp_ends hruns rfl hready heff),
      (hregs _ (by unfold Quiet; omega)).trans hmine, (hres t _).opt.trans hopt, ?_, hresult t _⟩
    rw [hregs _ (by unfold Quiet; omega)]
    exact hcount
  · subst hn
    exact execRefresh_ends hruns hready harg hmap hidle (if_pos (by simp [hfetch, howned]))
  · obtain ⟨t, heff, hphys, hdirty, hgran, hown⟩ := refreshEffect_maps hn hfetch hj hr hread hpage
    subst hn
    exact ⟨_, execRefresh_ends hruns hready harg hmap hidle heff, (hsector _ _ _).trans hphys,
      by rw [hflash]; exact hdirty, hresult t _, (hres _ _).gran.trans hgran, (hres _ _).own.trans hown⟩
  · obtain ⟨t, heff, hphys, hmem, hsame⟩ := refreshEffect_goesOn hn hfetch hj hr hread hpage
    subst hn
    by_cases hsrc : (s.slot tag.val).src = 6
    · have hends : refreshEffect (s.slot tag.val) s = (t, some .done) := by
        rw [heff, if_pos (by simpa using hsrc)]
      exact ⟨_, execRefresh_ends hruns hready harg hmap hidle hends, (hsector _ _ _).trans hphys,
        by rw [hflash]; exact hmem, (hresult t _).trans (if_pos hsrc).symm, (hres _ _).gran.trans hsame.gran,
        (hres _ _).own.trans hsame.own⟩
    · have hwaits : refreshEffect (s.slot tag.val) s = (t, none) := by
        rw [heff, if_neg (by simpa using hsrc)]
      have hnone : (s.slot tag.val).result = none := by
        unfold State.running at hruns
        simp only [Bool.and_eq_true, beq_iff_eq] at hruns
        exact hruns.2
      exact ⟨_, execRefresh_waits hruns hready harg hmap hidle hwaits, hphys, hmem,
        ((congrArg Slot.result (hsame.slot (by decide) _)).trans hnone).trans (if_neg hsrc).symm, hsame.gran, hsame.own⟩
  · obtain ⟨hnone, hdone, hin, hout, hsame⟩ := State.groupEnd_takes (s := s) (tag := tag.val) (g := g) hlen
    refine ⟨_, congrArg Host.Outcome.next ?_, hnone, hdone, hin, hout, hsame.flash, hsame.own⟩
    rw [hwriting]
    exact if_pos (by simp [hruns, ht, hself])
  · have hrefreshable : s.refreshable (e.codeword / 512) = true := by
      simp [State.refreshable, hj, hweak, hue]
    refine congrArg Host.Outcome.next ?_
    unfold State.weakRefresh
    rw [if_neg (by simp [hup, hauto, hidle]), hrefreshes, List.find?_nil, hweak,
      List.find?_cons_of_pos (p := fun x : WeakEntry => s.refreshable (x.codeword / 512)) hrefreshable]
    dsimp only
    rw [if_pos htarget]
    dsimp only
    rw [Nat.mul_zero, Nat.add_zero, h]
  · refine congrArg Host.Outcome.next ?_
    unfold State.weakRefresh
    rw [if_neg (by simp [hup, hauto, hidle]), hrefreshes, List.find?_cons_of_pos hdevice]
    dsimp only
    rw [h]
  · refine congrArg Host.Outcome.next ?_
    unfold State.weakRefresh
    rw [hweak, hrefreshes]
    exact ite_self _
  · refine congrArg Host.Outcome.next ?_
    unfold State.spareErase
    rw [if_neg (by simp [hup, hspare]), hdirty, List.find?_cons_of_pos (by simp [hfetch])]
    dsimp only
    rw [h]
  · refine congrArg Host.Outcome.next ?_
    unfold State.spareErase
    rw [hdirty]
    exact ite_self _

end Sys2Proof.Machine
end

section
/-!
PROOFS. The keys of the Crib.
-/
namespace Sys2Proof.Machine

section
variable {s t u v : State} {tag : Nat} {k : Slot}

/-! ### How an operation of the Crib ends -/

theorem State.cribEnd_same (op : Nat) (c : Code) (ok : Bool) : SameBut [.ops] s (s.cribEnd tag op k c ok) := by
  unfold State.cribEnd
  split
  · exact (s.setResult_same _ _).trans (State.setOwn1_same _ _ _ _ _)
  · exact s.setResult_same _ _

theorem State.cribEnd_result (op : Nat) (c : Code) (ok : Bool) :
    ((s.cribEnd tag op k c ok).slot tag).result = some c := by
  have hres := congrArg Slot.result (s.slot_setResult_self tag c)
  unfold State.cribEnd
  split
  · exact hres
  · exact hres

section
variable {op : Nat} {argsOk : State → Slot → Bool} {eff : Slot → State → CribOut} (hrun : s.running tag 0x3A op = true)
include hrun

theorem State.cribOp_badArgs (hargs : argsOk s (s.slot tag) = false) :
    s.cribOp tag op argsOk eff = s.cribEnd tag op (s.slot tag) .arg s.approvedMode := by
  unfold State.cribOp
  rw [hrun, if_neg (by decide)]
  dsimp only
  rw [if_pos (by simp [hargs])]
  exact congrArg (s.cribEnd tag op (s.slot tag) .arg) (Bool.and_true _)

variable (hargs : argsOk s (s.slot tag) = true)
include hargs

theorem State.cribOp_notReady (hup : s.cribUp = false) :
    s.cribOp tag op argsOk eff = s.cribEnd tag op (s.slot tag) .notReady s.approvedMode := by
  unfold State.cribOp
  rw [hrun, if_neg (by decide)]
  dsimp only
  rw [if_neg (by simp [hargs]), if_pos (by simp [hup])]
  exact congrArg (s.cribEnd tag op (s.slot tag) .notReady) (Bool.and_true _)

variable (hup : s.cribUp = true)
include hup

theorem State.cribOp_notSecure (hsec : (s.slot tag).secure = false) (h7 : op ≠ 0x07) (hb : op ≠ 0x0B) :
    s.cribOp tag op argsOk eff = s.cribEnd tag op (s.slot tag) .security s.approvedMode := by
  unfold State.cribOp
  rw [hrun, if_neg (by decide)]
  dsimp only
  rw [if_neg (by simp [hargs]), if_neg (by simp [hup]), if_pos (by simp [hsec, h7, hb])]
  exact congrArg (s.cribEnd tag op (s.slot tag) .security) (Bool.and_true _)

theorem State.cribOp_decommissioned (hsec : (s.slot tag).secure = true) (hlife : s.lifecycle = 3)
    (hop : op ∉ [0x07, 0x0B, 0x0C, 0x0F]) :
    s.cribOp tag op argsOk eff = s.cribEnd tag op (s.slot tag) .state s.approvedMode := by
  have hclosed : (!List.contains [0x07, 0x0B, 0x0C, 0x0F] op) = true := by simpa using hop
  unfold State.cribOp
  rw [hrun, if_neg (by decide)]
  dsimp only
  rw [if_neg (by simp [hargs]), if_neg (by simp [hup]), if_neg (by simp [hsec]), if_pos (by rw [hclosed]; simp [hlife])]
  exact congrArg (s.cribEnd tag op (s.slot tag) .state) (Bool.and_true _)

end

/-! ### Keys written and secrets drawn -/

theorem State.writeKey_same (n : Nat) (x : KeySlot) (master : Nat) : SameBut [.crib] s (s.writeKey n x master) :=
  (SameBut.set_crib s).trans (State.cribEv_same _ _)

theorem State.key_writeKey (n : Nat) (x : KeySlot) (master j : Nat) :
    (s.writeKey n x master).key j = if j = n then x else s.key j := by
  obtain ⟨w, hw, hkeys⟩ : ∃ w : State, s.writeKey n x master = w.cribEv 4 ∧
      w.crib.keys = Tab.set (fun _ => {}) s.crib.keys n x := ⟨_, rfl, rfl⟩
  have hev : SameBut [] w (w.cribEv 4) := w.cribEv_same 4
  rw [hw, State.key, hev.crib, hkeys]
  exact Tab.get_set

theorem SameBut.key {l : List Part} (h : SameBut l s t) (hl : .crib ∉ l := by decide) (n : Nat) : t.key n = s.key n := by
  rw [State.key, h.crib hl]
  rfl

theorem State.newSecret_same {l : List Part} (typ : Nat) : SameBut l s (s.newSecret typ).1 := by
  unfold State.newSecret
  extract_lets n
  have hdraw : SameBut l s (s.drbgBytes n).1 := s.drbgBytes_same n
  dsimp only
  split
  · exact hdraw
  · exact hdraw

/-! ### What the operations on keys answer -/

theorem keyGenEffect_taken {n : Nat} (hn : n = field (k.arg 0) 5 0) (htyp : (s.key n).typ ≠ 0) :
    keyGenEffect k s = (s, .state, true) := by
  subst hn
  exact if_pos (by rw [show keySlotOf (k.arg 0) = field (k.arg 0) 5 0 from rfl]; simp [htyp])

theorem keyGenEffect_writes {n : Nat} {l : List Byte} {x : KeySlot} (hn : n = field (k.arg 0) 5 0)
    (htyp : (s.key n).typ = 0) (hzero : n = 0 → s.lifecycle = 2) (hsecret : s.newSecret (keyTypeOf (k.arg 0)) = (u, l))
    (hmake : makeKey (keyTypeOf (k.arg 0)) (keyUsageOf (k.arg 0)) (flag (k.arg 0) 24) 0 l = some x) :
    keyGenEffect k s = (u.writeKey n x (logMaster k), .done, true) := by
  subst hn
  unfold keyGenEffect
  dsimp only
  rw [show keySlotOf (k.arg 0) = field (k.arg 0) 5 0 from rfl, if_neg (by simpa [htyp] using hzero), hsecret]
  dsimp only
  rw [hmake]

/-- A symmetric key is made of the secret drawn. -/
theorem makeKey_symmetric {typ usage origin : Nat} {persist : Bool} (l : List Byte) (htyp : typ ≤ 2) :
    makeKey typ usage persist origin l =
      some { typ := typ, usage := BitVec.ofNat 8 usage, persist := persist, origin := origin, secret := l } :=
  (if_neg (by simp; omega)).trans (if_neg (by omega))

section
variable {n typ : Nat} {l : List Byte} {x : KeySlot} (hn : n = field (k.arg 0) 5 0) (htyp : typ = keyTypeOf (k.arg 0))
  (hkek : field (k.arg 1) 5 0 = 0) (hn0 : n ≠ 0) (hfree : (s.key n).typ = 0)
include hn htyp hkek hn0 hfree

theorem keyImportEffect_refused (h5 : typ ≤ 5) (hlife : s.lifecycle ≠ 1) (honly : flag (s.optWord 16) 1 = true) :
    keyImportEffect k s = (s, .security, false) := by
  subst hn htyp
  unfold keyImportEffect
  dsimp only
  rw [show keySlotOf (k.arg 0) = field (k.arg 0) 5 0 from rfl, if_neg (by simp [hn0, hfree]), hkek,
    if_pos (by simp [h5, hlife, honly])]
  simp [h5, hlife]

theorem keyImportEffect_writes (hallowed : ¬(typ ≤ 5 ∧ s.lifecycle ≠ 1 ∧ flag (s.optWord 16) 1 = true))
    (hsrc : s.winBytes (k.arg 2).toNat (field (k.arg 3) 9 0) = (u, .ok l))
    (hmake : makeKey typ (keyUsageOf (k.arg 0)) (flag (k.arg 0) 24) 1 l = some x) :
    keyImportEffect k s = (u.writeKey n x (logMaster k), .done, decide (5 < typ ∨ s.lifecycle = 1)) := by
  have hok : (!(decide (typ ≤ 5) && s.lifecycle != 1)) = decide (5 < typ ∨ s.lifecycle = 1) := by
    rw [Bool.eq_iff_iff]
    simp only [Bool.not_eq_true', Bool.and_eq_false_iff, decide_eq_false_iff_not, bne_eq_false_iff_eq, decide_eq_true_eq]
    omega
  subst hn htyp
  unfold keyImportEffect
  dsimp only
  rw [show keySlotOf (k.arg 0) = field (k.arg 0) 5 0 from rfl, if_neg (by simp [hn0, hfree]), hkek,
    if_neg (by simpa [and_assoc] using hallowed), hsrc]
  dsimp only
  rw [if_pos (by rfl)]
  dsimp only
  rw [hmake, ← hok]
  rfl

end

theorem keyPubEffect_none {n : Nat} (hn : n = field (k.arg 0) 5 0) (hpub : (s.key n).pub = []) :
    keyPubEffect k s = (s, .state, true) := by
  subst hn
  exact if_pos (by simp [hpub])

theorem keyPubEffect_shows {n : Nat} (hn : n = field (k.arg 0) 5 0) (hpub : (s.key n).pub ≠ [])
    (hout : s.bytesWritable (k.arg 1).toNat (s.key n).pub.length = true) :
    keyPubEffect k s = (s.winPutBytes (k.arg 1).toNat (s.key n).pub, .done, true) := by
  subst hn
  exact (if_neg (by simpa using hpub)).trans (if_neg (by simp [hout]))

theorem keyDeleteEffect_root {n : Nat} (hn : n = field (k.arg 0) 5 0) (hn0 : n = 0) (hlife : 1 < s.lifecycle) :
    keyDeleteEffect k s = (s, .state, true) := by
  subst hn
  exact if_pos (by simp [hn0, hlife])

/-- A key deleted leaves its slot empty. -/
theorem keyDeleteEffect_empties {n : Nat} (hn : n = field (k.arg 0) 5 0) (hzero : n = 0 → s.lifecycle ≤ 1) :
    ∃ t, keyDeleteEffect k s = (t, .done, true) ∧ (∀ j, t.key j = if j = n then {} else s.key j) ∧
      SameBut [.crib] s t := by
  subst hn
  refine ⟨_, if_neg (by simpa using hzero), fun j => ?_, (SameBut.set_crib s).trans (State.cribEv_same _ _)⟩
  obtain ⟨w, hw, hkeys⟩ : ∃ w : State, ((s.updCrib (fun c => { c with
      keys := Tab.set (fun _ => {}) c.keys (field (k.arg 0) 5 0) {} })).secLog 8 0 (field (k.arg 0) 5 0) (logMaster k)) = w ∧
      w.crib.keys = Tab.set (fun _ => {}) s.crib.keys (field (k.arg 0) 5 0) {} := ⟨_, rfl, rfl⟩
  have hev : SameBut [] w (w.cribEv 4) := w.cribEv_same 4
  rw [hw, State.key, hev.crib, hkeys]
  exact Tab.get_set

/-- A zeroisation leaves no key. -/
theorem State.zeroiseCrib_empties (master : Nat) : (s.zeroiseCrib master).crib.keys = [] ∧
    (s.zeroiseCrib master).crib.zeroised = true ∧ SameBut [.crib] s (s.zeroiseCrib master) := by
  obtain ⟨w, hw, hwsame, hkeys, hzero⟩ : ∃ w : State, s.zeroiseCrib master = (w.cribEv 1).cribEv 4 ∧
      SameBut [.crib] s w ∧ w.crib.keys = [] ∧ w.crib.zeroised = true := ⟨_, rfl, SameBut.set_crib s, rfl, rfl⟩
  have hev : SameBut [] w ((w.cribEv 1).cribEv 4) := (w.cribEv_same 1).trans (State.cribEv_same _ 4)
  rw [hw]
  exact ⟨(congrArg CribState.keys hev.crib).trans hkeys, (congrArg CribState.zeroised hev.crib).trans hzero, hwsame.trans hev.mono⟩

section
variable {n dest typ : Nat} {peer info z : List Byte} (hn : n = field (k.arg 0) 5 0) (hdest : dest = field (k.arg 0) 13 8)
  (h4 : (s.key n).typ = 4) (huse : (s.key n).usage.getLsbD 5 = true)
include hn hdest h4 huse

theorem ecdhEffect_taken (htaken : (s.key dest).typ ≠ 0) : ecdhEffect k s = (s, .state, true) := by
  subst hn hdest
  unfold ecdhEffect
  dsimp only
  rw [h4, huse, if_neg (by decide), if_pos (by simp [htaken])]

theorem ecdhEffect_derives (hdest0 : dest ≠ 0) (htyp : typ = field (k.arg 0) 19 16) (hfree : (s.key dest).typ = 0)
    (hin : s.bytesInside (k.arg 1).toNat 64 = true) (hpeer : s.winBytes (k.arg 1).toNat 64 = (u, .ok peer))
    (hinfo : u.winBytes (k.arg 2).toNat (field (k.arg 3) 7 0) = (v, .ok info))
    (hz : (curveOf false).ecdh (natBE (s.key n).secret) peer = some z) :
    ecdhEffect k s = (v.writeKey dest
      { typ := typ, usage := BitVec.ofNat 8 (field (k.arg 0) 31 24), persist := flag (k.arg 3) 8, origin := 2
        secret := kdf z info (if typ = 1 then 16 else if typ = 2 then 32 else 48) } (logMaster k), .done, true) := by
  subst hn hdest htyp
  have hlen : 2 * (curveOf ((4 : Nat) == 5)).len = 64 := rfl
  unfold ecdhEffect
  dsimp only
  rw [h4, huse, if_neg (by decide), if_neg (by simp [hdest0, hfree]), hlen, if_neg (by simp [hin]), hpeer]
  dsimp only
  rw [hinfo]
  dsimp only
  rw [show (curveOf ((4 : Nat) == 5)) = curveOf false from rfl, hz]

end

end

/-- Settles O54, operation by operation. -/
theorem cribKeys : Obligations.CribKeys := by
  unfold Obligations.CribKeys
  refine ⟨?_, ?_, ?_, ?_, ?_, ?_, ?_⟩
  · rintro s tag k op argsOk eff rfl hrun
    exact ⟨fun hargs => State.cribOp_badArgs hrun hargs, fun hargs hup => State.cribOp_notReady hrun hargs hup,
      fun hargs hup hsec h7 hb => State.cribOp_notSecure hrun hargs hup hsec h7 hb,
      fun hargs hup hsec hlife hop => State.cribOp_decommissioned hrun hargs hup hsec hlife hop⟩
  · rintro s tag k n rfl hn hup hsec hlife hrun htyp huse
    have run {x : State} {c : Code} (h : keyGenEffect (s.slot tag.val) s = (x, c, true)) :
        exec (.keyGen tag) s = .next (x.cribEnd tag.val 0x01 (s.slot tag.val) c s.approvedMode) :=
      next_cribOp hrun hup (.inl hsec) (.inl hlife) rfl (by simpa [huse] using htyp) h
    refine ⟨fun htaken => run (keyGenEffect_taken hn htaken), fun hfree hzero hsym => ?_,
      fun u l x hfree hzero hsecret hmake => run (keyGenEffect_writes hn hfree hzero hsecret hmake)⟩
    generalize hw : s.newSecret (keyTypeOf ((s.slot tag.val).arg 0)) = w
    obtain ⟨u, l⟩ := w
    have hsame : SameBut [] s u := by
      have h := s.newSecret_same (l := []) (keyTypeOf ((s.slot tag.val).arg 0))
      rwa [hw] at h
    have hnext := run (keyGenEffect_writes hn hfree hzero hw (makeKey_symmetric l hsym))
    have hend := fun x => State.cribEnd_same (s := x) (tag := tag.val) (k := s.slot tag.val) 0x01 .done s.approvedMode
    have hkey : ∀ x j, ((u.writeKey n x (logMaster (s.slot tag.val))).cribEnd tag.val 0x01 (s.slot tag.val) .done
        s.approvedMode).key j = if j = n then x else u.key j := fun x j =>
      ((hend _).key (by decide) j).trans (State.key_writeKey (s := u) n x _ j)
    refine ⟨_, hnext, State.cribEnd_result _ _ _, ?_, ?_, ?_, ?_, fun j hj => ?_, ?_, ?_⟩
    · rw [hkey, if_pos rfl]
    · rw [hkey, if_pos rfl]
    · rw [hkey, if_pos rfl]
    · rw [hkey, if_pos rfl]
    · rw [hkey, if_neg hj]
      exact hsame.key (by decide) j
    · exact (hend _).fuse.trans ((State.writeKey_same _ _ _).fuse.trans hsame.fuse)
    · exact (hend _).flash.trans ((State.writeKey_same _ _ _).flash.trans hsame.flash)
  · rintro s u tag k n typ l x rfl hn htyp hup hsec hlife hrun huse hkek hlen hin hn0 hfree
    have hargs : (usageOk (keyTypeOf ((s.slot tag.val).arg 0)) (keyUsageOf ((s.slot tag.val).arg 0)) &&
        (if field ((s.slot tag.val).arg 1) 5 0 = 0 then
          keyLen (keyTypeOf ((s.slot tag.val).arg 0)) (field ((s.slot tag.val).arg 3) 9 0)
        else decide (28 ≤ field ((s.slot tag.val).arg 3) 9 0) &&
          keyLen (keyTypeOf ((s.slot tag.val).arg 0)) (field ((s.slot tag.val).arg 3) 9 0 - 28)) &&
        s.bytesInside ((s.slot tag.val).arg 2).toNat (field ((s.slot tag.val).arg 3) 9 0)) = true := by
      rw [← htyp, huse, if_pos hkek, hlen, hin]
      rfl
    have run {y : State} {c : Code} {ok : Bool} (h : keyImportEffect (s.slot tag.val) s = (y, c, ok)) :
        exec (.keyImport tag) s = .next (y.cribEnd tag.val 0x02 (s.slot tag.val) c (s.approvedMode && ok)) :=
      congrArg Host.Outcome.next (State.cribOp_of_effect hrun hargs hup (.inl hsec) (.inl hlife) h)
    refine ⟨fun h5 hnot honly => ?_, fun hallowed hsrc hmake =>
      run (keyImportEffect_writes hn htyp hkek hn0 hfree hallowed hsrc hmake)⟩
    rw [run (keyImportEffect_refused hn htyp hkek hn0 hfree h5 hnot honly), Bool.and_false]
  · rintro s tag k n rfl hn hup hsec hlife hrun
    exact ⟨fun hpub => next_cribOp hrun hup (.inl hsec) (.inl hlife) rfl rfl (keyPubEffect_none hn hpub),
      fun hpub hout => next_cribOp hrun hup (.inl hsec) (.inl hlife) rfl rfl (keyPubEffect_shows hn hpub hout)⟩
  · rintro s tag k n rfl hn hup hsec hlife hrun
    refine ⟨fun hzero => ?_, fun hn0 hlate =>
      next_cribOp hrun hup (.inl hsec) (.inl hlife) rfl rfl (keyDeleteEffect_root hn hn0 hlate)⟩
    obtain ⟨t, heff, hkey, hsame⟩ := keyDeleteEffect_empties hn hzero
    have hend : SameBut [.ops] t (t.cribEnd tag.val 0x04 (s.slot tag.val) .done s.approvedMode) := State.cribEnd_same _ _ _
    exact ⟨_, next_cribOp hrun hup (.inl hsec) (.inl hlife) rfl rfl heff, fun j => (hend.key (by decide) j).trans (hkey j),
      State.cribEnd_result _ _ _, hend.fuse.trans hsame.fuse, congrArg (fun o => o.owner) (hend.own.trans hsame.own),
      hend.flash.trans hsame.flash⟩
  · rintro s tag k rfl hup hsec hlife hrun hkey
    obtain ⟨hkeys, hzero, hsame⟩ := s.zeroiseCrib_empties (logMaster (s.slot tag.val))
    have hend := State.cribEnd_same (s := s.zeroiseCrib (logMaster (s.slot tag.val))) (tag := tag.val)
      (k := s.slot tag.val) 0x10 .done s.approvedMode
    exact ⟨_, next_cribOp hrun hup (.inl hsec) (.inl hlife) rfl (by simpa using hkey) rfl,
      (congrArg CribState.keys hend.crib).trans hkeys, (congrArg CribState.zeroised hend.crib).trans hzero,
      State.cribEnd_result _ _ _, hend.fuse.trans hsame.fuse, hend.flash.trans hsame.flash⟩
  · rintro s u v tag k n dest typ peer info z rfl hn hdest hdest0 htyp hup hsec hlife hrun hargs h4 huse
    exact ⟨fun htaken => next_cribOp hrun hup (.inl hsec) (.inl hlife) rfl hargs (ecdhEffect_taken hn hdest h4 huse htaken),
      fun hfree hin hpeer hinfo hz => next_cribOp hrun hup (.inl hsec) (.inl hlife) rfl hargs
        (ecdhEffect_derives hn hdest h4 huse hdest0 htyp hfree hin hpeer hinfo hz)⟩

end Sys2Proof.Machine
end

section
/-!
PROOFS. Lifecycle, roots, debug and tampering.
-/
namespace Sys2Proof.Machine

section
variable {s t u v : State} {tag : Nat} {k : Slot}

/-! ### What bytes read through the memory window leave -/

theorem State.corrected_work (b : Nat) : FrameWork s (s.corrected b) := by
  unfold State.corrected
  dsimp only
  refine FrameWork.ite (FrameWork.trans ?_ (State.suspectBank_work b)) ?_
  · exact FrameWork.set_gran rfl
  · exact FrameWork.set_gran rfl

theorem State.correctWords_work (p : Nat → Bool) : FrameWork s (s.correctWords p) := by
  have hfold : ∀ (l : List Nat) (w : State), FrameWork w (l.foldl (fun acc x => acc.corrected (x / 32768)) w) := fun l =>
    l.rec (fun w => .refl w) (fun _ _ ih w => (State.corrected_work _).trans (ih _))
  unfold State.correctWords
  refine FrameWork.trans ?_ (hfold _ _)
  exact FrameWork.set_gran rfl

theorem State.ueRead_work (w : Nat) : FrameWork s (s.ueRead w) :=
  SameBut.work (((s.setRg_same _ _ _).trans (State.evPulse_same _ _ _)).trans (State.faultRec_same _ _ _ _))

theorem State.readWord_work (w : Nat) : FrameWork s (s.readWord w).1 := by
  unfold State.readWord
  split
  · exact State.ueRead_work w
  · split
    · exact State.correctWords_work _
    · exact .refl s

theorem State.countAccess_work (near : Bool) (w : Nat) : FrameWork s (s.countAccess near w) := by
  unfold State.countAccess
  exact .ite (FrameWork.set_gran rfl) (FrameWork.set_gran rfl)

theorem State.winRead_work (near : Bool) (a : Nat) : FrameWork s (s.winRead near a).1 := by
  unfold State.winRead
  split
  · exact .refl s
  · split
    · exact State.ueRead_work _
    · exact (State.correctWords_work _).tell (State.draw_same _)
  · next w h =>
    have hread := (s.countAccess_work near w).trans (State.readWord_work (s := s.countAccess near w) w)
    split
    · next h => rwa [h] at hread
    · next h => rwa [h] at hread

theorem State.winReads_work (near : Bool) (a n : Nat) : FrameWork s (s.winReads near a n).1 := by
  induction n generalizing s a with
  | zero => exact .refl s
  | succ n ih =>
    have hread := s.winRead_work near a
    unfold State.winReads
    split
    · next h => rwa [h] at hread
    · next h => rwa [h] at hread
    · next v x h =>
      rw [h] at hread
      have hrest := ih (s := v) (a + 4)
      split
      · next h' =>
        rw [h'] at hrest
        exact hread.trans hrest
      · next h' =>
        rw [h'] at hrest
        exact hread.trans hrest

theorem State.winBytes_work (a n : Nat) : FrameWork s (s.winBytes a n).1 := by
  have hread := State.winReads_work (s := s) false (a / 4 * 4) ((a % 4 + n + 3) / 4)
  unfold State.winBytes
  dsimp only
  split
  · next h => rwa [h] at hread
  · next h => rwa [h] at hread

/-! ### Keys under a change of owner -/

theorem State.endSlot_keys (c : Code) : (s.endSlot tag c).crib.keys = s.crib.keys := by
  unfold State.endSlot State.endSlotAt
  extract_lets k s0 s1
  have hput : SameBut [.ops] s s0 := s.putSlot_same _ _
  have h0 : s0.crib = s.crib := hput.crib
  have h1 : s1.crib.keys = s0.crib.keys := by
    refine (apply_ite (fun x : State => x.crib.keys) _ _ _).trans ?_
    split
    · rfl
    · exact (apply_ite (fun x : State => x.crib.keys) _ _ _).trans (ite_self _)
  refine ((apply_ite (fun x : State => x.crib.keys) _ _ _).trans ?_).trans (h1.trans (congrArg CribState.keys h0))
  exact ite_self _

theorem State.endSlots_keys (p : Slot → Bool) (c : Code) : (s.endSlots p c).crib.keys = s.crib.keys := by
  unfold State.endSlots
  generalize List.range 128 = l
  induction l generalizing s with
  | nil => rfl
  | cons tag l ih =>
    refine ih.trans ?_
    dsimp only
    split
    · exact State.endSlot_keys c
    · rfl

/-- A change of owner touches no key. -/
theorem State.changeOwner_keys (kind : Nat) (heir : Option Master) (m : Nat) :
    (s.changeOwner kind heir m).crib.keys = s.crib.keys := by
  have hgone : (s.ownerGone kind heir m).crib.keys = s.crib.keys := by
    have hregs : ∀ w : State, SameBut [] w ((List.range 8).foldl (fun acc i => acc.setRg 0x02 (0x040 + 4 * i) 0) w) :=
      fun w => .foldl (fun t i => t.setRg_same _ _ _) _ w
    unfold State.ownerGone
    refine (congrArg CribState.keys (hregs _).crib).trans ((State.endSlots_keys _ _).trans ?_)
    have hfirst := fun w : State => ((w.setRg_same (l := [.opt]) 0x01 0x068
      (pack [(0, 4, kind), (4, 4, ownerNum s.own.owner), (8, 4, ownerNum heir)])).trans
      (State.setPair_same _ 0x01 0x06C s.now)).trans (State.auditOwn_same _ kind m (ownerNum heir))
    exact congrArg CribState.keys (hfirst _).crib
  have hlast : SameBut [.queues, .svc] (s.ownerGone kind heir m) (s.changeOwner kind heir m) := by
    unfold State.changeOwner
    dsimp only
    refine SameBut.trans ?_ (State.syncWdt_same _)
    refine SameBut.trans ?_ (State.evPulse_same _ _ _)
    refine SameBut.trans ?_ (State.evLevel_same _ _ _ _)
    refine SameBut.trans ?_ (State.evLevel_same _ _ _ _)
    split
    · exact .refl _
    · exact (State.rewindOf_same _ _).mono
  exact (congrArg CribState.keys hlast.crib).trans hgone

/-! ### Lifecycle -/

theorem State.secLog_same (kind detail slot master : Nat) : SameBut [.crib] s (s.secLog kind detail slot master) :=
  SameBut.set_crib s

theorem State.secLog_keys (kind detail slot master : Nat) : (s.secLog kind detail slot master).crib.keys = s.crib.keys := rfl

theorem State.lifeStep_same (new : Nat) : SameBut [.crib] s (s.lifeStep new k) :=
  (((s.updRg_same _ _ _).trans (State.secLog_same _ _ _ _))).trans (State.cribEv_same _ _)

theorem State.lifeStep_keys (new : Nat) : (s.lifeStep new k).crib.keys = s.crib.keys := by
  obtain ⟨w, hw, hkeys⟩ : ∃ w : State, s.lifeStep new k = w.cribEv 3 ∧ w.crib.keys = s.crib.keys := ⟨_, rfl, rfl⟩
  have hev : SameBut [] w (w.cribEv 3) := w.cribEv_same 3
  rw [hw, hev.crib, hkeys]

theorem lifecycleEffect_operational (htarget : field (k.arg 0) 1 0 = 2) (hlife : s.lifecycle = 1)
    (hroot : s.fuse.root0.isSome = true) (hvalid : s.fuse.revoked0 = false) (hkey : (s.key 0).typ ≠ 0) :
    lifecycleEffect k s = (State.lifeStep { s with fuse := { s.fuse with f := true } } 2 k, .done, true) := by
  unfold lifecycleEffect
  dsimp only
  rw [htarget, if_neg (by simp), if_pos (by simp [hlife, hroot, hvalid, hkey])]

theorem lifecycleEffect_ends (htarget : field (k.arg 0) 1 0 = 3) (hlife : s.lifecycle ≠ 3) : lifecycleEffect k s =
    (State.lifeStep { s.zeroiseCrib (logMaster k) with
      fuse := { (s.zeroiseCrib (logMaster k)).fuse with d := true } } 3 k, .done, true) := by
  unfold lifecycleEffect
  dsimp only
  rw [htarget, if_neg (by simp), if_neg (by simp), if_pos (by simp [hlife])]

theorem lifecycleEffect_refused (h : field (k.arg 0) 1 0 = 0 ∨ (field (k.arg 0) 1 0 = 1 ∧ s.lifecycle ≠ 0) ∨
    (field (k.arg 0) 1 0 = 2 ∧ s.lifecycle ≠ 1) ∨ (field (k.arg 0) 1 0 = 3 ∧ s.lifecycle = 3)) :
    lifecycleEffect k s = (s, .state, true) := by
  unfold lifecycleEffect
  dsimp only
  rcases h with h | ⟨h, hlife⟩ | ⟨h, hlife⟩ | ⟨h, hlife⟩
  · rw [h, if_neg (by simp), if_neg (by simp), if_neg (by simp)]
  · rw [h, if_neg (by simp [hlife]), if_neg (by simp), if_neg (by simp)]
  · rw [h, if_neg (by simp), if_neg (by simp [hlife]), if_neg (by simp)]
  · rw [h, if_neg (by simp), if_neg (by simp), if_neg (by simp [hlife])]

/-! ### Roots -/

/-- What a root set, or revoked, leaves beside its fuse. -/
theorem State.blown_shows (f : Fuses) (n d m : Nat) :
    ((({ s with fuse := f } : State).blow n).secLog 5 d 0 m).fuse = f ∧
      ((({ s with fuse := f } : State).blow n).secLog 5 d 0 m).crib.keys = s.crib.keys := ⟨rfl, rfl⟩

section
variable (hindex : field (k.arg 0) 0 0 = 0)
include hindex

theorem rootSetEffect_sets {l : List Byte} (hset : flag (k.arg 0) 8 = false) (hlife : s.lifecycle ≤ 1)
    (hsrc : s.winBytes (k.arg 1).toNat 48 = (u, .ok l)) (hroot : s.fuse.root0 = none) :
    rootSetEffect k s = ((({ u with fuse := { s.fuse with root0 := some l } } : State).blow 384).secLog 5 0 0 (logMaster k),
      .done, true) ∧ u.fuse = s.fuse ∧ u.crib = s.crib := by
  have hwork : FrameWork s u := by
    have h := s.winBytes_work (k.arg 1).toNat 48
    rwa [hsrc] at h
  refine ⟨?_, hwork.same.fuse, hwork.same.crib⟩
  unfold rootSetEffect
  dsimp only
  rw [hindex, if_neg (by simp [hset]), if_neg (by simp [hroot]; omega), hsrc]
  dsimp only
  rw [if_pos rfl]

theorem rootSetEffect_taken (hset : flag (k.arg 0) 8 = false) (hroot : s.fuse.root0.isSome = true) :
    rootSetEffect k s = (s, .state, true) := by
  unfold rootSetEffect
  dsimp only
  rw [hindex, if_neg (by simp [hset]), if_pos (by simp [hroot])]

variable (hrevoke : flag (k.arg 0) 8 = true)
include hrevoke

theorem rootSetEffect_revokes (hroot1 : s.fuse.root1.isSome = true) (hvalid1 : s.fuse.revoked1 = false) :
    rootSetEffect k s = ((({ s with fuse := { s.fuse with revoked0 := true } } : State).blow 1).secLog 5 8 0 (logMaster k),
      .done, true) := by
  unfold rootSetEffect
  dsimp only
  rw [hindex, if_pos hrevoke, if_neg (by simp [hroot1, hvalid1]), if_pos rfl]

theorem rootSetEffect_last (hroot : s.fuse.root0.isSome = true) (hvalid : s.fuse.revoked0 = false)
    (hroot1 : s.fuse.root1 = none) : rootSetEffect k s = (s, .state, true) := by
  unfold rootSetEffect
  dsimp only
  rw [hindex, if_pos hrevoke, if_pos (by simp [hroot, hvalid, hroot1])]

end

/-! ### DEBUG_CLOSE -/

/-- Closing debug blows its fuse, lets the core run on and takes the debug master's ownership. -/
theorem debugCloseEffect_closes : ∃ t, debugCloseEffect k s = (t, .done, true) ∧
    t.fuse = { s.fuse with debugClosed := true } ∧ t.core.halted = false ∧ t.own.owner ≠ some .debug ∧
    t.crib.keys = s.crib.keys := by
  obtain ⟨v, hv, hfuse, hhalted, hkeys, hown⟩ : ∃ v : State, debugCloseEffect k s =
      (if v.holds .debug then (v.evPulse 0x01 1).changeOwner 0x9 none 0xF else v, .done, true) ∧
      v.fuse = { s.fuse with debugClosed := true } ∧ v.core.halted = false ∧ v.crib.keys = s.crib.keys ∧
      v.own = s.own := ⟨_, rfl, rfl, rfl, rfl, rfl⟩
  have hpulse : SameBut [] v (v.evPulse 0x01 1) := v.evPulse_same _ _
  cases hheld : v.holds .debug
  · refine ⟨v, hv.trans (by rw [hheld]; rfl), hfuse, hhalted, ?_, hkeys⟩
    simpa [State.holds] using hheld
  · have hchange := State.changeOwner_same (s := v.evPulse 0x01 1) 0x9 none 0xF
    refine ⟨(v.evPulse 0x01 1).changeOwner 0x9 none 0xF, hv.trans (by rw [hheld]; rfl), ?_, ?_, ?_, ?_⟩
    · exact (hchange.fuse.trans hpulse.fuse).trans hfuse
    · exact (congrArg CoreState.halted (hchange.core.trans hpulse.core)).trans hhalted
    · rw [State.changeOwner_own]
      exact nofun
    · exact (State.changeOwner_keys _ _ _).trans ((congrArg CribState.keys hpulse.crib).trans hkeys)

end

/-- Settles O56, step by step. -/
theorem lifecycleAndTamper : Obligations.LifecycleAndTamper := by
  unfold Obligations.LifecycleAndTamper
  refine ⟨?_, ?_, ?_, ?_, ?_, ?_, ?_⟩
  · rintro s tag k rfl hup hsec hrun hkey
    have run {x : State} {c : Code} (h : lifecycleEffect (s.slot tag.val) s = (x, c, true)) :
        exec (.lifecycle tag) s = .next (x.cribEnd tag.val 0x0C (s.slot tag.val) c s.approvedMode) :=
      next_cribOp hrun hup (.inl hsec) (.inr (by decide)) rfl (by simpa using hkey) h
    have hend (x : State) (c : Code) : SameBut [.ops] x (x.cribEnd tag.val 0x0C (s.slot tag.val) c s.approvedMode) :=
      State.cribEnd_same _ _ _
    refine ⟨fun htarget hlife hroot hvalid hkey0 => ?_, fun htarget hlife => ?_, fun h => ?_⟩
    · have hstep : SameBut [.crib] _ _ := State.lifeStep_same (s := { s with fuse := { s.fuse with f := true } })
        (k := s.slot tag.val) 2
      exact ⟨_, run (lifecycleEffect_operational htarget hlife hroot hvalid hkey0), (hend _ _).fuse.trans hstep.fuse,
        State.cribEnd_result _ _ _, (congrArg CribState.keys (hend _ _).crib).trans (State.lifeStep_keys _),
        (hend _ _).flash.trans hstep.flash⟩
    · obtain ⟨hkeys, -, hzero⟩ := s.zeroiseCrib_empties (logMaster (s.slot tag.val))
      have heff := lifecycleEffect_ends htarget hlife
      generalize s.zeroiseCrib (logMaster (s.slot tag.val)) = z at heff hkeys hzero
      have hstep : SameBut [.crib] _ _ := State.lifeStep_same (s := { z with fuse := { z.fuse with d := true } })
        (k := s.slot tag.val) 3
      refine ⟨_, run heff, ((hend _ _).fuse.trans hstep.fuse).trans ?_,
        (congrArg CribState.keys (hend _ _).crib).trans ((State.lifeStep_keys _).trans hkeys), State.cribEnd_result _ _ _,
        ((hend _ _).flash.trans hstep.flash).trans hzero.flash⟩
      exact congrArg (fun x : Fuses => { x with d := true }) hzero.fuse
    · exact ⟨_, run (lifecycleEffect_refused h), (hend _ _).fuse, State.cribEnd_result _ _ _, (hend _ _).crib⟩
  · rintro s u tag k l rfl hup hsec hrun hlife
    have run {x : State} {c : Code} (hargs : flag ((s.slot tag.val).arg 0) 8 = true ∨
        s.bytesInside ((s.slot tag.val).arg 1).toNat 48 = true)
        (h : rootSetEffect (s.slot tag.val) s = (x, c, true)) :
        exec (.rootSet tag) s = .next (x.cribEnd tag.val 0x0D (s.slot tag.val) c s.approvedMode) :=
      next_cribOp hrun hup (.inl hsec) (.inl (by omega)) rfl (by simpa using hargs) h
    have hend (x : State) (c : Code) : SameBut [.ops] x (x.cribEnd tag.val 0x0D (s.slot tag.val) c s.approvedMode) :=
      State.cribEnd_same _ _ _
    refine ⟨fun hset hindex hin hsrc hroot => ?_, fun hset hindex hin hroot => ?_,
      fun hrevoke hindex hroot hvalid => ⟨fun hroot1 hvalid1 => ?_, fun hroot1 => ?_⟩⟩
    · obtain ⟨heff, -, hcrib⟩ := rootSetEffect_sets hindex hset hlife hsrc hroot
      exact ⟨_, run (.inr hin) heff, (hend _ _).fuse, State.cribEnd_result _ _ _,
        (congrArg CribState.keys (hend _ _).crib).trans ((State.blown_shows _ _ _ _).2.trans (congrArg CribState.keys hcrib))⟩
    · exact ⟨_, run (.inr hin) (rootSetEffect_taken hindex hset hroot), (hend _ _).fuse, State.cribEnd_result _ _ _⟩
    · exact ⟨_, run (.inl hrevoke) (rootSetEffect_revokes hindex hrevoke hroot1 hvalid1), (hend _ _).fuse,
        State.cribEnd_result _ _ _⟩
    · exact ⟨_, run (.inl hrevoke) (rootSetEffect_last hindex hrevoke hroot hvalid hroot1), (hend _ _).fuse,
        State.cribEnd_result _ _ _⟩
  · rintro s tag k rfl hup hsec hlife hrun hkey
    obtain ⟨t, heff, hfuse, hhalted, howner, hkeys⟩ := debugCloseEffect_closes (s := s) (k := s.slot tag.val)
    have hend : SameBut [.ops] t (t.cribEnd tag.val 0x0E (s.slot tag.val) .done s.approvedMode) := State.cribEnd_same _ _ _
    refine ⟨_, next_cribOp hrun hup (.inl hsec) (.inl hlife) rfl (by simpa using hkey) heff, hend.fuse.trans hfuse,
      (congrArg CoreState.halted hend.core).trans hhalted, ?_, State.cribEnd_result _ _ _,
      (congrArg CribState.keys hend.crib).trans hkeys⟩
    rw [hend.own]
    exact howner
  · intro s apt hup hdead
    exact congrArg Host.Outcome.next (if_neg (by simp [hup, hdead]))
  · intro s apt h
    exact congrArg Host.Outcome.next (if_pos (by simpa using h))
  · intro s m v hg
    refine ⟨fun hlocked => congrArg Host.Outcome.next ?_, fun hopen => congrArg Host.Outcome.next ?_⟩
    · rw [State.write_pass hg, show tamperCfgEffect v s = (s, .state) from if_pos hlocked]
      rfl
    · rw [State.write_pass hg, show tamperCfgEffect v s = (s.setRg 0x3A 0x05C (v &&& 0x800000FF), .done) from
        if_neg (by simp [hopen])]
      exact State.complete_done _ _ _ _ _
  · rintro s u n how rfl rfl
    refine ⟨fun hidle => congrArg Host.Outcome.next (if_pos (by simp [hidle])),
      fun harmed hhow => congrArg Host.Outcome.next ((if_neg (by simp [harmed])).trans (if_pos hhow)),
      fun harmed hhow hup => congrArg Host.Outcome.next ((if_neg (by simp [harmed])).trans ((if_neg hhow).trans
        (if_neg (by simp [hup])))),
      fun harmed hhow hdown => congrArg Host.Outcome.next ((if_neg (by simp [harmed])).trans ((if_neg hhow).trans
        (if_pos hdown)))⟩

end Sys2Proof.Machine
end

section
/-!
PROOFS. The link's operations: a SEND whose body, as it is read, ends another operation that carries the same slot.
-/
namespace Sys2Proof.Machine

/-- SEND runs in slot 0 with one byte of body, behind an open aperture, at word 212992; the word has a single-bit error
too many for its bank, and the Loft's oldest job, with no frame left, belongs to slot 0 as well. -/
def sendOverJob : State :=
  { regs := [(ra 0x1B 0x004, 1), (ra 0x1C 0x004, 1), (ra 0x1C 0x050, 0), (ra 0x1C 0x058, 0), (ra 0x1C 0x0C0, 0x43),
      (ra 0x28 0x04C, 0), (ra 0x2A 0x004, 1), (ra 0x2A 0x008, 1), (ra 0x2A 0x05C, 0)]
    ops := { slots := [(0, { st := .running, page := 0x2A, op := 1, args := [5, 0x80000, 1] })] }
    opt := { live := [(9, 1)] }
    link := { peers := [(1, some { station := 5, legacy := true })] }
    gran := { soft := [212992], jobs := [{ slot := some 0 }], test := some 3072 } }

/-- The body of that SEND reads. -/
theorem sendOverJob_body : ∃ u, sendOverJob.winBytes 0x80000 1 = (u, .ok [0]) := by
  have hbody : (sendOverJob.winBytes 0x80000 1).2 = .ok [0] := by decide +kernel
  exact ⟨_, Prod.ext rfl hbody⟩

/-- Reading it ends the job, and with it slot 0. -/
theorem sendOverJob_result : ((sendOverJob.runOp 0 0x2A 1 (sendOverJob.sendArgs 0) (sendEffect 0)).slot 0).result =
    some .done := by decide +kernel

/-- Refutes O51: reading the body of a SEND can correct a word, take its bank out of service and so end the job of
the Loft that waits in front; where that job carries SEND's own slot, SEND has a result at once. -/
theorem not_linkOperations : ¬ Obligations.LinkOperations := by
  unfold Obligations.LinkOperations
  intro h
  obtain ⟨hsend, -⟩ := h
  have hpeer : ∀ n p, sendOverJob.peer n = some p → p.txctr ≠ 0xFFFFFFFF := fun n p hp => by
    by_cases hn : n = 1
    · subst hn
      cases hp
      decide
    · have hnone : sendOverJob.peer n = none := if_neg hn
      exact absurd (hp.symm.trans hnone) (by simp)
  obtain ⟨u, hbody⟩ := sendOverJob_body
  obtain ⟨-, -, hbuilt⟩ := hsend sendOverJob 0 (by decide +kernel) (by decide +kernel) (by decide +kernel)
    (by decide +kernel) (fun x hx => absurd hx List.not_mem_nil)
  obtain ⟨t, x, hnext, -, -, -, -, -, hnone, -⟩ := hbuilt u [0] (by decide +kernel) (by decide +kernel)
    (by decide +kernel) (by decide +kernel) (by decide +kernel) (by decide +kernel) hpeer rfl hbody
  have hexec : ∀ (s : State) (tag : Fin 128), exec (.send tag) s =
      .next (s.runOp tag.val 0x2A 1 (s.sendArgs tag.val) (sendEffect tag.val)) := fun _ _ => rfl
  have ht := Host.Outcome.next.inj ((hexec sendOverJob 0).symm.trans hnext)
  rw [← ht] at hnone
  exact absurd (sendOverJob_result.symm.trans hnone) (by simp)

end Sys2Proof.Machine
end

section
/-!
PROOFS. The transceiver: one register has more than one page and offset.
-/
namespace Sys2Proof.Machine

/-- The control core owns the device, RADIO's page 0x28 is READY, LINK is off and the channel stands at 433.92 MHz. -/
def channelSet : State :=
  { regs := [(ra 0x28 0x004, 1), (ra 0x28 0x040, 433920000), (ra 0x2A 0x008, 0)]
    own := { owner := some .core, due := 1 } }

/-- Refutes O49: an offset of 0x1000 and more reaches into the next page, so that page 0x27 at offset 0x1040 names FREQ as
well as page 0x28 at 0x040 does; a write of FREQ with another channel changes what is read there. -/
theorem not_transceiver : ¬ Obligations.Transceiver := by
  unfold Obligations.Transceiver
  intro h
  obtain ⟨hfreq, -⟩ := h channelSet .core 0 0 _ rfl
  obtain ⟨hlegal, -⟩ := hfreq (by decide +kernel)
  obtain ⟨-, hoff⟩ := hlegal (.inl (by decide))
  obtain ⟨t, -, hset, -, -, -, -, -, -, -, hother⟩ := hoff (by decide +kernel)
  have hkept : t.rg 0x28 0x040 = channelSet.rg 0x28 0x040 :=
    hother 0x27 0x1040 (by decide) (by decide) (by decide)
  exact absurd (hset.symm.trans hkept) (by decide +kernel)

end Sys2Proof.Machine
end

section
/-!
PROOFS. The link on the air: what its engine leaves as it is, and its rows.
-/
namespace Sys2Proof.Machine

/-! ### What the link's engine leaves as it is -/

section
variable {l : List Part} (s : State)

theorem State.request_same (f : TxFrame) : SameBut [.phy] s (s.request f) := s.updPhy_same _

theorem State.acceptFrame_same (n : Nat) (d : Delivered) : SameBut [.link] s (s.acceptFrame n d) :=
  (s.updPeer_same n _).trans (State.updRg_same _ _ _ _)

theorem State.ackFor_same (n : Nat) (d : Delivered) (o : Opened) (hold noroute : Bool) :
    SameBut [.link] s (s.ackFor n d o hold noroute) := (s.updPeer_same n _).trans (State.updLink_same _ _)

theorem State.learn_same (n : Nat) (p : Peer) (orig : Nat) : SameBut [.link] s (s.learn n p orig) :=
  .ite (.refl s) (s.updLink_same _)

theorem State.setParent_same (n : Option Nat) : SameBut [.link] s (s.setParent n) :=
  .ite (.refl s) ((((s.updLink_same _).trans (State.evPulse_same _ _ _)).trans (State.pulse_same _ _ _)).trans
    (State.refreshLink_same _))

theorem State.judgeParent_same : SameBut [.link] s s.judgeParent := by
  unfold State.judgeParent
  split
  · exact .ite (.refl s) (s.setParent_same _)
  · refine .ite (s.setParent_same _) ?_
    dsimp only
    refine .ite ((s.updLink_same _).trans (State.setParent_same _ _)) ?_
    split
    · exact (s.updLink_same _).trans (State.setParent_same _ _)
    · exact s.updLink_same _

theorem State.countCheaper_same : SameBut [.link] s s.countCheaper := .foldl (β := Nat × Peer) (fun t e => t.putPeer_same e.1 _) _ s

theorem State.agePeers_same : SameBut [.link] s s.agePeers := .foldl (β := Nat × Peer) (fun t e => t.putPeer_same e.1 _) _ s

theorem State.parentBeacon_same (n : Nat) (d : Delivered) (t1 : Stamp) : SameBut [.link, .time] s (s.parentBeacon n d t1) := by
  have htold : SameBut [.link, .time] s (((s.evPulse 0x2A 0).pulse 0xB0).updLink (fun l =>
      { l with offset := loWord (d.stamp - joinWords 0 (loWord t1)), heard := true })) :=
    ((s.evPulse_same _ _).trans (State.pulse_same _ _ _)).trans (State.updLink_same _ _).mono
  exact .ite htold (htold.trans (.set_time _))

theorem State.pushPackets_same (ps : List (List Word)) : SameBut [.link, .queues, .svc] s (s.pushPackets ps) := by
  induction ps generalizing s with
  | nil => exact .refl s
  | cons p ps ih =>
    refine SameBut.ite ?_ (s.blockPush_same _ _)
    exact ((((s.blockPush_same _ _).trans (State.updLink_same _ _).mono).trans (State.evPulse_same _ _ _)).trans
      (State.pulse_same _ _ _)).trans (ih _)

/-- Packets that wait are all of the link that a push touches. -/
theorem State.pushPackets_link (ps : List (List Word)) :
    ∃ left, (s.pushPackets ps).link = { s.link with packets := left } := by
  induction ps generalizing s with
  | nil => exact ⟨_, rfl⟩
  | cons p ps ih =>
    have hpush := (s.blockPush_same (l := [.queues, .svc]) (field (s.rg 0x2A 0x05C) 4 0) p).link
    by_cases hc : (s.blockPush (field (s.rg 0x2A 0x05C) 4 0) p).2 = .done
    · obtain ⟨left, hleft⟩ := ih ((((s.blockPush (field (s.rg 0x2A 0x05C) 4 0) p).1.updLink (fun l =>
        { l with packets := ps })).evPulse 0x2A 2).pulse 0xB2)
      refine ⟨left, (congrArg State.link (if_pos hc)).trans (hleft.trans ?_)⟩
      rw [(State.pulse_same (l := []) _ _ _).link, (State.evPulse_same (l := []) _ _ _).link]
      exact congrArg (fun k : Link => { k with packets := left }) hpush
    · exact ⟨s.link.packets, (congrArg State.link (if_neg hc)).trans hpush⟩

theorem State.setSramByte_same (a : Nat) (b : Byte) : SameBut [.gran] s (s.setSramByte a b) := SameBut.set_gran s

theorem State.setSramBytes_same (a : Nat) (bs : List Byte) : SameBut [.gran] s (s.setSramBytes a bs) :=
  .foldl (β := Byte × Nat) (fun t e => t.setSramByte_same (a + e.2) e.1) _ s

end

/-! ### Peers -/

section
variable {s t : State} {n : Nat} {p : Peer} {d : Delivered} {f : Peer → Peer}

theorem State.peer_of_link (h : t.link = s.link) (n : Nat) : t.peer n = s.peer n := by unfold State.peer; rw [h]

theorem State.updPeer_of (h : s.peer n = some p) : s.updPeer n f = s.putPeer n (some (f p)) := by
  unfold State.updPeer
  rw [h]

theorem State.peer_putPeer (s : State) (n : Nat) (p : Option Peer) : (s.putPeer n p).peer n = p := Tab.get_set_self

theorem State.peer_updPeer (h : s.peer n = some p) : (s.updPeer n f).peer n = some (f p) := by
  rw [State.updPeer_of h]
  exact s.peer_putPeer n _

/-- Peers are all of the link that a change of a peer touches. -/
theorem State.updPeer_link (s : State) (n : Nat) (f : Peer → Peer) :
    ∃ peers, (s.updPeer n f).link = { s.link with peers := peers } := by
  unfold State.updPeer
  split
  · exact ⟨_, rfl⟩
  · exact ⟨_, rfl⟩

theorem State.acceptFrame_link (s : State) (n : Nat) (d : Delivered) :
    ∃ peers, (s.acceptFrame n d).link = { s.link with peers := peers } := s.updPeer_link n _

theorem State.peer_acceptFrame (h : s.peer n = some p) : (s.acceptFrame n d).peer n =
    some { p with lqis := (d.lqi :: p.lqis).take 8, seen := d.stamp, neigh := true, age := 0 } := State.peer_updPeer h

/-- A peer that is acknowledged keeps all but how it was acknowledged; its ACK is the last that is due. -/
theorem State.ackFor_due (h : s.peer n = some p) (o : Opened) (hold noroute : Bool) :
    ∃ a, (s.ackFor n d o hold noroute).link.acks = s.link.acks ++ [a] ∧ a.peer = n ∧ a.ctr = o.ctr ∧
      (s.ackFor n d o hold noroute).peer n = some { p with lastAck := some (hold, noroute) } := by
  obtain ⟨peers, hlink⟩ := s.updPeer_link n (fun p => { p with lastAck := some (hold, noroute) })
  refine ⟨_, (congrArg (fun k : Link => k.acks ++ _) hlink :), rfl, rfl, State.peer_updPeer h⟩

end

/-! ### Superframe, data period and the own beacon -/

section
variable (s : State)

theorem State.setRadio_link (f : Nat) (w : Option Nat) (nb : Bool) (k : Nat) : (s.setRadio f w nb k).link = s.link :=
  (s.setRadio_same f w nb k).link

theorem State.startFrame_opens : SameBut [.time, .link, .phy, .queues, .svc] s s.startFrame ∧
    s.startFrame.link.dataPeriod = false ∧ s.startFrame.link.backoff = none := by
  obtain ⟨s1, hs1, h1⟩ : ∃ s1 : State, (s.reach s.nextFrame).countCheaper.judgeParent.agePeers = s1 ∧
      SameBut [.time, .link, .phy, .queues, .svc] s s1 :=
    ⟨_, rfl, (((s.reach_same _).mono.trans (State.countCheaper_same _).mono).trans (State.judgeParent_same _).mono).trans
      (State.agePeers_same _).mono⟩
  obtain ⟨s2, hs2, h2, hclosed, hno⟩ : ∃ s2 : State, s1.updLink (fun l =>
      { l with frame := s1.nextFrameAt, dataPeriod := false, backoff := none, beaconBefore := l.beaconAt }) = s2 ∧
      SameBut [.time, .link, .phy, .queues, .svc] s s2 ∧ s2.link.dataPeriod = false ∧ s2.link.backoff = none :=
    ⟨_, rfl, h1.trans (s1.updLink_same _).mono, rfl, rfl⟩
  have hframe : s.startFrame = (((s2.setRadio s2.dfreq (some 0) true 0).pushWaiting).pulse 0xB4).refreshLink := by
    rw [← hs2, ← hs1]
    rfl
  obtain ⟨left, hleft⟩ := (s2.setRadio s2.dfreq (some 0) true 0).pushPackets_link
    (s2.setRadio s2.dfreq (some 0) true 0).link.packets
  have hlink : s.startFrame.link = { s2.link with packets := left } := by
    rw [hframe, (State.refreshLink_same (l := []) _).link, (State.pulse_same (l := []) _ _ _).link]
    refine hleft.trans ?_
    rw [State.setRadio_link]
  refine ⟨?_, (congrArg Link.dataPeriod hlink).trans hclosed, (congrArg Link.backoff hlink).trans hno⟩
  rw [hframe]
  exact (((h2.trans (s2.setRadio_same _ _ _ _).mono).trans (State.pushPackets_same _ _).mono).trans
    (State.pulse_same _ _ _)).trans (State.refreshLink_same _)

theorem State.openData_opens : SameBut [.time, .link, .phy] s s.openData ∧ s.openData.link.dataPeriod = true ∧
    ∀ m, m ∈ s.openData.link.msgs → m.hold = false := by
  obtain ⟨s1, hs1, h1⟩ : ∃ s1 : State, s.reach s.dataStart = s1 ∧ SameBut [.time] s s1 := ⟨_, rfl, s.reach_same _⟩
  have hopen : s.openData = (s1.updLink (fun l =>
      { l with dataPeriod := true, msgs := l.msgs.map (fun m => { m with hold := false }) })).dataRadio := by
    rw [← hs1]
    rfl
  have hlink : s.openData.link = { s1.link with
      dataPeriod := true, msgs := s1.link.msgs.map (fun m => { m with hold := false }) } :=
    (congrArg State.link hopen).trans (State.dataRadio_same _).link
  refine ⟨?_, congrArg Link.dataPeriod hlink, ?_⟩
  · rw [hopen]
    exact (h1.mono.trans (s1.updLink_same _).mono).trans (State.dataRadio_same _).mono
  · rw [hlink]
    intro m hm
    obtain ⟨x, -, rfl⟩ := List.mem_map.1 hm
    rfl

theorem State.beaconFrame_sends (t1 : Stamp) (kids : List (Nat × Peer)) :
    (s.beaconFrame t1 kids).why = .beacon ∧ (s.beaconFrame t1 kids).nb = true := ⟨rfl, rfl⟩

/-- The own beacon, with its t1, waits for the transmitter. -/
theorem State.sendBeacon_requests (h : s.now ≤ s.beaconStart) : ∃ f kid, f.why = .beacon ∧ f.nb = true ∧
    s.sendBeacon = ((s.reach s.beaconStart).request f).updLink (fun k =>
      { k with beaconAt := some (s.beaconStart + BitVec.ofNat 64 (nsTime (nbSymbolsNs true 64))), listed := kid }) := by
  obtain ⟨hwhy, hnb⟩ := (s.reach s.beaconStart).beaconFrame_sends
    (s.beaconStart + BitVec.ofNat 64 (nsTime (nbSymbolsNs true 64))) (s.reach s.beaconStart).childList
  exact ⟨_, _, hwhy, hnb, if_neg (BitVec.not_lt.2 h)⟩

end

/-! ### Frames that arrive -/

section
variable {s u t : State} {d : Delivered} {rest : List Delivered} {n k : Nat} {p : Peer}

/-- The frame in front is taken by the row of its type. -/
theorem State.takeFrame_front (hin : s.link.inbox = d :: rest) (hleg : d.legacy = false) (htyp : hfield d.hdr 7 4 = k) :
    s.takeFrame k = some (d, s.updLink (fun l => { l with inbox := rest })) := by
  unfold State.takeFrame
  rw [hin]
  exact if_pos (by rw [hleg, htyp]; simp)

theorem exec_beaconRx_front (hup : s.linkUp = true) (hin : s.link.inbox = d :: rest) (hleg : d.legacy = false)
    (htyp : hfield d.hdr 7 4 = 0) (hmac : flag (s.rg 0x2A 0x040) 1 = false) :
    exec .beaconRx s = .next ((s.updLink (fun l => { l with inbox := rest })).takeBeacon d) := by
  show execBeaconRx s = _
  simp only [execBeaconRx, State.takeFrame_front hin hleg htyp, hup, hmac, Bool.not_true, Bool.false_and,
    Bool.false_eq_true, if_false]

theorem exec_dataRx_front (hup : s.linkUp = true) (hin : s.link.inbox = d :: rest) (hleg : d.legacy = false)
    (htyp : hfield d.hdr 7 4 = 1) (hmark : d.mark ≠ .mapMiss) :
    exec .dataRx s = .next ((s.updLink (fun l => { l with inbox := rest })).takeData s d) := by
  show execDataRx s = _
  simp only [execDataRx, State.takeFrame_front hin hleg htyp, hup, hmark, Bool.not_true, Bool.false_eq_true, if_false]

theorem exec_mapsetRx_front (hup : s.linkUp = true) (hin : s.link.inbox = d :: rest) (hleg : d.legacy = false)
    (htyp : hfield d.hdr 7 4 = 3) (hmark : d.mark ≠ .mapMiss) :
    exec .mapsetRx s = .next ((s.updLink (fun l => { l with inbox := rest })).takeMapset s d) := by
  show execMapsetRx s = _
  simp only [execMapsetRx, State.takeFrame_front hin hleg htyp, hup, hmark, Bool.not_true, Bool.false_eq_true, if_false]

theorem exec_ackRx_front (hup : s.linkUp = true) (hin : s.link.inbox = d :: rest) (hleg : d.legacy = false)
    (htyp : hfield d.hdr 7 4 = 2) :
    exec .ackRx s = .next (if s.cribFree = true then (s.updLink (fun l => { l with inbox := rest })).takeAck d else s) := by
  show execAckRx s = _
  simp only [execAckRx, State.takeFrame_front hin hleg htyp, hup, Bool.not_true, Bool.false_eq_true, if_false]

/-! ### A parent's and a neighbour's beacons -/

/-- What a new judgement of the parent may change in the peers: their streaks. -/
def StreaksOnly (s t : State) : Prop :=
  t.link.inbox = s.link.inbox ∧
    ∀ n p, s.peer n = some p → ∃ q, t.peer n = some q ∧ q = { p with streak := q.streak }

theorem StreaksOnly.of_link (h : t.link = s.link) : StreaksOnly s t :=
  ⟨by rw [h], fun n p hp => ⟨p, (State.peer_of_link h n).trans hp, rfl⟩⟩

theorem StreaksOnly.trans (h : StreaksOnly s t) (g : StreaksOnly t u) : StreaksOnly s u := by
  refine ⟨g.1.trans h.1, fun n p hp => ?_⟩
  obtain ⟨q, hq, hqp⟩ := h.2 n p hp
  obtain ⟨r, hr, hrq⟩ := g.2 n q hq
  rw [hqp] at hrq
  exact ⟨r, hr, hrq⟩

theorem Tab.get_map {α : Type} {d : Nat → α} (f : α → α) (hd : ∀ k, f (d k) = d k) (t : Tab α) (k : Nat) :
    Tab.get d (t.map (fun e => (e.1, f e.2))) k = f (Tab.get d t k) := by
  induction t with
  | nil => exact (hd k).symm
  | cons e t ih =>
    obtain ⟨j, v⟩ := e
    simp only [List.map_cons, Tab.get_cons]
    split
    · rfl
    · exact ih

theorem State.setParent_streaks (s : State) (m : Option Nat) : StreaksOnly s (s.setParent m) := by
  unfold State.setParent
  split
  · exact .of_link rfl
  · refine .trans ?_ (.of_link (State.refreshLink_same (l := []) _).link)
    refine .trans ?_ (.of_link (State.pulse_same (l := []) _ _ _).link)
    refine .trans ?_ (.of_link (State.evPulse_same (l := []) _ _ _).link)
    refine ⟨rfl, fun n p hp => ⟨{ p with streak := 0 }, ?_, rfl⟩⟩
    refine (Tab.get_map (Option.map (fun p : Peer => { p with streak := 0 })) (fun _ => rfl) s.link.peers n).trans ?_
    exact congrArg (Option.map (fun p : Peer => { p with streak := 0 })) hp

theorem State.parentBeacon_streaks (s : State) (n : Nat) (d : Delivered) (t1 : Stamp) : StreaksOnly s (s.parentBeacon n d t1) := by
  have htold : StreaksOnly s (((s.evPulse 0x2A 0).pulse 0xB0).updLink (fun l =>
      { l with offset := loWord (d.stamp - joinWords 0 (loWord t1)), heard := true })) := by
    refine .trans (.of_link (s.evPulse_same (l := []) 0x2A 0).link)
      (.trans (.of_link (State.pulse_same (l := []) _ 0xB0 none).link) ?_)
    exact ⟨rfl, fun n p hp => ⟨p, hp, rfl⟩⟩
  unfold State.parentBeacon
  dsimp only
  split
  · exact htold
  · exact htold.trans (.of_link rfl)

/-- An accepted beacon's place in the peer's entry (R395, R396). -/
def Peer.withBeacon (p : Peer) (d : Delivered) (child : Bool) : Peer :=
  let b8 := (d.payload.getD 8 0).toNat
  { p with
    t1 := some (BitVec.ofNat 64 (payField d.payload 0 8)), depth := b8 % 16, dstate := b8 / 16 % 4
    router := b8 / 64 % 2 == 1, cost := payField d.payload 10 2, beaconAt := d.stamp
    beacons := true :: p.beacons.drop 1, child := child }

theorem State.takeBeacon_of (hof : s.peerOf (hfield d.hdr 47 32) = some n) (hp : s.peer n = some p) (ht1 : p.t1 = none)
    (hmark : d.mark = .ok) (hkids : (d.payload.getD 9 0).toNat ≤ 4)
    (hlen : d.payload.length = 20 + 6 * (d.payload.getD 9 0).toNat) (hmac : flag (s.rg 0x2A 0x040) 1 = false) :
    ∃ (child : Bool) (a b : State), a = (s.draw.2.acceptFrame n d).updPeer n (fun p => p.withBeacon d child) ∧
      (b = a ∨ b = a.judgeParent ∧ a.link.parent = none ∧ a.timeMaster = false) ∧
      s.takeBeacon d = (if b.link.parent = some n then b.parentBeacon n d (BitVec.ofNat 64 (payField d.payload 0 8))
        else b).refreshLink := by
  let child := (d.payload.getD 8 0).toNat % 16 == s.draw.2.depthCost.1 + 1 && flag s.draw.1 0
  let a := (s.draw.2.acceptFrame n d).updPeer n (fun p => p.withBeacon d child)
  refine ⟨child, a, if a.link.parent.isNone && !a.timeMaster then a.judgeParent else a, rfl, ?_, ?_⟩
  rotate_left
  · unfold State.takeBeacon
    simp only [hof, hp, hmark, hlen, hmac, ht1, Bool.false_and, Bool.false_eq_true, if_false, bne_self_eq_false,
      Bool.or_false, Bool.false_or, decide_eq_true_eq, if_neg (Nat.not_lt.2 hkids), gt_iff_lt]
    rfl
  · split
    · next h =>
      rw [Bool.and_eq_true, Option.isNone_iff_eq_none, Bool.not_eq_true'] at h
      exact .inr ⟨rfl, h⟩
    · exact .inl rfl

end

section
variable {s u t : State} {d : Delivered} {rest : List Delivered} {n k : Nat} {p : Peer}

/-- A beacon without a t1 before it is taken into its peer's entry. -/
theorem State.takeBeacon_takes (hof : s.peerOf (hfield d.hdr 47 32) = some n) (hp : s.peer n = some p) (ht1 : p.t1 = none)
    (hmark : d.mark = .ok) (hkids : (d.payload.getD 9 0).toNat ≤ 4)
    (hlen : d.payload.length = 20 + 6 * (d.payload.getD 9 0).toNat) (hmac : flag (s.rg 0x2A 0x040) 1 = false) :
    SameBut [.link, .time] s (s.takeBeacon d) ∧ (s.takeBeacon d).link.inbox = s.link.inbox ∧
    ∃ x, (s.takeBeacon d).peer n = some x ∧ x.t1 = some (BitVec.ofNat 64 (payField d.payload 0 8)) ∧
      x.depth = (d.payload.getD 8 0).toNat % 16 ∧ x.cost = payField d.payload 10 2 ∧ x.beaconAt = d.stamp ∧
      x.neigh = true := by
  obtain ⟨child, a, b, ha, hb, hbeacon⟩ := State.takeBeacon_of hof hp ht1 hmark hkids hlen hmac
  have hdrawn : s.draw.2.peer n = some p := hp
  have hentry := State.peer_updPeer (f := fun p => p.withBeacon d child) (State.peer_acceptFrame (d := d) hdrawn)
  rw [← ha] at hentry
  have hasame : SameBut [.link, .time] s a := by
    rw [ha]
    exact (s.draw_same.trans (State.acceptFrame_same _ _ _).mono).trans (State.updPeer_same _ _ _).mono
  have hain : a.link.inbox = s.link.inbox := by
    obtain ⟨ps, hps⟩ := s.draw.2.acceptFrame_link n d
    obtain ⟨qs, hqs⟩ := (s.draw.2.acceptFrame n d).updPeer_link n (fun p => p.withBeacon d child)
    rw [ha, hqs, hps]
    rfl
  have hbsame : SameBut [.link, .time] a b ∧ StreaksOnly a b := by
    obtain rfl | ⟨rfl, hnone, hslave⟩ := hb
    · exact ⟨.refl _, .of_link rfl⟩
    · refine ⟨a.judgeParent_same.mono, ?_⟩
      unfold State.judgeParent
      rw [hnone]
      simp only [hslave, Bool.false_eq_true, if_false]
      exact a.setParent_streaks _
  have hlast : SameBut [.link, .time] b (s.takeBeacon d) ∧ StreaksOnly b (s.takeBeacon d) := by
    rw [hbeacon]
    have hfresh (x : State) : StreaksOnly x x.refreshLink := .of_link (State.refreshLink_same (l := []) x).link
    split
    · exact ⟨(b.parentBeacon_same n d _).trans (State.refreshLink_same _), (b.parentBeacon_streaks n d _).trans (hfresh _)⟩
    · exact ⟨State.refreshLink_same _, hfresh _⟩
  have hall := hbsame.2.trans hlast.2
  obtain ⟨x, hx, hkept⟩ := hall.2 n _ hentry
  refine ⟨(hasame.trans hbsame.1).trans hlast.1, hall.1.trans hain, x, hx, ?_⟩
  rw [hkept]
  exact ⟨rfl, rfl, rfl, rfl, rfl⟩

/-! ### Frames under a key -/

theorem State.secured_none (s u : State) (d : Delivered) (eff : Nat → Peer → Opened → State → State)
    (h : u.peerOf (hfield d.hdr 47 32) = none) : u.secured s d eff = u.stranger (hfield d.hdr 47 32) 1 d := by
  unfold State.secured
  simp only [h]

/-- A frame of a peer that opens is judged by its counter (R404). -/
theorem State.secured_opened {o : Opened} (eff : Nat → Peer → Opened → State → State)
    (hof : u.peerOf (hfield d.hdr 47 32) = some n) (hp : u.peer n = some p) (hmark : d.mark = .ok)
    (hto : hfield d.hdr 63 48 = u.station) (hcrib : u.cribFree = true) (hopen : u.openFrame d p = some o) :
    u.secured s d eff =
      match ctrCase p o with
      | .duplicate =>
        match p.lastAck with
        | some (hold, noroute) => (u.updRg 0x2A 0x084 (fun w => satField w 31 16 1)).ackFor n d o hold noroute
        | none => u.updRg 0x2A 0x084 (fun w => satField w 31 16 1)
      | .replay =>
        (u.updPeer n (fun p => { p with replay := sat8 p.replay })).updRg 0x2A 0x090 (fun w => satField w 15 0 1)
      | .fresh =>
        eff n p o ((u.acceptFrame n d).updPeer n (fun p =>
          { p with rxctr := o.ctr, lastFrag := some (o.orig, o.seq, o.frag), lastAck := none })) := by
  unfold State.secured
  simp only [hof, hp, hmark, hto, hcrib, hopen, bne_self_eq_false, Bool.or_false, Bool.not_true, Bool.false_eq_true,
    if_false] <;> rfl

/-- What an accepted frame of a peer leaves: its counter and its place among the neighbours. -/
structure FrameTaken (u t : State) (n : Nat) (c : Word) : Prop where
  same : SameBut [.link] u t
  acks : t.link.acks = u.link.acks
  peer : ∃ x, t.peer n = some x ∧ x.rxctr = c

theorem State.frameTaken {o : Opened} (hp : u.peer n = some p) :
    FrameTaken u ((u.acceptFrame n d).updPeer n (fun p =>
      { p with rxctr := o.ctr, lastFrag := some (o.orig, o.seq, o.frag), lastAck := none })) n o.ctr := by
  obtain ⟨ps, hps⟩ := u.acceptFrame_link n d
  obtain ⟨qs, hqs⟩ := (u.acceptFrame n d).updPeer_link n (fun p =>
    { p with rxctr := o.ctr, lastFrag := some (o.orig, o.seq, o.frag), lastAck := none })
  refine ⟨(u.acceptFrame_same n d).trans (State.updPeer_same _ _ _), ?_, _, State.peer_updPeer (State.peer_acceptFrame hp), rfl⟩
  rw [hqs, hps]

theorem FrameTaken.learn {c : Word} (h : FrameTaken u t n c) (orig : Nat) : FrameTaken u (t.learn n p orig) n c := by
  refine ⟨h.same.trans (t.learn_same n p orig), ?_, ?_⟩
  all_goals unfold State.learn
  all_goals split
  · exact h.acks
  · exact h.acks
  · exact h.peer
  · exact h.peer

/-! ### Delivery -/

/-- t is s with the peers' ACKs a behind those that waited; the entry of peer n keeps its counter. -/
structure AckAdded (s t : State) (n : Nat) (c : Word) : Prop where
  same : SameBut [.link, .queues, .svc, .gran] s t
  acks : ∃ a, t.link.acks = s.link.acks ++ [a] ∧ a.peer = n ∧ a.ctr = c
  peer : ∀ x, s.peer n = some x → ∃ y, t.peer n = some y ∧ y.rxctr = x.rxctr

theorem State.ackFor_added (hp : s.peer n = some p) (o : Opened) (hold noroute : Bool) :
    AckAdded s (s.ackFor n d o hold noroute) n o.ctr := by
  obtain ⟨a, hacks, hpeer, hctr, hentry⟩ := State.ackFor_due (d := d) hp o hold noroute
  refine ⟨(s.ackFor_same n d o hold noroute).mono, ⟨a, hacks, hpeer, hctr⟩, fun x hx => ⟨_, hentry, ?_⟩⟩
  obtain rfl := Option.some.inj (hp.symm.trans hx)
  rfl

/-- What keeps peers and ACKs may come before and behind an ACK. -/
structure AcksKept (s t : State) : Prop where
  same : SameBut [.link, .queues, .svc, .gran] s t
  acks : t.link.acks = s.link.acks
  peers : t.link.peers = s.link.peers

theorem AcksKept.peer (h : AcksKept s t) (n : Nat) : t.peer n = s.peer n := by
  unfold State.peer
  rw [h.peers]

theorem AcksKept.refl (s : State) : AcksKept s s := ⟨.refl s, rfl, rfl⟩

theorem AcksKept.trans (h : AcksKept s t) (g : AcksKept t u) : AcksKept s u :=
  ⟨h.same.trans g.same, g.acks.trans h.acks, g.peers.trans h.peers⟩

theorem AcksKept.of_same (h : SameBut [.queues, .svc, .gran] s t) : AcksKept s t :=
  ⟨h.mono, by rw [h.link], by rw [h.link]⟩

theorem AcksKept.upd {f : Link → Link} (ha : ∀ l, (f l).acks = l.acks) (hp : ∀ l, (f l).peers = l.peers) :
    AcksKept s (s.updLink f) := ⟨(s.updLink_same f).mono, ha _, hp _⟩

theorem AckAdded.after {c : Word} (h : AcksKept s t) (g : AckAdded t u n c) : AckAdded s u n c := by
  obtain ⟨a, ha⟩ := g.acks
  refine ⟨h.same.trans g.same, ⟨a, ?_⟩, fun x hx => g.peer x ((h.peer n).trans hx)⟩
  rwa [h.acks] at ha

theorem AckAdded.before {c : Word} (h : AckAdded s t n c) (g : AcksKept t u) : AckAdded s u n c := by
  obtain ⟨a, ha⟩ := h.acks
  refine ⟨h.same.trans g.same, ⟨a, ?_⟩, fun x hx => ?_⟩
  · rwa [g.acks]
  · rw [g.peer]
    exact h.peer x hx

theorem State.pushPackets_acks (s : State) (ps : List (List Word)) : AcksKept s (s.pushPackets ps) := by
  obtain ⟨left, hleft⟩ := s.pushPackets_link ps
  exact ⟨(s.pushPackets_same ps).mono, by rw [hleft], by rw [hleft]⟩

theorem State.placeBody_acks (s : State) (buf orig hops : Nat) (legacy : Bool) (body : List Byte) (stamp : Stamp) :
    AcksKept s (s.placeBody buf orig hops legacy body stamp) := by
  have hbuf (x : State) (b : Nat) : AcksKept x (x.updLink (fun l => { l with bufs := l.bufs ++ [b] })) :=
    .upd (fun _ => rfl) (fun _ => rfl)
  have hpacket (x : State) (ws : List Word) : AcksKept x (x.updLink (fun l => { l with packets := l.packets ++ [ws] })) :=
    .upd (fun _ => rfl) (fun _ => rfl)
  have hfresh (x : State) : AcksKept x x.refreshLink := .of_same (State.refreshLink_same x)
  have hmend (stay : Nat → Bool) : AcksKept s (s.mendWords stay) := .of_same (.set_gran s)
  unfold State.placeBody
  dsimp only
  refine .trans ?_ (hfresh _)
  split
  · exact (((hmend _).trans (.of_same (State.setSramBytes_same _ _ body).mono)).trans
      ((hbuf _ buf).trans (hpacket _ _))).trans (State.pushPackets_acks _ _)
  · exact ((hmend _).trans (.of_same (State.setSramBytes_same _ _ body).mono)).trans ((hbuf _ buf).trans (hpacket _ _))

/-- Every fragment for this station is acknowledged, taken or held back (R405, R407). -/
theorem State.reassemble_acks (hp : s.peer n = some p) (o : Opened) : AckAdded s (s.reassemble n d o) n o.ctr := by
  have hnow (hold : Bool) : AckAdded s (s.ackFor n d o hold false) n o.ctr := State.ackFor_added hp o hold false
  have hafter {x : State} (h : AcksKept s x) : AckAdded s (x.ackFor n d o false false) n o.ctr :=
    .after h (State.ackFor_added ((h.peer n).trans hp) o false false)
  have hfresh (x : State) : AcksKept x x.refreshLink := .of_same (State.refreshLink_same x)
  unfold State.reassemble
  dsimp only
  split
  · exact hnow false
  split
  · split
    · exact hnow true
    · refine (hafter (.upd ?_ ?_)).before (hfresh _)
      all_goals exact fun _ => rfl
  split
  · refine (hafter (.trans (.upd ?_ ?_) (.upd ?_ ?_))).before (hfresh _)
    all_goals exact fun _ => rfl
  split
  · exact hnow true
  · refine (hafter (.upd ?_ ?_)).before (State.placeBody_acks _ _ _ _ _ _ _)
    all_goals exact fun _ => rfl

end

/-! ### What frames of data, maps and acknowledgements do -/

section
variable {s u t : State} {d : Delivered} {rest : List Delivered} {n : Nat} {p : Peer} {o : Opened}

theorem FrameTaken.station {c : Word} (h : FrameTaken u t n c) : t.station = u.station := by
  unfold State.station State.optLive
  rw [h.same.opt]

/-- A fresh frame for this station is acknowledged and counted (R404, R405). -/
theorem State.takeData_final (hof : u.peerOf (hfield d.hdr 47 32) = some n) (hp : u.peer n = some p)
    (hmark : d.mark = .ok) (hto : hfield d.hdr 63 48 = u.station) (hcrib : u.cribFree = true)
    (hopen : u.openFrame d p = some o) (hfresh : ctrCase p o = .fresh) (hfinal : o.final = u.station) :
    SameBut [.link, .queues, .svc, .gran] u (u.takeData s d) ∧
    ∃ a x, (u.takeData s d).link.acks = u.link.acks ++ [a] ∧ a.peer = n ∧ a.ctr = o.ctr ∧
      (u.takeData s d).peer n = some x ∧ x.rxctr = o.ctr := by
  obtain ⟨t, ht, htaken⟩ : ∃ t, ((u.acceptFrame n d).updPeer n (fun p =>
      { p with rxctr := o.ctr, lastFrag := some (o.orig, o.seq, o.frag), lastAck := none })).learn n p o.orig = t ∧
      FrameTaken u t n o.ctr := ⟨_, rfl, (State.frameTaken hp).learn _⟩
  have hdata : u.takeData s d = t.reassemble n d o := by
    unfold State.takeData
    rw [State.secured_opened _ hof hp hmark hto hcrib hopen]
    simp only [hfresh]
    rw [ht]
    exact if_pos (hfinal.trans htaken.station.symm)
  obtain ⟨x, hx, hctr⟩ := htaken.peer
  have hadded := t.reassemble_acks (d := d) hx o
  obtain ⟨a, hacks, hpeer, hactr⟩ := hadded.acks
  obtain ⟨y, hy, hrx⟩ := hadded.peer x hx
  rw [hdata]
  rw [htaken.acks] at hacks
  exact ⟨htaken.same.mono.trans hadded.same, a, y, hacks, hpeer, hactr, hy, hrx.trans hctr⟩

theorem Peer.map_withMap (p : Peer) (k : Nat) (b : BitMap) : (p.withMap k b).map k = some b := by
  unfold Peer.map Peer.withMap
  split
  · rfl
  · rfl

/-- A proposed map is installed, and acknowledged (R412). -/
theorem State.takeMapset_installs {b : BitMap} (hof : u.peerOf (hfield d.hdr 47 32) = some n) (hp : u.peer n = some p)
    (hmark : d.mark = .ok) (hto : hfield d.hdr 63 48 = u.station) (hcrib : u.cribFree = true)
    (hopen : u.openFrame d p = some o) (hfresh : ctrCase p o = .fresh) (hlen : o.body.length = 40)
    (hk : (o.body.getD 0 0).toNat = u.outMap p)
    (hb : b = { gen := (o.body.getD 1 0).toNat % 16, rate := (o.body.getD 2 0).toNat % 4, codes := mapCodes (o.body.drop 4) })
    (hvalid : mapValid b.codes = true) :
    SameBut [.link] u (u.takeMapset s d) ∧
    ∃ a x, (u.takeMapset s d).link.acks = u.link.acks ++ [a] ∧ a.peer = n ∧ (u.takeMapset s d).peer n = some x ∧
      x.map (u.outMap p) = some b ∧ x.fallback = false := by
  obtain ⟨t, ht, htaken⟩ : ∃ t, ((u.acceptFrame n d).updPeer n (fun p =>
      { p with rxctr := o.ctr, lastFrag := some (o.orig, o.seq, o.frag), lastAck := none })) = t ∧
      FrameTaken u t n o.ctr := ⟨_, rfl, State.frameTaken hp⟩
  have hout : (o.body.getD 0 0).toNat = t.outMap p := by
    rw [hk]
    unfold State.outMap
    rw [htaken.station]
  obtain ⟨v, hv, hsame, hacks, hentry⟩ : ∃ v : State, (t.installMap n (u.outMap p) b).updPeer n (fun p =>
      { p with fallback := false }) = v ∧ SameBut [.link] t v ∧ v.link.acks = t.link.acks ∧
      ∀ x, t.peer n = some x → v.peer n = some { x.withMap (u.outMap p) b with fallback := false } := by
    refine ⟨_, rfl, ((t.updPeer_same n _).trans (State.evPulse_same _ _ _)).trans (State.updPeer_same _ _ _), ?_, ?_⟩
    · obtain ⟨qs, hqs⟩ := (t.installMap n (u.outMap p) b).updPeer_link n (fun p => { p with fallback := false })
      have hinst := ((t.updPeer n (fun q => q.withMap (u.outMap p) b)).evPulse_same (l := []) 0x2B 1).link
      obtain ⟨rs, hrs⟩ := t.updPeer_link n (fun q => q.withMap (u.outMap p) b)
      rw [hqs]
      exact (congrArg Link.acks (hinst.trans hrs) :)
    · intro x hx
      refine State.peer_updPeer (p := x.withMap (u.outMap p) b) ?_
      refine (State.peer_of_link ((t.updPeer n (fun q => q.withMap (u.outMap p) b)).evPulse_same (l := []) 0x2B 1).link n).trans ?_
      exact State.peer_updPeer hx
  have hmap : u.takeMapset s d = v.ackFor n d o false false := by
    unfold State.takeMapset
    rw [State.secured_opened _ hof hp hmark hto hcrib hopen]
    simp only [hfresh]
    rw [ht]
    refine (if_neg ?_).trans ?_
    · rw [hb] at hvalid
      simp [hlen, ← hout, hvalid]
    · rw [← hv, hk, hb]
  obtain ⟨x, hx, -⟩ := htaken.peer
  obtain ⟨a, ha, hpeer, -, hlast⟩ := State.ackFor_due (d := d) (hentry x hx) o false false
  rw [hmap]
  refine ⟨(htaken.same.trans hsame).trans (v.ackFor_same n d o false false), a, _, ?_, hpeer, hlast, ?_, rfl⟩
  · rw [ha, hacks, htaken.acks]
  · exact x.map_withMap (u.outMap p) b

theorem getLsbD_of_and_three (x : Byte) (h : x &&& 3 = 0) : x.getLsbD 0 = false ∧ x.getLsbD 1 = false := by
  have h0 := congrArg (fun y : Byte => y.getLsbD 0) h
  have h1 := congrArg (fun y : Byte => y.getLsbD 1) h
  simpa using And.intro h0 h1

/-- An ACK without HOLD or NOROUTE, within its window and under the peer's key, moves its message on (R405, R406). -/
theorem State.takeAck_advances {w : AckWait} {key : List Byte} {x : Msg}
    (hof : u.peerOf (hfield d.hdr 47 32) = some n) (hp : u.peer n = some p) (hw : u.link.wait = some w)
    (hmark : d.mark = .ok) (hto : hfield d.hdr 63 48 = u.station) (hwp : w.peer = n) (hlen : d.payload.length = 16)
    (hctr : payField d.payload 4 4 = w.ctr.toNat) (hdue : d.ended ≤ w.due) (hkey : u.peerKey p = some key)
    (hmic : ccmTag 8 key (u.frameNonce (hfield d.hdr 47 32) u.station w.ctr.toNat 2)
      (headerBytes d.hdr ++ d.payload.take 8) [] = d.payload.drop 8)
    (hx : u.link.msgs.find? (fun m => m.id == w.id) = some x) (hflags : (d.payload.getD 2 0) &&& 3 = 0)
    (hkind : ∀ tg, x.kind ≠ .mapset tg) :
    u.takeAck d = ((u.acceptFrame n d).updLink (fun l => { l with wait := none })).advanceMsg x := by
  have hdue' : ¬ d.ended > w.due := BitVec.not_lt.2 hdue
  obtain ⟨ps, hps⟩ := u.acceptFrame_link n d
  have hfind : ((u.acceptFrame n d).updLink (fun l => { l with wait := none })).link.msgs.find? (fun m => m.id == w.id) =
      some x := by
    show (u.acceptFrame n d).link.msgs.find? _ = _
    rw [hps]
    exact hx
  obtain ⟨hhold, hroute⟩ := getLsbD_of_and_three _ hflags
  unfold State.takeAck
  simp only [hof, hp, hw, hmark, hto, hwp, hlen, hctr, hdue', hkey, hmic, hfind, hhold, hroute, bne_self_eq_false,
    decide_false, Bool.or_false, Bool.false_eq_true, if_false]

end

/-! ### Waiting for the channel, and for acknowledgements -/

section
variable {s : State} {p : Peer}

/-- A message whose frame fits the superframe is sent when its backoff is over (R400). -/
theorem State.backoffDone_requests {m : Msg} {v w : State} {b : Nat} {f : TxFrame} {t : Stamp} (hm : s.nextMsg = some m)
    (hp : s.peer m.hop = some p) (hleg : p.legacy = false) (hcrib : s.cribFree = true) (hdraw : s.drawBackoff m = (v, b))
    (hframe : v.frameOf m p = .ok (w, f))
    (ht : t = v.after (nsTime (v.listenNs + b * tsNs (field (s.rg 0x2A 0x048) 2 0))))
    (hfit : t + BitVec.ofNat 64 (nsTime (f.ns + (10 * tsNs (field (s.rg 0x2A 0x048) 2 0) + 1500000))) ≤
      s.link.frame + BitVec.ofNat 64 (msTime 995)) :
    s.backoffDone = ((w.reach t).updLink (fun l => { l with backoff := none })).request f := by
  unfold State.backoffDone
  simp only [hm, hp, hleg, hcrib, hdraw, hframe, Bool.not_true, Bool.and_false, Bool.false_eq_true, if_false, ← ht]
  exact if_neg (BitVec.not_lt.2 hfit)

/-- A failed attempt that leaves attempts is counted; the message waits for its next (R406). -/
theorem State.attemptFailed_again {w : AckWait} {m : Msg} (hm : s.link.msgs.find? (fun x => x.id == w.id) = some m)
    (hmap : w.mapped = false) (hleft : m.attempts + 1 < 1 + field (s.rg 0x2A 0x040) 14 12) :
    s.attemptFailed w = (s.updMsg m.id (fun _ => { m with attempts := m.attempts + 1, mapFails := 0 })).updRg 0x2A 0x080
      (fun x => satField x 31 16 1) := by
  unfold State.attemptFailed
  simp only [hm, hmap, Bool.false_and, Bool.false_eq_true, if_false]
  exact if_neg (Nat.not_le.2 hleft)

end

section
variable {s : State}

theorem exec_beaconTx_of {f : TxFrame} {kid : Nat} {at1 : Stamp} (hmay : s.mayBeacon = true)
    (hsend : s.sendBeacon = ((s.reach s.beaconStart).request f).updLink (fun k =>
      { k with beaconAt := some at1, listed := kid })) :
    ∃ t, exec .beaconTx s = .next t ∧ t.phy.request = some f ∧ t.link.beaconAt = some at1 ∧ t.own = s.own ∧
      t.gran = s.gran := by
  have h1 := s.reach_same s.beaconStart
  obtain ⟨s1, hs1⟩ : ∃ s1, s.reach s.beaconStart = s1 := ⟨_, rfl⟩
  rw [hs1] at h1 hsend
  have hexec : exec .beaconTx s = .next s.sendBeacon := congrArg Host.Outcome.next (if_pos hmay)
  rw [hsend] at hexec
  exact ⟨_, hexec, rfl, rfl, h1.own, h1.gran⟩

theorem exec_beaconTx_sends (hmay : s.mayBeacon = true) (hnow : s.now ≤ s.beaconStart) :
    ∃ t f, exec .beaconTx s = .next t ∧ t.phy.request = some f ∧ f.why = .beacon ∧ f.nb = true ∧
      t.link.beaconAt = some (s.beaconStart + BitVec.ofNat 64 (nsTime (nbSymbolsNs true 64))) ∧ t.own = s.own ∧
      t.gran = s.gran := by
  obtain ⟨f, kid, hwhy, hnb, hsend⟩ := s.sendBeacon_requests hnow
  obtain ⟨t, ht, hreq, hat, hown, hgran⟩ := exec_beaconTx_of hmay hsend
  exact ⟨t, f, ht, hreq, hwhy, hnb, hat, hown, hgran⟩

theorem exec_reassemblyTimeout_front {r : Reasm} {l : List Reasm} (hr : s.link.reasm = r :: l) :
    exec .reassemblyTimeout s =
      .next ((((s.reach (r.first + BitVec.ofNat 64 (secTime (field (s.rg 0x2A 0x054) 7 0)))).updLink (fun x =>
        { x with reasm := l })).updRg 0x2A 0x088 (fun w => satField w 31 16 1)).refreshLink) := by
  show execReassemblyTimeout s = _
  unfold execReassemblyTimeout
  rw [hr]

theorem execDownEntryLapse_some {e : DownEntry} (he : s.link.down.getLast? = some e) :
    execDownEntryLapse s =
      .next ((s.reach (e.learned + BitVec.ofNat 64 (secTime 600))).updLink (fun x => { x with down := x.down.dropLast })) := by
  unfold execDownEntryLapse
  rw [he]

theorem State.dropDown_reach {l : List DownEntry} (h : s.link.down.dropLast = l) (due : Stamp) :
    (s.reach due).updLink (fun x => { x with down := x.down.dropLast }) =
      (s.reach due).updLink (fun x => { x with down := l }) := by
  subst h
  rfl

theorem exec_downEntryLapse (s : State) : exec .downEntryLapse s = execDownEntryLapse s := rfl

theorem exec_downEntryLapse_last {l : List DownEntry} {e : DownEntry} (he : s.link.down = l ++ [e]) :
    exec .downEntryLapse s =
      .next ((s.reach (e.learned + BitVec.ofNat 64 (secTime 600))).updLink (fun x => { x with down := l })) := by
  have hlast : s.link.down.getLast? = some e := by rw [he, List.getLast?_concat]
  have hdrop : s.link.down.dropLast = l := by rw [he, List.dropLast_concat]
  exact (exec_downEntryLapse s).trans ((execDownEntryLapse_some hlast).trans
    (congrArg Host.Outcome.next (State.dropDown_reach hdrop _)))

theorem exec_neighLost_first {n : Nat} {x : Peer}
    (hx : s.peerList.find? (fun e => e.2.neigh && decide (3 ≤ e.2.age)) = some (n, x)) :
    exec .neighLost s = .next ((s.updPeer n (fun q => { q with neigh := false })).evPulse 0x2B 2) := by
  have hfar : (fun e : Nat × Peer => e.2.neigh && !e.2.near) = fun e => e.2.neigh && decide (3 ≤ e.2.age) := by
    funext e
    cases hn : e.2.neigh
    · rfl
    · simp only [Peer.near, hn, Bool.true_and, ← decide_not, Nat.not_lt]
  show execNeighLost s = _
  simp only [execNeighLost, hfar, hx]

end

/-- Settles O50: each row of the link on the air, by what its shared operation does. -/
theorem linkOnTheAir : Obligations.LinkOnTheAir := by
  unfold Obligations.LinkOnTheAir
  intro s u d rest n p hu
  refine ⟨fun hup => ?_, fun hup => ?_, fun hup hbeacons => ?_, fun hmay hnow => ?_, fun hmay => ?_, fun hup hin hleg => ?_,
    fun hup hin hleg => ?_, fun hin => ?_, ?_, fun hmay => ?_, fun c v htalk hdata hnext hrx hv => ?_, ?_, ?_, fun hacks => ?_,
    ?_, fun hw => ?_, ?_, ?_, ?_, fun hmsgs => ?_, ?_, ?_⟩
  -- the link is down
  · have hdown : ∀ t : State, (if s.linkUp = true then t else s) = s := fun t => if_neg (by rw [hup]; decide)
    refine ⟨?_, ?_, ?_, ?_, ?_, ?_, ?_⟩
    · exact congrArg Host.Outcome.next (hdown _)
    · show execDataPeriodStart s = _
      simp only [execDataPeriodStart, hup, Bool.false_and, Bool.false_eq_true, if_false]
    · show execBeaconRx s = _
      simp only [execBeaconRx, hup, Bool.not_false, if_true]
    · show execDataRx s = _
      simp only [execDataRx, hup, Bool.not_false, if_true]
    · show execAckRx s = _
      simp only [execAckRx, hup, Bool.not_false, if_true]
    · show execMapsetRx s = _
      simp only [execMapsetRx, hup, Bool.not_false, if_true]
    · show execAutomapPeriod s = _
      simp only [execAutomapPeriod, hup, Bool.false_and, Bool.false_eq_true, if_false]
  -- SUPERFRAME
  · obtain ⟨hsame, hclosed, hno⟩ := s.startFrame_opens
    exact ⟨_, congrArg Host.Outcome.next (if_pos hup), hclosed, hno, hsame.own, hsame.flash⟩
  -- DATA_PERIOD_START
  · obtain ⟨hsame, hopen, hhold⟩ := s.openData_opens
    refine ⟨_, congrArg Host.Outcome.next (if_pos ?_), hopen, hhold, hsame.own, hsame.gran, hsame.flash⟩
    rw [hup, hbeacons]
    rfl
  -- BEACON_TX
  · exact exec_beaconTx_sends hmay hnow
  · exact congrArg Host.Outcome.next (if_neg (by rw [hmay]; decide))
  -- frames of this kind of radio
  · subst hu
    refine ⟨fun htyp hmac hof => ?_, fun htyp hmac hof hp ht1 hmark hkids hlen => ?_, fun htyp hmark hof => ?_,
      fun o hof hp hmark hto hcrib hopen => ⟨fun hold noroute htyp hdup hlast => ?_, fun htyp hdup hlast => ?_,
        fun htyp hfresh hfinal => ?_, fun b htyp hfresh hlen hk hb hvalid => ?_⟩,
      fun htyp hmark hof => ?_, fun htyp hcrib hof => ?_, fun htyp hcrib => ?_,
      fun w key x htyp hcrib hof hp hw hmark hto hwp hlen hctr hdue hkey hmic hx hflags hkind => ?_⟩
    · rw [exec_beaconRx_front hup hin hleg htyp hmac]
      simp only [State.takeBeacon, hof]
    · rw [exec_beaconRx_front hup hin hleg htyp hmac]
      obtain ⟨hsame, hinbox, x, hx, hentry⟩ := State.takeBeacon_takes hof hp ht1 hmark hkids hlen hmac
      obtain ⟨h1, hdepth, hcost, hat, hneigh⟩ := hentry
      exact ⟨_, x, rfl, hx, h1, hdepth, hcost, hat, hneigh, hinbox, hsame.own, hsame.gran⟩
    · rw [exec_dataRx_front hup hin hleg htyp hmark]
      exact congrArg Host.Outcome.next (State.secured_none _ _ _ _ hof)
    · rw [exec_dataRx_front hup hin hleg htyp (by rw [hmark]; decide)]
      refine congrArg Host.Outcome.next ((State.secured_opened _ hof hp hmark hto hcrib hopen).trans ?_)
      simp only [hdup, hlast]
    · rw [exec_dataRx_front hup hin hleg htyp (by rw [hmark]; decide)]
      refine congrArg Host.Outcome.next ((State.secured_opened _ hof hp hmark hto hcrib hopen).trans ?_)
      simp only [hdup, hlast]
    · rw [exec_dataRx_front hup hin hleg htyp (by rw [hmark]; decide)]
      obtain ⟨hsame, a, x, hacks, hpeer, hctr, hx, hrx⟩ := State.takeData_final (s := s) hof hp hmark hto hcrib hopen hfresh hfinal
      exact ⟨_, a, x, rfl, hacks, hpeer, hctr, hx, hrx, hsame.own, hsame.flash⟩
    · rw [exec_mapsetRx_front hup hin hleg htyp (by rw [hmark]; decide)]
      obtain ⟨hsame, a, x, hacks, hpeer, hx, hmap, hfall⟩ :=
        State.takeMapset_installs (s := s) hof hp hmark hto hcrib hopen hfresh hlen hk hb hvalid
      exact ⟨_, a, x, rfl, hacks, hpeer, hx, hmap, hfall, hsame.own, hsame.gran⟩
    · rw [exec_mapsetRx_front hup hin hleg htyp hmark]
      exact congrArg Host.Outcome.next (State.secured_none _ _ _ _ hof)
    · rw [exec_ackRx_front hup hin hleg htyp, if_pos hcrib]
      simp only [State.takeAck, hof]
    · rw [exec_ackRx_front hup hin hleg htyp]
      exact congrArg Host.Outcome.next (if_neg (by rw [hcrib]; decide))
    · rw [exec_ackRx_front hup hin hleg htyp, if_pos hcrib]
      exact congrArg Host.Outcome.next
        (State.takeAck_advances hof hp hw hmark hto hwp hlen hctr hdue hkey hmic hx hflags hkind)
  -- frames of TOR4200 peers
  · subst hu
    have hfront : exec .legacyFrameRx s = .next (if flag (s.rg 0x2A 0x040) 3 = true
        then (s.updLink (fun l => { l with inbox := rest })).takeLegacy d
        else s.updLink (fun l => { l with inbox := rest })) := by
      show execLegacyFrameRx s = _
      simp only [execLegacyFrameRx, hin, hup, hleg, Bool.and_self, if_true]
    refine ⟨fun hoff => ?_, fun hon hof => ?_⟩
    · rw [hfront]
      exact congrArg Host.Outcome.next (if_neg (by rw [hoff]; decide))
    · rw [hfront, if_pos hon]
      simp only [State.takeLegacy, hof, Option.bind_none]
  · show execLegacyFrameRx s = _
    simp only [execLegacyFrameRx, hin]
  -- LBT_BACKOFF_DONE
  · intro m v w b f t hmay hm hp hleg hcrib hdraw hframe ht hfit
    exact congrArg Host.Outcome.next ((if_pos hmay).trans
      (State.backoffDone_requests hm hp hleg hcrib hdraw hframe ht hfit))
  · exact congrArg Host.Outcome.next (if_neg (by rw [hmay]; decide))
  -- LBT_BUSY
  · subst hv
    have hopen : exec (.lbtBusy c) s = .next (if s.busyAt c.power.toInt = true then
        (if c.backoff = true then ((s.setRg 0x28 0x05C (BitVec.ofNat 32 c.power.toNat)).updLink (fun l =>
          { l with backoff := none })).updRg 0x2A 0x08C (fun w => satField w 15 0 1)
        else (s.setRg 0x28 0x05C (BitVec.ofNat 32 c.power.toNat)).updLink (fun l => { l with backoff := none })) else s) := by
      show execLbtBusy c s = _
      simp only [execLbtBusy, htalk, hdata, hnext, hrx, Bool.true_and]
    refine ⟨fun hloud => ?_, fun hquiet => ?_⟩
    · rw [hopen]
      exact congrArg Host.Outcome.next (if_pos (decide_eq_true hloud))
    · rw [hopen]
      exact congrArg Host.Outcome.next (if_neg (by simpa [State.busyAt] using hquiet))
  -- ACK_TX
  · intro a r hacks hup hlate
    show execAckTx s = _
    simp only [execAckTx, hacks, hup, hlate, decide_true, Bool.true_or, Bool.not_true, Bool.false_eq_true, if_false, if_true]
  · intro a r key hacks htalk hdue hreq htx hcrib hp hkey
    have hup : s.linkUp = true := by
      rw [State.mayTalk, Bool.and_eq_true] at htalk
      exact htalk.1
    have hfront : exec .ackTx s = .next (if s.inGuard a.due (s.ackFrame a p key).ns = true
        then s.updLink (fun l => { l with acks := r })
        else ((s.updLink (fun l => { l with acks := r })).reach a.due).request (s.ackFrame a p key)) := by
      show execAckTx s = _
      simp only [execAckTx, hacks, hup, htalk, BitVec.not_lt.2 hdue, hreq, htx, hcrib, hp, hkey, decide_false,
        Option.isSome_none, Bool.or_false, Bool.not_true, Bool.false_eq_true, if_false]
      rfl
    refine ⟨fun hguard => ?_, fun hguard => ?_⟩
    · rw [hfront, if_pos hguard]
    · have hsame := (s.updLink (fun l => { l with acks := r })).reach_same a.due
      refine ⟨_, _, hfront.trans (congrArg Host.Outcome.next (if_neg (by rw [hguard]; decide))), rfl, rfl, rfl, ?_, ?_⟩
      · exact hsame.own
      · exact hsame.gran
  · show execAckTx s = _
    simp only [execAckTx, hacks]
  -- ACK_WINDOW_EXPIRY
  · intro w m hw hm hmap hleft
    show execAckWindowExpiry s = _
    simp only [execAckWindowExpiry, hw]
    exact congrArg Host.Outcome.next (State.attemptFailed_again hm hmap hleft)
  · show execAckWindowExpiry s = _
    simp only [execAckWindowExpiry, hw]
  -- messages, fragments and routes that lapse
  · exact fun r l hr => exec_reassemblyTimeout_front hr
  · intro m hm
    show execRelayLifeExpiry s = _
    simp only [execRelayLifeExpiry, hm]
  · intro m hm
    show execSendLifeExpiry s = _
    simp only [execSendLifeExpiry, hm]
  · refine ⟨?_, ?_⟩
    · show execRelayLifeExpiry s = _
      simp only [execRelayLifeExpiry, hmsgs, List.find?_nil]
    · show execSendLifeExpiry s = _
      simp only [execSendLifeExpiry, hmsgs, List.find?_nil]
  · exact fun l e he => exec_downEntryLapse_last he
  · exact fun x hx => exec_neighLost_first hx

end Sys2Proof.Machine
end

section
/-!
PROOFS. The reader: an inventory with joint demodulation, in whose slot no tag of the list replies.
-/
namespace Sys2Proof.Machine

/-- Joint demodulation is on, and the engine runs an INVENTORY of one slot, slot 0's, with JOINT asked for. -/
def jointInventory : State :=
  { regs := [(ra 0x1B 0x004, 1), (ra 0x22 0x040, 1)]
    ops := { slots := [(0, { st := .running, page := 0x22, op := 3, args := [0x220000] })] }
    fld := { run := some { ants := 1 } } }

/-- A slot in which no tag is heard to collide, and one good reply is separated all the same. -/
def separatedSlot : List JointSlot := [{ tags := [], l1 := 1, l2 := 0, l3 := 0, corr := 0, good := [0] }]

/-- Refutes O48: with joint demodulation the replies of a slot are those the eigenvalues name, also where the list holds no
tag; an INVENTORY of an empty list then counts one tag, and its count is not 0. -/
theorem not_reader : ¬ Obligations.Reader := by
  unfold Obligations.Reader
  intro h
  obtain ⟨-, hrun, -⟩ := h jointInventory 0 _ { ants := 1 } rfl
  obtain ⟨-, -, -, -, hinv, -⟩ := hrun rfl rfl rfl (by decide +kernel)
  obtain ⟨⟨t, ht, -, hnone, -⟩, -⟩ := hinv separatedSlot (by decide +kernel)
  have hexec : exec (.inventory 0 [] separatedSlot) jointInventory =
      .next (jointInventory.inventoryEnd 0 (jointInventory.slot 0) { ants := 1 } [] separatedSlot) := by
    refine congrArg Host.Outcome.next ((if_pos ?_).trans (if_pos ?_))
    · decide +kernel
    · decide +kernel
  obtain rfl := Host.Outcome.next.inj (hexec.symm.trans ht)
  exact absurd hnone (by decide +kernel)

end Sys2Proof.Machine
end

section
/-!
PROOFS. The field front end: what the reader's transactions leave of the field as they end, and the field's registers as
it is brought up to date.
-/
namespace Sys2Proof.Machine

/-! ### Packed words -/

section
variable {lo width v j hi l : Nat} {rest : List (Nat × Nat × Nat)}

theorem flag_pack_cons (hj : j < 32) : flag (pack ((lo, width, v) :: rest)) j =
    ((decide (lo ≤ j) && decide (j - lo < width) && v.testBit (j - lo)) || flag (pack rest) j) := by
  unfold flag
  rw [pack, BitVec.getLsbD_or, BitVec.getLsbD_ofNat, Nat.testBit_shiftLeft, Nat.testBit_mod_two_pow]
  simp [hj, Bool.and_assoc]

theorem field_pack_skip (hhi : hi < 32) (hd : hi < l ∨ l + width ≤ lo) :
    field (pack ((l, width, v) :: rest)) hi lo = field (pack rest) hi lo := by
  refine field_congr fun j hlo hj => ?_
  rw [flag_pack_cons (by omega)]
  have hout : (decide (l ≤ j) && decide (j - l < width)) = false := by
    rw [Bool.and_eq_false_iff, decide_eq_false_iff_not, decide_eq_false_iff_not]
    omega
  rw [hout, Bool.false_and, Bool.false_or]

theorem field_pack_head (hw : 0 < width) (hhi : lo + width ≤ 32) (hrest : ∀ j, lo ≤ j → j < lo + width → flag (pack rest) j = false) :
    field (pack ((lo, width, v) :: rest)) (lo + width - 1) lo = v % 2 ^ width := by
  refine Nat.eq_of_testBit_eq fun i => ?_
  rw [testBit_field, Nat.testBit_mod_two_pow]
  by_cases hi : i < width
  · rw [flag_pack_cons (by omega), hrest _ (by omega) (by omega), Nat.add_sub_cancel_left]
    simp [hi, show i < lo + width - 1 + 1 - lo by omega]
  · simp [hi, show ¬ i < lo + width - 1 + 1 - lo by omega]

end

/-! ### What ends of transactions leave of the field -/

/-- t is s but for operations, contexts, sessions, tag values and the transactions of the reader. -/
structure FieldWork (s t : State) : Prop where
  same : SameBut [.ops, .gran, .fld] s t
  band : t.fld.band = s.fld.band
  coex : t.fld.coex = s.fld.coex
  coming : t.fld.coming = s.fld.coming
  supervised : t.fld.supervised = s.fld.supervised

section
variable {s t u : State}

theorem FieldWork.refl (s : State) : FieldWork s s := ⟨.refl s, rfl, rfl, rfl, rfl⟩

theorem FieldWork.trans (h : FieldWork s t) (g : FieldWork t u) : FieldWork s u :=
  ⟨h.same.trans g.same, g.band.trans h.band, g.coex.trans h.coex, g.coming.trans h.coming, g.supervised.trans h.supervised⟩

theorem FieldWork.ite {c : Prop} {_ : Decidable c} (ht : FieldWork s t) (hu : FieldWork s u) :
    FieldWork s (if c then t else u) := by
  split
  · exact ht
  · exact hu

theorem FieldWork.foldl {β : Type} {f : State → β → State} (hf : ∀ s b, FieldWork s (f s b)) (bs : List β)
    (s : State) : FieldWork s (bs.foldl f s) := by
  induction bs generalizing s with
  | nil => exact .refl s
  | cons b bs ih => exact (hf s b).trans (ih _)

/-- What does not touch the field is no work on it. -/
theorem SameBut.field (h : SameBut [.ops, .gran] s t) : FieldWork s t :=
  ⟨h.mono, by rw [h.fld], by rw [h.fld], by rw [h.fld], by rw [h.fld]⟩

theorem FieldWork.upd {f : FieldState → FieldState} (hband : ∀ x, (f x).band = x.band) (hcoex : ∀ x, (f x).coex = x.coex)
    (hcoming : ∀ x, (f x).coming = x.coming) (hsup : ∀ x, (f x).supervised = x.supervised) : FieldWork s (s.updFld f) :=
  ⟨(s.updFld_same f).mono, hband _, hcoex _, hcoming _, hsup _⟩

end

section
variable (s : State)

theorem State.putHeld_work (t : Nat) (h : TagHeld) : FieldWork s (s.putHeld t h) :=
  .upd (fun _ => rfl) (fun _ => rfl) (fun _ => rfl) (fun _ => rfl)

theorem State.tagResult_work (t : Nat) (c : Code) (v : Option (BitVec 24)) : FieldWork s (s.tagResult t c v) := by
  unfold State.tagResult
  dsimp only
  split
  · exact ((s.putHeld_work _ _).trans (SameBut.field (State.evPulse_same _ _ _))).trans (SameBut.field (State.pulse_same _ _ _))
  · exact ((s.putHeld_work _ _).trans (SameBut.field (State.evPulse_same _ _ _))).trans (SameBut.field (State.pulse_same _ _ _))

theorem State.breakSlot_work (tag : Nat) (c : Code) : FieldWork s (s.breakSlot tag c) := by
  have hset : FieldWork s (s.setResult tag c) := SameBut.field (s.setResult_same tag c)
  unfold State.breakSlot
  dsimp only
  refine .ite (hset.trans (SameBut.field (State.evPulse_same _ _ _)))
    (.ite ((hset.trans (SameBut.field (State.evPulse_same _ _ _))).trans (SameBut.field (State.pulse_same _ _ _)))
      (.ite (hset.trans (State.tagResult_work _ _ _ _)) (.ite ?_ hset)))
  split
  · exact hset.trans (State.tagResult_work _ _ _ _)
  · exact hset

theorem State.endRun_work : FieldWork s s.endRun := by
  unfold State.endRun
  dsimp only
  have hupd (x : State) : FieldWork x (x.updFld (fun f => { f with run := f.paused, paused := none })) :=
    .upd (fun _ => rfl) (fun _ => rfl) (fun _ => rfl) (fun _ => rfl)
  split
  · exact (SameBut.field ((s.ctxFree_same _).mono)).trans (hupd _)
  · exact hupd s

theorem State.breakRun_work (c : Code) : FieldWork s (s.breakRun c) := by
  unfold State.breakRun
  split
  · exact .refl s
  · exact (s.breakSlot_work _ c).trans (State.endRun_work _)

theorem State.failPorts_work (p : Nat → Bool) : FieldWork s (s.failPorts p) := by
  have h1 : FieldWork s (match s.fld.paused with
      | some r =>
        if (portsOf r.ants.toNat).any p then
          (s.breakSlot r.tag.toNat .medium).updFld (fun f => { f with paused := none })
        else s
      | none => s) := by
    split
    · exact .ite ((s.breakSlot_work _ _).trans (.upd (fun _ => rfl) (fun _ => rfl) (fun _ => rfl) (fun _ => rfl))) (.refl s)
    · exact .refl s
  unfold State.failPorts
  dsimp only
  split
  · exact .ite (h1.trans (State.breakRun_work _ _)) h1
  · exact h1

theorem State.loseSession_work (h : Nat) : FieldWork s (s.loseSession h) := by
  unfold State.loseSession
  split
  · exact .refl s
  · rename_i x _
    have hfree : FieldWork s (s.ctxFree x.ctx) := SameBut.field (s.ctxFree_same x.ctx).mono
    have hput : FieldWork (s.ctxFree x.ctx) ((s.ctxFree x.ctx).putSession h none) :=
      .upd (fun _ => rfl) (fun _ => rfl) (fun _ => rfl) (fun _ => rfl)
    have h2 := (hfree.trans hput).trans (SameBut.field (((State.updRg_same _ 0x22 0x04C
      (fun w => satField w 31 24 1)).trans (State.evPulse_same _ 0x22 1)).trans (State.pulse_same _ 0xAC none)))
    dsimp only
    split
    · exact .ite (h2.trans (State.breakRun_work _ _)) h2
    · exact h2

theorem State.loseStopped_work : FieldWork s s.loseStopped := by
  refine .foldl (fun t h => ?_) _ s
  split
  · exact .ite (t.loseSession_work h) (.refl t)
  · exact .refl t

theorem State.updStat_same {l : List Part} (n : Nat) (f : Word → Word) : SameBut l s (s.updStat n f) := s.updRg_same _ _ _

theorem State.refreshField_work : FieldWork s s.refreshField := by
  have hstat (x : State) (n : Nat) (f : Word → Word) : FieldWork x (x.updStat n f) := SameBut.field (x.updStat_same n f)
  have hsampled (x : State) : FieldWork x (x.updFld (fun f => { f with sampled := 0xFF })) :=
    .upd (fun _ => rfl) (fun _ => rfl) (fun _ => rfl) (fun _ => rfl)
  unfold State.refreshField
  dsimp only
  refine .trans ?_ (SameBut.field (State.fieldLevels_same _))
  refine .trans ?_ (SameBut.field (State.updRg_same _ _ _ _))
  have hfold (f : Nat → Word → Word) : FieldWork s ((List.range 8).foldl (fun t n => t.updStat n (f n)) s.loseStopped) :=
    s.loseStopped_work.trans (.foldl (fun t n => hstat t n (f n)) _ _)
  exact .ite ((hfold _).trans (hsampled _)) (hfold _)

end

/-! ### The field's registers as it is brought up to date -/

section
variable (s : State)

theorem State.updStat_other (n q o : Nat) (f : Word → Word) (hn : n < 8) (ho : Quiet o) (h : ¬ (q = 0x21 ∧ o = 0x044 + 0x20 * n)) :
    (s.updStat n f).rg q o = s.rg q o :=
  State.rg_setRg_other (fun e => h ((ra_inj ho.1 (by omega)).1 e))

/-- BUSY, LIMITED, CARRIER and ATT_APPL of a port, in its state word. -/
def State.statWord (s : State) (m : Nat) (w : Word) : Word :=
  setField (setFlag (setFlag (setFlag w 4 (s.inRun m || (s.holder m).isSome)) 5
    (decide (s.attApplied s.limitSteps m > s.portAtt m))) 12 (s.carrierOn m)) 11 6 (s.attApplied s.limitSteps m)

/-- The state words of ports brought up to date. -/
def State.statWords (s : State) (ns : List Nat) (x : State) : State :=
  ns.foldl (fun acc m => acc.updStat m (s.statWord m)) x

theorem State.refreshField_stages : ∃ (w : State) (f : Word → Word),
    w.regs = (s.loseStopped.statWords (List.range 8) s.loseStopped).regs ∧
      s.refreshField = (w.updRg 0x20 0x048 f).fieldLevels := by
  obtain ⟨v, hv⟩ : ∃ v, s.loseStopped.statWords (List.range 8) s.loseStopped = v := ⟨_, rfl⟩
  have hfield : s.refreshField = ((if (List.range 8).any s.loseStopped.carrierOn then
      v.updFld (fun f => { f with sampled := 0xFF }) else v).updRg 0x20 0x048 (fun w =>
      setField w 27 16 (s.loseStopped.usedMw s.loseStopped.carrierWanted 0))).fieldLevels := by
    rw [← hv]
    rfl
  rw [hv]
  refine ⟨_, _, ?_, hfield⟩
  split
  · rfl
  · rfl

theorem State.rg_of_regs {t u : State} (h : u.regs = t.regs) (q o : Nat) : u.rg q o = t.rg q o := by
  unfold State.rg State.reg
  rw [h]

/-- On page 0x20 a refresh of the field writes PWR alone. -/
theorem State.refreshField_page20 {o : Nat} (ho : Quiet o) (h : o ≠ 0x048) : s.refreshField.rg 0x20 o = s.rg 0x20 o := by
  obtain ⟨w, f, hw, hfield⟩ := s.refreshField_stages
  have hstat : RegsBut [0x21] s.loseStopped (s.loseStopped.statWords (List.range 8) s.loseStopped) :=
    .foldl_mem (fun n hn t => t.updStat_regs n _ (List.mem_range.1 hn)) _
  have hlost := s.loseStopped_regs (l := [0x22]) (by decide) 0x20 o (by decide) ho
  rw [hfield]
  refine (State.fieldLevels_regs (l := []) _ 0x20 o (by decide) ho).trans ?_
  refine (State.rg_setRg_other (fun e => h ((ra_inj ho.1 (by decide)).1 e).2)).trans ?_
  exact (State.rg_of_regs hw 0x20 o).trans ((hstat 0x20 o (by decide) ho).trans hlost)

/-- What a word of a port's state says of its supervision. -/
def PortState (w v : Word) : Prop := field w 1 0 = field v 1 0 ∧ flag w 3 = flag v 3

theorem State.updStat_portState (m n : Nat) (f : Word → Word) (hm : m < 8) (hn : n < 8) (hf : ∀ w, PortState (f w) w) :
    PortState ((s.updStat m f).antStat n) (s.antStat n) := by
  by_cases h : n = m
  · subst h
    unfold State.antStat State.updStat State.updRg
    rw [State.rg_setRg_self]
    exact hf _
  · unfold State.antStat
    rw [s.updStat_other m 0x21 (0x044 + 0x20 * n) f hm ⟨by omega, .inr (by omega)⟩ (by omega)]
    exact ⟨rfl, rfl⟩

theorem State.statWord_portState (m : Nat) (w : Word) : PortState (s.statWord m w) w := by
  refine ⟨?_, ?_⟩
  · rw [State.statWord, field_setField_other (by decide) (by decide), field_setFlag_other (by decide) (by decide),
      field_setFlag_other (by decide) (by decide), field_setFlag_other (by decide) (by decide)]
  · rw [State.statWord, flag_setField_other (by decide) (by decide), flag_setFlag (by decide), if_neg (by decide),
      flag_setFlag (by decide), if_neg (by decide), flag_setFlag (by decide), if_neg (by decide)]

theorem State.statWords_portState (n : Nat) (hn : n < 8) (ns : List Nat) (hns : ∀ m ∈ ns, m < 8) (x : State) :
    PortState ((s.statWords ns x).antStat n) (x.antStat n) := by
  induction ns generalizing x with
  | nil => exact ⟨rfl, rfl⟩
  | cons m ns ih =>
    obtain ⟨h1, h3⟩ := ih (fun m hm => hns m (List.mem_cons_of_mem _ hm)) (x.updStat m (s.statWord m))
    obtain ⟨g1, g3⟩ := x.updStat_portState m n _ (hns m (List.mem_cons_self ..)) hn (s.statWord_portState m)
    exact ⟨h1.trans g1, h3.trans g3⟩

/-- A refresh of the field leaves a port's state and FAULTED as they are. -/
theorem State.refreshField_portState (n : Nat) (hn : n < 8) : PortState (s.refreshField.antStat n) (s.antStat n) := by
  have hquiet : Quiet (0x044 + 0x20 * n) := ⟨by omega, .inr (by omega)⟩
  obtain ⟨w, f, hw, hfield⟩ := s.refreshField_stages
  have hlost : s.loseStopped.antStat n = s.antStat n := s.loseStopped_regs (l := [0x22]) (by decide) 0x21 _ (by decide) hquiet
  have hstat : s.refreshField.antStat n = (s.loseStopped.statWords (List.range 8) s.loseStopped).antStat n := by
    rw [hfield]
    refine (State.fieldLevels_regs (l := []) _ 0x21 _ (by decide) hquiet).trans ?_
    refine (State.rg_setRg_other (fun e => absurd ((ra_inj hquiet.1 (by decide)).1 e).1 (by decide))).trans ?_
    exact State.rg_of_regs hw _ _
  rw [hstat, ← hlost]
  exact State.statWords_portState _ n hn _ (fun m hm => List.mem_range.1 hm) _

end

end Sys2Proof.Machine
end

section
/-!
PROOFS. The field front end: supervision, windows, heat and supply, operations and detection rounds.
-/
namespace Sys2Proof.Machine

/-! ### Supervision -/

section
variable (s : State)

theorem portsOf_two_pow : ∀ n, n < 8 → portsOf (2 ^ n) = [n] := by decide

theorem State.putAnt_same (n : Nat) (a : Ant) : SameBut [.fld] s (s.putAnt n a) := s.updFld_same _

/-- Whether a measurement says SHORT: of an internal port that trips or draws too much (R317). -/
def State.portShort (n : Nat) (m : AntMeas) : Bool :=
  !flag (s.antCfg n) 1 && (m.trip || decide (m.itx > 4 * field (s.rg 0x20 0x044) 15 8))

/-- A port's state word after a test. -/
def judgedWord (short open_ detune faulted : Bool) (itx : Nat) (w : Word) : Word :=
  setField (setFlag (setFlag (setField w 1 0 (if short then 3 else if open_ then 2 else 1)) 2 detune) 3 faulted) 23 16 itx

/-- Whether a measurement says OPEN (R317). -/
def State.portOpen (n : Nat) (m : AntMeas) : Bool :=
  if flag (s.antCfg n) 1 then (s.ant n).based && decide (m.amp.toNat * 10 < field (s.antTune n) 31 16)
  else !s.portShort n m && decide (m.itx < field (s.rg 0x20 0x044) 7 0)

/-- Whether a measurement says that a port in order is out of tune (R317). -/
def State.portDetuned (n : Nat) (m : AntMeas) : Bool :=
  (s.ant n).based && !s.portShort n m && !s.portOpen n m
    && (ampBeyond m.amp.toNat (field (s.antTune n) 31 16) (field (s.rg 0x20 0x044) 23 16)
        || decide (phaseDist m.phase.toNat (field (s.antTune n) 15 8) > field (s.rg 0x20 0x044) 31 24))

/-- The passes in a row in which a port has been in order. -/
def State.portGood (n : Nat) (m : AntMeas) : Nat := if s.portShort n m || s.portOpen n m then 0 else (s.ant n).good + 1

/-- Whether a port is FAULTED after a test (R317). -/
def State.portFaulted (n : Nat) (m : AntMeas) : Bool :=
  (s.portShort n m || s.portOpen n m) || (s.faulted n && decide (s.portGood n m < 2))

/-- A port's registers after a test. -/
def State.judgedRegs (n : Nat) (m : AntMeas) : State :=
  let u := (s.updStat n (judgedWord (s.portShort n m) (s.portOpen n m) (s.portDetuned n m) (s.portFaulted n m)
    (min 255 (m.itx / 4)))).setRg 0x21 (0x04C + 0x20 * n) m.iq
  if (s.ant n).based then u
  else u.setRg 0x21 (0x048 + 0x20 * n)
    (pack [(0, 5, field (s.antTune n) 4 0), (8, 8, m.phase.toNat), (16, 16, m.amp.toNat)])

/-- A port after a test: its registers, and what the field keeps of it. -/
def State.judgedPort (n : Nat) (m : AntMeas) : State :=
  ((s.judgedRegs n m).putAnt n { (s.judgedRegs n m).ant n with based := true, good := s.portGood n m }).updFld (fun f =>
    { f with sampled := f.sampled &&& ~~~(BitVec.ofNat 8 (2 ^ n)) })

/-- A port newly at fault is recorded, and its transactions break. -/
theorem State.judgePort_eq (n : Nat) (m : AntMeas) : s.judgePort n m =
    if (s.portShort n m || s.portOpen n m) && !s.faulted n then
      ((s.judgedPort n m).faultRec 0x14 0x21 n).failPorts (· == n)
    else s.judgedPort n m := rfl

theorem State.judgedPort_same (n : Nat) (m : AntMeas) : SameBut [.fld] s (s.judgedPort n m) := by
  have hregs : SameBut [.fld] s (s.judgedRegs n m) := .ite (.same s) (.same s)
  exact (hregs.trans (State.putAnt_same _ n _)).trans (State.updFld_same _ _)

theorem State.judgePort_same (n : Nat) (m : AntMeas) : SameBut [.ops, .gran, .fld, .svc] s (s.judgePort n m) := by
  rw [State.judgePort_eq]
  exact .iteThen (s.judgedPort_same n m).mono ((State.faultRec_same _ _ _ _).trans (State.failPorts_same _ _).mono)

theorem State.superviseMask_same (mask : Nat) (l : List AntMeas) :
    SameBut [.ops, .gran, .fld, .svc] s (s.superviseMask mask l) := by
  unfold State.superviseMask
  dsimp only
  refine SameBut.trans (SameBut.trans ?_ (State.updFld_same _ _).mono) (State.refreshField_same _).mono
  refine .foldl (fun t n => ?_) _ s
  split
  · exact .ite (t.judgePort_same n _) (.refl t)
  · exact .refl t

theorem State.superviseMask_supervised (mask : Nat) (l : List AntMeas) : (s.superviseMask mask l).fld.supervised = true :=
  (State.refreshField_work _).supervised

/-- Where no port is enabled, a pass tests none. -/
theorem State.superviseMask_idle (mask : Nat) (l : List AntMeas) (h : ∀ n, n < 8 → flag (s.antCfg n) 0 = false) :
    s.superviseMask mask l = (s.updFld (fun f => { f with supervised := true })).refreshField := by
  have hstay {f : State → Nat → State} {ns : List Nat} (hf : ∀ n ∈ ns, f s n = s) : ns.foldl f s = s := by
    induction ns with
    | nil => rfl
    | cons n ns ih =>
      rw [List.foldl_cons, hf n (List.mem_cons_self ..)]
      exact ih fun m hm => hf m (List.mem_cons_of_mem _ hm)
  unfold State.superviseMask
  refine congrArg (fun x : State => (x.updFld (fun f => { f with supervised := true })).refreshField) (hstay fun n hn => ?_)
  split
  · refine if_neg ?_
    rw [h n (List.mem_range.1 (List.mem_filter.1 hn).1), Bool.false_and]
    decide
  · rfl

/-- A port that has been FAULTED and trips again is SHORT, and FAULTED still (R317). -/
theorem State.judgePort_short {n : Nat} {m : AntMeas} (hint : flag (s.antCfg n) 1 = false)
    (hwas : s.faulted n = true) (htrip : m.trip = true) :
    field ((s.judgePort n m).antStat n) 1 0 = 3 ∧ flag ((s.judgePort n m).antStat n) 3 = true := by
  have hshort : s.portShort n m = true := by simp [State.portShort, hint, htrip]
  have hbad : s.portFaulted n m = true := by simp [State.portFaulted, hshort]
  have hjudge : s.judgePort n m = s.judgedPort n m := by
    rw [State.judgePort_eq, hwas]
    simp
  have hword : (s.judgedRegs n m).antStat n =
      judgedWord true (s.portOpen n m) (s.portDetuned n m) true (min 255 (m.itx / 4)) (s.antStat n) := by
    unfold State.judgedRegs
    rw [hshort, hbad]
    dsimp only
    split
    · exact (State.rg_setRg_other (by unfold ra; omega)).trans (State.rg_setRg_self _ _ _ _)
    · refine (State.rg_setRg_other (by unfold ra; omega)).trans ?_
      exact (State.rg_setRg_other (by unfold ra; omega)).trans (State.rg_setRg_self _ _ _ _)
  have hstat : (s.judgePort n m).antStat n = (s.judgedRegs n m).antStat n := by
    rw [hjudge]
    rfl
  rw [hstat, hword, judgedWord]
  refine ⟨?_, ?_⟩
  · rw [field_setField_other (by decide) (by decide), field_setFlag_other (by decide) (by decide),
      field_setFlag_other (by decide) (by decide), field_setField_self (by decide)]
    rfl
  · rw [flag_setField_other (by decide) (by decide), flag_setFlag (by decide), if_pos rfl]

theorem State.superviseMask_short {n : Nat} {l : List AntMeas} {m : AntMeas} (hn : n < 8) (hm : l[n]? = some m)
    (hen : flag (s.antCfg n) 0 = true) (hint : flag (s.antCfg n) 1 = false) (hfree : flag (s.antStat n) 4 = false)
    (hwas : s.faulted n = true) (htrip : m.trip = true) :
    field ((s.superviseMask (2 ^ n) l).antStat n) 1 0 = 3 ∧ (s.superviseMask (2 ^ n) l).faulted n = true := by
  have hmask : s.superviseMask (2 ^ n) l =
      ((s.judgePort n m).updFld (fun f => { f with supervised := true })).refreshField := by
    unfold State.superviseMask
    rw [portsOf_two_pow n hn]
    simp only [List.foldl_cons, List.foldl_nil, hm, hen, hfree, Bool.not_false, Bool.and_self, if_true]
  obtain ⟨hstate, hfault⟩ := s.judgePort_short hint hwas htrip
  rw [hmask]
  obtain ⟨h1, h3⟩ := State.refreshField_portState ((s.judgePort n m).updFld (fun f => { f with supervised := true })) n hn
  exact ⟨h1.trans hstate, h3.trans hfault⟩

theorem State.busyPorts_none (h : ∀ n, n < 8 → flag (s.antCfg n) 0 = false) : s.busyPorts = 0 := by
  have hnone : (List.range 8).filter (fun n => flag (s.antCfg n) 0 && flag (s.antStat n) 4) = [] := by
    refine List.filter_eq_nil_iff.2 fun n hn => ?_
    rw [h n (List.mem_range.1 hn), Bool.false_and]
    decide
  unfold State.busyPorts
  rw [hnone]
  rfl

end

/-! ### Windows, heat and supply -/

section
variable (s : State)

theorem State.breakExchange_work (b : Bool) : FieldWork s (s.breakExchange b) := by
  unfold State.breakExchange
  split
  · exact .refl s
  · rename_i r _
    dsimp only
    have hcounted : FieldWork s (((s.updRg 0x20 0x054 (fun w => satField w 19 12 1)).updRg 0x22 0x04C
        (fun w => satField w 23 16 1)).evPulse 0x22 4) :=
      SameBut.field (((s.updRg_same _ _ _).trans (State.updRg_same _ _ _ _)).trans (State.evPulse_same _ _ _))
    have hrun (x : State) (y : Option ReaderRun) : FieldWork x (x.updFld (fun f => { f with run := y })) :=
      .upd (fun _ => rfl) (fun _ => rfl) (fun _ => rfl) (fun _ => rfl)
    have hgo (e : Bool × State) (c d : Prop) [Decidable c] [Decidable d] (he : FieldWork s e.2)
        (x y : Option ReaderRun) (n : Nat) : FieldWork s (if c then
          if d then (e.2.tagResult n .medium none).updFld (fun f => { f with run := x }) else e.2.breakRun .medium
        else e.2.updFld (fun f => { f with run := y })) :=
      .ite (.ite ((he.trans (State.tagResult_work _ _ _ _)).trans (hrun _ _)) (he.trans (State.breakRun_work _ _)))
        (he.trans (hrun _ _))
    refine .ite (.refl s) (hgo _ _ _ ?_ _ _ _)
    split
    · exact hcounted.trans (SameBut.field (State.draw_same _))
    · exact hcounted

theorem State.sendOwed_same : SameBut [.fld] s s.sendOwed := by
  unfold State.sendOwed
  split
  · exact .refl s
  split
  · exact .refl s
  · exact (s.updFld_same _).trans (State.updFld_same _ _)

/-- A window comes into force, and stands. -/
theorem State.coexBegin_opens (w : CoexWin) (b : Bool) : SameBut [.ops, .gran, .fld] s (s.coexBegin w b) ∧
    (s.coexBegin w b).fld.coex = some w ∧ (s.coexBegin w b).fld.coming = none := by
  obtain ⟨u, hu, husame, hcoex, hcoming⟩ : ∃ u : State, (s.updFld (fun f => { f with coex := some w, coming := none })).updRg
      0x20 0x054 (fun v => setField (setFlag (setFlag v 0 true) 1 w.protect) 8 2 s.coexJudge.1) = u ∧
      SameBut [.ops, .gran, .fld] s u ∧ u.fld.coex = some w ∧ u.fld.coming = none :=
    ⟨_, rfl, ((s.updFld_same _).trans (State.updRg_same _ _ _ _)).mono, rfl, rfl⟩
  have hwork : FieldWork u (s.coexBegin w b) := by
    unfold State.coexBegin
    dsimp only
    rw [hu]
    have hpulse : FieldWork u (if w.protect = true then u.pulse 0xAA else u) := .ite (SameBut.field (u.pulse_same _ _)) (.refl u)
    exact .trans (.ite (hpulse.trans (State.breakExchange_work _ b)) hpulse) (State.refreshField_work _)
  exact ⟨husame.trans hwork.same, hwork.coex.trans hcoex, hwork.coming.trans hcoming⟩

theorem State.coexEnd_closes : SameBut [.time, .ops, .gran, .fld] s s.coexEnd ∧ s.coexEnd.fld.coex = none ∧
    flag (s.coexEnd.rg 0x20 0x054) 0 = false := by
  obtain ⟨u, hu, husame⟩ : ∃ u : State, (match s.fld.coex.bind (·.stop) with | some t => s.reach t | none => s).sendOwed = u ∧
      SameBut [.time, .ops, .gran, .fld] s u := by
    refine ⟨_, rfl, ?_⟩
    refine SameBut.trans ?_ (State.sendOwed_same _).mono
    split
    · exact (s.reach_same _).mono
    · exact .refl s
  obtain ⟨v, hv, hvsame, hcoex, hflag⟩ : ∃ v : State, (u.updFld (fun f => { f with coex := none })).updRg 0x20 0x054
      (fun w => setFlag (setFlag w 0 false) 1 false) = v ∧ SameBut [.time, .ops, .gran, .fld] u v ∧ v.fld.coex = none ∧
      flag (v.rg 0x20 0x054) 0 = false := by
    refine ⟨_, rfl, (u.updFld_same _).mono.trans (State.updRg_same _ _ _ _), rfl, ?_⟩
    rw [State.updRg, State.rg_setRg_self, flag_setFlag (by decide), if_neg (by decide), flag_setFlag (by decide), if_pos rfl]
  have hend : s.coexEnd = v.refreshField := by
    rw [← hv, ← hu]
    rfl
  have hwork := v.refreshField_work
  rw [hend]
  refine ⟨(husame.trans hvsame).trans hwork.same.mono, hwork.coex.trans hcoex, ?_⟩
  rw [v.refreshField_page20 ⟨by decide, .inr (by decide)⟩ (by decide)]
  exact hflag

end

end Sys2Proof.Machine
end

section
/-!
PROOFS. The field front end: heat and supply, the operations of FIELD and ANTENNA, and its rows.
-/
namespace Sys2Proof.Machine

section
variable (s : State)

/-! ### Heat and supply -/

theorem State.vfldDown_drops : SameBut [.pwr, .svc, .ops, .gran, .fld] s s.vfldDown ∧ s.vfldDown.pwr.vfld = false := by
  obtain ⟨u, hu, husame, hvfld⟩ : ∃ u : State, { s with pwr := { s.pwr with vfld := false } } = u ∧
      SameBut [.pwr, .svc, .ops, .gran, .fld] s u ∧ u.pwr.vfld = false := ⟨_, rfl, SameBut.set_pwr s, rfl⟩
  have hdown : s.vfldDown = ((u.faultRec 0x16 0x20 0).failPorts (fun _ => true)).refreshField := by
    rw [← hu]
    rfl
  have hwork : SameBut [.svc, .ops, .gran, .fld] u s.vfldDown := by
    rw [hdown]
    exact ((u.faultRec_same _ _ _).trans (State.failPorts_same _ _).mono).trans (State.refreshField_same _).mono
  refine ⟨husame.trans hwork.mono, ?_⟩
  rw [hwork.pwr]
  exact hvfld

/-- The junction's temperature and the band in their registers. -/
def State.thermalRegs (s : State) (tj : Byte) : State :=
  let old := s.fld.band
  let new := bandFor old (signedOf 8 tj.toNat)
  (s.updRg 0x20 0x04C (fun w =>
    let w1 := setField (setField w 7 0 tj.toNat) 9 8 new
    if new = old then w1 else satField w1 31 16 1)).updRg 0x05 0x06C (fun w =>
      setFlag (setField (setField w 7 0 tj.toNat) 9 8 new) 10 (new == 2))

/-- The band in force, with the cap on the field's power and on the core's point. -/
def State.thermalBand (s : State) (old new : Nat) : State :=
  let s1 := s.evLevel 0x05 4 (new == 2)
  let s2 := if new = 2 then s1.updRg 0x06 0x040 (fun w => setField w 1 0 (min 1 (field w 1 0))) else s1
  let s3 := (s2.updFld (fun f => { f with band := new })).updRg 0x20 0x048
    (fun w => setField w 11 0 (if new = 0 then 2000 else if new = 1 then 1000 else 0))
  if new > old then s3.faultRec 0x15 0x20 new else s3

theorem State.thermal_eq (tj : Byte) : s.thermal tj =
    if bandFor s.fld.band (signedOf 8 tj.toNat) = s.fld.band then s.thermalRegs tj
    else
      let u := (s.thermalRegs tj).thermalBand s.fld.band (bandFor s.fld.band (signedOf 8 tj.toNat))
      (if bandFor s.fld.band (signedOf 8 tj.toNat) = 2 then u.failPorts (fun n => !flag (u.antCfg n) 1) else u).refreshField := rfl

theorem State.thermalRegs_tj (tj : Byte) : field ((s.thermalRegs tj).rg 0x20 0x04C) 7 0 = tj.toNat := by
  have hword (w : Word) (new : Nat) : field (setField (setField w 7 0 tj.toNat) 9 8 new) 7 0 = tj.toNat := by
    rw [field_setField_other (by decide) (by decide), field_setField_self (by decide)]
    exact Nat.mod_eq_of_lt tj.isLt
  unfold State.thermalRegs
  dsimp only
  rw [State.updRg, State.rg_setRg_other (by decide), State.updRg, State.rg_setRg_self]
  split
  · exact hword _ _
  · rw [field_satField_other (by decide) (by decide)]
    exact hword _ _

theorem State.thermalBand_same (old new : Nat) : SameBut [.svc, .fld] s (s.thermalBand old new) := by
  have h1 : SameBut [.svc, .fld] s (s.evLevel 0x05 4 (new == 2)) := s.evLevel_same _ _ _
  unfold State.thermalBand
  dsimp only
  refine .iteThen ?_ (State.faultRec_same _ _ _ _)
  refine SameBut.trans (SameBut.trans ?_ (State.updFld_same _ _).mono) (State.updRg_same _ _ _ _)
  exact .iteThen h1 (State.updRg_same _ _ _ _)

theorem State.thermalBand_band (old new : Nat) : (s.thermalBand old new).fld.band = new := by
  unfold State.thermalBand
  dsimp only
  split
  · rw [(State.faultRec_same (l := [.svc]) _ _ _ _).fld]
    rfl
  · rfl

theorem State.thermalBand_tj (old new : Nat) : (s.thermalBand old new).rg 0x20 0x04C = s.rg 0x20 0x04C := by
  have hquiet : Quiet 0x04C := ⟨by decide, .inr (by decide)⟩
  have h1 := s.evLevel_regs (l := []) 0x05 4 (new == 2) 0x20 0x04C (by decide) hquiet
  have h3 (x : State) (f : FieldState → FieldState) (g : Word → Word) :
      ((x.updFld f).updRg 0x20 0x048 g).rg 0x20 0x04C = x.rg 0x20 0x04C := State.rg_setRg_other (by decide)
  have h2 (x : State) (g : Word → Word) : (x.updRg 0x06 0x040 g).rg 0x20 0x04C = x.rg 0x20 0x04C :=
    State.rg_setRg_other (by decide)
  unfold State.thermalBand
  dsimp only
  split
  · refine (State.faultRec_regs (l := [0x3C]) _ _ _ _ (by decide) 0x20 0x04C (by decide) hquiet).trans ?_
    refine (h3 _ _ _).trans ?_
    split
    · exact (h2 _ _).trans h1
    · exact h1
  · refine (h3 _ _ _).trans ?_
    split
    · exact (h2 _ _).trans h1
    · exact h1

/-- The junction is read: its temperature shows, and the band follows (R326). -/
theorem State.thermal_reads (tj : Byte) : SameBut [.svc, .ops, .gran, .fld] s (s.thermal tj) ∧
    (s.thermal tj).fld.band = bandFor s.fld.band (signedOf 8 tj.toNat) ∧
    field ((s.thermal tj).rg 0x20 0x04C) 7 0 = tj.toNat := by
  have hregs : SameBut [.svc, .ops, .gran, .fld] s (s.thermalRegs tj) := .same s
  have htj := s.thermalRegs_tj tj
  rw [State.thermal_eq]
  by_cases hband : bandFor s.fld.band (signedOf 8 tj.toNat) = s.fld.band
  · rw [if_pos hband]
    exact ⟨hregs, hband.symm, htj⟩
  · rw [if_neg hband]
    dsimp only
    generalize bandFor s.fld.band (signedOf 8 tj.toNat) = new
    obtain ⟨u, hu, husame, hunew, hutj⟩ : ∃ u, (s.thermalRegs tj).thermalBand s.fld.band new = u ∧
        SameBut [.svc, .ops, .gran, .fld] s u ∧ u.fld.band = new ∧ field (u.rg 0x20 0x04C) 7 0 = tj.toNat :=
      ⟨_, rfl, hregs.trans (State.thermalBand_same _ _ _).mono, State.thermalBand_band _ _ _,
        (congrArg (fun w => field w 7 0) (State.thermalBand_tj _ _ _)).trans htj⟩
    rw [hu]
    have hquiet : Quiet 0x04C := ⟨by decide, .inr (by decide)⟩
    have hfail : FieldWork u (if new = 2 then u.failPorts (fun n => !flag (u.antCfg n) 1) else u) :=
      .ite (u.failPorts_work _) (.refl u)
    have hfailrg : RegsBut [] u (if new = 2 then u.failPorts (fun n => !flag (u.antCfg n) 1) else u) :=
      .ite (u.failPorts_regs _) (.refl u)
    have hwork := hfail.trans (State.refreshField_work _)
    refine ⟨husame.trans hwork.same.mono, hwork.band.trans hunew, ?_⟩
    rw [State.refreshField_page20 _ hquiet (by decide), hfailrg 0x20 0x04C (by decide) hquiet]
    exact hutj

/-! ### MATCH, TEACH and SOLVE -/

theorem matchEffect_one {k : Slot} {l : List TuneMeas} {x : TuneMeas} {n : Nat} (hn : n < 8)
    (hmask : field (k.arg 0) 7 0 = 2 ^ n) (hx : l[n]? = some x) (hfree : flag (s.antStat n) 4 = false)
    (hoff : s.carrierOn n = false) (hint : flag (s.antCfg n) 1 = false) (hmode : s.coexMode = 0) :
    ∃ t, matchEffect l k s = (t, some (if x.off > field (s.rg 0x20 0x044) 31 24 then .medium else .done)) ∧
      SameBut [.fld] s t ∧ field (t.antTune n) 4 0 = x.tune.toNat := by
  obtain ⟨u, hu, husame, htune⟩ : ∃ u : State, ((s.setRg 0x21 (0x048 + 0x20 * n)
      (pack [(0, 5, x.tune.toNat), (8, 8, x.phase.toNat), (16, 16, x.amp.toNat)])).updStat n
      (fun w => if x.off > field (s.rg 0x20 0x044) 31 24 then setFlag w 2 true else w)).putAnt n
        { s.ant n with based := true } = u ∧ SameBut [.fld] s u ∧ field (u.antTune n) 4 0 = x.tune.toNat := by
    refine ⟨_, rfl, SameBut.trans (SameBut.same s) (State.putAnt_same _ n _), ?_⟩
    have hword := (State.updStat_other (s.setRg 0x21 (0x048 + 0x20 * n)
      (pack [(0, 5, x.tune.toNat), (8, 8, x.phase.toNat), (16, 16, x.amp.toNat)])) n 0x21 (0x048 + 0x20 * n)
      (fun w => if x.off > field (s.rg 0x20 0x044) 31 24 then setFlag w 2 true else w) hn
      ⟨by omega, .inr (by omega)⟩ (by omega)).trans (State.rg_setRg_self s _ _ _)
    refine (congrArg (fun w => field w 4 0) hword).trans ?_
    refine (field_pack_head (lo := 0) (width := 5) (by decide) (by decide) ?_).trans (Nat.mod_eq_of_lt x.tune.isLt)
    intro j _ hj
    rw [flag_pack_cons (by omega), flag_pack_cons (by omega)]
    simp [show ¬ 8 ≤ j by omega, show ¬ 16 ≤ j by omega, flag, pack]
  have hquiet : Quiet (0x048 + 0x20 * n) := ⟨by omega, .inr (by omega)⟩
  refine ⟨u.fieldLevels, ?_, husame.trans (State.fieldLevels_same _), ?_⟩
  · unfold matchEffect
    rw [hmask, portsOf_two_pow n hn]
    simp only [List.any_cons, List.any_nil, hfree, hoff, hint, hmode, hx, List.foldl_cons, List.foldl_nil, Bool.or_false,
      bne_self_eq_false, Bool.false_eq_true, if_false, decide_eq_true_eq]
    rw [hu]
  · rw [State.antTune, State.fieldLevels_regs (l := []) u 0x21 _ (by decide) hquiet]
    exact htune

theorem State.rg_setRow (page base : Nat) (f : Nat → Word) (n : Nat) (hbase : base + 4 * n ≤ 0x1000) (j : Nat) (hj : j < n) :
    ((List.range n).foldl (fun acc j => acc.setRg page (base + 4 * j) (f j)) s).rg page (base + 4 * j) = f j := by
  induction n with
  | zero => omega
  | succ n ih =>
    rw [List.range_succ, List.foldl_append, List.foldl_cons, List.foldl_nil]
    by_cases h : j = n
    · rw [h]
      exact State.rg_setRg_self _ _ _ _
    · exact (State.rg_setRg_other (by unfold ra; omega)).trans (ih (by omega) (by omega))

/-- A taught point: its row of values, and its configuration (R321, R332). -/
theorem teachEffect_one {k : Slot} {h : List (List (Int × Int))} (hready : s.ready 0x22 = true) (hfield : s.hasField = true)
    (hrun : s.fld.run = none) (hmode : s.coexMode = 0) :
    ∃ t, teachEffect 1 h k s = (t, some .done) ∧ SameBut [] s t ∧
      (∀ j, j < 8 → t.rg 0x21 (0x340 + 0x20 * field (k.arg 0) 1 0 + 4 * j) =
        if (field (k.arg 0) 15 8).testBit j = true then
          taughtValue ((h.getD j []).getD (ownStrongest (field (k.arg 0) 15 8) h) (0, 0))
            ((h.getD (ownStrongest (field (k.arg 0) 15 8) h) []).getD (ownStrongest (field (k.arg 0) 15 8) h) (0, 0)) else 0) ∧
      flag (t.pointCfg (field (k.arg 0) 1 0)) 0 = true ∧
      field (t.pointCfg (field (k.arg 0) 1 0)) 15 8 = field (k.arg 0) 15 8 := by
  have hp : field (k.arg 0) 1 0 < 4 := field_lt
  have hmask : field (k.arg 0) 15 8 < 256 := field_lt
  unfold teachEffect
  simp only [hready, hfield, hrun, hmode, Option.isSome_none, Bool.not_true, Bool.false_or, bne_self_eq_false,
    Bool.false_eq_true, if_false]
  generalize ownStrongest (field (k.arg 0) 15 8) h = r
  generalize field (k.arg 0) 1 0 = p at hp ⊢
  generalize field (k.arg 0) 15 8 = mask at hmask ⊢
  refine ⟨_, rfl, ?_, fun j hj => ?_, ?_, ?_⟩
  · exact SameBut.trans (.foldl (fun t j => t.setRg_same _ _ _) _ s) (State.setRg_same _ _ _ _)
  · refine (State.rg_setRg_other (by unfold ra; omega)).trans ?_
    exact s.rg_setRow 0x21 (0x340 + 0x20 * p) (fun j => if mask.testBit j = true then
      taughtValue ((h.getD j []).getD r (0, 0)) ((h.getD r []).getD r (0, 0)) else 0) 8 (by omega) j hj
  · rw [State.pointCfg, State.rg_setRg_self, flag_pack_cons (by decide)]
    rfl
  · rw [State.pointCfg, State.rg_setRg_self, field_pack_skip (by decide) (by decide), field_pack_skip (by decide) (by decide)]
    refine (field_pack_head (lo := 8) (width := 8) (by decide) (by decide) ?_).trans (Nat.mod_eq_of_lt hmask)
    intro j _ hj
    rw [flag_pack_cons (by omega)]
    simp [show ¬ 16 ≤ j by omega, flag, pack]

theorem State.drawWeights_same (ports : List Nat) : SameBut [] s (s.drawWeights ports).1 := by
  induction ports generalizing s with
  | nil => exact .refl s
  | cons j ports ih => exact (State.draw_same s).trans (ih s.draw.2)

theorem State.solveWeights_same (ports want null : List Nat) : SameBut [] s (s.solveWeights ports want null).1 := by
  unfold State.solveWeights
  dsimp only
  split
  · exact .refl s
  · exact s.drawWeights_same ports

/-- A SOLVE with the FIELD region ends, in DONE or MEDIUM, and writes registers alone (R322). -/
theorem solveEffect_ends {k : Slot} (hfield : s.hasField = true) :
    ∃ t c, solveEffect k s = (t, some c) ∧ (c = .done ∨ c = .medium) ∧ SameBut [] s t := by
  have hw := s.solveWeights_same (portsOf (field (k.arg 0) 15 8))
    (((List.range 4).filter (field (k.arg 0) 19 16).testBit).filter (fun p => !flag (s.pointCfg p) 1))
    (((List.range 4).filter (field (k.arg 0) 19 16).testBit).filter (fun p => flag (s.pointCfg p) 1))
  have hends {b : Prop} {_ : Decidable b} {v w : State} (hv : SameBut [] s v) (hw : SameBut [] s w) :
      ∃ t c, (if b then (v, some Code.medium) else (w, some Code.done)) = (t, some c) ∧ (c = .done ∨ c = .medium) ∧
        SameBut [] s t := by
    split
    · exact ⟨_, _, rfl, .inr rfl, hv⟩
    · exact ⟨_, _, rfl, .inl rfl, hw⟩
  unfold solveEffect
  dsimp only
  rw [hfield]
  simp only [Bool.not_true, Bool.false_eq_true, if_false]
  exact hends hw ((hw.trans (.foldl (fun t j => t.setRg_same _ _ _) _ _)).trans (State.setRg_same _ _ _ _))

end

end Sys2Proof.Machine
end

section
/-!
PROOFS. The field front end: its rows.
-/
namespace Sys2Proof.Machine

section
variable {s : State}

/-! ### Registers within their rules -/

theorem State.complete_refused {m : Master} {p o : Nat} {c : Code} (hc : c ≠ .done) : s.complete m p o 0 c = s.reject m p o c :=
  if_neg hc

theorem exec_antCfgWrite_refused {m : Master} {n : Fin 8} {v : Word} {c : Code} (hc : c ≠ .done)
    (hg : s.writeGate m 0x21 (0x040 + 0x20 * n.val) v = .pass) (heff : antCfgEffect n.val v s = (s, c)) :
    exec (.antCfgWrite m n v) s = .next (s.reject m 0x21 (0x040 + 0x20 * n.val) c) := by
  refine congrArg Host.Outcome.next ((State.write_pass hg).trans ?_)
  rw [heff]
  exact State.complete_refused hc

theorem exec_antCfgWrite_done {m : Master} {n : Fin 8} {v : Word} {t : State}
    (hg : s.writeGate m 0x21 (0x040 + 0x20 * n.val) v = .pass) (heff : antCfgEffect n.val v s = (t, .done)) :
    exec (.antCfgWrite m n v) s = .next (t.answer m 0 .done) := by
  refine congrArg Host.Outcome.next ((State.write_pass hg).trans ?_)
  rw [heff]
  exact State.complete_done _ _ _ _ _

/-- CW is kept of an ANT_CFG write. -/
theorem flag_antCfg_cw (v : Word) : flag (v &&& 0x00FF03F7) 2 = flag v 2 := by
  unfold flag
  rw [BitVec.getLsbD_and]
  exact Bool.and_true _

theorem antCfgEffect_free {n : Nat} {v : Word} (hfree : flag (s.antStat n) 4 = false)
    (hcw : flag v 2 = false ∨ s.faulted n = false) : antCfgEffect n v s =
    (if (s.setRg 0x21 (0x040 + 0x20 * n) (v &&& 0x00FF03F7)).usedMw
          (s.setRg 0x21 (0x040 + 0x20 * n) (v &&& 0x00FF03F7)).carrierWanted 0 > s.capMw &&
        (s.setRg 0x21 (0x040 + 0x20 * n) (v &&& 0x00FF03F7)).usedMw
          (s.setRg 0x21 (0x040 + 0x20 * n) (v &&& 0x00FF03F7)).carrierWanted 0 > s.usedMw s.carrierWanted 0
      then (s, .busy) else ((s.setRg 0x21 (0x040 + 0x20 * n) (v &&& 0x00FF03F7)).refreshField, .done)) := by
  have hno : ¬ (flag v 2 && s.faulted n) = true := by
    obtain h | h := hcw
    · rw [h]
      exact Bool.false_ne_true
    · rw [h, Bool.and_false]
      exact Bool.false_ne_true
  unfold antCfgEffect
  dsimp only
  rw [hfree, flag_antCfg_cw, if_neg Bool.false_ne_true, if_neg hno]

theorem exec_shapeWrite_done {m : Master} {n : Fin 8} {v : Word} (hg : s.writeGate m 0x20 (0x080 + 4 * n.val) v = .pass)
    (h : flag v 0 = false ∨ (8 ≤ field v 5 1 ∧ field v 5 1 ≤ 30)) : exec (.shapeWrite m n v) s =
    .next ((s.setRg 0x20 (0x080 + 4 * n.val) (v &&& 0x3FFFF)).answer m 0 .done) := by
  have hno : ¬ (flag v 0 && (decide (field v 5 1 < 8) || decide (field v 5 1 > 30))) = true := by
    rw [Bool.and_eq_true, Bool.or_eq_true, decide_eq_true_eq, decide_eq_true_eq]
    rintro ⟨hmode, hidx⟩
    obtain h | ⟨h1, h2⟩ := h
    · rw [h] at hmode
      cases hmode
    · omega
  refine congrArg Host.Outcome.next ((State.write_pass hg).trans ?_)
  rw [shapeEffect, if_neg hno]
  exact State.complete_done _ _ _ _ _

theorem exec_shapeWrite_arg {m : Master} {n : Fin 8} {v : Word} (hg : s.writeGate m 0x20 (0x080 + 4 * n.val) v = .pass)
    (hmode : flag v 0 = true) (hidx : field v 5 1 < 8 ∨ 30 < field v 5 1) : exec (.shapeWrite m n v) s =
    .next (s.reject m 0x20 (0x080 + 4 * n.val) .arg) := by
  have hyes : (flag v 0 && (decide (field v 5 1 < 8) || decide (field v 5 1 > 30))) = true := by
    rw [hmode, Bool.true_and, Bool.or_eq_true, decide_eq_true_eq, decide_eq_true_eq]
    exact hidx
  refine congrArg Host.Outcome.next ((State.write_pass hg).trans ?_)
  rw [shapeEffect, if_pos hyes]
  exact State.complete_refused (c := .arg) (by decide)

/-! ### Supervision -/

theorem exec_supervisionPass_new {l : List AntMeas} (hmay : s.mayPass = true) (hwait : s.fld.passWait = 0) :
    exec (.supervisionPass l) s = .next (s.newPass l) := by
  refine congrArg Host.Outcome.next ((if_pos hmay).trans (if_neg ?_))
  rw [hwait]
  exact Bool.false_ne_true

theorem State.newPass_same (s : State) (l : List AntMeas) : SameBut [.time, .ops, .gran, .fld, .svc] s (s.newPass l) := by
  have hreach : SameBut [.time, .ops, .gran, .fld, .svc] s (if s.ready 0x20 = true then
      s.reach (s.fld.passAt + BitVec.ofNat 64 (secTime (field (s.rg 0x20 0x040) 15 8))) else s) :=
    .ite (s.reach_same _).mono (.refl s)
  exact (hreach.trans (State.updFld_same _ _).mono).trans (State.superviseMask_same _ _ _).mono

theorem State.newPass_idle {l : List AntMeas} (hready : s.ready 0x20 = false)
    (hoff : ∀ n, n < 8 → flag (s.antCfg n) 0 = false) : s.newPass l =
    (s.updFld (fun f => { f with supervised := true, passAt := s.now, passWait := 0 })).refreshField := by
  have hs1 : (if s.ready 0x20 = true then s.reach (s.fld.passAt + BitVec.ofNat 64 (secTime (field (s.rg 0x20 0x040) 15 8)))
      else s) = s := if_neg (by rw [hready]; exact Bool.false_ne_true)
  unfold State.newPass
  dsimp only
  rw [hs1, s.busyPorts_none hoff]
  exact State.superviseMask_idle _ _ _ hoff

theorem exec_supervisionPass_late {l : List AntMeas} (hmay : s.mayPass = true) (hwait : s.fld.passWait ≠ 0)
    (hsoon : (s.now - s.fld.passAt).toNat < secTime 1) (hstill : s.fld.passWait &&& s.busyPorts = s.fld.passWait) :
    exec (.supervisionPass l) s =
      .next ((s.reach (s.fld.passAt + BitVec.ofNat 64 (secTime 1))).updFld (fun f => { f with passWait := 0 })) := by
  refine congrArg Host.Outcome.next ((if_pos hmay).trans ((if_pos ?_).trans (if_pos hstill)))
  rw [decide_eq_true hsoon, Bool.and_true]
  exact bne_iff_ne.2 hwait

theorem exec_supervise_ends {tag : Fin 128} {l : List AntMeas} (hrun : s.running tag.val 0x20 1 = true)
    (hready : s.ready 0x20 = true) (hmode : s.coexMode = 0)
    (hfree : ∀ n, n < 8 → (field ((s.slot tag.val).arg 0) 7 0).testBit n = true → flag (s.antStat n) 4 = false) :
    exec (.supervise tag l) s =
      .next ((s.superviseMask (field ((s.slot tag.val).arg 0) 7 0) l).setResult tag.val .done) := by
  have hidle : (portsOf (field ((s.slot tag.val).arg 0) 7 0)).any (fun n => flag (s.antCfg n) 0 && flag (s.antStat n) 4) =
      false := by
    rw [List.any_eq_false]
    intro n hn
    obtain ⟨hlt, hbit⟩ := List.mem_filter.1 hn
    rw [hfree n (List.mem_range.1 hlt) hbit, Bool.and_false]
    exact Bool.false_ne_true
  refine congrArg Host.Outcome.next (State.runOp_ends hrun rfl hready ?_)
  dsimp only
  rw [hmode, hidle]
  rfl

theorem exec_supervise_waits {tag : Fin 128} {l : List AntMeas} (hrun : s.running tag.val 0x20 1 = true)
    (hready : s.ready 0x20 = true) (hmode : s.coexMode ≠ 0) : exec (.supervise tag l) s = .next s := by
  refine congrArg Host.Outcome.next (State.runOp_waits hrun rfl hready ?_)
  refine if_pos ?_
  rw [bne_iff_ne.2 hmode, Bool.true_or]

/-! ### MATCH and TEACH -/

theorem exec_matchOp_state {tag : Fin 128} {l : List TuneMeas} {n : Nat} (hn : n < 8)
    (hmask : field ((s.slot tag.val).arg 0) 7 0 = 2 ^ n) (hrun : s.running tag.val 0x21 1 = true)
    (hready : s.ready 0x21 = true) (hbusy : flag (s.antStat n) 4 = true) :
    exec (.matchOp tag l) s = .next (s.setResult tag.val .state) := by
  refine congrArg Host.Outcome.next (State.runOp_ends hrun rfl hready ?_)
  refine if_pos ?_
  rw [hmask, portsOf_two_pow n hn, List.any_cons, hbusy, Bool.true_or, Bool.true_or, Bool.true_or]

theorem exec_matchOp_waits {tag : Fin 128} {l : List TuneMeas} {n : Nat} (hn : n < 8)
    (hmask : field ((s.slot tag.val).arg 0) 7 0 = 2 ^ n) (hrun : s.running tag.val 0x21 1 = true)
    (hready : s.ready 0x21 = true) (hfree : flag (s.antStat n) 4 = false) (hoff : s.carrierOn n = false)
    (hint : flag (s.antCfg n) 1 = false) (hmode : s.coexMode ≠ 0) : exec (.matchOp tag l) s = .next s := by
  refine congrArg Host.Outcome.next (State.runOp_waits hrun rfl hready ?_)
  refine (if_neg ?_).trans (if_pos (bne_iff_ne.2 hmode))
  rw [hmask, portsOf_two_pow n hn, List.any_cons, List.any_nil, hfree, hoff, hint]
  exact Bool.false_ne_true

theorem exec_teach_medium {tag : Fin 128} {n : Nat} {h : List (List (Int × Int))} (hrun : s.running tag.val 0x21 2 = true)
    (hready : s.ready 0x21 = true) (harg : field ((s.slot tag.val).arg 0) 18 16 ≤ 2) (hreader : s.ready 0x22 = true)
    (hfield : s.hasField = true) (hidle : s.fld.run = none) (hmode : s.coexMode = 0) (hn : n ≠ 1) :
    exec (.teach tag n h) s = .next (s.setResult tag.val .medium) := by
  refine congrArg Host.Outcome.next (State.runOp_ends hrun (decide_eq_true harg) hready ?_)
  unfold teachEffect
  simp only [hreader, hfield, hidle, hmode, Option.isSome_none, Bool.not_true, Bool.false_or, bne_self_eq_false,
    Bool.false_eq_true, if_false]
  exact if_pos (bne_iff_ne.2 hn)

theorem exec_teach_waits {tag : Fin 128} {n : Nat} {h : List (List (Int × Int))} (hrun : s.running tag.val 0x21 2 = true)
    (hready : s.ready 0x21 = true) (harg : field ((s.slot tag.val).arg 0) 18 16 ≤ 2) (hreader : s.ready 0x22 = true)
    (hfield : s.hasField = true) (hbusy : s.fld.run.isSome = true ∨ s.coexMode ≠ 0) :
    exec (.teach tag n h) s = .next s := by
  have hwait : (s.fld.run.isSome || s.coexMode != 0) = true := by
    obtain hb | hb := hbusy
    · rw [hb, Bool.true_or]
    · rw [bne_iff_ne.2 hb, Bool.or_true]
  refine congrArg Host.Outcome.next (State.runOp_waits hrun (decide_eq_true harg) hready ?_)
  unfold teachEffect
  simp only [hreader, hfield, hwait, Bool.not_true, Bool.false_eq_true, if_false, if_true]

/-! ### SOLVE -/

theorem State.solveArgs_of {k : Slot} {pts : List Nat}
    (hpts : pts = (List.range 4).filter (field (k.arg 0) 19 16).testBit) (hmask : field (k.arg 0) 15 8 ≠ 0)
    (hlo : 1 ≤ field (k.arg 1) 27 16) (hhi : field (k.arg 1) 27 16 ≤ 2000)
    (hwant : ∃ p, p ∈ pts ∧ flag (s.pointCfg p) 1 = false)
    (htaught : ∀ p, p ∈ pts → flag (s.pointCfg p) 0 = true ∧ field (s.pointCfg p) 15 8 = field (k.arg 0) 15 8)
    (hnull : (pts.filter (fun p => flag (s.pointCfg p) 1)).length < (portsOf (field (k.arg 0) 15 8)).length) :
    s.solveArgs k = true := by
  subst hpts
  have hany : ((List.range 4).filter (field (k.arg 0) 19 16).testBit).any (fun p => !flag (s.pointCfg p) 1) = true := by
    obtain ⟨p, hp, hflag⟩ := hwant
    exact List.any_eq_true.2 ⟨p, hp, by rw [hflag]; rfl⟩
  have hall : ((List.range 4).filter (field (k.arg 0) 19 16).testBit).all
      (fun p => flag (s.pointCfg p) 0 && field (s.pointCfg p) 15 8 == field (k.arg 0) 15 8) = true := by
    refine List.all_eq_true.2 fun p hp => ?_
    obtain ⟨h0, hf⟩ := htaught p hp
    rw [h0, hf, Bool.true_and]
    exact beq_self_eq_true _
  unfold State.solveArgs
  dsimp only
  rw [hany, hall, bne_iff_ne.2 hmask, decide_eq_true hnull, decide_eq_true hlo, decide_eq_true hhi]
  rfl

/-! ### Detection rounds and windows -/

theorem State.lpcdRound_reference {n : Nat} {l : List (Int × Int)} {x : Int × Int} {u : State}
    (hmask : field (s.rg 0x20 0x058) 7 0 = 2 ^ n) (hn : n < 8) (hx : l[n]? = some x)
    (hu : u = s.reach (BitVec.ofNat 64 ((s.now.toNat / 2 ^ (33 - field (s.rg 0x20 0x058) 10 8) + 1) *
      2 ^ (33 - field (s.rg 0x20 0x058) 10 8))))
    (hcoex : s.fld.coex = none) (hride : flag (s.rg 0x05 0x120) 0 = false) (hdepth : s.pwr.depth ≠ .guard)
    (hoff : ∀ j, j < 8 → s.carrierOn j = false) (hready : s.ready 0x20 = true) (hup : s.unavailable .field = false)
    (hdet : flag (s.rg 0x20 0x060) n = false) (href : (s.ant n).ref = none) :
    s.lpcdRound l = u.putAnt n { s.ant n with ref := some (x.1 * 65536, x.2 * 65536) } := by
  have hpos : ¬ 2 ^ n = 0 := Nat.pos_iff_ne_zero.1 (Nat.two_pow_pos n)
  have hcarrier : (List.range 8).any s.carrierOn = false := by
    rw [List.any_eq_false]
    intro j hj
    rw [hoff j (List.mem_range.1 hj)]
    exact Bool.false_ne_true
  have hkept : (List.range 8).any u.carrierOn = (List.range 8).any s.carrierOn ∧ u.fld = s.fld ∧ u.pwr = s.pwr ∧
      (∀ q o, u.rg q o = s.rg q o) ∧ u.ready 0x20 = s.ready 0x20 ∧ u.unavailable .field = s.unavailable .field := by
    rw [hu]
    exact ⟨rfl, rfl, rfl, fun _ _ => rfl, rfl, rfl⟩
  obtain ⟨hcar, hfld, hpwr, hrg, hrdy, hun⟩ := hkept
  have hant : u.ant n = s.ant n := by
    unfold State.ant
    rw [hfld]
  have hguard : (u.pwr.depth == Depth.guard) = false := by
    rw [hpwr]
    exact beq_false_of_ne hdepth
  unfold State.lpcdRound
  dsimp only
  rw [hmask, if_neg hpos, if_neg hpos, ← hu, portsOf_two_pow n hn]
  simp only [hcar, hcarrier, hfld, hcoex, hrg, hride, hguard, hrdy, hready, hun, hup, Option.isSome_none, Bool.or_false,
    Bool.not_true, Bool.false_eq_true, if_false, List.foldl_cons, List.foldl_nil, hx, hdet]
  unfold State.lpcdPort
  simp only [hant, href]

theorem State.lpcdRound_skipped {n j : Nat} {l : List (Int × Int)} {u : State}
    (hmask : field (s.rg 0x20 0x058) 7 0 = 2 ^ n)
    (hu : u = s.reach (BitVec.ofNat 64 ((s.now.toNat / 2 ^ (33 - field (s.rg 0x20 0x058) 10 8) + 1) *
      2 ^ (33 - field (s.rg 0x20 0x058) 10 8)))) (hj : j < 8)
    (hbusy : s.carrierOn j = true ∨ s.fld.coex.isSome = true ∨ s.pwr.depth = .guard) :
    s.lpcdRound l = u.updRg 0x20 0x060 (fun w => satField w 23 16 1) := by
  have hpos : ¬ 2 ^ n = 0 := Nat.pos_iff_ne_zero.1 (Nat.two_pow_pos n)
  have hkept : u.carrierOn = s.carrierOn ∧ u.fld = s.fld ∧ u.pwr = s.pwr := by
    rw [hu]
    exact ⟨rfl, rfl, rfl⟩
  obtain ⟨hcar, hfld, hpwr⟩ := hkept
  have hskip : ((List.range 8).any u.carrierOn || u.fld.coex.isSome || flag (u.rg 0x05 0x120) 0 ||
      u.pwr.depth == Depth.guard) = true := by
    rw [hcar, hfld, hpwr]
    obtain h | h | h := hbusy
    · rw [List.any_eq_true.2 ⟨j, List.mem_range.2 hj, h⟩, Bool.true_or, Bool.true_or, Bool.true_or]
    · rw [h, Bool.or_true, Bool.true_or, Bool.true_or]
    · rw [h, show (Depth.guard == Depth.guard) = true from rfl, Bool.or_true]
  unfold State.lpcdRound
  dsimp only
  rw [hmask, if_neg hpos, if_neg hpos, ← hu, if_pos hskip]

theorem State.coexStart_open {b : Bool} (hch : s.rxChannel.1 ≠ 0) (hres : s.inReset .field = false) :
    s.coexStart none b = s.coexBegin { protect := s.coexJudge.2, start := s.now } b := by
  refine if_neg ?_
  rw [decide_eq_false hch, hres]
  exact Bool.false_ne_true

theorem State.coexStart_scheduled {a e : Stamp} {w : CoexWin} {b : Bool} (hch : s.rxChannel.1 ≠ 0)
    (hres : s.inReset .field = false)
    (hw : w = { scheduled := true, protect := s.coexJudge.2, start := a, stop := some e }) :
    s.coexStart (some (a, e)) b =
      if s.fld.coming != some w && decide (s.now.toNat + usTime 200 ≤ a.toNat) then
        s.updFld (fun f => { f with coming := some w })
      else (s.reach a).coexBegin w b := by
  subst hw
  refine if_neg ?_
  rw [decide_eq_false hch, hres]
  exact Bool.false_ne_true

theorem State.coexStart_off {x : Option (Stamp × Stamp)} {b : Bool} (h : s.rxChannel.1 = 0 ∨ s.inReset .field = true) :
    s.coexStart x b = s := by
  refine if_pos ?_
  rw [Bool.or_eq_true, decide_eq_true_eq]
  exact h

end

/-- Settles O47: the rows of the field front end, by what each shared operation does. -/
theorem fieldFrontEnd : Obligations.FieldFrontEnd := by
  unfold Obligations.FieldFrontEnd
  intro s m v tag k hk
  subst hk
  refine ⟨fun n u hg hu => ?_, fun n hg => ⟨exec_shapeWrite_done hg, exec_shapeWrite_arg hg⟩, fun l hmay hwait => ?_,
    fun l hmay hwait hready hoff => ?_, fun l hmay hwait hsoon hstill => exec_supervisionPass_late hmay hwait hsoon hstill,
    fun l hmay => congrArg Host.Outcome.next (if_neg (by rw [hmay]; exact Bool.false_ne_true)),
    fun l hrun hready => ⟨exec_supervise_ends hrun hready, exec_supervise_waits hrun hready⟩,
    fun n l x hn hx hen hint hfree hwas htrip => s.superviseMask_short hn hx hen hint hfree hwas htrip,
    fun n l x hn hmask hx hrun hready => ⟨exec_matchOp_state hn hmask hrun hready, exec_matchOp_waits hn hmask hrun hready,
      fun hfree hoff hint hmode => ?_⟩,
    fun n p r h hr hp hrun hready harg hreader hfield => ⟨fun hidle hmode hn => ?_,
      exec_teach_medium hrun hready harg hreader hfield, exec_teach_waits hrun hready harg hreader hfield⟩,
    fun pts hrun hready hpts => ⟨fun hmask => ?_, fun hfield hmask hlo hhi hwant htaught hnull => ?_⟩,
    fun n p l x u hmask hn hx hp hu => ?_, fun b a e w hw => ⟨fun hch hres => ⟨?_, fun hcoming hsoon => ?_, fun hcoming => ?_⟩,
      fun h => ⟨congrArg Host.Outcome.next (State.coexStart_off h), congrArg Host.Outcome.next (State.coexStart_off h)⟩⟩,
    ?_, fun tj => ⟨fun hup => ?_, fun hdown => congrArg Host.Outcome.next (if_pos hdown)⟩, ?_,
    fun hvfld => congrArg Host.Outcome.next (if_pos hvfld),
    fun hvfld => congrArg Host.Outcome.next (if_neg (by rw [hvfld]; exact Bool.false_ne_true))⟩
  -- ANT_CFG_WRITE
  · subst hu
    refine ⟨fun hbusy => ?_, fun hfree hcw hfault => ?_, fun hfree hcw => ⟨fun hfits => ?_, fun hover hmore => ?_⟩⟩
    · exact exec_antCfgWrite_refused (by decide) hg (if_pos hbusy)
    · refine exec_antCfgWrite_refused (by decide) hg ?_
      unfold antCfgEffect
      dsimp only
      rw [hfree, flag_antCfg_cw, hcw, hfault]
      rfl
    · refine exec_antCfgWrite_done hg ((antCfgEffect_free hfree hcw).trans (if_neg ?_))
      rw [Bool.and_eq_true, decide_eq_true_eq]
      exact fun h => Nat.not_lt.2 hfits h.1
    · refine exec_antCfgWrite_refused (by decide) hg ((antCfgEffect_free hfree hcw).trans (if_pos ?_))
      rw [Bool.and_eq_true, decide_eq_true_eq, decide_eq_true_eq]
      exact ⟨hover, hmore⟩
  -- SUPERVISION_PASS
  · exact ⟨_, exec_supervisionPass_new hmay hwait, State.superviseMask_supervised _ _ _, (s.newPass_same l).own⟩
  · exact (exec_supervisionPass_new hmay hwait).trans (congrArg Host.Outcome.next (State.newPass_idle hready hoff))
  -- MATCH
  · obtain ⟨t, heff, hsame, htune⟩ := matchEffect_one s hn hmask hx hfree hoff hint hmode
    have hset := t.setResult_same (l := [.ops]) tag.val (if x.off > field (s.rg 0x20 0x044) 31 24 then .medium else .done)
    have hquiet : Quiet (0x048 + 0x20 * n) := ⟨by omega, .inr (by omega)⟩
    refine ⟨_, congrArg Host.Outcome.next (State.runOp_ends hrun rfl hready heff), ?_, ?_, ?_, ?_⟩
    · rw [State.antTune, State.setResult_regs (l := []) t tag.val _ 0x21 _ (by decide) hquiet]
      exact htune
    · rw [State.slot_setResult_self]
    · exact hset.gran.trans hsame.gran
    · exact hset.own.trans hsame.own
  -- TEACH
  · subst hr hp hn
    obtain ⟨t, heff, hsame, hrow, htaught, hmask⟩ := teachEffect_one s (h := h) hreader hfield hidle hmode
    have hset := t.setResult_same (l := [.ops]) tag.val .done
    have hp : field ((s.slot tag.val).arg 0) 1 0 < 4 := field_lt
    have hrg (o : Nat) (ho : 0x040 ≤ o ∧ o < 0x1000) : (t.setResult tag.val .done).rg 0x21 o = t.rg 0x21 o :=
      State.setResult_regs (l := []) t tag.val .done 0x21 o (by decide) ⟨ho.2, .inr ho.1⟩
    have hcfg : (t.setResult tag.val .done).pointCfg (field ((s.slot tag.val).arg 0) 1 0) =
        t.pointCfg (field ((s.slot tag.val).arg 0) 1 0) := hrg _ (by omega)
    refine ⟨_, congrArg Host.Outcome.next (State.runOp_ends hrun (decide_eq_true harg) hready heff), ?_, fun j hj => ?_, ?_, ?_,
      ?_, ?_⟩
    · rw [State.slot_setResult_self]
    · rw [hrg _ (by omega)]
      exact hrow j hj
    · rw [hcfg]
      exact htaught
    · rw [hcfg]
      exact hmask
    · exact hset.gran.trans hsame.gran
    · exact hset.own.trans hsame.own
  -- SOLVE
  · refine congrArg Host.Outcome.next (State.runOp_arg hrun ?_)
    unfold State.solveArgs
    dsimp only
    rw [hmask]
    rfl
  · obtain ⟨t, c, heff, hc, hsame⟩ := solveEffect_ends s (k := s.slot tag.val) hfield
    have hargs := State.solveArgs_of hpts hmask hlo hhi hwant htaught hnull
    have hset := t.setResult_same (l := [.ops]) tag.val c
    refine ⟨_, c, congrArg Host.Outcome.next (State.runOp_ends hrun hargs hready heff), ?_, hc, ?_, ?_, ?_⟩
    · rw [State.slot_setResult_self]
    · exact hset.gran.trans hsame.gran
    · exact hset.own.trans hsame.own
    · exact hset.fld.trans hsame.fld
  -- LPCD_ROUND
  · subst hp
    exact ⟨fun hcoex hride hdepth hoff hready hup hdet href => congrArg Host.Outcome.next
        (State.lpcdRound_reference hmask hn hx hu hcoex hride hdepth hoff hready hup hdet href),
      fun j hj hbusy => congrArg Host.Outcome.next (State.lpcdRound_skipped hmask hu hj hbusy)⟩
  -- COEX_WINDOW_START
  · obtain ⟨hsame, hcoex, -⟩ := s.coexBegin_opens { protect := s.coexJudge.2, start := s.now } b
    exact ⟨_, congrArg Host.Outcome.next (State.coexStart_open hch hres), hcoex, hsame.own, hsame.flash⟩
  · refine congrArg Host.Outcome.next ((State.coexStart_scheduled hch hres hw).trans (if_pos ?_))
    rw [decide_eq_true hsoon, Bool.and_true]
    exact bne_iff_ne.2 hcoming
  · have hreach := s.reach_same a
    obtain ⟨hsame, hcoex, hnone⟩ := (s.reach a).coexBegin_opens w b
    refine ⟨_, congrArg Host.Outcome.next ((State.coexStart_scheduled hch hres hw).trans (if_neg ?_)), hcoex, hnone,
      hsame.own.trans hreach.own, hsame.flash.trans hreach.flash⟩
    rw [hcoming, bne_self_eq_false, Bool.false_and]
    exact Bool.false_ne_true
  -- COEX_WINDOW_END
  · obtain ⟨hsame, hcoex, hflag⟩ := s.coexEnd_closes
    exact ⟨_, rfl, hcoex, hflag, hsame.own, hsame.flash⟩
  -- THERMAL_READ
  · obtain ⟨hsame, hband, htj⟩ := s.thermal_reads tj
    exact ⟨_, congrArg Host.Outcome.next (if_neg (by rw [hup]; exact Bool.false_ne_true)), hband, htj, hsame.own, hsame.flash⟩
  -- VFLD_OUT
  · obtain ⟨hsame, hvfld⟩ := s.vfldDown_drops
    exact ⟨_, rfl, hvfld, hsame.own, hsame.flash⟩

end Sys2Proof.Machine
end

end
